-- ==== Sys2Proof/Word.lean ====
section
/-! DEFINITION. Sys2Proof/Word.lean: the word types of the part and their plainest arithmetic (R5 to R9).
Multi-byte fields are little-endian (R7); bit 0 is the least significant bit (R9). -/
namespace Sys2Proof

/-- One byte of a register, packet, frame or memory. -/
abbrev Byte := BitVec 8
/-- One 32-bit register word (R40). -/
abbrev Word := BitVec 32
/-- A line-time value: the 80-bit "64.16" count in units of 2^-16 ns (R8). -/
abbrev LTime := Nat

/-- Bits `hi` down to `lo` of `v`, written [hi:lo] in the manual (R9). -/
def bitsOf (v hi lo : Nat) : Nat := v / 2 ^ lo % 2 ^ (hi + 1 - lo)
/-- `v` with bits [hi:lo] replaced by `x`. -/
def withBits (v hi lo x : Nat) : Nat :=
  v - bitsOf v hi lo * 2 ^ lo + x % 2 ^ (hi + 1 - lo) * 2 ^ lo
/-- Bit `i` of `v`. -/
def bitAt (v i : Nat) : Bool := v / 2 ^ i % 2 == 1
/-- A 0/1 flag as a number. -/
def flag (b : Bool) : Nat := if b then 1 else 0
/-- `v` as a two's-complement number of `w` bits. -/
def signedOf (w v : Nat) : Int :=
  if v % 2 ^ w < 2 ^ (w - 1) then (v % 2 ^ w : Nat) else ((v % 2 ^ w : Nat) : Int) - (2 ^ w : Nat)
/-- The two's-complement code of `x` in `w` bits (wraps). -/
def codeOf (w : Nat) (x : Int) : Nat := (x % (2 ^ w : Nat)).toNat
/-- `x` held to the interval from `lo` to `hi`. -/
def clampInt (lo hi x : Int) : Int := if x < lo then lo else if hi < x then hi else x

/-- Little-endian number of a byte list (R7). -/
def leNat : List Byte → Nat
  | [] => 0
  | b :: bs => b.toNat + 256 * leNat bs
/-- `n` bytes of `v`, least significant first (R7). -/
def leBytes : Nat → Nat → List Byte
  | 0, _ => []
  | n + 1, v => BitVec.ofNat 8 v :: leBytes n (v / 256)
/-- The little-endian field of `n` bytes at offset `o`; bytes past the end read as 0. -/
def fieldAt (bs : List Byte) (o n : Nat) : Nat := leNat ((bs.drop o).take n)
/-- `n` zero bytes. -/
def zeros (n : Nat) : List Byte := List.replicate n 0
/-- `bs` cut or padded with zero bytes to length `n`. -/
def padTo (n : Nat) (bs : List Byte) : List Byte := (bs ++ zeros (n - bs.length)).take n
/-- `bs` with the bytes from offset `o` replaced by `x`. -/
def spliceAt (bs : List Byte) (o : Nat) (x : List Byte) : List Byte :=
  padTo o bs ++ x ++ bs.drop (o + x.length)
/-- Increment that saturates at 2^w - 1 (counters saturate). -/
def satAdd (w v n : Nat) : Nat := min (v + n) (2 ^ w - 1)

end Sys2Proof
end

