-- ==== Sys2Proof/Syntax.lean ====
section
/-! DEFINITION. Sys2Proof/Syntax.lean: the commands the part takes, one constructor per row of the opcode table, with the
operands the world outside the part supplies: packet bytes, frame bytes, pin levels, answers of host memory and of drives.
A command acts at the part's present line time (R120); an operand carries a time only where the manual stamps it elsewhere. -/
namespace Sys2Proof

/-- The security extension entry of an authenticated packet (R399): packet counter and 16-byte GCM tag. -/
structure SecEntry where
  counter : Nat
  tag : List Byte
  deriving DecidableEq, Repr

/-- What the error check of an SRAM finds (R38): nothing, a single-bit error (corrected), a double-bit error in the axis area, or one in another
SRAM, by the number of SRAM_DOUBLE_ERROR less 1 (R56: 1 engine SRAM outside the axis area, 2 trace, 3 service, 4 network buffers; byte offset). -/
inductive SramCheck where
  | clean
  | corrected
  | axisArea
  | word (memory : Fin 4) (offset : BitVec 32)
  deriving DecidableEq, Repr

/-- A feedback input (R231, R243): the level of its pin, and the level that its filter has accepted. -/
structure FbLevel where
  pin : Bool
  level : Bool
  deriving DecidableEq, Repr

/-- What a read of host memory answers: the bytes, or none when PCIe answers with an error (R387). -/
abbrev HostRead := Option (List Byte)

/-- A command packet as fetched (R398): submission ring, header fields, parameter bytes from packet byte 22 on with the
extension bytes after byte 63 (ciphertext when authenticated), security entry, and what host memory answers at the address the packet names. -/
structure Packet where
  sq : Fin 64
  tag : BitVec 16
  flags : BitVec 8
  len : BitVec 8
  session : BitVec 16
  execAt : BitVec 80
  tol : BitVec 32
  par : List Byte
  sec : Option SecEntry
  host : HostRead
  deriving DecidableEq, Repr

/-- What the typed sections of a configuration package hold (R450); `digests` is the list of generation digests (R410). -/
structure Package where
  bytes : List Byte
  fwClass : Nat
  index : Nat
  lineRank : Nat
  ppsAlign : Bool
  working : Nat
  dormant : Option Nat
  images : List (List Byte)
  digests : List (List Byte)
  safetySet : List Byte
  axisWords : List (Nat × Word)
  settings : List (Nat × Word)
  cams : List (Nat × List Byte)
  dramCapture : Nat
  dramStock : Nat
  dramSpill : Nat
  dramHost : Nat
  groupAuth : Nat
  credentials : List (List Byte × Nat)
  partner : Option Nat
  founding : Bool
  listenMs : Nat
  joinMs : Nat
  deriving DecidableEq, Repr, Inhabited

/-- A task that firmware creates at Configure (R415): number, priority, affinity, wait mask and mode, timer period in µs, and whether it is the
page-fault handler. -/
structure FwTask where
  num : Fin 128
  prio : Fin 16
  affinity : BitVec 6
  mask : Word
  all : Bool
  period : Option Nat
  handler : Bool
  deriving DecidableEq, Repr

/-- A paged context that firmware builds at Configure (R428 to R430): context, L1 table base, demand region, free pages of its pool, and the
table entries written to DRAM with their addresses. -/
structure MmuSetup where
  ctx : Nat
  l1 : Nat
  demand : Bool
  pool : List Nat
  table : List (Nat × Nat)
  deriving DecidableEq, Repr

/-- What a logged input does when it enters the law (R20, R296). -/
inductive LogAct where
  | mode (target : Nat)
  | duty (fn value : Nat)
  | schedule (image : List Byte)
  | activate (gen : Nat) (at_ : Option (LTime × Nat))
  | grant (seg pos pitch : Nat) (req : List Byte)
  | refuse (seg pos result : Nat) (req : List Byte)
  | revoke (seg pitch cause : Nat) (req : List Byte)
  | fence (seg pos : Nat) (release auto : Bool)
  | commit (unit : Nat) (words : List (Nat × Word))
  | commitAxes (axes : List Nat) (words : List (Nat × Word))
  | enable (first last : Nat) (reset : Bool)
  | disable (first last : Nat)
  | move (axis : Nat) (target : Int) (phases : List (Nat × Nat))
  | jog (axis vt : Nat)
  | gear (axis num den : Nat)
  | cam (table : Nat) (bytes : List Byte)
  | stream (law : Bool) (first count valid : Nat) (data : List Byte)
  | stopGroup (mask : Nat) (release : Bool) (cause axis : Nat)
  | identify (axis : Nat) (params : List Byte)
  | configReg (ch : Nat) (params : List Byte)
  | fbSample (ch : Nat) (data : List Byte)
  | masters (entries : List Byte)
  | regRequest (ch : Nat) (ereg : Int) (seq : Nat)
  | wake (t : LTime)
  | permit (kind back : Nat)
  | calib (record : List Byte)
  deriving DecidableEq, Repr

/-- What a CONTROL frame of the mirror carries (R292, R301, R308, R310): a self-test demand with the group, kind and cycle of the divergence, a
self-test result, a demanded resynchronisation, a lost log, the end of a resynchronisation, a proved path, RESYNC_STANDBY clearing PAIR_FAULT (R309), and
a path that failed a drill (R311). -/
inductive MirControl where
  | selfTest (group kind cycle : Nat)
  | result (ok : Bool)
  | resync (full bulk : Bool)
  | logLost (cycle : Nat)
  | synced
  | proved (path : Nat)
  | clearFault
  | failed (path : Nat)
  deriving DecidableEq, Repr

/-- A part of the bulk image (R307): live parameter words, a loaded table with its place, CE_CTRL, the duty modes, a registration channel's
configuration, the fenced positions of a segment, a pitch with its register word and its holder's identity, a generation image. -/
inductive BulkPart where
  | words (ws : List (Nat × Word))
  | cam (table offset : Nat) (bytes : List Byte)
  | ceCtrl (w : Word)
  | duty (flags : Nat)
  | registration (ch seq : Nat) (params : List Byte)
  | fences (seg positions : Nat)
  | pitch (seg k word : Nat) (identity : List Byte)
  | active (image : List Byte)
  | pending (image : List Byte)
  deriving DecidableEq, Repr

/-- The commands and events of the opcode table (spec/opcode_table.json), one constructor per row, in the table's order. -/
inductive Instr where
  /-- MAIN_SUPPLY_LOSS (R45): The main supply falls below its power-on threshold while VBAT is present, so the controller enters Backup and the tally records the cause. -/
  | mainSupplyLoss
  /-- MAIN_SUPPLIES_VALID (R45): The main supplies become valid in Backup, so the controller enters Reset and the release sequence starts. -/
  | mainSuppliesValid
  /-- BACKUP_POR (R494): The backup domain supply rises from below 1.6 V, which clears everything, tally and RTC included. -/
  | backupPor
  /-- MAIN_POR (R494): VDD_CORE, VDD_SRAM and VDDIO0 become valid from off, which resets all but the backup domain. -/
  | mainPor
  /-- BROWN_OUT (R489): A main supply monitor stays below its valid threshold for at least 2 µs while running, which causes a main reset. -/
  | brownOut
  /-- RESET_N (R495): RESET_N is held low through 20 consecutive 25 MHz samples, and the controller resets while the pin stays low. -/
  | resetN (low : Bool)
  /-- WATCHDOG_EXPIRY (R496): The hardware watchdog expires without a refresh and resets the controller. -/
  | watchdogExpiry
  /-- SECURITY_VIOLATION (R444): A supply glitch, clock fault, fuse parity error, PUF failure or integrity error resets the controller, which then boots into Sealed. -/
  | securityViolation (code : Fin 5)
  /-- PCIE_HOT_RESET (R497): A hot reset or link disable from the host acts as a Function Level Reset, or as a full reset when HOT_ACTION is 1. -/
  | pcieHotReset
  /-- DEBUG_RESET (R494): A reset through the debug port of an open scope resets all but the backup domain. -/
  | debugReset
  /-- RESET_RELEASE (R500): Once the last reset source has gone, the release sequence runs: always-on domain, PLL lock, fuses and PUF, SRAM scrub, and then the boot ROM. -/
  | resetRelease (straps : BitVec 3) (vmon : BitVec 17) (levels : BitVec 8) (refs : BitVec 4) (passed : BitVec 3) (sec : BitVec 48) (sub : BitVec 15)
  /-- BOOT_COMPLETE (R446): Firmware verification by the boot ROM ends: on success the firmware starts, reads the ledger and enters Configure; otherwise the controller enters Sealed. -/
  | bootComplete (aOk bOk : Bool) (bad : Option Nat) (torn : BitVec 32) (outBad : BitVec 8) (copyBad : BitVec 3) (r1 r2 : BitVec 16) (tasks : List FwTask) (classes : List (Fin 4))
  /-- DRAM_TRAINED (R501): DRAM training completes in Configure, DRAM_READY is set and the DRAM partition check runs. -/
  | dramTrained (gib : Fin 33) (ctxs : List MmuSetup)
  /-- GET_INFO (R405): The command returns the identity, revision and capacity information page that it names. -/
  | getInfo (p : Packet)
  /-- SET_MODE (R46): The command requests a transition to Configure, Ready, Run, Dormant or Service under the transition table of R45. -/
  | setMode (p : Packet)
  /-- GET_MODE (R405): The command returns SYS_MODE, SYS_MODE_CAUSE and SYS_MODE_TIME. -/
  | getMode (p : Packet)
  /-- RESET_DEVICE (R405): The command writes its completion and resets the controller 1 ms later, after committing open ledger transactions. -/
  | resetDevice (p : Packet)
  /-- RESET_BLOCK (R406): The command returns one idle block to its reset values within 10 µs. -/
  | resetBlock (p : Packet)
  /-- READ_TALLY (R499): The command writes the 64-byte tally image to host memory. -/
  | readTally (p : Packet)
  /-- CLEAR_TALLY (R499): The authenticated command clears the selected tally counters and, with bit 15, the last-cause record. -/
  | clearTally (p : Packet)
  /-- SET_DUTY_MODE (R34): The logged command switches one function between hardware mode and host-assisted mode at the next cycle boundary. -/
  | setDutyMode (p : Packet)
  /-- HEARTBEAT (R408): The command sets the host heartbeat timeout, restarts the heartbeat and clears HOST_LOST. -/
  | heartbeat (p : Packet)
  /-- HOST_HEARTBEAT_LAPSE (R408): No HEARTBEAT is accepted within the timeout, so HOST_LOST is set and the host-loss policy acts. -/
  | hostHeartbeatLapse
  /-- PCIE_LINK_DOWN (R408): The PCIe link goes down, which counts at once as a lapse of the host. -/
  | pcieLinkDown
  /-- PERST_N (R497): PERST_N low acts on the endpoint as a Function Level Reset and holds the PCIe link down. -/
  | perstN (low : Bool)
  /-- FUNCTION_LEVEL_RESET (R386): A Function Level Reset disables every ring, closes every session, cancels held scheduled packets and deletes host jobs, and leaves the motion side unchanged. -/
  | functionLevelReset
  /-- WAKE_EVENT (R53): An enabled wake event in Dormant is logged, and the working generation becomes active at the first suitable dormant bell. -/
  | wakeEvent (src : Fin 4)
  /-- CHANNEL_ENABLE (R63): Setting a channel enable takes the hop from DISABLED to DOWN, and its transmitter sends idle blocks at 1.25 Gbit/s. -/
  | channelEnable (n : Fin 10) (c : Fin 2)
  /-- CHANNEL_DISABLE (R63): Clearing a channel enable takes the hop from any state to DISABLED and electrical idle. -/
  | channelDisable (n : Fin 10) (c : Fin 2)
  /-- RENEGOTIATE (R71): A write of RENEGOTIATE reruns segment bring-up from step 1 in Configure or Service, and is ignored in the synchronised modes. -/
  | renegotiate (n : Fin 10)
  /-- SIGNAL_DETECTED (R63): The receiver detects a signal in DOWN, the hop enters DETECT, and CDR and block lock start. -/
  | signalDetected (n : Fin 10) (c : Fin 2)
  /-- BLOCK_LOCK_GAINED (R63): After 64 valid sync headers the hop enters NEGOTIATE and sends a capability every 10 µs. -/
  | blockLockGained (n : Fin 10) (c : Fin 2)
  /-- BLOCK_LOCK_LOST (R63): Lock is lost after 16 invalid sync headers within 64 blocks, the hop goes DOWN, the drop is counted and a hop report is sent. -/
  | blockLockLost (n : Fin 10) (c : Fin 2)
  /-- DETECT_TIMEOUT (R63): DETECT has lasted 2 ms without block lock, so the hop returns to DOWN and retries after 10 ms. -/
  | detectTimeout (n : Fin 10) (c : Fin 2)
  /-- CAPABILITY (R63): A capability message is received: a compatible and acknowledged exchange leads to MEASURE, and an incompatible one to DOWN with NEG_FAIL. -/
  | capability (n : Fin 10) (c : Fin 2) (m : List Byte)
  /-- NEGOTIATE_TIMEOUT (R63): 1 ms passes without an acknowledged exchange, so the attempt is counted, and the third attempt ends in DOWN. -/
  | negotiateTimeout (n : Fin 10) (c : Fin 2)
  /-- DELAY_REQUEST (R72): The downstream end receives a delay request and answers it with its turnaround time. -/
  | delayRequest (n : Fin 10) (c : Fin 2) (m : List Byte) (turn : BitVec 48)
  /-- DELAY_RESPONSE (R72): The requester receives a delay response and accumulates one exchange. After 256 exchanges it stores the hop delay and enters UP. -/
  | delayResponse (n : Fin 10) (c : Fin 2) (m : List Byte) (rtt : BitVec 80)
  /-- MEASURE_TIMEOUT (R63): 5 ms pass in MEASURE: with at least 16 exchanges the hop enters UP with STALE set, otherwise it goes DOWN. -/
  | measureTimeout (n : Fin 10) (c : Fin 2)
  /-- RATE_ORDER (R63): A rate order is received, forwarded unless hop-local, and the hop enters RETRAIN. -/
  | rateOrder (n : Fin 10) (c : Fin 2) (m : List Byte)
  /-- RETRAIN_EXPIRY (R63): 1 ms after a rate order the hop goes DOWN, and its transmitter switches to the ordered rate. -/
  | retrainExpiry (n : Fin 10) (c : Fin 2)
  /-- LINK_RETRY_EXPIRY (R63): The 10 ms retry wait ends, and the hop tries to come up again. -/
  | linkRetryExpiry (n : Fin 10) (c : Fin 2)
  /-- RATE_FALLBACK_EXPIRY (R64): A hop has not reached UP within 20 ms after a rate order, so it returns to 1.25 Gbit/s. -/
  | rateFallbackExpiry (n : Fin 10) (c : Fin 2)
  /-- HOP_REPORT (R66): A hop report is received at the controller and updates the hop table and the discovery count. -/
  | hopReport (n : Fin 10) (c : Fin 2) (m : List Byte) (other : Option (Fin 64))
  /-- DISCOVERY_TIMEOUT (R66): 300 ms after the channel enables, discovery ends, the segment rate is computed and a rate order is sent. -/
  | discoveryTimeout (n : Fin 10)
  /-- RATE_ORDER_TIMEOUT (R66): A hop fails to reach UP within 20 ms of a rate order, so the next lower rate is ordered. -/
  | rateOrderTimeout (n : Fin 10)
  /-- TAIL_WAIT_EXPIRY (R69): The tail end has heard nothing from the head end for 500 ms, so it runs segment bring-up for the hops it reaches. -/
  | tailWaitExpiry (n : Fin 10)
  /-- HOP_REMEASURE (R74): A periodic remeasurement of a hop delay, at least once per 100 ms, updates the hop table and may set STALE. -/
  | hopRemeasure (n : Fin 10) (c : Fin 2) (h : Fin 65) (v : Word)
  /-- LANE_RECAL_DUE (R76): A lane recalibration falls due on temperature drift or eye margin, and firmware starts it in an open window or in Service. -/
  | laneRecalDue (n : Fin 10) (c : Fin 2)
  /-- LANE_RECAL_DONE (R76): A lane recalibration completes, and the lane carries frames again. -/
  | laneRecalDone (n : Fin 10) (c : Fin 2)
  /-- ASYNC_FRAME_TIMEOUT (R75): An asynchronous frame has waited 1 ms for its lane, so it completes with BUSY and is counted. -/
  | asyncFrameTimeout (n : Fin 10)
  /-- CYCLE_BOUNDARY (R79): At the reference instant of a bell, committed inputs go live, pending generations activate and the new cycle begins. -/
  | cycleBoundary
  /-- BELL_RECEIVED (R99): A bell is received, the highest-ranked valid one is selected, and the permit fields and line-time offset are taken from it. -/
  | bellReceived (n : Fin 10) (c : Fin 2) (rx : BitVec 80) (bytes : List Byte)
  /-- BACKUP_BELL_WAIT (R100): A backup master of rank k receives no higher-ranked bell by t_ref + W_k, so it sends its own bell. -/
  | backupBellWait (n : Fin 8)
  /-- JOIN_LISTEN_EXPIRY (R102): The listen time of Join ends without a valid bell, so the controller founds the line if allowed or keeps waiting until the join limit. -/
  | joinListenExpiry
  /-- SILENT_CYCLE_END (R102): A founding controller has observed one silent cycle, sets line time and opens cycle 0. -/
  | silentCycleEnd
  /-- JOIN_LIMIT_EXPIRY (R102): JOIN_LIMIT expires without a valid cycle, so JOIN_FAILED is posted and the controller returns to Configure. -/
  | joinLimitExpiry
  /-- NODE_FRAME (R104): A node frame copy arrives in its receive window and is checked, selected between channels A and B, or compared with the other copy. -/
  | nodeFrame (n : Fin 8) (c : Fin 2) (sof : BitVec 80) (bytes : List Byte)
  /-- SEGMENT_FAULT_CLEAR (R105): A W1C write to NLS_SEG_FAULT.SEGMENT_FAULT clears it, and SYS_COND.SEGMENT_FAULT when no other segment holds it. -/
  | segmentFaultClear (n : Fin 8)
  /-- RECEIVE_WINDOW_CLOSE (R104): Both receive windows of a slot close, and the slot is classed as silent, single-channel or taken. -/
  | receiveWindowClose (n : Fin 8) (slot : Fin 768)
  /-- PITCH_CLAIM (R112): A pitch claim arrives in the claim slot, and firmware grants a fitting pitch, refuses the claim, or posts it to the host. -/
  | pitchClaim (n : Fin 8) (pos : Fin 64) (req : List Byte)
  /-- SCHEDULE_REQUEST (R97): A node asks in the claim slot for a generation that it does not hold, and is sent its schedule parts. -/
  | scheduleRequest (n : Fin 8) (pos : Fin 64)
  /-- LEAVE_REQUEST (R113): A pitch holder asks to leave, and its pitch is released and vacant two cycles after logging. -/
  | leaveRequest (n : Fin 8) (pos : Fin 64) (req : List Byte)
  /-- GENERATION_ACKNOWLEDGE (R94): A node acknowledges a pending generation, and its bit in NLS_GEN_ACK is set. -/
  | generationAcknowledge (n : Fin 8) (pos : Fin 64) (gen : BitVec 16)
  /-- PITCH_SILENCE (R113): A pitch holder has been silent on both channels for 1,000 cycles, so the pitch is released. -/
  | pitchSilence (n : Fin 8) (pitch : Fin 32)
  /-- INPUT_LOG_CLOSE (R21): At the start of the downlink phase the cycle input log closes and is sent to the partner. -/
  | inputLogClose
  /-- MS_LOG_CLOSE (R23): Outside the synchronised modes the input log closes at each whole millisecond, and logged inputs take effect at that instant. -/
  | msLogClose
  /-- DOWNLINK_SLOT (R89): The controller sends the segment's downlink frame at its slot time, with each axis record taken at its deadline. -/
  | downlinkSlot (n : Fin 8)
  /-- GUARD_START (R117): At the start of the guard the time servo runs, trace samples are written and the cycle's events are written to the host ring. -/
  | guardStart
  /-- SCHEDULED_PACKET_DUE (R141): A held scheduled packet reaches its execute-at time and is dispatched within 1 µs under the lateness rule. -/
  | scheduledPacketDue
  /-- TRUNK_STATUS_FRAME (R129): A line-time status frame is received on a trunk, and the controller ranks the sources and follows the best one or becomes the origin. -/
  | trunkStatusFrame (trunk : Fin 2) (payload : List Byte)
  /-- HOLDOVER_ENTERED (R130): No valid source has been seen for HOLDOVER_CYCLES, so the controller enters holdover on its last RATE. -/
  | holdoverEntered
  /-- ORIGIN_TAKEOVER (R130): A controller of line rank k stays in holdover for 64 × k more cycles, becomes the origin and clears holdover. -/
  | originTakeover
  /-- TRUNK_MASTER_FRAME (R131): A frame of shared master positions is received on a trunk and logged for use as trunk masters. -/
  | trunkMasterFrame (payload : List Byte)
  /-- PPS_EDGE (R134): A PPS_IN rising edge is time-stamped, φ is computed, and an aligned origin steers towards it. -/
  | ppsEdge
  /-- PPS_LOST (R134): 3 s pass without a PPS edge, so PPS_LOST is posted and the last RATE is kept. -/
  | ppsLost
  /-- WHOLE_SECOND_TICK (R135): At each whole second of line time PPS_OUT goes low when enabled, and line time is written to the RTC. -/
  | wholeSecondTick
  /-- PPS_OUT_WIDTH_END (R135): OUT_WIDTH ms after the second, PPS_OUT returns high. -/
  | ppsOutWidthEnd
  /-- ASYNC_FRAME_SENT (R136): A SEND_ASYNC frame leaves its port, and with the time-stamp flag it pushes a transmit time-stamp entry. -/
  | asyncFrameSent (port : Fin 10) (chanB : Bool) (tag slot : BitVec 16)
  /-- TXTS_POP (R136): A read of LTM_TXTS_ENTRY3 pops the transmit time-stamp queue. -/
  | txtsPop
  /-- LTM_RATE_WRITE (R125): Under HA_TIME a host write to LTM_RATE is clamped and stays in force until it is rewritten. -/
  | ltmRateWrite (v : Word)
  /-- EVO_FIRING (R142): A timed output reaches its firing instant, drives its pin low for WIDTH and/or starts ADC conversions. -/
  | evoFiring (n : Fin 16)
  /-- EVO_PULSE_END (R142): WIDTH ns after a firing the output pin returns high. -/
  | evoPulseEnd (n : Fin 16)
  /-- EVO_APPLY (R143): A write to EVO_APPLY commits an output's fields at the next boundary after its pair rules are checked. -/
  | evoApply (mask : BitVec 16)
  /-- EVO_CANCEL (R144): A write to EVO_CANCEL cancels outputs at once and sets their MODE to 0. -/
  | evoCancel (mask : BitVec 16)
  /-- LANE_START (R156): A lane is free and the next entry of its sequence is ready, so it starts computing that axis. -/
  | laneStart (lane : Fin 32)
  /-- AXIS_COMPUTATION_DONE (R195): An axis computation completes, and its state, outputs, flags and checks are written. -/
  | axisComputationDone (lane : Fin 32) (cycles : Fin 361) (sram : SramCheck)
  /-- AXIS_DEADLINE (R163): An axis has not completed at its deadline, so it is abandoned, a held record is sent and the miss is counted. -/
  | axisDeadline (axis : Fin 512)
  /-- LANE_ERROR (R173): A residue check detects an error, the axis is abandoned, and LANE_ERROR is posted. -/
  | laneError (lane : Fin 32)
  /-- LANE_SELFTEST (R174): A self-test chunk runs on a lane that has finished its sequence, and the lane's result is recorded in CE_SELFTEST. -/
  | laneSelftest (lane : Fin 32) (whole ok : Bool)
  /-- CE_APPLY (R172): A write to CE_APPLY logs a commit of CE_CTRL that takes effect at the boundary. -/
  | ceApply
  /-- LOAD_SCHEDULE (R94): The command checks a generation image, places it in the shadow copy and sends schedule parts to the nodes. -/
  | loadSchedule (p : Packet)
  /-- ACTIVATE_GENERATION (R95): The command checks the schedule and engine rules, is logged, and activates the pending generation after a countdown of bells. -/
  | activateGeneration (p : Packet)
  /-- GET_SEGMENT_STATUS (R409): The command returns a port's link status, schedule status and present-position map. -/
  | getSegmentStatus (p : Packet)
  /-- GRANT_PITCH (R112): In host-assisted mode the host grants or refuses a posted pitch claim, which is logged. -/
  | grantPitch (p : Packet)
  /-- REVOKE_PITCH (R113): The command releases a held pitch, which is logged. -/
  | revokePitch (p : Packet)
  /-- SEND_ASYNC (R409): The command queues an asynchronous management frame on a port and waits for its reply. -/
  | sendAsync (p : Packet)
  /-- GET_LINK_STATS (R409): The command writes a port's link, schedule, hop and position registers to host memory. -/
  | getLinkStats (p : Packet)
  /-- FENCE_NODE (R109): The command fences or releases a position, which is logged. -/
  | fenceNode (p : Packet)
  /-- CONFIGURE_AXIS (R411): The command copies host data into an axis's shadow parameter window. -/
  | configureAxis (p : Packet)
  /-- COMMIT_AXES (R170): The command checks the pair and engine rules, captures the shadow copies into the log and makes them live together. -/
  | commitAxes (p : Packet)
  /-- ENABLE_AXIS (R199): The logged command enables a range of axes, or resets their faults with its flag. -/
  | enableAxis (p : Packet)
  /-- DISABLE_AXIS (R199): The logged command clears ENABLED at once for a range of axes. -/
  | disableAxis (p : Packet)
  /-- MOVE_PROFILE (R187): The command plans a phase list for a position move, or sets a jog target, and logs it. -/
  | moveProfile (p : Packet)
  /-- SET_GEAR (R186): The command makes a gear ratio and gear mode live for one axis as a logged one-axis commit. -/
  | setGear (p : Packet)
  /-- LOAD_CAM (R190): The command places a cam table first-fit in the table area and logs it. -/
  | loadCam (p : Packet)
  /-- STREAM_SETPOINTS (R192): The command logs one batch of host setpoints or host law values for up to 64 axes. -/
  | streamSetpoints (p : Packet)
  /-- STOP_GROUP (R201): The command orders or releases the controlled stop of stop groups. -/
  | stopGroup (p : Packet)
  /-- READ_AXIS_STATE (R411): The command writes a coherent copy of an axis's live parameters and/or state to host memory. -/
  | readAxisState (p : Packet)
  /-- START_TRACE (R221): The command commits a trace unit's registers and starts it at the next boundary. -/
  | startTrace (p : Packet)
  /-- STOP_TRACE (R221): The command stops the trace units of a mask at the next boundary. -/
  | stopTrace (p : Packet)
  /-- UCMD_START (R218): A write of TRC_UCMD.START starts a unit as START_TRACE does, and a failure sets REFUSED. -/
  | ucmdStart (unit : Fin 4)
  /-- UCMD_STOP (R218): A write of TRC_UCMD.STOP stops a unit as STOP_TRACE does. -/
  | ucmdStop (unit : Fin 4)
  /-- MON_APPLY (R213): A write of TRC_MON_CTRL.APPLY commits the inertia monitor entries after a budget check. -/
  | monApply
  /-- IDENTIFY_AXIS (R222): The command starts the identification pattern of logged jog targets on one axis. -/
  | identifyAxis (p : Packet)
  /-- IDENTIFY_HOLD_EXPIRY (R223): An identification target has been held for HOLD, so the next target is logged or the fit is solved. -/
  | identifyHoldExpiry
  /-- FB_INPUT_EDGE (R231): A filtered edge is accepted on a feedback input, time-stamped and counted, and the speed estimator is updated. -/
  | fbInputEdge (n : Fin 4) (a b c : FbLevel)
  /-- FB_SAMPLE_INSTANT (R239): At a sample instant the count window and speed are evaluated, and the holder logs the channel sample. -/
  | fbSampleInstant
  /-- FB_APPLY (R244): A write to FB_APPLY commits a channel's configuration after its rules are checked. -/
  | fbApply (mask : BitVec 4)
  /-- FB_PRESET (R232): A write of FB_PRESET_HI loads the count at once, unless an enabled axis uses the channel. -/
  | fbPreset (n : Fin 4) (hi : Word)
  /-- FB_EDGE_POP (R242): A read of FB_EDGE3 pops an edge record. -/
  | fbEdgePop (n : Fin 4)
  /-- TRIGGER_EDGE (R248): An accepted trigger edge is stamped by the TDC, queued, and offered to capture units and registration channels. -/
  | triggerEdge (n : Fin 16) (rising : Bool) (c : Fin 224) (held : Bool)
  /-- TDC_STAMP_POP (R279): A read of TDC_IN_TS3 pops a trigger stamp. -/
  | tdcStampPop (n : Fin 16)
  /-- TDC_TABLE_DONE (R250): A code-density calibration table completes and replaces the old one at a cycle boundary. -/
  | tdcTableDone (n : Fin 16) (hits : List Nat)
  /-- TDC_APPLY (R279): A write to TDC_APPLY commits an input's TDC_IN_CTRL. -/
  | tdcApply (mask : BitVec 16)
  /-- ADC_START (R252): A conversion start instant arrives, and the converters sample. -/
  | adcStart
  /-- ADC_RESULT (R253): A conversion completes, its mean and scaled value are formed, and the threshold is checked. -/
  | adcResult (k : Fin 8) (code : BitVec 18)
  /-- ADC_APPLY (R280): A write to ADC_APPLY commits the ADC fields at the next boundary. -/
  | adcApply
  /-- CAPTURE_ARM_TIME (R257): An arm-at time is reached, and the unit enters PRE with its ring restarted. -/
  | captureArmTime (u : Fin 16)
  /-- CAPTURE_SAMPLE (R255): A capture unit takes a sample into its ring and advances through PRE, ARMED or POST. -/
  | captureSample (u : Fin 16) (damaged : Bool)
  /-- CAPTURE_TRIGGER (R257): A trigger reaches a capture unit, which triggers or counts the trigger as lost. -/
  | captureTrigger (u : Fin 16)
  /-- RECORD_BUFFER_GRANT (R260): A unit in DEAD requests a record buffer, and is granted one or retries when a buffer frees. -/
  | recordBufferGrant
  /-- RECORD_COPIED (R257): A record has been copied out of the ring, and the unit re-arms or returns to IDLE. -/
  | recordCopied (u : Fin 16)
  /-- ACQ_APPLY (R261): A write to ACQ_APPLY commits an idle unit's fields after its rules are checked. -/
  | acqApply (mask : BitVec 16)
  /-- CONFIG_CAPTURE_UNIT (R261): The command loads and commits a capture unit's registers and descriptors. -/
  | configCaptureUnit (p : Packet)
  /-- ARM (R272): The command arms capture units, for a group through arm frames, at once or at an arm-at time. -/
  | arm (p : Packet)
  /-- DISARM (R257): The command returns units to IDLE, and a fill in POST ends early. -/
  | disarm (p : Packet)
  /-- FORCE_FIRE (R256): The command triggers units at its acceptance time, optionally as a group fire. -/
  | forceFire (p : Packet)
  /-- LOAD_MASK (R263): The command loads a mask table into the capture partition. -/
  | loadMask (p : Packet)
  /-- CONFIG_REGISTRATION (R266): The logged command configures a registration channel and zeroes C and PEND of its axis. -/
  | configRegistration (p : Packet)
  /-- CALIBRATE_TRIGGER_PATHS (R250): The command calibrates TDC tables and/or TBUS delays of the named inputs. -/
  | calibrateTriggerPaths (p : Packet)
  /-- ARM_FRAME (R272): A group arm frame arrives over a trunk, arms the group's units and is forwarded once. -/
  | armFrame (trunk : Fin 2) (payload : List Byte)
  /-- FIRE_FRAME (R274): A group fire arrives, is applied to the units by their state and is forwarded when it is the earliest fire. -/
  | fireFrame (trunk : Fin 2) (payload : List Byte)
  /-- DISARM_FRAME (R272): A group disarm frame arrives, disarms the units and is forwarded. -/
  | disarmFrame (trunk : Fin 2) (payload : List Byte)
  /-- TBUS_FRAME (R276): A TBUS frame is received, parity-checked and applied as an arm, fire, disarm, calibration or sync. -/
  | tbusFrame (rx : BitVec 80) (bits : BitVec 32)
  /-- TBUS_CALIBRATION (R277): A background TBUS delay calibration runs every 10 s while the bus is idle. -/
  | tbusCalibration (meas : Option (Nat × Nat))
  /-- REGISTRATION_REQUEST_READY (R268): 500 ns after a trigger mark and its next edge, the mark position and correction are computed and the holder logs the request. -/
  | registrationRequestReady (r : Fin 32)
  /-- HELLO_FRAME (R293): A mirror HELLO is received, used for delay exchange, and checked for compatibility. -/
  | helloFrame (lane : Fin 2) (bytes : List Byte)
  /-- MIRROR_SILENCE_TIMEOUT (R291): No valid mirror frame has arrived for 1 ms, or both lanes have lost lock, so the mirror is down. -/
  | mirrorSilenceTimeout
  /-- LEASE_FRAME (R294): The standby receives a LEASE frame, which renews the lease and announces handovers. -/
  | leaseFrame (lane : Fin 2) (bytes : List Byte)
  /-- LEASE_EXPIRY (R286): At a bell the missing-renewal count reaches LEASE_H, so the standby takes the permit unless the fence blocks it. -/
  | leaseExpiry
  /-- LOG_FRAME (R296): The standby receives log entries and applies them to its own law. -/
  | logFrame (lane : Fin 2) (hdr : List Byte) (ok : Bool) (entries : List (Nat × LogAct))
  /-- SUMMARY_FRAME (R297): The holder receives the standby's feedback summary of a segment, forms correction entries and sends them. -/
  | summaryFrame (lane : Fin 2) (hdr : List Byte) (ok : Bool) (seg : Fin 8) (crcs : List (Option Nat))
  /-- CORRECTION_FRAME (R297): The standby replaces its inputs as the correction demands and recomputes the affected axes. -/
  | correctionFrame (lane : Fin 2) (hdr : List Byte) (ok : Bool) (seg : Fin 8) (missing : BitVec 64) (full : List (Nat × List Byte))
  /-- DIGEST_FRAME (R298): The standby compares the group digests and the group block with its own. -/
  | digestFrame (lane : Fin 2) (hdr : List Byte) (ok : Bool) (digests : List Nat) (latched : BitVec 16)
  /-- SLICE_FRAME (R300): The standby compares a state slice with its snapshot, or loads it during a sweep. -/
  | sliceFrame (lane : Fin 2) (hdr : List Byte) (ok : Bool) (data : List Byte)
  /-- REPORT_FRAME (R310): The holder receives the standby's report of log acknowledgements, proofs and divergence notices. -/
  | reportFrame (lane : Fin 2) (hdr : List Byte) (ok : Bool) (proofs : BitVec 18) (notice : Option (Nat × Nat))
  /-- BULK_FRAME (R307): The standby receives part of the bulk image and starts the sweep when the image is complete. -/
  | bulkFrame (lane : Fin 2) (hdr : List Byte) (ok : Bool) (parts : List BulkPart)
  /-- CONTROL_FRAME (R301): A self-test demand, a self-test result or a resync step is exchanged between the controllers. -/
  | controlFrame (lane : Fin 2) (hdr : List Byte) (ok : Bool) (c : MirControl)
  /-- DIVERGENCE_OUTCOME (R301): Both self-test results, or their 64-cycle timeout, decide at the next boundary who keeps the permit. -/
  | divergenceOutcome
  /-- PERMIT_IN_EDGE (R287): An edge arrives on PERMIT_IN, which makes it active. -/
  | permitInEdge
  /-- PERMIT_IN_TIMEOUT (R287): 30 µs pass without an edge on PERMIT_IN, which becomes inactive. -/
  | permitInTimeout
  /-- DRILL_PROOF_TIMEOUT (R311): Proof 16 or 17 is not received within its limit after the handover bell, so DRILL_FAILED is posted. -/
  | drillProofTimeout (path : Fin 2)
  /-- PAIR_STATUS (R313): The command returns the pair role, flags, epoch, holder and proof age. -/
  | pairStatus (p : Packet)
  /-- SWAP_DRILL (R311): The logged command hands the permit to the standby at bell L + 2 with a check, and optionally a hand-back. -/
  | swapDrill (p : Packet)
  /-- RELEASE_PERMIT (R313): The command hands the permit to the standby as a drill does, without a check or hand-back. -/
  | releasePermit (p : Packet)
  /-- RESYNC_STANDBY (R309): The command clears PAIR_FAULT and runs a sweep, or a bulk transfer and a sweep. -/
  | resyncStandby (p : Packet)
  /-- MIR_APPLY (R288): A write to MIR_APPLY commits MIR_CTRL at the next boundary after rules 80 and 81 are checked. -/
  | mirApply
  /-- SAFETY_CYCLE (R318): Each 250 µs safety cycle, every channel evaluates the safety logic and the results are voted two-out-of-three. -/
  | safetyCycle (r0 r1 r2 : Option Bool) (osc : List Int) (vdd : List (BitVec 8)) (sackLow : Bool)
  /-- SAFE_INPUT_SAMPLE (R323): Each 50 µs every channel samples the safe input contacts, and an opening contact demands at once. -/
  | safeInputSample (a b : BitVec 8)
  /-- DISCREPANCY_TIMEOUT (R324): One contact has not followed the other within the discrepancy time, so the input is FAULTED. -/
  | discrepancyTimeout (n : Fin 8)
  /-- TEST_PULSE (R325): An STP output pulses low for TP_WIDTH, and its contacts are checked 50 µs after it goes low. -/
  | testPulse (k : Fin 4) (a b : BitVec 8)
  /-- OUTPUT_READBACK (R328): 5 µs after a commanded edge, both pins of a safe output are read back. -/
  | outputReadback (n : Fin 4) (a b : Bool)
  /-- SEAL_READ (R332): Once per second the seals are read, and a pending set is activated or a mismatch locks out. -/
  | sealRead (r1 r2 : BitVec 16)
  /-- PDU_RECEIVED (R338): A Nuardsafe PDU is received, checked, and accepted, ignored or counted as a fault. -/
  | pduReceived (c : Fin 1088) (bytes : List Byte)
  /-- SAFETY_WATCHDOG_LAPSE (R338): A connection's watchdog runs out without an accepted PDU, which latches FS and RUN = 0. -/
  | safetyWatchdogLapse (c : Fin 1088)
  /-- CONFIRMATION_TIMEOUT (R334): A node has not confirmed a requested function within T_CONF, so RUN = 0 is latched. -/
  | confirmationTimeout (c : Fin 1088) (b : Fin 8)
  /-- SACK_RELEASE (R349): SACK, or the acknowledge master's ACK bit, is released after 0.5–5 s, which is a deliberate reset. -/
  | sackRelease (conn : Option (Fin 1088)) (lowAt : BitVec 80)
  /-- SACK_STUCK (R347): SACK has been low for more than 5 s, so SACK_STUCK is posted and resets are refused. -/
  | sackStuck
  /-- LOAD_SAFETY_PARAMETERS (R352): The authenticated command checks a safety parameter set and makes it pending. -/
  | loadSafetyParameters (p : Packet)
  /-- GET_SAFETY_STATUS (R352): The command returns the safety status, the codes, the seal reading and the state of inputs, outputs and connections. -/
  | getSafetyStatus (p : Packet)
  /-- REQUEST_SAFE_STOP (R352): The command latches an STO or SS1 demand on every connection. -/
  | requestSafeStop (p : Packet)
  /-- OPEN_SAFETY_CONNECTION (R340): The command opens a safety connection again. -/
  | openSafetyConnection (p : Packet)
  /-- READ_SAFETY_LOG (R352): The command writes safety log entries to host memory. -/
  | readSafetyLog (p : Packet)
  /-- NVME_COMMAND_COMPLETE (R356): An NVMe command completes on a drive and advances bring-up, record writes or a flush. -/
  | nvmeCommandComplete (d : Fin 4) (k : Nat) (status : Nat) (data : List Byte)
  /-- NVME_TIMEOUT (R356): An NVMe command times out, which resets the drive controller or makes the drive FAILED. -/
  | nvmeTimeout (d : Fin 4)
  /-- FLUSH_TIMER (R364): Every FLUSH_INT × 10 ms with records pending, a flush of the mounted drives starts. -/
  | flushTimer
  /-- MOUNT_STORE (R369): The command mounts, unmounts or formats drives, with mount recovery after a power loss. -/
  | mountStore (p : Packet)
  /-- READ_RECORD (R370): The command reads and verifies a record, or a raw AU, into host memory. -/
  | readRecord (p : Packet)
  /-- LIST_RECORDS (R370): The command writes record list entries to host memory. -/
  | listRecords (p : Packet)
  /-- DELETE_RECORDS (R370): The authenticated command deletes a range of records. -/
  | deleteRecords (p : Packet)
  /-- FLUSH_STORE (R364): The command runs a flush and returns the newest durable record number. -/
  | flushStore (p : Packet)
  /-- COMPACT_LEDGER (R381): The command starts a compaction, or resolves a conflict by keeping area A or B. -/
  | compactLedger (p : Packet)
  /-- READ_LEDGER (R381): The command writes whole ledger entries to host memory. -/
  | readLedger (p : Packet)
  /-- LEDGER_COMPACTED (R376): A compaction completes: the new area becomes valid and active, and the old area is retired. -/
  | ledgerCompacted
  /-- PACKET_FETCH (R391): The controller fetches a complete packet from an enabled SQ in priority order and runs the acceptance checks. -/
  | packetFetch (heads : List (Fin 64 × List Byte)) (host : HostRead)
  /-- SQ_DOORBELL (R389): A write of an SQ tail doorbell makes entries ready for fetching. -/
  | sqDoorbell (q : Fin 64) (v : BitVec 16)
  /-- CQ_DOORBELL (R389): A write of a CQ head doorbell frees consumed completion entries. -/
  | cqDoorbell (c : Fin 64) (v : BitVec 16)
  /-- EVT_DOORBELL (R389): A write of the event ring head doorbell frees consumed event entries. -/
  | evtDoorbell (v : BitVec 16)
  /-- RING_ENABLE (R388): Enabling a ring resets its index and phase, and writes the completions owed of a CQ. -/
  | ringEnable (kind : Fin 3) (n : Fin 64) (v : Word)
  /-- RING_DISABLE (R397): Disabling a ring stops it, and disabling a CQ with a bound enabled SQ is refused. -/
  | ringDisable (kind : Fin 3) (n : Fin 64) (v : Word)
  /-- PCIE_DMA_ERROR (R397): A ring fetch or write fails at PCIe, so the ring is disabled with ERR code 2. -/
  | pcieDmaError (kind : Fin 3) (n : Fin 64)
  /-- MSIX_COALESCE_TIMEOUT (R396): The oldest unsignalled entry of a vector has waited TIME µs, so the vector fires. -/
  | msixCoalesceTimeout (v : Fin 64)
  /-- SESSION_PROOF_TIMEOUT (R453): A session exchange has not been proved within 1 s, so it lapses. -/
  | sessionProofTimeout (sid : BitVec 16)
  /-- GET_CERTIFICATE (R459): The command writes the device or issuing CA certificate to host memory. -/
  | getCertificate (p : Packet)
  /-- ATTEST (R452): The command writes a signed 288-byte quote over the host nonce. -/
  | attest (p : Packet)
  /-- OPEN_SESSION (R453): The command performs the key exchange or the credential proof that opens a session. -/
  | openSession (p : Packet)
  /-- CLOSE_SESSION (R455): The authenticated command ends its session. -/
  | closeSession (p : Packet)
  /-- INSTALL_FIRMWARE (R449): The command verifies and installs a firmware image, a configuration package, a provisioning image or a revocation image. -/
  | installFirmware (p : Packet)
  /-- UNLOCK_DEBUG (R457): The command issues a challenge, or checks a token and opens debug scopes. -/
  | unlockDebug (p : Packet)
  /-- DEBUG_MAILBOX (R457): A challenge request or token is presented through the JTAG token mailbox, with the same checks. -/
  | debugMailbox (t : Option (List Byte))
  /-- DEBUG_SCOPE_EXPIRY (R458): An open debug scope's duration ends, so the scope closes and DEBUG_LOCKED is posted. -/
  | debugScopeExpiry
  /-- CREATE_JOB (R436): The command creates, deletes or modifies a host job task. -/
  | createJob (p : Packet)
  /-- POST_EVENT (R436): The command sets event flags of host jobs. -/
  | postEvent (p : Packet)
  /-- MAP_PAGES (R436): The command maps pages into a paged context under host-assisted page-fault handling. -/
  | mapPages (p : Packet)
  /-- RESUME_DMA (R436): The command resumes or aborts a parked DMA channel. -/
  | resumeDma (p : Packet)
  /-- TASK_DISPATCH (R420): The scheduler starts the head task of the highest ready level on an idle core, or pre-empts a lower task. -/
  | taskDispatch (bad : Bool) (host : HostRead)
  /-- TASK_WAIT (R418): A running task waits, and becomes READY or WAITING. -/
  | taskWait (c : Fin 6) (mask : Word) (all : Bool)
  /-- TASK_END (R418): A running task ends and returns to FREE. -/
  | taskEnd (c : Fin 6)
  /-- PERIOD_TIMER (R416): A task's period timer expires and sets flag 27. -/
  | periodTimer (t : Fin 256)
  /-- DMA_DESCRIPTOR_PUSH (R432): A task pushes a descriptor into a DMA channel queue. -/
  | dmaDescriptorPush (n : Fin 16) (b : List Byte)
  /-- DMA_DESCRIPTOR_COMPLETE (R433): A DMA descriptor finishes its transfer and signals its owner. -/
  | dmaDescriptorComplete (n : Fin 16) (ext : HostRead)
  /-- DMA_FAULT (R434): A burst meets a translation fault, and the channel parks or aborts the descriptor. -/
  | dmaFault (n : Fin 16) (ext : List Byte)
  /-- CONFIG_CAN (R481): The command commits CAN settings and stops, starts, recovers or loops back a channel. -/
  | configCan (p : Packet)
  /-- LOAD_FILTERS (R464): The command loads acceptance rules, mailbox configurations or the law map. -/
  | loadFilters (p : Packet)
  /-- START_AUTOBAUD (R480): The command starts listen-only bit-rate detection over candidate timings. -/
  | startAutobaud (p : Packet)
  /-- AUTOBAUD_WINDOW_EXPIRY (R480): A candidate's window ends without two valid frames, so the next candidate is tried or detection fails. -/
  | autobaudWindowExpiry (n : Fin 2)
  /-- CAN_SEND (R475): The command places a frame in a pool transmit buffer. -/
  | canSend (p : Packet)
  /-- GET_CAN_STATUS (R482): The command returns the channel status, error counters, FIFO fills and pending map. -/
  | getCanStatus (p : Packet)
  /-- CAN_APPLY (R464): A write to CAN_APPLY commits the CAN configuration after its rules are checked. -/
  | canApply (n : Fin 2)
  /-- CAN_FRAME_RECEIVED (R469): A received frame is filtered and stored, handed to safety, fed to the law, or put in a mailbox. -/
  | canFrameReceived (n : Fin 2) (id : Word) (dlc : BitVec 6) (sof : BitVec 80) (data : List Byte) (acked exc : Bool)
  /-- CAN_TX_REQUEST (R475): A write of CAN_TX_REQUEST makes pool buffers pending. -/
  | canTxRequest (n : Fin 2) (mask : Word)
  /-- CAN_TX_CANCEL (R477): A write of CAN_TX_CANCEL cancels pending frames. -/
  | canTxCancel (n : Fin 2) (mask : Word) (onBus : Option (Fin 32))
  /-- CAN_TRANSMIT_AT (R476): A buffer's transmit-at time arrives, and the buffer starts to contend. -/
  | canTransmitAt (n : Fin 2) (b : Fin 32)
  /-- CAN_TX_COMPLETE (R477): A transmission attempt ends in success or failure, and its event entry is written. -/
  | canTxComplete (n : Fin 2) (b : Fin 32) (out : Fin 3) (sof : BitVec 80) (delay : Option (BitVec 8))
  /-- CAN_ERROR_DETECTED (R479): A protocol error updates TEC and REC, and may change the error state. -/
  | canErrorDetected (n : Fin 2) (kind : Fin 7) (dat tx big exempt : Bool)
  /-- BUS_RECOVERED (R479): 128 occurrences of 11 recessive bits complete bus-off recovery. -/
  | busRecovered (n : Fin 2)
  /-- CAN_HEARTBEAT_PERIOD (R478): Each heartbeat period, buffer 4 sends the application heartbeat. -/
  | canHeartbeatPeriod (n : Fin 2)
  /-- CAN_RX_ACK (R467): A write of a receive FIFO's acknowledge register frees elements up to the get index. -/
  | canRxAck (n k : Fin 2) (idx : BitVec 6)
  /-- CAN_TXE_ACK (R467): A write of CAN_TXE_ACK frees transmit event entries. -/
  | canTxeAck (n : Fin 2) (idx : BitVec 5)
  /-- MAILBOX_STATUS_READ (R474): A read of a mailbox status word locks that mailbox. -/
  | mailboxStatusRead (n : Fin 2) (m : Fin 64)
  /-- MAILBOX_RELEASE_READ (R474): A read of a mailbox's last word releases the lock and clears NEW and LOST. -/
  | mailboxReleaseRead (n : Fin 2) (m : Fin 64)
  /-- LOCK_TIMEOUT (R474): A mailbox lock not released within 1 ms is released and counted. -/
  | lockTimeout (n : Fin 2)
  /-- SUPPLY_WARN (R489): A monitored rail leaves or re-enters its range, and its effects follow. -/
  | supplyWarn (b : Fin 16) (ok high : Bool)
  /-- VBAT_LOW (R488): VBAT falls below 2.4 V, so VBAT_OK is cleared and VBAT_LOW is posted. -/
  | vbatLow (mv : BitVec 16)
  /-- PLL_UNLOCK (R492): A PLL loses lock, which resets the controller for PLL_SYS or PLL_TIME and is otherwise counted and posted. -/
  | pllUnlock (pll : Fin 9)
  /-- RTC_INVALID (R492): X32 stops or drifts by more than 1 %, so the RTC is marked invalid. -/
  | rtcInvalid
  /-- REFCLK_LOST (R492): SDS_REFCLK or PEX_REFCLK is lost or restored, and its links follow. -/
  | refclkLost (pex ok : Bool)
  /-- TEMPERATURE_SAMPLE (R531): Each 1 ms the die temperature is sampled and compared with the warning and high thresholds. -/
  | temperatureSample (t : BitVec 16)
  /-- FUNC_WRITE (R518): A changed FUNC value of an MFP parks the pin for about 1 µs. -/
  | funcWrite (n : Fin 24) (v : Word)
  /-- PARK_END (R518): A pin park ends, the new function's driver is enabled and PIN_PARK_CNT is incremented. -/
  | parkEnd (n : Fin 24)
  /-- REGISTER_WRITE (R14): A host write to a register without a row of its own stores its value, shadow copy or W1C/W1S effect, or is discarded. -/
  | registerWrite (a : BitVec 24) (size : BitVec 8) (v : BitVec 64)
  /-- READ_CLEAR (R11): A read of an RC register returns its value and clears it, and no simultaneous event is lost. -/
  | readClear (a : BitVec 24) (size : BitVec 8)
  /-- LATCHING_READ (R57): A read of a low or fraction word latches the upper words, so a later read is coherent. -/
  | latchingRead (a : BitVec 24) (size : BitVec 8)
  /-- GET_TIME (R145): The command returns RATE, LTM_OFFSET, LTM_STATUS and the origin, with the completion time as the sample. -/
  | getTime (p : Packet)
  /-- SET_MASTER_RANK (R145): The command sets a port rank for the pending generation, or sets the line rank at once. -/
  | setMasterRank (p : Packet)
  /-- PROGRAM_EVENT_OUTPUT (R145): The command programs and commits a timed output, with lateness judged at the commit boundary. -/
  | programEventOutput (p : Packet)
  /-- CANCEL_EVENT_OUTPUT (R144): The command cancels the outputs of its mask at once and sets their MODE to 0. -/
  | cancelEventOutput (p : Packet)
  /-- ALIGN_TO_PPS (R134): The command turns PPS alignment on or off and sets SLEW and LTM_PPS_DELAY. -/
  | alignToPps (p : Packet)
  /-- PLL_LOCKED (R491): A started PLL reaches lock within 200 µs, which releases its users, such as the Join self-test after PLL_LANE locks, or the wake from Dormant. -/
  | pllLocked (pll : Fin 9)
  /-- MIRROR_LANE_LOCK (R291): A mirror lane gains or loses block lock: on gain it starts HELLO exchanges, and the change in lanes up alters LOG_MAX at the next boundary. -/
  | mirrorLaneLock (lane : Fin 2) (locked : Bool)
  /-- HELLO_TIMER (R291): Each side sends a HELLO on a locked mirror lane every 100 µs during bring-up, and every 10 ms afterwards. -/
  | helloTimer (lane : Fin 2)
  /-- CONTROLLER_SLOT (R81): At the time of a controller-sent slot at its own port, the controller sends the frame of that slot: an asynchronous frame, a schedule part, a response, a fence order, a safety downlink, or a trunk status, master, arm or fire frame. -/
  | controllerSlot (n : Fin 10) (slot : Fin 768)
  /-- HOLDER_DOWNLINK_FRAME (R298): The partner controller receives the holder's downlink frame and compares its records, or checks it during a drill. -/
  | holderDownlinkFrame (n : Fin 8) (c : Fin 2) (bytes : List Byte)
  /-- ASYNC_REPLY_TIMEOUT (R409): The reply timeout of a SEND_ASYNC ends without a reply, and the packet completes with the timed-out bit set. -/
  | asyncReplyTimeout (n : Fin 10) (tag : BitVec 16)
  /-- ROOT_PORT_LINK (R356): The link of an NVMe root port finishes training, or goes down when a drive is removed or fails, and drive state and STORE_DEGRADED follow. -/
  | rootPortLink (d : Fin 4) (up : Bool) (speed width : Nat)
  /-- PCIE_LINK_TRAINED (R385): The host PCIe link trains up after reset or link-down, and HIF_STATUS shows its speed and width. -/
  | pcieLinkTrained (speed width : Fin 9)
  /-- VBAT_RESTORED (R488): VBAT rises back to 2.4 V or above, and RST_VMON.VBAT_OK returns to 1. -/
  | vbatRestored (mv : BitVec 16)
  deriving DecidableEq, Repr

end Sys2Proof
end

