-- ==== Sys2Proof/WellFormed.lean ====
section
/-! DEFINITION. Sys2Proof/WellFormed.lean: relations between a command's operands that their types do not say. Frames and PDUs off a wire may
have any length: the meanings check them as the manual says, so they are not restricted here. -/
namespace Sys2Proof

/-- No number stands twice. -/
def nodupB : List Nat → Bool
  | [] => true
  | x :: xs => !xs.contains x && nodupB xs

/-- A packet carries 42 parameter bytes and 16 for each of its L extension units (R398); its security entry has a 16-byte tag and a 64-bit
counter (R399) and is present exactly when the AUTH flag is set. -/
def Packet.wf (p : Packet) : Bool :=
  p.par.length == 42 + 16 * p.len.toNat &&
  match p.sec with
  | some e => bitAt p.flags.toNat 1 && e.tag.length == 16 && decide (e.counter < 2 ^ 64)
  | none => !bitAt p.flags.toNat 1

/-- A context that firmware sets up is a paged one (R428), its L1 table and its pages are aligned (R429, R430), and its entries are 64 bits. -/
def MmuSetup.wf (c : MmuSetup) : Bool :=
  decide (3 ≤ c.ctx) && decide (c.ctx < 64) && c.l1 % 4096 == 0 && c.pool.all (fun a => a % 4096 == 0) &&
    c.table.all (fun e => e.1 % 8 == 0 && decide (e.2 < 2 ^ 64))

/-- Well-formed commands: a packet is well-formed, a link control message has 24 bytes (R61), a descriptor 32 (R432), a debug token 352 (R457),
firmware's tasks and contexts have numbers of their own, no ring offers two heads, and a written value fits its size. -/
def Instr.wf : Instr → Bool
  | .mainSupplyLoss => true
  | .mainSuppliesValid => true
  | .backupPor => true
  | .mainPor => true
  | .brownOut => true
  | .resetN _ => true
  | .watchdogExpiry => true
  | .securityViolation _ => true
  | .pcieHotReset => true
  | .debugReset => true
  | .resetRelease _ _ _ _ _ _ _ => true
  | .bootComplete _ _ _ _ _ _ _ _ tasks classes => classes.length == 16 && nodupB (tasks.map (·.num.val)) && decide ((tasks.filter (·.handler)).length ≤ 1)
  | .dramTrained _ ctxs => nodupB (ctxs.map (·.ctx)) && ctxs.all MmuSetup.wf
  | .getInfo p => p.wf
  | .setMode p => p.wf
  | .getMode p => p.wf
  | .resetDevice p => p.wf
  | .resetBlock p => p.wf
  | .readTally p => p.wf
  | .clearTally p => p.wf
  | .setDutyMode p => p.wf
  | .heartbeat p => p.wf
  | .hostHeartbeatLapse => true
  | .pcieLinkDown => true
  | .perstN _ => true
  | .functionLevelReset => true
  | .wakeEvent _ => true
  | .channelEnable _ _ => true
  | .channelDisable _ _ => true
  | .renegotiate _ => true
  | .signalDetected _ _ => true
  | .blockLockGained _ _ => true
  | .blockLockLost _ _ => true
  | .detectTimeout _ _ => true
  | .capability _ _ m => m.length == 24
  | .negotiateTimeout _ _ => true
  | .delayRequest _ _ m _ => m.length == 24
  | .delayResponse _ _ m _ => m.length == 24
  | .measureTimeout _ _ => true
  | .rateOrder _ _ m => m.length == 24
  | .retrainExpiry _ _ => true
  | .linkRetryExpiry _ _ => true
  | .rateFallbackExpiry _ _ => true
  | .hopReport _ _ m _ => m.length == 24
  | .discoveryTimeout _ => true
  | .rateOrderTimeout _ => true
  | .tailWaitExpiry _ => true
  | .hopRemeasure _ _ _ _ => true
  | .laneRecalDue _ _ => true
  | .laneRecalDone _ _ => true
  | .asyncFrameTimeout _ => true
  | .cycleBoundary => true
  | .bellReceived _ _ _ _ => true
  | .backupBellWait _ => true
  | .joinListenExpiry => true
  | .silentCycleEnd => true
  | .joinLimitExpiry => true
  | .nodeFrame _ _ _ _ => true
  | .segmentFaultClear _ => true
  | .receiveWindowClose _ _ => true
  | .pitchClaim _ _ _ => true
  | .scheduleRequest _ _ => true
  | .leaveRequest _ _ _ => true
  | .generationAcknowledge _ _ _ => true
  | .pitchSilence _ _ => true
  | .inputLogClose => true
  | .msLogClose => true
  | .downlinkSlot _ => true
  | .guardStart => true
  | .scheduledPacketDue => true
  | .trunkStatusFrame _ _ => true
  | .holdoverEntered => true
  | .originTakeover => true
  | .trunkMasterFrame _ => true
  | .ppsEdge => true
  | .ppsLost => true
  | .wholeSecondTick => true
  | .ppsOutWidthEnd => true
  | .asyncFrameSent _ _ _ _ => true
  | .txtsPop => true
  | .ltmRateWrite _ => true
  | .evoFiring _ => true
  | .evoPulseEnd _ => true
  | .evoApply _ => true
  | .evoCancel _ => true
  | .laneStart _ => true
  | .axisComputationDone _ _ _ => true
  | .axisDeadline _ => true
  | .laneError _ => true
  | .laneSelftest _ _ _ => true
  | .ceApply => true
  | .loadSchedule p => p.wf
  | .activateGeneration p => p.wf
  | .getSegmentStatus p => p.wf
  | .grantPitch p => p.wf
  | .revokePitch p => p.wf
  | .sendAsync p => p.wf
  | .getLinkStats p => p.wf
  | .fenceNode p => p.wf
  | .configureAxis p => p.wf
  | .commitAxes p => p.wf
  | .enableAxis p => p.wf
  | .disableAxis p => p.wf
  | .moveProfile p => p.wf
  | .setGear p => p.wf
  | .loadCam p => p.wf
  | .streamSetpoints p => p.wf
  | .stopGroup p => p.wf
  | .readAxisState p => p.wf
  | .startTrace p => p.wf
  | .stopTrace p => p.wf
  | .ucmdStart _ => true
  | .ucmdStop _ => true
  | .monApply => true
  | .identifyAxis p => p.wf
  | .identifyHoldExpiry => true
  | .fbInputEdge _ _ _ _ => true
  | .fbSampleInstant => true
  | .fbApply _ => true
  | .fbPreset _ _ => true
  | .fbEdgePop _ => true
  | .triggerEdge _ _ _ _ => true
  | .tdcStampPop _ => true
  | .tdcTableDone _ _ => true
  | .tdcApply _ => true
  | .adcStart => true
  | .adcResult _ _ => true
  | .adcApply => true
  | .captureArmTime _ => true
  | .captureSample _ _ => true
  | .captureTrigger _ => true
  | .recordBufferGrant => true
  | .recordCopied _ => true
  | .acqApply _ => true
  | .configCaptureUnit p => p.wf
  | .arm p => p.wf
  | .disarm p => p.wf
  | .forceFire p => p.wf
  | .loadMask p => p.wf
  | .configRegistration p => p.wf
  | .calibrateTriggerPaths p => p.wf
  | .armFrame _ _ => true
  | .fireFrame _ _ => true
  | .disarmFrame _ _ => true
  | .tbusFrame _ _ => true
  | .tbusCalibration _ => true
  | .registrationRequestReady _ => true
  | .helloFrame _ _ => true
  | .mirrorSilenceTimeout => true
  | .leaseFrame _ _ => true
  | .leaseExpiry => true
  | .logFrame _ _ _ _ => true
  | .summaryFrame _ _ _ _ _ => true
  | .correctionFrame _ _ _ _ _ _ => true
  | .digestFrame _ _ _ _ _ => true
  | .sliceFrame _ _ _ _ => true
  | .reportFrame _ _ _ _ _ => true
  | .bulkFrame _ _ _ _ => true
  | .controlFrame _ _ _ _ => true
  | .divergenceOutcome => true
  | .permitInEdge => true
  | .permitInTimeout => true
  | .drillProofTimeout _ => true
  | .pairStatus p => p.wf
  | .swapDrill p => p.wf
  | .releasePermit p => p.wf
  | .resyncStandby p => p.wf
  | .mirApply => true
  | .safetyCycle _ _ _ osc vdd _ => decide (osc.length ≤ 3) && decide (vdd.length ≤ 3)
  | .safeInputSample _ _ => true
  | .discrepancyTimeout _ => true
  | .testPulse _ _ _ => true
  | .outputReadback _ _ _ => true
  | .sealRead _ _ => true
  | .pduReceived _ _ => true
  | .safetyWatchdogLapse _ => true
  | .confirmationTimeout _ _ => true
  | .sackRelease _ _ => true
  | .sackStuck => true
  | .loadSafetyParameters p => p.wf
  | .getSafetyStatus p => p.wf
  | .requestSafeStop p => p.wf
  | .openSafetyConnection p => p.wf
  | .readSafetyLog p => p.wf
  | .nvmeCommandComplete _ _ status _ => decide (status < 2 ^ 16)
  | .nvmeTimeout _ => true
  | .flushTimer => true
  | .mountStore p => p.wf
  | .readRecord p => p.wf
  | .listRecords p => p.wf
  | .deleteRecords p => p.wf
  | .flushStore p => p.wf
  | .compactLedger p => p.wf
  | .readLedger p => p.wf
  | .ledgerCompacted => true
  | .packetFetch heads _ => nodupB (heads.map (·.1.val))
  | .sqDoorbell _ _ => true
  | .cqDoorbell _ _ => true
  | .evtDoorbell _ => true
  | .ringEnable _ _ _ => true
  | .ringDisable _ _ _ => true
  | .pcieDmaError _ _ => true
  | .msixCoalesceTimeout _ => true
  | .sessionProofTimeout _ => true
  | .getCertificate p => p.wf
  | .attest p => p.wf
  | .openSession p => p.wf
  | .closeSession p => p.wf
  | .installFirmware p => p.wf
  | .unlockDebug p => p.wf
  | .debugMailbox t => t.all (fun x => x.length == 352)
  | .debugScopeExpiry => true
  | .createJob p => p.wf
  | .postEvent p => p.wf
  | .mapPages p => p.wf
  | .resumeDma p => p.wf
  | .taskDispatch _ _ => true
  | .taskWait _ _ _ => true
  | .taskEnd _ => true
  | .periodTimer _ => true
  | .dmaDescriptorPush _ b => b.length == 32
  | .dmaDescriptorComplete _ _ => true
  | .dmaFault _ _ => true
  | .configCan p => p.wf
  | .loadFilters p => p.wf
  | .startAutobaud p => p.wf
  | .autobaudWindowExpiry _ => true
  | .canSend p => p.wf
  | .getCanStatus p => p.wf
  | .canApply _ => true
  | .canFrameReceived _ _ _ _ data _ _ => decide (data.length ≤ 64)
  | .canTxRequest _ _ => true
  | .canTxCancel _ _ _ => true
  | .canTransmitAt _ _ => true
  | .canTxComplete _ _ _ _ _ => true
  | .canErrorDetected _ _ _ _ _ _ => true
  | .busRecovered _ => true
  | .canHeartbeatPeriod _ => true
  | .canRxAck _ _ _ => true
  | .canTxeAck _ _ => true
  | .mailboxStatusRead _ _ => true
  | .mailboxReleaseRead _ _ => true
  | .lockTimeout _ => true
  | .supplyWarn _ _ _ => true
  | .vbatLow _ => true
  | .pllUnlock _ => true
  | .rtcInvalid => true
  | .refclkLost _ _ => true
  | .temperatureSample _ => true
  | .funcWrite _ _ => true
  | .parkEnd _ => true
  | .registerWrite _ size v => decide (v.toNat < 2 ^ (8 * size.toNat))
  | .readClear _ _ => true
  | .latchingRead _ _ => true
  | .getTime p => p.wf
  | .setMasterRank p => p.wf
  | .programEventOutput p => p.wf
  | .cancelEventOutput p => p.wf
  | .alignToPps p => p.wf
  | .pllLocked _ => true
  | .mirrorLaneLock _ _ => true
  | .helloTimer _ => true
  | .controllerSlot _ _ => true
  | .holderDownlinkFrame _ _ _ => true
  | .asyncReplyTimeout _ _ => true
  | .rootPortLink _ _ speed width => decide (speed < 16) && decide (width < 64)
  | .pcieLinkTrained _ _ => true
  | .vbatRestored _ => true

end Sys2Proof
end

