-- ==== Sys2Proof/Machine/RegMap.lean ====
section
/-! DEFINITION. Sys2Proof/Machine/RegMap.lean: the BAR0 register map (R39, R57, R78, R118, R146, R147, R176, R229, R245,
R279 to R281, R315, R353, R382, R383, R412, R437 to R439, R460, R483, R504, R505, R526): every register's offset under the
manual's name, its fields, its reset value and the access kind of its bits (R10). Index arguments count ports, channels,
units and entries as the manual's tables do; trunk ports NLT0 and NLT1 are ports 8 and 9 (0x06_0000 = 0x04_0000 + 8 * 0x4000). -/
namespace Sys2Proof.Machine

/-- A field of a register: BAR0 offset and bit range [hi:lo]. -/
structure Fld where
  a : Nat
  hi : Nat
  lo : Nat
  deriving DecidableEq, Repr

/-- One row of a register table: first offset, (stride, count) of each index, reset value, what each index step adds to it,
and the bits of each access kind of R10; `shadow` marks the bits of class CYCLE or GEN, whose stored value is the shadow copy (R14). -/
structure RegDesc where
  base : Nat
  dims : List (Nat × Nat)
  reset : Nat
  rstep : Nat
  rw : Nat
  w1c : Nat
  w1s : Nat
  wo : Nat
  rc : Nat
  shadow : Nat
  deriving DecidableEq, Repr

/-! SYS (R57). -/
def SYS_ID : Nat := 0x0
def SYS_ID.PART : Fld := ⟨SYS_ID, 31, 16⟩
def SYS_ID.REVISION : Fld := ⟨SYS_ID, 15, 8⟩
def SYS_ID.GRADE : Fld := ⟨SYS_ID, 7, 0⟩
def SYS_MODE : Nat := 0x4
def SYS_MODE.MODE : Fld := ⟨SYS_MODE, 3, 0⟩
def SYS_MODE.PREV_MODE : Fld := ⟨SYS_MODE, 7, 4⟩
def SYS_MODE.PERMIT : Fld := ⟨SYS_MODE, 8, 8⟩
def SYS_MODE.TRANSITION : Fld := ⟨SYS_MODE, 9, 9⟩
def SYS_MODE.TARGET : Fld := ⟨SYS_MODE, 15, 12⟩
def SYS_MODE.HEAD_END : Fld := ⟨SYS_MODE, 16, 16⟩
def SYS_MODE_CAUSE : Nat := 0x8
def SYS_MODE_CAUSE.CAUSE : Fld := ⟨SYS_MODE_CAUSE, 7, 0⟩
def SYS_MODE_CAUSE.DETAIL : Fld := ⟨SYS_MODE_CAUSE, 31, 8⟩
def SYS_MODE_TIME_LO : Nat := 0xc
def SYS_MODE_TIME_HI : Nat := 0x10
def SYS_TRANS_COUNT : Nat := 0x14
def SYS_COND : Nat := 0x18
def SYS_COND_STICKY : Nat := 0x1c
def SYS_COND_EVT_EN : Nat := 0x20
def SYS_WAKE_EN : Nat := 0x24
def SYS_WAKE_EN.TRIG : Fld := ⟨SYS_WAKE_EN, 0, 0⟩
def SYS_WAKE_EN.NODE_EVENT : Fld := ⟨SYS_WAKE_EN, 1, 1⟩
def SYS_WAKE_EN.CAN : Fld := ⟨SYS_WAKE_EN, 2, 2⟩
def SYS_WAKE_EN.PPS : Fld := ⟨SYS_WAKE_EN, 3, 3⟩
def SYS_DRILL_LIMIT : Nat := 0x28
def SYS_DRILL_LIMIT.HOURS : Fld := ⟨SYS_DRILL_LIMIT, 7, 0⟩
/-- The SYS register table (R57). -/
def regsSYS : List RegDesc :=
  [⟨0x0, [], 0x5120b100, 0, 0x0, 0x0, 0x0, 0x0, 0x0, 0x0⟩,
   ⟨0x4, [], 0x12, 0, 0x0, 0x0, 0x0, 0x0, 0x0, 0x0⟩,
   ⟨0x8, [], 0x1, 0, 0x0, 0x0, 0x0, 0x0, 0x0, 0x0⟩,
   ⟨0xc, [], 0x0, 0, 0x0, 0x0, 0x0, 0x0, 0x0, 0x0⟩,
   ⟨0x10, [], 0x0, 0, 0x0, 0x0, 0x0, 0x0, 0x0, 0x0⟩,
   ⟨0x14, [], 0x0, 0, 0x0, 0x0, 0x0, 0x0, 0xffffffff, 0x0⟩,
   ⟨0x18, [], 0x0, 0, 0x0, 0x0, 0x0, 0x0, 0x0, 0x0⟩,
   ⟨0x1c, [], 0x0, 0, 0x0, 0xffffffff, 0x0, 0x0, 0x0, 0x0⟩,
   ⟨0x20, [], 0xff1fff, 0, 0xffffffff, 0x0, 0x0, 0x0, 0x0, 0x0⟩,
   ⟨0x24, [], 0x2, 0, 0xf, 0x0, 0x0, 0x0, 0x0, 0x0⟩,
   ⟨0x28, [], 0x18, 0, 0xff, 0x0, 0x0, 0x0, 0x0, 0x0⟩]

/-! NLS (R78, R118). -/
def NLS_LINK_CTRL (i : Nat) : Nat := 0x40000 + 0x4000 * i
def NLS_LINK_CTRL.EN_A (i : Nat) : Fld := ⟨NLS_LINK_CTRL i, 0, 0⟩
def NLS_LINK_CTRL.EN_B (i : Nat) : Fld := ⟨NLS_LINK_CTRL i, 1, 1⟩
def NLS_LINK_CTRL.RATE_MAX (i : Nat) : Fld := ⟨NLS_LINK_CTRL i, 3, 2⟩
def NLS_LINK_CTRL.RENEGOTIATE (i : Nat) : Fld := ⟨NLS_LINK_CTRL i, 4, 4⟩
def NLS_LINK_CTRL.LOOPBACK_A (i : Nat) : Fld := ⟨NLS_LINK_CTRL i, 5, 5⟩
def NLS_LINK_CTRL.LOOPBACK_B (i : Nat) : Fld := ⟨NLS_LINK_CTRL i, 6, 6⟩
def NLS_LINK_STATUS (i : Nat) : Nat := 0x40004 + 0x4000 * i
def NLS_LINK_STATUS.STATE_A (i : Nat) : Fld := ⟨NLS_LINK_STATUS i, 2, 0⟩
def NLS_LINK_STATUS.STATE_B (i : Nat) : Fld := ⟨NLS_LINK_STATUS i, 5, 3⟩
def NLS_LINK_STATUS.RATE (i : Nat) : Fld := ⟨NLS_LINK_STATUS i, 7, 6⟩
def NLS_LINK_STATUS.HOPS_A (i : Nat) : Fld := ⟨NLS_LINK_STATUS i, 14, 8⟩
def NLS_LINK_STATUS.HOPS_B (i : Nat) : Fld := ⟨NLS_LINK_STATUS i, 21, 15⟩
def NLS_LINK_STATUS.TAIL_A (i : Nat) : Fld := ⟨NLS_LINK_STATUS i, 22, 22⟩
def NLS_LINK_STATUS.TAIL_B (i : Nat) : Fld := ⟨NLS_LINK_STATUS i, 23, 23⟩
def NLS_LINK_STATUS.RATE_SHORT (i : Nat) : Fld := ⟨NLS_LINK_STATUS i, 24, 24⟩
def NLS_LINK_STATUS.CROSS_WIRED (i : Nat) : Fld := ⟨NLS_LINK_STATUS i, 25, 25⟩
def NLS_LINK_STATUS.BRINGUP_DONE (i : Nat) : Fld := ⟨NLS_LINK_STATUS i, 26, 26⟩
def NLS_RATE_INFO (i : Nat) : Nat := 0x40008 + 0x4000 * i
def NLS_RATE_INFO.MASK_A (i : Nat) : Fld := ⟨NLS_RATE_INFO i, 2, 0⟩
def NLS_RATE_INFO.MASK_B (i : Nat) : Fld := ⟨NLS_RATE_INFO i, 6, 4⟩
def NLS_RATE_INFO.LIMIT_POS (i : Nat) : Fld := ⟨NLS_RATE_INFO i, 13, 8⟩
def NLS_RATE_INFO.LIMIT_CH (i : Nat) : Fld := ⟨NLS_RATE_INFO i, 14, 14⟩
def NLS_RATE_INFO.LIMIT_VALID (i : Nat) : Fld := ⟨NLS_RATE_INFO i, 15, 15⟩
def NLS_RATE_INFO.PLANNED_RATE (i : Nat) : Fld := ⟨NLS_RATE_INFO i, 17, 16⟩
def NLS_NOT_READY_CNT (i : Nat) : Nat := 0x4000c + 0x4000 * i
def NLS_ASYNC_BUSY_CNT (i : Nat) : Nat := 0x40010 + 0x4000 * i
def NLS_CRC_ERR_A (i : Nat) : Nat := 0x40014 + 0x4000 * i
def NLS_CRC_ERR_B (i : Nat) : Nat := 0x40018 + 0x4000 * i
def NLS_LINK_DROP_CNT (i : Nat) : Nat := 0x4001c + 0x4000 * i
def NLS_LINK_DROP_CNT.COUNT_A (i : Nat) : Fld := ⟨NLS_LINK_DROP_CNT i, 15, 0⟩
def NLS_LINK_DROP_CNT.COUNT_B (i : Nat) : Fld := ⟨NLS_LINK_DROP_CNT i, 31, 16⟩
def NLS_NEG_FAIL_CNT (i : Nat) : Nat := 0x40020 + 0x4000 * i
def NLS_NEG_FAIL_CNT.COUNT_A (i : Nat) : Fld := ⟨NLS_NEG_FAIL_CNT i, 15, 0⟩
def NLS_NEG_FAIL_CNT.COUNT_B (i : Nat) : Fld := ⟨NLS_NEG_FAIL_CNT i, 31, 16⟩
def NLS_RECAL (i : Nat) : Nat := 0x40024 + 0x4000 * i
def NLS_RECAL.BUSY_A (i : Nat) : Fld := ⟨NLS_RECAL i, 0, 0⟩
def NLS_RECAL.BUSY_B (i : Nat) : Fld := ⟨NLS_RECAL i, 1, 1⟩
def NLS_RECAL.TEMP_A (i : Nat) : Fld := ⟨NLS_RECAL i, 15, 8⟩
def NLS_RECAL.TEMP_B (i : Nat) : Fld := ⟨NLS_RECAL i, 23, 16⟩
def NLS_RECAL_CNT (i : Nat) : Nat := 0x40028 + 0x4000 * i
def NLS_RECAL_CNT.COUNT_A (i : Nat) : Fld := ⟨NLS_RECAL_CNT i, 15, 0⟩
def NLS_RECAL_CNT.COUNT_B (i : Nat) : Fld := ⟨NLS_RECAL_CNT i, 31, 16⟩
def NLS_TAILDLY_A (i : Nat) : Nat := 0x4002c + 0x4000 * i
def NLS_TAILDLY_B (i : Nat) : Nat := 0x40030 + 0x4000 * i
def NLS_EYE (i : Nat) : Nat := 0x40034 + 0x4000 * i
def NLS_EYE.EYE_A (i : Nat) : Fld := ⟨NLS_EYE i, 7, 0⟩
def NLS_EYE.EYE_B (i : Nat) : Fld := ⟨NLS_EYE i, 15, 8⟩
def NLS_EYE.EYE_MIN (i : Nat) : Fld := ⟨NLS_EYE i, 23, 16⟩
def NLS_SCHED_STATUS (i : Nat) : Nat := 0x40100 + 0x4000 * i
def NLS_SCHED_STATUS.ACTIVE_GEN (i : Nat) : Fld := ⟨NLS_SCHED_STATUS i, 15, 0⟩
def NLS_SCHED_STATUS.COUNTDOWN (i : Nat) : Fld := ⟨NLS_SCHED_STATUS i, 23, 16⟩
def NLS_SCHED_STATUS.TIMING (i : Nat) : Fld := ⟨NLS_SCHED_STATUS i, 24, 24⟩
def NLS_SCHED_STATUS.CLOSED (i : Nat) : Fld := ⟨NLS_SCHED_STATUS i, 25, 25⟩
def NLS_SCHED_STATUS.JOINED (i : Nat) : Fld := ⟨NLS_SCHED_STATUS i, 26, 26⟩
def NLS_SCHED_STATUS.ACTING (i : Nat) : Fld := ⟨NLS_SCHED_STATUS i, 27, 27⟩
def NLS_SCHED_STATUS.RANK (i : Nat) : Fld := ⟨NLS_SCHED_STATUS i, 29, 28⟩
def NLS_PENDING_GEN (i : Nat) : Nat := 0x40104 + 0x4000 * i
def NLS_PENDING_GEN.PENDING_GEN (i : Nat) : Fld := ⟨NLS_PENDING_GEN i, 15, 0⟩
def NLS_CYCLE_COUNT (i : Nat) : Nat := 0x40108 + 0x4000 * i
def NLS_SLOT_INFO (i : Nat) : Nat := 0x4010c + 0x4000 * i
def NLS_SLOT_INFO.SLOTS (i : Nat) : Fld := ⟨NLS_SLOT_INFO i, 9, 0⟩
def NLS_SLOT_INFO.PITCHES (i : Nat) : Fld := ⟨NLS_SLOT_INFO i, 21, 16⟩
def NLS_BELL_WAIT (i : Nat) : Nat := 0x40110 + 0x4000 * i
def NLS_BELL_STATUS (i : Nat) : Nat := 0x40114 + 0x4000 * i
def NLS_BELL_STATUS.USED_RANK (i : Nat) : Fld := ⟨NLS_BELL_STATUS i, 1, 0⟩
def NLS_BELL_STATUS.USED_B (i : Nat) : Fld := ⟨NLS_BELL_STATUS i, 2, 2⟩
def NLS_BELL_STATUS.HOLDOVER (i : Nat) : Fld := ⟨NLS_BELL_STATUS i, 3, 3⟩
def NLS_BELL_MISS_CNT (i : Nat) : Nat := 0x40118 + 0x4000 * i
def NLS_POLICE_CNT (i : Nat) : Nat := 0x40120 + 0x4000 * i
def NLS_DISAGREE_CNT (i : Nat) : Nat := 0x40124 + 0x4000 * i
def NLS_SINGLE_CNT (i : Nat) : Nat := 0x40138 + 0x4000 * i
def NLS_POLICE_CTRL (i : Nat) : Nat := 0x4011c + 0x4000 * i
def NLS_POLICE_CTRL.BABBLE_LIMIT (i : Nat) : Fld := ⟨NLS_POLICE_CTRL i, 3, 0⟩
def NLS_POLICE_CTRL.AUTO_FENCE (i : Nat) : Fld := ⟨NLS_POLICE_CTRL i, 4, 4⟩
def NLS_SEG_FAULT (i : Nat) : Nat := 0x40128 + 0x4000 * i
def NLS_SEG_FAULT.SEGMENT_FAULT (i : Nat) : Fld := ⟨NLS_SEG_FAULT i, 0, 0⟩
def NLS_SEG_FAULT.HOP_LOSS (i : Nat) : Fld := ⟨NLS_SEG_FAULT i, 1, 1⟩
def NLS_HOPLOSS (i : Nat) : Nat := 0x4012c + 0x4000 * i
def NLS_HOPLOSS.FIRST_A (i : Nat) : Fld := ⟨NLS_HOPLOSS i, 5, 0⟩
def NLS_HOPLOSS.COUNT_A (i : Nat) : Fld := ⟨NLS_HOPLOSS i, 12, 6⟩
def NLS_HOPLOSS.FIRST_B (i : Nat) : Fld := ⟨NLS_HOPLOSS i, 21, 16⟩
def NLS_HOPLOSS.COUNT_B (i : Nat) : Fld := ⟨NLS_HOPLOSS i, 28, 22⟩
def NLS_PITCH_VACANT (i : Nat) : Nat := 0x40130 + 0x4000 * i
def NLS_CLAIM_CNT (i : Nat) : Nat := 0x40134 + 0x4000 * i
def NLS_CLAIM_CNT.VALID (i : Nat) : Fld := ⟨NLS_CLAIM_CNT i, 15, 0⟩
def NLS_CLAIM_CNT.DAMAGED (i : Nat) : Fld := ⟨NLS_CLAIM_CNT i, 31, 16⟩
def NLS_GEN_ACK_LO (i : Nat) : Nat := 0x4013c + 0x4000 * i
def NLS_GEN_ACK_HI (i : Nat) : Nat := 0x40140 + 0x4000 * i
def NLS_PITCH (i j : Nat) : Nat := 0x40200 + 0x4000 * i + 0x4 * j
def NLS_PITCH.STATE (i j : Nat) : Fld := ⟨NLS_PITCH i j, 1, 0⟩
def NLS_PITCH.HOLDER (i j : Nat) : Fld := ⟨NLS_PITCH i j, 7, 2⟩
def NLS_PITCH.SILENT (i j : Nat) : Fld := ⟨NLS_PITCH i j, 25, 16⟩
def NLS_HOP_W0 (i j : Nat) : Nat := 0x40400 + 0x4000 * i + 0x10 * j
def NLS_HOP_W1 (i j : Nat) : Nat := 0x40404 + 0x4000 * i + 0x10 * j
def NLS_HOP_W2 (i j : Nat) : Nat := 0x40408 + 0x4000 * i + 0x10 * j
def NLS_HOP_W2.FWD_DOWN (i j : Nat) : Fld := ⟨NLS_HOP_W2 i j, 15, 0⟩
def NLS_HOP_W2.FWD_UP (i j : Nat) : Fld := ⟨NLS_HOP_W2 i j, 31, 16⟩
def NLS_HOP_W3 (i j : Nat) : Nat := 0x4040c + 0x4000 * i + 0x10 * j
def NLS_HOP_W3.MASK_A (i j : Nat) : Fld := ⟨NLS_HOP_W3 i j, 2, 0⟩
def NLS_HOP_W3.MASK_B (i j : Nat) : Fld := ⟨NLS_HOP_W3 i j, 6, 4⟩
def NLS_HOP_W3.STALE_A (i j : Nat) : Fld := ⟨NLS_HOP_W3 i j, 8, 8⟩
def NLS_HOP_W3.STALE_B (i j : Nat) : Fld := ⟨NLS_HOP_W3 i j, 9, 9⟩
def NLS_HOP_W3.CLASS (i j : Nat) : Fld := ⟨NLS_HOP_W3 i j, 11, 10⟩
def NLS_HOP_W3.PROFILE_MINOR (i j : Nat) : Fld := ⟨NLS_HOP_W3 i j, 19, 16⟩
def NLS_HOP_W3.PROFILE_MAJOR (i j : Nat) : Fld := ⟨NLS_HOP_W3 i j, 23, 20⟩
def NLS_POS_W0 (i j : Nat) : Nat := 0x40800 + 0x4000 * i + 0x10 * j
def NLS_POS_W0.MISSED_A (i j : Nat) : Fld := ⟨NLS_POS_W0 i j, 15, 0⟩
def NLS_POS_W0.MISSED_B (i j : Nat) : Fld := ⟨NLS_POS_W0 i j, 31, 16⟩
def NLS_POS_W1 (i j : Nat) : Nat := 0x40804 + 0x4000 * i + 0x10 * j
def NLS_POS_W1.POLICE (i j : Nat) : Fld := ⟨NLS_POS_W1 i j, 15, 0⟩
def NLS_POS_W1.DISAGREE (i j : Nat) : Fld := ⟨NLS_POS_W1 i j, 31, 16⟩
def NLS_POS_W2 (i j : Nat) : Nat := 0x40808 + 0x4000 * i + 0x10 * j
def NLS_POS_W2.PRESENT (i j : Nat) : Fld := ⟨NLS_POS_W2 i j, 0, 0⟩
def NLS_POS_W2.FENCED (i j : Nat) : Fld := ⟨NLS_POS_W2 i j, 1, 1⟩
def NLS_POS_W2.GEN_ACK (i j : Nat) : Fld := ⟨NLS_POS_W2 i j, 2, 2⟩
def NLS_POS_W2.SINGLE (i j : Nat) : Fld := ⟨NLS_POS_W2 i j, 3, 3⟩
def NLS_POS_W2.PITCH (i j : Nat) : Fld := ⟨NLS_POS_W2 i j, 4, 4⟩
def NLS_POS_W2.PITCH_NO (i j : Nat) : Fld := ⟨NLS_POS_W2 i j, 12, 8⟩
/-- Part 1 of the NLS register table (R78, R118). -/
def regsNLSA : List RegDesc :=
  [⟨0x40000, [(0x4000, 10)], 0x8, 0, 0x6f, 0x0, 0x0, 0x10, 0x0, 0x0⟩,
   ⟨0x40004, [(0x4000, 10)], 0xc0, 0, 0x0, 0x0, 0x0, 0x0, 0x0, 0x0⟩,
   ⟨0x40008, [(0x4000, 10)], 0x30000, 0, 0x0, 0x0, 0x0, 0x0, 0x0, 0x0⟩,
   ⟨0x4000c, [(0x4000, 10)], 0x0, 0, 0x0, 0x0, 0x0, 0x0, 0xffffffff, 0x0⟩,
   ⟨0x40010, [(0x4000, 10)], 0x0, 0, 0x0, 0x0, 0x0, 0x0, 0xffffffff, 0x0⟩,
   ⟨0x40014, [(0x4000, 10)], 0x0, 0, 0x0, 0x0, 0x0, 0x0, 0xffffffff, 0x0⟩,
   ⟨0x40018, [(0x4000, 10)], 0x0, 0, 0x0, 0x0, 0x0, 0x0, 0xffffffff, 0x0⟩,
   ⟨0x4001c, [(0x4000, 10)], 0x0, 0, 0x0, 0x0, 0x0, 0x0, 0xffffffff, 0x0⟩,
   ⟨0x40020, [(0x4000, 10)], 0x0, 0, 0x0, 0x0, 0x0, 0x0, 0xffffffff, 0x0⟩,
   ⟨0x40024, [(0x4000, 10)], 0x0, 0, 0x0, 0x0, 0x0, 0x0, 0x0, 0x0⟩,
   ⟨0x40028, [(0x4000, 10)], 0x0, 0, 0x0, 0x0, 0x0, 0x0, 0xffffffff, 0x0⟩,
   ⟨0x4002c, [(0x4000, 10)], 0x0, 0, 0x0, 0x0, 0x0, 0x0, 0x0, 0x0⟩,
   ⟨0x40030, [(0x4000, 10)], 0x0, 0, 0x0, 0x0, 0x0, 0x0, 0x0, 0x0⟩,
   ⟨0x40034, [(0x4000, 10)], 0x200000, 0, 0xff0000, 0x0, 0x0, 0x0, 0x0, 0x0⟩,
   ⟨0x40100, [(0x4000, 10)], 0xffff, 0, 0x0, 0x0, 0x0, 0x0, 0x0, 0x0⟩,
   ⟨0x40104, [(0x4000, 10)], 0xffff, 0, 0x0, 0x0, 0x0, 0x0, 0x0, 0x0⟩,
   ⟨0x40108, [(0x4000, 10)], 0x0, 0, 0x0, 0x0, 0x0, 0x0, 0x0, 0x0⟩,
   ⟨0x4010c, [(0x4000, 10)], 0x0, 0, 0x0, 0x0, 0x0, 0x0, 0x0, 0x0⟩,
   ⟨0x40110, [(0x4000, 10)], 0x0, 0, 0x0, 0x0, 0x0, 0x0, 0x0, 0x0⟩,
   ⟨0x40114, [(0x4000, 10)], 0x0, 0, 0x0, 0x0, 0x0, 0x0, 0x0, 0x0⟩]
/-- Part 2 of the NLS register table (R78, R118). -/
def regsNLSB : List RegDesc :=
  [⟨0x40118, [(0x4000, 10)], 0x0, 0, 0x0, 0x0, 0x0, 0x0, 0xffffffff, 0x0⟩,
   ⟨0x40120, [(0x4000, 10)], 0x0, 0, 0x0, 0x0, 0x0, 0x0, 0xffffffff, 0x0⟩,
   ⟨0x40124, [(0x4000, 10)], 0x0, 0, 0x0, 0x0, 0x0, 0x0, 0xffffffff, 0x0⟩,
   ⟨0x40138, [(0x4000, 10)], 0x0, 0, 0x0, 0x0, 0x0, 0x0, 0xffffffff, 0x0⟩,
   ⟨0x4011c, [(0x4000, 10)], 0x14, 0, 0x1f, 0x0, 0x0, 0x0, 0x0, 0x0⟩,
   ⟨0x40128, [(0x4000, 10)], 0x0, 0, 0x0, 0x1, 0x0, 0x0, 0x0, 0x0⟩,
   ⟨0x4012c, [(0x4000, 10)], 0x0, 0, 0x0, 0x0, 0x0, 0x0, 0x0, 0x0⟩,
   ⟨0x40130, [(0x4000, 10)], 0x0, 0, 0x0, 0x0, 0x0, 0x0, 0x0, 0x0⟩,
   ⟨0x40134, [(0x4000, 10)], 0x0, 0, 0x0, 0x0, 0x0, 0x0, 0xffffffff, 0x0⟩,
   ⟨0x4013c, [(0x4000, 10)], 0x0, 0, 0x0, 0x0, 0x0, 0x0, 0x0, 0x0⟩,
   ⟨0x40140, [(0x4000, 10)], 0x0, 0, 0x0, 0x0, 0x0, 0x0, 0x0, 0x0⟩,
   ⟨0x40200, [(0x4000, 10), (0x4, 32)], 0x0, 0, 0x0, 0x0, 0x0, 0x0, 0x0, 0x0⟩,
   ⟨0x40400, [(0x4000, 10), (0x10, 64)], 0x0, 0, 0x0, 0x0, 0x0, 0x0, 0x0, 0x0⟩,
   ⟨0x40404, [(0x4000, 10), (0x10, 64)], 0x0, 0, 0x0, 0x0, 0x0, 0x0, 0x0, 0x0⟩,
   ⟨0x40408, [(0x4000, 10), (0x10, 64)], 0x0, 0, 0x0, 0x0, 0x0, 0x0, 0x0, 0x0⟩,
   ⟨0x4040c, [(0x4000, 10), (0x10, 64)], 0x0, 0, 0x0, 0x0, 0x0, 0x0, 0x0, 0x0⟩,
   ⟨0x40800, [(0x4000, 10), (0x10, 64)], 0x0, 0, 0x0, 0x0, 0x0, 0x0, 0xffffffff, 0x0⟩,
   ⟨0x40804, [(0x4000, 10), (0x10, 64)], 0x0, 0, 0x0, 0x0, 0x0, 0x0, 0xffffffff, 0x0⟩,
   ⟨0x40808, [(0x4000, 10), (0x10, 64)], 0x0, 0, 0x0, 0x0, 0x0, 0x0, 0x0, 0x0⟩]
/-- The NLS register table (R78, R118). -/
def regsNLS : List RegDesc := regsNLSA ++ regsNLSB

/-! LTM (R146). -/
def LTM_CTRL : Nat := 0x30000
def LTM_CTRL.KP_SHIFT : Fld := ⟨LTM_CTRL, 3, 0⟩
def LTM_CTRL.KI_SHIFT : Fld := ⟨LTM_CTRL, 7, 4⟩
def LTM_CTRL.HOLDOVER_CYCLES : Fld := ⟨LTM_CTRL, 15, 8⟩
def LTM_CTRL.OFFSET_ALARM : Fld := ⟨LTM_CTRL, 31, 16⟩
def LTM_STATUS : Nat := 0x30004
def LTM_STATUS.VALID : Fld := ⟨LTM_STATUS, 0, 0⟩
def LTM_STATUS.ORIGIN : Fld := ⟨LTM_STATUS, 1, 1⟩
def LTM_STATUS.HOLDOVER : Fld := ⟨LTM_STATUS, 2, 2⟩
def LTM_STATUS.PPS_LOCKED : Fld := ⟨LTM_STATUS, 3, 3⟩
def LTM_STATUS.RATE_CLAMPED : Fld := ⟨LTM_STATUS, 4, 4⟩
def LTM_STATUS.STALE : Fld := ⟨LTM_STATUS, 5, 5⟩
def LTM_STATUS.SOURCE_PORT : Fld := ⟨LTM_STATUS, 15, 8⟩
def LTM_STATUS.SOURCE_RANK : Fld := ⟨LTM_STATUS, 17, 16⟩
def LTM_STATUS.SOURCE_B : Fld := ⟨LTM_STATUS, 18, 18⟩
def LTM_NOW_FRAC : Nat := 0x30008
def LTM_NOW_FRAC.FRAC : Fld := ⟨LTM_NOW_FRAC, 15, 0⟩
def LTM_NOW_LO : Nat := 0x3000c
def LTM_NOW_HI : Nat := 0x30010
def LTM_RATE : Nat := 0x30014
def LTM_OFFSET : Nat := 0x30018
def LTM_INTEG : Nat := 0x3001c
def LTM_LINE : Nat := 0x30020
def LTM_LINE.LINE_RANK : Fld := ⟨LTM_LINE, 7, 0⟩
def LTM_LINE.ORIGIN_INDEX : Fld := ⟨LTM_LINE, 15, 8⟩
def LTM_LINE.ORIGIN_HOPS : Fld := ⟨LTM_LINE, 23, 16⟩
def LTM_LINE.ORIGIN_RANK : Fld := ⟨LTM_LINE, 31, 24⟩
def LTM_PPS_CTRL : Nat := 0x30024
def LTM_PPS_CTRL.ALIGN_EN : Fld := ⟨LTM_PPS_CTRL, 0, 0⟩
def LTM_PPS_CTRL.OUT_EN : Fld := ⟨LTM_PPS_CTRL, 1, 1⟩
def LTM_PPS_CTRL.SLEW : Fld := ⟨LTM_PPS_CTRL, 15, 8⟩
def LTM_PPS_CTRL.OUT_WIDTH : Fld := ⟨LTM_PPS_CTRL, 31, 16⟩
def LTM_PPS_DELAY : Nat := 0x30028
def LTM_PPS_ERR : Nat := 0x3002c
def LTM_TXTS_STATUS : Nat := 0x30030
def LTM_TXTS_STATUS.DEPTH : Fld := ⟨LTM_TXTS_STATUS, 8, 0⟩
def LTM_TXTS_STATUS.OVERFLOW : Fld := ⟨LTM_TXTS_STATUS, 16, 16⟩
def LTM_TXTS_OVF_CNT : Nat := 0x30034
def LTM_TXTS_ENTRY0 : Nat := 0x30040
def LTM_TXTS_ENTRY1 : Nat := 0x30044
def LTM_TXTS_ENTRY2 : Nat := 0x30048
def LTM_TXTS_ENTRY2.FRAC : Fld := ⟨LTM_TXTS_ENTRY2, 15, 0⟩
def LTM_TXTS_ENTRY2.PORT : Fld := ⟨LTM_TXTS_ENTRY2, 23, 16⟩
def LTM_TXTS_ENTRY2.CH_B : Fld := ⟨LTM_TXTS_ENTRY2, 24, 24⟩
def LTM_TXTS_ENTRY2.VALID : Fld := ⟨LTM_TXTS_ENTRY2, 31, 31⟩
def LTM_TXTS_ENTRY3 : Nat := 0x3004c
def LTM_TXTS_ENTRY3.TAG : Fld := ⟨LTM_TXTS_ENTRY3, 15, 0⟩
def LTM_TXTS_ENTRY3.SLOT : Fld := ⟨LTM_TXTS_ENTRY3, 31, 16⟩
/-- The LTM register table (R146). -/
def regsLTM : List RegDesc :=
  [⟨0x30000, [], 0x640862, 0, 0xffffffff, 0x0, 0x0, 0x0, 0x0, 0x0⟩,
   ⟨0x30004, [], 0xff00, 0, 0x0, 0x0, 0x0, 0x0, 0x0, 0x0⟩,
   ⟨0x30008, [], 0x0, 0, 0x0, 0x0, 0x0, 0x0, 0x0, 0x0⟩,
   ⟨0x3000c, [], 0x0, 0, 0x0, 0x0, 0x0, 0x0, 0x0, 0x0⟩,
   ⟨0x30010, [], 0x0, 0, 0x0, 0x0, 0x0, 0x0, 0x0, 0x0⟩,
   ⟨0x30014, [], 0x0, 0, 0x0, 0x0, 0x0, 0x0, 0x0, 0x0⟩,
   ⟨0x30018, [], 0x0, 0, 0x0, 0x0, 0x0, 0x0, 0x0, 0x0⟩,
   ⟨0x3001c, [], 0x0, 0, 0x0, 0x0, 0x0, 0x0, 0x0, 0x0⟩,
   ⟨0x30020, [], 0xff00ff00, 0, 0x0, 0x0, 0x0, 0x0, 0x0, 0x0⟩,
   ⟨0x30024, [], 0x640a00, 0, 0xffff0002, 0x0, 0x0, 0x0, 0x0, 0x0⟩,
   ⟨0x30028, [], 0x0, 0, 0xffffffff, 0x0, 0x0, 0x0, 0x0, 0x0⟩,
   ⟨0x3002c, [], 0x0, 0, 0x0, 0x0, 0x0, 0x0, 0x0, 0x0⟩,
   ⟨0x30030, [], 0x0, 0, 0x0, 0x10000, 0x0, 0x0, 0x0, 0x0⟩,
   ⟨0x30034, [], 0x0, 0, 0x0, 0x0, 0x0, 0x0, 0xffffffff, 0x0⟩,
   ⟨0x30040, [], 0x0, 0, 0x0, 0x0, 0x0, 0x0, 0x0, 0x0⟩,
   ⟨0x30044, [], 0x0, 0, 0x0, 0x0, 0x0, 0x0, 0x0, 0x0⟩,
   ⟨0x30048, [], 0x0, 0, 0x0, 0x0, 0x0, 0x0, 0x0, 0x0⟩,
   ⟨0x3004c, [], 0x0, 0, 0x0, 0x0, 0x0, 0x0, 0x0, 0x0⟩]

/-! EVO (R147). -/
def EVO_APPLY : Nat := 0x34000
def EVO_APPLY.APPLY : Fld := ⟨EVO_APPLY, 15, 0⟩
def EVO_CANCEL : Nat := 0x34004
def EVO_CANCEL.CANCEL : Fld := ⟨EVO_CANCEL, 15, 0⟩
def EVO_STATUS : Nat := 0x34008
def EVO_STATUS.RUNNING : Fld := ⟨EVO_STATUS, 15, 0⟩
def EVO_STATUS.SKIP : Fld := ⟨EVO_STATUS, 31, 16⟩
def EVO_CTRL (i : Nat) : Nat := 0x34100 + 0x20 * i
def EVO_CTRL.MODE (i : Nat) : Fld := ⟨EVO_CTRL i, 1, 0⟩
def EVO_CTRL.PIN_EN (i : Nat) : Fld := ⟨EVO_CTRL i, 2, 2⟩
def EVO_CTRL.ADC_START (i : Nat) : Fld := ⟨EVO_CTRL i, 3, 3⟩
def EVO_CTRL.DIV (i : Nat) : Fld := ⟨EVO_CTRL i, 15, 8⟩
def EVO_START_LO (i : Nat) : Nat := 0x34104 + 0x20 * i
def EVO_START_HI (i : Nat) : Nat := 0x34108 + 0x20 * i
def EVO_PERIOD (i : Nat) : Nat := 0x3410c + 0x20 * i
def EVO_WIDTH (i : Nat) : Nat := 0x34110 + 0x20 * i
def EVO_COUNT (i : Nat) : Nat := 0x34114 + 0x20 * i
def EVO_TOL (i : Nat) : Nat := 0x34118 + 0x20 * i
def EVO_FIRED (i : Nat) : Nat := 0x3411c + 0x20 * i
/-- The EVO register table (R147). -/
def regsEVO : List RegDesc :=
  [⟨0x34000, [], 0x0, 0, 0x0, 0x0, 0xffff, 0x0, 0x0, 0x0⟩,
   ⟨0x34004, [], 0x0, 0, 0x0, 0x0, 0xffff, 0x0, 0x0, 0x0⟩,
   ⟨0x34008, [], 0x0, 0, 0x0, 0xffff0000, 0x0, 0x0, 0x0, 0x0⟩,
   ⟨0x34100, [(0x20, 16)], 0x100, 0, 0xff0f, 0x0, 0x0, 0x0, 0x0, 0xff0f⟩,
   ⟨0x34104, [(0x20, 16)], 0x0, 0, 0xffffffff, 0x0, 0x0, 0x0, 0x0, 0xffffffff⟩,
   ⟨0x34108, [(0x20, 16)], 0x0, 0, 0xffffffff, 0x0, 0x0, 0x0, 0x0, 0xffffffff⟩,
   ⟨0x3410c, [(0x20, 16)], 0x0, 0, 0xffffffff, 0x0, 0x0, 0x0, 0x0, 0xffffffff⟩,
   ⟨0x34110, [(0x20, 16)], 0x0, 0, 0xffffffff, 0x0, 0x0, 0x0, 0x0, 0xffffffff⟩,
   ⟨0x34114, [(0x20, 16)], 0x0, 0, 0xffffffff, 0x0, 0x0, 0x0, 0x0, 0xffffffff⟩,
   ⟨0x34118, [(0x20, 16)], 0x0, 0, 0xffffffff, 0x0, 0x0, 0x0, 0x0, 0xffffffff⟩,
   ⟨0x3411c, [(0x20, 16)], 0x0, 0, 0x0, 0x0, 0x0, 0x0, 0xffffffff, 0x0⟩]

/-! CE (R176). -/
def CE_CTRL : Nat := 0xa0000
def CE_CTRL.MISS_LIMIT : Fld := ⟨CE_CTRL, 3, 0⟩
def CE_CTRL.STALE_LIMIT : Fld := ⟨CE_CTRL, 6, 4⟩
def CE_APPLY : Nat := 0xa0004
def CE_APPLY.APPLY : Fld := ⟨CE_APPLY, 0, 0⟩
def CE_GATE : Nat := 0xa0008
def CE_GATE.GATE_EN : Fld := ⟨CE_GATE, 0, 0⟩
def CE_GATE.SLACK_WARN : Fld := ⟨CE_GATE, 31, 16⟩
def CE_STATUS : Nat := 0xa000c
def CE_STATUS.PLAN_GEN : Fld := ⟨CE_STATUS, 15, 0⟩
def CE_STATUS.LANES_USED : Fld := ⟨CE_STATUS, 21, 16⟩
def CE_STATUS.PIPELINED : Fld := ⟨CE_STATUS, 22, 22⟩
def CE_STATUS.SHADOW : Fld := ⟨CE_STATUS, 23, 23⟩
def CE_LANE_FAILED : Nat := 0xa0010
def CE_SELFTEST : Nat := 0xa0014
def CE_MISS_CNT : Nat := 0xa0018
def CE_SLACK_MIN : Nat := 0xa001c
def CE_SLACK_AXIS : Nat := 0xa0020
def CE_SLACK_AXIS.AXIS : Fld := ⟨CE_SLACK_AXIS, 8, 0⟩
def CE_ABORT_CNT : Nat := 0xa0024
def CE_LANE_ERR_CNT : Nat := 0xa0028
def CE_SHADOW_LATE_CNT : Nat := 0xa002c
def CE_MISS_MAP (i : Nat) : Nat := 0xa0100 + 0x4 * i
def CE_FAULT_MAP (i : Nat) : Nat := 0xa0140 + 0x4 * i
def CE_STALE_MAP (i : Nat) : Nat := 0xa0180 + 0x4 * i
def CE_LANE_BUSY (i : Nat) : Nat := 0xa0200 + 0x4 * i
/-- The CE register table (R176). -/
def regsCE : List RegDesc :=
  [⟨0xa0000, [], 0x13, 0, 0x7f, 0x0, 0x0, 0x0, 0x0, 0x7f⟩,
   ⟨0xa0004, [], 0x0, 0, 0x0, 0x0, 0x1, 0x0, 0x0, 0x0⟩,
   ⟨0xa0008, [], 0x640001, 0, 0xffff0001, 0x0, 0x0, 0x0, 0x0, 0x0⟩,
   ⟨0xa000c, [], 0xffff, 0, 0x0, 0x0, 0x0, 0x0, 0x0, 0x0⟩,
   ⟨0xa0010, [], 0x0, 0, 0x0, 0x0, 0x0, 0x0, 0x0, 0x0⟩,
   ⟨0xa0014, [], 0x0, 0, 0x0, 0x0, 0x0, 0x0, 0x0, 0x0⟩,
   ⟨0xa0018, [], 0x0, 0, 0x0, 0x0, 0x0, 0x0, 0xffffffff, 0x0⟩,
   ⟨0xa001c, [], 0x7fffffff, 0, 0x0, 0x0, 0x0, 0x0, 0xffffffff, 0x0⟩,
   ⟨0xa0020, [], 0x0, 0, 0x0, 0x0, 0x0, 0x0, 0x0, 0x0⟩,
   ⟨0xa0024, [], 0x0, 0, 0x0, 0x0, 0x0, 0x0, 0xffffffff, 0x0⟩,
   ⟨0xa0028, [], 0x0, 0, 0x0, 0x0, 0x0, 0x0, 0xffffffff, 0x0⟩,
   ⟨0xa002c, [], 0x0, 0, 0x0, 0x0, 0x0, 0x0, 0xffffffff, 0x0⟩,
   ⟨0xa0100, [(0x4, 16)], 0x0, 0, 0x0, 0xffffffff, 0x0, 0x0, 0x0, 0x0⟩,
   ⟨0xa0140, [(0x4, 16)], 0x0, 0, 0x0, 0x0, 0x0, 0x0, 0x0, 0x0⟩,
   ⟨0xa0180, [(0x4, 16)], 0x0, 0, 0x0, 0x0, 0x0, 0x0, 0x0, 0x0⟩,
   ⟨0xa0200, [(0x4, 32)], 0x0, 0, 0x0, 0x0, 0x0, 0x0, 0x0, 0x0⟩]

/-! TRC (R229). -/
def TRC_CAL_STALE : Nat := 0xb0000
def TRC_CAL_STALE.CLASS : Fld := ⟨TRC_CAL_STALE, 4, 0⟩
def TRC_MON_CTRL : Nat := 0xb0004
def TRC_MON_CTRL.APPLY : Fld := ⟨TRC_MON_CTRL, 0, 0⟩
def TRC_MON_CTRL.REFUSED : Fld := ⟨TRC_MON_CTRL, 1, 1⟩
def TRC_WIN : Nat := 0xb0008
def TRC_WIN.PAGE : Fld := ⟨TRC_WIN, 23, 0⟩
def TRC_WIN.SPACE : Fld := ⟨TRC_WIN, 24, 24⟩
def TRC_WIN.UNIT : Fld := ⟨TRC_WIN, 26, 25⟩
def TRC_ID_STATUS : Nat := 0xb000c
def TRC_ID_STATUS.AXIS : Fld := ⟨TRC_ID_STATUS, 8, 0⟩
def TRC_ID_STATUS.RESULT : Fld := ⟨TRC_ID_STATUS, 11, 9⟩
def TRC_ID_STATUS.RUNNING : Fld := ⟨TRC_ID_STATUS, 12, 12⟩
def TRC_ID_J : Nat := 0xb0010
def TRC_ID_B : Nat := 0xb0014
def TRC_ID_FC : Nat := 0xb0018
def TRC_ID_T0 : Nat := 0xb001c
def TRC_ID_RESID : Nat := 0xb0020
def TRC_UCTRL (i : Nat) : Nat := 0xb0100 + 0x80 * i
def TRC_UCTRL.DEST (i : Nat) : Fld := ⟨TRC_UCTRL i, 1, 0⟩
def TRC_UCTRL.TRIG (i : Nat) : Fld := ⟨TRC_UCTRL i, 3, 2⟩
def TRC_UCTRL.PROBES (i : Nat) : Fld := ⟨TRC_UCTRL i, 8, 4⟩
def TRC_UCTRL.DEC (i : Nat) : Fld := ⟨TRC_UCTRL i, 31, 16⟩
def TRC_UPRE (i : Nat) : Nat := 0xb0104 + 0x80 * i
def TRC_UPRE.PRE (i : Nat) : Fld := ⟨TRC_UPRE i, 23, 0⟩
def TRC_UPOST (i : Nat) : Nat := 0xb0108 + 0x80 * i
def TRC_ULEVEL (i : Nat) : Nat := 0xb010c + 0x80 * i
def TRC_UREGION (i : Nat) : Nat := 0xb0110 + 0x80 * i
def TRC_UREGION.BASE (i : Nat) : Fld := ⟨TRC_UREGION i, 5, 0⟩
def TRC_UREGION.SIZE (i : Nat) : Fld := ⟨TRC_UREGION i, 14, 8⟩
def TRC_UCMD (i : Nat) : Nat := 0xb0114 + 0x80 * i
def TRC_UCMD.START (i : Nat) : Fld := ⟨TRC_UCMD i, 0, 0⟩
def TRC_UCMD.STOP (i : Nat) : Fld := ⟨TRC_UCMD i, 1, 1⟩
def TRC_USTATUS (i : Nat) : Nat := 0xb0118 + 0x80 * i
def TRC_USTATUS.STATE (i : Nat) : Fld := ⟨TRC_USTATUS i, 1, 0⟩
def TRC_USTATUS.TRIGGERED (i : Nat) : Fld := ⟨TRC_USTATUS i, 2, 2⟩
def TRC_USTATUS.CAUSE (i : Nat) : Fld := ⟨TRC_USTATUS i, 5, 3⟩
def TRC_USTATUS.REFUSED (i : Nat) : Fld := ⟨TRC_USTATUS i, 6, 6⟩
def TRC_USTATUS.DROPPED (i : Nat) : Fld := ⟨TRC_USTATUS i, 7, 7⟩
def TRC_USAMPLES (i : Nat) : Nat := 0xb011c + 0x80 * i
def TRC_UTRIG (i : Nat) : Nat := 0xb0120 + 0x80 * i
def TRC_UDROP (i : Nat) : Nat := 0xb0124 + 0x80 * i
def TRC_UWPTR (i : Nat) : Nat := 0xb0128 + 0x80 * i
def TRC_URPTR (i : Nat) : Nat := 0xb012c + 0x80 * i
def TRC_UPROBE (i j : Nat) : Nat := 0xb0140 + 0x80 * i + 0x4 * j
def TRC_UPROBE.AXIS0 (i j : Nat) : Fld := ⟨TRC_UPROBE i j, 8, 0⟩
def TRC_UPROBE.NODE0 (i j : Nat) : Fld := ⟨TRC_UPROBE i j, 13, 9⟩
def TRC_UPROBE.AXIS1 (i j : Nat) : Fld := ⟨TRC_UPROBE i j, 24, 16⟩
def TRC_UPROBE.NODE1 (i j : Nat) : Fld := ⟨TRC_UPROBE i j, 29, 25⟩
def TRC_MON (i : Nat) : Nat := 0xb0400 + 0x4 * i
def TRC_MON.AXIS (i : Nat) : Fld := ⟨TRC_MON i, 8, 0⟩
def TRC_MON.EN (i : Nat) : Fld := ⟨TRC_MON i, 9, 9⟩
def TRC_MON.STALE (i : Nat) : Fld := ⟨TRC_MON i, 10, 10⟩
def TRC_MON.DRIFT (i : Nat) : Fld := ⟨TRC_MON i, 31, 16⟩
/-- Part 1 of the TRC register table (R229). -/
def regsTRCA : List RegDesc :=
  [⟨0xb0000, [], 0x0, 0, 0x0, 0x0, 0x0, 0x0, 0x0, 0x0⟩,
   ⟨0xb0004, [], 0x0, 0, 0x0, 0x0, 0x1, 0x0, 0x0, 0x0⟩,
   ⟨0xb0008, [], 0x0, 0, 0x7ffffff, 0x0, 0x0, 0x0, 0x0, 0x0⟩,
   ⟨0xb000c, [], 0x0, 0, 0x0, 0x0, 0x0, 0x0, 0x0, 0x0⟩,
   ⟨0xb0010, [], 0x0, 0, 0x0, 0x0, 0x0, 0x0, 0x0, 0x0⟩,
   ⟨0xb0014, [], 0x0, 0, 0x0, 0x0, 0x0, 0x0, 0x0, 0x0⟩,
   ⟨0xb0018, [], 0x0, 0, 0x0, 0x0, 0x0, 0x0, 0x0, 0x0⟩,
   ⟨0xb001c, [], 0x0, 0, 0x0, 0x0, 0x0, 0x0, 0x0, 0x0⟩,
   ⟨0xb0020, [], 0x0, 0, 0x0, 0x0, 0x0, 0x0, 0x0, 0x0⟩,
   ⟨0xb0100, [(0x80, 4)], 0x10010, 0, 0xffff01ff, 0x0, 0x0, 0x0, 0x0, 0xffff01ff⟩,
   ⟨0xb0104, [(0x80, 4)], 0x0, 0, 0xffffff, 0x0, 0x0, 0x0, 0x0, 0xffffff⟩,
   ⟨0xb0108, [(0x80, 4)], 0x0, 0, 0xffffffff, 0x0, 0x0, 0x0, 0x0, 0xffffffff⟩,
   ⟨0xb010c, [(0x80, 4)], 0x0, 0, 0xffffffff, 0x0, 0x0, 0x0, 0x0, 0xffffffff⟩,
   ⟨0xb0110, [(0x80, 4)], 0x1000, 16, 0x7f3f, 0x0, 0x0, 0x0, 0x0, 0x7f3f⟩,
   ⟨0xb0114, [(0x80, 4)], 0x0, 0, 0x0, 0x0, 0x3, 0x0, 0x0, 0x0⟩,
   ⟨0xb0118, [(0x80, 4)], 0x0, 0, 0x0, 0x80, 0x0, 0x0, 0x0, 0x0⟩,
   ⟨0xb011c, [(0x80, 4)], 0x0, 0, 0x0, 0x0, 0x0, 0x0, 0x0, 0x0⟩,
   ⟨0xb0120, [(0x80, 4)], 0x0, 0, 0x0, 0x0, 0x0, 0x0, 0x0, 0x0⟩,
   ⟨0xb0124, [(0x80, 4)], 0x0, 0, 0x0, 0x0, 0x0, 0x0, 0xffffffff, 0x0⟩,
   ⟨0xb0128, [(0x80, 4)], 0x0, 0, 0x0, 0x0, 0x0, 0x0, 0x0, 0x0⟩]
/-- Part 2 of the TRC register table (R229). -/
def regsTRCB : List RegDesc :=
  [⟨0xb012c, [(0x80, 4)], 0x0, 0, 0xffffffff, 0x0, 0x0, 0x0, 0x0, 0x0⟩,
   ⟨0xb0140, [(0x80, 4), (0x4, 8)], 0x0, 0, 0x3fff3fff, 0x0, 0x0, 0x0, 0x0, 0x3fff3fff⟩,
   ⟨0xb0400, [(0x4, 16)], 0x0, 0, 0x3ff, 0x0, 0x0, 0x0, 0x0, 0x3ff⟩]
/-- The TRC register table (R229). -/
def regsTRC : List RegDesc := regsTRCA ++ regsTRCB

/-! FB (R245). -/
def FB_APPLY : Nat := 0x70000
def FB_APPLY.APPLY : Fld := ⟨FB_APPLY, 3, 0⟩
def FB_APPLY.REFUSED : Fld := ⟨FB_APPLY, 7, 4⟩
def FB_CTRL (i : Nat) : Nat := 0x70100 + 0x100 * i
def FB_CTRL.MODE (i : Nat) : Fld := ⟨FB_CTRL i, 2, 0⟩
def FB_CTRL.FLT (i : Nat) : Fld := ⟨FB_CTRL i, 7, 4⟩
def FB_CTRL.INV_A (i : Nat) : Fld := ⟨FB_CTRL i, 8, 8⟩
def FB_CTRL.INV_B (i : Nat) : Fld := ⟨FB_CTRL i, 9, 9⟩
def FB_CTRL.INV_C (i : Nat) : Fld := ⟨FB_CTRL i, 10, 10⟩
def FB_CTRL.COUNT_DIR (i : Nat) : Fld := ⟨FB_CTRL i, 11, 11⟩
def FB_CTRL.STEP_EDGE (i : Nat) : Fld := ⟨FB_CTRL i, 12, 12⟩
def FB_CTRL.HALL_ORDER (i : Nat) : Fld := ⟨FB_CTRL i, 13, 13⟩
def FB_CTRL.PT_MODE (i : Nat) : Fld := ⟨FB_CTRL i, 17, 16⟩
def FB_EST (i : Nat) : Nat := 0x70104 + 0x100 * i
def FB_EST.PAVG (i : Nat) : Fld := ⟨FB_EST i, 3, 0⟩
def FB_EST.CWIN (i : Nat) : Fld := ⟨FB_EST i, 8, 4⟩
def FB_EST.STANDSTILL (i : Nat) : Fld := ⟨FB_EST i, 25, 16⟩
def FB_VUP (i : Nat) : Nat := 0x70108 + 0x100 * i
def FB_VDN (i : Nat) : Nat := 0x7010c + 0x100 * i
def FB_DELAY (i : Nat) : Nat := 0x70110 + 0x100 * i
def FB_DELAY.DELAY (i : Nat) : Fld := ⟨FB_DELAY i, 15, 0⟩
def FB_STATUS (i : Nat) : Nat := 0x70114 + 0x100 * i
def FB_STATUS.STANDSTILL (i : Nat) : Fld := ⟨FB_STATUS i, 0, 0⟩
def FB_STATUS.PENDING (i : Nat) : Fld := ⟨FB_STATUS i, 1, 1⟩
def FB_STATUS.REVERSAL (i : Nat) : Fld := ⟨FB_STATUS i, 2, 2⟩
def FB_STATUS.COUNT_MODE (i : Nat) : Fld := ⟨FB_STATUS i, 3, 3⟩
def FB_STATUS.DIR (i : Nat) : Fld := ⟨FB_STATUS i, 4, 4⟩
def FB_STATUS.HALL_STATE (i : Nat) : Fld := ⟨FB_STATUS i, 7, 5⟩
def FB_STATUS.ILLEGAL (i : Nat) : Fld := ⟨FB_STATUS i, 8, 8⟩
def FB_STATUS.SAMPLE_VALID (i : Nat) : Fld := ⟨FB_STATUS i, 9, 9⟩
def FB_STATUS.PRESET_REFUSED (i : Nat) : Fld := ⟨FB_STATUS i, 10, 10⟩
def FB_COUNT_LO (i : Nat) : Nat := 0x70118 + 0x100 * i
def FB_COUNT_HI (i : Nat) : Nat := 0x7011c + 0x100 * i
def FB_SPEED (i : Nat) : Nat := 0x70120 + 0x100 * i
def FB_SPEED_PERIOD (i : Nat) : Nat := 0x70124 + 0x100 * i
def FB_SPEED_COUNT (i : Nat) : Nat := 0x70128 + 0x100 * i
def FB_LAST_EDGE_FRAC (i : Nat) : Nat := 0x7012c + 0x100 * i
def FB_LAST_EDGE_FRAC.FRAC (i : Nat) : Fld := ⟨FB_LAST_EDGE_FRAC i, 15, 0⟩
def FB_LAST_EDGE_LO (i : Nat) : Nat := 0x70130 + 0x100 * i
def FB_LAST_EDGE_HI (i : Nat) : Nat := 0x70134 + 0x100 * i
def FB_ERR_CNT (i : Nat) : Nat := 0x70138 + 0x100 * i
def FB_ERR_CNT.STATE (i : Nat) : Fld := ⟨FB_ERR_CNT i, 15, 0⟩
def FB_ERR_CNT.TRANS (i : Nat) : Fld := ⟨FB_ERR_CNT i, 31, 16⟩
def FB_PRESET_LO (i : Nat) : Nat := 0x7013c + 0x100 * i
def FB_PRESET_HI (i : Nat) : Nat := 0x70140 + 0x100 * i
def FB_PAIR (i : Nat) : Nat := 0x70144 + 0x100 * i
def FB_PAIR.TOL (i : Nat) : Fld := ⟨FB_PAIR i, 15, 0⟩
def FB_PAIR.MISMATCH (i : Nat) : Fld := ⟨FB_PAIR i, 16, 16⟩
def FB_PAIR.OFF_VALID (i : Nat) : Fld := ⟨FB_PAIR i, 17, 17⟩
def FB_PAIR_OFFSET_LO (i : Nat) : Nat := 0x70148 + 0x100 * i
def FB_PAIR_OFFSET_HI (i : Nat) : Nat := 0x7014c + 0x100 * i
def FB_EDGE_CTRL (i : Nat) : Nat := 0x70150 + 0x100 * i
def FB_EDGE_CTRL.EN (i : Nat) : Fld := ⟨FB_EDGE_CTRL i, 3, 0⟩
def FB_EDGE_CTRL.OVERFLOW (i : Nat) : Fld := ⟨FB_EDGE_CTRL i, 8, 8⟩
def FB_EDGE_CTRL.DEPTH (i : Nat) : Fld := ⟨FB_EDGE_CTRL i, 22, 16⟩
def FB_EDGE_OVF_CNT (i : Nat) : Nat := 0x70154 + 0x100 * i
def FB_EDGE0 (i : Nat) : Nat := 0x70160 + 0x100 * i
def FB_EDGE1 (i : Nat) : Nat := 0x70164 + 0x100 * i
def FB_EDGE2 (i : Nat) : Nat := 0x70168 + 0x100 * i
def FB_EDGE2.FRAC (i : Nat) : Fld := ⟨FB_EDGE2 i, 15, 0⟩
def FB_EDGE2.KIND (i : Nat) : Fld := ⟨FB_EDGE2 i, 18, 16⟩
def FB_EDGE2.INPUT (i : Nat) : Fld := ⟨FB_EDGE2 i, 20, 19⟩
def FB_EDGE2.LEVEL (i : Nat) : Fld := ⟨FB_EDGE2 i, 21, 21⟩
def FB_EDGE2.VALID (i : Nat) : Fld := ⟨FB_EDGE2 i, 31, 31⟩
def FB_EDGE3 (i : Nat) : Nat := 0x7016c + 0x100 * i
/-- Part 1 of the FB register table (R245). -/
def regsFBA : List RegDesc :=
  [⟨0x70000, [], 0x0, 0, 0x0, 0x0, 0xf, 0x0, 0x0, 0x0⟩,
   ⟨0x70100, [(0x100, 4)], 0x30, 0, 0x33ff7, 0x0, 0x0, 0x0, 0x0, 0x33ff7⟩,
   ⟨0x70104, [(0x100, 4)], 0x640041, 0, 0x3ff01ff, 0x0, 0x0, 0x0, 0x0, 0x3ff01ff⟩,
   ⟨0x70108, [(0x100, 4)], 0x4b189680, 0, 0xffffffff, 0x0, 0x0, 0x0, 0x0, 0xffffffff⟩,
   ⟨0x7010c, [(0x100, 4)], 0x4af42400, 0, 0xffffffff, 0x0, 0x0, 0x0, 0x0, 0xffffffff⟩,
   ⟨0x70110, [(0x100, 4)], 0x0, 0, 0xffff, 0x0, 0x0, 0x0, 0x0, 0x0⟩,
   ⟨0x70114, [(0x100, 4)], 0x1, 0, 0x0, 0x400, 0x0, 0x0, 0x0, 0x0⟩,
   ⟨0x70118, [(0x100, 4)], 0x0, 0, 0x0, 0x0, 0x0, 0x0, 0x0, 0x0⟩,
   ⟨0x7011c, [(0x100, 4)], 0x0, 0, 0x0, 0x0, 0x0, 0x0, 0x0, 0x0⟩,
   ⟨0x70120, [(0x100, 4)], 0x0, 0, 0x0, 0x0, 0x0, 0x0, 0x0, 0x0⟩,
   ⟨0x70124, [(0x100, 4)], 0x0, 0, 0x0, 0x0, 0x0, 0x0, 0x0, 0x0⟩,
   ⟨0x70128, [(0x100, 4)], 0x0, 0, 0x0, 0x0, 0x0, 0x0, 0x0, 0x0⟩,
   ⟨0x7012c, [(0x100, 4)], 0x0, 0, 0x0, 0x0, 0x0, 0x0, 0x0, 0x0⟩,
   ⟨0x70130, [(0x100, 4)], 0x0, 0, 0x0, 0x0, 0x0, 0x0, 0x0, 0x0⟩,
   ⟨0x70134, [(0x100, 4)], 0x0, 0, 0x0, 0x0, 0x0, 0x0, 0x0, 0x0⟩,
   ⟨0x70138, [(0x100, 4)], 0x0, 0, 0x0, 0x0, 0x0, 0x0, 0xffffffff, 0x0⟩,
   ⟨0x7013c, [(0x100, 4)], 0x0, 0, 0x0, 0x0, 0x0, 0xffffffff, 0x0, 0x0⟩,
   ⟨0x70140, [(0x100, 4)], 0x0, 0, 0x0, 0x0, 0x0, 0xffffffff, 0x0, 0x0⟩,
   ⟨0x70144, [(0x100, 4)], 0x4, 0, 0xffff, 0x10000, 0x0, 0x0, 0x0, 0x0⟩,
   ⟨0x70148, [(0x100, 4)], 0x0, 0, 0x0, 0x0, 0x0, 0x0, 0x0, 0x0⟩]
/-- Part 2 of the FB register table (R245). -/
def regsFBB : List RegDesc :=
  [⟨0x7014c, [(0x100, 4)], 0x0, 0, 0x0, 0x0, 0x0, 0x0, 0x0, 0x0⟩,
   ⟨0x70150, [(0x100, 4)], 0x0, 0, 0xf, 0x100, 0x0, 0x0, 0x0, 0x0⟩,
   ⟨0x70154, [(0x100, 4)], 0x0, 0, 0x0, 0x0, 0x0, 0x0, 0xffffffff, 0x0⟩,
   ⟨0x70160, [(0x100, 4)], 0x0, 0, 0x0, 0x0, 0x0, 0x0, 0x0, 0x0⟩,
   ⟨0x70164, [(0x100, 4)], 0x0, 0, 0x0, 0x0, 0x0, 0x0, 0x0, 0x0⟩,
   ⟨0x70168, [(0x100, 4)], 0x0, 0, 0x0, 0x0, 0x0, 0x0, 0x0, 0x0⟩,
   ⟨0x7016c, [(0x100, 4)], 0x0, 0, 0x0, 0x0, 0x0, 0x0, 0x0, 0x0⟩]
/-- The FB register table (R245). -/
def regsFB : List RegDesc := regsFBA ++ regsFBB

/-! TDC (R279). -/
def TDC_CAL_CTRL : Nat := 0x90000
def TDC_CAL_CTRL.BG_EN : Fld := ⟨TDC_CAL_CTRL, 0, 0⟩
def TDC_STATUS : Nat := 0x90004
def TDC_STATUS.CAL_VALID : Fld := ⟨TDC_STATUS, 15, 0⟩
def TDC_STATUS.STALE : Fld := ⟨TDC_STATUS, 31, 16⟩
def TDC_TBUS_CTRL : Nat := 0x90008
def TDC_TBUS_CTRL.EN : Fld := ⟨TDC_TBUS_CTRL, 0, 0⟩
def TDC_TBUS_CTRL.SLOT : Fld := ⟨TDC_TBUS_CTRL, 5, 1⟩
def TDC_TBUS_CTRL.SYNC_DRIVE : Fld := ⟨TDC_TBUS_CTRL, 6, 6⟩
def TDC_TBUS_CTRL.TBUS_BG : Fld := ⟨TDC_TBUS_CTRL, 7, 7⟩
def TDC_TBUS_D0 : Nat := 0x9000c
def TDC_TBUS_D0.D0 : Fld := ⟨TDC_TBUS_D0, 11, 0⟩
def TDC_TBUS_D0.LOOP : Fld := ⟨TDC_TBUS_D0, 31, 12⟩
def TDC_TBUS_ERR : Nat := 0x90010
def TDC_TBUS_ERR.PARITY : Fld := ⟨TDC_TBUS_ERR, 15, 0⟩
def TDC_TBUS_ERR.DEFER : Fld := ⟨TDC_TBUS_ERR, 31, 16⟩
def TDC_SYNC_LO : Nat := 0x90014
def TDC_SYNC_HI : Nat := 0x90018
def TDC_APPLY : Nat := 0x9001c
def TDC_APPLY.APPLY : Fld := ⟨TDC_APPLY, 15, 0⟩
def TDC_IN_CTRL (i : Nat) : Nat := 0x90100 + 0x40 * i
def TDC_IN_CTRL.EN (i : Nat) : Fld := ⟨TDC_IN_CTRL i, 0, 0⟩
def TDC_IN_CTRL.SE (i : Nat) : Fld := ⟨TDC_IN_CTRL i, 1, 1⟩
def TDC_IN_CTRL.EDGE (i : Nat) : Fld := ⟨TDC_IN_CTRL i, 3, 2⟩
def TDC_IN_CTRL.MINW (i : Nat) : Fld := ⟨TDC_IN_CTRL i, 11, 4⟩
def TDC_IN_CTRL.HOLDOFF (i : Nat) : Fld := ⟨TDC_IN_CTRL i, 31, 16⟩
def TDC_IN_DELAY (i : Nat) : Nat := 0x90104 + 0x40 * i
def TDC_IN_STATUS (i : Nat) : Nat := 0x90108 + 0x40 * i
def TDC_IN_STATUS.DEPTH (i : Nat) : Fld := ⟨TDC_IN_STATUS i, 4, 0⟩
def TDC_IN_STATUS.OVERFLOW (i : Nat) : Fld := ⟨TDC_IN_STATUS i, 8, 8⟩
def TDC_IN_STATUS.LEVEL (i : Nat) : Fld := ⟨TDC_IN_STATUS i, 9, 9⟩
def TDC_IN_EDGES (i : Nat) : Nat := 0x9010c + 0x40 * i
def TDC_IN_LOST (i : Nat) : Nat := 0x90110 + 0x40 * i
def TDC_IN_LOST.LOST (i : Nat) : Fld := ⟨TDC_IN_LOST i, 15, 0⟩
def TDC_IN_LOST.SUPPRESSED (i : Nat) : Fld := ⟨TDC_IN_LOST i, 31, 16⟩
def TDC_IN_TS0 (i : Nat) : Nat := 0x90120 + 0x40 * i
def TDC_IN_TS1 (i : Nat) : Nat := 0x90124 + 0x40 * i
def TDC_IN_TS2 (i : Nat) : Nat := 0x90128 + 0x40 * i
def TDC_IN_TS2.FRAC (i : Nat) : Fld := ⟨TDC_IN_TS2 i, 15, 0⟩
def TDC_IN_TS2.FALLING (i : Nat) : Fld := ⟨TDC_IN_TS2 i, 16, 16⟩
def TDC_IN_TS2.VALID (i : Nat) : Fld := ⟨TDC_IN_TS2 i, 31, 31⟩
def TDC_IN_TS3 (i : Nat) : Nat := 0x9012c + 0x40 * i
def TDC_FINE (i j : Nat) : Nat := 0x91000 + 0x400 * i + 0x4 * j
def TDC_FINE.FINE (i j : Nat) : Fld := ⟨TDC_FINE i j, 17, 0⟩
/-- The TDC register table (R279). -/
def regsTDC : List RegDesc :=
  [⟨0x90000, [], 0x1, 0, 0x1, 0x0, 0x0, 0x0, 0x0, 0x0⟩,
   ⟨0x90004, [], 0x0, 0, 0x0, 0x0, 0x0, 0x0, 0x0, 0x0⟩,
   ⟨0x90008, [], 0x80, 0, 0xff, 0x0, 0x0, 0x0, 0x0, 0x0⟩,
   ⟨0x9000c, [], 0x0, 0, 0x0, 0x0, 0x0, 0x0, 0x0, 0x0⟩,
   ⟨0x90010, [], 0x0, 0, 0x0, 0x0, 0x0, 0x0, 0xffffffff, 0x0⟩,
   ⟨0x90014, [], 0x0, 0, 0x0, 0x0, 0x0, 0x0, 0x0, 0x0⟩,
   ⟨0x90018, [], 0x0, 0, 0x0, 0x0, 0x0, 0x0, 0x0, 0x0⟩,
   ⟨0x9001c, [], 0x0, 0, 0x0, 0x0, 0xffff, 0x0, 0x0, 0x0⟩,
   ⟨0x90100, [(0x40, 16)], 0x0, 0, 0xffff0fff, 0x0, 0x0, 0x0, 0x0, 0xffff0fff⟩,
   ⟨0x90104, [(0x40, 16)], 0x0, 0, 0xffffffff, 0x0, 0x0, 0x0, 0x0, 0x0⟩,
   ⟨0x90108, [(0x40, 16)], 0x0, 0, 0x0, 0x100, 0x0, 0x0, 0x0, 0x0⟩,
   ⟨0x9010c, [(0x40, 16)], 0x0, 0, 0x0, 0x0, 0x0, 0x0, 0xffffffff, 0x0⟩,
   ⟨0x90110, [(0x40, 16)], 0x0, 0, 0x0, 0x0, 0x0, 0x0, 0xffffffff, 0x0⟩,
   ⟨0x90120, [(0x40, 16)], 0x0, 0, 0x0, 0x0, 0x0, 0x0, 0x0, 0x0⟩,
   ⟨0x90124, [(0x40, 16)], 0x0, 0, 0x0, 0x0, 0x0, 0x0, 0x0, 0x0⟩,
   ⟨0x90128, [(0x40, 16)], 0x0, 0, 0x0, 0x0, 0x0, 0x0, 0x0, 0x0⟩,
   ⟨0x9012c, [(0x40, 16)], 0x0, 0, 0x0, 0x0, 0x0, 0x0, 0x0, 0x0⟩,
   ⟨0x91000, [(0x400, 16), (0x4, 256)], 0x0, 0, 0x0, 0x0, 0x0, 0x0, 0x0, 0x0⟩]

/-! ADC (R280). -/
def ADC_CTRL : Nat := 0x78000
def ADC_CTRL.EN : Fld := ⟨ADC_CTRL, 7, 0⟩
def ADC_CTRL.START : Fld := ⟨ADC_CTRL, 9, 8⟩
def ADC_CTRL.EVO_SEL : Fld := ⟨ADC_CTRL, 13, 10⟩
def ADC_CTRL.PHASE : Fld := ⟨ADC_CTRL, 25, 16⟩
def ADC_APPLY : Nat := 0x78004
def ADC_APPLY.APPLY : Fld := ⟨ADC_APPLY, 0, 0⟩
def ADC_STATUS : Nat := 0x78008
def ADC_STATUS.OVR : Fld := ⟨ADC_STATUS, 7, 0⟩
def ADC_STATUS.BUSY_CNT : Fld := ⟨ADC_STATUS, 31, 16⟩
def ADC_CH_CFG (i : Nat) : Nat := 0x78100 + 0x20 * i
def ADC_CH_CFG.AVG (i : Nat) : Fld := ⟨ADC_CH_CFG i, 2, 0⟩
def ADC_CH_CFG.THR_EN (i : Nat) : Fld := ⟨ADC_CH_CFG i, 3, 3⟩
def ADC_CH_CFG.THR_DIR (i : Nat) : Fld := ⟨ADC_CH_CFG i, 4, 4⟩
def ADC_CH_GAIN (i : Nat) : Nat := 0x78104 + 0x20 * i
def ADC_CH_OFFSET (i : Nat) : Nat := 0x78108 + 0x20 * i
def ADC_CH_THRESH (i : Nat) : Nat := 0x7810c + 0x20 * i
def ADC_CH_MEAN (i : Nat) : Nat := 0x78110 + 0x20 * i
def ADC_CH_VALUE (i : Nat) : Nat := 0x78114 + 0x20 * i
def ADC_CH_TIME_LO (i : Nat) : Nat := 0x78118 + 0x20 * i
def ADC_CH_TIME_HI (i : Nat) : Nat := 0x7811c + 0x20 * i
/-- The ADC register table (R280). -/
def regsADC : List RegDesc :=
  [⟨0x78000, [], 0x0, 0, 0x3ff3fff, 0x0, 0x0, 0x0, 0x0, 0x3ff3fff⟩,
   ⟨0x78004, [], 0x0, 0, 0x0, 0x0, 0x1, 0x0, 0x0, 0x0⟩,
   ⟨0x78008, [], 0x0, 0, 0x0, 0xff, 0x0, 0x0, 0xffff0000, 0x0⟩,
   ⟨0x78100, [(0x20, 8)], 0x0, 0, 0x1f, 0x0, 0x0, 0x0, 0x0, 0x1f⟩,
   ⟨0x78104, [(0x20, 8)], 0x3f800000, 0, 0xffffffff, 0x0, 0x0, 0x0, 0x0, 0xffffffff⟩,
   ⟨0x78108, [(0x20, 8)], 0x0, 0, 0xffffffff, 0x0, 0x0, 0x0, 0x0, 0xffffffff⟩,
   ⟨0x7810c, [(0x20, 8)], 0x0, 0, 0xffffffff, 0x0, 0x0, 0x0, 0x0, 0xffffffff⟩,
   ⟨0x78110, [(0x20, 8)], 0x0, 0, 0x0, 0x0, 0x0, 0x0, 0x0, 0x0⟩,
   ⟨0x78114, [(0x20, 8)], 0x0, 0, 0x0, 0x0, 0x0, 0x0, 0x0, 0x0⟩,
   ⟨0x78118, [(0x20, 8)], 0x0, 0, 0x0, 0x0, 0x0, 0x0, 0x0, 0x0⟩,
   ⟨0x7811c, [(0x20, 8)], 0x0, 0, 0x0, 0x0, 0x0, 0x0, 0x0, 0x0⟩]

/-! ACQ (R254, R281). -/
def ACQ_STATUS : Nat := 0x80000
def ACQ_STATUS.ARMED : Fld := ⟨ACQ_STATUS, 15, 0⟩
def ACQ_STATUS.DEAD : Fld := ⟨ACQ_STATUS, 31, 16⟩
def ACQ_POOL : Nat := 0x80004
def ACQ_POOL.FREE : Fld := ⟨ACQ_POOL, 6, 0⟩
def ACQ_LOST_RECORDS : Nat := 0x80008
def ACQ_APPLY : Nat := 0x8000c
def ACQ_APPLY.APPLY : Fld := ⟨ACQ_APPLY, 15, 0⟩
def ACQ_APPLY.REFUSED : Fld := ⟨ACQ_APPLY, 31, 16⟩
def ACQ_GROUP_PATH : Nat := 0x80010
def ACQ_U_CTRL (i : Nat) : Nat := 0x80100 + 0x80 * i
def ACQ_U_CTRL.CLOCK (i : Nat) : Fld := ⟨ACQ_U_CTRL i, 0, 0⟩
def ACQ_U_CTRL.AUTO_REARM (i : Nat) : Fld := ⟨ACQ_U_CTRL i, 1, 1⟩
def ACQ_U_CTRL.PARTIAL_PRE (i : Nat) : Fld := ⟨ACQ_U_CTRL i, 2, 2⟩
def ACQ_U_CTRL.MASK_STOP (i : Nat) : Fld := ⟨ACQ_U_CTRL i, 3, 3⟩
def ACQ_U_CTRL.NCH (i : Nat) : Fld := ⟨ACQ_U_CTRL i, 8, 4⟩
def ACQ_U_CTRL.STOP_GRP (i : Nat) : Fld := ⟨ACQ_U_CTRL i, 15, 12⟩
def ACQ_U_CTRL.MASK_TABLE (i : Nat) : Fld := ⟨ACQ_U_CTRL i, 19, 16⟩
def ACQ_U_CTRL.MASK_EN (i : Nat) : Fld := ⟨ACQ_U_CTRL i, 20, 20⟩
def ACQ_U_CTRL.GROUP (i : Nat) : Fld := ⟨ACQ_U_CTRL i, 31, 24⟩
def ACQ_U_TRIG (i : Nat) : Nat := 0x80104 + 0x80 * i
def ACQ_U_TRIG.SRC (i : Nat) : Fld := ⟨ACQ_U_TRIG i, 15, 0⟩
def ACQ_U_TRIG.DEC (i : Nat) : Fld := ⟨ACQ_U_TRIG i, 31, 16⟩
def ACQ_U_PRE (i : Nat) : Nat := 0x80108 + 0x80 * i
def ACQ_U_PRE.PRE (i : Nat) : Fld := ⟨ACQ_U_PRE i, 23, 0⟩
def ACQ_U_POST (i : Nat) : Nat := 0x8010c + 0x80 * i
def ACQ_U_POST.POST (i : Nat) : Fld := ⟨ACQ_U_POST i, 23, 0⟩
def ACQ_U_MASK_POST (i : Nat) : Nat := 0x80110 + 0x80 * i
def ACQ_U_MASK_POST.MASK_POST (i : Nat) : Fld := ⟨ACQ_U_MASK_POST i, 23, 0⟩
def ACQ_U_RING (i : Nat) : Nat := 0x80114 + 0x80 * i
def ACQ_U_RING.SIZE (i : Nat) : Fld := ⟨ACQ_U_RING i, 10, 0⟩
def ACQ_U_RING.BASE (i : Nat) : Fld := ⟨ACQ_U_RING i, 30, 16⟩
def ACQ_U_MASKCFG (i : Nat) : Nat := 0x80118 + 0x80 * i
def ACQ_U_MASKCFG.MASK_AXIS (i : Nat) : Fld := ⟨ACQ_U_MASKCFG i, 8, 0⟩
def ACQ_U_REPEAT (i : Nat) : Nat := 0x8011c + 0x80 * i
def ACQ_U_REPEAT.LEFT (i : Nat) : Fld := ⟨ACQ_U_REPEAT i, 15, 0⟩
def ACQ_U_STATE (i : Nat) : Nat := 0x80120 + 0x80 * i
def ACQ_U_STATE.STATE (i : Nat) : Fld := ⟨ACQ_U_STATE i, 2, 0⟩
def ACQ_U_ARM_ID (i : Nat) : Nat := 0x80124 + 0x80 * i
def ACQ_U_LOST (i : Nat) : Nat := 0x80128 + 0x80 * i
def ACQ_U_DEAD_LAST (i : Nat) : Nat := 0x8012c + 0x80 * i
def ACQ_U_DEAD_MAX (i : Nat) : Nat := 0x80130 + 0x80 * i
def ACQ_U_RECORDS (i : Nat) : Nat := 0x80134 + 0x80 * i
def ACQ_U_TRIG_LO (i : Nat) : Nat := 0x80138 + 0x80 * i
def ACQ_U_TRIG_HI (i : Nat) : Nat := 0x8013c + 0x80 * i
def ACQ_DESC_LO (i j : Nat) : Nat := 0x81000 + 0x100 * i + 0x8 * j
def ACQ_DESC_HI (i j : Nat) : Nat := 0x81004 + 0x100 * i + 0x8 * j
def ACQ_REG_COUNTS (i : Nat) : Nat := 0x83030 + 0x40 * i
def ACQ_REG_COUNTS.ACCEPTED (i : Nat) : Fld := ⟨ACQ_REG_COUNTS i, 15, 0⟩
def ACQ_REG_COUNTS.REJECTED (i : Nat) : Fld := ⟨ACQ_REG_COUNTS i, 31, 16⟩
def ACQ_REG_SEQ (i : Nat) : Nat := 0x83034 + 0x40 * i
def ACQ_REG_SEQ.MISSED (i : Nat) : Fld := ⟨ACQ_REG_SEQ i, 7, 0⟩
def ACQ_REG_SEQ.SEQ (i : Nat) : Fld := ⟨ACQ_REG_SEQ i, 31, 16⟩
/-- Part 1 of the ACQ register table (R254, R281). -/
def regsACQA : List RegDesc :=
  [⟨0x80000, [], 0x0, 0, 0x0, 0x0, 0x0, 0x0, 0x0, 0x0⟩,
   ⟨0x80004, [], 0x40, 0, 0x0, 0x0, 0x0, 0x0, 0x0, 0x0⟩,
   ⟨0x80008, [], 0x0, 0, 0x0, 0x0, 0x0, 0x0, 0xffffffff, 0x0⟩,
   ⟨0x8000c, [], 0x0, 0, 0x0, 0x0, 0xffff, 0x0, 0x0, 0x0⟩,
   ⟨0x80010, [], 0x0, 0, 0xffffffff, 0x0, 0x0, 0x0, 0x0, 0x0⟩,
   ⟨0x80100, [(0x80, 16)], 0xff000012, 0, 0xff1ff1ff, 0x0, 0x0, 0x0, 0x0, 0xff1ff1ff⟩,
   ⟨0x80104, [(0x80, 16)], 0x10000, 0, 0xffffffff, 0x0, 0x0, 0x0, 0x0, 0xffffffff⟩,
   ⟨0x80108, [(0x80, 16)], 0x0, 0, 0xffffff, 0x0, 0x0, 0x0, 0x0, 0xffffff⟩,
   ⟨0x8010c, [(0x80, 16)], 0x0, 0, 0xffffff, 0x0, 0x0, 0x0, 0x0, 0xffffff⟩,
   ⟨0x80110, [(0x80, 16)], 0x0, 0, 0xffffff, 0x0, 0x0, 0x0, 0x0, 0xffffff⟩,
   ⟨0x80114, [(0x80, 16)], 0x0, 0, 0x7fff07ff, 0x0, 0x0, 0x0, 0x0, 0x7fff07ff⟩,
   ⟨0x80118, [(0x80, 16)], 0x0, 0, 0x1ff, 0x0, 0x0, 0x0, 0x0, 0x1ff⟩,
   ⟨0x8011c, [(0x80, 16)], 0x0, 0, 0x0, 0x0, 0x0, 0x0, 0x0, 0x0⟩,
   ⟨0x80120, [(0x80, 16)], 0x0, 0, 0x0, 0x0, 0x0, 0x0, 0x0, 0x0⟩,
   ⟨0x80124, [(0x80, 16)], 0x0, 0, 0x0, 0x0, 0x0, 0x0, 0x0, 0x0⟩,
   ⟨0x80128, [(0x80, 16)], 0x0, 0, 0x0, 0x0, 0x0, 0x0, 0xffffffff, 0x0⟩,
   ⟨0x8012c, [(0x80, 16)], 0xffffffff, 0, 0x0, 0x0, 0x0, 0x0, 0x0, 0x0⟩,
   ⟨0x80130, [(0x80, 16)], 0x0, 0, 0x0, 0x0, 0x0, 0x0, 0xffffffff, 0x0⟩,
   ⟨0x80134, [(0x80, 16)], 0x0, 0, 0x0, 0x0, 0x0, 0x0, 0xffffffff, 0x0⟩,
   ⟨0x80138, [(0x80, 16)], 0x0, 0, 0x0, 0x0, 0x0, 0x0, 0x0, 0x0⟩]
/-- Part 2 of the ACQ register table (R254, R281). -/
def regsACQB : List RegDesc :=
  [⟨0x8013c, [(0x80, 16)], 0x0, 0, 0x0, 0x0, 0x0, 0x0, 0x0, 0x0⟩,
   ⟨0x81000, [(0x100, 16), (0x8, 24)], 0x0, 0, 0xffffffff, 0x0, 0x0, 0x0, 0x0, 0xffffffff⟩,
   ⟨0x81004, [(0x100, 16), (0x8, 24)], 0x0, 0, 0xffff, 0x0, 0x0, 0x0, 0x0, 0xffff⟩,
   ⟨0x83030, [(0x40, 32)], 0x0, 0, 0x0, 0x0, 0x0, 0x0, 0xffffffff, 0x0⟩,
   ⟨0x83034, [(0x40, 32)], 0x0, 0, 0x0, 0x0, 0x0, 0x0, 0x0, 0x0⟩]
/-- The ACQ register table (R254, R281). -/
def regsACQ : List RegDesc := regsACQA ++ regsACQB

/-! MIR (R315). -/
def MIR_CTRL : Nat := 0x68000
def MIR_CTRL.LEASE : Fld := ⟨MIR_CTRL, 6, 0⟩
def MIR_CTRL.FENCE_EN : Fld := ⟨MIR_CTRL, 8, 8⟩
def MIR_APPLY : Nat := 0x68004
def MIR_APPLY.APPLY : Fld := ⟨MIR_APPLY, 0, 0⟩
def MIR_APPLY.REFUSED : Fld := ⟨MIR_APPLY, 1, 1⟩
def MIR_STATUS : Nat := 0x68008
def MIR_STATUS.LANES : Fld := ⟨MIR_STATUS, 1, 0⟩
def MIR_STATUS.COMPATIBLE : Fld := ⟨MIR_STATUS, 2, 2⟩
def MIR_STATUS.ROLE : Fld := ⟨MIR_STATUS, 5, 3⟩
def MIR_STATUS.SYNCED : Fld := ⟨MIR_STATUS, 6, 6⟩
def MIR_STATUS.PAIR_FAULT : Fld := ⟨MIR_STATUS, 7, 7⟩
def MIR_STATUS.PERMIT_IN : Fld := ⟨MIR_STATUS, 8, 8⟩
def MIR_STATUS.PERMIT_OUT : Fld := ⟨MIR_STATUS, 9, 9⟩
def MIR_STATUS.BULK : Fld := ⟨MIR_STATUS, 10, 10⟩
def MIR_STATUS.SWEEP : Fld := ⟨MIR_STATUS, 11, 11⟩
def MIR_STATUS.STOP_FRAMES : Fld := ⟨MIR_STATUS, 12, 12⟩
def MIR_STATUS.REASON : Fld := ⟨MIR_STATUS, 23, 16⟩
def MIR_EPOCH : Nat := 0x6800c
def MIR_HOLDER : Nat := 0x68010
def MIR_HOLDER.HOLDER : Fld := ⟨MIR_HOLDER, 23, 0⟩
def MIR_LEASE : Nat := 0x68014
def MIR_LEASE.IN_FORCE : Fld := ⟨MIR_LEASE, 6, 0⟩
def MIR_LEASE.MISSING : Fld := ⟨MIR_LEASE, 14, 8⟩
def MIR_DELAY : Nat := 0x68018
def MIR_DIVERGE_CNT : Nat := 0x6801c
def MIR_DIVERGE_LAST : Nat := 0x68020
def MIR_DIVERGE_LAST.GROUP : Fld := ⟨MIR_DIVERGE_LAST, 4, 0⟩
def MIR_DIVERGE_LAST.KIND : Fld := ⟨MIR_DIVERGE_LAST, 7, 5⟩
def MIR_DIVERGE_LAST.RECENT : Fld := ⟨MIR_DIVERGE_LAST, 9, 8⟩
def MIR_LOG_LOSS_CNT : Nat := 0x68024
def MIR_CRC_ERR : Nat := 0x68028
def MIR_CRC_ERR.LANE0 : Fld := ⟨MIR_CRC_ERR, 15, 0⟩
def MIR_CRC_ERR.LANE1 : Fld := ⟨MIR_CRC_ERR, 31, 16⟩
def MIR_LOG_PEAK : Nat := 0x6802c
def MIR_LOG_PEAK.PEAK : Fld := ⟨MIR_LOG_PEAK, 15, 0⟩
def MIR_LOG_PEAK.DEFERRED : Fld := ⟨MIR_LOG_PEAK, 31, 16⟩
def MIR_SWEEP : Nat := 0x68030
def MIR_SWEEP.SLICE : Fld := ⟨MIR_SWEEP, 5, 0⟩
def MIR_SWEEP.BULK_LEFT : Fld := ⟨MIR_SWEEP, 31, 16⟩
def MIR_PROOF_LO (i : Nat) : Nat := 0x68100 + 0x8 * i
def MIR_PROOF_HI (i : Nat) : Nat := 0x68104 + 0x8 * i
/-- The MIR register table (R315). -/
def regsMIR : List RegDesc :=
  [⟨0x68000, [], 0x103, 0, 0x17f, 0x0, 0x0, 0x0, 0x0, 0x17f⟩,
   ⟨0x68004, [], 0x0, 0, 0x0, 0x0, 0x1, 0x0, 0x0, 0x0⟩,
   ⟨0x68008, [], 0x0, 0, 0x0, 0x0, 0x0, 0x0, 0x0, 0x0⟩,
   ⟨0x6800c, [], 0x0, 0, 0x0, 0x0, 0x0, 0x0, 0x0, 0x0⟩,
   ⟨0x68010, [], 0x0, 0, 0x0, 0x0, 0x0, 0x0, 0x0, 0x0⟩,
   ⟨0x68014, [], 0x0, 0, 0x0, 0x0, 0x0, 0x0, 0x0, 0x0⟩,
   ⟨0x68018, [], 0x0, 0, 0x0, 0x0, 0x0, 0x0, 0x0, 0x0⟩,
   ⟨0x6801c, [], 0x0, 0, 0x0, 0x0, 0x0, 0x0, 0xffffffff, 0x0⟩,
   ⟨0x68020, [], 0x0, 0, 0x0, 0x0, 0x0, 0x0, 0x0, 0x0⟩,
   ⟨0x68024, [], 0x0, 0, 0x0, 0x0, 0x0, 0x0, 0xffffffff, 0x0⟩,
   ⟨0x68028, [], 0x0, 0, 0x0, 0x0, 0x0, 0x0, 0xffffffff, 0x0⟩,
   ⟨0x6802c, [], 0x0, 0, 0x0, 0x0, 0x0, 0x0, 0xffffffff, 0x0⟩,
   ⟨0x68030, [], 0x0, 0, 0x0, 0x0, 0x0, 0x0, 0x0, 0x0⟩,
   ⟨0x68100, [(0x8, 18)], 0x0, 0, 0x0, 0x0, 0x0, 0x0, 0x0, 0x0⟩,
   ⟨0x68104, [(0x8, 18)], 0x0, 0, 0x0, 0x0, 0x0, 0x0, 0x0, 0x0⟩]

/-! SAF (R353). -/
def SAF_STATUS : Nat := 0xc0000
def SAF_STATUS.CH_ACTIVE : Fld := ⟨SAF_STATUS, 2, 0⟩
def SAF_STATUS.CH_FAILED : Fld := ⟨SAF_STATUS, 5, 3⟩
def SAF_STATUS.LOCKOUT : Fld := ⟨SAF_STATUS, 6, 6⟩
def SAF_STATUS.DEMAND : Fld := ⟨SAF_STATUS, 7, 7⟩
def SAF_STATUS.CAUSE : Fld := ⟨SAF_STATUS, 15, 8⟩
def SAF_STATUS.PARAM_ACTIVE : Fld := ⟨SAF_STATUS, 16, 16⟩
def SAF_STATUS.PARAM_PENDING : Fld := ⟨SAF_STATUS, 17, 17⟩
def SAF_STATUS.SEAL_MATCH : Fld := ⟨SAF_STATUS, 18, 18⟩
def SAF_STATUS.SACK_LOW : Fld := ⟨SAF_STATUS, 19, 19⟩
def SAF_STATUS.SACK_STUCK : Fld := ⟨SAF_STATUS, 20, 20⟩
def SAF_STATUS.DRIVING : Fld := ⟨SAF_STATUS, 21, 21⟩
def SAF_CYCLE : Nat := 0xc0004
def SAF_VOTE_CNT : Nat := 0xc0008
def SAF_VOTE_CNT.DISSENT : Fld := ⟨SAF_VOTE_CNT, 15, 0⟩
def SAF_VOTE_CNT.INVALID : Fld := ⟨SAF_VOTE_CNT, 31, 16⟩
def SAF_SEAL : Nat := 0xc000c
def SAF_SEAL.READING : Fld := ⟨SAF_SEAL, 15, 0⟩
def SAF_SEAL.EXPECTED : Fld := ⟨SAF_SEAL, 31, 16⟩
def SAF_PARAM : Nat := 0xc0010
def SAF_PARAM.ACTIVE_CODE : Fld := ⟨SAF_PARAM, 15, 0⟩
def SAF_PARAM.PENDING_CODE : Fld := ⟨SAF_PARAM, 31, 16⟩
def SAF_INPUTS : Nat := 0xc0014
def SAF_OUTPUTS : Nat := 0xc0018
def SAF_OUTPUTS.OUT : Fld := ⟨SAF_OUTPUTS, 15, 0⟩
def SAF_CH (i : Nat) : Nat := 0xc0020 + 0x4 * i
def SAF_CH.STATE (i : Nat) : Fld := ⟨SAF_CH i, 1, 0⟩
def SAF_CH.VDD (i : Nat) : Fld := ⟨SAF_CH i, 15, 8⟩
def SAF_CH.OSC_DEV (i : Nat) : Fld := ⟨SAF_CH i, 31, 16⟩
def SAF_CONN : Nat := 0xc002c
def SAF_CONN.USED : Fld := ⟨SAF_CONN, 10, 0⟩
def SAF_CONN.OPEN : Fld := ⟨SAF_CONN, 26, 16⟩
def SAF_CONN_W0 (i : Nat) : Nat := 0xc1000 + 0x8 * i
def SAF_CONN_W0.STATE (i : Nat) : Fld := ⟨SAF_CONN_W0 i, 2, 0⟩
def SAF_CONN_W0.RUN (i : Nat) : Fld := ⟨SAF_CONN_W0 i, 3, 3⟩
def SAF_CONN_W0.FS_RX (i : Nat) : Fld := ⟨SAF_CONN_W0 i, 4, 4⟩
def SAF_CONN_W0.GOVERNING (i : Nat) : Fld := ⟨SAF_CONN_W0 i, 5, 5⟩
def SAF_CONN_W0.SEQ_RX (i : Nat) : Fld := ⟨SAF_CONN_W0 i, 31, 16⟩
def SAF_CONN_W1 (i : Nat) : Nat := 0xc1004 + 0x8 * i
def SAF_CONN_W1.CRC_ERR (i : Nat) : Fld := ⟨SAF_CONN_W1 i, 15, 0⟩
/-- The SAF register table (R353). -/
def regsSAF : List RegDesc :=
  [⟨0xc0000, [], 0x0, 0, 0x0, 0x0, 0x0, 0x0, 0x0, 0x0⟩,
   ⟨0xc0004, [], 0x0, 0, 0x0, 0x0, 0x0, 0x0, 0x0, 0x0⟩,
   ⟨0xc0008, [], 0x0, 0, 0x0, 0x0, 0x0, 0x0, 0x0, 0x0⟩,
   ⟨0xc000c, [], 0xffff, 0, 0x0, 0x0, 0x0, 0x0, 0x0, 0x0⟩,
   ⟨0xc0010, [], 0x0, 0, 0x0, 0x0, 0x0, 0x0, 0x0, 0x0⟩,
   ⟨0xc0014, [], 0x0, 0, 0x0, 0x0, 0x0, 0x0, 0x0, 0x0⟩,
   ⟨0xc0018, [], 0x0, 0, 0x0, 0x0, 0x0, 0x0, 0x0, 0x0⟩,
   ⟨0xc0020, [(0x4, 3)], 0x0, 0, 0x0, 0x0, 0x0, 0x0, 0x0, 0x0⟩,
   ⟨0xc002c, [], 0x0, 0, 0x0, 0x0, 0x0, 0x0, 0x0, 0x0⟩,
   ⟨0xc1000, [(0x8, 1088)], 0x0, 0, 0x0, 0x0, 0x0, 0x0, 0x0, 0x0⟩,
   ⟨0xc1004, [(0x8, 1088)], 0x0, 0, 0x0, 0x0, 0x0, 0x0, 0x0, 0x0⟩]

/-! STO (R382). -/
def STO_CTRL : Nat := 0x100000
def STO_CTRL.AUTO_MOUNT : Fld := ⟨STO_CTRL, 0, 0⟩
def STO_CTRL.FULL_POLICY : Fld := ⟨STO_CTRL, 1, 1⟩
def STO_CTRL.AUTO_HOLD : Fld := ⟨STO_CTRL, 2, 2⟩
def STO_CTRL.FLUSH_INT : Fld := ⟨STO_CTRL, 15, 8⟩
def STO_CTRL.TIMEOUT : Fld := ⟨STO_CTRL, 31, 16⟩
def STO_HOLD_MASK : Nat := 0x100004
def STO_HOLD_MASK.UNIT : Fld := ⟨STO_HOLD_MASK, 15, 0⟩
def STO_HOLD_MASK.TRACE : Fld := ⟨STO_HOLD_MASK, 19, 16⟩
def STO_STATUS : Nat := 0x100008
def STO_STATUS.MOUNTED : Fld := ⟨STO_STATUS, 3, 0⟩
def STO_STATUS.FAILED : Fld := ⟨STO_STATUS, 7, 4⟩
def STO_STATUS.FULL : Fld := ⟨STO_STATUS, 8, 8⟩
def STO_STATUS.CHAIN_BREAK : Fld := ⟨STO_STATUS, 9, 9⟩
def STO_STATUS.FLUSHING : Fld := ⟨STO_STATUS, 10, 10⟩
def STO_FREE : Nat := 0x10000c
def STO_HELD : Nat := 0x100010
def STO_NEWEST_LO : Nat := 0x100014
def STO_NEWEST_HI : Nat := 0x100018
def STO_OLDEST_LO : Nat := 0x10001c
def STO_OLDEST_HI : Nat := 0x100020
def STO_LOST_CNT : Nat := 0x100024
def STO_D_STATUS (i : Nat) : Nat := 0x100100 + 0x40 * i
def STO_D_STATUS.STATE (i : Nat) : Fld := ⟨STO_D_STATUS i, 2, 0⟩
def STO_D_STATUS.QUEUES (i : Nat) : Fld := ⟨STO_D_STATUS i, 11, 8⟩
def STO_D_STATUS.QDEPTH (i : Nat) : Fld := ⟨STO_D_STATUS i, 24, 16⟩
def STO_D_LINK (i : Nat) : Nat := 0x100104 + 0x40 * i
def STO_D_LINK.SPEED (i : Nat) : Fld := ⟨STO_D_LINK i, 2, 0⟩
def STO_D_LINK.WIDTH (i : Nat) : Fld := ⟨STO_D_LINK i, 5, 4⟩
def STO_D_AUS (i : Nat) : Nat := 0x100108 + 0x40 * i
def STO_D_FREE (i : Nat) : Nat := 0x10010c + 0x40 * i
def STO_D_WPTR (i : Nat) : Nat := 0x100110 + 0x40 * i
def STO_D_ERR (i : Nat) : Nat := 0x100114 + 0x40 * i
def STO_D_ERR.WRITE (i : Nat) : Fld := ⟨STO_D_ERR i, 15, 0⟩
def STO_D_ERR.READ (i : Nat) : Fld := ⟨STO_D_ERR i, 31, 16⟩
def STO_D_TIMEOUT (i : Nat) : Nat := 0x100118 + 0x40 * i
def STO_D_CAP (i : Nat) : Nat := 0x10011c + 0x40 * i
/-- The STO register table (R382). -/
def regsSTO : List RegDesc :=
  [⟨0x100000, [], 0x7d00a06, 0, 0xffffff07, 0x0, 0x0, 0x0, 0x0, 0x0⟩,
   ⟨0x100004, [], 0x0, 0, 0xfffff, 0x0, 0x0, 0x0, 0x0, 0x0⟩,
   ⟨0x100008, [], 0x0, 0, 0x0, 0x200, 0x0, 0x0, 0x0, 0x0⟩,
   ⟨0x10000c, [], 0x0, 0, 0x0, 0x0, 0x0, 0x0, 0x0, 0x0⟩,
   ⟨0x100010, [], 0x0, 0, 0x0, 0x0, 0x0, 0x0, 0x0, 0x0⟩,
   ⟨0x100014, [], 0x0, 0, 0x0, 0x0, 0x0, 0x0, 0x0, 0x0⟩,
   ⟨0x100018, [], 0x0, 0, 0x0, 0x0, 0x0, 0x0, 0x0, 0x0⟩,
   ⟨0x10001c, [], 0x0, 0, 0x0, 0x0, 0x0, 0x0, 0x0, 0x0⟩,
   ⟨0x100020, [], 0x0, 0, 0x0, 0x0, 0x0, 0x0, 0x0, 0x0⟩,
   ⟨0x100024, [], 0x0, 0, 0x0, 0x0, 0x0, 0x0, 0xffffffff, 0x0⟩,
   ⟨0x100100, [(0x40, 4)], 0x0, 0, 0x0, 0x0, 0x0, 0x0, 0x0, 0x0⟩,
   ⟨0x100104, [(0x40, 4)], 0x0, 0, 0x0, 0x0, 0x0, 0x0, 0x0, 0x0⟩,
   ⟨0x100108, [(0x40, 4)], 0x0, 0, 0x0, 0x0, 0x0, 0x0, 0x0, 0x0⟩,
   ⟨0x10010c, [(0x40, 4)], 0x0, 0, 0x0, 0x0, 0x0, 0x0, 0x0, 0x0⟩,
   ⟨0x100110, [(0x40, 4)], 0x0, 0, 0x0, 0x0, 0x0, 0x0, 0x0, 0x0⟩,
   ⟨0x100114, [(0x40, 4)], 0x0, 0, 0x0, 0x0, 0x0, 0x0, 0xffffffff, 0x0⟩,
   ⟨0x100118, [(0x40, 4)], 0x0, 0, 0x0, 0x0, 0x0, 0x0, 0xffffffff, 0x0⟩,
   ⟨0x10011c, [(0x40, 4)], 0x0, 0, 0x0, 0x0, 0x0, 0x0, 0x0, 0x0⟩]

/-! LDG (R383). -/
def LDG_STATUS : Nat := 0x110000
def LDG_STATUS.ACTIVE_AREA : Fld := ⟨LDG_STATUS, 0, 0⟩
def LDG_STATUS.VALID_A : Fld := ⟨LDG_STATUS, 1, 1⟩
def LDG_STATUS.VALID_B : Fld := ⟨LDG_STATUS, 2, 2⟩
def LDG_STATUS.CONFLICT : Fld := ⟨LDG_STATUS, 3, 3⟩
def LDG_STATUS.EMPTY : Fld := ⟨LDG_STATUS, 4, 4⟩
def LDG_STATUS.COMPACTING : Fld := ⟨LDG_STATUS, 5, 5⟩
def LDG_STATUS.FORCED : Fld := ⟨LDG_STATUS, 6, 6⟩
def LDG_STATUS.TORN : Fld := ⟨LDG_STATUS, 7, 7⟩
def LDG_FILL : Nat := 0x110004
def LDG_FILL.BYTES : Fld := ⟨LDG_FILL, 22, 0⟩
def LDG_FILL.PERCENT : Fld := ⟨LDG_FILL, 31, 24⟩
def LDG_GEN_LO : Nat := 0x110008
def LDG_GEN_HI : Nat := 0x11000c
def LDG_ENTRY_LO : Nat := 0x110010
def LDG_ENTRY_HI : Nat := 0x110014
def LDG_RATE : Nat := 0x110018
def LDG_CRC_ERR : Nat := 0x11001c
def LDG_LIMITED : Nat := 0x110020
/-- The LDG register table (R383). -/
def regsLDG : List RegDesc :=
  [⟨0x110000, [], 0x0, 0, 0x0, 0xc0, 0x0, 0x0, 0x0, 0x0⟩,
   ⟨0x110004, [], 0x0, 0, 0x0, 0x0, 0x0, 0x0, 0x0, 0x0⟩,
   ⟨0x110008, [], 0x0, 0, 0x0, 0x0, 0x0, 0x0, 0x0, 0x0⟩,
   ⟨0x11000c, [], 0x0, 0, 0x0, 0x0, 0x0, 0x0, 0x0, 0x0⟩,
   ⟨0x110010, [], 0x0, 0, 0x0, 0x0, 0x0, 0x0, 0x0, 0x0⟩,
   ⟨0x110014, [], 0x0, 0, 0x0, 0x0, 0x0, 0x0, 0x0, 0x0⟩,
   ⟨0x110018, [], 0x0, 0, 0x0, 0x0, 0x0, 0x0, 0x0, 0x0⟩,
   ⟨0x11001c, [], 0x0, 0, 0x0, 0x0, 0x0, 0x0, 0xffffffff, 0x0⟩,
   ⟨0x110020, [], 0x0, 0, 0x0, 0x0, 0x0, 0x0, 0xffffffff, 0x0⟩]

/-! HIF (R385, R412). -/
def HIF_CTRL : Nat := 0x10000
def HIF_CTRL.FETCH_EN : Fld := ⟨HIF_CTRL, 0, 0⟩
def HIF_STATUS : Nat := 0x10004
def HIF_STATUS.READY : Fld := ⟨HIF_STATUS, 0, 0⟩
def HIF_STATUS.HOST_LOST : Fld := ⟨HIF_STATUS, 1, 1⟩
def HIF_STATUS.SPEED : Fld := ⟨HIF_STATUS, 4, 2⟩
def HIF_STATUS.WIDTH : Fld := ⟨HIF_STATUS, 8, 5⟩
def HIF_STATUS.FLR_SEEN : Fld := ⟨HIF_STATUS, 9, 9⟩
def HIF_HOSTLOSS : Nat := 0x10008
def HIF_HOSTLOSS.POLICY : Fld := ⟨HIF_HOSTLOSS, 1, 0⟩
def HIF_HOSTLOSS.GROUPS : Fld := ⟨HIF_HOSTLOSS, 31, 16⟩
def HIF_HB : Nat := 0x1000c
def HIF_HB.TIMEOUT : Fld := ⟨HIF_HB, 15, 0⟩
def HIF_HB.AGE : Fld := ⟨HIF_HB, 31, 16⟩
def HIF_BAD_ACCESS_CNT : Nat := 0x10010
def HIF_BAD_ACCESS_CNT.SIZE : Fld := ⟨HIF_BAD_ACCESS_CNT, 15, 0⟩
def HIF_BAD_ACCESS_CNT.SAF : Fld := ⟨HIF_BAD_ACCESS_CNT, 31, 16⟩
def HIF_DMA_ERR_CNT : Nat := 0x10014
def HIF_SCHED_PENDING : Nat := 0x10018
def HIF_SCHED_PENDING.COUNT : Fld := ⟨HIF_SCHED_PENDING, 8, 0⟩
def HIF_EVT_BASE_LO : Nat := 0x10020
def HIF_EVT_BASE_HI : Nat := 0x10024
def HIF_EVT_CFG : Nat := 0x10028
def HIF_EVT_CFG.EN : Fld := ⟨HIF_EVT_CFG, 0, 0⟩
def HIF_EVT_CFG.SIZE_LOG2 : Fld := ⟨HIF_EVT_CFG, 7, 4⟩
def HIF_EVT_CFG.VECTOR : Fld := ⟨HIF_EVT_CFG, 13, 8⟩
def HIF_EVT_TAIL : Nat := 0x1002c
def HIF_EVT_TAIL.TAIL : Fld := ⟨HIF_EVT_TAIL, 15, 0⟩
def HIF_EVT_WB_LO : Nat := 0x10030
def HIF_EVT_WB_HI : Nat := 0x10034
def HIF_EVT_STATUS : Nat := 0x10038
def HIF_EVT_STATUS.OVERFLOW : Fld := ⟨HIF_EVT_STATUS, 0, 0⟩
def HIF_EVT_OVF_CNT : Nat := 0x1003c
def HIF_SQ_BASE_LO (i : Nat) : Nat := 0x10100 + 0x20 * i
def HIF_SQ_BASE_HI (i : Nat) : Nat := 0x10104 + 0x20 * i
def HIF_SQ_CFG (i : Nat) : Nat := 0x10108 + 0x20 * i
def HIF_SQ_CFG.EN (i : Nat) : Fld := ⟨HIF_SQ_CFG i, 0, 0⟩
def HIF_SQ_CFG.SIZE_LOG2 (i : Nat) : Fld := ⟨HIF_SQ_CFG i, 7, 4⟩
def HIF_SQ_CFG.CQ (i : Nat) : Fld := ⟨HIF_SQ_CFG i, 13, 8⟩
def HIF_SQ_CFG.PRIO (i : Nat) : Fld := ⟨HIF_SQ_CFG i, 15, 14⟩
def HIF_SQ_HEAD (i : Nat) : Nat := 0x1010c + 0x20 * i
def HIF_SQ_HEAD.HEAD (i : Nat) : Fld := ⟨HIF_SQ_HEAD i, 15, 0⟩
def HIF_SQ_STATUS (i : Nat) : Nat := 0x10110 + 0x20 * i
def HIF_SQ_STATUS.ERR (i : Nat) : Fld := ⟨HIF_SQ_STATUS i, 0, 0⟩
def HIF_SQ_STATUS.CODE (i : Nat) : Fld := ⟨HIF_SQ_STATUS i, 3, 1⟩
def HIF_SQ_ACCEPTED (i : Nat) : Nat := 0x10114 + 0x20 * i
def HIF_CQ_BASE_LO (i : Nat) : Nat := 0x10900 + 0x20 * i
def HIF_CQ_BASE_HI (i : Nat) : Nat := 0x10904 + 0x20 * i
def HIF_CQ_CFG (i : Nat) : Nat := 0x10908 + 0x20 * i
def HIF_CQ_CFG.EN (i : Nat) : Fld := ⟨HIF_CQ_CFG i, 0, 0⟩
def HIF_CQ_CFG.SIZE_LOG2 (i : Nat) : Fld := ⟨HIF_CQ_CFG i, 7, 4⟩
def HIF_CQ_CFG.VECTOR (i : Nat) : Fld := ⟨HIF_CQ_CFG i, 13, 8⟩
def HIF_CQ_TAIL (i : Nat) : Nat := 0x1090c + 0x20 * i
def HIF_CQ_TAIL.TAIL (i : Nat) : Fld := ⟨HIF_CQ_TAIL i, 15, 0⟩
def HIF_CQ_TAIL.PHASE (i : Nat) : Fld := ⟨HIF_CQ_TAIL i, 16, 16⟩
def HIF_CQ_OWED (i : Nat) : Nat := 0x10910 + 0x20 * i
def HIF_CQ_OWED.COUNT (i : Nat) : Fld := ⟨HIF_CQ_OWED i, 16, 0⟩
def HIF_CQ_OWED.ERR (i : Nat) : Fld := ⟨HIF_CQ_OWED i, 31, 31⟩
def HIF_DB_SQ (i : Nat) : Nat := 0x12000 + 0x8 * i
def HIF_DB_SQ.TAIL (i : Nat) : Fld := ⟨HIF_DB_SQ i, 15, 0⟩
def HIF_DB_CQ (i : Nat) : Nat := 0x12004 + 0x8 * i
def HIF_DB_CQ.HEAD (i : Nat) : Fld := ⟨HIF_DB_CQ i, 15, 0⟩
def HIF_DB_EVT : Nat := 0x12400
def HIF_DB_EVT.HEAD : Fld := ⟨HIF_DB_EVT, 15, 0⟩
def HIF_VEC (i : Nat) : Nat := 0x13000 + 0x4 * i
def HIF_VEC.COUNT (i : Nat) : Fld := ⟨HIF_VEC i, 7, 0⟩
def HIF_VEC.TIME (i : Nat) : Fld := ⟨HIF_VEC i, 23, 8⟩
def HIF_MSIX_ADDR_LO (i : Nat) : Nat := 0x18000 + 0x10 * i
def HIF_MSIX_ADDR_HI (i : Nat) : Nat := 0x18004 + 0x10 * i
def HIF_MSIX_DATA (i : Nat) : Nat := 0x18008 + 0x10 * i
def HIF_MSIX_CTRL (i : Nat) : Nat := 0x1800c + 0x10 * i
def HIF_MSIX_CTRL.MASK (i : Nat) : Fld := ⟨HIF_MSIX_CTRL i, 0, 0⟩
def HIF_MSIX_PBA (i : Nat) : Nat := 0x1c000 + 0x4 * i
/-- Part 1 of the HIF register table (R385, R412). -/
def regsHIFA : List RegDesc :=
  [⟨0x10000, [], 0x0, 0, 0x1, 0x0, 0x0, 0x0, 0x0, 0x0⟩,
   ⟨0x10004, [], 0x0, 0, 0x0, 0x200, 0x0, 0x0, 0x0, 0x0⟩,
   ⟨0x10008, [], 0x0, 0, 0xffff0003, 0x0, 0x0, 0x0, 0x0, 0x0⟩,
   ⟨0x1000c, [], 0x0, 0, 0x0, 0x0, 0x0, 0x0, 0x0, 0x0⟩,
   ⟨0x10010, [], 0x0, 0, 0x0, 0x0, 0x0, 0x0, 0xffffffff, 0x0⟩,
   ⟨0x10014, [], 0x0, 0, 0x0, 0x0, 0x0, 0x0, 0xffffffff, 0x0⟩,
   ⟨0x10018, [], 0x0, 0, 0x0, 0x0, 0x0, 0x0, 0x0, 0x0⟩,
   ⟨0x10020, [], 0x0, 0, 0xffffffff, 0x0, 0x0, 0x0, 0x0, 0x0⟩,
   ⟨0x10024, [], 0x0, 0, 0xffffffff, 0x0, 0x0, 0x0, 0x0, 0x0⟩,
   ⟨0x10028, [], 0x40, 0, 0x3ff1, 0x0, 0x0, 0x0, 0x0, 0x0⟩,
   ⟨0x1002c, [], 0x0, 0, 0x0, 0x0, 0x0, 0x0, 0x0, 0x0⟩,
   ⟨0x10030, [], 0x0, 0, 0xffffffff, 0x0, 0x0, 0x0, 0x0, 0x0⟩,
   ⟨0x10034, [], 0x0, 0, 0xffffffff, 0x0, 0x0, 0x0, 0x0, 0x0⟩,
   ⟨0x10038, [], 0x0, 0, 0x0, 0x1, 0x0, 0x0, 0x0, 0x0⟩,
   ⟨0x1003c, [], 0x0, 0, 0x0, 0x0, 0x0, 0x0, 0xffffffff, 0x0⟩,
   ⟨0x10100, [(0x20, 64)], 0x0, 0, 0xffffffff, 0x0, 0x0, 0x0, 0x0, 0x0⟩,
   ⟨0x10104, [(0x20, 64)], 0x0, 0, 0xffffffff, 0x0, 0x0, 0x0, 0x0, 0x0⟩,
   ⟨0x10108, [(0x20, 64)], 0x0, 0, 0xfff1, 0x0, 0x0, 0x0, 0x0, 0x0⟩,
   ⟨0x1010c, [(0x20, 64)], 0x0, 0, 0x0, 0x0, 0x0, 0x0, 0x0, 0x0⟩,
   ⟨0x10110, [(0x20, 64)], 0x0, 0, 0x0, 0x1, 0x0, 0x0, 0x0, 0x0⟩]
/-- Part 2 of the HIF register table (R385, R412). -/
def regsHIFB : List RegDesc :=
  [⟨0x10114, [(0x20, 64)], 0x0, 0, 0x0, 0x0, 0x0, 0x0, 0xffffffff, 0x0⟩,
   ⟨0x10900, [(0x20, 64)], 0x0, 0, 0xffffffff, 0x0, 0x0, 0x0, 0x0, 0x0⟩,
   ⟨0x10904, [(0x20, 64)], 0x0, 0, 0xffffffff, 0x0, 0x0, 0x0, 0x0, 0x0⟩,
   ⟨0x10908, [(0x20, 64)], 0x0, 0, 0x3ff1, 0x0, 0x0, 0x0, 0x0, 0x0⟩,
   ⟨0x1090c, [(0x20, 64)], 0x10000, 0, 0x0, 0x0, 0x0, 0x0, 0x0, 0x0⟩,
   ⟨0x10910, [(0x20, 64)], 0x0, 0, 0x0, 0x80000000, 0x0, 0x0, 0x0, 0x0⟩,
   ⟨0x12000, [(0x8, 64)], 0x0, 0, 0xffff, 0x0, 0x0, 0x0, 0x0, 0x0⟩,
   ⟨0x12004, [(0x8, 64)], 0x0, 0, 0xffff, 0x0, 0x0, 0x0, 0x0, 0x0⟩,
   ⟨0x12400, [], 0x0, 0, 0xffff, 0x0, 0x0, 0x0, 0x0, 0x0⟩,
   ⟨0x13000, [(0x4, 64)], 0x1, 0, 0xffffff, 0x0, 0x0, 0x0, 0x0, 0x0⟩,
   ⟨0x18000, [(0x10, 64)], 0x0, 0, 0xffffffff, 0x0, 0x0, 0x0, 0x0, 0x0⟩,
   ⟨0x18004, [(0x10, 64)], 0x0, 0, 0xffffffff, 0x0, 0x0, 0x0, 0x0, 0x0⟩,
   ⟨0x18008, [(0x10, 64)], 0x0, 0, 0xffffffff, 0x0, 0x0, 0x0, 0x0, 0x0⟩,
   ⟨0x1800c, [(0x10, 64)], 0x1, 0, 0x1, 0x0, 0x0, 0x0, 0x0, 0x0⟩,
   ⟨0x1c000, [(0x4, 2)], 0x0, 0, 0x0, 0x0, 0x0, 0x0, 0x0, 0x0⟩]
/-- The HIF register table (R385, R412). -/
def regsHIF : List RegDesc := regsHIFA ++ regsHIFB

/-! SCH (R437). -/
def SCH_STATUS : Nat := 0xe0000
def SCH_STATUS.CORE_ON : Fld := ⟨SCH_STATUS, 5, 0⟩
def SCH_STATUS.CORE_IDLE : Fld := ⟨SCH_STATUS, 11, 6⟩
def SCH_STATUS.OVERFLOW : Fld := ⟨SCH_STATUS, 12, 12⟩
def SCH_STOCKROOM : Nat := 0xe0004
def SCH_STOCKROOM.USED : Fld := ⟨SCH_STOCKROOM, 8, 0⟩
def SCH_STOCKROOM.RETIRED : Fld := ⟨SCH_STOCKROOM, 24, 16⟩
def SCH_DISPATCH_CNT : Nat := 0xe0008
def SCH_PREEMPT_CNT : Nat := 0xe000c
def SCH_REFUSED_CNT : Nat := 0xe0010
def SCH_CORE (i : Nat) : Nat := 0xe0040 + 0x4 * i
def SCH_CORE.TASK (i : Nat) : Fld := ⟨SCH_CORE i, 8, 0⟩
def SCH_CORE.PRIO (i : Nat) : Fld := ⟨SCH_CORE i, 13, 9⟩
def SCH_LEVEL (i : Nat) : Nat := 0xe0100 + 0x4 * i
def SCH_LEVEL.DEPTH (i : Nat) : Fld := ⟨SCH_LEVEL i, 6, 0⟩
def SCH_LEVEL.SPILLED (i : Nat) : Fld := ⟨SCH_LEVEL i, 24, 16⟩
def SCH_UNREADY (i : Nat) : Nat := 0xe0200 + 0x4 * i
def SCH_TASK_W0 (i : Nat) : Nat := 0xe1000 + 0x10 * i
def SCH_TASK_W0.STATE (i : Nat) : Fld := ⟨SCH_TASK_W0 i, 2, 0⟩
def SCH_TASK_W0.PRIO (i : Nat) : Fld := ⟨SCH_TASK_W0 i, 7, 3⟩
def SCH_TASK_W0.AFFINITY (i : Nat) : Fld := ⟨SCH_TASK_W0 i, 13, 8⟩
def SCH_TASK_W0.ALL (i : Nat) : Fld := ⟨SCH_TASK_W0 i, 14, 14⟩
def SCH_TASK_W0.TIMER (i : Nat) : Fld := ⟨SCH_TASK_W0 i, 15, 15⟩
def SCH_TASK_W0.FILTER (i : Nat) : Fld := ⟨SCH_TASK_W0 i, 16, 16⟩
def SCH_TASK_W1 (i : Nat) : Nat := 0xe1004 + 0x10 * i
def SCH_TASK_W2 (i : Nat) : Nat := 0xe1008 + 0x10 * i
def SCH_TASK_W3 (i : Nat) : Nat := 0xe100c + 0x10 * i
def SCH_TASK_W3.RUNS (i : Nat) : Fld := ⟨SCH_TASK_W3 i, 15, 0⟩
def SCH_TASK_W3.SKIPS (i : Nat) : Fld := ⟨SCH_TASK_W3 i, 31, 16⟩
/-- The SCH register table (R437). -/
def regsSCH : List RegDesc :=
  [⟨0xe0000, [], 0x0, 0, 0x0, 0x0, 0x0, 0x0, 0x0, 0x0⟩,
   ⟨0xe0004, [], 0x0, 0, 0x0, 0x0, 0x0, 0x0, 0x0, 0x0⟩,
   ⟨0xe0008, [], 0x0, 0, 0x0, 0x0, 0x0, 0x0, 0xffffffff, 0x0⟩,
   ⟨0xe000c, [], 0x0, 0, 0x0, 0x0, 0x0, 0x0, 0xffffffff, 0x0⟩,
   ⟨0xe0010, [], 0x0, 0, 0x0, 0x0, 0x0, 0x0, 0xffffffff, 0x0⟩,
   ⟨0xe0040, [(0x4, 6)], 0x1ff, 0, 0x0, 0x0, 0x0, 0x0, 0x0, 0x0⟩,
   ⟨0xe0100, [(0x4, 32)], 0x0, 0, 0x0, 0x0, 0x0, 0x0, 0x0, 0x0⟩,
   ⟨0xe0200, [(0x4, 8)], 0x0, 0, 0x0, 0x0, 0x0, 0x0, 0x0, 0x0⟩,
   ⟨0xe1000, [(0x10, 256)], 0x0, 0, 0x0, 0x0, 0x0, 0x0, 0x0, 0x0⟩,
   ⟨0xe1004, [(0x10, 256)], 0x0, 0, 0x0, 0x0, 0x0, 0x0, 0x0, 0x0⟩,
   ⟨0xe1008, [(0x10, 256)], 0x0, 0, 0x0, 0x0, 0x0, 0x0, 0x0, 0x0⟩,
   ⟨0xe100c, [(0x10, 256)], 0x0, 0, 0x0, 0x0, 0x0, 0x0, 0x0, 0x0⟩]

/-! MMU (R438). -/
def MMU_FAULT_CNT : Nat := 0xe8000
def MMU_HARD_CNT : Nat := 0xe8004
def MMU_MISS_CNT : Nat := 0xe8008
def MMU_CTX_L1_LO (i : Nat) : Nat := 0xe8100 + 0x10 * i
def MMU_CTX_L1_HI (i : Nat) : Nat := 0xe8104 + 0x10 * i
def MMU_CTX_CFG (i : Nat) : Nat := 0xe8108 + 0x10 * i
def MMU_CTX_CFG.EN (i : Nat) : Fld := ⟨MMU_CTX_CFG i, 0, 0⟩
def MMU_CTX_CFG.DEMAND (i : Nat) : Fld := ⟨MMU_CTX_CFG i, 1, 1⟩
def MMU_CTX_POOL (i : Nat) : Nat := 0xe810c + 0x10 * i
/-- The MMU register table (R438). -/
def regsMMU : List RegDesc :=
  [⟨0xe8000, [], 0x0, 0, 0x0, 0x0, 0x0, 0x0, 0xffffffff, 0x0⟩,
   ⟨0xe8004, [], 0x0, 0, 0x0, 0x0, 0x0, 0x0, 0xffffffff, 0x0⟩,
   ⟨0xe8008, [], 0x0, 0, 0x0, 0x0, 0x0, 0x0, 0xffffffff, 0x0⟩,
   ⟨0xe8100, [(0x10, 64)], 0x0, 0, 0x0, 0x0, 0x0, 0x0, 0x0, 0x0⟩,
   ⟨0xe8104, [(0x10, 64)], 0x0, 0, 0x0, 0x0, 0x0, 0x0, 0x0, 0x0⟩,
   ⟨0xe8108, [(0x10, 64)], 0x0, 0, 0x0, 0x0, 0x0, 0x0, 0x0, 0x0⟩,
   ⟨0xe810c, [(0x10, 64)], 0x0, 0, 0x0, 0x0, 0x0, 0x0, 0x0, 0x0⟩]

/-! DMA (R439). -/
def DMA_STATUS : Nat := 0xf0000
def DMA_STATUS.ACTIVE : Fld := ⟨DMA_STATUS, 15, 0⟩
def DMA_STATUS.PARKED : Fld := ⟨DMA_STATUS, 31, 16⟩
def DMA_POOL : Nat := 0xf0004
def DMA_POOL.FREE : Fld := ⟨DMA_POOL, 10, 0⟩
def DMA_NORES_CNT : Nat := 0xf0008
def DMA_CH_STATUS (i : Nat) : Nat := 0xf0100 + 0x40 * i
def DMA_CH_STATUS.STATE (i : Nat) : Fld := ⟨DMA_CH_STATUS i, 1, 0⟩
def DMA_CH_STATUS.CLASS (i : Nat) : Fld := ⟨DMA_CH_STATUS i, 3, 2⟩
def DMA_CH_STATUS.HOST_FAULT (i : Nat) : Fld := ⟨DMA_CH_STATUS i, 4, 4⟩
def DMA_CH_STATUS.OVERFLOW (i : Nat) : Fld := ⟨DMA_CH_STATUS i, 5, 5⟩
def DMA_CH_STATUS.DEPTH (i : Nat) : Fld := ⟨DMA_CH_STATUS i, 12, 8⟩
def DMA_CH_STATUS.LAST (i : Nat) : Fld := ⟨DMA_CH_STATUS i, 18, 16⟩
def DMA_CH_OVF_CNT (i : Nat) : Nat := 0xf0104 + 0x40 * i
def DMA_CH_LEFT (i : Nat) : Nat := 0xf0108 + 0x40 * i
def DMA_CH_DONE_CNT (i : Nat) : Nat := 0xf010c + 0x40 * i
def DMA_CH_FAULT_VA_LO (i : Nat) : Nat := 0xf0110 + 0x40 * i
def DMA_CH_FAULT_VA_HI (i : Nat) : Nat := 0xf0114 + 0x40 * i
def DMA_CH_FAULT (i : Nat) : Nat := 0xf0118 + 0x40 * i
def DMA_CH_FAULT.CTX (i : Nat) : Fld := ⟨DMA_CH_FAULT i, 5, 0⟩
def DMA_CH_FAULT.WRITE (i : Nat) : Fld := ⟨DMA_CH_FAULT i, 6, 6⟩
def DMA_CH_FAULT.HARD (i : Nat) : Fld := ⟨DMA_CH_FAULT i, 7, 7⟩
def DMA_CH_PARK (i : Nat) : Nat := 0xf011c + 0x40 * i
/-- The DMA register table (R439). -/
def regsDMA : List RegDesc :=
  [⟨0xf0000, [], 0x0, 0, 0x0, 0x0, 0x0, 0x0, 0x0, 0x0⟩,
   ⟨0xf0004, [], 0x400, 0, 0x0, 0x0, 0x0, 0x0, 0x0, 0x0⟩,
   ⟨0xf0008, [], 0x0, 0, 0x0, 0x0, 0x0, 0x0, 0xffffffff, 0x0⟩,
   ⟨0xf0100, [(0x40, 16)], 0x0, 0, 0x0, 0x20, 0x0, 0x0, 0x0, 0x0⟩,
   ⟨0xf0104, [(0x40, 16)], 0x0, 0, 0x0, 0x0, 0x0, 0x0, 0xffffffff, 0x0⟩,
   ⟨0xf0108, [(0x40, 16)], 0x0, 0, 0x0, 0x0, 0x0, 0x0, 0x0, 0x0⟩,
   ⟨0xf010c, [(0x40, 16)], 0x0, 0, 0x0, 0x0, 0x0, 0x0, 0xffffffff, 0x0⟩,
   ⟨0xf0110, [(0x40, 16)], 0x0, 0, 0x0, 0x0, 0x0, 0x0, 0x0, 0x0⟩,
   ⟨0xf0114, [(0x40, 16)], 0x0, 0, 0x0, 0x0, 0x0, 0x0, 0x0, 0x0⟩,
   ⟨0xf0118, [(0x40, 16)], 0x0, 0, 0x0, 0x0, 0x0, 0x0, 0x0, 0x0⟩,
   ⟨0xf011c, [(0x40, 16)], 0x0, 0, 0x0, 0x0, 0x0, 0x0, 0x0, 0x0⟩]

/-! SEC (R460). -/
def SEC_STATUS : Nat := 0x20000
def SEC_STATUS.PROVISIONED : Fld := ⟨SEC_STATUS, 0, 0⟩
def SEC_STATUS.DEBUG_LOCK : Fld := ⟨SEC_STATUS, 1, 1⟩
def SEC_STATUS.BOOT_SLOT : Fld := ⟨SEC_STATUS, 2, 2⟩
def SEC_STATUS.FALLBACK : Fld := ⟨SEC_STATUS, 3, 3⟩
def SEC_STATUS.SEALED_REASON : Fld := ⟨SEC_STATUS, 7, 4⟩
def SEC_STATUS.SCOPE : Fld := ⟨SEC_STATUS, 11, 8⟩
def SEC_STATUS.SESSIONS : Fld := ⟨SEC_STATUS, 15, 12⟩
def SEC_STATUS.LAST_VIOLATION : Fld := ⟨SEC_STATUS, 23, 16⟩
def SEC_ARB : Nat := 0x20004
def SEC_ARB.VALUE : Fld := ⟨SEC_ARB, 6, 0⟩
def SEC_ROOTS : Nat := 0x20008
def SEC_FW : Nat := 0x2000c
def SEC_FW.VERSION : Fld := ⟨SEC_FW, 15, 0⟩
def SEC_FW.CLASS : Fld := ⟨SEC_FW, 31, 16⟩
def SEC_KEYGEN : Nat := 0x20010
def SEC_KEYGEN.RECORD_GEN : Fld := ⟨SEC_KEYGEN, 15, 0⟩
def SEC_DEBUG_LEFT : Nat := 0x20014
def SEC_AUTH_FAIL_CNT : Nat := 0x20018
def SEC_TOKEN_FAIL_CNT : Nat := 0x2001c
def SEC_TOKEN_FAIL_CNT.COUNT : Fld := ⟨SEC_TOKEN_FAIL_CNT, 7, 0⟩
/-- The SEC register table (R460). -/
def regsSEC : List RegDesc :=
  [⟨0x20000, [], 0x0, 0, 0x0, 0x0, 0x0, 0x0, 0x0, 0x0⟩,
   ⟨0x20004, [], 0x0, 0, 0x0, 0x0, 0x0, 0x0, 0x0, 0x0⟩,
   ⟨0x20008, [], 0x0, 0, 0x0, 0x0, 0x0, 0x0, 0x0, 0x0⟩,
   ⟨0x2000c, [], 0x0, 0, 0x0, 0x0, 0x0, 0x0, 0x0, 0x0⟩,
   ⟨0x20010, [], 0x0, 0, 0x0, 0x0, 0x0, 0x0, 0x0, 0x0⟩,
   ⟨0x20014, [], 0x0, 0, 0x0, 0x0, 0x0, 0x0, 0x0, 0x0⟩,
   ⟨0x20018, [], 0x0, 0, 0x0, 0x0, 0x0, 0x0, 0xffffffff, 0x0⟩,
   ⟨0x2001c, [], 0x0, 0, 0x0, 0x0, 0x0, 0x0, 0x0, 0x0⟩]

/-! CAN (R483). -/
def CAN_CTRL (i : Nat) : Nat := 0xd0000 + 0x8000 * i
def CAN_CTRL.LISTEN (i : Nat) : Fld := ⟨CAN_CTRL i, 0, 0⟩
def CAN_CTRL.LOOPBACK (i : Nat) : Fld := ⟨CAN_CTRL i, 1, 1⟩
def CAN_CTRL.MAILBOX (i : Nat) : Fld := ⟨CAN_CTRL i, 2, 2⟩
def CAN_CTRL.FD_EN (i : Nat) : Fld := ⟨CAN_CTRL i, 3, 3⟩
def CAN_CTRL.BRS_EN (i : Nat) : Fld := ⟨CAN_CTRL i, 4, 4⟩
def CAN_CTRL.AUTO_RECOVER (i : Nat) : Fld := ⟨CAN_CTRL i, 5, 5⟩
def CAN_CTRL.ONE_SHOT (i : Nat) : Fld := ⟨CAN_CTRL i, 6, 6⟩
def CAN_CTRL.DC_EN (i : Nat) : Fld := ⟨CAN_CTRL i, 7, 7⟩
def CAN_CTRL.NONMATCH (i : Nat) : Fld := ⟨CAN_CTRL i, 9, 8⟩
def CAN_CTRL.REJECT_REMOTE (i : Nat) : Fld := ⟨CAN_CTRL i, 10, 10⟩
def CAN_APPLY (i : Nat) : Nat := 0xd0004 + 0x8000 * i
def CAN_APPLY.APPLY (i : Nat) : Fld := ⟨CAN_APPLY i, 0, 0⟩
def CAN_APPLY.REFUSED (i : Nat) : Fld := ⟨CAN_APPLY i, 1, 1⟩
def CAN_ARB_TIMING (i : Nat) : Nat := 0xd0008 + 0x8000 * i
def CAN_ARB_TIMING.PRESC (i : Nat) : Fld := ⟨CAN_ARB_TIMING i, 7, 0⟩
def CAN_ARB_TIMING.SEG1 (i : Nat) : Fld := ⟨CAN_ARB_TIMING i, 16, 8⟩
def CAN_ARB_TIMING.SEG2 (i : Nat) : Fld := ⟨CAN_ARB_TIMING i, 23, 17⟩
def CAN_ARB_TIMING.SJW (i : Nat) : Fld := ⟨CAN_ARB_TIMING i, 30, 24⟩
def CAN_DATA_TIMING (i : Nat) : Nat := 0xd000c + 0x8000 * i
def CAN_DATA_TIMING.PRESC (i : Nat) : Fld := ⟨CAN_DATA_TIMING i, 4, 0⟩
def CAN_DATA_TIMING.SEG1 (i : Nat) : Fld := ⟨CAN_DATA_TIMING i, 10, 5⟩
def CAN_DATA_TIMING.SEG2 (i : Nat) : Fld := ⟨CAN_DATA_TIMING i, 15, 11⟩
def CAN_DATA_TIMING.SJW (i : Nat) : Fld := ⟨CAN_DATA_TIMING i, 20, 16⟩
def CAN_DELAY_COMP (i : Nat) : Nat := 0xd0010 + 0x8000 * i
def CAN_DELAY_COMP.OFFSET (i : Nat) : Fld := ⟨CAN_DELAY_COMP i, 7, 0⟩
def CAN_DELAY_COMP.MIN_DELAY (i : Nat) : Fld := ⟨CAN_DELAY_COMP i, 15, 8⟩
def CAN_DELAY_COMP.MEASURED (i : Nat) : Fld := ⟨CAN_DELAY_COMP i, 23, 16⟩
def CAN_STATUS (i : Nat) : Nat := 0xd0014 + 0x8000 * i
def CAN_STATUS.STATE (i : Nat) : Fld := ⟨CAN_STATUS i, 1, 0⟩
def CAN_STATUS.ERR_STATE (i : Nat) : Fld := ⟨CAN_STATUS i, 3, 2⟩
def CAN_STATUS.WARNING (i : Nat) : Fld := ⟨CAN_STATUS i, 4, 4⟩
def CAN_STATUS.RECOVERING (i : Nat) : Fld := ⟨CAN_STATUS i, 5, 5⟩
def CAN_STATUS.LAST_ERROR (i : Nat) : Fld := ⟨CAN_STATUS i, 8, 6⟩
def CAN_STATUS.DATA_ERROR (i : Nat) : Fld := ⟨CAN_STATUS i, 11, 9⟩
def CAN_STATUS.PROTOCOL_EXC (i : Nat) : Fld := ⟨CAN_STATUS i, 12, 12⟩
def CAN_ECR (i : Nat) : Nat := 0xd0018 + 0x8000 * i
def CAN_ECR.TEC (i : Nat) : Fld := ⟨CAN_ECR i, 7, 0⟩
def CAN_ECR.REC (i : Nat) : Fld := ⟨CAN_ECR i, 14, 8⟩
def CAN_ECR.RP (i : Nat) : Fld := ⟨CAN_ECR i, 15, 15⟩
def CAN_ERR_CNT (i : Nat) : Nat := 0xd001c + 0x8000 * i
def CAN_RAM_RULES (i : Nat) : Nat := 0xd0020 + 0x8000 * i
def CAN_RAM_RULES.START (i : Nat) : Fld := ⟨CAN_RAM_RULES i, 13, 0⟩
def CAN_RAM_RULES.COUNT (i : Nat) : Fld := ⟨CAN_RAM_RULES i, 23, 16⟩
def CAN_RAM_RX0 (i : Nat) : Nat := 0xd0024 + 0x8000 * i
def CAN_RAM_RX0.START (i : Nat) : Fld := ⟨CAN_RAM_RX0 i, 13, 0⟩
def CAN_RAM_RX0.COUNT (i : Nat) : Fld := ⟨CAN_RAM_RX0 i, 23, 16⟩
def CAN_RAM_RX1 (i : Nat) : Nat := 0xd0028 + 0x8000 * i
def CAN_RAM_RX1.START (i : Nat) : Fld := ⟨CAN_RAM_RX1 i, 13, 0⟩
def CAN_RAM_RX1.COUNT (i : Nat) : Fld := ⟨CAN_RAM_RX1 i, 23, 16⟩
def CAN_RAM_TX (i : Nat) : Nat := 0xd002c + 0x8000 * i
def CAN_RAM_TX.START (i : Nat) : Fld := ⟨CAN_RAM_TX i, 13, 0⟩
def CAN_RAM_TX.COUNT (i : Nat) : Fld := ⟨CAN_RAM_TX i, 23, 16⟩
def CAN_RAM_TXE (i : Nat) : Nat := 0xd0030 + 0x8000 * i
def CAN_RAM_TXE.START (i : Nat) : Fld := ⟨CAN_RAM_TXE i, 13, 0⟩
def CAN_RAM_TXE.COUNT (i : Nat) : Fld := ⟨CAN_RAM_TXE i, 23, 16⟩
def CAN_RAM_MBX (i : Nat) : Nat := 0xd0034 + 0x8000 * i
def CAN_RAM_MBX.START (i : Nat) : Fld := ⟨CAN_RAM_MBX i, 13, 0⟩
def CAN_RAM_MBX.COUNT (i : Nat) : Fld := ⟨CAN_RAM_MBX i, 23, 16⟩
def CAN_RX_STATUS (i j : Nat) : Nat := 0xd0040 + 0x8000 * i + 0x10 * j
def CAN_RX_STATUS.FILL (i j : Nat) : Fld := ⟨CAN_RX_STATUS i j, 6, 0⟩
def CAN_RX_STATUS.GET (i j : Nat) : Fld := ⟨CAN_RX_STATUS i j, 13, 8⟩
def CAN_RX_STATUS.PUT (i j : Nat) : Fld := ⟨CAN_RX_STATUS i j, 21, 16⟩
def CAN_RX_STATUS.OVERFLOW (i j : Nat) : Fld := ⟨CAN_RX_STATUS i j, 24, 24⟩
def CAN_RX_ACK (i j : Nat) : Nat := 0xd0044 + 0x8000 * i + 0x10 * j
def CAN_RX_ACK.GET (i j : Nat) : Fld := ⟨CAN_RX_ACK i j, 5, 0⟩
def CAN_RX_OVF_CNT (i j : Nat) : Nat := 0xd0048 + 0x8000 * i + 0x10 * j
def CAN_TX_REQ (i : Nat) : Nat := 0xd0060 + 0x8000 * i
def CAN_TX_CANCEL (i : Nat) : Nat := 0xd0064 + 0x8000 * i
def CAN_TX_PENDING (i : Nat) : Nat := 0xd0068 + 0x8000 * i
def CAN_TX_SENT (i : Nat) : Nat := 0xd006c + 0x8000 * i
def CAN_TXE_STATUS (i : Nat) : Nat := 0xd0070 + 0x8000 * i
def CAN_TXE_STATUS.FILL (i : Nat) : Fld := ⟨CAN_TXE_STATUS i, 5, 0⟩
def CAN_TXE_STATUS.GET (i : Nat) : Fld := ⟨CAN_TXE_STATUS i, 12, 8⟩
def CAN_TXE_STATUS.PUT (i : Nat) : Fld := ⟨CAN_TXE_STATUS i, 20, 16⟩
def CAN_TXE_STATUS.OVERFLOW (i : Nat) : Fld := ⟨CAN_TXE_STATUS i, 24, 24⟩
def CAN_TXE_ACK (i : Nat) : Nat := 0xd0074 + 0x8000 * i
def CAN_TXE_ACK.GET (i : Nat) : Fld := ⟨CAN_TXE_ACK i, 4, 0⟩
def CAN_TXE_OVF_CNT (i : Nat) : Nat := 0xd0078 + 0x8000 * i
def CAN_HB_ID (i : Nat) : Nat := 0xd0080 + 0x8000 * i
def CAN_HB_ID.ID (i : Nat) : Fld := ⟨CAN_HB_ID i, 28, 0⟩
def CAN_HB_ID.XTD (i : Nat) : Fld := ⟨CAN_HB_ID i, 29, 29⟩
def CAN_HB_ID.FDF (i : Nat) : Fld := ⟨CAN_HB_ID i, 30, 30⟩
def CAN_HB_ID.EN (i : Nat) : Fld := ⟨CAN_HB_ID i, 31, 31⟩
def CAN_HB_PERIOD (i : Nat) : Nat := 0xd0084 + 0x8000 * i
def CAN_HB_PERIOD.MS (i : Nat) : Fld := ⟨CAN_HB_PERIOD i, 13, 0⟩
def CAN_AUTOBAUD (i : Nat) : Nat := 0xd0088 + 0x8000 * i
def CAN_AUTOBAUD.RESULT (i : Nat) : Fld := ⟨CAN_AUTOBAUD i, 7, 0⟩
def CAN_AUTOBAUD.DATA_VERIFIED (i : Nat) : Fld := ⟨CAN_AUTOBAUD i, 8, 8⟩
def CAN_MBX_LOCK (i : Nat) : Nat := 0xd0090 + 0x8000 * i
def CAN_MBX_LOCK.MAILBOX (i : Nat) : Fld := ⟨CAN_MBX_LOCK i, 5, 0⟩
def CAN_MBX_LOCK.LOCKED (i : Nat) : Fld := ⟨CAN_MBX_LOCK i, 6, 6⟩
def CAN_MBX_LOCK.TIMEOUTS (i : Nat) : Fld := ⟨CAN_MBX_LOCK i, 31, 16⟩
def CAN_MBX_NOMATCH_CNT (i : Nat) : Nat := 0xd0094 + 0x8000 * i
def CAN_MBX_LOST_CNT (i : Nat) : Nat := 0xd0098 + 0x8000 * i
def CAN_LAWMAP (i j : Nat) : Nat := 0xd00a0 + 0x8000 * i + 0x4 * j
def CAN_LAWMAP.RULE (i j : Nat) : Fld := ⟨CAN_LAWMAP i j, 6, 0⟩
def CAN_LAWMAP.LINE_MASTER (i j : Nat) : Fld := ⟨CAN_LAWMAP i j, 17, 8⟩
def CAN_LAWMAP.EN (i j : Nat) : Fld := ⟨CAN_LAWMAP i j, 18, 18⟩
/-- Part 1 of the CAN register table (R483). -/
def regsCANA : List RegDesc :=
  [⟨0xd0000, [(0x8000, 2)], 0x20, 0, 0x7ff, 0x0, 0x0, 0x0, 0x0, 0x7ff⟩,
   ⟨0xd0004, [(0x8000, 2)], 0x0, 0, 0x0, 0x0, 0x1, 0x0, 0x0, 0x0⟩,
   ⟨0xd0008, [(0x8000, 2)], 0x70e1e03, 0, 0x7fffffff, 0x0, 0x0, 0x0, 0x0, 0x7fffffff⟩,
   ⟨0xd000c, [(0x8000, 2)], 0x94b80, 0, 0x1fffff, 0x0, 0x0, 0x0, 0x0, 0x1fffff⟩,
   ⟨0xd0010, [(0x8000, 2)], 0x1e, 0, 0xffff, 0x0, 0x0, 0x0, 0x0, 0xffff⟩,
   ⟨0xd0014, [(0x8000, 2)], 0x0, 0, 0x0, 0x1000, 0x0, 0x0, 0x0, 0x0⟩,
   ⟨0xd0018, [(0x8000, 2)], 0x0, 0, 0x0, 0x0, 0x0, 0x0, 0x0, 0x0⟩,
   ⟨0xd001c, [(0x8000, 2)], 0x0, 0, 0x0, 0x0, 0x0, 0x0, 0xffffffff, 0x0⟩,
   ⟨0xd0020, [(0x8000, 2)], 0x0, 0, 0xff3fff, 0x0, 0x0, 0x0, 0x0, 0xff3fff⟩,
   ⟨0xd0024, [(0x8000, 2)], 0x0, 0, 0xff3fff, 0x0, 0x0, 0x0, 0x0, 0xff3fff⟩,
   ⟨0xd0028, [(0x8000, 2)], 0x0, 0, 0xff3fff, 0x0, 0x0, 0x0, 0x0, 0xff3fff⟩,
   ⟨0xd002c, [(0x8000, 2)], 0x0, 0, 0xff3fff, 0x0, 0x0, 0x0, 0x0, 0xff3fff⟩,
   ⟨0xd0030, [(0x8000, 2)], 0x0, 0, 0xff3fff, 0x0, 0x0, 0x0, 0x0, 0xff3fff⟩,
   ⟨0xd0034, [(0x8000, 2)], 0x0, 0, 0xff3fff, 0x0, 0x0, 0x0, 0x0, 0xff3fff⟩,
   ⟨0xd0040, [(0x8000, 2), (0x10, 2)], 0x0, 0, 0x0, 0x1000000, 0x0, 0x0, 0x0, 0x0⟩,
   ⟨0xd0044, [(0x8000, 2), (0x10, 2)], 0x0, 0, 0x0, 0x0, 0x0, 0x3f, 0x0, 0x0⟩,
   ⟨0xd0048, [(0x8000, 2), (0x10, 2)], 0x0, 0, 0x0, 0x0, 0x0, 0x0, 0xffffffff, 0x0⟩,
   ⟨0xd0060, [(0x8000, 2)], 0x0, 0, 0x0, 0x0, 0xffffffff, 0x0, 0x0, 0x0⟩,
   ⟨0xd0064, [(0x8000, 2)], 0x0, 0, 0x0, 0x0, 0xffffffff, 0x0, 0x0, 0x0⟩,
   ⟨0xd0068, [(0x8000, 2)], 0x0, 0, 0x0, 0x0, 0x0, 0x0, 0x0, 0x0⟩]
/-- Part 2 of the CAN register table (R483). -/
def regsCANB : List RegDesc :=
  [⟨0xd006c, [(0x8000, 2)], 0x0, 0, 0x0, 0xffffffff, 0x0, 0x0, 0x0, 0x0⟩,
   ⟨0xd0070, [(0x8000, 2)], 0x0, 0, 0x0, 0x1000000, 0x0, 0x0, 0x0, 0x0⟩,
   ⟨0xd0074, [(0x8000, 2)], 0x0, 0, 0x0, 0x0, 0x0, 0x1f, 0x0, 0x0⟩,
   ⟨0xd0078, [(0x8000, 2)], 0x0, 0, 0x0, 0x0, 0x0, 0x0, 0xffffffff, 0x0⟩,
   ⟨0xd0080, [(0x8000, 2)], 0x0, 0, 0xffffffff, 0x0, 0x0, 0x0, 0x0, 0xffffffff⟩,
   ⟨0xd0084, [(0x8000, 2)], 0x64, 0, 0x3fff, 0x0, 0x0, 0x0, 0x0, 0x3fff⟩,
   ⟨0xd0088, [(0x8000, 2)], 0xff, 0, 0x0, 0x0, 0x0, 0x0, 0x0, 0x0⟩,
   ⟨0xd0090, [(0x8000, 2)], 0x0, 0, 0x0, 0x0, 0x0, 0x0, 0xffff0000, 0x0⟩,
   ⟨0xd0094, [(0x8000, 2)], 0x0, 0, 0x0, 0x0, 0x0, 0x0, 0xffffffff, 0x0⟩,
   ⟨0xd0098, [(0x8000, 2)], 0x0, 0, 0x0, 0x0, 0x0, 0x0, 0xffffffff, 0x0⟩,
   ⟨0xd00a0, [(0x8000, 2), (0x4, 8)], 0x0, 0, 0x7ff7f, 0x0, 0x0, 0x0, 0x0, 0x7ff7f⟩]
/-- The CAN register table (R483). -/
def regsCAN : List RegDesc := regsCANA ++ regsCANB

/-! RST (R504). -/
def RST_CAUSE : Nat := 0x4000
def RST_CAUSE.SOURCE : Fld := ⟨RST_CAUSE, 3, 0⟩
def RST_CAUSE.DETAIL : Fld := ⟨RST_CAUSE, 11, 4⟩
def RST_CAUSE.TIME_VALID : Fld := ⟨RST_CAUSE, 12, 12⟩
def RST_CAUSE_TIME_LO : Nat := 0x4004
def RST_CAUSE_TIME_HI : Nat := 0x4008
def RST_CTRL : Nat := 0x400c
def RST_CTRL.HOT_ACTION : Fld := ⟨RST_CTRL, 0, 0⟩
def RST_STATUS : Nat := 0x4010
def RST_STATUS.DRAM_READY : Fld := ⟨RST_STATUS, 0, 0⟩
def RST_STATUS.BACKUP_LOST : Fld := ⟨RST_STATUS, 1, 1⟩
def RST_VMON : Nat := 0x4014
def RST_VMON.CORE_OK : Fld := ⟨RST_VMON, 0, 0⟩
def RST_VMON.SRAM_OK : Fld := ⟨RST_VMON, 1, 1⟩
def RST_VMON.SAFE_OK : Fld := ⟨RST_VMON, 4, 2⟩
def RST_VMON.SDS09_OK : Fld := ⟨RST_VMON, 5, 5⟩
def RST_VMON.SDS12_OK : Fld := ⟨RST_VMON, 6, 6⟩
def RST_VMON.VDDQ_OK : Fld := ⟨RST_VMON, 7, 7⟩
def RST_VMON.IO_OK : Fld := ⟨RST_VMON, 15, 8⟩
def RST_VMON.VBAT_OK : Fld := ⟨RST_VMON, 16, 16⟩
def RST_WDT : Nat := 0x4018
def RST_WDT.TIMEOUT : Fld := ⟨RST_WDT, 15, 0⟩
def RST_WDT.LEFT : Fld := ⟨RST_WDT, 31, 16⟩
def RST_BLOCK_CNT : Nat := 0x401c
def RST_RTC_SUB : Nat := 0x4020
def RST_RTC_SUB.SUB : Fld := ⟨RST_RTC_SUB, 14, 0⟩
def RST_RTC_SUB.VALID : Fld := ⟨RST_RTC_SUB, 31, 31⟩
def RST_RTC_SEC_LO : Nat := 0x4024
def RST_RTC_SEC_HI : Nat := 0x4028
def RST_TALLY (i : Nat) : Nat := 0x4040 + 0x4 * i
def RST_TALLY.COUNT (i : Nat) : Fld := ⟨RST_TALLY i, 15, 0⟩
/-- The RST register table (R504). -/
def regsRST : List RegDesc :=
  [⟨0x4000, [], 0x0, 0, 0x0, 0x0, 0x0, 0x0, 0x0, 0x0⟩,
   ⟨0x4004, [], 0x0, 0, 0x0, 0x0, 0x0, 0x0, 0x0, 0x0⟩,
   ⟨0x4008, [], 0x0, 0, 0x0, 0x0, 0x0, 0x0, 0x0, 0x0⟩,
   ⟨0x400c, [], 0x0, 0, 0x1, 0x0, 0x0, 0x0, 0x0, 0x0⟩,
   ⟨0x4010, [], 0x0, 0, 0x0, 0x0, 0x0, 0x0, 0x0, 0x0⟩,
   ⟨0x4014, [], 0x3, 0, 0x0, 0x0, 0x0, 0x0, 0x0, 0x0⟩,
   ⟨0x4018, [], 0x3e803e8, 0, 0x0, 0x0, 0x0, 0x0, 0x0, 0x0⟩,
   ⟨0x401c, [], 0x0, 0, 0x0, 0x0, 0x0, 0x0, 0xffffffff, 0x0⟩,
   ⟨0x4020, [], 0x0, 0, 0x0, 0x0, 0x0, 0x0, 0x0, 0x0⟩,
   ⟨0x4024, [], 0x0, 0, 0x0, 0x0, 0x0, 0x0, 0x0, 0x0⟩,
   ⟨0x4028, [], 0x0, 0, 0x0, 0x0, 0x0, 0x0, 0x0, 0x0⟩,
   ⟨0x4040, [(0x4, 9)], 0x0, 0, 0x0, 0x0, 0x0, 0x0, 0x0, 0x0⟩]

/-! CLK (R505). -/
def CLK_PLL : Nat := 0x8000
def CLK_PLL.LOCKED : Fld := ⟨CLK_PLL, 8, 0⟩
def CLK_PLL.RUNNING : Fld := ⟨CLK_PLL, 24, 16⟩
def CLK_REFMON : Nat := 0x8004
def CLK_REFMON.XIN_OK : Fld := ⟨CLK_REFMON, 0, 0⟩
def CLK_REFMON.X32_OK : Fld := ⟨CLK_REFMON, 1, 1⟩
def CLK_REFMON.SDS_REFCLK_OK : Fld := ⟨CLK_REFMON, 2, 2⟩
def CLK_REFMON.PEX_REFCLK_OK : Fld := ⟨CLK_REFMON, 3, 3⟩
def CLK_UNLOCK_CNT : Nat := 0x8008
def CLK_NVM_REFCLK : Nat := 0x800c
def CLK_NVM_REFCLK.EN : Fld := ⟨CLK_NVM_REFCLK, 3, 0⟩
/-- The CLK register table (R505). -/
def regsCLK : List RegDesc :=
  [⟨0x8000, [], 0x0, 0, 0x0, 0x0, 0x0, 0x0, 0x0, 0x0⟩,
   ⟨0x8004, [], 0x1, 0, 0x0, 0x0, 0x0, 0x0, 0x0, 0x0⟩,
   ⟨0x8008, [], 0x0, 0, 0x0, 0x0, 0x0, 0x0, 0xffffffff, 0x0⟩,
   ⟨0x800c, [], 0x0, 0, 0x0, 0x0, 0x0, 0x0, 0x0, 0x0⟩]

/-! PIN (R526). -/
def PIN_BANK (i : Nat) : Nat := 0xc000 + 0x4 * i
def PIN_BANK.LEVEL (i : Nat) : Fld := ⟨PIN_BANK i, 0, 0⟩
def PIN_BANK.POWERED (i : Nat) : Fld := ⟨PIN_BANK i, 1, 1⟩
def PIN_BANK.DRIVE (i : Nat) : Fld := ⟨PIN_BANK i, 3, 2⟩
def PIN_BANK.SLOW (i : Nat) : Fld := ⟨PIN_BANK i, 4, 4⟩
def PIN_MFP (i : Nat) : Nat := 0xc040 + 0x4 * i
def PIN_MFP.FUNC (i : Nat) : Fld := ⟨PIN_MFP i, 3, 0⟩
def PIN_MFP.PARKED (i : Nat) : Fld := ⟨PIN_MFP i, 4, 4⟩
def PIN_MFP.OUT (i : Nat) : Fld := ⟨PIN_MFP i, 5, 5⟩
def PIN_MFP.IN (i : Nat) : Fld := ⟨PIN_MFP i, 6, 6⟩
def PIN_MFP.PULL (i : Nat) : Fld := ⟨PIN_MFP i, 7, 7⟩
def PIN_PARK_CNT : Nat := 0xc0a0
def PIN_MFP_IN : Nat := 0xc0a4
def PIN_MFP_IN.IN : Fld := ⟨PIN_MFP_IN, 23, 0⟩
def PIN_MFP_OUT : Nat := 0xc0a8
def PIN_MFP_OUT.OUT : Fld := ⟨PIN_MFP_OUT, 23, 0⟩
/-- The PIN register table (R526). -/
def regsPIN : List RegDesc :=
  [⟨0xc000, [(0x4, 8)], 0x4, 0, 0x1c, 0x0, 0x0, 0x0, 0x0, 0x0⟩,
   ⟨0xc040, [(0x4, 24)], 0xe0, 0, 0xaf, 0x0, 0x0, 0x0, 0x0, 0x0⟩,
   ⟨0xc0a0, [], 0x0, 0, 0x0, 0x0, 0x0, 0x0, 0xffffffff, 0x0⟩,
   ⟨0xc0a4, [], 0xffffff, 0, 0x0, 0x0, 0x0, 0x0, 0x0, 0x0⟩,
   ⟨0xc0a8, [], 0xffffff, 0, 0xffffff, 0x0, 0x0, 0x0, 0x0, 0x0⟩]

/-- The register table of the BAR0 window that holds offset `a` (R39). -/
def regTable (a : Nat) : List RegDesc :=
  if a < 0x4000 then regsSYS else if a < 0x8000 then regsRST else if a < 0xC000 then regsCLK else if a < 0x10000 then regsPIN
  else if a < 0x20000 then regsHIF else if a < 0x30000 then regsSEC else if a < 0x34000 then regsLTM else if a < 0x40000 then regsEVO
  else if a < 0x68000 then regsNLS else if a < 0x70000 then regsMIR else if a < 0x78000 then regsFB else if a < 0x80000 then regsADC
  else if a < 0x90000 then regsACQ else if a < 0xA0000 then regsTDC else if a < 0xB0000 then regsCE else if a < 0xC0000 then regsTRC
  else if a < 0xD0000 then regsSAF else if a < 0xE0000 then regsCAN else if a < 0xE8000 then regsSCH else if a < 0xF0000 then regsMMU
  else if a < 0x100000 then regsDMA else if a < 0x110000 then regsSTO else if a < 0x120000 then regsLDG else []

/-- Whether offset `o` from a row's base is one of its indexed places. -/
def inDims : List (Nat × Nat) → Nat → Bool
  | [], o => o == 0
  | (s, c) :: t, o => o / s < c && inDims t (o % s)

/-- The row of the register at offset `a`; none where the offset is reserved. -/
def descOf (a : Nat) : Option RegDesc :=
  (regTable a).find? (fun r => r.base ≤ a && inDims r.dims (a - r.base))

/-- Reset value of a parameter word of an axis record (R206). -/
def axisParamReset (o : Nat) : Nat :=
  if o == 0x000 then 4 else if o == 0x02C then 0x3F800000 else if o == 0x084 || o == 0x088 then 1 else 0

/-- Reset value of the register at BAR0 offset `a`; 0 at reserved offsets. Contexts 0 to 2 of the MMU read EN = 1 (R438). -/
def resetOf (a : Nat) : Word :=
  if 0x400000 ≤ a then 0
  else if 0x200000 ≤ a then (if a % 0x1000 < 0xE00 then BitVec.ofNat 32 (axisParamReset (a % 0x1000)) else 0)
  else if a == 0xE8108 || a == 0xE8118 || a == 0xE8128 then 1
  else match descOf a with
    | some r => BitVec.ofNat 32 (r.reset + r.rstep * (match r.dims with | (s, _) :: _ => (a - r.base) / s | [] => 0))
    | none => 0

end Sys2Proof.Machine
end

