-- ==== Sys2Proof/Machine/AxisOff.lean ====
section
/-! DEFINITION. Sys2Proof/Machine/AxisOff.lean: the byte offsets of the axis parameters in an axis record (R206 to R208)
and the record's place in BAR0 (R39, R41). -/
namespace Sys2Proof.Machine

/-- BAR0 offset of byte `o` of axis record `a` (R39). -/
def AX (a o : Nat) : Nat := 0x200000 + 0x1000 * a + o
def pOPT : Nat := 0x000
def pMASTER : Nat := 0x004
def pREG_MASTER : Nat := 0x008
def pCHECK : Nat := 0x00C
def pPMIN : Nat := 0x010
def pPMAX : Nat := 0x018
def pMOD_LEN : Nat := 0x020
def pVMAX : Nat := 0x028
def pTLIM : Nat := 0x02C
def pFE_STATIC : Nat := 0x030
def pFE_VEL : Nat := 0x034
def pSTOP_DECEL : Nat := 0x038
def pJOG_ACCEL : Nat := 0x03C
def pKP : Nat := 0x040
def pKI : Nat := 0x044
def pKD : Nat := 0x048
def pIP_LIM : Nat := 0x04C
def pKVFF : Nat := 0x050
def pKAFF : Nat := 0x054
def pKJFF : Nat := 0x058
def pKVP : Nat := 0x05C
def pKVI : Nat := 0x060
def pIV_LIM : Nat := 0x064
def pFRIC_C : Nat := 0x068
def pFRIC_V : Nat := 0x06C
def pFRIC_VBAND : Nat := 0x070
def pDOB_A : Nat := 0x074
def pDOB_L1 : Nat := 0x078
def pDOB_L2 : Nat := 0x07C
def pDOB_GAIN : Nat := 0x080
def pGEAR_NUM : Nat := 0x084
def pGEAR_DEN : Nat := 0x088
def pCAM_TABLE : Nat := 0x08C
def pCAM_MOFF : Nat := 0x090
def pCAM_SOFF : Nat := 0x098
def pREG_GAIN : Nat := 0x0A0
def pREG_MAX : Nat := 0x0A8
def pREG_SLEW : Nat := 0x0B0
/-- Coefficient `i` (B0, B1, B2, NA1, NA2) of position biquad stage `s`. -/
def pPBQ (s i : Nat) : Nat := 0x0C0 + 0x14 * s + 4 * i
/-- Coefficient `i` of velocity biquad stage `s`. -/
def pVBQ (s i : Nat) : Nat := 0x100 + 0x14 * s + 4 * i
def pPUB : Nat := 0x150
/-- The bits of a shadow parameter word that store (R12, R206, R208). OPT stores its upper bits too, since R207 checks them. -/
def axisParamMask (o : Nat) : Nat :=
  if o = pMASTER || o = pREG_MASTER then 0x03FF0007
  else if o = pCHECK || o = pCAM_TABLE then 0x3FF
  else if o = pPUB then 0x03FF0001
  else if o = 0x0A4 || (0x0B8 ≤ o && o < 0x0C0) || (0x0E8 ≤ o && o < 0x100) || 0x154 ≤ o then 0
  else 0xFFFFFFFF

end Sys2Proof.Machine
end

