-- ==== Sys2Proof/Machine/Fp32.lean ====
section
/-! DEFINITION. Sys2Proof/Machine/Fp32.lean: the arithmetic of the axis law (R178, R179). An FP32 value is its 32-bit code as a
number; a 48.16 position is an integer in units of 2^-16 count. Every rounding is to nearest, ties to even; subnormals read and
write as zero of the same sign; magnitudes above the largest finite value become 0x7F7FFFFF with their sign. -/
namespace Sys2Proof.Machine

/-- Sign bit of an FP32 code. -/
def fpNeg (x : Nat) : Bool := bitAt x 31
/-- Whether an FP32 code is neither an infinity nor a NaN (R180). -/
def fpFinite (x : Nat) : Bool := bitsOf x 30 23 != 255
/-- Magnitude of a finite FP32 code in units of 2^-149; a subnormal reads as zero (R179). -/
def fpMag (x : Nat) : Nat := if bitsOf x 30 23 = 0 then 0 else (2 ^ 23 + bitsOf x 22 0) * 2 ^ (bitsOf x 30 23 - 1)
/-- Signed value of a finite FP32 code in units of 2^-149. -/
def fpVal (x : Nat) : Int := if fpNeg x then -(fpMag x : Int) else fpMag x
/-- The sign bit as a code. -/
def fpSign (neg : Bool) : Nat := if neg then 0x80000000 else 0

/-- `m / 2^s` rounded to nearest, ties to even. -/
def rneShift (m s : Nat) : Nat :=
  let q := m / 2 ^ s
  let r := m % 2 ^ s
  if 2 * r < 2 ^ s then q else if 2 ^ s < 2 * r then q + 1 else q + q % 2

/-- Magnitude `m * 2^e` rounded once to 24 significant bits with unbounded exponent, then flushed or saturated (R179). -/
def fpRoundMag (m : Nat) (e : Int) : Nat :=
  if m = 0 then 0 else
    let len := Nat.log2 m + 1
    let s := len - 24
    let q0 := if len ≤ 24 then m * 2 ^ (24 - len) else rneShift m s
    let e0 : Int := if len ≤ 24 then e - (24 - len : Nat) else e + (s : Nat)
    let q := if q0 = 2 ^ 24 then 2 ^ 23 else q0
    let ex : Int := (if q0 = 2 ^ 24 then e0 + 1 else e0) + 23
    if 127 < ex then 0x7F7FFFFF
    else if ex < -126 then 0
    else (ex + 127).toNat * 2 ^ 23 + (q - 2 ^ 23)

/-- The exact value `z * 2^e` rounded to FP32; `zneg` is the sign of an exact zero. -/
def fpRound (z : Int) (e : Int) (zneg : Bool) : Nat :=
  if z = 0 then fpSign zneg else fpSign (decide (z < 0)) + fpRoundMag z.natAbs e

/-- fp32_add (R179). An exact zero sum is -0 only when both operands are negative zeros or negative. -/
def fpAdd (x y : Nat) : Nat := fpRound (fpVal x + fpVal y) (-149) (fpNeg x && fpNeg y)
/-- The code with its sign inverted. -/
def fpNegate (x : Nat) : Nat := if fpNeg x then x - 0x80000000 else x + 0x80000000
/-- fp32_sub (R179). -/
def fpSub (x y : Nat) : Nat := fpAdd x (fpNegate y)
/-- fp32_mul (R179). -/
def fpMul (x y : Nat) : Nat := fpRound (fpVal x * fpVal y) (-298) (fpNeg x != fpNeg y)
/-- fma: x * y + z computed exactly and rounded once (R179). -/
def fpFma (x y z : Nat) : Nat :=
  fpRound (fpVal x * fpVal y + fpVal z * 2 ^ 149) (-298) ((fpNeg x != fpNeg y) && fpNeg z)
/-- scale(x, k) = x * 2^k (R179). -/
def fpScale (x : Nat) (k : Int) : Nat := fpRound (fpVal x) (-149 + k) (fpNeg x)
/-- An operand as every operation reads it: a subnormal is zero of the same sign (R179). -/
def fpRead (x : Nat) : Nat := if bitsOf x 30 23 = 0 then fpSign (fpNeg x) else x
/-- fp32_abs (R179). -/
def fpAbs (x : Nat) : Nat := bitsOf (fpRead x) 30 0
/-- fp32_from_int64 (R179). -/
def fpOfInt (n : Int) : Nat := fpRound n 0 false
/-- The quotient of two positive integers rounded to FP32: 64 further bits and a sticky bit decide the rounding. -/
def fpDiv (n d : Nat) : Nat :=
  if d = 0 then 0 else
    let k := 64 + Nat.log2 d + 1
    let q := n * 2 ^ k / d
    let sticky := if n * 2 ^ k % d = 0 then 0 else 1
    fpRoundMag (2 * q + sticky) (-(k : Int) - 1)
/-- A signed quotient of integers rounded to FP32. -/
def fpDivInt (n : Int) (d : Nat) : Nat := fpSign (decide (n < 0)) + fpDiv n.natAbs d
/-- The reciprocal of a finite FP32 value, rounded; the manual states no result for zero, which does not occur (rule 20 of R210). -/
def fpInv (x : Nat) : Nat := fpSign (fpNeg x) + fpDiv (2 ^ 149) (fpMag x)
/-- x < y on finite values; -0 equals +0 (R179). -/
def fpLt (x y : Nat) : Bool := decide (fpVal x < fpVal y)
/-- x = y on finite values; -0 equals +0 (R179). -/
def fpEq (x y : Nat) : Bool := fpVal x == fpVal y
/-- clamp(x, lo, hi) on FP32 (R179). -/
def fpClamp (x lo hi : Nat) : Nat := fpRead (if fpLt x lo then lo else if fpLt hi x then hi else x)
/-- A 64-bit signed value saturated (R179). -/
def sat64 (z : Int) : Int := clampInt (-(2 ^ 63)) (2 ^ 63 - 1) z
/-- sat_add (R179). -/
def satAdd64 (n m : Int) : Int := sat64 (n + m)
/-- sat_sub (R179). -/
def satSub64 (n m : Int) : Int := sat64 (n - m)
/-- int64_round: nearest integer, ties to even, saturated (R179). -/
def int64Round (x : Nat) : Int :=
  let m : Int := rneShift (fpMag x) 149
  sat64 (if fpNeg x then -m else m)
/-- FP32 one. -/
def fpOne : Nat := 0x3F800000

end Sys2Proof.Machine
end

