-- ==== Sys2Proof/Machine/Sparse.lean ====
section
/-! DEFINITION. Sys2Proof/Machine/Sparse.lean: the canonical sparse map used for register files, tables and
memories: pairs in strictly rising key order, none equal to what an unlisted key reads as. Plain data. -/
namespace Sys2Proof.Machine

/-- A finite map as data: key and value pairs. -/
abbrev SMap (α : Type) := List (Nat × α)

/-- The value at `k`; `d k` when `k` is not listed. -/
def smGet {α : Type} (d : Nat → α) : SMap α → Nat → α
  | [], k => d k
  | (k', v) :: m, k => if k' = k then v else smGet d m k

/-- `m` with `(k, v)` put in place, keeping the keys rising. -/
def smPut {α : Type} : SMap α → Nat → α → SMap α
  | [], k, v => [(k, v)]
  | (k', v') :: m, k, v =>
    if k' = k then (k, v) :: m
    else if k < k' then (k, v) :: (k', v') :: m
    else (k', v') :: smPut m k v

/-- `m` without key `k`. -/
def smDel {α : Type} (m : SMap α) (k : Nat) : SMap α := m.filter (fun p => p.1 != k)

/-- Write `v` at `k`: writing what an unlisted key reads as removes the entry. -/
def smSet {α : Type} [DecidableEq α] (d : Nat → α) (m : SMap α) (k : Nat) (v : α) : SMap α :=
  if v = d k then smDel m k else smPut m k v

/-- The canonical form: keys strictly rising, no entry equal to its default. -/
def smWf {α : Type} [DecidableEq α] (d : Nat → α) : SMap α → Bool
  | [] => true
  | [(k, v)] => v != d k
  | (k, v) :: (k', v') :: m => v != d k && k < k' && smWf d ((k', v') :: m)

/-- An optional entry of a table whose unlisted keys hold nothing. -/
def smFind {α : Type} (m : SMap α) (k : Nat) : Option α := (m.find? (fun p => p.1 == k)).map (·.2)

end Sys2Proof.Machine
end

