-- ==== Sys2Proof/Machine/State.lean ====
section
/-! DEFINITION. Sys2Proof/Machine/State.lean: the state of the ILN5120 as plain data, its stop reasons and its state after reset.
Register contents stand in `Dev.regs` and `Dev.live` under their BAR0 offsets (R39); the structures below hold the state the
manual gives the blocks beside their registers. -/
namespace Sys2Proof.Machine

/-- Faults: the machine stops because the manual says the thing acted on does not exist. -/
inductive Fault where
  /-- Raised by a DMA descriptor whose physical address lies beyond the DRAM fitted (R37): safe, the manual gives no such memory. -/
  | dramHole
  deriving DecidableEq, Repr

/-- Refusals: no meaning for the command. -/
inductive Refusal where
  /-- Raised only by a dispatch arm whose command has no meaning yet: safe. -/
  | notModelled (mnemonic : String)
  deriving DecidableEq, Repr

/-- One slot of the root key fuses (R441). -/
structure RootSlot where
  hash : List Byte
  use : Nat
  revoked : Bool
  deriving DecidableEq, Repr

/-- The fuse array (R441). Fuses can only be blown. `arb` is the 64-bit anti-rollback field, bit i blown = 1. -/
structure Fuses where
  serial : Nat
  grade : Nat
  pufHelper : List Byte
  root0 : RootSlot
  root1 : RootSlot
  root2 : RootSlot
  root3 : RootSlot
  arb : Nat
  provisioned : Bool
  debugLock : Bool
  hotAction : Bool
  deriving DecidableEq, Repr

/-- The last-cause record of the tally (R498, R499): image bytes 36 to 49. -/
structure CauseRecord where
  source : Nat
  detail : Nat
  time : LTime
  timeValid : Bool
  rtcValid : Bool
  mode : Nat
  deriving DecidableEq, Repr

/-- The backup domain: tally counters 0 to 8, last cause, real-time clock (R487, R493, R498). -/
structure Backup where
  counters : List Nat
  cause : Option CauseRecord
  rtcValid : Bool
  rtcSec : Nat
  rtcSub : Nat
  deriving DecidableEq, Repr

/-- An event collected for the host ring (R117, R137, R395); `data` is bytes 0 to 14 of the data field, byte 15 is the controller index. -/
structure Event where
  time : LTime
  ctrl : Nat
  src : Nat
  code : Nat
  fold : Nat
  data : List Byte
  deriving DecidableEq, Repr

/-- What the part has sent or driven, in order: the model's own transcript of its outputs. -/
inductive Output where
  /-- Bytes written to host memory at a PCIe bus address (R387, R394, R395). -/
  | hostWrite (addr : Nat) (data : List Byte)
  /-- An MSI-X message of a vector (R396). -/
  | msix (vector : Nat)
  /-- A frame sent on a port, channel 0 = A, 1 = B (R27, R84). -/
  | frame (port chan : Nat) (bytes : List Byte)
  /-- The frame on a transmitter is ended with an error control block, since a bell goes out (R101). -/
  | frameCut (port chan : Nat)
  /-- A link control message sent on a port and channel (R61). -/
  | control (port chan kind : Nat) (bytes : List Byte)
  /-- A frame sent on the mirror (R292). -/
  | mirror (lane : Nat) (bytes : List Byte)
  /-- A LOG frame: its 16-byte header and the entries whose final part it carries, with their kinds (R296). -/
  | mirLog (hdr : List Byte) (entries : List (Nat × LogAct))
  /-- A CORRECTION frame (R297): segment, missing map, single-channel map, full records by position. -/
  | mirCorrection (hdr : List Byte) (seg missing single : Nat) (full : List (Nat × List Byte))
  /-- A DIGEST frame (R298): the 32 group digests and the stop-group latches. -/
  | mirDigest (hdr : List Byte) (digests : List Nat) (latched : Nat)
  /-- A SUMMARY frame (R297): segment and, per position, the CRC-32 of the payload taken. -/
  | mirSummary (hdr : List Byte) (seg : Nat) (crcs : List (Option Nat))
  /-- A REPORT frame (R292, R310): cycle of the last complete log, proved paths, divergence notice (group, kind). -/
  | mirReport (hdr : List Byte) (ack proofs : Nat) (notice : Option (Nat × Nat))
  /-- The bulk image in BULK frames (R307). -/
  | mirBulk (parts : List BulkPart)
  /-- A CONTROL frame (R301). -/
  | mirControl (c : MirControl)
  /-- A pin driven to a level; the name is the manual's pin name. -/
  | pin (name : String) (index : Nat) (level : Bool)
  /-- A CAN frame sent: channel, identifier word, data. -/
  | can (ch : Nat) (id : Nat) (data : List Byte)
  /-- An NVMe command submitted to a drive: drive, queue (0 admin), opcode, bytes. -/
  | nvme (drive queue op : Nat) (bytes : List Byte)
  /-- A frame sent on the trigger bus (R276). -/
  | tbus (bits : Nat)
  /-- Every pin goes to its reset state (R502). -/
  | resetPins
  /-- The I/O banks lose power: every function pin floats (R502). -/
  | floatPins
  /-- The token mailbox's answer on the debug port (R457). -/
  | jtag (data : List Byte)
  /-- The answer to a BAR0 read. -/
  | busData (addr value : Nat)
  /-- Bytes that a DMA channel writes to the on-die space (R428). -/
  | onDie (addr : Nat) (data : List Byte)
  /-- A service core starts (true) or stops running a task (R420). -/
  | core (c task : Nat) (run : Bool)
  deriving DecidableEq, Repr

/-- One journal entry of the ledger (R373). -/
structure LedgerEntry where
  seq : Nat
  typ : Nat
  part : Nat
  body : List Byte
  deriving DecidableEq, Repr

/-- One generation area of the ledger (R372): header fields and journal. -/
structure LedgerArea where
  gen : Nat
  created : LTime
  firstSeq : Nat
  snapshot : Nat
  committed : Bool
  retired : Bool
  journal : List LedgerEntry
  deriving DecidableEq, Repr

/-- The MRAM ledger (R372 to R380): both areas, the active one, the next entry sequence, the bytes written in recent seconds
(R378), a compaction in progress with the fill percentage before it (R376), and the events held until the ring can take them (R56, R499). -/
structure Ledger where
  areaA : LedgerArea
  areaB : LedgerArea
  active : Nat
  nextSeq : Nat
  recent : List (Nat × Nat)
  compacting : Option Nat
  held : List Event
  deriving DecidableEq, Repr

/-- Who waits for a completion: submission ring, tag, the Function Level Reset count at acceptance (R386, R392), and whether
the packet is executed late within its tolerance (R140), so that OK becomes LATE. -/
structure PktRef where
  sq : Nat
  tag : Nat
  epoch : Nat
  late : Bool
  deriving DecidableEq, Repr

/-- System state beside SYS, RST, CLK and PIN registers: controller index, reset sources still asserted (R494), straps (R503), the line
time at which the real-time clock held its stored value (R493), the pending SET_MODE request (R46), the modes Lockout and Dormant were entered from
(R51, R53), the active package, the fitted DRAM in GiB (R37), a RESET_DEVICE that waits its 1 ms (R405), the die
temperature in 1/16 °C and its thresholds crossed (R531), and what the command's end still does: clear tally counters, reset the part (R45). -/
structure Sys where
  index : Nat
  asserted : List Nat
  bootSel : Nat
  pairEnd : Bool
  rtcAt : Int
  resetDue : Option LTime
  request : Option (Nat × PktRef)
  lockedFrom : Nat
  dormantFrom : Nat
  wake : Option (LTime × Bool)
  package : Option Package
  dramGiB : Nat
  temp : Int
  tempHigh : Bool
  tempWarn : Bool
  clearTally : Option Nat
  selfReset : Bool
  deriving DecidableEq, Repr

/-- A held scheduled packet (R141): opcode, packet and its owner. -/
structure HeldPacket where
  op : Nat
  pkt : Packet
  ref : PktRef
  deriving DecidableEq, Repr

/-- A completion formed for a disabled CQ (R388, R397): CQ, tag, status, time, ring, result. -/
structure KeptReply where
  cq : Nat
  tag : Nat
  status : Nat
  time : LTime
  sq : Nat
  result : List Byte
  deriving DecidableEq, Repr

/-- Host interface state beside the HIF registers: heartbeat instant and lapse (R408), held scheduled packets (R141), replies kept
for disabled CQs (R397), entries written and not yet signalled per vector with the oldest one's time (R396), events dropped since
the last batch (R395), the collected events (R117), entries the ring could not take and must (R56, R499), the reply last written to each CQ (R397), round-robin turns (R391), packets accepted and not completed per SQ (R391), FLR count. -/
structure Hif where
  hbLast : LTime
  lapse : Option LTime
  held : List HeldPacket
  kept : List KeptReply
  vectors : List (Nat × Nat × LTime)
  dropped : Nat
  batch : List Event
  unsent : List Event
  lastReply : List KeptReply
  turn : List (Nat × Nat)
  inWork : List (Nat × Nat)
  epoch : Nat
  perst : Bool
  deriving DecidableEq, Repr

/-- A session (R453): identifier, both keys, last counter, granted classes, failures in a row, transcript hash, requested
classes, and the instant an unproved exchange lapses (none once proved). -/
structure Session where
  sid : Nat
  keyIn : List Byte
  keyOut : List Byte
  counter : Nat
  granted : Nat
  failures : Nat
  th : List Byte
  requested : Nat
  lapses : Option LTime
  deriving DecidableEq, Repr

/-- A boot-flash firmware or package slot (R445): tag sequence (none = no valid tag) and image bytes. -/
structure FlashSlot where
  seq : Option Nat
  image : List Byte
  deriving DecidableEq, Repr

/-- Security state beside SEC: boot flash (R445), certificates (R451), sessions, random draws made, debug challenge and open
scopes with their ends (R457), body hash of the running firmware, its anti-rollback request (R447), whether debug opened since boot, fuses that an
installation has blown and the command's end takes over, and the device secret that the ROM reconstructed (R442). -/
structure Sec where
  slotA : FlashSlot
  slotB : FlashSlot
  pkg0 : Option Package
  pkg1 : Option Package
  activePkg : Nat
  certDev : List Byte
  certCa : List Byte
  sessions : List Session
  draws : Nat
  challenge : Option (List Byte)
  scopes : List (Nat × LTime)
  opened : Bool
  fwHash : List Byte
  burn : Option Fuses
  idSecret : List Byte
  deriving DecidableEq, Repr

/-- A transmit time-stamp entry (R136). -/
structure TxStamp where
  time : LTime
  port : Nat
  chanB : Bool
  tag : Nat
  slot : Nat
  deriving DecidableEq, Repr

/-- Line-time state beside LTM: the 64.16 count and the further 32 fraction bits of the 48-bit accumulator (R120), the transmit
stamp queue, the offset of this cycle's selected bell (R123), the last PPS edge and whether PPS
was lost (R134), trunk statuses of the two ports (R128), the PPS alignment wait (R122), whether PPS_OUT is low (R135), trunks
whose status came in this cycle (R129), and the consecutive cycles without a valid source (R130). -/
structure Ltm where
  now : LTime
  acc : Nat
  tx : List TxStamp
  theta : Option Int
  ppsLast : Option LTime
  ppsLost : Bool
  trunk : List (Nat × List Byte)
  alignWait : Bool
  ppsLow : Bool
  heard : List Nat
  noSource : Nat
  deriving DecidableEq, Repr

/-- One timed output (R142 to R144): committed fields (mode 0 = off), firings done, next firing, pulse end while low, whether that firing is
late, and the cycle at whose bell a cycle-phase output's first firing was judged (R140). -/
structure EvoOut where
  mode : Nat
  pinEn : Bool
  adcStart : Bool
  div : Nat
  start : Nat
  period : Nat
  width : Nat
  count : Nat
  fired : Nat
  next : Option LTime
  low : Option LTime
  late : Bool
  judged : Option Nat
  deriving DecidableEq, Repr

/-- One end of a hop at the controller's port, channel A or B (R63): attempts in NEGOTIATE, exchanges done and
their sum of (t4 - t1) - turnaround in 2^-16 ns (R72), common mask, transmitter rate code, ordered rate while RETRAIN or after it
(R64), retry barred until the enable is cycled, retry wait running, partner's major version, mask and position byte, and the cycle in which the
lane's last recalibration began (R76). -/
structure LinkCh where
  attempts : Nat
  exchanges : Nat
  sum : Int
  mask : Nat
  rate : Nat
  ordered : Option Nat
  barred : Bool
  waiting : Bool
  partnerMajor : Nat
  partnerMask : Nat
  partnerPos : Nat
  recal : Option Nat
  deriving DecidableEq, Repr

/-- A frame queued for an asynchronous slot (R75, R409): kind byte, destination, payload, channels (0 both, 1 A, 2 B),
whether its send is time-stamped, and for SEND_ASYNC its owner, tag, reply address, capacity, timeout and packet. -/
structure AsyncFrame where
  kind : Nat
  dest : Nat
  payload : List Byte
  chans : Nat
  stamp : Bool
  ref : Option PktRef
  tag : Nat
  replyAddr : Nat
  replyCap : Nat
  timeout : Nat
  pkt : Option Packet
  deriving DecidableEq, Repr

/-- A slot entry (R92). -/
structure SlotEntry where
  head : Nat
  tail : Nat
  len : Nat
  kind : Nat
  owner : Nat
  maxPay : Nat
  pitch : Nat
  group : Nat
  deriving DecidableEq, Repr

/-- A pitch entry (R93). -/
structure PitchEntry where
  slot : Nat
  offset : Nat
  lo : Nat
  hi : Nat
  axes : Nat
  deriving DecidableEq, Repr

/-- A schedule block (R91). -/
structure SchedBlock where
  gen : Nat
  port : Nat
  rate : Nat
  pipelined : Bool
  closed : Bool
  period : Nat
  uplink : Nat
  openWin : Nat
  down : Nat
  guard : Nat
  w1 : Nat
  w2 : Nat
  w3 : Nat
  planNodes : Nat
  claim : Nat
  span : Nat
  slots : List SlotEntry
  pitches : List PitchEntry
  deriving DecidableEq, Repr

/-- A lane plan entry (R152): axis, lane, level. -/
structure PlanEntry where
  axis : Nat
  lane : Nat
  level : Nat
  deriving DecidableEq, Repr

/-- A schedule generation (R410): number, dormant flag, one block per enabled port, the lane plan, and the default plan that was formed when the
generation became active (R154). -/
structure Generation where
  num : Nat
  dormant : Bool
  blocks : List SchedBlock
  planHead : List Byte
  plan : List PlanEntry
  formed : Option (List PlanEntry)
  deriving DecidableEq, Repr

/-- What a receive window of a node slot holds (R104): 0 none, 1 A, 2 B, 3 both; the copy used and whether both windows have closed. -/
structure SlotRx where
  state : Nat
  used : List Byte
  closed : Bool
  deriving DecidableEq, Repr

/-- A bell taken in the present cycle (R99): rank, channel B, receive time, payload. -/
structure RxBell where
  rank : Nat
  chanB : Bool
  rx : LTime
  cycle : Nat
  payload : List Byte
  deriving DecidableEq, Repr

/-- A pitch claim that was received and is not decided (R112): position, payload of the request, cycle of arrival. -/
structure Claim where
  pos : Nat
  req : List Byte
  cycle : Nat
  deriving DecidableEq, Repr

/-- Port state beside the NLS and NLT registers. Hop keys are 128 x channel + hop index; hop p joins node p to its upstream neighbour and
hop `planned` is the tail hop. Both own hop ends; bring-up phase (0 none, 1 discovery, 2 rate order), hops UP at the end of discovery, rate
ordered, hop states and common masks (R66), whether a tail end brings the segment up itself (R69); calibration delays in force, and a
changed delay with the time since which it has stayed close (R74). Asynchronous frames queued and awaiting replies (R409); receive states of the
present and of the last cycle's slots (R104); cycles of recent disagreements (R105); violating cycles per position (R109); silent maps of this and the last cycle and lost maps per channel, and the cycles an emptied lost set must still stay empty before HOP_RESTORED (R115); the bell taken
in this cycle (R99); claims open in this cycle or posted to the host (R112); pitch holders' identities (R111) and pitches that become
effective or vacant at a cycle (R112, R113); responses due (R90); the cycle in which a position's release entered the law, for its release orders (R109); positions owed schedule parts (R94);
whether this controller's bell has been sent in this cycle; ranks set for the pending generation (R145); node event records of this cycle (R116);
positions that a bell of the working generation reached (R102); line time at which each channel's transmitter is free of the last frame (R101); the slot of a downlink
frame that has begun and awaits the deadlines of later records (R161); safety PDUs of other controllers, by connection, that go on in this trunk's
next safety slot (R342). -/
structure Port where
  chA : LinkCh
  chB : LinkCh
  phase : Nat
  upAtEnd : List Nat
  target : Nat
  hopState : List (Nat × Nat)
  hopMask : List (Nat × Nat)
  tailRun : Bool
  calRec : List (Nat × Nat)
  calSince : List (Nat × Nat × LTime)
  queue : List AsyncFrame
  awaiting : List AsyncFrame
  rx : List (Nat × SlotRx)
  rxPrev : List (Nat × SlotRx)
  disagree : List Nat
  babble : List (Nat × List Nat)
  silentA : Nat
  silentB : Nat
  prevA : Nat
  prevB : Nat
  lostA : Nat
  lostB : Nat
  emptyRun : Nat
  bell : Option RxBell
  claims : List Claim
  posted : List Claim
  holders : List (Nat × List Byte)
  effective : List (Nat × Nat × Bool)
  responses : List (Nat × Nat × List Byte)
  fenceRelease : List (Nat × Nat)
  parts : List Nat
  sentBell : Bool
  acting : Bool
  ranks : List (Nat × Nat)
  txEnd : List (Nat × Nat)
  down : Option Nat
  forward : List (Nat × List Byte)
  deriving DecidableEq, Repr

/-- A logged input (R296): kind byte, its length in the log with every part header, effect, and who waits for it. -/
structure LogEntry where
  kind : Nat
  size : Nat
  act : LogAct
  ref : Option PktRef
  deriving DecidableEq, Repr

/-- A block commit captured by an APPLY bit (R14): block code of R24, captured words, waiting packet. -/
structure Commit where
  unit : Nat
  words : List (Nat × Word)
  ref : Option PktRef
  deriving DecidableEq, Repr

/-- An announced activation (R95): generation, activating cycle count, status, waiting packet. -/
structure Countdown where
  gen : Nat
  at_ : Nat
  status : Nat
  ref : Option PktRef
  deriving DecidableEq, Repr

/-- A join in progress (R102): start, listening over, target mode, bells seen (cycle count, receive time, bell time, path delay, port), silent cycle being timed. -/
structure Join where
  t0 : LTime
  listened : Bool
  target : Nat
  bells : List (Nat × LTime × LTime × Nat × Nat)
  silent : Bool
  deriving DecidableEq, Repr

/-- The cycle and the input log: present cycle count and its reference instant, whether bells are sent, active and pending
generations, the dormant return generation, the countdown, the join, logged inputs accepted and not yet in a log, the log of the present
cycle once closed, bytes used, parts of the oldest waiting input that earlier logs carried, commits waiting for their boundary, a wake with its bell's earliest line time,
the last whole millisecond whose close ran, and whether this controller has joined and not yet transmitted a bell (R23). -/
structure Cyc where
  count : Nat
  ref : LTime
  running : Bool
  closed : Bool
  active : Option Generation
  pending : Option Generation
  working : Option Generation
  countdown : Option Countdown
  join : Option Join
  waiting : List LogEntry
  log : List LogEntry
  used : Nat
  partsSent : Nat
  commits : List Commit
  wakeAt : Option (Nat × LTime)
  msDone : Option Nat
  preBell : Bool
  deriving DecidableEq, Repr

/-- The state of one axis record (R195, R209) and what the engine holds beside it: the node values of the last completed
computation (R205; positions as 64-bit codes), the run of missing master samples (R185), the registration requests that are held
(R194), the mode of the last computation, a fault reset whose record is due and the boundaries to the enable that follows it (R203), the status bits
of the last record used (R182), the standing of the present cycle (0 not yet, 1 completed, 2 abandoned, 3 done without a computation), the record to be sent, and the last node mark taken (R269). -/
structure AxisState where
  enabled : Bool
  faulted : Bool
  stopping : Bool
  stopped : Bool
  miss : Bool
  stale : Bool
  masterHeld : Bool
  masterStale : Bool
  saturated : Bool
  limit : Bool
  stoSeen : Bool
  first : Bool
  follows : Bool
  genLive : Nat
  faultCode : Nat
  consecMiss : Nat
  staleRun : Nat
  feRun : Nat
  missCount : Nat
  xs : Int
  xref : Int
  xfb : Int
  vs : Nat
  as : Nat
  js : Nat
  vfb : Nat
  ip : Nat
  iv : Nat
  ePrev : Nat
  vhat : Nat
  dhat : Nat
  tau : Nat
  pbq : List Nat
  vbq : List Nat
  rem : Int
  mprev : Int
  c : Int
  pend : Int
  regSeq : Nat
  lastRecord : List Byte
  target : Int
  pa : Nat
  ph : Nat
  left : Nat
  phases : List (Nat × Nat)
  jogVt : Nat
  lastCycle : Nat
  nodes : List Nat
  tq : Nat
  masterRun : Nat
  held : List (Int × Nat)
  lastMode : Nat
  resetRec : Bool
  enableNext : Nat
  status : Nat
  standing : Nat
  record : List Byte
  markSeq : Nat
  markSeen : Bool
  deriving DecidableEq, Repr

/-- A logged master sample (R184): position, velocity, line time, valid, stale. -/
structure Sample where
  x : Int
  v : Nat
  t : LTime
  valid : Bool
  stale : Bool
  deriving DecidableEq, Repr

/-- A host value of the present cycle's log (R192, R198): kind (0 setpoint, 1 law), 12 bytes, velocity valid. -/
structure HostValue where
  law : Bool
  data : List Byte
  valid : Bool
  deriving DecidableEq, Repr

/-- Engine state beside CE and the axis records: host values that the present cycle uses (R35), samples of feedback channels and
line masters, stop groups latched and those complete (R201), feedback records of this cycle and of the last
(pipelined, R169) per axis, lane-error cycles (R173), axes that missed or have low slack in this cycle (R177), the axis that each lane computes and its next plan index, axis states before this cycle's computation (R163, R166), loaded cam
tables by number with their offset in the area (R190), lane cycles spent in this cycle, self-test chunks passed in a row (R174), lanes
that fail at the next boundary (R173), the axis of the value in CE_SLACK_MIN, whether this cycle only repeats records (R169), single-bit SRAM errors corrected (R38), the start of each lane's computation (R176), the lane
tested in this cycle (R174), and the line masters whose entry of this cycle's log was not finite (R180). -/
structure Eng where
  host : List (Nat × HostValue)
  channels : List (Nat × Sample)
  masters : List (Nat × Sample)
  latched : Nat
  complete : Nat
  ordered : List (Nat × Nat × Nat)
  fb : List (Nat × List Byte)
  fbPrev : List (Nat × List Byte)
  fbReady : List Nat
  laneErr : List (Nat × Nat)
  missed : List Nat
  slack : List (Nat × Int)
  running : List (Nat × Nat)
  done : List (Nat × Nat)
  before : List (Nat × AxisState)
  cams : List (Nat × Nat × List Byte)
  busy : List (Nat × Nat)
  chunks : List (Nat × Nat)
  failing : Nat
  slackAxis : Nat
  repeatOnly : Bool
  corrected : Nat
  started : List (Nat × LTime)
  tested : Option Nat
  nonFinite : List Nat
  deriving DecidableEq, Repr
/-- A trace unit beside its registers (R212 to R221): the words its start captured and their rejection of a commit, what waits for the
boundary (start with the lateness of R140, stop), and from its start: first cycle, start line time, period, generation, probes (axis, node),
sample size, previous value of probe 0 when valid, samples kept before the trigger, samples still to take (none = endless), whether samples
were dropped before the next, dropped in this cycle, generation of the last sample, the cycle last seen with the cycles since the first (R214), cycle of a trigger sample whose transition waits for the boundary, and the bytes of a record for the store. -/
structure TraceUnit where
  words : List (Nat × Word)
  startDue : Option (Option PktRef)
  stopDue : Bool
  c0 : Nat
  t0 : LTime
  period : Nat
  gen : Nat
  probes : List (Nat × Nat)
  size : Nat
  prev : Option Nat
  kept : Nat
  left : Option Nat
  dropped : Bool
  dropNow : Nat
  lastGen : Nat
  lastC : Nat
  elapsed : Nat
  trigAt : Option Nat
  storeBytes : List Byte
  deriving DecidableEq, Repr

/-- A trace unit after reset. -/
def TraceUnit.reset : TraceUnit := ⟨[], none, false, 0, 0, 0, 0, [], 8, none, 0, none, false, 0, 0, 0, 0, none, []⟩

/-- An identification in progress (R222 to R225): axis, V_ID, HOLD in ms, flags, targets still to log, the target now driven, the end of its
hold once v_s has equalled it, and the samples of completed computations: cycle, node 10, node 21, newest first. -/
structure Ident where
  axis : Nat
  vid : Nat
  hold : Nat
  flags : Nat
  left : List Nat
  target : Nat
  holdEnd : Option LTime
  samples : List (Nat × Nat × Nat)
  deriving DecidableEq, Repr

/-- Trace and tuning state: units, trace SRAM (R36), an identification, the running estimates Jbg of the inertia monitor in FP64 (R228),
and the calibration records of the ledger in force, by class and index (R226). -/
structure Trc where
  units : SMap TraceUnit
  sram : SMap Byte
  ident : Option Ident
  jbg : List (Nat × Nat)
  cal : List (Nat × List Byte)
  deriving DecidableEq, Repr

/-- An edge record of a feedback channel (R242). -/
structure FbEdge where
  time : LTime
  kind : Nat
  input : Nat
  level : Bool
  count : Nat
  deriving DecidableEq, Repr

/-- A feedback channel beside its registers (R231 to R244): filtered pin levels, 48-bit count, last legal Hall state (0 before the first),
the estimator of R238, whether the next sample is not valid (R240), the edge queue, the pair offset (R241) with the channel's own last
count, its validity and instant, whether the controller stood in Shadow and no resync has followed (R241), the low preset word, recent counted edges,
and the pin levels before the filter (R243). -/
structure Fb where
  a : Bool
  b : Bool
  c : Bool
  cnt : Int
  legal : Nat
  still : Bool
  pend : Bool
  rev : Bool
  cmode : Bool
  neg : Bool
  n : Nat
  h : List Nat
  vp : Nat
  vc : Nat
  v : Nat
  nw : Nat
  w : List (Int × Nat)
  tlast : Nat
  bad : Bool
  queue : List FbEdge
  off : Int
  haveOff : Bool
  own : Option (Int × Bool × LTime)
  heir : Bool
  presetLo : Nat
  edges : List (LTime × Int)
  pinA : Bool
  pinB : Bool
  pinC : Bool
  deriving DecidableEq, Repr

/-- A channel after reset: pins pulled up (R243), standstill (R245). -/
def Fb.reset : Fb := ⟨true, true, true, 0, 0, true, false, false, false, false, 0, [], 0, 0, 0, 0, [], 0, false, [], 0, false, none, false, 0, [], true, true, true⟩

/-- An ADC converter (R252, R253): start of the previous conversion, the start whose result is awaited, sum and number of codes of the
mean that is being formed, whether the last scaled value lay beyond the threshold, and the means formed. -/
structure AdcCh where
  last : Option LTime
  busy : Option LTime
  sum : Int
  codes : Nat
  beyond : Option Bool
  n : Nat
  deriving DecidableEq, Repr

/-- A converter after reset. -/
def AdcCh.reset : AdcCh := ⟨none, none, 0, 0, none, 0⟩

/-- A stamp of a trigger input's queue (R247): time, falling edge, edge number. -/
structure TdcStamp where
  time : LTime
  falling : Bool
  seq : Nat
  deriving DecidableEq, Repr

/-- A trigger input beside its registers (R247 to R250): last accepted edge, last calibrated bin of its table, queue, edges numbered so far,
a table that waits for its boundary, and whether a command asked for a table. -/
structure TdcIn where
  last : Option LTime
  lastBin : Nat
  queue : List TdcStamp
  seq : Nat
  table : Option (List Nat)
  asked : Bool
  deriving DecidableEq, Repr

/-- A trigger input after reset. -/
def TdcIn.reset : TdcIn := ⟨none, 0, [], 0, none, false⟩

/-- The trigger of a fill (R258, R262, R274): time, sample number, flags, firing controller and unit, cycle, SYNCCLK count and phase. -/
structure CapTrig where
  time : LTime
  idx : Nat
  forced : Bool
  remote : Bool
  mask : Bool
  late : Bool
  stale : Bool
  ctrl : Nat
  unit : Nat
  cycle : Nat
  sync : Nat
  phase : Nat
  deriving DecidableEq, Repr

/-- A record whose fill has ended (R257, R260): payload of R262, first and last sample number, whether a record
buffer was granted and whether it has left the ring. -/
structure CapRecord where
  payload : List Byte
  first : Nat
  last : Nat
  granted : Bool
  deriving DecidableEq, Repr

/-- A capture unit beside its registers (R254 to R265): arm-at time while in WAIT, arm identifier that the next arming uses, repeat count
given, samples taken since the boot and at the ring's start, time of each retained sample and time it was written (newest first), triggers
offered and not yet applied (time, calibration stale), the trigger of the fill, first mask violation (sample number, channel), runs of the
mask's channels, whether sampling is paused, end of the last fill, dead time and lost triggers for the next record's header, the records
that have not left the ring (oldest first), and the cycle or ADC sample number at which a sample was last due. -/
structure CapUnit where
  armAt : LTime
  nextId : Option Nat
  count : Nat
  n : Nat
  start : Nat
  times : List (LTime × LTime)
  offers : List (LTime × Bool)
  trig : Option CapTrig
  viol : Option (Nat × Nat)
  runs : List (Nat × Nat)
  paused : Bool
  deadFrom : LTime
  dead : Option Nat
  lost : Nat
  records : List CapRecord
  lastDue : Option Nat
  deriving DecidableEq, Repr

/-- A capture unit after reset. -/
def CapUnit.reset : CapUnit := ⟨0, none, 0, 0, 0, [], [], none, none, [], false, 0, none, 0, [], none⟩

/-- A registration channel (R266 to R271): the 38 parameter bytes of its command from byte 22, its sequence, marks of its trigger input not
yet evaluated, the number of the last passage of its master phase, whether a mark was accepted since, consecutive misses. -/
structure RegCh where
  params : List Byte
  seq : Nat
  marks : List LTime
  passage : Option Int
  seen : Bool
  missed : Nat
  deriving DecidableEq, Repr

/-- A registration channel after reset. -/
def RegCh.reset : RegCh := ⟨zeros 38, 0, [], none, false, 0⟩

/-- Capture and trigger state (R247 to R277): inputs, units, registration channels, loaded mask tables, arm identifiers given, frames
forwarded (type, group, identifier), earliest fire forwarded per identifier, the last ARM parameters of each group (tolerance, repeat count),
D0 codes of TBUS senders, the end of the frame on the TBUS, the 48-bit SYNCCLK count, whether a command asked for a TBUS calibration, and
the D0 codes that the class 1 record rests on (R277). -/
structure Acq where
  tdc : SMap TdcIn
  units : SMap CapUnit
  regs : SMap RegCh
  masks : List Nat
  arms : Nat
  seen : List (Nat × Nat × Nat)
  fires : List (Nat × LTime)
  groups : List (Nat × Nat × Nat)
  d0 : List (Nat × Nat)
  busBusy : LTime
  sync : Nat
  tbusAsked : Bool
  d0Cal : List (Nat × Nat)
  deriving DecidableEq, Repr

/-- Capture state after reset. -/
def Acq.reset : Acq := ⟨[], [], [], [], 0, [], [], [], [], 0, 0, false, []⟩

/-- A record that waits to be sealed (R361): kind, source, payload. -/
structure Seal where
  kind : Nat
  source : Nat
  payload : List Byte
  deriving DecidableEq, Repr

/-- An index entry of one allocation unit (R360): record number, part, part count, state, kind, integer ns of the seal time. -/
structure AuEntry where
  num : Nat
  part : Nat
  parts : Nat
  state : Nat
  kind : Nat
  sealNs : Nat
  deriving DecidableEq, Repr

/-- A command sent to a drive and not completed (R356, R364, R369 to R371): the bring-up steps, the reads of a mount, a format, a write
with its opcode and data (record number 0: an index entry, a deallocation), a flush, the reads behind READ_RECORD and LIST_RECORDS, and the
read of the last header of a deleted range. -/
inductive NvOp where
  | enable
  | identify
  | queues
  | headers
  | index
  | auHeader (au : Nat)
  | verify (num : Nat)
  | format
  | write (num op : Nat) (bytes : List Byte) (retried : Bool)
  | flush
  | readRecord (num : Nat) (p : Packet) (ref : PktRef)
  | readAu (au : Nat) (p : Packet) (ref : PktRef)
  | list (p : Packet) (ref : PktRef) (todo : List Nat) (acc : List Byte)
  | listAus (p : Packet) (ref : PktRef) (todo : List (Nat × Nat)) (acc : List Byte)
  | deletion (first last count : Nat) (ref : Option PktRef)
  deriving DecidableEq, Repr

/-- A drive: outstanding commands, last timeout, allocation units, drive write sequence, its index region as this controller knows it, and the
records that a mount still has to verify. -/
structure Drive where
  ops : List NvOp
  timeout : Option LTime
  n : Nat
  dws : Nat
  aus : SMap AuEntry
  checking : List Nat
  deriving DecidableEq, Repr

/-- A record that was sealed and is not yet durable: number, drive, units, parts still to be written, kind, source, whether it is held, chain hash. -/
structure Rec where
  num : Nat
  drive : Nat
  aus : List Nat
  left : Nat
  kind : Nat
  source : Nat
  held : Bool
  chain : List Byte
  deriving DecidableEq, Repr

/-- A flush in progress (R364): packets that wait for it, the records it covers, drives still to answer. -/
structure Flush where
  refs : List PktRef
  nums : List Nat
  waiting : List Nat
  deriving DecidableEq, Repr

/-- A MOUNT_STORE in progress (R369, R370): operation, its drives, drives not yet settled, its packet. -/
structure MountJob where
  op : Nat
  mask : List Nat
  waiting : List Nat
  ref : Option PktRef
  deriving DecidableEq, Repr

/-- Record store state beside the STO registers (R355 to R371): records to seal, drives, store identity, key generation (R443), next record
number, chain hash of the last record, drive that took the last record, records being written and records written but not durable, the
newest durable record with its chain hash and each drive's write pointer and sequence, flush and mount in progress, FLUSH_STORE packets that
wait for the next flush, drives that an unmount releases with its packet, drives whose link went down, records pinned by a read, records that
a mount kept (number, previous hash, hash). -/
structure Sto where
  toSeal : List Seal
  drives : SMap Drive
  identity : Option (List Byte)
  keyGen : Nat
  next : Nat
  prev : List Byte
  turn : Nat
  writing : List Rec
  written : List Rec
  headNum : Nat
  headHash : List Byte
  headDrives : List (Nat × Nat × Nat)
  flush : Option Flush
  job : Option MountJob
  flushNext : List PktRef
  unmounting : Option (List Nat × PktRef)
  missing : List Nat
  pinned : List Nat
  kept : List (Nat × List Byte × List Byte)
  deriving DecidableEq, Repr
/-- A drive of which nothing is known. -/
def Drive.reset : Drive := ⟨[], none, 0, 0, [], []⟩
/-- The record store after reset. -/
def Sto.reset : Sto := ⟨[], [], none, 0, 1, zeros 48, 3, [], [], 0, zeros 48, [], none, none, [], none, [], [], []⟩


/-- A safe input (R322 to R324): last sample of both contacts, recognised contact states (true = pin high), whether it is FAULTED,
whether both contacts have been seen away from their closed states since the fault, and whether it waits for a deliberate reset (R349). -/
structure SafeIn where
  rawA : Bool
  rawB : Bool
  a : Bool
  b : Bool
  faulted : Bool
  bothOpen : Bool
  waiting : Bool
  deriving DecidableEq, Repr

/-- A safety connection beside its status words (R334 to R341): own sequence number, whether it has been opened while its peer was there,
whether RUN waits for a deliberate reset since opening, RUN = 0 latched by a confirmation or node fault, FS and RUN = 0 latched by a fault
of the connection (it outlives a reopening), PDUs accepted since a fault, line
times of CRC failures, incoming safe data, functions confirmed, start of an SS1, and the PDU last handed to the network. -/
structure SafConn where
  seq : Nat
  opened : Bool
  restart : Bool
  latch : Bool
  fault : Bool
  fed : Bool
  crcAt : List LTime
  rx : List Byte
  confirmed : Nat
  ss1 : Option LTime
  tx : List Byte
  deriving DecidableEq, Repr

/-- A safe output (R326 to R328): whether it toggles, level of pin A, verified edges in a row, failed edges in a row of pins A and B. -/
structure SafeOut where
  toggling : Bool
  level : Bool
  edges : Nat
  badA : Nat
  badB : Nat
  deriving DecidableEq, Repr

/-- Safety state beside the SAF view (R317 to R349): active and pending parameter set, dissents in a row of the three channels, inputs,
outputs, connections, ends of the test-pulse masks of the four sources, lockout causes in force (not cleared, R348), the
demand latched by the host (1 STO, 2 SS1), the line time of the last demand or lockout cause, when a stuck SACK was released, and
whether a deliberate reset ends Lockout with this safety cycle (R51, R349). -/
structure Saf where
  active : Option (List Byte)
  pending : Option (List Byte)
  dissent : List Nat
  ins : SMap SafeIn
  outs : SMap SafeOut
  conns : SMap SafConn
  masks : List (Nat × LTime)
  causes : List Nat
  hostDemand : Nat
  lastDemand : LTime
  stuckEnd : Option LTime
  exitDue : Bool
  deriving DecidableEq, Repr
/-- A safe input after reset: nothing sampled. -/
def SafeIn.reset : SafeIn := ⟨false, false, false, false, false, false, false⟩
/-- A safe output after reset. -/
def SafeOut.reset : SafeOut := ⟨false, false, 0, 0, 0⟩
/-- A connection after reset. -/
def SafConn.reset : SafConn := ⟨0, false, true, false, false, false, [], zeros 32, 0, none, []⟩
/-- The safety channels after reset. -/
def Saf.reset : Saf := ⟨none, none, [0, 0, 0], [], [], [], [], [], 0, 0, none, false⟩

/-- A pending transmit buffer (R475 to R477): buffer, since when it contends (none while its transmit-at time has not come), transmit-at
time, whether it is late, attempts made, cancelled while on the bus, and the CAN_SEND packet that waits. -/
structure CanPend where
  buf : Nat
  since : Option LTime
  at_ : LTime
  late : Bool
  attempts : Nat
  cancelled : Bool
  ref : Option PktRef
  deriving DecidableEq, Repr

/-- A bit-rate detection in progress (R480): candidates (arbitration and data timing words), window in ms, candidate under test, its valid
frames, whether a frame with BRS was seen, and whether the channel starts on success. -/
structure Autobaud where
  cands : List (Nat × Nat)
  window : Nat
  idx : Nat
  good : Nat
  verified : Bool
  start : Bool
  deriving DecidableEq, Repr

/-- A CAN channel beside its registers (R462 to R481): message RAM, pending buffers, detection, an operation of CONFIG_CAN that waits for its
commit, whether it was started listen-only, loopback (0 none, 4 internal, 5 external), the packet that waits for the stop, transmit error
counter in full, the frame held for the locked mailbox (R474), heartbeat count (R478), newest law samples of this cycle by line master
(R471), and frames dropped this cycle per FIFO (0, 1, transmit events 2) (R467). -/
structure CanCh where
  ram : SMap Byte
  pend : List CanPend
  auto : Option Autobaud
  op : Option Nat
  listen : Bool
  loop : Nat
  stopRef : Option PktRef
  tec : Nat
  held : Option (List Byte)
  beat : Nat
  samples : List (Nat × List Byte)
  dropped : List (Nat × Nat)
  deriving DecidableEq, Repr

/-- A CAN channel after reset. -/
def CanCh.reset : CanCh := ⟨[], [], none, none, false, 0, none, 0, none, 0, [], []⟩

/-- A task (R415 to R418, R426, R427): state (0 FREE, 1 WAITING, 2 READY, 3 RUNNING, 4 UNREADY), priority, affinity, wait mode and mask, timer
with its period in µs, event filter (source, code), flags, runs, skips, and for a host job the runs left (none = endless), its completion ring,
its stored packet; whether its present run has begun, whether that run is skipped, and whether the task is deleted once it waits or ends. -/
structure Task where
  state : Nat
  prio : Nat
  affinity : Nat
  all : Bool
  timer : Bool
  period : Nat
  filter : Option (Nat × Nat)
  flags : Nat
  mask : Nat
  runs : Nat
  skips : Nat
  left : Option Nat
  cq : Nat
  packet : List Byte
  began : Bool
  skipping : Bool
  deleted : Bool
  deriving DecidableEq, Repr

/-- A DMA descriptor (R432). -/
structure DmaDesc where
  op : Nat
  signal : Bool
  srcCtx : Nat
  dstCtx : Nat
  len : Nat
  src : Nat
  dst : Nat
  owner : Nat
  deriving DecidableEq, Repr

/-- A DMA channel beside its registers (R432 to R435): queued descriptors, the present one and the bytes it has moved. -/
structure DmaCh where
  queue : List DmaDesc
  cur : Option DmaDesc
  pos : Nat
  deriving DecidableEq, Repr

/-- Scheduler state (R415 to R425): tasks, hardware ready lists by level, stockroom cells in use (cell, task, level; oldest first), retired
cells, spill sequence, what each core runs (core, task), the fault-handler task, tasks that lost a descriptor grant, DMA channels, and the
free pages of the context pools. -/
structure Sch where
  tasks : SMap Task
  lists : SMap (List Nat)
  cells : List (Nat × Nat × Nat)
  retired : List Nat
  seq : Nat
  cores : List (Nat × Nat)
  handler : Option Nat
  losers : List Nat
  ch : SMap DmaCh
  pools : List (Nat × List Nat)
  deriving DecidableEq, Repr

/-- A free task. -/
def Task.reset : Task := ⟨0, 0, 0, false, false, 0, none, 0, 0, 0, 0, none, 0, [], false, false, false⟩
/-- A DMA channel after reset. -/
def DmaCh.reset : DmaCh := ⟨[], none, 0⟩
/-- The scheduler after reset. -/
def Sch.reset : Sch := ⟨[], [], [], [], 0, [], none, [], [], []⟩

/-- Port and axis tables list only what differs from reset. -/
def LinkCh.reset : LinkCh := ⟨0, 0, 0, 0, 0, none, false, false, 0, 0, 0xFF, none⟩
/-- A port after reset. -/
def Port.reset : Port :=
  { chA := .reset, chB := .reset, phase := 0, upAtEnd := [], target := 0, hopState := [], hopMask := [], tailRun := false, calRec := [],
    calSince := [], queue := [], awaiting := [], rx := [], rxPrev := [], disagree := [], babble := [], silentA := 0, silentB := 0,
    prevA := 0, prevB := 0, lostA := 0, lostB := 0, emptyRun := 0, bell := none, claims := [], posted := [], holders := [],
    effective := [], responses := [], fenceRelease := [], parts := [], sentBell := false, acting := false, ranks := [], txEnd := [], down := none, forward := [] }
/-- A timed output after reset: off. -/
def EvoOut.reset : EvoOut := ⟨0, false, false, 0, 0, 0, 0, 0, 0, none, none, false, none⟩
/-- An axis record after reset: 0 throughout, PH 8 (R209). -/
def AxisState.reset : AxisState :=
  { enabled := false, faulted := false, stopping := false, stopped := false, miss := false, stale := false, masterHeld := false,
    masterStale := false, saturated := false, limit := false, stoSeen := false, first := false, follows := false, genLive := 0,
    faultCode := 0, consecMiss := 0, staleRun := 0, feRun := 0, missCount := 0, xs := 0, xref := 0, xfb := 0, vs := 0, as := 0,
    js := 0, vfb := 0, ip := 0, iv := 0, ePrev := 0, vhat := 0, dhat := 0, tau := 0, pbq := List.replicate 4 0,
    vbq := List.replicate 8 0, rem := 0, mprev := 0, c := 0, pend := 0, regSeq := 0, lastRecord := zeros 16, target := 0, pa := 0,
    ph := 8, left := 0, phases := List.replicate 8 (0, 0), jogVt := 0, lastCycle := 0, nodes := List.replicate 24 0, tq := 0,
    masterRun := 0, held := [], lastMode := 0, resetRec := false, enableNext := 0, status := 0, standing := 0, record := zeros 16,
    markSeq := 0, markSeen := false }
/-- An empty ledger area. -/
def LedgerArea.reset : LedgerArea := ⟨0, 0, 0, 0, false, false, []⟩
/-- A mirror lane (R291): block lock, delay exchanges since lock, the sum of their (t4 - t1) - turnaround in 2^-16 ns, and the partner's last t1
with its own receive time. -/
structure MirLane where
  exchanges : Nat
  sum : Int
  echo : Option (LTime × LTime)
  deriving DecidableEq, Repr

/-- An announced handover (R301, R311, R313): the count of its bell, kind (0 drill, 1 release, 2 divergence yield, 3 release of a holder that leaves
for Configure), cycles before hand-back (0 = none), and the packet that waits for the bell. -/
structure Handover where
  bell : Nat
  kind : Nat
  back : Nat
  ref : Option PktRef
  deriving DecidableEq, Repr

/-- The check of a drill at the former holder (R311): handover bell, segments checked, channels on which the new holder's bell and downlink
arrived in the cycle of that bell (key 8 x channel + segment), whether the check at the next bell has passed, DRILL_DONE is posted, and the
proofs 16 and 17 still awaited. -/
structure Drill where
  bell : Nat
  checked : List Nat
  bells : List Nat
  downs : List Nat
  passed : Bool
  done : Bool
  awaiting : List Nat
  deriving DecidableEq, Repr

/-- A divergence incident (R301): group, kind and cycle of its detection, cycle of its notice once given, own and partner's self-test result. -/
structure Incident where
  group : Nat
  kind : Nat
  cycle : Nat
  notice : Option Nat
  own : Option Bool
  peer : Option Bool
  deriving DecidableEq, Repr

/-- A LOG frame received for the present cycle (R292, R303): part number, whether it is the last, entries. -/
structure LogPart where
  part : Nat
  last : Bool
  entries : List (Nat × LogAct)
  deriving DecidableEq, Repr

/-- Mirror and pair state beside the MIR registers (R283 to R316). Lanes; the partner's last HELLO payload since boot; whether the link is up, and whether no valid frame has come for 1 ms; highest
epoch seen; the last LEASE with its cycle; the holder's last logged mode; a handover that is announced, and the bell at which one gave this controller the permit (R311); a drill check; the count at which a
hand-back is logged; FENCE_BLOCKED posted; an incident; times of recent incidents and log losses; cycle of the partner's last REPORT;
resynchronisation wanted (full flag), first cycle of a sweep, slices loaded in it, bytes of the bulk image left, parts of the image received,
whether the image is complete, logs held until then; LOG frames received for the cycle, a damaged or incomplete one, count of the last
complete log and its host batches; the SUMMARYs received in the cycle; proof times confirmed to the partner, and paths whose drill failed and that no proof has followed; last time of proof 16 told to the partner; level and last edge of PERMIT_OUT; LOG_MAX in force; a controlled stop towards Ready; a
SET_MODE to Run that acts at the next boundary; a logged change of mode that acts after the permit events of its boundary, with the permit as it stood
before them (R49); the cycle in which this controller took the permit for a SET_MODE (R48); segments on which stop frames go out; channels of the holder's bells and downlinks of this cycle; log bytes sent
in this cycle as corrections; the standby's snapshot of the cycle's slice (R300);
records and digests of the holder that wait until the standby's own axes are completed (R298); whether the DIGEST of the cycle has gone out. -/
structure Mir where
  lane0 : MirLane
  lane1 : MirLane
  peer : Option (List Byte)
  up : Bool
  quiet : Bool
  eSeen : Nat
  lease : Option (Nat × List Byte)
  holderMode : Nat
  handover : Option Handover
  passed : Option Nat
  drill : Option Drill
  back : Option Nat
  fenceSaid : Bool
  incident : Option Incident
  incidents : List LTime
  reportAt : Option Nat
  resync : Option Bool
  sweepFrom : Option Nat
  loaded : List Nat
  bulkLeft : Nat
  parts : List BulkPart
  imageDone : Bool
  heldLogs : List (List (Nat × LogAct))
  rx : List LogPart
  rxBad : Bool
  lastLog : Nat
  lastHost : List (Nat × LogAct)
  sums : List (Nat × List (Option Nat))
  confirmed : List (Nat × Nat)
  failed : List Nat
  told16 : Nat
  outLevel : Bool
  outEdge : LTime
  logMax : Nat
  stopping : Bool
  runNext : Bool
  modeDue : Option (Nat × Bool)
  tookAt : Option Nat
  stopFrames : List Nat
  bells : List Nat
  downs : List Nat
  corrected : Nat
  snap : List (Nat × List Byte)
  later : List (Nat × List Byte)
  digest : Option (List Nat × Nat)
  digested : Bool
  deriving DecidableEq, Repr
/-- A mirror lane after reset: no lock. -/
def MirLane.reset : MirLane := ⟨0, 0, none⟩
/-- The mirror after reset. A controller without a lane up logs 7,168 bytes per cycle (R295). -/
def Mir.reset : Mir :=
  { lane0 := .reset, lane1 := .reset, peer := none, up := false, quiet := false, eSeen := 0, lease := none, holderMode := 6, handover := none, passed := none, drill := none,
    back := none, fenceSaid := false, incident := none, incidents := [], reportAt := none, resync := none, sweepFrom := none, loaded := [],
    bulkLeft := 0, parts := [], imageDone := false, heldLogs := [], rx := [], rxBad := false, lastLog := 0, lastHost := [], sums := [],
    confirmed := [], failed := [], told16 := 0, outLevel := true, outEdge := 0, logMax := 7168, stopping := false, runNext := false, modeDue := none, tookAt := none,
    stopFrames := [], bells := [], downs := [], corrected := 0, snap := [], later := [], digest := none, digested := false }


/-- Everything the part holds but its fuses and its backup domain. `regs` is what BAR0 shows (the shadow copy of CYCLE and GEN fields,
R14), `live` the live copies under the same offsets, `latch` the latched upper words (R57), `free` counts the free values drawn. -/
structure Dev where
  regs : SMap Word
  live : SMap Word
  latch : SMap Word
  free : Nat
  sys : Sys
  hif : Hif
  sec : Sec
  ltm : Ltm
  evo : SMap EvoOut
  ports : SMap Port
  cyc : Cyc
  eng : Eng
  axes : SMap AxisState
  trc : Trc
  fb : SMap Fb
  adc : SMap AdcCh
  acq : Acq
  dram : SMap Byte
  sto : Sto
  saf : Saf
  can : SMap CanCh
  sch : Sch
  mir : Mir
  ledger : Ledger
  out : List Output
  deriving DecidableEq, Repr

/-- The state of the ILN5120 and the queue of commands that wait, oldest first. -/
structure State where
  fuses : Fuses
  backup : Backup
  dev : Dev
  pending : List Instr
  deriving DecidableEq, Repr

/-- An unused root slot. -/
def RootSlot.empty (use : Nat) : RootSlot := ⟨zeros 48, use, false⟩
/-- Fuses of a part as delivered: nothing blown but the factory's slot 0 (notes/assumptions/2.md). -/
def Fuses.blank : Fuses :=
  { serial := 0, grade := 0, pufHelper := [], root0 := .empty 0b101, root1 := .empty 0, root2 := .empty 0, root3 := .empty 0, arb := 0,
    provisioned := false, debugLock := false, hotAction := false }
/-- The backup domain as its own power-on reset leaves it (R494, R498). -/
def Backup.reset : Backup := ⟨List.replicate 9 0, none, false, 0, 0⟩
/-- System state after reset. -/
def Sys.reset : Sys :=
  { index := 0, asserted := [], bootSel := 0, pairEnd := true, rtcAt := 0, resetDue := none, request := none,
    lockedFrom := 0, dormantFrom := 0, wake := none, package := none, dramGiB := 0, temp := 0, tempHigh := false, tempWarn := false,
    clearTally := none, selfReset := false }
/-- Host interface state after reset. -/
def Hif.reset : Hif :=
  { hbLast := 0, lapse := none, held := [], kept := [], vectors := [], dropped := 0, batch := [], unsent := [], lastReply := [], turn := [], inWork := [], epoch := 0, perst := false }
/-- Security state after reset: empty boot flash and certificates (notes/assumptions/2.md). -/
def Sec.reset : Sec :=
  { slotA := ⟨none, []⟩, slotB := ⟨none, []⟩, pkg0 := none, pkg1 := none, activePkg := 0, certDev := [], certCa := [], sessions := [], draws := 0,
    challenge := none, scopes := [], opened := false, fwHash := [], burn := none, idSecret := [] }
/-- Line-time state after reset: the count starts at 0 (R120). -/
def Ltm.reset : Ltm :=
  { now := 0, acc := 0, tx := [], theta := none, ppsLast := none, ppsLost := false, trunk := [], alignWait := false, ppsLow := false, heard := [],
    noSource := 0 }
/-- Cycle state after reset. -/
def Cyc.reset : Cyc :=
  { count := 0, ref := 0, running := false, closed := false, active := none, pending := none, working := none, countdown := none, join := none,
    waiting := [], log := [], used := 0, partsSent := 0, commits := [], wakeAt := none, msDone := none,
    preBell := false }
/-- Engine state after reset. -/
def Eng.reset : Eng :=
  { host := [], channels := [], masters := [], latched := 0, complete := 0, ordered := [], fb := [], fbPrev := [], fbReady := [],
    laneErr := [], missed := [], slack := [], running := [], done := [], before := [], cams := [], busy := [],
    chunks := [], failing := 0, slackAxis := 0, repeatOnly := false, corrected := 0, started := [], tested := none, nonFinite := [] }
/-- Trace state after reset. -/
def Trc.reset : Trc := ⟨[], [], none, [], []⟩
/-- The ledger of a part as delivered: both areas empty (notes/assumptions/2.md). -/
def Ledger.reset : Ledger := ⟨.reset, .reset, 0, 1, [], none, []⟩
/-- Everything but fuses and backup domain after a power-on reset. -/
def Dev.reset : Dev :=
  { regs := [], live := [], latch := [], free := 0, sys := .reset, hif := .reset, sec := .reset, ltm := .reset, evo := [], ports := [],
    cyc := .reset, eng := .reset, axes := [], trc := .reset, fb := [], adc := [], acq := .reset, dram := [], sto := .reset, saf := .reset, can := [], sch := .reset, mir := .reset, ledger := .reset, out := [] }
/-- The machine right after reset: every register at its reset value, no command waiting (R57, R494). The registers whose reset value is a
strap, a fuse or the tally show the straps pulled up, the blank fuses and a tally without a cause (R503, R504; notes/assumptions/2.md). -/
def State.reset : State := ⟨.blank, .reset, { Dev.reset with regs := [(SYS_MODE, 0x10012), (RST_CAUSE, 0xF), (SEC_ROOTS, 0x5)] }, []⟩

end Sys2Proof.Machine
end

