-- ==== Sys2Proof/Machine/AxisLaw.lean ====
section
/-! DEFINITION. Sys2Proof/Machine/AxisLaw.lean: one computation of the axis law (R181 to R198, R201, R205), operation by operation in
the order the manual writes. `P` reads a live parameter word of the axis by its offset (R206); `cam` reads a little-endian
field of the cam and profile area (R190). -/
namespace Sys2Proof.Machine

/-- The inputs of one computation (R182 to R185, R192, R194, R198). `follows` is FOLLOWS of R195; `masterStopped` is STOPPED of the master. -/
structure LawIn where
  xfb : Int
  vfb : Nat
  tq : Nat
  nodeFault : Bool
  sto : Bool
  stale : Bool
  master : Option (Int × Nat)
  follows : Bool
  masterStopped : Bool
  host : Option (List Byte × Bool)
  haSet : Bool
  haLaw : Bool
  period : Nat
  latched : Bool
  deriving DecidableEq, Repr

/-- A signed 64-bit parameter, low word first (R206). -/
def param64 (P : Nat → Nat) (o : Nat) : Int := signedOf 64 (P o + 2 ^ 32 * P (o + 4))
/-- T_S of R181: P * 8 * 10^-9 s. -/
def constTS (period : Nat) : Nat := fpDiv (period * 8) (10 ^ 9)
/-- INV_T of R181. -/
def constInvT (period : Nat) : Nat := fpDiv (10 ^ 9) (period * 8)
/-- K_T of R168. -/
def constKT (period : Nat) : Nat := fpDiv (period * 8 * 65536) (10 ^ 9)
/-- C9 of R181. -/
def constC9 : Nat := fpDiv 1 (10 ^ 9)

/-- Fields of the option word (R207). -/
def optSplit (P : Nat → Nat) : Nat := bitsOf (P pOPT) 1 0
def optMode (P : Nat → Nat) : Nat := bitsOf (P pOPT) 4 2
def optReg (P : Nat → Nat) : Bool := bitAt (P pOPT) 5
def optFric (P : Nat → Nat) : Bool := bitAt (P pOPT) 6
def optDob (P : Nat → Nat) : Bool := bitAt (P pOPT) 7
def optPbq (P : Nat → Nat) : Nat := bitsOf (P pOPT) 9 8
def optVbq (P : Nat → Nat) : Nat := bitsOf (P pOPT) 12 10
def optVirtual (P : Nat → Nat) : Bool := bitAt (P pOPT) 13
def optModulo (P : Nat → Nat) : Bool := bitAt (P pOPT) 14
/-- BAD_OPTIONS of R207. -/
def badOptions (P : Nat → Nat) : Bool :=
  optSplit P == 3 || 4 < optMode P || optPbq P == 3 || 4 < optVbq P || bitsOf (P pOPT) 31 15 != 0
/-- Stop group of the axis (R201, R206). -/
def axisGroup (P : Nat → Nat) : Nat := bitsOf (P pCHECK) 9 6

/-- Prediction of R168 from the position and velocity of the previous computation. -/
def predict (period : Nat) (p : Int) (v : Nat) : Int := satAdd64 p (int64Round (fpMul v (constKT period)))

/-- Extrapolation of a logged sample to the reference instant (R184). -/
def extrapolate (ref : LTime) (s : Sample) : Int :=
  satAdd64 s.x (int64Round (fpMul s.v (fpMul (fpOfInt ((ref : Int) - (s.t : Int))) constC9)))

/-- The ramp of R188 towards `vt` with `step`. -/
def rampStep (period vt step : Nat) (s : AxisState) : AxisState :=
  let vnew := if fpLt s.vs vt then (let a := fpAdd s.vs step; if fpLt vt a then vt else a)
    else if fpLt vt s.vs then (let b := fpSub s.vs step; if fpLt b vt then vt else b)
    else s.vs
  { s with xs := satAdd64 s.xs (int64Round (fpMul (fpAdd s.vs vnew) (fpScale (constKT period) (-1)))), vs := vnew }

/-- Duration of phase `k`; the list holds eight entries (R187). -/
def phaseD (s : AxisState) (k : Nat) : Nat := ((s.phases[k]?).map (·.2)).getD 0
/-- Jerk of phase `k` (R187). -/
def phaseJ (s : AxisState) (k : Nat) : Nat := ((s.phases[k]?).map (·.1)).getD 0
/-- First phase at or after `k` with a duration; 8 when there is none. -/
def nextPhase (s : AxisState) (k : Nat) : Nat :=
  ((List.range 8).find? (fun j => k ≤ j && phaseD s j != 0)).getD 8

/-- The recurrence of a phase with jerk `j` (R187): position, velocity and acceleration. -/
def phaseStep (period j : Nat) (xs : Int) (vs pa : Nat) : Int × Nat × Nat :=
  let ts := constTS period
  let pa := fpFma j ts pa
  let vnew := fpFma pa ts vs
  (satAdd64 xs (int64Round (fpMul (fpAdd vs vnew) (fpScale (constKT period) (-1)))), vnew, pa)
/-- One cycle of a phase list (R187). -/
def profileStep (period : Nat) (s : AxisState) : AxisState :=
  if 8 ≤ s.ph then s else
    let s := if s.left = 0 then (let k := nextPhase s (s.ph + 1); { s with ph := k, left := if k < 8 then phaseD s k else 0 }) else s
    if 8 ≤ s.ph then { s with xs := s.target, vs := 0, pa := 0 }
    else
      let r := phaseStep period (phaseJ s s.ph) s.xs s.vs s.pa
      let left := s.left - 1
      if left = 0 ∧ nextPhase s (s.ph + 1) = 8 then
        { s with xs := s.target, vs := 0, pa := 0, ph := 8, left := 0 }
      else { s with pa := r.2.2, vs := r.2.1, xs := r.1, left := left }

/-- `f` applied `n` times. -/
def times {α : Type} (f : α → α) : Nat → α → α
  | 0, a => a
  | n + 1, a => times f n (f a)
/-- One cycle of a planned list under the bounds of R539: whether they hold so far, position, velocity and acceleration. `up` is the direction of the
move; `lims` are the limits of velocity, acceleration, deceleration and jerk. -/
def profileCheck (period : Nat) (up : Bool) (lims : List Nat) (j : Nat) (q : Bool × Int × Nat × Nat) : Bool × Int × Nat × Nat :=
  let r := phaseStep period j q.2.1 q.2.2.1 q.2.2.2
  let mag := fun x => (fpVal x).natAbs
  let lim := fun k => mag (lims.getD k 0)
  let ok := mag r.2.1 ≤ lim 0 && decide (if up then 0 ≤ fpVal r.2.1 else fpVal r.2.1 ≤ 0) &&
    (mag r.2.1 ≤ mag q.2.2.1 || mag r.2.2 ≤ lim 1) && (mag q.2.2.1 ≤ mag r.2.1 || mag r.2.2 ≤ lim 2)
  (q.1 && ok, r)
/-- Whether a list is one that R539 allows for a distance: the seven phases in order with the sign of each, jerks and durations in range, the bounds
of every cycle, and an end within one count of the target. -/
def profileOk (period : Nat) (dist : Int) (lims : List Nat) (list : List (Nat × Nat)) : Bool :=
  let up := decide (0 ≤ dist)
  let signs : List Int := [1, 0, -1, 0, -1, 0, 1]
  let shape := (list.zip signs).all (fun x =>
    x.1.2 == 0 || (fpFinite x.1.1 && decide (x.1.2 < 2 ^ 32) && decide ((fpVal x.1.1).natAbs ≤ (fpVal (lims.getD 3 0)).natAbs) &&
      decide (if x.2 = 0 then fpVal x.1.1 = 0 else 0 ≤ x.2 * (if up then 1 else -1) * fpVal x.1.1)))
  let r := list.foldl (fun q x => times (profileCheck period up lims x.1) x.2 q) (true, 0, 0, 0)
  list.length == 7 && shape && r.1 && decide ((r.2.1 - dist).natAbs ≤ 65536)

/-- The incremental gear (R189). -/
def gearStep (P : Nat → Nat) (xm : Int) (vm : Nat) (s : AxisState) : AxisState :=
  let num := signedOf 32 (P pGEAR_NUM)
  let den : Int := P pGEAR_DEN
  let dm := satSub64 xm s.mprev
  let acc := dm * num + s.rem
  let q := if den = 0 then 0 else Int.fdiv acc den
  { s with mprev := xm, rem := acc - q * den, xs := satAdd64 s.xs (sat64 q),
           vs := fpMul (fpDivInt num (P pGEAR_DEN)) vm }

/-- The cam evaluation (R190, R191). `base` is the table's byte offset in the area. -/
def camStep (P : Nat → Nat) (cam : Nat → Nat → Nat) (xm : Int) (vm : Nat) (s : AxisState) : AxisState :=
  let base := cam (16 * bitsOf (P pCAM_TABLE) 9 0) 4
  let n := cam base 2
  let rising := bitAt (cam (base + 2) 2) 0
  let w : Int := cam (base + 8) 8
  let rise := signedOf 64 (cam (base + 16) 8)
  let invW := cam (base + 24) 4
  let len := (n : Int) * w
  let u := satSub64 xm (param64 P pCAM_MOFF)
  let k := if len = 0 then 0 else Int.fdiv u len
  let r := u - k * len
  let i := if w = 0 then 0 else Int.fdiv r w
  let qr := r - i * w
  let pt := base + 32 + 24 * i.toNat
  let c1 := cam (pt + 8) 4
  let c2 := cam (pt + 12) 4
  let c3 := cam (pt + 16) 4
  let f := fpMul (fpOfInt qr) invW
  let t := fpFma (fpFma c3 f c2) f c1
  let y := satAdd64 (signedOf 64 (cam pt 8)) (int64Round (fpScale (fpMul t f) 16))
  let sl := fpFma (fpFma (fpMul 0x40400000 c3) f (fpScale c2 1)) f c1
  { s with xs := satAdd64 (satAdd64 (param64 P pCAM_SOFF) (if rising then sat64 (k * rise) else 0)) y,
           vs := fpMul (fpMul sl (fpScale invW 16)) vm }

/-- The host stream (R192). -/
def streamStep (period : Nat) (data : List Byte) (valid : Bool) (s : AxisState) : AxisState :=
  let x := signedOf 64 (fieldAt data 0 8)
  { s with xs := x,
           vs := if valid then fieldAt data 8 4
                 else fpMul (fpOfInt (satSub64 x s.xs)) (fpScale (constInvT period) (-16)) }

/-- The generator of the live mode, with the start of a mode entered (R186). -/
def generate (P : Nat → Nat) (cam : Nat → Nat → Nat) (i : LawIn) (mode : Nat) (s : AxisState) : AxisState :=
  let m := i.master.getD (s.mprev, 0)
  match mode with
  | 0 => match i.host with
    | some (d, valid) => streamStep i.period d valid s
    | none => s
  | 1 => rampStep i.period (fpClamp s.jogVt (fpNegate (P pVMAX)) (P pVMAX)) (fpMul (P pJOG_ACCEL) (constTS i.period)) s
  | 2 => profileStep i.period s
  | 3 => gearStep P m.1 m.2 (if s.lastMode = 3 then s else { s with mprev := m.1, rem := 0 })
  | _ => camStep P cam m.1 m.2 s

/-- Step 2 of R195: tracking, FIRST, the stop ramp or the generator, and a_s, j_s of R193. -/
def stepGenerator (P : Nat → Nat) (cam : Nat → Nat → Nat) (i : LawIn) (tracking : Bool) (s : AxisState) : AxisState :=
  let xm := (i.master.map (·.1)).getD s.mprev
  if tracking then
    { s with xs := satSub64 i.xfb s.c, vs := 0, as := 0, js := 0, mprev := xm, rem := 0,
             ph := 8, left := 0, pa := 0, jogVt := 0, first := true, genLive := 6, lastMode := 6 }
  else
    let was := s.first
    let s1 := if s.first then { s with xs := satSub64 i.xfb s.c, vs := 0, mprev := xm, rem := 0 } else s
    let mode := if i.haSet then 0 else optMode P
    let ramp := (s1.stopping || s1.stopped) && !i.follows
    let s2 := if ramp then
        { rampStep i.period 0 (fpMul (P pSTOP_DECEL) (constTS i.period)) s1 with genLive := 5, lastMode := 5 }
      else { generate P cam i mode { s1 with lastMode := if was then mode else s1.lastMode } with genLive := mode, lastMode := mode }
    let as := fpMul (fpSub s2.vs s1.vs) (constInvT i.period)
    let js := fpMul (fpSub as s1.as) (constInvT i.period)
    { s2 with as := if was then 0 else as, js := if was then 0 else js, first := false }

/-- A registration request reaches the axis (R194): a new one, by its sequence number, is recorded and held until the rule takes it. -/
def holdRequest (r : Int × Nat) (s : AxisState) : AxisState :=
  if r.2 = s.regSeq then s else { s with held := s.held ++ [r], regSeq := r.2 }
/-- Step 3 of R195, first part: the registration entry of R194 takes every held request, oldest first. -/
def stepRegistration (P : Nat → Nat) (tracking : Bool) (s : AxisState) : AxisState :=
  if optReg P && !s.stopping && !s.stopped && !tracking then
    let lim := param64 P pREG_MAX
    let pend := s.held.foldl (fun p r => satAdd64 p (clampInt (-lim) lim (int64Round (fpMul (P pREG_GAIN) (fpOfInt r.1))))) s.pend
    let sl := param64 P pREG_SLEW
    let mv := clampInt (-sl) sl pend
    { s with c := satAdd64 s.c mv, pend := satSub64 pend mv, held := [] }
  else s

/-- One biquad stage (R196): coefficients by index, states S1 and S2; returns y and the new states. -/
def biquad (co : Nat → Nat) (x s1 s2 : Nat) : Nat × Nat × Nat :=
  let y := fpFma (co 0) x s1
  (y, fpFma (co 1) x (fpFma (co 3) y s2), fpFma (co 2) x (fpMul (co 4) y))

/-- A chain of `n` stages in ascending number over the state list S1, S2, S1, S2, ... (R196); the states of stages beyond `n` stay. -/
def biquadChain (co : Nat → Nat → Nat) : Nat → Nat → Nat → List Nat → Nat × List Nat
  | 0, _, x, st => (x, st)
  | n + 1, k, x, s1 :: s2 :: st =>
    let r := biquad (co k) x s1 s2
    let rest := biquadChain co n (k + 1) r.1 st
    (rest.1, r.2.1 :: r.2.2 :: rest.2)
  | _ + 1, _, x, st => (x, st)

/-- Node 1 with the soft limits (step 3): value and whether it was clamped. -/
def softLimit (P : Nat → Nat) (x : Int) : Int × Bool :=
  if bitAt (P pCHECK) 4 then
    let t := clampInt (param64 P pPMIN) (param64 P pPMAX) x
    (t, t != x)
  else (x, false)

/-- Node 3 (step 4). -/
def posError (P : Nat → Nat) (n1 n2 : Int) : Nat :=
  let e := satSub64 n1 n2
  let e := if optModulo P then
      (let len := param64 P pMOD_LEN; let h := Int.fdiv len 2; Int.fmod (e + h) len - h) else e
  fpScale (fpOfInt e) (-16)

/-- Step 7 of R195 and the node values: everything after the controllers. `nodes` hold n0 to n23. -/
def finishLaw (P : Nat → Nat) (i : LawIn) (tracking ipOn ivOn : Bool) (n11 : Nat) (nodes : List Nat) (s : AxisState) : AxisState :=
  let n3 := (nodes[3]?).getD 0
  let n20 := (nodes[20]?).getD 0
  let n22 := (nodes[22]?).getD 0
  let n19 := (nodes[19]?).getD 0
  let ts := constTS i.period
  let fec := bitsOf (P pCHECK) 3 0
  let s1 := if tracking then
      { s with ip := 0, iv := 0, pbq := List.replicate 4 0, vbq := List.replicate 8 0, vhat := i.vfb, dhat := 0, feRun := 0 }
    else
      { s with
        ip := if n20 = 0 && ipOn then fpClamp (fpFma (fpMul (P pKI) ts) n3 s.ip) (fpNegate (P pIP_LIM)) (P pIP_LIM) else s.ip
        iv := if n20 = 0 && ivOn then fpClamp (fpFma (fpMul (P pKVI) ts) n11 s.iv) (fpNegate (P pIV_LIM)) (P pIV_LIM) else s.iv
        feRun := if 0 < fec && fpLt n22 (fpAbs n3) then min 15 (s.feRun + 1) else 0 }
  { s1 with ePrev := n3, tau := n19, nodes := nodes, saturated := n20 != 0, xfb := i.xfb, vfb := i.vfb, tq := i.tq }

/-- The FP32 code of a flag node. -/
def flagNode (b : Bool) : Nat := if b then 1 else 0

/-- Steps 3 to 7 of R195 with the hardware controllers, by loop split (R197). -/
def controllers (P : Nat → Nat) (i : LawIn) (tracking : Bool) (s : AxisState) : AxisState :=
  let split := optSplit P
  let lim := softLimit P (satAdd64 s.xs s.c)
  let n3 := posError P lim.1 i.xfb
  let n4 := fpMul (P pKP) n3
  let n6 := fpMul (fpMul (P pKD) (constInvT i.period)) (fpSub n3 s.ePrev)
  let pb := biquadChain (fun k c => P (pPBQ k c)) (optPbq P) 0 (fpAdd (fpAdd n4 s.ip) n6) s.pbq
  let n8 := fpMul (P pKVFF) s.vs
  let u9 := fpAdd pb.1 n8
  let n9 := fpClamp u9 (fpNegate (P pVMAX)) (P pVMAX)
  let sat9 := !fpEq n9 u9
  let n10 := i.vfb
  let n11 := fpSub n9 n10
  let n12 := fpMul (P pKVP) n11
  let n14 := fpAdd n12 s.iv
  let vb := biquadChain (fun k c => P (pVBQ k c)) (optVbq P) 0 n14 s.vbq
  let n16 := fpFma (P pKJFF) s.js (fpMul (P pKAFF) s.as)
  let n17 := if optFric P then
      fpFma (P pFRIC_V) n9 (fpMul (P pFRIC_C) (fpClamp (fpMul n9 (fpInv (P pFRIC_VBAND))) 0xBF800000 fpOne)) else 0
  let vp := fpFma (fpMul (P pDOB_A) (constTS i.period)) (fpAdd s.tau s.dhat) s.vhat
  let r := fpSub n10 vp
  let vhat := if optDob P then fpFma (P pDOB_L1) r vp else s.vhat
  let dhat := if optDob P then fpFma (P pDOB_L2) r s.dhat else s.dhat
  let n23 := if optDob P then dhat else 0
  let n18 := fpSub (fpAdd (fpAdd vb.1 n16) n17) (fpMul (P pDOB_GAIN) n23)
  let n19 := fpClamp n18 (fpNegate (P pTLIM)) (P pTLIM)
  let n22 := fpFma (P pFE_VEL) (fpAbs s.vs) (P pFE_STATIC)
  let pos (x : Int) : Nat := codeOf 64 x
  match split with
  | 0 =>
    let n20 := flagNode (sat9 || !fpEq n19 n18 || lim.2)
    finishLaw P i tracking true true n11
      [pos s.xs, pos lim.1, pos i.xfb, n3, n4, s.ip, n6, pb.1, n8, n9, n10, n11, n12, s.iv, n14, vb.1, n16, n17, n18, n19, n20, i.tq, n22, n23]
      { s with pbq := pb.2, vbq := vb.2, vhat := vhat, dhat := dhat, xref := lim.1, limit := lim.2 }
  | 1 =>
    finishLaw P i tracking true false 0
      [pos s.xs, pos lim.1, pos i.xfb, n3, n4, s.ip, n6, pb.1, n8, n9, n10, 0, 0, 0, 0, 0, n16, 0, 0, 0, flagNode (sat9 || lim.2), i.tq, n22, 0]
      { s with pbq := pb.2, xref := lim.1, limit := lim.2 }
  | _ =>
    finishLaw P i tracking false false 0
      [pos s.xs, pos lim.1, pos i.xfb, n3, 0, 0, 0, 0, n8, 0, n10, 0, 0, 0, 0, 0, 0, 0, 0, 0, flagNode lim.2, i.tq, n22, 0]
      { s with xref := lim.1, limit := lim.2 }

/-- The computation while the control law is host-assisted (R198). -/
def hostLaw (P : Nat → Nat) (i : LawIn) (tracking : Bool) (s : AxisState) : AxisState :=
  let split := optSplit P
  let d := ((i.host).map (·.1)).getD []
  let xm := (i.master.map (·.1)).getD s.mprev
  let xs := if split = 2 then satSub64 (signedOf 64 (fieldAt d 0 8)) s.c else satSub64 i.xfb s.c
  let s := if tracking then { s with mprev := xm, rem := 0, ph := 8, left := 0, pa := 0, jogVt := 0 } else s
  let s := { s with xs := xs, vs := 0, as := 0, js := 0, first := tracking, genLive := 7, lastMode := 7 }
  let lim := softLimit P (satAdd64 s.xs s.c)
  let n3 := posError P lim.1 i.xfb
  let cmd := fieldAt d 0 4
  let ff := fieldAt d 8 4
  let n22 := fpFma (P pFE_VEL) 0 (P pFE_STATIC)
  let n19 := fpClamp cmd (fpNegate (P pTLIM)) (P pTLIM)
  let n9 := fpClamp cmd (fpNegate (P pVMAX)) (P pVMAX)
  let pos (x : Int) : Nat := codeOf 64 x
  let s := { s with xref := lim.1, limit := lim.2 }
  match split with
  | 0 => finishLaw P i tracking false false 0
      [0, pos lim.1, pos i.xfb, n3, 0, 0, 0, 0, 0, 0, i.vfb, 0, 0, 0, 0, 0, 0, 0, cmd, n19, flagNode (!fpEq n19 cmd), i.tq, n22, 0] s
  | 1 => finishLaw P i tracking false false 0
      [0, pos lim.1, pos i.xfb, n3, 0, 0, 0, 0, 0, n9, i.vfb, 0, 0, 0, 0, 0, ff, 0, 0, 0, flagNode (!fpEq n9 cmd), i.tq, n22, 0] s
  | _ => finishLaw P i tracking false false 0
      [0, pos lim.1, pos i.xfb, n3, 0, 0, 0, 0, ff, 0, i.vfb, 0, 0, 0, 0, 0, 0, 0, 0, 0, flagNode lim.2, i.tq, n22, 0] s

/-- The first fault is kept (R202). -/
def setFault (code : Nat) (s : AxisState) : AxisState :=
  if s.faulted then s else { s with faulted := true, faultCode := code }

/-- The stop becomes complete for a member (R201). STOPPING stays set until the release. -/
def stepStopped (i : LawIn) (s : AxisState) : AxisState :=
  if s.stopping && !s.faulted && s.enabled && fpEq s.vs 0 && (!i.follows || i.masterStopped) then { s with stopped := true } else s

/-- STOPPING of a member while its group's stop is latched (R201). -/
def orderStop (s : AxisState) : AxisState :=
  if s.enabled && !s.faulted && !s.stopped && !s.stopping then
    { s with stopping := true, jogVt := 0, ph := 8, left := 0, pa := 0 } else s

/-- One computation of an axis whose options the microprogram knows (R195). -/
def compute (P : Nat → Nat) (cam : Nat → Nat → Nat) (i : LawIn) (s0 : AxisState) : AxisState :=
  let s := if i.nodeFault then setFault 5 s0 else s0
  let s := { s with stoSeen := i.sto, stale := i.stale, follows := i.follows }
  let s := if i.latched then orderStop s else s
  let tracking := !s.enabled || s.stoSeen || s.faulted
  let s := if i.haLaw then hostLaw P i tracking s
    else controllers P i tracking (stepRegistration P tracking (stepGenerator P cam i tracking s))
  let s := if 0 < bitsOf (P pCHECK) 3 0 && s.feRun = bitsOf (P pCHECK) 3 0 && !s.stoSeen then setFault 4 s else s
  { stepStopped i s with miss := false, consecMiss := 0 }

/-- The torque limit field of a downlink record (R197). -/
def torqueField (P : Nat → Nat) : Nat := (min 65535 (int64Round (fpScale (P pTLIM) 12))).toNat

/-- The 16-byte downlink record of a completed computation (R89, R197, R198). -/
def formRecord (P : Nat → Nat) (haLaw quick : Bool) (s : AxisState) : List Byte :=
  let n (k : Nat) := (s.nodes[k]?).getD 0
  let body := match optSplit P with
    | 0 => leBytes 4 (n 19) ++ zeros 8
    | 1 => leBytes 4 (n 9) ++ zeros 4 ++ leBytes 4 (n 16)
    | _ => leBytes 8 (n 1) ++ leBytes 4 (n 8)
  let cw := flag (s.enabled && !s.faulted && !s.resetRec) + 4 * flag (s.faulted || (haLaw && quick)) + 8 * flag s.resetRec + 16 * flag s.stale
  body ++ leBytes 2 cw ++ leBytes 2 (torqueField P)

/-- The record of an axis that faulted with BAD_OPTIONS: zero but for quick stop (R202). -/
def badRecord : List Byte := zeros 12 ++ leBytes 2 4 ++ zeros 2

/-- A record repeated as held (R163), with quick stop when the axis is faulted (R164). -/
def heldRecord (quick : Bool) (r : List Byte) : List Byte :=
  let r := padTo 16 r
  let cw := fieldAt r 12 2
  let cw := if bitAt cw 1 then cw else cw + 2
  let cw := if quick && !bitAt cw 2 then cw + 4 else cw
  spliceAt r 12 (leBytes 2 cw)

/-- Worst-case cost of an axis in lane cycles (R158, R159). -/
def axisCost (P : Nat → Nat) (haSet haLaw traced : Bool) : Nat :=
  if badOptions P then 360 else
    let split := optSplit P
    let t := if traced then 12 else 0
    if haLaw then 22 + 10 + 24 + 22 + t else
      let gen := match (if haSet then 0 else optMode P) with | 0 => 10 | 1 => 30 | 2 => 40 | 3 => 28 | _ => 56
      let reg := if optReg P then 14 else 0
      let pos := if split < 2 then 30 + 14 * optPbq P else 0
      let vel := if split = 0 then 38 + (if optFric P then 18 else 0) + (if optDob P then 40 else 0) + 14 * optVbq P else 0
      22 + gen + reg + pos + vel + 24 + 22 + t

end Sys2Proof.Machine
end

