-- ==== Sys2Proof/Machine/Crc.lean ====
section
/-! DEFINITION. Sys2Proof/Machine/Crc.lean: the checksums of the manual (R85, R357, R445), bit by bit from their tables. -/
namespace Sys2Proof.Machine

/-- One bit of an unreflected CRC of width `w` with polynomial `poly`. -/
def crcBit (w poly : Nat) (c : Nat) (bit : Bool) : Nat :=
  let top := bitAt c (w - 1) != bit
  let s := c * 2 % 2 ^ w
  if top then Nat.xor s poly else s
/-- A byte, most significant bit first. -/
def crcByteMsb (w poly : Nat) (c : Nat) (b : Byte) : Nat :=
  [7, 6, 5, 4, 3, 2, 1, 0].foldl (fun c i => crcBit w poly c (bitAt b.toNat i)) c
/-- One bit of a reflected CRC; `rpoly` is the polynomial with its bits reversed. -/
def crcBitRefl (rpoly : Nat) (c : Nat) (bit : Bool) : Nat :=
  let low := bitAt c 0 != bit
  if low then Nat.xor (c / 2) rpoly else c / 2
/-- A byte, least significant bit first. -/
def crcByteLsb (rpoly : Nat) (c : Nat) (b : Byte) : Nat :=
  [0, 1, 2, 3, 4, 5, 6, 7].foldl (fun c i => crcBitRefl rpoly c (bitAt b.toNat i)) c
/-- CRC-16/CCITT (R85): 0x1021, initial 0xFFFF, no reflection, no final XOR. -/
def crc16 (bs : List Byte) : Nat := bs.foldl (crcByteMsb 16 0x1021) 0xFFFF
/-- CRC-32 of IEEE 802.3 (R85): 0x04C11DB7 reflected, initial and final XOR 0xFFFFFFFF. -/
def crc32 (bs : List Byte) : Nat := Nat.xor (bs.foldl (crcByteLsb 0xEDB88320) 0xFFFFFFFF) 0xFFFFFFFF
/-- CRC-32C (R337): the Castagnoli polynomial 0x1EDC6F41 reflected, final XOR 0xFFFFFFFF, register started from a seed. -/
def crc32cFrom (seed : Nat) (bs : List Byte) : Nat := Nat.xor (bs.foldl (crcByteLsb 0x82F63B78) seed) 0xFFFFFFFF
/-- CRC-32C of stored structures (R357, R373, R445), register started from 0xFFFFFFFF as the Castagnoli CRC commonly is
(PRESUMED, notes/assumptions/5.md). -/
def crc32c (bs : List Byte) : Nat := crc32cFrom 0xFFFFFFFF bs
/-- CRC-64 of the digests (R299): 0x42F0E1EBA9EA3693, initial 0, no reflection, no final XOR. -/
def crc64 (bs : List Byte) : Nat := bs.foldl (crcByteMsb 64 0x42F0E1EBA9EA3693) 0

end Sys2Proof.Machine
end

