-- ==== Sys2Proof/Config.lean ====
section
/-! DEFINITION. Sys2Proof/Config.lean: what one implementation fixes and what the manual leaves open. Every constant here is
opaque: nothing can be proved about its value, so a claim about it holds for every value (notes/assumptions/1.md). -/
namespace Sys2Proof.Config

/-- SHA-384 of a byte string, 48 bytes (R446, R452). Uninterpreted. -/
opaque sha384 : List Byte → List Byte
/-- ECDSA P-384 verification: public key, message, signature (R446). Uninterpreted. -/
opaque ecdsaOk : List Byte → List Byte → List Byte → Bool
/-- Signature of a message with the identity key of the device whose fuse secret is given (R442). Uninterpreted. -/
opaque identitySign : List Byte → List Byte → List Byte
/-- The device secret that the PUF and the fuse helper data reconstruct (R442). Uninterpreted. -/
opaque pufSecret : List Byte → List Byte
/-- Public identity key of the device (R442). Uninterpreted. -/
opaque identityPub : List Byte → List Byte
/-- AES-256-GCM opening: key, IV, additional data, ciphertext, tag (R399); none when the tag fails. Uninterpreted. -/
opaque gcmOpen : List Byte → List Byte → List Byte → List Byte → List Byte → Option (List Byte)
/-- AES-256-GCM sealing in the controller-to-host direction: key, IV, additional data, plaintext (R454). Uninterpreted. -/
opaque gcmSeal : List Byte → List Byte → List Byte → List Byte → List Byte
/-- GMAC tag under the ledger key over a byte string, 16 bytes (R372, R374). Uninterpreted. -/
opaque ledgerMac : List Byte → List Byte
/-- AES-256-XTS encryption of a record's data units (R363): device secret, store identity, key generation, record number, padded payload.
Uninterpreted. -/
opaque xtsEncrypt : List Byte → List Byte → Nat → Nat → List Byte → List Byte
/-- AES-256-XTS decryption (R363). Uninterpreted. -/
opaque xtsDecrypt : List Byte → List Byte → Nat → Nat → List Byte → List Byte
/-- Public key of an ephemeral key pair drawn for a session (R453). Uninterpreted. -/
opaque ephemeralPub : List Byte → List Byte
/-- Shared secret and session keys of a key exchange: own contribution, peer bytes (R453). Uninterpreted. -/
opaque sessionKey : List Byte → List Byte → List Byte
/-- The `n`-th draw of the random source, as bytes (R452 to R458). Uninterpreted. -/
opaque random : Nat → List Byte
/-- The phase list that firmware plans for a move (R539): distance in raw counts, the four FP32 limits, the period in quanta; pairs of jerk
and duration. Uninterpreted. -/
opaque planProfile : Int → List Nat → Nat → List (Nat × Nat)
/-- The typed sections of a configuration package's bytes: the manual names them (R450) and gives no layout. Uninterpreted. -/
opaque packageOf : List Byte → Package
/-- The `n`-th free value of a result the manual leaves open, as a number. Uninterpreted. -/
opaque freeValue : Nat → Nat

end Sys2Proof.Config
end

