-- ==== Sys2Proof/Machine/Ops.lean ====
section
/-! DEFINITION. Sys2Proof/Machine/Ops.lean: the named operations over registers, events, condition flags, outputs, the ledger journal
and completions that every command's meaning is built from. -/
namespace Sys2Proof.Machine

/-- The register at BAR0 offset `a` as BAR0 shows it (R10, R14). -/
def Dev.word (d : Dev) (a : Nat) : Word := smGet resetOf d.regs a
/-- The same as a number. -/
def Dev.rd (d : Dev) (a : Nat) : Nat := (d.word a).toNat
/-- Hardware writes a register whole. -/
def Dev.wr (a v : Nat) (d : Dev) : Dev := { d with regs := smSet resetOf d.regs a (BitVec.ofNat 32 v) }
/-- A field (R9). -/
def Dev.get (d : Dev) (f : Fld) : Nat := bitsOf (d.rd f.a) f.hi f.lo
/-- Hardware writes a field; the register's other bits stay. -/
def Dev.set (f : Fld) (v : Nat) (d : Dev) : Dev := d.wr f.a (withBits (d.rd f.a) f.hi f.lo v)
/-- A one-bit field as a flag. -/
def Dev.on (d : Dev) (f : Fld) : Bool := d.get f != 0
/-- A saturating count in a field (R78, R118: counters saturate). -/
def Dev.count (f : Fld) (n : Nat) (d : Dev) : Dev := d.set f (satAdd (f.hi + 1 - f.lo) (d.get f) n)
/-- A saturating count in a whole register. -/
def Dev.count32 (a n : Nat) (d : Dev) : Dev := d.wr a (satAdd 32 (d.rd a) n)
/-- A 64-bit value in two adjacent registers, low first (R40). -/
def Dev.rd64 (d : Dev) (lo : Nat) : Nat := d.rd lo + 2 ^ 32 * d.rd (lo + 4)
/-- Hardware writes a 64-bit value, low register first. -/
def Dev.wr64 (lo v : Nat) (d : Dev) : Dev := (d.wr lo (v % 2 ^ 32)).wr (lo + 4) (v / 2 ^ 32)
/-- The live copy of a CYCLE or GEN register (R13, R14). -/
def Dev.liveWord (d : Dev) (a : Nat) : Word := smGet resetOf d.live a
/-- The live copy as a number. -/
def Dev.lrd (d : Dev) (a : Nat) : Nat := (d.liveWord a).toNat
/-- A field of the live copy. -/
def Dev.lget (d : Dev) (f : Fld) : Nat := bitsOf (d.lrd f.a) f.hi f.lo
/-- A commit makes one captured word live (R14). -/
def Dev.goLive (a : Nat) (w : Word) (d : Dev) : Dev := { d with live := smSet resetOf d.live a w }
/-- A commit makes captured words live, in order. -/
def Dev.goLiveAll (ws : List (Nat × Word)) (d : Dev) : Dev := ws.foldl (fun d p => d.goLive p.1 p.2) d
/-- The shadow words at the given offsets, captured by a commit (R14). -/
def Dev.capture (d : Dev) (as : List Nat) : List (Nat × Word) := as.map (fun a => (a, d.word a))

/-- A write to a register without effects of its own (R10, R12): RW bits store, a 1 clears W1C bits and sets W1S bits. -/
def Dev.plainWrite (a v : Nat) (d : Dev) : Dev :=
  match descOf a with
  | some r =>
    let old := d.rd a
    let w := Nat.lor (old - Nat.land old r.rw) (Nat.land v r.rw)
    let w := Nat.lor w (Nat.land v r.w1s)
    d.wr a (w - Nat.land w (Nat.land v r.w1c))
  | none => d
/-- Apply an update `n` times over indices 0 to n - 1. -/
def Dev.forN (n : Nat) (f : Nat → Dev → Dev) (d : Dev) : Dev := (List.range n).foldl (fun d i => f i d) d
/-- Apply an update over a list. -/
def Dev.forEach {α : Type} (xs : List α) (f : α → Dev → Dev) (d : Dev) : Dev := xs.foldl (fun d x => f x d) d
/-- Apply an update when a condition holds. -/
def Dev.when (b : Bool) (f : Dev → Dev) (d : Dev) : Dev := if b then f d else d

/-- One more output of the part. -/
def Dev.emit (o : Output) (d : Dev) : Dev := { d with out := d.out ++ [o] }
/-- A free value is drawn: the counter advances, the value is that of the index before (notes/assumptions/1.md). -/
def Dev.draw (d : Dev) : Nat × Dev := (Config.freeValue d.free, { d with free := d.free + 1 })
/-- The present line time (R120). -/
def Dev.now (d : Dev) : LTime := d.ltm.now
/-- Line time has reached `t` (a command whose instant the schedule fixes happens at that instant). -/
def Dev.reach (t : LTime) (d : Dev) : Dev := { d with ltm := { d.ltm with now := max d.ltm.now t } }
/-- Present mode code (R43). -/
def Dev.mode (d : Dev) : Nat := d.get SYS_MODE.MODE
/-- The synchronised modes (R43): Ready, Run, Shadow, Lockout, Dormant. -/
def Dev.sync (d : Dev) : Bool := 6 ≤ d.mode && d.mode ≤ 10
/-- This controller holds the permit (R57). -/
def Dev.permit (d : Dev) : Bool := d.on SYS_MODE.PERMIT
/-- The host endpoint is present (R386). -/
def Dev.ready (d : Dev) : Bool := d.on HIF_STATUS.READY

/-- Whether two events fold into one entry (R117): source and code, and the bit number for condition events. -/
def sameEvent (src code : Nat) (data : List Byte) (e : Event) : Bool :=
  e.src == src && e.code == code &&
    (!(src == 0 && (code == 2 || code == 3)) || fieldAt e.data 0 1 == fieldAt data 0 1)

/-- Add an event to a collection, folding a repeat (R117): the first entry keeps its time and data. -/
def collect (e : Event) : List Event → List Event
  | [] => [e]
  | x :: xs => if x.ctrl == e.ctrl && sameEvent e.src e.code e.data x then { x with fold := satAdd 16 x.fold e.fold } :: xs
               else x :: collect e xs

/-- Post an event stamped `t` with a fold count (R116, R117, R137). -/
def Dev.postAt (t : LTime) (src code fold : Nat) (data : List Byte) (d : Dev) : Dev :=
  { d with hif := { d.hif with batch := collect ⟨t, d.sys.index, src, code, fold, padTo 15 data⟩ d.hif.batch } }
/-- Post an event of this clock (R137). -/
def Dev.post (src code : Nat) (data : List Byte) (d : Dev) : Dev := d.postAt d.now src code 1 data

/-- Post an event whose data counts its occurrences in the collection period: `mk` makes the data of that count. -/
def Dev.postSum (src code : Nat) (mk : Nat → List Byte) (d : Dev) : Dev :=
  let d := d.post src code (mk 1)
  { d with hif := { d.hif with batch := d.hif.batch.map (fun e =>
    if e.ctrl == d.sys.index && sameEvent src code (mk 1) e then { e with data := padTo 15 (mk e.fold) } else e) } }

/-- SYS_COND bit numbers (R55). -/
def condCHANNEL_LOST : Nat := 0
def condSEGMENT_FAULT : Nat := 1
def condHOP_LOSS : Nat := 2
def condPAIR_FAULT : Nat := 3
def condPARTNER_ABSENT : Nat := 4
def condSYNC_HOLDOVER : Nat := 5
def condCAL_STALE : Nat := 6
def condSCHED_OVERFLOW : Nat := 7
def condSTORE_DEGRADED : Nat := 8
def condLEDGER_CONFLICT : Nat := 9
def condAXIS_FAULT : Nat := 10
def condHOST_LOST : Nat := 11
def condPROOF_OVERDUE : Nat := 12
/-- HA flag of duty function `f` (R55: bits 16 to 23). -/
def condHA (f : Nat) : Nat := 16 + f

/-- A condition flag as it stands (R55). -/
def Dev.hasCond (d : Dev) (b : Nat) : Bool := bitAt (d.rd SYS_COND) b
/-- Set or clear a condition flag (R55): a change posts CONDITION_RAISED or CONDITION_CLEARED when its enable bit is 1,
and a raise sets the sticky bit. -/
def Dev.cond (b : Nat) (v : Bool) (d : Dev) : Dev :=
  if d.hasCond b == v then d else
    let d1 := d.wr SYS_COND (withBits (d.rd SYS_COND) b b (flag v))
    let d2 := if v then d1.wr SYS_COND_STICKY (withBits (d1.rd SYS_COND_STICKY) b b 1) else d1
    if bitAt (d2.rd SYS_COND_EVT_EN) b then d2.post 0 (if v then 2 else 3) [BitVec.ofNat 8 b] else d2
/-- Host-assisted duty of function `f` (R33, R55). -/
def Dev.ha (d : Dev) (f : Nat) : Bool := d.hasCond (condHA f)

/-- Length of a journal entry: 16-byte header and the body padded to a multiple of 8 (R373). -/
def entryLen (body : List Byte) : Nat := 16 + (body.length + 7) / 8 * 8
/-- Bodies longer than one entry holds are split into parts (R373: total length at most 4,096). -/
def splitBody (typ : Nat) (body : List Byte) : List (Nat × Nat × List Byte) :=
  (List.range (max 1 ((body.length + 4079) / 4080))).map (fun i => (typ, i, (body.drop (4080 * i)).take 4080))
/-- Number entries with rising sequences from `q` (R373). -/
def numberEntries : Nat → List (Nat × Nat × List Byte) → List LedgerEntry
  | _, [] => []
  | q, (t, p, b) :: es => ⟨q, t, p, b⟩ :: numberEntries (q + 1) es
/-- Bytes of an entry as stored, its CRC field zero (R373); the GMAC covers these. -/
def entryBytes (e : LedgerEntry) : List Byte :=
  leBytes 2 (entryLen e.body) ++ leBytes 1 e.typ ++ leBytes 1 e.part ++ leBytes 8 e.seq ++ zeros 4 ++ padTo (entryLen e.body - 16) e.body
/-- COMMIT body (R373, R374): first entry sequence, count, GMAC tag, commit word. -/
def commitBody (es : List LedgerEntry) : List Byte :=
  let q := ((es.head?).map (·.seq)).getD 0
  leBytes 8 q ++ leBytes 8 es.length ++ padTo 16 (Config.ledgerMac (es.flatMap entryBytes)) ++ leBytes 8 (Nat.xor q 0x5A5A5A5A5A5A5A5A)
/-- The active area (R372). -/
def Ledger.area (l : Ledger) : LedgerArea := if l.active = 0 then l.areaA else l.areaB
/-- Replace the active area. -/
def Ledger.setArea (l : Ledger) (a : LedgerArea) : Ledger := if l.active = 0 then { l with areaA := a } else { l with areaB := a }
/-- Whole seconds of line time. -/
def secondOf (t : LTime) : Nat := t / (65536 * 1000000000)
/-- Bytes written in the last 10 s (R378). -/
def recentBytes (sec : Nat) (r : List (Nat × Nat)) : Nat := ((r.filter (fun p => sec < p.1 + 10)).map (·.2)).sum
/-- Add bytes to the running window (R378). -/
def addRecent (sec n : Nat) (r : List (Nat × Nat)) : List (Nat × Nat) :=
  let r := r.filter (fun p => sec < p.1 + 10)
  if r.any (fun p => p.1 == sec) then r.map (fun p => if p.1 == sec then (p.1, p.2 + n) else p) else r ++ [(sec, n)]
/-- LDG_FILL and LDG_ENTRY follow the active area (R383). The area is 4 MiB with a 256-byte header. -/
def Dev.showLedger (d : Dev) : Dev :=
  let fill := 256 + ((d.ledger.area.journal.map (fun e => entryLen e.body)).sum)
  ((d.set LDG_FILL.BYTES fill).set LDG_FILL.PERCENT (fill * 100 / 0x400000)).wr64 LDG_ENTRY_LO (d.ledger.nextSeq - 1)
/-- LDG_RATE (R383): bytes written in the last whole second. DEDUCED: notes/assumptions/9.md. -/
def Dev.ledgerRate (d : Dev) : Nat := ((d.ledger.recent.filter (fun p => p.1 + 1 == secondOf d.now)).map (·.2)).sum
/-- Compaction starts at 75 % (not in host-assisted compaction, duty function 6) and is forced at 95 % (R377). -/
def Dev.checkFill (d : Dev) : Dev :=
  let p := d.get LDG_FILL.PERCENT
  let forced := decide (95 ≤ p)
  if d.ledger.compacting.isSome || !(forced || (decide (75 ≤ p) && !d.ha 6)) then d else
    let d : Dev := { d with ledger := { d.ledger with compacting := some p } }
    let d := d.set LDG_STATUS.COMPACTING 1
    if forced then (d.set LDG_STATUS.FORCED 1).post 0x1000 0x1008 (leBytes 1 p) else d
/-- One ledger transaction (R374): the entries and their COMMIT join the active journal together. -/
def Dev.transact (items : List (Nat × List Byte)) (d : Dev) : Dev :=
  if items.isEmpty || d.on LDG_STATUS.CONFLICT then d else
    let es := numberEntries d.ledger.nextSeq (items.flatMap (fun p => splitBody p.1 p.2))
    let c : LedgerEntry := ⟨d.ledger.nextSeq + es.length, 1, 0, commitBody es⟩
    let n := ((es ++ [c]).map (fun e => entryLen e.body)).sum
    let a := d.ledger.area
    ({ d with ledger :=
        { (d.ledger.setArea { a with journal := a.journal ++ es ++ [c] }) with
          nextSeq := d.ledger.nextSeq + es.length + 1, recent := addRecent (secondOf d.now) n d.ledger.recent } }).showLedger.checkFill
/-- An entry that R378 may drop: beyond 1,000,000 bytes per second over 10 s it is dropped and counted. -/
def Dev.transactLimited (typ : Nat) (body : List Byte) (d : Dev) : Dev :=
  if 10000000 < recentBytes (secondOf d.now) d.ledger.recent + entryLen body + 56 then d.count32 LDG_LIMITED 1
  else d.transact [(typ, body)]
/-- SETTING body (R373): block code, key, value (notes/assumptions/9.md). -/
def settingBody (block key value : Nat) : List Byte := leBytes 2 block ++ leBytes 2 key ++ leBytes 4 value
/-- Latest SETTING value of a block and key in a journal. -/
def lastSetting (j : List LedgerEntry) (block key : Nat) : Option Nat :=
  ((j.filter (fun e => e.typ == 10 && fieldAt e.body 0 2 == block && fieldAt e.body 2 2 == key)).getLast?).map (fun e => fieldAt e.body 4 4)

/-- The 32-byte form of an event entry (R395). -/
def eventBytes (e : Event) : List Byte :=
  leBytes 10 e.time ++ leBytes 2 e.src ++ leBytes 2 e.code ++ leBytes 2 e.fold ++ padTo 15 e.data ++ leBytes 1 e.ctrl

/-- Vector `v` fires (R396): a masked one sets its pending bit instead of sending the message. -/
def Dev.fireVector (v : Nat) (d : Dev) : Dev :=
  let d := { d with hif := { d.hif with vectors := d.hif.vectors.filter (fun p => p.1 != v) } }
  if d.on (HIF_MSIX_CTRL.MASK v) then
    d.wr (HIF_MSIX_PBA (v / 32)) (withBits (d.rd (HIF_MSIX_PBA (v / 32))) (v % 32) (v % 32) 1)
  else d.emit (.msix v)
/-- `k` entries were written for vector `v` (R396). -/
def Dev.signalN (v k : Nat) (d : Dev) : Dev :=
  let old := (d.hif.vectors.find? (fun p => p.1 == v)).map (·.2)
  let n := (old.map (·.1)).getD 0 + k
  let since := (old.map (·.2)).getD d.now
  if max 1 (d.get (HIF_VEC.COUNT v)) ≤ n || d.get (HIF_VEC.TIME v) = 0 then d.fireVector v
  else { d with hif := { d.hif with vectors := (d.hif.vectors.filter (fun p => p.1 != v)) ++ [(v, n, since)] } }
/-- One entry was written for vector `v`. -/
def Dev.signal (v : Nat) (d : Dev) : Dev := d.signalN v 1

/-- Entries of a ring whose SIZE_LOG2 field holds `n` (R412). -/
def ringSize (n : Nat) : Nat := 2 ^ (4 + min n 12)
/-- The 32-byte status reply (R394). -/
def replyBytes (r : KeptReply) (phase : Nat) : List Byte :=
  leBytes 2 r.tag ++ leBytes 2 r.status ++ leBytes 10 r.time ++ leBytes 1 (r.sq % 64 + 128 * phase) ++ [0] ++ padTo 16 r.result
/-- Write one reply at the tail of its enabled CQ (R394): owed falls, the tail wraps and inverts the phase, the vector is signalled. -/
def Dev.writeReply (r : KeptReply) (d : Dev) : Dev :=
  let size := ringSize (d.get (HIF_CQ_CFG.SIZE_LOG2 r.cq))
  let tail := d.get (HIF_CQ_TAIL.TAIL r.cq)
  let phase := d.get (HIF_CQ_TAIL.PHASE r.cq)
  let d := d.emit (.hostWrite (d.rd64 (HIF_CQ_BASE_LO r.cq) + 32 * tail) (replyBytes r phase))
  let d : Dev := { d with hif := { d.hif with lastReply := (d.hif.lastReply.filter (fun x => x.cq != r.cq)) ++ [r] } }
  let wrap := tail + 1 = size
  let d := (d.set (HIF_CQ_TAIL.TAIL r.cq) (if wrap then 0 else tail + 1)).set (HIF_CQ_TAIL.PHASE r.cq) (if wrap then 1 - phase else phase)
  (d.set (HIF_CQ_OWED.COUNT r.cq) (d.get (HIF_CQ_OWED.COUNT r.cq) - 1)).signal (d.get (HIF_CQ_CFG.VECTOR r.cq))
/-- Unconsumed entries of a CQ (R393). -/
def Dev.cqUsed (d : Dev) (c : Nat) : Nat :=
  let size := ringSize (d.get (HIF_CQ_CFG.SIZE_LOG2 c))
  (d.get (HIF_CQ_TAIL.TAIL c) + size - d.get (HIF_DB_CQ.HEAD c) % size) % size
/-- Replies formed for an enabled CQ are written in order while it is not full (R393, R397). -/
def Dev.pumpCq (c : Nat) (d : Dev) : Dev :=
  (d.hif.kept.filter (fun r => r.cq == c)).foldl (fun d r =>
    if d.on (HIF_CQ_CFG.EN c) && d.cqUsed c + 1 < ringSize (d.get (HIF_CQ_CFG.SIZE_LOG2 c)) then
      Dev.writeReply r { d with hif := { d.hif with kept := d.hif.kept.erase r } }
    else d) d
/-- Change the number of a ring's packets accepted and not completed (R391). -/
def bumpWork (q : Nat) (up : Bool) (w : List (Nat × Nat)) : List (Nat × Nat) :=
  let n := ((w.find? (fun p => p.1 == q)).map (·.2)).getD 0
  (w.filter (fun p => p.1 != q)) ++ (let m := if up then n + 1 else n - 1; if m = 0 then [] else [(q, m)])
/-- A packet completes (R392, R394): its reply is written, or kept while its CQ is disabled (R388, R397). A packet accepted before a
Function Level Reset completes without writing (R386). Rings from 64 on stand for the host jobs of tasks 0 on (R427). -/
def Dev.complete (ref : PktRef) (status : Nat) (time : LTime) (result : List Byte) (d : Dev) : Dev :=
  if ref.epoch ≠ d.hif.epoch then d else
    let d : Dev := { d with hif := { d.hif with inWork := bumpWork ref.sq false d.hif.inWork } }
    let job := smGet (fun _ => Task.reset) d.sch.tasks (ref.sq - 64)
    let cq := if ref.sq < 64 then d.get (HIF_SQ_CFG.CQ ref.sq) else job.cq
    -- a job that goes on keeps one completion reserved; the manual gives its replies no submission ring
    let d := if 64 ≤ ref.sq && job.state ≠ 0 then d.set (HIF_CQ_OWED.COUNT cq) (d.get (HIF_CQ_OWED.COUNT cq) + 1) else d
    let (sq, d) := if ref.sq < 64 then (ref.sq, d) else d.draw
    let r : KeptReply := ⟨cq, ref.tag, if ref.late && status = 0 then 0x0400 else status, time, sq % 64, result⟩
    Dev.pumpCq cq { d with hif := { d.hif with kept := d.hif.kept ++ [r] } }
/-- Complete for an optional owner. -/
def Dev.completeOpt (ref : Option PktRef) (status : Nat) (time : LTime) (result : List Byte) (d : Dev) : Dev :=
  match ref with | some r => d.complete r status time result | none => d

/-- Status codes (R402). -/
def stOK : Nat := 0x0000
def stACCEPTED : Nat := 0x0001
def stBAD_OPCODE : Nat := 0x0100
def stBAD_PARAMETER : Nat := 0x0101
def stBAD_LENGTH : Nat := 0x0102
def stWRONG_MODE : Nat := 0x0200
def stBUSY : Nat := 0x0201
def stNO_RESOURCE : Nat := 0x0202
def stNOT_AUTHENTICATED : Nat := 0x0300
def stBAD_SIGNATURE : Nat := 0x0301
def stROLLBACK : Nat := 0x0302
def stLATE : Nat := 0x0400
def stMISSED : Nat := 0x0401
def stCONSISTENCY : Nat := 0x0500
def stNOT_PERMIT_HOLDER : Nat := 0x0600
def stSAFETY_LOCKED : Nat := 0x0700
def stSTORE_FULL : Nat := 0x0800
def stMEDIA_ERROR : Nat := 0x0801
def stINTERNAL : Nat := 0x0F00

/-- Bytes written to a memory from an address on. -/
def putBytes (m : SMap Byte) (a : Nat) (bs : List Byte) : SMap Byte :=
  bs.zipIdx.foldl (fun m x => smSet (fun _ => (0 : Byte)) m (a + x.2) x.1) m
/-- Bytes of a memory. -/
def takeBytes (m : SMap Byte) (a n : Nat) : List Byte := (List.range n).map (fun i => smGet (fun _ => (0 : Byte)) m (a + i))

/-- Nanoseconds as line time. -/
def ns (n : Nat) : LTime := n * 65536
/-- Quanta of 8 ns as line time (R79). -/
def quanta (n : Nat) : LTime := n * 524288

/-- The state of the meanings: apply an update to everything but fuses, backup domain and queue. -/
def State.onDev (f : Dev → Dev) (s : State) : State := { s with dev := f s.dev }
/-- What a meaning answers. -/
abbrev Answer := Host.Outcome State Fault Refusal

end Sys2Proof.Machine
end

