-- ==== Sys2Proof/Machine/Packets.lean ====
section
/-! DEFINITION. Sys2Proof/Machine/Packets.lean: acceptance of command packets (R390 to R403), authentication (R399, R454 to R456),
scheduled packets (R140, R141), data to and from host memory (R387) and the way inputs join the cycle input log (R20). -/
namespace Sys2Proof.Machine

/-- What running an opcode answers: it is done with a status and result, done at a time of its own, or completes later (R392). -/
inductive Reply where
  | done (status : Nat) (result : List Byte)
  | doneAt (status : Nat) (time : LTime) (result : List Byte)
  | later
  deriving DecidableEq, Repr

/-- A failure: status with a zero result (R394). -/
def Reply.bad (status : Nat) : Reply := .done status []

/-- One opcode: code, range of L, mark S, classes it demands authentication for (R456), the mode check of step 5 (0 = accepted),
and what steps 6 to 8 and its effect do; `ownTime` marks the two opcodes whose execute-at time does not hold the packet (R273, R400). -/
structure Opcode where
  code : Nat
  lMin : Nat := 0
  lMax : Nat := 0
  sched : Bool := false
  ownTime : Bool := false
  classes : Packet → List Nat := fun _ => []
  modes : Packet → Dev → Nat
  run : Packet → PktRef → Dev → Reply × Dev

/-- Packet parameter of `n` bytes at packet byte `b` (22 to 63) (R398). -/
def par (p : Packet) (b n : Nat) : Nat := fieldAt p.par (b - 22) n
/-- The same within the extension bytes, byte `i` counted from extension byte 0. -/
def ext (p : Packet) (i n : Nat) : Nat := fieldAt p.par (42 + i) n
/-- Extension bytes as a list; bytes beyond 16 L read as 0. -/
def extBytes (p : Packet) (i n : Nat) : List Byte := padTo n ((p.par.drop (42 + i)).take n)
/-- Flag bit of packet byte 4. -/
def hasFlag (p : Packet) (i : Nat) : Bool := bitAt p.flags.toNat i

/-- Step 5 for an opcode accepted in the listed modes only (R401). -/
def modeIn (ms : List Nat) (d : Dev) : Nat := if ms.contains d.mode then 0 else stWRONG_MODE
/-- All modes from Sealed on. -/
def fromSealed : List Nat := [3, 4, 5, 6, 7, 8, 9, 10, 11]
/-- All but Sealed. -/
def butSealed : List Nat := [4, 5, 6, 7, 8, 9, 10, 11]
/-- Configure, the synchronised modes, Service. -/
def confSync : List Nat := [4, 6, 7, 8, 9, 10, 11]
/-- The synchronised modes and Service. -/
def syncService : List Nat := [6, 7, 8, 9, 10, 11]
/-- The synchronised modes. -/
def syncModes : List Nat := [6, 7, 8, 9, 10]
/-- Step 5 for a logged opcode: Shadow answers NOT_PERMIT_HOLDER (R403). -/
def modeLogged (ms : List Nat) (d : Dev) : Nat := if d.mode = 8 then stNOT_PERMIT_HOLDER else modeIn ms d
/-- Step 5 for the axis opcodes that Lockout answers with SAFETY_LOCKED (R403). -/
def modeAxis (ms : List Nat) (d : Dev) : Nat := if d.mode = 9 then stSAFETY_LOCKED else modeLogged ms d

/-- Packet bytes 0 to 21, the additional data of R399. -/
def headerBytes (code : Nat) (p : Packet) : List Byte :=
  leBytes 2 code ++ leBytes 2 p.tag.toNat ++ leBytes 1 p.flags.toNat ++ leBytes 1 p.len.toNat ++ leBytes 2 p.session.toNat ++
    leBytes 10 p.execAt.toNat ++ leBytes 4 p.tol.toNat

/-- Sessions shown in SEC_STATUS: those that are open, hence proved (R460). -/
def Dev.showSessions (d : Dev) : Dev := d.set SEC_STATUS.SESSIONS ((d.sec.sessions.filter (fun x => x.lapses.isNone)).length)
/-- A session ends (R455, R461). -/
def Dev.endSession (sid cause : Nat) (d : Dev) : Dev :=
  if d.sec.sessions.any (fun x => x.sid == sid) then
    let opened := d.sec.sessions.any (fun x => x.sid == sid && x.lapses.isNone)
    let d := { d with sec := { d.sec with sessions := d.sec.sessions.filter (fun x => x.sid != sid) } }
    (d.when opened (Dev.post 0x0F00 0x0F03 (leBytes 2 sid ++ leBytes 1 cause))).showSessions
  else d
/-- Every session ends (R455). -/
def Dev.endSessions (cause : Nat) (d : Dev) : Dev := d.forEach (d.sec.sessions.map (·.sid)) (fun sid => Dev.endSession sid cause)

/-- The classes a packet must be authenticated for (R456): its own and the package's group bit; security opcodes by none. -/
def demanded (op : Opcode) (p : Packet) (d : Dev) : List Nat :=
  let g := op.code / 256
  op.classes p ++ (match d.sys.package with
    | some k => if g ≠ 10 && bitAt k.groupAuth (16 + g) then [16 + g] else []
    | none => [])

/-- A packet ends NOT_AUTHENTICATED (R460). -/
def Dev.authFailed (code sid : Nat) (d : Dev) : Dev :=
  (d.count32 SEC_AUTH_FAIL_CNT 1).post 0x0F00 0x0F04 (leBytes 2 sid ++ leBytes 2 code)

/-- Change the session of an identifier. -/
def Dev.mapSession (sid : Nat) (f : Session → Session) (d : Dev) : Dev :=
  { d with sec := { d.sec with sessions := d.sec.sessions.map (fun y => if y.sid == sid then f y else y) } }

/-- Step 4 (R399, R401, R456): the plaintext parameters, or none when authentication fails. From then on the packet's security entry holds K_ch
in place of the tag, for the data that it writes later (R454, R455). -/
def Dev.authenticate (op : Opcode) (p : Packet) (d : Dev) : Option Packet × Dev :=
  let need := demanded op p d
  if hasFlag p 1 then
    let sid := p.session.toNat
    match d.sec.sessions.find? (fun x => x.sid == sid && x.lapses.isNone), p.sec with
    | some x, some e =>
      let ct := padTo (42 + 16 * p.len.toNat) p.par
      match (if x.counter < e.counter then
          Config.gcmOpen x.keyIn (leBytes 2 sid ++ zeros 2 ++ leBytes 8 e.counter) (headerBytes op.code p) ct e.tag else none) with
      | some pt =>
        let d := d.mapSession sid (fun y => { y with counter := e.counter, failures := 0 })
        let d := d.when (e.counter == 2 ^ 64 - 1) (Dev.endSession sid 2)
        if need.all (fun c => bitAt x.granted c) then (some { p with par := pt, sec := some ⟨e.counter, x.keyOut⟩ }, d)
        else (none, d.count32 SEC_AUTH_FAIL_CNT 1)
      | none =>
        let d := d.mapSession sid (fun y => { y with failures := y.failures + 1 })
        let d := d.authFailed op.code sid
        (none, d.when (16 ≤ x.failures + 1) (Dev.endSession sid 1))
    | _, _ => (none, d.authFailed op.code sid)
  else if need.isEmpty then (some p, d) else (none, d.count32 SEC_AUTH_FAIL_CNT 1)

/-- How many bytes data of `n` bytes takes in host memory: the tag follows for an authenticated packet (R454). -/
def outLen (p : Packet) (n : Nat) : Nat := if hasFlag p 1 then n + 16 else n
/-- Data as written to host memory: encrypted under K_ch when the packet is authenticated (R454). -/
def Dev.outBytes (_ : Dev) (p : Packet) (data : List Byte) : List Byte :=
  match hasFlag p 1, p.sec with
  | true, some e => padTo (data.length + 16)
      (Config.gcmSeal e.tag (leBytes 2 p.session.toNat ++ [0, 0x80] ++ leBytes 8 e.counter) [] data)
  | _, _ => data
/-- Write an opcode's data to host memory, then run on; a host that answers with an error ends the command with INTERNAL (R387). -/
def Dev.hostWrite (p : Packet) (addr : Nat) (data : List Byte) (ok : Reply) (d : Dev) : Reply × Dev :=
  match p.host with
  | none => (.bad stINTERNAL, d.count32 HIF_DMA_ERR_CNT 1)
  | some _ => (ok, d.emit (.hostWrite addr (d.outBytes p data)))
/-- Read `n` bytes of host memory for an opcode, then run on; bytes the host does not supply read as 0 (R387). -/
def Dev.hostRead (p : Packet) (n : Nat) (k : List Byte → Dev → Reply × Dev) (d : Dev) : Reply × Dev :=
  match p.host with
  | none => (.bad stINTERNAL, d.count32 HIF_DMA_ERR_CNT 1)
  | some bs => k (padTo n bs) d

/-- The submission ring's packet is accepted: it is owed a completion (R391, R393). -/
def Dev.owe (q : Nat) (d : Dev) : Dev :=
  let cq := d.get (HIF_SQ_CFG.CQ q)
  let d := (d.set (HIF_CQ_OWED.COUNT cq) (d.get (HIF_CQ_OWED.COUNT cq) + 1)).count32 (HIF_SQ_ACCEPTED q) 1
  { d with hif := { d.hif with inWork := bumpWork q true d.hif.inWork } }

/-- Give a reply to its packet. -/
def Dev.answer (ref : PktRef) (r : Reply × Dev) : Dev :=
  match r.1 with
  | .done st res => r.2.complete ref st r.2.now res
  | .doneAt st t res => r.2.complete ref st t res
  | .later => r.2

/-- Lateness of a scheduled action (R140): 0 = at its time, 1 = late within tolerance, 2 = missed. -/
def lateness (e t tol dflt : Nat) : Nat :=
  if e ≤ t then 0 else
    let tol := if tol = 0xFFFFFFFE then dflt else tol
    if tol = 0xFFFFFFFF || e - t ≤ ns tol then 1 else 2

/-- Steps 5 to 8 and the effect (R401). -/
def Dev.runOpcode (op : Opcode) (p : Packet) (ref : PktRef) (d : Dev) : Dev :=
  let m := op.modes p d
  if m ≠ 0 then d.complete ref m d.now [] else Dev.answer ref (op.run p ref d)

/-- Held scheduled packets are shown in HIF_SCHED_PENDING (R412). -/
def Dev.showHeld (d : Dev) : Dev := d.set HIF_SCHED_PENDING.COUNT d.hif.held.length

/-- A packet of a known opcode is accepted (R391, R399 to R401). A scheduled packet is held until its execute-at time; the earliest
instant at which it could run is acceptance + 1 µs (R140, R141). ACTIVATE_GENERATION is never held (R400). -/
def Dev.acceptFor (op : Opcode) (p : Packet) (ref : PktRef) (d : Dev) : Dev :=
  if p.len.toNat < op.lMin || op.lMax < p.len.toNat then d.complete ref stBAD_LENGTH d.now []
  else if 16 ≤ p.flags.toNat || hasFlag p 0 != (decide (0 < p.len.toNat) || hasFlag p 1) || (hasFlag p 2 && !op.sched) then
    d.complete ref stBAD_PARAMETER d.now []
  else match d.authenticate op p with
    | (none, d) => d.complete ref stNOT_AUTHENTICATED d.now []
    | (some p, d) =>
      let m := op.modes p d
      if m ≠ 0 then d.complete ref m d.now []
      else if hasFlag p 2 && !op.ownTime then
        match lateness (d.now + ns 1000) p.execAt.toNat p.tol.toNat 0 with
        | 0 => if 256 ≤ d.hif.held.length then d.complete ref stNO_RESOURCE d.now []
               else Dev.showHeld { d with hif := { d.hif with held := d.hif.held ++ [⟨op.code, p, ref⟩] } }
        | 1 => let ref := { ref with late := true }
               Dev.answer ref (op.run p ref d)
        | _ => d.complete ref stMISSED d.now []
      else Dev.answer ref (op.run p ref d)

/-- A packet of a submission ring is accepted. -/
def Dev.accept (op : Opcode) (p : Packet) (d : Dev) : Dev :=
  let d := d.owe p.sq.val
  d.acceptFor op p ⟨p.sq.val, p.tag.toNat, d.hif.epoch, false⟩
/-- The meaning of an opcode row: a packet of that opcode is accepted while the endpoint is present (R386). -/
def Dev.packet (op : Opcode) (p : Packet) (d : Dev) : Dev := if d.ready then d.accept op p else d

/-- An input waits for the cycle input log (R20, R21). -/
def Dev.logInput (kind size : Nat) (act : LogAct) (ref : Option PktRef) (d : Dev) : Dev :=
  { d with cyc := { d.cyc with waiting := d.cyc.waiting ++ [⟨kind, size, act, ref⟩] } }
/-- Log an opcode's input; the packet completes when the input enters the law (R392). -/
def Dev.logPacket (kind size : Nat) (act : LogAct) (ref : PktRef) (d : Dev) : Reply × Dev :=
  (.later, d.logInput kind size act (some ref))

/-- The lanes and the service cores of a dormant line start at an accepted wake (R53): their PLLs run, and the lane self-test is due anew (R174). -/
def Dev.startWake (d : Dev) : Dev :=
  if bitAt (d.get CLK_PLL.RUNNING) 2 then d else
    (({ d with eng := { d.eng with chunks := [] } } : Dev).wr CE_SELFTEST 0).set CLK_PLL.RUNNING (Nat.lor (d.get CLK_PLL.RUNNING) 6)
/-- An enabled wake event arises (R52, R53): only the permit holder acts on it, and logs it in the dormant cycle. -/
def Dev.wakeOn (f : Fld) (d : Dev) : Dev := if d.mode = 10 && d.permit && d.on f then (d.logInput 0x01 68 (.wake d.now) none).startWake else d

end Sys2Proof.Machine
end

