-- ==== Sys2Proof/Machine/Scheduler.lean ====
section
/-! DEFINITION. Sys2Proof/Machine/Scheduler.lean: tasks, dispatch, the stockroom, address contexts and DMA channels (R414 to R440). -/
namespace Sys2Proof.Machine

/-- A task. -/
def Dev.task (d : Dev) (t : Nat) : Task := smGet (fun _ => Task.reset) d.sch.tasks t
/-- The words of a task show its state (R437). -/
def Dev.showTask (t : Nat) (d : Dev) : Dev :=
  let x := d.task t
  let w0 := x.state + x.prio * 8 + x.affinity * 256 + flag x.all * 2 ^ 14 + flag x.timer * 2 ^ 15 + flag x.filter.isSome * 2 ^ 16
  let d := (((d.wr (SCH_TASK_W0 t) w0).wr (SCH_TASK_W1 t) x.flags).wr (SCH_TASK_W2 t) x.mask).wr (SCH_TASK_W3 t) (min x.runs 65535 + 65536 * min x.skips 65535)
  d.wr (SCH_UNREADY (t / 32)) (withBits (d.rd (SCH_UNREADY (t / 32))) (t % 32) (t % 32) (flag (x.state == 4)))
/-- Replace a task. -/
def Dev.setTask (t : Nat) (x : Task) (d : Dev) : Dev :=
  Dev.showTask t { d with sch := { d.sch with tasks := smSet (fun _ => Task.reset) d.sch.tasks t x } }
/-- The hardware ready list of a level. -/
def Dev.level (d : Dev) (l : Nat) : List Nat := smGet (fun _ => []) d.sch.lists l
/-- Whether any task is UNREADY (R423). -/
def Dev.anyUnready (d : Dev) : Bool := d.sch.tasks.any (fun p => p.2.state == 4)
/-- The stockroom and its overflow flags show (R55, R437). -/
def Dev.showStock (d : Dev) : Dev :=
  let d := (d.set SCH_STOCKROOM.USED d.sch.cells.length).set SCH_STOCKROOM.RETIRED d.sch.retired.length
  (d.set SCH_STATUS.OVERFLOW (flag d.anyUnready)).cond condSCHED_OVERFLOW d.anyUnready
/-- A ready list shows (R437). -/
def Dev.showLevel (l : Nat) (d : Dev) : Dev :=
  (d.set (SCH_LEVEL.DEPTH l) (d.level l).length).set (SCH_LEVEL.SPILLED l) (d.sch.cells.countP (fun c => c.2.2 == l))
/-- Ready lists, stockroom and overflow flags show (R437, R55). -/
def Dev.showSched (d : Dev) : Dev :=
  let d := (d.forN 32 Dev.showLevel).showStock
  let on_ := d.get SCH_STATUS.CORE_ON
  let d := d.forN 6 (fun c d => match d.sch.cores.find? (fun x => x.1 == c) with
    | some x => (d.set (SCH_CORE.TASK c) x.2).set (SCH_CORE.PRIO c) (d.task x.2).prio
    | none => (d.set (SCH_CORE.TASK c) 0x1FF).set (SCH_CORE.PRIO c) 0)
  d.set SCH_STATUS.CORE_IDLE (((List.range 6).map (fun c => if bitAt on_ c && !d.sch.cores.any (fun x => x.1 == c) then 2 ^ c else 0)).sum)
/-- First byte of the stockroom (R37, R421). -/
def Dev.stockBase (d : Dev) : Nat := ((d.sys.package.map (·.dramCapture)).getD 0)
/-- A cell as stored (R421). -/
def cellBytes (task level seq : Nat) : List Byte :=
  leBytes 2 task ++ leBytes 2 (65535 - task) ++ leBytes 2 0xFFFF ++ leBytes 2 level ++ leBytes 8 seq
/-- A task takes its place at the tail of its level, or waits as UNREADY when the stockroom refuses it (R418, R422, R423). -/
def Dev.placeTask (t : Nat) (d : Dev) : Dev :=
  let x := d.task t
  let l := x.prio
  let spilled := d.sch.cells.any (fun c => c.2.2 == l)
  if (d.level l).length < 64 && !spilled then
    Dev.setTask t { x with state := 2 } { d with sch := { d.sch with lists := smSet (fun _ => []) d.sch.lists l (d.level l ++ [t]) } }
  else
    match (List.range 256).find? (fun c => !d.sch.retired.contains c && !d.sch.cells.any (fun y => y.1 == c)) with
    | some c =>
      let d := match (d.sch.cells.filter (fun y => y.2.2 == l)).getLast? with
        | some y => { d with dram := putBytes d.dram (d.stockBase + 16 * y.1 + 4) (leBytes 2 c) }
        | none => d
      let d : Dev := { d with dram := putBytes d.dram (d.stockBase + 16 * c) (cellBytes t l d.sch.seq) }
      let d : Dev := { d with sch := { d.sch with cells := d.sch.cells ++ [(c, t, l)], seq := d.sch.seq + 1 } }
      d.setTask t { x with state := 2 }
    | none =>
      let d := if x.state = 4 then d else (d.count32 SCH_REFUSED_CNT 1).post 0x0E00 0x0E04 (leBytes 2 t ++ leBytes 1 x.prio)
      d.setTask t { x with state := 4 }
/-- A task is pushed (R418, R422, R423), and the registers and SCHED_OVERFLOW follow at once (R55). -/
def Dev.pushTask (t : Nat) (d : Dev) : Dev :=
  if (d.task t).state = 2 then d else (d.placeTask t).showStock.showLevel (d.task t).prio
/-- A stockroom cell has freed: the lowest-numbered UNREADY task is pushed (R418). -/
def Dev.retryUnready (d : Dev) : Dev :=
  match d.sch.tasks.find? (fun p => p.2.state == 4) with
  | some p => d.pushTask p.1
  | none => d
/-- A hardware list with room takes the oldest spilled task of its level (R422). A cell whose task numbers disagree, or that shows a DRAM error,
is retired and its task becomes UNREADY (R423). -/
def Dev.refill (l : Nat) (bad : Bool) (d : Dev) : Dev :=
  match d.sch.cells.find? (fun c => c.2.2 == l) with
  | none => d
  | some c =>
    if 64 ≤ (d.level l).length then d else
      let b := takeBytes d.dram (d.stockBase + 16 * c.1) 4
      let d : Dev := { d with sch := { d.sch with cells := d.sch.cells.filter (fun y => y.1 != c.1) } }
      if bad || fieldAt b 0 2 + fieldAt b 2 2 ≠ 65535 then
        let d : Dev := { d with sch := { d.sch with retired := d.sch.retired ++ [c.1] } }
        ((d.setTask c.2.1 { d.task c.2.1 with state := 4 }).showStock).post 0x0E00 0x0E05 (leBytes 1 c.1 ++ leBytes 1 (c.1 / 256) ++ leBytes 2 c.2.1)
      else
        Dev.retryUnready { d with sch := { d.sch with lists := smSet (fun _ => []) d.sch.lists l (d.level l ++ [c.2.1]) } }
/-- A deleted task leaves the stockroom (R418): its cell is unlinked from the level's chain and frees. -/
def Dev.leaveCell (t : Nat) (d : Dev) : Dev :=
  match d.sch.cells.find? (fun c => c.2.1 == t) with
  | none => d
  | some c =>
    let chain := (d.sch.cells.filter (fun y => y.2.2 == c.2.2)).map (·.1)
    let next := ((chain.dropWhile (· != c.1)).drop 1).headD 0xFFFF
    let d := match (chain.takeWhile (· != c.1)).getLast? with
      | some p => { d with dram := putBytes d.dram (d.stockBase + 16 * p + 4) (leBytes 2 next) }
      | none => d
    Dev.retryUnready { d with sch := { d.sch with cells := d.sch.cells.filter (fun y => y.1 != c.1) } }
/-- Whether flags satisfy a wait (R417). -/
def waitMet (x : Task) : Bool :=
  let hit := Nat.land x.flags x.mask
  if x.all then hit == x.mask && x.mask != 0 else hit != 0
/-- The flags of a satisfied wait are consumed (R417). -/
def consume (x : Task) : Task := { x with flags := x.flags - Nat.land x.flags x.mask }
/-- A waiting task whose wait is satisfied becomes ready (R417, R418). -/
def Dev.tryWake (t : Nat) (d : Dev) : Dev :=
  let x := d.task t
  if x.state = 1 && waitMet x then (d.setTask t (consume x)).pushTask t else d
/-- Flags of a task are set (R416). -/
def Dev.setFlags (t m : Nat) (d : Dev) : Dev :=
  let x := d.task t
  if x.state = 0 then d else (d.setTask t { x with flags := Nat.lor x.flags m }).tryWake t
/-- An event is written to the host event ring: filters that match set flag 16 (R426). -/
def Dev.jobEvent (src code : Nat) (d : Dev) : Dev :=
  d.forEach (d.sch.tasks.filter (fun p => match p.2.filter with
    | some f => f.1 == src && (f.2 == code || f.2 == 0xFFFF)
    | none => false)) (fun p d => d.setFlags p.1 (2 ^ 16))

/-- A descriptor goes back to the pool (R425): tasks that lost a grant get flag 24. -/
def Dev.freeDesc (d : Dev) : Dev :=
  let ls := d.sch.losers
  let d := d.set DMA_POOL.FREE (min 1024 (d.get DMA_POOL.FREE + 1))
  ({ d with sch := { d.sch with losers := [] } } : Dev).forEach ls (fun t d => d.setFlags t (2 ^ 24))
/-- A DMA channel. -/
def Dev.dmaCh (d : Dev) (n : Nat) : DmaCh := smGet (fun _ => DmaCh.reset) d.sch.ch n
/-- Replace a DMA channel; its depth, bytes left and state show. -/
def Dev.setDma (n : Nat) (x : DmaCh) (parked : Bool) (d : Dev) : Dev :=
  let d : Dev := { d with sch := { d.sch with ch := smSet (fun _ => DmaCh.reset) d.sch.ch n x } }
  let st := if x.cur.isNone then 0 else if parked then 2 else 1
  let d := ((d.set (DMA_CH_STATUS.DEPTH n) x.queue.length).set (DMA_CH_STATUS.STATE n) st).wr (DMA_CH_LEFT n) (((x.cur.map (·.len)).getD 0) - x.pos)
  (d.set DMA_STATUS.ACTIVE (withBits (d.get DMA_STATUS.ACTIVE) n n (flag (st == 1)))).set DMA_STATUS.PARKED
    (withBits (d.get DMA_STATUS.PARKED) n n (flag (st == 2)))
/-- The present descriptor ends with a status (R433 to R436) and the channel takes its next one. -/
def Dev.endDesc (n st : Nat) (d : Dev) : Dev :=
  let c := d.dmaCh n
  match c.cur with
  | none => d
  | some x =>
    let d := (d.set (DMA_CH_STATUS.LAST n) st).set (DMA_CH_STATUS.HOST_FAULT n) 0
    let d := d.setDma n ⟨c.queue.drop 1, c.queue.head?, 0⟩ false
    let d := d.freeDesc
    if st = 0 then (d.count32 (DMA_CH_DONE_CNT n) 1).when x.signal (Dev.setFlags x.owner (2 ^ 25))
    else (d.setFlags x.owner (2 ^ 26)).post 0x0E00 0x0E03 (leBytes 1 n ++ leBytes 1 st ++ leBytes 2 x.owner)
/-- Parked descriptors of a deleted task end with status 4 (R435). -/
def Dev.dropParked (t : Nat) (d : Dev) : Dev :=
  d.forN 16 (fun n d => if d.get (DMA_CH_STATUS.STATE n) = 2 && (d.dmaCh n).cur.any (fun x => x.owner == t) then d.endDesc n 4 else d)
/-- A task ends (R418). A host job's reserved completion is released unless its last packet still runs (R427). -/
def Dev.freeTask (t cause : Nat) (d : Dev) : Dev :=
  let x := d.task t
  if x.state = 0 then d else
    let d := d.dropParked t
    let d : Dev := { d with sch := { d.sch with
      lists := d.sch.lists.filterMap (fun p => let r := p.2.filter (· != t); if r.isEmpty then none else some (p.1, r))
      cores := d.sch.cores.filter (fun c => c.2 != t) } }
    let busy := d.hif.inWork.any (fun p => p.1 == 64 + t)
    let d := if 128 ≤ t && !busy then d.set (HIF_CQ_OWED.COUNT x.cq) (d.get (HIF_CQ_OWED.COUNT x.cq) - 1) else d
    let d := d.setTask t { Task.reset with cq := if busy then x.cq else 0 }
    let d := (d.leaveCell t).refill x.prio false
    (d.when (128 ≤ t) (Dev.post 0x0E00 0x0E07 (leBytes 2 t ++ leBytes 1 cause))).showSched
/-- A deletion (R418): a running task goes when it next waits or ends. -/
def Dev.deleteTask (t : Nat) (d : Dev) : Dev :=
  let x := d.task t
  if x.state = 3 then d.setTask t { x with deleted := true } else d.freeTask t 1
/-- Every host job is deleted (R427). -/
def Dev.deleteJobs (d : Dev) : Dev := d.forN 128 (fun i d => if (d.task (128 + i)).state = 0 then d else d.freeTask (128 + i) 1)

/-- Cores that run in a mode (R44, R414). -/
def coresOf (m from_ : Nat) : Nat := if m < 2 then 0 else if m ≤ 3 then 1 else if m = 10 || (m = 9 && from_ = 10) then 3 else 0x3F
/-- A core's task is saved and pushed to the tail of its level (R420). -/
def Dev.saveCore (c : Nat) (d : Dev) : Dev :=
  match d.sch.cores.find? (fun x => x.1 == c) with
  | none => d
  | some x =>
    let d : Dev := { d with sch := { d.sch with cores := d.sch.cores.filter (fun y => y.1 != c) } }
    (d.emit (.core c x.2 false)).pushTask x.2
/-- Cores start and stop with the mode; the task of a core that stops is saved as for a pre-emption. -/
def Dev.runCores (m : Nat) (d : Dev) : Dev :=
  let on_ := coresOf m d.sys.lockedFrom
  let d := d.forN 6 (fun c d => d.when (!bitAt on_ c) (Dev.saveCore c))
  (d.set SCH_STATUS.CORE_ON on_).showSched
/-- Firmware's tasks at Configure (R415): they wait. -/
def Dev.createFirmware (ts : List FwTask) (d : Dev) : Dev :=
  let d := d.forEach ts (fun t d =>
    d.setTask t.num.val { Task.reset with state := 1, prio := t.prio.val, affinity := t.affinity.toNat, all := t.all, timer := t.period.isSome
                                          period := t.period.getD 0, mask := t.mask.toNat })
  { d with sch := { d.sch with handler := (ts.find? (·.handler)).map (·.num.val) } }
/-- Firmware's address contexts and page tables at Configure (R428). -/
def Dev.createContexts (cs : List MmuSetup) (d : Dev) : Dev :=
  d.forEach (cs.filter (fun c => 3 ≤ c.ctx && c.ctx < 64)) (fun c d =>
    let d := ((d.wr64 (MMU_CTX_L1_LO c.ctx) c.l1).wr (MMU_CTX_CFG c.ctx) (1 + 2 * flag c.demand)).wr (MMU_CTX_POOL c.ctx) c.pool.length
    let d : Dev := { d with sch := { d.sch with pools := (d.sch.pools.filter (fun p => p.1 != c.ctx)) ++ [(c.ctx, c.pool)] } }
    { d with dram := c.table.foldl (fun m e => putBytes m e.1 (leBytes 8 e.2)) d.dram })

/-- A core of the head task's affinity (R420): an idle one, or the one whose lower-priority task is pre-empted. -/
def Dev.pickCore (d : Dev) (t : Nat) : Option (Nat × Bool) :=
  let x := d.task t
  let mine := (List.range 6).filter (fun c => bitAt x.affinity c && bitAt (d.get SCH_STATUS.CORE_ON) c)
  match mine.find? (fun c => !d.sch.cores.any (fun y => y.1 == c)) with
  | some c => some (c, false)
  | none =>
    let low := mine.filterMap (fun c => (d.sch.cores.find? (fun y => y.1 == c)).map (fun y => (c, (d.task y.2).prio)))
    let low := low.filter (fun y => x.prio < y.2)
    (low.foldl (fun (b : Option (Nat × Nat)) y => match b with
      | none => some y
      | some z => if z.2 ≤ y.2 then some y else b) none).map (fun y => (y.1, true))
/-- One dispatch decision (R419, R420): the task that starts, if any. `bad` says that the stockroom cell read now shows a DRAM error. -/
def Dev.dispatchTask (bad : Bool) (d : Dev) : Option Nat × Dev :=
  match (List.range 32).find? (fun l => !(d.level l).isEmpty) with
  | none => (none, d)
  | some l =>
    match d.level l with
    | [] => (none, d)
    | t :: rest =>
      match d.pickCore t with
      | none => (none, d)
      | some (c, pre) =>
        let d : Dev := { d with sch := { d.sch with lists := smSet (fun _ => []) d.sch.lists l rest } }
        let d := d.refill l bad
        let d := if pre then (d.saveCore c).count32 SCH_PREEMPT_CNT 1 else d
        let d : Dev := { d with sch := { d.sch with cores := d.sch.cores ++ [(c, t)] } }
        let d := (d.count32 SCH_DISPATCH_CNT 1).setTask t { d.task t with state := 3 }
        (some t, (d.emit (.core c t true)).showSched)
/-- A running task waits (R418), or goes when it was deleted. -/
def Dev.waitTask (t : Nat) (d : Dev) : Dev :=
  let x := d.task t
  if x.deleted then d.freeTask t 1 else
    let d : Dev := { d with sch := { d.sch with cores := d.sch.cores.filter (fun y => y.2 != t) } }
    let d := d.setTask t { x with state := 1, began := false }
    (d.tryWake t).showSched
/-- A host job's run is over (R427): the repeat count falls unless the run was skipped, at 0 the job ends. -/
def Dev.jobRunEnd (t : Nat) (d : Dev) : Dev :=
  let x := d.task t
  let left := if x.began && !x.skipping then x.left.map (· - 1) else x.left
  if left == some 0 then d.freeTask t 0 else (d.setTask t { x with left := left }).waitTask t
/-- The task that a core runs. -/
def Dev.onCore (d : Dev) (c : Nat) : Option Nat := (d.sch.cores.find? (fun x => x.1 == c)).map (·.2)

/-- An 8-byte page table entry. -/
def Dev.entry64 (d : Dev) (a : Nat) : Nat := leNat (takeBytes d.dram a 8)
/-- What a walk answers (R429): target and physical address, or a fault that is a demand fault or a hard one. -/
inductive Walk where
  | at_ (target pa : Nat)
  | demand
  | hard
  deriving DecidableEq, Repr
/-- Address of the L1 entry of a virtual address. -/
def Dev.l1At (d : Dev) (ctx va : Nat) : Nat := d.rd64 (MMU_CTX_L1_LO ctx) + 8 * bitsOf va 38 21
/-- Address of the L2 entry below an L1 entry. -/
def l2At (e1 va : Nat) : Nat := e1 / 4096 * 4096 + 8 * bitsOf va 20 12
/-- The translation of R428 and R429. A context that is not in use has no table: a hard fault. -/
def Dev.walk (d : Dev) (ctx va : Nat) (write : Bool) : Walk :=
  match ctx with
  | 0 => .at_ 1 va
  | 1 => .at_ 2 va
  | 2 => .at_ 0 va
  | _ =>
    if 2 ^ 39 ≤ va || !d.on (MMU_CTX_CFG.EN ctx) then .hard else
      let e1 := d.entry64 (d.l1At ctx va)
      let fault := fun e => if bitAt e 6 then Walk.demand else Walk.hard
      let leaf := fun (e pa : Nat) =>
        if (if write then !bitAt e 3 else !bitAt e 2) || bitsOf e 5 4 == 3 then Walk.hard else .at_ (bitsOf e 5 4) pa
      if !bitAt e1 0 then fault e1
      else if bitAt e1 1 then leaf e1 (e1 / 2 ^ 21 * 2 ^ 21 + va % 2 ^ 21)
      else
        let e2 := d.entry64 (l2At e1 va)
        if !bitAt e2 0 then fault e2 else leaf e2 (e2 / 4096 * 4096 + va % 4096)
/-- Offsets from `pos` on at which a range of `len` bytes at `a` enters a page. -/
def pageStarts (a pos len : Nat) : List Nat :=
  pos :: ((List.range ((a + len) / 4096 + 1 - (a + pos) / 4096)).map (fun i => ((a + pos) / 4096 + 1 + i) * 4096 - a)).filter (fun o => decide (o < len))
/-- The first fault of a side: offset, and whether it is a demand fault (R434). -/
def Dev.sideFault (d : Dev) (ctx a pos len : Nat) (write : Bool) : Option (Nat × Bool) :=
  (pageStarts a pos len).findSome? (fun o => match d.walk ctx (a + o) write with
    | .at_ _ _ => none
    | .demand => some (o, true)
    | .hard => some (o, false))
/-- The fault that a descriptor meets next, from its position on: offset, demand, write side (R434). A source fault wins on equal offsets. -/
def Dev.descFault (d : Dev) (x : DmaDesc) (pos : Nat) : Option (Nat × Bool × Bool) :=
  let s := if x.op = 1 then d.sideFault x.srcCtx x.src pos x.len false else none
  match s, d.sideFault x.dstCtx x.dst pos x.len true with
  | none, none => none
  | some a, none => some (a.1, a.2, false)
  | none, some b => some (b.1, b.2, true)
  | some a, some b => if a.1 ≤ b.1 then some (a.1, a.2, false) else some (b.1, b.2, true)
/-- Whether any byte from `pos` to `stop` lies in DRAM beyond what is fitted (R37). -/
def Dev.inHole (d : Dev) (x : DmaDesc) (pos stop : Nat) : Bool :=
  let lim := d.sys.dramGiB * 2 ^ 30
  let side := fun (ctx a : Nat) (w : Bool) => (pageStarts a pos stop).any (fun o => match d.walk ctx (a + o) w with
    | .at_ 0 pa => decide (lim < pa + (min stop ((a + o) / 4096 * 4096 + 4096 - a)) - o)
    | _ => false)
  decide (pos < stop) && ((x.op == 1 && side x.srcCtx x.src false) || side x.dstCtx x.dst true)
/-- One byte is moved: from the source or the pattern, `ext` supplying what the host bus and the on-die space hold. -/
def Dev.moveByte (x : DmaDesc) (ext : List Byte) (base o : Nat) (d : Dev) : Dev :=
  let b : Byte := if x.op = 2 then BitVec.ofNat 8 (x.src / 2 ^ (8 * (o % 8))) else
    match d.walk x.srcCtx (x.src + o) false with
    | .at_ 0 pa => smGet (fun _ => (0 : Byte)) d.dram pa
    | _ => ext.getD (o - base) 0
  match d.walk x.dstCtx (x.dst + o) true with
  | .at_ 0 pa => { d with dram := smSet (fun _ => (0 : Byte)) d.dram pa b }
  | .at_ 1 pa => d.emit (.hostWrite pa [b])
  | .at_ _ pa => d.emit (.onDie pa [b])
  | _ => d
/-- The bytes from `pos` up to `stop` are moved; translation buffer misses are counted by a free number, since the manual gives the buffer no
replacement rule (R431). -/
def Dev.moveBytes (x : DmaDesc) (ext : List Byte) (pos stop : Nat) (d : Dev) : Dev :=
  let (m, d) := d.draw
  let d := d.count32 MMU_MISS_CNT (m % ((pageStarts x.src pos stop).length + (pageStarts x.dst pos stop).length + 1))
  ((List.range (stop - pos)).map (pos + ·)).foldl (fun d o => d.moveByte x ext pos o) d
/-- The channel parks on a demand fault at offset `f`, or ends on a hard one (R434, R435). -/
def Dev.takeFault (n f : Nat) (demand write : Bool) (ext : List Byte) (d : Dev) : Dev :=
  let c := d.dmaCh n
  match c.cur with
  | none => d
  | some x =>
    let down := (x.dst + f) / 64 * 64
    let o := max c.pos (if down ≤ x.dst then 0 else down - x.dst)
    let d := (d.moveBytes x ext c.pos o).setDma n { c with pos := o } true
    let ctx := if write then x.dstCtx else x.srcCtx
    let va := (if write then x.dst else x.src) + f
    let d := (d.wr64 (DMA_CH_FAULT_VA_LO n) (va % 2 ^ 64)).wr (DMA_CH_FAULT n) (ctx % 64 + 64 * flag write + 128 * flag (!demand))
    if !demand then (d.count32 MMU_HARD_CNT 1).endDesc n 1
    else
      let d := (d.wr (DMA_CH_PARK n) o).count32 MMU_FAULT_CNT 1
      let d := d.post 0x0E00 0x0E01 (leBytes 1 n ++ leBytes 1 ctx ++ leBytes 1 (flag write) ++ leBytes 4 (bitsOf va 38 12))
      if d.ha 5 then d.set (DMA_CH_STATUS.HOST_FAULT n) 1
      else match d.sch.handler with | some t => d.setFlags t (2 ^ 28) | none => d
/-- Write a page table entry that was invalid (R430). -/
def Dev.putPte (a size target rw pa : Nat) (d : Dev) : Dev :=
  { d with dram := putBytes d.dram a (leBytes 8 (1 + 2 * size + 4 * rw + 16 * target + pa / 4096 * 4096)) }
/-- Firmware resolves a parked fault (R435): a page from the context's pool, zero-filled for a read; without one the descriptor ends with status 2. -/
def Dev.resolveFault (n : Nat) (d : Dev) : Dev :=
  let c := d.dmaCh n
  if d.get (DMA_CH_STATUS.STATE n) ≠ 2 || d.on (DMA_CH_STATUS.HOST_FAULT n) then d else
    let ctx := d.get (DMA_CH_FAULT.CTX n)
    let va := d.rd64 (DMA_CH_FAULT_VA_LO n)
    let e1 := d.entry64 (d.l1At ctx va)
    let size := flag (!bitAt e1 0)
    let a := if size = 1 then d.l1At ctx va else l2At e1 va
    match (d.sch.pools.find? (fun p => p.1 == ctx)).map (·.2) with
    | some (pg :: rest) =>
      let d : Dev := { d with sch := { d.sch with pools := (d.sch.pools.filter (fun p => p.1 != ctx)) ++ [(ctx, rest)] } }
      let d := (d.wr (MMU_CTX_POOL ctx) rest.length).putPte a size 0 3 pg
      let d : Dev := if d.on (DMA_CH_FAULT.WRITE n) then d else
        { d with dram := d.dram.filter (fun p => decide (p.1 < pg) || decide (pg + (if size = 1 then 2 ^ 21 else 4096) ≤ p.1)) }
      (d.setDma n c false).post 0x0E00 0x0E02 (leBytes 1 n ++ leBytes 1 0)
    | _ => d.endDesc n 2
/-- The handler task has run: every fault that waits for firmware is resolved. -/
def Dev.handlerRan (t : Nat) (d : Dev) : Dev := if d.sch.handler == some t then d.forN 16 Dev.resolveFault else d

/-- DMA_DESCRIPTOR_PUSH (R424, R425, R432): 32 bytes that a task pushes to a channel. -/
def Dev.dmaPush (n : Nat) (b : List Byte) (d : Dev) : Dev :=
  let x : DmaDesc := ⟨fieldAt b 0 1, bitAt (fieldAt b 1 1) 0, fieldAt b 2 1, fieldAt b 3 1, fieldAt b 4 4, fieldAt b 8 8, fieldAt b 16 8, fieldAt b 24 2⟩
  if d.mode < 4 || (x.op ≠ 1 && x.op ≠ 2) || x.len = 0 || 2 ^ 30 < x.len || 64 ≤ x.dstCtx || (x.op = 1 && 64 ≤ x.srcCtx) then d
  else if d.get DMA_POOL.FREE = 0 then
    let d := d.count32 DMA_NORES_CNT 1
    { d with sch := { d.sch with losers := (d.sch.losers.filter (· != x.owner)) ++ [x.owner] } }
  else
    let c := d.dmaCh n
    let d := d.set DMA_POOL.FREE (d.get DMA_POOL.FREE - 1)
    if c.cur.isNone then d.setDma n ⟨c.queue, some x, 0⟩ false
    else if 16 ≤ c.queue.length then
      let d := ((d.set (DMA_CH_STATUS.OVERFLOW n) 1).count32 (DMA_CH_OVF_CNT n) 1).freeDesc
      (d.setFlags x.owner (2 ^ 26)).post 0x0E00 0x0E06 (leBytes 1 n ++ leBytes 2 x.owner)
    else d.setDma n { c with queue := c.queue ++ [x] } (d.get (DMA_CH_STATUS.STATE n) = 2)

/-- 0x0B01 CREATE_JOB's stored packet obeys R426. -/
def storedOk (b : List Byte) : Bool := fieldAt b 5 1 == 0 && fieldAt b 4 1 == 0 && fieldAt b 1 1 != 0x0B
/-- Whether a CQ can reserve one more completion (R393). -/
def Dev.cqRoom (d : Dev) (cq : Nat) : Bool :=
  let size := ringSize (d.get (HIF_CQ_CFG.SIZE_LOG2 cq))
  decide (d.get (HIF_CQ_OWED.COUNT cq) + d.cqUsed cq + 1 < size)
/-- 0x0B01 CREATE_JOB (R426, R427, R436). -/
def opCreateJob : Opcode :=
  { code := 0x0B01, lMax := 4, modes := fun _ => modeIn confSync,
    run := fun p _ d =>
      let op := par p 22 1
      let prio := par p 23 1
      let t := par p 24 2
      let bits := par p 30 1
      let cq := par p 31 1
      let per := par p 32 4
      let rep := par p 36 4
      let aff := if par p 44 1 = 0 then 0x3F else par p 44 1
      let timer := bitAt bits 1
      let range := bits < 8 && aff < 64 && (!timer || (decide (10 ≤ per) && decide (per ≤ 1000000)))
      let shape := fun (x : Task) => { x with
        affinity := aff, all := bitAt bits 0, timer := timer, period := per, mask := par p 26 4
        filter := if bitAt bits 2 then some (par p 40 2, par p 42 2) else none
        left := if rep = 0 then none else some rep }
      match op with
      | 0 =>
        if p.len.toNat ≠ 4 then (.bad stBAD_LENGTH, d)
        else if prio < 16 || 31 < prio || 63 < cq || !range || !(t = 0xFFFF || (128 ≤ t && t < 256)) || !storedOk (extBytes p 0 64) then (.bad stBAD_PARAMETER, d)
        else
          let n := if t = 0xFFFF then (List.range 128).map (128 + ·) else [t]
          match n.find? (fun k => (d.task k).state == 0 && !d.hif.inWork.any (fun w => w.1 == 64 + k)), d.cqRoom cq with
          | some k, true =>
            let d := d.set (HIF_CQ_OWED.COUNT cq) (d.get (HIF_CQ_OWED.COUNT cq) + 1)
            let d := d.setTask k (shape { Task.reset with state := 1, prio := prio, cq := cq, packet := extBytes p 0 64 })
            (.done stOK (leBytes 2 k), d.showSched)
          | _, _ => (.bad stNO_RESOURCE, d)
      | _ =>
        if p.len.toNat ≠ 0 then (.bad stBAD_LENGTH, d)
        else if 2 < op || t < 128 || 256 ≤ t || (d.task t).state = 0 || (op = 2 && !range) then (.bad stBAD_PARAMETER, d)
        else if op = 1 then (.done stOK (leBytes 2 t), d.deleteTask t)
        else (.done stOK (leBytes 2 t), ((d.setTask t (shape (d.task t))).tryWake t).showSched) }
/-- 0x0B02 POST_EVENT (R416, R436). -/
def opPostEvent : Opcode :=
  { code := 0x0B02, modes := fun _ => modeIn butSealed,
    run := fun p _ d =>
      let t := par p 22 2
      let jobs := (List.range 128).map (128 + ·) |>.filter (fun k => (d.task k).state != 0)
      if t = 0xFFFF then (.done stOK (leBytes 2 jobs.length), (d.forEach jobs (fun k d => d.setFlags k (par p 24 2))).showSched)
      else if jobs.contains t then (.done stOK (leBytes 2 1), (d.setFlags t (par p 24 2)).showSched)
      else (.bad stBAD_PARAMETER, d) }
/-- Modes of MAP_PAGES and RESUME_DMA. -/
def modeFault (d : Dev) : Nat := if d.ha 5 then modeIn confSync d else stWRONG_MODE
/-- 0x0B03 MAP_PAGES (R430, R436). A page whose L1 entry is itself invalid has no 4 KiB entry. -/
def opMapPages : Opcode :=
  { code := 0x0B03, modes := fun _ => modeFault,
    run := fun p _ d =>
      let ctx := par p 22 1
      let size := par p 23 1
      let va := par p 24 8
      let count := par p 32 4
      let target := par p 36 1
      let rw := par p 37 1
      let pa := par p 38 8
      let unit := if size = 1 then 2 ^ 21 else 4096
      let vas := (List.range count).map (fun i => va + i * unit)
      let slot := fun v =>
        let e1 := d.entry64 (d.l1At ctx v)
        if size = 1 then (if !bitAt e1 0 && bitAt e1 6 then some (d.l1At ctx v) else none)
        else if bitAt e1 0 && !bitAt e1 1 then
          let a := l2At e1 v
          let e2 := d.entry64 a
          if !bitAt e2 0 && bitAt e2 6 then some a else none
        else none
      let part := match d.sys.package with
        | some k => let base := k.dramCapture + k.dramStock + k.dramSpill
                    decide (base ≤ pa) && decide (pa + count * unit ≤ base + k.dramHost)
        | none => false
      if ctx < 3 || 64 ≤ ctx || 1 < size || count = 0 || 512 < count || 1 < target || 4 ≤ rw || va % unit ≠ 0 || pa % unit ≠ 0 ||
          2 ^ 39 < va + count * unit || !d.on (MMU_CTX_CFG.EN ctx) || !vas.all (fun v => (slot v).isSome) || (target = 0 && !part) then (.bad stBAD_PARAMETER, d)
      else
        let d := (vas.zipIdx).foldl (fun d v => match slot v.1 with
          | some a => d.putPte a size target rw (pa + v.2 * unit)
          | none => d) d
        (.done stOK (leBytes 4 count), d) }
/-- 0x0B04 RESUME_DMA (R435, R436). -/
def opResumeDma : Opcode :=
  { code := 0x0B04, modes := fun _ => modeFault,
    run := fun p _ d =>
      let n := par p 22 1
      let c := d.dmaCh n
      let moved := leBytes 4 c.pos
      if 16 ≤ n || 1 < par p 23 1 then (.bad stBAD_PARAMETER, d)
      else if d.get (DMA_CH_STATUS.STATE n) ≠ 2 || !d.on (DMA_CH_STATUS.HOST_FAULT n) then (.bad stWRONG_MODE, d)
      else if par p 23 1 = 1 then (.done stOK moved, d.endDesc n 3)
      else
        let d := (d.set (DMA_CH_STATUS.HOST_FAULT n) 0).setDma n c false
        let f := d.rd64 (DMA_CH_FAULT_VA_LO n)
        match c.cur.bind (fun x => d.walk (d.get (DMA_CH_FAULT.CTX n)) f (d.on (DMA_CH_FAULT.WRITE n)) |> fun w => if w = .demand then d.descFault x c.pos else none) with
        | some (o, demand, write) => (.done stOK moved, d.takeFault n o demand write [])
        | none => (.done stOK moved, d.post 0x0E00 0x0E02 (leBytes 1 n ++ leBytes 1 1)) }

/-- TASK_WAIT (R418): the task of a core waits, firmware's with a new mask and mode. -/
def Dev.taskWait (c mask : Nat) (all : Bool) (d : Dev) : Dev :=
  match d.onCore c with
  | none => d
  | some t =>
    if 128 ≤ t then d.jobRunEnd t
    else
      let d := d.handlerRan t
      (d.setTask t { d.task t with mask := mask, all := all }).waitTask t
/-- TASK_END (R418): the task of a core ends; a host job ends when its repeat count is exhausted, and waits otherwise. -/
def Dev.taskEnd (c : Nat) (d : Dev) : Dev :=
  match d.onCore c with
  | none => d
  | some t => if 128 ≤ t then d.jobRunEnd t else (d.handlerRan t).freeTask t 0
/-- PERIOD_TIMER (R416). -/
def Dev.periodTimer (t : Nat) (d : Dev) : Dev := if (d.task t).timer then (d.setFlags t (2 ^ 27)).showSched else d

/-- CREATE_JOB. -/
def execCreateJob (p : Packet) (s : State) : Answer := .next (s.onDev (Dev.packet opCreateJob p))
/-- POST_EVENT. -/
def execPostEvent (p : Packet) (s : State) : Answer := .next (s.onDev (Dev.packet opPostEvent p))
/-- MAP_PAGES. -/
def execMapPages (p : Packet) (s : State) : Answer := .next (s.onDev (Dev.packet opMapPages p))
/-- RESUME_DMA. -/
def execResumeDma (p : Packet) (s : State) : Answer := .next (s.onDev (Dev.packet opResumeDma p))
/-- TASK_WAIT: core, wait mask and ALL mode of a firmware task. -/
def execTaskWait (c : Fin 6) (mask : Word) (all : Bool) (s : State) : Answer := .next (s.onDev (Dev.taskWait c.val mask.toNat all))
/-- TASK_END: core. -/
def execTaskEnd (c : Fin 6) (s : State) : Answer := .next (s.onDev (Dev.taskEnd c.val))
/-- PERIOD_TIMER: task. -/
def execPeriodTimer (t : Fin 256) (s : State) : Answer := .next (s.onDev (Dev.periodTimer t.val))
/-- DMA_DESCRIPTOR_PUSH: channel and descriptor bytes. -/
def execDmaDescriptorPush (n : Fin 16) (b : List Byte) (s : State) : Answer := .next (s.onDev (Dev.dmaPush n.val b))
/-- DMA_DESCRIPTOR_COMPLETE (R433): channel, and what the host bus and the on-die space supply as source bytes (none: PCIe error). DRAM beyond
what is fitted does not exist (R37). -/
def execDmaDescriptorComplete (n : Fin 16) (ext : HostRead) (s : State) : Answer :=
  let d := s.dev
  let c := d.dmaCh n.val
  match c.cur with
  | none => .next s
  | some x =>
    if d.get (DMA_CH_STATUS.STATE n.val) = 2 || (d.descFault x c.pos).isSome then .next s
    else if d.inHole x c.pos x.len then .fault .dramHole
    else match ext with
      | none => .next (s.onDev (Dev.endDesc n.val 5))
      | some bs => .next (s.onDev (fun d => ((d.moveBytes x bs c.pos x.len).setDma n.val { c with pos := x.len } false).endDesc n.val 0))
/-- DMA_FAULT (R434): the next burst of a channel meets a translation fault. -/
def execDmaFault (n : Fin 16) (ext : List Byte) (s : State) : Answer :=
  let d := s.dev
  let c := d.dmaCh n.val
  match c.cur with
  | none => .next s
  | some x =>
    match d.descFault x c.pos with
    | none => .next s
    | some (f, demand, write) =>
      if d.get (DMA_CH_STATUS.STATE n.val) = 2 then .next s
      else if d.inHole x c.pos f then .fault .dramHole
      else .next (s.onDev (Dev.takeFault n.val f demand write ext))

end Sys2Proof.Machine
end

