-- ==== Sys2Proof/Machine/Modes.lean ====
section
/-! DEFINITION. Sys2Proof/Machine/Modes.lean: what single blocks do when the operating mode changes (R44, R45, R141, R144, R218, R225, R458). -/
namespace Sys2Proof.Machine

/-- PLLs that run in a mode (R44, R491), as a mask; PLL_NVM keeps running once started by a mount. -/
def pllMask (m from_ nvm : Nat) : Nat :=
  let base := match m with
    | 2 => 0b000001001
    | 3 => 0b010001001
    | 4 => 0b011111011
    | 5 | 6 | 7 | 8 | 11 => 0b011111111
    | 9 => if from_ = 10 then 0b011111001 else if from_ = 4 || from_ = 11 || from_ = 5 then 0b011111011 else 0b011111111
    | 10 => 0b011111001
    | _ => 0
  if 4 ≤ m then base + nvm * 256 else base
/-- PLLs start and stop with the mode; a stopped PLL is not locked, and a started one locks by PLL_LOCKED (R491). -/
def Dev.runPlls (m : Nat) (d : Dev) : Dev :=
  let run := pllMask m d.sys.lockedFrom (d.get CLK_PLL.RUNNING / 256)
  (d.set CLK_PLL.RUNNING run).set CLK_PLL.LOCKED (Nat.land (d.get CLK_PLL.LOCKED) run)

/-- Every open debug scope closes (R458, R461). -/
def Dev.closeScopes (d : Dev) : Dev :=
  if d.sec.scopes.isEmpty then d else
    let mask := (d.sec.scopes.map (·.1)).foldl Nat.lor 0
    let d := { d with sec := { d.sec with scopes := [] } }
    ((d.set SEC_STATUS.SCOPE 0).wr SEC_DEBUG_LEFT 0).post 0x0F00 0x0F06 (leBytes 1 mask)

/-- Every timed output is cancelled and returns high (R144). A commit that waits for its boundary ends with it, and its packet with WRONG_MODE (DESIGN
CHOICE: the manual states no status). -/
def Dev.cancelOutputs (d : Dev) : Dev :=
  let evo := fun (c : Commit) => decide (0x0300 ≤ c.unit) && decide (c.unit < 0x0310)
  let gone := d.cyc.commits.filter evo
  let d : Dev := Dev.set EVO_APPLY.APPLY 0 { d with cyc := { d.cyc with commits := d.cyc.commits.filter (fun c => !evo c) } }
  let d := d.forEach gone (fun c d => d.completeOpt c.ref stWRONG_MODE d.now [])
  d.forN 16 (fun n d =>
    let e := smGet (fun _ => EvoOut.reset) d.evo n
    let d := d.when e.low.isSome (Dev.emit (.pin "EVO" n true))
    let d := ((d.set (EVO_CTRL.MODE n) 0).goLive (EVO_CTRL n) (BitVec.ofNat 32 (withBits (d.lrd (EVO_CTRL n)) 1 0 0))).set
      EVO_STATUS.RUNNING (withBits (d.get EVO_STATUS.RUNNING) n n 0)
    { d with evo := smSet (fun _ => EvoOut.reset) d.evo n EvoOut.reset })

/-- Held scheduled packets complete with WRONG_MODE (R141). -/
def Dev.dropHeld (status : Nat) (d : Dev) : Dev :=
  let hs := d.hif.held
  (Dev.showHeld { d with hif := { d.hif with held := [] } }).forEach hs (fun h d => d.complete h.ref status d.now [])

/-- Every axis is disabled (R45, R50). -/
def Dev.disableAll (d : Dev) : Dev :=
  { d with axes := (d.axes.map (fun p => (p.1, { p.2 with enabled := false, enableNext := 0 }))).filter (fun p => p.2 != AxisState.reset) }

/-- Logged inputs that mean nothing off the line: a change of mode, a hand-over, a wake. -/
def lineAct (a : LogAct) : Bool := match a with | .mode _ | .permit _ _ | .wake _ => true | _ => false
/-- Logged changes of mode, hand-overs and wakes end without effect; their packets, and a hand-over's, complete with a status. -/
def Dev.dropLineActs (status : Nat) (d : Dev) : Dev :=
  let es := d.cyc.log ++ d.cyc.waiting
  let refs := (es.filter (fun e => lineAct e.act)).map (·.ref) ++ [d.mir.handover.bind (·.ref)]
  ({ d with
    cyc := { d.cyc with log := d.cyc.log.filter (fun e => !lineAct e.act), waiting := d.cyc.waiting.filter (fun e => !lineAct e.act), wakeAt := none }
    mir := { d.mir with handover := none, stopping := false, runNext := false, modeDue := none } } : Dev).forEach refs
      (fun r d => d.completeOpt r status d.now [])
/-- The lanes stop: what they show reads as at reset (R44). CE_LANE_FAILED stays until a reset (R173). -/
def Dev.lanesOff (d : Dev) : Dev :=
  let d := d.forN 32 (fun l d => if d.rd (CE_LANE_BUSY l) = 0 then d else d.wr (CE_LANE_BUSY l) 0)
  (d.forN 16 (fun k d => if d.rd (CE_STALE_MAP k) = 0 then d else d.wr (CE_STALE_MAP k) 0)).wr CE_SELFTEST 0
/-- Transmission on the schedule stops: no bells, no cycle, no join, no permit (R45). What the log had taken waits for the next close (R23), and a
countdown ends without its bell (notes/assumptions). -/
def Dev.leaveLine (d : Dev) : Dev :=
  let d := d.when d.cyc.running (Dev.forN 10 (fun n d =>
    if d.get (NLS_SCHED_STATUS.ACTIVE_GEN n) = 0xFFFF then d else
      (((d.set (NLS_SCHED_STATUS.ACTIVE_GEN n) 0xFFFF).set (NLS_SCHED_STATUS.COUNTDOWN n) 0).set (NLS_SCHED_STATUS.JOINED n) 0).set (NLS_SCHED_STATUS.ACTING n) 0))
  let d := d.when d.permit (fun d => ((d.set SYS_MODE.PERMIT 0).set MIR_STATUS.PERMIT_OUT 0).set MIR_STATUS.ROLE 0)
  let d := (d.dropLineActs stWRONG_MODE).completeOpt (d.cyc.countdown.bind (·.ref)) stWRONG_MODE d.now []
  let d := (((d.set CE_STATUS.PLAN_GEN 0xFFFF).set CE_STATUS.LANES_USED 0).set CE_STATUS.PIPELINED 0).lanesOff
  { d with
    cyc := { d.cyc with
      running := false, closed := false, active := none, join := none, countdown := none, waiting := d.cyc.log ++ d.cyc.waiting, log := []
      preBell := false }
    mir := { d.mir with drill := none, back := none, reportAt := none }
    ltm := { d.ltm with alignWait := false } }

/-- A trace unit that runs ends with a cause (R218); a trace for the store is sealed with its header first (R217, R361). -/
def Dev.endTrace (u cause : Nat) (d : Dev) : Dev :=
  let st := d.get (TRC_USTATUS.STATE u)
  if st ≠ 1 && st ≠ 2 then d else
    let t := smGet (fun _ => TraceUnit.reset) d.trc.units u
    let d := (d.set (TRC_USTATUS.STATE u) 3).set (TRC_USTATUS.CAUSE u) cause
    let d := d.post 0x0400 0x0408 (leBytes 1 u ++ leBytes 1 cause ++ leBytes 4 (d.rd (TRC_USAMPLES u)))
    let d : Dev := { d with trc := { d.trc with
      units := smSet (fun _ => TraceUnit.reset) d.trc.units u { t with stopDue := false, trigAt := none, storeBytes := [] } } }
    if d.lget (TRC_UCTRL.DEST u) = 2 && cause ≠ 3 then
      { d with sto := { d.sto with toSeal := d.sto.toSeal ++ [⟨2, u, t.storeBytes⟩] } }
    else d
/-- A start that waits for its boundary lapses where traces do not run (R218, R221): its packet completes with WRONG_MODE (DESIGN CHOICE: the manual names
no status). -/
def Dev.dropStart (u : Nat) (d : Dev) : Dev :=
  let t := smGet (fun _ => TraceUnit.reset) d.trc.units u
  match t.startDue with
  | none => d
  | some r =>
    let d : Dev := { d with trc := { d.trc with units := smSet (fun _ => TraceUnit.reset) d.trc.units u { t with startDue := none, words := [] } } }
    (d.set (TRC_UCMD.START u) 0).completeOpt r stWRONG_MODE d.now []
/-- The outcome of an identification is posted and shown (R225): result and the five FP32 values. -/
def Dev.endIdent (result : Nat) (vals : List Nat) (d : Dev) : Dev :=
  match d.trc.ident with
  | none => d
  | some i =>
    let v := fun k => vals.getD k 0
    let d : Dev := { d with trc := { d.trc with ident := none } }
    let d := ((d.set TRC_ID_STATUS.AXIS i.axis).set TRC_ID_STATUS.RESULT result).set TRC_ID_STATUS.RUNNING 0
    let d := ((((d.wr TRC_ID_J (v 0)).wr TRC_ID_B (v 1)).wr TRC_ID_FC (v 2)).wr TRC_ID_T0 (v 3)).wr TRC_ID_RESID (v 4)
    d.post (0x0800 + i.axis) 0x0418 (leBytes 1 result ++ leBytes 4 (v 0))
/-- An identification of an axis of a kind ends by a fault or a stop (R223, R225). -/
def Dev.abortIdent (p : Nat → Bool) (d : Dev) : Dev :=
  match d.trc.ident with | some i => if p i.axis then d.endIdent 1 [] else d | none => d

end Sys2Proof.Machine
end

