-- ==== Sys2Proof/Machine/Commits.lean ====
section
/-! DEFINITION. Sys2Proof/Machine/Commits.lean: what the blocks' APPLY bits share (R14, R24): a captured commit that waits for its
boundary, and the fields a check reads from the captured words. -/
namespace Sys2Proof.Machine

/-- A captured commit of a block that no log carries waits for the next cycle boundary (R13, R14, R143, R244, R288, R464). -/
def Dev.holdCommit (unit : Nat) (words : List (Nat × Word)) (ref : Option PktRef) (d : Dev) : Dev :=
  { d with cyc := { d.cyc with commits := d.cyc.commits ++ [⟨unit, words, ref⟩] } }
/-- Whether a unit's commit waits. -/
def Dev.commitWaits (d : Dev) (unit : Nat) : Bool := d.cyc.commits.any (fun c => c.unit == unit)
/-- A CONSISTENCY result (R24): rule number low, place high. -/
def ruleResult (rule place : Nat) : List Byte := leBytes 2 rule ++ leBytes 2 place
/-- First failing rule of a list of (rule, holds). -/
def firstFail (rs : List (Nat × Bool)) : Option Nat := ((rs.find? (fun r => !r.2)).map (·.1))

/-- The live word of axis `a` at parameter offset `o` (R41). -/
def Dev.axisLive (d : Dev) (a o : Nat) : Nat := d.lrd (AX a o)
/-- The live parameters of an axis as a function of the offset. -/
def Dev.params (d : Dev) (a : Nat) : Nat → Nat := fun o => d.axisLive a o
/-- The state of an axis. -/
def Dev.axis (d : Dev) (a : Nat) : AxisState := smGet (fun _ => AxisState.reset) d.axes a
/-- Replace the state of an axis. -/
def Dev.setAxis (a : Nat) (s : AxisState) (d : Dev) : Dev := { d with axes := smSet (fun _ => AxisState.reset) d.axes a s }
/-- The enabled axes. -/
def Dev.enabledAxes (d : Dev) : List Nat := (d.axes.filter (fun p => p.2.enabled)).map (·.1)
/-- Whether a master field (R208) names feedback channel `n`. -/
def namesChannel (n w : Nat) : Bool := bitsOf w 1 0 == 2 && bitsOf w 25 16 == n
/-- An enabled axis names feedback channel `n` in MASTER or REG_MASTER (R232). -/
def Dev.channelUsed (d : Dev) (n : Nat) : Bool :=
  d.enabledAxes.any (fun a => namesChannel n (d.axisLive a pMASTER) || namesChannel n (d.axisLive a pREG_MASTER))

/-- A capture unit. -/
def Dev.capUnit (d : Dev) (u : Nat) : CapUnit := smGet (fun _ => CapUnit.reset) d.acq.units u
/-- Replace a capture unit. -/
def Dev.setCap (u : Nat) (c : CapUnit) (d : Dev) : Dev := { d with acq := { d.acq with units := smSet (fun _ => CapUnit.reset) d.acq.units u c } }
/-- A trigger of source `src` (R256) is offered to the capture units that name it, outside IDLE and WAIT. -/
def Dev.offerTrigger (src : Nat) (t : LTime) (stale : Bool) (d : Dev) : Dev :=
  d.forN 16 (fun u d =>
    if d.lget (ACQ_U_TRIG.SRC u) = src && 2 ≤ d.get (ACQ_U_STATE.STATE u) then
      d.setCap u { d.capUnit u with offers := (d.capUnit u).offers ++ [(t, stale)] }
    else d)

end Sys2Proof.Machine
end

