-- ==== Sys2Proof/Machine/Calib.lean ====
section
/-! DEFINITION. Sys2Proof/Machine/Calib.lean: calibration records (R226, R227) and the small tables that blocks keep by key. -/
namespace Sys2Proof.Machine

/-- Value of a key in a small table. -/
def lookupD (k dflt : Nat) (t : List (Nat × Nat)) : Nat := ((t.find? (fun p => p.1 == k)).map (·.2)).getD dflt
/-- Set a key of a small table. -/
def putKey {α : Type} (k : Nat) (v : α) (t : List (Nat × α)) : List (Nat × α) := (t.filter (fun p => p.1 != k)) ++ [(k, v)]
/-- Cycle period of the active generation in ns (R79); 0 when none is active. -/
def Dev.periodNs (d : Dev) : Nat :=
  match d.cyc.active with | some g => ((g.blocks.head?).map (fun b => b.period * 8)).getD 0 | none => 0

/-- Class bit of TRC_CAL_STALE and the condition that follows it (R227). -/
def Dev.staleClass (cls : Nat) (v : Bool) (d : Dev) : Dev :=
  let d := d.set TRC_CAL_STALE.CLASS (withBits (d.get TRC_CAL_STALE.CLASS) cls cls (flag v))
  d.cond condCAL_STALE (d.get TRC_CAL_STALE.CLASS != 0)
/-- A calibration record of a class and index, if the ledger holds one (R226). -/
def Dev.calOf (d : Dev) (cls idx : Nat) : Option (List Byte) := (d.trc.cal.find? (fun r => r.1 == cls * 65536 + idx)).map (·.2)
/-- Lane load of a record (R226): the busiest lane's cycles over the 1.2 cycles of each ns of the cycle, in 1/255; 0 while no schedule runs. -/
def Dev.laneLoad (d : Dev) : Nat :=
  let busy := ((List.range 32).map (fun l => d.rd (CE_LANE_BUSY l))).foldl max 0
  if d.periodNs = 0 then 0 else min 255 (busy * 255 * 10 / (d.periodNs * 12))
/-- The 48-byte record of R226 taken now. The core voltage and the link load are measured values that the manual gives no register: free values. -/
def Dev.calBytes (cls idx : Nat) (vals : List Byte) (d : Dev) : List Byte × Dev :=
  let vdd := d.draw
  let link := vdd.2.draw
  (leBytes 1 cls ++ [0] ++ leBytes 2 idx ++ leBytes 10 d.now ++ leBytes 2 (codeOf 16 d.sys.temp) ++ leBytes 2 vdd.1 ++ leBytes 1 d.laneLoad ++
    leBytes 1 link.1 ++ leBytes 2 d.enabledAxes.length ++ zeros 2 ++ padTo 24 vals, link.2)
/-- A calibration record enters the ledger and replaces the old one of its class and index (R226). -/
def Dev.keepCal (rcd : List Byte) (d : Dev) : Dev :=
  let d : Dev := d.transactLimited 7 rcd
  { d with trc := { d.trc with cal := putKey (fieldAt rcd 0 1 * 65536 + fieldAt rcd 2 2) rcd d.trc.cal } }

end Sys2Proof.Machine
end

