-- ==== Sys2Proof/Machine/Time.lean ====
section
/-! DEFINITION. Sys2Proof/Machine/Time.lean: line time, its sources and PPS (R120 to R136), the timed outputs (R142 to R148) and the
time opcodes (R145). -/
namespace Sys2Proof.Machine

/-- L of R124: 200 ppm in units of 2^-40 (R120). -/
def rateLimit : Int := 219902325
/-- `n / d` rounded half away from zero (R124). -/
def roundHalfAway (n : Int) (d : Nat) : Int :=
  if d = 0 then 0 else
    let q : Int := (2 * n.natAbs + d) / (2 * d) |> Nat.cast
    if n < 0 then -q else q
/-- Arithmetic shift right, floor (R124). -/
def shiftFloor (x : Int) (k : Nat) : Int := x.fdiv (2 ^ k : Nat)
/-- RATE, signed in units of 2^-40. -/
def Dev.rate (d : Dev) : Int := signedOf 32 (d.rd LTM_RATE)
/-- RATE is written clamped (R120, R125). -/
def Dev.setRate (r : Int) (d : Dev) : Dev := d.wr LTM_RATE (codeOf 32 (clampInt (-rateLimit) rateLimit r))
/-- One 2 ns tick of the timebase (R120). Units of 2^-48 ns: 2 ns is 2^49, and RATE adds RATE * 2^9. -/
def Dev.tick (d : Dev) : Dev :=
  let v := ((d.ltm.now * 2 ^ 32 + d.ltm.acc : Nat) : Int) + 2 ^ 49 + d.rate * 512
  { d with ltm := { d.ltm with now := v.toNat / 2 ^ 32 % 2 ^ 80, acc := v.toNat % 2 ^ 32 } }

/-- Line time is stepped (R121, R122). -/
def Dev.stepTime (t : LTime) (d : Dev) : Dev :=
  let old := d.now
  Dev.post 0x0200 0x0201 (leBytes 10 old) { d with
    ltm := { d.ltm with now := t % 2 ^ 80, acc := 0 }
    sys := { d.sys with rtcAt := d.sys.rtcAt + (t % 2 ^ 80 : Nat) - (old : Nat) } }

/-- The hardware servo, once per cycle at the guard start (R124); skipped without a selected bell and under HA_TIME (R125). -/
def Dev.servo (d : Dev) : Dev :=
  match d.ltm.theta with
  | none => d
  | some theta =>
    let d := { d with ltm := { d.ltm with theta := none } }
    if d.ha 2 || d.on LTM_STATUS.ORIGIN then d else
      let u := roundHalfAway (theta * 2 ^ 24) (max 1 d.periodNs)
      let i := clampInt (-rateLimit) rateLimit (signedOf 32 (d.rd LTM_INTEG) + shiftFloor u (d.get LTM_CTRL.KI_SHIFT))
      let raw := -(shiftFloor u (d.get LTM_CTRL.KP_SHIFT) + i)
      let clamped := decide (raw < -rateLimit) || decide (rateLimit < raw)
      let d := d.when (clamped && !d.on LTM_STATUS.RATE_CLAMPED) (Dev.post 0x0200 0x0205 (leBytes 4 (codeOf 32 raw)))
      let d := ((d.wr LTM_INTEG (codeOf 32 i)).setRate raw).set LTM_STATUS.RATE_CLAMPED (flag clamped)
      d.when (decide (d.get LTM_CTRL.OFFSET_ALARM * 65536 < theta.natAbs)) (Dev.post 0x0200 0x0206 (leBytes 4 (d.rd LTM_OFFSET)))

/-- θ of a selected bell (R123), saturating in LTM_OFFSET. -/
def Dev.offset (theta : Int) (d : Dev) : Dev :=
  Dev.wr LTM_OFFSET (codeOf 32 (clampInt (-(2 ^ 31)) (2 ^ 31 - 1) theta)) { d with ltm := { d.ltm with theta := some theta } }

/-- I and RATE from the two bells of the observed cycle, receive time and bell time of each (R124). -/
def Dev.servoFromBells (rx1 b1 rx2 b2 : Nat) (d : Dev) : Dev :=
  let dq := ((rx2 : Int) - rx1) - ((b2 : Int) - b1)
  let i := clampInt (-rateLimit) rateLimit (roundHalfAway (dq * 2 ^ 24 * 65536) (b2 - b1))
  (d.wr LTM_INTEG (codeOf 32 i)).setRate (-i)

/-- PPS steering of an origin, once per cycle and not under HA_TIME (R125, R134): RATE moves towards the target by at most 0.125 ppm, 137,439 units of 2^-40. -/
def Dev.steerPps (d : Dev) : Dev :=
  if !d.ha 2 && d.on LTM_STATUS.ORIGIN && d.on LTM_PPS_CTRL.ALIGN_EN && d.ltm.ppsLast.isSome && !d.ltm.ppsLost then
    let phi := signedOf 32 (d.rd LTM_PPS_ERR)
    let lim := roundHalfAway (d.get LTM_PPS_CTRL.SLEW * 2 ^ 40) 1000000
    let target := clampInt (-lim) lim (roundHalfAway (-phi * 2 ^ 40) 4000000000)
    d.setRate (clampInt (d.rate - 137439) (d.rate + 137439) target)
  else d

/-- LTM_STATUS.STALE (R146): a delay of the port that line time comes from is stale (R74). -/
def Dev.showTimePath (d : Dev) : Dev :=
  let p := d.get LTM_STATUS.SOURCE_PORT
  let n := if p < 8 then p else 8 + p % 2
  d.set LTM_STATUS.STALE (flag (p != 0xFF && (List.range 64).any (fun k => d.on (NLS_HOP_W3.STALE_A n k) || d.on (NLS_HOP_W3.STALE_B n k))))
/-- Line time comes from a port, or from none (0xFF). -/
def Dev.setSource (port : Nat) (d : Dev) : Dev := (d.set LTM_STATUS.SOURCE_PORT port).showTimePath

/-- Key of a trunk source (R129): holdover flag, origin rank, hops, port. -/
def sourceKey (e : Nat × List Byte) : Nat :=
  ((fieldAt e.2 1 1 % 2 * 256 + fieldAt e.2 0 1) * 256 + fieldAt e.2 3 1) * 2 + e.1
/-- The best of a list under a key. -/
def bestBy {α : Type} (key : α → Nat) : List α → Option α
  | [] => none
  | x :: xs => match bestBy key xs with | some y => if key y < key x then some y else some x | none => some x
/-- Holdover ends (R130). -/
def Dev.leaveHoldover (port : Nat) (d : Dev) : Dev :=
  let d : Dev := { d with ltm := { d.ltm with noSource := 0 } }
  if d.on LTM_STATUS.HOLDOVER then
    ((d.set LTM_STATUS.HOLDOVER 0).cond condSYNC_HOLDOVER false).post 0x0200 0x0203 (leBytes 1 port)
  else d
/-- A controller whose line rank is no longer that of an origin (R128): it has no source until one is offered. -/
def Dev.endOrigin (d : Dev) : Dev :=
  if !d.on LTM_STATUS.ORIGIN then d else
    ((((d.set LTM_STATUS.ORIGIN 0).set LTM_LINE.ORIGIN_INDEX 0xFF).set LTM_LINE.ORIGIN_HOPS 0).set LTM_LINE.ORIGIN_RANK 0xFF).post 0x0200 0x0204
      (leBytes 1 0xFF ++ leBytes 1 0xFF ++ leBytes 1 0xFF ++ leBytes 1 0)
/-- This controller becomes the line-time origin (R129, R130). -/
def Dev.becomeOrigin (d : Dev) : Dev :=
  let k := d.get LTM_LINE.LINE_RANK
  let was := d.on LTM_STATUS.ORIGIN
  let d := (((d.set LTM_STATUS.ORIGIN 1).setSource 0xFF).set LTM_LINE.ORIGIN_INDEX d.sys.index).set LTM_LINE.ORIGIN_HOPS 0
  let d := (d.set LTM_LINE.ORIGIN_RANK k).leaveHoldover 0xFF
  d.when (!was) (Dev.post 0x0200 0x0204 (leBytes 1 0xFF ++ leBytes 1 d.sys.index ++ leBytes 1 k ++ leBytes 1 0))
/-- Rank the sources offered on the trunks and follow the best one or become the origin (R128, R129). An offer that names this controller as the origin is
its own time come back. While no offer is free of holdover, an origin and a controller in holdover stay what they are (R130). In Shadow nothing is
chosen (R127). -/
def Dev.chooseSource (d : Dev) : Dev :=
  if d.mode = 8 then d else
    let offers := d.ltm.trunk.filter (fun e => fieldAt e.2 3 1 < 128 && fieldAt e.2 0 1 ≠ 0xFF && fieldAt e.2 2 1 ≠ d.sys.index)
    let k := d.get LTM_LINE.LINE_RANK
    let clean := offers.filter (fun e => fieldAt e.2 1 1 % 2 = 0)
    match bestBy sourceKey offers with
    | none => if !d.on LTM_STATUS.ORIGIN then d else if k ≤ 3 then d.becomeOrigin else d.endOrigin
    | some e =>
      if clean.isEmpty && (d.on LTM_STATUS.HOLDOVER || (d.on LTM_STATUS.ORIGIN && k ≤ 3)) then d
      else if !clean.isEmpty && clean.all (fun c => k < fieldAt c.2 0 1) then d.becomeOrigin
      else
        let port := 0x10 + e.1
        let idx := fieldAt e.2 2 1
        let hops := min 255 (fieldAt e.2 3 1 + 1)
        let changed := d.on LTM_STATUS.ORIGIN || d.get LTM_STATUS.SOURCE_PORT != port || d.get LTM_LINE.ORIGIN_INDEX != idx
        let d := (((d.set LTM_STATUS.ORIGIN 0).setSource port).set LTM_LINE.ORIGIN_INDEX idx).set LTM_LINE.ORIGIN_HOPS hops
        let d := d.set LTM_LINE.ORIGIN_RANK (fieldAt e.2 0 1)
        let d := if fieldAt e.2 1 1 % 2 = 0 then d.leaveHoldover port else d
        d.when changed (Dev.post 0x0200 0x0204 (leBytes 1 port ++ leBytes 1 idx ++ leBytes 1 (fieldAt e.2 0 1) ++ leBytes 1 hops))

/-- A controller that takes the permit leads line time, or follows a better source that its trunks offer (R128, R129). -/
def Dev.leadTime (d : Dev) : Dev :=
  if d.mode = 8 then d
  else if !d.ltm.trunk.isEmpty || d.on LTM_STATUS.ORIGIN then d.chooseSource
  else if d.get LTM_LINE.LINE_RANK ≤ 3 then d.becomeOrigin else d

/-- The ranking of every cycle (R129, R130): a trunk whose bell or status has not come in the cycle offers nothing. A cycle without a valid source is
counted: a source in holdover is none. -/
def Dev.rankSources (d : Dev) : Dev :=
  let came := fun (t : Nat) => d.ltm.heard.contains t && ((smGet (fun _ => Port.reset) d.ports (8 + t)).bell).isSome
  let d := Dev.chooseSource { d with ltm := { d.ltm with trunk := d.ltm.trunk.filter (fun e => came e.1), heard := [] } }
  let clean := match d.ltm.trunk.find? (fun e => 0x10 + e.1 == d.get LTM_STATUS.SOURCE_PORT) with
    | some e => fieldAt e.2 1 1 % 2 == 0
    | none => d.get LTM_STATUS.SOURCE_PORT < 8
  let valid := d.on LTM_STATUS.ORIGIN || (d.ltm.theta.isSome && clean)
  { d with ltm := { d.ltm with noSource := if valid then 0 else d.ltm.noSource + 1 } }
/-- Cycles without a valid source after which holdover begins (R130, R146). -/
def Dev.holdoverLimit (d : Dev) : Nat := max 1 (d.get LTM_CTRL.HOLDOVER_CYCLES)
/-- TRUNK_STATUS_FRAME: a status frame's payload (R128) of a trunk. -/
def Dev.trunkStatus (trunk : Nat) (payload : List Byte) (d : Dev) : Dev :=
  let p := padTo 16 payload
  ({ d with ltm := { d.ltm with trunk := (d.ltm.trunk.filter (fun e => e.1 != trunk)) ++ [(trunk, p)], heard := trunk :: d.ltm.heard.erase trunk } } : Dev).chooseSource
/-- HOLDOVER_ENTERED (R130): HOLDOVER_CYCLES cycles have passed without a valid source. -/
def Dev.enterHoldover (d : Dev) : Dev :=
  if d.on LTM_STATUS.HOLDOVER || d.on LTM_STATUS.ORIGIN || !d.sync || d.ltm.noSource < d.holdoverLimit then d else
    let port := d.get LTM_STATUS.SOURCE_PORT
    let d := ((d.set LTM_STATUS.HOLDOVER 1).cond condSYNC_HOLDOVER true).post 0x0200 0x0202 (leBytes 1 port)
    d.setSource 0xFF
/-- ORIGIN_TAKEOVER (R130): a controller of line rank k from 1 to 3 that has been in holdover for 64 k cycles, never in Shadow (R127). -/
def Dev.takeOrigin (d : Dev) : Dev :=
  let k := d.get LTM_LINE.LINE_RANK
  if d.on LTM_STATUS.HOLDOVER && 1 ≤ k && k ≤ 3 && d.mode ≠ 8 && d.holdoverLimit + 64 * k ≤ d.ltm.noSource then d.becomeOrigin else d
/-- TRUNK_MASTER_FRAME (R131): the entries are logged with the reference instant of the frame's cycle; a standby uses the holder's log. -/
def Dev.trunkMasters (payload : List Byte) (d : Dev) : Dev :=
  let n := min 128 (payload.length / 16)
  if n = 0 || d.mode = 8 || !d.sync then d
  else d.logInput 0x07 (4 + 16 * n) (.masters (leBytes 10 d.cyc.ref ++ payload.take (16 * n))) none
/-- φ of an edge is recorded, and the lock with it (R134). -/
def Dev.ppsError (d : Dev) : Dev :=
  let r := ((d.now / 65536 : Nat) : Int) - signedOf 32 (d.rd LTM_PPS_DELAY)
  let m := r.emod 1000000000
  let phi := if 500000000 < m then m - 1000000000 else m
  let lock := decide (phi.natAbs ≤ 50)
  let was := d.on LTM_STATUS.PPS_LOCKED
  let d := (d.wr LTM_PPS_ERR (codeOf 32 phi)).set LTM_STATUS.PPS_LOCKED (flag lock)
  d.when (lock && !was) (Dev.post 0x0200 0x0208 (leBytes 4 (codeOf 32 phi)))
/-- PPS_EDGE (R134): φ is recorded; a founder that waits for PPS sets its line time (R122). -/
def Dev.ppsEdge (d : Dev) : Dev :=
  let d := (d.wakeOn SYS_WAKE_EN.PPS).ppsError
  let sec : Nat := 65536 * 1000000000
  let t := (d.now + sec / 2) / sec * sec
  let d := if d.ltm.alignWait && t ≠ d.now then d.stepTime t else d
  { d with ltm := { d.ltm with alignWait := false, ppsLast := some d.now, ppsLost := false } }
/-- PPS_LOST (R134): 3 s without an edge; RATE is kept. -/
def Dev.ppsGone (d : Dev) : Dev :=
  if d.ltm.ppsLost then d else
    Dev.post 0x0200 0x0207 [] { d with ltm := { d.ltm with ppsLost := true } }
/-- The next whole second of line time at or after `t`. -/
def wholeSecond (t : LTime) : LTime := (t + (65536 * 1000000000 - 1)) / (65536 * 1000000000) * (65536 * 1000000000)
/-- WHOLE_SECOND_TICK (R121, R135, R493): PPS_OUT falls when enabled, and the real-time clock is written while line time is valid. -/
def wholeSecondTick (s : State) : State :=
  let d := s.dev.reach (wholeSecond s.dev.now)
  let d := if d.on LTM_PPS_CTRL.OUT_EN then
      Dev.emit (.pin "PPS_OUT" 0 false) { d with ltm := { d.ltm with ppsLow := true } } else d
  if d.on LTM_STATUS.VALID then
    let sec := d.now / 65536 / 1000000000 % 2 ^ 48
    { s with backup := { s.backup with rtcValid := true, rtcSec := sec, rtcSub := 0 },
             dev := Dev.wr RST_RTC_SUB (2 ^ 31) { d with sys := { d.sys with rtcAt := (d.now : Int) } } }
  else { s with dev := d }
/-- PPS_OUT_WIDTH_END (R135, R146): OUT_WIDTH ms after the second at which PPS_OUT fell; 1 to 500, other values act as 100. -/
def Dev.ppsOutEnd (d : Dev) : Dev :=
  if d.ltm.ppsLow then
    let w := d.get LTM_PPS_CTRL.OUT_WIDTH
    let sec : Nat := 65536 * 1000000000
    let d := d.reach (d.now / sec * sec + ns (1000000 * (if 1 ≤ w && w ≤ 500 then w else 100)))
    Dev.emit (.pin "PPS_OUT" 0 true) { d with ltm := { d.ltm with ppsLow := false } }
  else d

/-- LTM_TXTS registers show the queue (R136). -/
def Dev.showTx (d : Dev) : Dev :=
  let d := d.set LTM_TXTS_STATUS.DEPTH d.ltm.tx.length
  match d.ltm.tx with
  | [] => d.wr LTM_TXTS_ENTRY2 0
  | e :: _ => ((d.wr64 LTM_TXTS_ENTRY0 (e.time / 65536 % 2 ^ 64)).wr LTM_TXTS_ENTRY2
      (e.time % 65536 + e.port * 2 ^ 16 + flag e.chanB * 2 ^ 24 + 2 ^ 31)).wr LTM_TXTS_ENTRY3 (e.tag + e.slot * 2 ^ 16)
/-- Port byte of R409 for port `n` (8 and 9 are the trunks). -/
def portByte (n : Nat) : Nat := if n < 8 then n else 0x10 + (n - 8)
/-- A time-stamped frame's SOF leaves the port (R136). -/
def Dev.pushTx (port : Nat) (chanB : Bool) (tag slot : Nat) (d : Dev) : Dev :=
  if 256 ≤ d.ltm.tx.length then
    ((d.set LTM_TXTS_STATUS.OVERFLOW 1).count32 LTM_TXTS_OVF_CNT 1).postSum 0x0200 0x0209 (leBytes 2)
  else ({ d with ltm := { d.ltm with tx := d.ltm.tx ++ [⟨d.now, portByte port, chanB, tag, slot⟩] } } : Dev).showTx
/-- A port. -/
def Dev.port (d : Dev) (n : Nat) : Port := smGet (fun _ => Port.reset) d.ports n
/-- Replace a port. -/
def Dev.setPort (n : Nat) (p : Port) (d : Dev) : Dev := { d with ports := smSet (fun _ => Port.reset) d.ports n p }
/-- ASYNC_FRAME_SENT (R136): the frame with this tag that has left the queue is stamped when its flag asks for it. A frame that awaits no
reply is done with when its last copy has been stamped. -/
def Dev.asyncSent (port : Nat) (chanB : Bool) (tag slot : Nat) (d : Dev) : Dev :=
  let q := d.port port
  let hit := fun (f : AsyncFrame) => f.tag == tag && f.stamp
  if q.awaiting.any hit then
    let past := fun (f : AsyncFrame) => hit f && f.replyAddr == 0 && (f.chans != 0 || chanB)
    (d.setPort port { q with awaiting := q.awaiting.filter (fun f => !past f) }).pushTx port chanB tag slot
  else d
/-- TXTS_POP: a read of ENTRY3 answers its word and pops the queue (R136). -/
def Dev.txPop (d : Dev) : Dev :=
  let d := d.emit (.busData LTM_TXTS_ENTRY3 (d.rd LTM_TXTS_ENTRY3))
  ({ d with ltm := { d.ltm with tx := d.ltm.tx.drop 1 } } : Dev).showTx
/-- LTM_RATE_WRITE (R125): ignored unless the time servo is host-assisted. -/
def Dev.rateWrite (v : Nat) (d : Dev) : Dev := if d.ha 2 then d.setRate (signedOf 32 v) else d

/-- An output. -/
def Dev.evoOut (d : Dev) (n : Nat) : EvoOut := smGet (fun _ => EvoOut.reset) d.evo n
/-- Replace an output. -/
def Dev.setEvo (n : Nat) (e : EvoOut) (d : Dev) : Dev := { d with evo := smSet (fun _ => EvoOut.reset) d.evo n e }
/-- RUNNING shows an armed output (R147): one with a firing to come, or a cycle-phase output until it is cancelled. -/
def Dev.showEvo (n : Nat) (d : Dev) : Dev :=
  d.set EVO_STATUS.RUNNING (withBits (d.get EVO_STATUS.RUNNING) n n (flag ((d.evoOut n).next.isSome || (d.evoOut n).mode == 3)))
/-- Grid point k of a periodic output. -/
def evoGrid (e : EvoOut) (k : Nat) : LTime := ns (e.start + k * e.period)
/-- First grid point of a periodic output after `t`, within COUNT (R142, R143). -/
def evoNext (e : EvoOut) (t : LTime) : Option LTime :=
  if e.period = 0 then none else
    let k := if ns e.start ≤ t then (t - ns e.start) / ns e.period + 1 else 0
    if e.count ≠ 0 && e.count ≤ k then none else some (evoGrid e k)
/-- An output that ends its firings posts EVO_DONE (R148). -/
def Dev.evoEnd (n : Nat) (d : Dev) : Dev :=
  let e := d.evoOut n
  ((d.setEvo n { e with next := none }).post (0x0300 + n) 0x0301 (leBytes 4 e.fired)).showEvo n
/-- Fields of an output that a commit captures (R147). -/
def evoRegs (n : Nat) : List Nat :=
  [EVO_CTRL n, EVO_START_LO n, EVO_START_HI n, EVO_PERIOD n, EVO_WIDTH n, EVO_COUNT n, EVO_TOL n]
/-- Rules 1 to 3 on the shadow fields of an output (R143). -/
def Dev.evoRules (d : Dev) (n : Nat) : Option Nat :=
  let mode := d.get (EVO_CTRL.MODE n)
  let p := d.rd (EVO_PERIOD n)
  let w := d.rd (EVO_WIDTH n)
  firstFail [(1, decide (8 ≤ w)), (2, decide (mode ≠ 2) || (decide (16 ≤ p) && decide (w < p))),
    (3, decide (mode ≠ 3) || d.cyc.active.isNone || decide (p + w < d.periodNs))]
/-- The first whole nanosecond of line time at or after `t`, where edges are placed (R142). -/
def wholeNs (t : LTime) : LTime := (t + 65535) / 65536 * 65536
/-- Cycle-phase outputs at a reference instant (R142, R143): every DIV-th cycle, skipped when rule 3 fails for the present period. The firing of the
cycle at whose bell the output was committed has been judged there (R140). -/
def Dev.evoCycle (d : Dev) : Dev :=
  d.forN 16 (fun n d =>
    let e := d.evoOut n
    if e.mode ≠ 3 || e.judged == some d.cyc.count then d else
      if d.cyc.count % max 1 e.div ≠ 0 then d
      else if e.period + e.width < d.periodNs then (d.setEvo n { e with next := some (wholeNs (d.cyc.ref + ns e.period)) }).showEvo n
      else d.set EVO_STATUS.SKIP (withBits (d.get EVO_STATUS.SKIP) n n 1))
/-- A commit of an output takes effect at `t` (R140, R143): the first firing is judged with e = t + 500 ns. A missed first firing is not
executed; the firings that follow it on the grid keep their times. -/
def Dev.evoCommit (n : Nat) (ws : List (Nat × Word)) (t : LTime) (ref : Option PktRef) (d : Dev) : Dev :=
  let d := d.goLiveAll ws
  let c := d.lrd (EVO_CTRL n)
  let old := d.evoOut n
  let e0 : EvoOut := ⟨bitsOf c 1 0, bitAt c 2, bitAt c 3, bitsOf c 15 8, d.lrd (EVO_START_LO n) + 2 ^ 32 * d.lrd (EVO_START_HI n),
    d.lrd (EVO_PERIOD n), d.lrd (EVO_WIDTH n), d.lrd (EVO_COUNT n), 0, none, old.low, false, none⟩
  let d := (d.wr (EVO_FIRED n) 0).set EVO_APPLY.APPLY (withBits (d.get EVO_APPLY.APPLY) n n 0)
  let first : Option LTime := match e0.mode with
    | 1 | 2 => some (ns e0.start)
    | 3 => if d.cyc.count % max 1 e0.div = 0 && e0.period + e0.width < d.periodNs then some (wholeNs (d.cyc.ref + ns e0.period)) else none
    | _ => none
  match first with
  | none => ((d.setEvo n e0).showEvo n).completeOpt ref stOK t []
  | some f =>
    let e0 : EvoOut := { e0 with judged := if e0.mode = 3 && d.cyc.running then some d.cyc.count else none }
    let e := t + ns 500
    let late := e - f
    match lateness e f (d.lrd (EVO_TOL n)) 0 with
    | 0 => ((d.setEvo n { e0 with next := some f }).showEvo n).completeOpt ref stOK t []
    | 1 => (((d.setEvo n { e0 with next := some (wholeNs e), late := true }).showEvo n).post (0x0300 + n) 0x0302
        (leBytes 4 (min (late / 65536) (2 ^ 32 - 1)))).completeOpt ref stLATE t []
    | _ =>
      let nx := if e0.mode = 2 then evoNext e0 (e - 1) else none
      (((d.setEvo n { e0 with next := nx }).showEvo n).post (0x0300 + n) 0x0303
        (leBytes 4 (min (late / 65536) (2 ^ 32 - 1)))).completeOpt ref stMISSED t []
/-- A firing at its instant (R142): pin low, count, next firing. Answers whether it starts ADC conversions. -/
def Dev.evoFire (n : Nat) (d : Dev) : Bool × Dev :=
  let e := d.evoOut n
  match e.next with
  | none => (false, d)
  | some t =>
    let d := d.reach t
    let d := d.when e.pinEn (Dev.emit (.pin "EVO" n false))
    let low := if e.pinEn then some (t + ns e.width) else e.low
    let e := { e with fired := e.fired + 1, low := low, late := false }
    let d := d.count32 (EVO_FIRED n) 1
    match e.mode with
    | 2 => match evoNext e t with
      | some nx => (e.adcStart, (d.setEvo n { e with next := some nx }).showEvo n)
      | none => (e.adcStart, (d.setEvo n e).evoEnd n)
    | 3 => (e.adcStart, (d.setEvo n { e with next := none }).showEvo n)
    | _ => (e.adcStart, (d.setEvo n e).evoEnd n)
/-- EVO_PULSE_END (R142). -/
def Dev.evoPulseEnd (n : Nat) (d : Dev) : Dev :=
  match (d.evoOut n).low with
  | some t => ((d.reach t).setEvo n { d.evoOut n with low := none }).emit (.pin "EVO" n true)
  | none => d
/-- EVO_APPLY (R14, R143): each set bit checks and captures its output for the next boundary. -/
def Dev.evoApply (mask : Nat) (d : Dev) : Dev :=
  d.forN 16 (fun n d =>
    if !bitAt mask n || bitAt (d.get EVO_APPLY.APPLY) n || (d.evoRules n).isSome then d
    else (d.set EVO_APPLY.APPLY (withBits (d.get EVO_APPLY.APPLY) n n 1)).holdCommit (0x0300 + n) (d.capture (evoRegs n)) none)
/-- A cancel acts at once (R144): MODE 0, no further firing but one due in this clock; a pulse in progress completes. -/
def Dev.evoCancel (mask : Nat) (d : Dev) : Dev :=
  d.forN 16 (fun n d =>
    if !bitAt mask n then d else
      let e := d.evoOut n
      let due := e.next.filter (fun t => decide (t < d.now + ns 2))
      let ran := (e.next.isSome || e.mode == 3) && due.isNone
      let d := (d.set (EVO_CTRL.MODE n) 0).goLive (EVO_CTRL n) (BitVec.ofNat 32 (withBits (d.lrd (EVO_CTRL n)) 1 0 0))
      let d := (d.setEvo n { e with mode := 0, next := due }).showEvo n
      d.when ran (Dev.post (0x0300 + n) 0x0301 (leBytes 4 e.fired)))

/-- 0x0501 GET_TIME (R145). -/
def opGetTime : Opcode :=
  { code := 0x0501, modes := fun _ => modeIn confSync,
    run := fun _ _ d => (.done stOK (leBytes 4 (d.rd LTM_RATE) ++ leBytes 4 (d.rd LTM_OFFSET) ++ leBytes 1 (d.rd LTM_STATUS) ++
      leBytes 1 (d.get LTM_LINE.ORIGIN_INDEX) ++ leBytes 1 (d.get LTM_LINE.ORIGIN_HOPS)), d) }
/-- 0x0502 SET_MASTER_RANK (R145): a port rank waits for the pending generation, the line rank acts at once. -/
def opSetMasterRank : Opcode :=
  { code := 0x0502, modes := fun _ => modeIn confSync,
    run := fun p _ d =>
      let a := par p 23 1
      match par p 22 1 with
      | 0 =>
        let r := par p 24 1
        if a < 8 && (r = 2 || r = 3) && (par p 25 1 < 64 || par p 25 1 = 0xFF) then
          let q := d.port a
          (.done stOK [], d.setPort a { q with ranks := (q.ranks.filter (fun x => x.1 != r)) ++ [(r, par p 25 1)] })
        else (.bad stBAD_PARAMETER, d)
      | 1 =>
        if a ≤ 3 || a = 0xFF then
          let d := (d.set LTM_LINE.LINE_RANK a).transact [(0x0A, settingBody 0x0200 0 a)]
          -- a controller of the line that has no source and has heard of none leads it (R128)
          (.done stOK [], if d.cyc.running && d.get LTM_STATUS.SOURCE_PORT = 0xFF && !d.on LTM_STATUS.HOLDOVER then d.leadTime else d.chooseSource)
        else (.bad stBAD_PARAMETER, d)
      | _ => (.bad stBAD_PARAMETER, d) }
/-- 0x0503 PROGRAM_EVENT_OUTPUT (R145): the fields are written to the shadow and committed; the packet completes at the boundary. -/
def opProgramOutput : Opcode :=
  { code := 0x0503, modes := fun _ => modeIn confSync,
    run := fun p ref d =>
      let n := par p 22 1
      let mode := par p 23 1
      if 16 ≤ n || 4 ≤ mode then (.bad stBAD_PARAMETER, d)
      else if bitAt (d.get EVO_APPLY.APPLY) n then (.bad stBUSY, d)
      else
        let e := (d.wr (EVO_CTRL n) (mode + par p 24 1 % 4 * 4 + par p 25 1 * 256)).wr64 (EVO_START_LO n) (par p 26 8)
        let e := ((((e.wr (EVO_PERIOD n) (par p 34 4)).wr (EVO_WIDTH n) (par p 38 4)).wr (EVO_COUNT n) (par p 42 4)).wr (EVO_TOL n) p.tol.toNat)
        match e.evoRules n with
        | some r => (.done stCONSISTENCY (ruleResult r (0x0300 + n)), e)
        | none => (.later, (e.set EVO_APPLY.APPLY (withBits (e.get EVO_APPLY.APPLY) n n 1)).holdCommit (0x0300 + n) (e.capture (evoRegs n)) (some ref)) }
/-- 0x0504 CANCEL_EVENT_OUTPUT (R144, R145). -/
def opCancelOutput : Opcode :=
  { code := 0x0504, modes := fun _ => modeIn confSync, run := fun p _ d => (.done stOK [], d.evoCancel (par p 22 2)) }
/-- 0x0505 ALIGN_TO_PPS (R134, R145). -/
def opAlignPps : Opcode :=
  { code := 0x0505, modes := fun _ => modeIn confSync,
    run := fun p _ d =>
      if par p 22 1 ≤ 1 && 1 ≤ par p 23 1 && par p 23 1 ≤ 50 then
        (.done stOK [], ((d.set LTM_PPS_CTRL.ALIGN_EN (par p 22 1)).set LTM_PPS_CTRL.SLEW (par p 23 1)).wr LTM_PPS_DELAY (par p 24 4))
      else (.bad stBAD_PARAMETER, d) }

/-- TRUNK_STATUS_FRAME (R129). -/
def execTrunkStatusFrame (trunk : Fin 2) (payload : List Byte) (s : State) : Answer := .next (s.onDev (Dev.trunkStatus trunk.val payload))
/-- HOLDOVER_ENTERED (R130). -/
def execHoldoverEntered (s : State) : Answer := .next (s.onDev Dev.enterHoldover)
/-- ORIGIN_TAKEOVER (R130). -/
def execOriginTakeover (s : State) : Answer := .next (s.onDev Dev.takeOrigin)
/-- TRUNK_MASTER_FRAME (R131). -/
def execTrunkMasterFrame (payload : List Byte) (s : State) : Answer := .next (s.onDev (Dev.trunkMasters payload))
/-- PPS_LOST (R134). -/
def execPpsLost (s : State) : Answer := .next (s.onDev Dev.ppsGone)
/-- WHOLE_SECOND_TICK (R135). -/
def execWholeSecondTick (s : State) : Answer := .next (wholeSecondTick s)
/-- PPS_OUT_WIDTH_END (R135). -/
def execPpsOutWidthEnd (s : State) : Answer := .next (s.onDev Dev.ppsOutEnd)
/-- ASYNC_FRAME_SENT (R136). -/
def execAsyncFrameSent (port : Fin 10) (chanB : Bool) (tag slot : BitVec 16) (s : State) : Answer :=
  .next (s.onDev (Dev.asyncSent port.val chanB tag.toNat slot.toNat))
/-- TXTS_POP (R136). -/
def execTxtsPop (s : State) : Answer := .next (s.onDev Dev.txPop)
/-- LTM_RATE_WRITE (R125). -/
def execLtmRateWrite (v : Word) (s : State) : Answer := .next (s.onDev (Dev.rateWrite v.toNat))
/-- EVO_PULSE_END (R142). -/
def execEvoPulseEnd (n : Fin 16) (s : State) : Answer := .next (s.onDev (Dev.evoPulseEnd n.val))
/-- EVO_APPLY (R143). -/
def execEvoApply (mask : BitVec 16) (s : State) : Answer := .next (s.onDev (Dev.evoApply mask.toNat))
/-- EVO_CANCEL (R144). -/
def execEvoCancel (mask : BitVec 16) (s : State) : Answer := .next (s.onDev (Dev.evoCancel mask.toNat))
/-- GET_TIME (R145). -/
def execGetTime (p : Packet) (s : State) : Answer := .next (s.onDev (Dev.packet opGetTime p))
/-- SET_MASTER_RANK (R145). -/
def execSetMasterRank (p : Packet) (s : State) : Answer := .next (s.onDev (Dev.packet opSetMasterRank p))
/-- PROGRAM_EVENT_OUTPUT (R145). -/
def execProgramEventOutput (p : Packet) (s : State) : Answer := .next (s.onDev (Dev.packet opProgramOutput p))
/-- CANCEL_EVENT_OUTPUT (R144). -/
def execCancelEventOutput (p : Packet) (s : State) : Answer := .next (s.onDev (Dev.packet opCancelOutput p))
/-- ALIGN_TO_PPS (R134). -/
def execAlignToPps (p : Packet) (s : State) : Answer := .next (s.onDev (Dev.packet opAlignPps p))

end Sys2Proof.Machine
end

