-- ==== Sys2Proof/Machine/Links.lean ====
section
/-! DEFINITION. Sys2Proof/Machine/Links.lean: the hops at the controller's ports, segment bring-up, hop delays and lane recalibration
(R61 to R78). Ports 0 to 7 are segments, 8 and 9 trunks; channel 0 is A, 1 is B. -/
namespace Sys2Proof.Machine

/-- Hop states of NLS_LINK_STATUS (R78). -/
def hsDISABLED : Nat := 0
def hsDOWN : Nat := 1
def hsDETECT : Nat := 2
def hsNEGOTIATE : Nat := 3
def hsMEASURE : Nat := 4
def hsUP : Nat := 5
def hsRETRAIN : Nat := 6

/-- Event source of a port (R139). -/
def portSource (n : Nat) : Nat := if n < 8 then 0x0100 + 0x10 * n else 0x0180 + 0x10 * (n - 8)
/-- State field of a channel. -/
def linkFld (n c : Nat) : Fld := if c = 0 then NLS_LINK_STATUS.STATE_A n else NLS_LINK_STATUS.STATE_B n
/-- State of the controller's own hop end. -/
def Dev.link (d : Dev) (n c : Nat) : Nat := d.get (linkFld n c)
/-- The hop end of a channel. -/
def Port.ch (p : Port) (c : Nat) : LinkCh := if c = 0 then p.chA else p.chB
/-- Replace the hop end of a channel. -/
def Port.setCh (c : Nat) (x : LinkCh) (p : Port) : Port := if c = 0 then { p with chA := x } else { p with chB := x }
/-- Change the hop end of a channel. -/
def Dev.mapCh (n c : Nat) (f : LinkCh → LinkCh) (d : Dev) : Dev := d.setPort n ((d.port n).setCh c (f ((d.port n).ch c)))
/-- Key of hop `h` on channel `c`. -/
def hopKey (c h : Nat) : Nat := 128 * c + h

/-- The working generation's schedule block of a port, from the active generation or the package (R66). -/
def Dev.planBlock (d : Dev) (n : Nat) : Option SchedBlock :=
  match d.cyc.working with | some g => g.blocks.find? (fun b => b.port == portByte n) | none => none
/-- Nodes the package plans for a segment. -/
def Dev.plannedNodes (d : Dev) (n : Nat) : Nat := if 8 ≤ n then 0 else ((d.planBlock n).map (·.planNodes)).getD 0
/-- Whether the segment is planned as a closed line. -/
def Dev.plannedClosed (d : Dev) (n : Nat) : Bool := ((d.planBlock n).map (·.closed)).getD false
/-- Index of the hop whose end this controller is: hop 0, or the tail hop at a tail end (R69). -/
def Dev.ownHop (d : Dev) (n : Nat) : Nat := if d.sys.pairEnd || 8 ≤ n then 0 else d.plannedNodes n
/-- Whether this controller is the upstream end of its hop (R62, R64, R72, R80): the head end of a segment, the lower index of a trunk. The
upstream end sends delay requests; the other end only answers them. -/
def Dev.upstream (d : Dev) (n : Nat) : Bool := if 8 ≤ n then n == 9 else d.sys.pairEnd || (d.port n).tailRun

/-- A link control message (R61): 22 bytes and their CRC-16. -/
def controlMsg (kind flags minor mask role : Nat) (tail : List Byte) : List Byte :=
  let b := leBytes 1 kind ++ leBytes 1 flags ++ leBytes 1 2 ++ leBytes 1 minor ++ leBytes 1 mask ++ leBytes 1 role ++ zeros 2 ++ padTo 14 tail
  b ++ leBytes 2 (crc16 b)
/-- Role of a port in its messages (R61). -/
def Dev.portRole (d : Dev) (n : Nat) : Nat := if 8 ≤ n then 3 else if d.sys.pairEnd then 0 else 4
/-- Rates up to a code, as a mask; 0b11 counts as 0b10 (R66, R78). -/
def ratesUpTo (r : Nat) : Nat := 2 ^ (min r 2 + 1) - 1
/-- Rates a port offers: all three on a segment, those up to its own RATE_MAX on a trunk, whose rate both ends cap (R70). -/
def Dev.portMask (d : Dev) (n : Nat) : Nat := if 8 ≤ n then ratesUpTo (d.get (NLS_LINK_CTRL.RATE_MAX n)) else 0b111
/-- Send a link control message of this controller. Flag bit 4 (hop-local) is set in a hop-local rate order only: R62 makes kinds 0x01, 0x03 and
0x04 hop-local by their kind, and whether the bit is set in them too the manual leaves open (DESIGN CHOICE: it is 0). -/
def Dev.sendControl (n c kind ack : Nat) (tail : List Byte) (d : Dev) : Dev :=
  let flags := ack + 2 * c + 4 + (if (d.port n).tailRun then 8 else 0)
  d.emit (.control n c kind (controlMsg kind flags 1 (d.portMask n) (d.portRole n) tail))
/-- The report that a far end sends of its own hop (R63, R69): its position, the hop's common mask and state; it has no downstream hop. -/
def Dev.sendReport (n c st : Nat) (d : Dev) : Dev :=
  let x := (d.port n).ch c
  d.when (!d.upstream n) (Dev.sendControl n c 0x05 0 (leBytes 1 ((x.partnerPos + 1) % 256) ++ leBytes 1 x.mask ++ leBytes 1 0 ++ leBytes 1 st))
/-- Whether a received message's CRC holds (R61). -/
def controlOk (m : List Byte) : Bool := m.length == 24 && crc16 (m.take 22) == fieldAt m 22 2
/-- A bad CRC is counted on its channel (R61, R78). -/
def Dev.crcErr (n c : Nat) (d : Dev) : Dev := d.count32 (if c = 0 then NLS_CRC_ERR_A n else NLS_CRC_ERR_B n) 1
/-- A NEG_FAIL outcome (R63, R78). -/
def Dev.negFail (n c : Nat) (d : Dev) : Dev :=
  let x := (d.port n).ch c
  (d.count (if c = 0 then NLS_NEG_FAIL_CNT.COUNT_A n else NLS_NEG_FAIL_CNT.COUNT_B n) 1).post (portSource n) 0x0104
    (leBytes 1 (d.ownHop n) ++ leBytes 1 c ++ leBytes 1 x.partnerMajor ++ leBytes 1 x.partnerMask)

/-- Hops UP on channel `c` from the first of a list to the first that is not. -/
def consecUp (st : List (Nat × Nat)) (c : Nat) (hops : List Nat) : Nat := (hops.takeWhile (fun h => lookupD (hopKey c h) 0 st == hsUP)).length
/-- The node hops of a port in the order in which this controller meets them (R69, R78): from hop 0 at a head end, from the tail hop downwards at
a tail end, the one hop of a trunk. -/
def Dev.hopOrder (d : Dev) (n : Nat) : List Nat :=
  if 8 ≤ n then [0]
  else if d.sys.pairEnd then List.range (if d.plannedNodes n = 0 then 64 else d.plannedNodes n)
  else (List.range (d.plannedNodes n)).map (fun k => d.plannedNodes n - k)
/-- CHANNEL_LOST is set while a port's own hop is UP on one channel only, or a position's last slot came on one channel only (R55, R106). -/
def Dev.showChannels (d : Dev) : Dev :=
  let up := fun m c => lookupD (hopKey c (d.ownHop m)) 0 (d.port m).hopState == hsUP
  d.cond condCHANNEL_LOST ((List.range 10).any (fun m => up m 0 != up m 1) ||
    d.cyc.running && (List.range 8).any (fun m => d.plannedNodes m != 0 && (List.range 64).any (fun p => d.on (NLS_POS_W2.PRESENT m p) && d.on (NLS_POS_W2.SINGLE m p))))
/-- HOPS, TAIL, MASK fields follow the hop states (R78). -/
def Dev.showHops (n : Nat) (d : Dev) : Dev :=
  let p := d.port n
  let d := (d.set (NLS_LINK_STATUS.HOPS_A n) (consecUp p.hopState 0 (d.hopOrder n))).set (NLS_LINK_STATUS.HOPS_B n)
    (consecUp p.hopState 1 (d.hopOrder n))
  let tail := fun c => d.plannedClosed n && decide (n < 8) && lookupD (hopKey c (d.plannedNodes n)) 0 p.hopState == hsUP
  let mask := fun c => ((p.hopMask.filter (fun x => x.1 / 128 == c && lookupD x.1 0 p.hopState == hsUP)).map (·.2)).foldl Nat.land 7
  let any := fun c => p.hopMask.any (fun x => x.1 / 128 == c && lookupD x.1 0 p.hopState == hsUP)
  (((d.set (NLS_LINK_STATUS.TAIL_A n) (flag (tail 0))).set (NLS_LINK_STATUS.TAIL_B n) (flag (tail 1))).set (NLS_RATE_INFO.MASK_A n)
    (if any 0 then mask 0 else 0)).set (NLS_RATE_INFO.MASK_B n) (if any 1 then mask 1 else 0) |> Dev.showChannels

/-- Highest rate code of a mask; 1.25 Gbit/s is mandatory. -/
def topRate (m : Nat) : Nat := if bitAt m 2 then 2 else if bitAt m 1 then 1 else 0

/-- A hop at position `h` left UP (R78). -/
def Dev.hopDown (n c h st : Nat) (d : Dev) : Dev :=
  let p := d.port n
  let d := (d.setPort n { p with hopState := putKey (hopKey c h) st p.hopState }).showHops n
  (d.count (if c = 0 then NLS_LINK_DROP_CNT.COUNT_A n else NLS_LINK_DROP_CNT.COUNT_B n) 1).post (portSource n) 0x0102 (leBytes 1 h ++ leBytes 1 c)

/-- Step 5 of R66: the segment is ready at rate `r`. -/
def Dev.segmentReady (n r : Nat) (d : Dev) : Dev :=
  let d := (d.setPort n { d.port n with phase := 0 }).set (NLS_LINK_STATUS.RATE n) r
  let d := d.set (NLS_LINK_STATUS.BRINGUP_DONE n) 1
  d.post (portSource n) 0x0101 (leBytes 1 (d.get (NLS_LINK_STATUS.HOPS_A n)) ++ leBytes 1 (d.get (NLS_LINK_STATUS.HOPS_B n)) ++ leBytes 1 r)
/-- The own hop end enters RETRAIN for rate `r` (R63): a measurement is abandoned, and a hop that was UP is a drop (R78). -/
def Dev.retrain (n c r : Nat) (d : Dev) : Dev :=
  let was := d.link n c == hsUP
  let d := (d.mapCh n c (fun x => { x with ordered := some r, exchanges := 0, sum := 0 })).set (linkFld n c) hsRETRAIN
  d.when was (Dev.hopDown n c (d.ownHop n) hsRETRAIN)
/-- Order rate `r` on both channels (R66 step 3); the sender's own hop ends retrain with the others. -/
def Dev.orderRate (n r : Nat) (d : Dev) : Dev :=
  let d := d.forN 2 (fun c d =>
    let d := d.sendControl n c 0x02 0 (leBytes 1 r)
    let st := d.link n c
    d.when (2 ≤ st && st ≤ 5) (Dev.retrain n c r))
  let p := d.port n
  (d.setPort n { p with
    phase := 2, target := r,
    hopState := p.hopState.map (fun x => if x.2 = hsUP then (x.1, hsRETRAIN) else x) }).showHops n
/-- End of discovery (R66 steps 2 and 3): the segment rate over the hops UP, RATE_SHORT, the limiting hop, and the order. -/
def Dev.endDiscovery (n : Nat) (d : Dev) : Dev :=
  let p := d.port n
  let up := (p.hopState.filter (fun x => x.2 == hsUP)).map (·.1)
  let planned := d.get (NLS_RATE_INFO.PLANNED_RATE n)
  let max_ := d.get (NLS_LINK_CTRL.RATE_MAX n)
  let hops := (up.map (fun k => lookupD k 7 p.hopMask)).foldl Nat.land 7
  let r := topRate (Nat.land (Nat.land hops (ratesUpTo max_)) (ratesUpTo planned))
  let byHop := topRate (Nat.land hops (ratesUpTo max_))
  let limited := decide (byHop < min max_ 2)
  let lim := bestBy (fun k => 2 * (k % 128) + k / 128) (up.filter (fun k => !bitAt (lookupD k 7 p.hopMask) (byHop + 1)))
  let d := (d.setPort n { p with upAtEnd := up }).set (NLS_LINK_STATUS.RATE_SHORT n) (flag (decide (planned ≠ 3) && decide (r < planned)))
  let d := match limited, lim with
    | true, some k => ((d.set (NLS_RATE_INFO.LIMIT_VALID n) 1).set (NLS_RATE_INFO.LIMIT_POS n) (k % 128)).set (NLS_RATE_INFO.LIMIT_CH n) (k / 128)
    | _, _ => d.set (NLS_RATE_INFO.LIMIT_VALID n) 0
  if r = 0 then d.segmentReady n 0 else d.orderRate n r
/-- Discovery ends when every planned hop is UP on both channels, the tail hop included in a closed line (R66 step 2). -/
def Dev.discoveryFull (d : Dev) (n : Nat) : Bool :=
  let p := d.port n
  let need := d.plannedNodes n + (if d.plannedClosed n then 1 else 0)
  (List.range need).all (fun h => lookupD (hopKey 0 h) 0 p.hopState == hsUP && lookupD (hopKey 1 h) 0 p.hopState == hsUP)
/-- Whether a segment's bring-up goes on: in Configure and Service only (R66, R71). -/
def Dev.bringsUp (d : Dev) (n : Nat) : Bool := decide (n < 8) && (d.mode == 4 || d.mode == 11)
/-- What a hop that reached UP does to bring-up: discovery may be full, or every hop of an order may be UP again (R66). -/
def Dev.bringUpStep (n : Nat) (d : Dev) : Dev :=
  let p := d.port n
  if !d.bringsUp n then d
  else if p.phase = 1 && d.discoveryFull n then d.endDiscovery n
  else if p.phase = 2 && p.upAtEnd.all (fun k => lookupD k 0 p.hopState == hsUP) then d.segmentReady n p.target
  else d

/-- A hop at position `h` reached UP at rate `r` (R78). -/
def Dev.hopUp (n c h r : Nat) (d : Dev) : Dev :=
  let p := d.port n
  let d := (d.setPort n { p with hopState := putKey (hopKey c h) hsUP p.hopState }).showHops n
  (d.post (portSource n) 0x0103 (leBytes 1 h ++ leBytes 1 c ++ leBytes 1 r)).bringUpStep n
/-- The own hop end enters DOWN; `retry` starts the 10 ms wait (R63). -/
def Dev.linkDown (n c : Nat) (retry barred : Bool) (d : Dev) : Dev :=
  (d.mapCh n c (fun x => { x with attempts := 0, exchanges := 0, sum := 0, waiting := retry, barred := x.barred || barred })).set
    (linkFld n c) hsDOWN
/-- A change of the own hop's delay in the hop table or tail delay (R72, R73, R78). -/
def Dev.setHopDelay (n c h v : Nat) (d : Dev) : Dev :=
  if d.plannedClosed n && h = d.plannedNodes n && n < 8 then d.wr (if c = 0 then NLS_TAILDLY_A n else NLS_TAILDLY_B n) v
  else if h < 64 then d.wr (if c = 0 then NLS_HOP_W0 n h else NLS_HOP_W1 n h) v else d
/-- STALE flag of a hop; class 2 is stale while any hop is, and the line time's path shows it too (R74, R146, R227). -/
def Dev.setHopStale (n c h : Nat) (v : Bool) (d : Dev) : Dev :=
  let d := d.when (decide (h < 64)) (Dev.set (if c = 0 then NLS_HOP_W3.STALE_A n h else NLS_HOP_W3.STALE_B n h) (flag v))
  let any := (List.range 10).any (fun m => (List.range 64).any (fun k => d.on (NLS_HOP_W3.STALE_A m k) || d.on (NLS_HOP_W3.STALE_B m k)))
  d.showTimePath.staleClass 2 any
/-- A delay measured at bring-up or in Service is the hop's calibration record (R74, R226): class 2, index (segment << 8) + position, delays of
A and B as its values (DESIGN CHOICE: the manual states no values of class 2). -/
def Dev.recordHop (n c h v : Nat) (d : Dev) : Dev :=
  let p := d.port n
  let d := d.setPort n { p with calRec := putKey (hopKey c h) v p.calRec, calSince := p.calSince.filter (fun x => x.1 != hopKey c h) }
  let t := (d.port n).calRec
  let r := d.calBytes 2 (256 * portByte n + h) (leBytes 4 (lookupD (hopKey 0 h) 0 t) ++ leBytes 4 (lookupD (hopKey 1 h) 0 t))
  r.2.keepCal r.1
/-- Mean hop delay over `k` exchanges from the sum of (t4 - t1) - turnaround (R72), unsigned 16.16, saturating at 0xFFFF_FFFF. The manual states no
value for a mean below 0 (DESIGN CHOICE: 0). -/
def hopDelay (sum : Int) (k : Nat) : Nat :=
  let v := roundHalfAway sum (2 * k)
  if v < 0 then 0 else min v.toNat (2 ^ 32 - 1)
/-- The own hop end reaches UP (R63, R64, R70, R72). The upstream end stores the delay it measured; the other end reports. -/
def Dev.enterUp (n c : Nat) (stale : Bool) (d : Dev) : Dev :=
  let x := (d.port n).ch c
  let h := d.ownHop n
  let p := d.port n
  let d := d.setPort n { p with hopMask := putKey (hopKey c h) x.mask p.hopMask }
  let d := if d.upstream n then
      let delay := hopDelay x.sum x.exchanges
      ((d.setHopDelay n c h delay).recordHop n c h delay).setHopStale n c h stale
    else d.setHopStale n c h stale
  let run := d.get (NLS_LINK_STATUS.RATE n)
  let tr := topRate (Nat.land x.mask (ratesUpTo (d.get (NLS_LINK_CTRL.RATE_MAX n))))
  if 8 ≤ n && d.upstream n && x.rate = 0 && x.ordered.isNone && tr ≠ 0 then (d.sendControl n c 0x02 16 (leBytes 1 tr)).retrain n c tr
  else if n < 8 && d.sync && d.upstream n && x.rate = 0 && run ≠ 3 && run ≠ 0 then
    if bitAt x.mask run then (d.sendControl n c 0x02 16 (leBytes 1 run)).retrain n c run
    else (d.linkDown n c false true).negFail n c
  else
    let d := (d.mapCh n c (fun y => { y with ordered := none })).set (linkFld n c) hsUP
    let d := d.when (decide (8 ≤ n)) (Dev.set (NLS_LINK_STATUS.RATE n) x.rate)
    (d.sendReport n c hsUP).hopUp n c h x.rate

/-- CHANNEL_ENABLE (R63): DISABLED to DOWN with idle blocks at 1.25 Gbit/s. -/
def Dev.channelEnable (n c : Nat) (d : Dev) : Dev :=
  let d := d.set (if c = 0 then NLS_LINK_CTRL.EN_A n else NLS_LINK_CTRL.EN_B n) 1
  if d.link n c = hsDISABLED then (d.mapCh n c (fun _ => LinkCh.reset)).set (linkFld n c) hsDOWN else d
/-- CHANNEL_DISABLE (R63): any state to DISABLED, electrical idle; a hop that leaves UP is a drop (R78). -/
def Dev.channelDisable (n c : Nat) (d : Dev) : Dev :=
  let was := d.link n c == hsUP
  let d := d.set (if c = 0 then NLS_LINK_CTRL.EN_A n else NLS_LINK_CTRL.EN_B n) 0
  let d := d.when was (Dev.hopDown n c (d.ownHop n) hsDISABLED)
  (d.mapCh n c (fun _ => LinkCh.reset)).set (linkFld n c) hsDISABLED
/-- Step 1 of R66 for a port: both channels enabled, discovery running. -/
def Dev.startBringUp (n : Nat) (d : Dev) : Dev :=
  let d := (d.channelEnable n 0).channelEnable n 1
  let d := d.forN 2 (fun c d => d.mapCh n c (fun x => { x with barred := false, waiting := false }))
  ((d.setPort n { d.port n with phase := 1, upAtEnd := [] }).set (NLS_LINK_STATUS.BRINGUP_DONE n) 0).bringUpStep n
/-- Whether the configuration enables a segment (R66): the working generation has a block of it. -/
def Dev.segmentPlanned (d : Dev) (n : Nat) : Bool := decide (n < 8) && (d.planBlock n).isSome
/-- Segments that are not up are brought up when Configure or Service is entered from mode `old`, or a package arrives (R66): a head end runs the
sequence, a tail end enables its channels (R69). A bring-up that runs goes on. -/
def Dev.bringUpAll (old : Nat) (d : Dev) : Dev :=
  if d.mode ≠ 4 && d.mode ≠ 11 then d else
    (List.range 8).foldl (fun d n =>
      if !d.segmentPlanned n || d.on (NLS_LINK_STATUS.BRINGUP_DONE n) || ((d.port n).phase ≠ 0 && (old = 4 || old = 11)) then d
      else if d.sys.pairEnd then d.startBringUp n
      else (d.channelEnable n 0).channelEnable n 1) d
/-- PLANNED_RATE follows the working generation (R66, R67, R78); 0b11 where none plans the segment. -/
def Dev.showPlanned (d : Dev) : Dev := d.forN 10 (fun n d => d.set (NLS_RATE_INFO.PLANNED_RATE n) (((d.planBlock n).map (·.rate)).getD 3))
/-- RENEGOTIATE (R71): acts in Configure and Service only. -/
def Dev.renegotiate (n : Nat) (d : Dev) : Dev := if d.mode = 4 || d.mode = 11 then d.startBringUp n else d
/-- SIGNAL_DETECTED (R63). -/
def Dev.signalDetected (n c : Nat) (d : Dev) : Dev :=
  let x := (d.port n).ch c
  if d.link n c = hsDOWN && !x.barred && !x.waiting then d.set (linkFld n c) hsDETECT else d
/-- BLOCK_LOCK_GAINED (R59, R63): NEGOTIATE, the first capability is sent. -/
def Dev.lockGained (n c : Nat) (d : Dev) : Dev :=
  if d.link n c = hsDETECT then
    ((d.mapCh n c (fun x => { x with attempts := 1 })).set (linkFld n c) hsNEGOTIATE).sendControl n c 0x01 0
      (leBytes 1 0 ++ leBytes 1 0xFF)
  else d
/-- BLOCK_LOCK_LOST (R63): UP to DOWN, the drop is counted. -/
def Dev.lockLost (n c : Nat) (d : Dev) : Dev :=
  if d.link n c = hsUP then
    let d := (d.hopDown n c (d.ownHop n) hsDOWN).sendReport n c hsDOWN
    (d.linkDown n c false false).mapCh n c (fun x => { x with rate := 0 })
  else d
/-- DETECT_TIMEOUT (R63). -/
def Dev.detectTimeout (n c : Nat) (d : Dev) : Dev := if d.link n c = hsDETECT then d.linkDown n c true false else d
/-- CAPABILITY (R61, R63): compatible means major 2, minor at least 1 and a common rate. -/
def Dev.capability (n c : Nat) (m : List Byte) (d : Dev) : Dev :=
  if !controlOk m then d.crcErr n c
  else if d.link n c ≠ hsNEGOTIATE || fieldAt m 0 1 ≠ 0x01 then d
  else
    let mask := Nat.land (fieldAt m 4 1) (d.portMask n)
    let d := d.mapCh n c (fun x => { x with partnerMajor := fieldAt m 2 1, partnerMask := fieldAt m 4 1, partnerPos := fieldAt m 9 1 })
    if fieldAt m 2 1 ≠ 2 || fieldAt m 3 1 < 1 || mask = 0 then (d.linkDown n c false true).negFail n c
    else
      let d := (d.mapCh n c (fun x => { x with mask := mask })).sendControl n c 0x01 1 (leBytes 1 0 ++ leBytes 1 0xFF)
      let h := d.ownHop n
      let d := if h < 64 then
          let d := if c = 0 then d.set (NLS_HOP_W3.MASK_A n h) mask else d.set (NLS_HOP_W3.MASK_B n h) mask
          if d.sys.pairEnd || 8 ≤ n then
            ((d.set (NLS_HOP_W3.CLASS n h) (fieldAt m 8 1)).set (NLS_HOP_W3.PROFILE_MAJOR n h) (fieldAt m 2 1)).set
              (NLS_HOP_W3.PROFILE_MINOR n h) (fieldAt m 3 1)
          else d
        else d
      if fieldAt m 1 1 % 2 = 1 then
        let d := (d.mapCh n c (fun x => { x with exchanges := 0, sum := 0 })).set (linkFld n c) hsMEASURE
        d.when (d.upstream n) (Dev.sendControl n c 0x03 0 (leBytes 2 0))
      else d
/-- NEGOTIATE_TIMEOUT (R63): the third attempt ends in DOWN. -/
def Dev.negotiateTimeout (n c : Nat) (d : Dev) : Dev :=
  if d.link n c ≠ hsNEGOTIATE then d
  else if ((d.port n).ch c).attempts < 3 then d.mapCh n c (fun x => { x with attempts := x.attempts + 1 })
  else (d.linkDown n c true false).negFail n c
/-- DELAY_REQUEST (R61, R63, R72): answered with the echoed sequence number and the turnaround, 32.16. A downstream end in MEASURE counts the
exchanges it answers and is UP with the 256th. -/
def Dev.delayRequest (n c : Nat) (m : List Byte) (turn : Nat) (d : Dev) : Dev :=
  if !controlOk m then d.crcErr n c
  else if fieldAt m 0 1 ≠ 0x03 || (d.link n c ≠ hsMEASURE && d.link n c ≠ hsUP) then d
  else
    let d := d.sendControl n c 0x04 0 (leBytes 2 (fieldAt m 8 2) ++ leBytes 6 turn)
    if d.link n c ≠ hsMEASURE || d.upstream n then d
    else
      let d := d.mapCh n c (fun x => { x with exchanges := x.exchanges + 1 })
      if 256 ≤ ((d.port n).ch c).exchanges then d.enterUp n c false else d
/-- DELAY_RESPONSE (R72): `rtt` is t4 - t1 in 2^-16 ns. In MEASURE the 256th exchange stores the delay and enters UP. -/
def Dev.delayResponse (n c : Nat) (m : List Byte) (rtt : Nat) (d : Dev) : Dev :=
  if !controlOk m then d.crcErr n c
  else if fieldAt m 0 1 ≠ 0x04 || d.link n c ≠ hsMEASURE || !d.upstream n then d
  else
    let d := d.mapCh n c (fun x => { x with exchanges := x.exchanges + 1, sum := x.sum + ((rtt : Int) - fieldAt m 10 6) })
    let k := ((d.port n).ch c).exchanges
    if 256 ≤ k then d.enterUp n c false else d.sendControl n c 0x03 0 (leBytes 2 k)
/-- MEASURE_TIMEOUT (R63). -/
def Dev.measureTimeout (n c : Nat) (d : Dev) : Dev :=
  if d.link n c ≠ hsMEASURE then d
  else if 16 ≤ ((d.port n).ch c).exchanges then d.enterUp n c true else d.linkDown n c true false
/-- RATE_ORDER (R62, R63): received by the controller, the last port of its direction. -/
def Dev.rateOrder (n c : Nat) (m : List Byte) (d : Dev) : Dev :=
  if !controlOk m then d.crcErr n c
  else
    let st := d.link n c
    if fieldAt m 0 1 ≠ 0x02 || st < hsDETECT || hsUP < st then d
    else
      d.retrain n c (min 2 (fieldAt m 8 1))
/-- RETRAIN_EXPIRY (R63): the transmitter switches to the ordered rate. -/
def Dev.retrainExpiry (n c : Nat) (d : Dev) : Dev :=
  if d.link n c = hsRETRAIN then (d.linkDown n c false false).mapCh n c (fun x => { x with rate := x.ordered.getD 0 }) else d
/-- LINK_RETRY_EXPIRY (R63). -/
def Dev.linkRetry (n c : Nat) (d : Dev) : Dev := d.mapCh n c (fun x => { x with waiting := false })
/-- RATE_FALLBACK_EXPIRY (R64). -/
def Dev.rateFallback (n c : Nat) (d : Dev) : Dev :=
  let st := d.link n c
  if ((d.port n).ch c).ordered.isSome && st ≠ hsUP && st ≠ hsDISABLED then
    (d.linkDown n c false false).mapCh n c (fun x => { x with rate := 0, ordered := none })
  else d
/-- HOP_REPORT (R61, R66, R68, R69, R73): `other` is the position the node counts on the other channel when its two counts differ. A far end's
report (role 4) tells the mask of its own hop. CLASS, PROFILE_MINOR and PROFILE_MAJOR of a node are taken from capabilities, and this controller
receives only its own hop's: reports carry a version but no class, and the manual does not say what the fields of nodes past the first hold
(DESIGN CHOICE: they keep 0). -/
def Dev.hopReport (n c : Nat) (m : List Byte) (other : Option Nat) (d : Dev) : Dev :=
  if !controlOk m then d.crcErr n c
  else if fieldAt m 0 1 ≠ 0x05 || 8 ≤ n then d
  else
    let raw := fieldAt m 8 1
    let fromTail := bitAt (fieldAt m 1 1) 3
    let pos := if fromTail then d.plannedNodes n - 1 - raw else raw
    let d := match other with
      | some o =>
        let was := d.on (NLS_LINK_STATUS.CROSS_WIRED n)
        let a := if c = 0 then pos else o
        let b := if c = 0 then o else pos
        (d.set (NLS_LINK_STATUS.CROSS_WIRED n) 1).when (!was && n < 8) (Dev.post (portSource n) 0x0105 (leBytes 1 a ++ leBytes 1 b))
      | none => d
    let pos := match other with | some o => if c = 0 then pos else o | none => pos
    if fieldAt m 5 1 = 4 then
      let d := d.setPort n { d.port n with hopMask := putKey (hopKey c raw) (fieldAt m 9 1) (d.port n).hopMask }
      (if raw < 64 then d.set (if c = 0 then NLS_HOP_W3.MASK_A n raw else NLS_HOP_W3.MASK_B n raw) (fieldAt m 9 1) else d).showHops n
    else if 64 ≤ pos then d else
      let d := if c = 0 then d.set (NLS_HOP_W3.MASK_A n pos) (fieldAt m 9 1) else d.set (NLS_HOP_W3.MASK_B n pos) (fieldAt m 9 1)
      let d := ((d.set (NLS_HOP_W2.FWD_DOWN n pos) (fieldAt m 12 2)).set (NLS_HOP_W2.FWD_UP n pos) (fieldAt m 14 2)).set
        (NLS_POS_W2.PRESENT n pos) 1
      let p := d.port n
      let down := pos + 1
      let d := d.setPort n { p with hopMask := putKey (hopKey c down) (fieldAt m 10 1) (putKey (hopKey c pos) (fieldAt m 9 1) p.hopMask) }
      let d := if down < 64 then
          (if c = 0 then d.set (NLS_HOP_W3.MASK_A n down) (fieldAt m 10 1) else d.set (NLS_HOP_W3.MASK_B n down) (fieldAt m 10 1)) else d
      let st := fieldAt m 11 1 % 8
      let old := lookupD (hopKey c down) 0 (d.port n).hopState
      if st = hsUP && old ≠ hsUP then
        d.hopUp n c down (if (d.port n).phase = 2 then (d.port n).target else ((d.port n).ch c).rate)
      else if st ≠ hsUP && old = hsUP then d.hopDown n c down st
      else ((d.setPort n { d.port n with hopState := putKey (hopKey c down) st (d.port n).hopState }).showHops n).bringUpStep n
/-- DISCOVERY_TIMEOUT (R66). -/
def Dev.discoveryTimeout (n : Nat) (d : Dev) : Dev := if d.bringsUp n && (d.port n).phase == 1 then d.endDiscovery n else d
/-- RATE_ORDER_TIMEOUT (R66 step 4): the next lower rate is ordered; at 1.25 Gbit/s the hops that are UP stay in use. The next lower rate is the
next lower of the three rates of R58, whether or not the common mask holds it: the manual does not say (DESIGN CHOICE). -/
def Dev.rateOrderTimeout (n : Nat) (d : Dev) : Dev :=
  let p := d.port n
  if !d.bringsUp n || p.phase ≠ 2 then d
  else if p.target = 0 then d.segmentReady n 0
  else
    let late := bestBy (fun k => 2 * (k % 128) + k / 128) (p.upAtEnd.filter (fun k => lookupD k 0 p.hopState != hsUP))
    let planned := d.get (NLS_RATE_INFO.PLANNED_RATE n)
    let d := match late with
      | some k => ((d.set (NLS_RATE_INFO.LIMIT_VALID n) 1).set (NLS_RATE_INFO.LIMIT_POS n) (k % 128)).set (NLS_RATE_INFO.LIMIT_CH n) (k / 128)
      | none => d
    (d.set (NLS_LINK_STATUS.RATE_SHORT n) (flag (decide (planned ≠ 3) && decide (p.target - 1 < planned)))).orderRate n (p.target - 1)
/-- TAIL_WAIT_EXPIRY (R69): a tail end runs R66 for the hops it reaches. -/
def Dev.tailWait (n : Nat) (d : Dev) : Dev :=
  if d.sys.pairEnd || 8 ≤ n || (d.link n 0 ≠ hsUP && d.link n 1 ≠ hsUP) || (d.mode ≠ 4 && d.mode ≠ 11) then d
  else (d.setPort n { d.port n with tailRun := true }).startBringUp n
/-- Time left of the present open window; 0 outside it (R76, R91). -/
def Dev.openLeft (d : Dev) (n : Nat) : Nat :=
  match d.cyc.active.bind (fun g => g.blocks.find? (fun b => b.port == portByte n)) with
  | some b =>
    let lo := d.cyc.ref + quanta b.openWin
    let hi := d.cyc.ref + quanta b.down
    if d.cyc.running && lo ≤ d.now && d.now < hi then hi - d.now else 0
  | none => 0
/-- A hop delay remeasured while line time is carried (R74): in the table at once; STALE is set 2 ns off the record and clears once the delay has
stayed within 0.25 ns for 10 s and the record is retaken. -/
def Dev.remeasure (n c h v : Nat) (d : Dev) : Dev :=
  let d := d.setPort n { d.port n with parts := (List.range 64).filter (fun p => d.on (NLS_POS_W2.PRESENT n p)) }
  let p := d.port n
  let k := hopKey c h
  let d := d.setHopDelay n c h v
  let diff := ((v : Int) - lookupD k v p.calRec).natAbs
  let stale := h < 64 && d.on (if c = 0 then NLS_HOP_W3.STALE_A n h else NLS_HOP_W3.STALE_B n h)
  if !stale && diff ≤ 131072 then d
  else
    let from_ := fun (v0 : Nat) (t0 : LTime) => d.setPort n { p with calSince := putKey k (v0, t0) p.calSince }
    match p.calSince.find? (fun x => x.1 == k) with
    | some (_, v0, t0) =>
      if 16384 < ((v : Int) - v0).natAbs then (from_ v d.now).setHopStale n c h true
      else if t0 + ns 10000000000 ≤ d.now then (d.recordHop n c h v).setHopStale n c h false
      else d.setHopStale n c h true
    | none => (from_ v d.now).setHopStale n c h true
/-- HOP_REMEASURE (R73, R74): a delay of hop `h`, unsigned 16.16. At bring-up and in Service it is stored with its record and is fresh; in the
synchronised modes the exchanges go in open windows only (R83). -/
def Dev.hopRemeasure (n c h v : Nat) (d : Dev) : Dev :=
  if d.mode < 4 then d
  else if !d.sync then ((d.setHopDelay n c h v).recordHop n c h v).setHopStale n c h false
  else if d.cyc.running && d.openLeft n = 0 then d
  else d.remeasure n c h v
/-- Recalibration time of a lane at its rate, ns (R76). -/
def recalNs (r : Nat) : Nat := match r with | 2 => 1600 | 1 => 2400 | _ => 4000
/-- Degrees that a TEMP field of NLS_RECAL holds, and those of the die now. -/
def Dev.recalDrift (d : Dev) (n c : Nat) : Nat :=
  (signedOf 8 (d.get (if c = 0 then NLS_RECAL.TEMP_A n else NLS_RECAL.TEMP_B n)) - d.sys.temp / 16).natAbs
/-- LANE_RECAL_DUE (R76): due 15 °C from the lane's last calibration, or when its eye margin has fallen below EYE_MIN; the margin that made it fall
due is a measured value, free below EYE_MIN. Started in Service, or in an open window with room; never both channels of a port in one cycle. -/
def Dev.recalDue (n c : Nat) (d : Dev) : Dev :=
  let other := d.on (if c = 0 then NLS_RECAL.BUSY_B n else NLS_RECAL.BUSY_A n) ||
    (d.cyc.running && ((d.port n).ch (1 - c)).recal == some d.cyc.count)
  let room := ns (recalNs (((d.port n).ch c).rate) + 200) ≤ d.openLeft n
  let eye := if c = 0 then NLS_EYE.EYE_A n else NLS_EYE.EYE_B n
  let x := d.draw
  let d := if 15 ≤ d.recalDrift n c || d.get (NLS_EYE.EYE_MIN n) = 0 then d else x.2.set eye (x.1 % d.get (NLS_EYE.EYE_MIN n))
  if !other && (d.mode = 11 || room) then
    (d.set (if c = 0 then NLS_RECAL.BUSY_A n else NLS_RECAL.BUSY_B n) 1).mapCh n c (fun x => { x with recal := some d.cyc.count })
  else d
/-- LANE_RECAL_DONE (R76, R78): the eye margin is measured anew, a free value. -/
def Dev.recalDone (n c : Nat) (d : Dev) : Dev :=
  if d.on (if c = 0 then NLS_RECAL.BUSY_A n else NLS_RECAL.BUSY_B n) then
    let x := d.draw
    let d := x.2.set (if c = 0 then NLS_EYE.EYE_A n else NLS_EYE.EYE_B n) (x.1 % 256)
    let d := d.set (if c = 0 then NLS_RECAL.BUSY_A n else NLS_RECAL.BUSY_B n) 0
    let d := d.set (if c = 0 then NLS_RECAL.TEMP_A n else NLS_RECAL.TEMP_B n) (codeOf 8 (d.sys.temp / 16))
    d.count (if c = 0 then NLS_RECAL_CNT.COUNT_A n else NLS_RECAL_CNT.COUNT_B n) 1
  else d
/-- Whether a lane can send (R75): it does not calibrate, PLL_SDS is locked (R491, index 6), and no change of rate is under way on its hop. -/
def Dev.laneReady (d : Dev) (n c : Nat) : Bool :=
  !d.on (if c = 0 then NLS_RECAL.BUSY_A n else NLS_RECAL.BUSY_B n) && bitAt (d.get CLK_PLL.LOCKED) 6 &&
    !(((d.port n).ch c).ordered.isSome && d.link n c != hsUP)
/-- ASYNC_FRAME_TIMEOUT (R75): the oldest waiting frame completes with BUSY and is counted. -/
def Dev.asyncTimeout (n : Nat) (d : Dev) : Dev :=
  match (d.port n).queue with
  | [] => d
  | f :: fs => ((d.setPort n { d.port n with queue := fs }).count32 (NLS_ASYNC_BUSY_CNT n) 1).completeOpt f.ref stBUSY d.now []

/-- CHANNEL_ENABLE (R63). -/
def execChannelEnable (n : Fin 10) (c : Fin 2) (s : State) : Answer := .next (s.onDev (Dev.channelEnable n.val c.val))
/-- CHANNEL_DISABLE (R63). -/
def execChannelDisable (n : Fin 10) (c : Fin 2) (s : State) : Answer := .next (s.onDev (Dev.channelDisable n.val c.val))
/-- RENEGOTIATE (R71). -/
def execRenegotiate (n : Fin 10) (s : State) : Answer := .next (s.onDev (Dev.renegotiate n.val))
/-- SIGNAL_DETECTED (R63). -/
def execSignalDetected (n : Fin 10) (c : Fin 2) (s : State) : Answer := .next (s.onDev (Dev.signalDetected n.val c.val))
/-- BLOCK_LOCK_GAINED (R63). -/
def execBlockLockGained (n : Fin 10) (c : Fin 2) (s : State) : Answer := .next (s.onDev (Dev.lockGained n.val c.val))
/-- BLOCK_LOCK_LOST (R63). -/
def execBlockLockLost (n : Fin 10) (c : Fin 2) (s : State) : Answer := .next (s.onDev (Dev.lockLost n.val c.val))
/-- DETECT_TIMEOUT (R63). -/
def execDetectTimeout (n : Fin 10) (c : Fin 2) (s : State) : Answer := .next (s.onDev (Dev.detectTimeout n.val c.val))
/-- CAPABILITY (R63): `m` is the 24-byte message. -/
def execCapability (n : Fin 10) (c : Fin 2) (m : List Byte) (s : State) : Answer := .next (s.onDev (Dev.capability n.val c.val m))
/-- NEGOTIATE_TIMEOUT (R63). -/
def execNegotiateTimeout (n : Fin 10) (c : Fin 2) (s : State) : Answer := .next (s.onDev (Dev.negotiateTimeout n.val c.val))
/-- DELAY_REQUEST (R72): message and own turnaround, 32.16 ns. -/
def execDelayRequest (n : Fin 10) (c : Fin 2) (m : List Byte) (turn : BitVec 48) (s : State) : Answer :=
  .next (s.onDev (Dev.delayRequest n.val c.val m turn.toNat))
/-- DELAY_RESPONSE (R72): message and t4 - t1 in 2^-16 ns. -/
def execDelayResponse (n : Fin 10) (c : Fin 2) (m : List Byte) (rtt : BitVec 80) (s : State) : Answer :=
  .next (s.onDev (Dev.delayResponse n.val c.val m rtt.toNat))
/-- MEASURE_TIMEOUT (R63). -/
def execMeasureTimeout (n : Fin 10) (c : Fin 2) (s : State) : Answer := .next (s.onDev (Dev.measureTimeout n.val c.val))
/-- RATE_ORDER (R63): the message. -/
def execRateOrder (n : Fin 10) (c : Fin 2) (m : List Byte) (s : State) : Answer := .next (s.onDev (Dev.rateOrder n.val c.val m))
/-- RETRAIN_EXPIRY (R63). -/
def execRetrainExpiry (n : Fin 10) (c : Fin 2) (s : State) : Answer := .next (s.onDev (Dev.retrainExpiry n.val c.val))
/-- LINK_RETRY_EXPIRY (R63). -/
def execLinkRetryExpiry (n : Fin 10) (c : Fin 2) (s : State) : Answer := .next (s.onDev (Dev.linkRetry n.val c.val))
/-- RATE_FALLBACK_EXPIRY (R64). -/
def execRateFallbackExpiry (n : Fin 10) (c : Fin 2) (s : State) : Answer := .next (s.onDev (Dev.rateFallback n.val c.val))
/-- HOP_REPORT (R66, R68): the message, and the position counted on the other channel when the two differ. -/
def execHopReport (n : Fin 10) (c : Fin 2) (m : List Byte) (other : Option (Fin 64)) (s : State) : Answer :=
  .next (s.onDev (Dev.hopReport n.val c.val m (other.map (·.val))))
/-- DISCOVERY_TIMEOUT (R66). -/
def execDiscoveryTimeout (n : Fin 10) (s : State) : Answer := .next (s.onDev (Dev.discoveryTimeout n.val))
/-- RATE_ORDER_TIMEOUT (R66). -/
def execRateOrderTimeout (n : Fin 10) (s : State) : Answer := .next (s.onDev (Dev.rateOrderTimeout n.val))
/-- TAIL_WAIT_EXPIRY (R69). -/
def execTailWaitExpiry (n : Fin 10) (s : State) : Answer := .next (s.onDev (Dev.tailWait n.val))
/-- HOP_REMEASURE (R74): hop and measured delay, 16.16 ns. -/
def execHopRemeasure (n : Fin 10) (c : Fin 2) (h : Fin 65) (v : Word) (s : State) : Answer :=
  .next (s.onDev (Dev.hopRemeasure n.val c.val h.val v.toNat))
/-- LANE_RECAL_DUE (R76). -/
def execLaneRecalDue (n : Fin 10) (c : Fin 2) (s : State) : Answer := .next (s.onDev (Dev.recalDue n.val c.val))
/-- LANE_RECAL_DONE (R76). -/
def execLaneRecalDone (n : Fin 10) (c : Fin 2) (s : State) : Answer := .next (s.onDev (Dev.recalDone n.val c.val))
/-- ASYNC_FRAME_TIMEOUT (R75). -/
def execAsyncFrameTimeout (n : Fin 10) (s : State) : Answer := .next (s.onDev (Dev.asyncTimeout n.val))

end Sys2Proof.Machine
end

