-- ==== Sys2Proof/Machine/Schedule.lean ====
section
/-! DEFINITION. Sys2Proof/Machine/Schedule.lean: generations and their images (R79 to R96, R410), frames and their checks (R84 to R86, R104 to
R109), pitches (R110 to R113), storm folding (R115, R116) and the network opcodes of R409 but ACTIVATE_GENERATION. -/
namespace Sys2Proof.Machine

/-- A time of 0xFFFF_FFFF is not used (R92). -/
def unusedTime : Nat := 0xFFFFFFFF
/-- A slot entry from its 16 bytes (R92). -/
def parseSlot (b : List Byte) : SlotEntry :=
  ⟨fieldAt b 0 4, fieldAt b 4 4, fieldAt b 8 2, fieldAt b 10 1, fieldAt b 11 1, fieldAt b 12 2, fieldAt b 14 1, fieldAt b 15 1⟩
/-- The 16 bytes of a slot entry (R92). -/
def slotBytes (e : SlotEntry) : List Byte :=
  leBytes 4 e.head ++ leBytes 4 e.tail ++ leBytes 2 e.len ++ leBytes 1 e.kind ++ leBytes 1 e.owner ++ leBytes 2 e.maxPay ++
    leBytes 1 e.pitch ++ leBytes 1 e.group
/-- A pitch entry from its 8 bytes (R93). -/
def parsePitch (b : List Byte) : PitchEntry := ⟨fieldAt b 0 2, fieldAt b 2 2, fieldAt b 4 1, fieldAt b 5 1, fieldAt b 6 1⟩
/-- Length of the schedule block that starts the bytes (R91). -/
def blockLen (b : List Byte) : Nat := 64 + 16 * fieldAt b 36 2 + 8 * fieldAt b 38 1
/-- A schedule block (R91). A rotation span of 0 acts as 64. -/
def parseBlock (b : List Byte) : SchedBlock :=
  let ns := fieldAt b 36 2
  { gen := fieldAt b 0 2, port := fieldAt b 2 1, rate := fieldAt b 3 1 % 4, pipelined := bitAt (fieldAt b 3 1) 4,
    closed := bitAt (fieldAt b 3 1) 5, period := fieldAt b 4 4, uplink := fieldAt b 8 4, openWin := fieldAt b 12 4,
    down := fieldAt b 16 4, guard := fieldAt b 20 4, w1 := fieldAt b 24 4, w2 := fieldAt b 28 4, w3 := fieldAt b 32 4,
    planNodes := fieldAt b 39 1, claim := fieldAt b 40 2, span := if fieldAt b 42 1 = 0 then 64 else fieldAt b 42 1,
    slots := (List.range ns).map (fun i => parseSlot ((b.drop (64 + 16 * i)).take 16)),
    pitches := (List.range (fieldAt b 38 1)).map (fun i => parsePitch ((b.drop (64 + 16 * ns + 8 * i)).take 8)) }
/-- The blocks of an image as byte strings, and what follows them (R410). -/
def cutBlocks : Nat → List Byte → List (List Byte) × List Byte
  | 0, b => ([], b)
  | n + 1, b => let r := cutBlocks n (b.drop (blockLen b)); (b.take (blockLen b) :: r.1, r.2)
/-- The blocks and the plan of an image (R410). -/
def imageParts (b : List Byte) : List (List Byte) × List Byte := cutBlocks (fieldAt b 2 1) (b.drop 16)
/-- A generation from its image (R410, R152). -/
def parseImage (b : List Byte) : Generation :=
  let ps := imageParts b
  { num := fieldAt b 0 2, dormant := bitAt (fieldAt b 3 1) 0, blocks := ps.1.map parseBlock, planHead := ps.2.take 16,
    plan := (List.range (fieldAt ps.2 2 2)).map (fun i => ⟨fieldAt ps.2 (16 + 4 * i) 2, fieldAt ps.2 (18 + 4 * i) 1, fieldAt ps.2 (19 + 4 * i) 1⟩), formed := none }
/-- Whether no value occurs twice. -/
def noRepeat : List Nat → Bool
  | [] => true
  | x :: xs => !xs.contains x && noRepeat xs
/-- The checks of R410 on an image of stated length `n` against the listed digests: 0, or the status of the first failure. -/
def imageStatus (digests : List (List Byte)) (n : Nat) (b : List Byte) : Nat :=
  let ps := imageParts b
  let plan := ps.2
  let total := 16 + (ps.1.map blockLen).sum + 16 + 4 * fieldAt plan 2 2
  if n < 32 || fieldAt b 4 4 ≠ n || total ≠ n then stBAD_LENGTH
  else if !digests.contains (Config.sha384 b) then stBAD_SIGNATURE
  else
    let g := parseImage b
    let ports := g.blocks.map (·.port)
    let blockOk := fun (x : List Byte) => fieldAt x 0 2 == g.num && (fieldAt x 2 1 < 8 || fieldAt x 2 1 == 0x10 || fieldAt x 2 1 == 0x11) &&
      fieldAt x 3 1 % 4 < 3 && Nat.land (fieldAt x 3 1) 0b11001100 == 0 && 1 ≤ fieldAt x 36 2 && fieldAt x 36 2 ≤ 768 && fieldAt x 38 1 ≤ 32 &&
      fieldAt x 42 1 ≤ 64 && leNat ((x.drop 43).take 21) == 0
    let ok := g.num ≤ 0xFFFE && fieldAt plan 0 2 == g.num && 1 ≤ fieldAt b 2 1 && fieldAt b 2 1 ≤ 10 && noRepeat ports && ps.1.all blockOk &&
      fieldAt b 3 1 < 2 && fieldAt b 8 8 == 0 && leNat ((plan.drop 4).take 12) == 0 && fieldAt plan 2 2 ≤ 512 &&
      g.plan.all (fun e => e.axis < 512 && e.lane < 32 && e.level < 4)
    if ok then 0 else stBAD_PARAMETER

/-- Port index of a port byte (R409). -/
def portOf (b : Nat) : Option Nat := if b < 8 then some b else if b = 0x10 then some 8 else if b = 0x11 then some 9 else none
/-- Five times the block time at a rate, in line-time units: 12.8, 25.6 and 51.2 ns (R82). -/
def tb5 (rate : Nat) : Nat := 64 * 65536 * 2 ^ (2 - min rate 2)
/-- Blocks of a frame of payload length `p` (R82). -/
def frameBlocks (p : Nat) : Nat := ((if p = 0 then 18 else 22 + p) - 7) / 8 + 2
/-- Five times the duration of a frame (R82). -/
def dur5 (rate p : Nat) : Nat := frameBlocks p * tb5 rate
/-- Whether this controller takes the head role on a port (R80, R92). -/
def Dev.headEnd (d : Dev) (n : Nat) : Bool := if 8 ≤ n then n == 9 else d.sys.pairEnd
/-- Time of an entry at an end, in quanta. -/
def entryTime (head : Bool) (e : SlotEntry) : Nat := if head then e.head else e.tail
/-- Which end sends a controller-sent slot: some true = head end; none for node slots (R92). -/
def sentByHead (e : SlotEntry) : Option Bool :=
  match e.kind with
  | 0 | 3 => some true
  | 1 | 4 => some false
  | 6 | 9 => if e.owner = 0xFF then some true else if e.owner = 0xFB then some false else none
  | _ => none
/-- Node slots: uplink, safety uplink, node asynchronous and claim. -/
def nodeSlot (e : SlotEntry) : Bool := e.kind == 2 || e.kind == 5 || e.kind == 7 || e.kind == 8
/-- Position whose turn a rotating slot is: slot j of a group of g, cycle c (R92). -/
def turnOf (b : SchedBlock) (s c : Nat) : Option Nat :=
  match b.slots[s]? with
  | some e =>
    let g := max 1 e.group
    let j := ((b.slots.take s).filter (fun x => x.kind == e.kind && x.owner == 0xFC && x.group == e.group)).length % g
    let p := g * (c % ((b.span + g - 1) / g)) + j
    if p < b.span then some p else none
  | none => none
/-- The schedule block of a port in the active generation. -/
def Dev.activeBlock (d : Dev) (n : Nat) : Option SchedBlock :=
  match d.cyc.active with | some g => g.blocks.find? (fun b => b.port == portByte n) | none => none
/-- Owner of a node slot in this cycle: none for a claim slot, where any source passes; some none when nobody owns it (R92, R104). -/
def Dev.slotOwner (d : Dev) (n s : Nat) (b : SchedBlock) : Option (Option Nat) :=
  match b.slots[s]? with
  | none => some none
  | some e =>
    if e.kind = 8 then none
    else if e.owner < 64 then some (some e.owner)
    else if e.owner = 0xFC then some (turnOf b s d.cyc.count)
    else if e.owner = 0xFE && d.get (NLS_PITCH.STATE n e.pitch) = 3 then some (some (d.get (NLS_PITCH.HOLDER n e.pitch)))
    else some none

/-- An axis bound to a slot or pitch of a generation: axis, port, position or pitch, uplink slot, place in the slot, downlink record. -/
structure Bind where
  axis : Nat
  port : Nat
  pos : Nat
  pitch : Option Nat
  slot : Nat
  k : Nat
  record : Nat
  deriving DecidableEq, Repr
/-- The binding of a segment's axes (R88, R89, R93): a pitch's records stand at its offset; nodes take the remaining records in ascending
position. Axes are numbered on from `base` in record order (notes/assumptions/12.md). -/
def blockBinds (base : Nat) (b : SchedBlock) : List Bind :=
  let pitchRecs := (b.pitches.zipIdx.filter (fun p => p.1.axes ≠ 0)).flatMap (fun p => (List.range p.1.axes).map (fun k =>
    (p.1.offset / 16 + k, p.2, p.1.slot, k)))
  let nodes := (List.range 64).flatMap (fun pos => ((b.slots.zipIdx.filter (fun s => s.1.kind == 2 && s.1.owner == pos && s.1.maxPay % 24 == 0)).take 1).flatMap
    (fun s => (List.range (s.1.maxPay / 24)).map (fun k => (pos, s.2, k))))
  let free := (List.range (nodes.length + pitchRecs.length)).filter (fun r => !pitchRecs.any (fun q => q.1 == r))
  (nodes.zip free).map (fun p => ⟨base + p.2, b.port, p.1.1, none, p.1.2.1, p.1.2.2, p.2⟩) ++
    pitchRecs.map (fun q => ⟨base + q.1, b.port, 0, some q.2.1, q.2.2.1, q.2.2.2, q.1⟩)
/-- The axes of all segments of a generation, segments in ascending port order. -/
def bindFrom : Nat → List SchedBlock → List Bind
  | _, [] => []
  | base, b :: bs => let x := blockBinds base b; x ++ bindFrom (base + x.length) bs
/-- Segment blocks in ascending port order. -/
def segmentBlocks (g : Generation) : List SchedBlock := (List.range 8).flatMap (fun n => (g.blocks.filter (fun b => b.port == n)).take 1)
/-- The bindings of a generation. -/
def genBinds (g : Generation) : List Bind := bindFrom 0 (segmentBlocks g)
/-- The bindings of the active generation. -/
def Dev.binds (d : Dev) : List Bind := match d.cyc.active with | some g => genBinds g | none => []
/-- Position at which a bound axis's node stands now; none for a vacant pitch. -/
def Dev.bindPos (d : Dev) (x : Bind) : Option Nat :=
  match x.pitch with
  | none => if d.on (NLS_POS_W2.PRESENT x.port x.pos) then some x.pos else none
  | some k => if d.get (NLS_PITCH.STATE x.port k) = 3 then some (d.get (NLS_PITCH.HOLDER x.port k)) else none

/-- A frame's header fields, its payload and whether its checksums hold (R85). -/
structure Frame where
  typ : Nat
  flags : Nat
  src : Nat
  dst : Nat
  slot : Nat
  cycle : Nat
  payload : List Byte
  hdrOk : Bool
  bodyOk : Bool
  deriving DecidableEq, Repr
/-- A received frame (R85). -/
def parseFrame (bs : List Byte) : Frame :=
  let n := fieldAt bs 14 2
  let pay := (bs.drop 18).take n
  ⟨fieldAt bs 0 1, fieldAt bs 1 1, fieldAt bs 2 3, fieldAt bs 5 3, fieldAt bs 8 2, fieldAt bs 10 4, pay,
    18 ≤ bs.length && crc16 (bs.take 16) == fieldAt bs 16 2,
    n ≤ 2048 && (if n = 0 then bs.length == 18 else bs.length == 22 + n && crc32 pay == fieldAt bs (18 + n) 4)⟩
/-- A frame to send (R85). -/
def frameBytes (typ flags src dst slot cycle : Nat) (pay : List Byte) : List Byte :=
  let h := leBytes 1 typ ++ leBytes 1 flags ++ leBytes 3 src ++ leBytes 3 dst ++ leBytes 2 slot ++ leBytes 4 cycle ++ leBytes 2 pay.length
  h ++ leBytes 2 (crc16 h) ++ (if pay.isEmpty then [] else pay ++ leBytes 4 (crc32 pay))
/-- A line address (R18). -/
def lineAddr (idx seg pos : Nat) : Nat := idx * 2 ^ 16 + seg * 2 ^ 12 + pos
/-- This controller's address in frames of a port (R18, R19). -/
def Dev.ownAddr (d : Dev) (n : Nat) : Nat := if 8 ≤ n then lineAddr d.sys.index 0xE (n - 8) else lineAddr d.sys.index 0xF 0
/-- Line time at which a channel's transmitter has sent its last frame. -/
def Dev.txEnd (d : Dev) (n c : Nat) : LTime := lookupD c 0 (d.port n).txEnd
/-- Send a frame on both channels, or on the channels given (0 both, 1 A, 2 B) (R27, R81, R85). A lane that is not ready leaves its slot silent,
which is counted (R75). The frame stands on its transmitter for its duration, after those before it (R82). -/
def Dev.sendFrame (n chans typ flags dst slot cycle : Nat) (pay : List Byte) (d : Dev) : Dev :=
  let dur := dur5 (((d.activeBlock n).map (·.rate)).getD 2) pay.length / 5
  d.forN 2 (fun c d =>
    if chans ≠ 0 && chans ≠ c + 1 then d
    else if !d.laneReady n c then d.count32 (NLS_NOT_READY_CNT n) 1
    else
      let d := d.setPort n { d.port n with txEnd := putKey c (max d.now (d.txEnd n c) + dur) (d.port n).txEnd }
      d.emit (.frame n c (frameBytes typ (flags + c) (d.ownAddr n) dst slot cycle pay)))
/-- A bell at `t` ends the frames that stand on a port's transmitters (R101). -/
def Dev.cutFrames (n : Nat) (t : LTime) (d : Dev) : Dev :=
  d.forN 2 (fun c d =>
    if d.txEnd n c ≤ t || !d.laneReady n c then d
    else (d.setPort n { d.port n with txEnd := putKey c t (d.port n).txEnd }).emit (.frameCut n c))
/-- Whether a frame type is known (R84). -/
def knownType (t : Nat) : Bool := (1 ≤ t && t ≤ 9) || (0x10 ≤ t && t ≤ 0x1F)
/-- Whether an SOF lies in the receive window of an entry on this controller (R108). -/
def Dev.inWindow (d : Dev) (n sof : Nat) (b : SchedBlock) (e : SlotEntry) : Bool :=
  let t := entryTime (d.headEnd n) e
  t != unusedTime && 5 * (d.cyc.ref + quanta t) ≤ 5 * sof + 5 * ns 16 && 5 * sof ≤ 5 * (d.cyc.ref + quanta t) + tb5 b.rate + 5 * ns 16
/-- The node slot of the port whose receive window on this controller holds the SOF (R108). -/
def Dev.windowSlot (d : Dev) (n sof : Nat) (b : SchedBlock) : Option (SlotEntry × Nat) :=
  b.slots.zipIdx.find? (fun e => nodeSlot e.1 && d.inWindow n sof b e.1)
/-- The head-end controller's index, which stands in the addresses of nodes (R85); the partner's is known from its HELLO (R25). -/
def Dev.headIndex? (d : Dev) : Option Nat := if d.sys.pairEnd then some d.sys.index else d.mir.peer.map (fun h => fieldAt h 6 1)
/-- Whether a source field is that of the node at a position (R18, R85, R86); the index is compared once it is known. -/
def Dev.nodeSource (d : Dev) (n pos src : Nat) : Bool :=
  src % 65536 == 4096 * n + pos && (match d.headIndex? with | some i => src / 65536 == i | none => true)
/-- Whether a source field is that of the controller at the other end of a port (R19, R80). -/
def Dev.farSource (d : Dev) (n src : Nat) : Bool :=
  if 8 ≤ n then src % 65536 == 0xE000 + (9 - n)
  else src % 65536 == 0xF000 && (match d.mir.peer with | some h => src / 65536 == fieldAt h 6 1 | none => true)
/-- Frame types that belong in a node slot (R84). -/
def typeFits (kind t : Nat) : Bool :=
  match kind with | 2 => t == 2 | 5 => t == 4 | 7 => t == 5 || t == 8 | 8 => t == 5 | _ => false
/-- Distance of a cycle count behind the present one (R79 wraps). -/
def Dev.cyclesSince (d : Dev) (c : Nat) : Nat := (d.cyc.count + 2 ^ 32 - c) % 2 ^ 32

/-- Whether a fence of a position waits for the law. -/
def Dev.fenceWaits (d : Dev) (n p : Nat) : Bool :=
  (d.cyc.waiting ++ d.cyc.log).any (fun e => match e.act with | .fence m q r _ => m == n && q == p && !r | _ => false)
/-- A policing violation of position `p` (R108, R109). A babbler that is not fenced, after a release too, is fenced while AUTO_FENCE is 1. -/
def Dev.policeHit (n p : Nat) (d : Dev) : Dev :=
  let d := (d.count32 (NLS_POLICE_CNT n) 1).count (NLS_POS_W1.POLICE n p) 1
  let q := d.port n
  let old := (((q.babble.find? (fun x => x.1 == p)).map (·.2)).getD []).filter (fun c => d.cyclesSince c < 16)
  let now := if old.contains d.cyc.count then old else old ++ [d.cyc.count]
  let lim := max 1 (d.get (NLS_POLICE_CTRL.BABBLE_LIMIT n))
  let d := d.setPort n { q with babble := putKey p now q.babble }
  let babbles := decide (lim ≤ now.length)
  let fence := babbles && d.on (NLS_POLICE_CTRL.AUTO_FENCE n) && !d.on (NLS_POS_W2.FENCED n p) && d.mode != 8 && !d.fenceWaits n p
  let d := d.when (fence || (babbles && decide (old.length < lim))) (Dev.post (portSource n) 0x0109 (leBytes 1 p ++ leBytes 1 now.length))
  d.when fence (Dev.logInput 0x01 68 (.fence n p false true) none)
/-- A disagreement in a slot of position `p` (R104, R105). -/
def Dev.disagree (n : Nat) (p : Option Nat) (d : Dev) : Dev :=
  let d := d.count32 (NLS_DISAGREE_CNT n) 1
  let d := match p with | some p => d.count (NLS_POS_W1.DISAGREE n p) 1 | none => d
  let q := d.port n
  let hist := q.disagree
  let hit := decide (7 ≤ hist.length) && decide (d.cyclesSince (hist.headD 0) < 1000)
  let d := d.setPort n { q with disagree := (hist ++ [d.cyc.count]).drop (hist.length + 1 - 7) }
  if hit && !d.on (NLS_SEG_FAULT.SEGMENT_FAULT n) then
    ((d.set (NLS_SEG_FAULT.SEGMENT_FAULT n) 1).cond condSEGMENT_FAULT true).post (portSource n) 0x0108 (leBytes 4 d.cyc.count)
  else d
/-- SEGMENT_FAULT_CLEAR (R105, R118). -/
def Dev.segFaultClear (n : Nat) (d : Dev) : Dev :=
  let d := d.set (NLS_SEG_FAULT.SEGMENT_FAULT n) 0
  d.cond condSEGMENT_FAULT ((List.range 8).any (fun m => d.on (NLS_SEG_FAULT.SEGMENT_FAULT m)))
/-- A node event record (R116): events of one code in one cycle on one segment fold into the first arrival; data bytes 0 and 1 hold the
source of the last. -/
def Dev.nodeEvent (n p code sof : Nat) (d : Dev) : Dev :=
  let src := 0x4000 + 64 * n + p
  let same := fun (e : Event) => e.code == code && e.ctrl == d.sys.index && 0x4000 + 64 * n ≤ e.src && decide (e.src < 0x4040 + 64 * n)
  if d.hif.batch.any same then
    { d with hif := { d.hif with batch := d.hif.batch.map (fun e =>
        if same e then { e with fold := satAdd 16 e.fold 1, data := padTo 15 (leBytes 2 src) } else e) } }
  else d.postAt sof src code 1 (leBytes 2 src)
/-- The records of an uplink frame reach the engine (R88, R155). -/
def Dev.takeUplink (n s : Nat) (p : Option Nat) (sof : Nat) (pay : List Byte) (d : Dev) : Dev :=
  let mine := d.binds.filter (fun x => x.port == n && x.slot == s)
  let d := d.forEach mine (fun x d =>
    { d with eng := { d.eng with fb := putKey x.axis (padTo 24 ((pay.drop (24 * x.k)).take 24)) d.eng.fb, fbReady := d.eng.fbReady ++ [x.axis] } })
  let codes := if mine.isEmpty then [fieldAt pay (pay.length - 2) 2] else mine.map (fun x => fieldAt pay (24 * x.k + 22) 2)
  match p with
  | some p => d.forEach (codes.filter (· ≠ 0)) (fun c => Dev.nodeEvent n p c sof)
  | none => d
/-- A reply to a SEND_ASYNC arrives (R409): the first type 0x08 frame from its destination with the packet's tag. -/
def Dev.asyncReply (n src : Nat) (pay : List Byte) (d : Dev) : Dev :=
  let q := d.port n
  let hit := fun (f : AsyncFrame) => f.ref.isSome && f.replyAddr != 0 && f.dest == src && fieldAt pay 0 2 == f.tag
  match q.awaiting.find? hit with
  | none => d
  | some f =>
    let data := pay.take f.replyCap
    let d := d.setPort n { q with awaiting := q.awaiting.filter (fun x => !hit x) }
    let out := match f.pkt with | some p => d.outBytes p data | none => data
    (d.emit (.hostWrite f.replyAddr out)).completeOpt f.ref stOK d.now (leBytes 2 out.length)
/-- What the receive window of a slot holds. -/
def Port.slotRx (q : Port) (s : Nat) : SlotRx := ((q.rx.find? (fun x => x.1 == s)).map (·.2)).getD ⟨0, [], false⟩
/-- NODE_FRAME (R84, R86, R104, R108): a copy of a frame with its SOF at line time `sof` on a channel. A violation counts for the position in its
source field, whatever the field's other bits; a frame of the other end's controller in that end's own slot is none. -/
def Dev.nodeFrame (n c sof : Nat) (bs : List Byte) (d : Dev) : Dev :=
  let f := parseFrame bs
  let p := f.src % 64
  let crc := if c = 0 then NLS_CRC_ERR_A n else NLS_CRC_ERR_B n
  match d.cyc.running, d.activeBlock n with
  | true, some b =>
    let win := d.windowSlot n sof b
    let inClaim := match win with | some (e, _) => e.kind == 8 | none => false
    if !f.hdrOk then (d.count32 crc 1).when inClaim (Dev.count (NLS_CLAIM_CNT.DAMAGED n) 1)
    else if !knownType f.typ then d.count32 crc 1
    else match win with
      | none =>
        let far := d.farSource n f.src && b.slots.any (fun e => sentByHead e == some (!d.headEnd n) && d.inWindow n sof b e)
        d.when (!far) (Dev.policeHit n p)
      | some (e, s) =>
        let owner := d.slotOwner n s b
        let ownerOk := match owner with | none => true | some o => o == some p && d.nodeSource n p f.src
        if !typeFits e.kind f.typ || f.slot != s || f.cycle != d.cyc.count || !ownerOk then d.policeHit n p
        else if !f.bodyOk then (d.count32 crc 1).when inClaim (Dev.count (NLS_CLAIM_CNT.DAMAGED n) 1)
        else if d.on (NLS_POS_W2.FENCED n p) then d
        else
          let q := d.port n
          let r := q.slotRx s
          let bare := spliceAt bs 1 [BitVec.ofNat 8 (f.flags / 2 * 2)]
          let cont := bare.take 16 ++ f.payload
          if r.state = 0 then
            let d := d.setPort n { q with rx := putKey s { r with state := c + 1, used := cont } q.rx }
            let d := d.when (decide (f.typ = 2) && !d.on (NLS_POS_W2.FENCED n p)) (Dev.takeUplink n s (some p) sof f.payload)
            d.when (decide (f.typ = 8)) (Dev.asyncReply n f.src f.payload)
          else if r.state = c + 1 || r.state = 3 then d
          else
            let d := d.setPort n { q with rx := putKey s { r with state := 3 } q.rx }
            d.when (cont != r.used) (Dev.disagree n (owner.getD none))
  | _, _ => if f.hdrOk && knownType f.typ then d else d.count32 crc 1

/-- First run of a position map and the number of its runs (R115). -/
def firstRun (m : Nat) : Nat × Nat :=
  match (List.range 64).find? (fun p => bitAt m p) with
  | none => (0, 0)
  | some p => (p, ((List.range 64).takeWhile (fun i => bitAt m (p + i))).length)
/-- Number of runs of set bits. -/
def runCount (m : Nat) : Nat := ((List.range 64).filter (fun p => bitAt m p && (p == 0 || !bitAt m (p - 1)))).length
/-- The lost set of a cycle is formed when the last uplink window of the segment has closed (R115). -/
def Dev.formLost (n : Nat) (d : Dev) : Dev :=
  let q := d.port n
  let la := Nat.land q.silentA q.prevA
  let lb := Nat.land q.silentB q.prevB
  let changed := la != q.lostA || lb != q.lostB
  let empty := la == 0 && lb == 0
  let left := if empty then q.emptyRun - 1 else 2
  let restored := empty && q.emptyRun == 1
  let d := d.setPort n { q with silentA := 0, silentB := 0, prevA := q.silentA, prevB := q.silentB, lostA := la, lostB := lb, emptyRun := left }
  let ra := firstRun la
  let rb := firstRun lb
  let d := (((d.set (NLS_HOPLOSS.FIRST_A n) ra.1).set (NLS_HOPLOSS.COUNT_A n) ra.2).set (NLS_HOPLOSS.FIRST_B n) rb.1).set (NLS_HOPLOSS.COUNT_B n) rb.2
  let d := d.set (NLS_SEG_FAULT.HOP_LOSS n) (flag (!empty))
  let d := d.cond condHOP_LOSS ((List.range 8).any (fun m => d.on (NLS_SEG_FAULT.HOP_LOSS m)))
  let d := d.when (changed && !empty) (Dev.post (portSource n) 0x0106
    (leBytes 1 ra.1 ++ leBytes 1 ra.2 ++ leBytes 1 rb.1 ++ leBytes 1 rb.2 ++ leBytes 1 (runCount la) ++ leBytes 1 (runCount lb)))
  d.when restored (Dev.post (portSource n) 0x0107 [])
/-- Whether a release of pitch `k` waits for the law or for its cycle (R113). -/
def Dev.releaseWaits (d : Dev) (n k : Nat) : Bool :=
  (d.cyc.waiting ++ d.cyc.log).any (fun e => match e.act with | .revoke g j _ _ => g == n && j == k | _ => false) ||
    (d.port n).effective.any (fun x => x.1 == k && !x.2.2)
/-- A held pitch whose holder has been silent for 1,000 cycles is released; the release is logged once (R113). -/
def Dev.pitchSilence (n k : Nat) (d : Dev) : Dev :=
  if d.get (NLS_PITCH.STATE n k) = 3 && d.get (NLS_PITCH.SILENT n k) = 1000 && d.mode ≠ 8 && d.cyc.running && !d.releaseWaits n k then
    d.logInput 0x01 68 (.revoke n k 2 []) none
  else d
/-- RECEIVE_WINDOW_CLOSE (R104, R106, R113, R115, R155): both windows of slot `s` close. A position with several uplink slots is silent in a cycle when
any one of them is (DESIGN CHOICE: R115 speaks of one slot). -/
def Dev.windowClose (n s : Nat) (d : Dev) : Dev :=
  match d.cyc.running, d.activeBlock n with
  | true, some b =>
    match b.slots[s]? with
    | none => d
    | some e =>
      let q := d.port n
      let r := q.slotRx s
      if r.closed || !nodeSlot e then d else
        let d := d.setPort n { q with rx := putKey s { r with closed := true } q.rx }
        let d := d.when (r.state == 1 || r.state == 2) (Dev.count32 (NLS_SINGLE_CNT n) 1)
        let noA := r.state == 0 || r.state == 2
        let noB := r.state == 0 || r.state == 1
        let holder := match d.slotOwner n s b with
          | some (some p) => if d.on (NLS_POS_W2.PRESENT n p) || d.on (NLS_POS_W2.PITCH n p) then some p else none
          | _ => none
        let d := match holder with
          | some p =>
            let d := d.set (NLS_POS_W2.SINGLE n p) (flag (r.state == 1 || r.state == 2))
            let d := d.when noA (Dev.count (NLS_POS_W0.MISSED_A n p) 1)
            d.when noB (Dev.count (NLS_POS_W0.MISSED_B n p) 1)
          | none => d
        if e.kind ≠ 2 then d else
          let d := match holder with
            | some p =>
              let q := d.port n
              d.setPort n { q with silentA := if noA then Nat.lor q.silentA (2 ^ p) else q.silentA,
                                   silentB := if noB then Nat.lor q.silentB (2 ^ p) else q.silentB }
            | none => d
          let d := d.when (e.owner == 0xFE && d.get (NLS_PITCH.STATE n e.pitch) == 3) (fun d =>
            (d.set (NLS_PITCH.SILENT n e.pitch) (if noA && noB then min 1000 (d.get (NLS_PITCH.SILENT n e.pitch) + 1) else 0)).pitchSilence n e.pitch)
          let ready : List Nat := (d.binds.filter (fun x => x.port == n && x.slot == s)).map (fun x => x.axis)
          let d : Dev := { d with eng := { d.eng with fbReady := d.eng.fbReady ++ ready } }
          let q := d.port n
          let all := b.slots.zipIdx.all (fun x => x.1.kind != 2 || entryTime (d.headEnd n) x.1 == unusedTime || (q.slotRx x.2).closed)
          d.when (all && decide (n < 8)) (Dev.formLost n)
  | _, _ => d

/-- A request's payload (R90) queued as a response for the present cycle. -/
def Dev.respond (n pos result pitch eff : Nat) (req : List Byte) (d : Dev) : Dev :=
  let e := match d.activeBlock n with
    | some b => match b.pitches[pitch]? with
      | some t => ((b.slots[t.slot]?).map slotBytes).getD (zeros 16)
      | none => zeros 16
    | none => zeros 16
  let r := leBytes 1 (fieldAt req 0 1) ++ leBytes 1 result ++ leBytes 1 pitch ++ [0] ++ padTo 8 ((req.drop 4).take 8) ++ leBytes 4 eff ++
    padTo 2 ((req.drop 16).take 2) ++ zeros 2 ++ (if result = 0 && pitch < 32 then e else zeros 16) ++ zeros 12
  let q := d.port n
  d.setPort n { q with responses := q.responses ++ [(d.cyc.count, pos, r)] }
/-- Identity of a request (R90). -/
def reqIdentity (req : List Byte) : List Byte := padTo 8 ((req.drop 4).take 8)
/-- Whether a grant of pitch `k` waits for the law (R112). -/
def Dev.grantWaits (d : Dev) (n k : Nat) : Bool :=
  (d.cyc.waiting ++ d.cyc.log).any (fun e => match e.act with | .grant g _ j _ => g == n && j == k | _ => false)
/-- Whether pitch `k` is vacant and covers a claim from position `pos` (R112). -/
def Dev.pitchFits (d : Dev) (n k pos : Nat) (req : List Byte) : Bool :=
  match d.activeBlock n with
  | some b => match b.pitches[k]? with
    | some t => d.get (NLS_PITCH.STATE n k) == 1 && !d.grantWaits n k && t.lo ≤ pos && pos ≤ t.hi && fieldAt req 3 1 ≤ t.axes &&
        fieldAt req 12 2 ≤ ((b.slots[t.slot]?).map (·.maxPay)).getD 0 && fieldAt req 14 2 ≤ 16 * t.axes
    | none => false
  | none => false
/-- Firmware decides a claim (R112): the same pitch for a known identity, the lowest fitting vacant pitch, or a refusal. -/
def Dev.decideClaim (n : Nat) (c : Claim) (d : Dev) : Dev :=
  let q := d.port n
  match q.holders.find? (fun h => h.2 == reqIdentity c.req) with
  | some h => d.respond n c.pos 0 h.1 d.cyc.count c.req
  | none =>
    match (List.range 32).find? (fun k => d.pitchFits n k c.pos c.req) with
    | some k => d.logInput 0x01 68 (.grant n c.pos k c.req) none
    | none =>
      let inRange := match d.activeBlock n with | some b => b.pitches.any (fun t => t.lo ≤ c.pos && c.pos ≤ t.hi) | none => false
      let r := if inRange then 1 else 2
      (d.respond n c.pos r 0xFF 0 c.req).post (portSource n) 0x010E (leBytes 1 c.pos ++ leBytes 1 r)
/-- Insert a claim by position: the lower position is served first (R112). -/
def insertClaim (c : Claim) : List Claim → List Claim
  | [] => [c]
  | x :: xs => if c.pos < x.pos then c :: x :: xs else x :: insertClaim c xs
/-- The claims of the cycle are decided as the input log closes (R112). -/
def Dev.decideClaims (n : Nat) (d : Dev) : Dev :=
  let q := d.port n
  (d.setPort n { q with claims := [] }).forEach (q.claims.foldl (fun l c => insertClaim c l) []) (Dev.decideClaim n)
/-- PITCH_CLAIM (R111, R112): a claim of a position arrives in the claim slot. A known identity is answered with its pitch in either mode of duty
function 4. A standby follows the holder's log. -/
def Dev.pitchClaim (n pos : Nat) (req : List Byte) (d : Dev) : Dev :=
  if !d.cyc.running then d else
    let d := d.count (NLS_CLAIM_CNT.VALID n) 1
    if d.mode = 8 then d
    else if d.on (NLS_POS_W2.FENCED n pos) then
      (d.respond n pos 4 0xFF 0 req).post (portSource n) 0x010E (leBytes 1 pos ++ leBytes 1 4)
    else
      let q := d.port n
      let c : Claim := ⟨pos, padTo 24 req, d.cyc.count⟩
      if d.ha 4 && !q.holders.any (fun h => h.2 == reqIdentity c.req) then
        (d.setPort n { q with posted := (q.posted.filter (fun x => x.pos != pos)) ++ [c] }).post (portSource n) 0x010B
          (leBytes 1 pos ++ reqIdentity req ++ leBytes 1 (fieldAt req 3 1) ++ leBytes 2 (fieldAt req 12 2) ++ leBytes 2 (fieldAt req 14 2))
      else d.setPort n { q with claims := (q.claims.filter (fun x => x.pos != pos)) ++ [c] }
/-- SCHEDULE_REQUEST (R97): the node is owed its schedule parts. A fenced position's frames are missing (R109). -/
def Dev.scheduleRequest (n pos : Nat) (d : Dev) : Dev :=
  if !d.cyc.running || d.on (NLS_POS_W2.FENCED n pos) then d else
    let d := d.count (NLS_CLAIM_CNT.VALID n) 1
    let q := d.port n
    d.setPort n { q with parts := if q.parts.contains pos then q.parts else q.parts ++ [pos] }
/-- LEAVE_REQUEST (R113): the holder's release is logged. -/
def Dev.leaveRequest (n pos : Nat) (req : List Byte) (d : Dev) : Dev :=
  if !d.cyc.running || d.on (NLS_POS_W2.FENCED n pos) then d else
    let d := d.count (NLS_CLAIM_CNT.VALID n) 1
    if d.mode = 8 then d else
      match (List.range 32).find? (fun k => d.get (NLS_PITCH.STATE n k) == 3 && d.get (NLS_PITCH.HOLDER n k) == pos) with
      | some k => d.logInput 0x01 68 (.revoke n k 0 (padTo 24 req)) none
      | none => d
/-- Clear a line port's acknowledgements: a generation is acknowledged anew each time one goes pending (R93). -/
def Dev.clearAcks (n : Nat) (d : Dev) : Dev :=
  (d.wr64 (NLS_GEN_ACK_LO n) 0).forN 64 (fun p d =>
    if d.on (NLS_POS_W2.GEN_ACK n p) then d.set (NLS_POS_W2.GEN_ACK n p) 0 else d)

/-- GENERATION_ACKNOWLEDGE (R94). -/
def Dev.genAck (n pos gen : Nat) (d : Dev) : Dev :=
  match d.cyc.pending with
  | some g =>
    if g.num = gen && !d.on (NLS_POS_W2.FENCED n pos) then
      let a := if pos < 32 then NLS_GEN_ACK_LO n else NLS_GEN_ACK_HI n
      (d.wr a (withBits (d.rd a) (pos % 32) (pos % 32) 1)).set (NLS_POS_W2.GEN_ACK n pos) 1
    else d
  | none => d
/-- A grant enters the law (R112): the response goes out in this cycle and the pitch is effective in the next. -/
def Dev.enterGrant (n pos k : Nat) (req : List Byte) (d : Dev) : Dev :=
  let eff := (d.cyc.count + 1) % 2 ^ 32
  let d := ((d.set (NLS_PITCH.STATE n k) 2).set (NLS_PITCH.HOLDER n k) pos).set (NLS_PITCH.SILENT n k) 0
  let d := d.wr (NLS_PITCH_VACANT n) (withBits (d.rd (NLS_PITCH_VACANT n)) k k 0)
  let q := d.port n
  let d := d.setPort n { q with
    holders := putKey k (reqIdentity req) q.holders, effective := q.effective ++ [(k, eff, true)],
    posted := q.posted.filter (fun c => c.pos != pos) }
  (d.respond n pos 0 k eff req).post (portSource n) 0x010C (leBytes 1 pos ++ leBytes 1 k ++ leBytes 4 eff)
/-- A host refusal enters the law (R112). -/
def Dev.enterRefuse (n pos result : Nat) (req : List Byte) (d : Dev) : Dev :=
  let q := d.port n
  ((d.setPort n { q with posted := q.posted.filter (fun c => c.pos != pos) }).respond n pos result 0xFF 0 req).post (portSource n) 0x010E
    (leBytes 1 pos ++ leBytes 1 result)
/-- A release enters the law (R113): the pitch is vacant from the next cycle. -/
def Dev.enterRevoke (n k cause : Nat) (req : List Byte) (d : Dev) : Dev :=
  let pos := d.get (NLS_PITCH.HOLDER n k)
  let q := d.port n
  if d.get (NLS_PITCH.STATE n k) ≠ 3 || q.effective.any (fun x => x.1 == k && !x.2.2) then d else
    let eff := (d.cyc.count + 1) % 2 ^ 32
    let d := d.setPort n { q with effective := q.effective ++ [(k, eff, false)] }
    let d := d.when (!req.isEmpty) (Dev.respond n pos 0 k eff req)
    d.post (portSource n) 0x010D (leBytes 1 pos ++ leBytes 1 k ++ leBytes 1 cause)
/-- A fence or release enters the law (R109). -/
def Dev.enterFence (n pos : Nat) (release auto : Bool) (d : Dev) : Dev :=
  let d := d.set (NLS_POS_W2.FENCED n pos) (flag (!release))
  let q := d.port n
  let d := d.setPort n { q with fenceRelease := if release then putKey pos d.cyc.count q.fenceRelease else q.fenceRelease.filter (fun x => x.1 != pos) }
  d.post (portSource n) 0x010A (leBytes 1 pos ++ leBytes 1 (flag release) ++ leBytes 1 (flag (!auto)))
/-- A loaded generation enters the shadow copy of every port (R94): acknowledgements start over and every present node is owed its parts. -/
def Dev.enterSchedule (image : List Byte) (d : Dev) : Dev :=
  let g := parseImage image
  let d := { d with cyc := { d.cyc with pending := some g } }
  d.forEach (g.blocks.filterMap (fun b => portOf b.port)) (fun n d =>
    let d := (d.set (NLS_PENDING_GEN.PENDING_GEN n) g.num).clearAcks n
    d.setPort n { d.port n with parts := (List.range 64).filter (fun p => d.on (NLS_POS_W2.PRESENT n p)), ranks := [] })
/-- Pitch changes that fall on the cycle that opens (R112, R113); release orders end after 8 cycles (R109). -/
def Dev.pitchCycle (n : Nat) (d : Dev) : Dev :=
  let q := d.port n
  let due := q.effective.filter (fun x => x.2.1 == d.cyc.count)
  let d := d.setPort n { q with
    effective := q.effective.filter (fun x => x.2.1 != d.cyc.count), fenceRelease := q.fenceRelease.filter (fun x => decide (d.cyclesSince x.2 < 8)) }
  d.forEach due (fun x d =>
    let k := x.1
    let pos := d.get (NLS_PITCH.HOLDER n k)
    if x.2.2 then ((d.set (NLS_PITCH.STATE n k) 3).set (NLS_POS_W2.PITCH n pos) 1).set (NLS_POS_W2.PITCH_NO n pos) k
    else
      let d := ((d.set (NLS_PITCH.STATE n k) 1).set (NLS_POS_W2.PITCH n pos) 0).set (NLS_PITCH.SILENT n k) 0
      let d := d.wr (NLS_PITCH_VACANT n) (withBits (d.rd (NLS_PITCH_VACANT n)) k k 1)
      d.setPort n { d.port n with holders := (d.port n).holders.filter (fun h => h.1 != k) })
/-- What a generation shows in the registers of a port when it becomes active (R118): numbers, timing, slot counts, waits and pitches. -/
def Dev.showGeneration (g : Generation) (n : Nat) (d : Dev) : Dev :=
  match g.blocks.find? (fun b => b.port == portByte n) with
  | none => d
  | some b =>
    let rank := d.get (NLS_SCHED_STATUS.RANK n)
    let d := ((d.set (NLS_SCHED_STATUS.ACTIVE_GEN n) g.num).set (NLS_SCHED_STATUS.TIMING n) (flag b.pipelined)).set (NLS_SCHED_STATUS.CLOSED n) (flag b.closed)
    let d := (d.set (NLS_SLOT_INFO.SLOTS n) b.slots.length).set (NLS_SLOT_INFO.PITCHES n) b.pitches.length
    let d := d.wr (NLS_BELL_WAIT n) (match rank with | 1 => b.w1 | 2 => b.w2 | 3 => b.w3 | _ => 0)
    let d := d.forN 32 (fun k d =>
      let st := d.get (NLS_PITCH.STATE n k)
      if k < b.pitches.length then (if st = 0 then d.set (NLS_PITCH.STATE n k) 1 else d)
      else if st = 0 then d
      else
        let pos := d.get (NLS_PITCH.HOLDER n k)
        (d.wr (NLS_PITCH n k) 0).when (st == 3) (Dev.set (NLS_POS_W2.PITCH n pos) 0))
    d.wr (NLS_PITCH_VACANT n) (((List.range 32).map (fun k => if d.get (NLS_PITCH.STATE n k) = 1 then 2 ^ k else 0)).sum)

/-- Delay of hop `h` on channel `c`, in line-time units (R72). -/
def Dev.hopDly (d : Dev) (n c h : Nat) : Nat := d.rd (if c = 0 then NLS_HOP_W0 n h else NLS_HOP_W1 n h)
/-- Delay from the head end to node `k` (R73). -/
def Dev.toNode (d : Dev) (n c k : Nat) : Nat :=
  ((List.range (k + 1)).map (fun h => d.hopDly n c h)).sum + ((List.range k).map (fun h => 256 * d.get (NLS_HOP_W2.FWD_DOWN n h))).sum
/-- Delay from the head end to the tail end of a closed line of `m` nodes (R73, R78). -/
def Dev.toTail (d : Dev) (n c m : Nat) : Nat :=
  ((List.range m).map (fun h => d.hopDly n c h + 256 * d.get (NLS_HOP_W2.FWD_DOWN n h))).sum + d.rd (if c = 0 then NLS_TAILDLY_A n else NLS_TAILDLY_B n)
/-- Delay from the tail end to the head end of a closed line of `m` nodes (R73, R78). -/
def Dev.toHead (d : Dev) (n c m : Nat) : Nat :=
  ((List.range m).map (fun h => d.hopDly n c h + 256 * d.get (NLS_HOP_W2.FWD_UP n h))).sum + d.rd (if c = 0 then NLS_TAILDLY_A n else NLS_TAILDLY_B n)
/-- Delay from the tail end to node `k` of `m` nodes. -/
def Dev.tailToNode (d : Dev) (n c m k : Nat) : Nat :=
  ((List.range (m - 1 - k)).map (fun i => d.hopDly n c (k + 1 + i) + 256 * d.get (NLS_HOP_W2.FWD_UP n (k + 1 + i)))).sum +
    d.rd (if c = 0 then NLS_TAILDLY_A n else NLS_TAILDLY_B n)
/-- Whether intervals [t, t + len) are pairwise disjoint. -/
def disjoint : List (Nat × Nat) → Bool
  | [] => true
  | x :: xs => xs.all (fun y => x.1 + x.2 ≤ y.1 || y.1 + y.2 ≤ x.1) && disjoint xs
/-- Where an uplink slot may lie, by its time at one end (R114): before the downlink phase in tight timing, outside the bell and downlink slots in
pipelined timing. -/
def SchedBlock.uplinkPlaced (b : SchedBlock) (head : Bool) (e : SlotEntry) : Bool :=
  let t := entryTime head e
  t == unusedTime ||
    (if b.pipelined then b.slots.all (fun f =>
        let u := entryTime head f
        !([0, 1, 3, 4].contains f.kind) || u == unusedTime || decide (t + e.len ≤ u) || decide (u + f.len ≤ t))
      else decide (t + e.len ≤ b.down))
/-- The rules 2 to 9 of R96 for one port. A tail-bound frame of a line without a tail end has only its head time (R80). -/
def Dev.scheduleRule (d : Dev) (g : Generation) (b : SchedBlock) (rule : Nat) : Bool :=
  let n := (portOf b.port).getD 0
  let used := fun (head : Bool) => b.slots.filter (fun e => entryTime head e != unusedTime)
  match rule with
  | 2 => 1000 ≤ b.period && b.period ≤ 500000 && b.uplink ≤ b.openWin && b.openWin ≤ b.down && b.down ≤ b.guard && b.guard ≤ b.period &&
      (used true).all (fun e => e.head + e.len ≤ b.period) && (used false).all (fun e => e.tail + e.len ≤ b.period)
  | 3 => b.slots.all (fun e => dur5 b.rate e.maxPay + 5 * ns 8 ≤ 5 * quanta e.len)
  | 4 => disjoint (((used true).filter (fun e => nodeSlot e || sentByHead e == some false)).map (fun e => (e.head, e.len))) &&
      disjoint ((((used false).filter (fun e => nodeSlot e || sentByHead e == some true)).map (fun e => (e.tail, e.len))) ++
        (((used true).filter (fun e => e.tail == unusedTime && sentByHead e == some true)).map (fun e => (e.head, e.len))))
  | 5 => b.slots.all (fun e => match sentByHead e with
      | some byHead =>
        if e.head = unusedTime || e.tail = unusedTime then true else
          [0, 1].all (fun c =>
            let dly := if 8 ≤ n then d.hopDly n c 0 else if byHead then d.toTail n c b.planNodes else d.toHead n c b.planNodes
            let sent := quanta (entryTime byHead e)
            let far := quanta (entryTime (!byHead) e)
            far ≤ sent + dly && 5 * (sent + dly) + dur5 b.rate e.maxPay + 5 * ns 8 ≤ 5 * (far + quanta e.len))
      | none => true)
  | 6 => (b.slots.filter (fun e => e.kind == 2)).all (b.uplinkPlaced true) && (b.slots.filter (fun e => e.kind == 2)).all (b.uplinkPlaced false) &&
    b.slots.all (fun e =>
      let ends := if e.kind = 3 then [true] else if e.kind = 4 && b.closed then [false] else []
      ends.all (fun byHead => [0, 1].all (fun c => ((List.range 64).filter (fun k => decide (k < b.planNodes) || d.on (NLS_POS_W2.PRESENT n k))).all (fun k =>
        let dly := if byHead then d.toNode n c k else d.tailToNode n c b.planNodes k
        5 * (quanta (entryTime byHead e) + dly + ns 200) + dur5 b.rate e.maxPay ≤ 5 * quanta b.period))))
  | 7 => (List.range 64).all (fun p => !d.on (NLS_POS_W2.PRESENT n p) || d.on (NLS_POS_W2.GEN_ACK n p))
  | 8 =>
    let down := ((b.slots.filter (fun e => e.kind == 3 || e.kind == 4)).map (·.maxPay)).foldl max 0
    b.pitches.all (fun t => t.lo ≤ t.hi && t.hi ≤ 63 && t.hi < b.span && t.offset + 16 * t.axes ≤ down) &&
      b.slots.all (fun e => (64 ≤ e.owner || e.owner < b.span) && e.maxPay ≤ 2048)
  | 9 => match d.cyc.active with | some a => a.num != g.num | none => true
  | _ => true
/-- The lowest failing rule at the lowest port that fails it (R96), as a CONSISTENCY result. -/
def Dev.scheduleFail (d : Dev) (g : Generation) : Option (Nat × Nat) :=
  let blocks := (List.range 10).flatMap (fun n => (g.blocks.filter (fun b => b.port == portByte n)).map (fun b => (n, b)))
  ([2, 3, 4, 5, 6, 7, 8, 9].flatMap (fun r => blocks.map (fun x => (r, x.1, x.2)))).find? (fun x => !d.scheduleRule g x.2.2 x.1) |>.map
    (fun x => (x.1, portSource x.2.1))

/-- Read a register as an RC read would: its RC bits clear (R11); a read of CE_SLACK_MIN reloads it and shows the axis of the value (R176). -/
def Dev.clearRc (a : Nat) (d : Dev) : Dev :=
  match descOf a with
  | some r => if r.rc = 0 then d else
      if a = CE_SLACK_MIN then (d.wr a 0x7FFFFFFF).set CE_SLACK_AXIS.AXIS d.eng.slackAxis else d.wr a (d.rd a - Nat.land (d.rd a) r.rc)
  | none => d
/-- `n` bytes of registers from offset `a` on. -/
def Dev.regBytes (d : Dev) (a n : Nat) : List Byte := (List.range (n / 4)).flatMap (fun i => leBytes 4 (d.rd (a + 4 * i)))

/-- Log bytes of table data of `n` bytes in parts (R296). -/
def tableSize (n : Nat) : Nat := n + 4 * max 1 ((n + 2043) / 2044)
/-- 0x0201 LOAD_SCHEDULE (R94, R409, R410). -/
def opLoadSchedule : Opcode :=
  { code := 0x0201, modes := fun _ => modeLogged [4, 6, 7, 10, 11],
    run := fun p ref d => d.hostRead p (par p 30 4) (fun b d =>
      let st := imageStatus ((d.sys.package.map (·.digests)).getD []) (par p 30 4) b
      if st ≠ 0 then (.bad st, d)
      else if d.cyc.countdown.isSome then (.bad stBUSY, d)
      else d.logPacket 0x03 (tableSize b.length) (.schedule b) ref) }
/-- 0x0203 GET_SEGMENT_STATUS (R409). -/
def opGetSegmentStatus : Opcode :=
  { code := 0x0203, modes := fun _ => modeIn confSync,
    run := fun p _ d => match portOf (par p 22 1) with
      | some n => (.done stOK (leBytes 4 (d.rd (NLS_LINK_STATUS n)) ++ leBytes 4 (d.rd (NLS_SCHED_STATUS n)) ++
          leBytes 8 (((List.range 64).map (fun k => if d.on (NLS_POS_W2.PRESENT n k) then 2 ^ k else 0)).sum)), d)
      | none => (.bad stBAD_PARAMETER, d) }
/-- 0x0204 GRANT_PITCH (R112, R409). -/
def opGrantPitch : Opcode :=
  { code := 0x0204,
    modes := fun _ d => let m := modeLogged syncModes d; if m ≠ 0 then m else if d.ha 4 then 0 else stWRONG_MODE
    run := fun p ref d =>
      let n := par p 22 1
      let pos := par p 23 1
      let claim := if n < 8 && pos < 64 then (d.port n).posted.find? (fun c => c.pos == pos && decide (d.cyclesSince c.cycle ≤ 64)) else none
      match claim with
      | none => (.bad stBAD_PARAMETER, d)
      | some c =>
        if bitAt (par p 25 1) 0 then d.logPacket 0x01 68 (.refuse n pos 3 c.req) ref
        else
          let k := if par p 24 1 = 0xFF then (List.range 32).find? (fun k => d.pitchFits n k pos c.req)
                   else if d.pitchFits n (par p 24 1) pos c.req then some (par p 24 1) else none
          match k with
          | some k => d.logPacket 0x01 68 (.grant n pos k c.req) ref
          | none => (.bad stBAD_PARAMETER, d) }
/-- 0x0205 REVOKE_PITCH (R113, R409). -/
def opRevokePitch : Opcode :=
  { code := 0x0205, modes := fun _ => modeLogged syncModes,
    run := fun p ref d =>
      let n := par p 22 1
      let k := par p 23 1
      if n < 8 && k < 32 && d.get (NLS_PITCH.STATE n k) = 3 then d.logPacket 0x01 68 (.revoke n k 1 []) ref else (.bad stBAD_PARAMETER, d) }
/-- 0x0206 SEND_ASYNC (R409): the frame waits for a controller asynchronous slot. -/
def opSendAsync : Opcode :=
  { code := 0x0206, modes := fun _ => modeIn confSync,
    run := fun p ref d =>
      let fl := par p 23 1
      let len := par p 28 2
      let tmo := par p 48 2
      match portOf (par p 22 1) with
      | none => (.bad stBAD_PARAMETER, d)
      | some n =>
        if 8 ≤ fl || (bitAt fl 1 && bitAt fl 2) || 2048 < len || (par p 38 8 ≠ 0 && (tmo = 0 || 1000 < tmo)) then (.bad stBAD_PARAMETER, d)
        else d.hostRead p len (fun data d =>
          let q := d.port n
          (.later, d.setPort n { q with queue := q.queue ++
            [⟨0x08, par p 24 3, data, if bitAt fl 1 then 1 else if bitAt fl 2 then 2 else 0, bitAt fl 0, some ref, p.tag.toNat, par p 38 8, par p 46 2, tmo, some p⟩] })) }
/-- 0x0207 GET_LINK_STATS (R409): 2,176 bytes of registers, cleared on request as a read would. -/
def opGetLinkStats : Opcode :=
  { code := 0x0207, modes := fun _ => modeIn confSync,
    run := fun p _ d =>
      match portOf (par p 22 1) with
      | none => (.bad stBAD_PARAMETER, d)
      | some n =>
        let a := NLS_LINK_CTRL n
        let spans := [(0x000, 0x40), (0x100, 0x40), (0x400, 0x400), (0x800, 0x400)]
        let data := spans.flatMap (fun s => d.regBytes (a + s.1) s.2)
        let r := d.hostWrite p (par p 24 8) data (.done stOK [])
        if bitAt (par p 23 1) 0 then
          (r.1, r.2.forEach (spans.flatMap (fun s => (List.range (s.2 / 4)).map (fun i => a + s.1 + 4 * i))) Dev.clearRc)
        else r }
/-- 0x0208 FENCE_NODE (R109, R409). -/
def opFenceNode : Opcode :=
  { code := 0x0208, modes := fun _ => modeLogged syncModes,
    run := fun p ref d =>
      if par p 22 1 < 8 && par p 23 1 < 64 && par p 24 1 ≤ 1 then
        d.logPacket 0x01 68 (.fence (par p 22 1) (par p 23 1) (par p 24 1 == 1) false) ref
      else (.bad stBAD_PARAMETER, d) }

/-- ASYNC_REPLY_TIMEOUT (R409): the waiting SEND_ASYNC of a port with this tag completes with the timed-out bit. -/
def Dev.asyncReplyTimeout (n tag : Nat) (d : Dev) : Dev :=
  let q := d.port n
  let hit := fun (f : AsyncFrame) => f.ref.isSome && f.replyAddr != 0 && f.tag == tag
  match q.awaiting.find? hit with
  | none => d
  | some f => (d.setPort n { q with awaiting := q.awaiting.filter (fun x => !hit x) }).completeOpt f.ref stOK d.now [0, 0, 1]

/-- NODE_FRAME (R104). -/
def execNodeFrame (n : Fin 8) (c : Fin 2) (sof : BitVec 80) (bytes : List Byte) (s : State) : Answer :=
  .next (s.onDev (Dev.nodeFrame n.val c.val sof.toNat bytes))
/-- SEGMENT_FAULT_CLEAR (R105). -/
def execSegmentFaultClear (n : Fin 8) (s : State) : Answer := .next (s.onDev (Dev.segFaultClear n.val))
/-- PITCH_CLAIM (R112). -/
def execPitchClaim (n : Fin 8) (pos : Fin 64) (req : List Byte) (s : State) : Answer := .next (s.onDev (Dev.pitchClaim n.val pos.val req))
/-- SCHEDULE_REQUEST (R97). -/
def execScheduleRequest (n : Fin 8) (pos : Fin 64) (s : State) : Answer := .next (s.onDev (Dev.scheduleRequest n.val pos.val))
/-- LEAVE_REQUEST (R113). -/
def execLeaveRequest (n : Fin 8) (pos : Fin 64) (req : List Byte) (s : State) : Answer := .next (s.onDev (Dev.leaveRequest n.val pos.val req))
/-- GENERATION_ACKNOWLEDGE (R94). -/
def execGenerationAcknowledge (n : Fin 8) (pos : Fin 64) (gen : BitVec 16) (s : State) : Answer :=
  .next (s.onDev (Dev.genAck n.val pos.val gen.toNat))
/-- PITCH_SILENCE (R113). -/
def execPitchSilence (n : Fin 8) (pitch : Fin 32) (s : State) : Answer := .next (s.onDev (Dev.pitchSilence n.val pitch.val))
/-- LOAD_SCHEDULE (R94). -/
def execLoadSchedule (p : Packet) (s : State) : Answer := .next (s.onDev (Dev.packet opLoadSchedule p))
/-- GET_SEGMENT_STATUS (R409). -/
def execGetSegmentStatus (p : Packet) (s : State) : Answer := .next (s.onDev (Dev.packet opGetSegmentStatus p))
/-- GRANT_PITCH (R112). -/
def execGrantPitch (p : Packet) (s : State) : Answer := .next (s.onDev (Dev.packet opGrantPitch p))
/-- REVOKE_PITCH (R113). -/
def execRevokePitch (p : Packet) (s : State) : Answer := .next (s.onDev (Dev.packet opRevokePitch p))
/-- SEND_ASYNC (R409). -/
def execSendAsync (p : Packet) (s : State) : Answer := .next (s.onDev (Dev.packet opSendAsync p))
/-- GET_LINK_STATS (R409). -/
def execGetLinkStats (p : Packet) (s : State) : Answer := .next (s.onDev (Dev.packet opGetLinkStats p))
/-- FENCE_NODE (R109). -/
def execFenceNode (p : Packet) (s : State) : Answer := .next (s.onDev (Dev.packet opFenceNode p))
/-- ASYNC_REPLY_TIMEOUT (R409). -/
def execAsyncReplyTimeout (n : Fin 10) (tag : BitVec 16) (s : State) : Answer := .next (s.onDev (Dev.asyncReplyTimeout n.val tag.toNat))

end Sys2Proof.Machine
end

