-- ==== Sys2Proof/Machine/EngineRules.lean ====
section
/-! DEFINITION. Sys2Proof/Machine/EngineRules.lean: the lane plan, its levels, the deadlines, the budget check and the pair rules of the
axis parameters (R152 to R167, R206 to R210). Times here are in 1/30 ns from the reference instant, so every term is whole. -/
namespace Sys2Proof.Machine

/-- Axis parameters as a function of axis and offset: the live set, or the set that a commit would make. -/
abbrev Params := Nat → Nat → Nat
/-- Axis masters of an axis: MASTER and REG_MASTER with KIND = 1 (R153, R208). -/
def axisMasters (P : Params) (a : Nat) : List Nat :=
  ([P a pMASTER, P a pREG_MASTER].filter (fun w => bitsOf w 1 0 == 1)).map (fun w => bitsOf w 25 16)
/-- Level of an axis (R153); beyond 3, and for a cycle of masters, 4 or more. -/
def levelOf (P : Params) : Nat → Nat → Nat
  | 0, _ => 4
  | fuel + 1, a => (axisMasters P a).foldl (fun m x => max m (1 + levelOf P fuel x)) 0
/-- Virtual axes (R182, R207). -/
def virtualAxes (P : Params) : List Nat := (List.range 512).filter (fun a => optVirtual (P a))
/-- The default plan (R154). A pitch stands at its lowest position. -/
def defaultPlan (g : Generation) (P : Params) : List PlanEntry :=
  let lv := fun a => levelOf P 4 a
  let virt := (virtualAxes P).zipIdx.map (fun v => (⟨v.1, 28 + v.2 % 4, lv v.1⟩ : PlanEntry))
  let binds := genBinds g
  let place := fun (x : Bind) => match x.pitch with
    | none => x.pos
    | some k => (((g.blocks.find? (fun b => b.port == x.port)).bind (fun b => b.pitches[k]?)).map (·.lo)).getD 0
  virt ++ (List.range 8).flatMap (fun n => (List.range 64).reverse.flatMap (fun p =>
    (binds.filter (fun x => x.port == n && place x == p)).map (fun x => (⟨x.axis, 4 * n + x.k % 4, lv x.axis⟩ : PlanEntry))))
/-- The plan of a generation: an entry count of 0 selects the default plan (R154, R410). The manual does not say when the default plan is formed: it is
fixed, lanes and levels, when the generation becomes active (`formPlan`), and formed from the parameters given while it waits (DESIGN CHOICE). -/
def planOf (g : Generation) (P : Params) : List PlanEntry := if g.plan.isEmpty then g.formed.getD (defaultPlan g P) else g.plan
/-- A generation with its default plan fixed as it becomes active (R154; DESIGN CHOICE: the manual does not say when the plan is formed). -/
def formPlan (P : Params) (g : Generation) : Generation := { g with formed := some (defaultPlan g P) }
/-- The sequence of a lane. -/
def laneSeq (plan : List PlanEntry) (l : Nat) : List Nat := (plan.filter (fun e => e.lane == l)).map (·.axis)

/-- Block time in 1/30 ns. -/
def tb30 (rate : Nat) : Int := 384 * 2 ^ (2 - min rate 2)
/-- The downlink slot of an end in a block (R89, R160). -/
def downSlot (b : SchedBlock) (head : Bool) : Option SlotEntry := b.slots.find? (fun e => e.kind == if head then 3 else 4)
/-- Instant of downlink record `r` at an end (R89). -/
def recordTime (b : SchedBlock) (head : Bool) (r : Nat) : Int :=
  match downSlot b head with
  | some e => 240 * (entryTime head e : Int) + tb30 b.rate * (((18 + 16 * r + 1) / 8 : Nat) : Int)
  | none => 240 * (b.down : Int)
/-- The block of a segment in a generation. -/
def blockOf (g : Generation) (port : Nat) : Option SchedBlock := g.blocks.find? (fun b => b.port == port)
/-- Deadline of an axis at an end (R160). For an axis without a record that is no master, the manual does not say which segment's downlink phase counts:
that of the generation's first block does (DESIGN CHOICE). -/
def deadlineOf (g : Generation) (P : Params) (binds : List Bind) (axes : List Nat) (head : Bool) : Nat → Nat → Int
  | 0, _ => 0
  | fuel + 1, a =>
    match binds.find? (fun x => x.axis == a) with
    | some x => match blockOf g x.port with
      | some b => recordTime b head x.record - 6000
      | none => 0
    | none =>
      let slaves := axes.filter (fun s => (axisMasters P s).contains a)
      let start := 240 * ((((g.blocks.head?).map (·.down)).getD 0 : Nat) : Int) - 6000
      match slaves.map (deadlineOf g P binds axes head fuel) with
      | [] => start
      | t :: ts => ts.foldl min t
/-- Worst-case ready time of a bound axis's record (R162). -/
def readyTime (g : Generation) (x : Bind) (head : Bool) : Int :=
  match blockOf g x.port with
  | none => 0
  | some b => match b.slots[x.slot]? with
    | none => 0
    | some e =>
      let w := 240 * (entryTime head e : Int) + tb30 b.rate + 480 + tb30 b.rate * (frameBlocks e.maxPay : Int) + 960
      if b.pipelined then max 960 (w - 240 * (b.period : Int)) else w
/-- Uplink slot of a node position in a block. -/
def uplinkSlot (b : SchedBlock) (pos : Nat) : Option Nat := (b.slots.zipIdx.find? (fun s => s.1.kind == 2 && s.1.owner == pos)).map (·.2)
/-- Ready time of the uplink slot of a registration node source: (segment, position) (R269). -/
def markReady (g : Generation) (m : Option (Nat × Nat)) (head : Bool) : Int :=
  match m with
  | some (n, pos) => match (blockOf g n).bind (fun b => uplinkSlot b pos) with
    | some s => readyTime g ⟨0, n, pos, none, s, 0, 0⟩ head
    | none => 0
  | none => 0
/-- The budget check of R162 for one end: the axes that miss their deadline, in the order of the simulation. -/
def budgetFails (g : Generation) (P : Params) (plan : List PlanEntry) (cost : Nat → Nat) (marks : Nat → Option (Nat × Nat)) (head : Bool) : List Nat :=
  let binds := genBinds g
  let axes := plan.map (·.axis)
  let order := (List.range 4).flatMap (fun v => (List.range 32).flatMap (fun l => plan.filter (fun e => e.level == v && e.lane == l)))
  let r := order.foldl (fun (acc : List (Nat × Int) × List (Nat × Int) × List Nat) e =>
    let lane := ((acc.1.find? (fun p => p.1 == e.lane)).map (·.2)).getD 0
    let ready := match binds.find? (fun x => x.axis == e.axis) with | some x => max 0 (readyTime g x head) | none => 0
    let ready := max ready (max 0 (markReady g (marks e.axis) head))
    let ready := (axisMasters P e.axis).foldl (fun m x => max m (((acc.2.1.find? (fun p => p.1 == x)).map (·.2)).getD 0)) ready
    let fin := max lane ready + 25 * (cost e.axis : Int)
    (putKey e.lane fin acc.1, putKey e.axis fin acc.2.1, if deadlineOf g P binds axes head 4 e.axis < fin then acc.2.2 ++ [e.axis] else acc.2.2))
    (([] : List (Nat × Int)), ([] : List (Nat × Int)), ([] : List Nat))
  r.2.2
/-- Place of a rule that fails on axis `a` (R24). -/
def axisPlace (a : Nat) : Nat := 0x8000 + a
/-- Levels of a lane's entries never decrease. -/
def risingLevels : List PlanEntry → Bool
  | a :: b :: t => a.level ≤ b.level && risingLevels (b :: t)
  | _ => true
/-- Rule 1 of R167. -/
def engineRule1 (g : Generation) (P : Params) (failed : Nat) : Option (Nat × Nat) :=
  let plan := planOf g P
  let want := (genBinds g).map (·.axis) ++ virtualAxes P
  let bad := (List.range 512).find? (fun a =>
    let n := (plan.filter (fun e => e.axis == a)).length
    if want.contains a then n != 1 else n != 0)
  let lane := plan.find? (fun e => 32 ≤ e.lane || bitAt failed e.lane)
  match bad, lane with
  | some a, _ => some (1, axisPlace a)
  | none, some e => some (1, axisPlace e.axis)
  | none, none => none
/-- Rule 2 of R167. -/
def engineRule2 (g : Generation) (P : Params) : Option (Nat × Nat) :=
  let plan := planOf g P
  match plan.find? (fun e => e.level != levelOf P 4 e.axis || 4 ≤ levelOf P 4 e.axis) with
  | some e => some (2, axisPlace e.axis)
  | none => if (List.range 32).all (fun l => risingLevels (plan.filter (fun e => e.lane == l))) then none else some (2, 0x0400)
/-- Rule 3 of R167: the budget check from each end that may hold the permit. -/
def engineRule3 (g : Generation) (P : Params) (cost : Nat → Nat) (marks : Nat → Option (Nat × Nat)) : Option (Nat × Nat) :=
  let ends := if g.blocks.any (fun b => b.closed && decide (b.port < 8)) then [true, false] else [true]
  ((ends.flatMap (budgetFails g P (planOf g P) cost marks)).head?).map (fun a => (3, axisPlace a))

/-- FP32 parameter offsets (R206). -/
def fpParams : List Nat :=
  [pVMAX, pTLIM, pFE_STATIC, pFE_VEL, pSTOP_DECEL, pJOG_ACCEL, pKP, pKI, pKD, pIP_LIM, pKVFF, pKAFF, pKJFF, pKVP, pKVI, pIV_LIM, pFRIC_C, pFRIC_V,
   pFRIC_VBAND, pDOB_A, pDOB_L1, pDOB_L2, pDOB_GAIN, pREG_GAIN] ++
  (List.range 2).flatMap (fun s => (List.range 5).map (pPBQ s)) ++ (List.range 4).flatMap (fun s => (List.range 5).map (pVBQ s))
/-- FP32 comparisons with 0 as the law reads values (R179, R210). -/
def fpPos (x : Nat) : Bool := decide (0 < fpVal x)
def fpNonneg (x : Nat) : Bool := decide (0 ≤ fpVal x)
/-- Stability of a biquad stage (rule 23). -/
def biquadOk (na1 na2 : Nat) : Bool :=
  decide ((fpVal na2).natAbs < 2 ^ 149) && decide (((fpVal na1).natAbs : Int) < 2 ^ 149 - fpVal na2)
/-- The pair rules 16 to 27 of R210 for one axis; `old` is the live set, `cam` reads the cam area, `on` says the axis is enabled. -/
def axisRule (P old : Params) (cam : Nat → Nat → Nat) (on : Bool) (a rule : Nat) : Bool :=
  let p := P a
  let mode := optMode p
  let masterOk := fun w => match bitsOf w 1 0 with
    | 1 => bitsOf w 25 16 < 512 && bitsOf w 25 16 != a
    | 2 => bitsOf w 25 16 < 4
    | _ => true
  match rule with
  | 16 => !((mode == 3 || mode == 4) && bitsOf (p pMASTER) 1 0 == 0) && !(optReg p && bitsOf (p pREG_MASTER) 1 0 == 0)
  | 17 => masterOk (p pMASTER) && masterOk (p pREG_MASTER)
  | 18 => 1 ≤ p pGEAR_DEN
  | 19 => mode != 4 ||
      (let t := 16 * bitsOf (p pCAM_TABLE) 9 0
       cam (t + 8) 1 == 1 && cam (cam t 4) 2 * cam (cam t 4 + 8) 8 < 2 ^ 63)
  | 20 => fpPos (p pVMAX) && fpPos (p pTLIM) && decide (fpVal (p pTLIM) * 4096 ≤ 65535 * 2 ^ 149) && fpPos (p pSTOP_DECEL) &&
      fpNonneg (p pIP_LIM) && fpNonneg (p pIV_LIM) && fpNonneg (p pFE_STATIC) && fpNonneg (p pFE_VEL) && fpNonneg (p pJOG_ACCEL) &&
      (!optFric p || fpPos (p pFRIC_VBAND))
  | 21 => (!bitAt (p pCHECK) 4 || decide (param64 p pPMIN < param64 p pPMAX)) && (!optModulo p || decide (2 ≤ param64 p pMOD_LEN))
  | 22 => fpParams.all (fun o => fpFinite (p o))
  | 23 => (optPbq p == 3 || (List.range (optPbq p)).all (fun s => biquadOk (p (pPBQ s 3)) (p (pPBQ s 4)))) &&
      (4 < optVbq p || (List.range (optVbq p)).all (fun s => biquadOk (p (pVBQ s 3)) (p (pVBQ s 4))))
  | 24 => fpNonneg (p pREG_GAIN) && decide (fpVal (p pREG_GAIN) ≤ 2 ^ 149) && decide (0 ≤ param64 p pREG_MAX) && decide (0 ≤ param64 p pREG_SLEW)
  | 25 => fpNonneg (p pDOB_L1) && decide (fpVal (p pDOB_L1) ≤ 2 ^ 149) && fpNonneg (p pDOB_L2)
  | 26 => !bitAt (p pPUB) 0 || (List.range 512).all (fun b => b == a || !bitAt (P b pPUB) 0 || bitsOf (P b pPUB) 25 16 != bitsOf (p pPUB) 25 16)
  | 27 => !on || (optSplit p == optSplit (old a) && optVirtual p == optVirtual (old a))
  | _ => true
/-- First failing axis rule over a list of axes: rule by rule, axes ascending (R24). -/
def axisFail (P old : Params) (cam : Nat → Nat → Nat) (on : Nat → Bool) (axes : List Nat) : Option (Nat × Nat) :=
  (((List.range 12).map (· + 16)).flatMap (fun r => axes.map (fun a => (r, a)))).find? (fun x => !axisRule P old cam (on x.2) x.2 x.1)
    |>.map (fun x => (x.1, axisPlace x.2))

/-- The live parameters of every axis. -/
def Dev.allParams (d : Dev) : Params := fun a o => d.axisLive a o
/-- Bytes of the cam and profile area (R190): the directory of 1,024 entries, then the tables. -/
def Dev.camByte (d : Dev) (a : Nat) : Byte :=
  if a < 16384 then
    match d.eng.cams.find? (fun t => t.1 == a / 16) with
    | some (_, off, bs) => ((leBytes 4 off ++ leBytes 4 bs.length ++ leBytes 1 1 ++ zeros 7)[a % 16]?).getD 0
    | none => 0
  else match d.eng.cams.find? (fun t => t.2.1 ≤ a && a < t.2.1 + t.2.2.length) with
    | some (_, off, bs) => (bs[a - off]?).getD 0
    | none => 0
/-- A little-endian field of the cam area. -/
def Dev.camField (d : Dev) (a n : Nat) : Nat := leNat ((List.range n).map (fun i => d.camByte (a + i)))
/-- Stop group of an axis. -/
def Dev.groupOf (d : Dev) (a : Nat) : Nat := axisGroup (d.params a)
/-- Whether the stop of a group is latched (R201). -/
def Dev.groupLatched (d : Dev) (g : Nat) : Bool := bitAt d.eng.latched g
/-- Whether the active generation runs in pipelined timing (R169). -/
def Dev.pipelinedTiming (d : Dev) : Bool := d.on CE_STATUS.PIPELINED
/-- A registration channel. -/
def Dev.regCh (d : Dev) (r : Nat) : RegCh := smGet (fun _ => RegCh.reset) d.acq.regs r
/-- Replace a registration channel. -/
def Dev.setReg (r : Nat) (c : RegCh) (d : Dev) : Dev := { d with acq := { d.acq with regs := smSet (fun _ => RegCh.reset) d.acq.regs r c } }
/-- Fields of a registration channel from its parameter bytes, named by their packet byte (R266, R278). -/
def regField (p : List Byte) (b n : Nat) : Nat := fieldAt p (b - 22) n
/-- Whether a registration channel is enabled. -/
def regOn (p : List Byte) : Bool := bitAt (regField p 23 1) 0
/-- The enabled registration channel with a node source that names an axis, under a channel table (R269). -/
def nodeChannel (rs : SMap RegCh) (a : Nat) : Option (Nat × RegCh) :=
  rs.find? (fun r => regOn r.2.params && regField r.2.params 26 1 == 2 && regField r.2.params 24 2 == a)
/-- The node whose uplink slot is a feedback record of an axis for its marks (R269). -/
def Dev.markNode (d : Dev) (a : Nat) : Option (Nat × Nat) :=
  (nodeChannel d.acq.regs a).map (fun r => (regField r.2.params 27 1, regField r.2.params 28 1))
/-- What the receive windows of a node's uplink slot hold in the cycle whose feedback is used: its payload, none while nothing was taken. -/
def Dev.uplinkImage (d : Dev) (n pos : Nat) : Option (List Byte) :=
  match (d.activeBlock n).bind (fun b => uplinkSlot b pos) with
  | some s =>
    let rx := if d.on CE_STATUS.PIPELINED then (d.port n).rxPrev else (d.port n).rx
    match rx.find? (fun x => x.1 == s) with
    | some (_, x) => if x.state = 0 then none else some (x.used.drop 16)
    | none => none
  | none => none
/-- The correction request of a master position (R267): the phase error and, when it is accepted, e_reg. -/
def regError (p : List Byte) (x : Int) : Int × Option Int :=
  let len := signedOf 64 (regField p 32 8)
  let ph0 := signedOf 64 (regField p 40 8)
  let win := signedOf 64 (regField p 48 8)
  let h := Int.fdiv len 2
  let m := Int.fmod (satAdd64 (satSub64 x ph0) h) len - h
  (m, if win < m.natAbs then none else some (int64Round (fpMul (regField p 56 4) (fpOfInt (-m)))))
/-- A mark is accepted or rejected (R267, R281, R282). -/
def Dev.countMark (r : Nat) (e : Int × Option Int) (d : Dev) : Dev :=
  match e.2 with
  | some _ => ((d.count (ACQ_REG_COUNTS.ACCEPTED r) 1).setReg r { d.regCh r with seen := true, missed := 0 }).set (ACQ_REG_SEQ.MISSED r) 0
  | none => (d.count (ACQ_REG_COUNTS.REJECTED r) 1).post (0x0800 + regField (d.regCh r).params 24 2) 0x041A (leBytes 1 r ++ leBytes 8 (codeOf 64 e.1))
/-- A trace unit. -/
def Dev.traceUnit (d : Dev) (u : Nat) : TraceUnit := smGet (fun _ => TraceUnit.reset) d.trc.units u
/-- Axes that count as selected by an active trace (R158, R213): probes of units that run or wait for their boundary, enabled inertia
monitors, and an axis under identification. -/
def Dev.traced (d : Dev) (a : Nat) : Bool :=
  (List.range 4).any (fun u => (d.get (TRC_USTATUS.STATE u) == 1 || d.get (TRC_USTATUS.STATE u) == 2 || (d.traceUnit u).startDue.isSome) &&
      (d.traceUnit u).probes.any (fun p => p.1 == a)) ||
    (List.range 16).any (fun k => bitAt (d.lrd (TRC_MON k)) 9 && bitsOf (d.lrd (TRC_MON k)) 8 0 == a) ||
    (match d.trc.ident with | some i => i.axis == a | none => false)
/-- Worst-case cost of an axis under a parameter set, with further axes counted as traced (R158, R213). -/
def Dev.costWith (d : Dev) (more : List Nat) (P : Params) (a : Nat) : Nat := axisCost (P a) (d.ha 0) (d.ha 1) (d.traced a || more.contains a)
/-- Worst-case cost of an axis under a parameter set (R158). -/
def Dev.costOf (d : Dev) (P : Params) (a : Nat) : Nat := d.costWith [] P a

end Sys2Proof.Machine
end

