-- ==== Sys2Proof/Machine/CanBus.lean ====
section
/-! DEFINITION. Sys2Proof/Machine/CanBus.lean: message RAM, buffers and arbitration of the CAN channels (R465 to R467, R475 to R479). -/
namespace Sys2Proof.Machine

/-- A CAN channel. -/
def Dev.canCh (d : Dev) (n : Nat) : CanCh := smGet (fun _ => CanCh.reset) d.can n
/-- Replace a channel. -/
def Dev.setCan (n : Nat) (c : CanCh) (d : Dev) : Dev := { d with can := smSet (fun _ => CanCh.reset) d.can n c }
/-- Bytes of the message RAM from offset `o`; it wraps at its 16,384 bytes (R465). -/
def Dev.canBytes (d : Dev) (n o k : Nat) : List Byte := (List.range k).map (fun i => smGet (fun _ => (0 : Byte)) (d.canCh n).ram ((o + i) % 16384))
/-- A field of the message RAM. -/
def Dev.canField (d : Dev) (n o k : Nat) : Nat := leNat (d.canBytes n o k)
/-- Put bytes into a message RAM. -/
def ramPut : List Byte → Nat → SMap Byte → SMap Byte
  | [], _, m => m
  | b :: bs, o, m => ramPut bs (o + 1) (smSet (fun _ => (0 : Byte)) m (o % 16384) b)
/-- Write bytes to the message RAM of a channel. -/
def Dev.canPut (n o : Nat) (bs : List Byte) (d : Dev) : Dev := d.setCan n { d.canCh n with ram := ramPut bs o (d.canCh n).ram }

/-- Data bytes of a DLC (ISO 11898-1). -/
def dlcLen (fdf : Bool) (dlc : Nat) : Nat :=
  if dlc ≤ 8 then dlc else if !fdf then 8 else
    match dlc with | 9 => 12 | 10 => 16 | 11 => 20 | 12 => 24 | 13 => 32 | 14 => 48 | _ => 64
/-- Data bytes of a frame given by its identifier word and DLC byte: a remote frame has none. -/
def frameLen (id dlc : Nat) : Nat := if bitAt id 30 then 0 else dlcLen (bitAt dlc 4) (dlc % 16)
/-- Offset of transmit buffer `b` (R465, R466). -/
def Dev.txOff (d : Dev) (n b : Nat) : Nat := d.lget (CAN_RAM_TX.START n) + 96 * b
/-- Number of transmit buffers. -/
def Dev.txCount (d : Dev) (n : Nat) : Nat := d.lget (CAN_RAM_TX.COUNT n)
/-- The pending entry of a buffer. -/
def Dev.canPending (d : Dev) (n b : Nat) : Option CanPend := (d.canCh n).pend.find? (fun p => p.buf == b)
/-- CAN_TX_PENDING and CAN_TX_REQ show the pending buffers (R483). -/
def Dev.showPend (n : Nat) (d : Dev) : Dev :=
  let m := ((d.canCh n).pend.map (fun p => 2 ^ p.buf)).sum
  (d.wr (CAN_TX_PENDING n) m).wr (CAN_TX_REQ n) m
/-- A buffer becomes pending, or its pending entry is replaced. -/
def Dev.pendBuffer (n : Nat) (p : CanPend) (d : Dev) : Dev :=
  let c := d.canCh n
  (d.setCan n { c with pend := (c.pend.filter (fun q => q.buf != p.buf)) ++ [p] }).showPend n
/-- A buffer is no longer pending. -/
def Dev.unpend (n b : Nat) (d : Dev) : Dev :=
  let c := d.canCh n
  ((d.setCan n { c with pend := c.pend.filter (fun q => q.buf != b) }).wr (CAN_TX_CANCEL n) (withBits (d.rd (CAN_TX_CANCEL n)) b b 0)).showPend n
/-- Write a transmit buffer whole (R466). -/
def Dev.fillBuffer (n b id dlc flags tag : Nat) (at_ tol : Nat) (data : List Byte) (d : Dev) : Dev :=
  d.canPut n (d.txOff n b) (leBytes 4 id ++ leBytes 10 at_ ++ leBytes 1 dlc ++ leBytes 1 flags ++ leBytes 4 tol ++ leBytes 4 tag ++ padTo 64 data)
/-- The place of an identifier in CAN arbitration, lower wins: a base identifier and an extended one compare by their first 11 bits, then
RTR of the base frame and SRR, IDE, the other 18 bits and RTR follow (ISO 11898-1). -/
def arbKey (id : Nat) : Nat :=
  let x := bitAt id 29
  let i := id % 2 ^ 29
  let base := if x then i / 2 ^ 18 else i % 2 ^ 11
  let rtr := flag (bitAt id 30)
  base * 2 ^ 21 + (if x then 2 ^ 20 + 2 ^ 19 + (i % 2 ^ 18) * 2 + rtr else rtr * 2 ^ 20)
/-- The pending buffer that wins arbitration among those that contend at `t` (R475): identifier order, then buffer number. -/
def Dev.canWinner (d : Dev) (n : Nat) (t : LTime) : Option Nat :=
  let ps := (d.canCh n).pend.filter (fun p => match p.since with | some s => decide (s ≤ t) | none => false)
  let key := fun (p : CanPend) => arbKey (d.canField n (d.txOff n p.buf) 4) * 32 + p.buf
  ((ps.map key).min?).map (fun k => k % 32)
/-- How a channel loops back (R462, R482, R483): 4 internal, 5 external, 0 not. CAN_CTRL.LOOPBACK acts as the external one, in Service only. -/
def Dev.canLoop (d : Dev) (n : Nat) : Nat :=
  let c := d.canCh n
  if c.loop ≠ 0 then c.loop else if bitAt (d.lrd (CAN_CTRL n)) 1 && d.mode = 11 then 5 else 0
/-- The channel may transmit: it runs, or finishes its last frame, and is not listen-only. -/
def Dev.canSends (d : Dev) (n : Nat) : Bool :=
  d.get (CAN_STATUS.STATE n) == 2 && !(d.canCh n).listen && !bitAt (d.lrd (CAN_CTRL n)) 0

/-- A Nuardsafe PDU of the `j`-th kind-3 connection of a channel is handed to its buffer (R342, R475): an FD frame of 48 bytes; it replaces
a PDU that is still pending. -/
def Dev.canPdu (n j id : Nat) (pdu : List Byte) (d : Dev) : Dev :=
  if d.get (CAN_STATUS.STATE n) ≠ 2 || 4 ≤ j || d.txCount n ≤ j then d else
    let since := match d.canPending n j with | some q => q.since | none => some d.now
    (d.fillBuffer n j (id % 2 ^ 30) (14 + 16 + 32 * flag (bitAt (d.lrd (CAN_CTRL n)) 4)) 0 0 0 0 pdu).pendBuffer n ⟨j, since, 0, false, 0, false, none⟩

/-- An entry of the transmit event FIFO (R466, R467). -/
def Dev.txEvent (n : Nat) (entry : List Byte) (d : Dev) : Dev :=
  let size := d.lget (CAN_RAM_TXE.COUNT n)
  if size ≤ d.get (CAN_TXE_STATUS.FILL n) then
    let c := d.canCh n
    let k := ((c.dropped.find? (fun p => p.1 == 2)).map (·.2)).getD 0
    ((d.set (CAN_TXE_STATUS.OVERFLOW n) 1).count32 (CAN_TXE_OVF_CNT n) 1).setCan n { c with dropped := (c.dropped.filter (fun p => p.1 != 2)) ++ [(2, k + 1)] }
  else
    let put := d.get (CAN_TXE_STATUS.PUT n)
    ((d.canPut n (d.lget (CAN_RAM_TXE.START n) + 24 * put) entry).set (CAN_TXE_STATUS.PUT n) ((put + 1) % size)).set (CAN_TXE_STATUS.FILL n)
      (d.get (CAN_TXE_STATUS.FILL n) + 1)
/-- A pending buffer ends with an event status (R466, R477) and its packet with a status and result. -/
def Dev.endBuffer (n : Nat) (p : CanPend) (status : Nat) (sof : LTime) (st : Nat) (d : Dev) : Dev :=
  let o := d.txOff n p.buf
  let d := d.unpend n p.buf
  let d := d.when (bitAt (d.canField n (o + 15) 1) 0) (fun d => d.txEvent n
    (d.canBytes n o 4 ++ leBytes 10 sof ++ d.canBytes n (o + 14) 1 ++ leBytes 1 status ++ d.canBytes n (o + 20) 4 ++ zeros 4))
  let d := d.when (status == 0 || status == 3) (Dev.wr (CAN_TX_SENT n) (withBits (d.rd (CAN_TX_SENT n)) p.buf p.buf 1))
  let d := d.when (status != 0 && status != 3) (Dev.post (0x0D00 + n) 0x0D08 (leBytes 1 p.buf ++ leBytes 1 status))
  d.completeOpt p.ref st d.now (if st = 0 || st = stLATE then leBytes 10 sof ++ leBytes 1 p.buf ++ leBytes 1 (min 255 p.attempts) else [])
/-- The stop of a channel is complete (R481): frames still pending end with status 5, their packets with WRONG_MODE. -/
def Dev.canStopped (n : Nat) (d : Dev) : Dev :=
  let ps := (d.canCh n).pend
  let ref := (d.canCh n).stopRef
  let d := d.forEach ps (fun p d => d.endBuffer n p 5 0 stWRONG_MODE)
  let d := (d.setCan n { d.canCh n with stopRef := none, listen := false, loop := 0 }).set (CAN_STATUS.STATE n) 0
  (d.emit (.pin "CAN_TX" n true)).completeOpt ref stOK d.now []

end Sys2Proof.Machine
end

