-- ==== Sys2Proof/Machine/SafetyRules.lean ====
section
/-! DEFINITION. Sys2Proof/Machine/SafetyRules.lean: the safety parameter set (R330, R331, R339) and its rules 90 and 91 (R343). -/
namespace Sys2Proof.Machine

/-- Number of connection entries of a set. -/
def connCount (set : List Byte) : Nat := fieldAt set 12 2
/-- Number of signal map entries. -/
def mapCount (set : List Byte) : Nat := fieldAt set 14 1
/-- Input entry `n` (R330). -/
def inEntry (set : List Byte) (n : Nat) : List Byte := padTo 8 (set.drop (32 + 8 * n))
/-- Output entry `n`. -/
def outEntry (set : List Byte) (n : Nat) : List Byte := padTo 16 (set.drop (96 + 16 * n))
/-- Connection entry `c` (R339). -/
def connEntry (set : List Byte) (c : Nat) : List Byte := padTo 32 (set.drop (160 + 32 * c))
/-- Signal map entry `k`. -/
def mapEntry (set : List Byte) (k : Nat) : List Byte := padTo 4 (set.drop (160 + 32 * connCount set + 4 * k))
/-- The check code of a set (R331): the CRC over the set with bytes 2 and 3 read as zero. -/
def checkCode (set : List Byte) : Nat := crc16 (spliceAt set 2 [0, 0])
/-- Whether a set passes the checks of R331, its fields are in range (R330) and no CAN channel has more than four connections (R470). -/
def setOk (set : List Byte) : Bool :=
  let code := fieldAt set 2 2
  let w := fieldAt set 16 2
  let t := fieldAt set 18 2
  decide (160 ≤ set.length) && fieldAt set 0 2 == 1 && fieldAt set 8 4 == set.length && code == checkCode set && code != 0 && code != 0xFFFF &&
    decide (connCount set ≤ 1088) && decide (mapCount set ≤ 32) && set.length == 160 + 32 * connCount set + 4 * mapCount set &&
    decide (100 ≤ w) && decide (w ≤ 1000) && decide (10 ≤ t) && decide (t ≤ 1000) &&
    (List.range (connCount set)).all (fun c => let e := connEntry set c
      decide (1 ≤ fieldAt e 4 1) && decide (fieldAt e 4 1 ≤ 3) && [24, 25, 26, 27].all (fun o => fieldAt e o 1 == 0xFF || decide (fieldAt e o 1 < 64))) &&
    (List.range (mapCount set)).all (fun k => decide (fieldAt (mapEntry set k) 3 1 < 8)) &&
    (List.range 2).all (fun ch => (List.range (connCount set)).countP (fun c => fieldAt (connEntry set c) 4 1 == 3 && fieldAt (connEntry set c) 11 1 == ch) ≤ 4) &&
    (List.range 8).all (fun n => let e := inEntry set n
      !bitAt (fieldAt e 0 1) 0 || (decide (fieldAt e 1 1 ≤ 3) && decide (fieldAt e 2 1 ≤ 3) && decide (1 ≤ fieldAt e 4 2) && decide (fieldAt e 4 2 ≤ 500)))

/-- Cycles between two safety slots of kind `k` that serve position `p` on a port (R92). -/
def slotGap (b : SchedBlock) (k p : Nat) : Option Nat :=
  let span := if b.span = 0 then 64 else b.span
  let gaps := b.slots.filterMap (fun e =>
    if e.kind ≠ k then none
    else if k = 6 then some 1
    else if e.owner = p then some 1
    else if e.owner = 0xFC && p < span then some ((span + max 1 e.group - 1) / max 1 e.group)
    else none)
  gaps.min?
/-- Longest interval between two safety slots of a connection in a generation, in ns (R343): none when the generation gives it no slot. -/
def connGap (e : List Byte) (g : Generation) : Option Nat :=
  let addr := fieldAt e 8 3
  match fieldAt e 4 1 with
  | 1 => match g.blocks.find? (fun b => b.port == addr / 4096 % 16) with
    | some b =>
      let span := if b.span = 0 then 64 else b.span
      let down := b.slots.filterMap (fun s => if s.kind = 6 then some (if s.group = 0 then 1 else (span + s.group - 1) / s.group) else none)
      match slotGap b 5 (addr % 64), down.min? with
      | some u, some w => some (max u w * b.period * 8)
      | _, _ => none
    | none => none
  | 2 => (((g.blocks.filter (fun b => 16 ≤ b.port)).filterMap (fun b => if b.slots.any (fun s => s.kind == 6) then some (b.period * 8) else none)).max?)
  | _ => some 0
/-- Rule 90 for one entry and one generation. -/
def rule90 (lease : Nat) (e : List Byte) (g : Generation) : Bool :=
  let wd := fieldAt e 6 2 * 250000
  (match connGap e g with | some n => decide (n + 250000 ≤ wd) | none => false) &&
    (fieldAt e 4 1 != 1 || g.dormant || (match g.blocks.find? (fun b => b.port == fieldAt e 8 3 / 4096 % 16) with
      | some b => !b.closed || decide ((lease + 2) * b.period * 8 ≤ wd)
      | none => true))
/-- Rules 90 and 91 over a set and the generations it meets (R343): the first failing rule and its place. -/
def safetyFail (set : List Byte) (lease : Nat) (gens : List Generation) : Option (Nat × Nat) :=
  let cs := List.range (connCount set)
  let e := connEntry set
  match cs.find? (fun c => fieldAt (e c) 6 2 < 3 || gens.any (fun g => !rule90 lease (e c) g)) with
  | some c => some (90, 0x9000 + c)
  | none =>
    match cs.find? (fun c =>
      let id := fieldAt (e c) 0 4
      let addr := fieldAt (e c) 8 3
      id == 0 || (cs.take c).any (fun k => fieldAt (e k) 0 4 == id) ||
        (match fieldAt (e c) 4 1 with
         | 1 => !(decide (addr / 4096 % 16 < 8) && addr / 64 % 64 == 0)
         | 2 => !(addr % 65536 == 0xF000)
         | 3 => decide (1 < fieldAt (e c) 11 1)
         | _ => true)) with
    | some c => some (91, 0x9000 + c)
    | none =>
      if (List.range (mapCount set)).any (fun k => connCount set ≤ fieldAt (mapEntry set k) 0 2 || 32 ≤ fieldAt (mapEntry set k) 2 1) then some (91, 0x0C00)
      else none
/-- The dormant generation of the package (R52, R450): the first image that is marked dormant. -/
def Dev.dormantGen (d : Dev) : Option Generation :=
  match d.sys.package with
  | some k => k.dormant.bind (fun n => ((k.images.map parseImage).find? (fun g => g.num == n)))
  | none => none
/-- The generations that a safety set is checked against (R343). -/
def Dev.safetyGens (d : Dev) : List Generation := d.cyc.active.toList ++ d.cyc.pending.toList ++ d.dormantGen.toList
/-- The check of R343 of the active set against the generations in hand and one more. -/
def Dev.safetyFailWith (d : Dev) (g : List Generation) (lease : Nat) : Option (Nat × Nat) :=
  match d.saf.active with
  | some set => safetyFail set lease (d.safetyGens ++ g)
  | none => none

end Sys2Proof.Machine
end

