-- ==== Sys2Proof/Machine/Fp64.lean ====
section
/-! DEFINITION. Sys2Proof/Machine/Fp64.lean: the binary64 arithmetic of the inertia monitor (R228): codes as numbers, every result
rounded to nearest, ties to even. Results in the subnormal range keep their exact multiple of 2^-1074. -/
namespace Sys2Proof.Machine

/-- Value of a finite binary64 code in units of 2^-1074. -/
def dVal (x : Nat) : Int :=
  let e := bitsOf x 62 52
  let m := if e = 0 then bitsOf x 51 0 else (2 ^ 52 + bitsOf x 51 0) * 2 ^ (e - 1)
  if bitAt x 63 then -(m : Int) else m
/-- Whether a binary64 code is finite. -/
def dFinite (x : Nat) : Bool := bitsOf x 62 52 != 2047
/-- The magnitude `n / d` in units of 2^-1074, rounded to a binary64 code; beyond the largest finite value, infinity. -/
def dRoundMag (n d : Nat) : Nat :=
  if n = 0 || d = 0 then 0 else
    let len := Nat.log2 (n / d + 1) + 1
    let s := if n / d < 2 ^ 53 then 0 else (if 2 ^ (len - 1) ≤ n / d then len else len - 1) - 53
    let q := n / (d * 2 ^ s)
    let r := n % (d * 2 ^ s)
    let q := if 2 * r < d * 2 ^ s then q else if d * 2 ^ s < 2 * r then q + 1 else q + q % 2
    let s' := if q = 2 ^ 53 then s + 1 else s
    let q := if q = 2 ^ 53 then 2 ^ 52 else q
    if q < 2 ^ 52 then q
    else if 2046 ≤ s' + 1 then 2047 * 2 ^ 52
    else (s' + 1) * 2 ^ 52 + (q - 2 ^ 52)
/-- The exact value `n / d` in units of 2^-1074 as a binary64 code. -/
def dRound (n : Int) (d : Nat) : Nat := (if n < 0 then 2 ^ 63 else 0) + dRoundMag n.natAbs d
/-- Sum. -/
def dAdd (x y : Nat) : Nat := dRound (dVal x + dVal y) 1
/-- Difference. -/
def dSub (x y : Nat) : Nat := dRound (dVal x - dVal y) 1
/-- Product. -/
def dMul (x y : Nat) : Nat := dRound (dVal x * dVal y) (2 ^ 1074)
/-- Quotient by a nonzero value. -/
def dDiv (x y : Nat) : Nat :=
  dRound ((if dVal y < 0 then -(dVal x) else dVal x) * 2 ^ 1074) (dVal y).natAbs
/-- Integer square root, bit by bit. -/
def isqrt (n : Nat) : Nat := (List.range (Nat.log2 n / 2 + 1)).reverse.foldl (fun r b => if (r + 2 ^ b) ^ 2 ≤ n then r + 2 ^ b else r) 0
/-- Square root of a value that is not negative: 64 further bits and a sticky bit decide the rounding. -/
def dSqrt (x : Nat) : Nat :=
  let v := (dVal x).natAbs * 2 ^ 1074 * 2 ^ 128
  let s := isqrt v
  dRound (2 * (s : Int) + (if s * s = v then 0 else 1)) (2 ^ 65)
/-- One as binary64. -/
def dOne : Nat := 0x3FF0000000000000
/-- An FP32 value as binary64, exact. -/
def dOfFp32 (x : Nat) : Nat := dRound (fpVal x * 2 ^ 925) 1

end Sys2Proof.Machine
end

