-- ==== Sys2Proof/Machine/Trace.lean ====
section
/-! DEFINITION. Sys2Proof/Machine/Trace.lean: trace units, axis identification, calibration records and the inertia monitor (R212 to R230). -/
namespace Sys2Proof.Machine

/-- Replace a trace unit. -/
def Dev.setUnit (u : Nat) (t : TraceUnit) (d : Dev) : Dev :=
  { d with trc := { d.trc with units := smSet (fun _ => TraceUnit.reset) d.trc.units u t } }
/-- First byte and length of unit `u`'s quarter of the trace spill partition (R37, R217). -/
def Dev.spillRing (d : Dev) (u : Nat) : Nat × Nat :=
  match d.sys.package with
  | some k => (k.dramCapture + k.dramStock + u * (k.dramSpill / 4), k.dramSpill / 4)
  | none => (0, 0)

/-- The words of a unit that a commit captures (R218). -/
def traceRegs (u : Nat) : List Nat :=
  [TRC_UCTRL u, TRC_UPRE u, TRC_UPOST u, TRC_ULEVEL u, TRC_UREGION u] ++ (List.range 8).map (TRC_UPROBE u)
/-- DEST of a control word; 3 acts as 0. -/
def traceDest (c : Nat) : Nat := if bitsOf c 1 0 = 3 then 0 else bitsOf c 1 0
/-- Probes named by the words `w` of unit `u`: axis and node. -/
def traceProbes (w : Nat → Nat) (u : Nat) : List (Nat × Nat) :=
  (List.range (bitsOf (w (TRC_UCTRL u)) 8 4)).map (fun p =>
    let x := w (TRC_UPROBE u (p / 2))
    if p % 2 = 0 then (bitsOf x 8 0, bitsOf x 13 9) else (bitsOf x 24 16, bitsOf x 29 25))
/-- Bytes a node takes (R215). -/
def nodeSize (n : Nat) : Nat := if n < 3 then 8 else 4
/-- Sample size (R215). -/
def sampleSize (probes : List (Nat × Nat)) : Nat := (8 + (probes.map (fun p => nodeSize p.2)).sum + 7) / 8 * 8
/-- PRE as it acts: 0 for an immediate trigger (R216). -/
def tracePre (w : Nat → Nat) (u : Nat) : Nat := if bitsOf (w (TRC_UCTRL u)) 3 2 = 0 then 0 else bitsOf (w (TRC_UPRE u)) 23 0
/-- Samples that the destination holds after its header: of DEST 0 and 1, or none where it has no bound. -/
def Dev.traceCapacity (d : Dev) (w : Nat → Nat) (u : Nat) : Option Nat :=
  let s := sampleSize (traceProbes w u)
  match traceDest (w (TRC_UCTRL u)) with
  | 0 => some ((bitsOf (w (TRC_UREGION u)) 14 8 * 65536 - 64) / s)
  | 1 => some (((d.spillRing u).2 - 64) / s)
  | _ => none
/-- Rules 40 to 43 of R219 on the shadow words: rule and place. -/
def Dev.traceRule (d : Dev) (u : Nat) : Option (Nat × Nat) :=
  let w := d.rd
  let c := w (TRC_UCTRL u)
  let n := bitsOf c 8 4
  let probes := traceProbes w u
  let base := bitsOf (w (TRC_UREGION u)) 5 0
  let size := bitsOf (w (TRC_UREGION u)) 14 8
  let trig := bitsOf c 3 2
  if n = 0 || 16 < n then some (40, 0x0400)
  else match probes.find? (fun p => 511 < p.1 || 23 < p.2) with
    | some p => some (40, axisPlace p.1)
    | none =>
      let overlap := (List.range 4).any (fun v => v != u && (d.get (TRC_USTATUS.STATE v) == 1 || d.get (TRC_USTATUS.STATE v) == 2) &&
        decide (base < d.lget (TRC_UREGION.BASE v) + d.lget (TRC_UREGION.SIZE v)) && decide (d.lget (TRC_UREGION.BASE v) < base + size))
      if size = 0 || 64 < base + size || overlap || (size * 65536 - 64) / sampleSize probes < tracePre w u + 2 then some (41, 0x0400)
      else if (trig = 1 || trig = 2) && decide ((probes.headD (0, 0)).2 < 3) then some (42, axisPlace (probes.headD (0, 0)).1)
      else if traceDest c = 1 && (d.spillRing u).2 = 0 then some (43, 0x0400)
      else if traceDest c = 2 && d.get STO_STATUS.MOUNTED = 0 then some (43, 0x0400)
      else none
/-- The budget check with further axes traced (R213): rule 3 on the active plan and, during a countdown, on the pending one. -/
def Dev.tracedFail (d : Dev) (axes : List Nat) : Option (Nat × Nat) :=
  let gens := d.cyc.active.toList ++ (if d.cyc.countdown.isSome then d.cyc.pending.toList else [])
  gens.findSome? (fun g => engineRule3 g d.allParams (d.costWith axes d.allParams) d.markNode)
/-- The modes in which traces run (R218, R221). -/
def traceModes : List Nat := [6, 7, 8, 9, 11]
/-- A start of a unit is checked and captured (R218, R219): the failing rule with its place, or the unit with its start due. -/
def Dev.startTrace (u : Nat) (ref : Option PktRef) (d : Dev) : Option (Nat × Nat) × Dev :=
  match d.traceRule u with
  | some r => (some r, d)
  | none =>
    let probes := traceProbes d.rd u
    match d.tracedFail (probes.map (·.1)) with
    | some r => (some r, d)
    | none => (none, d.setUnit u { d.traceUnit u with words := d.capture (traceRegs u), startDue := some ref, probes := probes, size := sampleSize probes })
/-- Whether a unit runs or waits to start. -/
def Dev.traceBusy (d : Dev) (u : Nat) : Bool :=
  d.get (TRC_USTATUS.STATE u) == 1 || d.get (TRC_USTATUS.STATE u) == 2 || (d.traceUnit u).startDue.isSome
/-- START_TRACE's result: sample size and capacity in samples (R221). -/
def Dev.traceResult (d : Dev) (u : Nat) : List Byte :=
  let s := sampleSize (traceProbes d.lrd u)
  leBytes 2 s ++ leBytes 2 (min 65535 ((d.traceCapacity d.lrd u).getD 65535))
/-- 0x030B START_TRACE (R221). -/
def opStartTrace : Opcode :=
  { code := 0x030B, sched := true, modes := fun _ => modeIn traceModes,
    run := fun p ref d =>
      let u := par p 22 1
      if 4 ≤ u then (.bad stBAD_PARAMETER, d)
      else if d.traceBusy u then (.bad stBUSY, d)
      else match d.startTrace u (some ref) with
        | (some r, d) => (.done stCONSISTENCY (ruleResult r.1 r.2), d)
        | (none, d) => (.later, d) }
/-- A stop of a unit waits for the next boundary (R219). -/
def Dev.stopTrace (u : Nat) (d : Dev) : Dev :=
  let t := d.traceUnit u
  if d.get (TRC_USTATUS.STATE u) = 1 || d.get (TRC_USTATUS.STATE u) = 2 then d.setUnit u { t with stopDue := true } else d
/-- 0x030C STOP_TRACE (R221). -/
def opStopTrace : Opcode :=
  { code := 0x030C, modes := fun _ => modeIn traceModes,
    run := fun p _ d =>
      let m := par p 22 1
      (.done stOK [], d.forEach ((List.range 4).filter (bitAt m)) Dev.stopTrace) }
/-- UCMD_START (R218, R229): as START_TRACE; a failure sets REFUSED, with the rule in TRC_USAMPLES. -/
def Dev.ucmdStart (u : Nat) (d : Dev) : Dev :=
  if d.on (TRC_UCMD.START u) then d
  else if !traceModes.contains d.mode || d.traceBusy u then d.set (TRC_USTATUS.REFUSED u) 1
  else match d.startTrace u none with
    | (some r, d) => (d.set (TRC_USTATUS.REFUSED u) 1).wr (TRC_USAMPLES u) r.1
    | (none, d) => d.set (TRC_UCMD.START u) 1
/-- UCMD_STOP (R218, R229). -/
def Dev.ucmdStop (u : Nat) (d : Dev) : Dev := if traceModes.contains d.mode then (d.set (TRC_UCMD.STOP u) 1).stopTrace u else d

/-- The trace header (R221): `trig` and `kept` change when the unit triggers. -/
def traceHeader (u trig : Nat) (ctrl : Nat) (t : TraceUnit) : List Byte :=
  leBytes 1 u ++ leBytes 1 t.probes.length ++ leBytes 2 ((bitsOf ctrl 31 16 + 65535) % 65536) ++ leBytes 4 t.period ++ leBytes 10 t.t0 ++
    leBytes 4 trig ++ leBytes 3 t.kept ++ leBytes 1 (t.size / 8) ++
    padTo 32 (t.probes.flatMap (fun p => leBytes 2 (p.1 + 512 * p.2))) ++ leBytes 2 t.gen ++ zeros 4
/-- Write the header where the unit's samples go (R217). -/
def Dev.writeHeader (u trig : Nat) (d : Dev) : Dev :=
  let t := d.traceUnit u
  let h := traceHeader u trig (d.lrd (TRC_UCTRL u)) t
  match traceDest (d.lrd (TRC_UCTRL u)) with
  | 0 => { d with trc := { d.trc with sram := putBytes d.trc.sram (65536 * d.lget (TRC_UREGION.BASE u)) h } }
  | 1 => { d with dram := putBytes d.dram (d.spillRing u).1 h }
  | _ => d.setUnit u { t with storeBytes := h ++ t.storeBytes.drop 64 }
/-- Samples still to take after the trigger sample (R216, R218): POST, the rest of a region, or endless. -/
def Dev.traceLeft (d : Dev) (u kept : Nat) : Option Nat :=
  let post := d.lrd (TRC_UPOST u)
  if traceDest (d.lrd (TRC_UCTRL u)) = 0 then
    let rest := ((d.traceCapacity d.lrd u).getD 0) - kept - 1
    some (if post = 0 then rest else min post rest)
  else if post = 0 then none else some post
/-- A unit starts at the boundary that opens the present cycle (R218). -/
def Dev.beginTrace (u : Nat) (ref : Option PktRef) (d : Dev) : Dev :=
  let t := d.traceUnit u
  let d := d.goLiveAll t.words
  let trig := d.lget (TRC_UCTRL.TRIG u)
  let d := ((d.wr (TRC_USAMPLES u) 0).wr (TRC_UWPTR u) 0).wr (TRC_UTRIG u) 0
  let d := ((d.set (TRC_USTATUS.TRIGGERED u) 0).set (TRC_USTATUS.CAUSE u) 0).set (TRC_USTATUS.REFUSED u) 0
  let d := d.set (TRC_UCMD.START u) 0
  let gen := (d.cyc.active.map (·.num)).getD 0
  let d := d.setUnit u { t with
    words := [], startDue := none, stopDue := false, c0 := d.cyc.count, lastC := d.cyc.count, elapsed := 0, t0 := d.cyc.ref, period := d.periodNs / 8, gen := gen, prev := none, kept := 0,
    left := none, dropped := false, dropNow := 0, lastGen := gen, trigAt := none, storeBytes := [] }
  let d := if trig = 0 then
      let d := d.setUnit u { d.traceUnit u with left := (d.traceLeft u 0).map (· + 1) }
      let d := ((d.set (TRC_USTATUS.STATE u) 2).set (TRC_USTATUS.TRIGGERED u) 1).wr (TRC_UTRIG u) d.cyc.count
      (d.writeHeader u d.cyc.count).post 0x0400 0x0407 (leBytes 1 u ++ leBytes 4 d.cyc.count)
    else (d.set (TRC_USTATUS.STATE u) 1).writeHeader u 0xFFFFFFFF
  d.completeOpt ref stOK d.now (d.traceResult u)
/-- The transitions of R218 at a cycle boundary: trigger, stop, completion, start. -/
def Dev.traceBoundary (d : Dev) : Dev :=
  d.forN 4 (fun u d =>
    let t := d.traceUnit u
    let d := match t.trigAt with
      | some c =>
        let d := ((d.set (TRC_USTATUS.STATE u) 2).set (TRC_USTATUS.TRIGGERED u) 1).wr (TRC_UTRIG u) c
        let d := d.setUnit u { t with trigAt := none }
        (d.writeHeader u c).post 0x0400 0x0407 (leBytes 1 u ++ leBytes 4 c)
      | none => d
    let t := d.traceUnit u
    let d := if t.stopDue then (d.endTrace u 1).set (TRC_UCMD.STOP u) 0
      else if d.get (TRC_USTATUS.STATE u) = 2 && t.left == some 0 then d.endTrace u 0 else d
    match (d.traceUnit u).startDue with
    | some ref => d.beginTrace u ref
    | none => d)

/-- The value of a probe, when its axis was computed in this cycle (R214). -/
def Dev.probeValue (d : Dev) (p : Nat × Nat) : Option Nat :=
  let s := d.axis p.1
  if s.standing = 1 && d.eng.before.any (fun x => x.1 == p.1) then some (s.nodes.getD p.2 0) else none
/-- A node value as an FP32 code for the level comparison (R216): node 20 is an integer (R215). -/
def levelCode (node v : Nat) : Nat := if node = 20 then fpOfInt v else v
/-- x ≥ level on FP32; no comparison with a NaN holds. -/
def levelGe (level x : Nat) : Bool := decide (fpVal level ≤ fpVal x) && (fpFinite level || bitsOf level 22 0 == 0)
/-- x < level on FP32; no comparison with a NaN holds. -/
def levelLt (level x : Nat) : Bool := decide (fpVal x < fpVal level) && (fpFinite level || bitsOf level 22 0 == 0)
/-- Whether the present sample is a trigger sample of a unit in PRE (R216). -/
def Dev.traceHit (d : Dev) (u : Nat) (now : Option Nat) : Bool :=
  let t := d.traceUnit u
  let level := d.lrd (TRC_ULEVEL u)
  match d.lget (TRC_UCTRL.TRIG u), t.prev, now with
  | 1, some a, some b => levelLt level a && levelGe level b
  | 2, some a, some b => levelGe level a && levelLt level b
  | 3, _, _ => t.probes.any (fun p =>
      let s := d.axis p.1
      let was := ((d.eng.before.find? (fun x => x.1 == p.1)).map (fun x => x.2.faulted)).getD s.faulted
      s.standing == 2 || (s.standing == 1 && s.stale) || (s.faulted && !was))
  | _, _, _ => false
/-- The bytes of a sample (R215). -/
def Dev.sampleBytes (d : Dev) (u c : Nat) (hit : Bool) : List Byte :=
  let t := d.traceUnit u
  let vals := t.probes.map (fun p => (p.2, d.probeValue p))
  let mask := (vals.zipIdx.map (fun x => if x.1.2.isSome then 2 ^ x.2 else 0)).sum
  let flags := flag hit + 2 * flag t.dropped + 4 * flag ((d.cyc.active.map (·.num)).getD 0 != t.lastGen) + 8 * flag d.pipelinedTiming
  padTo t.size (leBytes 4 c ++ leBytes 2 mask ++ leBytes 1 flags ++ [0] ++ vals.flatMap (fun x => leBytes (nodeSize x.1) (x.2.getD 0)))
/-- Store a sample (R217): answers whether there was room. -/
def Dev.storeSample (u : Nat) (bs : List Byte) (hit : Bool) (d : Dev) : Bool × Dev :=
  let t := d.traceUnit u
  let st := d.get (TRC_USTATUS.STATE u)
  let w := d.rd (TRC_UWPTR u)
  let bytes := ((d.traceCapacity d.lrd u).getD 1) * t.size
  let next := if bytes = 0 then 0 else (w + t.size) % bytes
  match traceDest (d.lrd (TRC_UCTRL u)) with
  | 0 => (true, Dev.wr (TRC_UWPTR u) next
      { d with trc := { d.trc with sram := putBytes d.trc.sram (65536 * d.lget (TRC_UREGION.BASE u) + 64 + w) bs } })
  | 1 =>
    if next = d.rd (TRC_URPTR u) then
      (false, (((d.setUnit u { t with dropped := true, dropNow := t.dropNow + 1 }).count32 (TRC_UDROP u) 1).set (TRC_USTATUS.DROPPED u) 1).post 0x0400 0x0409
        (leBytes 1 u ++ leBytes 4 1))
    else (true, Dev.wr (TRC_UWPTR u) next { d with dram := putBytes d.dram ((d.spillRing u).1 + 64 + w) bs })
  | _ =>
    let body := t.storeBytes.drop 64 ++ bs
    let body := if st = 1 && !hit then body.drop (body.length - t.size * tracePre d.lrd u) else body
    (true, d.setUnit u { t with storeBytes := t.storeBytes.take 64 ++ body })
/-- One sample of a running unit at the guard of the cycle (R214 to R218). -/
def Dev.traceSample (u : Nat) (d : Dev) : Dev :=
  let st := d.get (TRC_USTATUS.STATE u)
  let t := d.traceUnit u
  if (st ≠ 1 && st ≠ 2) || (st = 2 && t.left == some 0) then d else
    let c := if d.pipelinedTiming then (d.cyc.count + 2 ^ 32 - 1) % 2 ^ 32 else d.cyc.count
    let step := (c + 2 ^ 32 - t.lastC) % 2 ^ 32
    let dec := if d.lget (TRC_UCTRL.DEC u) = 0 then 65536 else d.lget (TRC_UCTRL.DEC u)
    if 2 ^ 31 ≤ step then d else
    let t := { t with lastC := c, elapsed := t.elapsed + step }
    let d := d.setUnit u t
    if t.elapsed % dec ≠ 0 then d else
      let p0 := t.probes.headD (0, 0)
      let now := (d.probeValue p0).map (levelCode p0.2)
      let hit := if st = 1 then d.traceHit u now else d.lget (TRC_UCTRL.TRIG u) == 0 && c == t.c0
      let r := d.storeSample u (d.sampleBytes u c hit) hit
      let d := r.2.when r.1 (Dev.count32 (TRC_USAMPLES u) 1)
      let t := d.traceUnit u
      let pre := tracePre d.lrd u
      let kept := if st = 1 && !hit && r.1 then min pre (t.kept + 1) else t.kept
      d.setUnit u { t with
        prev := now, kept := kept, dropped := if r.1 then false else t.dropped, lastGen := (d.cyc.active.map (·.num)).getD 0,
        trigAt := if st = 1 && hit then some c else none,
        left := if st = 1 && hit then d.traceLeft u kept else if st = 2 then t.left.map (· - 1) else t.left }

/-- Place of field `k` of a class 4 record. -/
def calField (r : List Byte) (k : Nat) : Nat := fieldAt r (24 + 4 * k) 4
/-- The inertia monitors' class follows their entries (R227, R228). -/
def Dev.showInertia (d : Dev) : Dev :=
  d.staleClass 4 ((List.range 16).any (fun k => d.on (TRC_MON.STALE k) && bitAt (d.lrd (TRC_MON k)) 9))
/-- A monitor entry starts with Jbg := J, fresh (R228): a STALE that it clears has changed. -/
def Dev.startMonitor (k : Nat) (d : Dev) : Dev :=
  let a := bitsOf (d.lrd (TRC_MON k)) 8 0
  match d.calOf 4 a with
  | some r =>
    let was := d.on (TRC_MON.STALE k)
    let d : Dev := { d with trc := { d.trc with jbg := putKey k (dOfFp32 (calField r 0)) d.trc.jbg } }
    ((d.set (TRC_MON.STALE k) 0).set (TRC_MON.DRIFT k) 0).when was (Dev.post (0x0800 + a) 0x0419 (zeros 3))
  | none => d
/-- A calibration record is kept (R226); one of an axis restarts the axis's monitors (R228). -/
def Dev.takeCal (rcd : List Byte) (d : Dev) : Dev :=
  let d := d.keepCal rcd
  if fieldAt rcd 0 1 = 4 then
    (d.forN 16 (fun k d => if bitAt (d.lrd (TRC_MON k)) 9 && bitsOf (d.lrd (TRC_MON k)) 8 0 == fieldAt rcd 2 2 then d.startMonitor k else d)).showInertia
  else d
/-- MON_APPLY (R213, R229): every enabled entry needs a class 4 record and the budget check holds with its axes traced. -/
def Dev.monApply (d : Dev) : Dev :=
  if d.on TRC_MON_CTRL.APPLY then d else
    let axes := (List.range 16).filterMap (fun k => if d.on (TRC_MON.EN k) then some (d.get (TRC_MON.AXIS k)) else none)
    if axes.all (fun a => (d.calOf 4 a).isSome) && (d.tracedFail axes).isNone then
      ((d.set TRC_MON_CTRL.APPLY 1).set TRC_MON_CTRL.REFUSED 0).holdCommit 0x0401 (d.capture ((List.range 16).map TRC_MON)) none
    else d.set TRC_MON_CTRL.REFUSED 1
/-- The monitor entries go live at the boundary; an entry that is newly enabled or names another axis starts (R228). -/
def Dev.monCommit (ws : List (Nat × Word)) (d : Dev) : Dev :=
  let old := d.lrd
  let d := d.goLiveAll ws
  let d := d.forN 16 (fun k d =>
    let x := d.lrd (TRC_MON k)
    let o := old (TRC_MON k)
    if bitAt x 9 && !(bitAt o 9 && bitsOf o 8 0 == bitsOf x 8 0) then d.startMonitor k else d)
  (d.set TRC_MON_CTRL.APPLY 0).showInertia
/-- 0.20 and 0.10 as binary64. -/
def driftHigh : Nat := 0x3FC999999999999A
def driftLow : Nat := 0x3FB999999999999A
/-- sgn(v) as binary64. -/
def dSgn (v : Nat) : Nat := if dVal v = 0 then 0 else (if dVal v < 0 then 2 ^ 63 else 0) + 0x3FF0000000000000
/-- |x| of a binary64 code. -/
def dAbs (x : Nat) : Nat := x % 2 ^ 63
/-- The inertia monitor of one entry in a cycle whose axis was computed (R228). -/
def Dev.monitorStep (k : Nat) (d : Dev) : Dev :=
  let w := d.lrd (TRC_MON k)
  let a := bitsOf w 8 0
  let s := d.axis a
  match d.calOf 4 a with
  | none => d
  | some r =>
    let jacc := calField r 5
    if !bitAt w 9 || !s.enabled || s.first || s.standing ≠ 1 || !d.eng.before.any (fun x => x.1 == a) ||
        2 * (fpVal s.as).natAbs < (fpVal jacc).natAbs || fpEq s.as 0 then d
    else
      let f := fun x => dOfFp32 x
      let n10 := f (s.nodes.getD 10 0)
      let x := dDiv (dSub (dSub (dSub (f (s.nodes.getD 21 0)) (dMul (f (calField r 1)) n10)) (dMul (f (calField r 2)) (dSgn n10))) (f (calField r 3))) (f s.as)
      let j := f (calField r 0)
      let jbg := lookupD k j d.trc.jbg
      let jbg := dAdd jbg (dDiv (dSub x jbg) (dOfFp32 (fpOfInt 256)))
      let drift := dDiv (dAbs (dSub jbg j)) j
      let d : Dev := { d with trc := { d.trc with jbg := putKey k jbg d.trc.jbg } }
      let was := d.on (TRC_MON.STALE k)
      let now := if dVal driftHigh < dVal drift then true else if dVal drift ≤ dVal driftLow then false else was
      let tenths := min 65535 ((dVal drift * 1000).toNat / 2 ^ 1074)
      let d := (d.set (TRC_MON.DRIFT k) tenths).set (TRC_MON.STALE k) (flag now)
      if now == was then d else (d.post (0x0800 + a) 0x0419 (leBytes 1 (flag now) ++ leBytes 2 tenths)).showInertia
/-- What traces and monitors do at the guard of a cycle (R214, R228). -/
def Dev.traceGuard (d : Dev) : Dev :=
  let d := d.forN 4 Dev.traceSample
  d.forN 16 Dev.monitorStep

/-- V_ID / 2 as a jog target. -/
def halfOf (v : Nat) : Nat := fpScale v (-1)
/-- The jog targets of an identification (R223). -/
def identTargets (fwd : Bool) (v : Nat) : List Nat :=
  if fwd then [halfOf v, v, halfOf v, 0] else [v, 0, fpNegate v, 0, halfOf v, 0, fpNegate (halfOf v), 0]
/-- 0x030D IDENTIFY_AXIS (R222). -/
def opIdentify : Opcode :=
  { code := 0x030D, modes := fun _ => modeLogged [6, 7],
    run := fun p ref d =>
      let a := par p 22 2
      let v := par p 24 4
      let hold := par p 28 2
      if 512 ≤ a then (.bad stBAD_PARAMETER, d) else
        let s := d.axis a
        let mode := optMode (d.params a)
        let jacc := d.axisLive a pJOG_ACCEL
        if !fpFinite v || !fpPos v || fpLt (d.axisLive a pVMAX) v || hold < 10 || 1000 < hold then (.bad stBAD_PARAMETER, d)
        else if !s.enabled || s.faulted || (mode ≠ 1 && mode ≠ 2) || !(fpEq s.vs 0 && s.ph == 8) || d.groupLatched (d.groupOf a) || fpEq jacc 0 then
          (.bad stWRONG_MODE, d)
        else if d.trc.ident.isSome || d.cyc.waiting.any (fun e => match e.act with | .identify _ _ => true | _ => false) then (.bad stBUSY, d)
        else match d.tracedFail [a] with
          | some r => (.done stCONSISTENCY (ruleResult r.1 r.2), d)
          | none => d.logPacket 0x01 68 (.identify a (leBytes 4 v ++ leBytes 2 hold ++ leBytes 1 (par p 30 1))) ref }
/-- The next target of the pattern is logged as a jog (R223). -/
def Dev.identNext (d : Dev) : Dev :=
  match d.trc.ident with
  | some i => match i.left with
    | v :: rest => Dev.logInput 0x01 68 (.jog i.axis v) none
        { d with trc := { d.trc with ident := some { i with left := rest, target := v, holdEnd := none } } }
    | [] => d
  | none => d
/-- IDENTIFY_AXIS enters the law (R222, R223): the controller that logged it drives the pattern; a standby does not. -/
def Dev.enterIdentify (a : Nat) (params : List Byte) (d : Dev) : (Nat × List Byte) × Dev :=
  if d.mode = 8 then ((stACCEPTED, []), d) else
    let v := fieldAt params 0 4
    let fl := fieldAt params 6 1
    let d : Dev := { d with trc := { d.trc with ident := some ⟨a, v, fieldAt params 4 2, fl, identTargets (bitAt fl 0) v, 0, none, []⟩ } }
    ((stACCEPTED, []), ((d.set TRC_ID_STATUS.AXIS a).set TRC_ID_STATUS.RUNNING 1).identNext)
/-- The identification in a completed computation of its axis (R223 to R225): a stop or fault ends it, a sample joins the fit, and the hold of a
target starts when v_s first equals it. -/
def Dev.identStep (a : Nat) (d : Dev) : Dev :=
  match d.trc.ident with
  | none => d
  | some i =>
    if i.axis ≠ a then d else
      let s := d.axis a
      if s.faulted || s.stopping || s.stopped || !s.enabled || d.groupLatched (d.groupOf a) then d.endIdent 1 []
      else
        let hold := match i.holdEnd with
          | some t => some t
          | none => if fpEq s.vs i.target && fpEq s.jogVt i.target then some (d.now + ns (i.hold * 1000000)) else none
        { d with trc := { d.trc with ident := some { i with
          holdEnd := hold, samples := (d.cyc.count, s.nodes.getD 10 0, s.nodes.getD 21 0) :: i.samples } } }
/-- The rows of the fit with their accelerations (R224): (a, v, sgn(v), q) in FP64; samples newest first, k needs both neighbours. -/
def fitRows (vid invT : Nat) : List (Nat × Nat × Nat) → List (Nat × Nat × Nat × Nat)
  | x :: y :: z :: rest =>
    let tail := fitRows vid invT (y :: z :: rest)
    let v := dOfFp32 y.2.1
    let a := dDiv (dMul (dSub (dOfFp32 x.2.1) (dOfFp32 z.2.1)) (dOfFp32 invT)) (dOfFp32 (fpOfInt 2))
    if (x.1 + 2 ^ 32 - y.1) % 2 ^ 32 ≠ 1 || (y.1 + 2 ^ 32 - z.1) % 2 ^ 32 ≠ 1 || 8 * (fpVal y.2.1).natAbs < (fpVal vid).natAbs then tail
    else tail ++ [(a, v, dSgn v, dOfFp32 y.2.2)]
  | _ => []
/-- A binary64 code rounded to FP32. -/
def fpOfD (x : Nat) : Nat := fpRound (dVal x) (-1074) (bitAt x 63)
/-- The sums of the fit (R224): A as the products of every pair of components, row by row, b, the sum of q squared and the count. The order of the
additions is that of the computations. -/
structure FitSums where
  a : List Nat
  b : List Nat
  qq : Nat
  n : Nat
  deriving DecidableEq, Repr
/-- The vector phi of a row (R224): (a, v, sgn(v), 1), forward only (a, v, 1). -/
def fitPhi (fwd : Bool) (r : Nat × Nat × Nat × Nat) : List Nat := if fwd then [r.1, r.2.1, dOne] else [r.1, r.2.1, r.2.2.1, dOne]
/-- Component-wise sum. -/
def dAddL (x y : List Nat) : List Nat := List.zipWith dAdd x y
/-- A row joins the sums (R224). -/
def fitAdd (fwd : Bool) (s : FitSums) (r : Nat × Nat × Nat × Nat) : FitSums :=
  let p := fitPhi fwd r
  { a := dAddL s.a (p.flatMap (fun x => p.map (dMul x)))
    b := dAddL s.b (p.map (dMul r.2.2.2))
    qq := dAdd s.qq (dMul r.2.2.2 r.2.2.2), n := s.n + 1 }
/-- The sums over all rows. -/
def fitSums (fwd : Bool) (rows : List (Nat × Nat × Nat × Nat)) : FitSums :=
  let m := if fwd then 3 else 4
  rows.foldl (fitAdd fwd) ⟨List.replicate (m * m) 0, List.replicate m 0, 0, 0⟩
/-- Inner product in FP64, left to right. -/
def dDot (x y : List Nat) : Nat := (List.zipWith dMul x y).foldl dAdd 0
/-- Rows of the Cholesky factor of the matrix `a` of order `m` (R224), as `rows` gives those before row `i`; none where a pivot lies below `low`. -/
def cholRows (a : List Nat) (m low : Nat) : Nat → List (List Nat) → Option (List (List Nat))
  | 0, rows => some rows
  | n + 1, rows =>
    let i := rows.length
    let at_ := fun j => a.getD (m * i + j) 0
    let row := rows.zipIdx.foldl (fun (l : List Nat) r => l ++ [dDiv (dSub (at_ r.2) (dDot l r.1)) (r.1.getD r.2 0)]) []
    let pivot := dSub (at_ i) (dDot row row)
    if dVal pivot < dVal low || dVal pivot ≤ 0 then none else cholRows a m low n (rows ++ [row ++ [dSqrt pivot]])
/-- Forward substitution: L y = b. -/
def solveLow (l : List (List Nat)) (b : List Nat) : List Nat :=
  l.zipIdx.foldl (fun y r => y ++ [dDiv (dSub (b.getD r.2 0) (dDot y r.1)) (r.1.getD r.2 0)]) []
/-- Back substitution: transpose(L) x = y; `x` holds the components found so far, the last ones. -/
def solveUp (l : List (List Nat)) (y : List Nat) : List Nat :=
  l.zipIdx.reverse.foldl (fun x r =>
    let i := r.2
    let below := (l.drop (i + 1)).map (fun q => q.getD i 0)
    dDiv (dSub (y.getD i 0) (dDot below x)) (r.1.getD i 0) :: x) []
/-- 1e-12 as binary64. -/
def pivotLimit : Nat := 0x3D719799812DEA11
/-- cholesky_solve of the sums (R224): theta, or none where a pivot lies below 1e-12 * trace(A). DESIGN CHOICE: the manual names the method and not the order of
its operations; it is that of the factor row by row. -/
def fitSolve (fwd : Bool) (s : FitSums) : Option (List Nat) :=
  let m := if fwd then 3 else 4
  let trace := ((List.range m).map (fun i => s.a.getD (m * i + i) 0)).foldl dAdd 0
  (cholRows s.a m (dMul pivotLimit trace) m []).map (fun l => solveUp l (solveLow l s.b))
/-- J, B, FC, T0 of a solution (R224): forward only has FC = 0 and T0 = theta(3). -/
def fitValues (fwd : Bool) (theta : List Nat) : List Nat :=
  let t := fun k => theta.getD k 0
  if fwd then [t 0, t 1, 0, t 2] else [t 0, t 1, t 2, t 3]
/-- RESID of a solution (R224). -/
def fitResid (s : FitSums) (theta : List Nat) : Nat :=
  let x := dSub s.qq (dDot theta s.b)
  dSqrt (dDiv (if dVal x ≤ 0 then 0 else x) (dRound ((s.n : Int) * 2 ^ 1074) 1))
/-- The end of the pattern: the fit is solved (R224), shown, recorded and, when asked for, suggested (R225). -/
def Dev.identSolve (i : Ident) (d : Dev) : Dev :=
  let a := i.axis
  let fwd := bitAt i.flags 0
  let rows := fitRows i.vid (constInvT (d.periodNs / 8)) i.samples
  let jacc := d.axisLive a pJOG_ACCEL
  let ne := (rows.filter (fun r => decide ((dVal (dOfFp32 jacc)).natAbs ≤ 2 * (dVal r.1).natAbs))).length
  let sums := fitSums fwd rows
  if ne < 256 then d.endIdent 2 []
  else match fitSolve fwd sums with
    | none => d.endIdent 3 []
    | some theta =>
      let x := fitValues fwd theta
      let vals := (x ++ [fitResid sums theta]).map fpOfD
      let v := fun k => vals.getD k 0
      if dVal (x.getD 0 0) ≤ 0 then d.endIdent 4 vals
      else
        let d := d.endIdent 0 vals
        let r := d.calBytes 4 a ((vals ++ [jacc]).flatMap (leBytes 4))
        let d := r.2.logInput 0x01 (68 + 48) (.calib r.1) none
        if bitAt i.flags 1 then
          (((d.wr (AX a pKAFF) (v 0)).wr (AX a pDOB_A) (fpInv (v 0))).wr (AX a pFRIC_V) (v 1)).wr (AX a pFRIC_C) (v 2)
        else d
/-- IDENTIFY_HOLD_EXPIRY (R223): the next target is logged, or the pattern ends. It acts at the end of the hold. -/
def Dev.identHold (d : Dev) : Dev :=
  match d.trc.ident with
  | none => d
  | some i => match i.holdEnd with
    | none => d
    | some t =>
      let d := d.reach t
      if i.left.isEmpty then d.identSolve i else d.identNext

/-- START_TRACE (R221). -/
def execStartTrace (p : Packet) (s : State) : Answer := .next (s.onDev (Dev.packet opStartTrace p))
/-- STOP_TRACE (R221). -/
def execStopTrace (p : Packet) (s : State) : Answer := .next (s.onDev (Dev.packet opStopTrace p))
/-- UCMD_START (R218). -/
def execUcmdStart (u : Fin 4) (s : State) : Answer := .next (s.onDev (Dev.ucmdStart u.val))
/-- UCMD_STOP (R218). -/
def execUcmdStop (u : Fin 4) (s : State) : Answer := .next (s.onDev (Dev.ucmdStop u.val))
/-- MON_APPLY (R213). -/
def execMonApply (s : State) : Answer := .next (s.onDev Dev.monApply)
/-- IDENTIFY_AXIS (R222). -/
def execIdentifyAxis (p : Packet) (s : State) : Answer := .next (s.onDev (Dev.packet opIdentify p))
/-- IDENTIFY_HOLD_EXPIRY (R223). -/
def execIdentifyHoldExpiry (s : State) : Answer := .next (s.onDev Dev.identHold)

end Sys2Proof.Machine
end

