-- ==== Sys2Proof/Machine/Engine.lean ====
section
/-! DEFINITION. Sys2Proof/Machine/Engine.lean: lanes, computations, deadlines and misses (R149 to R177), controlled stops and faults
(R199 to R204), the axis opcodes (R411) and ACTIVATE_GENERATION (R95). -/
namespace Sys2Proof.Machine

/-- First-fit place of `n` bytes in the area, the replaced table's space counted as free (R190, R411). -/
def Dev.camPlace (d : Dev) (table n : Nat) : Option Nat :=
  let ts := d.eng.cams.filter (fun t => t.1 != table)
  let starts := 16384 :: ts.map (fun t => t.2.1 + t.2.2.length)
  let fits := starts.filter (fun s => s + n ≤ 16777216 && ts.all (fun t => s + n ≤ t.2.1 || t.2.1 + t.2.2.length ≤ s))
  bestBy id fits
/-- A cam table enters the area (R190): INV_W is computed and the directory entry written. -/
def Dev.enterCam (table : Nat) (bs : List Byte) (d : Dev) : Dev :=
  match d.camPlace table bs.length with
  | some off =>
    let bs := spliceAt bs 24 (leBytes 4 (fpDiv 1 (fieldAt bs 8 8)))
    { d with eng := { d.eng with cams := (d.eng.cams.filter (fun t => t.1 != table)) ++ [(table, off, bs)] } }
  | none => d

/-- SYS_COND.AXIS_FAULT follows the axes (R203). -/
def Dev.showFaults (d : Dev) : Dev := d.cond condAXIS_FAULT (d.axes.any (fun x => x.2.faulted))
/-- The registers follow an axis whose state was replaced (R177, R203). -/
def Dev.showFaultOf (a : Nat) (d : Dev) : Dev :=
  let s := d.axis a
  (d.wr (CE_FAULT_MAP (a / 32)) (withBits (d.rd (CE_FAULT_MAP (a / 32))) (a % 32) (a % 32) (flag (s.faulted && s.faultCode ≤ 2)))).showFaults
/-- Whether every member of a group that can stop is stopped (R201). -/
def Dev.groupStopped (d : Dev) (g : Nat) : Bool :=
  d.axes.all (fun x => !(x.2.enabled && !x.2.faulted && d.groupOf x.1 == g) || x.2.stopped)
/-- A group whose members have all stopped posts STOP_COMPLETE (R201), once for each order. -/
def Dev.checkStops (d : Dev) : Dev :=
  d.forN 16 (fun g d =>
    if bitAt d.eng.latched g && !bitAt d.eng.complete g && d.groupStopped g then
      Dev.post 0x0400 0x0406 (leBytes 1 g) { d with eng := { d.eng with complete := Nat.lor d.eng.complete (2 ^ g) } }
    else d)
/-- A controlled stop enters the law for the groups of a mask (R201, R211). A later order of a latched group counts as an order of its own
(notes/assumptions). -/
def Dev.orderStops (mask cause axis : Nat) (d : Dev) : Dev :=
  d.forN 16 (fun g d =>
    if bitAt mask g then
      Dev.abortIdent (fun a => d.groupOf a == g) <| Dev.post 0x0400 0x0405 (leBytes 1 g ++ leBytes 1 cause ++ leBytes 2 axis) { d with eng := { d.eng with
        latched := Nat.lor d.eng.latched (2 ^ g)
        complete := d.eng.complete - Nat.land d.eng.complete (2 ^ g) } }
    else d)
/-- The release of stop groups enters the law (R201): members that were stopping resume their generator as on mode entry. -/
def Dev.releaseStops (mask : Nat) (d : Dev) : Dev :=
  let keep := fun (m : Nat) => m - Nat.land m mask
  let d : Dev := { d with eng := { d.eng with latched := keep d.eng.latched, complete := keep d.eng.complete } }
  d.forEach (d.axes.map (·.1)) (fun a d =>
    let s := d.axis a
    if !bitAt mask (d.groupOf a) then d
    else d.setAxis a { s with stopping := false, stopped := false, lastMode := if s.stopping || s.stopped then 5 else s.lastMode })
/-- Stops ordered by faults of the cycle before enter the law (R202). -/
def Dev.enterOrdered (d : Dev) : Dev :=
  let os := d.eng.ordered
  Dev.forEach os (fun o => Dev.orderStops (2 ^ o.1) o.2.1 o.2.2) { d with eng := { d.eng with ordered := [] } }
/-- A fault of an axis (R202): flags, the stop of its group from the next cycle, and AXIS_FAULT. -/
def Dev.noteFault (a code : Nat) (d : Dev) : Dev :=
  let d := d.when (decide (code ≤ 2)) (fun d => d.wr (CE_FAULT_MAP (a / 32)) (withBits (d.rd (CE_FAULT_MAP (a / 32))) (a % 32) (a % 32) 1))
  let d : Dev := { d with eng := { d.eng with ordered := d.eng.ordered ++ [(d.groupOf a, 1, a)] } }
  let d := (d.offerTrigger (0x4000 + d.groupOf a) d.now false).abortIdent (fun x => x == a)
  d.showFaults.post (0x0800 + a) 0x0412 (leBytes 1 code ++ leBytes 4 d.cyc.count)
/-- An axis faults outside a computation. -/
def Dev.faultAxis (a code : Nat) (d : Dev) : Dev :=
  if (d.axis a).faulted then d else (d.setAxis a (setFault code (d.axis a))).noteFault a code
/-- A miss of axis `a` in this cycle (R163, R164). -/
def Dev.missAxis (a : Nat) (d : Dev) : Dev :=
  let s := d.axis a
  let lim := max 1 (d.lget CE_CTRL.MISS_LIMIT)
  let n := min 15 (s.consecMiss + 1)
  let hit := decide (lim ≤ n)
  let newFault := hit && !s.faulted
  let s := { s with miss := true, missCount := satAdd 32 s.missCount 1, consecMiss := n, standing := 2 }
  let s := if hit then setFault 1 s else s
  let held := heldRecord s.faulted s.lastRecord
  let s := { s with record := held, lastRecord := if d.binds.any (fun x => x.axis == a) then held else s.lastRecord }
  let d := d.setAxis a s
  let d := d.wr (CE_MISS_MAP (a / 32)) (withBits (d.rd (CE_MISS_MAP (a / 32))) (a % 32) (a % 32) 1)
  let d := d.count32 CE_MISS_CNT 1
  let d : Dev := { d with eng := { d.eng with missed := d.eng.missed ++ [a] } }
  d.when newFault (Dev.noteFault a 1)

/-- The binding of an axis in the active generation. -/
def Dev.bindOf (d : Dev) (a : Nat) : Option Bind := d.binds.find? (fun x => x.axis == a)
/-- Whether an axis is bound to a vacant pitch or an empty position (R157). -/
def Dev.vacant (d : Dev) (a : Nat) : Bool := match d.bindOf a with | some x => (d.bindPos x).isNone | none => false
/-- Whether an axis's position is fenced. -/
def Dev.fencedAxis (d : Dev) (a : Nat) : Bool :=
  match d.bindOf a with | some x => (match d.bindPos x with | some p => d.on (NLS_POS_W2.FENCED x.port p) | none => false) | none => false
/-- Whether the uplink slot of an axis's registration node source has been taken or closed, or its position is fenced (R155, R269). -/
def Dev.markClosed (d : Dev) (a : Nat) : Bool :=
  match d.markNode a with
  | some (n, pos) => d.on (NLS_POS_W2.FENCED n pos) || match (d.activeBlock n).bind (fun b => uplinkSlot b pos) with
    | some s => let x := (d.port n).slotRx s; x.state != 0 || x.closed
    | none => true
  | none => true
/-- Readiness of an axis (R155): its record taken, its windows closed or its position fenced, and every axis master done; an axis of a vacant place is
ready at once (R157). -/
def Dev.axisReady (d : Dev) (a : Nat) : Bool :=
  d.vacant a ||
  (optVirtual (d.params a) || (d.bindOf a).isNone || d.pipelinedTiming || d.fencedAxis a || d.eng.fbReady.contains a) &&
    (d.pipelinedTiming || d.markClosed a) &&
    (axisMasters d.allParams a).all (fun m => (d.axis m).standing != 0 || (d.bindOf m).isNone && !optVirtual (d.params m))
/-- Whether a FP32 pair of a record is finite (R180). -/
def recordFinite (r : List Byte) : Bool := fpFinite (fieldAt r 8 4) && fpFinite (fieldAt r 12 4)
/-- The feedback record that a computation of this cycle uses, if it arrived (R169). -/
def Dev.feedback (d : Dev) (a : Nat) : Option (List Byte) :=
  if d.fencedAxis a then none else
    ((if d.pipelinedTiming then d.eng.fbPrev else d.eng.fb).find? (fun x => x.1 == a)).map (·.2)
/-- Whether a computation of the axis needs a host value (R35, R192, R198), and the value of that kind when it is present and finite. -/
def Dev.hostValue (d : Dev) (a : Nat) : Bool × Option (List Byte × Bool) :=
  let law := d.ha 1
  let need := law || d.ha 0 || optMode (d.params a) == 0
  match (d.eng.host.find? (fun h => h.1 == a && h.2.law == law)).map (·.2) with
  | some h =>
    let split := optSplit (d.params a)
    let fin := if law then (split == 2 || fpFinite (fieldAt h.data 0 4)) && (split == 0 || fpFinite (fieldAt h.data 8 4))
      else !h.valid || fpFinite (fieldAt h.data 8 4)
    (need, if fin then some (h.data, h.valid) else none)
  | none => (need, none)
/-- The host value that the axis needs is there and holds an infinity or a NaN (R180). -/
def Dev.hostNonFinite (d : Dev) (a : Nat) : Bool :=
  (d.hostValue a).1 && (d.hostValue a).2.isNone && (d.eng.host.any (fun h => h.1 == a && h.2.law == d.ha 1))
/-- What a master field gives (R184, R185): sample, MASTER_HELD, MASTER_STALE from a stale entry, and whether the sample is missing. -/
def Dev.masterSample (d : Dev) (w : Nat) : Option (Int × Nat) × Bool × Bool × Bool :=
  let idx := bitsOf w 25 16
  match bitsOf w 1 0 with
  | 1 =>
    let m := d.axis idx
    let src := bitAt w 2
    (some (if src then m.xfb else m.xref, if src then m.vfb else m.vs), m.standing == 2, false, false)
  | 2 => match d.eng.channels.find? (fun x => x.1 == idx) with
    | some (_, x) => (some (extrapolate d.cyc.ref x, x.v), false, false, !x.valid)
    | none => (none, false, false, true)
  | 3 => match d.eng.masters.find? (fun x => x.1 == idx) with
    | some (_, x) => (some (extrapolate d.cyc.ref x, x.v), false, x.stale, !x.valid)
    | none => (none, false, false, true)
  | _ => (none, false, false, false)

/-- Retain an axis's state from before this cycle's computation (R163, R166). -/
def Dev.snapshot (a : Nat) (d : Dev) : Dev :=
  if d.eng.before.any (fun x => x.1 == a) then d else { d with eng := { d.eng with before := d.eng.before ++ [(a, d.axis a)] } }
/-- The node mark of an axis, evaluated inside its computation (R269): the axis state after it, and the request when it is accepted. -/
def Dev.nodeMark (a : Nat) (s : AxisState) (d : Dev) : AxisState × Option (Int × Nat) × Dev :=
  match nodeChannel d.acq.regs a with
  | none => (s, none, d)
  | some (r, c) =>
    match d.uplinkImage (regField c.params 27 1) (regField c.params 28 1) with
    | none => (s, none, d)
    | some img =>
      let mk := (img.drop (regField c.params 29 2)).take 16
      let seq := fieldAt mk 10 1
      if !bitAt (fieldAt mk 11 1) 0 || (s.markSeen && seq == s.markSeq) then (s, none, d)
      else
        let s := { s with markSeq := seq, markSeen := true }
        let m := ((d.masterSample (d.axisLive a pREG_MASTER)).1).getD (s.mprev, 0)
        let dt : Int := (fieldAt mk 0 10 : Int) - (d.cyc.ref : Int)
        let p := satAdd64 m.1 (int64Round (fpMul m.2 (fpMul (fpOfInt dt) constC9)))
        let e := regError c.params p
        (s, e.2.map (fun v => (v, (s.regSeq + 1) % 65536)), d.countMark r e)
/-- Whether the master that a field selects had an entry that was not finite in this cycle's log (R180). -/
def Dev.masterNonFinite (d : Dev) (w : Nat) : Bool := bitsOf w 1 0 == 3 && d.eng.nonFinite.contains (bitsOf w 25 16)
/-- An axis whose options the microprogram does not know (R159, R202): it never computes, and faults. -/
def Dev.badAxis (a : Nat) (d : Dev) : Dev :=
  let d := d.snapshot a
  let s0 := d.axis a
  let s := { setFault 3 s0 with standing := 3, record := badRecord, resetRec := false, lastRecord := if (d.bindOf a).isSome then badRecord else s0.lastRecord }
  ((d.setAxis a s).when (!s0.faulted) (Dev.noteFault a 3)).checkStops
/-- The computation of an axis (R195) with everything that comes with it: prediction (R168), master standing (R185), faults (R202),
the downlink record (R197) and the events. Of causes that arise in one computation the order is: feedback lost, a fault of the node (R183, step 1),
master lost. -/
def Dev.computeAxis (a : Nat) (d : Dev) : Dev :=
  let P := d.params a
  if badOptions P then d.badAxis a else
  let d := d.snapshot a
  let s0 := d.axis a
  let period := d.periodNs / 8
  let virt := optVirtual P
  let raw := d.feedback a
  let nonFin := match raw with | some r => !recordFinite r | none => false
  let rcd := match raw with | some r => if recordFinite r then some r else none | none => none
  let d := d.when nonFin (Dev.post (0x0800 + a) 0x0417 [0])
  let limit := min 4 (max 1 (d.lget CE_CTRL.STALE_LIMIT))
  let missing := !virt && rcd.isNone
  let lost := missing && decide (limit ≤ s0.staleRun)
  let s := if missing then { s0 with staleRun := min 7 (s0.staleRun + 1) } else { s0 with staleRun := 0 }
  let s := if lost then setFault 2 s else s
  let d := d.when (missing && s0.staleRun == 0) (Dev.post (0x0800 + a) 0x0413 [1])
  let d := d.wr (CE_STALE_MAP (a / 32)) (withBits (d.rd (CE_STALE_MAP (a / 32))) (a % 32) (a % 32) (flag missing))
  let xfb : Int := match rcd with | some r => signedOf 64 (fieldAt r 0 8) | none => if virt then s0.xref else predict period s0.xfb s0.vfb
  let vfb := match rcd with | some r => fieldAt r 8 4 | none => if virt then s0.vs else s0.vfb
  let tq := match rcd with | some r => fieldAt r 12 4 | none => if virt then (s0.nodes[19]?).getD 0 else s0.tq
  let st := match rcd with | some r => fieldAt r 20 2 | none => if virt then 0 else s0.status
  let s := if bitAt st 1 then setFault 5 s else s
  let m := d.masterSample (P pMASTER)
  let g := d.masterSample (P pREG_MASTER)
  let nonFin := d.masterNonFinite (P pMASTER) || d.masterNonFinite (P pREG_MASTER)
  let d := d.when nonFin (Dev.post (0x0800 + a) 0x0417 [2])
  let gone := m.2.2.2 || g.2.2.2
  let stale := m.2.2.1 || g.2.2.1 || gone
  let mlost := gone && decide (limit ≤ s0.masterRun)
  let s := { s with masterHeld := m.2.1 || g.2.1, masterStale := stale, masterRun := if gone then min 7 (s.masterRun + 1) else 0, status := st }
  let s := if mlost then setFault 6 s else s
  let d := d.when (stale && !s0.masterStale) (Dev.post (0x0800 + a) 0x0416 [1])
  let mk := d.nodeMark a s
  let s := match mk.2.1 with | some r => holdRequest r mk.1 | none => mk.1
  let d := mk.2.2
  let mi := bitsOf (P pMASTER) 25 16
  let mode := if d.ha 0 then 0 else optMode P
  let follows := (mode == 3 || mode == 4) && bitsOf (P pMASTER) 1 0 == 1 && d.groupOf mi == d.groupOf a
  let group := d.groupOf a
  let i : LawIn :=
    { xfb := xfb, vfb := vfb, tq := tq, nodeFault := bitAt st 1, sto := bitAt st 3, stale := missing, master := m.1, follows := follows,
      masterStopped := (d.axis mi).stopped, host := (d.hostValue a).2, haSet := d.ha 0, haLaw := d.ha 1, period := period,
      latched := d.groupLatched group }
  let s2 := compute P d.camField i s
  let s2 := { s2 with lastCycle := d.cyc.count, standing := 1, record := formRecord P (d.ha 1) (d.groupLatched group) s2, resetRec := false }
  let s2 := { s2 with lastRecord := if (d.bindOf a).isSome then s2.record else s2.lastRecord }
  let d := d.setAxis a s2
  let d := d.when (s2.limit && !s0.limit) (Dev.post (0x0800 + a) 0x0415 [0])
  let d := d.when (!s2.limit && s0.limit) (Dev.post (0x0800 + a) 0x0415 [1])
  let d := d.when (s2.faulted && !s0.faulted) (Dev.noteFault a s2.faultCode)
  d.checkStops

/-- The plan that runs. -/
def Dev.plan (d : Dev) : List PlanEntry := match d.cyc.active with | some g => planOf g d.allParams | none => []
/-- Next index of a lane's sequence. -/
def Dev.laneIndex (d : Dev) (l : Nat) : Nat := lookupD l 0 d.eng.done
/-- Whether the lanes compute: a working generation runs and the cycle does not only repeat records (R54, R169). -/
def Dev.lanesRun (d : Dev) : Bool :=
  d.cyc.running && !d.eng.repeatOnly && (match d.cyc.active with | some g => !g.dormant | none => false) && d.mode != 10 && 6 ≤ d.mode
/-- LANE_START (R156, R157, R35): a free lane starts the next entry of its sequence once it is ready. -/
def Dev.laneStart (l : Nat) (d : Dev) : Dev :=
  if !d.lanesRun || bitAt (d.rd CE_LANE_FAILED) l || d.eng.running.any (fun r => r.1 == l) then d else
    match (laneSeq d.plan l)[d.laneIndex l]? with
    | none => d
    | some a =>
      if !d.axisReady a then d else
        let d : Dev := { d with eng := { d.eng with done := putKey l (d.laneIndex l + 1) d.eng.done } }
        if d.vacant a then d.setAxis a { d.axis a with standing := 3, record := zeros 16, lastRecord := zeros 16 }
        else
          let h := d.hostValue a
          if h.1 && h.2.isNone then (d.when (d.hostNonFinite a) (Dev.post (0x0800 + a) 0x0417 [1])).missAxis a
          else { d with eng := { d.eng with running := d.eng.running ++ [(l, a)], started := putKey l d.now d.eng.started } }
/-- The computation on a lane is abandoned: the lane cycles that it took so far were spent on its axis (R176). -/
def Dev.laneAbandon (l : Nat) (d : Dev) : Dev :=
  let spent := (12 * (d.now - lookupD l d.now d.eng.started)) / 655360
  { d with eng := { d.eng with
    running := d.eng.running.filter (fun r => r.1 != l), busy := putKey l (lookupD l 0 d.eng.busy + min 360 spent) d.eng.busy } }
/-- The sequence of its lane goes on after an axis that is not, or no longer, computed in this cycle (R163). -/
def Dev.skipAxis (a : Nat) (d : Dev) : Dev :=
  let d := d.forEach ((d.eng.running.filter (fun r => r.2 == a)).map (·.1)) Dev.laneAbandon
  match d.plan.find? (fun e => e.axis == a) with
  | some e =>
    let i := ((laneSeq d.plan e.lane).findIdx (fun x => x == a)) + 1
    { d with eng := { d.eng with done := putKey e.lane (max i (d.laneIndex e.lane)) d.eng.done } }
  | none => d
/-- Deadline of an axis as an instant; in 1/30 ns from the reference instant (R160). -/
def Dev.deadline (d : Dev) (a : Nat) : Int :=
  match d.cyc.active with
  | some g => deadlineOf g d.allParams (genBinds g) (d.plan.map (·.axis)) (d.headEnd 0) 4 a
  | none => 0
/-- What the error check of an SRAM does (R38, R56, R202): in the axis area a double-bit error faults the axis, elsewhere it posts
SRAM_DOUBLE_ERROR; a single-bit error is counted. -/
def Dev.sramFound (a : Nat) (x : SramCheck) (d : Dev) : Dev :=
  match x with
  | .clean => d
  | .corrected => { d with eng := { d.eng with corrected := d.eng.corrected + 1 } }
  | .axisArea => d.faultAxis a 7
  | .word m o => d.post 0x0000 0x0009 (leBytes 1 (m.val + 1) ++ leBytes 4 o.toNat)
/-- AXIS_COMPUTATION_DONE (R151, R176): the axis on lane `l` completes after `cycles` lane cycles. The slack is deadline minus completion. -/
def Dev.axisDone (l cycles : Nat) (sram : SramCheck) (d : Dev) : Dev :=
  match d.eng.running.find? (fun r => r.1 == l) with
  | none => d
  | some (_, a) =>
    let d : Dev := { d with eng := { d.eng with
      running := d.eng.running.filter (fun r => r.1 != l), busy := putKey l (lookupD l 0 d.eng.busy + cycles) d.eng.busy } }
    let slack : Int := (65536 * d.deadline a - 30 * ((d.now - d.cyc.ref : Nat) : Int)).fdiv (30 * 65536)
    let d := ((d.sramFound a sram).computeAxis a).identStep a
    let least := decide (slack < signedOf 32 (d.rd CE_SLACK_MIN))
    let d : Dev := { d with eng := { d.eng with
      slack := d.eng.slack ++ [(a, slack)]
      slackAxis := if least then a else d.eng.slackAxis } }
    if least then d.wr CE_SLACK_MIN (codeOf 32 slack) else d
/-- AXIS_DEADLINE (R163): an axis not completed at its deadline is abandoned. In Shadow no deadline applies (R166). -/
def Dev.axisDeadline (a : Nat) (d : Dev) : Dev :=
  if !d.lanesRun || d.mode = 8 || (d.axis a).standing ≠ 0 || !(d.plan.any (fun e => e.axis == a)) then d else
    ((d.when (d.eng.running.any (fun r => r.2 == a)) (Dev.count32 CE_ABORT_CNT 1)).skipAxis a).missAxis a
/-- LANE_ERROR (R173): the axis on the lane is abandoned; a second error in the next cycle fails the lane at the boundary. -/
def Dev.laneError (l : Nat) (d : Dev) : Dev :=
  match d.eng.running.find? (fun r => r.1 == l) with
  | none => d
  | some (_, a) =>
    let d := ((d.count32 CE_LANE_ERR_CNT 1).count32 CE_ABORT_CNT 1).post 0x0400 0x0402 (leBytes 1 l ++ leBytes 2 a)
    let again := d.eng.laneErr.any (fun e => e.1 == l && d.cyclesSince e.2 == 1)
    let d : Dev := d.laneAbandon l
    let d : Dev := { d with eng := { d.eng with
      laneErr := putKey l d.cyc.count d.eng.laneErr
      failing := if again then Nat.lor d.eng.failing (2 ^ l) else d.eng.failing } }
    let d := d.when again (Dev.post 0x0400 0x0403 (leBytes 1 l ++ leBytes 1 0))
    if d.mode = 8 then d else d.missAxis a
/-- LANE_SELFTEST (R173, R174): a chunk of the pattern, or the whole pattern, ends on a lane. The lanes run once PLL_LANE has locked; where sequences run,
the lane has finished its own, and firmware tests one lane in a cycle, but for the test that an incident demands (R301). -/
def Dev.laneSelftest (l : Nat) (whole ok : Bool) (d : Dev) : Dev :=
  let idle := !d.eng.running.any (fun r => r.1 == l) && (laneSeq d.plan l).length ≤ d.laneIndex l
  let other := d.mir.incident.isNone && (match d.eng.tested with | some x => x != l | none => false)
  let out := bitAt (Nat.lor (d.rd CE_LANE_FAILED) d.eng.failing) l
  if !bitAt (d.get CLK_PLL.LOCKED) 2 || (d.lanesRun && (!idle || other)) || out then d else
    let n := if whole then 10 else lookupD l 0 d.eng.chunks + 1
    let d : Dev := { d with eng := { d.eng with chunks := putKey l (if ok && decide (n < 10) then n else 0) d.eng.chunks, tested := some l } }
    let bit := fun v => Dev.wr CE_SELFTEST (withBits (d.rd CE_SELFTEST) l l v) d
    if !ok then
      let d := (bit 0).post 0x0400 0x0403 (leBytes 1 l ++ leBytes 1 1)
      if d.mode = 5 then d.wr CE_LANE_FAILED (withBits (d.rd CE_LANE_FAILED) l l 1)
      else { d with eng := { d.eng with failing := Nat.lor d.eng.failing (2 ^ l) } }
    else if 10 ≤ n then bit 1 else d
/-- CE_APPLY (R172): the commit is logged; a standby's commits come from the holder's log. -/
def Dev.ceApply (d : Dev) : Dev :=
  if d.on CE_APPLY.APPLY || d.mode = 8 || d.on MIR_STATUS.BULK then d else
    let ws := (d.capture [CE_CTRL]).filter (fun w => w.2 != d.liveWord w.1)
    (d.set CE_APPLY.APPLY 1).logInput 0x02 (8 + 8 * ws.length) (.commit 0x0400 (d.capture [CE_CTRL])) none

/-- The live parameters with captured words in place. -/
def Dev.withWords (d : Dev) (ws : List (Nat × Word)) : Params := fun a o =>
  match ws.find? (fun w => w.1 == AX a o) with | some w => w.2.toNat | none => d.axisLive a o
/-- The shadow words of an axis that differ from its live words (R296). -/
def Dev.axisDiff (d : Dev) (a : Nat) : List (Nat × Word) :=
  let keys := ((d.regs.map (·.1)) ++ (d.live.map (·.1))).filter (fun k => AX a 0 ≤ k && k < AX a 0xE00)
  (keys.eraseDups.filter (fun k => d.word k != d.liveWord k)).map (fun k => (k, d.word k))
/-- Rules of a commit of axis parameters (R167, R170, R210): the pair rules, then engine rules 2 and 3 on the active plan and, during a
countdown, on the pending one. -/
def Dev.commitFail (d : Dev) (axes : List Nat) (ws : List (Nat × Word)) : Option (Nat × Nat) :=
  let P := d.withWords ws
  match axisFail P d.allParams d.camField (fun a => (d.axis a).enabled) axes with
  | some r => some r
  | none =>
    let gens := d.cyc.active.toList ++ (if d.cyc.countdown.isSome then d.cyc.pending.toList else [])
    match gens.findSome? (fun g => engineRule2 g P) with
    | some r => some r
    | none => gens.findSome? (fun g => engineRule3 g P (d.costOf P) d.markNode)
/-- A commit of axis parameters becomes live (R170, R194): clearing REG_EN sets C and PEND to 0. -/
def Dev.enterAxes (axes : List Nat) (ws : List (Nat × Word)) (d : Dev) : Dev :=
  let was := axes.filter (fun a => optReg (d.params a))
  let d := d.goLiveAll ws
  d.forEach was (fun a d => if optReg (d.params a) then d else d.setAxis a { d.axis a with c := 0, pend := 0 })
/-- Make the generator mode of an axis live (R186). -/
def Dev.liveMode (a mode : Nat) (d : Dev) : Dev := d.goLive (AX a pOPT) (BitVec.ofNat 32 (withBits (d.axisLive a pOPT) 4 2 mode))
/-- The words that SET_GEAR makes live (R186). -/
def Dev.gearWords (d : Dev) (a num den : Nat) : List (Nat × Word) :=
  [(AX a pGEAR_NUM, BitVec.ofNat 32 num), (AX a pGEAR_DEN, BitVec.ofNat 32 den),
   (AX a pOPT, BitVec.ofNat 32 (withBits (d.axisLive a pOPT) 4 2 3))]
/-- The parameters that an input makes live when it enters the law. -/
def Dev.foresee (act : LogAct) (d : Dev) : Dev :=
  match act with
  | .commitAxes _ ws => d.goLiveAll ws
  | .gear a num den => d.goLiveAll (d.gearWords a num den)
  | .move a _ _ => d.liveMode a 2
  | .jog a _ => d.liveMode a 1
  | _ => d
/-- The state with the parameters of the inputs that wait already live (R14, R24): what a later commit is captured and checked against. -/
def Dev.afterCommits (d : Dev) : Dev := d.forEach ((d.cyc.log ++ d.cyc.waiting).map (·.act)) Dev.foresee
/-- The mode of the controller whose law this one computes: the holder's last logged mode, for a standby in Shadow. -/
def Dev.lawMode (d : Dev) : Nat := if d.mode = 8 then d.mir.holderMode else d.mode
/-- Log bytes of a commit of an axis with `w` changed words (R296). -/
def commitSize (w : Nat) : Nat := tableSize (4 + 8 * w)
/-- 0x0302 COMMIT_AXES (R170, R411). -/
def opCommitAxes : Opcode :=
  { code := 0x0302, lMax := 4, sched := true, modes := fun _ => modeLogged confSync,
    run := fun p ref d =>
      let form := par p 22 1
      let first := par p 24 2
      let last := par p 26 2
      if form = 1 && p.len.toNat ≠ 4 then (.bad stBAD_LENGTH, d)
      else if 1 < form || (form = 0 && (511 < last || last < first)) then (.bad stBAD_PARAMETER, d)
      else if d.on MIR_STATUS.BULK then (.bad stBUSY, d)
      else
        let axes := if form = 0 then (List.range (last + 1 - first)).map (· + first)
          else (List.range 512).filter (fun a => bitAt (leNat (extBytes p 0 64)) a)
        let f := d.afterCommits
        let ws := axes.flatMap f.axisDiff
        match f.commitFail axes ws with
        | some r => (.done stCONSISTENCY (ruleResult r.1 r.2), d)
        | none => d.logPacket 0x02 ((axes.map (fun a => commitSize (f.axisDiff a).length)).sum) (.commitAxes axes ws) ref }
/-- A write of a shadow parameter word of axis `a` (R41, R206): a reserved field stores nothing (R12). -/
def Dev.axWrite (a o v : Nat) (d : Dev) : Dev := d.wr (AX a o) (Nat.land v (axisParamMask o))
/-- 0x0301 CONFIGURE_AXIS (R411): host data to the shadow window. -/
def opConfigureAxis : Opcode :=
  { code := 0x0301, modes := fun _ => modeIn confSync,
    run := fun p _ d =>
      let a := par p 22 2
      let off := par p 32 2
      let n := par p 34 2
      if 512 ≤ a || 0xDFC < off || off % 4 ≠ 0 || n < 4 || 3584 < n || n % 4 ≠ 0 || 0xE00 < off + n then (.bad stBAD_PARAMETER, d)
      else d.hostRead p n (fun b d => (.done stOK [], d.forN (n / 4) (fun i => Dev.axWrite a (off + 4 * i) (fieldAt b (4 * i) 4)))) }
/-- First and last axis of a range at packet bytes 22 to 25 (R411). -/
def axisRange (p : Packet) : Option (Nat × Nat) :=
  if par p 24 2 < 512 && par p 22 2 ≤ par p 24 2 then some (par p 22 2, par p 24 2) else none
/-- 0x0303 ENABLE_AXIS (R199, R203, R411). -/
def opEnableAxis : Opcode :=
  { code := 0x0303, sched := true, modes := fun _ => modeAxis [6, 7, 11],
    run := fun p ref d => match axisRange p with
      | some (x, y) => d.logPacket 0x01 68 (.enable x y (bitAt (par p 26 1) 0)) ref
      | none => (.bad stBAD_PARAMETER, d) }
/-- 0x0304 DISABLE_AXIS (R199, R411). -/
def opDisableAxis : Opcode :=
  { code := 0x0304, sched := true, modes := fun _ => modeLogged syncService,
    run := fun p ref d => match axisRange p with
      | some (x, y) => d.logPacket 0x01 68 (.disable x y) ref
      | none => (.bad stBAD_PARAMETER, d) }
/-- A fault reset may clear an axis: its group's stop is not ordered or latched, or is complete (R203). -/
def Dev.resetAllowed (d : Dev) (a : Nat) : Bool :=
  let g := d.groupOf a
  !d.eng.ordered.any (fun o => o.1 == g) && (!bitAt d.eng.latched g || (bitAt d.eng.complete g && d.groupStopped g))
/-- An axis becomes enabled (R199, R201): it meets a latched stop of its group afresh. -/
def Dev.enableNow (a : Nat) (d : Dev) : Dev :=
  let s := d.axis a
  if s.enabled then d.setAxis a { s with enableNext := 0 }
  else d.setAxis a { s with enabled := true, enableNext := 0, stopping := false, stopped := false }
/-- ENABLE_AXIS enters the law (R199, R203): the completion's result, and WRONG_MODE when any axis was discarded. -/
def Dev.enterEnable (first last : Nat) (reset : Bool) (d : Dev) : (Nat × List Byte) × Dev :=
  let axes := (List.range (last + 1 - first)).map (· + first)
  -- in Lockout and Dormant every axis stays disabled (R45, R50)
  let barred := [9, 10].contains d.lawMode
  let bad := axes.filter (fun a => barred || ((d.axis a).faulted && !(reset && d.resetAllowed a)))
  let good := axes.filter (fun a => !bad.contains a)
  let d := d.forEach good (fun a d =>
    let s := d.axis a
    if s.faulted then
      let d := d.setAxis a { s with faulted := false, faultCode := 0, feRun := 0, staleRun := 0, masterRun := 0, consecMiss := 0, resetRec := true,
                                    enabled := false, enableNext := 2 }
      let d := d.wr (CE_FAULT_MAP (a / 32)) (withBits (d.rd (CE_FAULT_MAP (a / 32))) (a % 32) (a % 32) 0)
      d.showFaults.post (0x0800 + a) 0x0414 (leBytes 1 s.faultCode)
    else d.enableNow a)
  ((if bad.isEmpty then stOK else stWRONG_MODE, leBytes 2 good.length ++ leBytes 2 bad.length ++ leBytes 2 (bad.headD 0xFFFF)), d)
/-- DISABLE_AXIS enters the law (R199, R203). -/
def Dev.enterDisable (first last : Nat) (d : Dev) : Dev :=
  d.forEach ((List.range (last + 1 - first)).map (· + first)) (fun a d => d.setAxis a { d.axis a with enabled := false, enableNext := 0 })
/-- What opens a cycle for the axes: enables owed by fault resets (R203), STOP_DISABLE (R201), standings, lane sequences (R163). CE_STALE_MAP keeps the
axes that used a prediction in the cycle that ends (R176). -/
def Dev.openAxes (d : Dev) : Dev :=
  let d := d.forEach (d.eng.running.map (·.1)) Dev.laneAbandon
  let d := d.forEach ((d.axes.filter (fun x => x.2.standing != 1)).map (·.1)) (fun a d =>
    if bitAt (d.rd (CE_STALE_MAP (a / 32))) (a % 32) then d.wr (CE_STALE_MAP (a / 32)) (withBits (d.rd (CE_STALE_MAP (a / 32))) (a % 32) (a % 32) 0) else d)
  let d := d.forEach (d.axes.map (·.1)) (fun a d =>
    let s := d.axis a
    let d := if s.stopped && bitAt (d.axisLive a pCHECK) 5 then d.setAxis a { s with enabled := false } else d
    let d := match s.enableNext with
      | 0 => d
      | 1 => if s.faulted then d.setAxis a { d.axis a with enableNext := 0 } else d.enableNow a
      | n + 1 => d.setAxis a { d.axis a with enableNext := n }
    d.setAxis a { d.axis a with standing := 0 })
  let d := d.forN 32 (fun l d => if lookupD l 0 d.eng.busy = d.rd (CE_LANE_BUSY l) then d else d.wr (CE_LANE_BUSY l) (lookupD l 0 d.eng.busy))
  let d := d.wr CE_LANE_FAILED (Nat.lor (d.rd CE_LANE_FAILED) d.eng.failing)
  { d with eng := { d.eng with
    fbPrev := d.eng.fb, fb := [], fbReady := [], missed := [], slack := [], running := [], done := [], before := [], busy := [], failing := 0,
    tested := none } }
/-- 0x0305 MOVE_PROFILE (R187, R188, R411). The planned list is a free value of the limits and the distance, bound by R539 (notes/assumptions/1.md); a move
for which firmware has no such list is refused, with BAD_PARAMETER (DESIGN CHOICE: the manual names no status). -/
def opMoveProfile : Opcode :=
  { code := 0x0305, sched := true, modes := fun _ => modeAxis [6, 7],
    run := fun p ref d =>
      let a := par p 22 2
      let kind := par p 24 1
      let lims := [par p 34 4, par p 38 4, par p 42 4, par p 46 4]
      let okLims := lims.all (fun x => fpFinite x && fpPos x) && !fpLt (d.axisLive a pVMAX) (par p 34 4)
      if 512 ≤ a || 1 < kind || (kind = 0 && !okLims) || (kind = 1 && !fpFinite (par p 26 4)) then (.bad stBAD_PARAMETER, d)
      else
        let s := d.axis a
        if s.faulted || d.groupLatched (d.groupOf a) then (.bad stWRONG_MODE, d)
        else if (match d.trc.ident with | some i => i.axis == a | none => false) then (.bad stBUSY, d)
        else if kind = 1 then d.logPacket 0x01 68 (.jog a (par p 26 4)) ref
        else if !(fpEq s.vs 0 && fpEq s.pa 0 && s.ph == 8) then (.bad stBUSY, d)
        else
          let t := signedOf 64 (par p 26 8)
          let target := if bitAt (par p 25 1) 0 then satAdd64 s.xs t else t
          let dist := target - s.xs
          let list := if dist = 0 then [] else Config.planProfile dist lims (d.periodNs / 8)
          if dist ≠ 0 && !profileOk (d.periodNs / 8) dist lims list then (.bad stBAD_PARAMETER, d) else
          let phases := (list ++ List.replicate 8 (0, 0)).take 8
          let phases := phases.map (fun x => (x.1 % 2 ^ 32, x.2 % 2 ^ 32))
          let bytes := phases.flatMap (fun x => leBytes 4 x.1 ++ leBytes 4 x.2)
          let log := d.logInput 0x01 (68 + 64) (.move a target phases) (some ref)
          if par p 50 8 = 0 then (.later, log)
          else match p.host with
            | none => (.bad stINTERNAL, d.count32 HIF_DMA_ERR_CNT 1)
            | some _ => (.later, log.emit (.hostWrite (par p 50 8) (d.outBytes p bytes))) }
/-- A position move enters the law (R187); the stop wins over it (R204). -/
def Dev.enterMove (a : Nat) (target : Int) (phases : List (Nat × Nat)) (d : Dev) : (Nat × List Byte) × Dev :=
  if d.groupLatched (d.groupOf a) || (d.axis a).faulted then ((stWRONG_MODE, []), d) else
    let d := d.liveMode a 2
    ((stOK, leBytes 4 ((phases.map (·.2)).sum)),
     d.setAxis a { d.axis a with target := target, phases := phases, ph := 0, left := ((phases.head?).map (·.2)).getD 0, pa := 0 })
/-- A jog target enters the law (R188). -/
def Dev.enterJog (a vt : Nat) (d : Dev) : (Nat × List Byte) × Dev :=
  if d.groupLatched (d.groupOf a) || (d.axis a).faulted then ((stWRONG_MODE, []), d) else
    ((stOK, []), (d.liveMode a 1).setAxis a { d.axis a with jogVt := vt })
/-- 0x0306 SET_GEAR (R186, R411). -/
def opSetGear : Opcode :=
  { code := 0x0306, sched := true, modes := fun _ => modeAxis [6, 7],
    run := fun p ref d =>
      let a := par p 22 2
      if 512 ≤ a then (.bad stBAD_PARAMETER, d)
      else if (d.axis a).faulted || d.groupLatched (d.groupOf a) then (.bad stWRONG_MODE, d)
      else if d.on MIR_STATUS.BULK || (match d.trc.ident with | some i => i.axis == a | none => false) then (.bad stBUSY, d)
      else match d.afterCommits.commitFail [a] (d.afterCommits.gearWords a (par p 24 4) (par p 28 4)) with
        | some r => (.done stCONSISTENCY (ruleResult r.1 r.2), d)
        | none => d.logPacket 0x02 (8 + 24) (.gear a (par p 24 4) (par p 28 4)) ref }
/-- SET_GEAR enters the law (R186, R204). -/
def Dev.enterGear (a num den : Nat) (d : Dev) : (Nat × List Byte) × Dev :=
  if d.groupLatched (d.groupOf a) || (d.axis a).faulted then ((stWRONG_MODE, []), d) else ((stOK, []), d.goLiveAll (d.gearWords a num den))
/-- 0x0307 LOAD_CAM (R190, R411). -/
def opLoadCam : Opcode :=
  { code := 0x0307, modes := fun _ => modeLogged confSync,
    run := fun p ref d =>
      let t := par p 22 2
      let n := par p 32 4
      if 1024 ≤ t then (.bad stBAD_PARAMETER, d)
      else if n < 56 || 98336 < n || (n - 32) % 24 ≠ 0 then (.bad stBAD_LENGTH, d)
      else d.hostRead p n (fun b d =>
        let pts := fieldAt b 0 2
        if n ≠ 32 + 24 * pts then (.bad stBAD_LENGTH, d)
        else if 2 ≤ fieldAt b 2 2 || fieldAt b 8 8 = 0 || pts = 0 || 4096 < pts then (.bad stBAD_PARAMETER, d)
        else if d.on MIR_STATUS.BULK || (d.live.any (fun w => decide (0x200000 ≤ w.1) && w.1 % 0x1000 == pOPT &&
            optMode (d.params ((w.1 - 0x200000) / 0x1000)) == 4 &&
            bitsOf (d.axisLive ((w.1 - 0x200000) / 0x1000) pCAM_TABLE) 9 0 == t)) then (.bad stBUSY, d)
        else if (d.camPlace t n).isNone then (.bad stNO_RESOURCE, d)
        else d.logPacket 0x03 (tableSize n) (.cam t b) ref) }
/-- 0x0308 STREAM_SETPOINTS (R192, R198, R411); a batch for a faulted axis is a request to it (R203). -/
def opStream : Opcode :=
  { code := 0x0308, sched := true, lMax := 48, modes := fun _ => modeAxis syncService,
    run := fun p ref d =>
      let first := par p 22 2
      let k := par p 24 1
      let law := par p 25 1
      if 0 < k && k ≤ 64 && p.len.toNat ≠ (12 * k + 15) / 16 then (.bad stBAD_LENGTH, d)
      else if law ≤ 1 && !d.ha law then (.bad stWRONG_MODE, d)
      else if k = 0 || 64 < k || 1 < law || 512 < first + k then (.bad stBAD_PARAMETER, d)
      else if (List.range k).any (fun i => (d.axis (first + i)).faulted) then (.bad stWRONG_MODE, d)
      else d.logPacket (if law = 1 then 0x05 else 0x04) (16 + 12 * k) (.stream (law == 1) first k (par p 26 8) (extBytes p 0 (12 * k))) ref }
/-- A host batch enters the law (R192, R198). -/
def Dev.enterStream (law : Bool) (first count valid : Nat) (data : List Byte) (d : Dev) : Dev :=
  d.forN count (fun i d =>
    let v : HostValue := ⟨law, padTo 12 ((data.drop (12 * i)).take 12), bitAt valid i⟩
    { d with eng := { d.eng with host := (d.eng.host.filter (fun h => !(h.1 == first + i && h.2.law == law))) ++ [(first + i, v)] } })
/-- 0x0309 STOP_GROUP (R201, R411). -/
def opStopGroup : Opcode :=
  { code := 0x0309, sched := true, modes := fun _ => modeLogged syncService,
    run := fun p ref d => d.logPacket 0x01 68 (.stopGroup (par p 22 2) (bitAt (par p 24 1) 0) 0 0xFFFF) ref }
/-- Bytes of a signed number. -/
def leInt (n : Nat) (x : Int) : List Byte := leBytes n (codeOf (8 * n) x)
/-- The 512-byte state of an axis record (R209). -/
def axisStateBytes (s : AxisState) : List Byte :=
  let w0 := flag s.enabled + 2 * flag s.faulted + 4 * flag s.stopping + 8 * flag s.stopped + 16 * flag s.miss + 32 * flag s.stale +
    64 * flag s.masterHeld + 128 * flag s.masterStale + 256 * flag s.saturated + 512 * flag s.limit + 1024 * flag s.stoSeen +
    2048 * flag s.first + 4096 * flag s.follows + 8192 * s.genLive
  let w1 := s.faultCode + 256 * s.consecMiss + 4096 * s.staleRun + 65536 * s.feRun
  padTo 512 (leBytes 4 w0 ++ leBytes 4 w1 ++ leBytes 4 s.missCount ++ zeros 4 ++ leInt 8 s.xs ++ leInt 8 s.xref ++ leInt 8 s.xfb ++
    leBytes 4 s.vs ++ leBytes 4 s.as ++ leBytes 4 s.js ++ leBytes 4 s.vfb ++
    leBytes 4 s.ip ++ leBytes 4 s.iv ++ leBytes 4 s.ePrev ++ leBytes 4 s.vhat ++ leBytes 4 s.dhat ++ leBytes 4 s.tau ++
    s.pbq.flatMap (leBytes 4) ++ s.vbq.flatMap (leBytes 4) ++ leInt 12 s.rem ++ zeros 4 ++ leInt 8 s.mprev ++ leInt 8 s.c ++ leInt 8 s.pend ++
    leBytes 2 s.regSeq ++ zeros 6 ++ padTo 16 s.lastRecord ++ leInt 8 s.target ++ leBytes 4 s.pa ++ leBytes 4 s.ph ++ leBytes 4 s.left ++ zeros 4 ++
    s.phases.flatMap (fun x => leBytes 4 x.1 ++ leBytes 4 x.2) ++ leBytes 4 s.jogVt ++ leBytes 4 s.lastCycle ++
    leBytes 4 (s.markSeq + 256 * flag s.markSeen))
/-- The live parameters of an axis as bytes. -/
def Dev.paramBytes (d : Dev) (a : Nat) : List Byte := (List.range 896).flatMap (fun i => leBytes 4 (d.axisLive a (4 * i)))
/-- 0x030A READ_AXIS_STATE (R411). -/
def opReadAxisState : Opcode :=
  { code := 0x030A, modes := fun _ => modeIn confSync,
    run := fun p _ d =>
      let a := par p 22 2
      let form := par p 24 1
      if 512 ≤ a || 2 < form then (.bad stBAD_PARAMETER, d)
      else
        let data := (if form = 1 then [] else d.paramBytes a) ++ (if form = 0 then [] else axisStateBytes (d.axis a))
        d.hostWrite p (par p 25 8) data (.done stOK (leBytes 4 (d.axis a).lastCycle)) }
/-- Pair rules 80 and 81 (R288) for a lease over generations: rule and place. -/
def Dev.pairRules (d : Dev) (lease : Nat) (gens : List Generation) : Option (Nat × Nat) :=
  if lease < 2 || 64 < lease || gens.any (fun g => g.blocks.any (fun b => lease * b.period * 8 < 32000)) then some (80, 0x01C0)
  else if gens.any (fun g => g.blocks.any (fun b => b.closed && decide ((b.period - b.down) * 8 * 65536 < ns 3450 + d.rd MIR_DELAY))) then some (81, 0x01C0)
  else none
/-- ACTIVATE_GENERATION checks them where the mirror is up. -/
def Dev.pairFail (d : Dev) (lease : Nat) (gens : List Generation) : Option (Nat × Nat) :=
  if d.get MIR_STATUS.LANES = 0 then none else d.pairRules lease gens
/-- 0x0202 ACTIVATE_GENERATION (R95, R96, R167, R288, R343). A second one is BUSY while a countdown runs (R95), and also while the first has been accepted
and its countdown has not begun: of that time the manual says nothing (DESIGN CHOICE). -/
def opActivate : Opcode :=
  { code := 0x0202, sched := true, ownTime := true, modes := fun _ => modeLogged [4, 6, 7, 10, 11],
    run := fun p ref d =>
      match d.cyc.pending with
      | none => (.bad stBAD_PARAMETER, d)
      | some g =>
        if g.num ≠ par p 22 2 then (.bad stBAD_PARAMETER, d)
        else if d.cyc.countdown.isSome || d.cyc.waiting.any (fun e => match e.act with | .activate _ _ => true | _ => false) then (.bad stBUSY, d)
        else match d.scheduleFail g with
          | some r => (.done stCONSISTENCY (ruleResult r.1 r.2), d)
          | none =>
            let P := d.allParams
            match (engineRule1 g P (d.rd CE_LANE_FAILED)).orElse (fun _ => (engineRule2 g P).orElse (fun _ =>
                (engineRule3 g P (d.costOf P) d.markNode).orElse (fun _ => d.pairFail (d.lget MIR_CTRL.LEASE) [g] |>.orElse
                  (fun _ => d.safetyFailWith [g] (d.lget MIR_CTRL.LEASE))))) with
            | some r => (.done stCONSISTENCY (ruleResult r.1 r.2), d)
            | none => d.logPacket 0x01 68 (.activate g.num (if hasFlag p 2 then some (p.execAt.toNat, p.tol.toNat) else none)) ref }

/-- CE_APPLY (R172). -/
def execCeApply (s : State) : Answer := .next (s.onDev Dev.ceApply)
/-- ACTIVATE_GENERATION (R95). -/
def execActivateGeneration (p : Packet) (s : State) : Answer := .next (s.onDev (Dev.packet opActivate p))
/-- CONFIGURE_AXIS (R411). -/
def execConfigureAxis (p : Packet) (s : State) : Answer := .next (s.onDev (Dev.packet opConfigureAxis p))
/-- COMMIT_AXES (R170). -/
def execCommitAxes (p : Packet) (s : State) : Answer := .next (s.onDev (Dev.packet opCommitAxes p))
/-- ENABLE_AXIS (R199). -/
def execEnableAxis (p : Packet) (s : State) : Answer := .next (s.onDev (Dev.packet opEnableAxis p))
/-- DISABLE_AXIS (R199). -/
def execDisableAxis (p : Packet) (s : State) : Answer := .next (s.onDev (Dev.packet opDisableAxis p))
/-- MOVE_PROFILE (R187). -/
def execMoveProfile (p : Packet) (s : State) : Answer := .next (s.onDev (Dev.packet opMoveProfile p))
/-- SET_GEAR (R186). -/
def execSetGear (p : Packet) (s : State) : Answer := .next (s.onDev (Dev.packet opSetGear p))
/-- LOAD_CAM (R190). -/
def execLoadCam (p : Packet) (s : State) : Answer := .next (s.onDev (Dev.packet opLoadCam p))
/-- STREAM_SETPOINTS (R192). -/
def execStreamSetpoints (p : Packet) (s : State) : Answer := .next (s.onDev (Dev.packet opStream p))
/-- STOP_GROUP (R201). -/
def execStopGroup (p : Packet) (s : State) : Answer := .next (s.onDev (Dev.packet opStopGroup p))
/-- READ_AXIS_STATE (R411). -/
def execReadAxisState (p : Packet) (s : State) : Answer := .next (s.onDev (Dev.packet opReadAxisState p))

end Sys2Proof.Machine
end

