-- ==== Sys2Proof/Machine/Feedback.lean ====
section
/-! DEFINITION. Sys2Proof/Machine/Feedback.lean: the local feedback channels FB0 to FB3 (R231 to R246). -/
namespace Sys2Proof.Machine

/-- A feedback channel. -/
def Dev.fbCh (d : Dev) (n : Nat) : Fb := smGet (fun _ => Fb.reset) d.fb n
/-- Replace a feedback channel. -/
def Dev.setFb (n : Nat) (c : Fb) (d : Dev) : Dev := { d with fb := smSet (fun _ => Fb.reset) d.fb n c }

/-- K of R238: 10^9 ns in units of 2^-16 ns. -/
def fbK : Nat := 1000000000 * 65536
/-- Standstill time TSS of channel `n` (R238). -/
def Dev.fbTss (d : Dev) (n : Nat) : Nat := bitsOf (d.lrd (FB_EST n)) 25 16 * 1000000 * 65536
/-- evaluate(t) of R238. -/
def fbEvaluate (tss t : Nat) (c : Fb) : Fb :=
  if c.still || c.tlast + tss ≤ t then { c with still := true, v := 0, cmode := false, nw := 0 }
  else if c.pend || c.rev then { c with v := 0 }
  else
    let base := if c.cmode then c.vc else c.vp
    let v := if c.tlast < t then fpSign (fpNeg base) + min (fpAbs base) (fpDiv fbK (t - c.tlast)) else base
    { c with v := v }
/-- The estimator at a counted edge at `t` with step direction `neg` (R238). -/
def fbEdgeSpeed (pavg tss t : Nat) (neg : Bool) (c : Fb) : Fb :=
  let c :=
    if c.still || c.tlast + tss ≤ t then
      { c with neg := neg, n := 1, h := [t], vp := 0, still := false, pend := true, rev := false, cmode := false, nw := 0 }
    else if neg != c.neg then
      { c with neg := neg, n := 1, h := [t], vp := 0, pend := false, rev := true, cmode := false, nw := 0 }
    else
      let m := min pavg c.n
      let h := (t :: c.h).take 10
      { c with h := h, vp := fpDivInt (if neg then -(m * fbK : Nat) else (m * fbK : Nat)) (t - h.getD m t),
               n := min (c.n + 1) 9, pend := false, rev := false }
  fbEvaluate tss t { c with tlast := t }
/-- The estimator at a sample instant (R238). -/
def fbSampleSpeed (cwin vup vdn tss t : Nat) (c : Fb) : Fb :=
  let w := ((c.cnt, t) :: c.w).take 17
  let nw := min (c.nw + 1) 17
  let old := w.getD cwin (c.cnt, t)
  let vc := if cwin < nw then fpDivInt ((c.cnt - old.1) * (fbK : Nat)) (t - old.2) else c.vc
  let mode :=
    if !c.cmode && decide (cwin < nw) && fpLt vup (fpAbs c.vp) then true
    else if c.cmode && fpLt (fpAbs vc) vdn then false else c.cmode
  fbEvaluate tss t { c with w := w, nw := nw, vc := vc, cmode := mode }

/-- Levels of the three pins after INV_A, INV_B and INV_C (R231). -/
def fbLevels (ctrl : Nat) (a b c : Bool) : Bool × Bool × Bool := (a != bitAt ctrl 8, b != bitAt ctrl 9, c != bitAt ctrl 10)
/-- Hall state of inverted levels: 4U + 2V + W (R233). -/
def hallState (x : Bool × Bool × Bool) : Nat := 4 * flag x.1 + 2 * flag x.2.1 + flag x.2.2
/-- FB_STATUS, FB_SPEED and the count registers show the channel (R239, R245); HALL_STATE shows the present state in Hall mode. -/
def Dev.showFb (n : Nat) (d : Dev) : Dev :=
  let c := d.fbCh n
  let ctrl := d.lrd (FB_CTRL n)
  let d := d.set (FB_STATUS.HALL_STATE n) (if bitsOf ctrl 2 0 = 4 then hallState (fbLevels ctrl c.a c.b c.c) else 0)
  let d := (((d.set (FB_STATUS.STANDSTILL n) (flag c.still)).set (FB_STATUS.PENDING n) (flag c.pend)).set (FB_STATUS.REVERSAL n)
    (flag c.rev)).set (FB_STATUS.COUNT_MODE n) (flag c.cmode)
  let d := (d.set (FB_STATUS.DIR n) (flag c.neg)).wr64 (FB_COUNT_LO n) (codeOf 64 c.cnt)
  let d := ((d.wr (FB_SPEED n) c.v).wr (FB_SPEED_PERIOD n) c.vp).wr (FB_SPEED_COUNT n) c.vc
  let d := (d.wr (FB_LAST_EDGE_FRAC n) (c.tlast % 65536)).wr64 (FB_LAST_EDGE_LO n) (c.tlast / 65536 % 2 ^ 64)
  let d := (d.set (FB_PAIR.OFF_VALID n) (flag c.haveOff)).wr64 (FB_PAIR_OFFSET_LO n) (codeOf 64 c.off)
  let d := d.set (FB_EDGE_CTRL.DEPTH n) c.queue.length
  match c.queue with
  | [] => d.wr (FB_EDGE2 n) 0
  | e :: _ => ((d.wr64 (FB_EDGE0 n) (e.time / 65536 % 2 ^ 64)).wr (FB_EDGE2 n)
      (e.time % 65536 + e.kind * 2 ^ 16 + e.input * 2 ^ 19 + flag e.level * 2 ^ 21 + 2 ^ 31)).wr (FB_EDGE3 n) e.count

/-- A restart of the estimator (R238): t_last is unchanged, and a standby's offset no longer holds (R241). -/
def Dev.fbRestart (d : Dev) (c : Fb) : Fb := { c with still := true, bad := true, haveOff := c.haveOff && d.mode != 8 }

/-- Push an edge record (R242). -/
def Dev.fbPush (n : Nat) (e : FbEdge) (d : Dev) : Dev :=
  let en := d.get (FB_EDGE_CTRL.EN n)
  let sel := if e.kind ≤ 1 then bitAt en 0 else bitAt en (e.kind - 1)
  if !sel then d else
    let c := d.fbCh n
    if 64 ≤ c.queue.length then
      ((d.set (FB_EDGE_CTRL.OVERFLOW n) 1).count32 (FB_EDGE_OVF_CNT n) 1).postSum (0x0A00 + n) 0x0A05 (leBytes 2)
    else d.setFb n { c with queue := c.queue ++ [e] }

/-- The effects of an illegal state or transition (R235). -/
def Dev.fbIllegal (n code : Nat) (data : List Byte) (d : Dev) : Dev :=
  let d := if code = 0x0A02 then d.count (FB_ERR_CNT.TRANS n) 1 else d.count (FB_ERR_CNT.STATE n) 1
  ((d.set (FB_STATUS.ILLEGAL n) 1).post (0x0A00 + n) code data).setFb n (d.fbRestart (d.fbCh n))

/-- One counted edge at `t` (R231, R232, R238). -/
def Dev.fbCount (n t : Nat) (step : Int) (d : Dev) : Dev :=
  let step := if bitAt (d.lrd (FB_CTRL n)) 11 then -step else step
  let c := d.fbCh n
  let raw := c.cnt + step
  let cnt := signedOf 48 (codeOf 48 raw)
  let c := fbEdgeSpeed (bitsOf (d.lrd (FB_EST n)) 3 0) (d.fbTss n) t (decide (step < 0)) { c with cnt := cnt }
  let d := (d.setFb n { c with edges := (c.edges ++ [(t, cnt)]).drop ((c.edges.length + 1) - 64) }).set (FB_STATUS.ILLEGAL n) 0
  d.when (cnt != raw) (Dev.post (0x0A00 + n) 0x0A04 (leBytes 1 (if 0 < raw then 0 else 1)))

/-- Gray index of an (A, B) state in forward order 00, 01, 11, 10 (R231). -/
def grayIndex (a b : Bool) : Nat := match a, b with | false, false => 0 | false, true => 1 | true, true => 2 | true, false => 3
/-- Forward successor of a Hall state (R233). -/
def hallNext (s : Nat) : Nat := match s with | 5 => 4 | 4 => 6 | 6 => 2 | 2 => 3 | 3 => 1 | 1 => 5 | _ => 0
/-- Reverse successor of a Hall state (R233). -/
def hallPrev (s : Nat) : Nat := match s with | 4 => 5 | 6 => 4 | 2 => 6 | 3 => 2 | 1 => 3 | 5 => 1 | _ => 0

/-- What a filtered sample does to the count: (step, illegal event code with data). `o` and `w` are the (A, B, C) levels before and after
inversion; none = no counted edge (R231 to R235). -/
def fbClassify (mode : Nat) (stepEdge order : Bool) (legal : Nat) (o w : Bool × Bool × Bool) : Option Int × Option (Nat × List Byte) :=
  let ab := fun (x : Bool × Bool × Bool) => 2 * flag x.1 + flag x.2.1
  match mode with
  | 1 =>
    if o.1 != w.1 && o.2.1 != w.2.1 then (none, some (0x0A03, leBytes 1 (ab o) ++ leBytes 1 (ab w)))
    else if o.1 == w.1 && o.2.1 == w.2.1 then (none, none)
    else (some (if (grayIndex o.1 o.2.1 + 1) % 4 = grayIndex w.1 w.2.1 then 1 else -1), none)
  | 2 => if o.1 != w.1 && (w.1 != stepEdge) then (some (if w.2.1 then -1 else 1), none) else (none, none)
  | 3 =>
    let up := !o.1 && w.1
    let dn := !o.2.1 && w.2.1
    if up && !dn then (some 1, none) else if dn && !up then (some (-1), none) else (none, none)
  | 4 =>
    let s := hallState o
    let s' := hallState w
    if s = s' then (none, none)
    else if s' = 0 || s' = 7 then (none, some (0x0A01, leBytes 1 s' ++ leBytes 1 legal))
    else if s = 0 || s = 7 then
      if s' = legal || s' = hallNext legal || s' = hallPrev legal then (none, none)
      else (none, some (0x0A02, leBytes 1 s' ++ leBytes 1 legal))
    else if s' = hallNext s then (some (if order then -1 else 1), none)
    else if s' = hallPrev s then (some (if order then 1 else -1), none)
    else (none, some (0x0A02, leBytes 1 s' ++ leBytes 1 legal))
  | _ => (none, none)

/-- The levels that a channel's outputs repeat (R243): the filtered ones, or those of the pins. -/
def fbOut (pt : Nat) (c : Fb) : Bool × Bool × Bool := if pt = 2 then (c.pinA, c.pinB, c.pinC) else (c.a, c.b, c.c)
/-- The pass-through outputs follow the inputs (R243). -/
def Dev.fbPass (n : Nat) (o w : Fb) (d : Dev) : Dev :=
  let pt := bitsOf (d.lrd (FB_CTRL n)) 17 16
  if pt = 1 || pt = 2 then
    let x := fbOut pt o
    let y := fbOut pt w
    let d := d.when (x.1 != y.1) (Dev.emit (.pin "FB_OA" n y.1))
    let d := d.when (x.2.1 != y.2.1) (Dev.emit (.pin "FB_OB" n y.2.1))
    d.when (x.2.2 != y.2.2) (Dev.emit (.pin "FB_OC" n y.2.2))
  else d

/-- Record kind of a changed input `i` with its new level (R242): a counted edge by its step, an edge of an illegal event, an edge of C, else an uncounted
edge of A or B. `raw` is the step before COUNT_DIR. -/
def fbKind (mode : Nat) (illegal : Bool) (raw : Option Int) (dir : Bool) (i : Nat) (level : Bool) : Nat :=
  let counted := match raw with
    | none => false
    | some st => match mode with
      | 2 => i == 0
      | 3 => level && i == (if st < 0 then 1 else 0)
      | 4 => true
      | _ => i ≤ 1
  if counted then (if decide (raw.getD 0 < 0) != dir then 1 else 0)
  else if i = 2 && mode ≠ 4 then 3
  else if illegal then 4
  else if i = 2 then 3 else 2
/-- The inputs of channel `n` stand at levels (R231 to R236, R242). A pin level that the filter has not accepted is seen by the unfiltered outputs only
(R243); without an accepted change the channel does no more. The edge time is the first of the FLT + 1 samples, less 2 ns, less FB_DELAY. Every changed input gives
one record. While no legal Hall state has been seen, the class of the first one and the last legal state in an event are free values. -/
def Dev.fbInput (n : Nat) (a b c : FbLevel) (d : Dev) : Dev :=
  let o := d.fbCh n
  let w := { o with a := a.level, b := b.level, c := c.level, pinA := a.pin, pinB := b.pin, pinC := c.pin }
  let ctrl := d.lrd (FB_CTRL n)
  let mode := bitsOf ctrl 2 0
  let d := (d.fbPass n o w).setFb n w
  if mode = 0 || (o.a == w.a && o.b == w.b && o.c == w.c) then d else
    let t := ((d.now : Int) - ns (bitsOf ctrl 7 4 * 4) - ns 2 - 65536 * signedOf 16 (d.get (FB_DELAY.DELAY n))).toNat
    let lo := fbLevels ctrl o.a o.b o.c
    let lw := fbLevels ctrl w.a w.b w.c
    let r := fbClassify mode (bitAt ctrl 12) (bitAt ctrl 13) o.legal lo lw
    let free := mode == 4 && decide (o.legal = 0) && r.2.isSome
    let x := d.draw
    let d := if free then x.2 else d
    let illegal := match r.2 with
      | some (code, data) =>
        if !free then r.2
        else if code = 0x0A02 && hallState lo % 7 == 0 && x.1 % 2 == 0 then none
        else some (code, if hallState lo % 7 == 0 then data.take 1 ++ leBytes 1 (x.1 / 2 % 8) else data)
      | none => none
    let hs := hallState lw
    let d := match illegal with | some (code, data) => d.fbIllegal n code data | none => d
    let d := match r.1 with | some st => d.fbCount n t st | none => d
    let d := d.when (mode == 4 && hs != 0 && hs != 7) (fun d => d.setFb n { d.fbCh n with legal := hs })
    let cnt := codeOf 32 (d.fbCh n).cnt
    let chg := (if lo.1 != lw.1 then [(0, lw.1)] else []) ++ (if lo.2.1 != lw.2.1 then [(1, lw.2.1)] else []) ++
      (if lo.2.2 != lw.2.2 then [(2, lw.2.2)] else [])
    (d.forEach chg (fun p d => d.fbPush n ⟨t, fbKind mode illegal.isSome r.1 (bitAt ctrl 11) p.1 p.2, p.1, p.2, cnt⟩)).showFb n

/-- The sample instant of the present command (R239): the closing instant of the cycle's log in the synchronised modes, else the nearest whole 10 µs. -/
def Dev.sampleInstant (d : Dev) : LTime :=
  if d.sync && d.cyc.running then d.cyc.ref + quanta (match d.cyc.active.bind (fun g => g.blocks.head?) with | some b => b.down | none => 0)
  else (d.now + ns 5000) / ns 10000 * ns 10000
/-- A sample instant of channel `n` at `t` (R239, R240, R241): the estimator runs, and the permit holder logs one sample of a channel in use. A controller
that took the permit from Shadow logs its own count with the pair offset, and none valid without one. -/
def Dev.fbSampleCh (n : Nat) (t : LTime) (d : Dev) : Dev :=
  if ((d.fbCh n).w.head?).map (·.2) == some t then d else
    let c := fbSampleSpeed (bitsOf (d.lrd (FB_EST n)) 8 4) (d.lrd (FB_VUP n)) (d.lrd (FB_VDN n)) (d.fbTss n) t (d.fbCh n)
    let valid := !c.bad
    let x := signedOf 48 (codeOf 48 (if c.heir && c.haveOff then c.cnt + c.off else c.cnt)) * 65536
    let d := d.setFb n { c with bad := false, own := if d.permit then c.own else some (c.cnt, valid, t) }
    let ok := valid && (!c.heir || c.haveOff)
    let d := d.when (d.sync && d.permit && bitsOf (d.lrd (FB_CTRL n)) 2 0 != 0) (fun d =>
      (d.set (FB_STATUS.SAMPLE_VALID n) (flag ok)).logInput 0x06 28
        (.fbSample n (leBytes 8 (codeOf 64 x) ++ leBytes 4 c.v ++ leBytes 10 t ++ leBytes 1 (flag ok))) none)
    d.showFb n
/-- FB_SAMPLE_INSTANT (R239): the sample instant of every channel. -/
def Dev.fbSample (d : Dev) : Dev :=
  let t := d.sampleInstant
  (d.reach t).forN 4 (fun n => Dev.fbSampleCh n t)

/-- The fields a commit of channel `n` captures (R244). -/
def fbRegs (n : Nat) : List Nat := [FB_CTRL n, FB_EST n, FB_VUP n, FB_VDN n]
/-- Rules 50 to 53 on the captured words (R244). -/
def Dev.fbRules (d : Dev) (n : Nat) : Option Nat :=
  let mode := d.get (FB_CTRL.MODE n)
  let pavg := d.get (FB_EST.PAVG n)
  let cwin := d.get (FB_EST.CWIN n)
  let st := d.get (FB_EST.STANDSTILL n)
  let vup := d.rd (FB_VUP n)
  let vdn := d.rd (FB_VDN n)
  firstFail [(50, decide (mode ≤ 4)),
    (51, fpFinite vup && fpFinite vdn && fpLt 0 vdn && fpLt vdn vup),
    (52, decide (1 ≤ pavg) && decide (pavg ≤ 8) && decide (1 ≤ cwin) && decide (cwin ≤ 16) && decide (1 ≤ st) && decide (st ≤ 1000)),
    (53, !(d.channelUsed n) || mode == bitsOf (d.lrd (FB_CTRL n)) 2 0)]
/-- A commit of channel `n` goes live (R232, R238, R244): a new MODE zeroes the count, a changed field of R238 restarts the estimator. -/
def Dev.fbCommit (n : Nat) (ws : List (Nat × Word)) (d : Dev) : Dev :=
  let c0 := d.lrd (FB_CTRL n)
  let e0 := d.lrd (FB_EST n)
  let d := d.goLiveAll ws
  let c1 := d.lrd (FB_CTRL n)
  let e1 := d.lrd (FB_EST n)
  let pick := fun (x : Nat) => [bitsOf x 2 0, bitsOf x 7 4, bitsOf x 11 8, bitsOf x 13 13]
  let c := d.fbCh n
  let c := if bitsOf c0 2 0 ≠ bitsOf c1 2 0 then { c with cnt := 0, edges := [] } else c
  -- the pins may already stand in a legal Hall state (R233)
  let hs := hallState (fbLevels c1 c.a c.b c.c)
  let c := if pick c0 == pick c1 then c else { c with legal := if hs % 7 = 0 then 0 else hs }
  let c := if pick c0 != pick c1 || bitsOf e0 8 0 != bitsOf e1 8 0 then d.fbRestart c else c
  let d := d.setFb n c
  let pt0 := bitsOf c0 17 16
  let pt := bitsOf c1 17 16
  let d := if pt = 0 || pt = 3 then
      d.when (pt0 == 1 || pt0 == 2) (fun d => ((d.emit (.pin "FB_OA" n true)).emit (.pin "FB_OB" n true)).emit (.pin "FB_OC" n true))
    else let x := fbOut pt c; ((d.emit (.pin "FB_OA" n x.1)).emit (.pin "FB_OB" n x.2.1)).emit (.pin "FB_OC" n x.2.2)
  (d.set FB_APPLY.APPLY (withBits (d.get FB_APPLY.APPLY) n n 0)).showFb n
/-- A write to FB_APPLY (R244): each set bit checks and captures its channel; in the synchronised modes it goes live at the next boundary,
elsewhere at once (within 1 µs). A register write has no reply that could hold the status of R24: REFUSED shows a failure (R245). -/
def Dev.fbApply (mask : Nat) (d : Dev) : Dev :=
  d.forN 4 (fun n d =>
    if !bitAt mask n || bitAt (d.get FB_APPLY.APPLY) n then d else
      match d.fbRules n with
      | some _ => d.set FB_APPLY.REFUSED (withBits (d.get FB_APPLY.REFUSED) n n 1)
      | none =>
        let d := d.set FB_APPLY.REFUSED (withBits (d.get FB_APPLY.REFUSED) n n 0)
        if d.sync then (d.set FB_APPLY.APPLY (withBits (d.get FB_APPLY.APPLY) n n 1)).holdCommit (0x0A00 + n) (d.capture (fbRegs n)) none
        else d.fbCommit n (d.capture (fbRegs n)))
/-- A write of FB_PRESET_HI (R232): the count is loaded unless an enabled axis uses the channel. -/
def Dev.fbPreset (n hi : Nat) (d : Dev) : Dev :=
  if d.channelUsed n then d.set (FB_STATUS.PRESET_REFUSED n) 1
  else (d.setFb n { d.fbCh n with cnt := signedOf 48 ((d.fbCh n).presetLo + 2 ^ 32 * (hi % 2 ^ 16)) }).showFb n
/-- A read of FB_EDGE3 answers the head record's count and pops it (R242). -/
def Dev.fbEdgePop (n : Nat) (d : Dev) : Dev :=
  let d := d.emit (.busData (FB_EDGE3 n) (d.rd (FB_EDGE3 n)))
  (d.setFb n { d.fbCh n with queue := (d.fbCh n).queue.drop 1 }).showFb n
/-- The standby follows the holder's logged sample of a channel (R241) where it has its own of the same instant: half a period tells instants apart. -/
def Dev.fbFollow (n : Nat) (data : List Byte) (d : Dev) : Dev :=
  let c := d.fbCh n
  match c.own with
  | some (own, true, t) =>
    let same := decide (2 * ((fieldAt data 12 10 : Int) - (t : Int)).natAbs < ns d.periodNs)
    if fieldAt data 22 1 = 1 && same then
      let hc := signedOf 64 (fieldAt data 0 8) / 65536
      let df := hc - own
      let tol : Int := d.get (FB_PAIR.TOL n)
      let bad := c.haveOff && decide (0 < tol) && decide (tol < (df - c.off).natAbs)
      let d := d.when bad (fun d => (d.set (FB_PAIR.MISMATCH n) 1).post (0x0A00 + n) 0x0A06
        (leBytes 4 (codeOf 32 (clampInt (-(2 ^ 31)) (2 ^ 31 - 1) (df - c.off)))))
      (d.setFb n { c with off := df, haveOff := true }).showFb n
    else d
  | _ => d
/-- On entry to Shadow every channel loses its offset and needs one (R241). -/
def Dev.fbShadow (d : Dev) : Dev := d.forN 4 (fun n d => (d.setFb n { d.fbCh n with haveOff := false, heir := true }).showFb n)
/-- A resync, or leaving the line, ends what stood in Shadow leaves to a holder without an offset (R241): its own count is valid again. -/
def Dev.fbSettle (all : Bool) (d : Dev) : Dev :=
  d.forN 4 (fun n d => if (d.fbCh n).heir && (all || !(d.fbCh n).haveOff) then d.setFb n { d.fbCh n with heir := false } else d)

/-- FB_INPUT_EDGE (R231). -/
def execFbInputEdge (n : Fin 4) (a b c : FbLevel) (s : State) : Answer := .next (s.onDev (Dev.fbInput n.val a b c))
/-- FB_SAMPLE_INSTANT (R239). -/
def execFbSampleInstant (s : State) : Answer := .next (s.onDev Dev.fbSample)
/-- FB_APPLY (R244). -/
def execFbApply (mask : BitVec 4) (s : State) : Answer := .next (s.onDev (Dev.fbApply mask.toNat))
/-- FB_PRESET (R232). -/
def execFbPreset (n : Fin 4) (hi : Word) (s : State) : Answer := .next (s.onDev (Dev.fbPreset n.val hi.toNat))
/-- FB_EDGE_POP (R242). -/
def execFbEdgePop (n : Fin 4) (s : State) : Answer := .next (s.onDev (Dev.fbEdgePop n.val))

end Sys2Proof.Machine
end

