-- ==== Sys2Proof/Machine/Capture.lean ====
section
/-! DEFINITION. Sys2Proof/Machine/Capture.lean: trigger inputs and their calibration (R247 to R251), ADC inputs (R252, R253), capture units
(R254 to R265), registration (R266 to R271) and capture across controllers (R272 to R277). -/
namespace Sys2Proof.Machine

/-- A trigger input. -/
def Dev.tdcIn (d : Dev) (n : Nat) : TdcIn := smGet (fun _ => TdcIn.reset) d.acq.tdc n
/-- Replace a trigger input. -/
def Dev.setTdc (n : Nat) (x : TdcIn) (d : Dev) : Dev := { d with acq := { d.acq with tdc := smSet (fun _ => TdcIn.reset) d.acq.tdc n x } }
/-- The queue registers of an input show its head (R279). -/
def Dev.showTdc (n : Nat) (d : Dev) : Dev :=
  let q := (d.tdcIn n).queue
  let d := d.set (TDC_IN_STATUS.DEPTH n) q.length
  match q with
  | [] => d.wr (TDC_IN_TS2 n) 0
  | e :: _ => ((d.wr64 (TDC_IN_TS0 n) (e.time / 65536 % 2 ^ 64)).wr (TDC_IN_TS2 n) (e.time % 65536 + flag e.falling * 2 ^ 16 + 2 ^ 31)).wr
      (TDC_IN_TS3 n) e.seq
/-- Whether an edge direction is selected by an EDGE code (R247). -/
def edgeSelected (code : Nat) (rising : Bool) : Bool := if rising then code == 0 || code == 2 else code == 1 || code == 2
/-- The stamp of an edge whose line was sampled at `tick` with code `c` (R248); without a valid table the stamp is coarse (R250). -/
def Dev.stampOf (d : Dev) (n c : Nat) (tick : LTime) : LTime :=
  let fine := if bitAt (d.get TDC_STATUS.CAL_VALID) n then d.get (TDC_FINE.FINE n (min c (d.tdcIn n).lastBin)) else 0
  ((tick : Int) - fine - signedOf 32 (d.rd (TDC_IN_DELAY n))).toNat
/-- A stamp joins its queue; a full queue drops it (R247). -/
def Dev.pushStamp (n : Nat) (e : TdcStamp) (d : Dev) : Dev :=
  let x := d.tdcIn n
  if 16 ≤ x.queue.length then
    ((d.set (TDC_IN_STATUS.OVERFLOW n) 1).count (TDC_IN_LOST.LOST n) 1).postSum (0x0B00 + n) 0x0B01 (leBytes 2)
  else (d.setTdc n { x with queue := x.queue ++ [e] }).showTdc n
/-- An accepted edge is offered to the registration channels that name it (R247, R268). -/
def Dev.offerMarks (n : Nat) (rising : Bool) (t : LTime) (d : Dev) : Dev :=
  d.forN 32 (fun r d =>
    let c := d.regCh r
    let src := regField c.params 27 1
    if regOn c.params && regField c.params 26 1 == 1 && src % 16 == n && edgeSelected (src / 16 % 4) rising then
      d.setReg r { c with marks := c.marks ++ [t] }
    else d)
/-- TRIGGER_EDGE (R247, R248): an edge of input `n` reaches the line-time tick with tap code `c`; `held` says that its level then held for MINW. -/
def Dev.triggerEdge (n : Nat) (rising : Bool) (c : Nat) (held : Bool) (d : Dev) : Dev :=
  let d := d.set (TDC_IN_STATUS.LEVEL n) (flag rising)
  let ctrl := d.lrd (TDC_IN_CTRL n)
  if !bitAt ctrl 0 || !edgeSelected (bitsOf ctrl 3 2) rising then d
  else if !held then d.count (TDC_IN_LOST.SUPPRESSED n) 1
  else
    let t := d.stampOf n c d.now
    let x := d.tdcIn n
    let since := match x.last with | some l => some (t - l) | none => none
    if (match since with | some g => decide (g < ns (8 * bitsOf ctrl 31 16)) | none => false) then d.count (TDC_IN_LOST.SUPPRESSED n) 1
    else if (match since with | some g => decide (g < ns 4) | none => false) then d.count (TDC_IN_LOST.LOST n) 1
    else
      let d := (d.count32 (TDC_IN_EDGES n) 1).setTdc n { x with last := some t, seq := (x.seq + 1) % 2 ^ 32 }
      let d := d.pushStamp n ⟨t, !rising, (x.seq + 1) % 2 ^ 32⟩
      let stale := !bitAt (d.get TDC_STATUS.CAL_VALID) n || bitAt (d.get TDC_STATUS.STALE) n
      ((d.offerTrigger (0x1000 + n) t stale).offerMarks n rising t).wakeOn SYS_WAKE_EN.TRIG
/-- TDC_STAMP_POP (R279): the read of TS3 answers its word and pops. -/
def Dev.tdcPop (n : Nat) (d : Dev) : Dev :=
  let d := d.emit (.busData (TDC_IN_TS3 n) (d.rd (TDC_IN_TS3 n)))
  (d.setTdc n { d.tdcIn n with queue := (d.tdcIn n).queue.drop 1 }).showTdc n
/-- FINE of a code-density count (R249): bin centres, 131,072 hits over 2 ns. -/
def fineTable : Nat → List Nat → List Nat
  | _, [] => []
  | acc, h :: hs => rneShift (2 * acc + h) 1 :: fineTable (acc + h) hs
/-- Class values of a calibration record whose content the manual does not state: free values. -/
def Dev.freeCal (cls idx : Nat) (d : Dev) : Dev :=
  let v := d.draw
  let r := v.2.calBytes cls idx (leBytes 24 v.1)
  r.2.takeCal r.1
/-- A new table of an input takes effect (R250): FINE, validity, a class 0 record, CAL_DONE. -/
def Dev.takeTable (n : Nat) (hits : List Nat) (d : Dev) : Dev :=
  let hs := (hits ++ List.replicate 224 0).take 224
  let last := ((List.range 224).filter (fun c => hs.getD c 0 ≠ 0)).getLast?.getD 0
  let d := (fineTable 0 hs).zipIdx.foldl (fun d x => d.set (TDC_FINE.FINE n x.2) x.1) d
  let d := d.setTdc n { d.tdcIn n with lastBin := last, table := none, asked := false }
  let d := d.set TDC_STATUS.CAL_VALID (withBits (d.get TDC_STATUS.CAL_VALID) n n 1)
  let d := d.set TDC_STATUS.STALE (withBits (d.get TDC_STATUS.STALE) n n 0)
  let d := (d.freeCal 0 n).staleClass 0 (d.get TDC_STATUS.STALE != 0)
  d.post (0x0B00 + n) 0x0B02 [0, 0]
/-- Whether calibration of an input runs (R250): asked for by CALIBRATE_TRIGGER_PATHS; on an enabled input in Configure and Service; on an
enabled input in the background of running cycles, with their open windows, when BG_EN = 1. -/
def Dev.tdcCalibrates (d : Dev) (n : Nat) : Bool :=
  (d.tdcIn n).asked || (bitAt (d.lrd (TDC_IN_CTRL n)) 0 && (d.mode == 4 || d.mode == 11 || (d.cyc.running && d.on TDC_CAL_CTRL.BG_EN)))
/-- TDC_TABLE_DONE (R249, R250): a table of an input under calibration; in a cycle it waits for the boundary. -/
def Dev.tableDone (n : Nat) (hits : List Nat) (d : Dev) : Dev :=
  if !d.tdcCalibrates n then d else if d.cyc.running then d.setTdc n { d.tdcIn n with table := some hits } else d.takeTable n hits
/-- Tables that wait take effect at a cycle boundary (R250). -/
def Dev.tdcBoundary (d : Dev) : Dev :=
  d.forN 16 (fun n d => match (d.tdcIn n).table with | some h => d.takeTable n h | none => d)
/-- TDC_APPLY (R279). -/
def Dev.tdcApply (mask : Nat) (d : Dev) : Dev :=
  d.forN 16 (fun n d =>
    if !bitAt mask n || bitAt (d.get TDC_APPLY.APPLY) n then d
    else (d.set TDC_APPLY.APPLY (withBits (d.get TDC_APPLY.APPLY) n n 1)).holdCommit (0x0B00 + n) (d.capture [TDC_IN_CTRL n]) none)
/-- A committed input control goes live. -/
def Dev.tdcCommit (n : Nat) (ws : List (Nat × Word)) (d : Dev) : Dev :=
  (d.goLiveAll ws).set TDC_APPLY.APPLY (withBits (d.get TDC_APPLY.APPLY) n n 0)

/-- A converter. -/
def Dev.adcCh (d : Dev) (k : Nat) : AdcCh := smGet (fun _ => AdcCh.reset) d.adc k
/-- Replace a converter. -/
def Dev.setAdc (k : Nat) (x : AdcCh) (d : Dev) : Dev := { d with adc := smSet (fun _ => AdcCh.reset) d.adc k x }
/-- Every enabled converter starts at the instant `t` (R252), the sample time. -/
def Dev.adcStart (t : LTime) (d : Dev) : Dev :=
  d.forN 8 (fun k d =>
    if !bitAt (d.lget ADC_CTRL.EN) k || (d.adcCh k).last == some t then d else
      let x := d.adcCh k
      if (match x.last with | some l => decide (t < l + ns 1000) | none => false) then d.count ADC_STATUS.BUSY_CNT 1
      else d.setAdc k { x with last := some t, busy := some t })
/-- START code in force; 3 acts as 0 (R280). -/
def Dev.adcMode (d : Dev) : Nat := if d.lget ADC_CTRL.START = 3 then 0 else d.lget ADC_CTRL.START
/-- The instant of a start (R252): the whole µs of line time, or the reference instant, plus PHASE, whose values above 999 act as 999 (R280);
of the µs grid the instant that is nearest to the present. None where conversions start otherwise. -/
def Dev.adcInstant (d : Dev) : Option LTime :=
  let phase := ns (min 999 (d.lget ADC_CTRL.PHASE))
  match d.adcMode with
  | 0 => some ((d.now + ns 500 - phase) / ns 1000 * ns 1000 + phase)
  | 2 => if d.cyc.running then some (d.cyc.ref + phase) else none
  | _ => none
/-- ADC_START (R252): a start of the µs grid or of the reference instant. -/
def Dev.adcGridStart (d : Dev) : Dev := match d.adcInstant with | some t => (d.reach t).adcStart t | none => d
/-- AVG as it acts (R253). -/
def adcAvg (cfg : Nat) : Nat := min 6 (bitsOf cfg 2 0)
/-- One mean is a sample (R253): value, threshold event. GAIN, OFFSET and THRESH that are not finite give free values. -/
def Dev.adcSample (k : Nat) (t : LTime) (mean : Int) (d : Dev) : Dev :=
  let g := d.lrd (ADC_CH_GAIN k)
  let o := d.lrd (ADC_CH_OFFSET k)
  let th := d.lrd (ADC_CH_THRESH k)
  let cfg := d.lrd (ADC_CH_CFG k)
  let fin := fpFinite g && fpFinite o
  let x := d.draw
  let d := if fin then d else x.2
  let v := if fin then fpAdd (fpMul g (fpOfInt mean)) o else x.1 % 2 ^ 32
  let y := d.draw
  let d := if fpFinite th && fin then d else y.2
  let beyond := if fpFinite th && fin then (if bitAt cfg 4 then fpLt v th else fpLt th v) else y.1 % 2 == 1
  let was := (d.adcCh k).beyond
  let d := ((d.wr (ADC_CH_MEAN k) (codeOf 32 mean)).wr (ADC_CH_VALUE k) v).wr64 (ADC_CH_TIME_LO k) (t / 65536 % 2 ^ 64)
  let d := d.setAdc k { d.adcCh k with beyond := some beyond, n := ((d.adcCh k).n + 1) % 2 ^ 32 }
  if bitAt cfg 3 && beyond && was == some false then d.offerTrigger (0x2000 + k) t false else d
/-- ADC_RESULT (R253, R516): a code of the conversion that is awaited; with bank 7 at 1.8 V it is 0 and OVR is set. -/
def Dev.adcResult (k code : Nat) (d : Dev) : Dev :=
  let x := d.adcCh k
  match x.busy with
  | none => d
  | some t =>
    let code := if d.on (PIN_BANK.LEVEL 7) then code else 0
    let c := signedOf 18 code
    let d := d.when (code == 0x1FFFF || code == 0x20000 || !d.on (PIN_BANK.LEVEL 7)) (fun d => d.set ADC_STATUS.OVR (withBits (d.get ADC_STATUS.OVR) k k 1))
    let avg := adcAvg (d.lrd (ADC_CH_CFG k))
    let sum := x.sum + c
    if x.codes + 1 < 2 ^ avg then d.setAdc k { x with busy := none, sum := sum, codes := x.codes + 1 }
    else (d.setAdc k { x with busy := none, sum := 0, codes := 0 }).adcSample k t (shiftFloor sum avg)
/-- The fields that ADC_APPLY commits (R280). -/
def adcRegs : List Nat := ADC_CTRL :: (List.range 8).flatMap (fun k => [ADC_CH_CFG k, ADC_CH_GAIN k, ADC_CH_OFFSET k, ADC_CH_THRESH k])
/-- ADC_APPLY (R280). -/
def Dev.adcApply (d : Dev) : Dev :=
  if d.on ADC_APPLY.APPLY then d else (d.set ADC_APPLY.APPLY 1).holdCommit 0x0780 (d.capture adcRegs) none
/-- The ADC fields go live. -/
def Dev.adcCommit (ws : List (Nat × Word)) (d : Dev) : Dev := (d.goLiveAll ws).set ADC_APPLY.APPLY 0

/-- A unit's state (R257): 0 IDLE, 1 WAIT, 2 PRE, 3 ARMED, 4 POST, 5 DEAD. -/
def Dev.capState (d : Dev) (u : Nat) : Nat := d.get (ACQ_U_STATE.STATE u)
/-- Enter a state; ACQ_STATUS follows. -/
def Dev.setCapState (u st : Nat) (d : Dev) : Dev :=
  let d := d.set (ACQ_U_STATE.STATE u) st
  (d.set ACQ_STATUS.ARMED (withBits (d.get ACQ_STATUS.ARMED) u u (flag (st == 3)))).set ACQ_STATUS.DEAD (withBits (d.get ACQ_STATUS.DEAD) u u (flag (st == 5)))
/-- A channel descriptor (R254) read from its two words: kind, selector, axis or node, offset. -/
structure CapDesc where
  kind : Nat
  sel : Nat
  place : Nat
  off : Nat
  deriving DecidableEq, Repr
/-- Descriptor `c` of unit `u` under a word reader. -/
def capDesc (w : Nat → Nat) (u c : Nat) : CapDesc :=
  ⟨bitsOf (w (ACQ_DESC_LO u c)) 7 0, bitsOf (w (ACQ_DESC_LO u c)) 15 8, bitsOf (w (ACQ_DESC_LO u c)) 31 16, bitsOf (w (ACQ_DESC_HI u c)) 15 0⟩
/-- The descriptors of unit `u`. -/
def capDescs (w : Nat → Nat) (u : Nat) : List CapDesc := (List.range (bitsOf (w (ACQ_U_CTRL u)) 8 4)).map (capDesc w u)
/-- Bytes of a channel value (R254). -/
def CapDesc.size (x : CapDesc) : Nat := if x.kind = 1 then nodeSize x.sel else if x.kind = 2 then 8 else 4
/-- Sample size of a unit (R255). -/
def capSize (ds : List CapDesc) : Nat := (8 + (ds.map CapDesc.size).sum + 7) / 8 * 8
/-- Count and speed of a feedback channel in the computation of this cycle's feedback (R255): its logged sample; the channel's own values
while no sample of it is in the log. -/
def Dev.fbUsed (d : Dev) (k : Nat) : Int × Nat :=
  match d.eng.channels.find? (fun x => x.1 == k) with
  | some (_, s) => (Int.fdiv s.x 65536, s.v)
  | none => ((d.fbCh k).cnt, (d.fbCh k).v)
/-- A channel's value in the computation of this cycle's feedback; none when it is invalid (R255). -/
def Dev.capValue (d : Dev) (x : CapDesc) : Option Nat :=
  match x.kind with
  | 1 => d.probeValue (x.place, x.sel)
  | 2 => some (codeOf 64 (d.fbUsed x.sel).1)
  | 3 => some (d.fbUsed x.sel).2
  | 4 => (d.uplinkImage (x.place / 256) (x.place % 256)).map (fun b => fieldAt b x.off 4)
  | 5 => some (d.rd (ADC_CH_MEAN x.sel))
  | 6 => some (d.rd (ADC_CH_VALUE x.sel))
  | _ => none
/-- First byte of a unit's ring in DRAM: the capture partition is the first (R37, R281). -/
def Dev.ringBase (d : Dev) (u : Nat) : Nat := 1048576 * d.lget (ACQ_U_RING.BASE u)
/-- Samples that a unit's ring holds. -/
def Dev.ringCap (d : Dev) (u : Nat) : Nat := 1048576 * d.lget (ACQ_U_RING.SIZE u) / capSize (capDescs d.lrd u)
/-- SYNCCLK edges and the time after the last one (R275): the table has no row for a SYNCCLK edge, so both are free values. -/
def Dev.syncNow (d : Dev) : (Nat × Nat) × Dev :=
  let x := d.draw
  let y := x.2.draw
  let n := (d.acq.sync + x.1) % 2 ^ 48
  let d : Dev := { y.2 with acq := { y.2.acq with sync := n } }
  ((n, y.1 % 65536), (d.wr TDC_SYNC_LO (n % 2 ^ 32)).wr TDC_SYNC_HI (n / 2 ^ 32))
/-- Send a 24-byte or shorter flood frame on the trunks but the one it came from (R272). -/
def Dev.floodTrunks (kind : Nat) (payload : List Byte) (but : Option Nat) (d : Dev) : Dev :=
  d.forN 2 (fun k d =>
    if but == some k then d else
      let q := d.port (8 + k)
      d.setPort (8 + k) { q with queue := q.queue ++ [⟨kind, 0xFFF000, payload, 0, false, none, 0, 0, 0, 0, none⟩] })
/-- A TBUS frame (R276): even parity in bit 31. -/
def tbusBits (kind group slot d0 : Nat) : Nat :=
  let v := kind % 16 + group % 16 * 16 + slot % 32 * 256 + d0 % 4096 * 8192
  v + (((List.range 31).map (fun i => flag (bitAt v i))).sum % 2) * 2 ^ 31
/-- Send a TBUS frame with its timing edge at `t` (R276): the bus is busy through the edge, the wait and 32 bits. -/
def Dev.sendTbus (kind group : Nat) (t : LTime) (d : Dev) : Dev :=
  if !d.on TDC_TBUS_CTRL.EN then d else
    Dev.emit (.tbus (tbusBits kind group (d.get TDC_TBUS_CTRL.SLOT) (d.get TDC_TBUS_D0.D0))) { d with acq := { d.acq with busBusy := t + ns 3400 } }
/-- Path of a group: trunk, TBUS (R275); the code 3, to which the manual gives no meaning, acts as a free one of the three. -/
def Dev.groupPath (g : Nat) (d : Dev) : (Bool × Bool) × Dev :=
  let c := d.rd ACQ_GROUP_PATH / 4 ^ g % 4
  let x := d.draw
  let k := if c = 3 then x.1 % 3 else c
  ((k != 1, k != 0), if c = 3 then x.2 else d)
/-- A fire of a local unit goes to the group's other controllers (R274, R276). -/
def Dev.sendFire (g u armId : Nat) (t : LTime) (forced mask : Bool) (d : Dev) : Dev :=
  let p := d.groupPath g
  let d := p.2
  let pay := leBytes 1 g ++ leBytes 1 u ++ leBytes 1 d.sys.index ++ leBytes 1 (flag forced + 2 * flag mask) ++ leBytes 4 armId ++ leBytes 10 t ++ zeros 6
  let earlier := !d.acq.fires.any (fun f => f.1 == armId && decide (f.2 ≤ t))
  let d := if p.1.1 && earlier then
      Dev.floodTrunks 0x13 pay none { d with acq := { d.acq with fires := putKey armId t d.acq.fires } } else d
  if p.1.2 && d.on TDC_TBUS_CTRL.EN then
    if t + ns 200 < d.acq.busBusy then d.count TDC_TBUS_ERR.DEFER 1 else d.sendTbus 2 g (t + ns 200)
  else d

/-- Sample period of a unit in ns (R262): cycles, or means of the ADC channel in descriptor 0. -/
def Dev.capPeriod (d : Dev) (u : Nat) : Nat :=
  let dec := max 1 (d.lget (ACQ_U_TRIG.DEC u))
  if !bitAt (d.lrd (ACQ_U_CTRL u)) 0 then dec * d.periodNs
  else
    let conv := match d.adcMode with
      | 1 => let e := d.evoOut (d.lget ADC_CTRL.EVO_SEL); if e.mode = 2 then e.period else if e.mode = 3 then d.periodNs * max 1 e.div else 0
      | 2 => d.periodNs
      | _ => 1000
    dec * conv * 2 ^ adcAvg (d.lrd (ADC_CH_CFG (capDesc d.lrd u 0).sel))
/-- The payload of a record (R262) whose samples run from `first` to `last`; the trigger sample carries bit 24 (R255). -/
def Dev.recordPayload (d : Dev) (u first last : Nat) (early : Bool) : List Byte :=
  let c := d.capUnit u
  let w := d.lrd
  let ctrl := w (ACQ_U_CTRL u)
  let ds := capDescs w u
  let s := capSize ds
  let cap := max 1 (d.ringCap u)
  let tr := c.trig.getD ⟨0, 0, false, false, false, false, false, 0, 0, 0, 0, 0⟩
  let flags := flag tr.forced + 2 * flag tr.remote + 4 * flag (c.viol.isSome || tr.mask) + 8 * flag early + 16 * flag tr.late + 64 * flag tr.stale +
    128 * flag ((List.range (last + 1 - first)).any (fun i => bitAt (fieldAt (takeBytes d.dram (d.ringBase u + (first + i) % cap * s) s) 7 1) 3))
  let t0 := ((c.times.reverse.drop (first - (c.n - c.times.length))).headD (0, 0)).1
  let clock := bitAt ctrl 0
  -- with CLOCK = 0 the trigger sample's header holds its cycle count (R255)
  let cycle := if clock || last < tr.idx then tr.cycle else fieldAt (takeBytes d.dram (d.ringBase u + tr.idx % cap * s) s) 0 4
  let h := leBytes 1 1 ++ leBytes 1 u ++ leBytes 1 d.sys.index ++ leBytes 1 flags ++ leBytes 2 (d.lget (ACQ_U_TRIG.SRC u)) ++
    leBytes 1 (if bitsOf ctrl 31 24 < 16 then bitsOf ctrl 31 24 else 0xFF) ++ leBytes 1 (flag clock) ++ leBytes 10 tr.time ++ leBytes 4 cycle ++
    leBytes 4 (d.rd (ACQ_U_ARM_ID u)) ++ leBytes 3 (tr.idx - first) ++ leBytes 3 (last - tr.idx) ++ leBytes 10 t0 ++ leBytes 4 (d.capPeriod u) ++
    leBytes 2 s ++ leBytes 4 (c.dead.getD 0xFFFFFFFF) ++ leBytes 4 (min c.lost (2 ^ 32 - 1)) ++
    leBytes 4 (match c.viol with | some v => v.1 - first | none => 0xFFFFFFFF) ++ leBytes 1 (match c.viol with | some v => v.2 | none => 0xFF) ++
    leBytes 1 (if bitAt ctrl 20 then bitsOf ctrl 19 16 else 0xFF) ++ leBytes 2 ((d.cyc.active.map (·.num)).getD 0) ++ leBytes 6 tr.sync ++
    leBytes 2 tr.phase ++ leBytes 1 ds.length ++ leBytes 1 tr.ctrl ++ leBytes 1 tr.unit
  padTo 128 h ++ (List.range ds.length).flatMap (fun i => leBytes 4 (w (ACQ_DESC_LO u i)) ++ leBytes 4 (w (ACQ_DESC_HI u i))) ++
    (List.range (last + 1 - first)).flatMap (fun i =>
      let b := takeBytes d.dram (d.ringBase u + (first + i) % cap * s) s
      if first + i = tr.idx then spliceAt b 7 (leBytes 1 (withBits (fieldAt b 7 1) 0 0 1)) else b)
/-- Samples wanted after the trigger sample (R258): MASK_POST when the unit's own continuous mask made the trigger. -/
def Dev.capPost (d : Dev) (u : Nat) : Nat :=
  let c := d.capUnit u
  if (c.trig.map (·.mask)).getD false && c.viol.isSome then d.lget (ACQ_U_MASK_POST.MASK_POST u) else d.lget (ACQ_U_POST.POST u)
/-- A fill ends (R257): its record holds up to PRE samples before the trigger sample, that sample and the samples wanted after it (R258), waits
for a buffer behind records that have not left the ring, and the dead time runs from the instant its last sample was written (R259). -/
def Dev.endFill (u : Nat) (early : Bool) (d : Dev) : Dev :=
  let c := d.capUnit u
  let idx := (c.trig.map (·.idx)).getD 0
  let first := max (idx - d.lget (ACQ_U_PRE.PRE u)) (max c.start (c.n - c.times.length))
  let last := min (c.n - 1) (idx + d.capPost u)
  let r : CapRecord := ⟨d.recordPayload u first last early, first, last, false⟩
  let wrote := ((c.times.drop (c.n - 1 - last)).head?.map (·.2)).getD d.now
  (d.setCap u { c with records := c.records ++ [r], lost := 0, deadFrom := wrote }).setCapState u 5
/-- Sample time of a unit's sample now (R255). -/
def Dev.capTime (d : Dev) (u : Nat) : LTime :=
  if bitAt (d.lrd (ACQ_U_CTRL u)) 0 then ns (d.rd64 (ADC_CH_TIME_LO (capDesc d.lrd u 0).sel))
  else if d.pipelinedTiming then d.cyc.ref - ns d.periodNs else d.cyc.ref
/-- Number of a unit's sample now (R255): cycle count, or low 32 bits of the ADC sample number. -/
def Dev.capNum (d : Dev) (u : Nat) : Nat :=
  if bitAt (d.lrd (ACQ_U_CTRL u)) 0 then (d.adcCh (capDesc d.lrd u 0).sel).n
  else if d.pipelinedTiming then (d.cyc.count + 2 ^ 32 - 1) % 2 ^ 32 else d.cyc.count
/-- Whether sample number `num` is a DEC-th one (R255): the first since the ring's start, or DEC after the one that was due last. -/
def Dev.capDue (d : Dev) (u num : Nat) : Bool :=
  match (d.capUnit u).lastDue with
  | none => true
  | some l => decide (max 1 (d.lget (ACQ_U_TRIG.DEC u)) ≤ (num + 2 ^ 32 - l) % 2 ^ 32)
/-- Whether a sample whose time is at or before `t` is still to be taken, so that it would become the trigger sample of a trigger at `t` (R258):
that of the present cycle, or that of a conversion under way. -/
def Dev.capOwed (d : Dev) (u : Nat) (t : LTime) : Bool :=
  if bitAt (d.lrd (ACQ_U_CTRL u)) 0 then
    let x := d.adcCh (capDesc d.lrd u 0).sel
    d.capDue u ((x.n + 1) % 2 ^ 32) && decide (2 ^ adcAvg (d.lrd (ADC_CH_CFG (capDesc d.lrd u 0).sel)) ≤ x.codes + 1) &&
      (match x.busy with | some b => decide (b ≤ t) | none => false)
  else d.cyc.running && d.capDue u (d.capNum u) && decide (d.capTime u ≤ t)
/-- PRE and POST advance when their samples are there (R257). -/
def Dev.capAdvance (u : Nat) (d : Dev) : Dev :=
  let c := d.capUnit u
  let d := if d.capState u = 2 && d.lget (ACQ_U_PRE.PRE u) ≤ c.n - c.start then d.setCapState u 3 else d
  match c.trig with
  | some t => if d.capState u = 4 && t.idx + 1 + d.capPost u ≤ c.n && !d.capOwed u t.time then d.endFill u false else d
  | none => d
/-- A trigger is counted lost (R259). -/
def Dev.capLost (u : Nat) (d : Dev) : Dev :=
  ((d.count32 (ACQ_U_LOST u) 1).setCap u { d.capUnit u with lost := (d.capUnit u).lost + 1 }).post (0x0B80 + u) 0x0B83 []
/-- Sample number of the trigger sample for time `t`, and whether its sample was overwritten (R258, R274). -/
def capIndex (c : CapUnit) (t : LTime) : Nat × Bool :=
  match c.times.findIdx? (fun x => x.1 ≤ t) with
  | some i => (c.n - 1 - i, false)
  | none => if c.times.isEmpty then (c.n, false) else (c.n - c.times.length, decide (c.start < c.n - c.times.length))
/-- A unit triggers at `t` (R257, R258). -/
def Dev.capFire (u : Nat) (t : LTime) (forced remote mask stale : Bool) (ctrl unit : Nat) (d : Dev) : Dev :=
  let sy := d.syncNow
  let d := sy.2
  let c := d.capUnit u
  let i := capIndex c t
  let d := d.setCap u { c with
    trig := some ⟨t, i.1, forced, remote, mask, i.2, stale, ctrl, unit, d.cyc.count, sy.1.1, sy.1.2⟩,
    viol := if mask && !remote then c.viol else none, runs := if mask && !remote then c.runs else [] }
  let d := (d.setCapState u 4).wr64 (ACQ_U_TRIG_LO u) (t / 65536 % 2 ^ 64)
  (d.post (0x0B80 + u) 0x0B81 (leBytes 4 (d.rd (ACQ_U_ARM_ID u)) ++ leBytes 1 (flag remote))).capAdvance u
/-- Group of a unit, when it has one. -/
def Dev.capGroup (d : Dev) (u : Nat) : Option Nat := let g := bitsOf (d.lrd (ACQ_U_CTRL u)) 31 24; if g < 16 then some g else none
/-- A fire of a group, received or local, at every unit of the group (R274). -/
def Dev.applyFire (g : Nat) (t : LTime) (forced mask : Bool) (ctrl unit : Nat) (d : Dev) : Dev :=
  d.forN 16 (fun u d =>
    if d.capGroup u ≠ some g then d else
      let c := d.capUnit u
      match d.capState u, c.trig with
      | 3, _ => d.capFire u t forced true mask false ctrl unit
      | 2, _ => d.capLost u
      | 4, some tr =>
        if t < tr.time || (t == tr.time && (ctrl < tr.ctrl || (ctrl == tr.ctrl && decide (unit < tr.unit)))) then
          let i := capIndex c t
          (((d.setCap u { c with trig := some { tr with time := t, idx := i.1, late := i.2, remote := true, ctrl := ctrl, unit := unit } }).wr64
            (ACQ_U_TRIG_LO u) (t / 65536 % 2 ^ 64))).capAdvance u
        else d
      | 5, some tr => match c.records.getLast? with
        | some r => if t < tr.time && !r.granted then
            d.setCap u { c with records := c.records.dropLast ++ [{ r with payload := spliceAt r.payload 3 (leBytes 1 (withBits (fieldAt r.payload 3 1) 5 5 1)) }] }
          else d
        | none => d
      | _, _ => d)
/-- A local trigger reaches a unit (R257, R274). -/
def Dev.capTrigger (u : Nat) (t : LTime) (forced mask stale fire : Bool) (d : Dev) : Dev :=
  match d.capState u with
  | 3 =>
    let id := d.rd (ACQ_U_ARM_ID u)
    let d := d.capFire u t forced false mask stale d.sys.index u
    match d.capGroup u with
    | some g => if fire then (d.sendFire g u id t forced mask).applyFire g t forced mask d.sys.index u else d
    | none => d
  | 2 => if d.lget (ACQ_U_CTRL.PARTIAL_PRE u) = 1 then d.capFire u t forced false mask stale d.sys.index u else d.capLost u
  | 4 | 5 => d.capLost u
  | _ => d
/-- CAPTURE_TRIGGER (R257): the first trigger offered to the unit. -/
def Dev.captureTrigger (u : Nat) (d : Dev) : Dev :=
  match (d.capUnit u).offers with
  | [] => d
  | (t, stale) :: rest => (d.setCap u { d.capUnit u with offers := rest }).capTrigger u t false false stale true
/-- FP32 value of a channel for a mask (R264): ADC means as integers. -/
def maskValue (x : CapDesc) (v : Nat) : Nat := if x.kind = 5 then fpOfInt (signedOf 32 v) else v
/-- Whether an FP32 code is a NaN. -/
def fpNaN (x : Nat) : Bool := bitsOf x 30 23 == 255 && bitsOf x 22 0 != 0
/-- First byte of a mask table in DRAM (R263). -/
def maskBase (t : Nat) : Nat := 1048576 * t
/-- The point a sample is tested against (R264): mode 0 by its offset after the trigger, mode 1 by the master phase. -/
def Dev.maskPoint (d : Dev) (u : Nat) : Option Nat :=
  let c := d.capUnit u
  let h := takeBytes d.dram (maskBase (d.lget (ACQ_U_CTRL.MASK_TABLE u))) 32
  let n := fieldAt h 2 2
  let span := fieldAt h 8 8
  if fieldAt h 4 1 = 0 then
    match c.trig with
    | some t =>
      let j := c.n - t.idx
      let k := (j - 1) / max 1 (fieldAt h 8 4)
      if d.capState u = 4 && 1 ≤ j && k < n then some k else none
    | none => none
  else match d.probeValue (d.lget (ACQ_U_MASKCFG.MASK_AXIS u), 1) with
    | some x =>
      let len : Int := n * span
      some (Int.fdiv (Int.fmod (satSub64 (signedOf 64 x) (signedOf 64 (fieldAt h 16 8))) len) (max 1 span : Nat)).toNat
    | none => none
/-- The runs of a unit's mask after a sample, and the channels that reach VCOUNT (R264). -/
def Dev.maskRuns (d : Dev) (u : Nat) : List (Nat × Nat) × List Nat :=
  let c := d.capUnit u
  if !bitAt (d.lrd (ACQ_U_CTRL u)) 20 || d.capState u < 2 then (c.runs, []) else
    match d.maskPoint u with
    | none => (c.runs, [])
    | some k =>
      let base := maskBase (d.lget (ACQ_U_CTRL.MASK_TABLE u))
      let h := takeBytes d.dram base 32
      let m := fieldAt h 1 1
      let step := fun (acc : List (Nat × Nat) × List Nat) (i : Nat) =>
        let ch := fieldAt h (24 + i) 1
        if ch = 0xFF then acc else
          let x := capDesc d.lrd u ch
          match d.capValue x with
          | none => acc
          | some v =>
            let v := maskValue x v
            let b := takeBytes d.dram (base + 32 + (k * m + i) * 8) 8
            if fpNaN v || fpLt v (fieldAt b 0 4) || fpLt (fieldAt b 4 4) v then
              let run := lookupD i 0 acc.1 + 1
              (putKey i run acc.1, if run = fieldAt h 5 1 then acc.2 ++ [ch] else acc.2)
            else (putKey i 0 acc.1, acc.2)
      (List.range m).foldl step (c.runs, [])
/-- Violations act (R265): an event for each channel, controlled stop of the holder, trigger in ARMED, end of fill in POST. -/
def Dev.maskViolation (u ch num : Nat) (more : List Nat) (cont : Bool) (t : LTime) (d : Dev) : Dev :=
  let st := d.capState u
  let c := d.capUnit u
  let d := if (st = 3 && cont) || st = 4 then (if c.viol.isNone || st = 3 then d.setCap u { c with viol := some (num, ch) } else d) else d
  let d := d.forEach (ch :: more) (fun x => Dev.post (0x0B80 + u) 0x0B84 (leBytes 1 x ++ leBytes 4 num))
  let d := d.when (bitAt (d.lrd (ACQ_U_CTRL u)) 3 && d.permit && d.sync)
    (Dev.logInput 0x01 68 (.stopGroup (2 ^ d.lget (ACQ_U_CTRL.STOP_GRP u)) false 2 0xFFFF) none)
  if st = 3 && cont then d.capTrigger u t false true false true else if st = 4 then d.endFill u false else d
/-- CAPTURE_SAMPLE (R38, R255, R260, R265): a sample of every DEC-th cycle or ADC sample. `damaged` says that an uncorrectable DRAM error hits
it in the ring. A sample that would overwrite one of a record still in the ring is not taken. A sample at or before the trigger time of a unit
in POST becomes the trigger sample (R258). -/
def Dev.captureSample (u : Nat) (damaged : Bool) (d : Dev) : Dev :=
  let num := d.capNum u
  if d.capState u < 2 || !d.capDue u num then d else
    let t := d.capTime u
    let c0 := d.capUnit u
    let c := { c0 with
      lastDue := some num
      trig := c0.trig.map (fun tr => if d.capState u = 4 && tr.idx < c0.n && t ≤ tr.time then { tr with idx := c0.n, late := false } else tr) }
    let d := d.setCap u c
    let ds := capDescs d.lrd u
    let s := capSize ds
    let cap := d.ringCap u
    if c.records.any (fun r => decide (r.first + cap ≤ c.n) && decide (c.n ≤ r.last + cap)) then d.setCap u { c with paused := true } else
      let vals := ds.map (fun x => (x.size, d.capValue x))
      let mask := (vals.zipIdx.map (fun x => if x.1.2.isSome then 2 ^ x.2 else 0)).sum
      let runs := d.maskRuns u
      let isTrig := match c.trig with | some tr => tr.idx == c.n && d.capState u == 4 | none => false
      let word := mask + 2 ^ 24 * flag isTrig + 2 ^ 25 * flag c.paused + 2 ^ 26 * flag (!runs.2.isEmpty) + 2 ^ 27 * flag damaged
      let bs := padTo s (leBytes 4 num ++ leBytes 4 word ++ vals.flatMap (fun x => leBytes x.1 (x.2.getD 0)))
      let d := if cap = 0 then d else { d with dram := putBytes d.dram (d.ringBase u + c.n % cap * s) bs }
      let d := d.setCap u { c with n := c.n + 1, times := ((t, d.now) :: c.times).take cap, paused := false, runs := runs.1 }
      let cont := fieldAt (takeBytes d.dram (maskBase (d.lget (ACQ_U_CTRL.MASK_TABLE u))) 32) 4 1 == 1
      let d := match runs.2 with | ch :: more => d.maskViolation u ch c.n more cont t | [] => d
      d.capAdvance u
/-- An arm takes effect at a unit (R257, R272). -/
def Dev.takeArm (u id rep : Nat) (d : Dev) : Dev :=
  let c := d.capUnit u
  match d.capState u with
  | 0 | 1 =>
    let d := ((d.wr (ACQ_U_LOST u) 0).wr (ACQ_U_DEAD_LAST u) 0xFFFFFFFF).wr (ACQ_U_DEAD_MAX u) 0
    let d := (d.wr (ACQ_U_ARM_ID u) id).set (ACQ_U_REPEAT.LEFT u) rep
    let d := d.setCap u { c with
      armAt := 0, nextId := none, count := rep, start := c.n, times := [], offers := [], trig := none, viol := none, runs := [], lost := 0, dead := none,
      lastDue := none, paused := false }
    (d.setCapState u 2).capAdvance u
  | 2 | 3 => ((d.wr (ACQ_U_ARM_ID u) id).set (ACQ_U_REPEAT.LEFT u) rep).setCap u { c with count := rep }
  | _ => d.setCap u { c with nextId := some id, count := rep }
/-- Arm units at once or at an arm-at time (R273): 0 done, 1 late, 2 missed. -/
def Dev.armUnits (us : List Nat) (id : Nat) (at_ : Option LTime) (tol rep : Nat) (d : Dev) : Nat × Dev :=
  let e := d.now + ns 1000
  match at_ with
  | none => (0, d.forEach us (fun u d => d.takeArm u id rep))
  | some t => match lateness e t tol d.periodNs with
    | 0 => (0, d.forEach us (fun u d =>
        if d.capState u ≤ 1 then (d.setCap u { d.capUnit u with armAt := t, nextId := some id, count := rep }).setCapState u 1 else d.takeArm u id rep))
    | 1 => (1, d.forEach us (fun u d => d.takeArm u id rep))
    | _ => (2, d.forEach us (fun u d => d.post (0x0B80 + u) 0x0B86 (leBytes 4 (min ((e - t) / 65536) (2 ^ 32 - 1)))))
/-- CAPTURE_ARM_TIME (R257): the arm-at time of a unit in WAIT is reached. -/
def Dev.armTime (u : Nat) (d : Dev) : Dev :=
  if d.capState u ≠ 1 then d else
    let c := d.capUnit u
    (d.reach c.armAt).takeArm u (c.nextId.getD 0) c.count
/-- A unit goes to IDLE (R257): a fill in POST ends as a record that ended early. -/
def Dev.disarm (u : Nat) (d : Dev) : Dev :=
  let st := d.capState u
  if st = 0 then d else
    let d := d.when (st == 4) (Dev.endFill u true)
    (d.setCap u { d.capUnit u with offers := [], nextId := none }).setCapState u 0
/-- Units of a group. -/
def Dev.groupUnits (d : Dev) (g : Nat) : List Nat := (List.range 16).filter (fun u => d.capGroup u == some g)
/-- RECORD_COPIED (R257, R259): the oldest granted record has left the ring; a unit in DEAD whose fill it was re-arms or goes to IDLE. -/
def Dev.recordCopied (u : Nat) (d : Dev) : Dev :=
  let c := d.capUnit u
  match c.records.findIdx? (·.granted) with
  | none => d
  | some i =>
    let d := d.setCap u { c with records := c.records.eraseIdx i }
    if d.capState u ≠ 5 || i + 1 ≠ c.records.length then d else
      let left := d.get (ACQ_U_REPEAT.LEFT u)
      let again := d.lget (ACQ_U_CTRL.AUTO_REARM u) = 1 && left ≠ 1
      let d := d.when (left != 0) (Dev.set (ACQ_U_REPEAT.LEFT u) (left - 1))
      if again then
        let dead := min ((d.now - c.deadFrom) / 65536) (2 ^ 32 - 1)
        let d := (d.wr (ACQ_U_DEAD_LAST u) dead).wr (ACQ_U_DEAD_MAX u) (max dead (d.rd (ACQ_U_DEAD_MAX u)))
        let d := match c.nextId with | none => d | some id => (d.wr (ACQ_U_ARM_ID u) id).set (ACQ_U_REPEAT.LEFT u) c.count
        let d := d.setCap u { d.capUnit u with dead := some dead, nextId := none, trig := none, viol := none, runs := [], offers := [] }
        (d.setCapState u 2).capAdvance u
      else d.setCapState u 0
/-- A record buffer frees (R260). -/
def Dev.freeBuffer (d : Dev) : Dev := d.set ACQ_POOL.FREE (min 64 (d.get ACQ_POOL.FREE + 1))
/-- A capture record is lost (R260): counted, posted, and the unit goes on as though it had been copied out. -/
def Dev.recordLost (u status : Nat) (d : Dev) : Dev :=
  (((d.count32 ACQ_LOST_RECORDS 1).post (0x0B80 + u) 0x0B85 (leBytes 2 status)).freeBuffer).recordCopied u

/-- The fields of a unit that a commit captures (R261). -/
def capRegs (u : Nat) : List Nat :=
  [ACQ_U_CTRL u, ACQ_U_TRIG u, ACQ_U_PRE u, ACQ_U_POST u, ACQ_U_MASK_POST u, ACQ_U_RING u, ACQ_U_MASKCFG u] ++
  (List.range 24).flatMap (fun c => [ACQ_DESC_LO u c, ACQ_DESC_HI u c])
/-- Whether a descriptor names something that exists (rule 60). -/
def Dev.descOk (d : Dev) (x : CapDesc) : Bool :=
  match x.kind with
  | 1 => x.sel ≤ 23 && x.place ≤ 511
  | 2 | 3 => x.sel ≤ 3
  | 4 => match (d.activeBlock (x.place / 256)).bind (fun b => (uplinkSlot b (x.place % 256)).bind (fun s => b.slots[s]?)) with
    | some e => x.off + 4 ≤ e.maxPay
    | none => false
  | 5 | 6 => x.sel ≤ 7 && bitAt (d.lget ADC_CTRL.EN) x.sel
  | _ => false
/-- Rules 60 to 64 of R261 on the shadow words of a unit. -/
def Dev.capRule (d : Dev) (u : Nat) : Option Nat :=
  let w := d.rd
  let ctrl := w (ACQ_U_CTRL u)
  let nch := bitsOf ctrl 8 4
  let ds := capDescs w u
  let s := capSize ds
  let pre := bitsOf (w (ACQ_U_PRE u)) 23 0
  let post := bitsOf (w (ACQ_U_POST u)) 23 0
  let mpost := bitsOf (w (ACQ_U_MASK_POST u)) 23 0
  let size := bitsOf (w (ACQ_U_RING u)) 10 0
  let base := bitsOf (w (ACQ_U_RING u)) 30 16
  let tab := bitsOf ctrl 19 16
  let h := takeBytes d.dram (maskBase tab) 32
  let maskEn := bitAt ctrl 20
  let cont := maskEn && d.acq.masks.contains tab && fieldAt h 4 1 == 1
  let part := (d.sys.package.map (·.dramCapture)).getD 0
  let apart := (List.range 16).all (fun v => v == u ||
    (let b := d.lget (ACQ_U_RING.BASE v); let n := d.lget (ACQ_U_RING.SIZE v); n == 0 || decide (b + n ≤ base) || decide (base + size ≤ b)))
  let src := bitsOf (w (ACQ_U_TRIG u)) 15 0
  let low := src % 16
  let chOk := (List.range (fieldAt h 1 1)).all (fun i =>
    let c := fieldAt h (24 + i) 1
    c == 0xFF || (c < nch && (let x := capDesc w u c
      x.kind == 3 || x.kind == 5 || x.kind == 6 || (x.kind == 1 && decide (3 ≤ x.sel) && x.sel != 20))))
  firstFail [
    (60, 1 ≤ nch && nch ≤ 24 && ds.all d.descOk),
    (61, !bitAt ctrl 0 || ds.all (fun x => x.kind == 5 || x.kind == 6)),
    (62, decide (2 * (pre + post + 1) * s ≤ size * 1048576) && decide (size ≤ 1024) &&
      (!cont || decide (2 * (pre + mpost + 1) * s ≤ size * 1048576)) && decide ((base + size) * 1048576 ≤ part) && decide (16 ≤ base) && apart),
    (63, !maskEn || (d.acq.masks.contains tab && chOk && (fieldAt h 4 1 != 1 || !bitAt ctrl 0))),
    (64, bitsOf src 11 4 == 0 && (match src / 4096 with
      | 0 => low == 0
      | 1 => bitAt (d.lrd (TDC_IN_CTRL low)) 0
      | 2 => decide (low < 8) && bitAt (d.lget ADC_CTRL.EN) low && bitAt (d.lrd (ADC_CH_CFG low)) 3
      | 3 => true
      | 4 => true
      | _ => false))]
/-- A unit's commit waits for its boundary (R261). -/
def Dev.holdCapture (u : Nat) (ref : Option PktRef) (d : Dev) : Dev :=
  (d.set ACQ_APPLY.APPLY (withBits (d.get ACQ_APPLY.APPLY) u u 1)).holdCommit (0x0B80 + u) (d.capture (capRegs u)) ref
/-- ACQ_APPLY (R261, R281). -/
def Dev.acqApply (mask : Nat) (d : Dev) : Dev :=
  d.forN 16 (fun u d =>
    if !bitAt mask u || bitAt (d.get ACQ_APPLY.APPLY) u then d
    else
      let bad := d.capState u ≠ 0 || (d.capRule u).isSome
      let d := d.set ACQ_APPLY.REFUSED (withBits (d.get ACQ_APPLY.REFUSED) u u (flag bad))
      if bad then d else d.holdCapture u none)
/-- A unit's commit goes live, only while the unit is IDLE (R261): a unit armed meanwhile keeps its fields and the commit ends with BUSY. -/
def Dev.capCommit (u : Nat) (ws : List (Nat × Word)) (ref : Option PktRef) (d : Dev) : Dev :=
  let d := d.set ACQ_APPLY.APPLY (withBits (d.get ACQ_APPLY.APPLY) u u 0)
  if d.capState u = 0 then (d.goLiveAll ws).completeOpt ref stOK d.now []
  else (d.set ACQ_APPLY.REFUSED (withBits (d.get ACQ_APPLY.REFUSED) u u 1)).completeOpt ref stBUSY d.now []
/-- 0x0401 CONFIG_CAPTURE_UNIT (R261, R278). -/
def opConfigCapture : Opcode :=
  { code := 0x0401, lMax := 12, modes := fun _ => modeIn syncService,
    run := fun p ref d =>
      let u := par p 22 1
      if 16 ≤ u then (.bad stBAD_PARAMETER, d)
      else if d.capState u ≠ 0 || bitAt (d.get ACQ_APPLY.APPLY) u then (.bad stBUSY, d)
      else
        let d := d.forN 7 (fun i => Dev.plainWrite (ACQ_U_CTRL u + 4 * i) (par p (24 + 4 * i) 4))
        let d := d.forN (2 * p.len.toNat) (fun i d => (d.plainWrite (ACQ_DESC_LO u i) (ext p (8 * i) 4)).plainWrite (ACQ_DESC_HI u i) (ext p (8 * i + 4) 4))
        match d.capRule u with
        | some r => (.done stCONSISTENCY (ruleResult r (0x0B80 + u)), d)
        | none => (.later, d.holdCapture u (some ref)) }
/-- Units of a 16-bit mask. -/
def unitsOf (m : Nat) : List Nat := (List.range 16).filter (bitAt m)
/-- 0x0402 ARM (R272, R273, R278). -/
def opArm : Opcode :=
  { code := 0x0402, sched := true, ownTime := true, modes := fun _ => modeIn syncService,
    run := fun p _ d =>
      let grp := bitAt (par p 24 1) 0
      let g := par p 25 1
      let rep := par p 26 2
      let at_ := if hasFlag p 2 then some p.execAt.toNat else none
      if grp && 16 ≤ g then (.bad stBAD_PARAMETER, d)
      else
        let n := (d.acq.arms + 1) % 2 ^ 24
        let id := d.sys.index * 2 ^ 24 + n
        let d : Dev := { d with acq := { d.acq with arms := n } }
        let us := if grp then d.groupUnits g else unitsOf (par p 22 2)
        let r := d.armUnits us id at_ p.tol.toNat rep
        let d := r.2
        let d := if grp then
            let pay := leBytes 1 g ++ leBytes 1 (flag at_.isSome) ++ leBytes 1 d.sys.index ++ [0] ++ leBytes 4 id ++ leBytes 10 (at_.getD 0) ++
              leBytes 4 p.tol.toNat ++ leBytes 2 rep
            let path := d.groupPath g
            let d : Dev := { path.2 with acq := { path.2.acq with
              seen := path.2.acq.seen ++ [(0x12, g, id)], groups := (path.2.acq.groups.filter (fun x => x.1 != g)) ++ [(g, p.tol.toNat, rep)] } }
            let d := d.when path.1.1 (Dev.floodTrunks 0x12 pay none)
            d.when path.1.2 (Dev.sendTbus 1 g d.now)
          else d
        (.done (match r.1 with | 0 => stOK | 1 => stLATE | _ => stMISSED) (leBytes 4 id), d) }
/-- 0x0403 DISARM (R257, R278). -/
def opDisarm : Opcode :=
  { code := 0x0403, modes := fun _ => modeIn syncService,
    run := fun p _ d =>
      let grp := bitAt (par p 24 1) 0
      let g := par p 25 1
      if grp && 16 ≤ g then (.bad stBAD_PARAMETER, d)
      else
        let us := if grp then d.groupUnits g else unitsOf (par p 22 2)
        let id := ((us.head?).map (fun u => d.rd (ACQ_U_ARM_ID u))).getD 0
        let d := d.forEach us Dev.disarm
        let d := if grp then
            let path := d.groupPath g
            let d : Dev := { path.2 with acq := { path.2.acq with seen := path.2.acq.seen ++ [(0x14, g, id)] } }
            let d := d.when path.1.1 (Dev.floodTrunks 0x14 (leBytes 1 g ++ leBytes 1 d.sys.index ++ zeros 2 ++ leBytes 4 id) none)
            d.when path.1.2 (Dev.sendTbus 3 g d.now)
          else d
        (.done stOK [], d) }
/-- 0x0404 FORCE_FIRE (R256, R278). -/
def opForceFire : Opcode :=
  { code := 0x0404, modes := fun _ => modeIn syncService,
    run := fun p _ d =>
      let fire := bitAt (par p 24 1) 0
      let t := d.now
      (.done stOK (leBytes 4 (t / 65536 % 2 ^ 32)),
        d.forEach (unitsOf (par p 22 2)) (fun u d => d.capTrigger u t true false false fire)) }
/-- 0x0405 LOAD_MASK (R263, R278). -/
def opLoadMask : Opcode :=
  { code := 0x0405, modes := fun _ => modeIn syncService,
    run := fun p _ d =>
      let t := par p 22 1
      let n := par p 32 4
      if 16 ≤ t then (.bad stBAD_PARAMETER, d)
      else if 1048576 < n || n < 32 then (.bad stBAD_LENGTH, d)
      else if (List.range 16).any (fun u => d.capState u != 0 && bitAt (d.lrd (ACQ_U_CTRL u)) 20 && d.lget (ACQ_U_CTRL.MASK_TABLE u) == t) then (.bad stBUSY, d)
      else if (d.sys.package.map (·.dramCapture)).getD 0 < 16777216 then (.bad stNO_RESOURCE, d)
      else d.hostRead p n (fun b d =>
        let m := fieldAt b 1 1
        let k := fieldAt b 2 2
        if n ≠ 32 + 8 * m * k then (.bad stBAD_LENGTH, d)
        else if fieldAt b 0 1 ≠ t || m = 0 || 8 < m || k = 0 || 4096 < k || 1 < fieldAt b 4 1 || fieldAt b 5 1 = 0 ||
            (if fieldAt b 4 1 = 0 then fieldAt b 8 4 = 0 else fieldAt b 8 8 = 0) then (.bad stBAD_PARAMETER, d)
        else (.done stOK [], { d with
          dram := putBytes d.dram (maskBase t) b, acq := { d.acq with masks := (d.acq.masks.filter (fun x => x != t)) ++ [t] } })) }

/-- Rules 70 to 75 of R266 for the parameters of a channel. -/
def Dev.regRule (d : Dev) (r : Nat) (p : List Byte) : Option Nat :=
  let a := regField p 24 2
  let kind := regField p 26 1
  let src := regField p 27 1
  let pos := regField p 28 1
  let len := signedOf 64 (regField p 32 8)
  let ph0 := signedOf 64 (regField p 40 8)
  let win := signedOf 64 (regField p 48 8)
  let scale := regField p 56 4
  let others := d.acq.regs.filter (fun x => x.1 != r)
  let srcOk := match kind with
    | 1 => bitAt (d.lrd (TDC_IN_CTRL (src % 16))) 0
    | 2 => match (d.activeBlock src).bind (fun b => (uplinkSlot b pos).bind (fun s => b.slots[s]?)) with
      | some e => decide (src < 8) && decide (regField p 29 2 + 16 ≤ e.maxPay)
      | none => false
    | _ => false
  let marks := fun x => if x = a && regOn p && kind = 2 then some (src, pos)
    else (nodeChannel others x).map (fun c => (regField c.2.params 27 1, regField c.2.params 28 1))
  firstFail [
    (70, decide (a < 512) && others.all (fun x => !regOn x.2.params || regField x.2.params 24 2 != a)),
    (71, decide (2 ≤ len) && decide (0 ≤ ph0) && decide (ph0 < len) && decide (0 ≤ win) && decide (win ≤ Int.fdiv len 2)),
    (72, fpFinite scale && !fpEq scale 0),
    (73, srcOk),
    (74, bitsOf (d.axisLive a pREG_MASTER) 1 0 != 0),
    (75, kind != 2 || (match d.cyc.active with | some g => (engineRule3 g d.allParams (d.costOf d.allParams) marks).isNone | none => true))]
/-- 0x0406 CONFIG_REGISTRATION (R266, R278). -/
def opConfigReg : Opcode :=
  { code := 0x0406, modes := fun _ => modeLogged syncService,
    run := fun p ref d =>
      let r := par p 22 1
      if 32 ≤ r then (.bad stBAD_PARAMETER, d)
      else if d.on MIR_STATUS.BULK then (.bad stBUSY, d)
      else
        let ps := padTo 38 p.par
        match d.regRule r ps with
        | some k => (.done stCONSISTENCY (ruleResult k (axisPlace (regField ps 24 2))), d)
        | none => d.logPacket 0x01 68 (.configReg r ps) ref }
/-- CONFIG_REGISTRATION enters the law (R266, R194): C and PEND of the axis become 0. -/
def Dev.enterConfigReg (r : Nat) (ps : List Byte) (d : Dev) : Dev :=
  let a := regField ps 24 2
  let d := d.setReg r { d.regCh r with params := ps, marks := [], passage := none, seen := false, missed := 0 }
  (d.set (ACQ_REG_SEQ.MISSED r) 0).setAxis a { d.axis a with c := 0, pend := 0 }
/-- A logged request enters R194 (R268); the sequence of the channel follows the log (R271). -/
def Dev.enterRegRequest (r : Nat) (e : Int) (seq : Nat) (d : Dev) : Dev :=
  let a := regField (d.regCh r).params 24 2
  let d := (d.setReg r { d.regCh r with seq := seq }).set (ACQ_REG_SEQ.SEQ r) seq
  d.setAxis a (holdRequest (e, seq) (d.axis a))
/-- First sample at or before the mark, else the oldest. -/
def latestBefore (t : LTime) (xs : List (Int × Nat × Int)) : Int × Nat × Int :=
  ((xs.find? (fun x => x.2.2 ≤ (t : Int))).orElse (fun _ => xs.getLast?)).getD (0, 0, t)
/-- Sample offset of an uplink record in 2^-16 ns (R88). -/
def sampleOffset (r : Option (List Byte)) : Int := match r with | some b => signedOf 32 (fieldAt b 16 4) * 256 | none => 0
/-- `n / d` rounded to nearest, ties to even. -/
def rneDiv (n d : Nat) : Nat :=
  let q := n / d
  let r := n % d
  if 2 * r < d then q else if d < 2 * r then q + 1 else q + q % 2
/-- Master position at a trigger mark (R268). -/
def Dev.markPosition (d : Dev) (w : Nat) (t : LTime) : Int :=
  let idx := bitsOf w 25 16
  let per : Int := ns d.periodNs
  let ref : Int := d.cyc.ref
  let ext := fun (x : Int × Nat × Int) => satAdd64 x.1 (int64Round (fpMul x.2.1 (fpMul (fpOfInt ((t : Int) - x.2.2)) constC9)))
  match bitsOf w 1 0 with
  | 1 =>
    let m := d.axis idx
    let was := ((d.eng.before.find? (fun x => x.1 == idx)).map (·.2)).getD m
    let rec_ := fun (fs : List (Nat × List Byte)) => (fs.find? (fun x => x.1 == idx)).map (·.2)
    let base := if d.pipelinedTiming then ref - per else ref
    let now := if d.pipelinedTiming then d.eng.fbPrev else d.eng.fb
    if bitAt w 2 then
      let cur := if m.standing = 1 then [(m.xfb, m.vfb, base + sampleOffset (rec_ now))] else []
      ext (latestBefore t (cur ++ [(was.xfb, was.vfb, base - per + (if d.pipelinedTiming then 0 else sampleOffset (rec_ d.eng.fbPrev)))]))
    else
      let cur := if m.standing = 1 then [(m.xref, m.vs, ref + per)] else []
      ext (latestBefore t (cur ++ [(was.xref, was.vs, ref)]))
  | 2 =>
    let c := d.fbCh idx
    let es := c.edges
    let a := ((es.filter (fun e => e.1 ≤ t)).getLast?).getD (c.tlast, c.cnt)
    match es.find? (fun e => t < e.1) with
    | some b => a.2 * 65536 + (b.2 - a.2) * ((rneDiv ((t - a.1) * 65536) (b.1 - a.1) : Nat) : Int)
    | none =>
      let v := (fbEvaluate (d.fbTss idx) t c).v
      a.2 * 65536 + clampInt (-65535) 65535 (int64Round (fpMul v (fpMul (fpOfInt ((t : Int) - (a.1 : Int))) constC9)))
  | 3 => match d.eng.masters.find? (fun x => x.1 == idx) with
    | some (_, x) => ext (x.x, x.v, x.t)
    | none => (d.axis idx).mprev
  | _ => 0
/-- REGISTRATION_REQUEST_READY (R268, R271): the channel's first mark is evaluated; only the permit holder logs a request. -/
def Dev.regReady (r : Nat) (d : Dev) : Dev :=
  let c := d.regCh r
  match c.marks with
  | [] => d
  | t :: rest =>
    let a := regField c.params 24 2
    let d := d.setReg r { c with marks := rest }
    let e := regError c.params (d.markPosition (d.axisLive a pREG_MASTER) t)
    let d := d.countMark r e
    match e.2 with
    | some v =>
      if d.permit && d.sync then
        let seq := (c.seq + 1) % 65536
        ((d.setReg r { d.regCh r with seq := seq }).set (ACQ_REG_SEQ.SEQ r) seq).logInput 0x08 16 (.regRequest r v seq) none
      else d
    | none => d
/-- The holder watches each channel's master phase (R270): a passage of PH0 + L/2 without an accepted mark is a miss. -/
def Dev.regGuard (d : Dev) : Dev :=
  if !d.permit then d else
    d.forN 32 (fun r d =>
      let c := d.regCh r
      if !regOn c.params then d else
        let a := regField c.params 24 2
        let len := signedOf 64 (regField c.params 32 8)
        match (d.masterSample (d.axisLive a pREG_MASTER)).1 with
        | none => d
        | some (x, _) =>
          let k := Int.fdiv (satSub64 x (signedOf 64 (regField c.params 40 8)) - Int.fdiv len 2) len
          match c.passage with
          | none => d.setReg r { c with passage := some k }
          | some o =>
            if k = o then d
            else
              -- the first passage since an accepted mark is no miss
              let m := c.missed + ((k - o).natAbs - flag c.seen)
              let lim := regField c.params 31 1
              let d := (d.setReg r { c with passage := some k, seen := false, missed := m }).set (ACQ_REG_SEQ.MISSED r) (min 255 m)
              d.when (decide (c.missed < lim) && decide (lim ≤ m)) (Dev.post (0x0800 + a) 0x041B (leBytes 1 r ++ leBytes 1 (min 255 m))))

/-- ARM_FRAME (R272, R273): arms the group and goes on once. -/
def Dev.armFrame (k : Nat) (b : List Byte) (d : Dev) : Dev :=
  let g := fieldAt b 0 1
  let id := fieldAt b 4 4
  if b.length ≠ 24 || 16 ≤ g || d.acq.seen.contains (0x12, g, id) then d else
    let d : Dev := { d with acq := { d.acq with
      seen := d.acq.seen ++ [(0x12, g, id)], groups := (d.acq.groups.filter (fun x => x.1 != g)) ++ [(g, fieldAt b 18 4, fieldAt b 22 2)] } }
    let d := d.floodTrunks 0x12 b (some k)
    (d.armUnits (d.groupUnits g) id (if bitAt (fieldAt b 1 1) 0 then some (fieldAt b 8 10) else none) (fieldAt b 18 4) (fieldAt b 22 2)).2
/-- FIRE_FRAME (R274): applied, and sent on when it is the earliest of its arm identifier. -/
def Dev.fireFrame (k : Nat) (b : List Byte) (d : Dev) : Dev :=
  let g := fieldAt b 0 1
  let id := fieldAt b 4 4
  let t := fieldAt b 8 10
  if b.length ≠ 24 || 16 ≤ g then d else
    let d := if d.acq.fires.any (fun f => f.1 == id && decide (f.2 ≤ t)) then d
      else Dev.floodTrunks 0x13 b (some k) { d with acq := { d.acq with fires := putKey id t d.acq.fires } }
    d.applyFire g t (bitAt (fieldAt b 3 1) 0) (bitAt (fieldAt b 3 1) 1) (fieldAt b 2 1) (fieldAt b 1 1)
/-- DISARM_FRAME (R272). -/
def Dev.disarmFrame (k : Nat) (b : List Byte) (d : Dev) : Dev :=
  let g := fieldAt b 0 1
  let id := fieldAt b 4 4
  if b.length ≠ 8 || 16 ≤ g || d.acq.seen.contains (0x14, g, id) then d else
    let d : Dev := { d with acq := { d.acq with seen := d.acq.seen ++ [(0x14, g, id)] } }
    (d.floodTrunks 0x14 b (some k)).forEach (d.groupUnits g) Dev.disarm
/-- Delay from a sender's D0 code (R277), in 2^-16 ns. -/
def Dev.tbusDelay (d : Dev) (code : Nat) : Nat :=
  ((code : Int) - (d.get TDC_TBUS_D0.D0 : Int)).natAbs * 16384 + d.get TDC_TBUS_D0.LOOP * 256
/-- Whether a record of class 0 to 3 was taken at a die temperature more than `lim` sixteenths of a °C away (R227). -/
def Dev.calFar (d : Dev) (lim : Nat) (r : List Byte) : Bool := decide (lim < (d.sys.temp - signedOf 16 (fieldAt r 14 2)).natAbs)
/-- The class 1 record is stale after 10 °C of change, or when a measured delay has changed by more than 1 ns since it was taken (R227, R277):
the delay to a sender follows that sender's D0 code, in units of 0.25 ns. -/
def Dev.showTbusStale (d : Dev) : Dev :=
  let moved := d.acq.d0.any (fun x => match d.acq.d0Cal.find? (fun y => y.1 == x.1) with
    | some y => decide (4 < ((x.2 : Int) - y.2).natAbs)
    | none => false)
  match d.calOf 1 0 with | some r => d.staleClass 1 (d.calFar 160 r || moved) | none => d
/-- TBUS_FRAME (R276, R277): a frame whose timing edge was stamped `rx`. -/
def Dev.tbusFrame (rx bits : Nat) (d : Dev) : Dev :=
  if !d.on TDC_TBUS_CTRL.EN then d else
    let kind := bitsOf bits 3 0
    let g := bitsOf bits 7 4
    let slot := bitsOf bits 12 8
    let ok := ((List.range 32).map (fun i => flag (bitAt bits i))).sum % 2 = 0
    let d : Dev := { d with acq := { d.acq with busBusy := rx + ns 3400 } }
    let d := d.when (!ok) (Dev.count TDC_TBUS_ERR.PARITY 1)
    let d : Dev := if ok then Dev.showTbusStale { d with acq := { d.acq with
        d0 := putKey slot (bitsOf bits 24 13) d.acq.d0
        d0Cal := if d.acq.d0Cal.any (fun x => x.1 == slot) then d.acq.d0Cal else putKey slot (bitsOf bits 24 13) d.acq.d0Cal } } else d
    if kind = 2 then
      let dly := if ok then d.tbusDelay (bitsOf bits 24 13) else ((d.acq.d0.map (fun x => d.tbusDelay x.2)).min?).getD (d.tbusDelay (d.get TDC_TBUS_D0.D0))
      let d := d.when (!ok) (Dev.post 0x0B10 0x0B03 (leBytes 1 g))
      d.applyFire g (rx - dly - ns 200) false false 0xFF 0xFF
    else if !ok then d
    else match kind with
      | 1 =>
        let x := (d.acq.groups.find? (fun x => x.1 == g)).map (·.2)
        (d.armUnits (d.groupUnits g) (((d.groupUnits g).head?.map (fun u => d.rd (ACQ_U_ARM_ID u))).getD 0) none 0 ((x.map (·.2)).getD 0)).2
      | 3 => d.forEach (d.groupUnits g) Dev.disarm
      | 4 => if d.get TDC_TBUS_CTRL.SLOT = 0 then d.sendTbus 5 g (rx + ns 2000) else d
      | 6 => { (d.wr64 TDC_SYNC_LO 0) with acq := { d.acq with sync := 0 } }
      | _ => d
/-- The result of a TBUS calibration (R277): the measured loop and round trip, in 2^-16 ns; none when no reply came. Its new class 1 record is
not stale. -/
def Dev.tbusResult (meas : Option (Nat × Nat)) (d : Dev) : Dev :=
  match meas with
  | none => d.post 0x0B10 0x0B02 [1, 1]
  | some (loop, rtt) =>
    let raw : Int := if d.get TDC_TBUS_CTRL.SLOT = 0 then 0 else roundHalfAway ((rtt : Int) - ns 2000 - 2 * loop) (2 * 16384)
    let d0 := (clampInt 0 4095 raw).toNat
    let d := (d.set TDC_TBUS_D0.D0 d0).set TDC_TBUS_D0.LOOP (min (2 ^ 20 - 1) (loop / 256))
    let d : Dev := { d with acq := { d.acq with d0Cal := d.acq.d0 } }
    ((d.freeCal 1 0).staleClass 1 false).post 0x0B10 0x0B02 [1, 0]
/-- A calibration request goes out (R277); slot 0 measures no round trip. -/
def Dev.tbusRequest (d : Dev) : Dev := if d.get TDC_TBUS_CTRL.SLOT = 0 then d else d.sendTbus 4 0 d.now
/-- TBUS_CALIBRATION (R277): a calibration ends that a command asked for, or, with TBUS_BG = 1 and the bus idle, one of the background runs. -/
def Dev.tbusCalibration (meas : Option (Nat × Nat)) (d : Dev) : Dev :=
  if !d.on TDC_TBUS_CTRL.EN then d
  else if d.acq.tbusAsked then Dev.tbusResult meas { d with acq := { d.acq with tbusAsked := false } }
  else if d.on TDC_TBUS_CTRL.TBUS_BG && decide (d.acq.busBusy ≤ d.now) then d.tbusRequest.tbusResult meas
  else d
/-- 0x0407 CALIBRATE_TRIGGER_PATHS (R250, R277, R278): asks for tables of the inputs named and for the TBUS delays. -/
def opCalibratePaths : Opcode :=
  { code := 0x0407, modes := fun _ => modeIn confSync,
    run := fun p _ d =>
      let k := par p 22 1
      if 2 < k then (.bad stBAD_PARAMETER, d)
      else
        let d := d.when (k != 1) (Dev.forN 16 (fun n d => d.when (bitAt (par p 24 2) n) (Dev.setTdc n { d.tdcIn n with asked := true })))
        let d := if k = 0 then d
          else if d.on TDC_TBUS_CTRL.EN then Dev.tbusRequest { d with acq := { d.acq with tbusAsked := true } }
          else d.post 0x0B10 0x0B02 [1, 1]
        (.done stACCEPTED [], d) }
/-- Records taken at another die temperature go stale or fresh (R227): classes 0 and 1 beyond 10 °C, class 3 beyond 20 °C; temperatures in 1/16 °C. -/
def Dev.calTemperature (d : Dev) : Dev :=
  let stale := ((List.range 16).map (fun n => match d.calOf 0 n with | some r => if d.calFar 160 r then 2 ^ n else 0 | none => 0)).sum
  let d := d.set TDC_STATUS.STALE stale
  let d := (d.staleClass 0 (stale != 0)).showTbusStale
  match d.calOf 3 0 with | some r => d.staleClass 3 (d.calFar 320 r) | none => d
/-- EVO_FIRING (R142, R252, R256): the firing starts conversions and is offered to the capture units. -/
def Dev.evoFiring (n : Nat) (d : Dev) : Dev :=
  let fires := (d.evoOut n).next.isSome
  let r := d.evoFire n
  if !fires then r.2 else
    let d := r.2.when (r.1 && r.2.adcMode == 1 && r.2.lget ADC_CTRL.EVO_SEL == n) (Dev.adcStart r.2.now)
    d.offerTrigger (0x3000 + n) d.now false

/-- EVO_FIRING (R142). -/
def execEvoFiring (n : Fin 16) (s : State) : Answer := .next (s.onDev (Dev.evoFiring n.val))
/-- TRIGGER_EDGE (R248). -/
def execTriggerEdge (n : Fin 16) (rising : Bool) (c : Fin 224) (held : Bool) (s : State) : Answer :=
  .next (s.onDev (Dev.triggerEdge n.val rising c.val held))
/-- TDC_STAMP_POP (R279). -/
def execTdcStampPop (n : Fin 16) (s : State) : Answer := .next (s.onDev (Dev.tdcPop n.val))
/-- TDC_TABLE_DONE (R250). -/
def execTdcTableDone (n : Fin 16) (hits : List Nat) (s : State) : Answer := .next (s.onDev (Dev.tableDone n.val hits))
/-- TDC_APPLY (R279). -/
def execTdcApply (mask : BitVec 16) (s : State) : Answer := .next (s.onDev (Dev.tdcApply mask.toNat))
/-- ADC_START (R252). -/
def execAdcStart (s : State) : Answer := .next (s.onDev Dev.adcGridStart)
/-- ADC_RESULT (R253). -/
def execAdcResult (k : Fin 8) (code : BitVec 18) (s : State) : Answer := .next (s.onDev (Dev.adcResult k.val code.toNat))
/-- ADC_APPLY (R280). -/
def execAdcApply (s : State) : Answer := .next (s.onDev Dev.adcApply)
/-- CAPTURE_ARM_TIME (R257). -/
def execCaptureArmTime (u : Fin 16) (s : State) : Answer := .next (s.onDev (Dev.armTime u.val))
/-- CAPTURE_SAMPLE (R255). -/
def execCaptureSample (u : Fin 16) (damaged : Bool) (s : State) : Answer := .next (s.onDev (Dev.captureSample u.val damaged))
/-- CAPTURE_TRIGGER (R257). -/
def execCaptureTrigger (u : Fin 16) (s : State) : Answer := .next (s.onDev (Dev.captureTrigger u.val))
/-- RECORD_COPIED (R257). -/
def execRecordCopied (u : Fin 16) (s : State) : Answer := .next (s.onDev (Dev.recordCopied u.val))
/-- ACQ_APPLY (R261). -/
def execAcqApply (mask : BitVec 16) (s : State) : Answer := .next (s.onDev (Dev.acqApply mask.toNat))
/-- CONFIG_CAPTURE_UNIT (R261). -/
def execConfigCaptureUnit (p : Packet) (s : State) : Answer := .next (s.onDev (Dev.packet opConfigCapture p))
/-- ARM (R272). -/
def execArm (p : Packet) (s : State) : Answer := .next (s.onDev (Dev.packet opArm p))
/-- DISARM (R257). -/
def execDisarm (p : Packet) (s : State) : Answer := .next (s.onDev (Dev.packet opDisarm p))
/-- FORCE_FIRE (R256). -/
def execForceFire (p : Packet) (s : State) : Answer := .next (s.onDev (Dev.packet opForceFire p))
/-- LOAD_MASK (R263). -/
def execLoadMask (p : Packet) (s : State) : Answer := .next (s.onDev (Dev.packet opLoadMask p))
/-- CONFIG_REGISTRATION (R266). -/
def execConfigRegistration (p : Packet) (s : State) : Answer := .next (s.onDev (Dev.packet opConfigReg p))
/-- CALIBRATE_TRIGGER_PATHS (R250). -/
def execCalibrateTriggerPaths (p : Packet) (s : State) : Answer := .next (s.onDev (Dev.packet opCalibratePaths p))
/-- ARM_FRAME (R272). -/
def execArmFrame (trunk : Fin 2) (payload : List Byte) (s : State) : Answer := .next (s.onDev (Dev.armFrame trunk.val payload))
/-- FIRE_FRAME (R274). -/
def execFireFrame (trunk : Fin 2) (payload : List Byte) (s : State) : Answer := .next (s.onDev (Dev.fireFrame trunk.val payload))
/-- DISARM_FRAME (R272). -/
def execDisarmFrame (trunk : Fin 2) (payload : List Byte) (s : State) : Answer := .next (s.onDev (Dev.disarmFrame trunk.val payload))
/-- TBUS_FRAME (R276). -/
def execTbusFrame (rx : BitVec 80) (bits : BitVec 32) (s : State) : Answer := .next (s.onDev (Dev.tbusFrame rx.toNat bits.toNat))
/-- TBUS_CALIBRATION (R277). -/
def execTbusCalibration (meas : Option (Nat × Nat)) (s : State) : Answer := .next (s.onDev (Dev.tbusCalibration meas))
/-- REGISTRATION_REQUEST_READY (R268). -/
def execRegistrationRequestReady (r : Fin 32) (s : State) : Answer := .next (s.onDev (Dev.regReady r.val))

end Sys2Proof.Machine
end

