-- ==== Sys2Proof/Machine/Store.lean ====
section
/-! DEFINITION. Sys2Proof/Machine/Store.lean: the record store (R355 to R371) and the ledger's opcodes and compaction (R372 to R381). -/
namespace Sys2Proof.Machine

/-- A free allocation unit. -/
def AuEntry.free : AuEntry := ⟨0, 0, 0, 0, 0, 0⟩
/-- Drive `i`. -/
def Dev.drive (d : Dev) (i : Nat) : Drive := smGet (fun _ => Drive.reset) d.sto.drives i
/-- Replace a drive. -/
def Dev.setDrive (i : Nat) (x : Drive) (d : Dev) : Dev := { d with sto := { d.sto with drives := smSet (fun _ => Drive.reset) d.sto.drives i x } }
/-- State of a drive (R382). -/
def Dev.dState (d : Dev) (i : Nat) : Nat := d.get (STO_D_STATUS.STATE i)
/-- Drives in a state, ascending. -/
def Dev.drivesIn (d : Dev) (st : Nat) : List Nat := (List.range 4).filter (fun i => d.dState i == st)
/-- A mask of drives. -/
def driveMask (is : List Nat) : Nat := is.foldl (fun m i => Nat.lor m (2 ^ i)) 0
/-- Byte offset of the index entry of an AU (R357). -/
def indexAt (au : Nat) : Nat := 0x200000 + 32 * au
/-- Byte offset of an AU (R357). -/
def auAt (au : Nat) : Nat := 0x10200000 + 0x200000 * au
/-- The 32-byte index entry (R360). -/
def indexBytes (e : AuEntry) : List Byte :=
  let b := leBytes 8 e.num ++ leBytes 4 e.part ++ leBytes 4 e.parts ++ leBytes 1 e.state ++ leBytes 1 e.kind ++ zeros 2 ++ leBytes 8 e.sealNs
  b ++ leBytes 4 (crc32c b)
/-- An NVMe command of a drive: its bytes are the byte offset on the drive and the data. -/
def Dev.nvme (i queue op off : Nat) (data : List Byte) (d : Dev) : Dev := d.emit (.nvme i queue op (leBytes 8 off ++ data))
/-- A command is outstanding at a drive. -/
def Dev.pushOp (i : Nat) (op : NvOp) (d : Dev) : Dev := let x := d.drive i; d.setDrive i { x with ops := x.ops ++ [op] }
/-- A write or deallocation that belongs to no record's parts. -/
def Dev.putDrive (i op : Nat) (off : Nat) (data : List Byte) (d : Dev) : Dev :=
  (d.pushOp i (.write 0 op (leBytes 8 off ++ data) false)).nvme i 1 op off data
/-- An AU's entry in the index as this controller knows it. -/
def Drive.au (x : Drive) (a : Nat) : AuEntry := smGet (fun _ => AuEntry.free) x.aus a
/-- Change an AU's entry. -/
def Drive.setAu (a : Nat) (e : AuEntry) (x : Drive) : Drive := { x with aus := smSet (fun _ => AuEntry.free) x.aus a e }
/-- Record numbers on a drive, ascending, no repeats. -/
def Drive.records (x : Drive) : List Nat := ((x.aus.map (·.2.num)).mergeSort (· ≤ ·)).eraseDups
/-- AUs of a record on a drive, in part order. -/
def Drive.unitsOf (x : Drive) (n : Nat) : List Nat :=
  ((x.aus.filter (fun p => p.2.num == n)).mergeSort (fun p q => p.2.part ≤ q.2.part)).map (·.1)
/-- Entries held (R366), over the mounted drives: record numbers. -/
def Dev.heldRecords (d : Dev) : List Nat :=
  ((d.drivesIn 3).flatMap (fun i => ((d.drive i).aus.filter (fun p => p.2.state == 3)).map (·.2.num))).eraseDups
/-- The registers of the store follow its drives (R382), and STORE_DEGRADED (R55): a drive is missing or FAILED, or the store is full. -/
def Dev.showStore (d : Dev) : Dev :=
  let d := (d.set STO_STATUS.MOUNTED (driveMask (d.drivesIn 3))).set STO_STATUS.FAILED (driveMask (d.drivesIn 4))
  let d := d.forN 4 (fun i d => d.wr (STO_D_FREE i) (if d.dState i = 3 then (d.drive i).n - (d.drive i).aus.length else 0))
  let d := d.wr STO_FREE (((List.range 4).map (fun i => d.rd (STO_D_FREE i))).sum)
  let d := d.wr STO_HELD d.heldRecords.length
  let nums := (d.drivesIn 3).flatMap (fun i => (d.drive i).aus.map (·.2.num))
  let d := (d.wr64 STO_OLDEST_LO (nums.min?.getD 0)).wr64 STO_NEWEST_LO d.sto.headNum
  d.cond condSTORE_DEGRADED (!d.sto.missing.isEmpty || d.get STO_STATUS.FAILED != 0 || d.on STO_STATUS.FULL)
/-- Space has freed: the store is no longer full (R365). -/
def Dev.clearFull (d : Dev) : Dev := (d.set STO_STATUS.FULL 0).showStore

/-- The header bytes 0 to 255 of a record, over which its chain hash is taken (R362, R363). -/
def recordHead (num kind flags ctrl source gen drive : Nat) (t : LTime) (cycle len parts au0 : Nat) (ident hash prev : List Byte) : List Byte :=
  [0x49, 0x4C, 0x52, 0x45, 0x43, 0x4F, 0x52, 0x44] ++ leBytes 8 num ++ leBytes 1 kind ++ leBytes 1 flags ++ leBytes 1 ctrl ++ leBytes 1 source ++
    leBytes 2 gen ++ leBytes 1 drive ++ zeros 1 ++ leBytes 10 t ++ leBytes 4 cycle ++ zeros 2 ++ leBytes 8 len ++ leBytes 4 parts ++
    leBytes 4 au0 ++ padTo 16 ident ++ zeros 40 ++ padTo 48 hash ++ padTo 48 prev ++ zeros 48
/-- The AU header block of R359. -/
def auBlock (num part parts au len dws : Nat) (head : List Byte) : List Byte :=
  let b := [0x49, 0x4C, 0x41, 0x55, 0x48, 0x44, 0x52, 0x31] ++ leBytes 8 num ++ leBytes 4 part ++ leBytes 4 parts ++ leBytes 4 au ++ leBytes 4 len ++ leBytes 8 dws
  padTo 512 (b ++ leBytes 4 (crc32c b)) ++ padTo 3584 head
/-- Payload bytes of one AU (R359). -/
def auPayload : Nat := 511 * 4096
/-- The free AUs that a record of `k` parts takes from AU `a` on in circular order, skipping held and pinned ones (R360, R365, R368); none
when an occupied one is met first. -/
def takeUnits (n : Nat) (skip : Nat → Bool) (occupied : Nat → Bool) : Nat → Nat → Nat → Option (List Nat)
  | _, _, 0 => some []
  | 0, _, _ => none
  | fuel + 1, a, k + 1 =>
    if skip a then takeUnits n skip occupied fuel ((a + 1) % n) (k + 1)
    else if occupied a then none
    else (takeUnits n skip occupied fuel ((a + 1) % n) k).map (a :: ·)
/-- Where a record of `k` parts goes on a drive, if it has room. Under HA_INDEX no index is kept: the drive takes AUs until each has been
written once since its format (R371). -/
def Dev.roomOn (d : Dev) (k i : Nat) : Option (List Nat) :=
  let x := d.drive i
  if x.n < k then none
  else if d.ha 7 then
    if x.dws + k ≤ x.n then takeUnits x.n (fun _ => false) (fun _ => false) k (d.rd (STO_D_WPTR i)) k else none
  else takeUnits x.n (fun a => (x.au a).state == 3 || ((x.au a).state != 0 && d.sto.pinned.contains (x.au a).num)) (fun a => (x.au a).state != 0)
    (x.aus.length + k) (d.rd (STO_D_WPTR i)) k
/-- Mounted drives in turn after the one that took the last record (R361), without those being unmounted. -/
def Dev.turnOrder (d : Dev) : List Nat :=
  let out := match d.sto.unmounting with | some u => u.1 | none => []
  ([1, 2, 3, 4].map (fun k => (d.sto.turn + k) % 4)).filter (fun i => d.dState i == 3 && !out.contains i)
/-- The drive and AUs of a record of `k` parts. -/
def Dev.findRoom (d : Dev) (k : Nat) : Option (Nat × List Nat) :=
  d.turnOrder.findSome? (fun i => (d.roomOn k i).map (fun us => (i, us)))
/-- A record's AUs are freed on its drives: index entries and a released hold (R360, R373); the deallocation follows its logging. -/
def Dev.freeRecord (n : Nat) (d : Dev) : Dev :=
  d.forEach (d.drivesIn 3) (fun i d =>
    let us := (d.drive i).unitsOf n
    let held := us.any (fun a => ((d.drive i).au a).state == 3)
    let d := d.forEach us (fun a d => (d.setDrive i ((d.drive i).setAu a .free)).putDrive i 1 (indexAt a) (zeros 32))
    let d := d.forEach us (fun a d => d.putDrive i 9 (auAt a) (leBytes 8 0x200000))
    d.when held (fun d => d.transact [(0x0B, leBytes 8 n ++ leBytes 1 i ++ leBytes 4 (us.headD 0) ++ leBytes 1 0)]))
/-- Records of the mounted drives that a predicate on their entries allows, ascending. -/
def Dev.recordsWith (ok : AuEntry → Bool) (d : Dev) : List Nat :=
  (((d.drivesIn 3).flatMap (fun i => ((d.drive i).aus.filter (fun p => ok p.2)).map (·.2.num))).mergeSort (· ≤ ·)).eraseDups
/-- The mounted drive that holds a record. -/
def Dev.driveOf (n : Nat) (d : Dev) : Option Nat := (d.drivesIn 3).find? (fun i => (d.drive i).aus.any (fun p => p.2.num == n))
/-- A range of records is deleted (R365, R370): the last one's header is read for its chain hash, the range then logged (R373). -/
def Dev.deleteRecords (nums : List Nat) (ref : Option PktRef) (d : Dev) : Dev :=
  match nums.getLast? with
  | none => d
  | some last =>
    match d.driveOf last with
    | none => d
    | some i =>
      let au := (((d.drive i).unitsOf last).headD 0)
      let d := (d.pushOp i (.deletion (nums.headD 0) last nums.length ref)).nvme i 1 2 (auAt au) (leBytes 8 4096)
      (d.forEach nums Dev.freeRecord).clearFull
/-- Reclaim (R365): the shortest run of oldest durable, unheld, unpinned records whose removal makes room. -/
def reclaimFor (d : Dev) (k : Nat) : List Nat → List Nat → Option (List Nat)
  | _, [] => none
  | done, n :: ns =>
    let done := done ++ [n]
    let free := d.forEach (d.drivesIn 3) (fun i d => d.setDrive i { d.drive i with aus := (d.drive i).aus.filter (fun p => !done.contains p.2.num) })
    if (free.findRoom k).isSome then some done else reclaimFor d k done ns
/-- Make room for a record, reclaiming under policy 1 (R365, R371). -/
def Dev.makeRoom (k : Nat) (d : Dev) : Dev :=
  if (d.findRoom k).isSome || !d.on STO_CTRL.FULL_POLICY || d.ha 7 || d.turnOrder.isEmpty then d else
    match reclaimFor d k [] (d.recordsWith (fun e => e.state == 2 && !d.sto.pinned.contains e.num)) with
    | some ns => (d.deleteRecords ns none).post 0x1000 0x1004 (leBytes 8 (ns.headD 0) ++ leBytes 4 ns.length)
    | none => d
/-- A record is lost (R260, R365, R367): its source hears of it. -/
def Dev.loseRecord (kind source status : Nat) (buffered : Bool) (d : Dev) : Dev :=
  let d := d.count32 STO_LOST_CNT 1
  if kind = 1 then
    if buffered then d.recordLost source status
    else (d.count32 ACQ_LOST_RECORDS 1).post (0x0B80 + source) 0x0B85 (leBytes 2 status)
  else d.endTrace source 3
/-- Whether a record is to be held (R366). -/
def Dev.wantsHold (d : Dev) (s : Seal) : Bool :=
  bitAt (if s.kind = 1 then d.get STO_HOLD_MASK.UNIT else d.get STO_HOLD_MASK.TRACE) s.source ||
    (s.kind == 1 && d.on STO_CTRL.AUTO_HOLD && (bitAt (fieldAt s.payload 3 1) 2 || fieldAt s.payload 4 2 / 4096 == 4))
/-- The key generation of a new record (R443): it advances, logged first, at a nonzero multiple of 2^24. -/
def Dev.keyTurn (num : Nat) (d : Dev) : Dev :=
  if num ≠ 0 && num % 2 ^ 24 = 0 then
    let g := (d.sto.keyGen + 1) % 65536
    (({ d with sto := { d.sto with keyGen := g } } : Dev).wr SEC_KEYGEN g).transact [(0x0A, settingBody 0x1000 4 g)]
  else d
/-- A record is sealed (R361 to R363): numbered, given a drive, encrypted, hashed, signed and sent to its drive, or lost (R365). -/
def Dev.sealRecord (s : Seal) (d : Dev) : Dev :=
  let num := d.sto.next
  let d := d.keyTurn num
  let d : Dev := { d with sto := { d.sto with next := num + 1 } }
  let units := (s.payload.length + 4095) / 4096
  let parts := max 1 ((units + 510) / 511)
  let d := d.makeRoom parts
  match d.findRoom parts with
  | none =>
    let first := !d.on STO_STATUS.FULL
    let d := ((d.set STO_STATUS.FULL 1).showStore).when first (Dev.post 0x1000 0x1003 (leBytes 8 num))
    d.loseRecord s.kind s.source stSTORE_FULL true
  | some (i, us) =>
    let want := d.wantsHold s && !d.ha 7
    let held := want && decide (d.heldRecords.length + (d.sto.writing ++ d.sto.written).countP (·.held) < 4096)
    let d := d.when (want && !held) (Dev.post 0x1000 0x1006 (leBytes 8 num))
    let x := d.drive i
    let ident := d.sto.identity.getD (zeros 16)
    let ct := Config.xtsEncrypt d.sec.idSecret ident d.sto.keyGen num (padTo (4096 * units) s.payload)
    let fl := if s.kind = 1 then fieldAt s.payload 3 1 else 0
    let head := recordHead num s.kind (flag held + 2 * flag (bitAt fl 7) + 4 * flag (bitAt fl 3)) d.sys.index s.source d.sto.keyGen i d.now d.cyc.count
      s.payload.length parts (us.headD 0) ident (Config.sha384 ct) d.sto.prev
    let chain := padTo 48 (Config.sha384 head)
    let full := padTo 512 (head ++ padTo 48 chain ++ padTo 96 (Config.identitySign d.sec.idSecret chain))
    let y := us.zipIdx.foldl (fun (x : Drive) (p : Nat × Nat) => x.setAu p.1 ⟨num, p.2, parts, 1, s.kind, d.now / 65536⟩) x
    let d := d.setDrive i { y with dws := x.dws + parts }
    let d := d.forEach us.zipIdx (fun p d =>
      let pay := (ct.drop (auPayload * p.2)).take auPayload
      let b := auBlock num p.2 parts p.1 pay.length (x.dws + p.2) (if p.2 = 0 then full else []) ++ pay
      (d.pushOp i (.write num 1 (leBytes 8 (auAt p.1) ++ b) false)).nvme i 1 1 (auAt p.1) b)
    let d := d.wr (STO_D_WPTR i) (((us.getLast?.getD 0) + 1) % max 1 x.n)
    let r : Rec := ⟨num, i, us, parts, s.kind, s.source, held, chain⟩
    let t : Sto := d.sto
    ({ d with sto := { t with prev := chain, turn := i, writing := t.writing ++ [r] } } : Dev).clearFull
/-- Traces that are complete are sealed in order (R361). -/
def Dev.sealAll (d : Dev) : Dev :=
  let ss := d.sto.toSeal
  ({ d with sto := { d.sto with toSeal := [] } }).forEach ss Dev.sealRecord
/-- Traces into the store stop with cause 3 while it can take nothing (R217). -/
def Dev.storeGuard (d : Dev) : Dev :=
  let d := d.sealAll
  if (d.drivesIn 3).isEmpty || d.on STO_STATUS.FULL then d.forN 4 (fun u d => d.when (d.lget (TRC_UCTRL.DEST u) == 2) (Dev.endTrace u 3)) else d

/-- A flush starts (R364): NVMe Flush on every mounted drive. -/
def Dev.startFlush (refs : List PktRef) (d : Dev) : Dev :=
  let on_ := d.drivesIn 3
  let d : Dev := { d with sto := { d.sto with flush := some ⟨refs, d.sto.written.map (·.num), on_⟩ } }
  (d.forEach on_ (fun i d => (d.pushOp i .flush).nvme i 1 0 0 [])).set STO_STATUS.FLUSHING 1
/-- CHAIN_HEAD body (R364): newest durable record, its chain hash, each drive's write pointer and drive write sequence (notes/assumptions/9.md). -/
def chainBody (num : Nat) (hash : List Byte) (ds : List (Nat × Nat × Nat)) : List Byte :=
  leBytes 8 num ++ padTo 48 hash ++ (List.range 4).flatMap (fun i =>
    match ds.find? (fun x => x.1 == i) with | some x => leBytes 4 x.2.1 ++ leBytes 8 x.2.2 | none => zeros 12)
/-- The end of a flush (R364): index entries turn durable, the chain-head entry commits, RECORD_WRITTEN is posted. -/
def Dev.flushDone (f : Flush) (d : Dev) : Dev :=
  let done := d.sto.written.filter (fun r => f.nums.contains r.num)
  let d := d.forEach done (fun r d => d.forEach r.aus (fun a d =>
    let e := { (d.drive r.drive).au a with state := if r.held then 3 else 2 }
    let d := d.setDrive r.drive ((d.drive r.drive).setAu a e)
    if d.ha 7 then d else d.putDrive r.drive 1 (indexAt a) (indexBytes e)))
  let d := match (done.mergeSort (fun a b => a.num ≤ b.num)).getLast? with
    | some r => { d with sto := { d.sto with headNum := r.num, headHash := r.chain } }
    | none => d
  let ds := (List.range 4).filterMap (fun i =>
    if d.dState i == 3 then some (i, d.rd (STO_D_WPTR i), (d.drive i).dws) else d.sto.headDrives.find? (fun x => x.1 == i))
  let d : Dev := { d with sto := { d.sto with flush := none, headDrives := ds, written := d.sto.written.filter (fun r => !f.nums.contains r.num) } }
  let d := (d.transact [(9, chainBody d.sto.headNum d.sto.headHash ds)]).set STO_STATUS.FLUSHING 0
  let d := d.forEach done (fun r d =>
    let d := d.when r.held (fun d => d.transact [(0x0B, leBytes 8 r.num ++ leBytes 1 r.drive ++ leBytes 4 (r.aus.headD 0) ++ leBytes 1 1)])
    if r.kind = 1 then ((d.count32 (ACQ_U_RECORDS r.source) 1).post (0x0B80 + r.source) 0x0B82 (leBytes 8 r.num)) else d)
  (d.forEach f.refs (fun ref d => d.complete ref stOK d.now (leBytes 8 d.sto.headNum))).showStore
/-- What may start now: the next flush of packets that wait, or the flush before an unmount (R364, R368). -/
def Dev.storeGo (d : Dev) : Dev :=
  if d.sto.flush.isSome then d
  else if !d.sto.flushNext.isEmpty then
    let rs := d.sto.flushNext
    ({ d with sto := { d.sto with flushNext := [] } }).startFlush rs
  else match d.sto.unmounting with
    | some (m, _) => if d.sto.writing.any (fun r => m.contains r.drive) || d.drivesIn 3 = [] then d else d.startFlush []
    | none => d
/-- The unmount's drives are released once their records are durable (R368). -/
def Dev.unmountStep (d : Dev) : Dev :=
  match d.sto.unmounting, d.sto.flush with
  | some (m, ref), none =>
    if (d.sto.writing ++ d.sto.written).any (fun r => m.contains r.drive) then d else
      let d : Dev := { d with sto := { d.sto with unmounting := none } }
      let d := (d.forEach m (fun i e => e.when (e.dState i == 3) (Dev.set (STO_D_STATUS.STATE i) 7))).showStore
      d.complete ref stOK d.now (leBytes 1 (d.get STO_STATUS.MOUNTED) ++ leBytes 1 (d.get STO_STATUS.FAILED) ++ leBytes 1 (driveMask (d.drivesIn 6)) ++
        zeros 1 ++ leBytes 4 (d.rd STO_FREE))
  | _, _ => d
/-- After anything that the store's waiting work may depend on: a flush that every drive has answered ends, an unmount or flush goes on. -/
def Dev.storeSettle (d : Dev) : Dev :=
  let d := match d.sto.flush with
    | some f => if f.waiting.isEmpty then d.flushDone f else d
    | none => d
  d.unmountStep.storeGo
/-- A drive has answered the flush, or can no longer. -/
def Dev.flushAnswered (i : Nat) (d : Dev) : Dev :=
  match d.sto.flush with
  | some f => { d with sto := { d.sto with flush := some { f with waiting := f.waiting.filter (· != i) } } }
  | none => d
/-- The mount's drives have all settled (R369): the links of the kept records are checked, STORE_MOUNTED is posted, the packet completes. -/
def Dev.mountDone (j : MountJob) (d : Dev) : Dev :=
  let kept := d.sto.kept.mergeSort (fun a b => a.1 ≤ b.1)
  let broken := (kept.foldl (fun (acc : Nat × List Byte × Option Nat) r =>
    (r.1, r.2.2, if acc.2.2.isNone && padTo 48 r.2.1 != padTo 48 acc.2.1 then some acc.1 else acc.2.2)) (d.sto.headNum, d.sto.headHash, none)).2.2
  let d := match broken with
    | some n => (d.set STO_STATUS.CHAIN_BREAK 1).post 0x1000 0x1005 (leBytes 8 n)
    | none => d
  let d := match kept.getLast? with
    | some r => { d with sto := { d.sto with headNum := max d.sto.headNum r.1, headHash := r.2.2, prev := r.2.2 } }
    | none => d
  let top := ((d.drivesIn 3).flatMap (fun i => (d.drive i).aus.map (·.2.num))).max?.getD 0
  let d : Dev := { d with sto := { d.sto with job := none, kept := [], next := max d.sto.next (top + 1) } }
  let d := d.clearFull
  let d := d.post 0x1000 0x1001 (leBytes 1 (d.get STO_STATUS.MOUNTED) ++ leBytes 1 (driveMask (d.drivesIn 6)))
  d.completeOpt j.ref stOK d.now (leBytes 1 (d.get STO_STATUS.MOUNTED) ++ leBytes 1 (d.get STO_STATUS.FAILED) ++ leBytes 1 (driveMask (d.drivesIn 6)) ++
    zeros 1 ++ leBytes 4 (d.rd STO_FREE))
/-- A drive of a mount in progress has settled. -/
def Dev.mountSettled (i : Nat) (d : Dev) : Dev :=
  match d.sto.job with
  | some j =>
    let j := { j with waiting := j.waiting.filter (· != i) }
    let d : Dev := { d with sto := { d.sto with job := some j } }
    if j.waiting.isEmpty then d.mountDone j else d.showStore
  | none => d.showStore
/-- A read or list ends (R370): the record is no longer pinned. -/
def Dev.endRead (ref : PktRef) (num : Option Nat) (r : Reply × Dev) : Dev :=
  let d := r.2
  let d := match num with
    | some n => { d with sto := { d.sto with pinned := d.sto.pinned.erase n } }
    | none => d
  Dev.answer ref (r.1, d)
/-- The packet behind a command that a drive will not answer ends with MEDIA_ERROR. -/
def Dev.abandon (op : NvOp) (d : Dev) : Dev :=
  match op with
  | .readRecord n _ ref => Dev.endRead ref (some n) (.bad stMEDIA_ERROR, d)
  | .readAu _ _ ref => Dev.endRead ref none (.bad stMEDIA_ERROR, d)
  | .list _ ref _ _ => d.complete ref stMEDIA_ERROR d.now []
  | .listAus _ ref _ _ => d.complete ref stMEDIA_ERROR d.now []
  | .deletion first last n ref =>
    (d.transact [(0x0C, leBytes 8 first ++ leBytes 8 last ++ zeros 48)]).completeOpt ref stOK d.now (leBytes 4 n)
  | _ => d
/-- Records not yet durable on a drive are lost (R367). -/
def Dev.loseDrive (i : Nat) (d : Dev) : Dev :=
  let w := d.sto.writing.filter (fun r => r.drive == i)
  let z := d.sto.written.filter (fun r => r.drive == i)
  let ops := (d.drive i).ops
  let d := d.setDrive i { d.drive i with ops := [], checking := [] }
  let d : Dev := { d with sto := { d.sto with writing := d.sto.writing.filter (fun r => r.drive != i), written := d.sto.written.filter (fun r => r.drive != i) } }
  let d := d.forEach w (fun r => Dev.loseRecord r.kind r.source stMEDIA_ERROR true)
  let d := d.forEach z (fun r => Dev.loseRecord r.kind r.source stMEDIA_ERROR false)
  (d.forEach ops Dev.abandon).flushAnswered i
/-- A drive becomes FAILED (R356, R367). -/
def Dev.failDrive (i status : Nat) (d : Dev) : Dev :=
  let d := d.set (STO_D_STATUS.STATE i) 4
  let d := (d.post 0x1000 0x1002 (leBytes 1 i ++ leBytes 2 status)).loseDrive i
  (d.mountSettled i).storeSettle
/-- Bring-up ends without a mount, or the mount or format of a job goes on (R356, R369). -/
def Dev.readHeaders (i : Nat) (d : Dev) : Dev := (d.pushOp i .headers).nvme i 1 2 0 (leBytes 8 0x100200)
/-- The drive header of R357. -/
def driveHeader (ident : List Byte) (slot n : Nat) (t : LTime) : List Byte :=
  let b := padTo 508 ([0x49, 0x4C, 0x53, 0x54, 0x4F, 0x52, 0x45, 0x31] ++ padTo 16 ident ++ leBytes 1 slot ++ zeros 3 ++ leBytes 4 n ++ leBytes 10 t)
  b ++ leBytes 4 (crc32c b)
/-- A format of a drive (R357, R358): both headers are written; its index is cleared first. -/
def Dev.formatDrive (i : Nat) (d : Dev) : Dev :=
  let h := driveHeader (d.sto.identity.getD (zeros 16)) i (d.drive i).n d.now
  let d := (d.nvme i 1 9 0x200000 (leBytes 8 0x10000000)).nvme i 1 1 0 h
  ((d.setDrive i { d.drive i with aus := [], dws := 0, checking := [] }).pushOp i .format).nvme i 1 1 0x100000 h
/-- A drive that has been brought up (R356, R369). -/
def Dev.broughtUp (i : Nat) (d : Dev) : Dev :=
  let d := d.set (STO_D_STATUS.STATE i) 7
  match d.sto.job with
  | some j => if j.waiting.contains i then (if j.op = 2 then d.formatDrive i else d.readHeaders i) else d.showStore
  | none => d.showStore
/-- Identify (R355, R357): Identify Controller, then Identify Namespace of namespace 1, each 4,096 bytes. -/
def Dev.identified (i : Nat) (data : List Byte) (d : Dev) : Dev :=
  let ns_ := data.drop 4096
  let fl := fieldAt ns_ 26 1 % 16
  let fmt := 128 + 4 * fl
  let lbads := fieldAt ns_ (fmt + 2) 1
  let cap := fieldAt ns_ 0 8 * 2 ^ lbads
  let d := d.wr (STO_D_CAP i) (min (cap / 2 ^ 30) (2 ^ 32 - 1))
  if (lbads = 9 || lbads = 12) && fieldAt ns_ fmt 2 = 0 && 2 ^ 30 ≤ cap then
    let n := (min cap (2 ^ 44) - 258 * 2 ^ 20) / 2 ^ 21
    let d := (d.wr (STO_D_AUS i) n).setDrive i { d.drive i with n := n }
    (d.pushOp i .queues).nvme i 0 9 0 [7, 0, 7, 0]
  else (d.set (STO_D_STATUS.STATE i) 5).mountSettled i
/-- The drive is mounted (R369). -/
def Dev.mounted (i : Nat) (d : Dev) : Dev := (d.set (STO_D_STATUS.STATE i) 3).mountSettled i
/-- A record that a mount discards (R369): its AUs are freed, its loss is counted. -/
def Dev.discardRecord (i n : Nat) (d : Dev) : Dev :=
  let us := (d.drive i).unitsOf n
  let d := d.setDrive i { d.drive i with aus := (d.drive i).aus.filter (fun p => p.2.num != n) }
  (d.forEach us (fun a => Dev.putDrive i 1 (indexAt a) (zeros 32))).count32 STO_LOST_CNT 1
/-- The next record of a mount to be verified, or the mount of this drive ends (R369). A record of which a part is missing is discarded. -/
def Dev.verifyNext : Nat → Nat → Dev → Dev
  | 0, _, d => d
  | fuel + 1, i, d =>
    let x := d.drive i
    match x.checking with
    | [] => d.mounted i
    | n :: _ =>
      let us := x.unitsOf n
      let parts := ((us.head?).map (fun a => (x.au a).parts)).getD 0
      if us.length = parts then (d.pushOp i (.verify n)).nvme i 1 2 (auAt (us.headD 0)) (leBytes 8 (parts * 0x200000))
      else
        Dev.verifyNext fuel i ((d.setDrive i { x with checking := x.checking.drop 1 }).discardRecord i n)
/-- The header scan of a mount has ended at AU `a`: records above the chain head are checked (R369). -/
def Dev.scanned (i a : Nat) (d : Dev) : Dev :=
  let x := d.drive i
  let d := d.wr (STO_D_WPTR i) a
  let d := d.setDrive i { x with checking := x.records.filter (fun n => d.sto.headNum < n) }
  d.verifyNext (x.aus.length + 1) i
/-- Write pointer and drive write sequence in the newest chain-head entry (R369). -/
def Dev.headOf (i : Nat) (d : Dev) : Nat × Nat := ((d.sto.headDrives.find? (fun x => x.1 == i)).map (·.2)).getD (0, 0)
/-- The header copies of a drive have been read (R357, R358, R369, R371). -/
def Dev.headersRead (i : Nat) (data : List Byte) (d : Dev) : Dev :=
  let ok := fun h : List Byte => h.take 8 == [0x49, 0x4C, 0x53, 0x54, 0x4F, 0x52, 0x45, 0x31] && fieldAt h 508 4 == crc32c (padTo 508 h)
  let c0 := padTo 512 data
  let c1 := padTo 512 (data.drop 512)
  match (if ok c0 then some c0 else if ok c1 then some c1 else none) with
  | none => (d.set (STO_D_STATUS.STATE i) 6).mountSettled i
  | some h =>
    if d.sto.identity ≠ some ((h.drop 8).take 16) then (d.set (STO_D_STATUS.STATE i) 6).mountSettled i
    else
      let hd := d.headOf i
      let d := d.setDrive i { d.drive i with aus := [], dws := hd.2, checking := [] }
      if d.ha 7 then (d.wr (STO_D_WPTR i) hd.1).mounted i
      else (d.pushOp i .index).nvme i 1 2 0x200000 (leBytes 8 (32 * (d.drive i).n))
/-- Valid entries of an index region as read. -/
def indexOf (n : Nat) (data : List Byte) : List (Nat × AuEntry) :=
  (List.range (min n ((data.length + 31) / 32))).filterMap (fun a =>
    let e := padTo 32 (data.drop (32 * a))
    if fieldAt e 28 4 = crc32c (e.take 28) && fieldAt e 16 1 ≠ 0 then
      some (a, ⟨fieldAt e 0 8, fieldAt e 8 4, fieldAt e 12 4, fieldAt e 16 1, fieldAt e 17 1, fieldAt e 20 8⟩) else none)
/-- The next AU in circular order, skipping held AUs. -/
def nextAu (x : Drive) : Nat → Nat → Nat
  | 0, a => a
  | fuel + 1, a => if (x.au a).state = 3 then nextAu x fuel ((a + 1) % max 1 x.n) else a
/-- Read the header of AU `a` in a mount's scan. -/
def Dev.scanAu (i a : Nat) (d : Dev) : Dev := (d.pushOp i (.auHeader a)).nvme i 1 2 (auAt a) (leBytes 8 4096)
/-- Whether a block is the AU header of AU `a` (R359). -/
def auOk (a : Nat) (b : List Byte) : Bool :=
  b.take 8 == [0x49, 0x4C, 0x41, 0x55, 0x48, 0x44, 0x52, 0x31] && fieldAt b 24 4 == a && fieldAt b 40 4 == crc32c (padTo 40 b)
/-- An AU header of the scan has been read (R369): an AU written after the last flush joins the index, else the scan ends. -/
def Dev.auRead (i a : Nat) (b : List Byte) (d : Dev) : Dev :=
  let x := d.drive i
  if auOk a b && fieldAt b 32 8 == x.dws then
    let e : AuEntry := ⟨fieldAt b 8 8, fieldAt b 16 4, fieldAt b 20 4, 1, fieldAt b 528 1, fieldAt b 538 8⟩
    let x := { x.setAu a e with dws := x.dws + 1 }
    (d.setDrive i x).scanAu i (nextAu x (x.aus.length + 1) ((a + 1) % max 1 x.n))
  else d.scanned i a
/-- The parts of a record have been read (R369): AU block and payload of each; the record is kept as durable or discarded. -/
def Dev.verified (i n : Nat) (ok : Bool) (data : List Byte) (d : Dev) : Dev :=
  let x := d.drive i
  let us := x.unitsOf n
  let blocks := us.zipIdx.map (fun p => (p.1, (data.drop (0x200000 * p.2)).take 0x200000))
  let head := (data.drop 512).take 512
  let ct := blocks.flatMap (fun p => (p.2.drop 4096).take (fieldAt p.2 28 4))
  let good := ok && blocks.all (fun p => auOk p.1 p.2 && fieldAt p.2 8 8 == n) && (padTo 48 (Config.sha384 ct)) == (head.drop 112).take 48
  let d := if good then
      let st := if bitAt (fieldAt head 17 1) 0 then 3 else 2
      let d := d.setDrive i (us.foldl (fun x a => x.setAu a { x.au a with state := st, kind := fieldAt head 16 1, sealNs := fieldAt head 26 8 }) x)
      let d : Dev := { d with sto := { d.sto with kept := d.sto.kept ++ [(n, (head.drop 160).take 48, (head.drop 256).take 48)] } }
      d.forEach us (fun a d => d.putDrive i 1 (indexAt a) (indexBytes ((d.drive i).au a)))
    else d.discardRecord i n
  let d := d.setDrive i { d.drive i with checking := (d.drive i).checking.drop 1 }
  d.verifyNext ((d.drive i).aus.length + 1) i
/-- A part of a record is on its drive; with the last one its index entries are written and its buffer frees (R364, R260). -/
def Dev.partWritten (n : Nat) (d : Dev) : Dev :=
  match d.sto.writing.find? (fun r => r.num == n) with
  | none => d
  | some r =>
    if 1 < r.left then { d with sto := { d.sto with writing := d.sto.writing.map (fun x => if x.num == n then { x with left := x.left - 1 } else x) } }
    else
      let d : Dev := { d with sto := { d.sto with writing := d.sto.writing.filter (fun x => x.num != n), written := d.sto.written ++ [{ r with left := 0 }] } }
      let d := if d.ha 7 then d else d.forEach r.aus (fun a d => d.putDrive r.drive 1 (indexAt a) (indexBytes ((d.drive r.drive).au a)))
      d.when (r.kind == 1) Dev.freeBuffer
/-- Data of a record read (R370): header and ciphertext as the drive gives them. -/
def Dev.recordRead (p : Packet) (data : List Byte) (d : Dev) : Reply × Dev :=
  let head := padTo 512 data
  let len := fieldAt head 40 8
  let ct := padTo (4096 * ((len + 4095) / 4096)) (data.drop 512)
  let fl := par p 50 1
  let chain := (head.drop 256).take 48
  let okH := padTo 48 (Config.sha384 ct) == (head.drop 112).take 48
  let okS := Config.ecdsaOk (Config.identityPub d.sec.idSecret) chain ((head.drop 304).take 96) && padTo 48 (Config.sha384 (head.take 256)) == chain
  let whole := if bitAt fl 1 then head
    else if bitAt fl 0 then (Config.xtsDecrypt d.sec.idSecret ((head.drop 56).take 16) (fieldAt head 20 2) (fieldAt head 8 8) ct).take len
    else ct
  let out := (whole.drop (par p 38 8)).take (par p 46 4)
  d.hostWrite p (par p 30 8) out (.done stOK (leBytes 4 (outLen p out.length) ++ leBytes 1 (flag (okH && !bitAt fl 1) + 2 * flag okS)))
/-- The list entry of a record header (R370). -/
def listEntry (head : List Byte) : List Byte := padTo 48 (head.drop 8) ++ padTo 16 (head.drop 256)
/-- The next header of a list is read, or the list is written to the host (R370). -/
def Dev.listStep (p : Packet) (ref : PktRef) (acc : List Byte) : List Nat → Dev → Dev
  | [], d =>
    let lastN := fieldAt (acc.drop (acc.length - 64)) 0 8
    let kind := par p 40 1
    let from_ := if acc.isEmpty then par p 22 8 else lastN + 1
    let nxt := ((d.recordsWith (fun e => decide (from_ ≤ e.num) && (kind == 0 || e.kind == kind))).head?).getD d.sto.next
    Dev.answer ref (d.hostWrite p (par p 32 8) acc (.done stOK (leBytes 2 (acc.length / 64) ++ leBytes 8 nxt)))
  | n :: ns, d =>
    match d.driveOf n with
    | some i => (d.pushOp i (.list p ref (n :: ns) acc)).nvme i 1 2 (auAt (((d.drive i).unitsOf n).headD 0)) (leBytes 8 4096)
    | none => Dev.listStep p ref acc ns d
/-- The next AU header of a list under HA_INDEX, or its end (R371). -/
def Dev.listAuStep (p : Packet) (ref : PktRef) (acc : List Byte) (todo : List (Nat × Nat)) (d : Dev) : Dev :=
  match todo with
  | [] => Dev.answer ref (d.hostWrite p (par p 32 8) acc (.done stOK (leBytes 2 (acc.length / 64) ++ zeros 8)))
  | (i, a) :: rest => (d.pushOp i (.listAus p ref ((i, a) :: rest) acc)).nvme i 1 2 (auAt a) (leBytes 8 4096)
/-- A failed write (R356): counted, retried once, then the drive fails. -/
def Dev.writeFailed (i num op : Nat) (bytes : List Byte) (retried : Bool) (status : Nat) (d : Dev) : Dev :=
  let d := d.count (STO_D_ERR.WRITE i) 1
  if retried then d.failDrive i status else (d.pushOp i (.write num op bytes true)).emit (.nvme i 1 op bytes)
/-- A command completes on a drive (R356, R364, R369, R370); status 0 is success. -/
def Dev.opDone (i : Nat) (op : NvOp) (status : Nat) (data : List Byte) (d : Dev) : Dev :=
  let ok := status == 0
  let bad := d.count (STO_D_ERR.READ i) 1
  match op with
  | .enable => if ok then
      let d := (d.set (STO_D_STATUS.STATE i) 2).set (STO_D_STATUS.QDEPTH i) (min 256 (fieldAt data 0 2 + 1))
      (d.pushOp i .identify).nvme i 0 6 0 []
    else d.failDrive i status
  | .identify => if ok then d.identified i data else d.failDrive i status
  | .queues => if ok then (d.set (STO_D_STATUS.QUEUES i) (min 8 (min (fieldAt data 0 2) (fieldAt data 2 2) + 1))).broughtUp i else d.failDrive i status
  | .headers => if ok then d.headersRead i data else bad.failDrive i status
  | .index => if ok then
      let d := d.setDrive i { d.drive i with aus := indexOf (d.drive i).n data }
      d.scanAu i (d.headOf i).1
    else bad.failDrive i status
  | .auHeader a => if ok then d.auRead i a (padTo 4096 data) else bad.scanned i a
  | .verify n => if ok then d.verified i n true data else bad.verified i n false []
  | .format => if ok then (d.wr (STO_D_WPTR i) 0).mounted i else (d.count (STO_D_ERR.WRITE i) 1).failDrive i status
  | .write n o b r => if ok then (if n = 0 then d else d.partWritten n) else d.writeFailed i n o b r status
  | .flush => if ok then d.flushAnswered i else d.failDrive i status
  | .readRecord n p ref => if ok then Dev.endRead ref (some n) (d.recordRead p data) else bad.abandon (.readRecord n p ref)
  | .readAu a p ref => if ok then
      let out := ((padTo 0x200000 data).drop (par p 38 8)).take (par p 46 4)
      Dev.endRead ref none (d.hostWrite p (par p 30 8) out (.done stOK (leBytes 4 (outLen p out.length))))
    else bad.abandon (.readAu a p ref)
  | .list p ref todo acc => if ok then Dev.listStep p ref (acc ++ listEntry ((padTo 1024 data).drop 512)) (todo.drop 1) d
    else bad.abandon (.list p ref todo acc)
  | .listAus p ref todo acc => if ok then d.listAuStep p ref (acc ++ padTo 64 (padTo 44 data ++ leBytes 1 ((todo.headD (0, 0)).1))) (todo.drop 1)
    else bad.abandon (.listAus p ref todo acc)
  | .deletion first last n ref => if ok then
      (d.transact [(0x0C, leBytes 8 first ++ leBytes 8 last ++ ((padTo 1024 data).drop 768).take 48)]).completeOpt ref stOK d.now (leBytes 4 n)
    else bad.abandon (.deletion first last n ref)
/-- NVME_COMMAND_COMPLETE: the `k`-th outstanding command of a drive completes (R356). -/
def Dev.nvmeComplete (i k status : Nat) (data : List Byte) (d : Dev) : Dev :=
  let x := d.drive i
  match x.ops[k]? with
  | none => d
  | some op => ((d.setDrive i { x with ops := x.ops.eraseIdx k }).opDone i op status data).storeSettle
/-- NVME_TIMEOUT (R356): during bring-up the drive fails; later the drive's controller is reset once and its commands are sent again, and
a second timeout within 10 s fails the drive. -/
def Dev.nvmeTimeout (i : Nat) (d : Dev) : Dev :=
  let x := d.drive i
  let training := d.dState i ≤ 1 && x.ops.isEmpty && (match d.sto.job with | some j => j.waiting.contains i | none => false)
  if x.ops.isEmpty && !training then d else
    let d := d.count32 (STO_D_TIMEOUT i) 1
    let again := match x.timeout with | some t => decide (d.now ≤ t + ns 10000000000) | none => false
    if d.dState i ≤ 2 || again then d.failDrive i 0xFFFF
    else
      let d := (d.setDrive i { x with timeout := some d.now }).nvme i 0 0x100 0 []
      d.forEach x.ops (fun o d => match o with | .write _ op b _ => d.emit (.nvme i 1 op b) | _ => d)
/-- ROOT_PORT_LINK (R356, R382): a trained link starts the drive's bring-up; a lost link makes the drive absent, and its records not yet
durable are lost. Links train only where the reference clock is driven. -/
def Dev.rootPortLink (i : Nat) (up : Bool) (speed width : Nat) (d : Dev) : Dev :=
  if up then
    if d.dState i ≠ 0 || !bitAt (d.get CLK_NVM_REFCLK.EN) i then d else
      let d := ((d.set (STO_D_STATUS.STATE i) 1).set (STO_D_LINK.SPEED i) speed).set (STO_D_LINK.WIDTH i) width
      let d : Dev := { d with sto := { d.sto with missing := d.sto.missing.erase i } }
      ((d.pushOp i .enable).nvme i 0 0x101 0 []).showStore
  else if d.dState i = 0 then d else
    let d := (((d.set (STO_D_STATUS.STATE i) 0).set (STO_D_LINK.SPEED i) 0).set (STO_D_LINK.WIDTH i) 0).loseDrive i
    let d : Dev := { d with sto := { d.sto with missing := d.sto.missing.erase i ++ [i] } }
    (((d.setDrive i Drive.reset).mountSettled i).storeSettle).showStore

/-- A mount or format takes up its drives (R369): ports that are down get their clock and leave reset (R501). -/
def Dev.startMount (op : Nat) (mask : List Nat) (ref : Option PktRef) (d : Dev) : Dev :=
  let d := d.set CLK_PLL.RUNNING (withBits (d.get CLK_PLL.RUNNING) 8 8 1)
  let fresh := mask.filter (fun i => !bitAt (d.get CLK_NVM_REFCLK.EN) i)
  let d := d.set CLK_NVM_REFCLK.EN (Nat.lor (d.get CLK_NVM_REFCLK.EN) (driveMask mask))
  let d := d.forEach fresh (fun i => Dev.emit (.pin "NVM_PERST_N" i true))
  let wait := mask.filter (fun i => let s := d.dState i; s ≤ 2 || s == 6 || s == 7 || (s == 3 && op == 2))
  let j : MountJob := ⟨op, mask, wait, ref⟩
  let d : Dev := { d with sto := { d.sto with job := some j, kept := [] } }
  if wait.isEmpty then d.mountDone j
  else d.forEach wait (fun i d => if d.dState i ≤ 2 then d else if op = 2 then (d.set (STO_D_STATUS.STATE i) 7).formatDrive i else d.readHeaders i)
/-- The store identity of a first format (R358, R443), and what a format resets. -/
def Dev.formatStore (d : Dev) : Dev :=
  let d := match d.sto.identity with
    | some _ => d
    | none =>
      let id := padTo 16 (Config.random d.sec.draws)
      let d : Dev := { d with sec := { d.sec with draws := d.sec.draws + 1 }, sto := { d.sto with identity := some id } }
      d.transact ((List.range 4).map (fun k => (0x0A, settingBody 0x1000 k (fieldAt id (4 * k) 4))))
  (({ d with sto := { d.sto with keyGen := 0, prev := zeros 48 } } : Dev).wr SEC_KEYGEN 0).transact [(0x0A, settingBody 0x1000 4 0)]
/-- An unmount flushes first, also when nothing is pending (R368). -/
def Dev.startUnmount (d : Dev) : Dev := if (d.drivesIn 3).isEmpty then d.unmountStep else d.storeGo
/-- 0x0601 MOUNT_STORE (R369, R370). -/
def opMountStore : Opcode :=
  { code := 0x0601, classes := fun p => if par p 22 1 = 2 then [2] else [], modes := fun _ => modeIn confSync,
    run := fun p ref d =>
      let op := par p 22 1
      let mask := (List.range 4).filter (bitAt (par p 23 1))
      if 2 < op || 16 ≤ par p 23 1 then (.bad stBAD_PARAMETER, d)
      else if d.sto.job.isSome || d.sto.unmounting.isSome then (.bad stBUSY, d)
      else if op = 1 then
        if !d.sto.flushNext.isEmpty || (match d.sto.flush with | some f => !f.refs.isEmpty | none => false) then (.bad stBUSY, d)
        else (.later, ({ d with sto := { d.sto with unmounting := some (mask, ref) } }).startUnmount)
      else if op = 2 && ((d.sto.writing ++ d.sto.written).any (fun r => mask.contains r.drive) || mask.any (fun i => !(d.drive i).ops.isEmpty)) then
        (.bad stBUSY, d)
      else (.later, (d.when (op == 2) Dev.formatStore).startMount op mask (some ref)) }
/-- 0x0602 READ_RECORD (R370). -/
def opReadRecord : Opcode :=
  { code := 0x0602, lMax := 0, classes := fun p => if bitAt (par p 50 1) 0 then [3] else [], modes := fun _ => modeIn confSync,
    run := fun p ref d =>
      let fl := par p 50 1
      if 8 ≤ fl then (.bad stBAD_PARAMETER, d)
      else if bitAt fl 2 then
        let i := par p 22 1
        let au := par p 24 4
        if 4 ≤ i || d.dState i ≠ 3 || (d.drive i).n ≤ au then (.bad stBAD_PARAMETER, d)
        else (.later, (d.pushOp i (.readAu au p ref)).nvme i 1 2 (auAt au) (leBytes 8 0x200000))
      else
        let n := par p 22 8
        match (if d.ha 7 then none else d.driveOf n) with
        | none => (.bad stBAD_PARAMETER, d)
        | some i =>
          let us := (d.drive i).unitsOf n
          if d.sto.writing.any (fun r => r.num == n) then (.bad stBAD_PARAMETER, d) else
            let d : Dev := { d with sto := { d.sto with pinned := d.sto.pinned ++ [n] } }
            let d := d.pushOp i (.readRecord n p ref)
            (.later, d.forEach us (fun a => Dev.nvme i 1 2 (auAt a) (leBytes 8 0x200000))) }
/-- 0x0603 LIST_RECORDS (R370, R371). -/
def opListRecords : Opcode :=
  { code := 0x0603, modes := fun _ => modeIn confSync,
    run := fun p ref d =>
      let kind := par p 40 1
      let mx := par p 30 2
      if 2 < kind then (.bad stBAD_PARAMETER, d)
      else if d.ha 7 then
        let aus := (d.drivesIn 3).flatMap (fun i => let x := d.drive i
          (List.range (min x.dws x.n)).map (fun k => (i, (d.rd (STO_D_WPTR i) + x.n - 1 - k) % max 1 x.n)))
        (.later, d.listAuStep p ref [] (aus.take mx))
      else
        let ns_ := (d.recordsWith (fun e => decide (par p 22 8 ≤ e.num) && (kind == 0 || e.kind == kind))).filter (fun n => !d.sto.writing.any (fun r => r.num == n))
        (.later, Dev.listStep p ref [] (ns_.take mx) d) }
/-- 0x0604 DELETE_RECORDS (R368, R370). -/
def opDeleteRecords : Opcode :=
  { code := 0x0604, classes := fun _ => [2], modes := fun _ => modeIn confSync,
    run := fun p ref d =>
      let a := par p 22 8
      let b := par p 30 8
      let held := bitAt (par p 38 1) 0
      if d.sto.pinned.any (fun n => a ≤ n && n ≤ b) then (.bad stBUSY, d)
      else
        let ns_ := if d.ha 7 then [] else d.recordsWith (fun e => decide (a ≤ e.num) && decide (e.num ≤ b) && (e.state == 2 || (held && e.state == 3)))
        if ns_.isEmpty then (.done stOK (leBytes 4 0), d) else (.later, d.deleteRecords ns_ (some ref)) }
/-- 0x0607 FLUSH_STORE (R364, R368, R370). -/
def opFlushStore : Opcode :=
  { code := 0x0607, modes := fun _ => modeIn confSync,
    run := fun _ ref d =>
      if d.sto.unmounting.isSome then (.bad stBUSY, d)
      else if (d.drivesIn 3).isEmpty then (.done stOK (leBytes 8 d.sto.headNum), d)
      else (.later, ({ d with sto := { d.sto with flushNext := d.sto.flushNext ++ [ref] } }).storeGo) }

/-- The latest `n` entries of a type. -/
def lastOf (n typ : Nat) (j : List LedgerEntry) : List LedgerEntry :=
  let es := j.filter (fun e => e.typ == typ)
  es.drop (es.length - n)
/-- Entries of a type, the latest for each key. -/
def lastPer (typ : Nat) (key : LedgerEntry → Nat) (j : List LedgerEntry) : List LedgerEntry :=
  (j.filter (fun e => e.typ == typ)).foldl (fun acc e => acc.filter (fun x => key x != key e) ++ [e]) []
/-- The latest complete set: the entries from the last part 0 on (R373). -/
def lastSet (typ : Nat) (j : List LedgerEntry) : List LedgerEntry :=
  (j.filter (fun e => e.typ == typ)).foldl (fun acc e => if e.part = 0 then [e] else acc ++ [e]) []
/-- The entries that compaction keeps (R373), in entry-sequence order. -/
def keptEntries (j : List LedgerEntry) : List LedgerEntry :=
  (lastOf 1 2 j ++ lastSet 3 j ++ lastOf 1024 4 j ++ lastOf 16384 5 j ++ lastOf 4096 6 j ++
    lastPer 7 (fun e => fieldAt e.body 0 1 * 65536 + fieldAt e.body 2 2) j ++ lastOf 1 8 j ++ lastOf 1 9 j ++
    lastPer 10 (fun e => fieldAt e.body 0 4) j ++ (lastPer 11 (fun e => fieldAt e.body 0 8) j).filter (fun e => fieldAt e.body 13 1 == 1) ++
    lastOf 4096 12 j).mergeSort (fun a b => a.seq ≤ b.seq)
/-- A compaction completes (R376, R379): the other area takes the kept entries as a snapshot and becomes active, the old one is retired. -/
def Dev.ledgerCompacted (d : Dev) : Dev :=
  match d.ledger.compacting with
  | none => d
  | some before =>
    let old := d.ledger.area
    let keep := keptEntries old.journal
    let gen := old.gen + 1
    let fresh : LedgerArea :=
      { gen := gen, created := d.now, firstSeq := ((keep.head?).map (·.seq)).getD d.ledger.nextSeq, snapshot := (keep.map (fun e => entryLen e.body)).sum
        committed := true, retired := false, journal := keep }
    let l := d.ledger.setArea { old with retired := true }
    let l := { l with active := 1 - l.active, compacting := none }
    let d : Dev := { d with ledger := l.setArea fresh }
    let d := ((d.set LDG_STATUS.ACTIVE_AREA d.ledger.active).set LDG_STATUS.VALID_A (flag (d.ledger.active == 0))).set LDG_STATUS.VALID_B (flag (d.ledger.active == 1))
    let d := ((d.set LDG_STATUS.COMPACTING 0).set LDG_STATUS.CONFLICT 0).cond condLEDGER_CONFLICT false
    ((d.wr64 LDG_GEN_LO gen).showLedger).post 0x1000 0x1007 (leBytes 8 gen ++ leBytes 1 before)
/-- 0x0605 COMPACT_LEDGER (R377, R379, R381). -/
def opCompactLedger : Opcode :=
  { code := 0x0605, classes := fun p => if par p 22 1 = 1 || par p 22 1 = 2 then [4] else [], modes := fun _ => modeIn confSync,
    run := fun p _ d =>
      let op := par p 22 1
      let conflict := d.on LDG_STATUS.CONFLICT
      if 2 < op then (.bad stBAD_PARAMETER, d)
      else if d.ledger.compacting.isSome then (.bad stBUSY, d)
      else if conflict = (op = 0) then (.bad stWRONG_MODE, d)
      else
        let l := if op = 0 then d.ledger else { d.ledger with active := op - 1 }
        let top := (l.area.journal.map (fun e => e.seq)).max?.getD 0
        let l := if op = 0 then l else { l with nextSeq := max l.nextSeq (top + 1) }
        let d : Dev := { d with ledger := { l with compacting := some (d.get LDG_FILL.PERCENT) } }
        (.done stACCEPTED [], d.set LDG_STATUS.COMPACTING 1) }
/-- An entry as READ_LEDGER returns it (R373, R381). -/
def readEntry (clear : Bool) (e : LedgerEntry) : List Byte :=
  let b := entryBytes e
  let whole := spliceAt b 12 (leBytes 4 (crc32c b))
  if e.typ = 3 && !clear then whole.take 16 ++ zeros (whole.length - 16) else whole
/-- Whole entries up to a number of bytes. -/
def fillEntries (clear : Bool) : Nat → List LedgerEntry → List Byte × Option Nat
  | _, [] => ([], none)
  | room, e :: es =>
    let b := readEntry clear e
    if room < b.length then ([], some e.seq) else
      let r := fillEntries clear (room - b.length) es
      (b ++ r.1, r.2)
/-- 0x0606 READ_LEDGER (R381). -/
def opReadLedger : Opcode :=
  { code := 0x0606, modes := fun _ => modeIn confSync,
    run := fun p _ d =>
      let area := par p 31 1
      let typ := par p 30 1
      if 2 < area then (.bad stBAD_PARAMETER, d)
      else
        let a := if area = 0 then d.ledger.area else if area = 1 then d.ledger.areaA else d.ledger.areaB
        let clear := hasFlag p 1 && (d.sec.sessions.any (fun x => x.sid == p.session.toNat && bitAt x.granted 4))
        let es := a.journal.filter (fun e => decide (par p 22 8 ≤ e.seq) && (typ == 0 || e.typ == typ))
        let r := fillEntries clear (par p 40 4) es
        d.hostWrite p (par p 32 8) r.1 (.done stOK (leBytes 4 (outLen p r.1.length) ++ leBytes 8 (r.2.getD d.ledger.nextSeq))) }

/-- RECORD_BUFFER_GRANT (R260, R361): the lowest unit with a record that waits is granted a buffer, and its record is sealed. -/
def Dev.grantBuffer (d : Dev) : Dev :=
  if d.get ACQ_POOL.FREE = 0 then d else
    match (List.range 16).find? (fun u => (d.capUnit u).records.any (fun r => !r.granted)) with
    | none => d
    | some u =>
      let c := d.capUnit u
      match c.records.findIdx? (fun r => !r.granted) with
      | none => d
      | some i =>
        let d := d.set ACQ_POOL.FREE (d.get ACQ_POOL.FREE - 1)
        let d := d.setCap u { c with records := c.records.modify i (fun r => { r with granted := true }) }
        d.sealRecord ⟨1, u, ((c.records[i]?).map (·.payload)).getD []⟩
/-- FLUSH_TIMER (R364): a flush starts while records are pending. -/
def Dev.flushTimer (d : Dev) : Dev :=
  if d.sto.flush.isSome || (d.sto.writing ++ d.sto.written).isEmpty || (d.drivesIn 3).isEmpty then d else d.startFlush []

/-- RECORD_BUFFER_GRANT. -/
def execRecordBufferGrant (s : State) : Answer := .next (s.onDev Dev.grantBuffer)
/-- NVME_COMMAND_COMPLETE: drive, which outstanding command, NVMe status (0 = success) and data read. -/
def execNvmeCommandComplete (i : Fin 4) (k status : Nat) (data : List Byte) (s : State) : Answer := .next (s.onDev (Dev.nvmeComplete i.val k status data))
/-- NVME_TIMEOUT. -/
def execNvmeTimeout (i : Fin 4) (s : State) : Answer := .next (s.onDev (Dev.nvmeTimeout i.val))
/-- FLUSH_TIMER. -/
def execFlushTimer (s : State) : Answer := .next (s.onDev Dev.flushTimer)
/-- MOUNT_STORE. -/
def execMountStore (p : Packet) (s : State) : Answer := .next (s.onDev (Dev.packet opMountStore p))
/-- READ_RECORD. -/
def execReadRecord (p : Packet) (s : State) : Answer := .next (s.onDev (Dev.packet opReadRecord p))
/-- LIST_RECORDS. -/
def execListRecords (p : Packet) (s : State) : Answer := .next (s.onDev (Dev.packet opListRecords p))
/-- DELETE_RECORDS. -/
def execDeleteRecords (p : Packet) (s : State) : Answer := .next (s.onDev (Dev.packet opDeleteRecords p))
/-- FLUSH_STORE. -/
def execFlushStore (p : Packet) (s : State) : Answer := .next (s.onDev (Dev.packet opFlushStore p))
/-- COMPACT_LEDGER. -/
def execCompactLedger (p : Packet) (s : State) : Answer := .next (s.onDev (Dev.packet opCompactLedger p))
/-- READ_LEDGER. -/
def execReadLedger (p : Packet) (s : State) : Answer := .next (s.onDev (Dev.packet opReadLedger p))
/-- LEDGER_COMPACTED. -/
def execLedgerCompacted (s : State) : Answer := .next (s.onDev Dev.ledgerCompacted)
/-- ROOT_PORT_LINK: whether the link is up, its generation (1 to 4) and width. -/
def execRootPortLink (i : Fin 4) (up : Bool) (speed width : Nat) (s : State) : Answer := .next (s.onDev (Dev.rootPortLink i.val up speed width))

end Sys2Proof.Machine
end

