-- ==== Sys2Proof/Machine/ModeChange.lean ====
section
/-! DEFINITION. Sys2Proof/Machine/ModeChange.lean: the transition itself (R45, R56, R57): the blocks' parts of Modes.lean in order,
then SYS_MODE, its cause and time, the PLLs, the pending request and MODE_CHANGE. -/
namespace Sys2Proof.Machine

/-- Modes in which capture and test go on: the synchronised modes and Service (R257). -/
def lineMode (m : Nat) : Bool := (decide (6 ≤ m) && decide (m ≤ 10)) || m == 11
/-- What the blocks do when the controller leaves mode `old` for `new`. -/
def Dev.modeHooks (old new : Nat) (d : Dev) : Dev :=
  let syncd := fun m => decide (6 ≤ m) && decide (m ≤ 10)
  let d := d.when (syncd old && !syncd new) (Dev.dropHeld stWRONG_MODE)
  let d := d.when (new == 5 || new == 6 || new == 7 || new == 8) Dev.closeScopes
  let d := d.when (new == 3) (Dev.endSessions 3)
  let d := d.when (new == 3 || new == 4) Dev.cancelOutputs
  let d := d.when (new == 3 || new == 4) Dev.leaveLine
  let d := d.when (!([6, 7, 8, 9, 11].contains new)) (Dev.forN 4 (fun u d => (d.endTrace u 4).dropStart u))
  let d := d.when (new != 6 && new != 7) (Dev.endIdent 1 [])
  let d := d.when (lineMode old && !lineMode new) (Dev.forN 16 Dev.disarm)
  let d := d.when (new == 8) (Dev.set LTM_STATUS.ORIGIN 0)
  let d := (d.when (new == 8) Dev.fbShadow).when (new == 3 || new == 4) (Dev.fbSettle true)
  d.when (new == 4 && old != 4 && d.on STO_CTRL.AUTO_MOUNT && d.sto.job.isNone && d.sto.unmounting.isNone) (Dev.startMount 0 [0, 1, 2, 3] none)

/-- MODE_CHANGE data (R56): modes, CAUSE, DETAIL, cycle of the boundary, and the tag of the request that is served. -/
def modeChangeData (new old cause detail : Nat) (bound : Option Nat) (req : Option PktRef) (ended : Bool) : List Byte :=
  leBytes 1 new ++ leBytes 1 old ++ leBytes 1 cause ++ leBytes 3 detail ++ leBytes 4 (bound.getD 0xFFFFFFFF) ++
    leBytes 2 ((req.map (·.tag)).getD 0) ++ leBytes 1 (flag req.isSome + 2 * flag (req.isSome && ended))

/-- The mode changes to `new` (R45, R56, R57). `bound` is the cycle count when it falls on a boundary, `more` says that a further step of
the pending request follows. -/
def Dev.enterMode (new cause detail : Nat) (bound : Option Nat) (more : Bool) (d : Dev) : Dev :=
  let old := d.mode
  let d := d.modeHooks old new
  let d := { d with sys := { d.sys with
    -- a Join that completes in Lockout has its cycle running and stays in line as from Ready (R44, R51)
    lockedFrom := if new = 9 && old ≠ 9 then (if old = 5 && d.cyc.running then 6 else old) else d.sys.lockedFrom
    dormantFrom := if new = 10 then old else d.sys.dormantFrom } }
  let d := (((d.set SYS_MODE.PREV_MODE old).set SYS_MODE.MODE new).set SYS_MODE_CAUSE.CAUSE cause).set SYS_MODE_CAUSE.DETAIL detail
  let d := (d.wr64 SYS_MODE_TIME_LO (d.now / 65536 % 2 ^ 64)).count32 SYS_TRANS_COUNT 1
  let d := ((d.runPlls new).runCores new).bringUpAll old
  let req := d.sys.request
  let done := match req with
    | some (t, _) => decide (new = t) || (decide (t = 7) && decide (new = 8)) || !more
    | none => false
  let ended := match req with
    | some (t, _) => !(decide (new = t) || (decide (t = 7) && decide (new = 8))) && !more
    | none => false
  let d := d.when done (fun d => Dev.set SYS_MODE.TRANSITION 0 { d with sys := { d.sys with request := none } })
  d.when (2 ≤ new) (Dev.post 0 1 (modeChangeData new old cause detail bound (req.map (·.2)) ended))

end Sys2Proof.Machine
end

