-- ==== Sys2Proof/Machine/SafetyOps.lean ====
section
/-! DEFINITION. Sys2Proof/Machine/SafetyOps.lean: the safety channels, safe inputs and outputs, seals, Nuardsafe connections, lockout and
deliberate reset (R317 to R354). The three channels run one program, so the model computes its result once; a command says which
channels delivered it (R318, R319). -/
namespace Sys2Proof.Machine

/-- A safe input. -/
def Dev.sin (d : Dev) (n : Nat) : SafeIn := smGet (fun _ => SafeIn.reset) d.saf.ins n
/-- Replace a safe input. -/
def Dev.setSin (n : Nat) (x : SafeIn) (d : Dev) : Dev := { d with saf := { d.saf with ins := smSet (fun _ => SafeIn.reset) d.saf.ins n x } }
/-- A safe output. -/
def Dev.sout (d : Dev) (n : Nat) : SafeOut := smGet (fun _ => SafeOut.reset) d.saf.outs n
/-- Replace a safe output. -/
def Dev.setSout (n : Nat) (x : SafeOut) (d : Dev) : Dev := { d with saf := { d.saf with outs := smSet (fun _ => SafeOut.reset) d.saf.outs n x } }
/-- A safety connection. -/
def Dev.conn (d : Dev) (c : Nat) : SafConn := smGet (fun _ => SafConn.reset) d.saf.conns c
/-- Replace a connection. -/
def Dev.setConn (c : Nat) (x : SafConn) (d : Dev) : Dev := { d with saf := { d.saf with conns := smSet (fun _ => SafConn.reset) d.saf.conns c x } }
/-- The active set, empty when there is none. -/
def Dev.safSet (d : Dev) : List Byte := d.saf.active.getD []
/-- Safe inputs that the active set enables. -/
def Dev.sinOn (d : Dev) (n : Nat) : Bool := d.saf.active.isSome && bitAt (fieldAt (inEntry d.safSet n) 0 1) 0
/-- Whether contact A or B is in its closed state (R322, R323). -/
def Dev.contactOk (d : Dev) (n : Nat) : Bool × Bool :=
  let x := d.sin n
  (x.a, if bitAt (fieldAt (inEntry d.safSet n) 0 1) 1 then !x.b else x.b)
/-- Input `n` reads closed (R323, R324, R349). -/
def Dev.readsClosed (d : Dev) (n : Nat) : Bool :=
  let x := d.sin n
  d.sinOn n && (d.contactOk n).1 && (d.contactOk n).2 && !x.faulted && !(bitAt (fieldAt (inEntry d.safSet n) 0 1) 2 && x.waiting)
/-- Connections that this controller uses (R340). -/
def Dev.usedConns (d : Dev) : List Nat :=
  match d.saf.active with
  | some set => (List.range (connCount set)).filter (fun c => bitAt (fieldAt (connEntry set c) 5 1) 3 == !d.sys.pairEnd)
  | none => []
/-- State of a connection (R353). -/
def Dev.connState (d : Dev) (c : Nat) : Nat := d.get (SAF_CONN_W0.STATE c)
/-- A signal of the safety logic (R333). -/
def Dev.signal64 (d : Dev) (k : Nat) : Bool :=
  if k < 8 then d.readsClosed k
  else if k = 8 then d.mode ≠ 9 && d.saf.active.isSome && d.get SAF_SEAL.READING = fieldAt d.safSet 2 2
  else if 16 ≤ k && k < 16 + mapCount d.safSet then
    let m := mapEntry d.safSet (k - 16)
    let c := fieldAt m 0 2
    d.connState c == 2 && !d.on (SAF_CONN_W0.FS_RX c) && bitAt (fieldAt (d.conn c).rx (fieldAt m 2 1) 1) (fieldAt m 3 1)
  else false
/-- A require mask is satisfied (R333). -/
def Dev.maskOk (d : Dev) (m : Nat) : Bool := (List.range 64).all (fun k => !bitAt m k || d.signal64 k)
/-- The controller drives its outputs (R327). -/
def Dev.driving (d : Dev) : Bool := [4, 5, 6, 7, 10, 11].contains d.mode
/-- A safety event and its log entry (R352, R354). -/
def Dev.safPost (code : Nat) (data : List Byte) (d : Dev) : Dev :=
  (d.transact [(6, leBytes 10 d.now ++ leBytes 2 code ++ leBytes 4 (d.rd SAF_CYCLE) ++ padTo 16 data)]).post 0x0C00 code data
/-- A demand arises (R349 counts the low period of SACK from it). -/
def Dev.demand (kind what : Nat) (d : Dev) : Dev :=
  ({ d with saf := { d.saf with lastDemand := d.now } }).safPost 0x0C01 (leBytes 1 kind ++ leBytes 2 what)
/-- A connection changes state (R340, R354). -/
def Dev.connTo (c st : Nat) (d : Dev) : Dev :=
  if d.connState c = st then d else (d.set (SAF_CONN_W0.STATE c) st).safPost 0x0C09 (leBytes 2 c ++ leBytes 1 st)
/-- A fault of a connection, or a lapse (R341). -/
def Dev.connFault (c : Nat) (d : Dev) : Dev :=
  if d.connState c = 3 then d.setConn c { d.conn c with fed := false }
  else ((d.setConn c { d.conn c with fault := true, fed := false, crcAt := [] }).connTo c 3).demand 1 c
/-- Whether any latch of R347 is in force. -/
def Dev.anyDemand (d : Dev) : Bool :=
  d.saf.hostDemand != 0 || (List.range 8).any (fun n => d.sinOn n && (d.sin n).faulted) || d.usedConns.any (fun c => (d.conn c).fault || (d.conn c).latch)
/-- The SAF view follows the safety state (R353). -/
def Dev.showSafety (d : Dev) : Dev :=
  let code := fieldAt d.safSet 2 2
  let match_ := d.saf.active.isSome && d.get SAF_SEAL.READING == code
  let d := ((d.set SAF_STATUS.LOCKOUT (flag (d.mode == 9))).set SAF_STATUS.DEMAND (flag d.anyDemand)).set SAF_STATUS.CAUSE
    ((d.saf.causes.min?).getD 0)
  let d := ((d.set SAF_STATUS.PARAM_ACTIVE (flag d.saf.active.isSome)).set SAF_STATUS.PARAM_PENDING (flag d.saf.pending.isSome)).set SAF_STATUS.SEAL_MATCH
    (flag match_)
  let d := (d.set SAF_STATUS.DRIVING (flag d.driving)).set SAF_STATUS.SACK_STUCK (d.get SAF_STATUS.SACK_STUCK)
  let d := ((d.set SAF_SEAL.EXPECTED code).set SAF_PARAM.ACTIVE_CODE code).set SAF_PARAM.PENDING_CODE (fieldAt (d.saf.pending.getD []) 2 2)
  let d := d.wr SAF_INPUTS (((List.range 8).map (fun n =>
    if d.sinOn n then (flag (d.sin n).a + 2 * flag (d.sin n).b + 4 * flag (d.readsClosed n) + 8 * flag (d.sin n).faulted) * 16 ^ n else 0)).sum)
  let d := d.set SAF_OUTPUTS.OUT (((List.range 4).map (fun n => let x := d.sout n
    (flag x.toggling + 2 * flag x.toggling + 4 * flag (1000 ≤ x.edges) + 8 * flag (2 ≤ x.badA || 2 ≤ x.badB)) * 16 ^ n)).sum)
  let us := d.usedConns
  (d.set SAF_CONN.USED us.length).set SAF_CONN.OPEN (us.countP (fun c => d.connState c == 2))
/-- Outputs go to their permitted state (R326, R327): an output that is not permitted is static, both pins low. -/
def Dev.driveOutputs (ok : Bool) (d : Dev) : Dev :=
  d.forN 4 (fun n d =>
    let e := outEntry d.safSet n
    let x := d.sout n
    let want := ok && d.saf.active.isSome && bitAt (fieldAt e 0 1) 0 && d.driving && d.maskOk (fieldAt e 8 8) && !(2 ≤ x.badA || 2 ≤ x.badB)
    if want == x.toggling then d
    else if want then d.setSout n { x with toggling := true, level := false, edges := 0, badA := 0, badB := 0 }
    else ((d.setSout n { x with toggling := false, level := false, edges := 0 }).emit (.pin "SOUT_A" n false)).emit (.pin "SOUT_B" n false))
/-- The PDU of R337. -/
def pduBytes (kind flags seq last wd seed : Nat) (data : List Byte) : List Byte :=
  let b := leBytes 1 kind ++ leBytes 1 flags ++ leBytes 2 seq ++ leBytes 2 last ++ leBytes 1 data.length ++ leBytes 1 wd ++ padTo 32 data ++ zeros 4
  b ++ leBytes 4 (crc32cFrom seed b)
/-- Whether this controller is the connection's controller end (R337); between controllers the lower index is (DESIGN CHOICE, notes/assumptions). -/
def Dev.controllerEnd (d : Dev) (c : Nat) : Bool :=
  let e := connEntry d.safSet c
  fieldAt e 4 1 != 2 || decide (d.sys.index < fieldAt e 10 1)
/-- CRC seed of a PDU this controller sends or receives on a connection (R337). -/
def Dev.pduSeed (d : Dev) (c : Nat) (own : Bool) : Nat :=
  let id := fieldAt (connEntry d.safSet c) 0 4
  if own == d.controllerEnd c then id else Nat.xor id 0xFFFFFFFF
/-- RUN of a connection (R333 to R341): its require mask, no latch, no lockout, and an SS1 not yet at its end. -/
def Dev.runOf (d : Dev) (c : Nat) : Bool :=
  let e := connEntry d.safSet c
  let x := d.conn c
  let ss1Over := match x.ss1 with
    | some t => decide (t + ns (fieldAt e 28 2 * 1000000) ≤ d.now) || bitAt (fieldAt x.rx 0 1) 1
    | none => false
  d.connState c == 2 && d.mode != 9 && !x.fault && !x.latch && !x.restart && d.saf.hostDemand != 1 && !ss1Over && d.maskOk (fieldAt e 16 8)
/-- The first safe data byte of a connection (R335). -/
def Dev.safeByte (d : Dev) (c : Nat) (run ack : Bool) : Nat :=
  let e := connEntry d.safSet c
  let want := fun o => let k := fieldAt e o 1; k != 0xFF && !d.signal64 k
  flag run + 2 * flag (d.conn c).ss1.isSome + 4 * flag (want 24) + 8 * flag (want 25) + 16 * flag (want 26) + 32 * flag (want 27) + 128 * flag ack
/-- An acknowledge to pass on (R335): SACK low, or the ACK of an acknowledge master. -/
def Dev.ackNow (d : Dev) : Bool :=
  d.on SAF_STATUS.SACK_LOW || d.usedConns.any (fun c => bitAt (fieldAt (connEntry d.safSet c) 5 1) 1 && d.connState c == 2 && bitAt (fieldAt (d.conn c).rx 0 1) 7)
/-- Whether a connection is to be opened now (R340). -/
def Dev.opensNow (d : Dev) (c : Nat) : Bool :=
  let e := connEntry d.safSet c
  let addr := fieldAt e 8 3
  if fieldAt e 4 1 = 1 then d.on (NLS_POS_W2.PRESENT (addr / 4096 % 16) (addr % 64)) && decide (5 ≤ d.mode) else true
/-- A connection's PDU of a safety cycle (R318, R335, R338, R340): an open request while it opens, data after that. -/
def Dev.connCycle (ok : Bool) (c : Nat) (d : Dev) : Dev :=
  let e := connEntry d.safSet c
  let here := d.opensNow c
  let x := d.conn c
  let d := if d.connState c = 0 && here && !x.opened then
      (d.setConn c { x with opened := true, restart := !bitAt (fieldAt e 5 1) 0, confirmed := 0, fed := false }).connTo c 1
    else if !here && x.opened && d.connState c = 0 then d.setConn c { x with opened := false } else d
  let st := d.connState c
  let x := { d.conn c with seq := ((d.conn c).seq + 1) % 65536 }
  let d := d.setConn c { x with ss1 := if d.saf.hostDemand = 2 then some (x.ss1.getD d.now) else none }
  let was := d.on (SAF_CONN_W0.RUN c)
  let run := ok && d.runOf c
  let d := (d.set (SAF_CONN_W0.RUN c) (flag run)).set (SAF_CONN_W0.GOVERNING c) (flag (d.permit || d.get MIR_STATUS.ROLE == 0))
  let fs := !ok || d.mode == 9 || (d.conn c).fault
  let wd := fieldAt e 6 2
  let last := d.get (SAF_CONN_W0.SEQ_RX c)
  let pdu := if st = 0 then []
    else if st = 1 then pduBytes 2 0 x.seq last wd (d.pduSeed c true) (leBytes 2 (fieldAt d.safSet 2 2) ++ leBytes 2 wd)
    else if fs then pduBytes 1 (1 + 2 * flag (d.conn c).fault) x.seq last wd (d.pduSeed c true) (zeros 2)
    else pduBytes 1 0 x.seq last wd (d.pduSeed c true) (leBytes 1 (d.safeByte c run d.ackNow) ++ [0])
  let d := d.setConn c { d.conn c with tx := pdu }
  let onCan := fun k => fieldAt (connEntry d.safSet k) 4 1 == 3 && fieldAt (connEntry d.safSet k) 11 1 == fieldAt e 11 1
  let d := if fieldAt e 4 1 = 3 && st ≠ 0 then d.canPdu (fieldAt e 11 1) ((d.usedConns.filter onCan).idxOf c) (fieldAt e 12 4) pdu else d
  -- RUN falls: a stop demand of the connection's groups, except in Lockout (R336)
  d.when (was && !run && d.mode != 9 && d.permit && d.sync && fieldAt e 30 2 != 0) (Dev.logInput 0x01 68 (.stopGroup (fieldAt e 30 2) false 3 0xFFFF) none)
/-- A lockout cause arises (R50, R348): it is written to the ledger before the mode changes; outputs go static. -/
def Dev.lockout (cause : Nat) (d : Dev) : Dev :=
  let known := d.saf.causes.contains cause
  let causes := if known then d.saf.causes else d.saf.causes ++ [cause]
  let d : Dev := { d with saf := { d.saf with causes := causes, lastDemand := if known then d.saf.lastDemand else d.now } }
  let lockable := [4, 5, 6, 7, 8, 10, 11].contains d.mode
  if lockable then
    let from_ := d.mode
    let d := (d.transact [(8, leBytes 1 1 ++ leBytes 1 cause)]).safPost 0x0C03 (leBytes 1 cause)
    let d := (d.disableAll.dropLineActs stSAFETY_LOCKED).when (from_ == 5 || from_ == 11) Dev.leaveLine
    let d : Dev := { d with saf := { d.saf with exitDue := false } }
    let d := d.enterMode 9 0x0C cause none false
    (d.driveOutputs false).showSafety
  else if d.mode = 9 && !known then
    let d : Dev := { d.dropLineActs stSAFETY_LOCKED with saf := { d.saf with exitDue := false } }
    ((d.transact [(8, leBytes 1 1 ++ leBytes 1 cause)]).safPost 0x0C03 (leBytes 1 cause)).showSafety
  else d
/-- A cause's condition has gone (R348). -/
def Dev.causeGone (cause : Nat) (d : Dev) : Dev :=
  { d with saf := { d.saf with causes := d.saf.causes.filter (fun x => x != cause) } }
/-- A safety channel fails (R320). -/
def Dev.failChannel (n reason : Nat) (d : Dev) : Dev :=
  if d.get (SAF_CH.STATE n) = 2 then d else
    let d := d.set (SAF_CH.STATE n) 2
    let d := (d.set SAF_STATUS.CH_ACTIVE (withBits (d.get SAF_STATUS.CH_ACTIVE) n n 0)).set SAF_STATUS.CH_FAILED (withBits (d.get SAF_STATUS.CH_FAILED) n n 1)
    d.safPost 0x0C02 (leBytes 1 n ++ leBytes 1 reason)
/-- What the vote of R319 finds: the result holds, or a lockout cause. `rs` gives per channel none for an invalid result, some true for the
program's result, some false for a different one. -/
def vote (active : List Nat) (rs : List (Option Bool)) : Option Nat :=
  let good := active.countP (fun n => (rs[n]?).getD none == some true)
  if active.length ≤ 1 then some 2
  else if active.length = 2 then (if good = 2 then none else some 3)
  else if 2 ≤ good then none else some 1
/-- Lockout ends by a deliberate reset of this safety cycle (R45, R51): the ledger record is cleared, and the exit follows the mode that Lockout was
entered from. -/
def Dev.endLockout (d : Dev) : Dev :=
  if !d.saf.exitDue then d else
    let d : Dev := { d with saf := { d.saf with exitDue := false } }
    if d.mode ≠ 9 || !d.saf.causes.isEmpty then d else
      let d := d.transact [(8, leBytes 1 0 ++ leBytes 1 0)]
      if d.sys.lockedFrom = 10 then (d.logInput 0x01 68 (.wake d.now) none).startWake
      else if d.cyc.running then d.enterMode 6 0x0D 0 none false
      else d.enterMode 4 0x0D 0 none false
/-- The stuck condition of SACK ends once SACK has been high for 1 s (R347): `low` is its level now. -/
def Dev.sackRest (low : Bool) (d : Dev) : Dev :=
  match d.saf.stuckEnd with
  | some t =>
    if t + ns 1000000000 ≤ d.now then ({ d with saf := { d.saf with stuckEnd := none } } : Dev).set SAF_STATUS.SACK_STUCK 0
    else if low then { d with saf := { d.saf with stuckEnd := none } } else d
  | none => d
/-- Outputs that the active set enables (R330). -/
def Dev.soutsOn (d : Dev) : List Nat := (List.range 4).filter (fun n => d.saf.active.isSome && bitAt (fieldAt (outEntry d.safSet n) 0 1) 0)
/-- A path of this controller is proved now (R310). -/
def Dev.prove (p : Nat) (d : Dev) : Dev :=
  Dev.wr64 (MIR_PROOF_LO p) (d.now / 65536 % 2 ^ 64) { d with mir := { d.mir with failed := d.mir.failed.filter (· ≠ p) } }
/-- Proof 16 is renewed once every configured output has passed its readback test while the permit is held (R310, R328); at once where none is
configured (DEDUCED). -/
def Dev.proveOutputs (d : Dev) : Dev := d.when (d.permit && d.soutsOn.all (fun k => decide (1000 ≤ (d.sout k).edges))) (Dev.prove 16)
/-- SAFETY_CYCLE (R318 to R321): results are voted, failed channels drop out, outputs and connections follow. -/
def Dev.safetyCycle (rs : List (Option Bool)) (osc : List Int) (vdd : List (BitVec 8)) (sackLow : Bool) (d : Dev) : Dev :=
  if d.mode < 2 || d.get SAF_STATUS.CH_ACTIVE + d.get SAF_STATUS.CH_FAILED = 0 then d else
    let d := ((d.wr SAF_CYCLE ((d.rd SAF_CYCLE + 1) % 2 ^ 32)).sackRest sackLow).set SAF_STATUS.SACK_LOW (flag sackLow)
    let active := (List.range 3).filter (fun n => d.get (SAF_CH.STATE n) != 2)
    let out := vote active rs
    let r := fun n => (rs[n]?).getD none
    -- with a common result of three, a channel whose result is invalid or different dissents
    let dissents := active.filter (fun n => out.isNone && active.length == 3 && r n != some true)
    let d := d.count SAF_VOTE_CNT.DISSENT dissents.length
    let d := d.count SAF_VOTE_CNT.INVALID (active.countP (fun n => (r n).isNone))
    let runs := (List.range 3).map (fun n => if dissents.contains n then (d.saf.dissent[n]?).getD 0 + 1 else 0)
    let d : Dev := { d with saf := { d.saf with dissent := runs } }
    let d := d.forEach active (fun n d => d.set (SAF_CH.STATE n) (flag (dissents.contains n)))
    let d := d.forN (min 3 osc.length) (fun n d => d.set (SAF_CH.OSC_DEV n) (codeOf 16 ((osc[n]?).getD 0)))
    let d := d.forN (min 3 vdd.length) (fun n d => d.set (SAF_CH.VDD n) ((vdd[n]?).getD 0).toNat)
    -- 0.8 V ± 5 % is 0.76 V to 0.84 V, codes 32 to 48
    let badV := fun n => match vdd[n]? with | some v => v.toNat < 32 || 48 < v.toNat | none => false
    let d := d.forEach active (fun n d =>
      if 2 ≤ (runs[n]?).getD 0 then d.failChannel n 0
      else if badV n then d.failChannel n 1
      else if 200 < ((osc[n]?).getD 0).natAbs then d.failChannel n 2 else d)
    let d := match out with
      | none => (d.causeGone 1).causeGone 3
      | some c => d.lockout c
    -- a cause that arose where Lockout could not be entered is acted on now
    let d := match d.saf.causes.head? with
      | some x => if d.mode = 9 then d else d.lockout x
      | none => d
    let d := d.endLockout
    let ok := out.isNone && d.mode != 9
    let d := d.forEach d.usedConns (Dev.connCycle ok)
    ((d.driveOutputs ok).when (d.soutsOn.isEmpty) Dev.proveOutputs).showSafety
/-- SAFE_INPUT_SAMPLE (R323, R325): levels of the A and B contacts; a contact whose source is in its test-pulse mask is not taken. -/
def Dev.inputSample (a b : Nat) (d : Dev) : Dev :=
  let masked := fun k => d.saf.masks.any (fun m => m.1 == k && decide (d.now < m.2))
  let d := d.forN 8 (fun n d =>
    if !d.sinOn n then d else
      let e := inEntry d.safSet n
      let was := d.readsClosed n
      let x := d.sin n
      let mA := masked (fieldAt e 1 1)
      let mB := masked (fieldAt e 2 1)
      let vA := bitAt a n
      let vB := bitAt b n
      let x := if mA then x else { x with rawA := vA, a := if vA == x.rawA then vA else x.a }
      let x := if mB then x else { x with rawB := vB, b := if vB == x.rawB then vB else x.b }
      let d := d.setSin n x
      let okc := d.contactOk n
      let d := d.when (x.faulted && !okc.1 && !okc.2) (Dev.setSin n { x with bothOpen := true })
      if was && !d.readsClosed n then
        (d.setSin n { d.sin n with waiting := true }).demand 0 n
      else d)
  d.showSafety
/-- An input becomes FAULTED (R324, R325). -/
def Dev.inputFault (n reason : Nat) (d : Dev) : Dev :=
  if (d.sin n).faulted then d else
    let was := d.readsClosed n
    let d := (d.setSin n { d.sin n with faulted := true, bothOpen := false, waiting := true }).safPost 0x0C05 (leBytes 1 n ++ leBytes 1 reason)
    (d.when was (Dev.demand 0 n)).showSafety
/-- DISCREPANCY_TIMEOUT (R324): the contacts still differ. -/
def Dev.discrepancy (n : Nat) (d : Dev) : Dev :=
  if d.sinOn n && (d.contactOk n).1 != (d.contactOk n).2 then
    -- contacts that do not close together in time must be seen open together again
    if (d.sin n).faulted then d.setSin n { d.sin n with bothOpen := false } else d.inputFault n 0
  else d
/-- TEST_PULSE (R325): source `k` pulses low; the levels of its contacts 50 µs later. -/
def Dev.testPulse (k a b : Nat) (d : Dev) : Dev :=
  if d.saf.active.isNone then d else
    let w := fieldAt d.safSet 16 2
    let d : Dev := { d with saf := { d.saf with masks := (d.saf.masks.filter (fun m => m.1 != k)) ++ [(k, d.now + ns ((w + 50) * 1000))] } }
    let d := (d.emit (.pin "STP" k false)).emit (.pin "STP" k true)
    d.forN 8 (fun n d =>
      let e := inEntry d.safSet n
      if !d.sinOn n then d
      else if fieldAt e 1 1 = k && bitAt a n then d.inputFault n 1
      else if fieldAt e 2 1 = k && bitAt b n then d.inputFault n 2 else d)
/-- OUTPUT_READBACK (R328): the edge of a toggling output and the levels read 5 µs later, or the static levels of an output that is off. -/
def Dev.readback (n : Nat) (a b : Bool) (d : Dev) : Dev :=
  if d.saf.active.isNone || !bitAt (fieldAt (outEntry d.safSet n) 0 1) 0 then d else
    let x := d.sout n
    let lv := if x.toggling then !x.level else false
    let d := if x.toggling then (d.emit (.pin "SOUT_A" n lv)).emit (.pin "SOUT_B" n (!lv)) else d
    let wrongA := a != lv
    let wrongB := b != (x.toggling && !lv)
    let badA := if wrongA then x.badA + 1 else 0
    let badB := if wrongB then x.badB + 1 else 0
    let lim := if x.toggling then 2 else 1
    let d := d.setSout n { x with level := lv, edges := if wrongA || wrongB || !x.toggling then 0 else x.edges + 1, badA := badA, badB := badB }
    if lim ≤ badA || lim ≤ badB then
      let d := d.setSout n { d.sout n with badA := if lim ≤ badA then 2 else badA, badB := if lim ≤ badB then 2 else badB }
      ((d.safPost 0x0C06 (leBytes 1 n ++ leBytes 1 (flag (!(lim ≤ badA : Bool))))).lockout 5).showSafety
    else
      d.proveOutputs.showSafety
/-- A set in force starts with its connections closed and its inputs not sampled. -/
def Dev.activateSet (d : Dev) : Dev :=
  match d.saf.pending with
  | none => d
  | some set =>
    let old := fieldAt d.safSet 2 2
    let d := d.forEach d.usedConns (fun c d => (d.wr (SAF_CONN_W0 c) 0).wr (SAF_CONN_W1 c) 0)
    let d : Dev := { d with saf := { d.saf with active := some set, pending := none, conns := [], ins := [], masks := [] } }
    let d := (d.transact [(3, set)]).safPost 0x0C08 (leBytes 2 (fieldAt set 2 2) ++ leBytes 2 old)
    (d.causeGone 4).driveOutputs false
/-- The seals are held against the codes (R332). -/
def Dev.sealCheck (d : Dev) : Dev :=
  let r := d.get SAF_SEAL.READING
  let d := match d.saf.pending with
    | some set => if fieldAt set 2 2 = r then d.activateSet else d
    | none => d
  match d.saf.active with
  | none => d
  | some set =>
    if fieldAt set 2 2 = r then d.causeGone 4
    else
      let held := d.saf.causes.contains 4
      (d.when (!held) (Dev.safPost 0x0C07 (leBytes 2 r ++ leBytes 2 (fieldAt set 2 2)))).lockout 4
/-- SEAL_READ (R332): two reads 10 ms apart count when they agree. -/
def Dev.sealRead (r1 r2 : Nat) (d : Dev) : Dev :=
  if d.mode < 2 || r1 ≠ r2 then d else ((d.set SAF_SEAL.READING r1).sealCheck).showSafety
/-- A confirmation or node fault latches RUN = 0 (R334). -/
def Dev.latchRun (c kind : Nat) (d : Dev) : Dev :=
  if (d.conn c).latch then d else (d.setConn c { d.conn c with latch := true }).demand kind c
/-- Functions requested on a connection, as bits of the status byte that confirms them (R334). -/
def Dev.requested (d : Dev) (c : Nat) : Nat :=
  let e := connEntry d.safSet c
  let want := fun o => let k := fieldAt e o 1; k != 0xFF && !d.signal64 k
  flag (!d.on (SAF_CONN_W0.RUN c)) + 4 * flag (want 24) + 8 * flag (want 25) + 16 * flag (want 26) + 32 * flag (want 27)
/-- An accepted data PDU (R334, R335, R338). -/
def Dev.pduData (c flags : Nat) (data : List Byte) (d : Dev) : Dev :=
  let fs := bitAt flags 0
  let data := if fs then zeros 32 else padTo 32 data
  let d := (d.set (SAF_CONN_W0.FS_RX c) (flag fs)).setConn c { d.conn c with rx := data, fed := true }
  if fieldAt (connEntry d.safSet c) 4 1 ≠ 1 || fs then d else
    let st := fieldAt data 0 1
    let d := d.when (bitAt st 6) (Dev.latchRun c 4)
    let req := d.requested c
    let x := d.conn c
    -- SLS and SDI are monitored continuously once confirmed
    let lost := [4, 5].any (fun b => bitAt req b && bitAt x.confirmed b && !bitAt st b)
    let d := d.setConn c { x with confirmed := Nat.land req (Nat.lor x.confirmed st) }
    d.when lost (Dev.latchRun c 3)
/-- A trunk PDU of a connection of the set that another controller uses goes on unaltered in the next safety slot of the trunk that leads to its receiver
(R342). The row names the connection. The seed that its CRC fits tells the direction (R337): from the controller end, which has the lower index, it goes
on by the trunk towards the higher indices. -/
def Dev.forwardPdu (c : Nat) (bs : List Byte) (d : Dev) : Dev :=
  let e := connEntry d.safSet c
  if connCount d.safSet ≤ c || fieldAt e 4 1 ≠ 2 || bs.length ≠ 48 then d else
    let fits := fun (seed : Nat) => crc32cFrom seed (bs.take 44) == fieldAt bs 44 4
    let put := fun (n : Nat) => d.setPort n { d.port n with forward := putKey c bs (d.port n).forward }
    if fits (fieldAt e 0 4) then put 9 else if fits (Nat.xor (fieldAt e 0 4) 0xFFFFFFFF) then put 8 else d
/-- PDU_RECEIVED (R337, R338, R340 to R342). -/
def Dev.pduReceived (c : Nat) (bs : List Byte) (d : Dev) : Dev :=
  if !d.usedConns.contains c then d.forwardPdu c bs else
    let e := connEntry d.safSet c
    let st := d.connState c
    if bs.length ≠ 48 || crc32cFrom (d.pduSeed c false) (bs.take 44) ≠ fieldAt bs 44 4 then
      let d := d.count (SAF_CONN_W1.CRC_ERR c) 1
      let x := d.conn c
      let recent := (x.crcAt.filter (fun t => decide (d.now < t + ns 1000000000))) ++ [d.now]
      let d := d.setConn c { x with crcAt := recent }
      (d.when (decide (10 < recent.length) && st != 0) (Dev.connFault c)).showSafety
    else
      let kind := fieldAt bs 0 1
      let seq := fieldAt bs 2 2
      let data := (bs.drop 8).take (min 32 (fieldAt bs 6 1))
      let same := fieldAt data 0 2 == fieldAt d.safSet 2 2 && fieldAt data 2 2 == fieldAt e 6 2
      let d := match kind with
        | 1 => if st = 2 || st = 3 then
            let diff := (seq + 65536 - d.get (SAF_CONN_W0.SEQ_RX c)) % 65536
            if diff = 0 then d
            else if diff ≤ 16 then (d.set (SAF_CONN_W0.SEQ_RX c) seq).pduData c (fieldAt bs 1 1) data
            else d.connFault c
          else d
        | 2 => if fieldAt e 4 1 = 1 then d
          else if same then
            let x := d.conn c
            let d := d.setConn c { x with tx := pduBytes 3 0 x.seq seq (fieldAt e 6 2) (d.pduSeed c true) data }
            (d.set (SAF_CONN_W0.SEQ_RX c) seq).connTo c (if (d.conn c).fault then 3 else 2)
          else d.connFault c
        | 3 => if st ≠ 1 then d else if same then (d.set (SAF_CONN_W0.SEQ_RX c) seq).connTo c (if (d.conn c).fault then 3 else 2) else d.connFault c
        | 4 => if st = 0 then d else (d.set (SAF_CONN_W0.RUN c) 0).connTo c 0
        | _ => d
      d.showSafety
/-- SAFETY_WATCHDOG_LAPSE (R338, R341). -/
def Dev.watchdogLapse (c : Nat) (d : Dev) : Dev := if d.usedConns.contains c && d.connState c = 2 then (d.connFault c).showSafety else d
/-- CONFIRMATION_TIMEOUT (R334): a function requested on a node connection is not confirmed within T_CONF; `b` is its status bit. -/
def Dev.confirmTimeout (c b : Nat) (d : Dev) : Dev :=
  if d.usedConns.contains c && fieldAt (connEntry d.safSet c) 4 1 = 1 && 2 ≤ d.connState c && bitAt (d.requested c) b &&
      !bitAt (fieldAt (d.conn c).rx 0 1) b then (d.latchRun c 3).showSafety else d
/-- What a deliberate reset releases (R324, R341, R347, R349). -/
def Dev.releaseLatches (d : Dev) : Dev :=
  let d := d.forN 8 (fun n d =>
    let x := d.sin n
    let okc := d.contactOk n
    if !d.sinOn n then d
    else if x.faulted then (if x.bothOpen && okc.1 && okc.2 then d.setSin n { x with faulted := false, bothOpen := false, waiting := false } else d)
    else if okc.1 && okc.2 then d.setSin n { x with waiting := false } else d)
  let d := d.forEach d.usedConns (fun c d =>
    let x := d.conn c
    let x := { x with latch := x.latch && bitAt (fieldAt x.rx 0 1) 6, restart := if d.connState c = 2 || x.fed then false else x.restart }
    if x.fault && x.fed then
      let d := d.setConn c { x with fault := false }
      d.when (d.connState c == 3) (Dev.connTo c 2)
    else d.setConn c x)
  { d with saf := { d.saf with hostDemand := 0 } }
/-- A deliberate reset (R45, R51, R349): Lockout ends with the safety cycle when no cause holds and the seal reading matches. -/
def Dev.deliberateReset (kind conn : Nat) (d : Dev) : Dev :=
  let d := d.releaseLatches.safPost 0x0C04 (leBytes 1 kind ++ leBytes 2 conn)
  let match_ := d.saf.active.isSome && d.get SAF_SEAL.READING = fieldAt d.safSet 2 2
  let free := d.mode = 9 && d.saf.causes.isEmpty && match_
  ({ d with saf := { d.saf with exitDue := d.saf.exitDue || free } } : Dev).showSafety
/-- SACK_RELEASE (R347, R349): SACK, or the ACK bit of the acknowledge master connection, is released after a low period that began at
`lowAt`. It must have lasted 0.5 to 5 s, have begun after the last demand or cause, and SACK must not be stuck. -/
def Dev.sackRelease (conn : Option Nat) (lowAt : LTime) (d : Dev) : Dev :=
  if d.mode < 2 then d else
    let long := ns 500000000 ≤ d.now - lowAt && d.now - lowAt ≤ ns 5000000000
    let fresh := decide (d.saf.lastDemand < lowAt) || d.saf.lastDemand == 0
    match conn with
    | some c =>
      if d.usedConns.contains c && bitAt (fieldAt (connEntry d.safSet c) 5 1) 1 && d.connState c = 2 && long && fresh then d.deliberateReset 1 c else d
    | none =>
      let d := d.set SAF_STATUS.SACK_LOW 0
      let stuck := d.on SAF_STATUS.SACK_STUCK
      let past := match d.saf.stuckEnd with | some t => decide (t + ns 1000000000 ≤ lowAt) | none => false
      if stuck && !past then { d with saf := { d.saf with stuckEnd := some d.now } }
      else
        let d : Dev := ({ d with saf := { d.saf with stuckEnd := none } } : Dev).set SAF_STATUS.SACK_STUCK 0
        if long && fresh then d.deliberateReset 0 0 else d
/-- SACK_STUCK (R347). -/
def Dev.sackStuck (d : Dev) : Dev :=
  if d.mode < 2 || d.on SAF_STATUS.SACK_STUCK then d else
    ((({ d with saf := { d.saf with stuckEnd := none } } : Dev).set SAF_STATUS.SACK_STUCK 1).set SAF_STATUS.SACK_LOW 1).safPost 0x0C0A []

/-- 0x0701 LOAD_SAFETY_PARAMETERS (R330 to R332, R343, R352). -/
def opLoadSafety : Opcode :=
  { code := 0x0701, classes := fun _ => [1], modes := fun _ => modeIn confSync,
    run := fun p _ d =>
      let n := par p 30 4
      if 65536 < n then (.bad stBAD_LENGTH, d)
      else d.hostRead p n (fun b d =>
        if !setOk b then (.bad stBAD_PARAMETER, d)
        else match safetyFail b (d.lget MIR_CTRL.LEASE) d.safetyGens with
          | some r => (.done stCONSISTENCY (ruleResult r.1 r.2), d)
          | none =>
            let d : Dev := { d with saf := { d.saf with pending := some b } }
            (.done stOK (leBytes 2 (fieldAt b 2 2)), d.showSafety)) }
/-- 0x0702 GET_SAFETY_STATUS (R352): also in Sealed. -/
def opGetSafety : Opcode :=
  { code := 0x0702, modes := fun _ => modeIn fromSealed,
    run := fun _ _ d =>
      let mask := fun (f : Nat → Bool) (n : Nat) => ((List.range n).map (fun k => if f k then 2 ^ k else 0)).sum
      (.done stOK (leBytes 4 (d.rd SAF_STATUS) ++ leBytes 2 (d.get SAF_PARAM.ACTIVE_CODE) ++ leBytes 2 (d.get SAF_PARAM.PENDING_CODE) ++
        leBytes 2 (d.get SAF_SEAL.READING) ++ leBytes 1 (mask d.readsClosed 8) ++ leBytes 1 (mask (fun n => d.sinOn n && (d.sin n).faulted) 8) ++
        leBytes 1 (mask (fun n => (d.sout n).toggling) 4) ++ leBytes 1 (mask (fun n => 2 ≤ (d.sout n).badA || 2 ≤ (d.sout n).badB) 4) ++
        leBytes 2 (d.usedConns.countP (fun c => !d.on (SAF_CONN_W0.RUN c)))), d) }
/-- 0x0703 REQUEST_SAFE_STOP (R347, R352). -/
def opSafeStop : Opcode :=
  { code := 0x0703, modes := fun _ d => if d.mode = 3 || d.saf.active.isNone then stWRONG_MODE else modeIn butSealed d,
    run := fun p _ d =>
      let f := par p 22 1
      if f ≠ 1 && f ≠ 2 then (.bad stBAD_PARAMETER, d)
      else
        let d : Dev := { d with saf := { d.saf with hostDemand := if d.saf.hostDemand = 1 then 1 else f } }
        (.done stOK [], (d.demand 2 0).showSafety) }
/-- 0x0704 OPEN_SAFETY_CONNECTION (R340, R352). -/
def opOpenConn : Opcode :=
  { code := 0x0704, modes := fun _ => modeIn [5, 6, 7, 8, 9, 10, 11],
    run := fun p _ d =>
      let c := par p 22 2
      if !d.usedConns.contains c then (.bad stBAD_PARAMETER, d)
      else
        let d := d.setConn c { d.conn c with opened := true, restart := !bitAt (fieldAt (connEntry d.safSet c) 5 1) 0, confirmed := 0 }
        (.done stACCEPTED [], ((d.set (SAF_CONN_W0.RUN c) 0).connTo c 1).showSafety) }
/-- 0x0705 READ_SAFETY_LOG (R352): entries carry the sequence of their ledger entry. -/
def opReadSafetyLog : Opcode :=
  { code := 0x0705, modes := fun _ => modeIn butSealed,
    run := fun p _ d =>
      let k := par p 26 2
      if k = 0 || 1024 < k then (.bad stBAD_PARAMETER, d)
      else
        -- the log keeps the latest 4,096 entries
        let all := d.ledger.area.journal.filter (fun e => e.typ == 6)
        let es := (all.drop (all.length - 4096)).filter (fun e => decide (par p 22 4 ≤ e.seq))
        let out := es.take k
        let nxt := ((es[k]?).map (·.seq)).getD d.ledger.nextSeq
        d.hostWrite p (par p 28 8) (out.flatMap (fun e => padTo 32 e.body)) (.done stOK (leBytes 2 out.length ++ leBytes 4 nxt)) }

/-- SAFETY_CYCLE: per channel its result (none invalid, true the program's, false another), oscillator deviations in 0.01 %, supplies in 5 mV above 0.6 V,
SACK low. -/
def execSafetyCycle (r0 r1 r2 : Option Bool) (osc : List Int) (vdd : List (BitVec 8)) (sackLow : Bool) (s : State) : Answer :=
  .next (s.onDev (Dev.safetyCycle [r0, r1, r2] osc vdd sackLow))
/-- SAFE_INPUT_SAMPLE: levels of the A and B contacts of the eight inputs. -/
def execSafeInputSample (a b : BitVec 8) (s : State) : Answer := .next (s.onDev (Dev.inputSample a.toNat b.toNat))
/-- DISCREPANCY_TIMEOUT. -/
def execDiscrepancyTimeout (n : Fin 8) (s : State) : Answer := .next (s.onDev (Dev.discrepancy n.val))
/-- TEST_PULSE: source and the levels of all contacts 50 µs after it went low. -/
def execTestPulse (k : Fin 4) (a b : BitVec 8) (s : State) : Answer := .next (s.onDev (Dev.testPulse k.val a.toNat b.toNat))
/-- OUTPUT_READBACK: output and the levels read on pins A and B. -/
def execOutputReadback (n : Fin 4) (a b : Bool) (s : State) : Answer := .next (s.onDev (Dev.readback n.val a b))
/-- SEAL_READ: two readings 10 ms apart. -/
def execSealRead (r1 r2 : BitVec 16) (s : State) : Answer := .next (s.onDev (Dev.sealRead r1.toNat r2.toNat))
/-- PDU_RECEIVED: connection and the 48 bytes. -/
def execPduReceived (c : Fin 1088) (bytes : List Byte) (s : State) : Answer := .next (s.onDev (Dev.pduReceived c.val bytes))
/-- SAFETY_WATCHDOG_LAPSE. -/
def execSafetyWatchdogLapse (c : Fin 1088) (s : State) : Answer := .next (s.onDev (Dev.watchdogLapse c.val))
/-- CONFIRMATION_TIMEOUT: connection and status bit of the function. -/
def execConfirmationTimeout (c : Fin 1088) (b : Fin 8) (s : State) : Answer := .next (s.onDev (Dev.confirmTimeout c.val b.val))
/-- SACK_RELEASE: SACK (none) or a connection's ACK, and when the low period began. -/
def execSackRelease (conn : Option (Fin 1088)) (lowAt : BitVec 80) (s : State) : Answer :=
  .next (s.onDev (Dev.sackRelease (conn.map (·.val)) lowAt.toNat))
/-- SACK_STUCK. -/
def execSackStuck (s : State) : Answer := .next (s.onDev Dev.sackStuck)
/-- LOAD_SAFETY_PARAMETERS. -/
def execLoadSafetyParameters (p : Packet) (s : State) : Answer := .next (s.onDev (Dev.packet opLoadSafety p))
/-- GET_SAFETY_STATUS. -/
def execGetSafetyStatus (p : Packet) (s : State) : Answer := .next (s.onDev (Dev.packet opGetSafety p))
/-- REQUEST_SAFE_STOP. -/
def execRequestSafeStop (p : Packet) (s : State) : Answer := .next (s.onDev (Dev.packet opSafeStop p))
/-- OPEN_SAFETY_CONNECTION. -/
def execOpenSafetyConnection (p : Packet) (s : State) : Answer := .next (s.onDev (Dev.packet opOpenConn p))
/-- READ_SAFETY_LOG. -/
def execReadSafetyLog (p : Packet) (s : State) : Answer := .next (s.onDev (Dev.packet opReadSafetyLog p))

end Sys2Proof.Machine
end

