-- ==== Sys2Proof/Machine/Can.lean ====
section
/-! DEFINITION. Sys2Proof/Machine/Can.lean: the auxiliary CAN FD channels (R462 to R484). -/
namespace Sys2Proof.Machine

/-- Registers that a commit of channel `n` captures (R464). -/
def canRegs (n : Nat) : List Nat :=
  [CAN_CTRL n, CAN_ARB_TIMING n, CAN_DATA_TIMING n, CAN_DELAY_COMP n, CAN_RAM_RULES n, CAN_RAM_RX0 n, CAN_RAM_RX1 n, CAN_RAM_TX n, CAN_RAM_TXE n,
   CAN_RAM_MBX n, CAN_HB_ID n, CAN_HB_PERIOD n] ++ (List.range 8).map (CAN_LAWMAP n)
/-- A word of a captured list, else the live one. -/
def Dev.capWord (d : Dev) (ws : List (Nat × Word)) (a : Nat) : Nat := ((ws.find? (fun p => p.1 == a)).map (fun p => p.2.toNat)).getD (d.lrd a)
/-- Regions of the message RAM under captured words (R465): start, count, element size, greatest count. -/
def canRegions (w : Nat → Nat) (n : Nat) : List (Nat × Nat × Nat × Nat) :=
  [(CAN_RAM_RULES n, 12, 96), (CAN_RAM_RX0 n, 80, 64), (CAN_RAM_RX1 n, 80, 64), (CAN_RAM_TX n, 96, 32), (CAN_RAM_TXE n, 24, 32), (CAN_RAM_MBX n, 96, 64)].map
    (fun r => (bitsOf (w r.1) 13 0, bitsOf (w r.1) 23 16, r.2.1, r.2.2))
/-- Rule 100 (R464): the timing words and CAN_CTRL. -/
def canTiming (ctrl arb dat : Nat) : Bool :=
  let a1 := bitsOf arb 16 8 + 1
  let a2 := bitsOf arb 23 17 + 1
  let d1 := bitsOf dat 10 5 + 1
  let d2 := bitsOf dat 15 11 + 1
  let na := (bitsOf arb 7 0 + 1) * (1 + a1 + a2)
  let nd := (bitsOf dat 4 0 + 1) * (1 + d1 + d2)
  decide (2 ≤ a1) && decide (a1 ≤ 512) && decide (2 ≤ a2) && decide (2 ≤ d1) && decide (80 ≤ na) && decide (10 ≤ nd) && decide (nd ≤ na) &&
    decide (bitsOf arb 30 24 + 1 ≤ a2) && decide (bitsOf dat 20 16 + 1 ≤ d2) &&
    (!(bitAt ctrl 3 && bitAt ctrl 4 && decide (nd < 80)) || (bitAt ctrl 7 && decide (bitsOf dat 4 0 ≤ 1)))
/-- First failing rule of 100 to 104 for captured words of channel `n` (R464); the message RAM is that of `d`. -/
def Dev.canFail (d : Dev) (n : Nat) (w : Nat → Nat) : Option Nat :=
  let rs := canRegions w n
  let used := rs.filter (fun r => r.2.1 != 0)
  let tx := bitsOf (w (CAN_RAM_TX n)) 23 16
  let mb := (List.range (bitsOf (w (CAN_RAM_MBX n)) 23 16)).filterMap (fun m =>
    let c := d.canField n (bitsOf (w (CAN_RAM_MBX n)) 13 0 + 96 * m) 4
    if bitAt c 31 then some (c % 2 ^ 30) else none)
  let maps := ((List.range 8).map (fun k => w (CAN_LAWMAP n k))).filter (fun x => bitAt x 18)
  let dest := fun i => d.canField n (bitsOf (w (CAN_RAM_RULES n)) 13 0 + 12 * i + 8) 1 % 8
  let ids := (List.range (connCount d.safSet)).filterMap (fun c =>
    let e := connEntry d.safSet c
    if fieldAt e 4 1 == 3 && fieldAt e 11 1 == n then some (fieldAt e 12 4 % 2 ^ 30) else none)
  let ms := bitsOf (w (CAN_HB_PERIOD n)) 13 0
  firstFail [
    (100, canTiming (w (CAN_CTRL n)) (w (CAN_ARB_TIMING n)) (w (CAN_DATA_TIMING n))),
    (101, rs.all (fun r => r.1 % 8 == 0 && decide (r.1 + r.2.1 * r.2.2.1 ≤ 16384) && decide (r.2.1 ≤ r.2.2.2)) && decide (6 ≤ tx) && decide (tx ≤ 32) &&
      disjoint (used.map (fun r => (r.1, r.1 + r.2.1 * r.2.2.1)))),
    (102, !bitAt (w (CAN_CTRL n)) 2 || noRepeat mb),
    (103, maps.all (fun x => decide (bitsOf x 6 0 < bitsOf (w (CAN_RAM_RULES n)) 23 16) && (dest (bitsOf x 6 0) == 3 || dest (bitsOf x 6 0) == 4)) &&
      noRepeat (maps.map (fun x => bitsOf x 17 8)) &&
      maps.all (fun x => (List.range 512).all (fun a => !(bitAt (d.axisLive a pPUB) 0 && bitsOf (d.axisLive a pPUB) 25 16 == bitsOf x 17 8)))),
    (104, decide (1 ≤ ms) && decide (ms ≤ 10000) && !ids.contains (w (CAN_HB_ID n) % 2 ^ 30))]
/-- A commit of captured words changes what only a stopped channel may change (R464). -/
def Dev.canBars (d : Dev) (n : Nat) (w : Nat → Nat) : Bool :=
  d.get (CAN_STATUS.STATE n) != 0 &&
    (([CAN_ARB_TIMING n, CAN_DATA_TIMING n, CAN_RAM_RULES n, CAN_RAM_RX0 n, CAN_RAM_RX1 n, CAN_RAM_TX n, CAN_RAM_TXE n, CAN_RAM_MBX n].any
      (fun a => w a != d.lrd a)) || bitAt (w (CAN_CTRL n)) 2 != bitAt (d.lrd (CAN_CTRL n)) 2)
/-- The check of a commit: 0 or the status, with its result. -/
def Dev.canCheck (d : Dev) (n : Nat) (w : Nat → Nat) : Nat × List Byte :=
  if d.canBars n w then (stBUSY, []) else
    match d.canFail n w with
    | some r => (stCONSISTENCY, ruleResult r (0x0D00 + n))
    | none => (0, [])
/-- Start the channel for an operation of CONFIG_CAN (R482): 1 start, 2 listen-only, 4 internal and 5 external loopback. -/
def Dev.canStart (n op : Nat) (d : Dev) : Dev :=
  (d.setCan n { d.canCh n with listen := op == 2, loop := if op = 4 || op = 5 then op else 0, op := none }).set (CAN_STATUS.STATE n) 2
/-- A commit of channel `n` goes live (R464); words at or beyond the RAM window are message RAM. A start that waited for it happens now. -/
def Dev.canCommit (n : Nat) (ws : List (Nat × Word)) (ref : Option PktRef) (d : Dev) : Dev :=
  let base := CAN_CTRL n + 0x4000
  let d := d.forEach ws (fun p d => if base ≤ p.1 then d.canPut n (p.1 - base) (leBytes 4 p.2.toNat) else d.goLive p.1 p.2)
  let d := d.set (CAN_APPLY.APPLY n) 0
  let d := match (d.canCh n).op with
    | some op => d.canStart n op
    | none => d
  d.completeOpt ref stOK d.now []
/-- A checked commit is captured: at the next boundary in the synchronised modes, elsewhere at once (R464). -/
def Dev.canTake (n : Nat) (ws : List (Nat × Word)) (ref : Option PktRef) (d : Dev) : Dev :=
  if d.sync then d.holdCommit (0x0D00 + n) ws ref else d.canCommit n ws ref
/-- CAN_APPLY (R464). -/
def Dev.canApply (n : Nat) (d : Dev) : Dev :=
  if d.on (CAN_APPLY.APPLY n) || d.commitWaits (0x0D00 + n) then d else
    let ws := d.capture (canRegs n)
    if (d.canCheck n (d.capWord ws)).1 ≠ 0 then d.set (CAN_APPLY.REFUSED n) 1
    else ((d.set (CAN_APPLY.REFUSED n) 0).set (CAN_APPLY.APPLY n) 1).canTake n ws none

/-- Detection ends (R480). -/
def Dev.autobaudDone (n : Nat) (r : Option Nat) (d : Dev) : Dev :=
  match (d.canCh n).auto with
  | none => d
  | some a =>
    let d := (d.setCan n { d.canCh n with auto := none }).set (CAN_STATUS.STATE n) 0
    let ver := flag (r.isSome && a.verified)
    let d := (d.set (CAN_AUTOBAUD.RESULT n) (r.getD 0xFF)).set (CAN_AUTOBAUD.DATA_VERIFIED n) ver
    let d := match r with
      | some i =>
        let c := a.cands.getD i (0, 0)
        ((d.goLive (CAN_ARB_TIMING n) (BitVec.ofNat 32 c.1)).goLive (CAN_DATA_TIMING n) (BitVec.ofNat 32 c.2)).when a.start (Dev.canStart n 1)
      | none => d
    d.post (0x0D00 + n) 0x0D06 (leBytes 1 (r.getD 0xFF) ++ leBytes 1 ver)
/-- The next candidate is tried, or detection fails (R480). -/
def Dev.autobaudNext (n : Nat) (d : Dev) : Dev :=
  match (d.canCh n).auto with
  | none => d
  | some a => if a.idx + 1 < a.cands.length then d.setCan n { d.canCh n with auto := some { a with idx := a.idx + 1, good := 0, verified := false } }
              else d.autobaudDone n none

/-- CONFIG_CAN operation 0 (R481): at once when no own or foreign frame can be on the bus for a frame that contends, else at the end of the
frame on the bus. -/
def Dev.canStop (n : Nat) (ref : PktRef) (d : Dev) : Dev :=
  match d.get (CAN_STATUS.STATE n) with
  | 0 => d.complete ref stOK d.now []
  | 1 => (d.autobaudDone n none).complete ref stOK d.now []
  | 3 => d.complete ref stBUSY d.now []
  | _ =>
    let d := d.setCan n { d.canCh n with stopRef := some ref }
    if d.canSends n && d.get (CAN_STATUS.ERR_STATE n) ≠ 2 && (d.canWinner n d.now).isSome then d.set (CAN_STATUS.STATE n) 3 else d.canStopped n
/-- The frame on the bus has ended: a stop that waited for it is complete (R481). -/
def Dev.canFrameEnd (n : Nat) (d : Dev) : Dev := if d.get (CAN_STATUS.STATE n) = 3 then d.canStopped n else d

/-- REC as a count; above 127 it is held at 128, shown as RP (R479, R483). -/
def Dev.canRec (d : Dev) (n : Nat) : Nat := if d.on (CAN_ECR.RP n) then 128 else d.get (CAN_ECR.REC n)
/-- Set both error counters and follow the error state (R479). -/
def Dev.canCounters (n tec rec : Nat) (d : Dev) : Dev :=
  let tec0 := (d.canCh n).tec
  let rec0 := d.canRec n
  let st0 := d.get (CAN_STATUS.ERR_STATE n)
  let d := ((d.setCan n { d.canCh n with tec := tec }).set (CAN_ECR.TEC n) (min 255 tec)).set (CAN_ECR.REC n) (min 127 rec)
  let d := (d.set (CAN_ECR.RP n) (flag (decide (127 < rec)))).set (CAN_STATUS.WARNING n) (flag (decide (96 ≤ tec) || decide (96 ≤ rec)))
  let data := leBytes 1 (min 255 tec) ++ leBytes 1 (min 127 rec)
  let d := d.when ((tec0 < 96 && 96 ≤ tec) || (rec0 < 96 && 96 ≤ rec)) (Dev.post (0x0D00 + n) 0x0D01 data)
  let st := if st0 = 2 || 255 < tec then 2 else if 127 < tec || 127 < rec then 1 else 0
  let d := d.set (CAN_STATUS.ERR_STATE n) st
  let d := d.when (st == 1 && st0 == 0) (Dev.post (0x0D00 + n) 0x0D02 data)
  if st = 2 && st0 ≠ 2 then
    let oneShot := fun (p : CanPend) => bitAt (d.lrd (CAN_CTRL n)) 6 || bitAt (d.canField n (d.txOff n p.buf + 15) 1) 1
    let ps := (d.canCh n).pend.filter oneShot
    let d := d.forEach ps (fun p d => d.endBuffer n p 1 0 stMEDIA_ERROR)
    let d := d.when (bitAt (d.lrd (CAN_CTRL n)) 5) (Dev.set (CAN_STATUS.RECOVERING n) 1)
    d.post (0x0D00 + n) 0x0D03 (leBytes 2 (d.canCh n).pend.length)
  else d
/-- A frame was received without error: REC falls by 1, or from above 127 to a value between 119 and 127 that ISO 11898-1 leaves open. -/
def Dev.canGoodRx (n : Nat) (d : Dev) : Dev :=
  let r := d.canRec n
  if r = 0 then d
  else if r ≤ 127 then d.canCounters n (d.canCh n).tec (r - 1)
  else let v := d.draw
       v.2.canCounters n (v.2.canCh n).tec (119 + v.1 % 9)

/-- Write a frame to an element of the message RAM (R466): 16 bytes and its data bytes. -/
def canElement (id dlc route sof : Nat) (data : List Byte) : List Byte :=
  leBytes 4 id ++ leBytes 10 sof ++ leBytes 1 (dlc % 64) ++ leBytes 1 route ++ data
/-- Push a frame to receive FIFO `k` (R467). -/
def Dev.rxPush (n k : Nat) (elem : List Byte) (d : Dev) : Dev :=
  let r := d.lrd (if k = 0 then CAN_RAM_RX0 n else CAN_RAM_RX1 n)
  let size := bitsOf r 23 16
  let fill := d.get (CAN_RX_STATUS.FILL n k)
  if size ≤ fill then
    let c := d.canCh n
    let m := ((c.dropped.find? (fun p => p.1 == k)).map (·.2)).getD 0
    ((d.set (CAN_RX_STATUS.OVERFLOW n k) 1).count32 (CAN_RX_OVF_CNT n k) 1).setCan n { c with dropped := (c.dropped.filter (fun p => p.1 != k)) ++ [(k, m + 1)] }
  else
    let put := d.get (CAN_RX_STATUS.PUT n k)
    ((d.canPut n (bitsOf r 13 0 + 80 * put) elem).set (CAN_RX_STATUS.PUT n k) ((put + 1) % size)).set (CAN_RX_STATUS.FILL n k) (fill + 1)
/-- Offset of mailbox `m` (R473). -/
def Dev.mbxOff (d : Dev) (n m : Nat) : Nat := d.lget (CAN_RAM_MBX.START n) + 96 * m
/-- Write a frame to a mailbox's element (R473). -/
def Dev.mbxWrite (n m : Nat) (elem : List Byte) (d : Dev) : Dev :=
  let o := d.mbxOff n m
  let st := d.canField n (o + 4) 4
  let lost := bitAt st 0
  let d := (d.canPut n (o + 16) elem).canPut n (o + 4) (leBytes 4 (withBits st 1 0 (1 + 2 * flag (lost || bitAt st 1))))
  d.when lost (fun d => (d.count32 (CAN_MBX_LOST_CNT n) 1).post (0x0D00 + n) 0x0D07 (leBytes 1 m))
/-- The locked mailbox of a channel. -/
def Dev.mbxLocked (d : Dev) (n : Nat) : Option Nat := if d.on (CAN_MBX_LOCK.LOCKED n) then some (d.get (CAN_MBX_LOCK.MAILBOX n)) else none
/-- The lock is released, with or without clearing NEW and LOST; a held frame is written (R474). -/
def Dev.mbxRelease (n : Nat) (clear : Bool) (d : Dev) : Dev :=
  match d.mbxLocked n with
  | none => d
  | some m =>
    let o := d.mbxOff n m
    let st := d.canField n (o + 4) 4
    let d := (d.canPut n (o + 4) (leBytes 4 (withBits (if clear then withBits st 1 0 0 else st) 2 2 0))).set (CAN_MBX_LOCK.LOCKED n) 0
    let held := (d.canCh n).held
    let d := d.setCan n { d.canCh n with held := none }
    match held with
    | some e => d.mbxWrite n m e
    | none => d
/-- A frame for mailbox `m` (R473, R474): held while the mailbox is locked; a second one replaces it and sets LOST. -/
def Dev.mbxStore (n m : Nat) (elem : List Byte) (d : Dev) : Dev :=
  if d.mbxLocked n = some m then
    let again := (d.canCh n).held.isSome
    let o := d.mbxOff n m
    let st := d.canField n (o + 4) 4
    (d.setCan n { d.canCh n with held := some elem }).when again (Dev.canPut n (o + 4) (leBytes 4 (withBits st 1 1 1)))
  else d.mbxWrite n m elem
/-- Whether an identifier matches a rule (R468, R469); `r` holds its 12 bytes. -/
def canMatches (id : Nat) (r : List Byte) : Bool :=
  let w := fieldAt r 0 4
  let a := w % 2 ^ 29
  let b := fieldAt r 4 4 % 2 ^ 29
  let i := id % 2 ^ 29
  bitAt w 29 == bitAt id 29 && decide (fieldAt r 8 1 % 8 ≤ 4) &&
    (match bitsOf w 31 30 with
     | 1 => Nat.land (Nat.xor i a) b == 0
     | 2 => decide (a ≤ i) && decide (i ≤ b)
     | 3 => i == a || i == b
     | _ => false)
/-- A frame decided by rule `i` (R469, R471). -/
def Dev.canByRule (n i dest : Nat) (wake : Bool) (id dlc sof : Nat) (data : List Byte) (d : Dev) : Dev :=
  let e := canElement id dlc i sof data
  let d := if dest = 2 then d else d.rxPush n (dest % 3 % 2) e
  let d := d.when (wake && dest != 2) (Dev.wakeOn SYS_WAKE_EN.CAN)
  if (dest = 3 || dest = 4) && 12 ≤ data.length && d.permit && d.sync then
    d.forN 8 (fun k d =>
      let w := d.lrd (CAN_LAWMAP n k)
      if bitAt w 18 && bitsOf w 6 0 = i then
        let lm := bitsOf w 17 8
        let c := d.canCh n
        d.setCan n { c with samples := (c.samples.filter (fun s => s.1 != lm)) ++ [(lm, leBytes 10 sof ++ leBytes 2 lm ++ leBytes 2 1 ++ data.take 12)] }
      else d)
  else d
/-- Filtering and storing of a received frame (R469 to R473). -/
def Dev.canStore (n id dlc sof : Nat) (data : List Byte) (d : Dev) : Dev :=
  let ctrl := d.lrd (CAN_CTRL n)
  let d := if bitAt id 30 then d else
    d.forEach (d.usedConns.filter (fun c =>
      let e := connEntry d.safSet c
      fieldAt e 4 1 == 3 && fieldAt e 11 1 == n && fieldAt e 12 4 % 2 ^ 30 == id % 2 ^ 30)) (fun c d => d.pduReceived c data)
  if bitAt ctrl 2 then
    if bitAt ctrl 10 && bitAt id 30 then d else
      match (List.range (d.lget (CAN_RAM_MBX.COUNT n))).find? (fun m =>
        let w := d.canField n (d.mbxOff n m) 4
        bitAt w 31 && w % 2 ^ 30 == id % 2 ^ 30) with
      | some m => d.mbxStore n m (canElement id dlc m sof data)
      | none => d.count32 (CAN_MBX_NOMATCH_CNT n) 1
  else if d.ha 3 then d.rxPush n 0 (canElement id dlc 0xFE sof data)
  else if bitAt ctrl 10 && bitAt id 30 then d
  else
    let rule := fun i => d.canBytes n (d.lget (CAN_RAM_RULES.START n) + 12 * i) 12
    match (List.range (d.lget (CAN_RAM_RULES.COUNT n))).find? (fun i => canMatches id (rule i)) with
    | some i => d.canByRule n i (fieldAt (rule i) 8 1 % 8) (bitAt (fieldAt (rule i) 8 1) 3) id dlc sof data
    | none => match bitsOf ctrl 9 8 with
      | 0 => d.rxPush n 0 (canElement id dlc 0xFF sof data)
      | 1 => d.rxPush n 1 (canElement id dlc 0xFF sof data)
      | _ => d
/-- CAN_FRAME_RECEIVED: identifier word (bit 29 XTD, 30 RTR, 31 ESI), DLC byte, SOF time, data, whether its ACK slot was dominant, and whether
a set res bit ended it instead (R462). -/
def Dev.canReceive (n id dlc sof : Nat) (data : List Byte) (acked exc : Bool) (d : Dev) : Dev :=
  let st := d.get (CAN_STATUS.STATE n)
  if st = 0 || d.get (CAN_STATUS.ERR_STATE n) = 2 || d.canLoop n = 4 then d
  else if exc then ((d.set (CAN_STATUS.PROTOCOL_EXC n) 1).post (0x0D00 + n) 0x0D09 []).canFrameEnd n
  else if st = 1 then
    match (d.canCh n).auto with
    | some a =>
      if !acked then d else
        let a := { a with good := a.good + 1, verified := a.verified || bitAt dlc 5 }
        let d := d.setCan n { d.canCh n with auto := some a }
        if a.good = 2 then d.autobaudDone n (some a.idx) else d
    | none => d
  else ((d.canGoodRx n).canStore n id dlc sof (padTo (frameLen id dlc) data)).canFrameEnd n

/-- Lateness of a transmit-at time (R476): 0 waits or at once, 1 late, 2 missed. -/
def Dev.canLateness (d : Dev) (at_ tol : Nat) : Nat := if at_ = 0 then 0 else lateness (d.now + ns 1000) at_ tol 0xFFFFFFFF
/-- A transmit request of a filled buffer is accepted (R476). -/
def Dev.canRequest (n b at_ tol : Nat) (ref : Option PktRef) (d : Dev) : Dev :=
  match d.canLateness at_ tol with
  | 0 => d.pendBuffer n ⟨b, if at_ = 0 then some d.now else none, at_, false, 0, false, ref⟩
  | 1 => d.pendBuffer n ⟨b, some d.now, at_, true, 0, false, ref⟩
  | _ => d.endBuffer n ⟨b, none, at_, false, 0, false, ref⟩ 2 0 stMISSED
/-- CAN_TX_REQUEST (R475, R483): the host makes pool buffers pending. -/
def Dev.canTxRequest (n mask : Nat) (d : Dev) : Dev :=
  d.forN 32 (fun b d =>
    if bitAt mask b && 5 ≤ b && b < d.txCount n && (d.canPending n b).isNone then
      let o := d.txOff n b
      d.canRequest n b (d.canField n (o + 4) 10) (d.canField n (o + 16) 4) none
    else d)
/-- CAN_TX_CANCEL (R477): at once, or for the frame in transmission only if its attempt fails. -/
def Dev.canTxCancel (n mask : Nat) (onBus : Option Nat) (d : Dev) : Dev :=
  d.forN 32 (fun b d =>
    match d.canPending n b with
    | some p =>
      if !bitAt mask b then d
      else if onBus = some b && p.since.isSome && d.canSends n then
        (d.pendBuffer n { p with cancelled := true }).wr (CAN_TX_CANCEL n) (withBits (d.rd (CAN_TX_CANCEL n)) b b 1)
      else d.endBuffer n p 4 0 stBUSY
    | none => d)
/-- CAN_TRANSMIT_AT (R476): the buffer starts to contend at its time. -/
def Dev.canTransmitAt (n b : Nat) (d : Dev) : Dev :=
  match d.canPending n b with
  | some p => if p.since.isSome then d else (d.reach p.at_).pendBuffer n { p with since := some (max d.now p.at_) }
  | none => d
/-- CAN_TX_COMPLETE (R463, R477, R479): the attempt of buffer `b` whose frame started at `sof` ends: 0 sent, 1 lost arbitration, 2 error.
The buffer is the one that won the arbitration at `sof`. `delay` is the transmitter delay that was measured. -/
def Dev.canTxDone (n b out sof : Nat) (delay : Option Nat) (d : Dev) : Dev :=
  let st := d.get (CAN_STATUS.STATE n)
  let c := d.canCh n
  if (st ≠ 2 && st ≠ 3) || c.listen || bitAt (d.lrd (CAN_CTRL n)) 0 || d.get (CAN_STATUS.ERR_STATE n) = 2 || d.canWinner n sof ≠ some b then d else
    match d.canPending n b with
    | none => d
    | some p =>
      let o := d.txOff n b
      let id := d.canField n o 4 % 2 ^ 31
      let dlc := d.canField n (o + 14) 1
      let p := { p with attempts := p.attempts + 1 }
      let ctrl := d.lrd (CAN_CTRL n)
      let d := match delay with
        | some m => if bitAt ctrl 7 && bitAt dlc 4 && bitsOf (d.lrd (CAN_DELAY_COMP n)) 15 8 ≤ m then d.set (CAN_DELAY_COMP.MEASURED n) m else d
        | none => d
      let d := if out = 0 then
          let data := d.canBytes n (o + 24) (frameLen id dlc)
          let d := d.when (d.canLoop n != 4) (Dev.emit (.can n id data))
          let d := d.endBuffer n p (if p.late then 3 else 0) sof (if p.late then stLATE else stOK)
          let d := d.when ((d.canCh n).tec != 0) (fun d => d.canCounters n ((d.canCh n).tec - 1) (d.canRec n))
          d.when (d.canLoop n != 0) (Dev.canStore n id dlc sof data)
        else if p.cancelled then d.endBuffer n p 4 sof stBUSY
        else if bitAt ctrl 6 || bitAt (d.canField n (o + 15) 1) 1 then d.endBuffer n p 1 sof (if out = 1 then stBUSY else stMEDIA_ERROR)
        else d.pendBuffer n p
      d.canFrameEnd n
/-- CAN_ERROR_DETECTED (R479, R480): kind 1 stuff, 2 form, 3 ACK, 4 bit 1, 5 bit 0, 6 CRC; in the data phase or not; as transmitter or not; `big`
= a receiver's error that ISO 11898-1 counts by 8; `exempt` = a transmitter's error that ISO 11898-1 leaves uncounted. -/
def Dev.canError (n kind : Nat) (dat tx big exempt : Bool) (d : Dev) : Dev :=
  let st := d.get (CAN_STATUS.STATE n)
  if st = 0 || kind = 0 || 6 < kind || d.get (CAN_STATUS.ERR_STATE n) = 2 then d else
    let d := (d.count32 (CAN_ERR_CNT n) 1).set (if dat then CAN_STATUS.DATA_ERROR n else CAN_STATUS.LAST_ERROR n) kind
    if st = 1 then (if kind = 3 then d else d.autobaudNext n)
    else
      let tec := (d.canCh n).tec
      let free := exempt && (kind == 1 || (kind == 3 && d.get (CAN_STATUS.ERR_STATE n) == 1))
      let d := if tx then (if free then d else d.canCounters n (tec + 8) (d.canRec n))
        else d.canCounters n tec (min 128 (d.canRec n + if big then 8 else 1))
      d.when (d.get (CAN_STATUS.ERR_STATE n) == 2) (Dev.canFrameEnd n)
/-- BUS_RECOVERED (R479). -/
def Dev.busRecovered (n : Nat) (d : Dev) : Dev :=
  if d.get (CAN_STATUS.ERR_STATE n) ≠ 2 || !d.on (CAN_STATUS.RECOVERING n) then d else
    let d := (d.set (CAN_STATUS.ERR_STATE n) 0).set (CAN_STATUS.RECOVERING n) 0
    (d.canCounters n 0 0).post (0x0D00 + n) 0x0D04 []
/-- CAN_HEARTBEAT_PERIOD (R478): buffer 4, from Configure on. -/
def Dev.canHeartbeat (n : Nat) (d : Dev) : Dev :=
  let w := d.lrd (CAN_HB_ID n)
  if d.mode < 4 || !bitAt w 31 then d else
    let c := d.canCh n
    let k := (c.beat + 1) % 65536
    let d := d.setCan n { c with beat := k }
    if d.get (CAN_STATUS.STATE n) ≠ 2 || d.txCount n ≤ 4 then d else
      let since := match d.canPending n 4 with | some q => q.since | none => some d.now
      (d.fillBuffer n 4 (w % 2 ^ 30) (4 + 16 * flag (bitAt w 30)) 0 0 0 0
        (leBytes 1 d.mode ++ leBytes 1 (flag d.permit + 2 * flag (d.mode == 9)) ++ leBytes 2 k)).pendBuffer n ⟨4, since, 0, false, 0, false, none⟩
/-- CAN_RX_ACK and CAN_TXE_ACK (R467): every element up to the index is freed; an index outside the filled elements frees nothing. -/
def ackFifo (size fill get idx : Nat) : Option (Nat × Nat) :=
  if size ≤ idx then none else
    let k := (idx + size - get) % size + 1
    if k ≤ fill then some ((idx + 1) % size, fill - k) else none
/-- CAN_RX_ACK. -/
def Dev.canRxAck (n k idx : Nat) (d : Dev) : Dev :=
  match ackFifo (bitsOf (d.lrd (if k = 0 then CAN_RAM_RX0 n else CAN_RAM_RX1 n)) 23 16) (d.get (CAN_RX_STATUS.FILL n k)) (d.get (CAN_RX_STATUS.GET n k)) idx with
  | some r => (d.set (CAN_RX_STATUS.GET n k) r.1).set (CAN_RX_STATUS.FILL n k) r.2
  | none => d
/-- CAN_TXE_ACK. -/
def Dev.canTxeAck (n idx : Nat) (d : Dev) : Dev :=
  match ackFifo (d.lget (CAN_RAM_TXE.COUNT n)) (d.get (CAN_TXE_STATUS.FILL n)) (d.get (CAN_TXE_STATUS.GET n)) idx with
  | some r => (d.set (CAN_TXE_STATUS.GET n) r.1).set (CAN_TXE_STATUS.FILL n) r.2
  | none => d
/-- MAILBOX_STATUS_READ (R474): the mailbox is locked, another one's lock is released without clearing its flags, and the status is read. -/
def Dev.mbxStatusRead (n m : Nat) (d : Dev) : Dev :=
  if !bitAt (d.lrd (CAN_CTRL n)) 2 || d.lget (CAN_RAM_MBX.COUNT n) ≤ m then d else
    let d := if d.mbxLocked n = some m then d else d.mbxRelease n false
    let o := d.mbxOff n m
    let st := withBits (d.canField n (o + 4) 4) 2 2 1
    let d := ((d.canPut n (o + 4) (leBytes 4 st)).set (CAN_MBX_LOCK.MAILBOX n) m).set (CAN_MBX_LOCK.LOCKED n) 1
    d.emit (.busData (CAN_CTRL n + 0x4000 + o + 4) st)
/-- MAILBOX_RELEASE_READ (R474): the last word of a locked mailbox is read, NEW and LOST are cleared and the lock is released. -/
def Dev.mbxReleaseRead (n m : Nat) (d : Dev) : Dev :=
  if !bitAt (d.lrd (CAN_CTRL n)) 2 || d.lget (CAN_RAM_MBX.COUNT n) ≤ m then d else
    let o := d.mbxOff n m + 0x5C
    let d := d.emit (.busData (CAN_CTRL n + 0x4000 + o) (d.canField n o 4))
    if d.mbxLocked n = some m then d.mbxRelease n true else d
/-- LOCK_TIMEOUT (R474). -/
def Dev.lockTimeout (n : Nat) (d : Dev) : Dev :=
  match d.mbxLocked n with
  | some m => ((d.mbxRelease n false).count (CAN_MBX_LOCK.TIMEOUTS n) 1).post (0x0D00 + n) 0x0D0A (leBytes 1 m)
  | none => d
/-- What the cycle's guard posts for the channels (R467): overflows of the cycle. -/
def Dev.canGuard (d : Dev) : Dev :=
  d.forN 2 (fun n d =>
    let c := d.canCh n
    (d.setCan n { c with dropped := [] }).forEach c.dropped (fun p d => d.post (0x0D00 + n) 0x0D05 (leBytes 1 p.1 ++ leBytes 2 (min 65535 p.2))))
/-- At the log close the permit holder logs the cycle's newest law samples (R471). -/
def Dev.canLog (d : Dev) : Dev :=
  d.forN 2 (fun n d =>
    let c := d.canCh n
    (d.setCan n { c with samples := [] }).forEach c.samples (fun s d => d.when d.permit (Dev.logInput 0x07 20 (.masters s.2) none)))
/-- Whether a channel is idle for RESET_BLOCK (R481). -/
def Dev.canIdle (d : Dev) (n : Nat) : Bool := d.get (CAN_STATUS.STATE n) == 0 && (d.canCh n).auto.isNone && (d.canCh n).pend.isEmpty

/-- 0x0801 CONFIG_CAN (R464, R481, R482). -/
def opConfigCan : Opcode :=
  { code := 0x0801, modes := fun _ => modeIn confSync,
    run := fun p ref d =>
      let n := par p 22 1
      let op := par p 23 1
      if 1 < n || 5 < op then (.bad stBAD_PARAMETER, d)
      else if 4 ≤ op && d.mode ≠ 11 then (.bad stWRONG_MODE, d)
      else if op = 0 then (.later, d.canStop n ref)
      else if op = 3 then (.done stOK [], d.when (d.get (CAN_STATUS.ERR_STATE n) == 2) (Dev.set (CAN_STATUS.RECOVERING n) 1))
      else if d.commitWaits (0x0D00 + n) || d.get (CAN_STATUS.STATE n) = 1 || d.get (CAN_STATUS.STATE n) = 3 then (.bad stBUSY, d)
      else
        let new := [(CAN_CTRL n, par p 24 4 % 2 ^ 11), (CAN_ARB_TIMING n, par p 28 4 % 2 ^ 31), (CAN_DATA_TIMING n, par p 32 4 % 2 ^ 21),
          (CAN_DELAY_COMP n, withBits (d.rd (CAN_DELAY_COMP n)) 15 0 (par p 36 4))]
        let e := d.forEach new (fun x d => d.wr x.1 x.2)
        let ws := e.capture (canRegs n)
        match d.canCheck n (d.capWord ws) with
        | (0, _) => (.later, (e.setCan n { e.canCh n with op := some op }).canTake n ws (some ref))
        | (st, res) => (.done st res, d) }
/-- 0x0802 LOAD_FILTERS (R464, R482). -/
def opLoadFilters : Opcode :=
  { code := 0x0802, modes := fun _ => modeIn confSync,
    run := fun p ref d =>
      let n := par p 22 1
      let list := par p 23 1
      let k := par p 32 2
      let cap := match list with | 0 => d.lget (CAN_RAM_RULES.COUNT n) | 1 => d.lget (CAN_RAM_MBX.COUNT n) | _ => 8
      let size := if list = 0 then 12 else 4
      if 1 < n || 2 < list then (.bad stBAD_PARAMETER, d)
      else if cap < k then (.bad stBAD_LENGTH, d)
      else if d.commitWaits (0x0D00 + n) then (.bad stBUSY, d)
      else d.hostRead p (size * k) (fun bs d =>
        let base := CAN_CTRL n + 0x4000
        let word := fun i => BitVec.ofNat 32 (fieldAt bs (4 * i) 4)
        let ws := match list with
          | 0 => (List.range (3 * k)).map (fun i => (base + d.lget (CAN_RAM_RULES.START n) + 4 * i, word i))
          | 1 => (List.range k).map (fun i => (base + d.mbxOff n i, word i))
          | _ => (List.range k).map (fun i => (CAN_LAWMAP n i, word i &&& 0x7FF7F))
        let e := d.forEach ws (fun x d => if base ≤ x.1 then d.canPut n (x.1 - base) (leBytes 4 x.2.toNat) else d.wr x.1 x.2.toNat)
        match e.canFail n (e.capWord ws) with
        | some r => (.done stCONSISTENCY (ruleResult r (0x0D00 + n)), d)
        | none => (.later, (if list = 2 then e else d).canTake n ws (some ref))) }
/-- 0x0803 START_AUTOBAUD (R480, R482). -/
def opStartAutobaud : Opcode :=
  { code := 0x0803, lMin := 4, lMax := 4, modes := fun _ => modeIn confSync,
    run := fun p _ d =>
      let n := par p 22 1
      let k := par p 23 1
      let w := par p 24 2
      if 1 < n || k = 0 || 8 < k || w < 10 || 5000 < w then (.bad stBAD_PARAMETER, d)
      else if d.get (CAN_STATUS.STATE n) ≠ 0 then (.bad stWRONG_MODE, d)
      else
        let cs := (List.range k).map (fun i => (ext p (8 * i) 4, ext p (8 * i + 4) 4))
        let d := d.setCan n { d.canCh n with auto := some ⟨cs, w, 0, 0, false, bitAt (par p 26 1) 0⟩ }
        (.done stACCEPTED [], d.set (CAN_STATUS.STATE n) 1) }
/-- 0x0804 CAN_SEND (R475 to R477, R482). -/
def opCanSend : Opcode :=
  { code := 0x0804, lMax := 4, modes := fun _ => modeIn confSync,
    run := fun p ref d =>
      let n := par p 22 1
      let f := par p 23 1
      let dlc := par p 28 1
      let id := par p 24 4
      let word := id + 2 ^ 29 * flag (bitAt f 0) + 2 ^ 30 * flag (bitAt f 3)
      let db := dlc + 16 * flag (bitAt f 1) + 32 * flag (bitAt f 2)
      if 1 < n || 64 ≤ f || 15 < dlc || (if bitAt f 0 then 2 ^ 29 else 2 ^ 11) ≤ id || (bitAt f 3 && bitAt f 1) || (bitAt f 2 && !bitAt f 1) ||
          (bitAt f 1 && !bitAt (d.lrd (CAN_CTRL n)) 3) || (bitAt f 2 && !bitAt (d.lrd (CAN_CTRL n)) 4) then (.bad stBAD_PARAMETER, d)
      else
        let len := frameLen word db
        if p.len.toNat ≠ (len + 15) / 16 then (.bad stBAD_LENGTH, d)
        else match (List.range (d.txCount n)).find? (fun b => decide (5 ≤ b) && (d.canPending n b).isNone) with
          | none => (.bad stNO_RESOURCE, d)
          | some b =>
            let at_ := par p 30 10
            let d := d.fillBuffer n b word db (flag (bitAt f 5) + 2 * flag (bitAt f 4)) p.tag.toNat at_ p.tol.toNat (extBytes p 0 len)
            (.later, d.canRequest n b at_ p.tol.toNat (some ref)) }
/-- 0x0805 GET_CAN_STATUS (R482). -/
def opCanStatus : Opcode :=
  { code := 0x0805, modes := fun _ => modeIn confSync,
    run := fun p _ d =>
      let n := par p 22 1
      if 1 < n then (.bad stBAD_PARAMETER, d)
      else (.done stOK (leBytes 4 (d.rd (CAN_STATUS n)) ++ leBytes 1 (d.get (CAN_ECR.TEC n)) ++ leBytes 1 (d.get (CAN_ECR.REC n)) ++
        leBytes 1 (d.get (CAN_RX_STATUS.FILL n 0)) ++ leBytes 1 (d.get (CAN_RX_STATUS.FILL n 1)) ++ leBytes 4 (d.rd (CAN_TX_PENDING n)) ++
        leBytes 4 (d.rd (CAN_ERR_CNT n))), d) }

/-- CONFIG_CAN. -/
def execConfigCan (p : Packet) (s : State) : Answer := .next (s.onDev (Dev.packet opConfigCan p))
/-- LOAD_FILTERS. -/
def execLoadFilters (p : Packet) (s : State) : Answer := .next (s.onDev (Dev.packet opLoadFilters p))
/-- START_AUTOBAUD. -/
def execStartAutobaud (p : Packet) (s : State) : Answer := .next (s.onDev (Dev.packet opStartAutobaud p))
/-- AUTOBAUD_WINDOW_EXPIRY: the window of the present candidate ends. -/
def execAutobaudWindowExpiry (n : Fin 2) (s : State) : Answer := .next (s.onDev (Dev.autobaudNext n.val))
/-- CAN_SEND. -/
def execCanSend (p : Packet) (s : State) : Answer := .next (s.onDev (Dev.packet opCanSend p))
/-- GET_CAN_STATUS. -/
def execGetCanStatus (p : Packet) (s : State) : Answer := .next (s.onDev (Dev.packet opCanStatus p))
/-- CAN_APPLY. -/
def execCanApply (n : Fin 2) (s : State) : Answer := .next (s.onDev (Dev.canApply n.val))
/-- CAN_FRAME_RECEIVED. -/
def execCanFrameReceived (n : Fin 2) (id : Word) (dlc : BitVec 6) (sof : BitVec 80) (data : List Byte) (acked exc : Bool) (s : State) : Answer :=
  .next (s.onDev (Dev.canReceive n.val id.toNat dlc.toNat sof.toNat data acked exc))
/-- CAN_TX_REQUEST. -/
def execCanTxRequest (n : Fin 2) (mask : Word) (s : State) : Answer := .next (s.onDev (Dev.canTxRequest n.val mask.toNat))
/-- CAN_TX_CANCEL: the buffer whose frame is in transmission is named. -/
def execCanTxCancel (n : Fin 2) (mask : Word) (onBus : Option (Fin 32)) (s : State) : Answer :=
  .next (s.onDev (Dev.canTxCancel n.val mask.toNat (onBus.map (·.val))))
/-- CAN_TRANSMIT_AT. -/
def execCanTransmitAt (n : Fin 2) (b : Fin 32) (s : State) : Answer := .next (s.onDev (Dev.canTransmitAt n.val b.val))
/-- CAN_TX_COMPLETE: outcome 0 sent, 1 lost arbitration, 2 error. -/
def execCanTxComplete (n : Fin 2) (b : Fin 32) (out : Fin 3) (sof : BitVec 80) (delay : Option (BitVec 8)) (s : State) : Answer :=
  .next (s.onDev (Dev.canTxDone n.val b.val out.val sof.toNat (delay.map (·.toNat))))
/-- CAN_ERROR_DETECTED. -/
def execCanErrorDetected (n : Fin 2) (kind : Fin 7) (dat tx big exempt : Bool) (s : State) : Answer :=
  .next (s.onDev (Dev.canError n.val kind.val dat tx big exempt))
/-- BUS_RECOVERED. -/
def execBusRecovered (n : Fin 2) (s : State) : Answer := .next (s.onDev (Dev.busRecovered n.val))
/-- CAN_HEARTBEAT_PERIOD. -/
def execCanHeartbeatPeriod (n : Fin 2) (s : State) : Answer := .next (s.onDev (Dev.canHeartbeat n.val))
/-- CAN_RX_ACK: FIFO and index. -/
def execCanRxAck (n k : Fin 2) (idx : BitVec 6) (s : State) : Answer := .next (s.onDev (Dev.canRxAck n.val k.val idx.toNat))
/-- CAN_TXE_ACK. -/
def execCanTxeAck (n : Fin 2) (idx : BitVec 5) (s : State) : Answer := .next (s.onDev (Dev.canTxeAck n.val idx.toNat))
/-- MAILBOX_STATUS_READ. -/
def execMailboxStatusRead (n : Fin 2) (m : Fin 64) (s : State) : Answer := .next (s.onDev (Dev.mbxStatusRead n.val m.val))
/-- MAILBOX_RELEASE_READ. -/
def execMailboxReleaseRead (n : Fin 2) (m : Fin 64) (s : State) : Answer := .next (s.onDev (Dev.mbxReleaseRead n.val m.val))
/-- LOCK_TIMEOUT. -/
def execLockTimeout (n : Fin 2) (s : State) : Answer := .next (s.onDev (Dev.lockTimeout n.val))

end Sys2Proof.Machine
end

