-- ==== Sys2Proof/Machine/Power.lean ====
section
/-! DEFINITION. Sys2Proof/Machine/Power.lean: supplies, references, temperature and the multi-function pins (R485 to R493, R516 to R518, R526,
R531). Losses that reset the part stand in Reset.lean. -/
namespace Sys2Proof.Machine

/-- SUPPLY_WARN (R489): the rail of RST_VMON bit `b` leaves (`ok` false) or re-enters its range; `high` is the level class of an I/O bank at
its power-up (R516). A safety rail out of range fails its channel without an event of its own. -/
def Dev.supplyWarn (b : Nat) (ok high : Bool) (d : Dev) : Dev :=
  if d.mode < 2 then d else
    let bit := fun (d : Dev) => d.wr RST_VMON (withBits (d.rd RST_VMON) b b (flag ok))
    if 2 ≤ b && b ≤ 4 then (bit d).when (!ok) (Dev.failChannel (b - 2) 1)
    else if [5, 6, 7, 9, 10, 11, 12, 13, 14, 15].contains b && bitAt (d.rd RST_VMON) b != ok then
      let d := (bit d).post 0x0010 0x0016 (leBytes 1 b ++ leBytes 1 (flag ok))
      if b < 8 then d else
        let d := d.set (PIN_BANK.POWERED (b - 8)) (flag ok)
        d.when ok (Dev.set (PIN_BANK.LEVEL (b - 8)) (flag high))
    else d
/-- VBAT_LOW (R488): VBAT in mV. -/
def Dev.vbatLow (mv : Nat) (d : Dev) : Dev :=
  if d.mode < 2 || !d.on RST_VMON.VBAT_OK || 2400 ≤ mv then d else (d.set RST_VMON.VBAT_OK 0).post 0x0010 0x0013 (leBytes 2 mv)
/-- VBAT_RESTORED (R488). -/
def Dev.vbatBack (mv : Nat) (d : Dev) : Dev := if d.mode < 2 || mv < 2400 then d else d.set RST_VMON.VBAT_OK 1
/-- A PLL other than PLL_SYS and PLL_TIME loses lock (R492). -/
def Dev.pllLost (i : Nat) (d : Dev) : Dev :=
  if !bitAt (d.get CLK_PLL.LOCKED) i then d else
    ((d.set CLK_PLL.LOCKED (withBits (d.get CLK_PLL.LOCKED) i i 0)).count32 CLK_UNLOCK_CNT 1).post 0x0010 0x0015 (leBytes 1 i)
/-- PLL_LOCKED (R491): a running PLL reaches lock. -/
def Dev.pllLocked (i : Nat) (d : Dev) : Dev :=
  if bitAt (d.get CLK_PLL.RUNNING) i then d.set CLK_PLL.LOCKED (withBits (d.get CLK_PLL.LOCKED) i i 1) else d
/-- REFCLK_LOST (R492): SDS_REFCLK (bit 2) or PEX_REFCLK (bit 3) is lost or restored. The losses of block lock and of the PCIe link that
follow are commands of their own. -/
def Dev.refclk (pex ok : Bool) (d : Dev) : Dev :=
  let b := if pex then 3 else 2
  if d.mode < 2 || bitAt (d.rd CLK_REFMON) b == ok then d else
    (d.wr CLK_REFMON (withBits (d.rd CLK_REFMON) b b (flag ok))).post 0x0010 0x0017 (leBytes 1 b ++ leBytes 1 (flag (!ok)))
/-- Warning and high thresholds of the grade, in 1/16 °C (R531). -/
def Dev.tempLimits (d : Dev) : Int × Int := if d.rd SYS_ID % 256 = 1 then (115 * 16, 125 * 16) else (95 * 16, 105 * 16)
/-- TEMPERATURE_SAMPLE (R226, R531): the highest of the eight sensors, in 1/16 °C; 5 °C of hysteresis. -/
def Dev.tempSample (t : Int) (d : Dev) : Dev :=
  if d.mode < 2 then d else
    let d := Dev.calTemperature { d with sys := { d.sys with temp := t } }
    let data := fun (up : Bool) => leBytes 2 (codeOf 16 t) ++ leBytes 1 (flag (!up))
    let (warn, high) := d.tempLimits
    let d := if !d.sys.tempWarn && decide (warn < t) then
        (({ d with sys := { d.sys with tempWarn := true } } : Dev).emit (.pin "SMB_ALERT_N" 0 false)).post 0x0010 0x0018 (data true)
      else if d.sys.tempWarn && decide (t < warn - 80) then
        (({ d with sys := { d.sys with tempWarn := false } } : Dev).emit (.pin "SMB_ALERT_N" 0 true)).post 0x0010 0x0018 (data false)
      else d
    if !d.sys.tempHigh && decide (high < t) then ({ d with sys := { d.sys with tempHigh := true } } : Dev).post 0x0010 0x0019 (data true)
    else if d.sys.tempHigh && decide (t < high - 80) then ({ d with sys := { d.sys with tempHigh := false } } : Dev).post 0x0010 0x0019 (data false)
    else d

/-- The level that the function of MFP `n` drives (R517); a pin without a driver is pulled up. -/
def Dev.mfpLevel (d : Dev) (n : Nat) : Bool :=
  match d.get (PIN_MFP.FUNC n) with
  | 2 => d.on (PIN_MFP.OUT n)
  | 3 => (smGet (fun _ => EvoOut.reset) d.evo (n % 16)).low.isNone
  | 4 => d.get (CAN_STATUS.STATE (n % 2)) == 0
  | 5 => !d.ltm.ppsLow
  | _ => true
/-- A pin's sampled level stands in both places that show it (R526). -/
def Dev.showMfp (n : Nat) (level : Bool) (d : Dev) : Dev :=
  ((d.set (PIN_MFP.IN n) (flag level)).wr PIN_MFP_IN (withBits (d.rd PIN_MFP_IN) n n (flag level))).emit (.pin "MFP" n level)
/-- FUNC_WRITE (R518, R526): a write of PIN_MFP_n; a changed FUNC parks the pin, or restarts the park. -/
def Dev.mfpWrite (n v : Nat) (d : Dev) : Dev :=
  if d.mode < 3 then d else
    let old := d.get (PIN_MFP.FUNC n)
    let d := ((d.set (PIN_MFP.FUNC n) (bitsOf v 3 0)).set (PIN_MFP.OUT n) (bitsOf v 5 5)).set (PIN_MFP.PULL n) (bitsOf v 7 7)
    let d := d.wr PIN_MFP_OUT (withBits (d.rd PIN_MFP_OUT) n n (bitsOf v 5 5))
    if old ≠ bitsOf v 3 0 then (d.set (PIN_MFP.PARKED n) 1).showMfp n true
    else if old = 2 && !d.on (PIN_MFP.PARKED n) then d.showMfp n (bitAt v 5) else d
/-- PARK_END (R518). -/
def Dev.parkEnd (n : Nat) (d : Dev) : Dev :=
  if !d.on (PIN_MFP.PARKED n) then d else
    let d := (d.set (PIN_MFP.PARKED n) 0).count32 PIN_PARK_CNT 1
    d.showMfp n (d.mfpLevel n)
/-- A write of PIN_MFP_OUT (R526): the OUT bits of all pins. -/
def Dev.mfpOutWrite (v : Nat) (d : Dev) : Dev :=
  (d.wr PIN_MFP_OUT (v % 2 ^ 24)).forN 24 (fun n d =>
    let d := d.set (PIN_MFP.OUT n) (bitsOf v n n)
    if d.get (PIN_MFP.FUNC n) = 2 && !d.on (PIN_MFP.PARKED n) then d.showMfp n (bitAt v n) else d)

/-- SUPPLY_WARN: RST_VMON bit, back in range or not, level class 3.3 V of a bank that powers up. -/
def execSupplyWarn (b : Fin 16) (ok high : Bool) (s : State) : Answer := .next (s.onDev (Dev.supplyWarn b.val ok high))
/-- VBAT_LOW: VBAT in mV. -/
def execVbatLow (mv : BitVec 16) (s : State) : Answer := .next (s.onDev (Dev.vbatLow mv.toNat))
/-- VBAT_RESTORED: VBAT in mV. -/
def execVbatRestored (mv : BitVec 16) (s : State) : Answer := .next (s.onDev (Dev.vbatBack mv.toNat))
/-- RTC_INVALID (R492, R493): an X32 fault. -/
def execRtcInvalid (s : State) : Answer :=
  .next (if s.dev.mode < 2 || !s.dev.on CLK_REFMON.X32_OK then s else
    { s with
      backup := { s.backup with rtcValid := false }
      dev := ((s.dev.set CLK_REFMON.X32_OK 0).set RST_RTC_SUB.VALID 0).post 0x0010 0x0014 (leBytes 1 1) })
/-- REFCLK_LOST: PEX_REFCLK or SDS_REFCLK, present or not. -/
def execRefclkLost (pex ok : Bool) (s : State) : Answer := .next (s.onDev (Dev.refclk pex ok))
/-- TEMPERATURE_SAMPLE: die temperature in 1/16 °C. -/
def execTemperatureSample (t : BitVec 16) (s : State) : Answer := .next (s.onDev (Dev.tempSample (signedOf 16 t.toNat)))
/-- FUNC_WRITE: pin and the word written to PIN_MFP_n. -/
def execFuncWrite (n : Fin 24) (v : Word) (s : State) : Answer := .next (s.onDev (Dev.mfpWrite n.val v.toNat))
/-- PARK_END. -/
def execParkEnd (n : Fin 24) (s : State) : Answer := .next (s.onDev (Dev.parkEnd n.val))
/-- PLL_LOCKED. -/
def execPllLocked (i : Fin 9) (s : State) : Answer := .next (s.onDev (Dev.pllLocked i.val))

end Sys2Proof.Machine
end

