-- ==== Sys2Proof/Machine/Security.lean ====
section
/-! DEFINITION. Sys2Proof/Machine/Security.lean: signed images, installation, attestation, sessions and the debug port (R441 to R461). The
opcodes take the fuses as an argument; fuses they blow wait in `sec.burn` for the end of the command (State.settle). -/
namespace Sys2Proof.Machine

/-- Slot `k` of the root fuses. -/
def Fuses.root (f : Fuses) (k : Nat) : RootSlot := match k with | 0 => f.root0 | 1 => f.root1 | 2 => f.root2 | _ => f.root3
/-- Replace slot `k`. -/
def Fuses.setRoot (f : Fuses) (k : Nat) (r : RootSlot) : Fuses :=
  match k with | 0 => { f with root0 := r } | 1 => { f with root1 := r } | 2 => { f with root2 := r } | _ => { f with root3 := r }
/-- The anti-rollback counter's value: consecutive blown bits from bit 0 (R441). -/
def Fuses.arbValue (f : Fuses) : Nat := ((List.range 64).takeWhile (fun i => bitAt f.arb i)).length
/-- An unrevoked slot with any of the wanted uses whose hash is that of a public key (R446). -/
def Fuses.keyOk (f : Fuses) (k use : Nat) (pub : List Byte) : Bool :=
  decide (k < 4) && Nat.land (f.root k).use use != 0 && !(f.root k).revoked && padTo 48 (Config.sha384 pub) == (f.root k).hash

/-- Fields of the signed header (R446). -/
def imgSlot (b : List Byte) : Nat := fieldAt b 32 1
/-- Public key of a header. -/
def imgKey (b : List Byte) : List Byte := padTo 97 ((b.drop 64).take 97)
/-- Body of an image. -/
def imgBody (b : List Byte) : List Byte := b.drop 512
/-- Whether the image names silicon revision 0xB1 (R2, R446). -/
def imgRev (b : List Byte) : Bool := ((b.drop 24).take 8).any (fun x => x.toNat == 0xB1)
/-- Whether the body hash holds. -/
def imgHash (b : List Byte) : Bool := padTo 48 (Config.sha384 (imgBody b)) == padTo 48 ((b.drop 208).take 48)
/-- Whether the signature over bytes 0 to 255 holds. -/
def imgSigned (b : List Byte) : Bool := Config.ecdsaOk (imgKey b) (padTo 256 (b.take 256)) (padTo 96 ((b.drop 256).take 96))
/-- verify(img, use) of R446; the security version is a firmware field, so only firmware images meet code 4. -/
def verifyImage (f : Fuses) (b : List Byte) (use : Nat) (firmware : Bool) : Nat :=
  let k := imgSlot b
  if 4 ≤ k || Nat.land (f.root k).use use = 0 || (f.root k).revoked then 1
  else if padTo 48 (Config.sha384 (imgKey b)) ≠ (f.root k).hash then 2
  else if !imgRev b then 3
  else if firmware && (fieldAt b 16 8 < f.arbValue || 64 < fieldAt b 16 8) then 4
  else if !imgHash b then 5
  else if !imgSigned b then 6 else 0
/-- Status of a failed verification (R459). -/
def verifyStatus (code : Nat) : Nat := match code with | 3 => stBAD_PARAMETER | 4 => stROLLBACK | _ => stBAD_SIGNATURE
/-- ASCII of an eight-letter magic. -/
def asciiBytes (s : List Nat) : List Byte := s.map (fun c => BitVec.ofNat 8 c)
/-- "ILFWIMG1". -/
def magicFw : List Byte := asciiBytes [0x49, 0x4C, 0x46, 0x57, 0x49, 0x4D, 0x47, 0x31]
/-- "ILCFGPK1". -/
def magicPkg : List Byte := asciiBytes [0x49, 0x4C, 0x43, 0x46, 0x47, 0x50, 0x4B, 0x31]
/-- "ILPROV01". -/
def magicProv : List Byte := asciiBytes [0x49, 0x4C, 0x50, 0x52, 0x4F, 0x56, 0x30, 0x31]
/-- "ILQUOTE1". -/
def magicQuote : List Byte := asciiBytes [0x49, 0x4C, 0x51, 0x55, 0x4F, 0x54, 0x45, 0x31]
/-- "ILDBGTK1". -/
def magicToken : List Byte := asciiBytes [0x49, 0x4C, 0x44, 0x42, 0x47, 0x54, 0x4B, 0x31]

/-- Whether the DRAM partition of a package fits the DRAM fitted (R37, R421). -/
def Dev.partitionOk (d : Dev) (k : Package) : Bool :=
  decide (k.dramCapture ≤ 2 ^ 34) && decide (4096 ≤ k.dramStock) && decide (4 ≤ d.sys.dramGiB) &&
    decide (k.dramCapture + k.dramStock + k.dramSpill + k.dramHost ≤ d.sys.dramGiB * 2 ^ 30)
/-- The configuration of a package is loaded and committed (R43, R45, R449): registers, axis parameters, cam tables, working generation. -/
def Dev.loadPackage (k : Package) (d : Dev) : Dev :=
  -- events collected before the index was known carry it too (R137)
  let own := fun (e : Event) => if e.ctrl = d.sys.index then { e with ctrl := k.index } else e
  let d : Dev := { d with
    sys := { d.sys with package := some k, index := k.index }
    hif := { d.hif with batch := d.hif.batch.map own, unsent := d.hif.unsent.map own }
    ledger := { d.ledger with held := d.ledger.held.map own } }
  let d : Dev := { d with
    cyc := { d.cyc with working := (k.images.map parseImage).find? (fun g => g.num == k.working) } }
  let d := d.set LTM_LINE.LINE_RANK k.lineRank
  let d := d.forEach (k.axisWords ++ k.settings) (fun p d => (d.wr p.1 p.2.toNat).goLive p.1 p.2)
  (d.forEach k.cams (fun t d => d.enterCam t.1 t.2)).showPlanned.bringUpAll 4
/-- PACKAGE body (R373): digest, boot-flash offset and length, generation digests. -/
def packageBody (k : Package) (slot : Nat) : List Byte :=
  padTo 48 (Config.sha384 k.bytes) ++ leBytes 4 (if slot = 0 then 0x1000000 else 0x2000000) ++ leBytes 4 k.bytes.length ++ k.digests.flatMap (padTo 48)
/-- Record fuses to be blown at the command's end. -/
def Dev.burn (f : Fuses) (d : Dev) : Dev := { d with sec := { d.sec with burn := some f } }
/-- The part resets itself at the command's end, with the effect of RESET_DEVICE (R45). -/
def Dev.resetSelf (d : Dev) : Dev := { d with sys := { d.sys with selfReset := true } }
/-- INSTALL_DONE (R461). -/
def Dev.installDone (kind version : Nat) (d : Dev) : Dev := d.post 0x0F00 0x0F07 (leBytes 1 kind ++ leBytes 2 version)

/-- Kind 1: a firmware image is written to the slot not running, then its tag (R449). -/
def Dev.installFirmware (f : Fuses) (b : List Byte) (d : Dev) : Reply × Dev :=
  if b.take 8 ≠ magicFw then (.bad stBAD_PARAMETER, d) else
    let code := verifyImage f b 1 true
    if code ≠ 0 then (.bad (verifyStatus code), d) else
      let toB := d.get SEC_STATUS.BOOT_SLOT = 0
      let other := if toB then d.sec.slotA.seq else d.sec.slotB.seq
      let slot : FlashSlot := ⟨some ((other.getD 0 + 1) % 2 ^ 64), b⟩
      let d : Dev := { d with sec := if toB then { d.sec with slotB := slot } else { d.sec with slotA := slot } }
      let d := d.installDone 1 (fieldAt b 12 2)
      (.done stOK (leBytes 2 (fieldAt b 12 2) ++ leBytes 1 (flag toB)), d.when (d.mode == 3) Dev.resetSelf)
/-- Kind 2: a configuration package is written to the free slot, made active in one transaction and loaded (R449). -/
def Dev.installPackage (f : Fuses) (b : List Byte) (d : Dev) : Reply × Dev :=
  if b.take 8 ≠ magicPkg then (.bad stBAD_PARAMETER, d) else
    let code := verifyImage f b 2 false
    let k := { Config.packageOf b with bytes := b, fwClass := fieldAt b 14 2 }
    if code ≠ 0 then (.bad (verifyStatus code), d)
    else if fieldAt b 14 2 ≠ d.get SEC_FW.CLASS || (d.on RST_STATUS.DRAM_READY && !d.partitionOk k) then (.bad stBAD_PARAMETER, d)
    else
      let slot := if d.sys.package.isNone then 0 else 1 - d.sec.activePkg
      let d : Dev := { d with sec := { (if slot = 0 then { d.sec with pkg0 := some k } else { d.sec with pkg1 := some k }) with activePkg := slot } }
      let d := d.transact [(2, packageBody k slot)]
      (.done stOK ((padTo 48 (Config.sha384 b)).take 16), (d.loadPackage k).installDone 2 (fieldAt b 12 2))
/-- Entry `i` of a provisioning body (R450). -/
def provEntry (b : List Byte) (i : Nat) : List Byte := padTo 52 (((imgBody b).drop (8 + 52 * i)).take 52)
/-- Kind 3: a provisioning image (R449, R450). -/
def Dev.installProvisioning (f : Fuses) (b : List Byte) (d : Dev) : Reply × Dev :=
  let uses := (List.range 3).map (fun i => fieldAt (provEntry b i) 48 1)
  let opt := fieldAt (imgBody b) 164 1
  if b.take 8 ≠ magicProv || imgSlot b ≠ 0xFF || !imgRev b then (.bad stBAD_PARAMETER, d)
  else if !imgHash b || !imgSigned b then (.bad stBAD_SIGNATURE, d)
  else if fieldAt (imgBody b) 0 8 ≠ f.serial || uses.any (fun u => Nat.land u 0xF9 != 0) || !uses.any (fun u => bitAt u 1) || 2 ≤ opt ||
      !(List.range 3).any (fun i => fieldAt (provEntry b i) 48 1 != 0 && (provEntry b i).take 48 == padTo 48 (Config.sha384 (imgKey b))) then
    (.bad stBAD_PARAMETER, d)
  else
    let g := (List.range 3).foldl (fun g i =>
      let u := fieldAt (provEntry b i) 48 1
      if u = 0 then g else g.setRoot (i + 1) ⟨(provEntry b i).take 48, u, (g.root (i + 1)).revoked⟩) f
    let g := { g with provisioned := true, debugLock := true, hotAction := g.hotAction || opt == 1 }
    (.done stOK [], ((d.burn g).installDone 3 (fieldAt b 12 2)).resetSelf)
/-- Kind 4: a revocation image (R449); body byte 0 names the slot (notes/assumptions). -/
def Dev.installRevocation (f : Fuses) (b : List Byte) (d : Dev) : Reply × Dev :=
  let k := fieldAt (imgBody b) 0 1
  let left := fun bit => (List.range 4).any (fun j => j != k && !(f.root j).revoked && bitAt (f.root j).use bit)
  let strands := (List.range 3).any (fun bit => bitAt (f.root k).use bit && !left bit)
  if 4 ≤ k || (f.root k).use = 0 then (.bad stBAD_PARAMETER, d)
  else if imgSlot b = k then (.bad stBAD_SIGNATURE, d)
  else
    let code := verifyImage f b (f.root k).use false
    if code ≠ 0 then (.bad (verifyStatus code), d)
    else if strands then (.bad stBAD_PARAMETER, d)
    else
      let d := ((d.burn (f.setRoot k { f.root k with revoked := true })).post 0x0F00 0x0F09 (leBytes 1 k)).installDone 4 (fieldAt b 12 2)
      (.done stOK [], d.when (d.mode == 3) Dev.resetSelf)
/-- 0x0A05 INSTALL_FIRMWARE (R449, R459). An installation is one command here, so none meets another that runs. -/
def opInstall (f : Fuses) : Opcode :=
  { code := 0x0A05, classes := fun p => if par p 22 1 = 2 then [5] else [],
    modes := fun p d =>
      match par p 22 1 with
      | 1 => modeIn [3, 4] d
      | 2 => modeIn [4] d
      | 3 => if d.get SEC_STATUS.SEALED_REASON = 9 then modeIn [3] d else stWRONG_MODE
      | 4 => modeIn [3, 4] d
      | _ => modeIn fromSealed d,
    run := fun p _ d =>
      let kind := par p 22 1
      let n := par p 32 4
      if kind = 0 || 4 < kind then (.bad stBAD_PARAMETER, d)
      else if (if kind = 1 then 3 * 2 ^ 20 else 2 ^ 24) < n || n < 512 then (.bad stBAD_LENGTH, d)
      else d.hostRead p n (fun b d =>
        if fieldAt b 8 4 ≠ n then (.bad stBAD_LENGTH, d) else
          match kind with
          | 1 => d.installFirmware f b
          | 2 => d.installPackage f b
          | 3 => d.installProvisioning f b
          | _ => d.installRevocation f b) }

/-- The certificate carries the identity key (R451). -/
def certMatches (secret c : List Byte) : Bool :=
  (List.range c.length).any (fun i => (c.drop i).take 97 == padTo 97 (Config.identityPub secret))
/-- 0x0A01 GET_CERTIFICATE (R451, R459). -/
def opGetCert : Opcode :=
  { code := 0x0A01, modes := fun _ => modeIn fromSealed,
    run := fun p _ d =>
      let c := if par p 22 1 = 0 then d.sec.certDev else d.sec.certCa
      let n := outLen p c.length
      if 1 < par p 22 1 then (.bad stBAD_PARAMETER, d)
      else if c.isEmpty || (par p 22 1 = 0 && !certMatches d.sec.idSecret c) then (.bad stNO_RESOURCE, d)
      else if par p 32 2 < n then (.bad stBAD_LENGTH, d)
      else d.hostWrite p (par p 24 8) c (.done stOK (leBytes 2 n)) }
/-- The body of a quote (R452). -/
def Dev.quoteBody (d : Dev) (f : Fuses) (nonce : List Byte) : List Byte :=
  let flags := flag f.provisioned + 2 * flag (!d.sec.scopes.isEmpty || !f.debugLock) + 4 * flag d.sec.opened + 8 * d.get SEC_STATUS.FALLBACK +
    16 * d.get LTM_STATUS.VALID
  let slot := fun k => (f.root k).use + 128 * flag (f.root k).revoked
  padTo 192 (magicQuote ++ leBytes 8 f.serial ++ padTo 32 nonce ++ leBytes 10 d.now ++ leBytes 1 d.mode ++ leBytes 1 flags ++
    leBytes 2 (d.get SEC_FW.VERSION) ++ leBytes 2 (d.get SEC_FW.CLASS) ++ leBytes 8 f.arbValue ++ padTo 48 d.sec.fwHash ++
    (match d.sys.package with | some k => padTo 48 (Config.sha384 k.bytes) | none => zeros 48) ++
    leBytes 1 (slot 0) ++ leBytes 1 (slot 1) ++ leBytes 1 (slot 2) ++ leBytes 1 (slot 3) ++ leBytes 2 (fieldAt d.safSet 2 2))
/-- 0x0A02 ATTEST (R452, R459). -/
def opAttest (f : Fuses) : Opcode :=
  { code := 0x0A02, lMin := 2, lMax := 2, modes := fun _ => modeIn fromSealed,
    run := fun p _ d =>
      let body := d.quoteBody f (extBytes p 0 32)
      d.hostWrite p (par p 22 8) (body ++ padTo 96 (Config.identitySign d.sec.idSecret body)) (.done stOK (leBytes 2 (outLen p 288))) }

/-- Bytes from the random source. -/
def Dev.drawBytes (n : Nat) (d : Dev) : List Byte × Dev :=
  (padTo n (Config.random d.sec.draws), { d with sec := { d.sec with draws := d.sec.draws + 1 } })
/-- A free session identifier from 1 to 0xFFFE, from a drawn number (R453). -/
def Dev.freeSid (d : Dev) (r : Nat) : Nat :=
  (((List.range 9).map (fun i => 1 + (r + i) % 0xFFFE)).find? (fun x => !d.sec.sessions.any (fun y => y.sid == x))).getD 0
/-- Step 0 of a session (R453): exchange. -/
def Dev.openExchange (f : Fuses) (p : Packet) (d : Dev) : Reply × Dev :=
  if 8 ≤ d.sec.sessions.length then (.bad stNO_RESOURCE, d) else
    let hostPub := extBytes p 0 97
    let hostNonce := extBytes p 97 32
    let req := ext p 129 4
    let (priv, d) := d.drawBytes 48
    let (nonce, d) := d.drawBytes 32
    let (r, d) := d.drawBytes 2
    let sid := d.freeSid (leNat r)
    let pub := padTo 97 (Config.ephemeralPub priv)
    let th := padTo 48 (Config.sha384 (hostPub ++ pub ++ hostNonce ++ nonce ++ leBytes 2 sid ++ leBytes 4 req ++ leBytes 8 f.serial))
    let okm := padTo 64 (Config.sessionKey priv (hostPub ++ hostNonce ++ nonce ++ leBytes 2 sid))
    let s : Session := ⟨sid, okm.take 32, okm.drop 32, 0, 0, 0, th, req, some (d.now + ns 1000000000)⟩
    let block := padTo 256 (pub ++ nonce ++ leBytes 2 sid ++ padTo 96 (Config.identitySign d.sec.idSecret th))
    match p.host with
    | none => (.bad stINTERNAL, d.count32 HIF_DMA_ERR_CNT 1)
    | some _ =>
      let d : Dev := { d with sec := { d.sec with sessions := d.sec.sessions ++ [s] } }
      d.hostWrite p (par p 24 8) block (.done stOK (leBytes 2 sid))
/-- Step 1 of a session (R453): proof by a root slot with configuration use, or by a credential of the active package outside Sealed. -/
def Dev.openProof (f : Fuses) (p : Packet) (d : Dev) : Reply × Dev :=
  let sid := par p 24 2
  let cred := par p 26 1
  let key := extBytes p 0 97
  let sig := extBytes p 97 96
  match d.sec.sessions.find? (fun x => x.sid == sid && x.lapses.isSome) with
  | none => (.bad stBAD_PARAMETER, d)
  | some x =>
    let creds := if d.mode = 3 then [] else (d.sys.package.map (·.credentials)).getD []
    if !(cred < 4 || (16 ≤ cred && decide (cred - 16 < creds.length))) then (.bad stBAD_PARAMETER, d) else
      let mask := if cred < 4 then (if f.keyOk cred 2 key then some (2 ^ 32 - 1) else none)
        else match creds[cred - 16]? with
          | some c => if padTo 48 (Config.sha384 key) == padTo 48 c.1 then some c.2 else none
          | none => none
      match mask with
      | some m =>
        if Config.ecdsaOk key x.th sig then
          let g := Nat.land x.requested m
          let d := (d.mapSession sid (fun y => { y with granted := g, lapses := none })).showSessions
          (.done stOK (leBytes 4 g), d.post 0x0F00 0x0F02 (leBytes 2 sid ++ leBytes 4 g ++ leBytes 1 cred))
        else (.bad stBAD_SIGNATURE, d.endSession sid 0)
      | none => (.bad stBAD_SIGNATURE, d.endSession sid 0)
/-- 0x0A03 OPEN_SESSION (R453, R459). -/
def opOpenSession (f : Fuses) : Opcode :=
  { code := 0x0A03, lMin := 9, lMax := 13, modes := fun _ => modeIn fromSealed,
    run := fun p _ d =>
      match par p 22 1 with
      | 0 => if p.len.toNat = 9 then d.openExchange f p else (.bad stBAD_LENGTH, d)
      | 1 => if p.len.toNat = 13 then d.openProof f p else (.bad stBAD_LENGTH, d)
      | _ => (.bad stBAD_PARAMETER, d) }
/-- 0x0A04 CLOSE_SESSION (R455, R459): authenticated under the session it closes. -/
def opCloseSession : Opcode :=
  { code := 0x0A04, modes := fun _ => modeIn fromSealed,
    run := fun p _ d =>
      let sid := par p 22 2
      if hasFlag p 1 && p.session.toNat == sid then (.done stOK [], d.endSession sid 0)
      else (.bad stNOT_AUTHENTICATED, d.count32 SEC_AUTH_FAIL_CNT 1) }
/-- SESSION_PROOF_TIMEOUT (R453): an exchange that was not proved lapses. -/
def Dev.sessionLapse (sid : Nat) (d : Dev) : Dev :=
  if d.sec.sessions.any (fun x => x.sid == sid && x.lapses.isSome) then d.endSession sid 0 else d

/-- SCOPE and SEC_DEBUG_LEFT follow the open scopes (R460). -/
def Dev.showScopes (d : Dev) : Dev :=
  let left := ((d.sec.scopes.map (fun x => (x.2 - d.now) / ns 1000000000)).max?).getD 0
  (d.set SEC_STATUS.SCOPE ((d.sec.scopes.map (·.1)).foldl Nat.lor 0)).wr SEC_DEBUG_LEFT left
/-- A debug token is presented (R457, R458): the scopes opened, or none on a failed token. -/
def Dev.debugToken (f : Fuses) (t : List Byte) (d : Dev) : Option Nat × Dev :=
  if 3 ≤ d.get SEC_TOKEN_FAIL_CNT.COUNT then (none, d) else
    let scope := fieldAt t 48 1
    let dur := fieldAt t 50 4
    let pub := padTo 97 ((t.drop 64).take 97)
    let good := t.take 8 == magicToken && fieldAt t 8 8 == f.serial && d.sec.challenge == some ((t.drop 16).take 32) && decide (scope < 16) &&
      decide (1 ≤ dur) && decide (dur ≤ 86400) && f.keyOk (fieldAt t 49 1) 4 pub &&
      Config.ecdsaOk pub (padTo 256 (t.take 256)) (padTo 96 ((t.drop 256).take 96))
    if good then
      let d : Dev := { d with sec := { d.sec with scopes := d.sec.scopes ++ [(scope, d.now + ns (dur * 1000000000))], opened := true } }
      (some scope, ((d.set SEC_TOKEN_FAIL_CNT.COUNT 0).showScopes).post 0x0F00 0x0F05 (leBytes 1 scope ++ leBytes 1 (fieldAt t 49 1) ++ leBytes 4 dur))
    else (none, d.set SEC_TOKEN_FAIL_CNT.COUNT (d.get SEC_TOKEN_FAIL_CNT.COUNT + 1))
/-- A new challenge (R457). -/
def Dev.newChallenge (d : Dev) : List Byte × Dev :=
  let (c, d) := d.drawBytes 32
  (c, { d with sec := { d.sec with challenge := some c } })
/-- 0x0A06 UNLOCK_DEBUG (R457, R459). -/
def opUnlockDebug (f : Fuses) : Opcode :=
  { code := 0x0A06, modes := fun _ => modeIn [3, 4, 11],
    run := fun p _ d =>
      match par p 22 1 with
      | 0 =>
        let (c, d) := d.newChallenge
        if par p 24 8 = 0 then (.done stOK (c.take 16), d) else d.hostWrite p (par p 24 8) c (.done stOK (c.take 16))
      | 1 => d.hostRead p 352 (fun t d =>
          match d.debugToken f t with
          | (some sc, d) => (.done stOK (leBytes 1 sc), d)
          | (none, d) => (.bad stBAD_SIGNATURE, d))
      | _ => (.bad stBAD_PARAMETER, d) }
/-- DEBUG_MAILBOX (R457): a challenge request (none) or a token at the JTAG mailbox. -/
def Dev.mailbox (f : Fuses) (t : Option (List Byte)) (d : Dev) : Dev :=
  if !([3, 4, 11].contains d.mode) then d else
    match t with
    | none => let (c, d) := d.newChallenge
              d.emit (.jtag c)
    | some t => match d.debugToken f (padTo 352 t) with
      | (some sc, d) => d.emit (.jtag (leBytes 1 sc))
      | (none, d) => d.emit (.jtag [])
/-- DEBUG_SCOPE_EXPIRY (R458): the scope whose duration ends first closes. -/
def Dev.scopeExpiry (d : Dev) : Dev :=
  match (d.sec.scopes.map (·.2)).min? with
  | none => d
  | some t =>
    let d := d.reach t
    let ended := d.sec.scopes.filter (fun x => decide (x.2 ≤ t))
    let d : Dev := { d with sec := { d.sec with scopes := d.sec.scopes.filter (fun x => decide (t < x.2)) } }
    d.showScopes.post 0x0F00 0x0F06 (leBytes 1 ((ended.map (·.1)).foldl Nat.lor 0))

/-- SESSION_PROOF_TIMEOUT. -/
def execSessionProofTimeout (sid : BitVec 16) (s : State) : Answer := .next (s.onDev (Dev.sessionLapse sid.toNat))
/-- GET_CERTIFICATE. -/
def execGetCertificate (p : Packet) (s : State) : Answer := .next (s.onDev (Dev.packet opGetCert p))
/-- ATTEST. -/
def execAttest (p : Packet) (s : State) : Answer := .next (s.onDev (Dev.packet (opAttest s.fuses) p))
/-- OPEN_SESSION. -/
def execOpenSession (p : Packet) (s : State) : Answer := .next (s.onDev (Dev.packet (opOpenSession s.fuses) p))
/-- CLOSE_SESSION. -/
def execCloseSession (p : Packet) (s : State) : Answer := .next (s.onDev (Dev.packet opCloseSession p))
/-- UNLOCK_DEBUG. -/
def execUnlockDebug (p : Packet) (s : State) : Answer := .next (s.onDev (Dev.packet (opUnlockDebug s.fuses) p))
/-- DEBUG_MAILBOX. -/
def execDebugMailbox (t : Option (List Byte)) (s : State) : Answer := .next (s.onDev (Dev.mailbox s.fuses t))
/-- DEBUG_SCOPE_EXPIRY. -/
def execDebugScopeExpiry (s : State) : Answer := .next (s.onDev Dev.scopeExpiry)

end Sys2Proof.Machine
end

