-- ==== Sys2Proof/Machine/Reset.lean ====
section
/-! DEFINITION. Sys2Proof/Machine/Reset.lean: reset sources, the tally, the release sequence and the boot (R44, R45, R372 to R380, R446, R447,
R487 to R503). -/
namespace Sys2Proof.Machine

/-- The last-cause record as bytes 36 to 49 of the tally image (R499). -/
def causeBytes : Option CauseRecord → List Byte
  | some c => leBytes 1 c.source ++ leBytes 1 c.detail ++ leBytes 10 c.time ++ leBytes 1 (flag c.timeValid + 2 * flag c.rtcValid) ++ leBytes 1 c.mode
  | none => leBytes 1 0xFF ++ zeros 13
/-- The 64-byte tally image (R499). -/
def tallyImage (b : Backup) : List Byte :=
  padTo 64 (padTo 36 (leBytes 2 1 ++ zeros 2 ++ b.counters.flatMap (leBytes 2)) ++ causeBytes b.cause)
/-- What the real-time clock reads now: seconds and 32.768 kHz ticks (R493). It counts from the value last stored. -/
def rtcNow (b : Backup) (d : Dev) : Nat × Nat :=
  let ticks := b.rtcSec * 32768 + b.rtcSub + ((d.now : Int) - d.sys.rtcAt).toNat * 32768 / (65536 * 1000000000)
  (ticks / 32768 % 2 ^ 48, ticks % 32768)
/-- rtc_to_line of R493, exact. -/
def rtcToLine (sec sub : Nat) : LTime := sec * 1000000000 * 65536 + sub * 1000000000 * 2

/-- Events that are held until the ring can take them (R56, R499): MODE_CHANGE and RESET_CAUSE. -/
def mustSend (e : Event) : Bool := (e.src == 0 && e.code == 1) || (e.src == 0x0010 && e.code == 0x0012)
/-- Everything but the backup domain, the fuses, the boot flash and the ledger goes to its reset value; `m` is 1 in Reset, 0 in Backup. -/
def Dev.cleared (m : Nat) (d : Dev) : Dev :=
  let e : Dev := { Dev.reset with
    free := d.free
    sys := { Sys.reset with asserted := d.sys.asserted }
    sec := { Sec.reset with
      slotA := d.sec.slotA, slotB := d.sec.slotB, pkg0 := d.sec.pkg0, pkg1 := d.sec.pkg1, activePkg := d.sec.activePkg
      certDev := d.sec.certDev, certCa := d.sec.certCa, draws := d.sec.draws }
    ledger := { d.ledger with compacting := none, recent := [], held := d.ledger.held ++ (d.hif.unsent ++ d.hif.batch).filter mustSend }
    out := d.out ++ [if m = 0 then .floatPins else .resetPins] }
  e.set SYS_MODE.MODE m
/-- A source's counter in the tally counts and saturates (R498). -/
def bumpTally (src : Nat) (cs : List Nat) : List Nat := cs.zipIdx.map (fun c => if c.2 == src then satAdd 16 c.1 1 else c.1)
/-- A reset source asserts (R494, R498): the tally takes it and the part goes to mode `m`. -/
def State.assertReset (src detail m : Nat) (s : State) : State :=
  let rt := rtcNow s.backup s.dev
  { s with
    backup := { s.backup with
      counters := bumpTally src s.backup.counters
      cause := some ⟨src, detail, s.dev.now, s.dev.on LTM_STATUS.VALID, false, s.dev.mode⟩
      rtcSec := rt.1, rtcSub := rt.2 }
    dev := s.dev.cleared m }
/-- A source that can assert only while the main supplies are valid. -/
def State.powered (f : State → State) (s : State) : State := if s.dev.mode = 0 then s else f s

/-- The host has lapsed (R408): cause 0 heartbeat, 1 link-down, 2 Function Level Reset. -/
def Dev.hostLapse (cause : Nat) (d : Dev) : Dev :=
  if d.hasCond condHOST_LOST then d else
    let d : Dev := { d with hif := { d.hif with lapse := some d.now } }
    let d := ((d.set HIF_STATUS.HOST_LOST 1).cond condHOST_LOST true).post 0 5 (leBytes 1 cause)
    d.when (d.get HIF_HOSTLOSS.POLICY = 1 && d.permit && (d.sync || d.mode == 11))
      (Dev.logInput 0x01 68 (.stopGroup (d.get HIF_HOSTLOSS.GROUPS) false 0 0xFFFF) none)
/-- Registers from `lo` up to `hi` go to their reset values, shadow, live and latched copies alike. -/
def Dev.resetWindow (lo hi : Nat) (d : Dev) : Dev :=
  { d with
    regs := d.regs.filter (fun p => p.1 < lo || hi ≤ p.1)
    live := d.live.filter (fun p => p.1 < lo || hi ≤ p.1)
    latch := d.latch.filter (fun p => p.1 < lo || hi ≤ p.1) }
/-- A Function Level Reset (R386, R408): it resets only HIF and counts as a lapse; commands already dispatched complete without writing. -/
def Dev.functionReset (d : Dev) : Dev :=
  if !d.ready then d else
    let d := ((d.endSessions 3).hostLapse 2).deleteJobs
    let keep := d.rd HIF_STATUS
    let d := (d.resetWindow 0x10000 0x20000).wr HIF_STATUS keep
    let d := d.set HIF_STATUS.FLR_SEEN 1
    let d := d.set HIF_STATUS.HOST_LOST 1
    { d with hif := { d.hif with held := [], kept := [], vectors := [], dropped := 0, unsent := [], lastReply := [], turn := [], inWork := [], epoch := d.hif.epoch + 1 } }
/-- The PCIe link goes down (R408). -/
def Dev.linkDownHost (d : Dev) : Dev := if d.mode < 3 then d else ((d.set HIF_STATUS.SPEED 0).set HIF_STATUS.WIDTH 0).hostLapse 1
/-- PERST_N (R497): low acts as a Function Level Reset and holds the link down. -/
def Dev.perstPin (low : Bool) (d : Dev) : Dev :=
  let d : Dev := { d with hif := { d.hif with perst := low } }
  if low then d.functionReset.linkDownHost else d

/-- RST_TALLY registers follow the tally. -/
def Dev.showTally (b : Backup) (d : Dev) : Dev := d.forEach b.counters.zipIdx (fun c d => d.wr (RST_TALLY c.2) c.1)
/-- The fuse values that show at once (R460). -/
def Dev.showFuses (f : Fuses) (d : Dev) : Dev :=
  let slot := fun k => (f.root k).use + 128 * flag (f.root k).revoked
  (d.set SEC_ARB.VALUE f.arbValue).wr SEC_ROOTS (slot 0 + 256 * slot 1 + 65536 * slot 2 + 16777216 * slot 3)
/-- A self-reset, or a RESET_DEVICE whose 1 ms has passed (R45, R405). -/
def State.takeReset (s : State) : State :=
  if s.dev.sys.selfReset || s.dev.sys.resetDue.any (fun t => decide (t ≤ s.dev.now)) then s.assertReset 6 0 1 else s
/-- The tally without the counters that a mask selects; bit 15 takes the last-cause record (R499). -/
def Backup.clearTally (m : Nat) (b : Backup) : Backup :=
  { b with counters := b.counters.zipIdx.map (fun c => if bitAt m c.2 then 0 else c.1), cause := if bitAt m 15 then none else b.cause }
/-- What a packet leaves for its command's end: fuses it has blown, tally counters it clears, a reset (R45, R405, R441, R499). -/
def State.settle (s : State) : State :=
  let f := s.dev.sec.burn.getD s.fuses
  let b := match s.dev.sys.clearTally with | some m => s.backup.clearTally m | none => s.backup
  let d := if s.dev.sec.burn.isSome then Dev.showFuses f { s.dev with sec := { s.dev.sec with burn := none } } else s.dev
  let d := if s.dev.sys.clearTally.isSome then Dev.showTally b { d with sys := { d.sys with clearTally := none } } else d
  State.takeReset { s with fuses := f, backup := b, dev := d }

/-- The release sequence up to the boot ROM (R500 steps 1 to 4, R503): straps, supplies, references, fuses, tally, real-time clock, safety
self-tests. `passed` holds the safety channels that pass theirs. -/
def State.release (straps vmon levels refs passed sec sub : Nat) (s : State) : State :=
  if s.dev.mode ≠ 1 || !s.dev.sys.asserted.isEmpty then s else
    let src := (s.backup.cause.map (·.source)).getD 0xF
    let x32 := bitAt refs 1
    let b : Backup := { s.backup with rtcValid := s.backup.rtcValid && x32 }
    let b : Backup := if b.rtcValid then { b with rtcSec := sec % 2 ^ 48, rtcSub := sub % 32768 } else b
    let b : Backup := { b with cause := b.cause.map (fun c => { c with rtcValid := b.rtcValid }) }
    let t := if b.rtcValid then rtcToLine b.rtcSec b.rtcSub else 0
    let d := s.dev
    let d : Dev := { d with
      sys := { d.sys with bootSel := straps % 4, pairEnd := bitAt straps 2, rtcAt := (t : Int) }
      ltm := { d.ltm with now := t }
      sec := { d.sec with idSecret := Config.pufSecret s.fuses.pufHelper } }
    let why := if src ≤ 1 then 1 else 2
    let d := (((d.set SYS_MODE.MODE 2).set SYS_MODE.PREV_MODE 1).set SYS_MODE_CAUSE.CAUSE why).set SYS_MODE.HEAD_END (flag (bitAt straps 2))
    let d := (d.wr64 SYS_MODE_TIME_LO (t / 65536 % 2 ^ 64)).set SYS_ID.GRADE s.fuses.grade
    -- tally, clock and supplies
    let c := b.cause
    let d := ((d.showTally b).set RST_CAUSE.SOURCE (if c.isSome then src else 0xF)).set RST_CAUSE.DETAIL ((c.map (·.detail)).getD 0)
    let d := (d.set RST_CAUSE.TIME_VALID (flag ((c.map (·.timeValid)).getD false))).wr64 RST_CAUSE_TIME_LO (((c.map (·.time)).getD 0) / 65536 % 2 ^ 64)
    let d := ((d.set RST_CTRL.HOT_ACTION (flag s.fuses.hotAction)).set RST_STATUS.BACKUP_LOST (flag (src == 0))).set RST_RTC_SUB.VALID (flag b.rtcValid)
    let d := (d.wr RST_VMON (vmon % 2 ^ 17)).wr CLK_REFMON (refs % 16)
    let d := d.forN 8 (fun n d => (d.set (PIN_BANK.POWERED n) (flag (bitAt vmon (8 + n)))).set (PIN_BANK.LEVEL n) (flag (bitAt levels n)))
    let d := ((d.runPlls 2).set CLK_PLL.LOCKED 9).runCores 2
    -- fuses
    let d := ((d.showFuses s.fuses).set SEC_STATUS.PROVISIONED (flag s.fuses.provisioned)).set SEC_STATUS.DEBUG_LOCK (flag s.fuses.debugLock)
    let d := d.set SEC_STATUS.LAST_VIOLATION (if src = 5 then (c.map (·.detail)).getD 0 else 0)
    -- safety channels
    let d := d.set SAF_STATUS.CH_ACTIVE (passed % 8)
    let d := d.forN 3 (fun n d => d.when (!bitAt passed n) (Dev.failChannel n 3))
    let d := d.when (src == 0) (Dev.post 0x0010 0x0014 [0])
    let d := d.when (s.backup.rtcValid && !x32) (Dev.post 0x0010 0x0014 (leBytes 1 1))
    let d := d.post 0 1 (modeChangeData 2 1 why 0 none none false)
    { s with backup := b, dev := d }

/-- Boot-flash slots in the order in which the ROM tries them (R446): slot number (0 A, 1 B) and image. -/
def Dev.bootOrder (d : Dev) : List (Nat × List Byte) :=
  let a := d.sec.slotA.seq.map (fun q => (q, 0, d.sec.slotA.image))
  let b := d.sec.slotB.seq.map (fun q => (q, 1, d.sec.slotB.image))
  match a, b with
  | some x, some y => if d.sys.bootSel = 2 || x.1 < y.1 then [y.2, x.2] else [x.2, y.2]
  | some x, none => [x.2]
  | none, some y => [y.2]
  | none, none => []
/-- The first image that verifies, and the failure codes of those tried before it (R446). -/
def tryBoot (f : Fuses) : List (Nat × List Byte) → List Nat → Option (Nat × List Byte) × List Nat
  | [], codes => (none, codes)
  | x :: xs, codes =>
    let c := verifyImage f x.2 1 true
    if c = 0 then (some x, codes) else tryBoot f xs (codes ++ [c])

/-- Entries of an area's snapshot (R372, R376). -/
def snapCount (a : LedgerArea) : Nat :=
  (a.journal.foldl (fun (acc : Nat × Nat) e => if acc.2 + entryLen e.body ≤ a.snapshot then (acc.1 + 1, acc.2 + entryLen e.body) else (acc.1, a.snapshot + 1)) (0, 0)).1
/-- What the walk of R375 keeps when entry `bad` is the first that fails: the snapshot and the complete transactions before it. -/
def walkJournal (a : LedgerArea) (bad : Option Nat) : List LedgerEntry :=
  match bad with
  | none => a.journal
  | some k =>
    let n := snapCount a
    let good := a.journal.take k
    good.take n ++ ((good.drop n).reverse.dropWhile (fun e => e.typ != 1)).reverse
/-- The ledger is read (R375, R379, R380): whether each area's tag checks, the first entry of the chosen area that fails its CRC, and how many
entries of a cut transaction stand behind the journal. -/
def Dev.readLedger (aOk bOk : Bool) (bad : Option Nat) (torn : Nat) (d : Dev) : Dev :=
  let l := d.ledger
  let va := l.areaA.committed && !l.areaA.retired && aOk
  let vb := l.areaB.committed && !l.areaB.retired && bOk
  if va && vb && l.areaA.gen == l.areaB.gen && l.areaA != l.areaB then
    ((((d.set LDG_STATUS.VALID_A 1).set LDG_STATUS.VALID_B 1).set LDG_STATUS.CONFLICT 1).cond condLEDGER_CONFLICT true).post 0x1000 0x1009 (leBytes 8 l.areaA.gen)
  else if !va && !vb then
    let fresh : LedgerArea := { LedgerArea.reset with gen := 1, created := d.now, firstSeq := 1, committed := true }
    let d : Dev := { d with ledger := { Ledger.reset with areaA := fresh } }
    let d := ((d.set LDG_STATUS.EMPTY 1).set LDG_STATUS.VALID_A 1).wr64 LDG_GEN_LO 1
    (d.post 0x1000 0x100B []).showLedger
  else
    let inB := vb && (!va || l.areaA.gen < l.areaB.gen)
    let l := if va && vb then (if inB then { l with areaA := { l.areaA with retired := true } } else { l with areaB := { l.areaB with retired := true } }) else l
    let l := { l with active := flag inB }
    let kept := walkJournal l.area bad
    let lost := l.area.journal.length - kept.length + torn
    let next := ((kept.getLast?).map (fun e => e.seq + 1)).getD l.area.firstSeq
    let l := { l.setArea { l.area with journal := kept } with nextSeq := next }
    let d : Dev := { d with ledger := l }
    let d := (d.set LDG_STATUS.VALID_A (flag (!inB))).set LDG_STATUS.VALID_B (flag inB)
    let d := ((d.set LDG_STATUS.ACTIVE_AREA (flag inB)).wr64 LDG_GEN_LO l.area.gen).showLedger
    let d := d.when bad.isSome (Dev.count32 LDG_CRC_ERR 1)
    d.when (lost != 0) (fun d => (d.set LDG_STATUS.TORN 1).post 0x1000 0x100A (leBytes 4 lost))
/-- The entries that boot loads from. -/
def Dev.journal (d : Dev) : List LedgerEntry := if d.on LDG_STATUS.CONFLICT then [] else d.ledger.area.journal
/-- The active package as the PACKAGE entry names it, when it verifies (R373, R446). -/
def Dev.bootPackage (f : Fuses) (d : Dev) : Option (Nat × Package) :=
  match (d.journal.filter (fun e => e.typ == 2)).getLast? with
  | none => none
  | some e =>
    let slot := if fieldAt e.body 48 4 = 0x1000000 then 0 else 1
    match if slot = 0 then d.sec.pkg0 else d.sec.pkg1 with
    | none => none
    | some k =>
      if padTo 48 (Config.sha384 k.bytes) == e.body.take 48 && verifyImage f k.bytes 2 false == 0 && k.fwClass == d.get SEC_FW.CLASS then some (slot, k)
      else none
/-- Duty modes, line rank, store identity, chain head and calibration records come back from the ledger (R373, R407, R443). -/
def Dev.loadSettings (d : Dev) : Dev :=
  let j := d.journal
  let d := d.forN 8 (fun n d => d.when (lastSetting j 0 n == some 1) (Dev.cond (condHA n) true))
  let d := match lastSetting j 0x0200 0 with | some r => d.set LTM_LINE.LINE_RANK r | none => d
  let ident := (List.range 4).map (lastSetting j 0x1000)
  let gen := (lastSetting j 0x1000 4).getD 0
  let d : Dev := { d with sto := { d.sto with
    identity := if ident.all (·.isSome) then some (ident.flatMap (fun x => leBytes 4 (x.getD 0))) else none
    keyGen := gen } }
  let d := d.wr SEC_KEYGEN gen
  let d := match (j.filter (fun e => e.typ == 9)).getLast? with
    | some e =>
      let num := fieldAt e.body 0 8
      let hash := padTo 48 ((e.body.drop 8).take 48)
      let ds := (List.range 4).filterMap (fun i =>
        if fieldAt e.body (60 + 12 * i) 8 == 0 && fieldAt e.body (56 + 12 * i) 4 == 0 then none
        else some (i, fieldAt e.body (56 + 12 * i) 4, fieldAt e.body (60 + 12 * i) 8))
      let d : Dev := { d with sto := { d.sto with next := num + 1, prev := hash, headNum := num, headHash := hash, headDrives := ds } }
      d.wr64 STO_NEWEST_LO num
    | none => d
  { d with trc := { d.trc with
    cal := (lastPer 7 (fun e => fieldAt e.body 0 1 * 65536 + fieldAt e.body 2 2) j).map (fun e => (fieldAt e.body 0 1 * 65536 + fieldAt e.body 2 2, padTo 48 e.body)) } }
/-- The safety channels at Boot (R328, R332, R348): output test (bit 2n pin A, 2n + 1 pin B of output n failed), the channels whose copy of the
active set fails its check code, and the seal reading. -/
def Dev.bootSafety (outBad copyBad r1 r2 : Nat) (d : Dev) : Dev :=
  let bytes := (lastSet 3 d.journal).flatMap (·.body)
  let d : Dev := { d with saf := { d.saf with active := if bytes.isEmpty then none else some (bytes.take (fieldAt bytes 8 4)) } }
  let d := d.when (r1 == r2) (Dev.set SAF_SEAL.READING r1)
  let d := d.forN 8 (fun k d => d.when (bitAt outBad k) (fun d =>
    let x := d.sout (k / 2)
    (d.setSout (k / 2) (if k % 2 = 0 then { x with badA := 2 } else { x with badB := 2 })).safPost 0x0C06 (leBytes 1 (k / 2) ++ leBytes 1 (k % 2))))
  let d := d.when (outBad != 0) (Dev.lockout 5)
  let d := d.when (d.saf.active.isSome && Nat.land copyBad (d.get SAF_STATUS.CH_ACTIVE) != 0) (Dev.lockout 6)
  let d := d.when (r1 == r2) Dev.sealCheck
  d.showSafety

/-- Entry to Sealed with a reason (R448). -/
def Dev.seal (reason cause : Nat) (d : Dev) : Dev :=
  (d.set SEC_STATUS.SEALED_REASON reason).enterMode 3 cause 0 none false
/-- The end of the boot ROM's work (R45, R446 to R448, R499, R500 steps 5 and 6). -/
def State.boot (aOk bOk : Bool) (bad : Option Nat) (torn outBad copyBad r1 r2 : Nat) (tasks : List FwTask) (classes : List (Fin 4)) (s : State) : State :=
  if s.dev.mode ≠ 2 then s else
    let d := s.dev.set HIF_STATUS.READY 1
    let src := (s.backup.cause.map (·.source)).getD 0xFF
    let d := d.post 0x0010 0x0012 ((causeBytes s.backup.cause).take 13)
    if src = 5 then
      { s with dev := (d.post 0x0F00 0x0F0A (leBytes 1 ((s.backup.cause.map (·.detail)).getD 0))).seal 10 0x0F }
    else if d.sys.bootSel = 0 then { s with dev := d.seal 7 4 }
    else match tryBoot s.fuses d.bootOrder [] with
      | (none, codes) => { s with dev := d.seal ((codes.getLast?).getD 8) 4 }
      | (some (slot, img), codes) =>
        let d := (((d.set SEC_STATUS.BOOT_SLOT slot).set SEC_STATUS.FALLBACK (flag (!codes.isEmpty))).set SEC_FW.VERSION (fieldAt img 12 2)).set SEC_FW.CLASS (fieldAt img 14 2)
        let d : Dev := { d with sec := { d.sec with fwHash := padTo 48 ((img.drop 208).take 48) } }
        let d := match codes with | c :: _ => d.post 0x0F00 0x0F01 (leBytes 1 c) | [] => d
        if !s.fuses.provisioned then { s with dev := d.seal 9 5 } else
          let d := d.readLedger aOk bOk bad torn
          let d := d.loadSettings
          let d := match d.bootPackage s.fuses with
            | some (slot, k) => Dev.loadPackage k { d with sec := { d.sec with activePkg := slot } }
            | none => d
          let d := match lastSetting d.journal 0x0200 0 with | some r => d.set LTM_LINE.LINE_RANK r | none => d
          let d := d.bootSafety outBad copyBad r1 r2
          -- the watchdog runs under a timeout of the firmware's choice (R496)
          let (w, d) := d.draw
          let d := d.set RST_WDT.TIMEOUT (10 + w % 991)
          -- the anti-rollback counter advances at the first entry to Configure (R447)
          let v := fieldAt img 16 8
          let up := bitAt (fieldAt img 33 1) 0 && decide (s.fuses.arbValue < v)
          let f := if up then { s.fuses with arb := Nat.lor s.fuses.arb (2 ^ min v 64 - 1) } else s.fuses
          let d := (d.enterMode 4 3 0 none false).createFirmware tasks
          let d := d.forEach (classes.take 16).zipIdx (fun c d => d.set (DMA_CH_STATUS.CLASS c.2) c.1.val)
          let d := if up then (d.showFuses f).post 0x0F00 0x0F08 (leBytes 1 v) else d
          { s with fuses := f, dev := d }

/-- DRAM training completes (R37, R428, R501): the DRAM fitted in GiB and the contexts that firmware then builds. A package whose partition does
not fit is refused. -/
def Dev.dramTrained (gib : Nat) (ctxs : List MmuSetup) (d : Dev) : Dev :=
  if d.mode < 4 || d.on RST_STATUS.DRAM_READY then d else
    let d : Dev := { d with sys := { d.sys with dramGiB := gib } }
    if gib < 4 then d else
      let d := (d.set RST_STATUS.DRAM_READY 1).createContexts ctxs
      match d.sys.package with
      | some k => if d.partitionOk k then d else Dev.showPlanned { d with sys := { d.sys with package := none }, cyc := { d.cyc with working := none } }
      | none => d
/-- A PLL loses lock (R492): PLL_SYS and PLL_TIME reset the part. -/
def State.pllUnlock (i : Nat) (s : State) : State :=
  if i = 0 || i = 3 then (if bitAt (s.dev.get CLK_PLL.RUNNING) i then s.assertReset 4 1 1 else s) else s.onDev (Dev.pllLost i)
/-- RESET_N (R495): low for long enough, or high again. -/
def State.resetPin (low : Bool) (s : State) : State :=
  if s.dev.mode = 0 then s
  else if low then (s.onDev (fun d => { d with sys := { d.sys with asserted := [3] } })).assertReset 3 0 1
  else s.onDev (fun d => { d with sys := { d.sys with asserted := [] } })
/-- A reset through the debug port (R457, R494): the port is open while DEBUG_LOCK is unblown, or by an open scope. -/
def State.debugReset (s : State) : State :=
  if 2 ≤ s.dev.mode && (!s.fuses.debugLock || !s.dev.sec.scopes.isEmpty) then s.assertReset 8 0 1 else s
/-- A PCIe hot reset or link disable (R497). -/
def State.hotReset (s : State) : State :=
  if !s.dev.ready then s else if s.dev.on RST_CTRL.HOT_ACTION then s.assertReset 7 0 1 else s.onDev Dev.functionReset
/-- The backup domain's supply rises from below 1.6 V (R494, R498): everything is cleared, and counter 0 is set to 1. -/
def State.backupPor (s : State) : State :=
  { s with
    backup := { Backup.reset with counters := 1 :: List.replicate 8 0, cause := some ⟨0, 0, 0, false, false, 0⟩ }
    dev := s.dev.cleared 1 }

/-- MAIN_SUPPLY_LOSS. -/
def execMainSupplyLoss (s : State) : Answer := .next (s.powered (State.assertReset 2 0 0))
/-- MAIN_SUPPLIES_VALID. -/
def execMainSuppliesValid (s : State) : Answer := .next (if s.dev.mode = 0 then s.onDev (Dev.set SYS_MODE.MODE 1) else s)
/-- BACKUP_POR. -/
def execBackupPor (s : State) : Answer := .next s.backupPor
/-- MAIN_POR. -/
def execMainPor (s : State) : Answer := .next (s.assertReset 1 0 1)
/-- BROWN_OUT. -/
def execBrownOut (s : State) : Answer := .next (s.powered (State.assertReset 2 0 1))
/-- RESET_N: the pin's level. -/
def execResetN (low : Bool) (s : State) : Answer := .next (s.resetPin low)
/-- WATCHDOG_EXPIRY: the watchdog runs from the boot ROM on (R496). -/
def execWatchdogExpiry (s : State) : Answer := .next (if 2 ≤ s.dev.mode then s.assertReset 4 0 1 else s)
/-- SECURITY_VIOLATION: code of R444 less one. -/
def execSecurityViolation (code : Fin 5) (s : State) : Answer := .next (s.powered (State.assertReset 5 (code.val + 1) 1))
/-- PCIE_HOT_RESET. -/
def execPcieHotReset (s : State) : Answer := .next s.hotReset
/-- DEBUG_RESET. -/
def execDebugReset (s : State) : Answer := .next s.debugReset
/-- RESET_RELEASE: straps (BOOT_SEL0, BOOT_SEL1, PAIR_END), RST_VMON bits, level class of each I/O bank, CLK_REFMON bits, safety channels that
pass their self-test, reading of a valid real-time clock. -/
def execResetRelease (straps : BitVec 3) (vmon : BitVec 17) (levels : BitVec 8) (refs : BitVec 4) (passed : BitVec 3) (sec : BitVec 48) (sub : BitVec 15)
    (s : State) : Answer :=
  .next (s.release straps.toNat vmon.toNat levels.toNat refs.toNat passed.toNat sec.toNat sub.toNat)
/-- DRAM_TRAINED: DRAM fitted in GiB, contexts and tables of firmware. -/
def execDramTrained (gib : Fin 33) (ctxs : List MmuSetup) (s : State) : Answer := .next (s.onDev (Dev.dramTrained gib.val ctxs))
/-- PLL_UNLOCK: PLL index (R491). -/
def execPllUnlock (i : Fin 9) (s : State) : Answer := .next (s.pllUnlock i.val)
/-- HOST_HEARTBEAT_LAPSE: a nonzero timeout has passed since the last HEARTBEAT (R408). -/
def execHostHeartbeatLapse (s : State) : Answer := .next (if s.dev.get HIF_HB.TIMEOUT = 0 then s else
  s.onDev (fun d => (d.reach (d.hif.hbLast + ns (d.get HIF_HB.TIMEOUT * 1000000))).hostLapse 0))
/-- PCIE_LINK_DOWN. -/
def execPcieLinkDown (s : State) : Answer := .next (s.onDev Dev.linkDownHost)
/-- PERST_N: the pin's level. -/
def execPerstN (low : Bool) (s : State) : Answer := .next (s.onDev (Dev.perstPin low))
/-- FUNCTION_LEVEL_RESET. -/
def execFunctionLevelReset (s : State) : Answer := .next (s.onDev Dev.functionReset)
/-- PCIE_LINK_TRAINED (R385): speed code and lanes; not while PERST_N is low. -/
def execPcieLinkTrained (speed width : Fin 9) (s : State) : Answer :=
  .next (if s.dev.mode < 3 || s.dev.hif.perst then s else s.onDev (fun d => (d.set HIF_STATUS.SPEED speed.val).set HIF_STATUS.WIDTH width.val))
/-- INSTALL_FIRMWARE. -/
def execInstallFirmware (p : Packet) (s : State) : Answer := .next (s.onDev (Dev.packet (opInstall s.fuses) p)).settle

end Sys2Proof.Machine
end

