-- ==== Sys2Proof/Machine/Rings.lean ====
section
/-! DEFINITION. Sys2Proof/Machine/Rings.lean: the rings of the host interface: doorbells, enabling and disabling, PCIe failures, interrupt
coalescing, and the batch of events written to the event ring (R117, R137, R138, R387 to R397). -/
namespace Sys2Proof.Machine

/-- A ring error is posted (R413): 0 SQ, 1 CQ, 2 event ring; ring; code. -/
def Dev.ringError (kind n code : Nat) (d : Dev) : Dev := d.post 0 7 (leBytes 1 kind ++ leBytes 1 n ++ leBytes 1 code)
/-- An SQ's status takes an error (R412). -/
def Dev.sqError (q code : Nat) (d : Dev) : Dev := (d.set (HIF_SQ_STATUS.ERR q) 1).set (HIF_SQ_STATUS.CODE q) code
/-- SQ_DOORBELL (R389): the new tail makes entries ready; a value outside the ring is refused. -/
def Dev.sqDoorbell (q v : Nat) (d : Dev) : Dev :=
  if !d.ready then d
  else if v < ringSize (d.get (HIF_SQ_CFG.SIZE_LOG2 q)) then d.wr (HIF_DB_SQ q) v
  else (d.sqError q 1).ringError 0 q 1
/-- CQ_DOORBELL (R389): consumed entries free their space, and replies that waited for it are written (R393). -/
def Dev.cqDoorbell (c v : Nat) (d : Dev) : Dev :=
  if !d.ready then d
  else if v < ringSize (d.get (HIF_CQ_CFG.SIZE_LOG2 c)) then (d.wr (HIF_DB_CQ c) v).pumpCq c
  else (d.set (HIF_CQ_OWED.ERR c) 1).ringError 1 c 1
/-- EVT_DOORBELL (R389). -/
def Dev.evtDoorbell (v : Nat) (d : Dev) : Dev :=
  if !d.ready then d
  else if v < ringSize (d.get HIF_EVT_CFG.SIZE_LOG2) then d.wr HIF_DB_EVT v
  else d.ringError 2 0 1

/-- The bits of a configuration word that the register stores (R12, R412). -/
def cfgBits (kind v : Nat) : Nat := Nat.land v (if kind = 0 then 0xFFF1 else 0x3FF1)
/-- Configuration register of a ring: 0 SQ, 1 CQ, 2 event ring. -/
def ringCfg (kind n : Nat) : Nat := match kind with | 0 => HIF_SQ_CFG n | 1 => HIF_CQ_CFG n | _ => HIF_EVT_CFG
/-- A write of a ring's configuration with EN = 1 (R388): a disabled ring is enabled with its own index 0 and its doorbell 0, an enabled one
keeps its configuration. -/
def Dev.ringEnable (kind n v : Nat) (d : Dev) : Dev :=
  let a := ringCfg kind n
  let w := cfgBits kind (withBits v 0 0 1)
  if !d.ready || bitAt (d.rd a) 0 then d else
    match kind with
    | 0 =>
      if d.on (HIF_CQ_CFG.EN (bitsOf w 13 8)) then ((d.wr a w).set (HIF_SQ_HEAD.HEAD n) 0).wr (HIF_DB_SQ n) 0
      else (d.wr a (withBits w 0 0 0)).sqError n 4
    | 1 => (((d.wr a w).wr (HIF_CQ_TAIL n) 0x10000).wr (HIF_DB_CQ n) 0).pumpCq n
    | _ => ((d.wr a w).set HIF_EVT_TAIL.TAIL 0).wr HIF_DB_EVT 0
/-- Enabled SQs that a CQ serves. -/
def Dev.boundSqs (d : Dev) (c : Nat) : List Nat := (List.range 64).filter (fun q => d.on (HIF_SQ_CFG.EN q) && d.get (HIF_SQ_CFG.CQ q) == c)
/-- A write of a ring's configuration with EN = 0 (R388, R397): an enabled ring is disabled and keeps its configuration, a disabled one is
configured. A CQ to which an enabled SQ is bound stays enabled. -/
def Dev.ringDisable (kind n v : Nat) (d : Dev) : Dev :=
  let a := ringCfg kind n
  if !d.ready then d
  else if !bitAt (d.rd a) 0 then d.wr a (cfgBits kind (withBits v 0 0 0))
  else if kind = 1 && !(d.boundSqs n).isEmpty then (d.set (HIF_CQ_OWED.ERR n) 1).forEach (d.boundSqs n) (fun q d => d.sqError q 3)
  else d.wr a (withBits (d.rd a) 0 0 0)
/-- A fetch of an SQ entry or a write to a CQ or the event ring fails at PCIe (R397): the ring is disabled. The completion whose write
failed is still owed. -/
def Dev.dmaError (kind n : Nat) (d : Dev) : Dev :=
  let a := ringCfg kind n
  if !d.ready || !bitAt (d.rd a) 0 then d else
    let d := (d.wr a (withBits (d.rd a) 0 0 0)).count32 HIF_DMA_ERR_CNT 1
    let d : Dev := match kind with
      | 0 => d.sqError n 2
      | 1 =>
        let d : Dev := d.set (HIF_CQ_OWED.ERR n) 1
        match d.hif.lastReply.find? (fun (r : KeptReply) => r.cq == n) with
        | some r =>
          let d : Dev := { d with hif := { d.hif with kept := r :: d.hif.kept, lastReply := d.hif.lastReply.erase r } }
          d.set (HIF_CQ_OWED.COUNT n) (d.get (HIF_CQ_OWED.COUNT n) + 1)
        | none => d
      | _ => d
    d.ringError kind n 2
/-- MSIX_COALESCE_TIMEOUT (R396): the oldest unsignalled entry of vector `v` has waited TIME µs. -/
def Dev.coalesced (v : Nat) (d : Dev) : Dev :=
  match d.hif.vectors.find? (fun p => p.1 == v) with
  | some p => (d.reach (p.2.2 + ns (1000 * d.get (HIF_VEC.TIME v)))).fireVector v
  | none => d

/-- The order of R137: timestamp, controller, source, code, and the bit number of a condition event. -/
def eventKey (e : Event) : Nat :=
  (((e.time * 256 + e.ctrl) * 65536 + e.src) * 65536 + e.code) * 256 + (if e.src = 0 && (e.code = 2 || e.code = 3) then fieldAt e.data 0 1 else 0)
/-- An event joins an ordered batch behind its equals. -/
def insertEvent (e : Event) : List Event → List Event
  | [] => [e]
  | x :: xs => if eventKey e < eventKey x then e :: x :: xs else x :: insertEvent e xs
/-- A batch in the order of R137. -/
def sortEvents (es : List Event) : List Event := es.foldl (fun acc e => insertEvent e acc) []
/-- Sources whose events the ledger takes (R373): never limited, limited, or not taken. -/
def ledgerClass (e : Event) : Nat :=
  if e.src = 0x0010 || e.src = 0x0F00 then 2
  else if [0x0000, 0x01C0, 0x0C00, 0x1000].contains e.src || (0x0800 ≤ e.src && e.src < 0x0A00 && e.code = 0x0412) then 1 else 0
/-- An event is written to the ledger's event log (R373, R378). -/
def Dev.ledgerEvent (e : Event) (d : Dev) : Dev :=
  match ledgerClass e with
  | 2 => d.transact [(5, eventBytes e)]
  | 1 => d.transactLimited 5 (eventBytes e)
  | _ => d
/-- Unconsumed entries of the event ring. -/
def Dev.evtUsed (d : Dev) : Nat :=
  let size := ringSize (d.get HIF_EVT_CFG.SIZE_LOG2)
  (d.get HIF_EVT_TAIL.TAIL + size - d.get HIF_DB_EVT.HEAD % size) % size
/-- Whether the event ring accepts an ordinary entry (R395). -/
def Dev.evtRoom (d : Dev) : Bool := d.on HIF_EVT_CFG.EN && decide (d.evtUsed + 2 < ringSize (d.get HIF_EVT_CFG.SIZE_LOG2))
/-- One entry is written at the event ring's tail. -/
def Dev.putEvent (e : Event) (d : Dev) : Dev :=
  let size := ringSize (d.get HIF_EVT_CFG.SIZE_LOG2)
  let t := d.get HIF_EVT_TAIL.TAIL
  (d.emit (.hostWrite (d.rd64 HIF_EVT_BASE_LO + 32 * t) (eventBytes e))).set HIF_EVT_TAIL.TAIL (if t + 1 = size then 0 else t + 1)
/-- One event of a batch goes to the ring, or is dropped and counted (R395); answers the entries written so far. -/
def offerEvent (acc : List Event × Dev) (e : Event) : List Event × Dev :=
  let d := acc.2
  if d.evtRoom then (acc.1 ++ [e], d.putEvent e)
  else if mustSend e then (acc.1, { d with ledger := { d.ledger with held := d.ledger.held ++ [e] } })
  else if d.on HIF_EVT_CFG.EN then
    (acc.1, Dev.count32 HIF_EVT_OVF_CNT 1 (Dev.set HIF_EVT_STATUS.OVERFLOW 1 { d with hif := { d.hif with dropped := d.hif.dropped + 1 } }))
  else acc
/-- The collected events are written (R117, R138, R395, R426): to the ledger where R373 lists them, and to the host's event ring in order. -/
def Dev.flushEvents (d : Dev) : Dev :=
  let es := sortEvents d.hif.batch
  let d : Dev := { d with hif := { d.hif with batch := [] } }
  let d := d.forEach es Dev.ledgerEvent
  let all := sortEvents (d.ledger.held ++ d.hif.unsent ++ es)
  let d : Dev := { d with
    hif := { d.hif with unsent := [] }
    ledger := { d.ledger with held := [] } }
  let lost : Event := ⟨d.now, d.sys.index, 0, 4, min d.hif.dropped 65535, zeros 15⟩
  let r := if d.hif.dropped ≠ 0 && !all.isEmpty && d.evtRoom then
      ([lost], Dev.putEvent lost (Dev.ledgerEvent lost { d with hif := { d.hif with dropped := 0 } })) else ([], d)
  let r := all.foldl offerEvent r
  let d := r.2
  if r.1.isEmpty then d else
    let wb := d.rd64 HIF_EVT_WB_LO
    let d := d.when (wb != 0) (Dev.emit (.hostWrite wb (leBytes 8 (d.get HIF_EVT_TAIL.TAIL))))
    let d := d.signalN (d.get HIF_EVT_CFG.VECTOR) r.1.length
    (d.forEach r.1 (fun e d => d.jobEvent e.src e.code)).showSched

/-- The collected events wait for the ring, each as its own entry (R56, R117). -/
def Dev.holdEvents (d : Dev) : Dev :=
  let es := sortEvents d.hif.batch
  let d : Dev := { d with hif := { d.hif with batch := [] } }
  let d := d.forEach es Dev.ledgerEvent
  { d with
    hif := { d.hif with unsent := d.hif.unsent ++ es.filter (fun e => !mustSend e) }
    ledger := { d.ledger with held := d.ledger.held ++ es.filter mustSend } }
/-- PARTNER_ABSENT (R55): the link is down (R291: no lane has block lock, or no valid frame has come for 1 ms), and a tail end stands on either
side of it. -/
def Dev.showAbsent (d : Dev) : Dev :=
  d.cond condPARTNER_ABSENT ((d.get MIR_STATUS.LANES = 0 || d.mir.quiet) && (!d.sys.pairEnd || (match d.mir.peer with | some p => fieldAt p 5 1 == 0 | none => false)))
/-- A lockout cause that arose in Boot acts at the entry to Configure, the first mode with a Lockout row (R45); the events before it keep entries
of their own (R56). -/
def Dev.bootLockout (was : Nat) (d : Dev) : Dev :=
  match d.saf.causes.head? with
  | some x => if was = 2 && d.mode = 4 then d.holdEvents.lockout x else d
  | none => d

/-- BOOT_COMPLETE: whether the ledger areas' tags check, first journal entry that fails its CRC, entries of a cut transaction, pins that fail the
output test, channels whose set copy fails, two seal readings, the tasks that firmware creates and the classes it gives the DMA channels. -/
def execBootComplete (aOk bOk : Bool) (bad : Option Nat) (torn : BitVec 32) (outBad : BitVec 8) (copyBad : BitVec 3) (r1 r2 : BitVec 16)
    (tasks : List FwTask) (classes : List (Fin 4)) (s : State) : Answer :=
  .next ((s.boot aOk bOk bad torn.toNat outBad.toNat copyBad.toNat r1.toNat r2.toNat tasks classes).onDev (fun d => (if s.dev.mode = 2 && d.mode = 4 then d.showAbsent else d).bootLockout s.dev.mode))
/-- SQ_DOORBELL: ring and new tail. -/
def execSqDoorbell (q : Fin 64) (v : BitVec 16) (s : State) : Answer := .next (s.onDev (Dev.sqDoorbell q.val v.toNat))
/-- CQ_DOORBELL: ring and new head. -/
def execCqDoorbell (c : Fin 64) (v : BitVec 16) (s : State) : Answer := .next (s.onDev (Dev.cqDoorbell c.val v.toNat))
/-- EVT_DOORBELL: new head. -/
def execEvtDoorbell (v : BitVec 16) (s : State) : Answer := .next (s.onDev (Dev.evtDoorbell v.toNat))
/-- RING_ENABLE: kind (0 SQ, 1 CQ, 2 event ring), ring, the configuration word written with EN = 1. -/
def execRingEnable (kind : Fin 3) (n : Fin 64) (v : Word) (s : State) : Answer := .next (s.onDev (Dev.ringEnable kind.val n.val v.toNat))
/-- RING_DISABLE: kind, ring, the configuration word written with EN = 0. -/
def execRingDisable (kind : Fin 3) (n : Fin 64) (v : Word) (s : State) : Answer := .next (s.onDev (Dev.ringDisable kind.val n.val v.toNat))
/-- PCIE_DMA_ERROR: kind and ring. -/
def execPcieDmaError (kind : Fin 3) (n : Fin 64) (s : State) : Answer := .next (s.onDev (Dev.dmaError kind.val n.val))
/-- MSIX_COALESCE_TIMEOUT: vector. -/
def execMsixCoalesceTimeout (v : Fin 64) (s : State) : Answer := .next (s.onDev (Dev.coalesced v.val))

end Sys2Proof.Machine
end

