-- ==== Sys2Proof/Machine/Mirror.lean ====
section
/-! DEFINITION. Sys2Proof/Machine/Mirror.lean: the mirror link (R291 to R296), the permit and its epochs (R285 to R287, R290), and the standing of the
pair that other blocks read. -/
namespace Sys2Proof.Machine

/-- A mirror frame's header (R292). -/
structure MirHdr where
  typ : Nat
  flags : Nat
  len : Nat
  cycle : Nat
  epoch : Nat
  part : Nat
  ok : Bool
  deriving DecidableEq, Repr
/-- A received header; its CRC-16 covers bytes 0 to 13 (R292). -/
def parseMirHdr (b : List Byte) : MirHdr :=
  ⟨fieldAt b 0 1, fieldAt b 1 1, fieldAt b 2 2, fieldAt b 4 4, fieldAt b 8 4, fieldAt b 12 2, 16 ≤ b.length && crc16 (b.take 14) == fieldAt b 14 2⟩
/-- A header to send (R292). -/
def mirHeader (typ flags len cycle epoch part : Nat) : List Byte :=
  let h := leBytes 1 typ ++ leBytes 1 flags ++ leBytes 2 len ++ leBytes 4 cycle ++ leBytes 4 epoch ++ leBytes 2 part
  h ++ leBytes 2 (crc16 h)
/-- This controller's header: flag bit 1 marks the tail end (R292). -/
def Dev.mirHdr (d : Dev) (typ flags len part : Nat) : List Byte :=
  mirHeader typ (flags + 2 * flag (!d.sys.pairEnd)) len d.cyc.count (d.rd MIR_EPOCH) part
/-- A lane. -/
def Dev.lane (d : Dev) (l : Nat) : MirLane := if l = 0 then d.mir.lane0 else d.mir.lane1
/-- Replace a lane. -/
def Dev.setLane (l : Nat) (x : MirLane) (d : Dev) : Dev :=
  { d with mir := if l = 0 then { d.mir with lane0 := x } else { d.mir with lane1 := x } }
/-- Whether a lane has block lock. -/
def Dev.laneUp (d : Dev) (l : Nat) : Bool := bitAt (d.get MIR_STATUS.LANES) l
/-- Lanes up. -/
def Dev.lanesUp (d : Dev) : Nat := flag (d.laneUp 0) + flag (d.laneUp 1)
/-- The mirror is up (R291): a lane has completed 64 exchanges, and the controllers are compatible. -/
def Dev.mirrorUp (d : Dev) : Bool := d.mir.up && d.on MIR_STATUS.COMPATIBLE
/-- A whole frame on a lane that is up: header, payload, CRC-32 of the payload (R292). -/
def Dev.sendMirror (l typ flags : Nat) (pay : List Byte) (d : Dev) : Dev :=
  if d.laneUp l then d.emit (.mirror l (d.mirHdr typ flags pay.length 0 ++ pay ++ leBytes 4 (crc32 pay))) else d
/-- An output of the mirror while it is up. -/
def Dev.mirOut (o : Output) (d : Dev) : Dev := if d.mirrorUp then d.emit o else d
/-- A CONTROL frame (R292). -/
def Dev.mirControl (c : MirControl) (d : Dev) : Dev := d.mirOut (.mirControl c)

/-- This controller's line address as permit holder (R285). -/
def Dev.holderAddr (d : Dev) : Nat := lineAddr d.sys.index 0xF 0
/-- The partner's, from its last HELLO. -/
def Dev.partnerAddr (d : Dev) : Nat := lineAddr (fieldAt (d.mir.peer.getD []) 6 1) 0xF 0
/-- E_ledger: the last epoch of the permit history (R285). -/
def Dev.ledgerEpoch (d : Dev) : Nat := (((d.ledger.area.journal.filter (fun e => e.typ == 4)).getLast?).map (fun e => fieldAt e.body 0 4)).getD 0
/-- Body of a PERMIT entry (R373): epoch, holder, cycle count, cause. -/
def permitBody (epoch holder cycle cause : Nat) : List Byte := leBytes 4 epoch ++ leBytes 3 holder ++ leBytes 4 cycle ++ leBytes 1 cause
/-- Whether this controller is the standby of a pair: Shadow, or Dormant or Lockout reached from it without the permit. -/
def Dev.standby (d : Dev) : Bool := d.mode == 8 || (d.mode == 10 && d.sys.dormantFrom == 8 && !d.permit)
/-- MIR_STATUS.ROLE (R313, R315): 0 none, 1 holder, 2 to 4 standby synchronised, resynchronising, unsynchronised. -/
def Dev.showRole (d : Dev) : Dev :=
  d.set MIR_STATUS.ROLE (if d.permit then 1 else if !d.standby then 0 else if d.on MIR_STATUS.SYNCED then 2 else if d.mir.resync.isSome then 3 else 4)
/-- PAIR_FAULT is set and posted (R302, R316). -/
def Dev.pairFault (why : Nat) (d : Dev) : Dev :=
  ((d.set MIR_STATUS.PAIR_FAULT 1).cond condPAIR_FAULT true).post 0x01C0 0x01C8 (leBytes 1 why)

/-- The next cycle count that is a multiple of 64 (R308). -/
def sweepStart (c : Nat) : Nat := (c / 64 + 1) * 64 % 2 ^ 32
/-- SYNCED clears, and a resynchronisation is wanted (R303, R306 to R309): `full` for the reply of PAIR_SYNCED, `bulk` when an image precedes the sweep. -/
def Dev.wantResync (full bulk : Bool) (d : Dev) : Dev :=
  let d : Dev := { d with mir := { d.mir with resync := some full, sweepFrom := if bulk then none else some (sweepStart d.cyc.count), loaded := [], imageDone := !bulk, parts := if bulk then [] else d.mir.parts,
                                              heldLogs := if bulk then [] else d.mir.heldLogs } }
  (((d.set MIR_STATUS.SYNCED 0).set MIR_STATUS.SWEEP 0).set MIR_STATUS.BULK (flag bulk)).showRole
/-- The standby asks for a resynchronisation (R303, R306). -/
def Dev.askResync (full bulk : Bool) (d : Dev) : Dev := (d.wantResync full bulk).mirControl (.resync full bulk)
/-- Entry to Shadow (R45, R306): axes of this controller follow the holder's log, and the bulk image is asked for. -/
def Dev.enterShadow (d : Dev) : Dev :=
  let d : Dev := { d with mir := { d.mir with rx := [], rxBad := false, lastHost := [], stopFrames := [] } }
  (d.set MIR_LEASE.MISSING 0).askResync false true

/-- The permit ends here (R45, R316): PERMIT_LOST names the new epoch and holder, transmission of commands stops, and line time comes from the
holder's bells (R127). -/
def Dev.dropPermit (epoch holder : Nat) (d : Dev) : Dev :=
  let owed := d.mir.handover.bind (·.ref)
  let d : Dev := { d with mir := { d.mir with back := none, handover := none, passed := none, eSeen := max d.mir.eSeen epoch } }
  let d := d.completeOpt owed stNOT_PERMIT_HOLDER d.now []
  let d := (((d.set SYS_MODE.PERMIT 0).wr MIR_EPOCH epoch).set MIR_HOLDER.HOLDER holder).set LTM_STATUS.ORIGIN 0
  ((d.set MIR_STATUS.PERMIT_OUT 0).post 0x01C0 0x01C5 (leBytes 4 epoch ++ leBytes 3 holder)).showRole
/-- A higher epoch takes the permit from this holder (R45): Run goes to Shadow when the mirror is compatible, otherwise to Ready. `twin` marks the
head end's bell of the very cycle in which both ends took the same epoch for a SET_MODE: the tail end then serves its request as standby (R48). -/
def Dev.losePermit (epoch holder : Nat) (twin : Bool) (d : Dev) : Dev :=
  let d := d.dropPermit epoch holder
  if d.mode ≠ 7 then d
  else if d.mirrorUp then
    (if twin then d.enterMode 8 6 (d.get SYS_MODE_CAUSE.DETAIL) none false else d.enterMode 8 0x0B (epoch % 2 ^ 24) none false).enterShadow
  else (d.disableAll.enterMode 6 0x0B (epoch % 2 ^ 24) none false).showRole
/-- An epoch and its holder are seen in a bell or a mirror frame (R285, R290). `headBell` marks a bell of the head end: at an equal epoch it
takes the permit from the tail end. -/
def Dev.seeEpoch (epoch holder : Nat) (headBell : Bool) (d : Dev) : Dev :=
  let d : Dev := { d with mir := { d.mir with eSeen := max d.mir.eSeen epoch } }
  let cur := d.rd MIR_EPOCH
  if d.permit then
    let tie := epoch == cur && headBell && !d.sys.pairEnd && holder != d.holderAddr
    if cur < epoch || tie then d.losePermit epoch holder (tie && d.mir.tookAt == some d.cyc.count) else d
  else if epoch ≠ 0 && cur ≤ epoch then (d.wr MIR_EPOCH epoch).set MIR_HOLDER.HOLDER holder
  else d
/-- The next epoch (R285). -/
def Dev.nextEpoch (d : Dev) : Nat := max d.ledgerEpoch d.mir.eSeen + 1
/-- This controller takes the permit with a cause of SYS_MODE_CAUSE (R285, R304, R316). The epoch 0xFFFF_FFFF is never used: such a take is refused
and PAIR_FAULT is posted. -/
def Dev.takePermit (cause : Nat) (d : Dev) : Bool × Dev :=
  let e := d.nextEpoch
  if 0xFFFFFFFF ≤ e then (false, d.pairFault 3) else
    let d := d.transact [(4, permitBody e d.holderAddr d.cyc.count cause)]
    let d := (((d.set SYS_MODE.PERMIT 1).wr MIR_EPOCH e).set MIR_HOLDER.HOLDER d.holderAddr).set MIR_LEASE.MISSING 0
    let d : Dev := { d with mir := { d.mir with eSeen := e, fenceSaid := false } }
    (true, (d.post 0x01C0 0x01C4 (leBytes 4 e ++ leBytes 1 cause ++ leBytes 4 d.mir.lastLog)).showRole)
/-- The partner holds a valid permit (R45): its lease runs, or its rank-0 bell has come in this cycle. -/
def Dev.partnerHolds (d : Dev) : Bool :=
  !d.permit && d.rd MIR_EPOCH != 0 && d.get MIR_HOLDER.HOLDER != d.holderAddr &&
    ((d.get MIR_LEASE.IN_FORCE != 0 && decide (d.get MIR_LEASE.MISSING < d.get MIR_LEASE.IN_FORCE)) ||
      (List.range 8).any (fun n => match (d.port n).bell with | some b => b.rank == 0 | none => false))
/-- This controller's rank on a segment or trunk (R98). -/
def Dev.rank (d : Dev) : Nat :=
  if d.permit then 0
  else if d.rd MIR_EPOCH ≠ 0 && d.get MIR_HOLDER.HOLDER ≠ d.holderAddr then 1
  else if d.sys.pairEnd then 0 else 1
/-- This controller drives the line (R98, R285): it holds the permit, or is the head end before any permit is taken (notes/assumptions). -/
def Dev.drives (d : Dev) : Bool := d.rank == 0 && !d.standby
/-- The partner stands in Shadow, as its REPORT frames show (R292, R309). -/
def Dev.partnerShadow (d : Dev) : Bool :=
  d.permit && d.mirrorUp && (match d.mir.reportAt with | some c => decide (d.cyclesSince c ≤ 1) | none => false)

/-- The mirror goes down (R291): both lanes lost, or 1 ms of silence. A holder's standby is gone with it; a standby keeps its standing for a take. -/
def Dev.mirrorDown (d : Dev) : Dev :=
  if !d.mir.up then d else
    let was := d.mirrorUp
    let d : Dev := { d with mir := { d.mir with up := false, reportAt := none } }
    let d := d.set MIR_STATUS.COMPATIBLE 0
    let d := d.when d.permit (fun d => Dev.set MIR_STATUS.SYNCED 0 { d with mir := { d.mir with resync := none, sweepFrom := none, bulkLeft := 0 } })
    ((d.when was (Dev.post 0x01C0 0x01C2 [])).showAbsent).showRole
/-- MIRROR_LANE_LOCK (R291): a lane gains or loses block lock while the mirror runs (R44). -/
def Dev.laneLock (l : Nat) (locked : Bool) (d : Dev) : Dev :=
  if d.mode < 4 || d.laneUp l == locked then d else
    let d := (d.set MIR_STATUS.LANES (withBits (d.get MIR_STATUS.LANES) l l (flag locked))).setLane l MirLane.reset
    let d : Dev := { d with mir := { d.mir with quiet := d.mir.quiet && !locked } }
    if d.get MIR_STATUS.LANES = 0 then d.mirrorDown.showAbsent else d.showAbsent
/-- MIRROR_SILENCE_TIMEOUT (R291). -/
def Dev.mirrorSilence (d : Dev) : Dev :=
  if d.mode < 4 then d else (({ d with mir := { d.mir with quiet := true } } : Dev).mirrorDown).showAbsent

/-- The checks of R293 on the partner's HELLO: 0, or the first that fails. The delay is checked once it is measured. -/
def Dev.compatReason (d : Dev) (p : List Byte) : Nat :=
  if fieldAt p 0 1 ≠ 1 then 1
  else if fieldAt p 2 2 ≠ d.get SEC_FW.CLASS || fieldAt p 4 1 ≠ d.get SYS_ID.REVISION then 2
  else if padTo 16 ((p.drop 8).take 16) ≠ padTo 16 ((d.sys.package.map (fun k => Config.sha384 k.bytes)).getD []) then 3
  else if fieldAt p 5 1 = flag d.sys.pairEnd then 4
  else if d.mir.up && decide (ns 1500 < d.rd MIR_DELAY) then 5
  else 0
/-- The compatibility check after a HELLO (R291, R293). -/
def Dev.checkPartner (d : Dev) : Dev :=
  match d.mir.peer with
  | none => d
  | some p =>
    let was := d.mirrorUp
    let up := d.mir.up || (List.range 2).any (fun l => d.laneUp l && decide (64 ≤ (d.lane l).exchanges))
    let d : Dev := { d with mir := { d.mir with up := up } }
    let r := d.compatReason p
    let old := d.get MIR_STATUS.REASON
    let d := (d.set MIR_STATUS.REASON r).set MIR_STATUS.COMPATIBLE (flag (r == 0 && up))
    let d := d.when (r != 0 && r != old) (Dev.post 0x01C0 0x01C3 (leBytes 1 r))
    (d.when (d.mirrorUp && !was) (Dev.post 0x01C0 0x01C1 (leBytes 1 (d.get MIR_STATUS.LANES)))).showAbsent
/-- HELLO payload (R293). -/
def Dev.helloBytes (d : Dev) (l : Nat) : List Byte :=
  let e := (d.lane l).echo
  let gen := fun (g : Option Generation) => (g.map (·.num)).getD 0xFFFF
  leBytes 1 1 ++ leBytes 1 0 ++ leBytes 2 (d.get SEC_FW.CLASS) ++ leBytes 1 (d.get SYS_ID.REVISION) ++ leBytes 1 (flag d.sys.pairEnd) ++
    leBytes 1 d.sys.index ++ leBytes 1 (flag e.isSome) ++ padTo 16 ((d.sys.package.map (fun k => Config.sha384 k.bytes)).getD []) ++
    leBytes 4 d.ledgerEpoch ++ leBytes 2 (gen d.cyc.active) ++ leBytes 2 (gen d.cyc.pending) ++ leBytes 10 d.now ++
    leBytes 10 ((e.map (·.1)).getD 0) ++ leBytes 6 ((e.map (fun x => d.now - x.2)).getD 0) ++ zeros 6
/-- HELLO_TIMER (R291). -/
def Dev.sendHello (l : Nat) (d : Dev) : Dev := if d.mode < 4 then d else d.sendMirror l 1 0 (d.helloBytes l)
/-- A frame with a bad CRC on a lane (R315). -/
def Dev.mirCrc (l : Nat) (d : Dev) : Dev := d.count (if l = 0 then MIR_CRC_ERR.LANE0 else MIR_CRC_ERR.LANE1) 1
/-- A frame of type `typ` arrives on a lane with its raw header and a payload whose CRC-32 checks or not (R292): its header fields, or none. -/
def Dev.mirIn (l typ : Nat) (hdr : List Byte) (ok : Bool) (d : Dev) : Option MirHdr × Dev :=
  let h := parseMirHdr hdr
  if d.mode < 4 || !d.laneUp l then (none, d)
  else if !h.ok || !ok then (none, d.mirCrc l)
  else if h.typ ≠ typ || bitAt h.flags 1 == !d.sys.pairEnd then (none, d)
  else (some h, Dev.seeEpoch h.epoch d.partnerAddr false { d with mir := { d.mir with quiet := false } })
/-- HELLO_FRAME (R291, R293): one delay exchange and the compatibility check. -/
def Dev.helloFrame (l : Nat) (bytes : List Byte) (d : Dev) : Dev :=
  let pay := (bytes.drop 16).take 64
  let h := parseMirHdr bytes
  let good := bytes.length == 84 && h.len == 64 && crc32 pay == fieldAt bytes 80 4
  if d.mode < 4 || !d.laneUp l then d
  else if !h.ok || !good then d.mirCrc l
  else if h.typ ≠ 1 then d
  else
    let d : Dev := { d with mir := { d.mir with peer := some pay, quiet := false } }
    let d := d.seeEpoch (max h.epoch (fieldAt pay 24 4)) d.partnerAddr false
    let x := d.lane l
    let x := { x with echo := some (fieldAt pay 32 10, d.now) }
    if fieldAt pay 42 10 = 0 || 64 ≤ x.exchanges then (d.setLane l x).checkPartner
    else
      let sum := x.sum + ((d.now : Int) - (fieldAt pay 42 10 : Int) - (fieldAt pay 52 6 : Int))
      let d := d.setLane l { x with exchanges := x.exchanges + 1, sum := sum }
      let d := d.when (x.exchanges + 1 == 64) (Dev.wr MIR_DELAY ((clampInt 0 (2 ^ 32 - 1) (roundHalfAway sum 128)).toNat))
      d.checkPartner

/-- LEASE payload (R294). -/
def Dev.leaseBytes (d : Dev) : List Byte :=
  -- the frames of the cycle before a handover bell and of that bell announce it (R311)
  let ho := (((d.mir.handover.map (·.bell)).filter (fun c => decide ((c + 2 ^ 32 - d.cyc.count) % 2 ^ 32 ≤ 1))).orElse
    (fun _ => d.mir.passed.filter (· == d.cyc.count)))
  leBytes 4 (d.rd MIR_EPOCH) ++ leBytes 3 d.holderAddr ++ leBytes 1 (d.lget MIR_CTRL.LEASE) ++ leBytes 1 d.mode ++
    leBytes 1 (flag ho.isSome + 2 * flag (d.mode == 9) + 4 * flag ((d.cyc.active.map (·.dormant)).getD false)) ++
    leBytes 4 (ho.getD 0xFFFFFFFF) ++ leBytes 2 ((d.cyc.active.map (·.num)).getD 0xFFFF) ++ zeros 8 ++
    (List.range 8).flatMap (fun n => let q := d.port n; leBytes 8 (Nat.land q.lostA q.lostB)) ++ zeros 8
/-- The level of PERMIT_OUT changes every 25 µs while LEASE frames go out (R287). -/
def Dev.permitPin (d : Dev) : Dev :=
  if d.on MIR_STATUS.PERMIT_OUT && decide (d.mir.outEdge + ns 25000 ≤ d.now) then
    ({ d with mir := { d.mir with outLevel := !d.mir.outLevel, outEdge := d.now } } : Dev).emit (.pin "PERMIT_OUT" 0 (!d.mir.outLevel))
  else d
/-- At a bell the holder sends LEASE on both lanes, and PERMIT_OUT toggles in that cycle (R286, R287). -/
def Dev.sendLease (d : Dev) : Dev :=
  if !d.permit then d.set MIR_STATUS.PERMIT_OUT 0 else
    let pay := d.leaseBytes
    let f := d.mirHdr 2 0 pay.length 0 ++ pay ++ leBytes 4 (crc32 pay)
    let d := d.set MIR_LEASE.IN_FORCE (d.lget MIR_CTRL.LEASE)
    (((d.emit (.mirror 0 f)).emit (.mirror 1 f)).set MIR_STATUS.PERMIT_OUT 1).permitPin

/-- MIRROR_SILENCE_TIMEOUT (R291). -/
def execMirrorSilenceTimeout (s : State) : Answer := .next (s.onDev Dev.mirrorSilence)
/-- MIRROR_LANE_LOCK (R291). -/
def execMirrorLaneLock (lane : Fin 2) (locked : Bool) (s : State) : Answer := .next (s.onDev (Dev.laneLock lane.val locked))
/-- HELLO_TIMER (R291). -/
def execHelloTimer (lane : Fin 2) (s : State) : Answer := .next (s.onDev (Dev.sendHello lane.val))
/-- HELLO_FRAME (R293). -/
def execHelloFrame (lane : Fin 2) (bytes : List Byte) (s : State) : Answer := .next (s.onDev (Dev.helloFrame lane.val bytes))

end Sys2Proof.Machine
end

