-- ==== Sys2Proof/Machine/System.lean ====
section
/-! DEFINITION. Sys2Proof/Machine/System.lean: the system opcodes (R46, R405 to R408, R499) and the wake events (R52, R53). -/
namespace Sys2Proof.Machine

/-- A line time as integer ns of 64 bits (R57). -/
def nsOf (t : LTime) : Nat := t / 65536 % 2 ^ 64
/-- A SET_MODE is under way (R57): SYS_MODE.TRANSITION and TARGET. -/
def Dev.request (t : Nat) (ref : PktRef) (d : Dev) : Dev :=
  ((({ d with sys := { d.sys with request := some (t, ref) } } : Dev).set SYS_MODE.TRANSITION 1).set SYS_MODE.TARGET t)
/-- The pending request ends without a transition of its own. -/
def Dev.endRequest (d : Dev) : Dev := ({ d with sys := { d.sys with request := none } } : Dev).set SYS_MODE.TRANSITION 0
/-- Conditions of the rows from Configure to Ready, Run and Service (R26, R45, R46). -/
def Dev.mayLeave (d : Dev) (t : Nat) : Bool :=
  let sameEnd := match d.mir.peer with | some p => fieldAt p 5 1 == flag d.sys.pairEnd | none => false
  !d.on LDG_STATUS.CONFLICT && (t == 11 || (d.sys.package.isSome && d.cyc.working.isSome && !sameEnd))
/-- Step 5 of SET_MODE to target `t` (R46): 0 or the status. -/
def Dev.setModeFirst (d : Dev) (t : Nat) : Nat :=
  let m := d.mode
  if m = 3 then stWRONG_MODE
  else if m = 9 then stSAFETY_LOCKED
  else if d.standby && t ≠ 4 then stNOT_PERMIT_HOLDER
  else if !([4, 6, 7, 10, 11].contains t) then 0
  else
    let ok :=
      if m = 4 then (t == 6 || t == 7 || t == 11) && d.mayLeave t
      else if m = 6 then t == 7 || t == 4 || (t == 10 && d.enabledAxes.isEmpty)
      else if m = 7 then t == 6 || (t == 10 && d.enabledAxes.isEmpty)
      else if m = 8 || m = 11 then t == 4
      else if m = 10 then t == 6 || t == 7
      else false
    if ok then 0 else stWRONG_MODE
/-- Segments whose rate is short of the plan (R67). -/
def Dev.rateShort (d : Dev) : Option Nat := (List.range 8).find? (fun n => d.on (NLS_LINK_STATUS.RATE_SHORT n))
/-- Whether a holder's permit can pass as with RELEASE_PERMIT (R313). -/
def Dev.canRelease (d : Dev) : Bool := d.partnerShadow && d.on MIR_STATUS.SYNCED && !d.on MIR_STATUS.PAIR_FAULT
/-- The controller leaves the line for Configure (R45, R47): every axis is disabled and transmission stops. -/
def Dev.goConfigure (cause detail : Nat) (bound : Option Nat) (d : Dev) : Dev := d.disableAll.enterMode 4 cause detail bound false
/-- A logged change of mode is accepted (R46, R47). -/
def Dev.logMode (t : Nat) (ref : PktRef) (d : Dev) : Reply × Dev :=
  (.done stACCEPTED [], (d.request t ref).logInput 0x01 68 (.mode t) none)
/-- 0x0102 SET_MODE (R45 to R47, R52). -/
def opSetMode : Opcode :=
  { code := 0x0102, modes := fun p d => d.setModeFirst (par p 22 1),
    run := fun p ref d =>
      let t := par p 22 1
      let m := d.mode
      if !([4, 6, 7, 10, 11].contains t) || (t = 10 && ((d.sys.package.bind (·.dormant)).isNone)) then (.bad stBAD_PARAMETER, d)
      else if d.on SYS_MODE.TRANSITION || (m = 4 && t ≠ 4 && !d.on RST_STATUS.DRAM_READY) then (.bad stBUSY, d)
      else match (if m = 4 && (t = 6 || t = 7) then d.rateShort else none) with
        | some n => (.done stCONSISTENCY (ruleResult 1 (portSource n)), d)
        | none =>
          if m = 4 && t = 11 then (.done stOK [], d.enterMode 11 6 ref.tag none false)
          else if m = 4 then
            let d := (d.request t ref).enterMode 5 6 ref.tag none true
            (.done stACCEPTED [], { d with cyc := { d.cyc with join := some ⟨d.now, false, t, [], false⟩ } })
          else if t = 4 then
            if d.canRelease then (.done stACCEPTED [], (d.request t ref).logInput 0x01 68 (.permit 3 0) none)
            else (.done stOK [], d.goConfigure 6 ref.tag none)
          else if m = 10 then (.done stACCEPTED [], ((d.request t ref).logInput 0x01 68 (.wake d.now) none).startWake)
          else if m = 6 && t = 7 && !d.permit then
            if d.partnerHolds && !d.mirrorUp then (.bad stNOT_PERMIT_HOLDER, d)
            else
              let d := d.request t ref
              (.done stACCEPTED [], { d with mir := { d.mir with runNext := true } })
          else d.logMode t ref }

/-- 0x0101 GET_INFO (R405). -/
def opGetInfo (f : Fuses) : Opcode :=
  { code := 0x0101, modes := fun _ => modeIn fromSealed,
    run := fun p _ d =>
      match par p 22 1 with
      | 0 => (.done stOK (leBytes 4 (d.rd SYS_ID) ++ leBytes 2 (d.get SEC_FW.VERSION) ++ leBytes 2 (d.get SEC_FW.CLASS) ++ leBytes 8 f.serial), d)
      | 1 => (.done stOK (leBytes 2 512 ++ leBytes 1 8 ++ leBytes 1 2 ++ leBytes 1 16 ++ leBytes 1 ((d.drivesIn 3).length) ++ leBytes 2 d.sys.dramGiB ++
          leBytes 4 f.arbValue ++ padTo 4 ((d.sys.package.map (fun k => Config.sha384 k.bytes)).getD [])), d)
      | _ => (.bad stBAD_PARAMETER, d) }
/-- 0x0103 GET_MODE (R405). -/
def opGetMode : Opcode :=
  { code := 0x0103, modes := fun _ => modeIn fromSealed,
    run := fun _ _ d => (.done stOK (leBytes 4 (d.rd SYS_MODE) ++ leBytes 4 (d.rd SYS_MODE_CAUSE) ++ leBytes 8 (d.rd64 SYS_MODE_TIME_LO)), d) }
/-- 0x0104 RESET_DEVICE (R405): the reset follows 1 ms after the completion. -/
def opResetDevice : Opcode :=
  { code := 0x0104, modes := fun _ => modeIn butSealed,
    run := fun p _ d =>
      if par p 22 1 ≠ 0xA5 then (.bad stBAD_PARAMETER, d)
      else (.done stOK [], { d with sys := { d.sys with resetDue := some (d.sys.resetDue.getD (d.now + ns 1000000)) } }) }

/-- A block of R406 that a code names: whether it is idle, its register window, and what clears the state beside its registers. -/
def Dev.resettable (d : Dev) (code : Nat) : Option (Bool × Nat × Nat × (Dev → Dev)) :=
  if 0x0100 ≤ code && code < 0x0180 && code % 16 = 0 then
    let n := (code - 0x0100) / 16
    some ((d.mode == 4 || d.mode == 11) && !d.on (NLS_LINK_CTRL.EN_A n) && !d.on (NLS_LINK_CTRL.EN_B n), 0x40000 + 0x4000 * n, 0x4000, Dev.setPort n Port.reset)
  else if 0x0300 ≤ code && code < 0x0310 then
    let n := code - 0x0300
    let e := d.evoOut n
    some (d.lget (EVO_CTRL.MODE n) == 0 && e.mode == 0 && e.low.isNone, 0x34100 + 0x20 * n, 0x20, Dev.setEvo n EvoOut.reset)
  else if 0x0A00 ≤ code && code < 0x0A04 then
    let n := code - 0x0A00
    some (!d.channelUsed n, 0x70100 + 0x100 * n, 0x100, fun d => { d with fb := smSet (fun _ => Fb.reset) d.fb n Fb.reset })
  else if 0x0B00 ≤ code && code < 0x0B10 then
    let n := code - 0x0B00
    some (!d.on (TDC_IN_CTRL.EN n) && (List.range 16).all (fun u => d.get (ACQ_U_STATE.STATE u) == 0 || d.lget (ACQ_U_TRIG.SRC u) != 0x1000 + n),
      0x90100 + 0x40 * n, 0x40, fun d => { d with acq := { d.acq with tdc := smSet (fun _ => TdcIn.reset) d.acq.tdc n TdcIn.reset } })
  else if 0x0B80 ≤ code && code < 0x0B90 then
    let u := code - 0x0B80
    some (d.get (ACQ_U_STATE.STATE u) == 0, 0x80100 + 0x80 * u, 0x80, fun d => d.setCap u { CapUnit.reset with n := (d.capUnit u).n, records := (d.capUnit u).records })
  else if code = 0x0D00 || code = 0x0D01 then
    let n := code - 0x0D00
    some (d.canIdle n, 0xD0000 + 0x8000 * n, 0x8000, fun d => { d with can := smSet (fun _ => CanCh.reset) d.can n CanCh.reset })
  else none
/-- 0x0105 RESET_BLOCK (R406). -/
def opResetBlock : Opcode :=
  { code := 0x0105, modes := fun _ => modeIn confSync,
    run := fun p _ d =>
      match d.resettable (par p 22 2) with
      | none => (.bad stBAD_PARAMETER, d)
      | some (idle, a, n, clear) =>
        if !idle || d.commitWaits (par p 22 2) then (.bad stBUSY, d)
        else (.done stOK [], (clear (d.resetWindow a (a + n))).count32 RST_BLOCK_CNT 1) }
/-- 0x0106 READ_TALLY (R405, R499). -/
def opReadTally (b : Backup) : Opcode :=
  { code := 0x0106, modes := fun _ => modeIn fromSealed,
    run := fun p _ d =>
      if par p 22 8 % 8 ≠ 0 then (.bad stBAD_PARAMETER, d)
      else d.hostWrite p (par p 22 8) (tallyImage b) (.done stOK (leBytes 2 ((b.cause.map (·.source)).getD 0xFF))) }
/-- 0x0107 CLEAR_TALLY (R405, R499): authenticated always. -/
def opClearTally : Opcode :=
  { code := 0x0107, classes := fun _ => [0], modes := fun _ => modeIn butSealed,
    run := fun p _ d => (.done stOK [], { d with sys := { d.sys with clearTally := some (par p 22 2) } }) }

/-- Step 5 of SET_DUTY_MODE (R34, R407). -/
def Dev.dutyFirst (d : Dev) (f : Nat) : Nat :=
  if d.standby then stNOT_PERMIT_HOLDER
  else if !([4, 6, 7, 10, 11].contains d.mode) || (f ≤ 1 && !d.enabledAxes.isEmpty) || (f == 7 && !(d.drivesIn 3).isEmpty) then stWRONG_MODE
  else 0
/-- 0x0108 SET_DUTY_MODE (R34, R407). -/
def opSetDuty : Opcode :=
  { code := 0x0108, modes := fun p d => d.dutyFirst (par p 22 1),
    run := fun p ref d =>
      if 8 ≤ par p 22 1 || 2 ≤ par p 23 1 then (.bad stBAD_PARAMETER, d)
      else d.logPacket 0x01 68 (.duty (par p 22 1) (par p 23 1)) ref }
/-- A duty mode changes (R407): its flag, the event and the SETTING entry; claims posted to the host go back to firmware. -/
def Dev.enterDuty (f v : Nat) (d : Dev) : Dev :=
  let d := ((d.cond (condHA f) (v == 1)).post 0 8 (leBytes 1 f ++ leBytes 1 v)).transact [(0x0A, settingBody 0 f v)]
  if f = 4 && v = 0 && d.mode ≠ 8 then
    d.forN 8 (fun n d =>
      let q := d.port n
      (d.setPort n { q with posted := [] }).forEach (q.posted.foldl (fun l c => insertClaim c l) []) (Dev.decideClaim n))
  else d
/-- 0x0109 HEARTBEAT (R405, R408). -/
def opHeartbeat : Opcode :=
  { code := 0x0109, modes := fun _ => modeIn butSealed,
    run := fun p _ d =>
      let t := par p 22 2
      if t ≠ 0 && (t < 10 || 60000 < t) then (.bad stBAD_PARAMETER, d)
      else
        let old := d.get HIF_HB.TIMEOUT
        let since := (d.hif.lapse.getD d.now)
        let d := ({ d with hif := { d.hif with hbLast := d.now, lapse := none } } : Dev).set HIF_HB.TIMEOUT t
        let d := if d.hasCond condHOST_LOST then
            ((d.set HIF_STATUS.HOST_LOST 0).cond condHOST_LOST false).post 0 6 (leBytes 4 (min ((d.now - since) / ns 1000000) (2 ^ 32 - 1)))
          else d
        (.done stOK (leBytes 2 old), d) }
/-- WAKE_EVENT (R52, R53): a wake event of source 0 trigger input, 1 node event, 2 CAN, 3 PPS. -/
def Dev.wakeEvent (src : Nat) (d : Dev) : Dev :=
  d.wakeOn (match src with | 0 => SYS_WAKE_EN.TRIG | 1 => SYS_WAKE_EN.NODE_EVENT | 2 => SYS_WAKE_EN.CAN | _ => SYS_WAKE_EN.PPS)

/-- GET_INFO (R405). -/
def execGetInfo (p : Packet) (s : State) : Answer := .next (s.onDev (Dev.packet (opGetInfo s.fuses) p))
/-- SET_MODE (R46). -/
def execSetMode (p : Packet) (s : State) : Answer := .next (s.onDev (Dev.packet opSetMode p))
/-- GET_MODE (R405). -/
def execGetMode (p : Packet) (s : State) : Answer := .next (s.onDev (Dev.packet opGetMode p))
/-- RESET_DEVICE (R405). -/
def execResetDevice (p : Packet) (s : State) : Answer := .next (s.onDev (Dev.packet opResetDevice p))
/-- RESET_BLOCK (R406). -/
def execResetBlock (p : Packet) (s : State) : Answer := .next (s.onDev (Dev.packet opResetBlock p))
/-- READ_TALLY (R499). -/
def execReadTally (p : Packet) (s : State) : Answer := .next (s.onDev (Dev.packet (opReadTally s.backup) p))
/-- CLEAR_TALLY (R499). -/
def execClearTally (p : Packet) (s : State) : Answer := .next (s.onDev (Dev.packet opClearTally p)).settle
/-- SET_DUTY_MODE (R34). -/
def execSetDutyMode (p : Packet) (s : State) : Answer := .next (s.onDev (Dev.packet opSetDuty p))
/-- HEARTBEAT (R408). -/
def execHeartbeat (p : Packet) (s : State) : Answer := .next (s.onDev (Dev.packet opHeartbeat p))
/-- WAKE_EVENT (R53). -/
def execWakeEvent (src : Fin 4) (s : State) : Answer := .next (s.onDev (Dev.wakeEvent src.val))

end Sys2Proof.Machine
end

