-- ==== Sys2Proof/Machine/Bells.lean ====
section
/-! DEFINITION. Sys2Proof/Machine/Bells.lean: the bells a controller sends and takes (R82, R87, R98 to R100, R123), and Join (R102, R121, R122). -/
namespace Sys2Proof.Machine

/-- The ports of a generation, ascending. -/
def genPorts (g : Generation) : List Nat := (List.range 10).filter (fun n => g.blocks.any (fun b => b.port == portByte n))
/-- The ports of the active generation. -/
def Dev.linePorts (d : Dev) : List Nat := match d.cyc.active with | some g => genPorts g | none => []
/-- This controller's rank on a port (R98). On a trunk each end is the master of its own bell slot (R128). -/
def Dev.portRank (d : Dev) (n : Nat) : Nat := if 8 ≤ n then 0 else d.rank
/-- Whether this controller sends the bells of a port at the reference instant (R98, R100). -/
def Dev.sendsBell (d : Dev) (n : Nat) : Bool := d.portRank n == 0 || (d.port n).acting
/-- The bell slot of an end (R92). -/
def bellSlot (b : SchedBlock) (head : Bool) : Nat := b.slots.findIdx (fun e => e.kind == if head then 0 else 1)
/-- Bell payload (R87) of a bell whose SOF leaves at `t`. Without a countdown bytes 22-23 hold 0xFFFF, also while a generation stands in the shadow
copy: R87 gives no value for none pending (DESIGN CHOICE). -/
def Dev.bellBytes (d : Dev) (n : Nat) (b : SchedBlock) (t : LTime) : List Byte :=
  let claim := b.slots[b.claim]?
  let left := match d.cyc.countdown with | some c => min 255 ((c.at_ + 2 ^ 32 - d.cyc.count) % 2 ^ 32) | none => 0
  let pend := match d.cyc.countdown with | some c => c.gen | none => 0xFFFF
  leBytes 10 t ++ leBytes 2 b.gen ++ leBytes 1 (d.portRank n) ++
    leBytes 1 (flag (d.on LTM_STATUS.HOLDOVER) + 2 * flag ((d.cyc.active.map (·.dormant)).getD false) + 4 * flag b.closed + 8 * flag (!d.headEnd n)) ++
    leBytes 4 (d.rd MIR_EPOCH) ++ leBytes 3 (d.get MIR_HOLDER.HOLDER) ++ leBytes 1 left ++ leBytes 2 pend ++ leBytes 4 b.period ++
    leBytes 4 ((claim.map (·.head)).getD unusedTime) ++ leBytes 4 ((claim.map (·.tail)).getD unusedTime) ++ zeros 4
/-- A bell leaves a port at the first block boundary at or after `t` (R81, R82, R98), before every other frame (R101): its lag behind `t` is a free value below one block. -/
def Dev.sendBell (n : Nat) (t : LTime) (d : Dev) : Dev :=
  match d.activeBlock n with
  | none => d
  | some b =>
    let x := d.draw
    let d := x.2.cutFrames n t
    let sof := t + x.1 % (tb5 b.rate / 5)
    let d := d.sendFrame n 0 1 0 0xFFF000 (bellSlot b (d.headEnd n)) d.cyc.count (d.bellBytes n b sof)
    d.setPort n { d.port n with sentBell := true }
/-- The bells of the cycle that opens (R98, R100). -/
def Dev.sendBells (d : Dev) : Dev := d.forEach (d.linePorts.filter d.sendsBell) (fun n d => if (d.port n).sentBell then d else d.sendBell n d.cyc.ref)
/-- What the registers of a port show of the present cycle (R118). -/
def Dev.showCycle (n : Nat) (d : Dev) : Dev :=
  let left := match d.cyc.countdown with | some c => min 255 ((c.at_ + 2 ^ 32 - d.cyc.count) % 2 ^ 32) | none => 0
  let r := d.portRank n
  let w := match d.activeBlock n with | some b => (match r with | 1 => b.w1 | 2 => b.w2 | 3 => b.w3 | _ => 0) | none => 0
  ((((d.set (NLS_SCHED_STATUS.COUNTDOWN n) left).set (NLS_SCHED_STATUS.RANK n) r).set (NLS_SCHED_STATUS.ACTING n) (flag (d.sendsBell n))).wr
    (NLS_CYCLE_COUNT n) d.cyc.count).wr (NLS_BELL_WAIT n) w

/-- Whether LEASE frames renew this standby's lease (R286). -/
def Dev.leaseRuns (d : Dev) : Bool := d.get MIR_LEASE.IN_FORCE != 0 && decide (d.get MIR_LEASE.MISSING < d.get MIR_LEASE.IN_FORCE)
/-- Stop frames start and end with their condition (R305): LEASE frames keep arriving, and the standby acts as bell master. They start once the LEASE of
the present cycle has arrived, as after a failure of the holder none does (the timeline of R304 has no downlink then). -/
def Dev.showStopFrames (d : Dev) : Dev :=
  let was := d.mir.stopFrames
  let came := match d.mir.lease with | some (k, _) => k == d.cyc.count | none => false
  let now := if d.mode = 8 && d.leaseRuns && d.get MIR_LEASE.MISSING = 0 then
      d.linePorts.filter (fun n => n < 8 && (d.port n).acting && (came || was.contains n)) else []
  let d : Dev := { d with mir := { d.mir with stopFrames := now } }
  let d := d.forEach (now.filter (fun n => !was.contains n)) (fun n => Dev.post 0x01C0 0x01CD (leBytes 1 n ++ leBytes 1 1))
  let d := d.forEach (was.filter (fun n => !now.contains n)) (fun n => Dev.post 0x01C0 0x01CD (leBytes 1 n ++ leBytes 1 0))
  d.set MIR_STATUS.STOP_FRAMES (flag (!now.isEmpty))
/-- Whether a bell of a rank above `k` has reached a segment port in this cycle (R100). -/
def Dev.heardAbove (d : Dev) (k : Nat) : Bool := (List.range 8).any (fun m => match (d.port m).bell with | some b => decide (b.rank < k) | none => false)
/-- BACKUP_BELL_WAIT (R100): no bell of a higher rank has reached any port by segment `n`'s wait, so the backup master sends its own. -/
def Dev.backupBell (n : Nat) (d : Dev) : Dev :=
  let q := d.port n
  let k := d.portRank n
  if !d.cyc.running || k = 0 || !d.linePorts.contains n || q.acting || q.sentBell || d.heardAbove k then d else
    let t := d.cyc.ref + ns (d.rd (NLS_BELL_WAIT n))
    let d := (d.reach t).sendBell n t
    (((d.setPort n { d.port n with acting := true }).set (NLS_SCHED_STATUS.ACTING n) 1).post (portSource n) 0x0110 (leBytes 1 k ++ leBytes 4 d.cyc.count)).showStopFrames

/-- Delay from a bell's sender to this port (R73, R123). -/
def Dev.bellDelay (d : Dev) (n c src : Nat) (b : SchedBlock) : Nat :=
  if 8 ≤ n then d.hopDly n c 0
  else if src / 4096 % 16 = 0xF then (if d.headEnd n then d.toHead n c b.planNodes else d.toTail n c b.planNodes)
  else if d.headEnd n then d.toNode n c (src % 64) else d.tailToNode n c b.planNodes (src % 64)
/-- A valid bell of the present cycle (R99, R100, R123, R127): the highest rank counts for the permit fields and for line time, and a higher rank at any
port ends a backup master's acting. Only segment bells carry
this pair's permit. -/
def Dev.takeBell (n c rx : Nat) (f : Frame) (b : SchedBlock) (d : Dev) : Dev :=
  let p := f.payload
  let r := fieldAt p 12 1 % 4
  let d := if n < 8 && !d.heardAbove r then d.seeEpoch (fieldAt p 14 4) (fieldAt p 18 3) (!bitAt (fieldAt p 13 1) 3) else d
  let q := d.port n
  let better := match q.bell with | some x => decide (r < x.rank) | none => true
  let own := d.portRank n
  let d := d.setPort n { q with bell := if better then some ⟨r, c == 1, rx, f.cycle, p⟩ else q.bell }
  let d := if n < 8 && r < own then d.forN 8 (fun m d => if (d.port m).acting then d.setPort m { d.port m with acting := false } else d) |>.showStopFrames else d
  let d := if n < 8 && r ≤ 1 then { d with mir := { d.mir with bells := d.mir.bells ++ [8 * c + n] } } else d
  let first := (List.range 8).all (fun m => m == n || (match (d.port m).bell with | some x => decide (r < x.rank) | none => true))
  let follows := if n < 8 then decide (r < own) && first
    else d.rank == 0 && d.mode != 8 && !d.on LTM_STATUS.ORIGIN && d.get LTM_STATUS.SOURCE_PORT == portByte n
  if !better || !follows then d else
    let d := ((d.set LTM_STATUS.SOURCE_RANK r).set LTM_STATUS.SOURCE_B c).offset ((rx : Int) - ((fieldAt p 0 10 + d.bellDelay n c f.src b : Nat) : Int))
    if n < 8 then ((d.set LTM_STATUS.ORIGIN 0).setSource n).leaveHoldover n else d

/-- A lockout record without a release stands in the ledger (R45, R51). -/
def Dev.lockedOut (d : Dev) : Bool := match (d.ledger.area.journal.filter (fun e => e.typ == 8)).getLast? with | some e => fieldAt e.body 0 1 == 1 | none => false
/-- What the engine shows of the active generation (R176). -/
def Dev.showPlan (d : Dev) : Dev :=
  match d.cyc.active with
  | none => d
  | some g =>
    let pip := (g.blocks.head?.map (·.pipelined)).getD false
    ((d.set CE_STATUS.PLAN_GEN g.num).set CE_STATUS.LANES_USED (((List.range 32).filter (fun l => !(laneSeq d.plan l).isEmpty)).length)).set
      CE_STATUS.PIPELINED (flag pip)
/-- Join completes at a bell of count `count` with reference instant `ref` (R45, R102): the working generation runs from it. A joiner's first log is
that of the cycle its own first bell opens (R23). No GENERATION_ACTIVE is posted: R95 and R119 name the activating bell of a pending generation only
(DEDUCED). -/
def Dev.joinDone (count : Nat) (ref : LTime) (founded : Bool) (seen : List Nat) (d : Dev) : Dev :=
  let target := (d.cyc.join.map (·.target)).getD 6
  let d : Dev := { d with cyc := { d.cyc with
    join := none, running := true, closed := !founded, count := count, ref := ref, active := d.cyc.working.map (formPlan d.allParams), log := [], used := 0, partsSent := 0
    preBell := !founded } }
  let d := match d.cyc.active with | some g => d.forEach (genPorts g) (fun n d =>
      ((d.setPort n { d.port n with rx := [], rxPrev := [], bell := none, sentBell := false, acting := false, txEnd := [], down := none }).showGeneration g n).set
        (NLS_SCHED_STATUS.JOINED n) (flag (founded || seen.contains n))) | none => d
  let d := (d.showPlan.openAxes.set LTM_STATUS.VALID 1).post 0 0x0010 (leBytes 1 (flag founded))
  let d := if founded && d.ltm.trunk.isEmpty && d.get LTM_LINE.LINE_RANK ≤ 3 then d.becomeOrigin else d
  let d : Dev := { d with eng := { d.eng with channels := [], masters := [], host := [] } }
  let d := if d.lockedOut then ((d.enterMode 9 7 0 (some count) false).driveOutputs false).showSafety
    else
      let d : Dev := d.enterMode 6 7 0 (some count) (target == 7)
      { d with mir := { d.mir with runNext := target == 7 } }
  d.forEach d.linePorts Dev.showCycle
/-- A founding controller opens cycle 0 (R102, R122). -/
def Dev.found (d : Dev) : Dev := (d.joinDone 0 d.now true []).sendBells
/-- A valid bell of the working generation in Join (R102): when every port that has a master beyond it has the bells of two consecutive cycles (a port
that bells have reached, and every segment while the partner holds a valid permit), the controller steps line time (R121) and joins, the bells of this cycle being heard. The bell's lag behind the reference instant is a free value below one block (R82). -/
def Dev.joinBell (n c rx : Nat) (f : Frame) (b : SchedBlock) (d : Dev) : Dev :=
  match d.cyc.join with
  | none => d
  | some j =>
    let p := f.payload
    let d := if n < 8 then d.seeEpoch (fieldAt p 14 4) (fieldAt p 18 3) (!bitAt (fieldAt p 13 1) 3) else d
    let old := j.bells.filter (fun x => !(x.1 == f.cycle && x.2.2.2.2 == n))
    let fresh := old.length == j.bells.length
    let bells := if fresh then j.bells ++ [(f.cycle, rx, fieldAt p 0 10, d.bellDelay n c f.src b, n)] else j.bells
    let d : Dev := { d with cyc := { d.cyc with join := some { j with bells := bells, silent := false } }, ltm := { d.ltm with alignWait := false } }
    let c0 := (f.cycle + 2 ^ 32 - 1) % 2 ^ 32
    let held := if d.partnerHolds then ((d.cyc.working.map genPorts).getD []).filter (fun m => decide (m < 8)) else []
    let ports := (bells.map (·.2.2.2.2) ++ held).eraseDups
    let got := fun (k m : Nat) => bells.find? (fun x => x.1 == k && x.2.2.2.2 == m)
    if !ports.all (fun m => (got c0 m).isSome && (got f.cycle m).isSome) then d else
      match got c0 n, got f.cycle n with
      | some b1, some b2 =>
        let d := d.servoFromBells b1.2.1 b1.2.2.1 b2.2.1 b2.2.2.1
        let x := d.draw
        let d := x.2.stepTime (d.now + b2.2.2.1 + b2.2.2.2.1 - b2.2.1)
        let d := d.joinDone f.cycle (b2.2.2.1 - x.1 % (tb5 b.rate / 5)) false ports
        d.forEach ports (fun m d => d.setPort m { d.port m with bell := some ⟨fieldAt p 12 1 % 4, c == 1, rx, f.cycle, p⟩ })
      | _, _ => d
/-- Whether a bell's source fits its slot (R84, R86, R92): the controller at the other end in that end's bell slot, or a node of rank 2 or 3 of the
segment. -/
def Dev.bellSource (d : Dev) (n src : Nat) (e : SlotEntry) : Bool :=
  e.kind ≤ 1 && ((d.farSource n src && e.kind == (if d.headEnd n then 1 else 0)) || (decide (n < 8) && d.nodeSource n (src % 64) src))
/-- BELL_RECEIVED (R86, R99, R102): a frame of a bell slot on a channel, its SOF received at line time `rx`. A bell of any generation ends the silence
that a founder times. A bell whose CRCs hold and whose payload is not 40 bytes long is counted as a CRC error of its channel: the manual does not say
what is done with it (DESIGN CHOICE). -/
def Dev.bellReceived (n c rx : Nat) (bs : List Byte) (d : Dev) : Dev :=
  let f := parseFrame bs
  let join := d.mode == 5 && d.cyc.join.isSome
  let blk := if join then d.planBlock n else d.activeBlock n
  if !join && !d.cyc.running then d
  else if !f.hdrOk || !knownType f.typ then d.crcErr n c
  else match blk with
    | none => d
    | some b =>
      let d := if f.typ = 1 then { d with cyc := { d.cyc with join := d.cyc.join.map (fun j => { j with silent := false }) } } else d
      let inSlot := match b.slots[f.slot]? with | some e => d.bellSource n f.src e | none => false
      if f.typ ≠ 1 || !inSlot || (!join && f.cycle ≠ d.cyc.count) then d
      else if !f.bodyOk || f.payload.length ≠ 40 then d.crcErr n c
      else if fieldAt f.payload 10 2 ≠ b.gen then d
      else if join then d.joinBell n c rx f b else d.takeBell n c rx f b
/-- JOIN_LISTEN_EXPIRY (R102): without a bell, a controller that may found times a silent cycle. -/
def Dev.listenExpiry (d : Dev) : Dev :=
  match d.cyc.join with
  | some j =>
    if d.mode ≠ 5 || j.listened then d else
      let may := j.bells.isEmpty && (d.sys.package.map (·.founding)).getD false
      { d with cyc := { d.cyc with join := some { j with listened := true, silent := may } } }
  | none => d
/-- SILENT_CYCLE_END (R102, R122): the line is founded, after the next PPS edge when the package aligns line time to it. -/
def Dev.silentEnd (d : Dev) : Dev :=
  match d.cyc.join with
  | some j =>
    if d.mode ≠ 5 || !j.silent || d.ltm.alignWait then d
    else if (d.sys.package.map (·.ppsAlign)).getD false then { d with ltm := { d.ltm with alignWait := true } }
    else d.found
  | none => d
/-- JOIN_LIMIT_EXPIRY (R102). -/
def Dev.joinLimit (d : Dev) : Dev :=
  match d.cyc.join with
  | some j =>
    if d.mode ≠ 5 then d
    else (d.post 0 0x0011 (leBytes 1 (flag (!j.bells.isEmpty)))).enterMode 4 7 0 none false
  | none => d
/-- PPS_EDGE (R122, R134): a founder that waited for the edge opens cycle 0. -/
def Dev.ppsArrives (d : Dev) : Dev :=
  let wait := d.ltm.alignWait && d.mode == 5
  let d := d.ppsEdge
  if wait then d.found else d

/-- BELL_RECEIVED (R99). -/
def execBellReceived (n : Fin 10) (c : Fin 2) (rx : BitVec 80) (bytes : List Byte) (s : State) : Answer :=
  .next (s.onDev (Dev.bellReceived n.val c.val rx.toNat bytes))
/-- BACKUP_BELL_WAIT (R100). -/
def execBackupBellWait (n : Fin 8) (s : State) : Answer := .next (s.onDev (Dev.backupBell n.val))
/-- JOIN_LISTEN_EXPIRY (R102). -/
def execJoinListenExpiry (s : State) : Answer := .next (s.onDev Dev.listenExpiry)
/-- SILENT_CYCLE_END (R102). -/
def execSilentCycleEnd (s : State) : Answer := .next (s.onDev Dev.silentEnd)
/-- JOIN_LIMIT_EXPIRY (R102). -/
def execJoinLimitExpiry (s : State) : Answer := .next (s.onDev Dev.joinLimit)
/-- PPS_EDGE (R134). -/
def execPpsEdge (s : State) : Answer := .next (s.onDev Dev.ppsArrives)

end Sys2Proof.Machine
end

