-- ==== Sys2Proof/Machine/Downlink.lean ====
section
/-! DEFINITION. Sys2Proof/Machine/Downlink.lean: the downlink frame, put together while it goes out (R89, R161, R163). -/
namespace Sys2Proof.Machine

/-- The downlink slot that this end sends on a segment (R92): its index and entry. -/
def Dev.downSlot (d : Dev) (n : Nat) (b : SchedBlock) : Option (SlotEntry × Nat) :=
  b.slots.zipIdx.find? (fun e => e.1.kind == (if d.headEnd n then 3 else 4) && entryTime (d.headEnd n) e.1 != unusedTime)
/-- Whether a segment has nodes without axes (R88, R89): uplink slots of a node to which no axis is bound. -/
def Dev.ioNodes (d : Dev) (n : Nat) (b : SchedBlock) : Bool :=
  b.slots.zipIdx.any (fun e => e.1.kind == 2 && decide (e.1.owner < 64) && !(d.binds.any (fun x => x.port == n && x.slot == e.2)))
/-- The downlink payload of a segment (R89): the records in slot order, `f` giving an axis's record. The I/O images of nodes without axes stand in the bytes
that no record takes; the manual gives neither their offsets nor their contents, so those bytes are free values. -/
def Dev.downBytes (n : Nat) (b : SchedBlock) (len : Nat) (f : Nat → List Byte) (d : Dev) : List Byte × Dev :=
  let x := if d.ioNodes n b then let x := d.draw; (leBytes len x.1, x.2) else (zeros len, d)
  ((d.binds.filter (fun x => x.port == n)).foldl (fun p x => if 16 * x.record + 16 ≤ len then spliceAt p (16 * x.record) (padTo 16 (f x.axis)) else p) x.1, x.2)
/-- What an axis's downlink record is in the present cycle (R54, R161, R163, R169). -/
def Dev.downRecord (d : Dev) (a : Nat) : List Byte :=
  let r := padTo 16 (d.axis a).lastRecord
  if d.vacant a then zeros 16
  else if (d.cyc.active.map (·.dormant)).getD false then spliceAt r 12 [0, 0]
  else if d.mode = 9 then spliceAt r 12 (leBytes 2 (withBits (fieldAt r 12 2) 0 0 0))
  else if d.eng.repeatOnly then spliceAt r 12 (leBytes 2 (withBits (fieldAt r 12 2) 1 1 0))
  else r
/-- Whether nothing is open about an axis's record of this cycle (R161): it has completed or been abandoned, or no lane computes it. -/
def Dev.settled (d : Dev) (a : Nat) : Bool :=
  !d.lanesRun || d.vacant a || (d.axis a).standing != 0 || !(d.plan.any (fun e => e.axis == a))
/-- The downlink frame of a port goes out whole once every record of it is settled (R161). Its header's held flag (R85) then tells of every record; its
time on the transmitter has counted from the slot's start. -/
def Dev.finishDown (n : Nat) (d : Dev) : Dev :=
  match (d.port n).down, d.activeBlock n with
  | some i, some b =>
    let axes := (d.binds.filter (fun x => x.port == n)).map (·.axis)
    if !axes.all d.settled then d else
      match b.slots[i]? with
      | none => d
      | some e =>
        let was := (d.port n).txEnd
        let d := d.setPort n { d.port n with down := none }
        let r := d.downBytes n b e.maxPay d.downRecord
        let held := axes.any (fun a => bitAt (fieldAt (d.downRecord a) 12 2) 1)
        let d := r.2.sendFrame n 0 3 (2 * flag held) 0xFFF000 i d.cyc.count r.1
        d.setPort n { d.port n with txEnd := was }
  | _, _ => d
/-- The downlink frame of slot `i` begins: it stands on the port's transmitters from now on (R101), and goes out. -/
def Dev.beginDown (n i : Nat) (d : Dev) : Dev :=
  let pay := (((d.activeBlock n).bind (fun b => b.slots[i]?)).map (·.maxPay)).getD 0
  let dur := dur5 (((d.activeBlock n).map (·.rate)).getD 2) pay / 5
  let d := d.forN 2 (fun c d => if d.laneReady n c then d.setPort n { d.port n with txEnd := putKey c (max d.now (d.txEnd n c) + dur) (d.port n).txEnd } else d)
  Dev.finishDown n (d.setPort n { d.port n with down := some i })
/-- Every downlink frame whose records are settled by now goes out. -/
def Dev.settleDown (d : Dev) : Dev := d.forEach d.linePorts Dev.finishDown
/-- No deadline of a frame lies beyond its end: what is still open on a port is abandoned (R163). -/
def Dev.forceDown (n : Nat) (d : Dev) : Dev :=
  if (d.port n).down.isNone then d else
    Dev.finishDown n (d.forEach ((d.binds.filter (fun x => x.port == n)).map (·.axis)) Dev.axisDeadline)

/-- LANE_START (R156). -/
def execLaneStart (lane : Fin 32) (s : State) : Answer := .next (s.onDev (fun d => (d.laneStart lane.val).settleDown))
/-- AXIS_DEADLINE (R163). -/
def execAxisDeadline (axis : Fin 512) (s : State) : Answer := .next (s.onDev (fun d => (d.axisDeadline axis.val).settleDown))
/-- LANE_ERROR (R173). -/
def execLaneError (lane : Fin 32) (s : State) : Answer := .next (s.onDev (fun d => (d.laneError lane.val).settleDown))

end Sys2Proof.Machine
end

