-- ==== Sys2Proof/Machine/Pair.lean ====
section
/-! DEFINITION. Sys2Proof/Machine/Pair.lean: what holder and standby hold against each other: incidents and PAIR_FAULT (R301 to R303), proofs of the
paths (R310), the sweep order and slices (R300), digests (R299) and the handover of the permit (R311, R313). -/
namespace Sys2Proof.Machine

/-- Ten seconds of line time. -/
def tenSeconds : LTime := ns 10000000000
/-- Incidents of the last 10 s, as MIR_DIVERGE_LAST shows them. -/
def Dev.showRecent (d : Dev) : Dev :=
  d.set MIR_DIVERGE_LAST.RECENT (min 3 ((d.mir.incidents.filter (fun t => decide (d.now < t + tenSeconds))).length))
/-- An incident or a log loss is detected (R302, R303): fewer than 10 s after the second-previous one it sets PAIR_FAULT. -/
def Dev.noteIncident (d : Dev) : Dev :=
  let hit := match d.mir.incidents[1]? with | some t => decide (d.now < t + tenSeconds) | none => false
  let d : Dev := { d with mir := { d.mir with incidents := (d.now :: d.mir.incidents).take 4 } }
  d.showRecent.when (hit && !d.on MIR_STATUS.PAIR_FAULT) (Dev.pairFault 0)
/-- Whether the standby compares (R298, R302). -/
def Dev.comparing (d : Dev) : Bool := d.mode == 8 && d.on MIR_STATUS.SYNCED && !d.on MIR_STATUS.PAIR_FAULT
/-- A divergence of a group is detected (R298, R301): a further one before the outcome belongs to the same incident. -/
def Dev.diverge (group kind : Nat) (d : Dev) : Dev :=
  if !d.comparing then d else
    let d := (d.set MIR_DIVERGE_LAST.GROUP group).set MIR_DIVERGE_LAST.KIND kind
    if d.mir.incident.isSome then d else
      ({ d with mir := { d.mir with incident := some ⟨group, kind, d.cyc.count, none, none, none⟩ } } : Dev).count32 MIR_DIVERGE_CNT 1 |>.noteIncident
/-- The full self-test of an incident begins: no lane counts as passed until it has passed again (R174, R301). -/
def Dev.startSelfTest (d : Dev) : Dev := ({ d with eng := { d.eng with chunks := [] } } : Dev).wr CE_SELFTEST 0
/-- The notice of an incident is given (R301): both controllers start their self-tests and count 64 cycles from it. -/
def Dev.giveNotice (d : Dev) : Dev :=
  match d.mir.incident with
  | some i => if i.notice.isSome then d else
      Dev.startSelfTest { d with mir := { d.mir with incident := some { i with notice := some d.cyc.count } } }
  | none => d
/-- The own self-test of an incident ends when all lanes have passed or one has failed; the result goes out in a CONTROL frame (R301). -/
def Dev.ownResult (d : Dev) : Dev :=
  match d.mir.incident with
  | some i =>
    let failed := d.rd CE_LANE_FAILED != 0 || d.eng.failing != 0
    let passed := d.rd CE_SELFTEST == 2 ^ 32 - 1
    if i.notice.isNone || i.own.isSome || !(failed || passed) then d else
      Dev.mirControl (.result (!failed)) { d with mir := { d.mir with incident := some { i with own := some (!failed) } } }
  | none => d
/-- The holder's log of the finished cycle counts as lost (R303). -/
def Dev.logLost (d : Dev) : Dev :=
  let d := ((d.count32 MIR_LOG_LOSS_CNT 1).post 0x01C0 0x01C9 (leBytes 4 d.cyc.count)).mirControl (.logLost d.cyc.count)
  let d := d.noteIncident
  if d.on MIR_STATUS.BULK then d.askResync ((d.mir.resync).getD false) true else d.askResync ((d.mir.resync).getD false) false

/-- Paths that count for PROOF_OVERDUE (R310): of the segments the active generation enables, and 16 and 17. -/
def Dev.countedPaths (d : Dev) : List Nat :=
  let segs := d.linePorts.filter (· < 8)
  segs ++ segs.map (· + 8) ++ [16, 17]
/-- Time in ns of the standby's last proof of a path, as this controller knows it (R313): its own register, or what it has confirmed. -/
def Dev.standbyProof (d : Dev) (p : Nat) : Nat := if d.standby then d.rd64 (MIR_PROOF_LO p) else lookupD p 0 d.mir.confirmed
/-- Whether one controller of the pair is a standby, as this one knows it. -/
def Dev.pairStands (d : Dev) : Bool := d.standby || d.partnerShadow
/-- Age in ns of the oldest counted proof of the standby; none when a path was never proved. -/
def Dev.proofAge (d : Dev) : Option Nat :=
  if d.countedPaths.any (fun p => d.standbyProof p == 0) then none
  else some ((d.countedPaths.map (fun p => nsOf d.now - d.standbyProof p)).foldl max 0)
/-- PROOF_OVERDUE (R55, R310, R311): a path never proved has the age of line time itself (entry 107); a path that failed a drill stays overdue
until it is proved. -/
def Dev.showOverdue (d : Dev) : Dev :=
  let past := d.countedPaths.any (fun p => decide (d.standbyProof p + d.get SYS_DRILL_LIMIT.HOURS * 3600000000000 < nsOf d.now))
  d.cond condPROOF_OVERDUE ((d.pairStands && past) || !d.mir.failed.isEmpty)
/-- A path of the partner is confirmed to it (R310). -/
def Dev.confirmPath (p : Nat) (d : Dev) : Dev :=
  { d with mir := { d.mir with confirmed := putKey p (nsOf d.now) d.mir.confirmed, failed := d.mir.failed.filter (· ≠ p) } }
/-- Paths of the partner that reached this controller on both channels (R310), with PERMIT_OUT when PERMIT_IN is active. -/
def Dev.seenPaths (d : Dev) : List Nat :=
  let both := fun (ks : List Nat) => (List.range 8).filter (fun s => ks.contains s && ks.contains (8 + s))
  both d.mir.bells ++ (both d.mir.downs).map (· + 8) ++ (if d.on MIR_STATUS.PERMIT_IN then [17] else [])
/-- A mask of numbers. -/
def maskOf (ps : List Nat) : Nat := ps.foldl (fun m p => Nat.lor m (2 ^ p)) 0

/-- The sweep order (R300): axes of the plan by level and index, then the others. -/
def Dev.sweepOrder (d : Dev) : List Nat :=
  let plan := d.plan
  let at_ := fun v => (List.range 512).filter (fun a => match plan.find? (fun e => e.axis == a) with | some e => e.level == v | none => false)
  let named := at_ 0 ++ at_ 1 ++ at_ 2 ++ at_ 3
  named ++ (List.range 512).filter (fun a => !named.contains a)
/-- The axes of a slice. -/
def Dev.sliceAxes (d : Dev) (k : Nat) : List Nat := (d.sweepOrder.drop (8 * k)).take 8
/-- The digest of a group (R299). -/
def Dev.digest (d : Dev) (g : Nat) : Nat :=
  crc64 ((List.range 16).flatMap (fun i =>
    let a := 16 * g + i
    let s := d.axis a
    (if (d.bindOf a).isSome then padTo 16 s.record else zeros 16) ++ axisStateBytes s))
/-- A signed field of `n` bytes. -/
def siAt (b : List Byte) (o n : Nat) : Int := signedOf (8 * n) (fieldAt b o n)
/-- Words from an offset on. -/
def wordsAt (b : List Byte) (o n : Nat) : List Nat := (List.range n).map (fun i => fieldAt b (o + 4 * i) 4)
/-- An axis record's state from its 512 bytes (R209); what the area does not hold stays. -/
def axisOfBytes (b : List Byte) (s : AxisState) : AxisState :=
  let w0 := fieldAt b 0 4
  let w1 := fieldAt b 4 4
  { s with
    enabled := bitAt w0 0, faulted := bitAt w0 1, stopping := bitAt w0 2, stopped := bitAt w0 3, miss := bitAt w0 4, stale := bitAt w0 5,
    masterHeld := bitAt w0 6, masterStale := bitAt w0 7, saturated := bitAt w0 8, limit := bitAt w0 9, stoSeen := bitAt w0 10, first := bitAt w0 11,
    follows := bitAt w0 12, genLive := bitsOf w0 15 13, faultCode := bitsOf w1 7 0, consecMiss := bitsOf w1 11 8, staleRun := bitsOf w1 14 12,
    feRun := bitsOf w1 19 16, missCount := fieldAt b 8 4, xs := siAt b 16 8, xref := siAt b 24 8, xfb := siAt b 32 8, vs := fieldAt b 40 4,
    as := fieldAt b 44 4, js := fieldAt b 48 4, vfb := fieldAt b 52 4, ip := fieldAt b 56 4, iv := fieldAt b 60 4, ePrev := fieldAt b 64 4,
    vhat := fieldAt b 68 4, dhat := fieldAt b 72 4, tau := fieldAt b 76 4, pbq := wordsAt b 80 4, vbq := wordsAt b 96 8, rem := siAt b 128 12,
    mprev := siAt b 144 8, c := siAt b 152 8, pend := siAt b 160 8, regSeq := fieldAt b 168 2, lastRecord := padTo 16 ((b.drop 176).take 16),
    target := siAt b 192 8, pa := fieldAt b 200 4, ph := fieldAt b 204 4, left := fieldAt b 208 4,
    phases := (List.range 8).map (fun i => (fieldAt b (216 + 8 * i) 4, fieldAt b (220 + 8 * i) 4)), jogVt := fieldAt b 280 4,
    lastCycle := fieldAt b 284 4, markSeq := fieldAt b 288 1, markSeen := bitAt (fieldAt b 289 1) 0 }

/-- A standby takes the permit at the present bell (R45, R290, R304): `cause` as SYS_MODE_CAUSE. PAIR_FAULT
bars the holder's mode, after the holder's own self-test has failed too (R301). -/
def Dev.standbyTakes (cause : Nat) (d : Dev) : Dev :=
  let ok := d.on MIR_STATUS.SYNCED && !d.on MIR_STATUS.PAIR_FAULT
  let hm := d.mir.holderMode
  let r := d.takePermit cause
  if !r.1 then r.2 else
    let d := r.2
    let b := some d.cyc.count
    let d : Dev := { d with mir := { d.mir with resync := none, sweepFrom := none, incident := none, stopping := false } }
    let d := (d.set MIR_STATUS.SYNCED (flag ok)).set MIR_STATUS.SWEEP 0
    let d := if d.mode ≠ 8 then d
      else if hm = 9 then
        let d : Dev := ({ d with saf := { d.saf with lastDemand := d.now } } : Dev).transact [(8, leBytes 1 1 ++ leBytes 1 7)]
        ((((d.safPost 0x0C03 [7]).disableAll).enterMode 9 cause 0 b false).driveOutputs false).showSafety
      else if ok then d.enterMode (if hm = 7 || hm = 6 then hm else 6) cause 0 b false
      else d.disableAll.enterMode 6 cause 0 b false
    d.leadTime.showRole
/-- The permit passes at its announced bell (R45, R311, R313), out of Run or Ready at the holder. The former holder keeps its standing as a synchronised
standby. A standby takes it while it is synchronised and PAIR_FAULT is clear, or when the holder yields in a divergence (R301); otherwise it stays in
Shadow, where its lease count decides. -/
def Dev.handover (h : Handover) (d : Dev) : Dev :=
  let d : Dev := { d with mir := { d.mir with handover := none } }
  let b := some d.cyc.count
  if d.permit then
    if d.mode ≠ 6 && d.mode ≠ 7 then d.completeOpt h.ref stWRONG_MODE d.cyc.ref [] else
    let d := (d.dropPermit (d.rd MIR_EPOCH + 1) d.partnerAddr).completeOpt h.ref stACCEPTED d.cyc.ref []
    let d := (d.set MIR_LEASE.MISSING 0).set MIR_LEASE.IN_FORCE (d.lget MIR_CTRL.LEASE)
    let d : Dev := { d with mir := { d.mir with holderMode := d.mode, rx := [], rxBad := false, lastLog := (d.cyc.count + 2 ^ 32 - 1) % 2 ^ 32, stopping := false } }
    match h.kind with
    | 2 => (d.disableAll.enterMode 6 0x0A 0 b false).showRole
    | 3 => d.goConfigure 6 ((d.sys.request.map (·.2.tag)).getD 0) b
    | k => (d.enterMode 8 (if k = 0 then 9 else 0x0A) 0 b false).showRole
  else
    let passes := d.mode == 8 && (d.mir.holderMode == 6 || d.mir.holderMode == 7) && d.on MIR_STATUS.SYNCED && (h.kind == 2 || !d.on MIR_STATUS.PAIR_FAULT)
    if !passes then d else
      let d := (d.set MIR_LEASE.MISSING 0).standbyTakes (if h.kind = 0 then 9 else 0x0A)
      let d : Dev := { d with mir := { d.mir with passed := some h.bell } }
      if h.kind = 0 && h.back ≠ 0 then { d with mir := { d.mir with back := some ((h.bell + h.back + 2 ^ 32 - 2) % 2 ^ 32) } } else d
/-- A path of this controller has failed a drill (R311): its proof is 0 until it is proved again, and PROOF_OVERDUE is set at once. -/
def Dev.pathFailed (path : Nat) (d : Dev) : Dev :=
  Dev.cond condPROOF_OVERDUE true { d.wr64 (MIR_PROOF_LO path) 0 with mir := { d.mir with failed := path :: d.mir.failed } }
/-- A drill has failed at the former holder (R311): the proof of the partner's path is void at both controllers. -/
def Dev.drillFailed (path : Nat) (aborted : Bool) (d : Dev) : Dev :=
  let d : Dev := { d with mir := { d.mir with confirmed := d.mir.confirmed.filter (fun x => x.1 != path), failed := path :: d.mir.failed } }
  ((d.mirControl (.failed path)).cond condPROOF_OVERDUE true).post 0x01C0 0x01CB (leBytes 1 path ++ leBytes 1 (flag aborted))
/-- The check of a drill at the bell after its handover (R311): the first checked segment whose bell or downlink did not come aborts it. -/
def Dev.drillCheck (x : Drill) (d : Dev) : Dev :=
  let gone := fun (ks : List Nat) (s : Nat) => !(ks.contains s || ks.contains (8 + s))
  let reached := (x.downs.filter (fun k => decide (16 ≤ k))).map (· - 16)
  let bad := ((x.checked.filter (gone x.bells)) ++ (x.checked.filter (gone reached)).map (· + 8)).head?
  match bad with
  | some p =>
    let hm := d.mir.holderMode
    let d : Dev := { d with mir := { d.mir with drill := none } }
    let r := d.takePermit 9
    if !r.1 then r.2
    else ((r.2.enterMode (if hm = 6 || hm = 7 then hm else 6) 9 0 (some d.cyc.count) false).leadTime.showRole).drillFailed p true
  | none => { d with mir := { d.mir with drill := some { x with passed := true } } }
/-- A drill is done once paths 0 to 15 of its checked segments are proved on both channels (R311). -/
def Dev.drillDone (d : Dev) : Dev :=
  match d.mir.drill with
  | some x =>
    let both := fun (ks : List Nat) (s : Nat) => ks.contains s && ks.contains (8 + s)
    let now := x.passed && !x.done && x.checked.all (fun s => both x.bells s && both x.downs s)
    let x := { x with done := x.done || now }
    let d : Dev := { d with mir := { d.mir with drill := if x.done && x.awaiting.isEmpty then none else some x } }
    d.when now (Dev.post 0x01C0 0x01CA (leBytes 4 (d.rd MIR_EPOCH)))
  | none => d
/-- Segments that a drill checks (R311): both own channels up and no position lost. -/
def Dev.drillSegments (d : Dev) : List Nat :=
  d.linePorts.filter (fun n => n < 8 && d.link n 0 == hsUP && d.link n 1 == hsUP && !d.on (NLS_SEG_FAULT.HOP_LOSS n))
/-- A hand-back is due at the present count (R311): it is logged as a drill, or not run. -/
def Dev.handBack (d : Dev) : Dev :=
  match d.mir.back with
  | some c =>
    if c ≠ d.cyc.count || !d.permit then d else
      let d : Dev := { d with mir := { d.mir with back := none } }
      if d.on MIR_STATUS.PAIR_FAULT || d.mode = 9 || !d.partnerShadow || !d.on MIR_STATUS.SYNCED then
        d.post 0x01C0 0x01CB (leBytes 1 0xFF ++ leBytes 1 0)
      else d.logInput 0x01 68 (.permit 0 0) none
  | none => d

end Sys2Proof.Machine
end

