-- ==== Sys2Proof/Machine/Cycle.lean ====
section
/-! DEFINITION. Sys2Proof/Machine/Cycle.lean: the cycle boundary and the logs (R14, R20 to R23, R79, R95, R296, R303), with what every logged input does
when it enters the law. -/
namespace Sys2Proof.Machine

/-- Whether the schedule of a generation is pipelined (R114, R169). -/
def pipelinedGen (g : Option Generation) : Bool := ((g.bind (fun g => g.blocks.head?)).map (·.pipelined)).getD false
/-- W2 and W3 of a segment's block under R100 for the designated nodes set with SET_MASTER_RANK (R145): `W_k` is 500 ns after the latest of the bells of
lower rank at the position of rank `k`, rank 0 being taken at the head end and rank 1 at the tail end of a closed line; a rank with no position set keeps
its planned wait (DESIGN CHOICE: the manual does not say from which end rank 0 is counted). -/
def Dev.rankWaits (d : Dev) (n : Nat) (b : SchedBlock) : SchedBlock :=
  let pos := fun (k : Nat) => ((d.port n).ranks.find? (fun x => x.1 == k && x.2 != 0xFF)).map (·.2)
  let ceil := fun (x : Nat) => (x + 65535) / 65536
  let head := fun (p : Nat) => ceil (max (d.toNode n 0 p) (d.toNode n 1 p))
  let tail := fun (p : Nat) => if b.closed then b.w1 + ceil (max (d.tailToNode n 0 b.planNodes p) (d.tailToNode n 1 b.planNodes p)) else 0
  let between := fun (p q : Nat) => head (max p q) - head (min p q)
  let w2 := match pos 2 with | some p => max (head p) (tail p) + 500 | none => b.w2
  let w3 := match pos 3 with
    | some p => max (max (head p) (tail p)) (match pos 2 with | some q => w2 + between q p | none => 0) + 500
    | none => b.w3
  { b with w2 := w2, w3 := w3 }
/-- A generation with the waits of its designated nodes (R145). -/
def Dev.ranked (d : Dev) (g : Generation) : Generation :=
  { g with blocks := g.blocks.map (fun b => match portOf b.port with | some n => if (d.port n).ranks.isEmpty then b else d.rankWaits n b | none => b) }
/-- A generation becomes active at the present bell (R95, R118, R145, R169, R176). -/
def Dev.activateGen (g : Generation) (d : Dev) : Dev :=
  let g := formPlan d.allParams (d.ranked g)
  let old := d.cyc.active
  let prev := (old.map (·.num)).getD 0xFFFF
  let toPipe := old.isSome && !pipelinedGen old && pipelinedGen (some g)
  let toTight := pipelinedGen old && !pipelinedGen (some g)
  let d : Dev := { d with
    cyc := { d.cyc with active := some g, working := if g.dormant then d.cyc.working else some g }
    eng := { d.eng with repeatOnly := toPipe, fb := if toTight then [] else d.eng.fb } }
  let gone := ((old.map genPorts).getD []).filter (fun n => !(genPorts g).contains n)
  let d := d.forEach gone (fun n d =>
    (((d.set (NLS_SCHED_STATUS.ACTIVE_GEN n) 0xFFFF).set (NLS_SCHED_STATUS.COUNTDOWN n) 0).set (NLS_SCHED_STATUS.JOINED n) 0).set (NLS_SCHED_STATUS.ACTING n) 0)
  (d.forEach (genPorts g) (fun n d =>
    ((d.setPort n { d.port n with ranks := [] }).showGeneration g n).post (portSource n) 0x010F (leBytes 2 g.num ++ leBytes 2 prev))).showPlan.showPlanned
/-- The shadow copy of the generations empties (R118). -/
def Dev.dropPending (d : Dev) : Dev :=
  let ports := (d.cyc.pending.map genPorts).getD []
  ({ d with cyc := { d.cyc with pending := none } } : Dev).forEach ports (fun n d => (d.set (NLS_PENDING_GEN.PENDING_GEN n) 0xFFFF).clearAcks n)
/-- The outcome of an ACTIVATE_GENERATION logged in cycle `L` with reference instant `refL` (R95): the bells from it to the activating one and
the status, or none when it is MISSED. -/
def activationBell (refL period : Nat) (at_ : Option (LTime × Nat)) : Option (Nat × Nat) :=
  match at_ with
  | none => some (9, stOK)
  | some (t, tol) =>
    let k : Int := -(((refL : Int) - (t : Int)).fdiv (max 1 period : Nat))
    if 9 ≤ k then some (k.toNat, stOK)
    else match lateness ((9 - k).toNat * period) 0 tol 0 with
      | 1 => some (9, stLATE)
      | _ => none
/-- An activation is decided (R95): the countdown starts unless it is MISSED. -/
def Dev.decideActivate (L : Nat) (refL : LTime) (gen : Nat) (at_ : Option (LTime × Nat)) (ref : Option PktRef) (d : Dev) : Bool × Dev :=
  match activationBell refL (ns d.periodNs) at_ with
  | some (k, st) => (true, { d with cyc := { d.cyc with countdown := some ⟨gen, (L + k) % 2 ^ 32, st, ref⟩ } })
  | none => (false, d)
/-- An announced activation whose bell is the present one (R95). When a LOAD_SCHEDULE of the same log has replaced the announced generation, nothing is
activated and the packet completes with MISSED: the manual states no outcome (DESIGN CHOICE). -/
def Dev.activateDue (d : Dev) : Dev :=
  match d.cyc.countdown with
  | some c =>
    if c.at_ ≠ d.cyc.count then d else
      let d : Dev := { d with cyc := { d.cyc with countdown := none } }
      match d.cyc.pending.filter (fun g => g.num == c.gen) with
      | some g => ((d.activateGen g).dropPending).completeOpt c.ref c.status d.cyc.ref []
      | none => d.completeOpt c.ref stMISSED d.cyc.ref []
  | none => d

/-- A block's commit goes live at `t` (R14, R24). -/
def Dev.goCommit (unit : Nat) (ws : List (Nat × Word)) (t : LTime) (ref : Option PktRef) (d : Dev) : Dev :=
  if 0x0300 ≤ unit && unit < 0x0310 then d.evoCommit (unit - 0x0300) ws t ref
  else
    let d :=
      if unit = 0x0400 then (d.goLiveAll ws).set CE_APPLY.APPLY 0
      else if unit = 0x0401 then d.monCommit ws
      else if unit = 0x0780 then d.adcCommit ws
      else if 0x0A00 ≤ unit && unit < 0x0A04 then d.fbCommit (unit - 0x0A00) ws
      else if 0x0B00 ≤ unit && unit < 0x0B10 then d.tdcCommit (unit - 0x0B00) ws
      else if 0x0B80 ≤ unit && unit < 0x0B90 then d.capCommit (unit - 0x0B80) ws none
      else if 0x0D00 ≤ unit && unit < 0x0D02 then d.canCommit (unit - 0x0D00) ws none
      else if unit = 0x01C0 then (d.goLiveAll ws).set MIR_APPLY.APPLY 0
      else d
    d.completeOpt ref stOK t []
/-- Captured commits go live (R14). -/
def Dev.goCommits (t : LTime) (d : Dev) : Dev :=
  ({ d with cyc := { d.cyc with commits := [] } } : Dev).forEach d.cyc.commits (fun c d => d.goCommit c.unit c.words t c.ref)

/-- A feedback channel's logged sample (R184, R185, R240, R241): one that is not valid leaves the sample before it in place. -/
def Dev.takeSample (n : Nat) (data : List Byte) (d : Dev) : Dev :=
  let d := d.when (d.mode == 8) (Dev.fbFollow n data)
  let old := (d.eng.channels.find? (fun x => x.1 == n)).map (·.2)
  let ok := fieldAt data 22 1 = 1
  if ok then
    { d with eng := { d.eng with channels := putKey n ⟨signedOf 64 (fieldAt data 0 8), fieldAt data 8 4, fieldAt data 12 10, true, false⟩ d.eng.channels } }
  else match old with
    | some x => { d with eng := { d.eng with channels := putKey n { x with valid := false } d.eng.channels } }
    | none => d
/-- Logged trunk master entries (R131, R184, R185): the line time of the samples and 16 bytes an entry. -/
def Dev.takeMasters (b : List Byte) (d : Dev) : Dev :=
  let t := fieldAt b 0 10
  d.forN ((b.length - 10) / 16) (fun i d =>
    let e := (b.drop (10 + 16 * i)).take 16
    let m := fieldAt e 0 2 % 1024
    let fl := fieldAt e 2 2
    if bitAt fl 0 && !fpFinite (fieldAt e 12 4) then
      let old := ((d.eng.masters.find? (fun x => x.1 == m)).map (·.2)).map (fun x => (m, { x with valid := false }))
      { d with eng := { d.eng with nonFinite := d.eng.nonFinite ++ [m], masters := d.eng.masters.filter (fun x => x.1 != m) ++ old.toList } }
    else if bitAt fl 0 then
      { d with eng := { d.eng with masters := putKey m ⟨signedOf 64 (fieldAt e 4 8), fieldAt e 12 4, t, true, bitAt fl 1⟩ d.eng.masters } }
    else match (d.eng.masters.find? (fun x => x.1 == m)).map (·.2) with
      | some x => { d with eng := { d.eng with masters := putKey m { x with valid := false } d.eng.masters } }
      | none => d)
/-- The tag of the pending SET_MODE. -/
def Dev.reqTag (d : Dev) : Nat := ((d.sys.request.map (·.2.tag))).getD 0
/-- The dormant generation becomes active and the mode changes (R45, R52, R54). -/
def Dev.goDormant (cause detail : Nat) (d : Dev) : Dev :=
  match d.dormantGen with
  | some g => (d.activateGen g).enterMode 10 cause detail (some d.cyc.count) false
  | none => d.endRequest
/-- A SET_MODE to Run of a controller in Ready (R45, R48, R52): `holds` says that the partner holds a valid permit. -/
def Dev.toRun (holds : Bool) (d : Dev) : Dev :=
  let b := some d.cyc.count
  if !d.permit && holds then
    if d.mirrorUp then (d.enterMode 8 6 d.reqTag b false).enterShadow else d.enterMode 6 6 d.reqTag b false
  else
    let r := d.takePermit 6
    let d : Dev := { r.2 with mir := { r.2.mir with tookAt := if r.1 then some r.2.cyc.count else none } }
    if r.1 then (d.enterMode 7 6 d.reqTag b false).leadTime else d.enterMode 6 6 d.reqTag b false
/-- A logged change of mode acts (R45, R47): at the holder, and in the standby's view of it. -/
def Dev.enterModeAct (holds : Bool) (t : Nat) (d : Dev) : Dev :=
  if d.mode = 8 then
    match t with
    | 6 => (({ d with mir := { d.mir with stopping := d.mir.holderMode == 7 } } : Dev)).when (d.mir.holderMode == 7) (Dev.orderStops 0xFFFF 0 0xFFFF)
    | 7 => { d with mir := { d.mir with holderMode := 7 } }
    | 10 => d.goDormant 0x10 0
    | _ => d
  else if d.mode = 6 && t = 7 then d.toRun holds
  else if d.mode = 7 && t = 6 then ({ d with mir := { d.mir with stopping := true } } : Dev).orderStops 0xFFFF 0 0xFFFF
  else if (d.mode = 6 || d.mode = 7) && t = 10 && d.enabledAxes.isEmpty then d.goDormant 6 d.reqTag
  else d.endRequest
/-- The logged change of mode of this boundary acts, after the permit events and the wake (R49): a request whose controller has gained or lost the
permit at this boundary is no longer legal and ends. -/
def Dev.modeNow (holds : Bool) (d : Dev) : Dev :=
  match d.mir.modeDue with
  | none => d
  | some (t, was) =>
    let d : Dev := { d with mir := { d.mir with modeDue := none } }
    if d.permit = was then d.enterModeAct holds t else d.endRequest
/-- A controlled stop towards Ready has ended in every group (R45). -/
def Dev.stopsDone (d : Dev) : Dev :=
  if !d.mir.stopping || !(List.range 16).all d.groupStopped then d else
    let d : Dev := Dev.disableAll { d with mir := { d.mir with stopping := false } }
    if d.mode = 8 then { d with mir := { d.mir with holderMode := 6 } }
    else if d.mode = 7 then d.enterMode 6 6 d.reqTag (some d.cyc.count) false
    else d
/-- A SET_MODE to Run of a controller in Ready without the permit acts at the boundary (R45, R48). -/
def Dev.runNow (holds : Bool) (d : Dev) : Dev :=
  if !d.mir.runNext then d else
    let d : Dev := { d with mir := { d.mir with runNext := false } }
    if d.mode = 6 then d.toRun holds else d.endRequest
/-- The wake of a dormant line at its bell (R51, R53): `Dev.wakeAt` holds the logging cycle and the time of the wake event. -/
def Dev.wakeDue (d : Dev) : Dev :=
  match d.cyc.wakeAt, d.cyc.working with
  | some (_, t), some g =>
    if d.cyc.ref < t + ns 500000 then d else
      let d : Dev := { d with cyc := { d.cyc with wakeAt := none } }
      let b := some d.cyc.count
      if d.mode = 9 then
        if d.saf.causes.isEmpty then (d.activateGen g).enterMode 6 0x0D 0 b false else d
      else if d.mode = 10 then
        let back := d.sys.dormantFrom
        let want := d.sys.request.map (·.1)
        let d := (d.activateGen g).enterMode back 0x0E 0 b (want.isSome && want != some back)
        match want with
        | some t => if t = back then d else d.logInput 0x01 68 (.mode t) none
        | none => d
      else d
  | _, _ => d

/-- Stop groups that inputs entering the law together order to stop (R201, R204); a move from Run to Ready stops every group (R45). -/
def stopsOf (acts : List LogAct) : Nat :=
  acts.foldl (fun k a => match a with | .stopGroup m false _ _ => Nat.lor k m | .mode 6 => 0xFFFF | _ => k) 0
/-- What a logged input does when it enters the law (R20): the status and result of its packet, or none when the packet completes elsewhere.
`stops` are the groups that a stop order entering at the same boundary stops: it wins over a move or SET_GEAR of a member (R204). -/
def Dev.enterAct (stops : Nat) (act : LogAct) (ref : Option PktRef) (d : Dev) : Option (Nat × List Byte) × Dev :=
  let ok := fun (d : Dev) => (some (stOK, ([] : List Byte)), d)
  let late := fun (a : Nat) (z : (Nat × List Byte) × Dev) =>
    if bitAt stops (d.groupOf a) then (some (stWRONG_MODE, ([] : List Byte)), d) else (some z.1, z.2)
  match act with
  | .mode t => (none, { d with mir := { d.mir with modeDue := some (t, d.permit) } })
  | .duty f v => ok (d.enterDuty f v)
  | .schedule b => (some (stOK, leBytes 2 (parseImage b).num), d.enterSchedule b)
  | .activate g _ =>
    if !d.cyc.running then
      match d.cyc.pending with
      | some p => if p.num = g then ok ({ d with cyc := { d.cyc with working := some p } } : Dev).showPlanned.dropPending else (some (stBAD_PARAMETER, []), d)
      | none => (some (stBAD_PARAMETER, []), d)
    else (some (stMISSED, []), d)
  | .grant n pos k req => (some (stOK, leBytes 4 ((d.cyc.count + 1) % 2 ^ 32)), d.enterGrant n pos k req)
  | .refuse n pos r req => ok (d.enterRefuse n pos r req)
  | .revoke n k c req => ok (d.enterRevoke n k c req)
  | .fence n pos rel auto => ok (d.enterFence n pos rel auto)
  | .commit u ws => ok (d.goCommit u ws d.cyc.ref none)
  | .commitAxes axes ws => (some (stOK, leBytes 2 axes.length), d.enterAxes axes ws)
  | .enable x y r => let z := d.enterEnable x y r; (some z.1, z.2)
  | .disable x y => ok (d.enterDisable x y)
  | .move a t ps => late a (d.enterMove a t ps)
  | .jog a v => late a (d.enterJog a v)
  | .gear a n m => late a (d.enterGear a n m)
  | .cam t b => ok (d.enterCam t b)
  | .stream law first k valid data => ok (d.enterStream law first k valid data)
  | .stopGroup m rel c a => ok (if rel then d.releaseStops m else d.orderStops m c a)
  | .identify a ps => let z := d.enterIdentify a ps; (some z.1, z.2)
  | .configReg r ps => ok (d.enterConfigReg r ps)
  | .fbSample n b => ok (d.takeSample n b)
  | .masters b => ok (d.takeMasters b)
  | .regRequest r e q => ok (d.enterRegRequest r e q)
  | .wake t => ok (if d.cyc.wakeAt.isSome then d else Dev.startWake { d with cyc := { d.cyc with wakeAt := some ((d.cyc.count + 2 ^ 32 - 1) % 2 ^ 32, t) } })
  | .permit kind back =>
    let h : Handover := ⟨(d.cyc.count + 1) % 2 ^ 32, kind, back, ref⟩
    -- no hand-over leads out of Lockout or Dormant (R45, R50)
    if [9, 10].contains d.lawMode then (some (if d.lawMode = 9 then stSAFETY_LOCKED else stWRONG_MODE, []), d) else
    let d : Dev := { d with mir := { d.mir with handover := some h } }
    let d : Dev := if kind = 0 && d.permit then
      { d with mir := { d.mir with drill := some ⟨h.bell, d.drillSegments, [], [], false, false, [16, 17]⟩ } } else d
    (none, d)
  | .calib r => ok (d.takeCal r)
/-- A logged input enters the law, and its packet completes at `t` (R20, R21). -/
def Dev.enterLogged (stops : Nat) (t : LTime) (e : LogEntry) (d : Dev) : Dev :=
  match d.enterAct stops e.act e.ref with
  | (some (st, res), d) => d.completeOpt e.ref st t res
  | (none, d) => d
/-- An input of the holder's log enters the law of the standby; an activation is decided here as the holder decided it (R95). -/
def Dev.enterMirrored (stops : Nat) (a : LogAct) (d : Dev) : Dev :=
  match a with
  | .activate g at_ => (d.decideActivate ((d.cyc.count + 2 ^ 32 - 1) % 2 ^ 32) (d.cyc.ref - ns d.periodNs) g at_ none).2
  | _ => (d.enterAct stops a none).2

/-- Sizes of the parts that an input takes in the log (R296). -/
def partsOf (n : Nat) : List Nat :=
  let k := max 1 ((n + 2047) / 2048)
  List.replicate (k - 1) 2048 ++ [n - 2048 * (k - 1)]
/-- The same for an entry: a commit of axes takes parts for each axis. -/
def entryParts (e : LogEntry) : List Nat :=
  match e.act with
  | .commitAxes axes ws => axes.flatMap (fun a =>
      partsOf (commitSize ((ws.filter (fun w => decide (AX a 0 ≤ w.1) && decide (w.1 < AX a 0 + 0x1000))).length)))
  | _ => partsOf e.size
/-- Parts that fit in `room`, in order: how many, and the bytes they take. -/
def fitParts : Nat → List Nat → Nat × Nat
  | _, [] => (0, 0)
  | room, p :: ps => if p ≤ room then let r := fitParts (room - p) ps; (r.1 + 1, r.2 + p) else (0, 0)
/-- Fill a log of `room` bytes from the waiting inputs (R296): the inputs whose final part it carries, those that wait on, parts of the first of
these that logs have carried, and the bytes used. -/
def fillLog : Nat → Nat → List LogEntry → List LogEntry × List LogEntry × Nat × Nat
  | _, sent, [] => ([], [], sent, 0)
  | room, sent, e :: es =>
    let ps := (entryParts e).drop sent
    let f := fitParts room ps
    if f.1 = ps.length then
      let r := fillLog (room - f.2) 0 es
      (e :: r.1, r.2.1, r.2.2.1, r.2.2.2 + f.2)
    else ([], e :: es, sent + f.1, f.2)
/-- Full records of a segment whose SUMMARY has not come by the log close (R297): positions and payloads taken. -/
def Dev.takenRecords (d : Dev) (n : Nat) : List (Nat × List Byte) :=
  match d.activeBlock n with
  | none => []
  | some b => b.slots.zipIdx.filterMap (fun e =>
      let r := (d.port n).slotRx e.2
      if e.1.kind = 2 && r.state ≠ 0 then
        match d.slotOwner n e.2 b with | some (some p) => some (p, r.used.drop 16) | _ => none
      else none)
/-- A CORRECTION frame (R296, R297). -/
def Dev.sendCorrection (n missing single : Nat) (full : List (Nat × List Byte)) (d : Dev) : Dev :=
  let size := 20 + (full.map (fun x => x.2.length)).sum
  let d := d.mirOut (.mirCorrection (d.mirHdr 4 0 size 0) n missing single full)
  { d with mir := { d.mir with corrected := d.mir.corrected + size } }
/-- The activations of a log are decided, and every bell from the next on announces them (R95). -/
def Dev.decideActivations (d : Dev) : Dev :=
  d.cyc.log.foldl (fun d e =>
    match e.act with
    | .activate g at_ =>
      let r := d.decideActivate d.cyc.count d.cyc.ref g at_ e.ref
      if r.1 then { r.2 with cyc := { r.2.cyc with log := r.2.cyc.log.filter (fun x => !(x == e)) } } else d
    | _ => d) d
/-- INPUT_LOG_CLOSE (R21, R112, R295 to R297, R471): at the start of the downlink phase. A standby follows the holder's log. -/
def Dev.logClose (d : Dev) : Dev :=
  if !d.cyc.running || d.cyc.closed then d else
    let down := match d.cyc.active.bind (fun g => g.blocks.head?) with | some b => b.down | none => 0
    let d := d.reach (d.cyc.ref + quanta down)
    if d.standby then { d with cyc := { d.cyc with closed := true } } else
      let d := d.canLog.forN 8 Dev.decideClaims
      let d := if d.partnerShadow then d.forEach (d.linePorts.filter (fun n => n < 8 && !d.mir.sums.any (fun s => s.1 == n)))
          (fun n d => d.sendCorrection n 0 0 (d.takenRecords n)) else d
      let past := decide (d.mir.logMax < d.mir.corrected)
      let r := fillLog (d.mir.logMax - d.mir.corrected) d.cyc.partsSent d.cyc.waiting
      let used := d.mir.corrected + r.2.2.2
      let d : Dev := { d with cyc := { d.cyc with closed := true, log := r.1, waiting := r.2.1, partsSent := r.2.2.1, used := used } }
      let d := d.set MIR_LOG_PEAK.PEAK (max (d.get MIR_LOG_PEAK.PEAK) (min 65535 used))
      let d := d.count MIR_LOG_PEAK.DEFERRED r.2.1.length
      let d := if d.permit then d.mirOut (.mirLog (d.mirHdr 3 (1 + 4 * flag past) r.2.2.2 0) (r.1.map (fun e => (e.kind, e.act)))) else d
      d.decideActivations

/-- The log of the finished cycle that a standby has received, when its parts are whole (R292, R303). -/
def wholeLog (ps : List LogPart) : Option (List (Nat × LogAct)) :=
  let xs := (List.range ps.length).filterMap (fun i => ps.find? (fun p => p.part == i))
  if !ps.isEmpty && xs.length == ps.length && ((xs.getLast?.map (·.last)).getD false) then some (xs.flatMap (·.entries)) else none
/-- Host batches of a log, which a host-assisted axis repeats when a log is missing (R304). -/
def hostBatches (es : List (Nat × LogAct)) : List (Nat × LogAct) := es.filter (fun e => match e.2 with | .stream _ _ _ _ _ => true | _ => false)
/-- The standby settles the holder's log of the finished cycle `c` (R303, R304): the inputs that enter the law now. -/
def Dev.settleLog (c : Nat) (d : Dev) : List (Nat × LogAct) × Dev :=
  let any := !d.mir.rx.isEmpty || d.mir.rxBad || (match d.mir.lease with | some (k, _) => k == c | none => false)
  let got := if d.mir.rxBad then none else wholeLog d.mir.rx
  let d : Dev := { d with mir := { d.mir with rx := [], rxBad := false } }
  match got with
  | some es =>
    let d : Dev := { d with mir := { d.mir with lastLog := c, lastHost := hostBatches es } }
    if d.on MIR_STATUS.BULK && !d.mir.imageDone then (hostBatches es, { d with mir := { d.mir with heldLogs := d.mir.heldLogs ++ [es.filter (fun e => !(hostBatches es).contains e)] } })
    else (es, d)
  | none => (d.mir.lastHost, d.when any Dev.logLost)
/-- Axes that the standby has not completed by the bell (R166, R298). -/
def Dev.shadowLate (d : Dev) : Dev :=
  if d.mode ≠ 8 || !d.lanesRun then d else
    d.forEach (d.plan.map (·.axis)) (fun a d =>
      if (d.axis a).standing ≠ 0 then d else (d.count32 CE_SHADOW_LATE_CNT 1).diverge (a / 16) 4)
/-- The group digests and the group block against the standby's own (R298). A group with an axis not completed has no digest to compare. -/
def Dev.compareDigest (ds : List Nat) (latched : Nat) (d : Dev) : Dev :=
  let late := ((d.plan.map (·.axis)).filter (fun a => (d.axis a).standing == 0)).map (· / 16)
  let d := d.forN 32 (fun g d => if late.contains g || ds.getD g 0 == d.digest g then d else d.diverge g 1)
  if latched = d.eng.latched then d
  else d.diverge (((List.range 16).find? (fun g => bitAt latched g != bitAt d.eng.latched g)).getD 0) 2
/-- The comparison of what came before the standby's own axes were completed (R298). -/
def Dev.compareLate (d : Dev) : Dev :=
  let xs := d.mir.later
  let g := d.mir.digest
  let d : Dev := { d with mir := { d.mir with later := [], digest := none } }
  let d := d.forEach xs (fun x d => if (d.axis x.1).standing ≠ 0 && padTo 16 (d.axis x.1).lastRecord != x.2 then d.diverge (x.1 / 16) 0 else d)
  match g with | some (ds, latched) => d.compareDigest ds latched | none => d
/-- What a port closes with the cycle (R99, R118); a rank-0 bell is missed where another sends it, as on every trunk. -/
def Dev.endPort (n : Nat) (d : Dev) : Dev :=
  let d := d.forceDown n
  let q := d.port n
  let d := match q.bell with
    | some b => ((d.set (NLS_BELL_STATUS.USED_RANK n) b.rank).set (NLS_BELL_STATUS.USED_B n) (flag b.chanB)).set (NLS_BELL_STATUS.HOLDOVER n) (fieldAt b.payload 13 1 % 2)
    | none => d
  let zero := match q.bell with | some b => b.rank == 0 | none => false
  let d := d.when (!zero && (decide (8 ≤ n) || d.portRank n != 0)) (Dev.count32 (NLS_BELL_MISS_CNT n) 1)
  d.setPort n { q with rxPrev := q.rx, rx := [], bell := none, sentBell := false,
                       responses := if d.standby then [] else q.responses, parts := if d.standby then [] else q.parts }
/-- The lease count of a controller without the permit (R286). -/
def Dev.countLease (c : Nat) (d : Dev) : Dev :=
  if d.permit || d.get MIR_LEASE.IN_FORCE = 0 then d
  else match d.mir.lease with
    | some (k, _) => if k = c then Dev.set MIR_LEASE.MISSING 0 { d with mir := { d.mir with fenceSaid := false } } else d.set MIR_LEASE.MISSING (min 127 (d.get MIR_LEASE.MISSING + 1))
    | none => d.set MIR_LEASE.MISSING (min 127 (d.get MIR_LEASE.MISSING + 1))
/-- Bytes of a cycle that carry BULK frames beside the fixed traffic (R295). -/
def Dev.bulkSpare (d : Dev) : Nat := d.lanesUp * (d.periodNs * 5 / 4) - (232 + d.mir.logMax + 100 + 340 + 4136)
/-- A resynchronisation goes on (R307, R308): the bulk image moves, the sweep starts, and SYNCED is set once every slice is in. -/
def Dev.resyncStep (d : Dev) : Dev :=
  let d := if d.permit && d.mir.bulkLeft ≠ 0 then
      let left := d.mir.bulkLeft - d.bulkSpare
      let d : Dev := { d with mir := { d.mir with bulkLeft := left, sweepFrom := if left = 0 then some (sweepStart d.cyc.count) else none } }
      d.set MIR_STATUS.BULK (flag (left != 0))
    else d
  let d := d.set MIR_SWEEP.BULK_LEFT (min 65535 ((d.mir.bulkLeft + 1023) / 1024))
  let d := d.set MIR_SWEEP.SLICE (d.cyc.count % 64)
  match d.mir.sweepFrom with
  | none => d
  | some f =>
    let age := (d.cyc.count + 2 ^ 32 - f) % 2 ^ 32
    let d := d.set MIR_STATUS.SWEEP (flag (age < 64))
    if age ≠ 65 || !d.standby then d
    else if (List.range 128).all d.mir.loaded.contains then
      let full := d.mir.resync.getD false
      let d : Dev := { d with
        mir := { d.mir with resync := none, sweepFrom := none, loaded := [] }
        eng := { d.eng with complete := maskOf ((List.range 16).filter (fun g => bitAt d.eng.latched g && d.groupStopped g)) } }
      (((d.set MIR_STATUS.SYNCED 1).post 0x01C0 0x01C6 (leBytes 1 (flag full))).mirControl .synced).showRole
    else { d with mir := { d.mir with sweepFrom := some (sweepStart d.cyc.count), loaded := [] } }
/-- What standby and holder tell each other at a bell (R292, R301, R310): the standby its REPORT, the holder the paths it saw. -/
def Dev.pairReports (d : Dev) : Dev :=
  let seen := d.seenPaths
  let d : Dev := if d.mirrorUp && (d.standby || d.partnerShadow) then d.forEach seen Dev.confirmPath else d
  let d := if d.standby then
      let notice := match d.mir.incident with | some i => if i.notice.isNone then some (i.group, i.kind) else none | none => none
      (d.mirOut (.mirReport (d.mirHdr 8 0 0 0) d.mir.lastLog (maskOf seen) notice)).when (notice.isSome && d.mirrorUp) Dev.giveNotice
    else if d.partnerShadow then d.forEach seen (fun p => Dev.mirControl (.proved p))
    else d
  let p16 := d.rd64 (MIR_PROOF_LO 16)
  let d := if p16 ≠ d.mir.told16 then Dev.mirControl (.proved 16) { d with mir := { d.mir with told16 := p16 } } else d
  d.ownResult
/-- Inputs of a controller that has become the standby and were in no log end without effect (R313, R403). -/
def Dev.dropWaiting (d : Dev) : Dev :=
  if !d.standby then d else
    let ws := d.cyc.waiting
    ({ d with cyc := { d.cyc with waiting := [], partsSent := 0 } } : Dev).forEach ws (fun e d => d.completeOpt e.ref stNOT_PERMIT_HOLDER d.now [])

/-- A drill at the former holder (R311): the check at the bell after the handover, then the paths that are proved in later cycles. -/
def Dev.drillStep (d : Dev) : Dev :=
  match d.mir.drill with
  | none => d
  | some x =>
    let age := (d.cyc.count + 2 ^ 32 - x.bell) % 2 ^ 32
    if age = 0 || 2 ^ 31 ≤ age then d else
      let pairs := fun (ks : List Nat) => ks.filter (fun k => ks.contains (k % 8) && ks.contains (8 + k % 8))
      let x := { x with awaiting := if d.on MIR_STATUS.PERMIT_IN then x.awaiting.filter (· ≠ 17) else x.awaiting }
      if age = 1 then d.drillCheck { x with bells := d.mir.bells, downs := d.mir.downs }
      else { d with mir := { d.mir with drill := some { x with bells := x.bells ++ pairs d.mir.bells, downs := x.downs ++ pairs d.mir.downs } } }

/-- The cycle ends at the next bell's reference instant (R79, R98): what came late is compared, ports close the cycle, and the cycle count and the
reference instant are those of the next cycle. With it the inputs of the holder's log, for a standby (R303). -/
def Dev.closeCycle (d : Dev) : List (Nat × LogAct) × Dev :=
  let c := d.cyc.count
  let ref := d.cyc.ref + ns d.periodNs
  let d := (((d.reach ref).shadowLate).compareLate).forEach d.linePorts Dev.endPort
  let r := if d.standby then d.settleLog c else ([], { d with mir := { d.mir with lastLog := c } })
  let d := r.2
  (r.1, { d with
    cyc := { d.cyc with count := (c + 1) % 2 ^ 32, ref := ref, closed := false, log := [], used := 0, preBell := false }
    eng := { d.eng with host := [], nonFinite := [], repeatOnly := false, channels := d.eng.channels.map (fun x => (x.1, { x.2 with valid := false })),
                        masters := d.eng.masters.map (fun x => (x.1, { x.2 with valid := false })) }
    mir := { d.mir with corrected := 0, sums := [], digested := false } })
/-- The inputs of the cycle that has ended enter the law at the bell (R20): a standby's from the holder's log, any other controller's from its own. -/
def Dev.enterLaw (was : Bool) (theirs : List (Nat × LogAct)) (log : List LogEntry) (d : Dev) : Dev :=
  let d := d.enterOrdered
  if was then d.forEach theirs (fun e d => d.enterMirrored (stopsOf (theirs.map (·.2))) e.2)
  else d.forEach log (Dev.enterLogged (stopsOf (log.map (·.act))) d.cyc.ref)
/-- What takes effect at a bell after the inputs (R14, R45, R49, R95, R286, R311): commits, activations, then the permit events, the wake and the
host's request, in the order of R49. `c` is the cycle
that has ended. -/
def Dev.atBell (c : Nat) (holds : Bool) (d : Dev) : Dev :=
  let d := (d.goCommits d.cyc.ref).activateDue
  let d := d.countLease c
  let d := match d.mir.handover with | some h => if h.bell = d.cyc.count then d.handover h else d | none => d
  let d := ((d.drillStep).drillDone).handBack
  ((d.wakeDue.modeNow holds).stopsDone).runNow holds
/-- The cycle opens while cycles still run: axes, pitches, outputs, traces, the pair's frames, the bells and the registers of the cycle. -/
def Dev.openCycle (d : Dev) : Dev :=
  if !d.cyc.running then d else
    let d := d.dropWaiting
    let d := (d.openAxes).forN 8 Dev.pitchCycle
    let d := ((d.evoCycle).traceBoundary).tdcBoundary
    let d := d.set CE_STATUS.SHADOW (flag (d.mode == 8))
    let d : Dev := { d with mir := { d.mir with logMax := if d.lanesUp = 0 then 7168 else 3584 * d.lanesUp } }
    let d := (d.when d.permit Dev.sendLease).pairReports
    let d := (d.resyncStep).showOverdue
    let expired := d.standby && d.get MIR_LEASE.IN_FORCE != 0 && !d.leaseRuns
    let d := (d.when (!expired) Dev.sendBells).forEach d.linePorts Dev.showCycle
    let d : Dev := { d with mir := { d.mir with bells := [], downs := [] } }
    d.showStopFrames
/-- The first bell of a test schedule in Service (R23, R44): the working generation runs from it. DESIGN CHOICE: the manual names no command that starts
a test schedule, so its first bell does (notes/assumptions/92.md). -/
def Dev.startTest (d : Dev) : Dev :=
  match d.cyc.working with
  | none => d
  | some g =>
    let g := formPlan d.allParams g
    let d : Dev := { d with cyc := { d.cyc with running := true, closed := false, count := 0, ref := d.now, active := some g, log := [], used := 0 } }
    let d := d.forEach (genPorts g) (fun n d =>
      (d.setPort n { d.port n with rx := [], rxPrev := [], bell := none, sentBell := false, acting := false, txEnd := [], down := none }).showGeneration g n)
    ((d.showPlan.openAxes).sendBells).forEach d.linePorts Dev.showCycle
/-- CYCLE_BOUNDARY (R79): the cycle ends, the next bell's reference instant comes, and what waited for it takes effect. -/
def Dev.boundary (d : Dev) : Dev :=
  if !d.cyc.running then (if d.mode = 11 then d.startTest else d) else
    let r := d.closeCycle
    ((r.2.enterLaw d.standby r.1 d.cyc.log).atBell d.cyc.count d.partnerHolds).openCycle
/-- MS_LOG_CLOSE (R23, R117): outside the synchronised modes, and after a Join until the first bell that this controller transmits, the log closes at each
whole millisecond of line time, once, and its inputs take effect and complete at that instant. -/
def Dev.msClose (d : Dev) : Dev :=
  let k := (d.now + ns 500000) / ns 1000000
  if (d.cyc.running && !d.cyc.preBell) || d.mode < 2 || d.cyc.msDone == some k then d else
    let t := k * ns 1000000
    let d := d.reach t
    let ws := d.cyc.waiting
    let d : Dev := { d with cyc := { d.cyc with waiting := [], partsSent := 0, msDone := some k } }
    let d := d.forEach ws (Dev.enterLogged (stopsOf (ws.map (·.act))) t)
    let d := ((d.goCommits t).modeNow false).when (d.mode = 11) Dev.traceBoundary
    ((d.when (4 ≤ d.mode) Dev.showAbsent).showChannels.storeGuard.canGuard).flushEvents

/-- CYCLE_BOUNDARY (R79). -/
def execCycleBoundary (s : State) : Answer := .next (s.onDev Dev.boundary).takeReset
/-- INPUT_LOG_CLOSE (R21). -/
def execInputLogClose (s : State) : Answer := .next (s.onDev Dev.logClose)
/-- MS_LOG_CLOSE (R23). -/
def execMsLogClose (s : State) : Answer := .next (s.onDev Dev.msClose).takeReset

end Sys2Proof.Machine
end

