-- ==== Sys2Proof/Machine/Slots.lean ====
section
/-! DEFINITION. Sys2Proof/Machine/Slots.lean: the frames that the controller sends in its slots (R81, R89, R92, R94, R109, R128, R131, R342, R409), and the guard
of the cycle (R117, R124, R177, R298, R300). -/
namespace Sys2Proof.Machine

/-- Start of a slot at this end, as line time (R80, R81). -/
def Dev.slotTime (d : Dev) (n : Nat) (e : SlotEntry) : LTime := d.cyc.ref + quanta (entryTime (d.headEnd n) e)
/-- DOWNLINK_SLOT (R50, R89, R98, R161, R305): the downlink frame of the controller that drives the line, or a standby's stop frame. An axis whose own
deadline has passed without a completion is abandoned first (R163); the records of later deadlines are awaited. Nothing goes out in the guard (R83). -/
def Dev.downlinkSlot (n : Nat) (d : Dev) : Dev :=
  match d.cyc.running, d.activeBlock n with
  | true, some b =>
    match d.downSlot n b with
    | none => d
    | some (e, i) =>
      if b.guard ≤ entryTime (d.headEnd n) e then d else
      let d := d.reach (d.slotTime n e)
      let axes := (d.binds.filter (fun x => x.port == n)).map (·.axis)
      if d.drives then
        let due := axes.filter (fun a => decide (65536 * d.deadline a ≤ 30 * (quanta (entryTime (d.headEnd n) e) : Int)))
        (d.forEach due Dev.axisDeadline).beginDown n i
      else if d.mir.stopFrames.contains n then
        let stop := fun a => let r := padTo 16 (d.axis a).lastRecord; spliceAt r 12 (leBytes 2 (Nat.lor (fieldAt r 12 2) 6))
        let r := d.downBytes n b e.maxPay stop
        r.2.sendFrame n 0 3 2 0xFFF000 i d.cyc.count r.1
      else d
  | _, _ => d

/-- Line address of a node (R18, R85). -/
def Dev.nodeAddr (d : Dev) (n pos : Nat) : Nat := lineAddr (d.headIndex?.getD 0) n pos
/-- Time left in a slot, in fifths of line-time units, and the frame sent when it fits (R82, R83). -/
def slotPut (rate room len : Nat) (f : Dev → Dev) (x : Nat × Dev) : Nat × Dev :=
  let c := dur5 rate len
  if len ≤ room && c ≤ x.1 then (x.1 - c, f x.2) else x
/-- Fence orders and release orders of a segment (R90, R109): position and action. -/
def Dev.fenceOrders (d : Dev) (n : Nat) : List (Nat × Nat) :=
  ((List.range 64).filter (fun p => d.on (NLS_POS_W2.FENCED n p))).map (fun p => (p, 0)) ++
    ((d.port n).fenceRelease.filter (fun x => decide (d.cyclesSince x.2 < 8))).map (fun x => (x.1, 1))
/-- What a node is sent of a generation (R81, R94): its slot entries, then its path delays on A and B to the head end and to the tail end
(notes/assumptions: the manual gives no layout). -/
def Dev.partBytes (d : Dev) (n pos : Nat) (b : SchedBlock) : List Byte :=
  let mine := b.slots.filter (fun e => e.owner == pos || (e.owner == 0xFC && decide (pos < b.span)) || e.kind == 8 ||
    (e.owner == 0xFE && (match b.pitches[e.pitch]? with | some t => decide (t.lo ≤ pos) && decide (pos ≤ t.hi) | none => false)))
  mine.flatMap slotBytes ++ (List.range 2).flatMap (fun c => leBytes 4 (min (2 ^ 32 - 1) (d.toNode n c pos)) ++ leBytes 4 (min (2 ^ 32 - 1) (d.tailToNode n c b.planNodes pos)))
/-- One schedule part of the positions that are owed parts (R94): `parts` holds the position plus 64 for each part that has gone out. -/
def Dev.sendPart (n slot room rate : Nat) (x : Nat × Dev) : Nat × Dev :=
  let d := x.2
  let gen := match d.cyc.pending with | some g => some g | none => d.cyc.active
  match (d.port n).parts, gen.bind (fun g => g.blocks.find? (fun b => b.port == portByte n)) with
  | k :: ks, some b =>
    let all := d.partBytes n (k % 64) b
    let m := max 16 (room / 16 * 16)
    let chunk := (all.drop (m * (k / 64))).take m
    let rest := if all.length ≤ m * (k / 64 + 1) then ks else ks ++ [k + 64]
    slotPut rate room chunk.length (fun d =>
      (d.setPort n { d.port n with parts := rest }).sendFrame n 0 9 0 (d.nodeAddr n (k % 64)) slot d.cyc.count chunk) x
  | _, _ => x
/-- Whether the lanes that a queued frame needs are ready (R75). -/
def Dev.lanesReady (d : Dev) (n chans : Nat) : Bool :=
  (chans == 2 || d.laneReady n 0) && (chans == 1 || d.laneReady n 1)
/-- A queued frame goes out (R409): it is done with, or awaits its reply and its time-stamps. -/
def Dev.sendQueued (n slot : Nat) (f : AsyncFrame) (d : Dev) : Dev :=
  let q := d.port n
  let d := d.setPort n { q with queue := q.queue.erase f, awaiting := if f.stamp || f.replyAddr ≠ 0 then q.awaiting ++ [f] else q.awaiting }
  let d := d.sendFrame n f.chans f.kind 0 f.dest slot d.cyc.count f.payload
  if f.replyAddr = 0 then d.completeOpt f.ref stOK d.now [] else d
/-- The line-time status payload of R128; a trunk hop adds 47 ps to the error bound (R132). -/
def Dev.statusBytes (d : Dev) : List Byte :=
  let own := d.on LTM_STATUS.ORIGIN
  let src := ((d.ltm.trunk.find? (fun e => 0x10 + e.1 == d.get LTM_STATUS.SOURCE_PORT)).map (·.2)).getD (zeros 16)
  let none_ := !own && fieldAt src 3 1 = 0 && d.get LTM_LINE.ORIGIN_HOPS = 0
  let pps := if own then d.on LTM_PPS_CTRL.ALIGN_EN && d.ltm.ppsLast.isSome && !d.ltm.ppsLost else bitAt (fieldAt src 1 1) 1
  padTo 16 (leBytes 1 (if none_ then 0xFF else if own then d.get LTM_LINE.LINE_RANK else d.get LTM_LINE.ORIGIN_RANK) ++
    leBytes 1 (flag (d.on LTM_STATUS.HOLDOVER || (!own && bitAt (fieldAt src 1 1) 0)) + 2 * flag pps + 4 * flag (d.mode == 8)) ++
    leBytes 1 (d.get LTM_LINE.ORIGIN_INDEX) ++ leBytes 1 (d.get LTM_LINE.ORIGIN_HOPS) ++
    leBytes 4 (if own then 0 else min (2 ^ 32 - 1) (fieldAt src 4 4 + 47)))
/-- The shared master positions that this controller publishes (R131): node 1 and v_s of each publishing axis, stale when it was not completed. -/
def Dev.masterBytes (d : Dev) : List Byte :=
  let axes := (d.plan.map (·.axis)).filter (fun a => bitAt (d.axisLive a pPUB) 0)
  (axes.take 128).flatMap (fun a =>
    let s := d.axis a
    leBytes 2 (bitsOf (d.axisLive a pPUB) 25 16) ++ leBytes 2 (1 + 2 * flag (s.standing != 1)) ++ leInt 8 s.xref ++ leBytes 4 s.vs)
/-- Safety PDUs of a slot (R340, R342): on a segment those of the nodes whose safety uplink turn it is, in ascending position; on a trunk those
of the connections with the controllers beyond, and those that go on to them from other controllers. -/
def Dev.safetyPay (d : Dev) (n : Nat) (b : SchedBlock) : List Byte :=
  let pdu := fun c => (d.conn c).tx
  if 8 ≤ n then
    (d.usedConns.filter (fun c => let e := connEntry d.safSet c; fieldAt e 4 1 == 2 && decide (d.sys.index < fieldAt e 10 1) == (n == 9))).flatMap pdu ++
      (d.port n).forward.flatMap (·.2)
  else
    let turn := (List.range 64).filter (fun p => b.slots.zipIdx.any (fun s => s.1.kind == 5 && d.slotOwner n s.2 b == some (some p)))
    turn.flatMap (fun p => (d.usedConns.filter (fun c => let e := connEntry d.safSet c;
      fieldAt e 4 1 == 1 && fieldAt e 8 3 / 4096 % 16 == n && fieldAt e 8 3 % 64 == p)).flatMap pdu)
/-- What an asynchronous slot carries, as long as its time lasts: fence orders, responses, a schedule part, queued frames. A standby answers no
requests. -/
def Dev.asyncSlot (n slot : Nat) (e : SlotEntry) (b : SchedBlock) (d : Dev) : Dev :=
  let put := slotPut b.rate e.maxPay
  let x : Nat × Dev := (5 * quanta e.len - 5 * ns 8, d)
  let x := if 8 ≤ n then x else (d.fenceOrders n).foldl (fun x o => put 8 (fun d =>
      d.sendFrame n 0 7 0 0xFFF000 slot d.cyc.count (leBytes 1 o.1 ++ leBytes 1 o.2 ++ zeros 6)) x) x
  let x := if d.standby then x else (d.port n).responses.foldl (fun x r => put r.2.2.length (fun d =>
      (d.setPort n { d.port n with responses := (d.port n).responses.erase r }).sendFrame n 0 6 0 (d.nodeAddr n r.2.1) slot d.cyc.count r.2.2) x) x
  let x := if d.standby || 8 ≤ n then x else Dev.sendPart n slot e.maxPay b.rate x
  ((d.port n).queue.foldl (fun x f => if d.lanesReady n f.chans then put f.payload.length (Dev.sendQueued n slot f) x else x) x).2
/-- CONTROLLER_SLOT (R92): slot `slot` of port `n` comes, at the end that sends it: a safety downlink or an asynchronous slot. On a trunk the slot
after the own bell carries the status frame (R128), and the last one the shared masters. -/
def Dev.controllerSlot (n slot : Nat) (d : Dev) : Dev :=
  match d.cyc.running, d.activeBlock n with
  | true, some b =>
    match b.slots[slot]? with
    | none => d
    | some e =>
      let head := d.headEnd n
      if sentByHead e ≠ some head || entryTime head e = unusedTime || b.guard ≤ entryTime head e then d else
        let d := d.reach (d.slotTime n e)
        match e.kind with
        | 6 =>
          let pay := d.safetyPay n b
          let pay := pay.take (e.maxPay / 48 * 48)
          let d := d.when (8 ≤ n) (Dev.setPort n { d.port n with forward := [] })
          if pay.isEmpty then d else d.sendFrame n 0 4 4 0xFFF000 slot d.cyc.count pay
        | 9 =>
          let mine := (b.slots.zipIdx.filter (fun s => s.1.kind == 9 && sentByHead s.1 == some head && entryTime head s.1 != unusedTime)).map (·.2)
          if 8 ≤ n && slot = bellSlot b head + 1 then d.sendFrame n 0 0x10 0 0xFFF000 slot d.cyc.count d.statusBytes
          else if 8 ≤ n && mine.getLast? == some slot && !d.masterBytes.isEmpty && !(d.port n).queue.any (fun f => f.kind != 8) && d.mode ≠ 8 then
            d.sendFrame n 0 0x11 0 0xFFF000 slot d.cyc.count (d.masterBytes.take (e.maxPay / 16 * 16))
          else d.asyncSlot n slot e b
        | _ => d
  | _, _ => d

/-- AXIS_MISS and SLACK_LOW of the cycle (R177), and the groups that have no member left to stop (R201). -/
def Dev.missEvents (d : Dev) : Dev :=
  let d := d.checkStops.showChannels
  let m := d.eng.missed.eraseDups
  let d := match m with
    | [] => d
    | [a] => d.post (0x0800 + a) 0x0411 (leBytes 4 d.cyc.count ++ leBytes 1 (d.axis a).consecMiss)
    | _ => d.postAt d.now 0x0400 0x0401 m.length (leBytes 2 ((m.min?).getD 0) ++ leBytes 2 ((m.max?).getD 0) ++ leBytes 4 d.cyc.count)
  let low := d.eng.slack.filter (fun x => decide (x.2 < (d.get CE_GATE.SLACK_WARN : Int)))
  match ((low.map (·.2)).min?) with
  | none => d
  | some s =>
    let a := (((low.filter (fun x => x.2 == s)).map (·.1)).min?).getD 0
    d.postAt d.now 0x0400 0x0404 low.length (leBytes 4 (codeOf 32 (clampInt (-(2 ^ 31)) (2 ^ 31 - 1) s)) ++ leBytes 2 a)
/-- A mirror frame with a part number, on the first lane that is up (R292). -/
def Dev.mirFrame (typ flags part : Nat) (pay : List Byte) (d : Dev) : Dev :=
  if !d.mirrorUp then d else d.emit (.mirror (if d.laneUp 0 then 0 else 1) (d.mirHdr typ flags pay.length part ++ pay ++ leBytes 4 (crc32 pay)))
/-- Whether every axis of the plan has been completed in this cycle. -/
def Dev.allDone (d : Dev) : Bool := d.plan.all (fun e => (d.axis e.axis).standing != 0)
/-- The holder's DIGEST of the cycle, once (R292, R299). -/
def Dev.sendDigest (d : Dev) : Dev :=
  if d.mir.digested || !d.partnerShadow || (d.cyc.active.map (·.dormant)).getD false then d
  else Dev.mirOut (.mirDigest (d.mirHdr 5 1 320 0) ((List.range 32).map d.digest) d.eng.latched) { d with mir := { d.mir with digested := true } }
/-- What the pair compares goes out at the holder and is retained at the standby (R54, R298, R300). -/
def Dev.pairGuard (d : Dev) : Dev :=
  if (d.cyc.active.map (·.dormant)).getD false then d else
    let axes := d.sliceAxes (d.cyc.count % 64)
    if d.partnerShadow then
      let d := d.sendDigest
      let area := fun (xs : List Nat) => xs.flatMap (fun a => axisStateBytes (d.axis a))
      (d.mirFrame 6 0 0 (area (axes.take 4))).mirFrame 6 1 1 (area (axes.drop 4))
    else if d.mode = 8 then { d with mir := { d.mir with snap := axes.map (fun a => (a, axisStateBytes (d.axis a))) } }
    else d
/-- GUARD_START (R117, R124, R134, R214, R228, R270, R467): the guard of the cycle. -/
def Dev.guardStart (d : Dev) : Dev :=
  if !d.cyc.running then d else
    let g := match d.cyc.active.bind (fun g => g.blocks.head?) with | some b => b.guard | none => 0
    let d := ((d.reach (d.cyc.ref + quanta g)).forEach d.linePorts Dev.forceDown)
    let d := ((d.rankSources.servo).steerPps).traceGuard
    let d := ((d.regGuard).storeGuard).canGuard
    ((d.missEvents).pairGuard).flushEvents

/-- AXIS_COMPUTATION_DONE (R195); after the last axis the holder's DIGEST goes out (R292, R299). -/
def execAxisComputationDone (lane : Fin 32) (cycles : Fin 361) (sram : SramCheck) (s : State) : Answer :=
  .next (s.onDev (fun d =>
    let e := d.axisDone lane.val cycles.val sram
    (if !d.allDone && e.allDone then e.sendDigest else e).settleDown))
/-- DOWNLINK_SLOT (R89). -/
def execDownlinkSlot (n : Fin 8) (s : State) : Answer := .next (s.onDev (Dev.downlinkSlot n.val))
/-- CONTROLLER_SLOT (R92). -/
def execControllerSlot (n : Fin 10) (slot : Fin 768) (s : State) : Answer := .next (s.onDev (Dev.controllerSlot n.val slot.val))
/-- GUARD_START (R117). -/
def execGuardStart (s : State) : Answer := .next (s.onDev Dev.guardStart)

end Sys2Proof.Machine
end

