-- ==== Sys2Proof/Machine/PairOps.lean ====
section
/-! DEFINITION. Sys2Proof/Machine/PairOps.lean: mirror frames as they arrive (R286, R292 to R301, R307 to R310), the fence (R287), the outcome of a divergence
(R301), drill timeouts (R311), the pair opcodes (R313) and MIR_APPLY (R288). -/
namespace Sys2Proof.Machine

/-- LEASE_FRAME (R286, R294): the lease of the cycle, with the epoch in force; a handover that is announced. -/
def Dev.leaseFrame (l : Nat) (bytes : List Byte) (d : Dev) : Dev :=
  let pay := (bytes.drop 16).take 96
  let r := d.mirIn l 2 bytes (bytes.length == 116 && crc32 pay == fieldAt bytes 112 4)
  let d := r.2
  match r.1 with
  | none => d
  | some h =>
    if d.permit || fieldAt pay 0 4 ≠ d.rd MIR_EPOCH then d else
      let mode := if bitAt (fieldAt pay 9 1) 1 then 9 else fieldAt pay 8 1
      let bell := fieldAt pay 10 4
      let ho := match d.mir.handover with
        | some h => some h
        | none => if bitAt (fieldAt pay 9 1) 0 && bell ≠ 0xFFFFFFFF && bell ≠ d.cyc.count && d.standby then some ⟨bell, 0, 0, none⟩ else none
      let d : Dev := { d with mir := { d.mir with lease := some (h.cycle, pay), holderMode := mode, handover := ho } }
      ((d.set MIR_LEASE.IN_FORCE (fieldAt pay 7 1 % 128)).showRole).showStopFrames
/-- LEASE_EXPIRY (R286, R290): at a bell the standby has missed LEASE_H renewals. -/
def Dev.leaseExpiry (d : Dev) : Dev :=
  let due := match d.mir.handover with | some h => h.bell == d.cyc.count | none => false
  if !d.cyc.running || !d.standby || d.get MIR_LEASE.IN_FORCE = 0 || d.leaseRuns || due then d
  else if d.lget MIR_CTRL.FENCE_EN = 1 && d.on MIR_STATUS.PERMIT_IN then
    let d := if d.mir.fenceSaid then d else Dev.pairFault 2 (Dev.post 0x01C0 0x01CC [] { d with mir := { d.mir with fenceSaid := true } })
    d.sendBells
  else
    let d := d.standbyTakes 8
    ((d.when d.permit Dev.sendLease).sendBells).forEach d.linePorts Dev.showCycle

/-- LOG_FRAME (R292, R296, R303): entries of the holder's log of the present cycle. A wake in it starts the standby's lanes too (R53). -/
def Dev.logFrame (l : Nat) (hdr : List Byte) (ok : Bool) (es : List (Nat × LogAct)) (d : Dev) : Dev :=
  let h0 := parseMirHdr hdr
  let torn := h0.ok && !ok && h0.typ == 3 && h0.cycle == d.cyc.count && d.standby && d.laneUp l
  let d : Dev := if torn then { d with mir := { d.mir with rxBad := true } } else d
  let r := d.mirIn l 3 hdr ok
  let d := r.2
  match r.1 with
  | none => d
  | some h =>
    if !d.standby || h.cycle ≠ d.cyc.count then d else
      let bad := d.mir.rxBad || bitAt h.flags 2
      let d := d.when (es.any (fun e => match e.2 with | .wake _ => true | _ => false)) Dev.startWake
      { d with mir := { d.mir with rxBad := bad, rx := (d.mir.rx.filter (fun p => p.part != h.part)) ++ [⟨h.part, bitAt h.flags 0, es⟩] } }

/-- CRCs of the payloads that the standby took of a segment (R297): per position, none where it took none. -/
def Dev.summary (d : Dev) (n : Nat) : List (Option Nat) :=
  let xs := d.takenRecords n
  (List.range 64).map (fun p => (xs.find? (fun x => x.1 == p)).map (fun x => crc32 x.2))
/-- RECEIVE_WINDOW_CLOSE (R104, R297): at the close of a segment's last uplink window a standby sends its SUMMARY, but not in Dormant (R54). -/
def Dev.windowClosed (n s : Nat) (d : Dev) : Dev :=
  let all := fun (d : Dev) => match d.activeBlock n with
    | some b => b.slots.zipIdx.all (fun x => x.1.kind != 2 || entryTime (d.headEnd n) x.1 == unusedTime || ((d.port n).slotRx x.2).closed)
    | none => true
  let was := all d
  let d := d.windowClose n s
  if !was && all d && d.mode = 8 then d.mirOut (.mirSummary (d.mirHdr 7 1 256 0) n (d.summary n)) else d
/-- SUMMARY_FRAME (R297): the holder compares its channel selection with the standby's and sends the correction. -/
def Dev.summaryFrame (l : Nat) (hdr : List Byte) (ok : Bool) (n : Nat) (crcs : List (Option Nat)) (d : Dev) : Dev :=
  let r := d.mirIn l 7 hdr ok
  let d := r.2
  match r.1, d.activeBlock n with
  | some h, some b =>
    if !d.permit || h.cycle ≠ d.cyc.count || !d.cyc.running then d else
      let d : Dev := { d with mir := { d.mir with sums := putKey n crcs d.mir.sums } }
      let mine := d.takenRecords n
      let own := (List.range 64).filter (fun p => b.slots.zipIdx.any (fun e => e.1.kind == 2 && d.slotOwner n e.2 b == some (some p)))
      let one := fun p => b.slots.zipIdx.any (fun e => e.1.kind == 2 && d.slotOwner n e.2 b == some (some p) &&
        (((d.port n).slotRx e.2).state == 1 || ((d.port n).slotRx e.2).state == 2))
      let theirs := fun p => (crcs.getD p none)
      let rec_ := fun p => (mine.find? (fun x => x.1 == p)).map (·.2)
      let same := fun p => match rec_ p, theirs p with | some m, some c => crc32 m == c | _, _ => false
      let single := own.filter (fun p => same p && one p)
      let missing := own.filter (fun p => (rec_ p).isNone && (theirs p).isSome)
      let full := mine.filter (fun x => !same x.1)
      if single.isEmpty && missing.isEmpty && full.isEmpty then d else d.sendCorrection n (maskOf missing) (maskOf single) full
  | _, _ => d

/-- What an axis's computation of this cycle did is undone (R163, R166): state, stops and events it ordered, and the count of a node mark it took. -/
def Dev.restoreAxis (a : Nat) (d : Dev) : Dev :=
  match d.eng.before.find? (fun x => x.1 == a) with
  | none => d
  | some (_, s) =>
    let own := fun (e : Event) => e.ctrl == d.sys.index && e.src == 0x0800 + a
    let d : Dev := match nodeChannel d.acq.regs a with
      | some (r, _) =>
        if (d.axis a).markSeq = s.markSeq && (d.axis a).markSeen = s.markSeen then d
        else
          let f := if d.hif.batch.any (fun e => own e && e.code == 0x041A) then ACQ_REG_COUNTS.REJECTED r else ACQ_REG_COUNTS.ACCEPTED r
          d.set f (d.get f - 1)
      | none => d
    let d : Dev := d.setAxis a s
    let gone := fun (e : Event) => own e && [0x0412, 0x0413, 0x0415, 0x0416, 0x0417, 0x041A].contains e.code
    Dev.showFaultOf a { d with
      eng := { d.eng with ordered := d.eng.ordered.filter (fun o => o.2.2 != a) }
      hif := { d.hif with batch := d.hif.batch.filter (fun e => !gone e) } }
/-- Axes whose computation of this cycle is affected by a change to some of them: their slaves too, in sweep order (R297). -/
def Dev.affected (d : Dev) (axes : List Nat) : List Nat :=
  d.sweepOrder.foldl (fun l a => if axes.contains a || (axisMasters d.allParams a).any l.contains then l ++ [a] else l) []
/-- Axes of a list that are already computed in this cycle are computed again (R166, R297). -/
def Dev.computeAgain (axes : List Nat) (d : Dev) : Dev :=
  d.forEach (axes.filter (fun a => (d.axis a).standing == 1)) (fun a d => (d.restoreAxis a).computeAxis a)
/-- Axes whose inputs have changed, and their slaves, are computed again (R297). -/
def Dev.recompute (axes : List Nat) (d : Dev) : Dev := d.computeAgain (d.affected axes)
/-- The receive slots of corrected positions hold what the holder took (R297): its copy, or nothing. -/
def Dev.correctSlots (n missing : Nat) (full : List (Nat × List Byte)) (b : SchedBlock) (d : Dev) : Dev :=
  d.forEach (b.slots.zipIdx.filter (fun e => e.1.kind == 2)) (fun e d =>
    match d.slotOwner n e.2 b with
    | some (some p) =>
      let q := d.port n
      let r := q.slotRx e.2
      match full.find? (fun f => f.1 == p) with
      | some f => d.setPort n { q with rx := putKey e.2 { r with state := max 1 r.state, used := padTo 16 (r.used.take 16) ++ f.2 } q.rx }
      | none => if bitAt missing p then d.setPort n { q with rx := putKey e.2 { r with state := 0, used := [] } q.rx } else d
    | _ => d)
/-- CORRECTION_FRAME (R297): the standby takes the holder's inputs of a segment and computes the affected axes again. -/
def Dev.correctionFrame (l : Nat) (hdr : List Byte) (ok : Bool) (n missing : Nat) (full : List (Nat × List Byte)) (d : Dev) : Dev :=
  let r := d.mirIn l 4 hdr ok
  let d := r.2
  match r.1, d.activeBlock n with
  | some h, some b =>
    if d.mode ≠ 8 || h.cycle ≠ d.cyc.count || !d.cyc.running then d else
      let posOf := fun (x : Bind) => match d.slotOwner n x.slot b with | some (some p) => p | _ => 64
      let mine := d.binds.filter (fun x => x.port == n)
      let dropped := mine.filter (fun x => posOf x < 64 && bitAt missing (posOf x))
      let given := mine.filterMap (fun x => (full.find? (fun f => f.1 == posOf x)).map (fun f => (x.axis, padTo 24 ((f.2.drop (24 * x.k)).take 24))))
      let fb := (d.eng.fb.filter (fun f => !dropped.any (fun x => x.axis == f.1) && !given.any (fun g => g.1 == f.1))) ++ given
      let axes := dropped.map (·.axis) ++ given.map (·.1)
      -- axes whose node mark comes from a corrected position (R269)
      let marked := (d.plan.map (·.axis)).filter (fun a => match nodeChannel d.acq.regs a with
        | some (_, x) => regField x.params 27 1 == n && (bitAt missing (regField x.params 28 1) || full.any (fun f => f.1 == regField x.params 28 1))
        | none => false)
      let d : Dev := { d with eng := { d.eng with fb := fb, fbReady := d.eng.fbReady ++ axes } }
      let d := d.correctSlots n missing full b
      let axes := axes ++ marked
      if d.pipelinedTiming then d else d.recompute axes
  | _, _ => d

/-- DIGEST_FRAME (R298): compared at once, or at the bell when the standby's own axes are not completed yet. While a resynchronisation runs, the
stop-group latches of its group block are taken (DEDUCED: entry 107). -/
def Dev.digestFrame (l : Nat) (hdr : List Byte) (ok : Bool) (ds : List Nat) (latched : Nat) (d : Dev) : Dev :=
  let r := d.mirIn l 5 hdr ok
  let d := r.2
  match r.1 with
  | some h =>
    if d.mode = 8 && d.mir.resync.isSome then { d with eng := { d.eng with latched := latched, complete := latched } }
    else if !d.comparing || h.cycle ≠ d.cyc.count then d
    else if d.allDone then d.compareDigest ds latched
    else { d with mir := { d.mir with digest := some (ds, latched) } }
  | none => d
/-- A slice's axes take the holder's state in a sweep (R308): a computation that has run since is run again on it. -/
def Dev.loadSlice (age : Nat) (axes : List Nat) (data : List Byte) (d : Dev) : Dev :=
  (axes.zipIdx).foldl (fun d x =>
    let a := x.1
    let s := d.axis a
    let st := axisOfBytes ((data.drop (512 * x.2)).take 512) { s with standing := 0 }
    if age = 0 then (d.setAxis a { st with standing := s.standing }).showFaultOf a
    else
      let d : Dev := { d with eng := { d.eng with before := putKey a st d.eng.before } }
      if s.standing = 0 then (d.setAxis a st).showFaultOf a else (d.restoreAxis a).computeAxis a) d
/-- SLICE_FRAME (R300, R308): part 0 or 1 of a slice, compared with the snapshot of its cycle or loaded in a sweep. -/
def Dev.sliceFrame (l : Nat) (hdr : List Byte) (ok : Bool) (data : List Byte) (d : Dev) : Dev :=
  let r := d.mirIn l 6 hdr ok
  let d := r.2
  match r.1 with
  | none => d
  | some h =>
    let age := d.cyclesSince h.cycle
    let k := h.cycle % 64
    let part := h.part % 2
    let axes := ((d.sliceAxes k).drop (4 * part)).take 4
    if d.mode ≠ 8 || 1 < age then d
    else match d.mir.sweepFrom with
      | some f =>
        if 64 ≤ (h.cycle + 2 ^ 32 - f) % 2 ^ 32 then d else
          let d := d.loadSlice age axes data
          { d with mir := { d.mir with loaded := d.mir.loaded ++ [64 * part + k] } }
      | none =>
        if !d.comparing then d else
          axes.zipIdx.foldl (fun d x =>
            match d.mir.snap.find? (fun s => s.1 == x.1) with
            | some (_, b) => if b == padTo 512 ((data.drop (512 * x.2)).take 512) then d else d.diverge (x.1 / 16) 3
            | none => d) d

/-- The holder's notice or demand of a self-test (R301, R302). -/
def Dev.takeNotice (group kind cycle : Nat) (d : Dev) : Dev :=
  let d := (d.set MIR_DIVERGE_LAST.GROUP group).set MIR_DIVERGE_LAST.KIND kind
  let d := if d.mir.incident.isSome then d else
      (Dev.count32 MIR_DIVERGE_CNT 1 { d with mir := { d.mir with incident := some ⟨group, kind, cycle, none, none, none⟩ } }).noteIncident
  d.giveNotice
/-- REPORT_FRAME (R292, R301, R310): the standby's acknowledgement, the paths of this controller that it confirms, and a notice of a divergence
that it detected in the cycle before. -/
def Dev.reportFrame (l : Nat) (hdr : List Byte) (ok : Bool) (proofs : Nat) (notice : Option (Nat × Nat)) (d : Dev) : Dev :=
  let r := d.mirIn l 8 hdr ok
  let d := r.2
  match r.1 with
  | none => d
  | some h =>
    if !d.permit then d else
      let d : Dev := { d with mir := { d.mir with reportAt := some d.cyc.count } }
      let d := d.forEach ((List.range 18).filter (fun p => p != 16 && bitAt proofs p)) Dev.prove
      match notice with | some (g, k) => d.takeNotice (g % 32) (k % 8) ((h.cycle + 2 ^ 32 - 1) % 2 ^ 32) | none => d

/-- Bytes of a pitch entry (R93). -/
def pitchBytes (t : PitchEntry) : List Byte := leBytes 2 t.slot ++ leBytes 2 t.offset ++ leBytes 1 t.lo ++ leBytes 1 t.hi ++ leBytes 1 t.axes ++ [0]
/-- Bytes of a schedule block (R91). -/
def blockBytes (b : SchedBlock) : List Byte :=
  leBytes 2 b.gen ++ leBytes 1 b.port ++ leBytes 1 (b.rate + 16 * flag b.pipelined + 32 * flag b.closed) ++ leBytes 4 b.period ++ leBytes 4 b.uplink ++
    leBytes 4 b.openWin ++ leBytes 4 b.down ++ leBytes 4 b.guard ++ leBytes 4 b.w1 ++ leBytes 4 b.w2 ++ leBytes 4 b.w3 ++ leBytes 2 b.slots.length ++
    leBytes 1 b.pitches.length ++ leBytes 1 b.planNodes ++ leBytes 2 b.claim ++ leBytes 1 b.span ++ zeros 21 ++ b.slots.flatMap slotBytes ++
    b.pitches.flatMap pitchBytes
/-- Bytes of a generation image (R410). -/
def imageBytes (g : Generation) : List Byte :=
  let body := g.blocks.flatMap blockBytes ++ padTo 16 g.planHead ++ g.plan.flatMap (fun e => leBytes 2 e.axis ++ leBytes 1 e.lane ++ leBytes 1 e.level)
  leBytes 2 g.num ++ leBytes 1 g.blocks.length ++ leBytes 1 (flag g.dormant) ++ leBytes 4 (16 + body.length) ++ zeros 8 ++ body
/-- The holder's state as the bulk image carries it (R307). -/
def Dev.bulkImage (d : Dev) : List BulkPart :=
  [.words (d.live.filter (fun w => decide (0x200000 ≤ w.1)))] ++ d.eng.cams.map (fun t => .cam t.1 t.2.1 t.2.2) ++
    [.ceCtrl (d.liveWord CE_CTRL), .duty ((List.range 8).foldl (fun m f => m + flag (d.ha f) * 2 ^ f) 0)] ++
    d.acq.regs.map (fun r => .registration r.1 r.2.seq r.2.params) ++
    (List.range 8).map (fun n => .fences n (maskOf ((List.range 64).filter (fun p => d.on (NLS_POS_W2.FENCED n p))))) ++
    (List.range 8).flatMap (fun n => ((List.range 32).filter (fun k => d.get (NLS_PITCH.STATE n k) != 0)).map (fun k =>
      .pitch n k (d.rd (NLS_PITCH n k)) (((d.port n).holders.find? (fun h => h.1 == k)).map (·.2) |>.getD []))) ++
    (d.cyc.active.toList.map (fun g => .active (imageBytes g))) ++ (d.cyc.pending.toList.map (fun g => .pending (imageBytes g)))
/-- Bytes of the bulk image (R307, and the bring-up of 21_worked_bring_up.md, where four cam tables give the same figure): 18 MiB. DEDUCED: entry 107. -/
def bulkSize : Nat := 18 * 1024 * 1024
/-- The standby has asked for a resynchronisation (R306 to R309): the holder starts the bulk transfer, or the sweep. -/
def Dev.startResync (full bulk : Bool) (d : Dev) : Dev :=
  let d := (d.set MIR_STATUS.SYNCED 0).set MIR_STATUS.BULK (flag bulk)
  let d : Dev := { d with mir := { d.mir with
    resync := some full, bulkLeft := if bulk then bulkSize else 0, sweepFrom := if bulk then none else some (sweepStart d.cyc.count) } }
  d.when bulk (fun d => d.mirOut (.mirBulk d.bulkImage))
/-- A part of the bulk image takes its place in the standby (R307). -/
def Dev.takePart (p : BulkPart) (d : Dev) : Dev :=
  match p with
  | .words ws => ({ d with live := d.live.filter (fun w => decide (w.1 < 0x200000)) } : Dev).goLiveAll (ws.filter (fun w => decide (0x200000 ≤ w.1)))
  | .cam t off bs => { d with eng := { d.eng with cams := (d.eng.cams.filter (fun c => c.1 != t)) ++ [(t, off, bs)] } }
  | .ceCtrl w => d.goLive CE_CTRL w
  | .duty m => d.forN 8 (fun f d => d.cond (condHA f) (bitAt m f))
  | .registration r seq ps => (d.setReg r { d.regCh r with params := ps, seq := seq }).set (ACQ_REG_SEQ.SEQ r) seq
  | .fences n m => if 8 ≤ n then d else d.forN 64 (fun p d => if d.on (NLS_POS_W2.FENCED n p) == bitAt m p then d else d.set (NLS_POS_W2.FENCED n p) (flag (bitAt m p)))
  | .pitch n k w id =>
    if 8 ≤ n || 32 ≤ k then d else
      let d := (d.wr (NLS_PITCH n k) w).wr (NLS_PITCH_VACANT n) (withBits (d.rd (NLS_PITCH_VACANT n)) k k (flag (w % 4 == 1)))
      let d := if w % 4 = 3 then (d.set (NLS_POS_W2.PITCH n (bitsOf w 7 2)) 1).set (NLS_POS_W2.PITCH_NO n (bitsOf w 7 2)) k else d
      d.setPort n { d.port n with holders := if id.isEmpty then (d.port n).holders.filter (fun h => h.1 != k) else putKey k id (d.port n).holders }
  | .active b =>
    let g := formPlan d.allParams (parseImage b)
    ({ d with cyc := { d.cyc with active := some g, working := if g.dormant then d.cyc.working else some g } } : Dev).showPlan.showPlanned
  | .pending b =>
    let g := parseImage b
    ({ d with cyc := { d.cyc with pending := some g } } : Dev).forEach (genPorts g) (fun n d => d.set (NLS_PENDING_GEN.PENDING_GEN n) g.num)
/-- BULK_FRAME (R307, R308): parts of the image; with the last one the image is complete, the logs held since are applied, and the sweep follows. -/
def Dev.bulkFrame (l : Nat) (hdr : List Byte) (ok : Bool) (ps : List BulkPart) (d : Dev) : Dev :=
  let r := d.mirIn l 9 hdr ok
  let d := r.2
  match r.1 with
  | none => d
  | some h =>
    if d.mode ≠ 8 || !d.on MIR_STATUS.BULK || d.mir.imageDone then d else
      let d : Dev := { d with mir := { d.mir with parts := d.mir.parts ++ ps } }
      if !bitAt h.flags 0 then d else
        let parts := d.mir.parts
        let logs := d.mir.heldLogs
        let d : Dev := { d with
          mir := { d.mir with parts := [], heldLogs := [], imageDone := true, sweepFrom := some (sweepStart d.cyc.count), loaded := [] }
          eng := { d.eng with cams := [] } }
        ((d.set MIR_STATUS.BULK 0).forEach parts Dev.takePart).forEach logs (fun es d => d.forEach es (fun e d => d.enterMirrored (stopsOf (es.map (·.2))) e.2))
/-- PAIR_FAULT clears (R309). -/
def Dev.clearPairFault (d : Dev) : Dev := (d.set MIR_STATUS.PAIR_FAULT 0).cond condPAIR_FAULT false
/-- CONTROL_FRAME (R292, R301, R303, R308 to R310). -/
def Dev.controlFrame (l : Nat) (hdr : List Byte) (ok : Bool) (c : MirControl) (d : Dev) : Dev :=
  let r := d.mirIn l 10 hdr ok
  let d := r.2
  match r.1 with
  | none => d
  | some _ =>
    match c with
    | .selfTest g k c => d.takeNotice (g % 32) (k % 8) (c % 2 ^ 32)
    | .result good => match d.mir.incident with
      | some i => { d with mir := { d.mir with incident := some { i with peer := some good } } }
      | none => d
    | .resync full bulk => if d.permit then d.startResync full bulk else if d.mode = 8 then d.askResync full bulk else d
    | .logLost _ => if d.permit then d.noteIncident else d
    | .synced =>
      if !d.permit then d else
        let full := d.mir.resync.getD false
        let d : Dev := { d with mir := { d.mir with resync := none, sweepFrom := none, bulkLeft := 0 } }
        (((d.set MIR_STATUS.SYNCED 1).set MIR_STATUS.SWEEP 0).post 0x01C0 0x01C6 (leBytes 1 (flag full))).showRole.fbSettle false
    | .proved 16 =>
      let d := d.confirmPath 16
      match d.mir.drill with
      | some x => { d with mir := { d.mir with drill := some { x with awaiting := x.awaiting.filter (· ≠ 16) } } }
      | none => d
    | .proved p => if p < 18 then d.prove p else d
    | .clearFault => d.clearPairFault
    | .failed p => if p < 18 then d.pathFailed p else d

/-- The holder's downlink marks an axis held (R166): the standby undoes its own result and counts the miss as the holder did; slaves that it had computed
from that result are computed again from the master's last completed outputs (R165). -/
def Dev.heldByHolder (a : Nat) (d : Dev) : Dev :=
  let slaves := (d.affected [a]).filter (· != a)
  (((d.restoreAxis a).skipAxis a).missAxis a).computeAgain slaves
/-- HOLDER_DOWNLINK_FRAME (R166, R298, R310, R311): a copy of the partner's downlink frame of a segment on a channel. -/
def Dev.holderDownlink (n c : Nat) (bytes : List Byte) (d : Dev) : Dev :=
  let f := parseFrame bytes
  match d.cyc.running, d.activeBlock n with
  | true, some b =>
    if !f.hdrOk || !knownType f.typ then d.crcErr n c
    else
      let mine := match b.slots[f.slot]? with | some e => e.kind == (if d.headEnd n then 4 else 3) && d.farSource n f.src | none => false
      if f.typ ≠ 3 || !mine || f.cycle ≠ d.cyc.count || d.permit then d
      else if !f.bodyOk then d.crcErr n c
      else
        let axes := d.binds.filter (fun x => x.port == n && decide (16 * x.record + 16 ≤ f.payload.length))
        let rec_ := fun (x : Bind) => (f.payload.drop (16 * x.record)).take 16
        let live := d.mode == 8 && d.lanesRun
        let held := axes.filter (fun x => live && bitAt (fieldAt (rec_ x) 12 2) 1 && (d.axis x.axis).standing != 2)
        let d := d.forEach held (fun x => Dev.heldByHolder x.axis)
        let late := axes.filter (fun x => live && (d.axis x.axis).standing == 0 && d.plan.any (fun e => e.axis == x.axis))
        let bad := if d.comparing && (live || d.eng.repeatOnly) then
          axes.filter (fun x => !late.any (fun y => y.axis == x.axis) && rec_ x != d.downRecord x.axis) else []
        let good := d.comparing && bad.isEmpty
        let d := d.forEach bad (fun x => Dev.diverge (x.axis / 16) 0)
        let later := if d.comparing then late.map (fun x => (x.axis, rec_ x)) else []
        { d with mir := { d.mir with
          later := (d.mir.later.filter (fun y => !later.any (fun z => z.1 == y.1))) ++ later
          downs := d.mir.downs ++ [16 + 8 * c + n] ++ (if good then [8 * c + n] else []) } }
  | _, _ => d

/-- DIVERGENCE_OUTCOME (R301): both results are known, or 64 cycles have passed since the notice. -/
def Dev.outcome (d : Dev) : Dev :=
  match d.mir.incident with
  | some ⟨g, k, c, some n, own, peer⟩ =>
    if !((own.isSome && peer.isSome) || 64 ≤ d.cyclesSince n) then d else
      let ok := own.getD false
      let ok2 := peer.getD false
      let holder := if d.permit then ok else ok2
      let standby := if d.permit then ok2 else ok
      let row := if holder then (if standby then 1 else 2) else if standby then 3 else 4
      let d : Dev := { d with mir := { d.mir with incident := none } }
      let d := d.post 0x01C0 0x01C7 (leBytes 1 g ++ leBytes 1 k ++ leBytes 4 c ++ leBytes 1 row)
      if row = 1 then (if d.mode = 8 then d.askResync false false else d)
      else
        let d := d.pairFault 1
        if row = 3 then (if d.permit then d.logInput 0x01 68 (.permit 2 0) none else d)
        else
          let d := d.set MIR_STATUS.SYNCED 0
          let d : Dev := { d with mir := { d.mir with resync := none, sweepFrom := none } }
          if d.mode = 8 then
            let x := d.draw
            (x.2.disableAll.enterMode 6 (x.1 % 256) 0 (some d.cyc.count) false).showRole
          else d
  | _ => d
/-- PERMIT_IN_EDGE (R287, R310, R311). -/
def Dev.permitIn (d : Dev) : Dev :=
  let d := d.set MIR_STATUS.PERMIT_IN 1
  match d.mir.drill with
  | some x => if 2 ^ 31 ≤ (d.cyc.count + 2 ^ 32 - x.bell) % 2 ^ 32 then d
              else { d with mir := { d.mir with drill := some { x with awaiting := x.awaiting.filter (· ≠ 17) } } }
  | none => d
/-- DRILL_PROOF_TIMEOUT (R311): proof 16 or 17 has not come in time. -/
def Dev.drillTimeout (p : Nat) (d : Dev) : Dev :=
  match d.mir.drill with
  | some x =>
    if !x.awaiting.contains p then d
    else Dev.drillFailed p false { d with mir := { d.mir with drill := some { x with awaiting := x.awaiting.filter (· ≠ p) } } }
  | none => d

/-- 0x0901 PAIR_STATUS (R313). A holder whose partner is not in Shadow cannot tell its mode: the field is a free value. -/
def opPairStatus : Opcode :=
  { code := 0x0901, modes := fun _ => modeIn butSealed,
    run := fun _ _ d =>
      let x := d.draw
      let d := x.2
      let peer := if !d.permit && d.mir.lease.isSome then d.mir.holderMode else if d.partnerShadow then 8 else x.1 % 16
      let age := if !d.pairStands then 0xFFFFFFFF else match d.proofAge with | some a => min 0xFFFFFFFE (a / 1000000000) | none => 0xFFFFFFFF
      let fl := flag d.mirrorUp + 2 * flag (d.on MIR_STATUS.PAIR_FAULT) + 4 * flag (d.hasCond condPROOF_OVERDUE) + 8 * d.lget MIR_CTRL.FENCE_EN +
        16 * flag (d.on MIR_STATUS.PERMIT_IN) + 32 * flag (d.on MIR_STATUS.COMPATIBLE)
      (.done stOK (leBytes 1 (d.get MIR_STATUS.ROLE) ++ leBytes 1 fl ++ leBytes 1 peer ++ leBytes 1 (d.get MIR_STATUS.REASON) ++ leBytes 4 (d.rd MIR_EPOCH) ++
        leBytes 3 (d.get MIR_HOLDER.HOLDER) ++ leBytes 1 (if d.permit then d.lget MIR_CTRL.LEASE else d.get MIR_LEASE.IN_FORCE) ++ leBytes 4 age), d) }
/-- Step 5 of SWAP_DRILL and RELEASE_PERMIT (R313). -/
def Dev.passFirst (d : Dev) : Nat :=
  if d.standby then stNOT_PERMIT_HOLDER
  else if d.mode = 9 then stSAFETY_LOCKED
  else if d.permit && d.canRelease then 0 else stWRONG_MODE
/-- A handover or a resynchronisation is pending (R313). -/
def Dev.passBusy (d : Dev) : Bool :=
  d.mir.handover.isSome || d.mir.resync.isSome || (d.cyc.waiting ++ d.cyc.log).any (fun e => match e.act with | .permit _ _ => true | _ => false)
/-- 0x0902 SWAP_DRILL (R311, R313). -/
def opSwapDrill : Opcode :=
  { code := 0x0902, sched := true, modes := fun _ d => d.passFirst,
    run := fun p ref d =>
      let back := bitAt (par p 22 1) 0
      let n := par p 24 4
      if back && (n < 64 || 1000000000 < n) then (.bad stBAD_PARAMETER, d)
      else if d.passBusy then (.bad stBUSY, d)
      else d.logPacket 0x01 68 (.permit 0 (if back then n else 0)) ref }
/-- 0x0903 RELEASE_PERMIT (R313). -/
def opReleasePermit : Opcode :=
  { code := 0x0903, modes := fun _ d => d.passFirst,
    run := fun _ ref d => if d.passBusy then (.bad stBUSY, d) else d.logPacket 0x01 68 (.permit 1 0) ref }
/-- 0x0904 RESYNC_STANDBY (R309, R313). -/
def opResync : Opcode :=
  { code := 0x0904, modes := fun _ d => if d.mirrorUp && (d.mode == 8 || d.partnerShadow) then 0 else stWRONG_MODE,
    run := fun p _ d =>
      let full := bitAt (par p 22 1) 0
      let d := d.clearPairFault.mirControl .clearFault
      (.done stACCEPTED [], if d.permit then Dev.mirControl (.resync full full) { d with mir := { d.mir with resync := some full } } else d.askResync full full) }
/-- MIR_APPLY (R288, R343): MIR_CTRL is captured for the next boundary, or refused. -/
def Dev.mirApply (d : Dev) : Dev :=
  if d.on MIR_APPLY.APPLY then d else
    let lease := d.get MIR_CTRL.LEASE
    let gens := d.cyc.active.toList ++ d.cyc.pending.toList
    match (d.pairRules lease gens).orElse (fun _ => d.safetyFailWith [] lease) with
    | some _ => d.set MIR_APPLY.REFUSED 1
    | none => ((d.set MIR_APPLY.REFUSED 0).set MIR_APPLY.APPLY 1).holdCommit 0x01C0 (d.capture [MIR_CTRL]) none

/-- LEASE_FRAME (R294). -/
def execLeaseFrame (lane : Fin 2) (bytes : List Byte) (s : State) : Answer := .next (s.onDev (Dev.leaseFrame lane.val bytes))
/-- LEASE_EXPIRY (R286). -/
def execLeaseExpiry (s : State) : Answer := .next (s.onDev Dev.leaseExpiry)
/-- LOG_FRAME (R296). -/
def execLogFrame (lane : Fin 2) (hdr : List Byte) (ok : Bool) (entries : List (Nat × LogAct)) (s : State) : Answer :=
  .next (s.onDev (Dev.logFrame lane.val hdr ok entries))
/-- RECEIVE_WINDOW_CLOSE (R104). -/
def execReceiveWindowClose (n : Fin 8) (slot : Fin 768) (s : State) : Answer := .next (s.onDev (Dev.windowClosed n.val slot.val))
/-- SUMMARY_FRAME (R297). -/
def execSummaryFrame (lane : Fin 2) (hdr : List Byte) (ok : Bool) (seg : Fin 8) (crcs : List (Option Nat)) (s : State) : Answer :=
  .next (s.onDev (Dev.summaryFrame lane.val hdr ok seg.val crcs))
/-- CORRECTION_FRAME (R297). -/
def execCorrectionFrame (lane : Fin 2) (hdr : List Byte) (ok : Bool) (seg : Fin 8) (missing : BitVec 64) (full : List (Nat × List Byte)) (s : State) : Answer :=
  .next (s.onDev (Dev.correctionFrame lane.val hdr ok seg.val missing.toNat full))
/-- DIGEST_FRAME (R298). -/
def execDigestFrame (lane : Fin 2) (hdr : List Byte) (ok : Bool) (digests : List Nat) (latched : BitVec 16) (s : State) : Answer :=
  .next (s.onDev (Dev.digestFrame lane.val hdr ok digests latched.toNat))
/-- SLICE_FRAME (R300). -/
def execSliceFrame (lane : Fin 2) (hdr : List Byte) (ok : Bool) (data : List Byte) (s : State) : Answer :=
  .next (s.onDev (Dev.sliceFrame lane.val hdr ok data))
/-- LANE_SELFTEST (R174); the test of an incident ends with it once it is known (R301). -/
def execLaneSelftest (lane : Fin 32) (whole ok : Bool) (s : State) : Answer :=
  .next (s.onDev (fun d => (d.laneSelftest lane.val whole ok).ownResult))
/-- REPORT_FRAME (R310). -/
def execReportFrame (lane : Fin 2) (hdr : List Byte) (ok : Bool) (proofs : BitVec 18) (notice : Option (Nat × Nat)) (s : State) : Answer :=
  .next (s.onDev (Dev.reportFrame lane.val hdr ok proofs.toNat notice))
/-- BULK_FRAME (R307). -/
def execBulkFrame (lane : Fin 2) (hdr : List Byte) (ok : Bool) (parts : List BulkPart) (s : State) : Answer :=
  .next (s.onDev (Dev.bulkFrame lane.val hdr ok parts))
/-- CONTROL_FRAME (R301). -/
def execControlFrame (lane : Fin 2) (hdr : List Byte) (ok : Bool) (c : MirControl) (s : State) : Answer :=
  .next (s.onDev (Dev.controlFrame lane.val hdr ok c))
/-- HOLDER_DOWNLINK_FRAME (R298). -/
def execHolderDownlinkFrame (n : Fin 8) (c : Fin 2) (bytes : List Byte) (s : State) : Answer := .next (s.onDev (Dev.holderDownlink n.val c.val bytes))
/-- DIVERGENCE_OUTCOME (R301). -/
def execDivergenceOutcome (s : State) : Answer := .next (s.onDev Dev.outcome)
/-- PERMIT_IN_EDGE (R287). -/
def execPermitInEdge (s : State) : Answer := .next (s.onDev Dev.permitIn)
/-- PERMIT_IN_TIMEOUT (R287). -/
def execPermitInTimeout (s : State) : Answer := .next (s.onDev (Dev.set MIR_STATUS.PERMIT_IN 0))
/-- DRILL_PROOF_TIMEOUT (R311). -/
def execDrillProofTimeout (path : Fin 2) (s : State) : Answer := .next (s.onDev (Dev.drillTimeout (16 + path.val)))
/-- PAIR_STATUS (R313). -/
def execPairStatus (p : Packet) (s : State) : Answer := .next (s.onDev (Dev.packet opPairStatus p))
/-- SWAP_DRILL (R311). -/
def execSwapDrill (p : Packet) (s : State) : Answer := .next (s.onDev (Dev.packet opSwapDrill p))
/-- RELEASE_PERMIT (R313). -/
def execReleasePermit (p : Packet) (s : State) : Answer := .next (s.onDev (Dev.packet opReleasePermit p))
/-- RESYNC_STANDBY (R309). -/
def execResyncStandby (p : Packet) (s : State) : Answer := .next (s.onDev (Dev.packet opResync p))
/-- MIR_APPLY (R288). -/
def execMirApply (s : State) : Answer := .next (s.onDev Dev.mirApply)

end Sys2Proof.Machine
end

