-- ==== Sys2Proof/Machine/Bus.lean ====
section
/-! DEFINITION. Sys2Proof/Machine/Bus.lean: BAR0 as the host sees it (R10 to R14, R39 to R42): what a read shows, what reading clears,
latches or pops, and what a write stores or starts. -/
namespace Sys2Proof.Machine

/-- Word `i` of a byte list. -/
def wordAt (b : List Byte) (i : Nat) : Nat := fieldAt b (4 * i) 4
/-- Position of `a` in a register array of `c` members `stride` apart from `base`. -/
def indexIn (a base stride c : Nat) : Option Nat :=
  if base ≤ a && (a - base) % stride == 0 && decide ((a - base) / stride < c) then some ((a - base) / stride) else none
/-- Low words whose read latches the word above (R57, R245, R279 to R281, R382, R383, R439, R504). -/
def latchesNext (a : Nat) : Bool :=
  [SYS_MODE_TIME_LO, TDC_SYNC_LO, STO_NEWEST_LO, STO_OLDEST_LO, LDG_GEN_LO, LDG_ENTRY_LO, RST_CAUSE_TIME_LO].contains a ||
    (indexIn a (FB_COUNT_LO 0) 0x100 4).isSome || (indexIn a (ADC_CH_TIME_LO 0) 0x20 8).isSome ||
    (indexIn a (ACQ_U_TRIG_LO 0) 0x80 16).isSome || (indexIn a (DMA_CH_FAULT_VA_LO 0) 0x40 16).isSome
/-- Words whose read latches the two words above (R146, R245, R504). -/
def latchesTwo (a : Nat) : Bool := a == LTM_NOW_FRAC || a == RST_RTC_SUB || (indexIn a (FB_LAST_EDGE_FRAC 0) 0x100 4).isSome
/-- Words that show what an earlier read latched. -/
def isLatched (a : Nat) : Bool := (4 ≤ a && (latchesNext (a - 4) || latchesTwo (a - 4))) || (8 ≤ a && latchesTwo (a - 8))

/-- The port whose block holds offset `a` (R39). -/
def busPort (a : Nat) : Option Nat := if 0x40000 ≤ a && a < 0x68000 then some ((a - 0x40000) / 0x4000) else none
/-- The slot table word at byte `o` of a port's table: the active generation (R118). -/
def Dev.slotWord (d : Dev) (n o : Nat) : Nat :=
  match d.cyc.active.bind (fun g => g.blocks.find? (fun b => b.port == portByte n)) with
  | some b => wordAt (((b.slots[o / 16]?).map slotBytes).getD []) (o % 16 / 4)
  | none => 0
/-- The lane plan word at byte `o`: header, then entries (R152), of the plan in use, with its entry count: the default plan where the
image's count is 0 (R154). DEDUCED: entry 106. -/
def Dev.planWord (d : Dev) (o : Nat) : Nat :=
  match d.cyc.active with
  | some g =>
    if o < 16 then wordAt (padTo 16 (leBytes 2 g.num ++ leBytes 2 d.plan.length ++ g.planHead.drop 4)) (o / 4)
    else match d.plan[(o - 16) / 4]? with
      | some e => e.axis + 65536 * e.lane + 16777216 * e.level
      | none => 0
  | none => 0
/-- The trace window (R229): trace SRAM, or the spill ring of a unit. -/
def Dev.windowWord (d : Dev) (o : Nat) : Nat :=
  let at_ := 32768 * d.get TRC_WIN.PAGE + o
  if d.get TRC_WIN.SPACE = 0 then (if at_ < 0x400000 then leNat (takeBytes d.trc.sram at_ 4) else 0)
  else
    let r := d.spillRing (d.get TRC_WIN.UNIT)
    if at_ < r.2 then leNat (takeBytes d.dram (r.1 + at_) 4) else 0
/-- What the word at `a` holds now, before any latch; a value that the manual leaves open is drawn. `b` is the backup domain. -/
def Dev.busNow (b : Backup) (a : Nat) (d : Dev) : Nat × Dev :=
  if 0x400000 ≤ a then (0, d)
  else if 0x200000 ≤ a then
    (if a % 0x1000 < 0xE00 then d.rd a else wordAt (axisStateBytes (d.axis ((a - 0x200000) / 0x1000))) ((a % 0x1000 - 0xE00) / 4), d)
  else if a = LTM_NOW_FRAC then (d.now % 65536, d)
  else if a = LTM_NOW_LO then (d.now / 65536 % 2 ^ 32, d)
  else if a = LTM_NOW_HI then (d.now / 65536 / 2 ^ 32 % 2 ^ 32, d)
  else if a = RST_RTC_SUB then ((rtcNow b d).2 + 2 ^ 31 * d.get RST_RTC_SUB.VALID, d)
  else if a = RST_RTC_SEC_LO then ((rtcNow b d).1 % 2 ^ 32, d)
  else if a = RST_RTC_SEC_HI then ((rtcNow b d).1 / 2 ^ 32, d)
  else if a = RST_WDT then
    let x := d.draw
    let t := d.get RST_WDT.TIMEOUT
    (t + 65536 * (x.1 % (t + 1)), x.2)
  else if a = TDC_SYNC_LO then
    let x := d.syncNow
    (x.1.1 % 2 ^ 32, x.2)
  else if a = LDG_RATE then (d.ledgerRate, d)
  else if a = HIF_HB then (d.get HIF_HB.TIMEOUT + 65536 * (if d.hif.hbLast = 0 then 0 else min 65535 ((d.now - d.hif.hbLast) / ns 1000000)), d)
  else if a = SEC_DEBUG_LEFT then
    let d := d.showScopes
    (d.rd SEC_DEBUG_LEFT, d)
  else if 0xA1000 ≤ a && a < 0xA1810 then (d.planWord (a - 0xA1000), d)
  else if 0xB8000 ≤ a && a < 0xC0000 then (d.windowWord (a - 0xB8000), d)
  else if 0xD0000 ≤ a && a < 0xE0000 && 0x4000 ≤ a % 0x8000 then (d.canField ((a - 0xD0000) / 0x8000) (a % 0x8000 - 0x4000) 4, d)
  else if 0x83000 ≤ a && a < 0x83800 && a % 0x40 < 0x30 then (wordAt (padTo 48 (d.regCh ((a - 0x83000) / 0x40)).params) (a % 0x40 / 4), d)
  else match busPort a with
    | some n => if 0x1000 ≤ a % 0x4000 then (d.slotWord n (a % 0x4000 - 0x1000), d) else (d.rd a, d)
    | none => (d.rd a, d)
/-- A latch takes the word at `a` as it now stands. -/
def Dev.latchWord (b : Backup) (a : Nat) (d : Dev) : Dev :=
  let x := d.busNow b a
  { x.2 with latch := smSet resetOf x.2.latch a (BitVec.ofNat 32 x.1) }
/-- What a mailbox word of the message RAM is (R474): channel, mailbox, whether its read releases the lock. -/
def Dev.mailboxAt (d : Dev) (a : Nat) : Option (Nat × Nat × Bool) :=
  if a < 0xD0000 || 0xE0000 ≤ a || a % 0x8000 < 0x4000 then none else
    let n := (a - 0xD0000) / 0x8000
    let o := a % 0x8000 - 0x4000
    let s := d.lget (CAN_RAM_MBX.START n)
    if !bitAt (d.lrd (CAN_CTRL n)) 2 || o < s || d.lget (CAN_RAM_MBX.COUNT n) ≤ (o - s) / 96 then none
    else if (o - s) % 96 = 4 then some (n, (o - s) / 96, false)
    else if (o - s) % 96 = 0x5C then some (n, (o - s) / 96, true)
    else none
/-- A 32-bit read at `a`: the word goes out, then RC bits clear (R11), upper words latch, queues pop and mailboxes lock as the register says. -/
def Dev.busRead32 (b : Backup) (a : Nat) (d : Dev) : Dev :=
  if a = LTM_TXTS_ENTRY3 then d.txPop
  else match indexIn a (FB_EDGE3 0) 0x100 4, indexIn a (TDC_IN_TS3 0) 0x40 16, d.mailboxAt a with
    | some n, _, _ => d.fbEdgePop n
    | _, some n, _ => d.tdcPop n
    | _, _, some (n, m, false) => d.mbxStatusRead n m
    | _, _, some (n, m, true) => d.mbxReleaseRead n m
    | _, _, none =>
      if isLatched a then d.emit (.busData a (smGet resetOf d.latch a).toNat)
      else
        let x := d.busNow b a
        let d := (x.2.emit (.busData a x.1)).clearRc a
        let d := d.when (latchesNext a || latchesTwo a) (Dev.latchWord b (a + 4))
        d.when (latchesTwo a) (Dev.latchWord b (a + 8))
/-- Whether an access of `n` bytes at `a` is accepted (R40). -/
def accessOk (a n : Nat) : Bool := (n == 4 && a % 4 == 0) || (n == 8 && a % 8 == 0)
/-- A read of BAR0 (R40): another size or alignment returns 0. The endpoint must be present (R386). -/
def Dev.busRead (b : Backup) (a n : Nat) (d : Dev) : Dev :=
  if !d.ready then d
  else if !accessOk a n then d.emit (.busData a 0)
  else if n = 4 then d.busRead32 b a
  else (d.busRead32 b a).busRead32 b (a + 4)

/-- A write of NLS_LINK_CTRL (R63, R71, R78). -/
def Dev.linkCtrlWrite (n v : Nat) (d : Dev) : Dev :=
  let d := (((d.set (NLS_LINK_CTRL.RATE_MAX n) (bitsOf v 3 2)).set (NLS_LINK_CTRL.LOOPBACK_A n) (bitsOf v 5 5))).set (NLS_LINK_CTRL.LOOPBACK_B n) (bitsOf v 6 6)
  let turn := fun (c : Nat) (f : Fld) (d : Dev) =>
    if bitAt v c == d.on f then d else if bitAt v c then d.channelEnable n c else d.channelDisable n c
  let d := turn 1 (NLS_LINK_CTRL.EN_B n) (turn 0 (NLS_LINK_CTRL.EN_A n) d)
  d.when (bitAt v 4) (Dev.renegotiate n)
/-- A write of TDC_TBUS_CTRL (R279): SYNC_DRIVE acts only together with SLOT = 0, and is stored as 0 otherwise. -/
def Dev.tbusCtrlWrite (v : Nat) (d : Dev) : Dev :=
  d.plainWrite TDC_TBUS_CTRL (if bitsOf v 5 1 ≠ 0 then withBits v 6 6 0 else v)
/-- A write of an MSI-X vector's control word (R396): a pending message of an unmasked vector is sent. -/
def Dev.maskWrite (n v : Nat) (d : Dev) : Dev :=
  let d := d.plainWrite (HIF_MSIX_CTRL n) v
  let p := HIF_MSIX_PBA (n / 32)
  if !d.on (HIF_MSIX_CTRL.MASK n) && bitAt (d.rd p) (n % 32) then (d.wr p (withBits (d.rd p) (n % 32) (n % 32) 0)).emit (.msix n) else d
/-- A write of HIF_VEC (R396): entries that now reach COUNT, or a TIME of 0, fire the vector. -/
def Dev.vecWrite (n v : Nat) (d : Dev) : Dev :=
  let d := d.plainWrite (HIF_VEC n) v
  match d.hif.vectors.find? (fun p => p.1 == n) with
  | some p => d.when (decide (max 1 (d.get (HIF_VEC.COUNT n)) ≤ p.2.1) || d.get (HIF_VEC.TIME n) == 0) (Dev.fireVector n)
  | none => d
/-- A write of a ring's configuration (R388). -/
def Dev.cfgWrite (kind n v : Nat) (d : Dev) : Dev := if bitAt v 0 then d.ringEnable kind n v else d.ringDisable kind n v
/-- A write of a ring's base (R388): it changes only while the ring is disabled. -/
def Dev.baseWrite (kind n a v : Nat) (d : Dev) : Dev := if bitAt (d.rd (ringCfg kind n)) 0 then d else d.plainWrite a v
/-- Writes to the HIF window (R412). -/
def Dev.hifWrite (a v : Nat) (d : Dev) : Dev :=
  if a = HIF_EVT_CFG then d.cfgWrite 2 0 v
  else if a = HIF_EVT_BASE_LO || a = HIF_EVT_BASE_HI then d.baseWrite 2 0 a v
  else if a = HIF_DB_EVT then d.evtDoorbell (v % 65536)
  else match indexIn a (HIF_SQ_CFG 0) 0x20 64, indexIn a (HIF_CQ_CFG 0) 0x20 64, indexIn a (HIF_DB_SQ 0) 8 64, indexIn a (HIF_DB_CQ 0) 8 64 with
    | some n, _, _, _ => d.cfgWrite 0 n v
    | _, some n, _, _ => d.cfgWrite 1 n v
    | _, _, some n, _ => d.sqDoorbell n (v % 65536)
    | _, _, _, some n => d.cqDoorbell n (v % 65536)
    | _, _, _, _ => match indexIn (a / 8 * 8) (HIF_SQ_BASE_LO 0) 0x20 64, indexIn (a / 8 * 8) (HIF_CQ_BASE_LO 0) 0x20 64,
        indexIn a (HIF_MSIX_CTRL 0) 0x10 64, indexIn a (HIF_VEC 0) 4 64 with
      | some n, _, _, _ => d.baseWrite 0 n a v
      | _, some n, _, _ => d.baseWrite 1 n a v
      | _, _, some n, _ => d.maskWrite n v
      | _, _, _, some n => d.vecWrite n v
      | _, _, _, _ => d.plainWrite a v
/-- Writes to the CAN windows (R465, R483): registers and message RAM. A cancel may meet a frame on the bus: which one is a free value. -/
def Dev.canWrite (a v : Nat) (d : Dev) : Dev :=
  let n := (a - 0xD0000) / 0x8000
  if 0x4000 ≤ a % 0x8000 then d.canPut n (a % 0x8000 - 0x4000) (leBytes 4 v)
  else if a = CAN_APPLY n then d.when (bitAt v 0) (Dev.canApply n)
  else if a = CAN_TX_REQ n then d.canTxRequest n v
  else if a = CAN_TX_CANCEL n then
    let x := d.draw
    x.2.canTxCancel n v (if x.1 % 33 < 32 then some (x.1 % 33) else none)
  else if a = CAN_RX_ACK n 0 then d.canRxAck n 0 (v % 64)
  else if a = CAN_RX_ACK n 1 then d.canRxAck n 1 (v % 64)
  else if a = CAN_TXE_ACK n then d.canTxeAck n (v % 32)
  else d.plainWrite a v
/-- Writes to the blocks of the motion side that start something (R118, R125, R143, R144, R172, R213, R218, R232, R244, R261, R279, R280, R288). -/
def Dev.motionWrite (a v : Nat) (d : Dev) : Dev :=
  if a = LTM_RATE then d.rateWrite v
  else if a = EVO_APPLY then d.evoApply (v % 65536)
  else if a = EVO_CANCEL then d.evoCancel (v % 65536)
  else if a = CE_APPLY then d.when (bitAt v 0) Dev.ceApply
  else if a = TRC_MON_CTRL then d.when (bitAt v 0) Dev.monApply
  else if a = FB_APPLY then d.fbApply (v % 16)
  else if a = TDC_APPLY then d.tdcApply (v % 65536)
  else if a = TDC_TBUS_CTRL then d.tbusCtrlWrite v
  else if a = ADC_APPLY then d.when (bitAt v 0) Dev.adcApply
  else if a = ACQ_APPLY then d.acqApply (v % 65536)
  else if a = MIR_APPLY then d.when (bitAt v 0) Dev.mirApply
  else match indexIn a (TRC_UCMD 0) 0x80 4, indexIn a (FB_PRESET_LO 0) 0x100 4, indexIn a (FB_PRESET_HI 0) 0x100 4 with
    | some u, _, _ => (d.when (bitAt v 0) (Dev.ucmdStart u)).when (bitAt v 1) (Dev.ucmdStop u)
    | _, some n, _ => d.setFb n { d.fbCh n with presetLo := v }
    | _, _, some n => d.fbPreset n v
    | _, _, _ => match indexIn a (NLS_LINK_CTRL 0) 0x4000 10, indexIn a (NLS_SEG_FAULT 0) 0x4000 8 with
      | some n, _ => d.linkCtrlWrite n v
      | _, some n => d.when (bitAt v 0) (Dev.segFaultClear n)
      | _, _ => d.plainWrite a v
/-- Writes to the SYS, RST, CLK and PIN windows (R57, R504, R505, R526). -/
def Dev.sysWrite (a v : Nat) (d : Dev) : Dev :=
  if a = SYS_DRILL_LIMIT then
    let h := v % 256
    if h = 0 || 168 < h then d else d.set SYS_DRILL_LIMIT.HOURS h
  else if a = SYS_COND_EVT_EN then d.wr a (Nat.land v 0x00FF1FFF)
  else if a = PIN_MFP_OUT then d.mfpOutWrite v
  else match indexIn a (PIN_MFP 0) 4 24 with
    | some n => d.mfpWrite n v
    | none => d.plainWrite a v
/-- A 32-bit write of `v` at `a`. -/
def Dev.busWrite32 (a v : Nat) (d : Dev) : Dev :=
  if 0x200000 ≤ a then (if a < 0x400000 && a % 0x1000 < 0xE00 then d.axWrite ((a - 0x200000) / 0x1000) (a % 0x1000) v else d)
  else if a < 0x10000 then d.sysWrite a v
  else if a < 0x20000 then d.hifWrite a v
  else if 0xD0000 ≤ a && a < 0xE0000 then d.canWrite a v
  else d.motionWrite a v
/-- A write to BAR0 (R40, R42): another size or alignment is discarded and counted, and so is a write to the SAF window. -/
def Dev.busWrite (a n v : Nat) (d : Dev) : Dev :=
  if !d.ready then d
  else if !accessOk a n then d.count HIF_BAD_ACCESS_CNT.SIZE 1
  else if 0xC0000 ≤ a && a < 0xD0000 then d.count HIF_BAD_ACCESS_CNT.SAF 1
  else if n = 4 then d.busWrite32 a (v % 2 ^ 32)
  else (d.busWrite32 a (v % 2 ^ 32)).busWrite32 (a + 4) (v / 2 ^ 32 % 2 ^ 32)

/-- REGISTER_WRITE (R10 to R14, R40): offset, size in bytes, value. -/
def execRegisterWrite (a : BitVec 24) (size : BitVec 8) (v : BitVec 64) (s : State) : Answer :=
  .next (s.onDev (Dev.busWrite a.toNat size.toNat v.toNat))
/-- READ_CLEAR (R11): offset and size in bytes. -/
def execReadClear (a : BitVec 24) (size : BitVec 8) (s : State) : Answer := .next (s.onDev (Dev.busRead s.backup a.toNat size.toNat))
/-- LATCHING_READ (R57, R146, R245): offset and size in bytes. -/
def execLatchingRead (a : BitVec 24) (size : BitVec 8) (s : State) : Answer := .next (s.onDev (Dev.busRead s.backup a.toNat size.toNat))

end Sys2Proof.Machine
end

