-- ==== Sys2Proof/Machine/Fetch.lean ====
section
/-! DEFINITION. Sys2Proof/Machine/Fetch.lean: packets as bytes (R390, R391, R398, R399): fetching from submission rings, the packets that
host jobs hold (R426, R427), and held scheduled packets that come due (R141). -/
namespace Sys2Proof.Machine

/-- Every opcode of the manual (R401, R404 to R411, R221, R261, R278, R352, R370, R381, R436, R459, R481, R314). -/
def opcodes (f : Fuses) (b : Backup) : List Opcode :=
  [opGetInfo f, opSetMode, opGetMode, opResetDevice, opResetBlock, opReadTally b, opClearTally, opSetDuty, opHeartbeat] ++
  [opLoadSchedule, opActivate, opGetSegmentStatus, opGrantPitch, opRevokePitch, opSendAsync, opGetLinkStats, opFenceNode] ++
  [opConfigureAxis, opCommitAxes, opEnableAxis, opDisableAxis, opMoveProfile, opSetGear, opLoadCam, opStream, opStopGroup, opReadAxisState,
   opStartTrace, opStopTrace, opIdentify] ++
  [opConfigCapture, opArm, opDisarm, opForceFire, opLoadMask, opConfigReg, opCalibratePaths] ++
  [opGetTime, opSetMasterRank, opProgramOutput, opCancelOutput, opAlignPps] ++
  [opMountStore, opReadRecord, opListRecords, opDeleteRecords, opCompactLedger, opReadLedger, opFlushStore] ++
  [opLoadSafety, opGetSafety, opSafeStop, opOpenConn, opReadSafetyLog] ++
  [opConfigCan, opLoadFilters, opStartAutobaud, opCanSend, opCanStatus] ++
  [opPairStatus, opSwapDrill, opReleasePermit, opResync] ++
  [opGetCert, opAttest f, opOpenSession f, opCloseSession, opInstall f, opUnlockDebug f] ++
  [opCreateJob, opPostEvent, opMapPages, opResumeDma]
/-- The opcode of a code, if the code is known (step 1 of R401). -/
def opcodeOf (f : Fuses) (b : Backup) (code : Nat) : Option Opcode := (opcodes f b).find? (fun o => o.code == code)

/-- Entries that a packet takes (R390), from its first 64 bytes. -/
def entriesOf (first : List Byte) : Nat := 1 + (fieldAt first 5 1 + 3) / 4 + flag (bitAt (fieldAt first 4 1) 1)
/-- A packet from its bytes (R398, R399): `host` is what host memory answers at the address that it names. -/
def parsePacket (sq : Fin 64) (b : List Byte) (host : HostRead) : Packet :=
  let l := fieldAt b 5 1
  let sec := b.drop (64 + 64 * ((l + 3) / 4))
  { sq := sq, tag := BitVec.ofNat 16 (fieldAt b 2 2), flags := BitVec.ofNat 8 (fieldAt b 4 1), len := BitVec.ofNat 8 l
    session := BitVec.ofNat 16 (fieldAt b 6 2), execAt := BitVec.ofNat 80 (fieldAt b 8 10), tol := BitVec.ofNat 32 (fieldAt b 18 4)
    par := padTo 42 ((b.drop 22).take 42) ++ padTo (16 * l) (b.drop 64)
    sec := if bitAt (fieldAt b 4 1) 1 then some ⟨fieldAt sec 0 8, padTo 16 (sec.drop 8)⟩ else none
    host := host }
/-- Accept a packet of a code for its owner: an unknown opcode fails the first check of R401. -/
def Dev.acceptCode (f : Fuses) (b : Backup) (code : Nat) (p : Packet) (ref : PktRef) (d : Dev) : Dev :=
  match opcodeOf f b code with
  | some op => d.acceptFor op p ref
  | none => d.complete ref stBAD_OPCODE d.now []

/-- Ready entries of an SQ (R389). -/
def Dev.sqReady (d : Dev) (q : Nat) : Nat :=
  let size := ringSize (d.get (HIF_SQ_CFG.SIZE_LOG2 q))
  (d.get (HIF_DB_SQ.TAIL q) + size - d.get (HIF_SQ_HEAD.HEAD q)) % size
/-- Whether the packet at the head of ring `q`, whose bytes are `b`, may be fetched (R390, R391, R393, R412). -/
def Dev.canFetch (d : Dev) (q : Nat) (b : List Byte) : Bool :=
  d.on HIF_CTRL.FETCH_EN && d.on (HIF_SQ_CFG.EN q) && decide (64 ≤ b.length) && decide (entriesOf b ≤ d.sqReady q) && d.cqRoom (d.get (HIF_SQ_CFG.CQ q)) &&
    (!bitAt (fieldAt b 4 1) 3 || !d.hif.inWork.any (fun w => w.1 == q))
/-- The next ring of a priority after the one served last (R391). -/
def nextTurn (last : Option Nat) (qs : List Nat) : Option Nat :=
  match last with
  | some l => (qs.filter (fun q => decide (l < q))).head?.orElse (fun _ => qs.head?)
  | none => qs.head?
/-- The ring that is served: strict priority, round-robin within one (R391). `heads` gives the bytes that host memory holds from each ring's
head on. -/
def Dev.pickRing (heads : List (Fin 64 × List Byte)) (d : Dev) : Option (Fin 64 × List Byte) :=
  let ok := heads.filter (fun h => d.canFetch h.1.val h.2)
  (List.range 4).findSome? (fun pr =>
    let qs := (List.range 64).filter (fun q => d.get (HIF_SQ_CFG.PRIO q) == pr && ok.any (fun h => h.1.val == q))
    match nextTurn (smFind d.hif.turn pr) qs with
    | some q => ok.find? (fun h => h.1.val == q)
    | none => none)
/-- The head of ring `q` has moved past `k` entries, and the ring has had its turn among those of its priority (R391). -/
def Dev.fetched (q k : Nat) (d : Dev) : Dev :=
  let size := ringSize (d.get (HIF_SQ_CFG.SIZE_LOG2 q))
  let d := d.set (HIF_SQ_HEAD.HEAD q) ((d.get (HIF_SQ_HEAD.HEAD q) + k) % size)
  let pr := d.get (HIF_SQ_CFG.PRIO q)
  { d with hif := { d.hif with turn := (d.hif.turn.filter (fun t => t.1 != pr)) ++ [(pr, q)] } }
/-- One packet is fetched and accepted (R391): the head moves past all its entries. -/
def Dev.fetch (f : Fuses) (bk : Backup) (heads : List (Fin 64 × List Byte)) (host : HostRead) (d : Dev) : Dev :=
  if !d.ready then d else
    match d.pickRing heads with
    | none => d
    | some (q, b) =>
      let d := d.fetched q.val (entriesOf b)
      let p := parsePacket q b host
      (d.owe q.val).acceptCode f bk (fieldAt b 0 2) p ⟨q.val, p.tag.toNat, d.hif.epoch, false⟩

/-- A host job's run begins (R427): its packet is accepted, or skipped while the one before has not completed. -/
def Dev.beginJob (f : Fuses) (bk : Backup) (t : Nat) (host : HostRead) (d : Dev) : Dev :=
  let x := d.task t
  if t < 128 || x.began then d
  else if d.hif.inWork.any (fun w => w.1 == 64 + t) then d.setTask t { x with began := true, skipping := true, skips := x.skips + 1 }
  else
    let d := d.setTask t { x with began := true, skipping := false, runs := x.runs + 1 }
    let d : Dev := { d with hif := { d.hif with inWork := bumpWork (64 + t) true d.hif.inWork } }
    let p := parsePacket 0 (padTo 64 x.packet) host
    d.acceptCode f bk (fieldAt x.packet 0 2) { p with session := 0, execAt := 0, tol := 0, sec := none } ⟨64 + t, p.tag.toNat, d.hif.epoch, false⟩
/-- A dispatch decision, and the packet of a host job that it starts (R419, R420, R427). -/
def Dev.dispatchRun (f : Fuses) (bk : Backup) (bad : Bool) (host : HostRead) (d : Dev) : Dev :=
  match d.dispatchTask bad with
  | (some t, d) => d.beginJob f bk t host
  | (none, d) => d

/-- The held packet with the earliest execute-at time, the first accepted of equal ones (R141). -/
def firstDue : List HeldPacket → Option HeldPacket
  | [] => none
  | h :: hs => match firstDue hs with
    | some x => if x.pkt.execAt.toNat < h.pkt.execAt.toNat then some x else some h
    | none => some h
/-- A held packet is dispatched at its execute-at time: the mode check and all later ones run again (R400). -/
def Dev.heldDue (f : Fuses) (bk : Backup) (d : Dev) : Dev :=
  match firstDue d.hif.held with
  | none => d
  | some h =>
    let d := d.reach h.pkt.execAt.toNat
    let d := Dev.showHeld { d with hif := { d.hif with held := d.hif.held.erase h } }
    match opcodeOf f bk h.op with
    | some op => d.runOpcode op h.pkt h.ref
    | none => d

/-- PACKET_FETCH (R391): what host memory holds from each ring's head on, and at the address that the packet names. -/
def execPacketFetch (heads : List (Fin 64 × List Byte)) (host : HostRead) (s : State) : Answer :=
  .next (s.onDev (Dev.fetch s.fuses s.backup heads host)).settle
/-- TASK_DISPATCH (R420): whether the stockroom cell read now shows a DRAM error, and what host memory answers to a host job's packet. -/
def execTaskDispatch (bad : Bool) (host : HostRead) (s : State) : Answer :=
  .next (s.onDev (Dev.dispatchRun s.fuses s.backup bad host)).settle
/-- SCHEDULED_PACKET_DUE (R141). -/
def execScheduledPacketDue (s : State) : Answer := .next (s.onDev (Dev.heldDue s.fuses s.backup)).settle

end Sys2Proof.Machine
end

