-- ==== Sys2Proof/Machine/Dispatch.lean ====
section
/-! DEFINITION. Sys2Proof/Machine/Dispatch.lean: one arm per command of the table, each one call of its meaning. -/
namespace Sys2Proof.Machine

def exec (i : Instr) (s : State) : Host.Outcome State Fault Refusal :=
  match i with
  | .mainSupplyLoss => Sys2Proof.Machine.execMainSupplyLoss s
  | .mainSuppliesValid => Sys2Proof.Machine.execMainSuppliesValid s
  | .backupPor => Sys2Proof.Machine.execBackupPor s
  | .mainPor => Sys2Proof.Machine.execMainPor s
  | .brownOut => Sys2Proof.Machine.execBrownOut s
  | .resetN low => Sys2Proof.Machine.execResetN low s
  | .watchdogExpiry => Sys2Proof.Machine.execWatchdogExpiry s
  | .securityViolation code => Sys2Proof.Machine.execSecurityViolation code s
  | .pcieHotReset => Sys2Proof.Machine.execPcieHotReset s
  | .debugReset => Sys2Proof.Machine.execDebugReset s
  | .resetRelease straps vmon levels refs passed sec sub => Sys2Proof.Machine.execResetRelease straps vmon levels refs passed sec sub s
  | .bootComplete aOk bOk bad torn outBad copyBad r1 r2 tasks classes => Sys2Proof.Machine.execBootComplete aOk bOk bad torn outBad copyBad r1 r2 tasks classes s
  | .dramTrained gib ctxs => Sys2Proof.Machine.execDramTrained gib ctxs s
  | .getInfo p => Sys2Proof.Machine.execGetInfo p s
  | .setMode p => Sys2Proof.Machine.execSetMode p s
  | .getMode p => Sys2Proof.Machine.execGetMode p s
  | .resetDevice p => Sys2Proof.Machine.execResetDevice p s
  | .resetBlock p => Sys2Proof.Machine.execResetBlock p s
  | .readTally p => Sys2Proof.Machine.execReadTally p s
  | .clearTally p => Sys2Proof.Machine.execClearTally p s
  | .setDutyMode p => Sys2Proof.Machine.execSetDutyMode p s
  | .heartbeat p => Sys2Proof.Machine.execHeartbeat p s
  | .hostHeartbeatLapse => Sys2Proof.Machine.execHostHeartbeatLapse s
  | .pcieLinkDown => Sys2Proof.Machine.execPcieLinkDown s
  | .perstN low => Sys2Proof.Machine.execPerstN low s
  | .functionLevelReset => Sys2Proof.Machine.execFunctionLevelReset s
  | .wakeEvent src => Sys2Proof.Machine.execWakeEvent src s
  | .channelEnable n c => Sys2Proof.Machine.execChannelEnable n c s
  | .channelDisable n c => Sys2Proof.Machine.execChannelDisable n c s
  | .renegotiate n => Sys2Proof.Machine.execRenegotiate n s
  | .signalDetected n c => Sys2Proof.Machine.execSignalDetected n c s
  | .blockLockGained n c => Sys2Proof.Machine.execBlockLockGained n c s
  | .blockLockLost n c => Sys2Proof.Machine.execBlockLockLost n c s
  | .detectTimeout n c => Sys2Proof.Machine.execDetectTimeout n c s
  | .capability n c m => Sys2Proof.Machine.execCapability n c m s
  | .negotiateTimeout n c => Sys2Proof.Machine.execNegotiateTimeout n c s
  | .delayRequest n c m turn => Sys2Proof.Machine.execDelayRequest n c m turn s
  | .delayResponse n c m rtt => Sys2Proof.Machine.execDelayResponse n c m rtt s
  | .measureTimeout n c => Sys2Proof.Machine.execMeasureTimeout n c s
  | .rateOrder n c m => Sys2Proof.Machine.execRateOrder n c m s
  | .retrainExpiry n c => Sys2Proof.Machine.execRetrainExpiry n c s
  | .linkRetryExpiry n c => Sys2Proof.Machine.execLinkRetryExpiry n c s
  | .rateFallbackExpiry n c => Sys2Proof.Machine.execRateFallbackExpiry n c s
  | .hopReport n c m other => Sys2Proof.Machine.execHopReport n c m other s
  | .discoveryTimeout n => Sys2Proof.Machine.execDiscoveryTimeout n s
  | .rateOrderTimeout n => Sys2Proof.Machine.execRateOrderTimeout n s
  | .tailWaitExpiry n => Sys2Proof.Machine.execTailWaitExpiry n s
  | .hopRemeasure n c h v => Sys2Proof.Machine.execHopRemeasure n c h v s
  | .laneRecalDue n c => Sys2Proof.Machine.execLaneRecalDue n c s
  | .laneRecalDone n c => Sys2Proof.Machine.execLaneRecalDone n c s
  | .asyncFrameTimeout n => Sys2Proof.Machine.execAsyncFrameTimeout n s
  | .cycleBoundary => Sys2Proof.Machine.execCycleBoundary s
  | .bellReceived n c rx bytes => Sys2Proof.Machine.execBellReceived n c rx bytes s
  | .backupBellWait n => Sys2Proof.Machine.execBackupBellWait n s
  | .joinListenExpiry => Sys2Proof.Machine.execJoinListenExpiry s
  | .silentCycleEnd => Sys2Proof.Machine.execSilentCycleEnd s
  | .joinLimitExpiry => Sys2Proof.Machine.execJoinLimitExpiry s
  | .nodeFrame n c sof bytes => Sys2Proof.Machine.execNodeFrame n c sof bytes s
  | .segmentFaultClear n => Sys2Proof.Machine.execSegmentFaultClear n s
  | .receiveWindowClose n slot => Sys2Proof.Machine.execReceiveWindowClose n slot s
  | .pitchClaim n pos req => Sys2Proof.Machine.execPitchClaim n pos req s
  | .scheduleRequest n pos => Sys2Proof.Machine.execScheduleRequest n pos s
  | .leaveRequest n pos req => Sys2Proof.Machine.execLeaveRequest n pos req s
  | .generationAcknowledge n pos gen => Sys2Proof.Machine.execGenerationAcknowledge n pos gen s
  | .pitchSilence n pitch => Sys2Proof.Machine.execPitchSilence n pitch s
  | .inputLogClose => Sys2Proof.Machine.execInputLogClose s
  | .msLogClose => Sys2Proof.Machine.execMsLogClose s
  | .downlinkSlot n => Sys2Proof.Machine.execDownlinkSlot n s
  | .guardStart => Sys2Proof.Machine.execGuardStart s
  | .scheduledPacketDue => Sys2Proof.Machine.execScheduledPacketDue s
  | .trunkStatusFrame trunk payload => Sys2Proof.Machine.execTrunkStatusFrame trunk payload s
  | .holdoverEntered => Sys2Proof.Machine.execHoldoverEntered s
  | .originTakeover => Sys2Proof.Machine.execOriginTakeover s
  | .trunkMasterFrame payload => Sys2Proof.Machine.execTrunkMasterFrame payload s
  | .ppsEdge => Sys2Proof.Machine.execPpsEdge s
  | .ppsLost => Sys2Proof.Machine.execPpsLost s
  | .wholeSecondTick => Sys2Proof.Machine.execWholeSecondTick s
  | .ppsOutWidthEnd => Sys2Proof.Machine.execPpsOutWidthEnd s
  | .asyncFrameSent port chanB tag slot => Sys2Proof.Machine.execAsyncFrameSent port chanB tag slot s
  | .txtsPop => Sys2Proof.Machine.execTxtsPop s
  | .ltmRateWrite v => Sys2Proof.Machine.execLtmRateWrite v s
  | .evoFiring n => Sys2Proof.Machine.execEvoFiring n s
  | .evoPulseEnd n => Sys2Proof.Machine.execEvoPulseEnd n s
  | .evoApply mask => Sys2Proof.Machine.execEvoApply mask s
  | .evoCancel mask => Sys2Proof.Machine.execEvoCancel mask s
  | .laneStart lane => Sys2Proof.Machine.execLaneStart lane s
  | .axisComputationDone lane cycles sram => Sys2Proof.Machine.execAxisComputationDone lane cycles sram s
  | .axisDeadline axis => Sys2Proof.Machine.execAxisDeadline axis s
  | .laneError lane => Sys2Proof.Machine.execLaneError lane s
  | .laneSelftest lane whole ok => Sys2Proof.Machine.execLaneSelftest lane whole ok s
  | .ceApply => Sys2Proof.Machine.execCeApply s
  | .loadSchedule p => Sys2Proof.Machine.execLoadSchedule p s
  | .activateGeneration p => Sys2Proof.Machine.execActivateGeneration p s
  | .getSegmentStatus p => Sys2Proof.Machine.execGetSegmentStatus p s
  | .grantPitch p => Sys2Proof.Machine.execGrantPitch p s
  | .revokePitch p => Sys2Proof.Machine.execRevokePitch p s
  | .sendAsync p => Sys2Proof.Machine.execSendAsync p s
  | .getLinkStats p => Sys2Proof.Machine.execGetLinkStats p s
  | .fenceNode p => Sys2Proof.Machine.execFenceNode p s
  | .configureAxis p => Sys2Proof.Machine.execConfigureAxis p s
  | .commitAxes p => Sys2Proof.Machine.execCommitAxes p s
  | .enableAxis p => Sys2Proof.Machine.execEnableAxis p s
  | .disableAxis p => Sys2Proof.Machine.execDisableAxis p s
  | .moveProfile p => Sys2Proof.Machine.execMoveProfile p s
  | .setGear p => Sys2Proof.Machine.execSetGear p s
  | .loadCam p => Sys2Proof.Machine.execLoadCam p s
  | .streamSetpoints p => Sys2Proof.Machine.execStreamSetpoints p s
  | .stopGroup p => Sys2Proof.Machine.execStopGroup p s
  | .readAxisState p => Sys2Proof.Machine.execReadAxisState p s
  | .startTrace p => Sys2Proof.Machine.execStartTrace p s
  | .stopTrace p => Sys2Proof.Machine.execStopTrace p s
  | .ucmdStart unit => Sys2Proof.Machine.execUcmdStart unit s
  | .ucmdStop unit => Sys2Proof.Machine.execUcmdStop unit s
  | .monApply => Sys2Proof.Machine.execMonApply s
  | .identifyAxis p => Sys2Proof.Machine.execIdentifyAxis p s
  | .identifyHoldExpiry => Sys2Proof.Machine.execIdentifyHoldExpiry s
  | .fbInputEdge n a b c => Sys2Proof.Machine.execFbInputEdge n a b c s
  | .fbSampleInstant => Sys2Proof.Machine.execFbSampleInstant s
  | .fbApply mask => Sys2Proof.Machine.execFbApply mask s
  | .fbPreset n hi => Sys2Proof.Machine.execFbPreset n hi s
  | .fbEdgePop n => Sys2Proof.Machine.execFbEdgePop n s
  | .triggerEdge n rising c held => Sys2Proof.Machine.execTriggerEdge n rising c held s
  | .tdcStampPop n => Sys2Proof.Machine.execTdcStampPop n s
  | .tdcTableDone n hits => Sys2Proof.Machine.execTdcTableDone n hits s
  | .tdcApply mask => Sys2Proof.Machine.execTdcApply mask s
  | .adcStart => Sys2Proof.Machine.execAdcStart s
  | .adcResult k code => Sys2Proof.Machine.execAdcResult k code s
  | .adcApply => Sys2Proof.Machine.execAdcApply s
  | .captureArmTime u => Sys2Proof.Machine.execCaptureArmTime u s
  | .captureSample u damaged => Sys2Proof.Machine.execCaptureSample u damaged s
  | .captureTrigger u => Sys2Proof.Machine.execCaptureTrigger u s
  | .recordBufferGrant => Sys2Proof.Machine.execRecordBufferGrant s
  | .recordCopied u => Sys2Proof.Machine.execRecordCopied u s
  | .acqApply mask => Sys2Proof.Machine.execAcqApply mask s
  | .configCaptureUnit p => Sys2Proof.Machine.execConfigCaptureUnit p s
  | .arm p => Sys2Proof.Machine.execArm p s
  | .disarm p => Sys2Proof.Machine.execDisarm p s
  | .forceFire p => Sys2Proof.Machine.execForceFire p s
  | .loadMask p => Sys2Proof.Machine.execLoadMask p s
  | .configRegistration p => Sys2Proof.Machine.execConfigRegistration p s
  | .calibrateTriggerPaths p => Sys2Proof.Machine.execCalibrateTriggerPaths p s
  | .armFrame trunk payload => Sys2Proof.Machine.execArmFrame trunk payload s
  | .fireFrame trunk payload => Sys2Proof.Machine.execFireFrame trunk payload s
  | .disarmFrame trunk payload => Sys2Proof.Machine.execDisarmFrame trunk payload s
  | .tbusFrame rx bits => Sys2Proof.Machine.execTbusFrame rx bits s
  | .tbusCalibration meas => Sys2Proof.Machine.execTbusCalibration meas s
  | .registrationRequestReady r => Sys2Proof.Machine.execRegistrationRequestReady r s
  | .helloFrame lane bytes => Sys2Proof.Machine.execHelloFrame lane bytes s
  | .mirrorSilenceTimeout => Sys2Proof.Machine.execMirrorSilenceTimeout s
  | .leaseFrame lane bytes => Sys2Proof.Machine.execLeaseFrame lane bytes s
  | .leaseExpiry => Sys2Proof.Machine.execLeaseExpiry s
  | .logFrame lane hdr ok entries => Sys2Proof.Machine.execLogFrame lane hdr ok entries s
  | .summaryFrame lane hdr ok seg crcs => Sys2Proof.Machine.execSummaryFrame lane hdr ok seg crcs s
  | .correctionFrame lane hdr ok seg missing full => Sys2Proof.Machine.execCorrectionFrame lane hdr ok seg missing full s
  | .digestFrame lane hdr ok digests latched => Sys2Proof.Machine.execDigestFrame lane hdr ok digests latched s
  | .sliceFrame lane hdr ok data => Sys2Proof.Machine.execSliceFrame lane hdr ok data s
  | .reportFrame lane hdr ok proofs notice => Sys2Proof.Machine.execReportFrame lane hdr ok proofs notice s
  | .bulkFrame lane hdr ok parts => Sys2Proof.Machine.execBulkFrame lane hdr ok parts s
  | .controlFrame lane hdr ok c => Sys2Proof.Machine.execControlFrame lane hdr ok c s
  | .divergenceOutcome => Sys2Proof.Machine.execDivergenceOutcome s
  | .permitInEdge => Sys2Proof.Machine.execPermitInEdge s
  | .permitInTimeout => Sys2Proof.Machine.execPermitInTimeout s
  | .drillProofTimeout path => Sys2Proof.Machine.execDrillProofTimeout path s
  | .pairStatus p => Sys2Proof.Machine.execPairStatus p s
  | .swapDrill p => Sys2Proof.Machine.execSwapDrill p s
  | .releasePermit p => Sys2Proof.Machine.execReleasePermit p s
  | .resyncStandby p => Sys2Proof.Machine.execResyncStandby p s
  | .mirApply => Sys2Proof.Machine.execMirApply s
  | .safetyCycle r0 r1 r2 osc vdd sackLow => Sys2Proof.Machine.execSafetyCycle r0 r1 r2 osc vdd sackLow s
  | .safeInputSample a b => Sys2Proof.Machine.execSafeInputSample a b s
  | .discrepancyTimeout n => Sys2Proof.Machine.execDiscrepancyTimeout n s
  | .testPulse k a b => Sys2Proof.Machine.execTestPulse k a b s
  | .outputReadback n a b => Sys2Proof.Machine.execOutputReadback n a b s
  | .sealRead r1 r2 => Sys2Proof.Machine.execSealRead r1 r2 s
  | .pduReceived c bytes => Sys2Proof.Machine.execPduReceived c bytes s
  | .safetyWatchdogLapse c => Sys2Proof.Machine.execSafetyWatchdogLapse c s
  | .confirmationTimeout c b => Sys2Proof.Machine.execConfirmationTimeout c b s
  | .sackRelease conn lowAt => Sys2Proof.Machine.execSackRelease conn lowAt s
  | .sackStuck => Sys2Proof.Machine.execSackStuck s
  | .loadSafetyParameters p => Sys2Proof.Machine.execLoadSafetyParameters p s
  | .getSafetyStatus p => Sys2Proof.Machine.execGetSafetyStatus p s
  | .requestSafeStop p => Sys2Proof.Machine.execRequestSafeStop p s
  | .openSafetyConnection p => Sys2Proof.Machine.execOpenSafetyConnection p s
  | .readSafetyLog p => Sys2Proof.Machine.execReadSafetyLog p s
  | .nvmeCommandComplete d k status data => Sys2Proof.Machine.execNvmeCommandComplete d k status data s
  | .nvmeTimeout d => Sys2Proof.Machine.execNvmeTimeout d s
  | .flushTimer => Sys2Proof.Machine.execFlushTimer s
  | .mountStore p => Sys2Proof.Machine.execMountStore p s
  | .readRecord p => Sys2Proof.Machine.execReadRecord p s
  | .listRecords p => Sys2Proof.Machine.execListRecords p s
  | .deleteRecords p => Sys2Proof.Machine.execDeleteRecords p s
  | .flushStore p => Sys2Proof.Machine.execFlushStore p s
  | .compactLedger p => Sys2Proof.Machine.execCompactLedger p s
  | .readLedger p => Sys2Proof.Machine.execReadLedger p s
  | .ledgerCompacted => Sys2Proof.Machine.execLedgerCompacted s
  | .packetFetch heads host => Sys2Proof.Machine.execPacketFetch heads host s
  | .sqDoorbell q v => Sys2Proof.Machine.execSqDoorbell q v s
  | .cqDoorbell c v => Sys2Proof.Machine.execCqDoorbell c v s
  | .evtDoorbell v => Sys2Proof.Machine.execEvtDoorbell v s
  | .ringEnable kind n v => Sys2Proof.Machine.execRingEnable kind n v s
  | .ringDisable kind n v => Sys2Proof.Machine.execRingDisable kind n v s
  | .pcieDmaError kind n => Sys2Proof.Machine.execPcieDmaError kind n s
  | .msixCoalesceTimeout v => Sys2Proof.Machine.execMsixCoalesceTimeout v s
  | .sessionProofTimeout sid => Sys2Proof.Machine.execSessionProofTimeout sid s
  | .getCertificate p => Sys2Proof.Machine.execGetCertificate p s
  | .attest p => Sys2Proof.Machine.execAttest p s
  | .openSession p => Sys2Proof.Machine.execOpenSession p s
  | .closeSession p => Sys2Proof.Machine.execCloseSession p s
  | .installFirmware p => Sys2Proof.Machine.execInstallFirmware p s
  | .unlockDebug p => Sys2Proof.Machine.execUnlockDebug p s
  | .debugMailbox t => Sys2Proof.Machine.execDebugMailbox t s
  | .debugScopeExpiry => Sys2Proof.Machine.execDebugScopeExpiry s
  | .createJob p => Sys2Proof.Machine.execCreateJob p s
  | .postEvent p => Sys2Proof.Machine.execPostEvent p s
  | .mapPages p => Sys2Proof.Machine.execMapPages p s
  | .resumeDma p => Sys2Proof.Machine.execResumeDma p s
  | .taskDispatch bad host => Sys2Proof.Machine.execTaskDispatch bad host s
  | .taskWait c mask all => Sys2Proof.Machine.execTaskWait c mask all s
  | .taskEnd c => Sys2Proof.Machine.execTaskEnd c s
  | .periodTimer t => Sys2Proof.Machine.execPeriodTimer t s
  | .dmaDescriptorPush n b => Sys2Proof.Machine.execDmaDescriptorPush n b s
  | .dmaDescriptorComplete n ext => Sys2Proof.Machine.execDmaDescriptorComplete n ext s
  | .dmaFault n ext => Sys2Proof.Machine.execDmaFault n ext s
  | .configCan p => Sys2Proof.Machine.execConfigCan p s
  | .loadFilters p => Sys2Proof.Machine.execLoadFilters p s
  | .startAutobaud p => Sys2Proof.Machine.execStartAutobaud p s
  | .autobaudWindowExpiry n => Sys2Proof.Machine.execAutobaudWindowExpiry n s
  | .canSend p => Sys2Proof.Machine.execCanSend p s
  | .getCanStatus p => Sys2Proof.Machine.execGetCanStatus p s
  | .canApply n => Sys2Proof.Machine.execCanApply n s
  | .canFrameReceived n id dlc sof data acked exc => Sys2Proof.Machine.execCanFrameReceived n id dlc sof data acked exc s
  | .canTxRequest n mask => Sys2Proof.Machine.execCanTxRequest n mask s
  | .canTxCancel n mask onBus => Sys2Proof.Machine.execCanTxCancel n mask onBus s
  | .canTransmitAt n b => Sys2Proof.Machine.execCanTransmitAt n b s
  | .canTxComplete n b out sof delay => Sys2Proof.Machine.execCanTxComplete n b out sof delay s
  | .canErrorDetected n kind dat tx big exempt => Sys2Proof.Machine.execCanErrorDetected n kind dat tx big exempt s
  | .busRecovered n => Sys2Proof.Machine.execBusRecovered n s
  | .canHeartbeatPeriod n => Sys2Proof.Machine.execCanHeartbeatPeriod n s
  | .canRxAck n k idx => Sys2Proof.Machine.execCanRxAck n k idx s
  | .canTxeAck n idx => Sys2Proof.Machine.execCanTxeAck n idx s
  | .mailboxStatusRead n m => Sys2Proof.Machine.execMailboxStatusRead n m s
  | .mailboxReleaseRead n m => Sys2Proof.Machine.execMailboxReleaseRead n m s
  | .lockTimeout n => Sys2Proof.Machine.execLockTimeout n s
  | .supplyWarn b ok high => Sys2Proof.Machine.execSupplyWarn b ok high s
  | .vbatLow mv => Sys2Proof.Machine.execVbatLow mv s
  | .pllUnlock pll => Sys2Proof.Machine.execPllUnlock pll s
  | .rtcInvalid => Sys2Proof.Machine.execRtcInvalid s
  | .refclkLost pex ok => Sys2Proof.Machine.execRefclkLost pex ok s
  | .temperatureSample t => Sys2Proof.Machine.execTemperatureSample t s
  | .funcWrite n v => Sys2Proof.Machine.execFuncWrite n v s
  | .parkEnd n => Sys2Proof.Machine.execParkEnd n s
  | .registerWrite a size v => Sys2Proof.Machine.execRegisterWrite a size v s
  | .readClear a size => Sys2Proof.Machine.execReadClear a size s
  | .latchingRead a size => Sys2Proof.Machine.execLatchingRead a size s
  | .getTime p => Sys2Proof.Machine.execGetTime p s
  | .setMasterRank p => Sys2Proof.Machine.execSetMasterRank p s
  | .programEventOutput p => Sys2Proof.Machine.execProgramEventOutput p s
  | .cancelEventOutput p => Sys2Proof.Machine.execCancelEventOutput p s
  | .alignToPps p => Sys2Proof.Machine.execAlignToPps p s
  | .pllLocked pll => Sys2Proof.Machine.execPllLocked pll s
  | .mirrorLaneLock lane locked => Sys2Proof.Machine.execMirrorLaneLock lane locked s
  | .helloTimer lane => Sys2Proof.Machine.execHelloTimer lane s
  | .controllerSlot n slot => Sys2Proof.Machine.execControllerSlot n slot s
  | .holderDownlinkFrame n c bytes => Sys2Proof.Machine.execHolderDownlinkFrame n c bytes s
  | .asyncReplyTimeout n tag => Sys2Proof.Machine.execAsyncReplyTimeout n tag s
  | .rootPortLink d up speed width => Sys2Proof.Machine.execRootPortLink d up speed width s
  | .pcieLinkTrained speed width => Sys2Proof.Machine.execPcieLinkTrained speed width s
  | .vbatRestored mv => Sys2Proof.Machine.execVbatRestored mv s

end Sys2Proof.Machine
end

