-- ==== Sys2Proof/Machine/Step.lean ====
section
/-! DEFINITION. Sys2Proof/Machine/Step.lean: one step takes the command at the front of the queue; with no command waiting, one 2 ns tick
of the timebase passes (R120, notes/assumptions/3.md). -/
namespace Sys2Proof.Machine

/-- The timebase runs from Boot on (R44, R120); PERMIT_OUT toggles with it (R287) and a RESET_DEVICE takes its effect (R405). -/
def State.idle (s : State) : State := if 2 ≤ s.dev.mode then (s.onDev (fun d => d.tick.permitPin)).takeReset else s

/-- One step. -/
def step (s : State) : Host.Outcome State Fault Refusal :=
  match s.pending with
  | [] => .next s.idle
  | c :: cs => exec c { s with pending := cs }

/-- The state with the command that a word spells in front of its queue; the table gives its rows no bits, so no word spells one. -/
def State.withFetchWord (s : State) (nbits w : Nat) : State :=
  match Sys2Proof.decodeTableWord nbits w with
  | some c => { s with pending := c :: s.pending }
  | none => s

end Sys2Proof.Machine
end

