-- ==== Sys2Proof/Safety.lean ====
section
/-! DEFINITION. Sys2Proof/Safety.lean: the terms in which claims about the machine are said: a packet that passes the acceptance checks,
the range of the backup domain's values, fuses that are only ever blown. -/
namespace Sys2Proof.Machine

/-- The owner of a packet's completion (R392). -/
def refOf (p : Packet) (d : Dev) : PktRef := ⟨p.sq.val, p.tag.toNat, d.hif.epoch, false⟩

/-- The host endpoint is present, steps 2 to 5 of R401 accept packet `p`, and it is not held until a later time: opcode `op` runs now in
state `d'` on the parameters of `p'` (its plaintext when it is authenticated). -/
structure Runs (op : Opcode) (p : Packet) (d : Dev) (p' : Packet) (d' : Dev) : Prop where
  ready : d.ready = true
  len : op.lMin ≤ p.len.toNat ∧ p.len.toNat ≤ op.lMax
  flags : p.flags.toNat < 16 ∧ hasFlag p 0 = (decide (0 < p.len.toNat) || hasFlag p 1) ∧ (hasFlag p 2 = true → op.sched = true)
  auth : (d.owe p.sq.val).authenticate op p = (some p', d')
  mode : op.modes p' d' = 0
  atOnce : hasFlag p' 2 = false ∨ op.ownTime = true

/-- Nothing waits for a command's end: no fuses to blow, no tally counters to clear, no reset that is due (R45, R405, R441, R499). -/
abbrev Dev.nothingDue (d : Dev) : Prop :=
  d.sec.burn = none ∧ d.sys.clearTally = none ∧ d.sys.selfReset = false ∧ d.sys.resetDue.any (fun x => decide (x ≤ d.now)) = false

/-- The backup domain holds nine 16-bit tally counters, a 48-bit second count and a 15-bit tick count (R493, R498). -/
def Backup.inRange (b : Backup) : Prop :=
  b.counters.length = 9 ∧ (∀ c ∈ b.counters, c ≤ 0xFFFF) ∧ b.rtcSec < 2 ^ 48 ∧ b.rtcSub < 2 ^ 15

/-- Every fuse bit blown in `f` is blown in `g` (R441). -/
def Fuses.onlyBlown (f g : Fuses) : Prop :=
  (∀ i, f.arb.testBit i = true → g.arb.testBit i = true) ∧ (f.provisioned = true → g.provisioned = true) ∧
    (f.debugLock = true → g.debugLock = true) ∧ (f.hotAction = true → g.hotAction = true) ∧
    (∀ k < 4, (f.root k).revoked = true → (g.root k).revoked = true)

/-- Command `c` resets the part in state `s` (R494, R498): a next state in mode `m` with every other register at its reset value, no axis
enabled, no cycle, DRAM and registers' companions cleared; the tally counts the source and records the cause; fuses, boot flash and the
ledger's areas stay. -/
def ResetsBy (c : Instr) (s : State) (src detail m : Nat) : Prop :=
  ∃ t, exec c s = .next t ∧ t.fuses = s.fuses ∧ t.dev.mode = m ∧ (∀ a, a ≠ SYS_MODE → t.dev.rd a = (resetOf a).toNat) ∧
    t.backup.counters = bumpTally src s.backup.counters ∧
    t.backup.cause = some ⟨src, detail, s.dev.now, s.dev.on LTM_STATUS.VALID, false, s.dev.mode⟩ ∧
    t.dev.axes = [] ∧ t.dev.cyc = Cyc.reset ∧ t.dev.saf = Saf.reset ∧ t.dev.dram = [] ∧ t.dev.sec.slotA = s.dev.sec.slotA ∧
    t.dev.sec.slotB = s.dev.sec.slotB ∧ t.dev.ledger.areaA = s.dev.ledger.areaA ∧ t.dev.ledger.areaB = s.dev.ledger.areaB

/-- The opcode and the packet of a command that is a packet of the host (R404 to R411); INSTALL_FIRMWARE and CLEAR_TALLY, whose command ends
with fuses or tally counters of its own, are not among them. -/
def packetOf (c : Instr) (s : State) : Option (Opcode × Packet) :=
  match c with
  | .configCan p => some (opConfigCan, p)
  | .loadFilters p => some (opLoadFilters, p)
  | .startAutobaud p => some (opStartAutobaud, p)
  | .canSend p => some (opCanSend, p)
  | .getCanStatus p => some (opCanStatus, p)
  | .configCaptureUnit p => some (opConfigCapture, p)
  | .arm p => some (opArm, p)
  | .disarm p => some (opDisarm, p)
  | .forceFire p => some (opForceFire, p)
  | .loadMask p => some (opLoadMask, p)
  | .configRegistration p => some (opConfigReg, p)
  | .calibrateTriggerPaths p => some (opCalibratePaths, p)
  | .activateGeneration p => some (opActivate, p)
  | .configureAxis p => some (opConfigureAxis, p)
  | .commitAxes p => some (opCommitAxes, p)
  | .enableAxis p => some (opEnableAxis, p)
  | .disableAxis p => some (opDisableAxis, p)
  | .moveProfile p => some (opMoveProfile, p)
  | .setGear p => some (opSetGear, p)
  | .loadCam p => some (opLoadCam, p)
  | .streamSetpoints p => some (opStream, p)
  | .stopGroup p => some (opStopGroup, p)
  | .readAxisState p => some (opReadAxisState, p)
  | .pairStatus p => some (opPairStatus, p)
  | .swapDrill p => some (opSwapDrill, p)
  | .releasePermit p => some (opReleasePermit, p)
  | .resyncStandby p => some (opResync, p)
  | .loadSafetyParameters p => some (opLoadSafety, p)
  | .getSafetyStatus p => some (opGetSafety, p)
  | .requestSafeStop p => some (opSafeStop, p)
  | .openSafetyConnection p => some (opOpenConn, p)
  | .readSafetyLog p => some (opReadSafetyLog, p)
  | .loadSchedule p => some (opLoadSchedule, p)
  | .getSegmentStatus p => some (opGetSegmentStatus, p)
  | .grantPitch p => some (opGrantPitch, p)
  | .revokePitch p => some (opRevokePitch, p)
  | .sendAsync p => some (opSendAsync, p)
  | .getLinkStats p => some (opGetLinkStats, p)
  | .fenceNode p => some (opFenceNode, p)
  | .createJob p => some (opCreateJob, p)
  | .postEvent p => some (opPostEvent, p)
  | .mapPages p => some (opMapPages, p)
  | .resumeDma p => some (opResumeDma, p)
  | .getCertificate p => some (opGetCert, p)
  | .attest p => some (opAttest s.fuses, p)
  | .openSession p => some (opOpenSession s.fuses, p)
  | .closeSession p => some (opCloseSession, p)
  | .unlockDebug p => some (opUnlockDebug s.fuses, p)
  | .mountStore p => some (opMountStore, p)
  | .readRecord p => some (opReadRecord, p)
  | .listRecords p => some (opListRecords, p)
  | .deleteRecords p => some (opDeleteRecords, p)
  | .flushStore p => some (opFlushStore, p)
  | .compactLedger p => some (opCompactLedger, p)
  | .readLedger p => some (opReadLedger, p)
  | .getInfo p => some (opGetInfo s.fuses, p)
  | .setMode p => some (opSetMode, p)
  | .getMode p => some (opGetMode, p)
  | .resetDevice p => some (opResetDevice, p)
  | .resetBlock p => some (opResetBlock, p)
  | .readTally p => some (opReadTally s.backup, p)
  | .setDutyMode p => some (opSetDuty, p)
  | .heartbeat p => some (opHeartbeat, p)
  | .getTime p => some (opGetTime, p)
  | .setMasterRank p => some (opSetMasterRank, p)
  | .programEventOutput p => some (opProgramOutput, p)
  | .cancelEventOutput p => some (opCancelOutput, p)
  | .alignToPps p => some (opAlignPps, p)
  | .startTrace p => some (opStartTrace, p)
  | .stopTrace p => some (opStopTrace, p)
  | .identifyAxis p => some (opIdentify, p)
  | _ => none

/-- Everything beside the registers, the host interface, the security block, the transcript and the free counter is in `e` as in `d`. -/
def Dev.keeps (d e : Dev) : Prop :=
  e.live = d.live ∧ e.latch = d.latch ∧ e.sys = d.sys ∧ e.ltm = d.ltm ∧ e.evo = d.evo ∧ e.ports = d.ports ∧ e.cyc = d.cyc ∧ e.eng = d.eng ∧
    e.axes = d.axes ∧ e.trc = d.trc ∧ e.fb = d.fb ∧ e.adc = d.adc ∧ e.acq = d.acq ∧ e.dram = d.dram ∧ e.sto = d.sto ∧ e.saf = d.saf ∧
    e.can = d.can ∧ e.sch = d.sch ∧ e.mir = d.mir ∧ e.ledger = d.ledger

/-- Opcodes that only answer what the state holds: GET_INFO, GET_MODE, READ_TALLY, GET_SEGMENT_STATUS, READ_AXIS_STATE, GET_TIME,
READ_LEDGER, GET_SAFETY_STATUS, READ_SAFETY_LOG, GET_CAN_STATUS, PAIR_STATUS, GET_CERTIFICATE, ATTEST. -/
def queryCodes : List Nat :=
  [0x0101, 0x0103, 0x0106, 0x0203, 0x030A, 0x0501, 0x0606, 0x0702, 0x0705, 0x0805, 0x0901, 0x0A01, 0x0A02]

/-- The commands that may write the backup domain: what resets the part or ends a packet, a cycle or a ms with a reset, the power-on of the
domain, the release from reset, the real-time clock's writes, and CLEAR_TALLY. -/
def backupCommand : Instr → Bool
  | .mainSupplyLoss | .backupPor | .mainPor | .brownOut | .resetN _ | .watchdogExpiry | .securityViolation _ | .pcieHotReset | .debugReset
  | .pllUnlock _ | .resetRelease _ _ _ _ _ _ _ | .rtcInvalid | .wholeSecondTick | .installFirmware _ | .clearTally _ | .packetFetch _ _
  | .taskDispatch _ _ | .scheduledPacketDue | .cycleBoundary | .msLogClose => true
  | _ => false

end Sys2Proof.Machine
end

