-- ==== Sys2Proof/Certificates/Slice0/Obligations.lean ====
section
/-! DEFINITION. Sys2Proof/Certificates/Slice0/Obligations.lean: the statements about the machine that are to be proved. -/
open Sys2Proof Sys2Proof.Machine

/-- For every command c and state s, a step of s with c at the front of its queue is exec of c on s with the queue's rest. The queue is the model's own (notes/assumptions/4.md). -/
def Obligations.StepRunsFrontCommand : Prop :=
  ∀ (c : Instr) (cs : List Instr) (s : State), s.pending = c :: cs → step s = exec c { s with pending := cs }

/-- With an empty queue a step answers a next state; below Boot it changes nothing; from Boot on, with PERMIT_OUT inactive and no reset due, it advances the 112-bit line-time count (64.16 in ns plus the 32 further fraction bits) by 2 ns and RATE, and changes nothing else. That an empty queue ticks is a DESIGN CHOICE of the model (notes/assumptions/3.md). -/
def Obligations.EmptyQueueStepTicks : Prop :=
  (∀ s : State, s.pending = [] → s.dev.mode < 2 → step s = .next s) ∧
  (∀ s : State, s.pending = [] → 2 ≤ s.dev.mode → s.dev.on MIR_STATUS.PERMIT_OUT = false → s.dev.sys.selfReset = false → s.dev.sys.resetDue = none →
    step s = .next { s with dev := { s.dev with ltm := { s.dev.ltm with now := (((s.dev.ltm.now * 2 ^ 32 + s.dev.ltm.acc : Nat) : Int) + 2 ^ 49 + s.dev.rate * 512).toNat / 2 ^ 32 % 2 ^ 80, acc := (((s.dev.ltm.now * 2 ^ 32 + s.dev.ltm.acc : Nat) : Int) + 2 ^ 49 + s.dev.rate * 512).toNat % 2 ^ 32 } } })

/-- Whatever command runs, when exec answers a next state the queue of waiting commands is the same as before. The queue is the model's own (notes/assumptions/4.md). -/
def Obligations.QueueIsKept : Prop :=
  ∀ (c : Instr) (s t : State), exec c s = .next t → t.pending = s.pending

/-- No command is refused, and every command answers a next state in every state, except DMA_DESCRIPTOR_COMPLETE and DMA_FAULT, which fault (dramHole) exactly where the running descriptor of their channel touches a DRAM address beyond the DRAM fitted. -/
def Obligations.OnlyDmaBeyondDramStops : Prop :=
  (∀ (c : Instr) (s : State), (∃ t, exec c s = .next t) ∨ (exec c s = .fault .dramHole ∧ ((∃ n x, c = .dmaDescriptorComplete n x) ∨ ∃ n x, c = .dmaFault n x))) ∧
  (∀ (n : Fin 16) (ext : HostRead) (s : State) (x : DmaDesc), (s.dev.dmaCh n.val).cur = some x → s.dev.get (DMA_CH_STATUS.STATE n.val) ≠ 2 →
    s.dev.descFault x (s.dev.dmaCh n.val).pos = none → s.dev.inHole x (s.dev.dmaCh n.val).pos x.len = true →
    exec (.dmaDescriptorComplete n ext) s = .fault .dramHole) ∧
  (∀ (n : Fin 16) (ext : List Byte) (s : State) (x : DmaDesc) (f : Nat) (demand write : Bool), (s.dev.dmaCh n.val).cur = some x →
    s.dev.get (DMA_CH_STATUS.STATE n.val) ≠ 2 → s.dev.descFault x (s.dev.dmaCh n.val).pos = some (f, demand, write) →
    s.dev.inHole x (s.dev.dmaCh n.val).pos f = true → exec (.dmaFault n ext) s = .fault .dramHole)

/-- The backup domain is in range when it holds exactly nine tally counters of at most 0xFFFF each, a second count below 2^48 and a tick count below 2^15. From every state whose backup domain is in range, whatever command stands in front of the queue (or none), a step that answers a next state leaves it in range. -/
def Obligations.BackupDomainKeepsItsRange : Prop :=
  ∀ s t : State, s.backup.inRange → step s = .next t → t.backup.inRange

/-- State.reset's tally holds nine counters of at most 0xFFFF and its real-time clock is in range. -/
def Obligations.ResetStateBackupInRange : Prop :=
  State.reset.backup.inRange

/-- For every command but INSTALL_FIRMWARE, PACKET_FETCH, TASK_DISPATCH and SCHEDULED_PACKET_DUE (which run installations) and CLEAR_TALLY (whose end takes what an installation left), every fuse bit blown before is blown after; and for every one of them but BOOT_COMPLETE, which may advance the anti-rollback counter (R447), the fuses are unchanged. -/
def Obligations.FusesAreOnlyBlown : Prop :=
  ∀ (c : Instr) (s t : State), (∀ p, c ≠ .installFirmware p) → (∀ h x, c ≠ .packetFetch h x) → (∀ b x, c ≠ .taskDispatch b x) →
    c ≠ .scheduledPacketDue → (∀ p, c ≠ .clearTally p) → exec c s = .next t →
    s.fuses.onlyBlown t.fuses ∧ ((∀ a b x y z u v w k l, c ≠ .bootComplete a b x y z u v w k l) → t.fuses = s.fuses)

/-- An accepted GET_INFO of page 0 completes OK with SYS_ID, firmware version and class and the serial number; of page 1 with 512 axes, 8 segments, 2 trunks, 16 capture units, the drives mounted, the DRAM in GiB, the anti-rollback value and the first 4 bytes of the package's digest (zeros without a package); another page completes with BAD_PARAMETER. GET_MODE completes OK with SYS_MODE, SYS_MODE_CAUSE and SYS_MODE_TIME. READ_TALLY to an 8-byte aligned address that the host takes writes the 64-byte tally image there and completes OK with the last source (0xFF for none); to another address it completes BAD_PARAMETER, and when the host's write fails INTERNAL. -/
def Obligations.SystemQueriesAnswer : Prop :=
  (∀ s p p' d', Runs (opGetInfo s.fuses) p s.dev p' d' → par p' 22 1 = 0 →
    exec (.getInfo p) s = .next (s.onDev (fun _ => d'.complete (refOf p s.dev) stOK d'.now
      (leBytes 4 (d'.rd SYS_ID) ++ leBytes 2 (d'.get SEC_FW.VERSION) ++ leBytes 2 (d'.get SEC_FW.CLASS) ++ leBytes 8 s.fuses.serial)))) ∧
  (∀ s p p' d', Runs (opGetInfo s.fuses) p s.dev p' d' → par p' 22 1 = 1 →
    exec (.getInfo p) s = .next (s.onDev (fun _ => d'.complete (refOf p s.dev) stOK d'.now
      (leBytes 2 512 ++ leBytes 1 8 ++ leBytes 1 2 ++ leBytes 1 16 ++ leBytes 1 ((d'.drivesIn 3).length) ++ leBytes 2 d'.sys.dramGiB ++
        leBytes 4 s.fuses.arbValue ++ padTo 4 ((d'.sys.package.map (fun k => Config.sha384 k.bytes)).getD []))))) ∧
  (∀ s p p' d', Runs (opGetInfo s.fuses) p s.dev p' d' → 1 < par p' 22 1 →
    exec (.getInfo p) s = .next (s.onDev (fun _ => d'.complete (refOf p s.dev) stBAD_PARAMETER d'.now []))) ∧
  (∀ s p p' d', Runs opGetMode p s.dev p' d' →
    exec (.getMode p) s = .next (s.onDev (fun _ => d'.complete (refOf p s.dev) stOK d'.now
      (leBytes 4 (d'.rd SYS_MODE) ++ leBytes 4 (d'.rd SYS_MODE_CAUSE) ++ leBytes 8 (d'.rd64 SYS_MODE_TIME_LO))))) ∧
  (∀ s p p' d' bs, Runs (opReadTally s.backup) p s.dev p' d' → par p' 22 8 % 8 = 0 → p'.host = some bs →
    exec (.readTally p) s = .next (s.onDev (fun _ => (d'.emit (.hostWrite (par p' 22 8) (d'.outBytes p' (tallyImage s.backup)))).complete
      (refOf p s.dev) stOK d'.now (leBytes 2 ((s.backup.cause.map (·.source)).getD 0xFF))))) ∧
  (∀ s p p' d', Runs (opReadTally s.backup) p s.dev p' d' → par p' 22 8 % 8 ≠ 0 →
    exec (.readTally p) s = .next (s.onDev (fun _ => d'.complete (refOf p s.dev) stBAD_PARAMETER d'.now []))) ∧
  (∀ s p p' d' d1, Runs (opReadTally s.backup) p s.dev p' d' → par p' 22 8 % 8 = 0 → p'.host = none → d1 = d'.count32 HIF_DMA_ERR_CNT 1 →
    exec (.readTally p) s = .next (s.onDev (fun _ => d1.complete (refOf p s.dev) stINTERNAL d1.now [])))

/-- Of an accepted SET_MODE: with a transition under way, or in Configure with DRAM not ready, it completes BUSY; a target that is no mode to request, or Dormant without a dormant generation, completes BAD_PARAMETER. Otherwise, from Configure it enters Service (OK, cause 6, the packet's tag), or for Ready and Run completes CONSISTENCY naming a segment short of its rate, or else ACCEPTED in Join with the join's listen time starting now. To Configure it logs the release of the permit when the standby can take it, else enters Configure at once (OK). From Dormant it logs the wake and starts the lanes. From Ready to Run without the permit it asks for the permit at the next bell, or completes NOT_PERMIT_HOLDER when the partner holds it and the mirror is down. Every other change is logged and completes ACCEPTED with the request shown in SYS_MODE. The mode check refuses with WRONG_MODE in Sealed and in Configure toward Ready or Run while both ends carry the same PAIR_END, with SAFETY_LOCKED in Lockout, and with NOT_PERMIT_HOLDER a standby's request for another mode than Configure. -/
def Obligations.SetModeRequests : Prop :=
  (∀ s p p' d', Runs opSetMode p s.dev p' d' → [4, 6, 7, 10, 11].contains (par p' 22 1) = false ∨
      (par p' 22 1 = 10 ∧ d'.sys.package.bind (·.dormant) = none) →
    exec (.setMode p) s = .next (s.onDev (fun _ => d'.complete (refOf p s.dev) stBAD_PARAMETER d'.now []))) ∧
  (∀ s p p' d', Runs opSetMode p s.dev p' d' → [4, 6, 7, 10, 11].contains (par p' 22 1) = true → par p' 22 1 ≠ 10 ∨ d'.sys.package.bind (·.dormant) ≠ none → d'.on SYS_MODE.TRANSITION = true ∨
      (d'.mode = 4 ∧ par p' 22 1 ≠ 4 ∧ d'.on RST_STATUS.DRAM_READY = false) →
    exec (.setMode p) s = .next (s.onDev (fun _ => d'.complete (refOf p s.dev) stBUSY d'.now []))) ∧
  (∀ s p p' d', Runs opSetMode p s.dev p' d' → d'.mode = 4 → d'.on SYS_MODE.TRANSITION = false → d'.on RST_STATUS.DRAM_READY = true →
    (par p' 22 1 = 11 → exec (.setMode p) s = .next (s.onDev (fun _ =>
      (d'.enterMode 11 6 p.tag.toNat none false).complete (refOf p s.dev) stOK (d'.enterMode 11 6 p.tag.toNat none false).now []))) ∧
    (∀ n, par p' 22 1 = 6 ∨ par p' 22 1 = 7 → d'.rateShort = some n →
      exec (.setMode p) s = .next (s.onDev (fun _ => d'.complete (refOf p s.dev) stCONSISTENCY d'.now (ruleResult 1 (portSource n))))) ∧
    (∀ d1, par p' 22 1 = 6 ∨ par p' 22 1 = 7 → d'.rateShort = none →
      d1 = (d'.request (par p' 22 1) (refOf p s.dev)).enterMode 5 6 p.tag.toNat none true →
      exec (.setMode p) s = .next (s.onDev (fun _ =>
        ({ d1 with cyc := { d1.cyc with join := some ⟨d1.now, false, par p' 22 1, [], false⟩ } } : Dev).complete (refOf p s.dev) stACCEPTED d1.now [])))) ∧
  (∀ s p p' d', Runs opSetMode p s.dev p' d' → par p' 22 1 = 4 → d'.on SYS_MODE.TRANSITION = false →
    (d'.canRelease = true → exec (.setMode p) s = .next (s.onDev (fun _ =>
      ((d'.request 4 (refOf p s.dev)).logInput 0x01 68 (.permit 3 0) none).complete (refOf p s.dev) stACCEPTED d'.now []))) ∧
    (d'.canRelease = false → exec (.setMode p) s = .next (s.onDev (fun _ =>
      (d'.goConfigure 6 p.tag.toNat none).complete (refOf p s.dev) stOK (d'.goConfigure 6 p.tag.toNat none).now [])))) ∧
  (∀ s p p' d' d1, Runs opSetMode p s.dev p' d' → d'.mode = 10 → par p' 22 1 = 6 ∨ par p' 22 1 = 7 → d'.on SYS_MODE.TRANSITION = false →
    d1 = ((d'.request (par p' 22 1) (refOf p s.dev)).logInput 0x01 68 (.wake d'.now) none).startWake →
    exec (.setMode p) s = .next (s.onDev (fun _ => d1.complete (refOf p s.dev) stACCEPTED d1.now []))) ∧
  (∀ s p p' d', Runs opSetMode p s.dev p' d' → par p' 22 1 = 7 → d'.mode = 6 → d'.permit = false → d'.on SYS_MODE.TRANSITION = false →
    (d'.partnerHolds = true → d'.mirrorUp = false →
      exec (.setMode p) s = .next (s.onDev (fun _ => d'.complete (refOf p s.dev) stNOT_PERMIT_HOLDER d'.now []))) ∧
    (d'.partnerHolds = false ∨ d'.mirrorUp = true → ∀ d1, d1 = d'.request 7 (refOf p s.dev) →
      exec (.setMode p) s = .next (s.onDev (fun _ =>
        ({ d1 with mir := { d1.mir with runNext := true } } : Dev).complete (refOf p s.dev) stACCEPTED d'.now [])))) ∧
  (∀ s p p' d', Runs opSetMode p s.dev p' d' → d'.on SYS_MODE.TRANSITION = false →
    (d'.mode = 7 ∧ par p' 22 1 = 6) ∨ (d'.mode = 6 ∧ par p' 22 1 = 7 ∧ d'.permit = true) ∨
      ((d'.mode = 6 ∨ d'.mode = 7) ∧ par p' 22 1 = 10 ∧ d'.sys.package.bind (·.dormant) ≠ none) →
    exec (.setMode p) s = .next (s.onDev (fun _ =>
      ((d'.request (par p' 22 1) (refOf p s.dev)).logInput 0x01 68 (.mode (par p' 22 1)) none).complete (refOf p s.dev) stACCEPTED d'.now []))) ∧
  (∀ (d : Dev) (t : Nat) (b : List Byte), (d.mode = 3 → d.setModeFirst t = stWRONG_MODE) ∧ (d.mode = 9 → d.setModeFirst t = stSAFETY_LOCKED) ∧
    (d.mode ≠ 3 → d.mode ≠ 9 → d.standby = true → t ≠ 4 → d.setModeFirst t = stNOT_PERMIT_HOLDER) ∧
    (d.mode = 4 → d.standby = false → t = 6 ∨ t = 7 → d.mir.peer = some b → fieldAt b 5 1 = flag d.sys.pairEnd → d.setModeFirst t = stWRONG_MODE) ∧
    ((d.mode = 8 ∨ d.mode = 11) → t = 4 → d.setModeFirst t = 0))

/-- An accepted HEARTBEAT with a timeout of 0 or 10 to 60000 ms stores the timeout, restarts the heartbeat, ends a lapse (HOST_LOST cleared, HOST_RESTORED posted with the ms since the lapse) and completes OK with the old timeout; other timeouts complete BAD_PARAMETER. RESET_DEVICE with its key 0xA5 completes OK with the reset due 1 ms later (a reset already due keeps its time), with another key BAD_PARAMETER. SET_DUTY_MODE of a function below 8 logs the change (its completion waits for the log), else completes BAD_PARAMETER. RESET_BLOCK of an idle block with no commit waiting puts the block's registers to reset, clears its state, counts it and completes OK; of a busy block it completes BUSY, of no block BAD_PARAMETER. CLEAR_TALLY completes OK and clears the selected counters. An enabled wake event in Dormant is logged by the permit holder and starts the lanes; any other changes nothing. -/
def Obligations.SystemCommandsTakeEffect : Prop :=
  (∀ s p p' d', Runs opHeartbeat p s.dev p' d' →
    (0 < par p' 22 2 → par p' 22 2 < 10 ∨ 60000 < par p' 22 2 →
      exec (.heartbeat p) s = .next (s.onDev (fun _ => d'.complete (refOf p s.dev) stBAD_PARAMETER d'.now []))) ∧
    (∀ d1, par p' 22 2 = 0 ∨ (10 ≤ par p' 22 2 ∧ par p' 22 2 ≤ 60000) →
      d1 = ({ d' with hif := { d'.hif with hbLast := d'.now, lapse := none } } : Dev).set HIF_HB.TIMEOUT (par p' 22 2) →
      (d1.hasCond condHOST_LOST = false →
        exec (.heartbeat p) s = .next (s.onDev (fun _ => d1.complete (refOf p s.dev) stOK d'.now (leBytes 2 (d'.get HIF_HB.TIMEOUT))))) ∧
      (d1.hasCond condHOST_LOST = true → ∀ d2, d2 = ((d1.set HIF_STATUS.HOST_LOST 0).cond condHOST_LOST false).post 0 6
          (leBytes 4 (min ((d'.now - d'.hif.lapse.getD d'.now) / ns 1000000) (2 ^ 32 - 1))) →
        exec (.heartbeat p) s = .next (s.onDev (fun _ => d2.complete (refOf p s.dev) stOK d2.now (leBytes 2 (d'.get HIF_HB.TIMEOUT))))))) ∧
  (∀ s p p' d', Runs opResetDevice p s.dev p' d' →
    (par p' 22 1 = 0xA5 → exec (.resetDevice p) s = .next (s.onDev (fun _ => ({ d' with sys := { d'.sys with resetDue := some (d'.sys.resetDue.getD (d'.now + ns 1000000)) } } : Dev).complete (refOf p s.dev) stOK d'.now []))) ∧
    (par p' 22 1 ≠ 0xA5 → exec (.resetDevice p) s = .next (s.onDev (fun _ => d'.complete (refOf p s.dev) stBAD_PARAMETER d'.now [])))) ∧
  (∀ s p p' d', Runs opSetDuty p s.dev p' d' →
    (par p' 22 1 < 8 → par p' 23 1 < 2 →
      exec (.setDutyMode p) s = .next (s.onDev (fun _ => d'.logInput 0x01 68 (.duty (par p' 22 1) (par p' 23 1)) (some (refOf p s.dev))))) ∧
    (8 ≤ par p' 22 1 ∨ 2 ≤ par p' 23 1 → exec (.setDutyMode p) s = .next (s.onDev (fun _ => d'.complete (refOf p s.dev) stBAD_PARAMETER d'.now [])))) ∧
  (∀ s p p' d', Runs opResetBlock p s.dev p' d' →
    (∀ a n f, d'.resettable (par p' 22 2) = some (true, a, n, f) → d'.commitWaits (par p' 22 2) = false →
      exec (.resetBlock p) s = .next (s.onDev (fun _ => ((f (d'.resetWindow a (a + n))).count32 RST_BLOCK_CNT 1).complete (refOf p s.dev) stOK
        ((f (d'.resetWindow a (a + n))).count32 RST_BLOCK_CNT 1).now []))) ∧
    (∀ i a n f, d'.resettable (par p' 22 2) = some (i, a, n, f) → i = false ∨ d'.commitWaits (par p' 22 2) = true →
      exec (.resetBlock p) s = .next (s.onDev (fun _ => d'.complete (refOf p s.dev) stBUSY d'.now []))) ∧
    (d'.resettable (par p' 22 2) = none → exec (.resetBlock p) s = .next (s.onDev (fun _ => d'.complete (refOf p s.dev) stBAD_PARAMETER d'.now [])))) ∧
  (∀ s p p' d', Runs opClearTally p s.dev p' d' → d'.sec.burn = none → d'.sys.selfReset = false → d'.sys.resetDue.any (fun x => decide (x ≤ d'.now)) = false →
    ∃ t, exec (.clearTally p) s = .next t ∧ t.backup = s.backup.clearTally (par p' 22 2) ∧ t.fuses = s.fuses ∧ t.dev.hif.held = d'.hif.held ∧
      t.dev.axes = d'.axes ∧ t.dev.cyc = d'.cyc) ∧
  (∀ (src : Fin 4) s f, f = [SYS_WAKE_EN.TRIG, SYS_WAKE_EN.NODE_EVENT, SYS_WAKE_EN.CAN, SYS_WAKE_EN.PPS].getD src.val SYS_WAKE_EN.PPS →
    (s.dev.mode = 10 → s.dev.permit = true → s.dev.on f = true →
      exec (.wakeEvent src) s = .next (s.onDev (fun d => (d.logInput 0x01 68 (.wake d.now) none).startWake))) ∧
    (s.dev.mode ≠ 10 ∨ s.dev.permit = false ∨ s.dev.on f = false → exec (.wakeEvent src) s = .next s))

/-- A main supply loss (to Backup), a main power-on reset, a brown-out, RESET_N low, a watchdog expiry from Boot on, a security violation, a loss of lock of the running PLL_SYS or PLL_TIME, a PCIe hot reset with HOT_ACTION = 1 and a debug reset through an open port put every register but SYS_MODE to its reset value, disable every axis, count their source in the tally, record it with its detail, line time and mode, and leave fuses, boot flash and ledger. In Backup, before Boot for the watchdog and the debug port, with the PLL not running, the endpoint absent or the port closed they change nothing. -/
def Obligations.ResetSourcesResetThePart : Prop :=
  (∀ s : State, s.dev.mode ≠ 0 → ResetsBy .mainSupplyLoss s 2 0 0) ∧
  (∀ s : State, ResetsBy .mainPor s 1 0 1) ∧
  (∀ s : State, s.dev.mode ≠ 0 → ResetsBy .brownOut s 2 0 1) ∧
  (∀ s : State, s.dev.mode ≠ 0 → ResetsBy (.resetN true) s 3 0 1) ∧
  (∀ s : State, 2 ≤ s.dev.mode → ResetsBy .watchdogExpiry s 4 0 1) ∧
  (∀ (s : State) (code : Fin 5), s.dev.mode ≠ 0 → ResetsBy (.securityViolation code) s 5 (code.val + 1) 1) ∧
  (∀ (s : State) (i : Fin 9), i.val = 0 ∨ i.val = 3 → bitAt (s.dev.get CLK_PLL.RUNNING) i.val = true → ResetsBy (.pllUnlock i) s 4 1 1) ∧
  (∀ s : State, s.dev.ready = true → s.dev.on RST_CTRL.HOT_ACTION = true → ResetsBy .pcieHotReset s 7 0 1) ∧
  (∀ s : State, 2 ≤ s.dev.mode → s.fuses.debugLock = false ∨ s.dev.sec.scopes ≠ [] → ResetsBy .debugReset s 8 0 1) ∧
  (∀ (s : State) (low : Bool) (code : Fin 5), s.dev.mode = 0 → exec .mainSupplyLoss s = .next s ∧ exec .brownOut s = .next s ∧ exec (.resetN low) s = .next s ∧
    exec (.securityViolation code) s = .next s) ∧
  (∀ s : State, s.dev.mode < 2 → exec .watchdogExpiry s = .next s) ∧
  (∀ (s : State) (i : Fin 9), i.val = 0 ∨ i.val = 3 → bitAt (s.dev.get CLK_PLL.RUNNING) i.val = false → exec (.pllUnlock i) s = .next s) ∧
  (∀ s : State, s.dev.ready = false → exec .pcieHotReset s = .next s) ∧
  (∀ s : State, s.dev.mode < 2 ∨ (s.fuses.debugLock = true ∧ s.dev.sec.scopes = []) → exec .debugReset s = .next s)

/-- When a source asserts, its 16-bit counter rises by one up to 0xFFFF, every other counter stays and the last-cause record is replaced by the source with its detail, line time, validity and mode; a backup power-on reset clears the tally and the clock, sets counter 0 to 1, records source 0 and leaves Reset; and a brown-out while the release sequence runs (Reset or Boot) is counted and recorded in the same way and starts Reset again. -/
def Obligations.TallyCountsAndClears : Prop :=
  (∀ (s : State) (src detail m k : Nat), k < s.backup.counters.length →
    (s.assertReset src detail m).backup.counters.getD k 0 = (if k = src then min (s.backup.counters.getD k 0 + 1) 0xFFFF else s.backup.counters.getD k 0) ∧
    (s.assertReset src detail m).backup.cause = some ⟨src, detail, s.dev.now, s.dev.on LTM_STATUS.VALID, false, s.dev.mode⟩) ∧
  (∀ s : State, ∃ t, exec .backupPor s = .next t ∧ t.backup.counters = [1, 0, 0, 0, 0, 0, 0, 0, 0] ∧ t.backup.rtcValid = false ∧
    t.backup.rtcSec = 0 ∧ t.backup.rtcSub = 0 ∧ t.backup.cause.map (·.source) = some 0 ∧ t.dev.mode = 1) ∧
  (∀ s : State, s.dev.mode = 1 ∨ s.dev.mode = 2 → ResetsBy .brownOut s 2 0 1)

/-- Valid main supplies take Backup to Reset and change nothing else. With no reset source asserted, the release sequence takes Reset to Boot, with the straps taken, line time from a valid real-time clock (else 0), the fuses kept, and all three safety channels active when all pass; otherwise it changes nothing. A boot after a security violation enters Sealed with reason 10, after posting the cause and the violation's code; by the recovery strap with reason 7; with no image that verifies with the last image's code (8 without an image). An unprovisioned part ends in Sealed. A provisioned part whose image verifies ends in Configure, or in Lockout when a lockout cause has arisen (never when output test, copies and seal give none), and only an image that advances the anti-rollback value changes the fuses. DRAM training from Configure on with at least 4 GiB sets DRAM_READY and builds firmware's contexts, and a package whose partition does not fit is dropped; with less it only records the DRAM; below Configure or when ready already it changes nothing. RESET_N high ends its assertion. A boot outside Boot changes nothing. -/
def Obligations.ReleaseAndBootRun : Prop :=
  (∀ s : State, (s.dev.mode = 0 → exec .mainSuppliesValid s = .next (s.onDev (Dev.set SYS_MODE.MODE 1))) ∧
    (s.dev.mode ≠ 0 → exec .mainSuppliesValid s = .next s)) ∧
  (∀ (s : State) (straps : BitVec 3) (vmon : BitVec 17) (levels : BitVec 8) (refs : BitVec 4) (passed : BitVec 3) (sec : BitVec 48) (sub : BitVec 15),
    (s.dev.mode = 1 → s.dev.sys.asserted = [] →
      ∃ t, exec (.resetRelease straps vmon levels refs passed sec sub) s = .next t ∧ t.dev.mode = 2 ∧ t.dev.sys.bootSel = straps.toNat % 4 ∧
        t.dev.sys.pairEnd = bitAt straps.toNat 2 ∧ t.fuses = s.fuses ∧ t.backup.counters = s.backup.counters ∧
        t.dev.ltm.now = (if s.backup.rtcValid && bitAt refs.toNat 1 then rtcToLine sec.toNat sub.toNat else 0) ∧
        (passed = 7 → t.dev.get SAF_STATUS.CH_ACTIVE = 7)) ∧
    (s.dev.mode ≠ 1 ∨ s.dev.sys.asserted ≠ [] → exec (.resetRelease straps vmon levels refs passed sec sub) s = .next s)) ∧
  (∀ (s : State) (aOk bOk : Bool) (bad : Option Nat) (torn : BitVec 32) (outBad : BitVec 8) (copyBad : BitVec 3) (r1 r2 : BitVec 16) (tasks : List FwTask) (classes : List (Fin 4)), s.dev.mode ≠ 2 → exec (.bootComplete aOk bOk bad torn outBad copyBad r1 r2 tasks classes) s = .next s) ∧
  (∀ (s : State) (aOk bOk : Bool) (bad : Option Nat) (torn : BitVec 32) (outBad : BitVec 8) (copyBad : BitVec 3) (r1 r2 : BitVec 16) (tasks : List FwTask) (classes : List (Fin 4)) d1, s.dev.mode = 2 →
    d1 = (s.dev.set HIF_STATUS.READY 1).post 0x0010 0x0012 ((causeBytes s.backup.cause).take 13) →
    ((s.backup.cause.map (·.source)).getD 0xFF = 5 → exec (.bootComplete aOk bOk bad torn outBad copyBad r1 r2 tasks classes) s = .next (s.onDev (fun _ =>
      (d1.post 0x0F00 0x0F0A (leBytes 1 ((s.backup.cause.map (·.detail)).getD 0))).seal 10 0x0F))) ∧
    ((s.backup.cause.map (·.source)).getD 0xFF ≠ 5 → s.dev.sys.bootSel = 0 →
      exec (.bootComplete aOk bOk bad torn outBad copyBad r1 r2 tasks classes) s = .next (s.onDev (fun _ => d1.seal 7 4))) ∧
    (∀ codes, (s.backup.cause.map (·.source)).getD 0xFF ≠ 5 → s.dev.sys.bootSel ≠ 0 → tryBoot s.fuses d1.bootOrder [] = (none, codes) →
      exec (.bootComplete aOk bOk bad torn outBad copyBad r1 r2 tasks classes) s = .next (s.onDev (fun _ => d1.seal ((codes.getLast?).getD 8) 4)))) ∧
  (∀ (s : State) (aOk bOk : Bool) (bad : Option Nat) (torn : BitVec 32) (outBad : BitVec 8) (copyBad : BitVec 3) (r1 r2 : BitVec 16) (tasks : List FwTask) (classes : List (Fin 4)) slot img codes, s.dev.mode = 2 →
    (s.backup.cause.map (·.source)).getD 0xFF ≠ 5 → s.dev.sys.bootSel ≠ 0 → tryBoot s.fuses s.dev.bootOrder [] = (some (slot, img), codes) →
    (s.fuses.provisioned = false → ∃ t, exec (.bootComplete aOk bOk bad torn outBad copyBad r1 r2 tasks classes) s = .next t ∧ t.dev.mode = 3 ∧ t.fuses = s.fuses ∧ t.backup = s.backup) ∧
    (s.fuses.provisioned = true → ∃ t, exec (.bootComplete aOk bOk bad torn outBad copyBad r1 r2 tasks classes) s = .next t ∧ (t.dev.mode = 4 ∨ t.dev.mode = 9) ∧ t.backup = s.backup ∧
      (s.dev.saf.causes = [] → outBad = 0 → copyBad = 0 → r1 ≠ r2 → t.dev.mode = 4) ∧
      (bitAt (fieldAt img 33 1) 0 = false ∨ fieldAt img 16 8 ≤ s.fuses.arbValue → t.fuses = s.fuses) ∧
      (bitAt (fieldAt img 33 1) 0 = true → s.fuses.arbValue < fieldAt img 16 8 →
        t.fuses = { s.fuses with arb := Nat.lor s.fuses.arb (2 ^ min (fieldAt img 16 8) 64 - 1) }))) ∧
  (∀ (s : State) (gib : Fin 33) (ctxs : List MmuSetup), s.dev.mode < 4 ∨ s.dev.on RST_STATUS.DRAM_READY = true → exec (.dramTrained gib ctxs) s = .next s) ∧
  (∀ (s : State) (gib : Fin 33) (ctxs : List MmuSetup) d1, 4 ≤ s.dev.mode → s.dev.on RST_STATUS.DRAM_READY = false →
    d1 = { s.dev with sys := { s.dev.sys with dramGiB := gib.val } } →
    (gib.val < 4 → exec (.dramTrained gib ctxs) s = .next (s.onDev (fun _ => d1))) ∧
    (∀ d2, 4 ≤ gib.val → d2 = (d1.set RST_STATUS.DRAM_READY 1).createContexts ctxs →
      (d2.sys.package = none → exec (.dramTrained gib ctxs) s = .next (s.onDev (fun _ => d2))) ∧
      (∀ k, d2.sys.package = some k → d2.partitionOk k = true → exec (.dramTrained gib ctxs) s = .next (s.onDev (fun _ => d2))) ∧
      (∀ k, d2.sys.package = some k → d2.partitionOk k = false → exec (.dramTrained gib ctxs) s = .next (s.onDev (fun _ =>
        Dev.showPlanned { d2 with sys := { d2.sys with package := none }, cyc := { d2.cyc with working := none } }))))) ∧
  (∀ s : State, s.dev.mode ≠ 0 → exec (.resetN false) s = .next (s.onDev (fun d => { d with sys := { d.sys with asserted := [] } })))

/-- With a running timeout a lapse of the heartbeat counts as a lapse at its instant; a link loss clears speed and width and counts as a lapse at once. A lapse with none pending is recorded with its instant, sets HOST_LOST and posts its cause; under POLICY 0 it logs nothing, under POLICY 1 the holder logs a stop of the groups; a further one changes nothing. Without a timeout, an endpoint or, for the link, before Sealed nothing happens. A Function Level Reset of a present endpoint, a hot reset with HOT_ACTION = 0 and PERST_N low put every host-interface register but HIF_STATUS to its reset value, drop held packets, kept replies and sessions and open a new epoch; with POLICY 0 they leave axes, engine, cycle, ports, safety, fuses and backup domain as they are. PERST_N high releases the pin. A trained link shows its speed and width while PERST_N is high. -/
def Obligations.HostEndpointEvents : Prop :=
  (∀ s : State, s.dev.get HIF_HB.TIMEOUT ≠ 0 →
    exec .hostHeartbeatLapse s = .next (s.onDev (fun d => (d.reach (d.hif.hbLast + ns (d.get HIF_HB.TIMEOUT * 1000000))).hostLapse 0))) ∧
  (∀ s : State, s.dev.get HIF_HB.TIMEOUT = 0 → exec .hostHeartbeatLapse s = .next s) ∧
  (∀ s : State, s.dev.mode < 3 → exec .pcieLinkDown s = .next s) ∧
  (∀ s : State, s.dev.ready = false → exec .functionLevelReset s = .next s ∧ exec (.perstN true) s = .next (s.onDev (fun d =>
    Dev.linkDownHost { d with hif := { d.hif with perst := true } }))) ∧
  (∀ (s : State) (speed width : Fin 9), s.dev.mode < 3 ∨ s.dev.hif.perst = true → exec (.pcieLinkTrained speed width) s = .next s) ∧
  (∀ (d : Dev) (cause : Nat), d.hasCond condHOST_LOST = true → d.hostLapse cause = d) ∧
  (∀ (d d1 : Dev) (cause : Nat), d.hasCond condHOST_LOST = false → d1 = ((Dev.set HIF_STATUS.HOST_LOST 1 { d with hif := { d.hif with lapse := some d.now } }).cond condHOST_LOST true).post 0 5 (leBytes 1 cause) →
    d1.get HIF_HOSTLOSS.POLICY = 1 → d1.permit = true → d1.sync = true ∨ d1.mode = 11 →
    d.hostLapse cause = d1.logInput 0x01 68 (.stopGroup (d1.get HIF_HOSTLOSS.GROUPS) false 0 0xFFFF) none) ∧
  (∀ s : State, 3 ≤ s.dev.mode → exec .pcieLinkDown s = .next (s.onDev (fun d => ((d.set HIF_STATUS.SPEED 0).set HIF_STATUS.WIDTH 0).hostLapse 1))) ∧
  (∀ (d : Dev) (cause : Nat), d.hasCond condHOST_LOST = false →
    (d.hostLapse cause).hif.lapse = some d.now ∧ (d.hostLapse cause).on HIF_STATUS.HOST_LOST = true ∧ (d.hostLapse cause).hasCond condHOST_LOST = true ∧
      (d.get HIF_HOSTLOSS.POLICY ≠ 1 → (d.hostLapse cause).cyc = d.cyc)) ∧
  (∀ (s : State) (c : Instr), c = .functionLevelReset ∨ c = .perstN true ∨ (c = .pcieHotReset ∧ s.dev.on RST_CTRL.HOT_ACTION = false) →
    s.dev.ready = true →
    ∃ t, exec c s = .next t ∧ t.dev.hif.held = [] ∧ t.dev.hif.kept = [] ∧ t.dev.hif.epoch = s.dev.hif.epoch + 1 ∧ t.dev.sec.sessions = [] ∧
      (∀ a, 0x10000 ≤ a → a < 0x20000 → a ≠ HIF_STATUS → t.dev.rd a = (resetOf a).toNat) ∧
      (s.dev.get HIF_HOSTLOSS.POLICY = 0 → t.dev.axes = s.dev.axes ∧ t.dev.eng = s.dev.eng ∧ t.dev.cyc = s.dev.cyc ∧ t.dev.ports = s.dev.ports ∧
        t.dev.saf = s.dev.saf ∧ t.fuses = s.fuses ∧ t.backup = s.backup)) ∧
  (∀ s : State, exec (.perstN false) s = .next (s.onDev (fun d => { d with hif := { d.hif with perst := false } }))) ∧
  (∀ (s : State) (speed width : Fin 9), 3 ≤ s.dev.mode → s.dev.hif.perst = false →
    exec (.pcieLinkTrained speed width) s = .next (s.onDev (fun d => (d.set HIF_STATUS.SPEED speed.val).set HIF_STATUS.WIDTH width.val)))

/-- From Boot on: a rail that leaves or re-enters its range changes its RST_VMON bit and posts SUPPLY_WARN (an I/O bank also its POWERED bit, a safety rail without an event, failing its channel); VBAT below 2.4 V clears VBAT_OK and posts VBAT_LOW, and VBAT restored sets it; a locked PLL other than PLL_SYS and PLL_TIME that loses lock is counted and posted, a running PLL that locks shows locked; a reference clock that is lost or restored changes its CLK_REFMON bit and posts REFCLK_LOST; an X32 fault makes the real-time clock invalid and posts RTC_INVALID; a die temperature is taken; at its crossing of the warning threshold, and again 5 °C below it, SMB_ALERT_N and the warning's event follow, and at those of the high threshold its event. A change that has been seen already, or any before Boot, changes nothing. -/
def Obligations.SupplyAndReferenceEvents : Prop :=
  (∀ (s : State) (b : Fin 16) (ok high : Bool) (d1 : Dev), 2 ≤ s.dev.mode →
    d1 = s.dev.wr RST_VMON (withBits (s.dev.rd RST_VMON) b.val b.val (flag ok)) →
    (2 ≤ b.val → b.val ≤ 4 → exec (.supplyWarn b ok high) s = .next (s.onDev (fun _ => d1.when (!ok) (Dev.failChannel (b.val - 2) 1)))) ∧
    (5 ≤ b.val → b.val ≤ 7 → bitAt (s.dev.rd RST_VMON) b.val ≠ ok →
      exec (.supplyWarn b ok high) s = .next (s.onDev (fun _ => d1.post 0x0010 0x0016 (leBytes 1 b.val ++ leBytes 1 (flag ok))))) ∧
    (9 ≤ b.val → bitAt (s.dev.rd RST_VMON) b.val ≠ ok →
      exec (.supplyWarn b ok high) s = .next (s.onDev (fun _ =>
        ((d1.post 0x0010 0x0016 (leBytes 1 b.val ++ leBytes 1 (flag ok))).set (PIN_BANK.POWERED (b.val - 8)) (flag ok)).when ok
          (Dev.set (PIN_BANK.LEVEL (b.val - 8)) (flag high)))))) ∧
  (∀ (s : State) (mv : BitVec 16), 2 ≤ s.dev.mode → s.dev.on RST_VMON.VBAT_OK = true → mv.toNat < 2400 →
    exec (.vbatLow mv) s = .next (s.onDev (fun d => (d.set RST_VMON.VBAT_OK 0).post 0x0010 0x0013 (leBytes 2 mv.toNat)))) ∧
  (∀ (s : State) (mv : BitVec 16), 2 ≤ s.dev.mode → 2400 ≤ mv.toNat → exec (.vbatRestored mv) s = .next (s.onDev (Dev.set RST_VMON.VBAT_OK 1))) ∧
  (∀ (s : State) (i : Fin 9), i.val ≠ 0 → i.val ≠ 3 → bitAt (s.dev.get CLK_PLL.LOCKED) i.val = true →
    exec (.pllUnlock i) s = .next (s.onDev (fun d =>
      ((d.set CLK_PLL.LOCKED (withBits (d.get CLK_PLL.LOCKED) i.val i.val 0)).count32 CLK_UNLOCK_CNT 1).post 0x0010 0x0015 (leBytes 1 i.val)))) ∧
  (∀ (s : State) (i : Fin 9), bitAt (s.dev.get CLK_PLL.RUNNING) i.val = true →
    exec (.pllLocked i) s = .next (s.onDev (fun d => d.set CLK_PLL.LOCKED (withBits (d.get CLK_PLL.LOCKED) i.val i.val 1)))) ∧
  (∀ (s : State) (pex ok : Bool) (b : Nat), b = (if pex then 3 else 2) → 2 ≤ s.dev.mode → bitAt (s.dev.rd CLK_REFMON) b ≠ ok →
    exec (.refclkLost pex ok) s = .next (s.onDev (fun d =>
      (d.wr CLK_REFMON (withBits (d.rd CLK_REFMON) b b (flag ok))).post 0x0010 0x0017 (leBytes 1 b ++ leBytes 1 (flag (!ok)))))) ∧
  (∀ s : State, 2 ≤ s.dev.mode → s.dev.on CLK_REFMON.X32_OK = true →
    ∃ t, exec .rtcInvalid s = .next t ∧ t.backup.rtcValid = false ∧ t.backup.counters = s.backup.counters ∧ t.dev.on RST_RTC_SUB.VALID = false ∧
      t.dev.on CLK_REFMON.X32_OK = false) ∧
  (∀ (s : State) (t16 : BitVec 16) (x : Int) (d1 : Dev) (warn high : Int) (d2 : Dev), 2 ≤ s.dev.mode → x = signedOf 16 t16.toNat →
    d1 = Dev.calTemperature { s.dev with sys := { s.dev.sys with temp := x } } → warn = d1.tempLimits.1 → high = d1.tempLimits.2 →
    d2 = (if d1.sys.tempWarn = false ∧ warn < x then
        (({ d1 with sys := { d1.sys with tempWarn := true } } : Dev).emit (.pin "SMB_ALERT_N" 0 false)).post 0x0010 0x0018 (leBytes 2 (codeOf 16 x) ++ leBytes 1 0)
      else if d1.sys.tempWarn = true ∧ x < warn - 80 then
        (({ d1 with sys := { d1.sys with tempWarn := false } } : Dev).emit (.pin "SMB_ALERT_N" 0 true)).post 0x0010 0x0018 (leBytes 2 (codeOf 16 x) ++ leBytes 1 1)
      else d1) →
    (d2.sys.tempHigh = false → high < x → exec (.temperatureSample t16) s = .next (s.onDev (fun _ => ({ d2 with sys := { d2.sys with tempHigh := true } } : Dev).post 0x0010 0x0019
      (leBytes 2 (codeOf 16 x) ++ leBytes 1 0)))) ∧
    (d2.sys.tempHigh = true → x < high - 80 → exec (.temperatureSample t16) s = .next (s.onDev (fun _ => ({ d2 with sys := { d2.sys with tempHigh := false } } : Dev).post 0x0010 0x0019
      (leBytes 2 (codeOf 16 x) ++ leBytes 1 1)))) ∧
    ((d2.sys.tempHigh = false ∧ x ≤ high) ∨ (d2.sys.tempHigh = true ∧ high - 80 ≤ x) → exec (.temperatureSample t16) s = .next (s.onDev (fun _ => d2)))) ∧
  (∀ (s : State) (b : Fin 16) (ok high : Bool), s.dev.mode < 2 ∨ b.val < 2 ∨ b.val = 8 ∨ (5 ≤ b.val ∧ bitAt (s.dev.rd RST_VMON) b.val = ok) → exec (.supplyWarn b ok high) s = .next s) ∧
  (∀ (s : State) (mv : BitVec 16), s.dev.mode < 2 ∨ s.dev.on RST_VMON.VBAT_OK = false ∨ 2400 ≤ mv.toNat → exec (.vbatLow mv) s = .next s) ∧
  (∀ (s : State) (mv : BitVec 16), s.dev.mode < 2 ∨ mv.toNat < 2400 → exec (.vbatRestored mv) s = .next s) ∧
  (∀ (s : State) (i : Fin 9), i.val ≠ 0 → i.val ≠ 3 → bitAt (s.dev.get CLK_PLL.LOCKED) i.val = false → exec (.pllUnlock i) s = .next s) ∧
  (∀ (s : State) (i : Fin 9), bitAt (s.dev.get CLK_PLL.RUNNING) i.val = false → exec (.pllLocked i) s = .next s) ∧
  (∀ (s : State) (pex ok : Bool), s.dev.mode < 2 ∨ bitAt (s.dev.rd CLK_REFMON) (if pex then 3 else 2) = ok → exec (.refclkLost pex ok) s = .next s) ∧
  (∀ s : State, s.dev.mode < 2 ∨ s.dev.on CLK_REFMON.X32_OK = false → exec .rtcInvalid s = .next s) ∧
  (∀ (s : State) (t16 : BitVec 16), s.dev.mode < 2 → exec (.temperatureSample t16) s = .next s)

/-- A write of PIN_MFP_n outside Backup, Reset and Boot that changes FUNC stores FUNC, OUT and PULL, sets PARKED and shows the pin pulled up; one that leaves FUNC stores the three fields, and drives an unparked pin of FUNC 2 to OUT. The end of a park clears PARKED, counts it and drives the level of the pin's function; that of a pin that is not parked changes nothing. -/
def Obligations.PinFunctionsPark : Prop :=
  (∀ (s : State) (n : Fin 24) (v : Word) (d1 : Dev), 3 ≤ s.dev.mode →
    d1 = Dev.wr PIN_MFP_OUT (withBits ((((s.dev.set (PIN_MFP.FUNC n.val) (bitsOf v.toNat 3 0)).set (PIN_MFP.OUT n.val) (bitsOf v.toNat 5 5)).set
      (PIN_MFP.PULL n.val) (bitsOf v.toNat 7 7)).rd PIN_MFP_OUT) n.val n.val (bitsOf v.toNat 5 5))
      (((s.dev.set (PIN_MFP.FUNC n.val) (bitsOf v.toNat 3 0)).set (PIN_MFP.OUT n.val) (bitsOf v.toNat 5 5)).set (PIN_MFP.PULL n.val) (bitsOf v.toNat 7 7)) →
    (s.dev.get (PIN_MFP.FUNC n.val) ≠ bitsOf v.toNat 3 0 →
      exec (.funcWrite n v) s = .next (s.onDev (fun _ => (d1.set (PIN_MFP.PARKED n.val) 1).showMfp n.val true))) ∧
    (s.dev.get (PIN_MFP.FUNC n.val) = bitsOf v.toNat 3 0 → bitsOf v.toNat 3 0 ≠ 2 ∨ d1.on (PIN_MFP.PARKED n.val) = true →
      exec (.funcWrite n v) s = .next (s.onDev (fun _ => d1))) ∧
    (s.dev.get (PIN_MFP.FUNC n.val) = bitsOf v.toNat 3 0 → bitsOf v.toNat 3 0 = 2 → d1.on (PIN_MFP.PARKED n.val) = false →
      exec (.funcWrite n v) s = .next (s.onDev (fun _ => d1.showMfp n.val (bitAt v.toNat 5))))) ∧
  (∀ (s : State) (n : Fin 24), s.dev.on (PIN_MFP.PARKED n.val) = true →
    exec (.parkEnd n) s = .next (s.onDev (fun d => ((d.set (PIN_MFP.PARKED n.val) 0).count32 PIN_PARK_CNT 1).showMfp n.val
      (((d.set (PIN_MFP.PARKED n.val) 0).count32 PIN_PARK_CNT 1).mfpLevel n.val)))) ∧
  (∀ (s : State) (n : Fin 24) (v : Word), s.dev.mode < 3 → exec (.funcWrite n v) s = .next s) ∧
  (∀ (s : State) (n : Fin 24), s.dev.on (PIN_MFP.PARKED n.val) = false → exec (.parkEnd n) s = .next s)

/-- A link control message that the controller sends has 24 bytes, its kind in byte 0, and in bytes 22 and 23 the CRC-16 (the link control CRC of the frames) over bytes 0 to 21. Whatever kind of message comes on a channel, a message whose bytes 22 and 23 are not that CRC over its bytes 0 to 21 changes nothing but the CRC counter of its channel, which goes up by one and holds at its last value. -/
def Obligations.LinkControlMessagesAreChecked : Prop :=
  (∀ (d : Dev) (n : Fin 10) (c : Fin 2) (kind ack : Nat) (tail : List Byte), kind < 256 → ∃ m : List Byte,
    d.sendControl n.val c.val kind ack tail = d.emit (.control n.val c.val kind m) ∧ m.length = 24 ∧ fieldAt m 0 1 = kind ∧
    fieldAt m 22 2 = crc16 (m.take 22) % 65536) ∧
  (∀ (s : State) (n : Fin 10) (c : Fin 2) (m : List Byte) (i : Instr), m.length = 24 → fieldAt m 22 2 ≠ crc16 (m.take 22) →
    (∃ turn, i = .delayRequest n c m turn) ∨ (∃ rtt, i = .delayResponse n c m rtt) ∨ i = .capability n c m ∨ i = .rateOrder n c m ∨ (∃ o, i = .hopReport n c m o) →
    exec i s = .next (s.onDev (fun d => d.wr (if c.val = 0 then NLS_CRC_ERR_A n.val else NLS_CRC_ERR_B n.val)
      (min (2 ^ 32 - 1) (d.rd (if c.val = 0 then NLS_CRC_ERR_A n.val else NLS_CRC_ERR_B n.val) + 1)))))

/-- Enabling a channel takes its hop from DISABLED to DOWN; disabling it takes it from any state to DISABLED. A signal takes DOWN to DETECT unless the hop is barred or waits for its retry; block lock takes DETECT to NEGOTIATE and sends the first capability; loss of block lock takes UP to DOWN at 1.25 Gbit/s; a DETECT timeout takes DETECT to DOWN with the retry wait; the third NEGOTIATE timeout takes NEGOTIATE to DOWN with the retry wait and counts the failure, an earlier one counts the attempt; a MEASURE timeout with fewer than 16 exchanges goes DOWN with the retry wait, one with 16 or more goes UP with the delay marked stale; a retrain expiry goes DOWN with the transmitter at the ordered rate; a fallback expiry goes DOWN at 1.25 Gbit/s. In every other state of the hop each of these events but the two of a channel's enable leaves the machine as it was. -/
def Obligations.HopStatesFollowTheTable : Prop :=
  (∀ (s : State) (n : Fin 10) (c : Fin 2), s.dev.link n.val c.val = hsDISABLED →
    ∃ t, exec (.channelEnable n c) s = .next t ∧ t.dev.link n.val c.val = hsDOWN) ∧
  (∀ (s : State) (n : Fin 10) (c : Fin 2), s.dev.link n.val c.val ≠ hsDISABLED →
    ∃ t, exec (.channelEnable n c) s = .next t ∧ t.dev.link n.val c.val = s.dev.link n.val c.val) ∧
  (∀ (s : State) (n : Fin 10) (c : Fin 2), ∃ t, exec (.channelDisable n c) s = .next t ∧ t.dev.link n.val c.val = hsDISABLED) ∧
  (∀ (s : State) (n : Fin 10) (c : Fin 2), s.dev.link n.val c.val = hsDOWN → ((s.dev.port n.val).ch c.val).barred = false →
    ((s.dev.port n.val).ch c.val).waiting = false → exec (.signalDetected n c) s = .next (s.onDev (Dev.set (linkFld n.val c.val) hsDETECT))) ∧
  (∀ (s : State) (n : Fin 10) (c : Fin 2), s.dev.link n.val c.val ≠ hsDOWN ∨ ((s.dev.port n.val).ch c.val).barred = true ∨
    ((s.dev.port n.val).ch c.val).waiting = true → exec (.signalDetected n c) s = .next s) ∧
  (∀ (s : State) (n : Fin 10) (c : Fin 2), s.dev.link n.val c.val = hsDETECT →
    ∃ t, exec (.blockLockGained n c) s = .next t ∧ t.dev.link n.val c.val = hsNEGOTIATE ∧ t.dev.out.length = s.dev.out.length + 1) ∧
  (∀ (s : State) (n : Fin 10) (c : Fin 2), s.dev.link n.val c.val = hsUP →
    ∃ t, exec (.blockLockLost n c) s = .next t ∧ t.dev.link n.val c.val = hsDOWN ∧ ((t.dev.port n.val).ch c.val).rate = 0) ∧
  (∀ (s : State) (n : Fin 10) (c : Fin 2), s.dev.link n.val c.val = hsDETECT →
    ∃ t, exec (.detectTimeout n c) s = .next t ∧ t.dev.link n.val c.val = hsDOWN ∧ ((t.dev.port n.val).ch c.val).waiting = true) ∧
  (∀ (s : State) (n : Fin 10) (c : Fin 2), s.dev.link n.val c.val = hsNEGOTIATE →
    (((s.dev.port n.val).ch c.val).attempts < 3 → exec (.negotiateTimeout n c) s =
      .next (s.onDev (Dev.mapCh n.val c.val (fun x => { x with attempts := x.attempts + 1 })))) ∧
    (3 ≤ ((s.dev.port n.val).ch c.val).attempts → exec (.negotiateTimeout n c) s =
      .next (s.onDev (fun d => (d.linkDown n.val c.val true false).negFail n.val c.val)))) ∧
  (∀ (s : State) (n : Fin 10) (c : Fin 2), s.dev.link n.val c.val = hsMEASURE →
    (((s.dev.port n.val).ch c.val).exchanges < 16 → ∃ t, exec (.measureTimeout n c) s = .next t ∧ t.dev.link n.val c.val = hsDOWN ∧
      ((t.dev.port n.val).ch c.val).waiting = true) ∧
    (16 ≤ ((s.dev.port n.val).ch c.val).exchanges → exec (.measureTimeout n c) s = .next (s.onDev (Dev.enterUp n.val c.val true)))) ∧
  (∀ (s : State) (n : Fin 10) (c : Fin 2), s.dev.link n.val c.val = hsRETRAIN →
    ∃ t, exec (.retrainExpiry n c) s = .next t ∧ t.dev.link n.val c.val = hsDOWN ∧
      ((t.dev.port n.val).ch c.val).rate = ((s.dev.port n.val).ch c.val).ordered.getD 0) ∧
  (∀ (s : State) (n : Fin 10) (c : Fin 2), ((s.dev.port n.val).ch c.val).ordered ≠ none → s.dev.link n.val c.val ≠ hsUP → s.dev.link n.val c.val ≠ hsDISABLED →
    ∃ t, exec (.rateFallbackExpiry n c) s = .next t ∧ t.dev.link n.val c.val = hsDOWN ∧ ((t.dev.port n.val).ch c.val).rate = 0) ∧
  (∀ (s : State) (n : Fin 10) (c : Fin 2), (s.dev.link n.val c.val ≠ hsDETECT → exec (.blockLockGained n c) s = .next s ∧ exec (.detectTimeout n c) s = .next s) ∧
    (s.dev.link n.val c.val ≠ hsUP → exec (.blockLockLost n c) s = .next s) ∧
    (s.dev.link n.val c.val ≠ hsNEGOTIATE → exec (.negotiateTimeout n c) s = .next s) ∧
    (s.dev.link n.val c.val ≠ hsMEASURE → exec (.measureTimeout n c) s = .next s) ∧
    (s.dev.link n.val c.val ≠ hsRETRAIN → exec (.retrainExpiry n c) s = .next s) ∧
    (s.dev.link n.val c.val = hsUP ∨ s.dev.link n.val c.val = hsDISABLED → exec (.rateFallbackExpiry n c) s = .next s))

/-- In NEGOTIATE, a compatible acknowledged capability takes the hop to MEASURE with the common mask; an incompatible one (major not 2, minor 0 or no common rate) takes it to DOWN, from which only a new bring-up lets it out. In MEASURE or UP a delay request is answered with its sequence number and the turnaround; the end that only answers counts the exchange in MEASURE. In MEASURE, at the end that sends the requests, a delay response before the 256th adds its exchange and asks for the next, and the 256th enters UP. From DETECT to UP a rate order takes the hop to RETRAIN with the ordered rate; in DISABLED, DOWN and RETRAIN it changes nothing. The end of the retry wait lets the hop try again. -/
def Obligations.LinkControlMessagesAct : Prop :=
  (∀ (s : State) (n : Fin 10) (c : Fin 2) (m : List Byte), controlOk m = true → s.dev.link n.val c.val = hsNEGOTIATE → fieldAt m 0 1 = 1 →
    fieldAt m 2 1 = 2 → 1 ≤ fieldAt m 3 1 → Nat.land (fieldAt m 4 1) (s.dev.portMask n.val) ≠ 0 → fieldAt m 1 1 % 2 = 1 →
    ∃ t, exec (.capability n c m) s = .next t ∧ t.dev.link n.val c.val = hsMEASURE ∧
      ((t.dev.port n.val).ch c.val).mask = Nat.land (fieldAt m 4 1) (s.dev.portMask n.val)) ∧
  (∀ (s : State) (n : Fin 10) (c : Fin 2) (m : List Byte), controlOk m = true → s.dev.link n.val c.val = hsNEGOTIATE → fieldAt m 0 1 = 1 →
    fieldAt m 2 1 ≠ 2 ∨ fieldAt m 3 1 = 0 ∨ Nat.land (fieldAt m 4 1) (s.dev.portMask n.val) = 0 →
    ∃ t, exec (.capability n c m) s = .next t ∧ t.dev.link n.val c.val = hsDOWN ∧ ((t.dev.port n.val).ch c.val).barred = true) ∧
  (∀ (s : State) (n : Fin 10) (c : Fin 2) (m : List Byte) (turn : BitVec 48), controlOk m = true → fieldAt m 0 1 = 3 →
    s.dev.link n.val c.val = hsUP ∨ (s.dev.link n.val c.val = hsMEASURE ∧ s.dev.upstream n.val = true) →
    exec (.delayRequest n c m turn) s = .next (s.onDev (Dev.sendControl n.val c.val 4 0 (leBytes 2 (fieldAt m 8 2) ++ leBytes 6 turn.toNat)))) ∧
  (∀ (s : State) (n : Fin 10) (c : Fin 2) (m : List Byte) (turn : BitVec 48), controlOk m = true → fieldAt m 0 1 = 3 →
    s.dev.link n.val c.val = hsMEASURE → s.dev.upstream n.val = false → ((s.dev.port n.val).ch c.val).exchanges + 1 < 256 →
    exec (.delayRequest n c m turn) s = .next (s.onDev (fun d =>
      (d.sendControl n.val c.val 4 0 (leBytes 2 (fieldAt m 8 2) ++ leBytes 6 turn.toNat)).mapCh n.val c.val
        (fun x => { x with exchanges := x.exchanges + 1 })))) ∧
  (∀ (s : State) (n : Fin 10) (c : Fin 2) (m : List Byte) (rtt : BitVec 80), controlOk m = true → fieldAt m 0 1 = 4 → s.dev.link n.val c.val = hsMEASURE →
    s.dev.upstream n.val = true →
    ∃ d1, d1 = s.dev.mapCh n.val c.val (fun x => { x with exchanges := x.exchanges + 1, sum := x.sum + ((rtt.toNat : Int) - fieldAt m 10 6) }) ∧
      (((s.dev.port n.val).ch c.val).exchanges + 1 < 256 → exec (.delayResponse n c m rtt) s =
        .next (s.onDev (fun _ => d1.sendControl n.val c.val 3 0 (leBytes 2 (((s.dev.port n.val).ch c.val).exchanges + 1))))) ∧
      (256 ≤ ((s.dev.port n.val).ch c.val).exchanges + 1 → exec (.delayResponse n c m rtt) s = .next (s.onDev (fun _ => d1.enterUp n.val c.val false)))) ∧
  (∀ (s : State) (n : Fin 10) (c : Fin 2) (m : List Byte), controlOk m = true → fieldAt m 0 1 = 2 →
    (hsDETECT ≤ s.dev.link n.val c.val → s.dev.link n.val c.val ≤ hsUP → ∃ t, exec (.rateOrder n c m) s = .next t ∧ t.dev.link n.val c.val = hsRETRAIN ∧
      ((t.dev.port n.val).ch c.val).ordered = some (min 2 (fieldAt m 8 1))) ∧
    (s.dev.link n.val c.val < hsDETECT ∨ hsUP < s.dev.link n.val c.val → exec (.rateOrder n c m) s = .next s)) ∧
  (∀ (s : State) (n : Fin 10) (c : Fin 2), exec (.linkRetryExpiry n c) s = .next (s.onDev (Dev.mapCh n.val c.val (fun x => { x with waiting := false }))))

/-- RENEGOTIATE in Configure or Service starts bring-up at its first step and is ignored in every other mode. There, a discovery timeout in discovery ends it; a rate order timeout at 1.25 Gbit/s ends bring-up with the hops that are up; in every other mode neither changes anything. A waiting tail end that sees an own hop UP runs bring-up itself. A node's hop report names its position present and stores its forwarding latency. A delay measured outside the synchronised modes is stored with its record and is not stale; in them one taken outside the open window is dropped, and one within 2 ns of the record of a hop that is not stale is stored. A lane recalibration due in Service starts when the other lane is free and has not calibrated in this cycle; its end frees the lane, counts it and keeps the temperature. The oldest asynchronous frame that has waited 1 ms completes with BUSY and is counted; with none waiting nothing changes. -/
def Obligations.SegmentBringUpRuns : Prop :=
  (∀ (s : State) (n : Fin 10), (s.dev.mode = 4 ∨ s.dev.mode = 11 → exec (.renegotiate n) s = .next (s.onDev (Dev.startBringUp n.val))) ∧
    (s.dev.mode ≠ 4 → s.dev.mode ≠ 11 → exec (.renegotiate n) s = .next s)) ∧
  (∀ (s : State) (n : Fin 10), (s.dev.mode = 4 ∨ s.dev.mode = 11) → n.val < 8 → (s.dev.port n.val).phase = 1 →
    exec (.discoveryTimeout n) s = .next (s.onDev (Dev.endDiscovery n.val))) ∧
  (∀ (s : State) (n : Fin 10), (s.dev.mode = 4 ∨ s.dev.mode = 11) → n.val < 8 → (s.dev.port n.val).phase = 2 → (s.dev.port n.val).target = 0 →
    ∃ t, exec (.rateOrderTimeout n) s = .next t ∧ (t.dev.port n.val).phase = 0 ∧ t.dev.get (NLS_LINK_STATUS.RATE n.val) = 0) ∧
  (∀ (s : State) (n : Fin 10), s.dev.mode ≠ 4 → s.dev.mode ≠ 11 → exec (.discoveryTimeout n) s = .next s ∧ exec (.rateOrderTimeout n) s = .next s) ∧
  (∀ (s : State) (n : Fin 10), s.dev.sys.pairEnd = false → n.val < 8 → s.dev.link n.val 0 = hsUP ∨ s.dev.link n.val 1 = hsUP →
    s.dev.mode = 4 ∨ s.dev.mode = 11 →
    exec (.tailWaitExpiry n) s = .next (s.onDev (fun d => (d.setPort n.val { d.port n.val with tailRun := true }).startBringUp n.val))) ∧
  (∀ (s : State) (n : Fin 10) (c : Fin 2) (m : List Byte), controlOk m = true → fieldAt m 0 1 = 5 → n.val < 8 → bitAt (fieldAt m 1 1) 3 = false →
    fieldAt m 5 1 ≠ 4 → fieldAt m 8 1 < 64 → (s.dev.port n.val).phase = 0 →
    ∃ t, exec (.hopReport n c m none) s = .next t ∧ t.dev.on (NLS_POS_W2.PRESENT n.val (fieldAt m 8 1)) = true ∧
      t.dev.get (NLS_HOP_W2.FWD_DOWN n.val (fieldAt m 8 1)) = fieldAt m 12 2) ∧
  (∀ (s : State) (n : Fin 10) (c : Fin 2) (h : Fin 65) (v : Word), 4 ≤ s.dev.mode → s.dev.sync = false → exec (.hopRemeasure n c h v) s =
    .next (s.onDev (fun d => ((d.setHopDelay n.val c.val h.val v.toNat).recordHop n.val c.val h.val v.toNat).setHopStale n.val c.val h.val false))) ∧
  (∀ (s : State) (n : Fin 10) (c : Fin 2) (h : Fin 65) (v : Word), 4 ≤ s.dev.mode → s.dev.sync = true → s.dev.cyc.running = true → s.dev.openLeft n.val = 0 →
    exec (.hopRemeasure n c h v) s = .next s) ∧
  (∀ (s : State) (n : Fin 10) (c : Fin 2) (h : Fin 65) (v : Word), 4 ≤ s.dev.mode → s.dev.sync = true → s.dev.openLeft n.val ≠ 0 →
    ((v.toNat : Int) - lookupD (hopKey c.val h.val) v.toNat (s.dev.port n.val).calRec).natAbs ≤ 131072 →
    (h.val < 64 → s.dev.on (if c.val = 0 then NLS_HOP_W3.STALE_A n.val h.val else NLS_HOP_W3.STALE_B n.val h.val) = false) →
    exec (.hopRemeasure n c h v) s = .next (s.onDev (fun d =>
      (d.setPort n.val { d.port n.val with parts := (List.range 64).filter (fun p => d.on (NLS_POS_W2.PRESENT n.val p)) }).setHopDelay n.val c.val h.val v.toNat))) ∧
  (∀ (s : State) (n : Fin 10) (c : Fin 2), s.dev.mode = 11 → s.dev.on (if c.val = 0 then NLS_RECAL.BUSY_B n.val else NLS_RECAL.BUSY_A n.val) = false →
    (s.dev.cyc.running = true → ((s.dev.port n.val).ch (1 - c.val)).recal ≠ some s.dev.cyc.count) →
    ∃ t, exec (.laneRecalDue n c) s = .next t ∧ t.dev.on (if c.val = 0 then NLS_RECAL.BUSY_A n.val else NLS_RECAL.BUSY_B n.val) = true) ∧
  (∀ (s : State) (n : Fin 10) (c : Fin 2), s.dev.on (if c.val = 0 then NLS_RECAL.BUSY_A n.val else NLS_RECAL.BUSY_B n.val) = true →
    ∃ t, exec (.laneRecalDone n c) s = .next t ∧ t.dev.on (if c.val = 0 then NLS_RECAL.BUSY_A n.val else NLS_RECAL.BUSY_B n.val) = false ∧
      t.dev.get (if c.val = 0 then NLS_RECAL_CNT.COUNT_A n.val else NLS_RECAL_CNT.COUNT_B n.val) =
        min 65535 (s.dev.get (if c.val = 0 then NLS_RECAL_CNT.COUNT_A n.val else NLS_RECAL_CNT.COUNT_B n.val) + 1) ∧
      t.dev.get (if c.val = 0 then NLS_RECAL.TEMP_A n.val else NLS_RECAL.TEMP_B n.val) = codeOf 8 (s.dev.sys.temp / 16)) ∧
  (∀ (s : State) (n : Fin 10) (f : AsyncFrame) (fs : List AsyncFrame), (s.dev.port n.val).queue = f :: fs →
    exec (.asyncFrameTimeout n) s = .next (s.onDev (fun d =>
      ((d.setPort n.val { d.port n.val with queue := fs }).count32 (NLS_ASYNC_BUSY_CNT n.val) 1).completeOpt f.ref stBUSY d.now []))) ∧
  (∀ (s : State) (n : Fin 10), (s.dev.port n.val).queue = [] → exec (.asyncFrameTimeout n) s = .next s)

/-- A trunk status frame replaces its trunk's status, is heard in the cycle, and the sources are ranked again. Holdover is entered in the synchronised modes by a controller that is neither origin nor in holdover once HOLDOVER_CYCLES cycles (0 acts as 1) passed without a valid source, and in no other case. A controller of line rank k from 1 to 3 in holdover for 64 k cycles more, outside Shadow, becomes the origin, and in no other case. Shared master positions are logged in the synchronised modes outside Shadow, and nowhere else. 3 s without a PPS edge set PPS_LOST and post it once. At a whole second with valid line time the real-time clock takes the second, without it the clock stays; with PPS_OUT enabled the pin goes low, and it returns high OUT_WIDTH ms (1 to 500, other values act as 100) after the second. A read of LTM_TXTS_ENTRY3 answers its word and pops the stamp queue. A write of LTM_RATE acts under HA_TIME alone, clamped. -/
def Obligations.TimeEventsAct : Prop :=
  (∀ (s : State) (k : Fin 2) (x : List Byte), exec (.trunkStatusFrame k x) s = .next (s.onDev (fun d =>
    Dev.chooseSource { d with ltm := { d.ltm with trunk := (d.ltm.trunk.filter (fun e => e.1 != k.val)) ++ [(k.val, padTo 16 x)], heard := k.val :: d.ltm.heard.erase k.val } }))) ∧
  (∀ s : State, (s.dev.sync = true → s.dev.on LTM_STATUS.ORIGIN = false → s.dev.on LTM_STATUS.HOLDOVER = false →
      max 1 (s.dev.get LTM_CTRL.HOLDOVER_CYCLES) ≤ s.dev.ltm.noSource →
      ∃ t, exec .holdoverEntered s = .next t ∧ t.dev.on LTM_STATUS.HOLDOVER = true ∧ t.dev.hasCond condSYNC_HOLDOVER = true ∧
        t.dev.get LTM_STATUS.SOURCE_PORT = 0xFF ∧ t.dev.rate = s.dev.rate) ∧
    (s.dev.sync = false ∨ s.dev.on LTM_STATUS.ORIGIN = true ∨ s.dev.on LTM_STATUS.HOLDOVER = true ∨
      s.dev.ltm.noSource < max 1 (s.dev.get LTM_CTRL.HOLDOVER_CYCLES) → exec .holdoverEntered s = .next s)) ∧
  (∀ (s : State) (k : Nat), k = s.dev.get LTM_LINE.LINE_RANK →
    (s.dev.on LTM_STATUS.HOLDOVER = true → 1 ≤ k → k ≤ 3 → s.dev.mode ≠ 8 → max 1 (s.dev.get LTM_CTRL.HOLDOVER_CYCLES) + 64 * k ≤ s.dev.ltm.noSource →
      ∃ t, exec .originTakeover s = .next t ∧ t.dev.on LTM_STATUS.ORIGIN = true ∧ t.dev.on LTM_STATUS.HOLDOVER = false ∧
        t.dev.get LTM_LINE.ORIGIN_RANK = k) ∧
    (s.dev.on LTM_STATUS.HOLDOVER = false ∨ k = 0 ∨ 3 < k ∨ s.dev.mode = 8 ∨ s.dev.ltm.noSource < max 1 (s.dev.get LTM_CTRL.HOLDOVER_CYCLES) + 64 * k →
      exec .originTakeover s = .next s)) ∧
  (∀ (s : State) (x : List Byte) (n : Nat), n = min 128 (x.length / 16) →
    (n ≠ 0 → s.dev.mode ≠ 8 → s.dev.sync = true →
      exec (.trunkMasterFrame x) s = .next (s.onDev (fun d => d.logInput 0x07 (4 + 16 * n) (.masters (leBytes 10 d.cyc.ref ++ x.take (16 * n))) none))) ∧
    (n = 0 ∨ s.dev.mode = 8 ∨ s.dev.sync = false → exec (.trunkMasterFrame x) s = .next s)) ∧
  (∀ s : State, (s.dev.ltm.ppsLost = false →
      exec .ppsLost s = .next (s.onDev (fun d => Dev.post 0x0200 0x0207 [] { d with ltm := { d.ltm with ppsLost := true } }))) ∧
    (s.dev.ltm.ppsLost = true → exec .ppsLost s = .next s)) ∧
  (∀ s : State, ∃ t, exec .wholeSecondTick s = .next t ∧ (s.dev.on LTM_STATUS.VALID = true → t.backup.rtcValid = true ∧ t.backup.rtcSub = 0 ∧
      t.backup.rtcSec = max s.dev.now (wholeSecond s.dev.now) / 65536 / 1000000000 % 2 ^ 48) ∧ (s.dev.on LTM_STATUS.VALID = false → t.backup = s.backup) ∧
    (s.dev.on LTM_PPS_CTRL.OUT_EN = true → t.dev.ltm.ppsLow = true) ∧ (s.dev.on LTM_PPS_CTRL.OUT_EN = false → t.dev.ltm.ppsLow = s.dev.ltm.ppsLow)) ∧
  (∀ (s : State) (w v : Nat), w = s.dev.get LTM_PPS_CTRL.OUT_WIDTH → v = (if 1 ≤ w ∧ w ≤ 500 then w else 100) →
    (s.dev.ltm.ppsLow = true → exec .ppsOutWidthEnd s = .next (s.onDev (fun d =>
      Dev.emit (.pin "PPS_OUT" 0 true) { d with ltm := { d.ltm with now := max d.ltm.now (d.now / ns 1000000000 * ns 1000000000 + ns (1000000 * v)), ppsLow := false } }))) ∧
    (s.dev.ltm.ppsLow = false → exec .ppsOutWidthEnd s = .next s)) ∧
  (∀ s : State, ∃ t, exec .txtsPop s = .next t ∧ t.dev.ltm.tx = s.dev.ltm.tx.drop 1 ∧
    t.dev.out = s.dev.out ++ [.busData LTM_TXTS_ENTRY3 (s.dev.rd LTM_TXTS_ENTRY3)] ∧
    t.dev.get LTM_TXTS_STATUS.DEPTH = (s.dev.ltm.tx.drop 1).length % 2 ^ (LTM_TXTS_STATUS.DEPTH.hi + 1 - LTM_TXTS_STATUS.DEPTH.lo)) ∧
  (∀ (s : State) (v : Word), (s.dev.ha 2 = true → exec (.ltmRateWrite v) s = .next (s.onDev (fun d =>
      d.wr LTM_RATE (codeOf 32 (max (-219902325) (min 219902325 (signedOf 32 v.toNat))))))) ∧
    (s.dev.ha 2 = false → exec (.ltmRateWrite v) s = .next s))

/-- A PPS edge stores the phase to the nearest second (after the cable delay) in LTM_PPS_ERR, sets or clears PPS_LOCKED at 50 ns, ends PPS_LOST and becomes the last edge; without an alignment wait line time stays, with one it becomes the nearest whole second. In Join, a founder that waits for the edge then opens its cycle 0; anywhere else the edge does nothing more. A sent asynchronous frame whose tag asks for a stamp adds one stamp of the present line time to a queue of fewer than 256; a full queue drops it and shows the overflow; a frame that asks for no stamp changes nothing. -/
def Obligations.PpsEdgeAndStampTransmit : Prop :=
  (∀ (s : State) (m phi : Int), m = (((s.dev.now / 65536 : Nat) : Int) - signedOf 32 (s.dev.rd LTM_PPS_DELAY)).emod 1000000000 →
    phi = (if 500000000 < m then m - 1000000000 else m) →
    s.dev.ppsEdge.rd LTM_PPS_ERR = codeOf 32 phi ∧ (s.dev.ppsEdge.on LTM_STATUS.PPS_LOCKED = decide (phi.natAbs ≤ 50)) ∧
      s.dev.ppsEdge.ltm.ppsLast = some s.dev.ppsEdge.now ∧ s.dev.ppsEdge.ltm.ppsLost = false ∧ s.dev.ppsEdge.ltm.alignWait = false) ∧
  (∀ s : State, (s.dev.ltm.alignWait = false → s.dev.ppsEdge.now = s.dev.now) ∧ (s.dev.ltm.alignWait = true → s.dev.now < 2 ^ 79 →
    s.dev.ppsEdge.now = (s.dev.now + ns 500000000) / ns 1000000000 * ns 1000000000)) ∧
  (∀ s : State, s.dev.mode ≠ 5 ∨ s.dev.ltm.alignWait = false → exec .ppsEdge s = .next (s.onDev Dev.ppsEdge)) ∧
  (∀ s : State, s.dev.mode = 5 → s.dev.ltm.alignWait = true → exec .ppsEdge s = .next (s.onDev (fun d => d.ppsEdge.found))) ∧
  (∀ (s : State) (port : Fin 10) (b : Bool) (tag slot : BitVec 16),
    ((s.dev.port port.val).awaiting.any (fun f => f.tag == tag.toNat && f.stamp) = true →
      (s.dev.ltm.tx.length < 256 → ∃ t, exec (.asyncFrameSent port b tag slot) s = .next t ∧
        t.dev.ltm.tx = s.dev.ltm.tx ++ [⟨s.dev.now, portByte port.val, b, tag.toNat, slot.toNat⟩]) ∧
      (256 ≤ s.dev.ltm.tx.length → ∃ t, exec (.asyncFrameSent port b tag slot) s = .next t ∧ t.dev.ltm.tx = s.dev.ltm.tx ∧
        t.dev.on LTM_TXTS_STATUS.OVERFLOW = true)) ∧
    ((s.dev.port port.val).awaiting.any (fun f => f.tag == tag.toNat && f.stamp) = false → exec (.asyncFrameSent port b tag slot) s = .next s))

/-- A due output's firing moves line time to its instant, drives its enabled pin low for WIDTH and counts; its pulse end drives the pin high. With no firing or pulse to come neither changes anything. EVO_APPLY of one output whose rules hold and that has no commit waiting captures its fields for the next boundary and shows APPLY; one whose rules fail or whose commit waits changes nothing. EVO_CANCEL of one output sets its MODE to 0 in both copies, ends its firings but one due within this clock, and posts EVO_DONE with the firings made when the output was armed and none is due. A cancel of no output changes nothing. -/
def Obligations.TimedOutputsFire : Prop :=
  (∀ (s : State) (n : Fin 16) (at0 : LTime), (s.dev.evoOut n.val).next = some at0 →
    ∃ t, exec (.evoFiring n) s = .next t ∧ (t.dev.evoOut n.val).fired = (s.dev.evoOut n.val).fired + 1 ∧ s.dev.now ≤ t.dev.now ∧ at0 ≤ t.dev.now ∧
      ((s.dev.evoOut n.val).pinEn = true → (t.dev.evoOut n.val).low = some (at0 + ns (s.dev.evoOut n.val).width))) ∧
  (∀ (s : State) (n : Fin 16) (at0 : LTime), (s.dev.evoOut n.val).low = some at0 →
    exec (.evoPulseEnd n) s = .next (s.onDev (fun d => ((d.reach at0).setEvo n.val { d.evoOut n.val with low := none }).emit (.pin "EVO" n.val true)))) ∧
  (∀ (s : State) (n : Fin 16), ((s.dev.evoOut n.val).next = none → exec (.evoFiring n) s = .next s) ∧
    ((s.dev.evoOut n.val).low = none → exec (.evoPulseEnd n) s = .next s)) ∧
  (∀ (s : State) (n : Fin 16), (bitAt (s.dev.get EVO_APPLY.APPLY) n.val = false → s.dev.evoRules n.val = none →
      exec (.evoApply (BitVec.ofNat 16 (2 ^ n.val))) s = .next (s.onDev (fun d =>
        (d.set EVO_APPLY.APPLY (withBits (d.get EVO_APPLY.APPLY) n.val n.val 1)).holdCommit (0x0300 + n.val) (d.capture (evoRegs n.val)) none))) ∧
    (bitAt (s.dev.get EVO_APPLY.APPLY) n.val = true ∨ s.dev.evoRules n.val ≠ none → exec (.evoApply (BitVec.ofNat 16 (2 ^ n.val))) s = .next s)) ∧
  (∀ (s : State) (n : Fin 16) (e : EvoOut) (due : Option LTime) (d1 : Dev), e = s.dev.evoOut n.val → due = e.next.filter (fun t => decide (t < s.dev.now + ns 2)) →
    d1 = ((((s.dev.set (EVO_CTRL.MODE n.val) 0).goLive (EVO_CTRL n.val)
      (BitVec.ofNat 32 (withBits (s.dev.lrd (EVO_CTRL n.val)) 1 0 0))).setEvo n.val { e with mode := 0, next := due }).showEvo n.val) →
    ((e.next ≠ none ∨ e.mode = 3) → due = none →
      exec (.evoCancel (BitVec.ofNat 16 (2 ^ n.val))) s = .next (s.onDev (fun _ => d1.post (0x0300 + n.val) 0x0301 (leBytes 4 e.fired)))) ∧
    ((e.next = none ∧ e.mode ≠ 3) ∨ due ≠ none → exec (.evoCancel (BitVec.ofNat 16 (2 ^ n.val))) s = .next (s.onDev (fun _ => d1)))) ∧
  (∀ s : State, exec (.evoCancel 0) s = .next s)

/-- GET_TIME completes OK with LTM_RATE, LTM_OFFSET, the status byte and the origin. SET_MASTER_RANK of a port stores the rank for the pending generation; of the line it stores the line rank in LTM_LINE and in the ledger and ranks the sources again; with other parameters it completes BAD_PARAMETER. PROGRAM_EVENT_OUTPUT of a free output whose rules hold leaves its commit waiting for the boundary with the packet; of one whose commit waits it completes BUSY, of one whose rules fail CONSISTENCY with the rule, of one that does not exist or a mode above 3 BAD_PARAMETER. CANCEL_EVENT_OUTPUT completes OK at once after the cancel. ALIGN_TO_PPS stores its three fields and completes OK; with other parameters it completes BAD_PARAMETER. -/
def Obligations.TimePacketsComplete : Prop :=
  (∀ s p p' d', Runs opGetTime p s.dev p' d' → exec (.getTime p) s = .next (s.onDev (fun _ => d'.complete (refOf p s.dev) stOK d'.now
    (leBytes 4 (d'.rd LTM_RATE) ++ leBytes 4 (d'.rd LTM_OFFSET) ++ leBytes 1 (d'.rd LTM_STATUS) ++ leBytes 1 (d'.get LTM_LINE.ORIGIN_INDEX) ++
      leBytes 1 (d'.get LTM_LINE.ORIGIN_HOPS))))) ∧
  (∀ s p p' d', Runs opSetMasterRank p s.dev p' d' → par p' 22 1 = 0 → (par p' 23 1 < 8 ∧ (par p' 24 1 = 2 ∨ par p' 24 1 = 3) ∧ (par p' 25 1 < 64 ∨ par p' 25 1 = 0xFF) →
      exec (.setMasterRank p) s = .next (s.onDev (fun _ => (d'.setPort (par p' 23 1) { d'.port (par p' 23 1) with ranks := ((d'.port (par p' 23 1)).ranks.filter (fun x => x.1 != par p' 24 1)) ++ [(par p' 24 1, par p' 25 1)] }).complete (refOf p s.dev) stOK d'.now []))) ∧
    (8 ≤ par p' 23 1 ∨ (par p' 24 1 ≠ 2 ∧ par p' 24 1 ≠ 3) ∨ (64 ≤ par p' 25 1 ∧ par p' 25 1 ≠ 0xFF) →
      exec (.setMasterRank p) s = .next (s.onDev (fun _ => d'.complete (refOf p s.dev) stBAD_PARAMETER d'.now [])))) ∧
  (∀ s p p' d' d1 d2, Runs opSetMasterRank p s.dev p' d' → par p' 22 1 = 1 → par p' 23 1 ≤ 3 ∨ par p' 23 1 = 0xFF →
    d1 = (d'.set LTM_LINE.LINE_RANK (par p' 23 1)).transact [(0x0A, settingBody 0x0200 0 (par p' 23 1))] →
    d2 = (if d1.cyc.running = true ∧ d1.get LTM_STATUS.SOURCE_PORT = 0xFF ∧ d1.on LTM_STATUS.HOLDOVER = false then d1.leadTime else d1.chooseSource) →
    exec (.setMasterRank p) s = .next (s.onDev (fun _ => d2.complete (refOf p s.dev) stOK d2.now []))) ∧
  (∀ s p p' d', Runs opSetMasterRank p s.dev p' d' → 2 ≤ par p' 22 1 ∨ (par p' 22 1 = 1 ∧ 3 < par p' 23 1 ∧ par p' 23 1 ≠ 0xFF) →
    exec (.setMasterRank p) s = .next (s.onDev (fun _ => d'.complete (refOf p s.dev) stBAD_PARAMETER d'.now []))) ∧
  (∀ s p p' d' n e, Runs opProgramOutput p s.dev p' d' → n = par p' 22 1 → n < 16 → par p' 23 1 < 4 → bitAt (d'.get EVO_APPLY.APPLY) n = false →
    e = ((((((d'.wr (EVO_CTRL n) (par p' 23 1 + par p' 24 1 % 4 * 4 + par p' 25 1 * 256)).wr64 (EVO_START_LO n) (par p' 26 8)).wr (EVO_PERIOD n)
      (par p' 34 4)).wr (EVO_WIDTH n) (par p' 38 4)).wr (EVO_COUNT n) (par p' 42 4)).wr (EVO_TOL n) p'.tol.toNat) →
    (e.evoRules n = none → exec (.programEventOutput p) s = .next (s.onDev (fun _ =>
      (e.set EVO_APPLY.APPLY (withBits (e.get EVO_APPLY.APPLY) n n 1)).holdCommit (0x0300 + n) (e.capture (evoRegs n)) (some (refOf p s.dev))))) ∧
    (∀ r, e.evoRules n = some r → exec (.programEventOutput p) s = .next (s.onDev (fun _ =>
      e.complete (refOf p s.dev) stCONSISTENCY e.now (ruleResult r (0x0300 + n)))))) ∧
  (∀ s p p' d', Runs opProgramOutput p s.dev p' d' →
    (16 ≤ par p' 22 1 ∨ 4 ≤ par p' 23 1 → exec (.programEventOutput p) s = .next (s.onDev (fun _ => d'.complete (refOf p s.dev) stBAD_PARAMETER d'.now []))) ∧
    (par p' 22 1 < 16 → par p' 23 1 < 4 → bitAt (d'.get EVO_APPLY.APPLY) (par p' 22 1) = true →
      exec (.programEventOutput p) s = .next (s.onDev (fun _ => d'.complete (refOf p s.dev) stBUSY d'.now [])))) ∧
  (∀ s p p' d', Runs opCancelOutput p s.dev p' d' → exec (.cancelEventOutput p) s =
    .next (s.onDev (fun _ => (d'.evoCancel (par p' 22 2)).complete (refOf p s.dev) stOK (d'.evoCancel (par p' 22 2)).now []))) ∧
  (∀ s p p' d', Runs opAlignPps p s.dev p' d' → (par p' 22 1 ≤ 1 ∧ 1 ≤ par p' 23 1 ∧ par p' 23 1 ≤ 50 → exec (.alignToPps p) s =
      .next (s.onDev (fun _ => (((d'.set LTM_PPS_CTRL.ALIGN_EN (par p' 22 1)).set LTM_PPS_CTRL.SLEW (par p' 23 1)).wr LTM_PPS_DELAY (par p' 24 4)).complete
        (refOf p s.dev) stOK d'.now []))) ∧
    (1 < par p' 22 1 ∨ par p' 23 1 = 0 ∨ 50 < par p' 23 1 → exec (.alignToPps p) s = .next (s.onDev (fun _ => d'.complete (refOf p s.dev) stBAD_PARAMETER d'.now []))))

/-- Before cycles run, a frame with a bad header checksum or an unknown type is only counted on its channel. While cycles run, so is one with a bad header checksum (in a claim slot's window also as damaged) or of an unknown type. A frame outside every receive window is a policing violation of the position in its source field, but not one of the other end's controller in that end's own slot; a frame of the wrong type, slot number, cycle or source is a violation too. A frame that fits with a bad payload checksum is only counted, and a fenced position's changes nothing. The first accepted copy is kept for comparison, an uplink frame's records reach the engine, and a third or repeated copy changes nothing; an equal second copy from the other channel only marks the slot complete; an unequal one is a disagreement. Closing the window of a node slot counts NLS_SINGLE_CNT where it holds one copy; where a node or a pitch's holder owns the slot, its SINGLE bit follows and each channel without a copy counts a miss; an uplink slot's axes are ready with it. A slot that is closed already or is no node's changes nothing. -/
def Obligations.NodeFramesAreFiltered : Prop :=
  (∀ (s : State) (n : Fin 8) (c : Fin 2) (sof : BitVec 80) (bs : List Byte), s.dev.cyc.running = false →
    ((parseFrame bs).hdrOk = false ∨ knownType (parseFrame bs).typ = false →
      exec (.nodeFrame n c sof bs) s = .next (s.onDev (Dev.count32 (if c.val = 0 then NLS_CRC_ERR_A n.val else NLS_CRC_ERR_B n.val) 1))) ∧
    ((parseFrame bs).hdrOk = true → knownType (parseFrame bs).typ = true → exec (.nodeFrame n c sof bs) s = .next s)) ∧
  (∀ (s : State) (n : Fin 8) (c : Fin 2) (sof : BitVec 80) (bs : List Byte) (b : SchedBlock) (k : Bool), s.dev.cyc.running = true →
    s.dev.activeBlock n.val = some b → k = ((s.dev.windowSlot n.val sof.toNat b).map (fun x => x.1.kind == 8)).getD false →
    ((parseFrame bs).hdrOk = false → exec (.nodeFrame n c sof bs) s = .next (s.onDev (fun d =>
      (d.count32 (if c.val = 0 then NLS_CRC_ERR_A n.val else NLS_CRC_ERR_B n.val) 1).when k (Dev.count (NLS_CLAIM_CNT.DAMAGED n.val) 1)))) ∧
    ((parseFrame bs).hdrOk = true → knownType (parseFrame bs).typ = false → exec (.nodeFrame n c sof bs) s =
      .next (s.onDev (Dev.count32 (if c.val = 0 then NLS_CRC_ERR_A n.val else NLS_CRC_ERR_B n.val) 1)))) ∧
  (∀ (s : State) (n : Fin 8) (c : Fin 2) (sof : BitVec 80) (bs : List Byte) (b : SchedBlock) (far : Bool), s.dev.cyc.running = true →
    s.dev.activeBlock n.val = some b → (parseFrame bs).hdrOk = true → knownType (parseFrame bs).typ = true → s.dev.windowSlot n.val sof.toNat b = none →
    far = (s.dev.farSource n.val (parseFrame bs).src &&
      b.slots.any (fun e => sentByHead e == some (!s.dev.headEnd n.val) && s.dev.inWindow n.val sof.toNat b e)) →
    (far = false → exec (.nodeFrame n c sof bs) s = .next (s.onDev (Dev.policeHit n.val ((parseFrame bs).src % 64)))) ∧
    (far = true → exec (.nodeFrame n c sof bs) s = .next s)) ∧
  (∀ (s : State) (n : Fin 8) (c : Fin 2) (sof : BitVec 80) (bs : List Byte) (b : SchedBlock) (e : SlotEntry) (sl : Nat), s.dev.cyc.running = true →
    s.dev.activeBlock n.val = some b → (parseFrame bs).hdrOk = true → knownType (parseFrame bs).typ = true → s.dev.windowSlot n.val sof.toNat b = some (e, sl) →
    typeFits e.kind (parseFrame bs).typ = false ∨ (parseFrame bs).slot ≠ sl ∨ (parseFrame bs).cycle ≠ s.dev.cyc.count ∨
      (s.dev.slotOwner n.val sl b ≠ none ∧ (s.dev.slotOwner n.val sl b ≠ some (some ((parseFrame bs).src % 64)) ∨
        s.dev.nodeSource n.val ((parseFrame bs).src % 64) (parseFrame bs).src = false)) →
    exec (.nodeFrame n c sof bs) s = .next (s.onDev (Dev.policeHit n.val ((parseFrame bs).src % 64)))) ∧
  (∀ (s : State) (n : Fin 8) (c : Fin 2) (sof : BitVec 80) (bs : List Byte) (b : SchedBlock) (e : SlotEntry) (sl : Nat), s.dev.cyc.running = true →
    s.dev.activeBlock n.val = some b → (parseFrame bs).hdrOk = true → knownType (parseFrame bs).typ = true → s.dev.windowSlot n.val sof.toNat b = some (e, sl) →
    typeFits e.kind (parseFrame bs).typ = true → (parseFrame bs).slot = sl → (parseFrame bs).cycle = s.dev.cyc.count →
    s.dev.slotOwner n.val sl b = none ∨ (s.dev.slotOwner n.val sl b = some (some ((parseFrame bs).src % 64)) ∧
      s.dev.nodeSource n.val ((parseFrame bs).src % 64) (parseFrame bs).src = true) →
    ((parseFrame bs).bodyOk = false → exec (.nodeFrame n c sof bs) s = .next (s.onDev (fun d =>
      (d.count32 (if c.val = 0 then NLS_CRC_ERR_A n.val else NLS_CRC_ERR_B n.val) 1).when (e.kind == 8) (Dev.count (NLS_CLAIM_CNT.DAMAGED n.val) 1)))) ∧
    ((parseFrame bs).bodyOk = true → s.dev.on (NLS_POS_W2.FENCED n.val ((parseFrame bs).src % 64)) = true → exec (.nodeFrame n c sof bs) s = .next s) ∧
    ((parseFrame bs).bodyOk = true → s.dev.on (NLS_POS_W2.FENCED n.val ((parseFrame bs).src % 64)) = false → ∀ (u : List Byte) (d1 : Dev),
      u = (spliceAt bs 1 [BitVec.ofNat 8 ((parseFrame bs).flags / 2 * 2)]).take 16 ++ (parseFrame bs).payload →
      d1 = s.dev.setPort n.val { s.dev.port n.val with rx := putKey sl { (s.dev.port n.val).slotRx sl with state := c.val + 1, used := u } (s.dev.port n.val).rx } →
      ((parseFrame bs).typ = 2 → ((s.dev.port n.val).slotRx sl).state = 0 → exec (.nodeFrame n c sof bs) s =
        .next (s.onDev (fun _ => d1.takeUplink n.val sl (some ((parseFrame bs).src % 64)) sof.toNat (parseFrame bs).payload))) ∧
      ((parseFrame bs).typ = 8 → ((s.dev.port n.val).slotRx sl).state = 0 → exec (.nodeFrame n c sof bs) s =
        .next (s.onDev (fun _ => d1.asyncReply n.val (parseFrame bs).src (parseFrame bs).payload))) ∧
      ((parseFrame bs).typ ≠ 2 → (parseFrame bs).typ ≠ 8 → ((s.dev.port n.val).slotRx sl).state = 0 → exec (.nodeFrame n c sof bs) s = .next (s.onDev (fun _ => d1))) ∧
      (((s.dev.port n.val).slotRx sl).state = c.val + 1 ∨ ((s.dev.port n.val).slotRx sl).state = 3 → exec (.nodeFrame n c sof bs) s = .next s) ∧
      (((s.dev.port n.val).slotRx sl).state = 2 - c.val → ∃ d2, d2 = s.dev.setPort n.val { s.dev.port n.val with rx := putKey sl { (s.dev.port n.val).slotRx sl with state := 3 } (s.dev.port n.val).rx } ∧
        (u = ((s.dev.port n.val).slotRx sl).used → exec (.nodeFrame n c sof bs) s = .next (s.onDev (fun _ => d2))) ∧
        (u ≠ ((s.dev.port n.val).slotRx sl).used → exec (.nodeFrame n c sof bs) s =
          .next (s.onDev (fun _ => d2.disagree n.val ((s.dev.slotOwner n.val sl b).getD none))))))) ∧
  (∀ (s : State) (n : Fin 8) (b : SchedBlock) (e : SlotEntry) (sl : Fin 768) (r : Nat) (d1 d2 : Dev), s.dev.cyc.running = true →
    s.dev.activeBlock n.val = some b → b.slots[sl.val]? = some e → nodeSlot e = true → ((s.dev.port n.val).slotRx sl.val).closed = false →
    r = ((s.dev.port n.val).slotRx sl.val).state →
    d1 = s.dev.setPort n.val { s.dev.port n.val with rx := putKey sl.val { (s.dev.port n.val).slotRx sl.val with closed := true } (s.dev.port n.val).rx } →
    d2 = d1.when (r == 1 || r == 2) (Dev.count32 (NLS_SINGLE_CNT n.val) 1) →
    (e.kind = 8 → exec (.receiveWindowClose n sl) s = .next (s.onDev (fun _ => d2))) ∧
    (∀ p : Nat, e.kind ≠ 2 → s.dev.slotOwner n.val sl.val b = some (some p) → s.dev.on (NLS_POS_W2.PRESENT n.val p) = true ∨ s.dev.on (NLS_POS_W2.PITCH n.val p) = true →
      exec (.receiveWindowClose n sl) s = .next (s.onDev (fun _ => ((d2.set (NLS_POS_W2.SINGLE n.val p) (flag (r == 1 || r == 2))).when
        (r == 0 || r == 2) (Dev.count (NLS_POS_W0.MISSED_A n.val p) 1)).when (r == 0 || r == 1) (Dev.count (NLS_POS_W0.MISSED_B n.val p) 1)))) ∧
    (e.kind = 2 → ∃ t, exec (.receiveWindowClose n sl) s = .next t ∧ ((t.dev.port n.val).slotRx sl.val).closed = true ∧
      t.dev.eng.fbReady = s.dev.eng.fbReady ++ (s.dev.binds.filter (fun x => x.port == n.val && x.slot == sl.val)).map (fun x => x.axis))) ∧
  (∀ (s : State) (n : Fin 8) (b : SchedBlock) (e : SlotEntry) (sl : Fin 768), s.dev.activeBlock n.val = some b → b.slots[sl.val]? = some e →
    s.dev.cyc.running = false ∨ nodeSlot e = false ∨ ((s.dev.port n.val).slotRx sl.val).closed = true → exec (.receiveWindowClose n sl) s = .next s)

/-- Before cycles run, a claim, a schedule request and a leave request change nothing. While they run, outside Shadow, a claim of an unfenced position counts and waits for the decision at the input log, or, in host-assisted pitch assignment and with an identity that holds no pitch, is posted for the host; a claim of a fenced position is refused with result 4 and posted; in Shadow a claim only counts. A schedule request of an unfenced position counts and owes the position its schedule parts once. A leave request of an unfenced position counts and, outside Shadow, logs the release of the pitch that the position holds, if any. A held pitch whose holder has been silent for 1,000 cycles logs its release once, outside Shadow. An unfenced position's acknowledgement of the pending generation sets its bit; any other changes nothing. SEGMENT_FAULT_CLEAR clears the segment's fault and the condition when no other segment has one. An asynchronous reply that never came completes the packet with the timed-out result; with no packet that waits nothing changes. -/
def Obligations.ClaimsRequestsAndReleases : Prop :=
  (∀ (s : State) (n : Fin 8) (pos : Fin 64) (req : List Byte), s.dev.cyc.running = false →
    exec (.pitchClaim n pos req) s = .next s ∧ exec (.scheduleRequest n pos) s = .next s ∧ exec (.leaveRequest n pos req) s = .next s) ∧
  (∀ (s : State) (n : Fin 8) (pos : Fin 64) (req : List Byte) (d1 : Dev), s.dev.cyc.running = true → d1 = s.dev.count (NLS_CLAIM_CNT.VALID n.val) 1 →
    (d1.mode = 8 → exec (.pitchClaim n pos req) s = .next (s.onDev (fun _ => d1))) ∧
    (d1.mode ≠ 8 → d1.on (NLS_POS_W2.FENCED n.val pos.val) = true → exec (.pitchClaim n pos req) s = .next (s.onDev (fun _ =>
      (d1.respond n.val pos.val 4 0xFF 0 req).post (portSource n.val) 0x010E (leBytes 1 pos.val ++ leBytes 1 4)))) ∧
    (d1.mode ≠ 8 → d1.on (NLS_POS_W2.FENCED n.val pos.val) = false →
      d1.ha 4 = false ∨ (d1.port n.val).holders.any (fun h => h.2 == reqIdentity (padTo 24 req)) = true →
      exec (.pitchClaim n pos req) s = .next (s.onDev (fun _ => d1.setPort n.val { d1.port n.val with claims := (d1.port n.val).claims.filter (fun x => x.pos != pos.val) ++ [⟨pos.val, padTo 24 req, s.dev.cyc.count⟩] }))) ∧
    (d1.mode ≠ 8 → d1.on (NLS_POS_W2.FENCED n.val pos.val) = false → d1.ha 4 = true →
      (d1.port n.val).holders.any (fun h => h.2 == reqIdentity (padTo 24 req)) = false →
      exec (.pitchClaim n pos req) s = .next (s.onDev (fun _ => (d1.setPort n.val { d1.port n.val with posted := (d1.port n.val).posted.filter (fun x => x.pos != pos.val) ++ [⟨pos.val, padTo 24 req, s.dev.cyc.count⟩] }).post (portSource n.val) 0x010B
          (leBytes 1 pos.val ++ reqIdentity req ++ leBytes 1 (fieldAt req 3 1) ++ leBytes 2 (fieldAt req 12 2) ++ leBytes 2 (fieldAt req 14 2)))))) ∧
  (∀ (s : State) (n : Fin 8) (pos : Fin 64) (req : List Byte), s.dev.on (NLS_POS_W2.FENCED n.val pos.val) = true →
    exec (.scheduleRequest n pos) s = .next s ∧ exec (.leaveRequest n pos req) s = .next s) ∧
  (∀ (s : State) (n : Fin 8) (pos : Fin 64) (d1 : Dev), s.dev.cyc.running = true → s.dev.on (NLS_POS_W2.FENCED n.val pos.val) = false →
    d1 = s.dev.count (NLS_CLAIM_CNT.VALID n.val) 1 → exec (.scheduleRequest n pos) s = .next (s.onDev (fun _ => d1.setPort n.val { d1.port n.val with parts := (d1.port n.val).parts ++ (if (d1.port n.val).parts.contains pos.val then [] else [pos.val]) }))) ∧
  (∀ (s : State) (n : Fin 8) (pos : Fin 64) (req : List Byte) (d1 : Dev), s.dev.cyc.running = true → s.dev.on (NLS_POS_W2.FENCED n.val pos.val) = false →
    d1 = s.dev.count (NLS_CLAIM_CNT.VALID n.val) 1 →
    (∀ k : Nat, d1.mode ≠ 8 → (List.range 32).find? (fun k => d1.get (NLS_PITCH.STATE n.val k) == 3 && d1.get (NLS_PITCH.HOLDER n.val k) == pos.val) = some k →
      exec (.leaveRequest n pos req) s = .next (s.onDev (fun _ => d1.logInput 0x01 68 (.revoke n.val k 0 (padTo 24 req)) none))) ∧
    (d1.mode = 8 ∨ (List.range 32).find? (fun k => d1.get (NLS_PITCH.STATE n.val k) == 3 && d1.get (NLS_PITCH.HOLDER n.val k) == pos.val) = none →
      exec (.leaveRequest n pos req) s = .next (s.onDev (fun _ => d1)))) ∧
  (∀ (s : State) (n : Fin 8) (pos : Fin 64) (gen : BitVec 16), (∀ g : Generation, s.dev.cyc.pending = some g → s.dev.on (NLS_POS_W2.FENCED n.val pos.val) = false →
      g.num = gen.toNat → ∃ t, exec (.generationAcknowledge n pos gen) s = .next t ∧ t.dev.on (NLS_POS_W2.GEN_ACK n.val pos.val) = true ∧
        bitAt (t.dev.rd (if pos.val < 32 then NLS_GEN_ACK_LO n.val else NLS_GEN_ACK_HI n.val)) (pos.val % 32) = true) ∧
    ((s.dev.cyc.pending.map (fun g => g.num)) ≠ some gen.toNat ∨ s.dev.on (NLS_POS_W2.FENCED n.val pos.val) = true →
      exec (.generationAcknowledge n pos gen) s = .next s)) ∧
  (∀ (s : State) (n : Fin 8) (k : Fin 32), (s.dev.get (NLS_PITCH.STATE n.val k.val) = 3 → s.dev.get (NLS_PITCH.SILENT n.val k.val) = 1000 → s.dev.mode ≠ 8 →
      s.dev.cyc.running = true → s.dev.releaseWaits n.val k.val = false →
      exec (.pitchSilence n k) s = .next (s.onDev (Dev.logInput 0x01 68 (.revoke n.val k.val 2 []) none))) ∧
    (s.dev.get (NLS_PITCH.STATE n.val k.val) ≠ 3 ∨ s.dev.get (NLS_PITCH.SILENT n.val k.val) ≠ 1000 ∨ s.dev.mode = 8 ∨ s.dev.cyc.running = false ∨
      s.dev.releaseWaits n.val k.val = true → exec (.pitchSilence n k) s = .next s)) ∧
  (∀ (s : State) (n : Fin 8), ∃ t, exec (.segmentFaultClear n) s = .next t ∧ t.dev.on (NLS_SEG_FAULT.SEGMENT_FAULT n.val) = false ∧
    ((∀ m : Fin 8, m ≠ n → s.dev.on (NLS_SEG_FAULT.SEGMENT_FAULT m.val) = false) → t.dev.hasCond condSEGMENT_FAULT = false)) ∧
  (∀ (s : State) (n : Fin 10) (tag : BitVec 16), (∀ f : AsyncFrame,
    (s.dev.port n.val).awaiting.find? (fun f => f.ref.isSome && f.replyAddr != 0 && f.tag == tag.toNat) = some f →
      exec (.asyncReplyTimeout n tag) s = .next (s.onDev (fun d => (d.setPort n.val { d.port n.val with awaiting := (d.port n.val).awaiting.filter (fun f => !(f.ref.isSome && f.replyAddr != 0 && f.tag == tag.toNat)) }).completeOpt f.ref stOK d.now [0, 0, 1]))) ∧
    ((s.dev.port n.val).awaiting.find? (fun f => f.ref.isSome && f.replyAddr != 0 && f.tag == tag.toNat) = none → exec (.asyncReplyTimeout n tag) s = .next s))

/-- LOAD_SCHEDULE of an image that passes every check, with no countdown under way, is logged; an image that fails completes with its failure's status, a good one during a countdown with BUSY. GET_SEGMENT_STATUS of a port completes OK with the link and schedule status and the present positions. GRANT_PITCH of a claim the host was asked for within 64 cycles is logged as a refusal, or as a grant of the named pitch, or of the lowest that fits; with no such claim or pitch it completes BAD_PARAMETER. REVOKE_PITCH of a held pitch and FENCE_NODE are logged. SEND_ASYNC queues the frame on its port with the packet's tag, its channels and its time-stamp flag. GET_LINK_STATS writes the 2,176 bytes of registers to the host, clears what a read would when asked to, and completes OK. A port, pitch or position that does not exist, a pitch that nobody holds and parameters out of range complete BAD_PARAMETER. -/
def Obligations.NetworkPacketsTakeEffect : Prop :=
  (∀ s p p' d' bs, Runs opLoadSchedule p s.dev p' d' → p'.host = some bs →
    (imageStatus ((d'.sys.package.map (·.digests)).getD []) (par p' 30 4) (padTo (par p' 30 4) bs) = 0 → d'.cyc.countdown = none → exec (.loadSchedule p) s =
      .next (s.onDev (fun _ => d'.logInput 0x03 (tableSize (padTo (par p' 30 4) bs).length) (.schedule (padTo (par p' 30 4) bs)) (some (refOf p s.dev))))) ∧
    (imageStatus ((d'.sys.package.map (·.digests)).getD []) (par p' 30 4) (padTo (par p' 30 4) bs) = 0 → d'.cyc.countdown ≠ none → exec (.loadSchedule p) s =
      .next (s.onDev (fun _ => d'.complete (refOf p s.dev) stBUSY d'.now []))) ∧
    (imageStatus ((d'.sys.package.map (·.digests)).getD []) (par p' 30 4) (padTo (par p' 30 4) bs) ≠ 0 →
      exec (.loadSchedule p) s = .next (s.onDev (fun _ => d'.complete (refOf p s.dev)
        (imageStatus ((d'.sys.package.map (·.digests)).getD []) (par p' 30 4) (padTo (par p' 30 4) bs)) d'.now [])))) ∧
  (∀ s p p' d' n, Runs opGetSegmentStatus p s.dev p' d' → portOf (par p' 22 1) = some n → exec (.getSegmentStatus p) s =
    .next (s.onDev (fun _ => d'.complete (refOf p s.dev) stOK d'.now (leBytes 4 (d'.rd (NLS_LINK_STATUS n)) ++ leBytes 4 (d'.rd (NLS_SCHED_STATUS n)) ++
      leBytes 8 (((List.range 64).map (fun k => if d'.on (NLS_POS_W2.PRESENT n k) then 2 ^ k else 0)).sum))))) ∧
  (∀ s p p' d', Runs opGetSegmentStatus p s.dev p' d' → portOf (par p' 22 1) = none → exec (.getSegmentStatus p) s =
    .next (s.onDev (fun _ => d'.complete (refOf p s.dev) stBAD_PARAMETER d'.now []))) ∧
  (∀ s p p' d', Runs opSendAsync p s.dev p' d' → portOf (par p' 22 1) = none → exec (.sendAsync p) s =
    .next (s.onDev (fun _ => d'.complete (refOf p s.dev) stBAD_PARAMETER d'.now []))) ∧
  (∀ s p p' d', Runs opGetLinkStats p s.dev p' d' → portOf (par p' 22 1) = none → exec (.getLinkStats p) s =
    .next (s.onDev (fun _ => d'.complete (refOf p s.dev) stBAD_PARAMETER d'.now []))) ∧
  (∀ s p p' d' n pos c, Runs opGrantPitch p s.dev p' d' → n = par p' 22 1 → pos = par p' 23 1 → n < 8 → pos < 64 →
    (d'.port n).posted.find? (fun c => c.pos == pos && decide (d'.cyclesSince c.cycle ≤ 64)) = some c →
    (bitAt (par p' 25 1) 0 = true → exec (.grantPitch p) s = .next (s.onDev (fun _ => d'.logInput 0x01 68 (.refuse n pos 3 c.req) (some (refOf p s.dev))))) ∧
    (bitAt (par p' 25 1) 0 = false → par p' 24 1 ≠ 0xFF → d'.pitchFits n (par p' 24 1) pos c.req = true →
      exec (.grantPitch p) s = .next (s.onDev (fun _ => d'.logInput 0x01 68 (.grant n pos (par p' 24 1) c.req) (some (refOf p s.dev))))) ∧
    (bitAt (par p' 25 1) 0 = false → par p' 24 1 ≠ 0xFF → d'.pitchFits n (par p' 24 1) pos c.req = false →
      exec (.grantPitch p) s = .next (s.onDev (fun _ => d'.complete (refOf p s.dev) stBAD_PARAMETER d'.now []))) ∧
    (∀ k, bitAt (par p' 25 1) 0 = false → par p' 24 1 = 0xFF → (List.range 32).find? (fun k => d'.pitchFits n k pos c.req) = some k →
      exec (.grantPitch p) s = .next (s.onDev (fun _ => d'.logInput 0x01 68 (.grant n pos k c.req) (some (refOf p s.dev))))) ∧
    (bitAt (par p' 25 1) 0 = false → par p' 24 1 = 0xFF → (List.range 32).find? (fun k => d'.pitchFits n k pos c.req) = none →
      exec (.grantPitch p) s = .next (s.onDev (fun _ => d'.complete (refOf p s.dev) stBAD_PARAMETER d'.now [])))) ∧
  (∀ s p p' d', Runs opGrantPitch p s.dev p' d' → 8 ≤ par p' 22 1 ∨ 64 ≤ par p' 23 1 ∨
    (d'.port (par p' 22 1)).posted.find? (fun c => c.pos == par p' 23 1 && decide (d'.cyclesSince c.cycle ≤ 64)) = none →
    exec (.grantPitch p) s = .next (s.onDev (fun _ => d'.complete (refOf p s.dev) stBAD_PARAMETER d'.now []))) ∧
  (∀ s p p' d', Runs opRevokePitch p s.dev p' d' → (par p' 22 1 < 8 ∧ par p' 23 1 < 32 ∧ d'.get (NLS_PITCH.STATE (par p' 22 1) (par p' 23 1)) = 3 →
      exec (.revokePitch p) s = .next (s.onDev (fun _ => d'.logInput 0x01 68 (.revoke (par p' 22 1) (par p' 23 1) 1 []) (some (refOf p s.dev))))) ∧
    (8 ≤ par p' 22 1 ∨ 32 ≤ par p' 23 1 ∨ d'.get (NLS_PITCH.STATE (par p' 22 1) (par p' 23 1)) ≠ 3 →
      exec (.revokePitch p) s = .next (s.onDev (fun _ => d'.complete (refOf p s.dev) stBAD_PARAMETER d'.now [])))) ∧
  (∀ s p p' d' n bs, Runs opSendAsync p s.dev p' d' → portOf (par p' 22 1) = some n →
    (par p' 23 1 < 6 → par p' 28 2 ≤ 2048 → par p' 38 8 = 0 ∨ (1 ≤ par p' 48 2 ∧ par p' 48 2 ≤ 1000) → p'.host = some bs →
      exec (.sendAsync p) s = .next (s.onDev (fun _ => d'.setPort n { d'.port n with queue := (d'.port n).queue ++ [⟨0x08, par p' 24 3, padTo (par p' 28 2) bs, par p' 23 1 / 2, bitAt (par p' 23 1) 0, some (refOf p s.dev), p'.tag.toNat, par p' 38 8, par p' 46 2, par p' 48 2, some p'⟩] }))) ∧
    (6 ≤ par p' 23 1 ∨ 2048 < par p' 28 2 ∨ (par p' 38 8 ≠ 0 ∧ (par p' 48 2 = 0 ∨ 1000 < par p' 48 2)) →
      exec (.sendAsync p) s = .next (s.onDev (fun _ => d'.complete (refOf p s.dev) stBAD_PARAMETER d'.now [])))) ∧
  (∀ s p p' d' n bs w d1, Runs opGetLinkStats p s.dev p' d' → portOf (par p' 22 1) = some n → p'.host = some bs →
    w = [(0x000, 0x40), (0x100, 0x40), (0x400, 0x400), (0x800, 0x400)] →
    d1 = d'.emit (.hostWrite (par p' 24 8) (d'.outBytes p' (w.flatMap (fun x => d'.regBytes (NLS_LINK_CTRL n + x.1) x.2)))) →
    (bitAt (par p' 23 1) 0 = false → exec (.getLinkStats p) s = .next (s.onDev (fun _ => d1.complete (refOf p s.dev) stOK d1.now []))) ∧
    (∀ d2, bitAt (par p' 23 1) 0 = true → d2 = d1.forEach (w.flatMap (fun x => (List.range (x.2 / 4)).map (fun i => NLS_LINK_CTRL n + x.1 + 4 * i))) Dev.clearRc →
      exec (.getLinkStats p) s = .next (s.onDev (fun _ => d2.complete (refOf p s.dev) stOK d2.now [])))) ∧
  (∀ s p p' d', Runs opFenceNode p s.dev p' d' → (par p' 22 1 < 8 ∧ par p' 23 1 < 64 ∧ par p' 24 1 ≤ 1 → exec (.fenceNode p) s =
      .next (s.onDev (fun _ => d'.logInput 0x01 68 (.fence (par p' 22 1) (par p' 23 1) (par p' 24 1 == 1) false) (some (refOf p s.dev))))) ∧
    (8 ≤ par p' 22 1 ∨ 64 ≤ par p' 23 1 ∨ 1 < par p' 24 1 → exec (.fenceNode p) s =
      .next (s.onDev (fun _ => d'.complete (refOf p s.dev) stBAD_PARAMETER d'.now []))))

/-- A frame that fails the mirror's checks has no effect but what the check itself does (a torn log frame of a standby's cycle also marks its log bad). A lease of the present epoch is kept with its cycle and its lease in force; of another epoch, or at a holder, it is not. A log frame of the present cycle joins the received parts, of another cycle or elsewhere it does not. A correction in pipelined timing drops the records of the missing positions; outside Shadow, of another cycle or for a segment without a block it does nothing. While a standby resynchronises it takes the stop-group latches of the digest frame (the model's choice, log entry 107). Otherwise digests are compared at once when the standby's axes are all completed, or kept, by a standby that compares; otherwise they do nothing. A slice within a sweep is loaded and noted; outside Shadow, too old, out of the sweep, or without a sweep where the standby does not compare, it does nothing. Bulk parts are kept until the last frame, which ends the transfer; without a bulk transfer they do nothing. -/
def Obligations.StandbyTakesTheHoldersFrames : Prop :=
  (∀ (s : State) (l : Fin 2) (hdr : List Byte) (ok : Bool) (d1 : Dev) (sg : Fin 8) (crcs : List (Option Nat)) (m : BitVec 64) (full : List (Nat × List Byte))
      (ds : List Nat) (la : BitVec 16) (data : List Byte) (pr : BitVec 18) (no : Option (Nat × Nat)) (ps : List BulkPart) (c : MirControl),
    (s.dev.mirIn l.val 7 hdr ok = (none, d1) → exec (.summaryFrame l hdr ok sg crcs) s = .next (s.onDev (fun _ => d1))) ∧
    (s.dev.mirIn l.val 4 hdr ok = (none, d1) → exec (.correctionFrame l hdr ok sg m full) s = .next (s.onDev (fun _ => d1))) ∧
    (s.dev.mirIn l.val 5 hdr ok = (none, d1) → exec (.digestFrame l hdr ok ds la) s = .next (s.onDev (fun _ => d1))) ∧
    (s.dev.mirIn l.val 6 hdr ok = (none, d1) → exec (.sliceFrame l hdr ok data) s = .next (s.onDev (fun _ => d1))) ∧
    (s.dev.mirIn l.val 8 hdr ok = (none, d1) → exec (.reportFrame l hdr ok pr no) s = .next (s.onDev (fun _ => d1))) ∧
    (s.dev.mirIn l.val 9 hdr ok = (none, d1) → exec (.bulkFrame l hdr ok ps) s = .next (s.onDev (fun _ => d1))) ∧
    (s.dev.mirIn l.val 10 hdr ok = (none, d1) → exec (.controlFrame l hdr ok c) s = .next (s.onDev (fun _ => d1)))) ∧
  (∀ (s : State) (l : Fin 2) (b pay : List Byte) (h : MirHdr) (d1 : Dev), pay = (b.drop 16).take 96 →
    s.dev.mirIn l.val 2 b (b.length == 116 && crc32 pay == fieldAt b 112 4) = (some h, d1) → d1.permit = false →
    (fieldAt pay 0 4 = d1.rd MIR_EPOCH → ∃ t, exec (.leaseFrame l b) s = .next t ∧ t.dev.mir.lease = some (h.cycle, pay) ∧
      t.dev.get MIR_LEASE.IN_FORCE = fieldAt pay 7 1 % 128) ∧
    (fieldAt pay 0 4 ≠ d1.rd MIR_EPOCH → exec (.leaseFrame l b) s = .next (s.onDev (fun _ => d1)))) ∧
  (∀ (s : State) (l : Fin 2) (b : List Byte) (r : Option MirHdr) (d1 : Dev),
    s.dev.mirIn l.val 2 b (b.length == 116 && crc32 ((b.drop 16).take 96) == fieldAt b 112 4) = (r, d1) → r = none ∨ d1.permit = true →
      exec (.leaseFrame l b) s = .next (s.onDev (fun _ => d1))) ∧
  (∀ (s : State) (l : Fin 2) (hdr : List Byte) (es : List (Nat × LogAct)) (h : MirHdr) (d1 : Dev), s.dev.mirIn l.val 3 hdr true = (some h, d1) →
    (d1.standby = true → h.cycle = d1.cyc.count → ∃ t, exec (.logFrame l hdr true es) s = .next t ∧
      t.dev.mir.rx = (d1.mir.rx.filter (fun p => p.part != h.part)) ++ [⟨h.part, bitAt h.flags 0, es⟩]) ∧
    (d1.standby = false ∨ h.cycle ≠ d1.cyc.count → exec (.logFrame l hdr true es) s = .next (s.onDev (fun _ => d1)))) ∧
  (∀ (s : State) (l : Fin 2) (hdr : List Byte) (es : List (Nat × LogAct)), (parseMirHdr hdr).ok = true → (parseMirHdr hdr).typ = 3 →
    (parseMirHdr hdr).cycle = s.dev.cyc.count → s.dev.standby = true → s.dev.laneUp l.val = true → 4 ≤ s.dev.mode → ∃ t,
      exec (.logFrame l hdr false es) s = .next t ∧ t.dev.mir.rxBad = true ∧ t.dev.mir.rx = s.dev.mir.rx) ∧
  (∀ (s : State) (l : Fin 2) (hdr : List Byte) (n : Fin 8) (m : BitVec 64) (full : List (Nat × List Byte)) (h : MirHdr) (d1 : Dev),
    s.dev.mirIn l.val 4 hdr true = (some h, d1) → d1.mode ≠ 8 ∨ h.cycle ≠ d1.cyc.count ∨ d1.cyc.running = false ∨ d1.activeBlock n.val = none →
      exec (.correctionFrame l hdr true n m full) s = .next (s.onDev (fun _ => d1))) ∧
  (∀ (s : State) (l : Fin 2) (hdr : List Byte) (n : Fin 8) (m : BitVec 64) (h : MirHdr) (d1 : Dev) (b : SchedBlock), s.dev.mirIn l.val 4 hdr true = (some h, d1) →
    d1.activeBlock n.val = some b → d1.mode = 8 → h.cycle = d1.cyc.count → d1.cyc.running = true → d1.pipelinedTiming = true →
    ∃ t, exec (.correctionFrame l hdr true n m []) s = .next t ∧ ∀ x p, x ∈ d1.binds → x.port = n.val → d1.slotOwner n.val x.slot b = some (some p) → p < 64 →
      bitAt m.toNat p = true → ∀ f ∈ t.dev.eng.fb, f.1 ≠ x.axis) ∧
  (∀ (s : State) (l : Fin 2) (hdr : List Byte) (ds : List Nat) (la : BitVec 16) (h : MirHdr) (d1 : Dev), s.dev.mirIn l.val 5 hdr true = (some h, d1) →
    (d1.mode = 8 → d1.mir.resync ≠ none → exec (.digestFrame l hdr true ds la) s =
      .next (s.onDev (fun _ => { d1 with eng := { d1.eng with latched := la.toNat, complete := la.toNat } }))) ∧
    (d1.comparing = true → d1.mir.resync = none → h.cycle = d1.cyc.count →
    (d1.allDone = true → exec (.digestFrame l hdr true ds la) s = .next (s.onDev (fun _ => d1.compareDigest ds la.toNat))) ∧
    (d1.allDone = false → exec (.digestFrame l hdr true ds la) s =
      .next (s.onDev (fun _ => { d1 with mir := { d1.mir with digest := some (ds, la.toNat) } })))) ∧
    (d1.mode ≠ 8 ∨ d1.mir.resync = none → d1.comparing = false ∨ h.cycle ≠ d1.cyc.count →
      exec (.digestFrame l hdr true ds la) s = .next (s.onDev (fun _ => d1)))) ∧
  (∀ (s : State) (l : Fin 2) (hdr data : List Byte) (h : MirHdr) (d1 : Dev) (f : Nat), s.dev.mirIn l.val 6 hdr true = (some h, d1) →
    (d1.mode ≠ 8 ∨ 1 < d1.cyclesSince h.cycle → exec (.sliceFrame l hdr true data) s = .next (s.onDev (fun _ => d1))) ∧
    (d1.mir.sweepFrom = none → d1.comparing = false → exec (.sliceFrame l hdr true data) s = .next (s.onDev (fun _ => d1))) ∧
    (d1.mir.sweepFrom = some f → 64 ≤ (h.cycle + 2 ^ 32 - f) % 2 ^ 32 → exec (.sliceFrame l hdr true data) s = .next (s.onDev (fun _ => d1))) ∧
    (d1.mode = 8 → d1.cyclesSince h.cycle ≤ 1 → d1.mir.sweepFrom = some f → (h.cycle + 2 ^ 32 - f) % 2 ^ 32 < 64 → ∃ d2,
      d2 = d1.loadSlice (d1.cyclesSince h.cycle) (((d1.sliceAxes (h.cycle % 64)).drop (4 * (h.part % 2))).take 4) data ∧
      exec (.sliceFrame l hdr true data) s = .next (s.onDev (fun _ => { d2 with mir := { d2.mir with loaded := d2.mir.loaded ++ [64 * (h.part % 2) + h.cycle % 64] } })))) ∧
  (∀ (s : State) (l : Fin 2) (hdr : List Byte) (ps : List BulkPart) (h : MirHdr) (d1 : Dev), s.dev.mirIn l.val 9 hdr true = (some h, d1) →
    d1.mode ≠ 8 ∨ d1.on MIR_STATUS.BULK = false ∨ d1.mir.imageDone = true → exec (.bulkFrame l hdr true ps) s = .next (s.onDev (fun _ => d1))) ∧
  (∀ (s : State) (l : Fin 2) (hdr : List Byte) (ps : List BulkPart) (h : MirHdr) (d1 : Dev), s.dev.mirIn l.val 9 hdr true = (some h, d1) → d1.mode = 8 →
    d1.on MIR_STATUS.BULK = true → d1.mir.imageDone = false →
    (bitAt h.flags 0 = false → exec (.bulkFrame l hdr true ps) s = .next (s.onDev (fun _ => { d1 with mir := { d1.mir with parts := d1.mir.parts ++ ps } }))) ∧
    (bitAt h.flags 0 = true → d1.mir.parts = [] → ps = [] → d1.mir.heldLogs = [] → ∃ t, exec (.bulkFrame l hdr true ps) s = .next t ∧ t.dev.mir.imageDone = true ∧
      t.dev.mir.sweepFrom = some (sweepStart d1.cyc.count) ∧ t.dev.on MIR_STATUS.BULK = false))

/-- The holder keeps the summary of the present cycle of an active segment; another controller only takes note of the frame. A report proves the paths that it names at the holder, notes its cycle and, with a notice, begins the incident. A control frame carries a notice, the partner's self-test result, a request for a resynchronisation, a lost log, the end of a resynchronisation, a proved path, a path that failed a drill or the clearing of PAIR_FAULT, and each has its effect; a result without an incident, a path number above 17 and, at another controller than the holder, a lost log and the end of a resynchronisation have none. -/
def Obligations.HolderTakesTheStandbysFrames : Prop :=
  (∀ (s : State) (l : Fin 2) (hdr : List Byte) (n : Fin 8) (crcs : List (Option Nat)) (h : MirHdr) (d1 : Dev) (b : SchedBlock),
    s.dev.mirIn l.val 7 hdr true = (some h, d1) → d1.activeBlock n.val = some b →
    (d1.permit = false ∨ h.cycle ≠ d1.cyc.count ∨ d1.cyc.running = false → exec (.summaryFrame l hdr true n crcs) s = .next (s.onDev (fun _ => d1))) ∧
    (d1.permit = true → h.cycle = d1.cyc.count → d1.cyc.running = true →
      ∃ t, exec (.summaryFrame l hdr true n crcs) s = .next t ∧ t.dev.mir.sums = putKey n.val crcs d1.mir.sums)) ∧
  (∀ (s : State) (l : Fin 2) (hdr : List Byte) (pr : BitVec 18) (h : MirHdr) (d1 d2 : Dev), s.dev.mirIn l.val 8 hdr true = (some h, d1) → d1.permit = true →
    d2 = ({ d1 with mir := { d1.mir with reportAt := some d1.cyc.count } } : Dev).forEach ((List.range 18).filter (fun p => p != 16 && bitAt pr.toNat p)) Dev.prove →
    exec (.reportFrame l hdr true pr none) s = .next (s.onDev (fun _ => d2)) ∧
    (∀ g k : Nat, exec (.reportFrame l hdr true pr (some (g, k))) s = .next (s.onDev (fun _ => d2.takeNotice (g % 32) (k % 8) ((h.cycle + 2 ^ 32 - 1) % 2 ^ 32))))) ∧
  (∀ (s : State) (l : Fin 2) (hdr : List Byte) (pr : BitVec 18) (no : Option (Nat × Nat)) (h : MirHdr) (d1 : Dev), s.dev.mirIn l.val 8 hdr true = (some h, d1) →
    d1.permit = false → exec (.reportFrame l hdr true pr no) s = .next (s.onDev (fun _ => d1))) ∧
  (∀ (s : State) (l : Fin 2) (hdr : List Byte) (h : MirHdr) (d1 : Dev), s.dev.mirIn l.val 10 hdr true = (some h, d1) →
    (∀ g k x : Nat, exec (.controlFrame l hdr true (.selfTest g k x)) s = .next (s.onDev (fun _ => d1.takeNotice (g % 32) (k % 8) (x % 2 ^ 32)))) ∧
    (∀ (i : Incident) (good : Bool), d1.mir.incident = some i → exec (.controlFrame l hdr true (.result good)) s =
      .next (s.onDev (fun _ => { d1 with mir := { d1.mir with incident := some { i with peer := some good } } }))) ∧
    (∀ good : Bool, d1.mir.incident = none → exec (.controlFrame l hdr true (.result good)) s = .next (s.onDev (fun _ => d1))) ∧
    (∀ full bulk : Bool, (d1.permit = true → exec (.controlFrame l hdr true (.resync full bulk)) s = .next (s.onDev (fun _ => d1.startResync full bulk))) ∧
      (d1.permit = false → d1.mode = 8 → exec (.controlFrame l hdr true (.resync full bulk)) s = .next (s.onDev (fun _ => d1.askResync full bulk))) ∧
      (d1.permit = false → d1.mode ≠ 8 → exec (.controlFrame l hdr true (.resync full bulk)) s = .next (s.onDev (fun _ => d1)))) ∧
    (∀ c : Nat, (d1.permit = true → exec (.controlFrame l hdr true (.logLost c)) s = .next (s.onDev (fun _ => d1.noteIncident))) ∧
      (d1.permit = false → exec (.controlFrame l hdr true (.logLost c)) s = .next (s.onDev (fun _ => d1)))) ∧
    (d1.permit = true → ∃ t, exec (.controlFrame l hdr true .synced) s = .next t ∧ t.dev.on MIR_STATUS.SYNCED = true ∧ t.dev.mir.resync = none ∧ t.dev.mir.bulkLeft = 0) ∧
    (d1.permit = false → exec (.controlFrame l hdr true .synced) s = .next (s.onDev (fun _ => d1))) ∧
    (∀ p : Nat, (p < 18 → p ≠ 16 → exec (.controlFrame l hdr true (.proved p)) s = .next (s.onDev (fun _ => d1.prove p))) ∧
      (p < 18 → exec (.controlFrame l hdr true (.failed p)) s = .next (s.onDev (fun _ => d1.pathFailed p))) ∧
      (18 ≤ p → exec (.controlFrame l hdr true (.proved p)) s = .next (s.onDev (fun _ => d1)) ∧
        exec (.controlFrame l hdr true (.failed p)) s = .next (s.onDev (fun _ => d1)))) ∧
    (∃ t, exec (.controlFrame l hdr true (.proved 16)) s = .next t ∧ t.dev.mir.confirmed = putKey 16 (nsOf d1.now) d1.mir.confirmed ∧
      ∃ u, exec (.controlFrame l hdr true .clearFault) s = .next u ∧ u.dev.on MIR_STATUS.PAIR_FAULT = false ∧ u.dev.hasCond condPAIR_FAULT = false))

/-- A standby whose lease has run out takes the permit and sends bells, unless the fence is enabled and PERMIT_IN is active: then it only sends bells, and says so once. A lease that runs, no lease, another controller than a standby and a handover at the present bell leave everything. A holder's downlink with a bad header or an unknown type, or a fitting one with a bad payload, is counted; it is ignored by the holder, of another type, cycle or source, and without an active segment; a fitting one is noted by a controller that is not in Shadow, and compared by a synchronised standby: equal records of completed axes record no incident. The outcome of an incident that both sides passed is posted as row 1 (a standby asks for a resynchronisation); one that only the holder failed makes the holder log that the permit passes, and one that only the standby failed ends the synchronisation; without results and within 64 cycles of the notice there is no outcome. PERMIT_IN becomes active at an edge and inactive after its timeout. A drill proof that does not come voids the path. -/
def Obligations.PermitPassesOnExpiryAndFence : Prop :=
  (∀ s : State, s.dev.cyc.running = true → s.dev.standby = true → s.dev.get MIR_LEASE.IN_FORCE ≠ 0 → s.dev.leaseRuns = false → s.dev.mir.handover = none →
    (s.dev.lget MIR_CTRL.FENCE_EN = 1 → s.dev.on MIR_STATUS.PERMIT_IN = true →
      (s.dev.mir.fenceSaid = true → exec .leaseExpiry s = .next (s.onDev Dev.sendBells)) ∧
      (s.dev.mir.fenceSaid = false → exec .leaseExpiry s = .next (s.onDev (fun d =>
        (Dev.pairFault 2 (Dev.post 0x01C0 0x01CC [] { d with mir := { d.mir with fenceSaid := true } })).sendBells)))) ∧
    (s.dev.lget MIR_CTRL.FENCE_EN ≠ 1 ∨ s.dev.on MIR_STATUS.PERMIT_IN = false → exec .leaseExpiry s =
      .next (s.onDev (fun d => (((d.standbyTakes 8).when (d.standbyTakes 8).permit Dev.sendLease).sendBells).forEach (d.standbyTakes 8).linePorts Dev.showCycle)))) ∧
  (∀ s : State, s.dev.leaseRuns = true ∨ s.dev.get MIR_LEASE.IN_FORCE = 0 ∨ s.dev.standby = false ∨ s.dev.cyc.running = false → exec .leaseExpiry s = .next s) ∧
  (∀ (s : State) (h : Handover), s.dev.mir.handover = some h → h.bell = s.dev.cyc.count → exec .leaseExpiry s = .next s) ∧
  (∀ (s : State) (n : Fin 8) (c : Fin 2) (b : List Byte) (k : SchedBlock), s.dev.cyc.running = true → s.dev.activeBlock n.val = some k →
    ((parseFrame b).hdrOk = false ∨ knownType (parseFrame b).typ = false → exec (.holderDownlinkFrame n c b) s = .next (s.onDev (Dev.crcErr n.val c.val))) ∧
    ((parseFrame b).hdrOk = true → knownType (parseFrame b).typ = true →
      s.dev.permit = true ∨ (parseFrame b).typ ≠ 3 ∨ (parseFrame b).cycle ≠ s.dev.cyc.count ∨ s.dev.farSource n.val (parseFrame b).src = false ∨
        k.slots[(parseFrame b).slot]? = none → exec (.holderDownlinkFrame n c b) s = .next s)) ∧
  (∀ (s : State) (n : Fin 8) (c : Fin 2) (b : List Byte), s.dev.cyc.running = false ∨ s.dev.activeBlock n.val = none →
    exec (.holderDownlinkFrame n c b) s = .next s) ∧
  (∀ (s : State) (n : Fin 8) (c : Fin 2) (b : List Byte) (k : SchedBlock) (e : SlotEntry), s.dev.cyc.running = true → s.dev.activeBlock n.val = some k →
    (parseFrame b).hdrOk = true → (parseFrame b).typ = 3 → (parseFrame b).cycle = s.dev.cyc.count → s.dev.permit = false →
    s.dev.farSource n.val (parseFrame b).src = true → k.slots[(parseFrame b).slot]? = some e → e.kind = (if s.dev.headEnd n.val then 4 else 3) →
    ((parseFrame b).bodyOk = false → exec (.holderDownlinkFrame n c b) s = .next (s.onDev (Dev.crcErr n.val c.val))) ∧
    ((parseFrame b).bodyOk = true →
      (s.dev.mode ≠ 8 → ∃ t, exec (.holderDownlinkFrame n c b) s = .next t ∧ t.dev.mir.downs = s.dev.mir.downs ++ [16 + 8 * c.val + n.val]) ∧
      (s.dev.comparing = true → (∀ x ∈ s.dev.binds, x.port = n.val → 16 * x.record + 16 ≤ (parseFrame b).payload.length →
          (s.dev.axis x.axis).standing ≠ 0 ∧ (((parseFrame b).payload.drop (16 * x.record)).take 16) = s.dev.downRecord x.axis ∧
          bitAt (fieldAt (((parseFrame b).payload.drop (16 * x.record)).take 16) 12 2) 1 = false) →
        ∃ t, exec (.holderDownlinkFrame n c b) s = .next t ∧ t.dev.mir.downs = s.dev.mir.downs ++ [16 + 8 * c.val + n.val] ++ [8 * c.val + n.val] ∧
          t.dev.mir.incident = s.dev.mir.incident))) ∧
  (∀ (s : State) (g k c n : Nat) (d1 : Dev), s.dev.mir.incident = some ⟨g, k, c, some n, some true, some true⟩ →
    d1 = Dev.post 0x01C0 0x01C7 (leBytes 1 g ++ leBytes 1 k ++ leBytes 4 c ++ leBytes 1 1) { s.dev with mir := { s.dev.mir with incident := none } } →
    exec .divergenceOutcome s = .next (s.onDev (fun _ => if s.dev.mode = 8 then d1.askResync false false else d1))) ∧
  (∀ (s : State) (g k c n : Nat), s.dev.mir.incident = some ⟨g, k, c, some n, some false, some true⟩ → s.dev.permit = true →
    ∃ t, exec .divergenceOutcome s = .next t ∧ t.dev.cyc.waiting = s.dev.cyc.waiting ++ [⟨0x01, 68, .permit 2 0, none⟩] ∧ t.dev.on MIR_STATUS.PAIR_FAULT = true ∧
      t.dev.mir.incident = none) ∧
  (∀ (s : State) (g k c n : Nat), s.dev.mir.incident = some ⟨g, k, c, some n, some true, some false⟩ → s.dev.permit = true → s.dev.mode ≠ 8 →
    ∃ t, exec .divergenceOutcome s = .next t ∧ t.dev.on MIR_STATUS.PAIR_FAULT = true ∧ t.dev.on MIR_STATUS.SYNCED = false ∧ t.dev.permit = true ∧
      t.dev.mir.incident = none) ∧
  (∀ s : State, s.dev.mir.incident = none → exec .divergenceOutcome s = .next s) ∧
  (∀ (s : State) (i : Incident), s.dev.mir.incident = some i → i.notice = none → exec .divergenceOutcome s = .next s) ∧
  (∀ (s : State) (i : Incident) (n : Nat), s.dev.mir.incident = some i → i.notice = some n → i.own = none ∨ i.peer = none → s.dev.cyclesSince n < 64 →
    exec .divergenceOutcome s = .next s) ∧
  (∀ s : State, ∃ t, exec .permitInEdge s = .next t ∧ t.dev.on MIR_STATUS.PERMIT_IN = true) ∧
  (∀ s : State, exec .permitInTimeout s = .next (s.onDev (Dev.set MIR_STATUS.PERMIT_IN 0))) ∧
  (∀ (s : State) (p : Fin 2), s.dev.mir.drill = none → exec (.drillProofTimeout p) s = .next s) ∧
  (∀ (s : State) (p : Fin 2) (x : Drill), s.dev.mir.drill = some x →
    (x.awaiting.contains (16 + p.val) = false → exec (.drillProofTimeout p) s = .next s) ∧
    (x.awaiting.contains (16 + p.val) = true → exec (.drillProofTimeout p) s = .next (s.onDev (fun d =>
      Dev.drillFailed (16 + p.val) false { d with mir := { d.mir with drill := some { x with awaiting := x.awaiting.filter (· ≠ 16 + p.val) } } }))))

/-- From Configure on, a lane that gains or loses block lock shows in LANES and starts its exchanges over, and PARTNER_ABSENT follows; a lock that says what LANES says, and everything before Configure, changes nothing. 1 ms of silence takes the mirror down. A due HELLO goes out on a lane that is up. A HELLO frame with a bad checksum, length or header is counted on its lane; a good one becomes the partner's record and is kept to be echoed; a frame of another type and a lane that is down do nothing. PAIR_STATUS completes OK with 16 bytes that start with the role. SWAP_DRILL and RELEASE_PERMIT are logged unless a handover or resynchronisation is pending: then BUSY; a hand-back outside 64 to 1,000,000,000 cycles is BAD_PARAMETER. RESYNC_STANDBY clears PAIR_FAULT at both controllers and asks for a resynchronisation. MIR_APPLY captures MIR_CTRL when its rules hold and is refused otherwise; while a commit waits it does nothing. -/
def Obligations.MirrorLinkAndPairPackets : Prop :=
  (∀ (s : State) (l : Fin 2) (v : Bool), 4 ≤ s.dev.mode → s.dev.laneUp l.val ≠ v → ∃ d1,
    d1 = (s.dev.set MIR_STATUS.LANES (withBits (s.dev.get MIR_STATUS.LANES) l.val l.val (flag v))).setLane l.val MirLane.reset ∧ d1.laneUp l.val = v ∧
    ∃ d2, d2 = ({ d1 with mir := { d1.mir with quiet := s.dev.mir.quiet && !v } } : Dev) ∧
    exec (.mirrorLaneLock l v) s = .next (s.onDev (fun _ => if d2.get MIR_STATUS.LANES = 0 then d2.mirrorDown.showAbsent else d2.showAbsent))) ∧
  (∀ (s : State) (l : Fin 2) (v : Bool), s.dev.mode < 4 ∨ s.dev.laneUp l.val = v → exec (.mirrorLaneLock l v) s = .next s) ∧
  (∀ (s : State) (l : Fin 2) (b : List Byte), s.dev.mode < 4 → exec .mirrorSilenceTimeout s = .next s ∧ exec (.helloTimer l) s = .next s ∧
    exec (.helloFrame l b) s = .next s) ∧
  (∀ (s : State) (l : Fin 2) (b : List Byte), s.dev.laneUp l.val = false → exec (.helloTimer l) s = .next s ∧ exec (.helloFrame l b) s = .next s) ∧
  (∀ s : State, 4 ≤ s.dev.mode → s.dev.mir.up = true → ∃ t, exec .mirrorSilenceTimeout s = .next t ∧ t.dev.mir.up = false ∧ t.dev.on MIR_STATUS.COMPATIBLE = false) ∧
  (∀ (s : State) (l : Fin 2), 4 ≤ s.dev.mode → s.dev.laneUp l.val = true → exec (.helloTimer l) s = .next (s.onDev (fun d =>
    d.emit (.mirror l.val (d.mirHdr 1 0 (d.helloBytes l.val).length 0 ++ d.helloBytes l.val ++ leBytes 4 (crc32 (d.helloBytes l.val))))))) ∧
  (∀ (s : State) (l : Fin 2) (b : List Byte), 4 ≤ s.dev.mode → s.dev.laneUp l.val = true →
    ((parseMirHdr b).ok = false ∨ b.length ≠ 84 ∨ (parseMirHdr b).len ≠ 64 ∨ crc32 ((b.drop 16).take 64) ≠ fieldAt b 80 4 →
      exec (.helloFrame l b) s = .next (s.onDev (Dev.mirCrc l.val))) ∧
    ((parseMirHdr b).ok = true → b.length = 84 → (parseMirHdr b).len = 64 → crc32 ((b.drop 16).take 64) = fieldAt b 80 4 →
      ((parseMirHdr b).typ = 1 → ∃ t, exec (.helloFrame l b) s = .next t ∧ t.dev.mir.peer = some ((b.drop 16).take 64) ∧
        (t.dev.lane l.val).echo = some (fieldAt b 48 10, s.dev.now)) ∧
      ((parseMirHdr b).typ ≠ 1 → exec (.helloFrame l b) s = .next s))) ∧
  (∀ s p p' d', Runs opPairStatus p s.dev p' d' → ∃ res, exec (.pairStatus p) s =
      .next (s.onDev (fun _ => d'.draw.2.complete (refOf p s.dev) stOK d'.now res)) ∧ res.length = 16 ∧ res.take 1 = leBytes 1 (d'.get MIR_STATUS.ROLE) ∧
      (res.drop 4).take 4 = leBytes 4 (d'.rd MIR_EPOCH)) ∧
  (∀ s p p' d', Runs opSwapDrill p s.dev p' d' → (bitAt (par p' 22 1) 0 = false ∨ (64 ≤ par p' 24 4 ∧ par p' 24 4 ≤ 1000000000)) →
    (d'.passBusy = false → exec (.swapDrill p) s = .next (s.onDev (fun _ =>
      d'.logInput 0x01 68 (.permit 0 (if bitAt (par p' 22 1) 0 then par p' 24 4 else 0)) (some (refOf p s.dev))))) ∧
    (d'.passBusy = true → exec (.swapDrill p) s = .next (s.onDev (fun _ => d'.complete (refOf p s.dev) stBUSY d'.now [])))) ∧
  (∀ s p p' d', Runs opSwapDrill p s.dev p' d' → bitAt (par p' 22 1) 0 = true → (par p' 24 4 < 64 ∨ 1000000000 < par p' 24 4) →
    exec (.swapDrill p) s = .next (s.onDev (fun _ => d'.complete (refOf p s.dev) stBAD_PARAMETER d'.now []))) ∧
  (∀ s p p' d', Runs opReleasePermit p s.dev p' d' →
    (d'.passBusy = false → exec (.releasePermit p) s = .next (s.onDev (fun _ => d'.logInput 0x01 68 (.permit 1 0) (some (refOf p s.dev))))) ∧
    (d'.passBusy = true → exec (.releasePermit p) s = .next (s.onDev (fun _ => d'.complete (refOf p s.dev) stBUSY d'.now [])))) ∧
  (∀ s p p' d' d1 f d2, Runs opResync p s.dev p' d' → d1 = d'.clearPairFault.mirControl .clearFault → f = bitAt (par p' 22 1) 0 →
    d2 = (if d1.permit then Dev.mirControl (.resync f f) { d1 with mir := { d1.mir with resync := some f } } else d1.askResync f f) →
    exec (.resyncStandby p) s = .next (s.onDev (fun _ => d2.complete (refOf p s.dev) stACCEPTED d2.now []))) ∧
  (∀ s : State, s.dev.on MIR_APPLY.APPLY = true → exec .mirApply s = .next s) ∧
  (∀ s : State, s.dev.on MIR_APPLY.APPLY = false →
    ((s.dev.pairRules (s.dev.get MIR_CTRL.LEASE) (s.dev.cyc.active.toList ++ s.dev.cyc.pending.toList)).orElse
        (fun _ => s.dev.safetyFailWith [] (s.dev.get MIR_CTRL.LEASE)) = none →
      exec .mirApply s = .next (s.onDev (fun d => ((d.set MIR_APPLY.REFUSED 0).set MIR_APPLY.APPLY 1).holdCommit 0x01C0 (d.capture [MIR_CTRL]) none))) ∧
    ((s.dev.pairRules (s.dev.get MIR_CTRL.LEASE) (s.dev.cyc.active.toList ++ s.dev.cyc.pending.toList)).orElse
        (fun _ => s.dev.safetyFailWith [] (s.dev.get MIR_CTRL.LEASE)) ≠ none →
      exec .mirApply s = .next (s.onDev (Dev.set MIR_APPLY.REFUSED 1))))

/-- Before cycles run a cycle boundary only takes a due reset, but in Service it starts a test schedule at its first bell, with cycle 0 (the model's choice, log entry 92). While cycles run, the count advances by one modulo 2^32, the reference instant by the period, the log is open and empty again, the closed log enters the law, and what waited for the bell takes effect before the new cycle opens. The input log of a running cycle is closed after its close, and its close does nothing outside a running open cycle. Outside running cycles, from Boot on, and after a Join until the first bell of this controller, the millisecond close of a whole millisecond enters every waiting input at that instant, once; otherwise it does nothing. The guard reaches its start, sends what is still open on the downlinks and serves the sources of line time, the servo, PPS, traces, registrations, stores, CAN, missed axes, the pair and the events in this order. -/
def Obligations.BoundaryAndLogsOpenTheNextCycle : Prop :=
  (∀ s : State, s.dev.cyc.running = false → s.dev.mode ≠ 11 → exec .cycleBoundary s = .next s.takeReset) ∧
  (∀ s : State, s.dev.cyc.running = false → s.dev.mode = 11 → s.dev.cyc.working = none → exec .cycleBoundary s = .next s.takeReset) ∧
  (∀ (s : State) (g : Generation), s.dev.cyc.running = false → s.dev.mode = 11 → s.dev.cyc.working = some g → ∃ d1, d1 = s.dev.startTest ∧
    d1.cyc.running = true ∧ d1.cyc.count = 0 ∧ d1.cyc.ref = s.dev.now ∧ d1.cyc.closed = false ∧ d1.cyc.log = [] ∧
    exec .cycleBoundary s = .next (s.onDev (fun _ => d1)).takeReset) ∧
  (∀ s : State, s.dev.cyc.running = true → ∃ r, r = s.dev.closeCycle ∧ r.2.cyc.count = (s.dev.cyc.count + 1) % 2 ^ 32 ∧
    r.2.cyc.ref = s.dev.cyc.ref + ns s.dev.periodNs ∧ r.2.cyc.closed = false ∧ r.2.cyc.log = [] ∧ r.2.eng.host = [] ∧
    exec .cycleBoundary s = .next (s.onDev (fun d =>
      ((r.2.enterLaw d.standby r.1 d.cyc.log).atBell d.cyc.count d.partnerHolds).openCycle)).takeReset) ∧
  (∀ s : State, s.dev.cyc.running = false ∨ s.dev.cyc.closed = true → exec .inputLogClose s = .next s) ∧
  (∀ s : State, s.dev.cyc.running = true → s.dev.cyc.closed = false → ∃ t, exec .inputLogClose s = .next t ∧ t.dev.cyc.closed = true) ∧
  (∀ (s : State) (k : Nat), k = (s.dev.now + ns 500000) / ns 1000000 →
    (s.dev.cyc.running = true ∧ s.dev.cyc.preBell = false) ∨ s.dev.mode < 2 ∨ s.dev.cyc.msDone = some k → exec .msLogClose s = .next s.takeReset) ∧
  (∀ (s : State) (k t : Nat) (d1 d2 d3 : Dev), k = (s.dev.now + ns 500000) / ns 1000000 → t = k * ns 1000000 →
    s.dev.cyc.running = false ∨ s.dev.cyc.preBell = true → 2 ≤ s.dev.mode → s.dev.cyc.msDone ≠ some k → d1 = s.dev.reach t →
    d2 = ({ d1 with cyc := { d1.cyc with waiting := [], partsSent := 0, msDone := some k } } : Dev).forEach s.dev.cyc.waiting
      (Dev.enterLogged (stopsOf (s.dev.cyc.waiting.map (·.act))) t) →
    d3 = ((d2.goCommits t).modeNow false).when (((d2.goCommits t).modeNow false).mode = 11) Dev.traceBoundary →
    exec .msLogClose s = .next (s.onDev (fun _ => ((d3.when (4 ≤ d3.mode) Dev.showAbsent).showChannels.storeGuard.canGuard).flushEvents)).takeReset) ∧
  (∀ s : State, s.dev.cyc.running = false → exec .guardStart s = .next s) ∧
  (∀ (s : State) (a : Generation) (b : SchedBlock), s.dev.cyc.running = true → s.dev.cyc.active = some a → a.blocks.head? = some b → exec .guardStart s =
    .next (s.onDev (fun d => ((((((((((d.reach (d.cyc.ref + quanta b.guard)).forEach d.linePorts Dev.forceDown).rankSources.servo).steerPps).traceGuard).regGuard).storeGuard).canGuard).missEvents).pairGuard).flushEvents)))

/-- A bell before cycles run and outside Join does nothing. A frame with a bad header or of an unknown type is counted on its channel. A frame of another type than a bell, and a bell outside a bell slot of its source, of another cycle of running cycles or of another generation is not taken, though a bell ends the silence that a founder times; one with a bad payload is counted. A good bell of the active generation is taken while cycles run, and in Join one of the working generation goes to the join. A backup master that has heard no bell of a higher rank at any port by its wait sends its own and acts; one that has heard it, sends already or is no backup does nothing. The listen time's end without bells lets a founding controller time a silent cycle, whose end founds the line or first waits for the PPS edge. The join limit returns to Configure with cause 7. Outside Join these timers do nothing. -/
def Obligations.BellsAreTakenAndTheLineIsJoined : Prop :=
  (∀ (s : State) (n : Fin 10) (c : Fin 2) (rx : BitVec 80) (b : List Byte), s.dev.cyc.running = false → s.dev.mode ≠ 5 ∨ s.dev.cyc.join = none →
    exec (.bellReceived n c rx b) s = .next s) ∧
  (∀ (s : State) (n : Fin 10) (c : Fin 2) (rx : BitVec 80) (b : List Byte), s.dev.cyc.running = true ∨ (s.dev.mode = 5 ∧ s.dev.cyc.join ≠ none) →
    (parseFrame b).hdrOk = false ∨ knownType (parseFrame b).typ = false → exec (.bellReceived n c rx b) s = .next (s.onDev (Dev.crcErr n.val c.val))) ∧
  (∀ (s : State) (n : Fin 10) (c : Fin 2) (rx : BitVec 80) (b : List Byte) (k : SchedBlock) (d1 : Dev), s.dev.cyc.running = true → s.dev.mode ≠ 5 ∨ s.dev.cyc.join = none →
    s.dev.activeBlock n.val = some k → (parseFrame b).hdrOk = true → knownType (parseFrame b).typ = true →
    d1 = ({ s.dev with cyc := { s.dev.cyc with join := s.dev.cyc.join.map (fun (j : Join) => { j with silent := false }) } } : Dev) →
    ((parseFrame b).typ ≠ 1 → exec (.bellReceived n c rx b) s = .next s) ∧
    ((parseFrame b).typ = 1 → (parseFrame b).cycle ≠ s.dev.cyc.count ∨ k.slots[(parseFrame b).slot]? = none → exec (.bellReceived n c rx b) s = .next (s.onDev (fun _ => d1))) ∧
    (∀ e : SlotEntry, k.slots[(parseFrame b).slot]? = some e → s.dev.bellSource n.val (parseFrame b).src e = false → (parseFrame b).typ = 1 →
      exec (.bellReceived n c rx b) s = .next (s.onDev (fun _ => d1))) ∧
    (∀ e : SlotEntry, k.slots[(parseFrame b).slot]? = some e → s.dev.bellSource n.val (parseFrame b).src e = true → (parseFrame b).typ = 1 →
      (parseFrame b).cycle = s.dev.cyc.count →
      ((parseFrame b).bodyOk = false ∨ (parseFrame b).payload.length ≠ 40 → exec (.bellReceived n c rx b) s = .next (s.onDev (fun _ => d1.crcErr n.val c.val))) ∧
      ((parseFrame b).bodyOk = true → (parseFrame b).payload.length = 40 → fieldAt (parseFrame b).payload 10 2 ≠ k.gen → exec (.bellReceived n c rx b) s = .next (s.onDev (fun _ => d1))) ∧
      ((parseFrame b).bodyOk = true → (parseFrame b).payload.length = 40 → fieldAt (parseFrame b).payload 10 2 = k.gen →
        exec (.bellReceived n c rx b) s = .next (s.onDev (fun _ => d1.takeBell n.val c.val rx.toNat (parseFrame b) k))))) ∧
  (∀ (s : State) (n : Fin 10) (c : Fin 2) (rx : BitVec 80) (b : List Byte) (j : Join) (k : SchedBlock) (e : SlotEntry) (d1 : Dev), s.dev.mode = 5 →
    s.dev.cyc.join = some j → s.dev.planBlock n.val = some k → (parseFrame b).hdrOk = true → (parseFrame b).typ = 1 →
    k.slots[(parseFrame b).slot]? = some e → d1 = { s.dev with cyc := { s.dev.cyc with join := some { j with silent := false } } } →
    (s.dev.bellSource n.val (parseFrame b).src e = false → exec (.bellReceived n c rx b) s = .next (s.onDev (fun _ => d1))) ∧
    (s.dev.bellSource n.val (parseFrame b).src e = true → (parseFrame b).bodyOk = true → (parseFrame b).payload.length = 40 →
      (fieldAt (parseFrame b).payload 10 2 = k.gen → exec (.bellReceived n c rx b) s = .next (s.onDev (fun _ => d1.joinBell n.val c.val rx.toNat (parseFrame b) k))) ∧
      (fieldAt (parseFrame b).payload 10 2 ≠ k.gen → exec (.bellReceived n c rx b) s = .next (s.onDev (fun _ => d1))))) ∧
  (∀ (s : State) (n : Fin 8) (k : SchedBlock), s.dev.cyc.running = true → s.dev.rank ≠ 0 → s.dev.linePorts.contains n.val = true → s.dev.activeBlock n.val = some k →
    (s.dev.port n.val).acting = false → (s.dev.port n.val).sentBell = false → s.dev.heardAbove s.dev.rank = false →
    ∃ t, exec (.backupBellWait n) s = .next t ∧ (t.dev.port n.val).acting = true ∧ (t.dev.port n.val).sentBell = true ∧ t.dev.on (NLS_SCHED_STATUS.ACTING n.val) = true) ∧
  (∀ (s : State) (n : Fin 8), s.dev.cyc.running = false ∨ s.dev.rank = 0 ∨ s.dev.linePorts.contains n.val = false ∨ (s.dev.port n.val).acting = true ∨
    (s.dev.port n.val).sentBell = true ∨ s.dev.heardAbove s.dev.rank = true → exec (.backupBellWait n) s = .next s) ∧
  (∀ s : State, s.dev.cyc.join = none ∨ s.dev.mode ≠ 5 → exec .joinListenExpiry s = .next s ∧ exec .silentCycleEnd s = .next s ∧ exec .joinLimitExpiry s = .next s) ∧
  (∀ (s : State) (j : Join), s.dev.cyc.join = some j → s.dev.mode = 5 →
    (j.listened = true → exec .joinListenExpiry s = .next s) ∧
    (j.listened = false → exec .joinListenExpiry s = .next (s.onDev (fun d => { d with cyc := { d.cyc with join := some { j with listened := true, silent := (j.bells.isEmpty && (d.sys.package.map (·.founding)).getD false) } } }))) ∧
    (j.silent = false ∨ s.dev.ltm.alignWait = true → exec .silentCycleEnd s = .next s) ∧
    (j.silent = true → s.dev.ltm.alignWait = false → (s.dev.sys.package.map (·.ppsAlign)).getD false = false → exec .silentCycleEnd s = .next (s.onDev Dev.found)) ∧
    (j.silent = true → s.dev.ltm.alignWait = false → (s.dev.sys.package.map (·.ppsAlign)).getD false = true →
      exec .silentCycleEnd s = .next (s.onDev (fun d => { d with ltm := { d.ltm with alignWait := true } }))) ∧
    (∃ d1, d1 = (s.dev.post 0 0x0011 (leBytes 1 (flag (!j.bells.isEmpty)))).enterMode 4 7 0 none false ∧ d1.mode = 4 ∧
      exec .joinLimitExpiry s = .next (s.onDev (fun _ => d1))))

/-- Before cycles run, without a block or a slot of this end, and in the guard, a downlink or controller slot does nothing. In its downlink slot the controller that drives the line (the permit holder, or the head end before any permit is taken) abandons the axes whose deadline lies before the slot and begins the frame with the records of the segment's axes; where none is due and every record is settled, the frame goes out on a ready channel A with those records. Another controller sends a stop frame only on the segments where it shows stop frames. A controller slot of the other end, or without a time at this end, does nothing; an asynchronous slot of a segment carries what waits for it, the slot after the own bell on a trunk the status frame, and a safety slot the safety PDUs there are. -/
def Obligations.ControllerFramesLeaveInTheirSlots : Prop :=
  (∀ (s : State) (n : Fin 8), s.dev.cyc.running = false ∨ s.dev.activeBlock n.val = none → exec (.downlinkSlot n) s = .next s) ∧
  (∀ (s : State) (n : Fin 10) (k : Fin 768), s.dev.cyc.running = false ∨ s.dev.activeBlock n.val = none → exec (.controllerSlot n k) s = .next s) ∧
  (∀ (s : State) (n : Fin 8) (b : SchedBlock), s.dev.cyc.running = true → s.dev.activeBlock n.val = some b → s.dev.downSlot n.val b = none →
    exec (.downlinkSlot n) s = .next s) ∧
  (∀ (s : State) (n : Fin 8) (b : SchedBlock) (e : SlotEntry) (i : Nat), s.dev.cyc.running = true → s.dev.activeBlock n.val = some b →
    s.dev.downSlot n.val b = some (e, i) → b.guard ≤ entryTime (s.dev.headEnd n.val) e → exec (.downlinkSlot n) s = .next s) ∧
  (∀ (s : State) (n : Fin 8) (b : SchedBlock) (e : SlotEntry) (i : Nat) (d1 : Dev) (due : List Nat), s.dev.cyc.running = true → s.dev.activeBlock n.val = some b →
    s.dev.downSlot n.val b = some (e, i) → entryTime (s.dev.headEnd n.val) e < b.guard → d1 = s.dev.reach (s.dev.slotTime n.val e) →
    due = ((d1.binds.filter (fun x => x.port == n.val)).map (·.axis)).filter (fun a => decide (65536 * d1.deadline a ≤ 30 * (quanta (entryTime (d1.headEnd n.val) e) : Int))) →
    (s.dev.drives = true → exec (.downlinkSlot n) s = .next (s.onDev (fun _ => (d1.forEach due Dev.axisDeadline).beginDown n.val i))) ∧
    (s.dev.drives = true → due = [] → d1.binds.all (fun x => x.port != n.val || d1.settled x.axis) = true → d1.laneReady n.val 0 = true → ∃ t,
      exec (.downlinkSlot n) s = .next t ∧ (t.dev.port n.val).down = none ∧
      Output.frame n.val 0 (frameBytes 3 (2 * flag (d1.binds.any (fun x => x.port == n.val && bitAt (fieldAt (d1.downRecord x.axis) 12 2) 1))) (d1.ownAddr n.val) 0xFFF000 i
        d1.cyc.count (d1.downBytes n.val b e.maxPay d1.downRecord).1) ∈ t.dev.out) ∧
    (s.dev.drives = false → s.dev.mir.stopFrames.contains n.val = false → exec (.downlinkSlot n) s = .next (s.onDev (fun _ => d1))) ∧
    (s.dev.drives = false → s.dev.mir.stopFrames.contains n.val = true → ∃ r, r = d1.downBytes n.val b e.maxPay (fun a =>
        spliceAt (padTo 16 (d1.axis a).lastRecord) 12 (leBytes 2 (Nat.lor (fieldAt (padTo 16 (d1.axis a).lastRecord) 12 2) 6))) ∧
      exec (.downlinkSlot n) s = .next (s.onDev (fun _ => r.2.sendFrame n.val 0 3 2 0xFFF000 i d1.cyc.count r.1)))) ∧
  (∀ (s : State) (n : Fin 10) (k : Fin 768) (b : SchedBlock), s.dev.cyc.running = true → s.dev.activeBlock n.val = some b → b.slots[k.val]? = none →
    exec (.controllerSlot n k) s = .next s) ∧
  (∀ (s : State) (n : Fin 10) (k : Fin 768) (b : SchedBlock) (e : SlotEntry), s.dev.cyc.running = true → s.dev.activeBlock n.val = some b → b.slots[k.val]? = some e →
    sentByHead e ≠ some (s.dev.headEnd n.val) ∨ entryTime (s.dev.headEnd n.val) e = unusedTime ∨ b.guard ≤ entryTime (s.dev.headEnd n.val) e →
    exec (.controllerSlot n k) s = .next s) ∧
  (∀ (s : State) (n : Fin 10) (k : Fin 768) (b : SchedBlock) (e : SlotEntry) (d1 : Dev), s.dev.cyc.running = true → s.dev.activeBlock n.val = some b → b.slots[k.val]? = some e →
    sentByHead e = some (s.dev.headEnd n.val) → entryTime (s.dev.headEnd n.val) e ≠ unusedTime → entryTime (s.dev.headEnd n.val) e < b.guard →
    d1 = s.dev.reach (s.dev.slotTime n.val e) →
    (e.kind = 9 → n.val < 8 → exec (.controllerSlot n k) s = .next (s.onDev (fun _ => d1.asyncSlot n.val k.val e b))) ∧
    (e.kind = 9 → 8 ≤ n.val → k.val = bellSlot b (s.dev.headEnd n.val) + 1 → exec (.controllerSlot n k) s =
      .next (s.onDev (fun _ => d1.sendFrame n.val 0 0x10 0 0xFFF000 k.val d1.cyc.count d1.statusBytes))) ∧
    (e.kind = 6 → n.val < 8 → (d1.safetyPay n.val b).take (e.maxPay / 48 * 48) = [] → exec (.controllerSlot n k) s = .next (s.onDev (fun _ => d1))) ∧
    (e.kind = 6 → n.val < 8 → (d1.safetyPay n.val b).take (e.maxPay / 48 * 48) ≠ [] → exec (.controllerSlot n k) s =
      .next (s.onDev (fun _ => d1.sendFrame n.val 0 4 4 0xFFF000 k.val d1.cyc.count ((d1.safetyPay n.val b).take (e.maxPay / 48 * 48))))) ∧
    (e.kind ≠ 6 → e.kind ≠ 9 → exec (.controllerSlot n k) s = .next (s.onDev (fun _ => d1))))

/-- While lanes run, a free lane in working order starts the next axis of its sequence when it is ready: a bound axis with its host value, where it needs one, runs; a vacant one completes at once with a zero record; one without its host value misses the cycle. Otherwise nothing happens. A completion frees its lane, counts its cycles and computes the axis with its slack, after what the SRAM check found (R38); a lane that runs nothing completes nothing. A deadline outside Shadow of a planned axis that has not completed misses the axis; a completed or unplanned one is left. A lane error abandons the axis of its lane, which misses the cycle outside Shadow. After each of these the downlink frames go out whose records are then settled (R161). A self-test that fails in Join marks the lane failed, and one that passes whole marks it tested; it does not run on a failed lane or before PLL_LANE has locked. CE_APPLY logs the commit of CE_CTRL unless one waits or a standby or bulk transfer stands in its way. -/
def Obligations.LanesComputeTheirSequences : Prop :=
  (∀ (s : State) (l : Fin 32), s.dev.lanesRun = false ∨ bitAt (s.dev.rd CE_LANE_FAILED) l.val = true ∨ s.dev.eng.running.any (fun r => r.1 == l.val) = true ∨
    (laneSeq s.dev.plan l.val)[s.dev.laneIndex l.val]? = none → exec (.laneStart l) s = .next (s.onDev Dev.settleDown)) ∧
  (∀ (s : State) (l : Fin 32) (a : Nat), s.dev.lanesRun = true → bitAt (s.dev.rd CE_LANE_FAILED) l.val = false → s.dev.eng.running.any (fun r => r.1 == l.val) = false →
    (laneSeq s.dev.plan l.val)[s.dev.laneIndex l.val]? = some a →
    (s.dev.axisReady a = false → exec (.laneStart l) s = .next (s.onDev Dev.settleDown)) ∧
    (s.dev.axisReady a = true → s.dev.vacant a = true → ∃ t, exec (.laneStart l) s = .next t ∧ (t.dev.axis a).standing = 3 ∧ (t.dev.axis a).lastRecord = zeros 16 ∧
      t.dev.eng.running = s.dev.eng.running) ∧
    (s.dev.axisReady a = true → s.dev.vacant a = false → (s.dev.hostValue a).1 = false ∨ (s.dev.hostValue a).2 ≠ none →
      ∃ t, exec (.laneStart l) s = .next t ∧ t.dev.eng.running = s.dev.eng.running ++ [(l.val, a)] ∧
        t.dev.eng.done = putKey l.val (s.dev.laneIndex l.val + 1) s.dev.eng.done ∧ t.dev.axes = s.dev.axes) ∧
    (s.dev.axisReady a = true → s.dev.vacant a = false → (s.dev.hostValue a).1 = true → (s.dev.hostValue a).2 = none →
      ∃ t, exec (.laneStart l) s = .next t ∧ (t.dev.axis a).miss = true ∧ t.dev.eng.running = s.dev.eng.running)) ∧
  (∀ (s : State) (l : Fin 32) (c : Fin 361) (x : SramCheck), s.dev.eng.running.find? (fun r => r.1 == l.val) = none →
    exec (.axisComputationDone l c x) s = .next (s.onDev Dev.settleDown)) ∧
  (∀ (s : State) (l : Fin 32) (c : Fin 361) (x : SramCheck) (l' a : Nat) (d1 : Dev), s.dev.eng.running.find? (fun r => r.1 == l.val) = some (l', a) →
    d1 = ((({ s.dev with eng := { s.dev.eng with running := s.dev.eng.running.filter (fun r => r.1 != l.val), busy := putKey l.val (lookupD l.val 0 s.dev.eng.busy + c.val) s.dev.eng.busy } } : Dev).sramFound a x).computeAxis a).identStep a →
    ∃ t, exec (.axisComputationDone l c x) s = .next t ∧ t.dev.axes = d1.axes ∧ t.dev.eng.running = d1.eng.running ∧ t.dev.eng.busy = d1.eng.busy ∧ t.dev.eng.slack = d1.eng.slack ++
      [(a, (65536 * s.dev.deadline a - 30 * ((s.dev.now - s.dev.cyc.ref : Nat) : Int)).fdiv (30 * 65536))]) ∧
  (∀ (s : State) (a : Fin 512), (s.dev.axis a.val).standing ≠ 0 ∨ s.dev.mode = 8 ∨ s.dev.lanesRun = false ∨ s.dev.plan.any (fun e => e.axis == a.val) = false →
    exec (.axisDeadline a) s = .next (s.onDev Dev.settleDown)) ∧
  (∀ (s : State) (a : Fin 512), (s.dev.axis a.val).standing = 0 → s.dev.mode ≠ 8 → s.dev.lanesRun = true → s.dev.plan.any (fun e => e.axis == a.val) = true →
    ∃ t, exec (.axisDeadline a) s = .next t ∧ (t.dev.axis a.val).standing = 2 ∧ (t.dev.axis a.val).miss = true ∧
      (t.dev.axis a.val).missCount = satAdd 32 (s.dev.axis a.val).missCount 1) ∧
  (∀ (s : State) (l : Fin 32), s.dev.eng.running.find? (fun r => r.1 == l.val) = none → exec (.laneError l) s = .next (s.onDev Dev.settleDown)) ∧
  (∀ (s : State) (l : Fin 32) (l' a : Nat), s.dev.eng.running.find? (fun r => r.1 == l.val) = some (l', a) →
    (s.dev.mode = 8 → ∃ t, exec (.laneError l) s = .next t ∧ t.dev.eng.running = s.dev.eng.running.filter (fun r => r.1 != l.val) ∧ t.dev.axes = s.dev.axes) ∧
    (s.dev.mode ≠ 8 → ∃ t, exec (.laneError l) s = .next t ∧ t.dev.eng.running = s.dev.eng.running.filter (fun r => r.1 != l.val) ∧ (t.dev.axis a).miss = true)) ∧
  (∀ (s : State) (l : Fin 32) (w o : Bool), bitAt (s.dev.get CLK_PLL.LOCKED) 2 = false ∨ bitAt (Nat.lor (s.dev.rd CE_LANE_FAILED) s.dev.eng.failing) l.val = true →
    exec (.laneSelftest l w o) s = .next (s.onDev Dev.ownResult)) ∧
  (∀ (s : State) (l : Fin 32) (w : Bool), s.dev.mode = 5 → s.dev.cyc.running = false → bitAt (s.dev.get CLK_PLL.LOCKED) 2 = true →
    bitAt (Nat.lor (s.dev.rd CE_LANE_FAILED) s.dev.eng.failing) l.val = false →
    (∃ t, exec (.laneSelftest l w false) s = .next t ∧ bitAt (t.dev.rd CE_LANE_FAILED) l.val = true ∧ bitAt (t.dev.rd CE_SELFTEST) l.val = false) ∧
    (∃ t, exec (.laneSelftest l true true) s = .next t ∧ t.dev.rd CE_LANE_FAILED = s.dev.rd CE_LANE_FAILED ∧ bitAt (t.dev.rd CE_SELFTEST) l.val = true)) ∧
  (∀ s : State, (s.dev.on CE_APPLY.APPLY = true ∨ s.dev.mode = 8 ∨ s.dev.on MIR_STATUS.BULK = true → exec .ceApply s = .next s) ∧
    (s.dev.on CE_APPLY.APPLY = false → s.dev.mode ≠ 8 → s.dev.on MIR_STATUS.BULK = false → exec .ceApply s =
      .next (s.onDev (fun d => (d.set CE_APPLY.APPLY 1).logInput 0x02 (8 + 8 * ((d.capture [CE_CTRL]).filter (fun w => w.2 != d.liveWord w.1)).length)
        (.commit 0x0400 (d.capture [CE_CTRL])) none))))

/-- CONFIGURE_AXIS of a range inside the parameter window stores the host's words in the axis's shadow words and completes OK; a range outside it or not of words completes BAD_PARAMETER. COMMIT_AXES of a range or of a mask (form 1) whose rules hold is logged with the words that differ once what waits is live; one that breaks a rule completes CONSISTENCY with the rule and its place, one during a bulk transfer BUSY, a mask of another length BAD_LENGTH, another form or range BAD_PARAMETER. ENABLE_AXIS and DISABLE_AXIS of a valid range are logged, of another they complete BAD_PARAMETER. READ_AXIS_STATE writes the parameters (form 0), the 512-byte state (form 1) or both (form 2) of the axis to the host; another axis or form completes BAD_PARAMETER. ACTIVATE_GENERATION of the pending generation with no countdown, no waiting activation and every rule holding is logged; with none of that number pending it completes BAD_PARAMETER, while one is under way BUSY, and with a failing schedule rule CONSISTENCY. -/
def Obligations.AxisParametersAreWrittenAndCommitted : Prop :=
  (∀ s p p' d' bs a o n, Runs opConfigureAxis p s.dev p' d' → p'.host = some bs → a = par p' 22 2 → o = par p' 32 2 → n = par p' 34 2 → a < 512 → o ≤ 0xDFC →
    o % 4 = 0 → 4 ≤ n → n ≤ 3584 → n % 4 = 0 → o + n ≤ 0xE00 → ∃ d1, d1 = d'.forN (n / 4) (fun i => Dev.axWrite a (o + 4 * i) (fieldAt (padTo n bs) (4 * i) 4)) ∧
    exec (.configureAxis p) s = .next (s.onDev (fun _ => d1.complete (refOf p s.dev) stOK d1.now []))) ∧
  (∀ s p p' d', Runs opConfigureAxis p s.dev p' d' → (512 ≤ par p' 22 2 ∨ 0xDFC < par p' 32 2 ∨ par p' 32 2 % 4 ≠ 0 ∨ par p' 34 2 < 4 ∨ 3584 < par p' 34 2 ∨
    par p' 34 2 % 4 ≠ 0 ∨ 0xE00 < par p' 32 2 + par p' 34 2) → exec (.configureAxis p) s = .next (s.onDev (fun _ => d'.complete (refOf p s.dev) stBAD_PARAMETER d'.now []))) ∧
  (∀ s p p' d' axes f, Runs opCommitAxes p s.dev p' d' → (par p' 22 1 = 0 ∧ par p' 24 2 ≤ par p' 26 2 ∧ par p' 26 2 < 512) ∨ (par p' 22 1 = 1 ∧ p'.len.toNat = 4) →
    axes = (if par p' 22 1 = 0 then (List.range (par p' 26 2 + 1 - par p' 24 2)).map (· + par p' 24 2)
      else (List.range 512).filter (fun a => bitAt (leNat (extBytes p' 0 64)) a)) → f = d'.afterCommits →
    (d'.on MIR_STATUS.BULK = true → exec (.commitAxes p) s = .next (s.onDev (fun _ => d'.complete (refOf p s.dev) stBUSY d'.now []))) ∧
    (d'.on MIR_STATUS.BULK = false → f.commitFail axes (axes.flatMap f.axisDiff) = none → exec (.commitAxes p) s =
      .next (s.onDev (fun _ => d'.logInput 0x02 ((axes.map (fun a => commitSize (f.axisDiff a).length)).sum) (.commitAxes axes (axes.flatMap f.axisDiff)) (some (refOf p s.dev))))) ∧
    (d'.on MIR_STATUS.BULK = false → ∀ r : Nat × Nat, f.commitFail axes (axes.flatMap f.axisDiff) = some r → exec (.commitAxes p) s =
      .next (s.onDev (fun _ => d'.complete (refOf p s.dev) stCONSISTENCY d'.now (ruleResult r.1 r.2))))) ∧
  (∀ s p p' d', Runs opCommitAxes p s.dev p' d' →
    (par p' 22 1 = 1 → p'.len.toNat ≠ 4 → exec (.commitAxes p) s = .next (s.onDev (fun _ => d'.complete (refOf p s.dev) stBAD_LENGTH d'.now []))) ∧
    (1 < par p' 22 1 ∨ (par p' 22 1 = 0 ∧ (511 < par p' 26 2 ∨ par p' 26 2 < par p' 24 2)) → exec (.commitAxes p) s =
      .next (s.onDev (fun _ => d'.complete (refOf p s.dev) stBAD_PARAMETER d'.now [])))) ∧
  (∀ s p p' d', Runs opEnableAxis p s.dev p' d' →
    (par p' 24 2 < 512 → par p' 22 2 ≤ par p' 24 2 → exec (.enableAxis p) s = .next (s.onDev (fun _ =>
      d'.logInput 0x01 68 (.enable (par p' 22 2) (par p' 24 2) (bitAt (par p' 26 1) 0)) (some (refOf p s.dev))))) ∧
    (512 ≤ par p' 24 2 ∨ par p' 24 2 < par p' 22 2 → exec (.enableAxis p) s = .next (s.onDev (fun _ => d'.complete (refOf p s.dev) stBAD_PARAMETER d'.now [])))) ∧
  (∀ s p p' d', Runs opDisableAxis p s.dev p' d' →
    (par p' 24 2 < 512 → par p' 22 2 ≤ par p' 24 2 → exec (.disableAxis p) s = .next (s.onDev (fun _ =>
      d'.logInput 0x01 68 (.disable (par p' 22 2) (par p' 24 2)) (some (refOf p s.dev))))) ∧
    (512 ≤ par p' 24 2 ∨ par p' 24 2 < par p' 22 2 → exec (.disableAxis p) s = .next (s.onDev (fun _ => d'.complete (refOf p s.dev) stBAD_PARAMETER d'.now [])))) ∧
  (∀ s p p' d' bs a data, Runs opReadAxisState p s.dev p' d' → a = par p' 22 2 → a < 512 → par p' 24 1 ≤ 2 → p'.host = some bs →
    data = (if par p' 24 1 = 1 then [] else d'.paramBytes a) ++ (if par p' 24 1 = 0 then [] else axisStateBytes (d'.axis a)) → exec (.readAxisState p) s =
    .next (s.onDev (fun _ => (d'.emit (.hostWrite (par p' 25 8) (d'.outBytes p' data))).complete (refOf p s.dev) stOK d'.now (leBytes 4 (d'.axis a).lastCycle)))) ∧
  (∀ s p p' d', Runs opReadAxisState p s.dev p' d' → (512 ≤ par p' 22 2 ∨ 2 < par p' 24 1) → exec (.readAxisState p) s =
    .next (s.onDev (fun _ => d'.complete (refOf p s.dev) stBAD_PARAMETER d'.now []))) ∧
  (∀ s p p' d', Runs opActivate p s.dev p' d' →
    ((d'.cyc.pending.map (·.num)) ≠ some (par p' 22 2) → exec (.activateGeneration p) s = .next (s.onDev (fun _ => d'.complete (refOf p s.dev) stBAD_PARAMETER d'.now []))) ∧
    ((d'.cyc.pending.map (·.num)) = some (par p' 22 2) →
      d'.cyc.countdown ≠ none ∨ d'.cyc.waiting.any (fun e => match e.act with | .activate _ _ => true | _ => false) = true →
      exec (.activateGeneration p) s = .next (s.onDev (fun _ => d'.complete (refOf p s.dev) stBUSY d'.now [])))) ∧
  (∀ s p p' d' g, Runs opActivate p s.dev p' d' → d'.cyc.pending = some g → g.num = par p' 22 2 → d'.cyc.countdown = none →
      d'.cyc.waiting.any (fun e => match e.act with | .activate _ _ => true | _ => false) = false →
    (∀ r : Nat × Nat, d'.scheduleFail g = some r → exec (.activateGeneration p) s =
      .next (s.onDev (fun _ => d'.complete (refOf p s.dev) stCONSISTENCY d'.now (ruleResult r.1 r.2)))) ∧
    (d'.scheduleFail g = none → engineRule1 g d'.allParams (d'.rd CE_LANE_FAILED) = none → engineRule2 g d'.allParams = none →
      engineRule3 g d'.allParams (d'.costOf d'.allParams) d'.markNode = none →
      d'.pairFail (d'.lget MIR_CTRL.LEASE) [g] = none → d'.safetyFailWith [g] (d'.lget MIR_CTRL.LEASE) = none →
      exec (.activateGeneration p) s = .next (s.onDev (fun _ =>
        d'.logInput 0x01 68 (.activate g.num (if hasFlag p' 2 then some (p'.execAt.toNat, p'.tol.toNat) else none)) (some (refOf p s.dev))))))

/-- MOVE_PROFILE as a jog of a clean axis with a finite velocity is logged as a jog; as a position move of an axis at rest whose list keeps R539 (empty for no distance) it is logged with its target and eight phases, and the list is written where an address is given; an axis in motion, or under identification, completes BUSY, a faulted axis or a latched group WRONG_MODE, and bad limits, a bad velocity, another kind or axis BAD_PARAMETER. SET_GEAR whose commit rules hold once what waits is live is logged, and otherwise completes CONSISTENCY; a faulted axis or latched group completes WRONG_MODE, a bulk transfer or identification BUSY, another axis BAD_PARAMETER. LOAD_CAM of a well-formed table that fits and is not in use is logged; one in use completes BUSY, one with no place NO_RESOURCE, another size BAD_LENGTH, another table number BAD_PARAMETER. STREAM_SETPOINTS in the host-assisted duty it belongs to, for clean axes, is logged with its bytes; without the duty, or for a faulted axis, it completes WRONG_MODE, of another length BAD_LENGTH. STOP_GROUP is logged with its mask. -/
def Obligations.MotionPacketsAreLogged : Prop :=
  (∀ s p p' d' a busy, Runs opMoveProfile p s.dev p' d' → a = par p' 22 2 → busy = (match d'.trc.ident with | some i => i.axis == a | none => false) → a < 512 →
    par p' 24 1 = 1 → fpFinite (par p' 26 4) = true →
    ((d'.axis a).faulted = true ∨ d'.groupLatched (d'.groupOf a) = true →
      exec (.moveProfile p) s = .next (s.onDev (fun _ => d'.complete (refOf p s.dev) stWRONG_MODE d'.now []))) ∧
    ((d'.axis a).faulted = false → d'.groupLatched (d'.groupOf a) = false → busy = true →
      exec (.moveProfile p) s = .next (s.onDev (fun _ => d'.complete (refOf p s.dev) stBUSY d'.now []))) ∧
    ((d'.axis a).faulted = false → d'.groupLatched (d'.groupOf a) = false → busy = false →
      exec (.moveProfile p) s = .next (s.onDev (fun _ => d'.logInput 0x01 68 (.jog a (par p' 26 4)) (some (refOf p s.dev)))))) ∧
  (∀ s p p' d' a, Runs opMoveProfile p s.dev p' d' → a = par p' 22 2 → 512 ≤ a ∨ 1 < par p' 24 1 ∨ (par p' 24 1 = 1 ∧ fpFinite (par p' 26 4) = false) ∨
    (par p' 24 1 = 0 ∧ ([par p' 34 4, par p' 38 4, par p' 42 4, par p' 46 4].all (fun x => fpFinite x && fpPos x) = false ∨
      fpLt (d'.axisLive a pVMAX) (par p' 34 4) = true)) →
    exec (.moveProfile p) s = .next (s.onDev (fun _ => d'.complete (refOf p s.dev) stBAD_PARAMETER d'.now []))) ∧
  (∀ s p p' d' a lims tgt list ph, Runs opMoveProfile p s.dev p' d' → a = par p' 22 2 → a < 512 → par p' 24 1 = 0 → lims = [par p' 34 4, par p' 38 4, par p' 42 4, par p' 46 4] →
    lims.all (fun x => fpFinite x && fpPos x) = true → fpLt (d'.axisLive a pVMAX) (par p' 34 4) = false →
    (d'.axis a).faulted = false → d'.groupLatched (d'.groupOf a) = false → (match d'.trc.ident with | some i => i.axis == a | none => false) = false →
    tgt = (if bitAt (par p' 25 1) 0 then satAdd64 (d'.axis a).xs (signedOf 64 (par p' 26 8)) else signedOf 64 (par p' 26 8)) →
    list = (if tgt - (d'.axis a).xs = 0 then [] else Config.planProfile (tgt - (d'.axis a).xs) lims (d'.periodNs / 8)) →
    ph = ((list ++ List.replicate 8 (0, 0)).take 8).map (fun (x : Nat × Nat) => (x.1 % 2 ^ 32, x.2 % 2 ^ 32)) →
    ((fpEq (d'.axis a).vs 0 && fpEq (d'.axis a).pa 0 && (d'.axis a).ph == 8) = false → exec (.moveProfile p) s =
      .next (s.onDev (fun _ => d'.complete (refOf p s.dev) stBUSY d'.now []))) ∧
    ((fpEq (d'.axis a).vs 0 && fpEq (d'.axis a).pa 0 && (d'.axis a).ph == 8) = true → par p' 50 8 = 0 →
      exec (.moveProfile p) s = .next (s.onDev (fun _ => if tgt = (d'.axis a).xs ∨ profileOk (d'.periodNs / 8) (tgt - (d'.axis a).xs) lims list = true then
        d'.logInput 0x01 132 (.move a tgt ph) (some (refOf p s.dev)) else d'.complete (refOf p s.dev) stBAD_PARAMETER d'.now []))) ∧
    (∀ bs : List Byte, (fpEq (d'.axis a).vs 0 && fpEq (d'.axis a).pa 0 && (d'.axis a).ph == 8) = true →
      tgt = (d'.axis a).xs ∨ profileOk (d'.periodNs / 8) (tgt - (d'.axis a).xs) lims list = true → par p' 50 8 ≠ 0 → p'.host = some bs →
      exec (.moveProfile p) s = .next (s.onDev (fun _ => (d'.logInput 0x01 132 (.move a tgt ph) (some (refOf p s.dev))).emit (.hostWrite (par p' 50 8)
        (d'.outBytes p' (ph.flatMap (fun (x : Nat × Nat) => leBytes 4 x.1 ++ leBytes 4 x.2))))))) ∧
    (tgt = (d'.axis a).xs → (fpEq (d'.axis a).vs 0 && fpEq (d'.axis a).pa 0 && (d'.axis a).ph == 8) = true → par p' 50 8 = 0 →
      exec (.moveProfile p) s = .next (s.onDev (fun _ => d'.logInput 0x01 132 (.move a tgt (List.replicate 8 (0, 0))) (some (refOf p s.dev)))))) ∧
  (∀ s p p' d' a f busy, Runs opSetGear p s.dev p' d' → a = par p' 22 2 → f = d'.afterCommits →
    busy = (d'.on MIR_STATUS.BULK || (match d'.trc.ident with | some i => i.axis == a | none => false)) →
    (512 ≤ a → exec (.setGear p) s = .next (s.onDev (fun _ => d'.complete (refOf p s.dev) stBAD_PARAMETER d'.now []))) ∧
    (a < 512 → (d'.axis a).faulted = true ∨ d'.groupLatched (d'.groupOf a) = true → exec (.setGear p) s =
      .next (s.onDev (fun _ => d'.complete (refOf p s.dev) stWRONG_MODE d'.now []))) ∧
    (a < 512 → (d'.axis a).faulted = false → d'.groupLatched (d'.groupOf a) = false → busy = true → exec (.setGear p) s =
      .next (s.onDev (fun _ => d'.complete (refOf p s.dev) stBUSY d'.now []))) ∧
    (a < 512 → (d'.axis a).faulted = false → d'.groupLatched (d'.groupOf a) = false → busy = false →
      f.commitFail [a] (f.gearWords a (par p' 24 4) (par p' 28 4)) = none → exec (.setGear p) s =
      .next (s.onDev (fun _ => d'.logInput 0x02 32 (.gear a (par p' 24 4) (par p' 28 4)) (some (refOf p s.dev))))) ∧
    (a < 512 → (d'.axis a).faulted = false → d'.groupLatched (d'.groupOf a) = false → busy = false →
      ∀ r : Nat × Nat, f.commitFail [a] (f.gearWords a (par p' 24 4) (par p' 28 4)) = some r → exec (.setGear p) s =
      .next (s.onDev (fun _ => d'.complete (refOf p s.dev) stCONSISTENCY d'.now (ruleResult r.1 r.2))))) ∧
  (∀ s p p' d', Runs opLoadCam p s.dev p' d' →
    (1024 ≤ par p' 22 2 → exec (.loadCam p) s = .next (s.onDev (fun _ => d'.complete (refOf p s.dev) stBAD_PARAMETER d'.now []))) ∧
    (par p' 22 2 < 1024 → par p' 32 4 < 56 ∨ 98336 < par p' 32 4 ∨ (par p' 32 4 - 32) % 24 ≠ 0 → exec (.loadCam p) s =
      .next (s.onDev (fun _ => d'.complete (refOf p s.dev) stBAD_LENGTH d'.now [])))) ∧
  (∀ s p p' d' bs b t n used, Runs opLoadCam p s.dev p' d' → t = par p' 22 2 → n = par p' 32 4 → t < 1024 → 56 ≤ n → n ≤ 98336 → (n - 32) % 24 = 0 → p'.host = some bs →
    b = padTo n bs → n = 32 + 24 * fieldAt b 0 2 → fieldAt b 2 2 < 2 → fieldAt b 8 8 ≠ 0 → fieldAt b 0 2 ≤ 4096 →
    used = (d'.on MIR_STATUS.BULK || d'.live.any (fun w => decide (0x200000 ≤ w.1) && w.1 % 0x1000 == pOPT && optMode (d'.params ((w.1 - 0x200000) / 0x1000)) == 4 &&
      bitsOf (d'.axisLive ((w.1 - 0x200000) / 0x1000) pCAM_TABLE) 9 0 == t)) →
    (used = true → exec (.loadCam p) s = .next (s.onDev (fun _ => d'.complete (refOf p s.dev) stBUSY d'.now []))) ∧
    (used = false → exec (.loadCam p) s = .next (s.onDev (fun _ => if (d'.camPlace t n).isNone then d'.complete (refOf p s.dev) stNO_RESOURCE d'.now []
      else d'.logInput 0x03 (tableSize n) (.cam t b) (some (refOf p s.dev)))))) ∧
  (∀ s p p' d' k w, Runs opStream p s.dev p' d' → k = par p' 24 1 → w = par p' 25 1 → 1 ≤ k → k ≤ 64 → par p' 22 2 + k ≤ 512 →
    (p'.len.toNat ≠ (12 * k + 15) / 16 → exec (.streamSetpoints p) s = .next (s.onDev (fun _ => d'.complete (refOf p s.dev) stBAD_LENGTH d'.now []))) ∧
    (p'.len.toNat = (12 * k + 15) / 16 → w ≤ 1 → d'.ha w = false ∨ (List.range k).any (fun i => (d'.axis (par p' 22 2 + i)).faulted) = true →
      exec (.streamSetpoints p) s = .next (s.onDev (fun _ => d'.complete (refOf p s.dev) stWRONG_MODE d'.now []))) ∧
    (p'.len.toNat = (12 * k + 15) / 16 → w = 0 → d'.ha 0 = true → (List.range k).any (fun i => (d'.axis (par p' 22 2 + i)).faulted) = false →
      exec (.streamSetpoints p) s = .next (s.onDev (fun _ =>
        d'.logInput 0x04 (16 + 12 * k) (.stream false (par p' 22 2) k (par p' 26 8) (extBytes p' 0 (12 * k))) (some (refOf p s.dev))))) ∧
    (p'.len.toNat = (12 * k + 15) / 16 → w = 1 → d'.ha 1 = true → (List.range k).any (fun i => (d'.axis (par p' 22 2 + i)).faulted) = false →
      exec (.streamSetpoints p) s = .next (s.onDev (fun _ =>
        d'.logInput 0x05 (16 + 12 * k) (.stream true (par p' 22 2) k (par p' 26 8) (extBytes p' 0 (12 * k))) (some (refOf p s.dev)))))) ∧
  (∀ s p p' d', Runs opStopGroup p s.dev p' d' → exec (.stopGroup p) s = .next (s.onDev (fun _ =>
    d'.logInput 0x01 68 (.stopGroup (par p' 22 2) (bitAt (par p' 24 1) 0) 0 0xFFFF) (some (refOf p s.dev)))))

/-- START_TRACE of a free unit whose rules hold waits for the boundary with its words captured; of a busy unit it completes BUSY, of a unit above 3 BAD_PARAMETER; a failing rule, or a budget that the traced axes break, completes CONSISTENCY with the rule and its place. STOP_TRACE completes OK and leaves the stop due at the boundary for the listed units that run. UCMD_START and UCMD_STOP act in the modes in which traces run: a start in another mode or of a busy unit shows REFUSED, one that fails a rule also the rule, and one that waits already is left. MON_APPLY with its records and budget is captured, otherwise refused; while one waits it does nothing. IDENTIFY_AXIS of a clean axis at rest is logged; bad parameters complete BAD_PARAMETER, an axis that is not clean, not at rest or cannot jog WRONG_MODE, a second identification BUSY, and a broken budget CONSISTENCY. The end of a hold moves line time there and logs the next target or solves the fit; without a hold it does nothing. -/
def Obligations.TracesMonitorsAndIdentification : Prop :=
  (∀ s p p' d' u, Runs opStartTrace p s.dev p' d' → u = par p' 22 1 →
    (4 ≤ u → exec (.startTrace p) s = .next (s.onDev (fun _ => d'.complete (refOf p s.dev) stBAD_PARAMETER d'.now []))) ∧
    (u < 4 → d'.traceBusy u = true → exec (.startTrace p) s = .next (s.onDev (fun _ => d'.complete (refOf p s.dev) stBUSY d'.now []))) ∧
    (u < 4 → d'.traceBusy u = false → d'.traceRule u = none → d'.tracedFail ((traceProbes d'.rd u).map (·.1)) = none →
      ∃ t, exec (.startTrace p) s = .next t ∧ (t.dev.traceUnit u).startDue = some (some (refOf p s.dev)) ∧ (t.dev.traceUnit u).words = d'.capture (traceRegs u) ∧
        (t.dev.traceUnit u).probes = traceProbes d'.rd u) ∧
    (∀ r : Nat × Nat, u < 4 → d'.traceBusy u = false → (d'.traceRule u).orElse (fun _ => d'.tracedFail ((traceProbes d'.rd u).map (·.1))) = some r →
      exec (.startTrace p) s = .next (s.onDev (fun _ => d'.complete (refOf p s.dev) stCONSISTENCY d'.now (ruleResult r.1 r.2))))) ∧
  (∀ s p p' d', Runs opStopTrace p s.dev p' d' → ∃ d1, d1 = d'.forEach ((List.range 4).filter (bitAt (par p' 22 1))) Dev.stopTrace ∧
    exec (.stopTrace p) s = .next (s.onDev (fun _ => d1.complete (refOf p s.dev) stOK d1.now []))) ∧
  (∀ s p p' d' u, Runs opStopTrace p s.dev p' d' → u < 4 → par p' 22 1 = 2 ^ u → d'.get (TRC_USTATUS.STATE u) = 1 ∨ d'.get (TRC_USTATUS.STATE u) = 2 →
    ∃ t, exec (.stopTrace p) s = .next t ∧ (t.dev.traceUnit u).stopDue = true) ∧
  (∀ (s : State) (u : Fin 4), s.dev.on (TRC_UCMD.START u.val) = true → exec (.ucmdStart u) s = .next s) ∧
  (∀ (s : State) (u : Fin 4), s.dev.on (TRC_UCMD.START u.val) = false →
    (traceModes.contains s.dev.mode = false ∨ s.dev.traceBusy u.val = true → exec (.ucmdStart u) s = .next (s.onDev (Dev.set (TRC_USTATUS.REFUSED u.val) 1))) ∧
    (traceModes.contains s.dev.mode = true → s.dev.traceBusy u.val = false → s.dev.traceRule u.val = none →
      s.dev.tracedFail ((traceProbes s.dev.rd u.val).map (·.1)) = none → ∃ t, exec (.ucmdStart u) s = .next t ∧ t.dev.on (TRC_UCMD.START u.val) = true ∧
        (t.dev.traceUnit u.val).startDue = some none) ∧
    (∀ r : Nat × Nat, traceModes.contains s.dev.mode = true → s.dev.traceBusy u.val = false →
      (s.dev.traceRule u.val).orElse (fun _ => s.dev.tracedFail ((traceProbes s.dev.rd u.val).map (·.1))) = some r →
      exec (.ucmdStart u) s = .next (s.onDev (fun d => (d.set (TRC_USTATUS.REFUSED u.val) 1).wr (TRC_USAMPLES u.val) r.1)))) ∧
  (∀ (s : State) (u : Fin 4), (traceModes.contains s.dev.mode = false → exec (.ucmdStop u) s = .next s) ∧
    (traceModes.contains s.dev.mode = true → exec (.ucmdStop u) s = .next (s.onDev (fun d => (d.set (TRC_UCMD.STOP u.val) 1).stopTrace u.val)))) ∧
  (∀ s : State, s.dev.on TRC_MON_CTRL.APPLY = true → exec .monApply s = .next s) ∧
  (∀ (s : State) (axes : List Nat), s.dev.on TRC_MON_CTRL.APPLY = false →
    axes = (List.range 16).filterMap (fun k => if s.dev.on (TRC_MON.EN k) then some (s.dev.get (TRC_MON.AXIS k)) else none) →
    (axes.all (fun a => (s.dev.calOf 4 a).isSome) = true → s.dev.tracedFail axes = none → exec .monApply s = .next (s.onDev (fun d =>
      ((d.set TRC_MON_CTRL.APPLY 1).set TRC_MON_CTRL.REFUSED 0).holdCommit 0x0401 (d.capture ((List.range 16).map TRC_MON)) none))) ∧
    (axes.all (fun a => (s.dev.calOf 4 a).isSome) = false ∨ s.dev.tracedFail axes ≠ none → exec .monApply s = .next (s.onDev (Dev.set TRC_MON_CTRL.REFUSED 1)))) ∧
  (∀ s p p' d' a v h okP, Runs opIdentify p s.dev p' d' → a = par p' 22 2 → v = par p' 24 4 → h = par p' 28 2 →
    okP = (decide (a < 512) && fpFinite v && fpPos v && !fpLt (d'.axisLive a pVMAX) v && decide (10 ≤ h) && decide (h ≤ 1000)) → okP = false →
    exec (.identifyAxis p) s = .next (s.onDev (fun _ => d'.complete (refOf p s.dev) stBAD_PARAMETER d'.now []))) ∧
  (∀ s p p' d' a v h still busy, Runs opIdentify p s.dev p' d' → a = par p' 22 2 → v = par p' 24 4 → h = par p' 28 2 →
    a < 512 → fpFinite v = true → fpPos v = true → fpLt (d'.axisLive a pVMAX) v = false → 10 ≤ h → h ≤ 1000 →
    still = ((d'.axis a).enabled && !(d'.axis a).faulted && (optMode (d'.params a) == 1 || optMode (d'.params a) == 2) && fpEq (d'.axis a).vs 0 &&
      (d'.axis a).ph == 8 && !d'.groupLatched (d'.groupOf a) && !fpEq (d'.axisLive a pJOG_ACCEL) 0) →
    busy = (d'.trc.ident.isSome || d'.cyc.waiting.any (fun e => match e.act with | .identify _ _ => true | _ => false)) →
    (still = false → exec (.identifyAxis p) s = .next (s.onDev (fun _ => d'.complete (refOf p s.dev) stWRONG_MODE d'.now []))) ∧
    (still = true → busy = true → exec (.identifyAxis p) s = .next (s.onDev (fun _ => d'.complete (refOf p s.dev) stBUSY d'.now []))) ∧
    (still = true → busy = false → exec (.identifyAxis p) s = .next (s.onDev (fun _ => match d'.tracedFail [a] with
      | some r => d'.complete (refOf p s.dev) stCONSISTENCY d'.now (ruleResult r.1 r.2)
      | none => d'.logInput 0x01 68 (.identify a (leBytes 4 v ++ leBytes 2 h ++ leBytes 1 (par p' 30 1))) (some (refOf p s.dev))))) ∧
    (still = true → busy = false → d'.tracedFail [a] = none → exec (.identifyAxis p) s = .next (s.onDev (fun _ =>
      d'.logInput 0x01 68 (.identify a (leBytes 4 v ++ leBytes 2 h ++ leBytes 1 (par p' 30 1))) (some (refOf p s.dev)))))) ∧
  (∀ (s : State) (i : Ident) (t : LTime), s.dev.trc.ident = some i → i.holdEnd = some t →
    (i.left = [] → exec .identifyHoldExpiry s = .next (s.onDev (fun d => (d.reach t).identSolve i))) ∧
    (∀ v vs, i.left = v :: vs → ∃ u, exec .identifyHoldExpiry s = .next u ∧ u.dev.cyc.waiting = s.dev.cyc.waiting ++ [⟨0x01, 68, .jog i.axis v, none⟩] ∧ t ≤ u.dev.now)) ∧
  (∀ s : State, s.dev.trc.ident.bind (·.holdEnd) = none → exec .identifyHoldExpiry s = .next s)

/-- Levels that the filter has not accepted, or of a channel in mode 0, are only taken while no output repeats them. In quadrature mode a forward step of a channel without inversion counts one up. A sample instant runs the estimator of each channel once, and the permit holder logs a sample of each channel in use in the synchronised modes. A preset loads the count when no enabled axis uses the channel, else it is refused. FB_APPLY of a channel whose rules hold waits for the boundary in the synchronised modes and is live at once elsewhere; a failing rule is shown as refused, and while a commit waits it does nothing. A read of FB_EDGE3 answers its word and pops the record, as one of TS3 does a stamp. A trigger input that is disabled or not set for the edge only shows the level; an edge not held, or within the dead time of the last one, is counted suppressed; an accepted one is stamped and queued. A table of an input under calibration waits for the boundary while cycles run and is taken elsewhere; another is dropped. TDC_APPLY and ADC_APPLY are captured, once. ADC_START starts every enabled converter that is at rest at the instant of its grid; elsewhere it does nothing. A result that is not awaited does nothing; the last code of a mean gives a sample. -/
def Obligations.FeedbackTriggersAndConvertersAct : Prop :=
  (∀ (s : State) (n : Fin 4) (a b c : FbLevel), bitsOf (s.dev.lrd (FB_CTRL n.val)) 17 16 = 0 →
    ((s.dev.fbCh n.val).a = a.level → (s.dev.fbCh n.val).b = b.level → (s.dev.fbCh n.val).c = c.level →
      exec (.fbInputEdge n a b c) s = .next (s.onDev (fun d => d.setFb n.val { d.fbCh n.val with pinA := a.pin, pinB := b.pin, pinC := c.pin }))) ∧
    (bitsOf (s.dev.lrd (FB_CTRL n.val)) 2 0 = 0 → exec (.fbInputEdge n a b c) s =
      .next (s.onDev (fun d => d.setFb n.val { d.fbCh n.val with a := a.level, b := b.level, c := c.level, pinA := a.pin, pinB := b.pin, pinC := c.pin })))) ∧
  (∀ (s : State) (n : Fin 4) (a b c : FbLevel), a.level = false → b.level = true → c.level = false → s.dev.lrd (FB_CTRL n.val) = 1 → (s.dev.fbCh n.val).a = false → (s.dev.fbCh n.val).b = false → (s.dev.fbCh n.val).c = false →
    -140737488355328 ≤ (s.dev.fbCh n.val).cnt → (s.dev.fbCh n.val).cnt < 140737488355327 →
    ∃ t, exec (.fbInputEdge n a b c) s = .next t ∧ (t.dev.fbCh n.val).cnt = (s.dev.fbCh n.val).cnt + 1) ∧
  (∀ (s : State) (n : Fin 4) (t0 : LTime) (c : Fb), t0 = s.dev.sampleInstant →
    c = fbSampleSpeed (bitsOf (s.dev.lrd (FB_EST n.val)) 8 4) (s.dev.lrd (FB_VUP n.val)) (s.dev.lrd (FB_VDN n.val)) (s.dev.fbTss n.val) t0 (s.dev.fbCh n.val) →
    ((s.dev.fbCh n.val).w.head?).map (·.2) ≠ some t0 → ∃ t, exec .fbSampleInstant s = .next t ∧ (t.dev.fbCh n.val).v = c.v ∧ (t.dev.fbCh n.val).w = c.w ∧
      (t.dev.fbCh n.val).cmode = c.cmode ∧ (t.dev.fbCh n.val).cnt = (s.dev.fbCh n.val).cnt ∧
      ((s.dev.sync && s.dev.permit && bitsOf (s.dev.lrd (FB_CTRL n.val)) 2 0 != 0) = true →
        t.dev.cyc.waiting.any (fun e => match e.act with | .fbSample k _ => k == n.val | _ => false) = true)) ∧
  (∀ (s : State) (t0 : LTime), t0 = s.dev.sampleInstant → (List.range 4).all (fun n => ((s.dev.fbCh n).w.head?).map (·.2) == some t0) = true →
    exec .fbSampleInstant s = .next (s.onDev (Dev.reach t0))) ∧
  (∀ (s : State) (n : Fin 4) (hi : Word), (s.dev.channelUsed n.val = true → exec (.fbPreset n hi) s = .next (s.onDev (Dev.set (FB_STATUS.PRESET_REFUSED n.val) 1))) ∧
    (s.dev.channelUsed n.val = false → ∃ t, exec (.fbPreset n hi) s = .next t ∧
      (t.dev.fbCh n.val).cnt = signedOf 48 ((s.dev.fbCh n.val).presetLo + 2 ^ 32 * (hi.toNat % 2 ^ 16)))) ∧
  (∀ (s : State) (n : Fin 4), bitAt (s.dev.get FB_APPLY.APPLY) n.val = true → exec (.fbApply (BitVec.ofNat 4 (2 ^ n.val))) s = .next s) ∧
  (∀ (s : State) (n : Fin 4), bitAt (s.dev.get FB_APPLY.APPLY) n.val = false →
    (∀ r : Nat, s.dev.fbRules n.val = some r → exec (.fbApply (BitVec.ofNat 4 (2 ^ n.val))) s =
      .next (s.onDev (fun d => d.set FB_APPLY.REFUSED (withBits (d.get FB_APPLY.REFUSED) n.val n.val 1)))) ∧
    (s.dev.fbRules n.val = none → s.dev.sync = true → ∃ t, exec (.fbApply (BitVec.ofNat 4 (2 ^ n.val))) s = .next t ∧
      bitAt (t.dev.get FB_APPLY.APPLY) n.val = true ∧ t.dev.commitWaits (0x0A00 + n.val) = true) ∧
    (s.dev.fbRules n.val = none → s.dev.sync = false → exec (.fbApply (BitVec.ofNat 4 (2 ^ n.val))) s = .next (s.onDev (fun d =>
      (d.set FB_APPLY.REFUSED (withBits (d.get FB_APPLY.REFUSED) n.val n.val 0)).fbCommit n.val (d.capture (fbRegs n.val)))))) ∧
  (∀ (s : State) (n : Fin 4), ∃ t, exec (.fbEdgePop n) s = .next t ∧ (t.dev.fbCh n.val).queue = (s.dev.fbCh n.val).queue.drop 1 ∧
    t.dev.out = s.dev.out ++ [.busData (FB_EDGE3 n.val) (s.dev.rd (FB_EDGE3 n.val))]) ∧
  (∀ (s : State) (n : Fin 16), ∃ t, exec (.tdcStampPop n) s = .next t ∧ (t.dev.tdcIn n.val).queue = (s.dev.tdcIn n.val).queue.drop 1 ∧
    t.dev.out = s.dev.out ++ [.busData (TDC_IN_TS3 n.val) (s.dev.rd (TDC_IN_TS3 n.val))]) ∧
  (∀ (s : State) (n : Fin 16) (r h : Bool) (c : Fin 224),
    bitAt (s.dev.lrd (TDC_IN_CTRL n.val)) 0 = false ∨ edgeSelected (bitsOf (s.dev.lrd (TDC_IN_CTRL n.val)) 3 2) r = false →
    exec (.triggerEdge n r c h) s = .next (s.onDev (Dev.set (TDC_IN_STATUS.LEVEL n.val) (flag r)))) ∧
  (∀ (s : State) (n : Fin 16) (r : Bool) (c : Fin 224) (t0 gap : Nat), bitAt (s.dev.lrd (TDC_IN_CTRL n.val)) 0 = true →
    edgeSelected (bitsOf (s.dev.lrd (TDC_IN_CTRL n.val)) 3 2) r = true → t0 = s.dev.stampOf n.val c.val s.dev.now →
    gap = (match (s.dev.tdcIn n.val).last with | some l => t0 - l | none => 2 ^ 80) →
    exec (.triggerEdge n r c false) s = .next (s.onDev (fun d => (d.set (TDC_IN_STATUS.LEVEL n.val) (flag r)).count (TDC_IN_LOST.SUPPRESSED n.val) 1)) ∧
    (gap < ns (8 * bitsOf (s.dev.lrd (TDC_IN_CTRL n.val)) 31 16) → exec (.triggerEdge n r c true) s =
      .next (s.onDev (fun d => (d.set (TDC_IN_STATUS.LEVEL n.val) (flag r)).count (TDC_IN_LOST.SUPPRESSED n.val) 1))) ∧
    (ns (8 * bitsOf (s.dev.lrd (TDC_IN_CTRL n.val)) 31 16) ≤ gap → ns 4 ≤ gap → (s.dev.tdcIn n.val).queue.length < 16 → ∃ t, exec (.triggerEdge n r c true) s = .next t ∧
      (t.dev.tdcIn n.val).queue = (s.dev.tdcIn n.val).queue ++ [⟨t0, !r, ((s.dev.tdcIn n.val).seq + 1) % 2 ^ 32⟩] ∧ (t.dev.tdcIn n.val).last = some t0)) ∧
  (∀ (s : State) (n : Fin 16) (h : List Nat), (s.dev.tdcCalibrates n.val = false → exec (.tdcTableDone n h) s = .next s) ∧
    (s.dev.tdcCalibrates n.val = true → s.dev.cyc.running = true → exec (.tdcTableDone n h) s =
      .next (s.onDev (fun d => d.setTdc n.val { d.tdcIn n.val with table := some h }))) ∧
    (s.dev.tdcCalibrates n.val = true → s.dev.cyc.running = false → exec (.tdcTableDone n h) s = .next (s.onDev (Dev.takeTable n.val h)))) ∧
  (∀ (s : State) (n : Fin 16), (bitAt (s.dev.get TDC_APPLY.APPLY) n.val = false → ∃ t, exec (.tdcApply (BitVec.ofNat 16 (2 ^ n.val))) s = .next t ∧
      t.dev.commitWaits (0x0B00 + n.val) = true ∧ bitAt (t.dev.get TDC_APPLY.APPLY) n.val = true) ∧
    (bitAt (s.dev.get TDC_APPLY.APPLY) n.val = true → exec (.tdcApply (BitVec.ofNat 16 (2 ^ n.val))) s = .next s)) ∧
  (∀ s : State, (s.dev.on ADC_APPLY.APPLY = true → exec .adcApply s = .next s) ∧ (s.dev.on ADC_APPLY.APPLY = false →
    exec .adcApply s = .next (s.onDev (fun d => (d.set ADC_APPLY.APPLY 1).holdCommit 0x0780 (d.capture adcRegs) none)))) ∧
  (∀ s : State, s.dev.adcInstant = none → exec .adcStart s = .next s) ∧
  (∀ (s : State) (k : Fin 8) (t0 : LTime), s.dev.adcInstant = some t0 →
    (bitAt (s.dev.lget ADC_CTRL.EN) k.val = true → (match (s.dev.adcCh k.val).last with | some l => decide (l + ns 1000 ≤ t0) | none => true) = true →
      ∃ t, exec .adcStart s = .next t ∧ (t.dev.adcCh k.val).busy = some t0 ∧ (t.dev.adcCh k.val).last = some t0) ∧
    (bitAt (s.dev.lget ADC_CTRL.EN) k.val = false ∨ (match (s.dev.adcCh k.val).last with | some l => decide (t0 < l + ns 1000) | none => false) = true →
      ∃ t, exec .adcStart s = .next t ∧ t.dev.adcCh k.val = s.dev.adcCh k.val)) ∧
  (∀ (s : State) (k : Fin 8) (c : BitVec 18), ((s.dev.adcCh k.val).busy = none → exec (.adcResult k c) s = .next s) ∧
    (∀ t0, (s.dev.adcCh k.val).busy = some t0 → (s.dev.adcCh k.val).codes + 1 < 2 ^ adcAvg (s.dev.lrd (ADC_CH_CFG k.val)) →
      ∃ t, exec (.adcResult k c) s = .next t ∧ (t.dev.adcCh k.val).busy = none ∧ (t.dev.adcCh k.val).codes = (s.dev.adcCh k.val).codes + 1) ∧
    (∀ t0, (s.dev.adcCh k.val).busy = some t0 → 2 ^ adcAvg (s.dev.lrd (ADC_CH_CFG k.val)) ≤ (s.dev.adcCh k.val).codes + 1 →
      ∃ t, exec (.adcResult k c) s = .next t ∧ (t.dev.adcCh k.val).busy = none ∧ (t.dev.adcCh k.val).codes = 0 ∧
        (t.dev.adcCh k.val).n = ((s.dev.adcCh k.val).n + 1) % 2 ^ 32))

/-- An arm-at time arms a waiting unit only. A unit that is idle or waits takes no sample, nor does one whose sample is not a DEC-th; one that is due is taken, unless it would overwrite a record, which pauses the unit. A trigger fires an armed unit and its group; one that fills its PRE loses it or fires by PARTIAL_PRE; one that fills or is dead loses it. A copied record leaves its ring; a dead unit whose last fill it was re-arms or goes idle. A buffer is granted to the first record of the lowest unit, only while one is free. ACQ_APPLY waits for the boundary, is refused to a unit that is not idle or breaks a rule, and does nothing while a commit waits. CONFIG_CAPTURE_UNIT writes the unit's words and waits, or completes BAD_PARAMETER, BUSY or CONSISTENCY. ARM arms the listed units or the group's under the next identifier, at once or at its time; DISARM idles them; a group's frames go out by its path; a group above 15 is BAD_PARAMETER. FORCE_FIRE triggers each listed unit. LOAD_MASK stores a well-formed table of no unit in use, or completes with the status of what is wrong. -/
def Obligations.CaptureUnitsRunTheirStates : Prop :=
  (∀ (s : State) (u : Fin 16), (s.dev.capState u.val ≠ 1 → exec (.captureArmTime u) s = .next s) ∧
    (s.dev.capState u.val = 1 → exec (.captureArmTime u) s = .next (s.onDev (fun d =>
      (d.reach (d.capUnit u.val).armAt).takeArm u.val ((d.capUnit u.val).nextId.getD 0) (d.capUnit u.val).count)))) ∧
  (∀ (s : State) (u : Fin 16) (x : Bool), s.dev.capState u.val < 2 ∨ s.dev.capDue u.val (s.dev.capNum u.val) = false → exec (.captureSample u x) s = .next s) ∧
  (∀ (s : State) (u : Fin 16) (x : Bool), 2 ≤ s.dev.capState u.val → s.dev.capDue u.val (s.dev.capNum u.val) = true → (s.dev.capUnit u.val).records = [] →
    bitAt (s.dev.lrd (ACQ_U_CTRL u.val)) 20 = false → ∃ t, exec (.captureSample u x) s = .next t ∧ (t.dev.capUnit u.val).n = (s.dev.capUnit u.val).n + 1 ∧
      (t.dev.capUnit u.val).lastDue = some (s.dev.capNum u.val) ∧ (t.dev.capUnit u.val).paused = false) ∧
  (∀ (s : State) (u : Fin 16) (x : Bool) (c : CapUnit), c = s.dev.capUnit u.val → 2 ≤ s.dev.capState u.val → s.dev.capDue u.val (s.dev.capNum u.val) = true →
    c.records.any (fun r => decide (r.first + s.dev.ringCap u.val ≤ c.n) && decide (c.n ≤ r.last + s.dev.ringCap u.val)) = true →
    exec (.captureSample u x) s = .next (s.onDev (Dev.setCap u.val ({ c with paused := true, lastDue := some (s.dev.capNum u.val), trig := c.trig.map (fun tr => if s.dev.capState u.val = 4 && tr.idx < c.n && s.dev.capTime u.val ≤ tr.time then { tr with idx := c.n, late := false } else tr) } : CapUnit)))) ∧
  (∀ (s : State) (u : Fin 16), (s.dev.capUnit u.val).offers = [] → exec (.captureTrigger u) s = .next s) ∧
  (∀ (s : State) (u : Fin 16) (t0 : LTime) (st : Bool) (rest : List (LTime × Bool)) (d1 : Dev), (s.dev.capUnit u.val).offers = (t0, st) :: rest →
    d1 = s.dev.setCap u.val { s.dev.capUnit u.val with offers := rest } →
    (s.dev.capState u.val = 3 → s.dev.capGroup u.val = none → exec (.captureTrigger u) s =
      .next (s.onDev (fun _ => d1.capFire u.val t0 false false false st d1.sys.index u.val))) ∧
    (∀ g, s.dev.capState u.val = 3 → s.dev.capGroup u.val = some g → exec (.captureTrigger u) s = .next (s.onDev (fun _ =>
      ((d1.capFire u.val t0 false false false st d1.sys.index u.val).sendFire g u.val (s.dev.rd (ACQ_U_ARM_ID u.val)) t0 false false).applyFire g t0 false false
        (d1.capFire u.val t0 false false false st d1.sys.index u.val).sys.index u.val))) ∧
    (s.dev.capState u.val = 2 → s.dev.lget (ACQ_U_CTRL.PARTIAL_PRE u.val) = 1 → exec (.captureTrigger u) s =
      .next (s.onDev (fun _ => d1.capFire u.val t0 false false false st d1.sys.index u.val))) ∧
    (s.dev.capState u.val = 2 → s.dev.lget (ACQ_U_CTRL.PARTIAL_PRE u.val) ≠ 1 → exec (.captureTrigger u) s = .next (s.onDev (fun _ => d1.capLost u.val))) ∧
    (s.dev.capState u.val = 4 ∨ s.dev.capState u.val = 5 → exec (.captureTrigger u) s = .next (s.onDev (fun _ => d1.capLost u.val))) ∧
    (s.dev.capState u.val < 2 → exec (.captureTrigger u) s = .next (s.onDev (fun _ => d1)))) ∧
  (∀ (s : State) (u : Fin 16), (s.dev.capUnit u.val).records.findIdx? (·.granted) = none → exec (.recordCopied u) s = .next s) ∧
  (∀ (s : State) (u : Fin 16) (c : CapUnit) (i : Nat) (d1 : Dev), c = s.dev.capUnit u.val → c.records.findIdx? (·.granted) = some i →
    d1 = s.dev.setCap u.val { c with records := c.records.eraseIdx i } →
    (s.dev.capState u.val ≠ 5 ∨ i + 1 ≠ c.records.length → exec (.recordCopied u) s = .next (s.onDev (fun _ => d1))) ∧
    (s.dev.capState u.val = 5 → i + 1 = c.records.length → s.dev.lget (ACQ_U_CTRL.AUTO_REARM u.val) = 1 → s.dev.get (ACQ_U_REPEAT.LEFT u.val) ≠ 1 →
      ∃ t, exec (.recordCopied u) s = .next t ∧ t.dev.capState u.val = (if s.dev.lget (ACQ_U_PRE.PRE u.val) ≤ c.n - c.start then 3 else 2) ∧
        t.dev.rd (ACQ_U_DEAD_LAST u.val) = min ((s.dev.now - c.deadFrom) / 65536) (2 ^ 32 - 1) ∧ (t.dev.capUnit u.val).records = c.records.eraseIdx i) ∧
    (s.dev.capState u.val = 5 → i + 1 = c.records.length → s.dev.lget (ACQ_U_CTRL.AUTO_REARM u.val) ≠ 1 ∨ s.dev.get (ACQ_U_REPEAT.LEFT u.val) = 1 →
      ∃ t, exec (.recordCopied u) s = .next t ∧ t.dev.capState u.val = 0 ∧ (t.dev.capUnit u.val).records = c.records.eraseIdx i)) ∧
  (∀ s : State, s.dev.get ACQ_POOL.FREE = 0 ∨ (List.range 16).find? (fun u => (s.dev.capUnit u).records.any (fun r => !r.granted)) = none →
    exec .recordBufferGrant s = .next s) ∧
  (∀ (s : State) (u i : Nat) (r : CapRecord), s.dev.get ACQ_POOL.FREE ≠ 0 → (List.range 16).find? (fun u => (s.dev.capUnit u).records.any (fun r => !r.granted)) = some u →
    (s.dev.capUnit u).records.findIdx? (fun r => !r.granted) = some i → (s.dev.capUnit u).records[i]? = some r → exec .recordBufferGrant s = .next (s.onDev (fun d =>
      ((d.set ACQ_POOL.FREE (d.get ACQ_POOL.FREE - 1)).setCap u { d.capUnit u with records := (d.capUnit u).records.modify i (fun r => { r with granted := true }) }).sealRecord ⟨1, u, r.payload⟩))) ∧
  (∀ (s : State) (u : Fin 16), (bitAt (s.dev.get ACQ_APPLY.APPLY) u.val = true → exec (.acqApply (BitVec.ofNat 16 (2 ^ u.val))) s = .next s) ∧
    (bitAt (s.dev.get ACQ_APPLY.APPLY) u.val = false → s.dev.capState u.val ≠ 0 ∨ s.dev.capRule u.val ≠ none → exec (.acqApply (BitVec.ofNat 16 (2 ^ u.val))) s =
      .next (s.onDev (fun d => d.set ACQ_APPLY.REFUSED (withBits (d.get ACQ_APPLY.REFUSED) u.val u.val 1)))) ∧
    (bitAt (s.dev.get ACQ_APPLY.APPLY) u.val = false → s.dev.capState u.val = 0 → s.dev.capRule u.val = none → ∃ t, exec (.acqApply (BitVec.ofNat 16 (2 ^ u.val))) s = .next t ∧
      t.dev.commitWaits (0x0B80 + u.val) = true ∧ bitAt (t.dev.get ACQ_APPLY.APPLY) u.val = true ∧ bitAt (t.dev.get ACQ_APPLY.REFUSED) u.val = false)) ∧
  (∀ s p p' d' u d1 d2, Runs opConfigCapture p s.dev p' d' → u = par p' 22 1 → d1 = d'.forN 7 (fun i => Dev.plainWrite (ACQ_U_CTRL u + 4 * i) (par p' (24 + 4 * i) 4)) →
    d2 = d1.forN (2 * p'.len.toNat) (fun i d => (d.plainWrite (ACQ_DESC_LO u i) (ext p' (8 * i) 4)).plainWrite (ACQ_DESC_HI u i) (ext p' (8 * i + 4) 4)) →
    (16 ≤ u → exec (.configCaptureUnit p) s = .next (s.onDev (fun _ => d'.complete (refOf p s.dev) stBAD_PARAMETER d'.now []))) ∧
    (u < 16 → d'.capState u ≠ 0 ∨ bitAt (d'.get ACQ_APPLY.APPLY) u = true →
      exec (.configCaptureUnit p) s = .next (s.onDev (fun _ => d'.complete (refOf p s.dev) stBUSY d'.now []))) ∧
    (u < 16 → d'.capState u = 0 → bitAt (d'.get ACQ_APPLY.APPLY) u = false → d2.capRule u = none →
      exec (.configCaptureUnit p) s = .next (s.onDev (fun _ => d2.holdCapture u (some (refOf p s.dev))))) ∧
    (∀ r : Nat, u < 16 → d'.capState u = 0 → bitAt (d'.get ACQ_APPLY.APPLY) u = false → d2.capRule u = some r →
      exec (.configCaptureUnit p) s = .next (s.onDev (fun _ => d2.complete (refOf p s.dev) stCONSISTENCY d2.now (ruleResult r (0x0B80 + u)))))) ∧
  (∀ s p p' d' n id at_ d1, Runs opArm p s.dev p' d' → n = (d'.acq.arms + 1) % 2 ^ 24 → id = d'.sys.index * 2 ^ 24 + n →
    at_ = (if hasFlag p' 2 then some p'.execAt.toNat else none) → d1 = ({ d' with acq := { d'.acq with arms := n } } : Dev) →
    (bitAt (par p' 24 1) 0 = true → 16 ≤ par p' 25 1 → exec (.arm p) s = .next (s.onDev (fun _ => d'.complete (refOf p s.dev) stBAD_PARAMETER d'.now []))) ∧
    (bitAt (par p' 24 1) 0 = false → hasFlag p' 2 = false → ∃ d2, d2 = d1.forEach (unitsOf (par p' 22 2)) (fun u d => d.takeArm u id (par p' 26 2)) ∧
      exec (.arm p) s = .next (s.onDev (fun _ => d2.complete (refOf p s.dev) stOK d2.now (leBytes 4 id)))) ∧
    (∀ r : Nat × Dev, bitAt (par p' 24 1) 0 = false → r = d1.armUnits (unitsOf (par p' 22 2)) id at_ p'.tol.toNat (par p' 26 2) →
      exec (.arm p) s = .next (s.onDev (fun _ => r.2.complete (refOf p s.dev) (match r.1 with | 0 => stOK | 1 => stLATE | _ => stMISSED) r.2.now (leBytes 4 id)))) ∧
    (∀ (g : Nat) (r : Nat × Dev) (path : (Bool × Bool) × Dev) (d2 d3 d4 : Dev), bitAt (par p' 24 1) 0 = true → g = par p' 25 1 → g < 16 →
      r = d1.armUnits (d1.groupUnits g) id at_ p'.tol.toNat (par p' 26 2) → path = r.2.groupPath g →
      d2 = ({ path.2 with acq := { path.2.acq with seen := path.2.acq.seen ++ [(0x12, g, id)], groups := (path.2.acq.groups.filter (fun (x : Nat × Nat × Nat) => x.1 != g)) ++ [(g, p'.tol.toNat, par p' 26 2)] } } : Dev) →
      d3 = d2.when path.1.1 (Dev.floodTrunks 0x12 (leBytes 1 g ++ leBytes 1 (flag at_.isSome) ++ leBytes 1 r.2.sys.index ++ [0] ++ leBytes 4 id ++ leBytes 10 (at_.getD 0) ++
        leBytes 4 p'.tol.toNat ++ leBytes 2 (par p' 26 2)) none) → d4 = d3.when path.1.2 (Dev.sendTbus 1 g d3.now) →
      exec (.arm p) s = .next (s.onDev (fun _ =>
        d4.complete (refOf p s.dev) (match r.1 with | 0 => stOK | 1 => stLATE | _ => stMISSED) d4.now (leBytes 4 id))))) ∧
  (∀ s p p' d', Runs opDisarm p s.dev p' d' →
    (bitAt (par p' 24 1) 0 = true → 16 ≤ par p' 25 1 → exec (.disarm p) s = .next (s.onDev (fun _ => d'.complete (refOf p s.dev) stBAD_PARAMETER d'.now []))) ∧
    (bitAt (par p' 24 1) 0 = false → ∃ d1, d1 = d'.forEach (unitsOf (par p' 22 2)) Dev.disarm ∧
      exec (.disarm p) s = .next (s.onDev (fun _ => d1.complete (refOf p s.dev) stOK d1.now []))) ∧
    (∀ (g id : Nat) (d1 : Dev) (path : (Bool × Bool) × Dev) (d2 d3 d4 : Dev), bitAt (par p' 24 1) 0 = true → g = par p' 25 1 → g < 16 →
      id = (((d'.groupUnits g).head?).map (fun u => d'.rd (ACQ_U_ARM_ID u))).getD 0 → d1 = d'.forEach (d'.groupUnits g) Dev.disarm → path = d1.groupPath g →
      d2 = ({ path.2 with acq := { path.2.acq with seen := path.2.acq.seen ++ [(0x14, g, id)] } } : Dev) →
      d3 = d2.when path.1.1 (Dev.floodTrunks 0x14 (leBytes 1 g ++ leBytes 1 d2.sys.index ++ zeros 2 ++ leBytes 4 id) none) → d4 = d3.when path.1.2 (Dev.sendTbus 3 g d3.now) →
      exec (.disarm p) s = .next (s.onDev (fun _ => d4.complete (refOf p s.dev) stOK d4.now [])))) ∧
  (∀ s p p' d', Runs opForceFire p s.dev p' d' → ∃ d1, d1 = d'.forEach (unitsOf (par p' 22 2)) (fun u d => d.capTrigger u d'.now true false false (bitAt (par p' 24 1) 0)) ∧
    exec (.forceFire p) s = .next (s.onDev (fun _ => d1.complete (refOf p s.dev) stOK d1.now (leBytes 4 (d'.now / 65536 % 2 ^ 32))))) ∧
  (∀ s p p' d' t n used, Runs opLoadMask p s.dev p' d' → t = par p' 22 1 → n = par p' 32 4 →
    used = ((List.range 16).any (fun u => d'.capState u != 0 && bitAt (d'.lrd (ACQ_U_CTRL u)) 20 && d'.lget (ACQ_U_CTRL.MASK_TABLE u) == t)) →
    (16 ≤ t → exec (.loadMask p) s = .next (s.onDev (fun _ => d'.complete (refOf p s.dev) stBAD_PARAMETER d'.now []))) ∧
    (t < 16 → 1048576 < n ∨ n < 32 → exec (.loadMask p) s = .next (s.onDev (fun _ => d'.complete (refOf p s.dev) stBAD_LENGTH d'.now []))) ∧
    (t < 16 → 32 ≤ n → n ≤ 1048576 → used = true → exec (.loadMask p) s = .next (s.onDev (fun _ => d'.complete (refOf p s.dev) stBUSY d'.now []))) ∧
    (t < 16 → 32 ≤ n → n ≤ 1048576 → used = false → (d'.sys.package.map (·.dramCapture)).getD 0 < 16777216 →
      exec (.loadMask p) s = .next (s.onDev (fun _ => d'.complete (refOf p s.dev) stNO_RESOURCE d'.now []))) ∧
    (∀ (bs b : List Byte) (fits : Bool), t < 16 → 32 ≤ n → n ≤ 1048576 → used = false → 16777216 ≤ (d'.sys.package.map (·.dramCapture)).getD 0 → p'.host = some bs → b = padTo n bs →
      n = 32 + 8 * fieldAt b 1 1 * fieldAt b 2 2 →
      fits = (fieldAt b 0 1 == t && decide (1 ≤ fieldAt b 1 1) && decide (fieldAt b 1 1 ≤ 8) && decide (1 ≤ fieldAt b 2 2) && decide (fieldAt b 2 2 ≤ 4096) &&
        decide (fieldAt b 4 1 ≤ 1) && decide (1 ≤ fieldAt b 5 1) && (if fieldAt b 4 1 = 0 then decide (1 ≤ fieldAt b 8 4) else decide (1 ≤ fieldAt b 8 8))) →
      (fits = true → ∃ u, exec (.loadMask p) s = .next u ∧ u.dev.dram = putBytes d'.dram (maskBase t) b ∧ u.dev.acq.masks.contains t = true) ∧
      (fits = false → exec (.loadMask p) s = .next (s.onDev (fun _ => d'.complete (refOf p s.dev) stBAD_PARAMETER d'.now [])))) ∧
    (∀ (bs b : List Byte), t < 16 → 32 ≤ n → n ≤ 1048576 → used = false → 16777216 ≤ (d'.sys.package.map (·.dramCapture)).getD 0 → p'.host = some bs → b = padTo n bs →
      n ≠ 32 + 8 * fieldAt b 1 1 * fieldAt b 2 2 → exec (.loadMask p) s = .next (s.onDev (fun _ => d'.complete (refOf p s.dev) stBAD_LENGTH d'.now []))))

/-- A frame of the wrong length or group does nothing, and an arm or disarm frame seen before does nothing again. A new arm frame arms the group's units under its identifier, at once or at its time, and goes on; a new disarm frame idles them and goes on. A fire frame is applied, and goes on when it is the earliest of its identifier. While the trigger bus is disabled its frames and calibrations do nothing. Its fire with good parity is applied at its edge less the delay and 200 ns, its disarm idles the group, its synchronisation clears the SYNCCLK count; one of bad parity that is no fire is only counted. A calibration that was asked for, or runs in the background on an idle bus, ends with its result or its failure. A registration channel without a mark does nothing; a mark is counted and its request logged by a synchronised permit holder only. CONFIG_REGISTRATION whose rules hold is logged; one that breaks a rule completes CONSISTENCY, during a bulk transfer BUSY, above channel 31 BAD_PARAMETER. CALIBRATE_TRIGGER_PATHS completes ACCEPTED, with the inputs and the trigger bus asked as its kind says; an unknown kind is BAD_PARAMETER. -/
def Obligations.CaptureCrossesControllers : Prop :=
  (∀ (s : State) (k : Fin 2) (b : List Byte), (b.length ≠ 24 ∨ 16 ≤ fieldAt b 0 1 → exec (.armFrame k b) s = .next s ∧ exec (.fireFrame k b) s = .next s) ∧
    (b.length ≠ 8 ∨ 16 ≤ fieldAt b 0 1 → exec (.disarmFrame k b) s = .next s) ∧
    (s.dev.acq.seen.contains (0x12, fieldAt b 0 1, fieldAt b 4 4) = true → exec (.armFrame k b) s = .next s) ∧
    (s.dev.acq.seen.contains (0x14, fieldAt b 0 1, fieldAt b 4 4) = true → exec (.disarmFrame k b) s = .next s)) ∧
  (∀ (s : State) (k : Fin 2) (b : List Byte) (d1 : Dev), b.length = 24 → fieldAt b 0 1 < 16 → s.dev.acq.seen.contains (0x12, fieldAt b 0 1, fieldAt b 4 4) = false →
    d1 = Dev.floodTrunks 0x12 b (some k.val) ({ s.dev with acq := { s.dev.acq with seen := s.dev.acq.seen ++ [(0x12, fieldAt b 0 1, fieldAt b 4 4)], groups := (s.dev.acq.groups.filter (fun (x : Nat × Nat × Nat) => x.1 != fieldAt b 0 1)) ++ [(fieldAt b 0 1, fieldAt b 18 4, fieldAt b 22 2)] } } : Dev) →
    (bitAt (fieldAt b 1 1) 0 = false →
      exec (.armFrame k b) s = .next (s.onDev (fun _ => d1.forEach (d1.groupUnits (fieldAt b 0 1)) (fun u d => d.takeArm u (fieldAt b 4 4) (fieldAt b 22 2))))) ∧
    (bitAt (fieldAt b 1 1) 0 = true → exec (.armFrame k b) s = .next (s.onDev (fun _ =>
      (d1.armUnits (d1.groupUnits (fieldAt b 0 1)) (fieldAt b 4 4) (some (fieldAt b 8 10)) (fieldAt b 18 4) (fieldAt b 22 2)).2)))) ∧
  (∀ (s : State) (k : Fin 2) (b : List Byte), b.length = 24 → fieldAt b 0 1 < 16 →
    (s.dev.acq.fires.any (fun f => f.1 == fieldAt b 4 4 && decide (f.2 ≤ fieldAt b 8 10)) = true → exec (.fireFrame k b) s = .next (s.onDev
      (Dev.applyFire (fieldAt b 0 1) (fieldAt b 8 10) (bitAt (fieldAt b 3 1) 0) (bitAt (fieldAt b 3 1) 1) (fieldAt b 2 1) (fieldAt b 1 1)))) ∧
    (∀ d1 : Dev, s.dev.acq.fires.any (fun f => f.1 == fieldAt b 4 4 && decide (f.2 ≤ fieldAt b 8 10)) = false →
      d1 = ({ s.dev with acq := { s.dev.acq with fires := putKey (fieldAt b 4 4) (fieldAt b 8 10) s.dev.acq.fires } } : Dev) → exec (.fireFrame k b) s = .next (s.onDev (fun _ =>
        (d1.floodTrunks 0x13 b (some k.val)).applyFire (fieldAt b 0 1) (fieldAt b 8 10) (bitAt (fieldAt b 3 1) 0) (bitAt (fieldAt b 3 1) 1) (fieldAt b 2 1) (fieldAt b 1 1))))) ∧
  (∀ (s : State) (k : Fin 2) (b : List Byte) (d1 : Dev), b.length = 8 → fieldAt b 0 1 < 16 → s.dev.acq.seen.contains (0x14, fieldAt b 0 1, fieldAt b 4 4) = false →
    d1 = Dev.floodTrunks 0x14 b (some k.val) ({ s.dev with acq := { s.dev.acq with seen := s.dev.acq.seen ++ [(0x14, fieldAt b 0 1, fieldAt b 4 4)] } } : Dev) →
      exec (.disarmFrame k b) s = .next (s.onDev (fun d => d1.forEach (d.groupUnits (fieldAt b 0 1)) Dev.disarm))) ∧
  (∀ (s : State) (rx : BitVec 80) (b : BitVec 32), s.dev.on TDC_TBUS_CTRL.EN = false → exec (.tbusFrame rx b) s = .next s) ∧
  (∀ (s : State) (rx : BitVec 80) (b : BitVec 32) (slot code : Nat) (d0 d1 : Dev), s.dev.on TDC_TBUS_CTRL.EN = true →
    ((List.range 32).map (fun i => flag (bitAt b.toNat i))).sum % 2 = 0 → slot = bitsOf b.toNat 12 8 → code = bitsOf b.toNat 24 13 →
    d0 = ({ s.dev with acq := { s.dev.acq with busBusy := rx.toNat + ns 3400, d0 := putKey slot code s.dev.acq.d0, d0Cal := if s.dev.acq.d0Cal.any (fun x => x.1 == slot) then s.dev.acq.d0Cal else putKey slot code s.dev.acq.d0Cal } } : Dev) → d1 = d0.showTbusStale →
    (bitsOf b.toNat 3 0 = 2 → exec (.tbusFrame rx b) s = .next (s.onDev (fun _ =>
      d1.applyFire (bitsOf b.toNat 7 4) (rx.toNat - d1.tbusDelay code - ns 200) false false 0xFF 0xFF))) ∧
    (bitsOf b.toNat 3 0 = 3 → exec (.tbusFrame rx b) s = .next (s.onDev (fun _ => d1.forEach (d1.groupUnits (bitsOf b.toNat 7 4)) Dev.disarm))) ∧
    (bitsOf b.toNat 3 0 = 6 → ∃ t, exec (.tbusFrame rx b) s = .next t ∧ t.dev.acq.sync = 0 ∧ t.dev.rd TDC_SYNC_LO = 0 ∧ t.dev.rd TDC_SYNC_HI = 0)) ∧
  (∀ (s : State) (rx : BitVec 80) (b : BitVec 32), s.dev.on TDC_TBUS_CTRL.EN = true → ((List.range 32).map (fun i => flag (bitAt b.toNat i))).sum % 2 = 1 →
    bitsOf b.toNat 3 0 ≠ 2 → exec (.tbusFrame rx b) s = .next (s.onDev (fun d =>
      ({ d with acq := { d.acq with busBusy := rx.toNat + ns 3400 } } : Dev).count TDC_TBUS_ERR.PARITY 1))) ∧
  (∀ (s : State) (m : Option (Nat × Nat)), (s.dev.on TDC_TBUS_CTRL.EN = false → exec (.tbusCalibration m) s = .next s) ∧
    (s.dev.acq.tbusAsked = false → s.dev.on TDC_TBUS_CTRL.TBUS_BG = false ∨ s.dev.now < s.dev.acq.busBusy → exec (.tbusCalibration m) s = .next s) ∧
    (s.dev.on TDC_TBUS_CTRL.EN = true → s.dev.acq.tbusAsked = false → s.dev.on TDC_TBUS_CTRL.TBUS_BG = true → s.dev.acq.busBusy ≤ s.dev.now →
      exec (.tbusCalibration m) s = .next (s.onDev (fun d => d.tbusRequest.tbusResult m)))) ∧
  (∀ s : State, s.dev.on TDC_TBUS_CTRL.EN = true → s.dev.acq.tbusAsked = true → exec (.tbusCalibration none) s = .next (s.onDev (fun d =>
      Dev.post 0x0B10 0x0B02 [1, 1] ({ d with acq := { d.acq with tbusAsked := false } } : Dev)))) ∧
  (∀ (s : State) (loop rtt : Nat), s.dev.on TDC_TBUS_CTRL.EN = true → s.dev.acq.tbusAsked = true → ∃ t, exec (.tbusCalibration (some (loop, rtt))) s = .next t ∧
    t.dev.get TDC_TBUS_D0.LOOP = min (2 ^ 20 - 1) (loop / 256) ∧ t.dev.acq.d0Cal = s.dev.acq.d0 ∧ t.dev.acq.tbusAsked = false ∧
    (s.dev.get TDC_TBUS_CTRL.SLOT = 0 → t.dev.get TDC_TBUS_D0.D0 = 0)) ∧
  (∀ (s : State) (r : Fin 32), (s.dev.regCh r.val).marks = [] → exec (.registrationRequestReady r) s = .next s) ∧
  (∀ (s : State) (r : Fin 32) (m : LTime) (rest : List LTime) (c : RegCh) (d1 : Dev) (e : Int × Option Int), c = s.dev.regCh r.val → c.marks = m :: rest →
    d1 = s.dev.setReg r.val { c with marks := rest } → e = regError c.params (d1.markPosition (d1.axisLive (regField c.params 24 2) pREG_MASTER) m) →
    (e.2 = none ∨ s.dev.permit = false ∨ s.dev.sync = false → exec (.registrationRequestReady r) s = .next (s.onDev (fun _ => d1.countMark r.val e))) ∧
    (∀ v, e.2 = some v → s.dev.permit = true → s.dev.sync = true → ∃ t, exec (.registrationRequestReady r) s = .next t ∧
      t.dev.cyc.waiting = (d1.countMark r.val e).cyc.waiting ++ [⟨0x08, 16, .regRequest r.val v ((c.seq + 1) % 65536), none⟩] ∧
      t.dev.get (ACQ_REG_SEQ.SEQ r.val) = (c.seq + 1) % 65536)) ∧
  (∀ s p p' d', Runs opConfigReg p s.dev p' d' →
    (32 ≤ par p' 22 1 → exec (.configRegistration p) s = .next (s.onDev (fun _ => d'.complete (refOf p s.dev) stBAD_PARAMETER d'.now []))) ∧
    (par p' 22 1 < 32 → d'.on MIR_STATUS.BULK = true → exec (.configRegistration p) s = .next (s.onDev (fun _ => d'.complete (refOf p s.dev) stBUSY d'.now []))) ∧
    (par p' 22 1 < 32 → d'.on MIR_STATUS.BULK = false → d'.regRule (par p' 22 1) (padTo 38 p'.par) = none → exec (.configRegistration p) s = .next (s.onDev (fun _ =>
      d'.logInput 0x01 68 (.configReg (par p' 22 1) (padTo 38 p'.par)) (some (refOf p s.dev))))) ∧
    (∀ k, par p' 22 1 < 32 → d'.on MIR_STATUS.BULK = false → d'.regRule (par p' 22 1) (padTo 38 p'.par) = some k → exec (.configRegistration p) s = .next (s.onDev (fun _ =>
      d'.complete (refOf p s.dev) stCONSISTENCY d'.now (ruleResult k (axisPlace (regField (padTo 38 p'.par) 24 2))))))) ∧
  (∀ s p p' d' k, Runs opCalibratePaths p s.dev p' d' → k = par p' 22 1 →
    (2 < k → exec (.calibrateTriggerPaths p) s = .next (s.onDev (fun _ => d'.complete (refOf p s.dev) stBAD_PARAMETER d'.now []))) ∧
    (∀ d1 : Dev, k ≤ 2 → d1 = d'.when (k != 1) (Dev.forN 16 (fun n d => d.when (bitAt (par p' 24 2) n) (Dev.setTdc n { d.tdcIn n with asked := true }))) →
      (k = 0 → exec (.calibrateTriggerPaths p) s = .next (s.onDev (fun _ => d1.complete (refOf p s.dev) stACCEPTED d1.now []))) ∧
      (1 ≤ k → d1.on TDC_TBUS_CTRL.EN = true → ∃ d2, d2 = Dev.tbusRequest ({ d1 with acq := { d1.acq with tbusAsked := true } } : Dev) ∧
        exec (.calibrateTriggerPaths p) s = .next (s.onDev (fun _ => d2.complete (refOf p s.dev) stACCEPTED d2.now []))) ∧
      (1 ≤ k → d1.on TDC_TBUS_CTRL.EN = false → ∃ d2, d2 = d1.post 0x0B10 0x0B02 [1, 1] ∧
        exec (.calibrateTriggerPaths p) s = .next (s.onDev (fun _ => d2.complete (refOf p s.dev) stACCEPTED d2.now [])))))

/-- A trained link of an absent drive whose clock runs starts its bring-up; a link of another drive trains nothing; a lost link makes the drive absent and missing. A completion without such a command does nothing; another command's completion acts on its drive, and what waits for it goes on. The success of the last part of a record moves it to the written records; a failed write is counted and sent once more, and a second failure fails the drive. A timeout of a drive with nothing outstanding that does not train for a mount does nothing; one during bring-up, or within 10 s of the last, fails the drive; another resets the drive's controller and sends its writes again. The flush timer starts a flush only while records are pending, a drive is mounted and no flush runs. A finished compaction makes the other area active with the kept entries under the next generation, and retires the old one; without a compaction it does nothing. -/
def Obligations.StoreDrivesAndFlushesGoOn : Prop :=
  (∀ (s : State) (i : Fin 4) (sp w : Nat), (s.dev.dState i.val ≠ 0 ∨ bitAt (s.dev.get CLK_NVM_REFCLK.EN) i.val = false → exec (.rootPortLink i true sp w) s = .next s) ∧
    (s.dev.dState i.val = 0 → bitAt (s.dev.get CLK_NVM_REFCLK.EN) i.val = true → ∃ t, exec (.rootPortLink i true sp w) s = .next t ∧
      (t.dev.drive i.val).ops = (s.dev.drive i.val).ops ++ [.enable] ∧ t.dev.dState i.val = 1) ∧
    (s.dev.dState i.val = 0 → exec (.rootPortLink i false sp w) s = .next s) ∧
    (s.dev.dState i.val ≠ 0 → ∃ t, exec (.rootPortLink i false sp w) s = .next t ∧ t.dev.dState i.val = 0 ∧ t.dev.sto.missing.contains i.val = true)) ∧
  (∀ (s : State) (i : Fin 4) (k st : Nat) (x : List Byte), (s.dev.drive i.val).ops[k]? = none → exec (.nvmeCommandComplete i k st x) s = .next s) ∧
  (∀ (s : State) (i : Fin 4) (k st : Nat) (x : List Byte) (op : NvOp), (s.dev.drive i.val).ops[k]? = some op → exec (.nvmeCommandComplete i k st x) s =
    .next (s.onDev (fun d => ((d.setDrive i.val { d.drive i.val with ops := (d.drive i.val).ops.eraseIdx k }).opDone i.val op st x).storeSettle))) ∧
  (∀ (i : Fin 4) (n o : Nat) (b x : List Byte) (re : Bool) (r : Rec) (d : Dev), d.sto.writing.find? (fun y => y.num == n) = some r → n ≠ 0 →
    (1 < r.left → (d.opDone i.val (.write n o b re) 0 x).sto.written = d.sto.written) ∧
    (r.left ≤ 1 → (d.opDone i.val (.write n o b re) 0 x).sto.written = d.sto.written ++ [{ r with left := 0 }])) ∧
  (∀ (i : Fin 4) (n o st : Nat) (b x : List Byte) (d : Dev), st ≠ 0 → d.opDone i.val (.write n o b false) st x =
      ((d.count (STO_D_ERR.WRITE i.val) 1).pushOp i.val (.write n o b true)).emit (.nvme i.val 1 o b) ∧
    d.opDone i.val (.write n o b true) st x = (d.count (STO_D_ERR.WRITE i.val) 1).failDrive i.val st) ∧
  (∀ (s : State) (i : Fin 4) (trains again : Bool), trains = (decide (s.dev.dState i.val ≤ 1) && (s.dev.drive i.val).ops.isEmpty &&
      (match s.dev.sto.job with | some j => j.waiting.contains i.val | none => false)) →
    again = (match (s.dev.drive i.val).timeout with | some t => decide (s.dev.now ≤ t + ns 10000000000) | none => false) →
    ((s.dev.drive i.val).ops = [] → trains = false → exec (.nvmeTimeout i) s = .next s) ∧
    ((s.dev.drive i.val).ops ≠ [] ∨ trains = true → s.dev.dState i.val ≤ 2 ∨ again = true → exec (.nvmeTimeout i) s =
      .next (s.onDev (fun d => (d.count32 (STO_D_TIMEOUT i.val) 1).failDrive i.val 0xFFFF))) ∧
    ((s.dev.drive i.val).ops ≠ [] → 3 ≤ s.dev.dState i.val → again = false → exec (.nvmeTimeout i) s = .next (s.onDev (fun d =>
      (((d.count32 (STO_D_TIMEOUT i.val) 1).setDrive i.val { d.drive i.val with timeout := some d.now }).nvme i.val 0 0x100 0 []).forEach (d.drive i.val).ops
        (fun o d => match o with | .write _ op b _ => d.emit (.nvme i.val 1 op b) | _ => d))))) ∧
  (∀ s : State, (s.dev.sto.flush ≠ none ∨ s.dev.sto.writing ++ s.dev.sto.written = [] ∨ s.dev.drivesIn 3 = [] → exec .flushTimer s = .next s) ∧
    (s.dev.sto.flush = none → s.dev.sto.writing ++ s.dev.sto.written ≠ [] → s.dev.drivesIn 3 ≠ [] → ∃ t, exec .flushTimer s = .next t ∧
      t.dev.sto.flush = some ⟨[], s.dev.sto.written.map (·.num), s.dev.drivesIn 3⟩ ∧ t.dev.on STO_STATUS.FLUSHING = true)) ∧
  (∀ s : State, s.dev.ledger.compacting = none → exec .ledgerCompacted s = .next s) ∧
  (∀ (s : State) (b : Nat), s.dev.ledger.compacting = some b → ∃ t, exec .ledgerCompacted s = .next t ∧
    t.dev.ledger.compacting = none ∧ t.dev.ledger.active = 1 - s.dev.ledger.active ∧ t.dev.ledger.area.journal = keptEntries s.dev.ledger.area.journal ∧
    t.dev.ledger.area.gen = s.dev.ledger.area.gen + 1 ∧ t.dev.ledger.area.retired = false ∧
    (if s.dev.ledger.active = 0 then t.dev.ledger.areaA else t.dev.ledger.areaB).retired = true ∧ t.dev.on LDG_STATUS.COMPACTING = false)

/-- MOUNT_STORE takes up its drives for a mount or a format, or unmounts them after a flush; it completes BAD_PARAMETER, or BUSY while a job, an unmount, a flush that packets wait for or a drive's work stands against it. READ_RECORD of a record on a mounted drive pins it and reads its AUs, one of an AU reads that AU; of an unknown record or AU it completes BAD_PARAMETER. LIST_RECORDS reads the headers of the records from a number on, under HA_INDEX those of the AUs; an empty range writes the empty list with the next number. DELETE_RECORDS of a range with a pinned record completes BUSY, of one without deletable records OK with 0, else it deletes them. FLUSH_STORE completes BUSY during an unmount, OK with the newest durable record without mounted drives; with them it waits for its flush. COMPACT_LEDGER starts a compaction of the area chosen, or completes BAD_PARAMETER, BUSY or WRONG_MODE. READ_LEDGER writes the entries of an area from a number on and completes OK with their length and the next number; a host that answers with an error ends it with INTERNAL. -/
def Obligations.StorePacketsTakeEffect : Prop :=
  (∀ s p p' d' op mask, Runs opMountStore p s.dev p' d' → op = par p' 22 1 → mask = (List.range 4).filter (bitAt (par p' 23 1)) →
    (2 < op ∨ 16 ≤ par p' 23 1 → exec (.mountStore p) s = .next (s.onDev (fun _ => d'.complete (refOf p s.dev) stBAD_PARAMETER d'.now []))) ∧
    (op ≤ 2 → par p' 23 1 < 16 → d'.sto.job ≠ none ∨ d'.sto.unmounting ≠ none →
      exec (.mountStore p) s = .next (s.onDev (fun _ => d'.complete (refOf p s.dev) stBUSY d'.now []))) ∧
    (op = 0 → par p' 23 1 < 16 → d'.sto.job = none → d'.sto.unmounting = none →
      exec (.mountStore p) s = .next (s.onDev (fun _ => d'.startMount 0 mask (some (refOf p s.dev))))) ∧
    (∀ asked : Bool, op = 1 → par p' 23 1 < 16 → d'.sto.job = none → d'.sto.unmounting = none →
      asked = (!d'.sto.flushNext.isEmpty || (match d'.sto.flush with | some f => !f.refs.isEmpty | none => false)) →
      (asked = true → exec (.mountStore p) s = .next (s.onDev (fun _ => d'.complete (refOf p s.dev) stBUSY d'.now []))) ∧
      (asked = false → exec (.mountStore p) s = .next (s.onDev (fun _ =>
        ({ d' with sto := { d'.sto with unmounting := some (mask, refOf p s.dev) } } : Dev).startUnmount)))) ∧
    (∀ works : Bool, op = 2 → par p' 23 1 < 16 → d'.sto.job = none → d'.sto.unmounting = none →
      works = ((d'.sto.writing ++ d'.sto.written).any (fun r => mask.contains r.drive) || mask.any (fun i => !(d'.drive i).ops.isEmpty)) →
      (works = true → exec (.mountStore p) s = .next (s.onDev (fun _ => d'.complete (refOf p s.dev) stBUSY d'.now []))) ∧
      (works = false → exec (.mountStore p) s = .next (s.onDev (fun _ => d'.formatStore.startMount 2 mask (some (refOf p s.dev))))))) ∧
  (∀ s p p' d' fl i au, Runs opReadRecord p s.dev p' d' → fl = par p' 50 1 → i = par p' 22 1 → au = par p' 24 4 →
    (8 ≤ fl → exec (.readRecord p) s = .next (s.onDev (fun _ => d'.complete (refOf p s.dev) stBAD_PARAMETER d'.now []))) ∧
    (fl < 8 → bitAt fl 2 = true → 4 ≤ i ∨ d'.dState i ≠ 3 ∨ (d'.drive i).n ≤ au →
      exec (.readRecord p) s = .next (s.onDev (fun _ => d'.complete (refOf p s.dev) stBAD_PARAMETER d'.now []))) ∧
    (fl < 8 → bitAt fl 2 = true → i < 4 → d'.dState i = 3 → au < (d'.drive i).n →
      exec (.readRecord p) s = .next (s.onDev (fun _ => (d'.pushOp i (.readAu au p' (refOf p s.dev))).nvme i 1 2 (auAt au) (leBytes 8 0x200000))))) ∧
  (∀ s p p' d' n, Runs opReadRecord p s.dev p' d' → n = par p' 22 8 → par p' 50 1 < 4 →
    (d'.ha 7 = true ∨ d'.driveOf n = none ∨ d'.sto.writing.any (fun r => r.num == n) = true →
      exec (.readRecord p) s = .next (s.onDev (fun _ => d'.complete (refOf p s.dev) stBAD_PARAMETER d'.now []))) ∧
    (∀ i : Nat, d'.ha 7 = false → d'.driveOf n = some i → d'.sto.writing.any (fun r => r.num == n) = false →
      exec (.readRecord p) s = .next (s.onDev (fun _ => (({ d' with sto := { d'.sto with pinned := d'.sto.pinned ++ [n] } } : Dev).pushOp i (.readRecord n p' (refOf p s.dev))).forEach
        ((d'.drive i).unitsOf n) (fun a => Dev.nvme i 1 2 (auAt a) (leBytes 8 0x200000)))))) ∧
  (∀ s p p' d' kind, Runs opListRecords p s.dev p' d' → kind = par p' 40 1 →
    (2 < kind → exec (.listRecords p) s = .next (s.onDev (fun _ => d'.complete (refOf p s.dev) stBAD_PARAMETER d'.now []))) ∧
    (∀ aus : List (Nat × Nat), kind ≤ 2 → d'.ha 7 = true → aus = (d'.drivesIn 3).flatMap (fun i => (List.range (min (d'.drive i).dws (d'.drive i).n)).map (fun k =>
        (i, (d'.rd (STO_D_WPTR i) + (d'.drive i).n - 1 - k) % max 1 (d'.drive i).n))) →
      exec (.listRecords p) s = .next (s.onDev (fun _ => d'.listAuStep p' (refOf p s.dev) [] (aus.take (par p' 30 2))))) ∧
    (∀ ns_ : List Nat, kind ≤ 2 → d'.ha 7 = false →
      ns_ = (d'.recordsWith (fun e => decide (par p' 22 8 ≤ e.num) && (kind == 0 || e.kind == kind))).filter (fun n => !d'.sto.writing.any (fun r => r.num == n)) →
      exec (.listRecords p) s = .next (s.onDev (fun _ => Dev.listStep p' (refOf p s.dev) [] (ns_.take (par p' 30 2)) d')))) ∧
  (∀ s p p' d' bs, Runs opListRecords p s.dev p' d' → par p' 40 1 = 0 → d'.ha 7 = false → d'.recordsWith (fun e => decide (par p' 22 8 ≤ e.num)) = [] → p'.host = some bs →
    exec (.listRecords p) s = .next (s.onDev (fun _ => (d'.emit (.hostWrite (par p' 32 8) (d'.outBytes p' []))).complete (refOf p s.dev) stOK d'.now
      (leBytes 2 0 ++ leBytes 8 d'.sto.next)))) ∧
  (∀ s p p' d' ns_, Runs opDeleteRecords p s.dev p' d' → ns_ = (if d'.ha 7 then [] else d'.recordsWith (fun e => decide (par p' 22 8 ≤ e.num) &&
      decide (e.num ≤ par p' 30 8) && (e.state == 2 || (bitAt (par p' 38 1) 0 && e.state == 3)))) →
    (d'.sto.pinned.any (fun n => par p' 22 8 ≤ n && n ≤ par p' 30 8) = true → exec (.deleteRecords p) s =
      .next (s.onDev (fun _ => d'.complete (refOf p s.dev) stBUSY d'.now []))) ∧
    (d'.sto.pinned.any (fun n => par p' 22 8 ≤ n && n ≤ par p' 30 8) = false →
      (ns_ = [] → exec (.deleteRecords p) s = .next (s.onDev (fun _ => d'.complete (refOf p s.dev) stOK d'.now (leBytes 4 0)))) ∧
      (ns_ ≠ [] → exec (.deleteRecords p) s = .next (s.onDev (fun _ => d'.deleteRecords ns_ (some (refOf p s.dev))))))) ∧
  (∀ s p p' d', Runs opFlushStore p s.dev p' d' → (d'.sto.unmounting ≠ none → exec (.flushStore p) s =
      .next (s.onDev (fun _ => d'.complete (refOf p s.dev) stBUSY d'.now []))) ∧
    (d'.sto.unmounting = none → d'.drivesIn 3 = [] → exec (.flushStore p) s = .next (s.onDev (fun _ => d'.complete (refOf p s.dev) stOK d'.now (leBytes 8 d'.sto.headNum)))) ∧
    (d'.sto.unmounting = none → d'.drivesIn 3 ≠ [] → d'.sto.flush ≠ none → exec (.flushStore p) s =
      .next (s.onDev (fun _ => { d' with sto := { d'.sto with flushNext := d'.sto.flushNext ++ [refOf p s.dev] } }))) ∧
    (d'.sto.unmounting = none → d'.drivesIn 3 ≠ [] → d'.sto.flush = none → ∃ t, exec (.flushStore p) s = .next t ∧
      t.dev.sto.flush = some ⟨d'.sto.flushNext ++ [refOf p s.dev], d'.sto.written.map (·.num), d'.drivesIn 3⟩ ∧ t.dev.sto.flushNext = [])) ∧
  (∀ s p p' d' op, Runs opCompactLedger p s.dev p' d' → op = par p' 22 1 →
    (2 < op → exec (.compactLedger p) s = .next (s.onDev (fun _ => d'.complete (refOf p s.dev) stBAD_PARAMETER d'.now []))) ∧
    (op ≤ 2 → d'.ledger.compacting ≠ none → exec (.compactLedger p) s = .next (s.onDev (fun _ => d'.complete (refOf p s.dev) stBUSY d'.now []))) ∧
    (op ≤ 2 → d'.ledger.compacting = none → (d'.on LDG_STATUS.CONFLICT = true ↔ op = 0) →
      exec (.compactLedger p) s = .next (s.onDev (fun _ => d'.complete (refOf p s.dev) stWRONG_MODE d'.now []))) ∧
    (op = 0 → d'.ledger.compacting = none → d'.on LDG_STATUS.CONFLICT = false → ∃ d1, d1 = ({ d' with ledger := { d'.ledger with compacting := some (d'.get LDG_FILL.PERCENT) } } : Dev).set LDG_STATUS.COMPACTING 1 ∧
      exec (.compactLedger p) s = .next (s.onDev (fun _ => d1.complete (refOf p s.dev) stACCEPTED d1.now []))) ∧
    (∀ l : Ledger, 1 ≤ op → op ≤ 2 → d'.ledger.compacting = none → d'.on LDG_STATUS.CONFLICT = true → l = ({ d'.ledger with active := op - 1 } : Ledger) →
      ∃ d1, d1 = ({ d' with ledger := { l with compacting := some (d'.get LDG_FILL.PERCENT), nextSeq := max l.nextSeq ((l.area.journal.map (fun e => e.seq)).max?.getD 0 + 1) } } : Dev).set LDG_STATUS.COMPACTING 1 ∧
      exec (.compactLedger p) s = .next (s.onDev (fun _ => d1.complete (refOf p s.dev) stACCEPTED d1.now [])))) ∧
  (∀ s p p' d' area, Runs opReadLedger p s.dev p' d' → area = par p' 31 1 →
    (2 < area → exec (.readLedger p) s = .next (s.onDev (fun _ => d'.complete (refOf p s.dev) stBAD_PARAMETER d'.now []))) ∧
    (area ≤ 2 → p'.host = none → ∃ d1, d1 = d'.count32 HIF_DMA_ERR_CNT 1 ∧
      exec (.readLedger p) s = .next (s.onDev (fun _ => d1.complete (refOf p s.dev) stINTERNAL d1.now []))) ∧
    (∀ (bs : List Byte) (a : LedgerArea) (es : List LedgerEntry) (clear : Bool) (r : List Byte × Option Nat), area ≤ 2 → p'.host = some bs →
      a = (if area = 0 then d'.ledger.area else if area = 1 then d'.ledger.areaA else d'.ledger.areaB) →
      es = a.journal.filter (fun e => decide (par p' 22 8 ≤ e.seq) && (par p' 30 1 == 0 || e.typ == par p' 30 1)) →
      clear = (hasFlag p' 1 && (d'.sec.sessions.any (fun x => x.sid == p'.session.toNat && bitAt x.granted 4))) → r = fillEntries clear (par p' 40 4) es →
      exec (.readLedger p) s = .next (s.onDev (fun _ => (d'.emit (.hostWrite (par p' 32 8) (d'.outBytes p' r.1))).complete (refOf p s.dev) stOK d'.now
        (leBytes 4 (outLen p' r.1.length) ++ leBytes 8 (r.2.getD d'.ledger.nextSeq))))))

/-- Three channels give a result when two agree, two only when both do, one never, with Lockout cause 1, 3 or 2 otherwise. A safety cycle with no channel present does nothing; one whose three channels agree, with no set in force and no cause, advances the cycle count; one whose vote gives a cause enters Lockout from every mode that has it. Samples are taken of enabled inputs only; a level holds once it is sampled twice, and a contact whose source is masked is not taken. A discrepancy of an enabled input whose contacts differ makes it FAULTED, or keeps a faulted one from having opened; another does nothing. A test pulse masks its source and faults an enabled input whose contact on that source stayed high. A readback of an output that is off and reads low, or of a toggling one at its expected levels, passes; a wrong level of an output that is off, or the second one of a toggling output in turn, is a Lockout cause, the first is counted. Two seal reads count when they agree: they clear or raise cause 4 against the active set, and make a pending set of that code active. -/
def Obligations.SafetyCyclesInputsAndOutputs : Prop :=
  (∀ rs : List (Option Bool), (vote [0, 1, 2] rs = none ↔ 2 ≤ [0, 1, 2].countP (fun n => (rs[n]?).getD none == some true)) ∧
    (∀ n m : Fin 3, n ≠ m → (vote [n.val, m.val] rs = none ↔ ((rs[n.val]?).getD none = some true ∧ (rs[m.val]?).getD none = some true))) ∧
    (∀ (n m : Fin 3) (c : Nat), n ≠ m → vote [n.val, m.val] rs = some c → c = 3) ∧
    (∀ n : Nat, vote [n] rs = some 2) ∧ vote [] rs = some 2 ∧ (∀ c, vote [0, 1, 2] rs = some c → c = 1)) ∧
  (∀ (s : State) (r0 r1 r2 : Option Bool) (osc : List Int) (vdd : List (BitVec 8)) (low : Bool), (s.dev.mode < 2 ∨ s.dev.get SAF_STATUS.CH_ACTIVE + s.dev.get SAF_STATUS.CH_FAILED = 0) →
    exec (.safetyCycle r0 r1 r2 osc vdd low) s = .next s) ∧
  (∀ (s : State) (low : Bool), 2 ≤ s.dev.mode → s.dev.get SAF_STATUS.CH_ACTIVE + s.dev.get SAF_STATUS.CH_FAILED ≠ 0 →
    (List.range 3).all (fun n => decide (s.dev.get (SAF_CH.STATE n) < 2)) = true → s.dev.saf.active = none → s.dev.saf.causes = [] → s.dev.saf.exitDue = false →
    (List.range 4).all (fun n => !(s.dev.sout n).toggling) = true → ∃ t, exec (.safetyCycle (some true) (some true) (some true) [] [] low) s = .next t ∧
      t.dev.rd SAF_CYCLE = (s.dev.rd SAF_CYCLE + 1) % 2 ^ 32 ∧ t.dev.on SAF_STATUS.SACK_LOW = low ∧ (List.range 3).all (fun n => t.dev.get (SAF_CH.STATE n) == 0) = true ∧ t.dev.mode = s.dev.mode) ∧
  (∀ (s : State) (r0 r1 r2 : Option Bool) (osc : List Int) (vdd : List (BitVec 8)) (low : Bool) (c : Nat), s.dev.get SAF_STATUS.CH_ACTIVE + s.dev.get SAF_STATUS.CH_FAILED ≠ 0 →
    [4, 5, 6, 7, 8, 10, 11].contains s.dev.mode = true → vote ((List.range 3).filter (fun n => s.dev.get (SAF_CH.STATE n) != 2)) [r0, r1, r2] = some c →
    ∃ t, exec (.safetyCycle r0 r1 r2 osc vdd low) s = .next t ∧ t.dev.mode = 9 ∧ t.dev.saf.causes.contains c = true) ∧
  (∀ (s : State) (a b : BitVec 8), (List.range 8).all (fun n => !s.dev.sinOn n) = true → exec (.safeInputSample a b) s = .next (s.onDev Dev.showSafety)) ∧
  (∀ (s : State) (a b : BitVec 8) (n : Fin 8) (mA mB : Bool), s.dev.sinOn n.val = true →
    mA = s.dev.saf.masks.any (fun m => m.1 == fieldAt (inEntry s.dev.safSet n.val) 1 1 && decide (s.dev.now < m.2)) →
    mB = s.dev.saf.masks.any (fun m => m.1 == fieldAt (inEntry s.dev.safSet n.val) 2 1 && decide (s.dev.now < m.2)) →
    ∃ t, exec (.safeInputSample a b) s = .next t ∧
      (t.dev.sin n.val).rawA = (if mA then (s.dev.sin n.val).rawA else bitAt a.toNat n.val) ∧ (t.dev.sin n.val).rawB = (if mB then (s.dev.sin n.val).rawB else bitAt b.toNat n.val) ∧
      (t.dev.sin n.val).a = (if !mA && bitAt a.toNat n.val == (s.dev.sin n.val).rawA then bitAt a.toNat n.val else (s.dev.sin n.val).a) ∧
      (t.dev.sin n.val).b = (if !mB && bitAt b.toNat n.val == (s.dev.sin n.val).rawB then bitAt b.toNat n.val else (s.dev.sin n.val).b)) ∧
  (∀ (s : State) (n : Fin 8), (s.dev.sinOn n.val = false ∨ (s.dev.contactOk n.val).1 = (s.dev.contactOk n.val).2 → exec (.discrepancyTimeout n) s = .next s) ∧
    (s.dev.sinOn n.val = true → (s.dev.contactOk n.val).1 ≠ (s.dev.contactOk n.val).2 → ∃ t, exec (.discrepancyTimeout n) s = .next t ∧ (t.dev.sin n.val).faulted = true ∧
      (t.dev.sin n.val).bothOpen = false)) ∧
  (∀ (s : State) (k : Fin 4) (a b : BitVec 8), (s.dev.saf.active = none → exec (.testPulse k a b) s = .next s) ∧
    (s.dev.saf.active ≠ none → ∃ t, exec (.testPulse k a b) s = .next t ∧
      t.dev.saf.masks.contains (k.val, s.dev.now + ns ((fieldAt s.dev.safSet 16 2 + 50) * 1000)) = true)) ∧
  (∀ (s : State) (k : Fin 4) (a b : BitVec 8) (n : Fin 8), s.dev.sinOn n.val = true →
    (fieldAt (inEntry s.dev.safSet n.val) 1 1 = k.val ∧ bitAt a.toNat n.val = true) ∨ (fieldAt (inEntry s.dev.safSet n.val) 2 1 = k.val ∧ bitAt b.toNat n.val = true) →
    ∃ t, exec (.testPulse k a b) s = .next t ∧ (t.dev.sin n.val).faulted = true) ∧
  (∀ (s : State) (n : Fin 4) (a b : Bool), (s.dev.saf.active = none ∨ bitAt (fieldAt (outEntry s.dev.safSet n.val) 0 1) 0 = false → exec (.outputReadback n a b) s = .next s)) ∧
  (∀ (s : State) (n : Fin 4), s.dev.saf.active ≠ none → bitAt (fieldAt (outEntry s.dev.safSet n.val) 0 1) 0 = true →
    ((s.dev.sout n.val).toggling = false → exec (.outputReadback n false false) s =
      .next (s.onDev (fun d => (d.setSout n.val { d.sout n.val with level := false, edges := 0, badA := 0, badB := 0 }).proveOutputs.showSafety))) ∧
    (∀ a b : Bool, (s.dev.sout n.val).toggling = false → a = true ∨ b = true → ∃ t, exec (.outputReadback n a b) s = .next t ∧ t.dev.saf.causes.contains 5 = true ∧
      (t.dev.sout n.val).badA = (if a then 2 else 0) ∧ (t.dev.sout n.val).badB = (if b then 2 else 0)) ∧
    ((s.dev.sout n.val).toggling = true → ∃ t, exec (.outputReadback n (!(s.dev.sout n.val).level) (s.dev.sout n.val).level) s = .next t ∧
      t.dev.sout n.val = { s.dev.sout n.val with level := !(s.dev.sout n.val).level, edges := (s.dev.sout n.val).edges + 1, badA := 0, badB := 0 }) ∧
    ((s.dev.sout n.val).toggling = true → (s.dev.sout n.val).badA = 0 → ∃ t, exec (.outputReadback n (s.dev.sout n.val).level (s.dev.sout n.val).level) s = .next t ∧
      (t.dev.sout n.val).badA = 1 ∧ (t.dev.sout n.val).edges = 0 ∧ t.dev.saf.causes = s.dev.saf.causes) ∧
    ((s.dev.sout n.val).toggling = true → (s.dev.sout n.val).badA = 1 → ∃ t, exec (.outputReadback n (s.dev.sout n.val).level (s.dev.sout n.val).level) s = .next t ∧
      (t.dev.sout n.val).badA = 2 ∧ t.dev.saf.causes.contains 5 = true)) ∧
  (∀ (s : State) (r1 r2 : BitVec 16), (s.dev.mode < 2 ∨ r1 ≠ r2 → exec (.sealRead r1 r2) s = .next s) ∧
    (2 ≤ s.dev.mode → s.dev.saf.active = none → s.dev.saf.pending = none → exec (.sealRead r1 r1) s =
      .next (s.onDev (fun d => (d.set SAF_SEAL.READING r1.toNat).showSafety))) ∧
    (∀ set, 2 ≤ s.dev.mode → s.dev.saf.active = some set → s.dev.saf.pending = none → fieldAt set 2 2 = r1.toNat → exec (.sealRead r1 r1) s =
      .next (s.onDev (fun d => ((d.set SAF_SEAL.READING r1.toNat).causeGone 4).showSafety))) ∧
    (∀ set, 2 ≤ s.dev.mode → s.dev.saf.active = some set → s.dev.saf.pending = none → fieldAt set 2 2 ≠ r1.toNat → ∃ t, exec (.sealRead r1 r1) s = .next t ∧
      t.dev.saf.causes.contains 4 = true ∧ t.dev.get SAF_SEAL.READING = r1.toNat) ∧
    (∀ set, 2 ≤ s.dev.mode → s.dev.saf.pending = some set → fieldAt set 2 2 = r1.toNat → ∃ t, exec (.sealRead r1 r1) s = .next t ∧
      t.dev.saf.active = some set ∧ t.dev.saf.pending = none ∧ t.dev.saf.causes.contains 4 = false))

/-- A PDU of a connection that this controller does not use goes on unaltered on the trunk its seed names, when it is one of the set between controllers, else it does nothing. One of another length or CRC is counted and dropped, beyond ten a second an open connection faults. A data PDU of the last number is ignored, one more than 16 numbers ahead is a fault, one up to 16 ahead is taken; kind 4 closes. A lapse of an open connection is a fault; of any other nothing. An unconfirmed function latches the connection. A release of SACK, or of the ACK of an acknowledge master, that held for 0.5 s to 5 s and began after the last demand is a deliberate reset, which in Lockout without a cause and with matching seal makes the exit due; another release resets nothing; while SACK is stuck it only starts the wait. Safety parameters stand pending, or complete BAD_LENGTH, BAD_PARAMETER, CONSISTENCY or INTERNAL. The status is answered, a stop demand of kind 1 or 2 taken and another refused, a used connection opened again and another refused, and the log written to host memory with the next number. -/
def Obligations.SafetyConnectionsAndResets : Prop :=
  (∀ (s : State) (c : Fin 1088) (bs : List Byte), s.dev.usedConns.contains c.val = false →
    (connCount s.dev.safSet ≤ c.val ∨ fieldAt (connEntry s.dev.safSet c.val) 4 1 ≠ 2 ∨ bs.length ≠ 48 → exec (.pduReceived c bs) s = .next s) ∧
    (c.val < connCount s.dev.safSet → fieldAt (connEntry s.dev.safSet c.val) 4 1 = 2 → bs.length = 48 →
      crc32cFrom (fieldAt (connEntry s.dev.safSet c.val) 0 4) (bs.take 44) = fieldAt bs 44 4 →
      exec (.pduReceived c bs) s = .next (s.onDev (fun d => d.setPort 9 { d.port 9 with forward := putKey c.val bs (d.port 9).forward })))) ∧
  (∀ (s : State) (c : Fin 1088) (bs : List Byte) (recent : List LTime) (d1 : Dev), s.dev.usedConns.contains c.val = true →
    bs.length ≠ 48 ∨ crc32cFrom (s.dev.pduSeed c.val false) (bs.take 44) ≠ fieldAt bs 44 4 →
    recent = ((s.dev.conn c.val).crcAt.filter (fun t => decide (s.dev.now < t + ns 1000000000))) ++ [s.dev.now] →
    d1 = (s.dev.count (SAF_CONN_W1.CRC_ERR c.val) 1).setConn c.val { s.dev.conn c.val with crcAt := recent } →
    (recent.length ≤ 10 ∨ s.dev.connState c.val = 0 → exec (.pduReceived c bs) s = .next (s.onDev (fun _ => d1.showSafety))) ∧
    (10 < recent.length → s.dev.connState c.val ≠ 0 → exec (.pduReceived c bs) s = .next (s.onDev (fun _ => (d1.connFault c.val).showSafety)))) ∧
  (∀ (s : State) (c : Fin 1088) (bs : List Byte) (ahead : Nat), s.dev.usedConns.contains c.val = true → bs.length = 48 →
    crc32cFrom (s.dev.pduSeed c.val false) (bs.take 44) = fieldAt bs 44 4 → ahead = (fieldAt bs 2 2 + 65536 - s.dev.get (SAF_CONN_W0.SEQ_RX c.val)) % 65536 →
    (fieldAt bs 0 1 = 1 → s.dev.connState c.val = 2 ∨ s.dev.connState c.val = 3 → ahead = 0 → exec (.pduReceived c bs) s = .next (s.onDev Dev.showSafety)) ∧
    (fieldAt bs 0 1 = 1 → s.dev.connState c.val = 2 ∨ s.dev.connState c.val = 3 → 16 < ahead → exec (.pduReceived c bs) s =
      .next (s.onDev (fun d => (d.connFault c.val).showSafety))) ∧
    (fieldAt bs 0 1 = 1 → s.dev.connState c.val = 2 ∨ s.dev.connState c.val = 3 → 1 ≤ ahead → ahead ≤ 16 → exec (.pduReceived c bs) s =
      .next (s.onDev (fun d => ((d.set (SAF_CONN_W0.SEQ_RX c.val) (fieldAt bs 2 2)).pduData c.val (fieldAt bs 1 1) ((bs.drop 8).take (min 32 (fieldAt bs 6 1)))).showSafety))) ∧
    (fieldAt bs 0 1 = 1 → s.dev.connState c.val < 2 → exec (.pduReceived c bs) s = .next (s.onDev Dev.showSafety)) ∧
    (fieldAt bs 0 1 = 4 → s.dev.connState c.val ≠ 0 → exec (.pduReceived c bs) s =
      .next (s.onDev (fun d => ((d.set (SAF_CONN_W0.RUN c.val) 0).connTo c.val 0).showSafety)))) ∧
  (∀ (s : State) (c : Fin 1088), (s.dev.usedConns.contains c.val = false ∨ s.dev.connState c.val ≠ 2 → exec (.safetyWatchdogLapse c) s = .next s) ∧
    (s.dev.usedConns.contains c.val = true → s.dev.connState c.val = 2 → ∃ t, exec (.safetyWatchdogLapse c) s = .next t ∧ (t.dev.conn c.val).fed = false ∧
      (t.dev.conn c.val).fault = true ∧ t.dev.connState c.val = 3 ∧ t.dev.saf.lastDemand = s.dev.now)) ∧
  (∀ (s : State) (c : Fin 1088) (b : Fin 8) (open_ : Bool), open_ = (s.dev.usedConns.contains c.val && fieldAt (connEntry s.dev.safSet c.val) 4 1 == 1 && decide (2 ≤ s.dev.connState c.val) &&
      bitAt (s.dev.requested c.val) b.val && !bitAt (fieldAt (s.dev.conn c.val).rx 0 1) b.val) →
    (open_ = false → exec (.confirmationTimeout c b) s = .next s) ∧
    (open_ = true → ∃ t, exec (.confirmationTimeout c b) s = .next t ∧ (t.dev.conn c.val).latch = true)) ∧
  (∀ (s : State) (c : Fin 1088) (at_ : BitVec 80) (acks : Bool), acks = (decide (2 ≤ s.dev.mode) && s.dev.usedConns.contains c.val && bitAt (fieldAt (connEntry s.dev.safSet c.val) 5 1) 1 &&
      decide (s.dev.connState c.val = 2) && decide (ns 500000000 ≤ s.dev.now - at_.toNat) && decide (s.dev.now - at_.toNat ≤ ns 5000000000) &&
      (decide (s.dev.saf.lastDemand < at_.toNat) || s.dev.saf.lastDemand == 0)) →
    (acks = false → exec (.sackRelease (some c) at_) s = .next s) ∧
    (acks = true → exec (.sackRelease (some c) at_) s = .next (s.onDev (Dev.deliberateReset 1 c.val)))) ∧
  (∀ (s : State) (at_ : BitVec 80), s.dev.mode < 2 → exec (.sackRelease none at_) s = .next s) ∧
  (∀ (s : State) (at_ : BitVec 80) (past acks : Bool) (d1 : Dev), 2 ≤ s.dev.mode →
    past = (match s.dev.saf.stuckEnd with | some t => decide (t + ns 1000000000 ≤ at_.toNat) | none => false) →
    acks = (decide (ns 500000000 ≤ s.dev.now - at_.toNat) && decide (s.dev.now - at_.toNat ≤ ns 5000000000) && (decide (s.dev.saf.lastDemand < at_.toNat) || s.dev.saf.lastDemand == 0)) →
    d1 = ({ s.dev.set SAF_STATUS.SACK_LOW 0 with saf := { s.dev.saf with stuckEnd := none } } : Dev).set SAF_STATUS.SACK_STUCK 0 →
    (s.dev.on SAF_STATUS.SACK_STUCK = true → past = false → exec (.sackRelease none at_) s = .next (s.onDev (fun d =>
      { d.set SAF_STATUS.SACK_LOW 0 with saf := { d.saf with stuckEnd := some d.now } }))) ∧
    (s.dev.on SAF_STATUS.SACK_STUCK = false ∨ past = true → acks = false → exec (.sackRelease none at_) s = .next (s.onDev (fun _ => d1))) ∧
    (s.dev.on SAF_STATUS.SACK_STUCK = false ∨ past = true → acks = true → exec (.sackRelease none at_) s = .next (s.onDev (fun _ => d1.deliberateReset 0 0))) ∧
    (s.dev.on SAF_STATUS.SACK_STUCK = false ∨ past = true → acks = true → ∃ t, exec (.sackRelease none at_) s = .next t ∧ t.dev.saf.hostDemand = 0 ∧ t.dev.mode = s.dev.mode ∧
      t.dev.saf.exitDue = (s.dev.saf.exitDue || (s.dev.mode == 9 && s.dev.saf.causes.isEmpty && s.dev.saf.active.isSome && s.dev.get SAF_SEAL.READING == fieldAt s.dev.safSet 2 2)))) ∧
  (∀ s : State, (s.dev.mode < 2 ∨ s.dev.on SAF_STATUS.SACK_STUCK = true → exec .sackStuck s = .next s) ∧
    (2 ≤ s.dev.mode → s.dev.on SAF_STATUS.SACK_STUCK = false → exec .sackStuck s = .next (s.onDev (fun d =>
      ((({ d with saf := { d.saf with stuckEnd := none } } : Dev).set SAF_STATUS.SACK_STUCK 1).set SAF_STATUS.SACK_LOW 1).safPost 0x0C0A [])))) ∧
  (∀ s p p' d', Runs opLoadSafety p s.dev p' d' →
    (65536 < par p' 30 4 → exec (.loadSafetyParameters p) s = .next (s.onDev (fun _ => d'.complete (refOf p s.dev) stBAD_LENGTH d'.now []))) ∧
    (par p' 30 4 ≤ 65536 → p'.host = none → ∃ d1, d1 = d'.count32 HIF_DMA_ERR_CNT 1 ∧
      exec (.loadSafetyParameters p) s = .next (s.onDev (fun _ => d1.complete (refOf p s.dev) stINTERNAL d1.now []))) ∧
    (∀ bs b : List Byte, par p' 30 4 ≤ 65536 → p'.host = some bs → b = padTo (par p' 30 4) bs →
      (setOk b = false → exec (.loadSafetyParameters p) s = .next (s.onDev (fun _ => d'.complete (refOf p s.dev) stBAD_PARAMETER d'.now []))) ∧
      (∀ r : Nat × Nat, setOk b = true → safetyFail b (d'.lget MIR_CTRL.LEASE) d'.safetyGens = some r →
        exec (.loadSafetyParameters p) s = .next (s.onDev (fun _ => d'.complete (refOf p s.dev) stCONSISTENCY d'.now (ruleResult r.1 r.2)))) ∧
      (setOk b = true → safetyFail b (d'.lget MIR_CTRL.LEASE) d'.safetyGens = none →
        ∃ d1, d1 = ({ d' with saf := { d'.saf with pending := some b } } : Dev).showSafety ∧
        exec (.loadSafetyParameters p) s = .next (s.onDev (fun _ => d1.complete (refOf p s.dev) stOK d1.now (leBytes 2 (fieldAt b 2 2))))))) ∧
  (∀ s p p' d' (mask : (Nat → Bool) → Nat → Nat), Runs opGetSafety p s.dev p' d' → mask = (fun (f : Nat → Bool) (n : Nat) => ((List.range n).map (fun k => if f k then 2 ^ k else 0)).sum) →
    exec (.getSafetyStatus p) s = .next (s.onDev (fun _ => d'.complete (refOf p s.dev) stOK d'.now (leBytes 4 (d'.rd SAF_STATUS) ++ leBytes 2 (d'.get SAF_PARAM.ACTIVE_CODE) ++
      leBytes 2 (d'.get SAF_PARAM.PENDING_CODE) ++ leBytes 2 (d'.get SAF_SEAL.READING) ++ leBytes 1 (mask d'.readsClosed 8) ++
      leBytes 1 (mask (fun n => d'.sinOn n && (d'.sin n).faulted) 8) ++ leBytes 1 (mask (fun n => (d'.sout n).toggling) 4) ++
      leBytes 1 (mask (fun n => 2 ≤ (d'.sout n).badA || 2 ≤ (d'.sout n).badB) 4) ++ leBytes 2 (d'.usedConns.countP (fun c => !d'.on (SAF_CONN_W0.RUN c))))))) ∧
  (∀ s p p' d' f, Runs opSafeStop p s.dev p' d' → f = par p' 22 1 →
    (f ≠ 1 → f ≠ 2 → exec (.requestSafeStop p) s = .next (s.onDev (fun _ => d'.complete (refOf p s.dev) stBAD_PARAMETER d'.now []))) ∧
    (f = 1 ∨ f = 2 → ∃ d1, d1 = (({ d' with saf := { d'.saf with hostDemand := if d'.saf.hostDemand = 1 then 1 else f } } : Dev).demand 2 0).showSafety ∧
      exec (.requestSafeStop p) s = .next (s.onDev (fun _ => d1.complete (refOf p s.dev) stOK d1.now [])))) ∧
  (∀ s p p' d', Runs opOpenConn p s.dev p' d' →
    (d'.usedConns.contains (par p' 22 2) = false → exec (.openSafetyConnection p) s = .next (s.onDev (fun _ => d'.complete (refOf p s.dev) stBAD_PARAMETER d'.now []))) ∧
    (∀ d1, d'.usedConns.contains (par p' 22 2) = true → d1 = (((d'.setConn (par p' 22 2) { d'.conn (par p' 22 2) with opened := true, restart := !bitAt (fieldAt (connEntry d'.safSet (par p' 22 2)) 5 1) 0, confirmed := 0 }).set (SAF_CONN_W0.RUN (par p' 22 2)) 0).connTo (par p' 22 2) 1).showSafety →
      exec (.openSafetyConnection p) s = .next (s.onDev (fun _ => d1.complete (refOf p s.dev) stACCEPTED d1.now [])))) ∧
  (∀ s p p' d' k, Runs opReadSafetyLog p s.dev p' d' → k = par p' 26 2 →
    (k = 0 ∨ 1024 < k → exec (.readSafetyLog p) s = .next (s.onDev (fun _ => d'.complete (refOf p s.dev) stBAD_PARAMETER d'.now []))) ∧
    (∀ (bs : List Byte) (all es : List LedgerEntry), 0 < k → k ≤ 1024 → p'.host = some bs → all = d'.ledger.area.journal.filter (fun e => e.typ == 6) →
      es = (all.drop (all.length - 4096)).filter (fun e => decide (par p' 22 4 ≤ e.seq)) → exec (.readSafetyLog p) s = .next (s.onDev (fun _ =>
        (d'.emit (.hostWrite (par p' 28 8) (d'.outBytes p' ((es.take k).flatMap (fun e => padTo 32 e.body))))).complete (refOf p s.dev) stOK d'.now
          (leBytes 2 (es.take k).length ++ leBytes 4 (((es[k]?).map (·.seq)).getD d'.ledger.nextSeq))))))

/-- Without the host endpoint the doorbells, enables, disables and failures do nothing. A doorbell inside its ring is stored; outside it an error is shown and posted. Enabling an enabled ring changes nothing; a disabled SQ whose CQ is enabled starts with head and doorbell 0, and one whose CQ is not stays disabled with code 4; a CQ starts with tail 0 and its phase bit set; the event ring starts at 0. Disabling an enabled ring clears EN and keeps its configuration, but a CQ with an enabled SQ stays enabled; a disabled one is configured. A PCIe failure disables an enabled ring and is counted; the completion whose write failed is still owed. Freed space of a CQ takes the replies that waited for it. A coalescing timeout of a vector with waiting entries fires it. -/
def Obligations.RingsFollowDoorbellsAndEnables : Prop :=
  (∀ s : State, s.dev.ready = false → (∀ (q : Fin 64) (v : BitVec 16), exec (.sqDoorbell q v) s = .next s ∧ exec (.cqDoorbell q v) s = .next s ∧ exec (.evtDoorbell v) s = .next s) ∧
    (∀ (k : Fin 3) (n : Fin 64) (w : Word), exec (.ringEnable k n w) s = .next s ∧ exec (.ringDisable k n w) s = .next s ∧ exec (.pcieDmaError k n) s = .next s)) ∧
  (∀ (s : State) (q : Fin 64) (v : BitVec 16), s.dev.ready = true →
    (v.toNat < ringSize (s.dev.get (HIF_SQ_CFG.SIZE_LOG2 q.val)) → exec (.sqDoorbell q v) s = .next (s.onDev (Dev.wr (HIF_DB_SQ q.val) v.toNat))) ∧
    (ringSize (s.dev.get (HIF_SQ_CFG.SIZE_LOG2 q.val)) ≤ v.toNat → exec (.sqDoorbell q v) s = .next (s.onDev (fun d =>
      (((d.set (HIF_SQ_STATUS.ERR q.val) 1).set (HIF_SQ_STATUS.CODE q.val) 1).ringError 0 q.val 1)))) ∧
    (v.toNat < ringSize (s.dev.get (HIF_CQ_CFG.SIZE_LOG2 q.val)) → exec (.cqDoorbell q v) s =
      .next (s.onDev (fun d => (d.wr (HIF_DB_CQ q.val) v.toNat).pumpCq q.val))) ∧
    (v.toNat < ringSize (s.dev.get (HIF_CQ_CFG.SIZE_LOG2 q.val)) → s.dev.hif.kept.all (fun r => r.cq != q.val) = true → exec (.cqDoorbell q v) s =
      .next (s.onDev (Dev.wr (HIF_DB_CQ q.val) v.toNat))) ∧
    (ringSize (s.dev.get (HIF_CQ_CFG.SIZE_LOG2 q.val)) ≤ v.toNat → exec (.cqDoorbell q v) s = .next (s.onDev (fun d =>
      (d.set (HIF_CQ_OWED.ERR q.val) 1).ringError 1 q.val 1))) ∧
    (v.toNat < ringSize (s.dev.get HIF_EVT_CFG.SIZE_LOG2) → exec (.evtDoorbell v) s = .next (s.onDev (Dev.wr HIF_DB_EVT v.toNat))) ∧
    (ringSize (s.dev.get HIF_EVT_CFG.SIZE_LOG2) ≤ v.toNat → exec (.evtDoorbell v) s = .next (s.onDev (Dev.ringError 2 0 1)))) ∧
  (∀ (s : State) (k : Fin 3) (n : Fin 64) (v : Word), bitAt (s.dev.rd (ringCfg k.val n.val)) 0 = true → exec (.ringEnable k n v) s = .next s) ∧
  (∀ (s : State) (n : Fin 64) (v : Word) (w : Nat), s.dev.ready = true → bitAt (s.dev.rd (HIF_SQ_CFG n.val)) 0 = false → w = cfgBits 0 (withBits v.toNat 0 0 1) →
    (s.dev.on (HIF_CQ_CFG.EN (bitsOf w 13 8)) = true → ∃ t, exec (.ringEnable 0 n v) s = .next t ∧ t.dev.rd (HIF_SQ_CFG n.val) = w ∧
      t.dev.get (HIF_SQ_HEAD.HEAD n.val) = 0 ∧ t.dev.rd (HIF_DB_SQ n.val) = 0) ∧
    (s.dev.on (HIF_CQ_CFG.EN (bitsOf w 13 8)) = false → ∃ t, exec (.ringEnable 0 n v) s = .next t ∧ t.dev.on (HIF_SQ_CFG.EN n.val) = false ∧
      t.dev.on (HIF_SQ_STATUS.ERR n.val) = true ∧ t.dev.get (HIF_SQ_STATUS.CODE n.val) = 4)) ∧
  (∀ (s : State) (n : Fin 64) (v : Word), s.dev.ready = true → bitAt (s.dev.rd (HIF_CQ_CFG n.val)) 0 = false →
    exec (.ringEnable 1 n v) s = .next (s.onDev (fun d =>
      (((d.wr (HIF_CQ_CFG n.val) (cfgBits 1 (withBits v.toNat 0 0 1))).wr (HIF_CQ_TAIL n.val) 0x10000).wr (HIF_DB_CQ n.val) 0).pumpCq n.val)) ∧
    (s.dev.hif.kept.all (fun r => r.cq != n.val) = true → ∃ t, exec (.ringEnable 1 n v) s = .next t ∧ t.dev.rd (HIF_CQ_CFG n.val) = cfgBits 1 (withBits v.toNat 0 0 1) ∧
      t.dev.rd (HIF_CQ_TAIL n.val) = 0x10000 ∧ t.dev.rd (HIF_DB_CQ n.val) = 0)) ∧
  (∀ (s : State) (n : Fin 64) (v : Word), s.dev.ready = true → bitAt (s.dev.rd HIF_EVT_CFG) 0 = false →
    ∃ t, exec (.ringEnable 2 n v) s = .next t ∧ t.dev.rd HIF_EVT_CFG = cfgBits 2 (withBits v.toNat 0 0 1) ∧ t.dev.get HIF_EVT_TAIL.TAIL = 0 ∧ t.dev.rd HIF_DB_EVT = 0) ∧
  (∀ (s : State) (k : Fin 3) (n : Fin 64) (v : Word), s.dev.ready = true →
    (bitAt (s.dev.rd (ringCfg k.val n.val)) 0 = false → exec (.ringDisable k n v) s =
      .next (s.onDev (Dev.wr (ringCfg k.val n.val) (cfgBits k.val (withBits v.toNat 0 0 0))))) ∧
    (bitAt (s.dev.rd (ringCfg k.val n.val)) 0 = true → k.val ≠ 1 ∨ s.dev.boundSqs n.val = [] → exec (.ringDisable k n v) s =
      .next (s.onDev (fun d => d.wr (ringCfg k.val n.val) (withBits (d.rd (ringCfg k.val n.val)) 0 0 0))))) ∧
  (∀ (s : State) (n : Fin 64) (v : Word), s.dev.ready = true → s.dev.on (HIF_CQ_CFG.EN n.val) = true → s.dev.boundSqs n.val ≠ [] →
    exec (.ringDisable 1 n v) s = .next (s.onDev (fun d => (d.set (HIF_CQ_OWED.ERR n.val) 1).forEach (d.boundSqs n.val) (fun q d => d.sqError q 3))) ∧
    ∃ t, exec (.ringDisable 1 n v) s = .next t ∧ t.dev.on (HIF_CQ_CFG.EN n.val) = true ∧ t.dev.on (HIF_CQ_OWED.ERR n.val) = true) ∧
  (∀ (s : State) (k : Fin 3) (n : Fin 64), bitAt (s.dev.rd (ringCfg k.val n.val)) 0 = false → exec (.pcieDmaError k n) s = .next s) ∧
  (∀ (s : State) (n : Fin 64), s.dev.ready = true → bitAt (s.dev.rd (HIF_SQ_CFG n.val)) 0 = true → exec (.pcieDmaError 0 n) s = .next (s.onDev (fun d =>
    (((d.wr (HIF_SQ_CFG n.val) (withBits (d.rd (HIF_SQ_CFG n.val)) 0 0 0)).count32 HIF_DMA_ERR_CNT 1).sqError n.val 2).ringError 0 n.val 2))) ∧
  (∀ (s : State) (n : Fin 64) (d1 : Dev), s.dev.ready = true → bitAt (s.dev.rd (HIF_CQ_CFG n.val)) 0 = true →
    d1 = ((s.dev.wr (HIF_CQ_CFG n.val) (withBits (s.dev.rd (HIF_CQ_CFG n.val)) 0 0 0)).count32 HIF_DMA_ERR_CNT 1).set (HIF_CQ_OWED.ERR n.val) 1 →
    (s.dev.hif.lastReply.find? (fun r => r.cq == n.val) = none → exec (.pcieDmaError 1 n) s = .next (s.onDev (fun _ => d1.ringError 1 n.val 2))) ∧
    (∀ r : KeptReply, s.dev.hif.lastReply.find? (fun r => r.cq == n.val) = some r → exec (.pcieDmaError 1 n) s = .next (s.onDev (fun _ =>
      (({ d1 with hif := { d1.hif with kept := r :: d1.hif.kept, lastReply := d1.hif.lastReply.erase r } } : Dev).set (HIF_CQ_OWED.COUNT n.val)
        (d1.get (HIF_CQ_OWED.COUNT n.val) + 1)).ringError 1 n.val 2)))) ∧
  (∀ (s : State) (n : Fin 64), s.dev.ready = true → bitAt (s.dev.rd HIF_EVT_CFG) 0 = true → exec (.pcieDmaError 2 n) s = .next (s.onDev (fun d =>
    (((d.wr HIF_EVT_CFG (withBits (d.rd HIF_EVT_CFG) 0 0 0)).count32 HIF_DMA_ERR_CNT 1).ringError 2 n.val 2)))) ∧
  (∀ (s : State) (v : Fin 64), (s.dev.hif.vectors.find? (fun p => p.1 == v.val) = none → exec (.msixCoalesceTimeout v) s = .next s) ∧
    (∀ k n t0, s.dev.hif.vectors.find? (fun p => p.1 == v.val) = some (k, n, t0) → exec (.msixCoalesceTimeout v) s =
      .next (s.onDev (fun d => (d.reach (t0 + ns (1000 * d.get (HIF_VEC.TIME v.val)))).fireVector v.val))))

/-- A proof timeout ends the exchange it names if it was not proved, and nothing else. GET_CERTIFICATE of a third kind is refused, of an absent certificate or one without the identity key completes NO_RESOURCE, of one that does not fit BAD_LENGTH, and else writes it. ATTEST writes the signed quote. OPEN_SESSION of a third step or a wrong length is refused; an exchange with eight sessions open completes NO_RESOURCE, another adds one session that must be proved within 1 s. A proof of an unknown session or credential completes BAD_PARAMETER; one by a key that is not the credential's, or whose signature fails, ends the session and completes BAD_SIGNATURE; a good one grants the requested classes that the credential may have. CLOSE_SESSION ends only the session that authenticates it. UNLOCK_DEBUG issues a challenge, takes a token, and refuses other steps; the JTAG mailbox does so in its modes only. A good token opens its scope for its time and clears the failures; another is counted; after three failures none is looked at. The scopes that end first close. A host that answers with an error ends a command with INTERNAL. -/
def Obligations.SessionsCertificatesAndDebugScopes : Prop :=
  (∀ (s : State) (sid : BitVec 16), (s.dev.sec.sessions.any (fun x => x.sid == sid.toNat && x.lapses.isSome) = false → exec (.sessionProofTimeout sid) s = .next s) ∧
    (s.dev.sec.sessions.any (fun x => x.sid == sid.toNat && x.lapses.isSome) = true → exec (.sessionProofTimeout sid) s = .next (s.onDev (Dev.endSession sid.toNat 0)))) ∧
  (∀ s p p' d' c, Runs opGetCert p s.dev p' d' → c = (if par p' 22 1 = 0 then d'.sec.certDev else d'.sec.certCa) →
    (1 < par p' 22 1 → exec (.getCertificate p) s = .next (s.onDev (fun _ => d'.complete (refOf p s.dev) stBAD_PARAMETER d'.now []))) ∧
    (par p' 22 1 ≤ 1 → c = [] ∨ (par p' 22 1 = 0 ∧ certMatches d'.sec.idSecret c = false) → exec (.getCertificate p) s =
      .next (s.onDev (fun _ => d'.complete (refOf p s.dev) stNO_RESOURCE d'.now []))) ∧
    (par p' 22 1 ≤ 1 → c ≠ [] → par p' 22 1 = 1 ∨ certMatches d'.sec.idSecret c = true → par p' 32 2 < outLen p' c.length → exec (.getCertificate p) s =
      .next (s.onDev (fun _ => d'.complete (refOf p s.dev) stBAD_LENGTH d'.now []))) ∧
    (∀ bs, par p' 22 1 ≤ 1 → c ≠ [] → par p' 22 1 = 1 ∨ certMatches d'.sec.idSecret c = true → outLen p' c.length ≤ par p' 32 2 → p'.host = some bs →
      exec (.getCertificate p) s = .next (s.onDev (fun _ =>
        (d'.emit (.hostWrite (par p' 24 8) (d'.outBytes p' c))).complete (refOf p s.dev) stOK d'.now (leBytes 2 (outLen p' c.length))))) ∧
    (par p' 22 1 ≤ 1 → c ≠ [] → par p' 22 1 = 1 ∨ certMatches d'.sec.idSecret c = true → outLen p' c.length ≤ par p' 32 2 → p'.host = none →
      ∃ d1, d1 = d'.count32 HIF_DMA_ERR_CNT 1 ∧ exec (.getCertificate p) s = .next (s.onDev (fun _ => d1.complete (refOf p s.dev) stINTERNAL d1.now [])))) ∧
  (∀ s p p' d' body, Runs (opAttest s.fuses) p s.dev p' d' → body = d'.quoteBody s.fuses (extBytes p' 0 32) →
    (∀ bs, p'.host = some bs → exec (.attest p) s =
      .next (s.onDev (fun _ => (d'.emit (.hostWrite (par p' 22 8) (d'.outBytes p' (body ++ padTo 96 (Config.identitySign d'.sec.idSecret body))))).complete (refOf p s.dev) stOK
        d'.now (leBytes 2 (outLen p' 288))))) ∧
    (p'.host = none → ∃ d1, d1 = d'.count32 HIF_DMA_ERR_CNT 1 ∧ exec (.attest p) s = .next (s.onDev (fun _ => d1.complete (refOf p s.dev) stINTERNAL d1.now [])))) ∧
  (∀ s p p' d', Runs (opOpenSession s.fuses) p s.dev p' d' →
    (1 < par p' 22 1 → exec (.openSession p) s = .next (s.onDev (fun _ => d'.complete (refOf p s.dev) stBAD_PARAMETER d'.now []))) ∧
    ((par p' 22 1 = 0 ∧ p'.len.toNat ≠ 9) ∨ (par p' 22 1 = 1 ∧ p'.len.toNat ≠ 13) → exec (.openSession p) s =
      .next (s.onDev (fun _ => d'.complete (refOf p s.dev) stBAD_LENGTH d'.now []))) ∧
    (par p' 22 1 = 0 → p'.len.toNat = 9 → 8 ≤ d'.sec.sessions.length → exec (.openSession p) s =
      .next (s.onDev (fun _ => d'.complete (refOf p s.dev) stNO_RESOURCE d'.now []))) ∧
    (∀ bs, par p' 22 1 = 0 → p'.len.toNat = 9 → d'.sec.sessions.length < 8 → p'.host = some bs → ∃ t x, exec (.openSession p) s = .next t ∧
      t.dev.sec.sessions = d'.sec.sessions ++ [x] ∧ x.lapses = some (d'.now + ns 1000000000) ∧ x.granted = 0 ∧ x.requested = ext p' 129 4) ∧
    (par p' 22 1 = 0 → p'.len.toNat = 9 → d'.sec.sessions.length < 8 → p'.host = none → ∃ t, exec (.openSession p) s = .next t ∧
      t.dev.sec.sessions = d'.sec.sessions ∧ t.dev.rd HIF_DMA_ERR_CNT = (d'.count32 HIF_DMA_ERR_CNT 1).rd HIF_DMA_ERR_CNT)) ∧
  (∀ s p p' d' sid cred creds, Runs (opOpenSession s.fuses) p s.dev p' d' → par p' 22 1 = 1 → p'.len.toNat = 13 → sid = par p' 24 2 → cred = par p' 26 1 →
    creds = (if d'.mode = 3 then [] else (d'.sys.package.map (·.credentials)).getD []) →
    (d'.sec.sessions.find? (fun x => x.sid == sid && x.lapses.isSome) = none ∨ (cred < 4 || (16 ≤ cred && decide (cred - 16 < creds.length))) = false →
      exec (.openSession p) s = .next (s.onDev (fun _ => d'.complete (refOf p s.dev) stBAD_PARAMETER d'.now []))) ∧
    (∀ (x : Session) (mask : Option Nat), d'.sec.sessions.find? (fun x => x.sid == sid && x.lapses.isSome) = some x →
      (cred < 4 || (16 ≤ cred && decide (cred - 16 < creds.length))) = true →
      mask = (if cred < 4 then (if s.fuses.keyOk cred 2 (extBytes p' 0 97) then some (2 ^ 32 - 1) else none)
        else match creds[cred - 16]? with
          | some c => if padTo 48 (Config.sha384 (extBytes p' 0 97)) == padTo 48 c.1 then some c.2 else none
          | none => none) →
      (mask = none → ∃ d1, d1 = d'.endSession sid 0 ∧ exec (.openSession p) s = .next (s.onDev (fun _ => d1.complete (refOf p s.dev) stBAD_SIGNATURE d1.now []))) ∧
      (∀ (m g : Nat) (d1 : Dev), mask = some m → g = Nat.land x.requested m → d1 = (d'.mapSession sid (fun y => { y with granted := g, lapses := none })).showSessions →
        exec (.openSession p) s = .next (s.onDev (fun _ => if Config.ecdsaOk (extBytes p' 0 97) x.th (extBytes p' 97 96)
          then (d1.post 0x0F00 0x0F02 (leBytes 2 sid ++ leBytes 4 g ++ leBytes 1 cred)).complete (refOf p s.dev) stOK d1.now (leBytes 4 g)
          else (d'.endSession sid 0).complete (refOf p s.dev) stBAD_SIGNATURE (d'.endSession sid 0).now []))))) ∧
  (∀ s p p' d', Runs opCloseSession p s.dev p' d' →
    (hasFlag p' 1 = true → p'.session.toNat = par p' 22 2 → ∃ d1, d1 = d'.endSession (par p' 22 2) 0 ∧
      exec (.closeSession p) s = .next (s.onDev (fun _ => d1.complete (refOf p s.dev) stOK d1.now []))) ∧
    (hasFlag p' 1 = false ∨ p'.session.toNat ≠ par p' 22 2 → ∃ d1, d1 = d'.count32 SEC_AUTH_FAIL_CNT 1 ∧
      exec (.closeSession p) s = .next (s.onDev (fun _ => d1.complete (refOf p s.dev) stNOT_AUTHENTICATED d1.now [])))) ∧
  (∀ s p p' d' (r : List Byte × Dev), Runs (opUnlockDebug s.fuses) p s.dev p' d' → par p' 22 1 = 0 → r = d'.newChallenge →
    (par p' 24 8 = 0 → exec (.unlockDebug p) s = .next (s.onDev (fun _ => r.2.complete (refOf p s.dev) stOK r.2.now (r.1.take 16)))) ∧
    (∀ bs, par p' 24 8 ≠ 0 → p'.host = some bs → exec (.unlockDebug p) s =
      .next (s.onDev (fun _ => (r.2.emit (.hostWrite (par p' 24 8) (r.2.outBytes p' r.1))).complete (refOf p s.dev) stOK r.2.now (r.1.take 16)))) ∧
    (par p' 24 8 ≠ 0 → p'.host = none → ∃ d1, d1 = r.2.count32 HIF_DMA_ERR_CNT 1 ∧
      exec (.unlockDebug p) s = .next (s.onDev (fun _ => d1.complete (refOf p s.dev) stINTERNAL d1.now [])))) ∧
  (∀ d : Dev, d.newChallenge.2.sec.challenge = some d.newChallenge.1 ∧ d.newChallenge.1.length = 32 ∧ d.newChallenge.2.sec.draws = d.sec.draws + 1) ∧
  (∀ s p p' d', Runs (opUnlockDebug s.fuses) p s.dev p' d' →
    (1 < par p' 22 1 → exec (.unlockDebug p) s = .next (s.onDev (fun _ => d'.complete (refOf p s.dev) stBAD_PARAMETER d'.now []))) ∧
    (par p' 22 1 = 1 → p'.host = none → ∃ d1, d1 = d'.count32 HIF_DMA_ERR_CNT 1 ∧
      exec (.unlockDebug p) s = .next (s.onDev (fun _ => d1.complete (refOf p s.dev) stINTERNAL d1.now []))) ∧
    (∀ (bs : List Byte) (r : Option Nat × Dev), par p' 22 1 = 1 → p'.host = some bs → r = d'.debugToken s.fuses (padTo 352 bs) → exec (.unlockDebug p) s =
      .next (s.onDev (fun _ => match r.1 with
        | some sc => r.2.complete (refOf p s.dev) stOK r.2.now (leBytes 1 sc)
        | none => r.2.complete (refOf p s.dev) stBAD_SIGNATURE r.2.now [])))) ∧
  (∀ (s : State) (t : Option (List Byte)), s.dev.mode ≠ 3 → s.dev.mode ≠ 4 → s.dev.mode ≠ 11 → exec (.debugMailbox t) s = .next s) ∧
  (∀ s : State, s.dev.mode = 3 ∨ s.dev.mode = 4 ∨ s.dev.mode = 11 →
    (∃ d1, d1 = s.dev.newChallenge.2 ∧ exec (.debugMailbox none) s = .next (s.onDev (fun _ => d1.emit (.jtag s.dev.newChallenge.1)))) ∧
    (∀ (x : List Byte) (r : Option Nat × Dev), r = s.dev.debugToken s.fuses (padTo 352 x) → exec (.debugMailbox (some x)) s =
      .next (s.onDev (fun _ => r.2.emit (.jtag (match r.1 with | some sc => leBytes 1 sc | none => [])))))) ∧
  (∀ (f : Fuses) (t : List Byte) (d : Dev) (fits sig : Bool), fits = (t.take 8 == magicToken && fieldAt t 8 8 == f.serial && d.sec.challenge == some ((t.drop 16).take 32) &&
      decide (fieldAt t 48 1 < 16) && decide (1 ≤ fieldAt t 50 4) && decide (fieldAt t 50 4 ≤ 86400) && f.keyOk (fieldAt t 49 1) 4 (padTo 97 ((t.drop 64).take 97))) →
    sig = Config.ecdsaOk (padTo 97 ((t.drop 64).take 97)) (padTo 256 (t.take 256)) (padTo 96 ((t.drop 256).take 96)) →
    (3 ≤ d.get SEC_TOKEN_FAIL_CNT.COUNT → d.debugToken f t = (none, d)) ∧
    (d.get SEC_TOKEN_FAIL_CNT.COUNT < 3 → fits = false → d.debugToken f t = (none, d.set SEC_TOKEN_FAIL_CNT.COUNT (d.get SEC_TOKEN_FAIL_CNT.COUNT + 1))) ∧
    (d.get SEC_TOKEN_FAIL_CNT.COUNT < 3 → fits = true → (d.debugToken f t).1 = (if sig then some (fieldAt t 48 1) else none) ∧
      (d.debugToken f t).2.sec.scopes = (if sig then d.sec.scopes ++ [(fieldAt t 48 1, d.now + ns (fieldAt t 50 4 * 1000000000))] else d.sec.scopes) ∧
      (d.debugToken f t).2.get SEC_TOKEN_FAIL_CNT.COUNT = (if sig then 0 else d.get SEC_TOKEN_FAIL_CNT.COUNT + 1))) ∧
  (∀ s : State, (s.dev.sec.scopes = [] → exec .debugScopeExpiry s = .next s) ∧
    (∀ t0, (s.dev.sec.scopes.map (·.2)).min? = some t0 → ∃ t, exec .debugScopeExpiry s = .next t ∧ t.dev.sec.scopes = s.dev.sec.scopes.filter (fun x => decide (t0 < x.2)) ∧
      t.dev.now = max s.dev.now t0))

/-- CREATE_JOB of another length is BAD_LENGTH, of a field out of range or a stored packet that R426 forbids BAD_PARAMETER; a free job, the one named or the first, is created waiting with its fields and its reserved completion; without a free job or room it completes NO_RESOURCE. Operation 1 deletes an existing job, operation 2 gives it new fields. POST_EVENT sets the flags of one existing job or of all, and refuses another number. MAP_PAGES of pages that are in range, valid demand entries and, in DRAM, inside the host part writes their entries; another completes BAD_PARAMETER. RESUME_DMA of a channel that is not parked for the host completes WRONG_MODE; action 1 ends the descriptor with status 3; action 0 goes on, or takes the next fault when the page still faults. A core without a task waits and ends nothing; a firmware task whose wait is not met waits with its new mask, and ends; a host job's run ends. A period timer sets flag 27 of a timed task only. -/
def Obligations.JobsEventsAndTasksRun : Prop :=
  (∀ s p p' d' t prio bits aff (range : Bool) (shape : Task → Task), Runs opCreateJob p s.dev p' d' → t = par p' 24 2 → prio = par p' 23 1 → bits = par p' 30 1 →
    aff = (if par p' 44 1 = 0 then 0x3F else par p' 44 1) →
    range = (decide (bits < 8) && decide (aff < 64) && (!bitAt bits 1 || (decide (10 ≤ par p' 32 4) && decide (par p' 32 4 ≤ 1000000)))) →
    shape = (fun (x : Task) => ({ x with affinity := aff, all := bitAt bits 0, timer := bitAt bits 1, period := par p' 32 4, mask := par p' 26 4, filter := if bitAt bits 2 then some (par p' 40 2, par p' 42 2) else none, left := if par p' 36 4 = 0 then none else some (par p' 36 4) } : Task)) →
    ((par p' 22 1 = 0 ∧ p'.len.toNat ≠ 4) ∨ (par p' 22 1 ≠ 0 ∧ p'.len.toNat ≠ 0) → exec (.createJob p) s = .next (s.onDev (fun _ => d'.complete (refOf p s.dev) stBAD_LENGTH d'.now []))) ∧
    (par p' 22 1 = 0 → p'.len.toNat = 4 →
      (decide (prio < 16) || decide (31 < prio) || decide (63 < par p' 31 1) || !range || !(decide (t = 0xFFFF) || (decide (128 ≤ t) && decide (t < 256))) || !storedOk (extBytes p' 0 64)) = true →
      exec (.createJob p) s = .next (s.onDev (fun _ => d'.complete (refOf p s.dev) stBAD_PARAMETER d'.now []))) ∧
    (∀ free : Option Nat, par p' 22 1 = 0 → p'.len.toNat = 4 →
      (decide (prio < 16) || decide (31 < prio) || decide (63 < par p' 31 1) || !range || !(decide (t = 0xFFFF) || (decide (128 ≤ t) && decide (t < 256))) || !storedOk (extBytes p' 0 64)) = false →
      free = (if t = 0xFFFF then (List.range 128).map (128 + ·) else [t]).find? (fun k => (d'.task k).state == 0 && !d'.hif.inWork.any (fun w => w.1 == 64 + k)) →
      (free = none ∨ d'.cqRoom (par p' 31 1) = false → exec (.createJob p) s = .next (s.onDev (fun _ => d'.complete (refOf p s.dev) stNO_RESOURCE d'.now []))) ∧
      (∀ (k : Nat) (d1 : Dev), free = some k → d'.cqRoom (par p' 31 1) = true →
        d1 = (((d'.set (HIF_CQ_OWED.COUNT (par p' 31 1)) (d'.get (HIF_CQ_OWED.COUNT (par p' 31 1)) + 1)).setTask k
          (shape { Task.reset with state := 1, prio := prio, cq := par p' 31 1, packet := extBytes p' 0 64 })).showSched) →
        exec (.createJob p) s = .next (s.onDev (fun _ => d1.complete (refOf p s.dev) stOK d1.now (leBytes 2 k))))) ∧
    (par p' 22 1 ≠ 0 → p'.len.toNat = 0 → 2 < par p' 22 1 ∨ t < 128 ∨ 256 ≤ t ∨ (d'.task t).state = 0 ∨ (par p' 22 1 = 2 ∧ range = false) →
      exec (.createJob p) s = .next (s.onDev (fun _ => d'.complete (refOf p s.dev) stBAD_PARAMETER d'.now []))) ∧
    (par p' 22 1 = 1 → p'.len.toNat = 0 → 128 ≤ t → t < 256 → (d'.task t).state ≠ 0 → ∃ d1, d1 = d'.deleteTask t ∧
      exec (.createJob p) s = .next (s.onDev (fun _ => d1.complete (refOf p s.dev) stOK d1.now (leBytes 2 t)))) ∧
    (par p' 22 1 = 2 → p'.len.toNat = 0 → 128 ≤ t → t < 256 → (d'.task t).state ≠ 0 → range = true → ∃ d1, d1 = ((d'.setTask t (shape (d'.task t))).tryWake t).showSched ∧
      exec (.createJob p) s = .next (s.onDev (fun _ => d1.complete (refOf p s.dev) stOK d1.now (leBytes 2 t))))) ∧
  (∀ s p p' d' k, Runs opPostEvent p s.dev p' d' → k = par p' 22 2 →
    (k ≠ 0xFFFF → k < 128 ∨ 256 ≤ k ∨ (d'.task k).state = 0 → exec (.postEvent p) s = .next (s.onDev (fun _ => d'.complete (refOf p s.dev) stBAD_PARAMETER d'.now []))) ∧
    (128 ≤ k → k < 256 → (d'.task k).state ≠ 0 → ∃ d1, d1 = (d'.setFlags k (par p' 24 2)).showSched ∧
      exec (.postEvent p) s = .next (s.onDev (fun _ => d1.complete (refOf p s.dev) stOK d1.now (leBytes 2 1)))) ∧
    (∀ jobs : List Nat, k = 0xFFFF → jobs = ((List.range 128).map (128 + ·)).filter (fun k => (d'.task k).state != 0) →
      ∃ d1, d1 = (d'.forEach jobs (fun k d => d.setFlags k (par p' 24 2))).showSched ∧
      exec (.postEvent p) s = .next (s.onDev (fun _ => d1.complete (refOf p s.dev) stOK d1.now (leBytes 2 jobs.length))))) ∧
  (∀ s p p' d' c size va count unit pa vas (slot : Nat → Option Nat) (part bad : Bool), Runs opMapPages p s.dev p' d' → c = par p' 22 1 → size = par p' 23 1 → va = par p' 24 8 →
    count = par p' 32 4 → unit = (if size = 1 then 2 ^ 21 else 4096) → pa = par p' 38 8 → vas = (List.range count).map (fun i => va + i * unit) →
    slot = (fun (v : Nat) => if size = 1 then (if !bitAt (d'.entry64 (d'.l1At c v)) 0 && bitAt (d'.entry64 (d'.l1At c v)) 6 then some (d'.l1At c v) else none)
      else if bitAt (d'.entry64 (d'.l1At c v)) 0 && !bitAt (d'.entry64 (d'.l1At c v)) 1 then
        (if !bitAt (d'.entry64 (l2At (d'.entry64 (d'.l1At c v)) v)) 0 && bitAt (d'.entry64 (l2At (d'.entry64 (d'.l1At c v)) v)) 6 then
          some (l2At (d'.entry64 (d'.l1At c v)) v) else none)
      else none) →
    part = (match d'.sys.package with
      | some k => decide (k.dramCapture + k.dramStock + k.dramSpill ≤ pa) && decide (pa + count * unit ≤ k.dramCapture + k.dramStock + k.dramSpill + k.dramHost)
      | none => false) →
    bad = (decide (c < 3) || decide (64 ≤ c) || decide (1 < size) || decide (count = 0) || decide (512 < count) || decide (1 < par p' 36 1) || decide (4 ≤ par p' 37 1) ||
      decide (va % unit ≠ 0) || decide (pa % unit ≠ 0) || decide (2 ^ 39 < va + count * unit) || !d'.on (MMU_CTX_CFG.EN c) || !vas.all (fun v => (slot v).isSome) ||
      (decide (par p' 36 1 = 0) && !part)) →
    (bad = true → exec (.mapPages p) s = .next (s.onDev (fun _ => d'.complete (refOf p s.dev) stBAD_PARAMETER d'.now []))) ∧
    (∀ d1 : Dev, bad = false → d1 = vas.zipIdx.foldl (fun (d : Dev) (v : Nat × Nat) => match slot v.1 with
        | some a => d.putPte a size (par p' 36 1) (par p' 37 1) (pa + v.2 * unit)
        | none => d) d' →
      exec (.mapPages p) s = .next (s.onDev (fun _ => d1.complete (refOf p s.dev) stOK d1.now (leBytes 4 count))))) ∧
  (∀ s p p' d' n, Runs opResumeDma p s.dev p' d' → n = par p' 22 1 →
    (16 ≤ n ∨ 1 < par p' 23 1 → exec (.resumeDma p) s = .next (s.onDev (fun _ => d'.complete (refOf p s.dev) stBAD_PARAMETER d'.now []))) ∧
    (n < 16 → par p' 23 1 ≤ 1 → d'.get (DMA_CH_STATUS.STATE n) ≠ 2 ∨ d'.on (DMA_CH_STATUS.HOST_FAULT n) = false →
      exec (.resumeDma p) s = .next (s.onDev (fun _ => d'.complete (refOf p s.dev) stWRONG_MODE d'.now []))) ∧
    (n < 16 → par p' 23 1 = 1 → d'.get (DMA_CH_STATUS.STATE n) = 2 → d'.on (DMA_CH_STATUS.HOST_FAULT n) = true → ∃ d1, d1 = d'.endDesc n 3 ∧
      exec (.resumeDma p) s = .next (s.onDev (fun _ => d1.complete (refOf p s.dev) stOK d1.now (leBytes 4 (d'.dmaCh n).pos)))) ∧
    (∀ (x : DmaDesc) (d1 : Dev) (w : Walk), n < 16 → par p' 23 1 = 0 → d'.get (DMA_CH_STATUS.STATE n) = 2 → d'.on (DMA_CH_STATUS.HOST_FAULT n) = true → (d'.dmaCh n).cur = some x →
      d1 = (d'.set (DMA_CH_STATUS.HOST_FAULT n) 0).setDma n (d'.dmaCh n) false →
      w = d1.walk (d1.get (DMA_CH_FAULT.CTX n)) (d1.rd64 (DMA_CH_FAULT_VA_LO n)) (d1.on (DMA_CH_FAULT.WRITE n)) →
      (w ≠ .demand ∨ d1.descFault x (d'.dmaCh n).pos = none → ∃ d2, d2 = d1.post 0x0E00 0x0E02 (leBytes 1 n ++ leBytes 1 1) ∧
        exec (.resumeDma p) s = .next (s.onDev (fun _ => d2.complete (refOf p s.dev) stOK d2.now (leBytes 4 (d'.dmaCh n).pos)))) ∧
      (∀ (o : Nat) (dm wr : Bool), w = .demand → d1.descFault x (d'.dmaCh n).pos = some (o, dm, wr) → ∃ d2, d2 = d1.takeFault n o dm wr [] ∧
        exec (.resumeDma p) s = .next (s.onDev (fun _ => d2.complete (refOf p s.dev) stOK d2.now (leBytes 4 (d'.dmaCh n).pos)))))) ∧
  (∀ (s : State) (c : Fin 6) (m : Word) (all : Bool), s.dev.onCore c.val = none → exec (.taskWait c m all) s = .next s ∧ exec (.taskEnd c) s = .next s) ∧
  (∀ (s : State) (c : Fin 6) (m : Word) (all : Bool) (k : Nat), s.dev.onCore c.val = some k → k < 128 → exec (.taskWait c m all) s =
    .next (s.onDev (fun d => ((d.handlerRan k).setTask k { (d.handlerRan k).task k with mask := m.toNat, all := all }).waitTask k))) ∧
  (∀ (s : State) (c : Fin 6) (m : Word) (all : Bool) (k : Nat), s.dev.onCore c.val = some k → k < 128 → s.dev.sch.handler ≠ some k → (s.dev.task k).deleted = false →
    waitMet { s.dev.task k with mask := m.toNat, all := all } = false → ∃ t, exec (.taskWait c m all) s = .next t ∧ (t.dev.task k).state = 1 ∧ (t.dev.task k).mask = m.toNat ∧
      (t.dev.task k).all = all ∧ t.dev.sch.cores = s.dev.sch.cores.filter (fun y => y.2 != k)) ∧
  (∀ (s : State) (c : Fin 6) (m : Word) (all : Bool) (k : Nat), s.dev.onCore c.val = some k →
    (k < 128 → exec (.taskEnd c) s = .next (s.onDev (fun d => (d.handlerRan k).freeTask k 0))) ∧
    (128 ≤ k → exec (.taskWait c m all) s = .next (s.onDev (Dev.jobRunEnd k)) ∧ exec (.taskEnd c) s = .next (s.onDev (Dev.jobRunEnd k)))) ∧
  (∀ (s : State) (k : Fin 256), ((s.dev.task k.val).timer = false → exec (.periodTimer k) s = .next s) ∧
    ((s.dev.task k.val).timer = true → exec (.periodTimer k) s = .next (s.onDev (fun d => (d.setFlags k.val (2 ^ 27)).showSched))))

/-- A push in a mode below Configure, of another operation, of no bytes or more than 1 GiB, or of a context above 63 does nothing. With an empty pool it is counted and its task waits for the pool. An idle channel takes the descriptor at once and the pool falls by one; a busy one with room queues it; a full queue counts an overflow and gives the descriptor back. A channel without a descriptor, or parked, completes and faults nothing. A descriptor without fault or hole moves all its bytes and ends with status 0, or with status 5 on a PCIe error. A translation fault parks or ends it. Bytes in DRAM beyond what is fitted do not exist: the access faults as dramHole. -/
def Obligations.DmaDescriptorsArePushedAndMoved : Prop :=
  (∀ (s : State) (n : Fin 16) (b : List Byte) (x : DmaDesc), x = (⟨fieldAt b 0 1, bitAt (fieldAt b 1 1) 0, fieldAt b 2 1, fieldAt b 3 1, fieldAt b 4 4, fieldAt b 8 8, fieldAt b 16 8, fieldAt b 24 2⟩ : DmaDesc) →
    s.dev.mode < 4 ∨ (x.op ≠ 1 ∧ x.op ≠ 2) ∨ x.len = 0 ∨ 2 ^ 30 < x.len ∨ 64 ≤ x.dstCtx ∨ (x.op = 1 ∧ 64 ≤ x.srcCtx) → exec (.dmaDescriptorPush n b) s = .next s) ∧
  (∀ (s : State) (n : Fin 16) (b : List Byte) (x : DmaDesc), 4 ≤ s.dev.mode →
    x = (⟨fieldAt b 0 1, bitAt (fieldAt b 1 1) 0, fieldAt b 2 1, fieldAt b 3 1, fieldAt b 4 4, fieldAt b 8 8, fieldAt b 16 8, fieldAt b 24 2⟩ : DmaDesc) →
    (x.op = 1 ∧ x.srcCtx < 64) ∨ x.op = 2 → 0 < x.len → x.len ≤ 2 ^ 30 → x.dstCtx < 64 →
    (s.dev.get DMA_POOL.FREE = 0 → ∃ t, exec (.dmaDescriptorPush n b) s = .next t ∧ t.dev.rd DMA_NORES_CNT = satAdd 32 (s.dev.rd DMA_NORES_CNT) 1 ∧ t.dev.sch.losers.contains x.owner = true) ∧
    (0 < s.dev.get DMA_POOL.FREE → (s.dev.dmaCh n.val).cur = none → ∃ t, exec (.dmaDescriptorPush n b) s = .next t ∧
      t.dev.dmaCh n.val = ⟨(s.dev.dmaCh n.val).queue, some x, 0⟩ ∧ t.dev.get DMA_POOL.FREE + 1 = s.dev.get DMA_POOL.FREE) ∧
    (0 < s.dev.get DMA_POOL.FREE → (s.dev.dmaCh n.val).cur ≠ none → (s.dev.dmaCh n.val).queue.length < 16 → ∃ t, exec (.dmaDescriptorPush n b) s = .next t ∧
      (t.dev.dmaCh n.val).queue = (s.dev.dmaCh n.val).queue ++ [x] ∧ (t.dev.dmaCh n.val).cur = (s.dev.dmaCh n.val).cur) ∧
    (0 < s.dev.get DMA_POOL.FREE → (s.dev.dmaCh n.val).cur ≠ none → 16 ≤ (s.dev.dmaCh n.val).queue.length → ∃ t, exec (.dmaDescriptorPush n b) s = .next t ∧
      t.dev.dmaCh n.val = s.dev.dmaCh n.val ∧ t.dev.on (DMA_CH_STATUS.OVERFLOW n.val) = true ∧ t.dev.rd (DMA_CH_OVF_CNT n.val) = satAdd 32 (s.dev.rd (DMA_CH_OVF_CNT n.val)) 1)) ∧
  (∀ (s : State) (n : Fin 16) (e : HostRead) (f : List Byte), (s.dev.dmaCh n.val).cur = none ∨ s.dev.get (DMA_CH_STATUS.STATE n.val) = 2 →
    exec (.dmaDescriptorComplete n e) s = .next s ∧ exec (.dmaFault n f) s = .next s) ∧
  (∀ (s : State) (n : Fin 16) (e : HostRead) (f : List Byte) (x : DmaDesc), (s.dev.dmaCh n.val).cur = some x → s.dev.get (DMA_CH_STATUS.STATE n.val) ≠ 2 →
    s.dev.descFault x (s.dev.dmaCh n.val).pos = none →
    (s.dev.inHole x (s.dev.dmaCh n.val).pos x.len = true → exec (.dmaDescriptorComplete n e) s = .fault .dramHole) ∧
    (s.dev.inHole x (s.dev.dmaCh n.val).pos x.len = false → e = none → exec (.dmaDescriptorComplete n e) s = .next (s.onDev (Dev.endDesc n.val 5))) ∧
    (∀ bs, s.dev.inHole x (s.dev.dmaCh n.val).pos x.len = false → e = some bs → exec (.dmaDescriptorComplete n e) s = .next (s.onDev (fun d =>
      ((d.moveBytes x bs (d.dmaCh n.val).pos x.len).setDma n.val { s.dev.dmaCh n.val with pos := x.len } false).endDesc n.val 0))) ∧
    exec (.dmaFault n f) s = .next s) ∧
  (∀ (s : State) (n : Fin 16) (e : HostRead) (f : List Byte) (x : DmaDesc) (o : Nat) (dm w : Bool), (s.dev.dmaCh n.val).cur = some x → s.dev.get (DMA_CH_STATUS.STATE n.val) ≠ 2 →
    s.dev.descFault x (s.dev.dmaCh n.val).pos = some (o, dm, w) → exec (.dmaDescriptorComplete n e) s = .next s ∧
    (s.dev.inHole x (s.dev.dmaCh n.val).pos o = true → exec (.dmaFault n f) s = .fault .dramHole) ∧
    (s.dev.inHole x (s.dev.dmaCh n.val).pos o = false → exec (.dmaFault n f) s = .next (s.onDev (Dev.takeFault n.val o dm w f))))

/-- CONFIG_CAN of a third channel or a sixth operation is BAD_PARAMETER, loopback outside Service WRONG_MODE. A stop completes at once when stopped, ends a detection, is BUSY while one runs, and else waits for a frame that contends. Operation 3 starts the recovery of a channel in bus-off. A start is BUSY during a commit, a detection or a stop, or when it changes what only a stopped channel may change, CONSISTENCY with the failing rule, else it is taken at once outside the synchronised modes and held for the boundary in them. LOAD_FILTERS of another list is BAD_PARAMETER, of too many entries BAD_LENGTH, BUSY during a commit, INTERNAL when the host read fails, CONSISTENCY when a rule fails, else it is committed. START_AUTOBAUD checks its fields, needs a stopped channel and starts with the first candidate; a window's end takes the next candidate or ends the detection without a rate. CAN_SEND checks its fields and length and takes the first free pool buffer, or completes NO_RESOURCE; the frame contends at once, waits for its time, contends late or is missed. GET_CAN_STATUS returns the status. CAN_APPLY while one waits does nothing, shows a refusal, or commits. -/
def Obligations.CanChannelsAreSetUpAndSend : Prop :=
  (∀ s p p' d' n op, Runs opConfigCan p s.dev p' d' → n = par p' 22 1 → op = par p' 23 1 →
    (1 < n ∨ 5 < op → exec (.configCan p) s = .next (s.onDev (fun _ => d'.complete (refOf p s.dev) stBAD_PARAMETER d'.now []))) ∧
    (n ≤ 1 → 4 ≤ op → op ≤ 5 → d'.mode ≠ 11 → exec (.configCan p) s = .next (s.onDev (fun _ => d'.complete (refOf p s.dev) stWRONG_MODE d'.now []))) ∧
    (n ≤ 1 → op = 0 → d'.get (CAN_STATUS.STATE n) = 0 → exec (.configCan p) s = .next (s.onDev (fun _ => d'.complete (refOf p s.dev) stOK d'.now []))) ∧
    (∀ d1 : Dev, n ≤ 1 → op = 0 → d'.get (CAN_STATUS.STATE n) = 1 → d1 = d'.autobaudDone n none → exec (.configCan p) s = .next (s.onDev (fun _ => d1.complete (refOf p s.dev) stOK d1.now []))) ∧
    (n ≤ 1 → op = 0 → d'.get (CAN_STATUS.STATE n) = 3 → exec (.configCan p) s = .next (s.onDev (fun _ => d'.complete (refOf p s.dev) stBUSY d'.now []))) ∧
    (∀ d1 : Dev, n ≤ 1 → op = 0 → d'.get (CAN_STATUS.STATE n) = 2 → d1 = d'.setCan n { d'.canCh n with stopRef := some (refOf p s.dev) } →
      exec (.configCan p) s = .next (s.onDev (fun _ => if d1.canSends n && d1.get (CAN_STATUS.ERR_STATE n) != 2 && (d1.canWinner n d1.now).isSome then d1.set (CAN_STATUS.STATE n) 3 else d1.canStopped n))) ∧
    (∀ d1 : Dev, n ≤ 1 → op = 3 → d1 = (if d'.get (CAN_STATUS.ERR_STATE n) = 2 then d'.set (CAN_STATUS.RECOVERING n) 1 else d') → exec (.configCan p) s = .next (s.onDev (fun _ => d1.complete (refOf p s.dev) stOK d1.now []))) ∧
    (n ≤ 1 → op = 1 ∨ op = 2 ∨ (4 ≤ op ∧ op ≤ 5 ∧ d'.mode = 11) → d'.commitWaits (0x0D00 + n) = true ∨ d'.get (CAN_STATUS.STATE n) = 1 ∨ d'.get (CAN_STATUS.STATE n) = 3 →
      exec (.configCan p) s = .next (s.onDev (fun _ => d'.complete (refOf p s.dev) stBUSY d'.now []))) ∧
    (∀ e ws, n ≤ 1 → op = 1 ∨ op = 2 ∨ (4 ≤ op ∧ op ≤ 5 ∧ d'.mode = 11) → d'.commitWaits (0x0D00 + n) = false → d'.get (CAN_STATUS.STATE n) ≠ 1 → d'.get (CAN_STATUS.STATE n) ≠ 3 →
      e = d'.forEach [(CAN_CTRL n, par p' 24 4 % 2 ^ 11), (CAN_ARB_TIMING n, par p' 28 4 % 2 ^ 31), (CAN_DATA_TIMING n, par p' 32 4 % 2 ^ 21),
        (CAN_DELAY_COMP n, withBits (d'.rd (CAN_DELAY_COMP n)) 15 0 (par p' 36 4))] (fun x d => d.wr x.1 x.2) → ws = e.capture (canRegs n) →
      (d'.canBars n (d'.capWord ws) = true → exec (.configCan p) s = .next (s.onDev (fun _ => d'.complete (refOf p s.dev) stBUSY d'.now []))) ∧
      (∀ r, d'.canBars n (d'.capWord ws) = false → d'.canFail n (d'.capWord ws) = some r →
        exec (.configCan p) s = .next (s.onDev (fun _ => d'.complete (refOf p s.dev) stCONSISTENCY d'.now (ruleResult r (0x0D00 + n))))) ∧
      (d'.canBars n (d'.capWord ws) = false → d'.canFail n (d'.capWord ws) = none → d'.sync = false →
        exec (.configCan p) s = .next (s.onDev (fun _ => (e.setCan n { e.canCh n with op := some op }).canCommit n ws (some (refOf p s.dev))))) ∧
      (d'.canBars n (d'.capWord ws) = false → d'.canFail n (d'.capWord ws) = none → d'.sync = true →
        exec (.configCan p) s = .next (s.onDev (fun _ => (e.setCan n { e.canCh n with op := some op }).holdCommit (0x0D00 + n) ws (some (refOf p s.dev))))))) ∧
  (∀ s p p' d' n l k cap size, Runs opLoadFilters p s.dev p' d' → n = par p' 22 1 → l = par p' 23 1 → k = par p' 32 2 →
    cap = (if l = 0 then d'.lget (CAN_RAM_RULES.COUNT n) else if l = 1 then d'.lget (CAN_RAM_MBX.COUNT n) else 8) → size = (if l = 0 then 12 else 4) →
    (1 < n ∨ 2 < l → exec (.loadFilters p) s = .next (s.onDev (fun _ => d'.complete (refOf p s.dev) stBAD_PARAMETER d'.now []))) ∧
    (n ≤ 1 → l ≤ 2 → cap < k → exec (.loadFilters p) s = .next (s.onDev (fun _ => d'.complete (refOf p s.dev) stBAD_LENGTH d'.now []))) ∧
    (n ≤ 1 → l ≤ 2 → k ≤ cap → d'.commitWaits (0x0D00 + n) = true → exec (.loadFilters p) s = .next (s.onDev (fun _ => d'.complete (refOf p s.dev) stBUSY d'.now []))) ∧
    (∀ d1 : Dev, n ≤ 1 → l ≤ 2 → k ≤ cap → d'.commitWaits (0x0D00 + n) = false → p'.host = none → d1 = d'.count32 HIF_DMA_ERR_CNT 1 → exec (.loadFilters p) s = .next (s.onDev (fun _ => d1.complete (refOf p s.dev) stINTERNAL d1.now []))) ∧
    (∀ bs ws e, n ≤ 1 → l ≤ 2 → k ≤ cap → d'.commitWaits (0x0D00 + n) = false → p'.host = some bs →
      ws = (if l = 0 then (List.range (3 * k)).map (fun i => (CAN_CTRL n + 0x4000 + d'.lget (CAN_RAM_RULES.START n) + 4 * i, BitVec.ofNat 32 (fieldAt (padTo (size * k) bs) (4 * i) 4)))
        else if l = 1 then (List.range k).map (fun i => (CAN_CTRL n + 0x4000 + d'.mbxOff n i, BitVec.ofNat 32 (fieldAt (padTo (size * k) bs) (4 * i) 4)))
        else (List.range k).map (fun i => (CAN_LAWMAP n i, BitVec.ofNat 32 (fieldAt (padTo (size * k) bs) (4 * i) 4) &&& 0x7FF7F))) →
      e = d'.forEach ws (fun x d => if CAN_CTRL n + 0x4000 ≤ x.1 then d.canPut n (x.1 - (CAN_CTRL n + 0x4000)) (leBytes 4 x.2.toNat) else d.wr x.1 x.2.toNat) →
      (∀ r, e.canFail n (e.capWord ws) = some r → exec (.loadFilters p) s = .next (s.onDev (fun _ => d'.complete (refOf p s.dev) stCONSISTENCY d'.now (ruleResult r (0x0D00 + n))))) ∧
      (e.canFail n (e.capWord ws) = none → d'.sync = false → exec (.loadFilters p) s = .next (s.onDev (fun _ => (if l = 2 then e else d').canCommit n ws (some (refOf p s.dev))))) ∧
      (e.canFail n (e.capWord ws) = none → d'.sync = true → exec (.loadFilters p) s = .next (s.onDev (fun _ => (if l = 2 then e else d').holdCommit (0x0D00 + n) ws (some (refOf p s.dev))))))) ∧
  (∀ s p p' d' n k w, Runs opStartAutobaud p s.dev p' d' → n = par p' 22 1 → k = par p' 23 1 → w = par p' 24 2 →
    (1 < n ∨ k = 0 ∨ 8 < k ∨ w < 10 ∨ 5000 < w → exec (.startAutobaud p) s = .next (s.onDev (fun _ => d'.complete (refOf p s.dev) stBAD_PARAMETER d'.now []))) ∧
    (n ≤ 1 → 0 < k → k ≤ 8 → 10 ≤ w → w ≤ 5000 → d'.get (CAN_STATUS.STATE n) ≠ 0 → exec (.startAutobaud p) s = .next (s.onDev (fun _ => d'.complete (refOf p s.dev) stWRONG_MODE d'.now []))) ∧
    (∀ d1 : Dev, n ≤ 1 → 0 < k → k ≤ 8 → 10 ≤ w → w ≤ 5000 → d'.get (CAN_STATUS.STATE n) = 0 → d1 = (d'.setCan n { d'.canCh n with auto := some ⟨(List.range k).map (fun i => (ext p' (8 * i) 4, ext p' (8 * i + 4) 4)), w, 0, 0, false, bitAt (par p' 26 1) 0⟩ }).set (CAN_STATUS.STATE n) 1 →
      exec (.startAutobaud p) s = .next (s.onDev (fun _ => d1.complete (refOf p s.dev) stACCEPTED d1.now [])))) ∧
  (∀ (s : State) (n : Fin 2), ((s.dev.canCh n.val).auto = none → exec (.autobaudWindowExpiry n) s = .next s) ∧
    (∀ a, (s.dev.canCh n.val).auto = some a → a.idx + 1 < a.cands.length → exec (.autobaudWindowExpiry n) s =
      .next (s.onDev (fun d => d.setCan n.val { d.canCh n.val with auto := some { a with idx := a.idx + 1, good := 0, verified := false } }))) ∧
    (∀ a, (s.dev.canCh n.val).auto = some a → a.cands.length ≤ a.idx + 1 → exec (.autobaudWindowExpiry n) s = .next (s.onDev (fun d =>
      ((((d.setCan n.val { d.canCh n.val with auto := none }).set (CAN_STATUS.STATE n.val) 0).set (CAN_AUTOBAUD.RESULT n.val) 0xFF).set (CAN_AUTOBAUD.DATA_VERIFIED n.val) 0).post
        (0x0D00 + n.val) 0x0D06 (leBytes 1 0xFF ++ leBytes 1 0))))) ∧
  (∀ s p p' d' n f dlc id word db len (bad : Bool), Runs opCanSend p s.dev p' d' → n = par p' 22 1 → f = par p' 23 1 → dlc = par p' 28 1 → id = par p' 24 4 →
    word = id + 2 ^ 29 * flag (bitAt f 0) + 2 ^ 30 * flag (bitAt f 3) → db = dlc + 16 * flag (bitAt f 1) + 32 * flag (bitAt f 2) → len = frameLen word db →
    bad = (decide (1 < n) || decide (64 ≤ f) || decide (15 < dlc) || decide ((if bitAt f 0 then 2 ^ 29 else 2 ^ 11) ≤ id) || (bitAt f 3 && bitAt f 1) || (bitAt f 2 && !bitAt f 1) ||
      (bitAt f 1 && !bitAt (d'.lrd (CAN_CTRL n)) 3) || (bitAt f 2 && !bitAt (d'.lrd (CAN_CTRL n)) 4)) →
    (bad = true → exec (.canSend p) s = .next (s.onDev (fun _ => d'.complete (refOf p s.dev) stBAD_PARAMETER d'.now []))) ∧
    (bad = false → p'.len.toNat ≠ (len + 15) / 16 → exec (.canSend p) s = .next (s.onDev (fun _ => d'.complete (refOf p s.dev) stBAD_LENGTH d'.now []))) ∧
    (bad = false → p'.len.toNat = (len + 15) / 16 → (List.range (d'.txCount n)).find? (fun b => decide (5 ≤ b) && (d'.canPending n b).isNone) = none → exec (.canSend p) s = .next (s.onDev (fun _ => d'.complete (refOf p s.dev) stNO_RESOURCE d'.now []))) ∧
    (∀ b e at_ tol, bad = false → p'.len.toNat = (len + 15) / 16 → (List.range (d'.txCount n)).find? (fun b => decide (5 ≤ b) && (d'.canPending n b).isNone) = some b →
      at_ = par p' 30 10 → tol = p'.tol.toNat → e = d'.fillBuffer n b word db (flag (bitAt f 5) + 2 * flag (bitAt f 4)) p'.tag.toNat at_ tol (extBytes p' 0 len) →
      (at_ = 0 → exec (.canSend p) s = .next (s.onDev (fun _ => e.pendBuffer n ⟨b, some e.now, 0, false, 0, false, some (refOf p s.dev)⟩))) ∧
      (at_ ≠ 0 → e.now + ns 1000 ≤ at_ → exec (.canSend p) s = .next (s.onDev (fun _ => e.pendBuffer n ⟨b, none, at_, false, 0, false, some (refOf p s.dev)⟩))) ∧
      (at_ ≠ 0 → at_ < e.now + ns 1000 → 0xFFFFFFFE ≤ tol ∨ e.now + ns 1000 - at_ ≤ ns tol →
        exec (.canSend p) s = .next (s.onDev (fun _ => e.pendBuffer n ⟨b, some e.now, at_, true, 0, false, some (refOf p s.dev)⟩))) ∧
      (at_ ≠ 0 → at_ < e.now + ns 1000 → tol < 0xFFFFFFFE → ns tol < e.now + ns 1000 - at_ →
        exec (.canSend p) s = .next (s.onDev (fun _ => e.endBuffer n ⟨b, none, at_, false, 0, false, some (refOf p s.dev)⟩ 2 0 stMISSED))))) ∧
  (∀ s p p' d' n, Runs opCanStatus p s.dev p' d' → n = par p' 22 1 →
    (1 < n → exec (.getCanStatus p) s = .next (s.onDev (fun _ => d'.complete (refOf p s.dev) stBAD_PARAMETER d'.now []))) ∧
    (n ≤ 1 → exec (.getCanStatus p) s = .next (s.onDev (fun _ => d'.complete (refOf p s.dev) stOK d'.now (leBytes 4 (d'.rd (CAN_STATUS n)) ++ leBytes 1 (d'.get (CAN_ECR.TEC n)) ++
        leBytes 1 (d'.get (CAN_ECR.REC n)) ++ leBytes 1 (d'.get (CAN_RX_STATUS.FILL n 0)) ++ leBytes 1 (d'.get (CAN_RX_STATUS.FILL n 1)) ++
        leBytes 4 (d'.rd (CAN_TX_PENDING n)) ++ leBytes 4 (d'.rd (CAN_ERR_CNT n))))))) ∧
  (∀ (s : State) (n : Fin 2), (s.dev.on (CAN_APPLY.APPLY n.val) = true ∨ s.dev.commitWaits (0x0D00 + n.val) = true → exec (.canApply n) s = .next s) ∧
    (∀ ws, s.dev.on (CAN_APPLY.APPLY n.val) = false → s.dev.commitWaits (0x0D00 + n.val) = false → ws = s.dev.capture (canRegs n.val) →
      (s.dev.canBars n.val (s.dev.capWord ws) = true ∨ s.dev.canFail n.val (s.dev.capWord ws) ≠ none → exec (.canApply n) s = .next (s.onDev (Dev.set (CAN_APPLY.REFUSED n.val) 1))) ∧
      (s.dev.canBars n.val (s.dev.capWord ws) = false → s.dev.canFail n.val (s.dev.capWord ws) = none → s.dev.sync = false → exec (.canApply n) s = .next (s.onDev (fun d =>
        ((d.set (CAN_APPLY.REFUSED n.val) 0).set (CAN_APPLY.APPLY n.val) 1).canCommit n.val ws none))) ∧
      (s.dev.canBars n.val (s.dev.capWord ws) = false → s.dev.canFail n.val (s.dev.capWord ws) = none → s.dev.sync = true → exec (.canApply n) s = .next (s.onDev (fun d =>
        ((d.set (CAN_APPLY.REFUSED n.val) 0).set (CAN_APPLY.APPLY n.val) 1).holdCommit (0x0D00 + n.val) ws none)))))

/-- A request of a buffer outside the pool or already pending does nothing; without a transmit-at time the buffer contends at once, with one it waits, contends late or ends as missed by its tolerance. A mask of requests or cancels acts bit by bit in ascending order. A cancel ends a pending buffer with status 4, but marks the one whose frame is in transmission. A buffer's transmit-at time makes it contend. An attempt's end of a buffer that is not the one in transmission does nothing; the measured transmitter delay is shown; a failed attempt ends a cancelled buffer with status 4, a one-shot one with status 1 (BUSY after lost arbitration, MEDIA_ERROR after an error), and leaves another pending with one attempt more; a sent frame leaves the part unless looped internally, ends its buffer with status 0 or 3, lowers the transmit error count and is received back in loopback. Then a stop that waited is complete. -/
def Obligations.CanTransmitBuffersContendAndEnd : Prop :=
  (∀ (s : State) (n : Fin 2) (b : Fin 32) at_ tol, at_ = s.dev.canField n.val (s.dev.txOff n.val b.val + 4) 10 → tol = s.dev.canField n.val (s.dev.txOff n.val b.val + 16) 4 →
    (b.val < 5 ∨ s.dev.txCount n.val ≤ b.val ∨ s.dev.canPending n.val b.val ≠ none → exec (.canTxRequest n (BitVec.ofNat 32 (2 ^ b.val))) s = .next s) ∧
    (5 ≤ b.val → b.val < s.dev.txCount n.val → s.dev.canPending n.val b.val = none → at_ = 0 → exec (.canTxRequest n (BitVec.ofNat 32 (2 ^ b.val))) s = .next (s.onDev (fun d => d.pendBuffer n.val ⟨b.val, some d.now, 0, false, 0, false, none⟩))) ∧
    (5 ≤ b.val → b.val < s.dev.txCount n.val → s.dev.canPending n.val b.val = none → at_ ≠ 0 → s.dev.now + ns 1000 ≤ at_ → exec (.canTxRequest n (BitVec.ofNat 32 (2 ^ b.val))) s = .next (s.onDev (fun d => d.pendBuffer n.val ⟨b.val, none, at_, false, 0, false, none⟩))) ∧
    (5 ≤ b.val → b.val < s.dev.txCount n.val → s.dev.canPending n.val b.val = none → at_ ≠ 0 → at_ < s.dev.now + ns 1000 → 0xFFFFFFFE ≤ tol ∨ s.dev.now + ns 1000 - at_ ≤ ns tol →
      exec (.canTxRequest n (BitVec.ofNat 32 (2 ^ b.val))) s = .next (s.onDev (fun d => d.pendBuffer n.val ⟨b.val, some d.now, at_, true, 0, false, none⟩))) ∧
    (5 ≤ b.val → b.val < s.dev.txCount n.val → s.dev.canPending n.val b.val = none → at_ ≠ 0 → at_ < s.dev.now + ns 1000 → tol < 0xFFFFFFFE → ns tol < s.dev.now + ns 1000 - at_ →
      exec (.canTxRequest n (BitVec.ofNat 32 (2 ^ b.val))) s = .next (s.onDev (fun d => d.endBuffer n.val ⟨b.val, none, at_, false, 0, false, none⟩ 2 0 stMISSED)))) ∧
  (∀ (s : State) (n : Fin 2) (m : Word) (onBus : Option (Fin 32)),
    exec (.canTxRequest n m) s = .next (s.onDev (fun d => d.forN 32 (fun b d => if bitAt m.toNat b then d.canTxRequest n.val (2 ^ b) else d))) ∧
    exec (.canTxCancel n m onBus) s = .next (s.onDev (fun d => d.forN 32 (fun b d => if bitAt m.toNat b then d.canTxCancel n.val (2 ^ b) (onBus.map (·.val)) else d)))) ∧
  (∀ (s : State) (n : Fin 2) (b : Fin 32) (onBus : Option (Fin 32)), (s.dev.canPending n.val b.val = none → exec (.canTxCancel n (BitVec.ofNat 32 (2 ^ b.val)) onBus) s = .next s) ∧
    (∀ p, s.dev.canPending n.val b.val = some p → onBus ≠ some b ∨ p.since = none ∨ s.dev.canSends n.val = false → exec (.canTxCancel n (BitVec.ofNat 32 (2 ^ b.val)) onBus) s = .next (s.onDev (Dev.endBuffer n.val p 4 0 stBUSY))) ∧
    (∀ p, s.dev.canPending n.val b.val = some p → onBus = some b → p.since ≠ none → s.dev.canSends n.val = true → exec (.canTxCancel n (BitVec.ofNat 32 (2 ^ b.val)) onBus) s = .next (s.onDev (fun d =>
      (d.pendBuffer n.val { p with cancelled := true }).wr (CAN_TX_CANCEL n.val) (withBits (d.rd (CAN_TX_CANCEL n.val)) b.val b.val 1))))) ∧
  (∀ (s : State) (n : Fin 2) (b : Fin 32), (s.dev.canPending n.val b.val = none → exec (.canTransmitAt n b) s = .next s) ∧
    (∀ p, s.dev.canPending n.val b.val = some p → (p.since ≠ none → exec (.canTransmitAt n b) s = .next s) ∧
      (p.since = none → exec (.canTransmitAt n b) s = .next (s.onDev (fun d => (d.reach p.at_).pendBuffer n.val { p with since := some (max d.now p.at_) }))))) ∧
  (∀ (s : State) (n : Fin 2) (b : Fin 32) (o : Fin 3) (sof : BitVec 80) (dl : Option (BitVec 8)),
    (s.dev.get (CAN_STATUS.STATE n.val) ≠ 2 ∧ s.dev.get (CAN_STATUS.STATE n.val) ≠ 3) ∨ (s.dev.canCh n.val).listen = true ∨ bitAt (s.dev.lrd (CAN_CTRL n.val)) 0 = true ∨
      s.dev.get (CAN_STATUS.ERR_STATE n.val) = 2 ∨ s.dev.canWinner n.val sof.toNat ≠ some b.val → exec (.canTxComplete n b o sof dl) s = .next s) ∧
  (∀ (s : State) (n : Fin 2) (b : Fin 32) (sof : BitVec 80) (dl : Option (BitVec 8)) (p : CanPend) id dlc (oneShot : Bool) (d1 : Dev), s.dev.get (CAN_STATUS.STATE n.val) = 2 ∨ s.dev.get (CAN_STATUS.STATE n.val) = 3 →
    (s.dev.canCh n.val).listen = false → bitAt (s.dev.lrd (CAN_CTRL n.val)) 0 = false → s.dev.get (CAN_STATUS.ERR_STATE n.val) ≠ 2 → s.dev.canWinner n.val sof.toNat = some b.val →
    s.dev.canPending n.val b.val = some p → id = s.dev.canField n.val (s.dev.txOff n.val b.val) 4 % 2 ^ 31 → dlc = s.dev.canField n.val (s.dev.txOff n.val b.val + 14) 1 →
    oneShot = (bitAt (s.dev.lrd (CAN_CTRL n.val)) 6 || bitAt (s.dev.canField n.val (s.dev.txOff n.val b.val + 15) 1) 1) →
    d1 = (match dl with
      | some m => if bitAt (s.dev.lrd (CAN_CTRL n.val)) 7 && bitAt dlc 4 && decide (bitsOf (s.dev.lrd (CAN_DELAY_COMP n.val)) 15 8 ≤ m.toNat) then s.dev.set (CAN_DELAY_COMP.MEASURED n.val) m.toNat else s.dev
      | none => s.dev) →
    (p.cancelled = true → exec (.canTxComplete n b 1 sof dl) s = .next (s.onDev (fun _ => (d1.endBuffer n.val { p with attempts := p.attempts + 1 } 4 sof.toNat stBUSY).canFrameEnd n.val)) ∧
      exec (.canTxComplete n b 2 sof dl) s = .next (s.onDev (fun _ => (d1.endBuffer n.val { p with attempts := p.attempts + 1 } 4 sof.toNat stBUSY).canFrameEnd n.val))) ∧
    (p.cancelled = false → oneShot = true → exec (.canTxComplete n b 1 sof dl) s = .next (s.onDev (fun _ =>
        (d1.endBuffer n.val { p with attempts := p.attempts + 1 } 1 sof.toNat stBUSY).canFrameEnd n.val)) ∧
      exec (.canTxComplete n b 2 sof dl) s = .next (s.onDev (fun _ => (d1.endBuffer n.val { p with attempts := p.attempts + 1 } 1 sof.toNat stMEDIA_ERROR).canFrameEnd n.val))) ∧
    (p.cancelled = false → oneShot = false → exec (.canTxComplete n b 1 sof dl) s = .next (s.onDev (fun _ => (d1.pendBuffer n.val { p with attempts := p.attempts + 1 }).canFrameEnd n.val)) ∧
      exec (.canTxComplete n b 2 sof dl) s = .next (s.onDev (fun _ => (d1.pendBuffer n.val { p with attempts := p.attempts + 1 }).canFrameEnd n.val))) ∧
    (∀ data d2 d3 d4, data = d1.canBytes n.val (s.dev.txOff n.val b.val + 24) (frameLen id dlc) → d2 = (if d1.canLoop n.val = 4 then d1 else d1.emit (.can n.val id data)) →
      d3 = d2.endBuffer n.val { p with attempts := p.attempts + 1 } (if p.late then 3 else 0) sof.toNat (if p.late then stLATE else stOK) →
      d4 = (if (d3.canCh n.val).tec = 0 then d3 else d3.canCounters n.val ((d3.canCh n.val).tec - 1) (d3.canRec n.val)) →
      exec (.canTxComplete n b 0 sof dl) s = .next (s.onDev (fun _ => (if d4.canLoop n.val = 0 then d4 else d4.canStore n.val id dlc sof.toNat data).canFrameEnd n.val))))

/-- A channel that is stopped, in bus-off or looped internally receives nothing; a frame ended by a set res bit is shown; in detection an acknowledged frame counts, and the second ends it. A running channel lowers its receive error count, hands PDUs to their connections, and in mailbox mode stores the frame in the first mailbox that fits or counts it; else under HA_CAN in FIFO 0; else the first rule that matches decides, and NONMATCH without one; a remote frame is discarded under REJECT_REMOTE. An error of a stopped channel, of one in bus-off or of no kind does nothing; in detection it ends the candidate unless it is an ACK error; a transmit error adds 8 unless ISO 11898-1 leaves it uncounted, a receive error 1 or 8. Recovery clears the counts of a channel in bus-off that recovers, and no other. A heartbeat needs Configure and its enable; its counter rises, and a running channel with a buffer for it makes it pending with the mode, permit and Lockout flags and the count. An acknowledged index frees the elements up to it, one outside the filled ones nothing. A mailbox status read locks its mailbox and releases another; the read of its last word releases it with NEW and LOST cleared, or stores the held frame; a lock times out. In a channel without mailboxes neither does anything. -/
def Obligations.CanChannelsReceiveAndCount : Prop :=
  (∀ (s : State) (n : Fin 2) (id : Word) (dlc : BitVec 6) (sof : BitVec 80) (x : List Byte) (ack exc : Bool),
    s.dev.get (CAN_STATUS.STATE n.val) = 0 ∨ s.dev.get (CAN_STATUS.ERR_STATE n.val) = 2 ∨ s.dev.canLoop n.val = 4 → exec (.canFrameReceived n id dlc sof x ack exc) s = .next s) ∧
  (∀ (s : State) (n : Fin 2) (id : Word) (dlc : BitVec 6) (sof : BitVec 80) (x : List Byte) (ack : Bool), s.dev.get (CAN_STATUS.STATE n.val) ≠ 0 → s.dev.get (CAN_STATUS.ERR_STATE n.val) ≠ 2 → s.dev.canLoop n.val ≠ 4 → 
    exec (.canFrameReceived n id dlc sof x ack true) s = .next (s.onDev (fun d => ((d.set (CAN_STATUS.PROTOCOL_EXC n.val) 1).post (0x0D00 + n.val) 0x0D09 []).canFrameEnd n.val))) ∧
  (∀ (s : State) (n : Fin 2) (id : Word) (dlc : BitVec 6) (sof : BitVec 80) (x : List Byte) (ack : Bool), s.dev.get (CAN_STATUS.STATE n.val) = 1 → s.dev.get (CAN_STATUS.ERR_STATE n.val) ≠ 2 → s.dev.canLoop n.val ≠ 4 → 
    (ack = false ∨ (s.dev.canCh n.val).auto = none → exec (.canFrameReceived n id dlc sof x ack false) s = .next s) ∧
    (∀ a d1, (s.dev.canCh n.val).auto = some a → ack = true → d1 = s.dev.setCan n.val { s.dev.canCh n.val with auto := some { a with good := a.good + 1, verified := a.verified || bitAt dlc.toNat 5 } } →
      exec (.canFrameReceived n id dlc sof x ack false) s = .next (s.onDev (fun _ => if a.good = 1 then d1.autobaudDone n.val (some a.idx) else d1)))) ∧
  (∀ (s : State) (n : Fin 2) (id : Word) (dlc : BitVec 6) (sof : BitVec 80) (x : List Byte) (ack : Bool) data (ctrl : Nat) (d0 d1 : Dev) (elem : Nat → List Byte) (rule : Nat → List Byte) (hit mbx : Option Nat),
    2 ≤ s.dev.get (CAN_STATUS.STATE n.val) → s.dev.get (CAN_STATUS.ERR_STATE n.val) ≠ 2 → s.dev.canLoop n.val ≠ 4 → data = padTo (frameLen id.toNat dlc.toNat) x → d0 = s.dev.canGoodRx n.val → ctrl = d0.lrd (CAN_CTRL n.val) →
    d1 = (if bitAt id.toNat 30 then d0 else d0.forEach (d0.usedConns.filter (fun c => fieldAt (connEntry d0.safSet c) 4 1 == 3 && fieldAt (connEntry d0.safSet c) 11 1 == n.val &&
      fieldAt (connEntry d0.safSet c) 12 4 % 2 ^ 30 == id.toNat % 2 ^ 30)) (fun c d => d.pduReceived c data)) →
    elem = (fun (r : Nat) => canElement id.toNat dlc.toNat r sof.toNat data) → rule = (fun (i : Nat) => d1.canBytes n.val (d1.lget (CAN_RAM_RULES.START n.val) + 12 * i) 12) →
    hit = (List.range (d1.lget (CAN_RAM_RULES.COUNT n.val))).find? (fun i => canMatches id.toNat (rule i)) →
    mbx = (List.range (d1.lget (CAN_RAM_MBX.COUNT n.val))).find? (fun m => bitAt (d1.canField n.val (d1.mbxOff n.val m) 4) 31 && d1.canField n.val (d1.mbxOff n.val m) 4 % 2 ^ 30 == id.toNat % 2 ^ 30) →
    (bitAt ctrl 2 = true → bitAt ctrl 10 = true → bitAt id.toNat 30 = true → exec (.canFrameReceived n id dlc sof x ack false) s = .next (s.onDev (fun _ => (d1).canFrameEnd n.val))) ∧
    (bitAt ctrl 2 = true → bitAt ctrl 10 = false ∨ bitAt id.toNat 30 = false → mbx = none → exec (.canFrameReceived n id dlc sof x ack false) s = .next (s.onDev (fun _ => (d1.count32 (CAN_MBX_NOMATCH_CNT n.val) 1).canFrameEnd n.val))) ∧
    (∀ m, bitAt ctrl 2 = true → bitAt ctrl 10 = false ∨ bitAt id.toNat 30 = false → mbx = some m → exec (.canFrameReceived n id dlc sof x ack false) s = .next (s.onDev (fun _ => (d1.mbxStore n.val m (elem m)).canFrameEnd n.val))) ∧
    (bitAt ctrl 2 = false → d1.ha 3 = true → exec (.canFrameReceived n id dlc sof x ack false) s = .next (s.onDev (fun _ => (d1.rxPush n.val 0 (elem 0xFE)).canFrameEnd n.val))) ∧
    (bitAt ctrl 2 = false → d1.ha 3 = false → bitAt ctrl 10 = true → bitAt id.toNat 30 = true → exec (.canFrameReceived n id dlc sof x ack false) s = .next (s.onDev (fun _ => (d1).canFrameEnd n.val))) ∧
    (bitAt ctrl 2 = false → d1.ha 3 = false → bitAt ctrl 10 = false ∨ bitAt id.toNat 30 = false → hit = none →
      exec (.canFrameReceived n id dlc sof x ack false) s = .next (s.onDev (fun _ => (if bitsOf ctrl 9 8 = 0 then d1.rxPush n.val 0 (elem 0xFF) else if bitsOf ctrl 9 8 = 1 then d1.rxPush n.val 1 (elem 0xFF) else d1).canFrameEnd n.val))) ∧
    (∀ i d2 (dest : Nat), bitAt ctrl 2 = false → d1.ha 3 = false → bitAt ctrl 10 = false ∨ bitAt id.toNat 30 = false → hit = some i → dest = fieldAt (rule i) 8 1 % 8 →
      d2 = (if dest = 2 then d1 else d1.rxPush n.val (if dest = 1 ∨ dest = 4 then 1 else 0) (elem i)) →
      dest < 3 ∨ data.length < 12 ∨ d1.permit = false ∨ d1.sync = false → bitAt (fieldAt (rule i) 8 1) 3 = false ∨ dest = 2 → exec (.canFrameReceived n id dlc sof x ack false) s = .next (s.onDev (fun _ => (d2).canFrameEnd n.val))) ∧
    (∀ i, bitAt ctrl 2 = false → d1.ha 3 = false → bitAt ctrl 10 = false ∨ bitAt id.toNat 30 = false → hit = some i →
      exec (.canFrameReceived n id dlc sof x ack false) s = .next (s.onDev (fun _ => (d1.canByRule n.val i (fieldAt (rule i) 8 1 % 8) (bitAt (fieldAt (rule i) 8 1) 3) id.toNat dlc.toNat sof.toNat data).canFrameEnd n.val)))) ∧
  (∀ (s : State) (n : Fin 2) (k : Fin 7) (dat tx big ex : Bool) (d1 : Dev), d1 = (s.dev.count32 (CAN_ERR_CNT n.val) 1).set (if dat then CAN_STATUS.DATA_ERROR n.val else CAN_STATUS.LAST_ERROR n.val) k.val →
    (s.dev.get (CAN_STATUS.STATE n.val) = 0 ∨ k = 0 ∨ s.dev.get (CAN_STATUS.ERR_STATE n.val) = 2 → exec (.canErrorDetected n k dat tx big ex) s = .next s) ∧
    (k ≠ 0 → s.dev.get (CAN_STATUS.ERR_STATE n.val) ≠ 2 → s.dev.get (CAN_STATUS.STATE n.val) = 1 → exec (.canErrorDetected n k dat tx big ex) s = .next (s.onDev (fun _ => if k = 3 then d1 else d1.autobaudNext n.val))) ∧
    (k ≠ 0 → s.dev.get (CAN_STATUS.ERR_STATE n.val) ≠ 2 → 2 ≤ s.dev.get (CAN_STATUS.STATE n.val) → tx = true → ex = true → k = 1 ∨ (k = 3 ∧ s.dev.get (CAN_STATUS.ERR_STATE n.val) = 1) →
      exec (.canErrorDetected n k dat tx big ex) s = .next (s.onDev (fun _ => d1))) ∧
    (k ≠ 0 → s.dev.get (CAN_STATUS.ERR_STATE n.val) ≠ 2 → 2 ≤ s.dev.get (CAN_STATUS.STATE n.val) → tx = true → ex = false ∨ (k ≠ 1 ∧ (k ≠ 3 ∨ s.dev.get (CAN_STATUS.ERR_STATE n.val) ≠ 1)) →
      ∃ t, exec (.canErrorDetected n k dat tx big ex) s = .next t ∧ (t.dev.canCh n.val).tec = (s.dev.canCh n.val).tec + 8 ∧ t.dev.rd (CAN_ERR_CNT n.val) = satAdd 32 (s.dev.rd (CAN_ERR_CNT n.val)) 1) ∧
    (k ≠ 0 → s.dev.get (CAN_STATUS.ERR_STATE n.val) ≠ 2 → 2 ≤ s.dev.get (CAN_STATUS.STATE n.val) → tx = false →
      ∃ t, exec (.canErrorDetected n k dat tx big ex) s = .next t ∧ t.dev.canRec n.val = min 128 (s.dev.canRec n.val + (if big then 8 else 1)) ∧ t.dev.rd (CAN_ERR_CNT n.val) = satAdd 32 (s.dev.rd (CAN_ERR_CNT n.val)) 1)) ∧
  (∀ (s : State) (n : Fin 2), (s.dev.get (CAN_STATUS.ERR_STATE n.val) ≠ 2 ∨ s.dev.on (CAN_STATUS.RECOVERING n.val) = false → exec (.busRecovered n) s = .next s) ∧
    (s.dev.get (CAN_STATUS.ERR_STATE n.val) = 2 → s.dev.on (CAN_STATUS.RECOVERING n.val) = true → ∃ t, exec (.busRecovered n) s = .next t ∧
      t.dev.get (CAN_STATUS.ERR_STATE n.val) = 0 ∧ t.dev.on (CAN_STATUS.RECOVERING n.val) = false ∧ (t.dev.canCh n.val).tec = 0 ∧ t.dev.canRec n.val = 0)) ∧
  (∀ (s : State) (n : Fin 2) w k (d1 : Dev), w = s.dev.lrd (CAN_HB_ID n.val) → k = ((s.dev.canCh n.val).beat + 1) % 65536 → d1 = s.dev.setCan n.val { s.dev.canCh n.val with beat := k } →
    (s.dev.mode < 4 ∨ bitAt w 31 = false → exec (.canHeartbeatPeriod n) s = .next s) ∧
    (4 ≤ s.dev.mode → bitAt w 31 = true → d1.get (CAN_STATUS.STATE n.val) ≠ 2 ∨ d1.txCount n.val ≤ 4 → exec (.canHeartbeatPeriod n) s = .next (s.onDev (fun _ => d1))) ∧
    (4 ≤ s.dev.mode → bitAt w 31 = true → d1.get (CAN_STATUS.STATE n.val) = 2 → 4 < d1.txCount n.val → exec (.canHeartbeatPeriod n) s = .next (s.onDev (fun _ =>
      (d1.fillBuffer n.val 4 (w % 2 ^ 30) (4 + 16 * flag (bitAt w 30)) 0 0 0 0 (leBytes 1 d1.mode ++ leBytes 1 (flag d1.permit + 2 * flag (d1.mode == 9)) ++ leBytes 2 k)).pendBuffer n.val
        ⟨4, (match d1.canPending n.val 4 with | some q => q.since | none => some d1.now), 0, false, 0, false, none⟩)))) ∧
  (∀ (s : State) (n k : Fin 2) (i : BitVec 6) size f g, size = bitsOf (s.dev.lrd (if k = 0 then CAN_RAM_RX0 n.val else CAN_RAM_RX1 n.val)) 23 16 →
    f = s.dev.get (CAN_RX_STATUS.FILL n.val k.val) → g = s.dev.get (CAN_RX_STATUS.GET n.val k.val) →
    (size ≤ i.toNat ∨ f < (i.toNat + size - g) % size + 1 → exec (.canRxAck n k i) s = .next s) ∧
    (i.toNat < size → (i.toNat + size - g) % size + 1 ≤ f → exec (.canRxAck n k i) s = .next (s.onDev (fun d =>
      (d.set (CAN_RX_STATUS.GET n.val k.val) ((i.toNat + 1) % size)).set (CAN_RX_STATUS.FILL n.val k.val) (f - ((i.toNat + size - g) % size + 1)))))) ∧
  (∀ (s : State) (n : Fin 2) (i : BitVec 5) size f g, size = s.dev.lget (CAN_RAM_TXE.COUNT n.val) → f = s.dev.get (CAN_TXE_STATUS.FILL n.val) → g = s.dev.get (CAN_TXE_STATUS.GET n.val) →
    (size ≤ i.toNat ∨ f < (i.toNat + size - g) % size + 1 → exec (.canTxeAck n i) s = .next s) ∧
    (i.toNat < size → (i.toNat + size - g) % size + 1 ≤ f → exec (.canTxeAck n i) s = .next (s.onDev (fun d =>
      (d.set (CAN_TXE_STATUS.GET n.val) ((i.toNat + 1) % size)).set (CAN_TXE_STATUS.FILL n.val) (f - ((i.toNat + size - g) % size + 1)))))) ∧
  (∀ (s : State) (n : Fin 2) (m : Fin 64), bitAt (s.dev.lrd (CAN_CTRL n.val)) 2 = false ∨ s.dev.lget (CAN_RAM_MBX.COUNT n.val) ≤ m.val →
    exec (.mailboxStatusRead n m) s = .next s ∧ exec (.mailboxReleaseRead n m) s = .next s) ∧
  (∀ (s : State) (n : Fin 2) (m : Fin 64) (d0 : Dev) st o, bitAt (s.dev.lrd (CAN_CTRL n.val)) 2 = true → m.val < s.dev.lget (CAN_RAM_MBX.COUNT n.val) →
    d0 = (if s.dev.mbxLocked n.val = some m.val then s.dev else s.dev.mbxRelease n.val false) → st = withBits (d0.canField n.val (d0.mbxOff n.val m.val + 4) 4) 2 2 1 →
    o = s.dev.mbxOff n.val m.val + 0x5C →
    (∃ t, exec (.mailboxStatusRead n m) s = .next t ∧ t.dev.mbxLocked n.val = some m.val ∧ t.dev.out = s.dev.out ++ [.busData (CAN_CTRL n.val + 0x4000 + d0.mbxOff n.val m.val + 4) st]) ∧
    (s.dev.mbxLocked n.val ≠ some m.val → exec (.mailboxReleaseRead n m) s = .next (s.onDev (Dev.emit (.busData (CAN_CTRL n.val + 0x4000 + o) (s.dev.canField n.val o 4))))) ∧
    (s.dev.mbxLocked n.val = some m.val → (s.dev.canCh n.val).held = none → ∃ t, exec (.mailboxReleaseRead n m) s = .next t ∧ t.dev.mbxLocked n.val = none ∧
      t.dev.out = s.dev.out ++ [.busData (CAN_CTRL n.val + 0x4000 + o) (s.dev.canField n.val o 4)] ∧
      t.dev.canField n.val (s.dev.mbxOff n.val m.val + 4) 4 = withBits (withBits (s.dev.canField n.val (s.dev.mbxOff n.val m.val + 4) 4) 1 0 0) 2 2 0) ∧
    (∀ e, s.dev.mbxLocked n.val = some m.val → (s.dev.canCh n.val).held = some e → ∃ t, exec (.mailboxReleaseRead n m) s = .next t ∧ t.dev.mbxLocked n.val = none ∧
      (t.dev.canCh n.val).held = none ∧ bitAt (t.dev.canField n.val (s.dev.mbxOff n.val m.val + 4) 4) 0 = true)) ∧
  (∀ (s : State) (n : Fin 2), (s.dev.mbxLocked n.val = none → exec (.lockTimeout n) s = .next s) ∧
    (∀ k, s.dev.mbxLocked n.val = some k → exec (.lockTimeout n) s = .next (s.onDev (fun d =>
      ((d.mbxRelease n.val false).count (CAN_MBX_LOCK.TIMEOUTS n.val) 1).post (0x0D00 + n.val) 0x0D0A (leBytes 1 k)))))

/-- Every register holds 32 bits. With the endpoint present, an aligned 64-bit write is the 32-bit write of its low half and then that of its high half at the next register, outside the read-only SAF window, and an aligned 64-bit read is the two 32-bit reads, low address first. A write of another size or alignment changes only the saturating SIZE count of HIF_BAD_ACCESS_CNT; a read of another size or alignment returns 0 and changes nothing. Naturally aligned means a multiple of the access's size. -/
def Obligations.Bar0AccessSizes : Prop :=
  (∀ (s : State) (a : Nat), s.dev.rd a < 2 ^ 32) ∧
  (∀ (s : State) (a : BitVec 24) (v : BitVec 64), s.dev.ready = true → a.toNat % 8 = 0 → ¬(0xC0000 ≤ a.toNat ∧ a.toNat < 0xD0000) →
    exec (.registerWrite a 8#8 v) s = .next (s.onDev (fun d => (d.busWrite32 a.toNat (v.toNat % 2 ^ 32)).busWrite32 (a.toNat + 4) (v.toNat / 2 ^ 32)))) ∧
  (∀ (s : State) (a : BitVec 24) (v : BitVec 64), s.dev.ready = true → a.toNat % 4 = 0 → ¬(0xC0000 ≤ a.toNat ∧ a.toNat < 0xD0000) →
    exec (.registerWrite a 4#8 v) s = .next (s.onDev (Dev.busWrite32 a.toNat (v.toNat % 2 ^ 32)))) ∧
  (∀ (s : State) (a : BitVec 24) (n : BitVec 8) (v : BitVec 64), s.dev.ready = true → (n.toNat ≠ 4 ∧ n.toNat ≠ 8) ∨ a.toNat % n.toNat ≠ 0 →
    exec (.registerWrite a n v) s = .next (s.onDev (fun d => d.count HIF_BAD_ACCESS_CNT.SIZE 1)) ∧
    exec (.readClear a n) s = .next (s.onDev (Dev.emit (.busData a.toNat 0))) ∧ exec (.latchingRead a n) s = .next (s.onDev (Dev.emit (.busData a.toNat 0)))) ∧
  (∀ (s : State) (a : BitVec 24), s.dev.ready = true → a.toNat % 8 = 0 →
    exec (.readClear a 8#8) s = .next (s.onDev (fun d => (d.busRead32 s.backup a.toNat).busRead32 s.backup (a.toNat + 4))) ∧
    exec (.latchingRead a 8#8) s = .next (s.onDev (fun d => (d.busRead32 s.backup a.toNat).busRead32 s.backup (a.toNat + 4)))) ∧
  (∀ (s : State) (a : BitVec 24), s.dev.ready = true → a.toNat % 4 = 0 →
    exec (.readClear a 4#8) s = .next (s.onDev (Dev.busRead32 s.backup a.toNat)) ∧ exec (.latchingRead a 4#8) s = .next (s.onDev (Dev.busRead32 s.backup a.toNat)))

/-- Of a register of the SYS, RST, CLK or PIN windows without a row of its own, a 32-bit write makes each bit what its access code says: a 1 in a W1C bit clears it, a 1 in a W1S bit sets it, an RW bit takes the written one, every other bit stays; no other register changes. Writes to reserved offsets and to the SAF window change no register but the bad-access count. A read of a register of those windows that latches nothing answers its word and clears its RC bits only. A read of SYS_MODE_TIME_LO latches _HI, and the read of _HI answers what was latched. The reserved space from offset 0x40_0000 on reads 0 and keeps nothing. Without the endpoint nothing happens. -/
def Obligations.RegisterBitsFollowTheirAccess : Prop :=
  (∀ (s : State) (a : BitVec 24) (v : BitVec 64) (r : RegDesc), s.dev.ready = true → a.toNat % 4 = 0 → a.toNat < 0x10000 → descOf a.toNat = some r →
    a.toNat ≠ SYS_DRILL_LIMIT → a.toNat ≠ SYS_COND_EVT_EN → a.toNat ≠ PIN_MFP_OUT → indexIn a.toNat (PIN_MFP 0) 4 24 = none →
    ∃ t, exec (.registerWrite a 4#8 v) s = .next t ∧ (∀ b, b ≠ a.toNat → t.dev.rd b = s.dev.rd b) ∧
      (∀ i, i < 32 → bitAt (t.dev.rd a.toNat) i = (if bitAt r.w1c i && bitAt v.toNat i then false else if bitAt r.w1s i && bitAt v.toNat i then true
        else if bitAt r.rw i then bitAt v.toNat i else bitAt (s.dev.rd a.toNat) i))) ∧
  (∀ (s : State) (a : BitVec 24) (v : BitVec 64), s.dev.ready = true → a.toNat % 4 = 0 → a.toNat < 0x10000 → descOf a.toNat = none →
    exec (.registerWrite a 4#8 v) s = .next s) ∧
  (∀ (s : State) (a : BitVec 24) (v : BitVec 64), s.dev.ready = true → a.toNat % 4 = 0 → 0xC0000 ≤ a.toNat → a.toNat < 0xD0000 →
    exec (.registerWrite a 4#8 v) s = .next (s.onDev (fun d => d.count HIF_BAD_ACCESS_CNT.SAF 1))) ∧
  (∀ (s : State) (a : BitVec 24) (x : Nat) (r : RegDesc), s.dev.ready = true → a.toNat % 4 = 0 → a.toNat < 0x10000 → descOf a.toNat = some r → isLatched a.toNat = false →
    latchesNext a.toNat = false → latchesTwo a.toNat = false → s.dev.busNow s.backup a.toNat = (x, s.dev) → ∃ t, exec (.readClear a 4#8) s = .next t ∧
      t.dev.out = s.dev.out ++ [.busData a.toNat x] ∧ (∀ b, b ≠ a.toNat → t.dev.rd b = s.dev.rd b) ∧
      (∀ i, i < 32 → bitAt (t.dev.rd a.toNat) i = (if bitAt r.rc i then false else bitAt (s.dev.rd a.toNat) i))) ∧
  (∀ (s : State), s.dev.ready = true → ∃ t, exec (.latchingRead (BitVec.ofNat 24 SYS_MODE_TIME_LO) 4#8) s = .next t ∧
    t.dev.out = s.dev.out ++ [.busData SYS_MODE_TIME_LO (s.dev.rd SYS_MODE_TIME_LO)] ∧ t.dev.regs = s.dev.regs ∧
    (smGet resetOf t.dev.latch SYS_MODE_TIME_HI).toNat = s.dev.rd SYS_MODE_TIME_HI) ∧
  (∀ (s : State), s.dev.ready = true → exec (.latchingRead (BitVec.ofNat 24 SYS_MODE_TIME_HI) 4#8) s =
    .next (s.onDev (Dev.emit (.busData SYS_MODE_TIME_HI (smGet resetOf s.dev.latch SYS_MODE_TIME_HI).toNat)))) ∧
  (∀ (s : State) (a : BitVec 24) (n : BitVec 8) (v : BitVec 64), s.dev.ready = false → exec (.registerWrite a n v) s = .next s ∧ exec (.readClear a n) s = .next s ∧
    exec (.latchingRead a n) s = .next s) ∧
  (∀ (s : State) (a : BitVec 24) (v : BitVec 64), s.dev.ready = true → a.toNat % 4 = 0 → 0x400000 ≤ a.toNat → exec (.registerWrite a 4#8 v) s = .next s ∧
    exec (.readClear a 4#8) s = .next (s.onDev (Dev.emit (.busData a.toNat 0))) ∧ exec (.latchingRead a 4#8) s = .next (s.onDev (Dev.emit (.busData a.toNat 0))))

/-- A stage with coefficients B0, B1, B2, NA1 and NA2 and states S1 and S2 returns y = fma(B0, x, S1), and S1 becomes fma(B1, x, fma(NA1, y, S2)) and S2 fma(B2, x, fp32_mul(NA2, y)). A chain of zero stages returns its input and keeps its states; a chain of one is its stage; a chain of n + m stages is the chain of its first n, whose output is the input of the chain of the m that follow. In the axis law under loop split 0, while the axis does not track, node 7 is the chain of PBQ_N position stages over the sum of node 4, IP and node 6, node 15 is the chain of VBQ_N velocity stages over node 14, and their states are those the chains leave. Under split 1 the position chain runs so and the velocity states stay. -/
def Obligations.BiquadStagesRun : Prop :=
  (∀ (co : Nat → Nat) (x s1 s2 y : Nat), y = fpFma (co 0) x s1 →
    biquad co x s1 s2 = (y, fpFma (co 1) x (fpFma (co 3) y s2), fpFma (co 2) x (fpMul (co 4) y))) ∧
  (∀ (co : Nat → Nat → Nat) (k x : Nat) (st : List Nat), biquadChain co 0 k x st = (x, st)) ∧
  (∀ (co : Nat → Nat → Nat) (k x s1 s2 : Nat) (st : List Nat), biquadChain co 1 k x (s1 :: s2 :: st) =
    ((biquad (co k) x s1 s2).1, (biquad (co k) x s1 s2).2.1 :: (biquad (co k) x s1 s2).2.2 :: st)) ∧
  (∀ (co : Nat → Nat → Nat) (n m k x : Nat) (st : List Nat) (a b : Nat × List Nat), 2 * n ≤ st.length → a = biquadChain co n k x (st.take (2 * n)) →
    b = biquadChain co m (k + n) a.1 (st.drop (2 * n)) → biquadChain co (n + m) k x st = (b.1, a.2 ++ b.2)) ∧
  (∀ (P : Nat → Nat) (i : LawIn) (s t : AxisState) (a b : Nat × List Nat), t = controllers P i false s → optSplit P = 0 →
    a = biquadChain (fun k c => P (pPBQ k c)) (optPbq P) 0 (fpAdd (fpAdd ((t.nodes[4]?).getD 0) s.ip) ((t.nodes[6]?).getD 0)) s.pbq →
    b = biquadChain (fun k c => P (pVBQ k c)) (optVbq P) 0 ((t.nodes[14]?).getD 0) s.vbq →
    t.nodes[7]? = some a.1 ∧ t.pbq = a.2 ∧ t.nodes[15]? = some b.1 ∧ t.vbq = b.2) ∧
  (∀ (P : Nat → Nat) (i : LawIn) (s t : AxisState) (a : Nat × List Nat), t = controllers P i false s → optSplit P = 1 →
    a = biquadChain (fun k c => P (pPBQ k c)) (optPbq P) 0 (fpAdd (fpAdd ((t.nodes[4]?).getD 0) s.ip) ((t.nodes[6]?).getD 0)) s.pbq →
    t.nodes[7]? = some a.1 ∧ t.pbq = a.2 ∧ t.vbq = s.vbq)

/-- A MOVE_PROFILE of kind 1 of an axis that may move, with a finite velocity, is logged as a jog of that velocity, and where it enters, outside a stop of its group, it sets the axis's jog target. The ramp towards vt by STEP takes v_s up to min(v_s + STEP, vt) below vt, down to max(v_s - STEP, vt) above it and leaves it at vt, and moves x_s by the mean of the old and the new velocity times K_T2, half of K_T. A jog is the ramp towards the target clamped to plus and minus VMAX, by JOG_ACCEL times T_S; the controlled stop of an axis that follows no master, stopping or stopped, is the ramp towards 0 by STOP_DECEL times T_S. -/
def Obligations.JogAndStopRampsRun : Prop :=
  (∀ s p p' d' a, Runs opMoveProfile p s.dev p' d' → a = par p' 22 2 → a < 512 → par p' 24 1 = 1 → fpFinite (par p' 26 4) = true →
    (d'.axis a).faulted = false → d'.groupLatched (d'.groupOf a) = false → d'.trc.ident = none →
    exec (.moveProfile p) s = .next (s.onDev (fun _ => d'.logInput 0x01 68 (.jog a (par p' 26 4)) (some (refOf p s.dev))))) ∧
  (∀ (d : Dev) (a v stops : Nat) (ref : Option PktRef), bitAt stops (d.groupOf a) = false → d.groupLatched (d.groupOf a) = false → (d.axis a).faulted = false →
    (d.enterAct stops (.jog a v) ref).1 = some (stOK, []) ∧ (((d.enterAct stops (.jog a v) ref).2).axis a).jogVt = v) ∧
  (∀ (period vt step : Nat) (s : AxisState),
    (fpLt s.vs vt = true → fpLt vt (fpAdd s.vs step) = false → (rampStep period vt step s).vs = fpAdd s.vs step) ∧
    (fpLt s.vs vt = true → fpLt vt (fpAdd s.vs step) = true → (rampStep period vt step s).vs = vt) ∧
    (fpLt vt s.vs = true → fpLt s.vs vt = false → fpLt (fpSub s.vs step) vt = false → (rampStep period vt step s).vs = fpSub s.vs step) ∧
    (fpLt vt s.vs = true → fpLt s.vs vt = false → fpLt (fpSub s.vs step) vt = true → (rampStep period vt step s).vs = vt) ∧
    (fpLt s.vs vt = false → fpLt vt s.vs = false → (rampStep period vt step s).vs = s.vs)) ∧
  (∀ (period vt step : Nat) (s t : AxisState), t = rampStep period vt step s →
    t.xs = satAdd64 s.xs (int64Round (fpMul (fpAdd s.vs t.vs) (fpScale (constKT period) (-1)))) ∧ t = { s with xs := t.xs, vs := t.vs }) ∧
  (∀ (P : Nat → Nat) (cam : Nat → Nat → Nat) (i : LawIn) (s : AxisState),
    generate P cam i 1 s = rampStep i.period (fpClamp s.jogVt (fpNegate (P pVMAX)) (P pVMAX)) (fpMul (P pJOG_ACCEL) (constTS i.period)) s) ∧
  (∀ (P : Nat → Nat) (cam : Nat → Nat → Nat) (i : LawIn) (s t : AxisState), s.first = false → i.follows = false → s.stopping = true ∨ s.stopped = true →
    t = rampStep i.period 0 (fpMul (P pSTOP_DECEL) (constTS i.period)) s →
    (stepGenerator P cam i false s).xs = t.xs ∧ (stepGenerator P cam i false s).vs = t.vs)

/-- With no ring to serve, no held packet or no task that a core takes, the row changes nothing. A packet fetched from the ring that is served runs as the row of its opcode on the state whose head has moved past it, and one of an unknown opcode completes BAD_OPCODE. The held packet that is due first leaves the queue at its execute-at time and is checked for its mode and run. A dispatched task stands on a core as running; a host job's run is skipped while the one before has not completed, and else its packet is accepted. INSTALL_FIRMWARE of an unknown kind is BAD_PARAMETER, of a wrong length BAD_LENGTH, without its image INTERNAL. A firmware image whose magic or verification fails is refused; one that verifies is written to the slot not running with the next sequence number, and in Sealed the part resets. A package that verifies and fits becomes the active one, with its working generation. A provisioning image that is taken sets PROVISIONED and DEBUG_LOCK and resets the part; a revocation image that is taken revokes the slot it names. The effect at the command's end (fuses, tally, a due reset) is that of State.settle. -/
def Obligations.PacketsAreFetchedHeldDispatchedAndInstalled : Prop :=
  (∀ (s : State) heads host, s.dev.nothingDue → s.dev.ready = false ∨ s.dev.pickRing heads = none → exec (.packetFetch heads host) s = .next s) ∧
  (∀ (s s1 : State) heads host (q : Fin 64) (b : List Byte), s.dev.ready = true → s.dev.pickRing heads = some (q, b) → s1 = s.onDev (Dev.fetched q.val (entriesOf b)) →
    (∀ (c : Instr) (op : Opcode), packetOf c s1 = some (op, parsePacket q b host) → op.code = fieldAt b 0 2 →
      ∃ t, exec c s1 = .next t ∧ exec (.packetFetch heads host) s = .next t.settle) ∧
    (fieldAt b 0 2 = 0xFFFF → exec (.packetFetch heads host) s = .next (s1.onDev (fun d =>
      (d.owe q.val).complete ⟨q.val, (parsePacket q b host).tag.toNat, d.hif.epoch, false⟩ stBAD_OPCODE (d.owe q.val).now [])).settle)) ∧
  (∀ s : State, s.dev.nothingDue → s.dev.hif.held = [] → exec .scheduledPacketDue s = .next s) ∧
  (∀ (s : State) (h : HeldPacket) (d0 : Dev) (c : Instr) (op : Opcode), firstDue s.dev.hif.held = some h → packetOf c s = some (op, h.pkt) → op.code = h.op →
    d0 = Dev.showHeld { s.dev.reach h.pkt.execAt.toNat with hif := { s.dev.hif with held := s.dev.hif.held.erase h } } →
    (op.modes h.pkt d0 ≠ 0 → exec .scheduledPacketDue s = .next (s.onDev (fun _ => d0.complete h.ref (op.modes h.pkt d0) d0.now [])).settle) ∧
    (op.modes h.pkt d0 = 0 → exec .scheduledPacketDue s = .next (s.onDev (fun _ => Dev.answer h.ref (op.run h.pkt h.ref d0))).settle)) ∧
  (∀ (s : State) (bad : Bool) host, s.dev.nothingDue → (s.dev.dispatchTask bad).1 = none → exec (.taskDispatch bad host) s = .next s) ∧
  (∀ (s : State) (bad : Bool) host (k : Nat) (d1 : Dev), s.dev.dispatchTask bad = (some k, d1) →
    ((∃ c, (c, k) ∈ d1.sch.cores) ∧ (d1.task k).state = 3) ∧
    (k < 128 ∨ (d1.task k).began = true → exec (.taskDispatch bad host) s = .next (s.onDev (fun _ => d1)).settle) ∧
    (128 ≤ k → (d1.task k).began = false → d1.hif.inWork.any (fun w => w.1 == 64 + k) = true →
      exec (.taskDispatch bad host) s = .next (s.onDev (fun _ => d1.setTask k { d1.task k with began := true, skipping := true, skips := (d1.task k).skips + 1 })).settle) ∧
    (∀ (c : Instr) (op : Opcode) (p : Packet) (d2 : Dev), 128 ≤ k → (d1.task k).began = false → d1.hif.inWork.any (fun w => w.1 == 64 + k) = false →
      p = { parsePacket 0 (padTo 64 (d1.task k).packet) host with session := 0, execAt := 0, tol := 0, sec := none } →
      packetOf c s = some (op, p) → op.code = fieldAt (d1.task k).packet 0 2 →
      d2 = d1.setTask k { d1.task k with began := true, skipping := false, runs := (d1.task k).runs + 1 } →
      exec (.taskDispatch bad host) s = .next (s.onDev (fun _ =>
        Dev.acceptFor op p ⟨64 + k, p.tag.toNat, d1.hif.epoch, false⟩ { d2 with hif := { d2.hif with inWork := bumpWork (64 + k) true d2.hif.inWork } })).settle)) ∧
  (∀ (s : State) p p' d' (kind n : Nat), Runs (opInstall s.fuses) p s.dev p' d' → d'.nothingDue → kind = par p' 22 1 → n = par p' 32 4 →
    (kind = 0 ∨ 4 < kind → exec (.installFirmware p) s = .next (s.onDev (fun _ => d'.complete (refOf p s.dev) stBAD_PARAMETER d'.now []))) ∧
    (1 ≤ kind → kind ≤ 4 → n < 512 ∨ (if kind = 1 then 3 * 2 ^ 20 else 2 ^ 24) < n →
      exec (.installFirmware p) s = .next (s.onDev (fun _ => d'.complete (refOf p s.dev) stBAD_LENGTH d'.now []))) ∧
    (1 ≤ kind → kind ≤ 4 → 512 ≤ n → n ≤ (if kind = 1 then 3 * 2 ^ 20 else 2 ^ 24) →
      (p'.host = none → exec (.installFirmware p) s = .next (s.onDev (fun _ =>
        (d'.count32 HIF_DMA_ERR_CNT 1).complete (refOf p s.dev) stINTERNAL (d'.count32 HIF_DMA_ERR_CNT 1).now []))) ∧
      (∀ (bs b : List Byte), p'.host = some bs → b = padTo n bs →
        (fieldAt b 8 4 ≠ n → exec (.installFirmware p) s = .next (s.onDev (fun _ => d'.complete (refOf p s.dev) stBAD_LENGTH d'.now []))) ∧
        (fieldAt b 8 4 = n → kind = 1 → b.take 8 ≠ magicFw → exec (.installFirmware p) s = .next (s.onDev (fun _ => d'.complete (refOf p s.dev) stBAD_PARAMETER d'.now []))) ∧
        (fieldAt b 8 4 = n → kind = 1 → b.take 8 = magicFw → verifyImage s.fuses b 1 true ≠ 0 →
          exec (.installFirmware p) s = .next (s.onDev (fun _ => d'.complete (refOf p s.dev) (verifyStatus (verifyImage s.fuses b 1 true)) d'.now []))) ∧
        (fieldAt b 8 4 = n → kind = 1 → b.take 8 = magicFw → verifyImage s.fuses b 1 true = 0 →
          ∃ t, exec (.installFirmware p) s = .next t ∧ t.fuses = s.fuses ∧ t.dev.mode = (if d'.mode = 3 then 1 else d'.mode) ∧
            (d'.get SEC_STATUS.BOOT_SLOT = 0 → t.dev.sec.slotB = ⟨some ((d'.sec.slotA.seq.getD 0 + 1) % 2 ^ 64), b⟩ ∧ t.dev.sec.slotA = d'.sec.slotA) ∧
            (d'.get SEC_STATUS.BOOT_SLOT ≠ 0 → t.dev.sec.slotA = ⟨some ((d'.sec.slotB.seq.getD 0 + 1) % 2 ^ 64), b⟩ ∧ t.dev.sec.slotB = d'.sec.slotB)) ∧
        (fieldAt b 8 4 = n → kind = 2 → b.take 8 ≠ magicPkg → exec (.installFirmware p) s = .next (s.onDev (fun _ => d'.complete (refOf p s.dev) stBAD_PARAMETER d'.now []))) ∧
        (∀ k : Package, fieldAt b 8 4 = n → kind = 2 → b.take 8 = magicPkg → k = { Config.packageOf b with bytes := b, fwClass := fieldAt b 14 2 } →
          (verifyImage s.fuses b 2 false ≠ 0 →
            exec (.installFirmware p) s = .next (s.onDev (fun _ => d'.complete (refOf p s.dev) (verifyStatus (verifyImage s.fuses b 2 false)) d'.now []))) ∧
          (verifyImage s.fuses b 2 false = 0 → (decide (fieldAt b 14 2 ≠ d'.get SEC_FW.CLASS) || (d'.on RST_STATUS.DRAM_READY && !d'.partitionOk k)) = true →
            exec (.installFirmware p) s = .next (s.onDev (fun _ => d'.complete (refOf p s.dev) stBAD_PARAMETER d'.now []))) ∧
          (verifyImage s.fuses b 2 false = 0 → (decide (fieldAt b 14 2 ≠ d'.get SEC_FW.CLASS) || (d'.on RST_STATUS.DRAM_READY && !d'.partitionOk k)) = false →
            ∃ t, exec (.installFirmware p) s = .next t ∧ t.fuses = s.fuses ∧ t.dev.sys.package = some k ∧
              t.dev.sec.activePkg = (if d'.sys.package.isNone then 0 else 1 - d'.sec.activePkg) ∧
              t.dev.cyc.working = (k.images.map parseImage).find? (fun g => g.num == k.working))) ∧
        (fieldAt b 8 4 = n → kind = 3 → ∃ t, exec (.installFirmware p) s = .next t ∧ t = (s.onDev (fun _ => Dev.answer (refOf p s.dev) (d'.installProvisioning s.fuses b))).settle ∧
          ((d'.installProvisioning s.fuses b).1 = .done stOK [] → t.fuses.provisioned = true ∧ t.fuses.debugLock = true ∧ t.dev.mode = 1)) ∧
        (fieldAt b 8 4 = n → kind = 4 → ∃ t, exec (.installFirmware p) s = .next t ∧ t = (s.onDev (fun _ => Dev.answer (refOf p s.dev) (d'.installRevocation s.fuses b))).settle ∧
          (∀ r, r = fieldAt (imgBody b) 0 1 → (d'.installRevocation s.fuses b).1 = .done stOK [] → t.fuses = s.fuses.setRoot r { s.fuses.root r with revoked := true })))))

/-- For each of the 71 packet commands that packetOf names (every opcode but INSTALL_FIRMWARE and CLEAR_TALLY): without the host endpoint nothing happens. A parameter length out of the opcode's range completes BAD_LENGTH; else reserved, inconsistent or unallowed flags complete BAD_PARAMETER; else failed authentication completes NOT_AUTHENTICATED; else the mode check's status completes it. A packet that passes and is not scheduled runs at once and its reply is given. A scheduled one of an opcode without a time of its own is held while its time is not earlier than 1 us from now and there is room, completes NO_RESOURCE without room, MISSED when it is late beyond its tolerance, and runs at once with a reply marked late when it is within it. Nothing else happens in the failed cases. -/
def Obligations.PacketsAreCheckedInOrder : Prop :=
  ∀ (c : Instr) (s : State) (op : Opcode) (p : Packet), packetOf c s = some (op, p) →
    (s.dev.ready = false → exec c s = .next s) ∧
    (∀ d0, s.dev.ready = true → d0 = s.dev.owe p.sq.val →
      (p.len.toNat < op.lMin ∨ op.lMax < p.len.toNat → exec c s = .next (s.onDev (fun _ => d0.complete (refOf p s.dev) stBAD_LENGTH d0.now []))) ∧
      (op.lMin ≤ p.len.toNat → p.len.toNat ≤ op.lMax →
        (16 ≤ p.flags.toNat ∨ hasFlag p 0 ≠ (decide (0 < p.len.toNat) || hasFlag p 1) ∨ (hasFlag p 2 = true ∧ op.sched = false) →
          exec c s = .next (s.onDev (fun _ => d0.complete (refOf p s.dev) stBAD_PARAMETER d0.now []))) ∧
        (p.flags.toNat < 16 → hasFlag p 0 = (decide (0 < p.len.toNat) || hasFlag p 1) → (hasFlag p 2 = true → op.sched = true) →
          (∀ d1, d0.authenticate op p = (none, d1) → exec c s = .next (s.onDev (fun _ => d1.complete (refOf p s.dev) stNOT_AUTHENTICATED d1.now []))) ∧
          (∀ p' d1, d0.authenticate op p = (some p', d1) →
            (op.modes p' d1 ≠ 0 → exec c s = .next (s.onDev (fun _ => d1.complete (refOf p s.dev) (op.modes p' d1) d1.now []))) ∧
            (op.modes p' d1 = 0 → hasFlag p' 2 = false ∨ op.ownTime = true → exec c s =
              .next (s.onDev (fun _ => Dev.answer (refOf p s.dev) (op.run p' (refOf p s.dev) d1)))) ∧
            (op.modes p' d1 = 0 → hasFlag p' 2 = true → op.ownTime = false →
              (d1.now + ns 1000 ≤ p'.execAt.toNat → d1.hif.held.length < 256 → exec c s = .next (s.onDev (fun _ =>
                Dev.showHeld { d1 with hif := { d1.hif with held := d1.hif.held ++ [⟨op.code, p', refOf p s.dev⟩] } }))) ∧
              (d1.now + ns 1000 ≤ p'.execAt.toNat → 256 ≤ d1.hif.held.length → exec c s =
                .next (s.onDev (fun _ => d1.complete (refOf p s.dev) stNO_RESOURCE d1.now []))) ∧
              (p'.execAt.toNat < d1.now + ns 1000 → p'.tol.toNat = 0xFFFFFFFE ∨ (p'.tol.toNat < 0xFFFFFFFE ∧ p'.execAt.toNat + ns p'.tol.toNat < d1.now + ns 1000) → exec c s =
                .next (s.onDev (fun _ => d1.complete (refOf p s.dev) stMISSED d1.now []))) ∧
              (∀ r : PktRef, p'.execAt.toNat < d1.now + ns 1000 → p'.tol.toNat = 0xFFFFFFFF ∨ (p'.tol.toNat < 0xFFFFFFFE ∧ d1.now + ns 1000 ≤ p'.execAt.toNat + ns p'.tol.toNat) →
                r = { refOf p s.dev with late := true } → exec c s = .next (s.onDev (fun _ => Dev.answer r (op.run p' r d1)))))))))

/-- GET_INFO, GET_MODE, READ_TALLY, GET_SEGMENT_STATUS, READ_AXIS_STATE, GET_TIME, READ_LEDGER, GET_SAFETY_STATUS, READ_SAFETY_LOG, GET_CAN_STATUS, PAIR_STATUS, GET_CERTIFICATE and ATTEST, accepted or not, answer a next state in which fuses, backup domain, live and latched registers, line time, ports, cycle, engine, axes, traces, local feedback, capture, DRAM, store, safety, CAN, scheduler, pair and ledger are unchanged, and, when not authenticated, every register outside the HIF and SEC windows. So do the doorbells, ring enables and disables and PCIe failures (all registers outside HIF). -/
def Obligations.QueriesAndRingsLeaveTheMachine : Prop :=
  (∀ (c : Instr) (s : State) (op : Opcode) (p : Packet), packetOf c s = some (op, p) → op.code ∈ queryCodes → ∃ t, exec c s = .next t ∧
    t.fuses = s.fuses ∧ t.backup = s.backup ∧ t.pending = s.pending ∧ s.dev.keeps t.dev ∧
    (hasFlag p 1 = false → ∀ a, a < 0x10000 ∨ 0x30000 ≤ a → t.dev.rd a = s.dev.rd a)) ∧
  (∀ (s : State) (q : Fin 64) (v : BitVec 16) (k : Fin 3) (w : Word) (c : Instr),
    c = .sqDoorbell q v ∨ c = .cqDoorbell q v ∨ c = .evtDoorbell v ∨ c = .ringEnable k q w ∨ c = .ringDisable k q w ∨ c = .pcieDmaError k q → ∃ t, exec c s = .next t ∧
      t.fuses = s.fuses ∧ t.backup = s.backup ∧ t.pending = s.pending ∧ s.dev.keeps t.dev ∧ t.dev.sec = s.dev.sec ∧
      ∀ a, a < 0x10000 ∨ 0x20000 ≤ a → t.dev.rd a = s.dev.rd a)

/-- Of all commands only these may leave another backup domain (reset cause, tally counters, real-time clock): loss and return of supplies, RESET_N, the watchdog, a security violation, a PCIe hot reset, a debug reset, a PLL unlock, the release from reset, loss of the 32 kHz clock and a whole second of line time, and the commands at whose end a due reset or a tally clear is taken: INSTALL_FIRMWARE, CLEAR_TALLY, a fetched, job's or held packet, a cycle boundary and a ms log close. Every other command leaves it as it was. -/
def Obligations.BackupDomainChangesOnlyByItsCommands : Prop :=
  ∀ (c : Instr) (s t : State), backupCommand c = false → exec c s = .next t → t.backup = s.backup
end

