-- ==== Sys2Proof/Laws/Sparse.lean ====
section
/-! SUPPORT. Sys2Proof/Laws/Sparse.lean: read after write in a sparse map, and its canonical form under writes. -/
namespace Sys2Proof.Machine
variable {α : Type}

@[simp] theorem smGet_smPut_same (d : Nat → α) (m : SMap α) (k : Nat) (v : α) : smGet d (smPut m k v) k = v := by
  induction m with
  | nil => simp [smPut, smGet]
  | cons p m ih =>
    obtain ⟨k', v'⟩ := p
    simp only [smPut]
    split
    · simp [smGet]
    · split
      · simp [smGet]
      · rename_i h _; simp [smGet, h, ih]

theorem smGet_smPut_other (d : Nat → α) (m : SMap α) (k j : Nat) (v : α) (h : j ≠ k) :
    smGet d (smPut m k v) j = smGet d m j := by
  induction m with
  | nil => simp [smPut, smGet, Ne.symm h]
  | cons p m ih =>
    obtain ⟨k', v'⟩ := p
    simp only [smPut]
    split
    · rename_i e; subst e; simp [smGet, Ne.symm h]
    · split
      · simp [smGet, Ne.symm h]
      · simp only [smGet, ih]

theorem smGet_smDel_same (d : Nat → α) (m : SMap α) (k : Nat) : smGet d (smDel m k) k = d k := by
  induction m with
  | nil => rfl
  | cons p m ih =>
    obtain ⟨k', v'⟩ := p
    by_cases h : k' = k
    · subst h; simpa [smDel, List.filter] using ih
    · have : smDel ((k', v') :: m) k = (k', v') :: smDel m k := by simp [smDel, h]
      rw [this]; simp [smGet, h, ih]

theorem smGet_smDel_other (d : Nat → α) (m : SMap α) (k j : Nat) (h : j ≠ k) : smGet d (smDel m k) j = smGet d m j := by
  induction m with
  | nil => rfl
  | cons p m ih =>
    obtain ⟨k', v'⟩ := p
    by_cases e : k' = k
    · subst e
      have : smDel ((k', v') :: m) k' = smDel m k' := by simp [smDel]
      rw [this, ih]; simp [smGet, Ne.symm h]
    · have : smDel ((k', v') :: m) k = (k', v') :: smDel m k := by simp [smDel, e]
      rw [this]; simp [smGet, ih]

/-- A key written reads as what was written. -/
@[simp] theorem smGet_smSet_same [DecidableEq α] (d : Nat → α) (m : SMap α) (k : Nat) (v : α) :
    smGet d (smSet d m k v) k = v := by
  unfold smSet; split
  · rename_i h; rw [smGet_smDel_same, h]
  · simp

/-- Every other key reads as before. -/
theorem smGet_smSet_other [DecidableEq α] (d : Nat → α) (m : SMap α) (k j : Nat) (v : α) (h : j ≠ k) :
    smGet d (smSet d m k v) j = smGet d m j := by
  unfold smSet; split
  · exact smGet_smDel_other d m k j h
  · exact smGet_smPut_other d m k j v h

/-- Read after write, both cases. -/
theorem smGet_smSet [DecidableEq α] (d : Nat → α) (m : SMap α) (k j : Nat) (v : α) :
    smGet d (smSet d m k v) j = if j = k then v else smGet d m j := by
  by_cases h : j = k
  · subst h; simp
  · simp [h, smGet_smSet_other]

/-- The canonical form, said with a lower bound for the keys. -/
def smFrom [DecidableEq α] (d : Nat → α) (b : Nat) (m : SMap α) : Prop :=
  (∀ p ∈ m, b ≤ p.1) ∧ smWf d m = true

theorem smWf_tail [DecidableEq α] (d : Nat → α) (p : Nat × α) (m : SMap α) (h : smWf d (p :: m) = true) : smWf d m = true := by
  obtain ⟨k, v⟩ := p
  cases m with
  | nil => rfl
  | cons q m =>
    obtain ⟨k', v'⟩ := q
    simp only [smWf, Bool.and_eq_true] at h
    exact h.2

theorem smWf_head [DecidableEq α] (d : Nat → α) (k : Nat) (v : α) (m : SMap α) (h : smWf d ((k, v) :: m) = true) : v ≠ d k := by
  cases m with
  | nil => simpa [smWf] using h
  | cons q m =>
    obtain ⟨k', v'⟩ := q
    simp only [smWf, Bool.and_eq_true, bne_iff_ne] at h
    exact h.1.1

theorem smWf_keys [DecidableEq α] (d : Nat → α) (k : Nat) (v : α) (m : SMap α) (h : smWf d ((k, v) :: m) = true) :
    ∀ p ∈ m, k < p.1 := by
  induction m generalizing k v with
  | nil => simp
  | cons q m ih =>
    obtain ⟨k', v'⟩ := q
    simp only [smWf, Bool.and_eq_true, decide_eq_true_eq] at h
    intro p hp
    rcases List.mem_cons.mp hp with rfl | hp
    · exact h.1.2
    · exact Nat.lt_trans h.1.2 (ih k' v' h.2 p hp)

theorem smWf_cons [DecidableEq α] (d : Nat → α) (k : Nat) (v : α) (m : SMap α) (hv : v ≠ d k) (hk : ∀ p ∈ m, k < p.1)
    (hm : smWf d m = true) : smWf d ((k, v) :: m) = true := by
  cases m with
  | nil => simpa [smWf] using hv
  | cons q m =>
    obtain ⟨k', v'⟩ := q
    simp only [smWf, Bool.and_eq_true, bne_iff_ne, decide_eq_true_eq]
    exact ⟨⟨hv, hk (k', v') (by simp)⟩, hm⟩

theorem smPut_keys (m : SMap α) (k b : Nat) (v : α) (hb : b < k) (h : ∀ p ∈ m, b < p.1) : ∀ p ∈ smPut m k v, b < p.1 := by
  induction m with
  | nil => simpa [smPut] using hb
  | cons q m ih =>
    obtain ⟨k', v'⟩ := q
    simp only [smPut]
    have h' : ∀ p ∈ m, b < p.1 := fun p hp => h p (by simp [hp])
    have hk' : b < k' := h (k', v') (by simp)
    split
    · intro p hp; rcases List.mem_cons.mp hp with rfl | hp
      · exact hb
      · exact h' p hp
    · split
      · intro p hp; rcases List.mem_cons.mp hp with rfl | hp
        · exact hb
        · exact h p hp
      · intro p hp; rcases List.mem_cons.mp hp with rfl | hp
        · exact hk'
        · exact ih h' p hp

theorem smWf_smPut [DecidableEq α] (d : Nat → α) (m : SMap α) (k : Nat) (v : α) (hv : v ≠ d k) (h : smWf d m = true) :
    smWf d (smPut m k v) = true := by
  induction m with
  | nil => simpa [smPut, smWf] using hv
  | cons q m ih =>
    obtain ⟨k', v'⟩ := q
    have hk := smWf_keys d k' v' m h
    have hh := smWf_head d k' v' m h
    have ht := smWf_tail d (k', v') m h
    simp only [smPut]
    split
    · rename_i e; subst e; exact smWf_cons d _ v m hv hk ht
    · split
      · rename_i e l
        refine smWf_cons d k v _ hv ?_ h
        intro p hp; rcases List.mem_cons.mp hp with rfl | hp
        · exact l
        · exact Nat.lt_trans l (hk p hp)
      · rename_i e l
        exact smWf_cons d k' v' _ hh (smPut_keys m k k' v (by omega) hk) (ih ht)

theorem smWf_smDel [DecidableEq α] (d : Nat → α) (m : SMap α) (k : Nat) (h : smWf d m = true) : smWf d (smDel m k) = true := by
  induction m with
  | nil => rfl
  | cons q m ih =>
    obtain ⟨k', v'⟩ := q
    have hk := smWf_keys d k' v' m h
    have hh := smWf_head d k' v' m h
    have ht := smWf_tail d (k', v') m h
    by_cases e : k' = k
    · subst e
      have : smDel ((k', v') :: m) k' = smDel m k' := by simp [smDel]
      rw [this]; exact ih ht
    · have : smDel ((k', v') :: m) k = (k', v') :: smDel m k := by simp [smDel, e]
      rw [this]
      refine smWf_cons d k' v' _ hh ?_ (ih ht)
      intro p hp
      exact hk p (List.mem_filter.mp hp).1

/-- Every write keeps the canonical form. -/
@[simp] theorem smWf_smSet [DecidableEq α] (d : Nat → α) (m : SMap α) (k : Nat) (v : α) (h : smWf d m = true) :
    smWf d (smSet d m k v) = true := by
  unfold smSet; split
  · exact smWf_smDel d m k h
  · rename_i e; exact smWf_smPut d m k v e h

end Sys2Proof.Machine
end

