-- ==== Sys2Proof/Laws/State.lean ====
section
/-! SUPPORT. Sys2Proof/Laws/State.lean: what each plain update of the state leaves unchanged, one lemma per field. -/
namespace Sys2Proof.Machine

/-! A register write. -/
@[simp] theorem Dev.wr_live (a v : Nat) (d : Dev) : (Dev.wr a v d).live = d.live := rfl
@[simp] theorem Dev.wr_latch (a v : Nat) (d : Dev) : (Dev.wr a v d).latch = d.latch := rfl
@[simp] theorem Dev.wr_free (a v : Nat) (d : Dev) : (Dev.wr a v d).free = d.free := rfl
@[simp] theorem Dev.wr_sys (a v : Nat) (d : Dev) : (Dev.wr a v d).sys = d.sys := rfl
@[simp] theorem Dev.wr_hif (a v : Nat) (d : Dev) : (Dev.wr a v d).hif = d.hif := rfl
@[simp] theorem Dev.wr_sec (a v : Nat) (d : Dev) : (Dev.wr a v d).sec = d.sec := rfl
@[simp] theorem Dev.wr_ltm (a v : Nat) (d : Dev) : (Dev.wr a v d).ltm = d.ltm := rfl
@[simp] theorem Dev.wr_evo (a v : Nat) (d : Dev) : (Dev.wr a v d).evo = d.evo := rfl
@[simp] theorem Dev.wr_ports (a v : Nat) (d : Dev) : (Dev.wr a v d).ports = d.ports := rfl
@[simp] theorem Dev.wr_cyc (a v : Nat) (d : Dev) : (Dev.wr a v d).cyc = d.cyc := rfl
@[simp] theorem Dev.wr_eng (a v : Nat) (d : Dev) : (Dev.wr a v d).eng = d.eng := rfl
@[simp] theorem Dev.wr_axes (a v : Nat) (d : Dev) : (Dev.wr a v d).axes = d.axes := rfl
@[simp] theorem Dev.wr_trc (a v : Nat) (d : Dev) : (Dev.wr a v d).trc = d.trc := rfl
@[simp] theorem Dev.wr_fb (a v : Nat) (d : Dev) : (Dev.wr a v d).fb = d.fb := rfl
@[simp] theorem Dev.wr_adc (a v : Nat) (d : Dev) : (Dev.wr a v d).adc = d.adc := rfl
@[simp] theorem Dev.wr_acq (a v : Nat) (d : Dev) : (Dev.wr a v d).acq = d.acq := rfl
@[simp] theorem Dev.wr_dram (a v : Nat) (d : Dev) : (Dev.wr a v d).dram = d.dram := rfl
@[simp] theorem Dev.wr_sto (a v : Nat) (d : Dev) : (Dev.wr a v d).sto = d.sto := rfl
@[simp] theorem Dev.wr_saf (a v : Nat) (d : Dev) : (Dev.wr a v d).saf = d.saf := rfl
@[simp] theorem Dev.wr_can (a v : Nat) (d : Dev) : (Dev.wr a v d).can = d.can := rfl
@[simp] theorem Dev.wr_sch (a v : Nat) (d : Dev) : (Dev.wr a v d).sch = d.sch := rfl
@[simp] theorem Dev.wr_mir (a v : Nat) (d : Dev) : (Dev.wr a v d).mir = d.mir := rfl
@[simp] theorem Dev.wr_ledger (a v : Nat) (d : Dev) : (Dev.wr a v d).ledger = d.ledger := rfl
@[simp] theorem Dev.wr_out (a v : Nat) (d : Dev) : (Dev.wr a v d).out = d.out := rfl

/-! A field write. -/
@[simp] theorem Dev.set_live (f : Fld) (v : Nat) (d : Dev) : (Dev.set f v d).live = d.live := rfl
@[simp] theorem Dev.set_latch (f : Fld) (v : Nat) (d : Dev) : (Dev.set f v d).latch = d.latch := rfl
@[simp] theorem Dev.set_free (f : Fld) (v : Nat) (d : Dev) : (Dev.set f v d).free = d.free := rfl
@[simp] theorem Dev.set_sys (f : Fld) (v : Nat) (d : Dev) : (Dev.set f v d).sys = d.sys := rfl
@[simp] theorem Dev.set_hif (f : Fld) (v : Nat) (d : Dev) : (Dev.set f v d).hif = d.hif := rfl
@[simp] theorem Dev.set_sec (f : Fld) (v : Nat) (d : Dev) : (Dev.set f v d).sec = d.sec := rfl
@[simp] theorem Dev.set_ltm (f : Fld) (v : Nat) (d : Dev) : (Dev.set f v d).ltm = d.ltm := rfl
@[simp] theorem Dev.set_evo (f : Fld) (v : Nat) (d : Dev) : (Dev.set f v d).evo = d.evo := rfl
@[simp] theorem Dev.set_ports (f : Fld) (v : Nat) (d : Dev) : (Dev.set f v d).ports = d.ports := rfl
@[simp] theorem Dev.set_cyc (f : Fld) (v : Nat) (d : Dev) : (Dev.set f v d).cyc = d.cyc := rfl
@[simp] theorem Dev.set_eng (f : Fld) (v : Nat) (d : Dev) : (Dev.set f v d).eng = d.eng := rfl
@[simp] theorem Dev.set_axes (f : Fld) (v : Nat) (d : Dev) : (Dev.set f v d).axes = d.axes := rfl
@[simp] theorem Dev.set_trc (f : Fld) (v : Nat) (d : Dev) : (Dev.set f v d).trc = d.trc := rfl
@[simp] theorem Dev.set_fb (f : Fld) (v : Nat) (d : Dev) : (Dev.set f v d).fb = d.fb := rfl
@[simp] theorem Dev.set_adc (f : Fld) (v : Nat) (d : Dev) : (Dev.set f v d).adc = d.adc := rfl
@[simp] theorem Dev.set_acq (f : Fld) (v : Nat) (d : Dev) : (Dev.set f v d).acq = d.acq := rfl
@[simp] theorem Dev.set_dram (f : Fld) (v : Nat) (d : Dev) : (Dev.set f v d).dram = d.dram := rfl
@[simp] theorem Dev.set_sto (f : Fld) (v : Nat) (d : Dev) : (Dev.set f v d).sto = d.sto := rfl
@[simp] theorem Dev.set_saf (f : Fld) (v : Nat) (d : Dev) : (Dev.set f v d).saf = d.saf := rfl
@[simp] theorem Dev.set_can (f : Fld) (v : Nat) (d : Dev) : (Dev.set f v d).can = d.can := rfl
@[simp] theorem Dev.set_sch (f : Fld) (v : Nat) (d : Dev) : (Dev.set f v d).sch = d.sch := rfl
@[simp] theorem Dev.set_mir (f : Fld) (v : Nat) (d : Dev) : (Dev.set f v d).mir = d.mir := rfl
@[simp] theorem Dev.set_ledger (f : Fld) (v : Nat) (d : Dev) : (Dev.set f v d).ledger = d.ledger := rfl
@[simp] theorem Dev.set_out (f : Fld) (v : Nat) (d : Dev) : (Dev.set f v d).out = d.out := rfl

/-! A saturating field count. -/
@[simp] theorem Dev.count_live (f : Fld) (v : Nat) (d : Dev) : (Dev.count f v d).live = d.live := rfl
@[simp] theorem Dev.count_latch (f : Fld) (v : Nat) (d : Dev) : (Dev.count f v d).latch = d.latch := rfl
@[simp] theorem Dev.count_free (f : Fld) (v : Nat) (d : Dev) : (Dev.count f v d).free = d.free := rfl
@[simp] theorem Dev.count_sys (f : Fld) (v : Nat) (d : Dev) : (Dev.count f v d).sys = d.sys := rfl
@[simp] theorem Dev.count_hif (f : Fld) (v : Nat) (d : Dev) : (Dev.count f v d).hif = d.hif := rfl
@[simp] theorem Dev.count_sec (f : Fld) (v : Nat) (d : Dev) : (Dev.count f v d).sec = d.sec := rfl
@[simp] theorem Dev.count_ltm (f : Fld) (v : Nat) (d : Dev) : (Dev.count f v d).ltm = d.ltm := rfl
@[simp] theorem Dev.count_evo (f : Fld) (v : Nat) (d : Dev) : (Dev.count f v d).evo = d.evo := rfl
@[simp] theorem Dev.count_ports (f : Fld) (v : Nat) (d : Dev) : (Dev.count f v d).ports = d.ports := rfl
@[simp] theorem Dev.count_cyc (f : Fld) (v : Nat) (d : Dev) : (Dev.count f v d).cyc = d.cyc := rfl
@[simp] theorem Dev.count_eng (f : Fld) (v : Nat) (d : Dev) : (Dev.count f v d).eng = d.eng := rfl
@[simp] theorem Dev.count_axes (f : Fld) (v : Nat) (d : Dev) : (Dev.count f v d).axes = d.axes := rfl
@[simp] theorem Dev.count_trc (f : Fld) (v : Nat) (d : Dev) : (Dev.count f v d).trc = d.trc := rfl
@[simp] theorem Dev.count_fb (f : Fld) (v : Nat) (d : Dev) : (Dev.count f v d).fb = d.fb := rfl
@[simp] theorem Dev.count_adc (f : Fld) (v : Nat) (d : Dev) : (Dev.count f v d).adc = d.adc := rfl
@[simp] theorem Dev.count_acq (f : Fld) (v : Nat) (d : Dev) : (Dev.count f v d).acq = d.acq := rfl
@[simp] theorem Dev.count_dram (f : Fld) (v : Nat) (d : Dev) : (Dev.count f v d).dram = d.dram := rfl
@[simp] theorem Dev.count_sto (f : Fld) (v : Nat) (d : Dev) : (Dev.count f v d).sto = d.sto := rfl
@[simp] theorem Dev.count_saf (f : Fld) (v : Nat) (d : Dev) : (Dev.count f v d).saf = d.saf := rfl
@[simp] theorem Dev.count_can (f : Fld) (v : Nat) (d : Dev) : (Dev.count f v d).can = d.can := rfl
@[simp] theorem Dev.count_sch (f : Fld) (v : Nat) (d : Dev) : (Dev.count f v d).sch = d.sch := rfl
@[simp] theorem Dev.count_mir (f : Fld) (v : Nat) (d : Dev) : (Dev.count f v d).mir = d.mir := rfl
@[simp] theorem Dev.count_ledger (f : Fld) (v : Nat) (d : Dev) : (Dev.count f v d).ledger = d.ledger := rfl
@[simp] theorem Dev.count_out (f : Fld) (v : Nat) (d : Dev) : (Dev.count f v d).out = d.out := rfl

/-! A saturating register count. -/
@[simp] theorem Dev.count32_live (a v : Nat) (d : Dev) : (Dev.count32 a v d).live = d.live := rfl
@[simp] theorem Dev.count32_latch (a v : Nat) (d : Dev) : (Dev.count32 a v d).latch = d.latch := rfl
@[simp] theorem Dev.count32_free (a v : Nat) (d : Dev) : (Dev.count32 a v d).free = d.free := rfl
@[simp] theorem Dev.count32_sys (a v : Nat) (d : Dev) : (Dev.count32 a v d).sys = d.sys := rfl
@[simp] theorem Dev.count32_hif (a v : Nat) (d : Dev) : (Dev.count32 a v d).hif = d.hif := rfl
@[simp] theorem Dev.count32_sec (a v : Nat) (d : Dev) : (Dev.count32 a v d).sec = d.sec := rfl
@[simp] theorem Dev.count32_ltm (a v : Nat) (d : Dev) : (Dev.count32 a v d).ltm = d.ltm := rfl
@[simp] theorem Dev.count32_evo (a v : Nat) (d : Dev) : (Dev.count32 a v d).evo = d.evo := rfl
@[simp] theorem Dev.count32_ports (a v : Nat) (d : Dev) : (Dev.count32 a v d).ports = d.ports := rfl
@[simp] theorem Dev.count32_cyc (a v : Nat) (d : Dev) : (Dev.count32 a v d).cyc = d.cyc := rfl
@[simp] theorem Dev.count32_eng (a v : Nat) (d : Dev) : (Dev.count32 a v d).eng = d.eng := rfl
@[simp] theorem Dev.count32_axes (a v : Nat) (d : Dev) : (Dev.count32 a v d).axes = d.axes := rfl
@[simp] theorem Dev.count32_trc (a v : Nat) (d : Dev) : (Dev.count32 a v d).trc = d.trc := rfl
@[simp] theorem Dev.count32_fb (a v : Nat) (d : Dev) : (Dev.count32 a v d).fb = d.fb := rfl
@[simp] theorem Dev.count32_adc (a v : Nat) (d : Dev) : (Dev.count32 a v d).adc = d.adc := rfl
@[simp] theorem Dev.count32_acq (a v : Nat) (d : Dev) : (Dev.count32 a v d).acq = d.acq := rfl
@[simp] theorem Dev.count32_dram (a v : Nat) (d : Dev) : (Dev.count32 a v d).dram = d.dram := rfl
@[simp] theorem Dev.count32_sto (a v : Nat) (d : Dev) : (Dev.count32 a v d).sto = d.sto := rfl
@[simp] theorem Dev.count32_saf (a v : Nat) (d : Dev) : (Dev.count32 a v d).saf = d.saf := rfl
@[simp] theorem Dev.count32_can (a v : Nat) (d : Dev) : (Dev.count32 a v d).can = d.can := rfl
@[simp] theorem Dev.count32_sch (a v : Nat) (d : Dev) : (Dev.count32 a v d).sch = d.sch := rfl
@[simp] theorem Dev.count32_mir (a v : Nat) (d : Dev) : (Dev.count32 a v d).mir = d.mir := rfl
@[simp] theorem Dev.count32_ledger (a v : Nat) (d : Dev) : (Dev.count32 a v d).ledger = d.ledger := rfl
@[simp] theorem Dev.count32_out (a v : Nat) (d : Dev) : (Dev.count32 a v d).out = d.out := rfl

/-! A 64-bit register write. -/
@[simp] theorem Dev.wr64_live (a v : Nat) (d : Dev) : (Dev.wr64 a v d).live = d.live := rfl
@[simp] theorem Dev.wr64_latch (a v : Nat) (d : Dev) : (Dev.wr64 a v d).latch = d.latch := rfl
@[simp] theorem Dev.wr64_free (a v : Nat) (d : Dev) : (Dev.wr64 a v d).free = d.free := rfl
@[simp] theorem Dev.wr64_sys (a v : Nat) (d : Dev) : (Dev.wr64 a v d).sys = d.sys := rfl
@[simp] theorem Dev.wr64_hif (a v : Nat) (d : Dev) : (Dev.wr64 a v d).hif = d.hif := rfl
@[simp] theorem Dev.wr64_sec (a v : Nat) (d : Dev) : (Dev.wr64 a v d).sec = d.sec := rfl
@[simp] theorem Dev.wr64_ltm (a v : Nat) (d : Dev) : (Dev.wr64 a v d).ltm = d.ltm := rfl
@[simp] theorem Dev.wr64_evo (a v : Nat) (d : Dev) : (Dev.wr64 a v d).evo = d.evo := rfl
@[simp] theorem Dev.wr64_ports (a v : Nat) (d : Dev) : (Dev.wr64 a v d).ports = d.ports := rfl
@[simp] theorem Dev.wr64_cyc (a v : Nat) (d : Dev) : (Dev.wr64 a v d).cyc = d.cyc := rfl
@[simp] theorem Dev.wr64_eng (a v : Nat) (d : Dev) : (Dev.wr64 a v d).eng = d.eng := rfl
@[simp] theorem Dev.wr64_axes (a v : Nat) (d : Dev) : (Dev.wr64 a v d).axes = d.axes := rfl
@[simp] theorem Dev.wr64_trc (a v : Nat) (d : Dev) : (Dev.wr64 a v d).trc = d.trc := rfl
@[simp] theorem Dev.wr64_fb (a v : Nat) (d : Dev) : (Dev.wr64 a v d).fb = d.fb := rfl
@[simp] theorem Dev.wr64_adc (a v : Nat) (d : Dev) : (Dev.wr64 a v d).adc = d.adc := rfl
@[simp] theorem Dev.wr64_acq (a v : Nat) (d : Dev) : (Dev.wr64 a v d).acq = d.acq := rfl
@[simp] theorem Dev.wr64_dram (a v : Nat) (d : Dev) : (Dev.wr64 a v d).dram = d.dram := rfl
@[simp] theorem Dev.wr64_sto (a v : Nat) (d : Dev) : (Dev.wr64 a v d).sto = d.sto := rfl
@[simp] theorem Dev.wr64_saf (a v : Nat) (d : Dev) : (Dev.wr64 a v d).saf = d.saf := rfl
@[simp] theorem Dev.wr64_can (a v : Nat) (d : Dev) : (Dev.wr64 a v d).can = d.can := rfl
@[simp] theorem Dev.wr64_sch (a v : Nat) (d : Dev) : (Dev.wr64 a v d).sch = d.sch := rfl
@[simp] theorem Dev.wr64_mir (a v : Nat) (d : Dev) : (Dev.wr64 a v d).mir = d.mir := rfl
@[simp] theorem Dev.wr64_ledger (a v : Nat) (d : Dev) : (Dev.wr64 a v d).ledger = d.ledger := rfl
@[simp] theorem Dev.wr64_out (a v : Nat) (d : Dev) : (Dev.wr64 a v d).out = d.out := rfl

/-! An output. -/
@[simp] theorem Dev.emit_regs (o : Output) (d : Dev) : (Dev.emit o d).regs = d.regs := rfl
@[simp] theorem Dev.emit_live (o : Output) (d : Dev) : (Dev.emit o d).live = d.live := rfl
@[simp] theorem Dev.emit_latch (o : Output) (d : Dev) : (Dev.emit o d).latch = d.latch := rfl
@[simp] theorem Dev.emit_free (o : Output) (d : Dev) : (Dev.emit o d).free = d.free := rfl
@[simp] theorem Dev.emit_sys (o : Output) (d : Dev) : (Dev.emit o d).sys = d.sys := rfl
@[simp] theorem Dev.emit_hif (o : Output) (d : Dev) : (Dev.emit o d).hif = d.hif := rfl
@[simp] theorem Dev.emit_sec (o : Output) (d : Dev) : (Dev.emit o d).sec = d.sec := rfl
@[simp] theorem Dev.emit_ltm (o : Output) (d : Dev) : (Dev.emit o d).ltm = d.ltm := rfl
@[simp] theorem Dev.emit_evo (o : Output) (d : Dev) : (Dev.emit o d).evo = d.evo := rfl
@[simp] theorem Dev.emit_ports (o : Output) (d : Dev) : (Dev.emit o d).ports = d.ports := rfl
@[simp] theorem Dev.emit_cyc (o : Output) (d : Dev) : (Dev.emit o d).cyc = d.cyc := rfl
@[simp] theorem Dev.emit_eng (o : Output) (d : Dev) : (Dev.emit o d).eng = d.eng := rfl
@[simp] theorem Dev.emit_axes (o : Output) (d : Dev) : (Dev.emit o d).axes = d.axes := rfl
@[simp] theorem Dev.emit_trc (o : Output) (d : Dev) : (Dev.emit o d).trc = d.trc := rfl
@[simp] theorem Dev.emit_fb (o : Output) (d : Dev) : (Dev.emit o d).fb = d.fb := rfl
@[simp] theorem Dev.emit_adc (o : Output) (d : Dev) : (Dev.emit o d).adc = d.adc := rfl
@[simp] theorem Dev.emit_acq (o : Output) (d : Dev) : (Dev.emit o d).acq = d.acq := rfl
@[simp] theorem Dev.emit_dram (o : Output) (d : Dev) : (Dev.emit o d).dram = d.dram := rfl
@[simp] theorem Dev.emit_sto (o : Output) (d : Dev) : (Dev.emit o d).sto = d.sto := rfl
@[simp] theorem Dev.emit_saf (o : Output) (d : Dev) : (Dev.emit o d).saf = d.saf := rfl
@[simp] theorem Dev.emit_can (o : Output) (d : Dev) : (Dev.emit o d).can = d.can := rfl
@[simp] theorem Dev.emit_sch (o : Output) (d : Dev) : (Dev.emit o d).sch = d.sch := rfl
@[simp] theorem Dev.emit_mir (o : Output) (d : Dev) : (Dev.emit o d).mir = d.mir := rfl
@[simp] theorem Dev.emit_ledger (o : Output) (d : Dev) : (Dev.emit o d).ledger = d.ledger := rfl

/-! Line time moving on. -/
@[simp] theorem Dev.reach_regs (t : LTime) (d : Dev) : (Dev.reach t d).regs = d.regs := rfl
@[simp] theorem Dev.reach_live (t : LTime) (d : Dev) : (Dev.reach t d).live = d.live := rfl
@[simp] theorem Dev.reach_latch (t : LTime) (d : Dev) : (Dev.reach t d).latch = d.latch := rfl
@[simp] theorem Dev.reach_free (t : LTime) (d : Dev) : (Dev.reach t d).free = d.free := rfl
@[simp] theorem Dev.reach_sys (t : LTime) (d : Dev) : (Dev.reach t d).sys = d.sys := rfl
@[simp] theorem Dev.reach_hif (t : LTime) (d : Dev) : (Dev.reach t d).hif = d.hif := rfl
@[simp] theorem Dev.reach_sec (t : LTime) (d : Dev) : (Dev.reach t d).sec = d.sec := rfl
@[simp] theorem Dev.reach_evo (t : LTime) (d : Dev) : (Dev.reach t d).evo = d.evo := rfl
@[simp] theorem Dev.reach_ports (t : LTime) (d : Dev) : (Dev.reach t d).ports = d.ports := rfl
@[simp] theorem Dev.reach_cyc (t : LTime) (d : Dev) : (Dev.reach t d).cyc = d.cyc := rfl
@[simp] theorem Dev.reach_eng (t : LTime) (d : Dev) : (Dev.reach t d).eng = d.eng := rfl
@[simp] theorem Dev.reach_axes (t : LTime) (d : Dev) : (Dev.reach t d).axes = d.axes := rfl
@[simp] theorem Dev.reach_trc (t : LTime) (d : Dev) : (Dev.reach t d).trc = d.trc := rfl
@[simp] theorem Dev.reach_fb (t : LTime) (d : Dev) : (Dev.reach t d).fb = d.fb := rfl
@[simp] theorem Dev.reach_adc (t : LTime) (d : Dev) : (Dev.reach t d).adc = d.adc := rfl
@[simp] theorem Dev.reach_acq (t : LTime) (d : Dev) : (Dev.reach t d).acq = d.acq := rfl
@[simp] theorem Dev.reach_dram (t : LTime) (d : Dev) : (Dev.reach t d).dram = d.dram := rfl
@[simp] theorem Dev.reach_sto (t : LTime) (d : Dev) : (Dev.reach t d).sto = d.sto := rfl
@[simp] theorem Dev.reach_saf (t : LTime) (d : Dev) : (Dev.reach t d).saf = d.saf := rfl
@[simp] theorem Dev.reach_can (t : LTime) (d : Dev) : (Dev.reach t d).can = d.can := rfl
@[simp] theorem Dev.reach_sch (t : LTime) (d : Dev) : (Dev.reach t d).sch = d.sch := rfl
@[simp] theorem Dev.reach_mir (t : LTime) (d : Dev) : (Dev.reach t d).mir = d.mir := rfl
@[simp] theorem Dev.reach_ledger (t : LTime) (d : Dev) : (Dev.reach t d).ledger = d.ledger := rfl
@[simp] theorem Dev.reach_out (t : LTime) (d : Dev) : (Dev.reach t d).out = d.out := rfl

/-! A stamped event. -/
@[simp] theorem Dev.postAt_regs (t : LTime) (a b n : Nat) (x : List Byte) (d : Dev) : (Dev.postAt t a b n x d).regs = d.regs := rfl
@[simp] theorem Dev.postAt_live (t : LTime) (a b n : Nat) (x : List Byte) (d : Dev) : (Dev.postAt t a b n x d).live = d.live := rfl
@[simp] theorem Dev.postAt_latch (t : LTime) (a b n : Nat) (x : List Byte) (d : Dev) : (Dev.postAt t a b n x d).latch = d.latch := rfl
@[simp] theorem Dev.postAt_free (t : LTime) (a b n : Nat) (x : List Byte) (d : Dev) : (Dev.postAt t a b n x d).free = d.free := rfl
@[simp] theorem Dev.postAt_sys (t : LTime) (a b n : Nat) (x : List Byte) (d : Dev) : (Dev.postAt t a b n x d).sys = d.sys := rfl
@[simp] theorem Dev.postAt_sec (t : LTime) (a b n : Nat) (x : List Byte) (d : Dev) : (Dev.postAt t a b n x d).sec = d.sec := rfl
@[simp] theorem Dev.postAt_ltm (t : LTime) (a b n : Nat) (x : List Byte) (d : Dev) : (Dev.postAt t a b n x d).ltm = d.ltm := rfl
@[simp] theorem Dev.postAt_evo (t : LTime) (a b n : Nat) (x : List Byte) (d : Dev) : (Dev.postAt t a b n x d).evo = d.evo := rfl
@[simp] theorem Dev.postAt_ports (t : LTime) (a b n : Nat) (x : List Byte) (d : Dev) : (Dev.postAt t a b n x d).ports = d.ports := rfl
@[simp] theorem Dev.postAt_cyc (t : LTime) (a b n : Nat) (x : List Byte) (d : Dev) : (Dev.postAt t a b n x d).cyc = d.cyc := rfl
@[simp] theorem Dev.postAt_eng (t : LTime) (a b n : Nat) (x : List Byte) (d : Dev) : (Dev.postAt t a b n x d).eng = d.eng := rfl
@[simp] theorem Dev.postAt_axes (t : LTime) (a b n : Nat) (x : List Byte) (d : Dev) : (Dev.postAt t a b n x d).axes = d.axes := rfl
@[simp] theorem Dev.postAt_trc (t : LTime) (a b n : Nat) (x : List Byte) (d : Dev) : (Dev.postAt t a b n x d).trc = d.trc := rfl
@[simp] theorem Dev.postAt_fb (t : LTime) (a b n : Nat) (x : List Byte) (d : Dev) : (Dev.postAt t a b n x d).fb = d.fb := rfl
@[simp] theorem Dev.postAt_adc (t : LTime) (a b n : Nat) (x : List Byte) (d : Dev) : (Dev.postAt t a b n x d).adc = d.adc := rfl
@[simp] theorem Dev.postAt_acq (t : LTime) (a b n : Nat) (x : List Byte) (d : Dev) : (Dev.postAt t a b n x d).acq = d.acq := rfl
@[simp] theorem Dev.postAt_dram (t : LTime) (a b n : Nat) (x : List Byte) (d : Dev) : (Dev.postAt t a b n x d).dram = d.dram := rfl
@[simp] theorem Dev.postAt_sto (t : LTime) (a b n : Nat) (x : List Byte) (d : Dev) : (Dev.postAt t a b n x d).sto = d.sto := rfl
@[simp] theorem Dev.postAt_saf (t : LTime) (a b n : Nat) (x : List Byte) (d : Dev) : (Dev.postAt t a b n x d).saf = d.saf := rfl
@[simp] theorem Dev.postAt_can (t : LTime) (a b n : Nat) (x : List Byte) (d : Dev) : (Dev.postAt t a b n x d).can = d.can := rfl
@[simp] theorem Dev.postAt_sch (t : LTime) (a b n : Nat) (x : List Byte) (d : Dev) : (Dev.postAt t a b n x d).sch = d.sch := rfl
@[simp] theorem Dev.postAt_mir (t : LTime) (a b n : Nat) (x : List Byte) (d : Dev) : (Dev.postAt t a b n x d).mir = d.mir := rfl
@[simp] theorem Dev.postAt_ledger (t : LTime) (a b n : Nat) (x : List Byte) (d : Dev) : (Dev.postAt t a b n x d).ledger = d.ledger := rfl
@[simp] theorem Dev.postAt_out (t : LTime) (a b n : Nat) (x : List Byte) (d : Dev) : (Dev.postAt t a b n x d).out = d.out := rfl

/-! An event. -/
@[simp] theorem Dev.post_regs (a b : Nat) (x : List Byte) (d : Dev) : (Dev.post a b x d).regs = d.regs := rfl
@[simp] theorem Dev.post_live (a b : Nat) (x : List Byte) (d : Dev) : (Dev.post a b x d).live = d.live := rfl
@[simp] theorem Dev.post_latch (a b : Nat) (x : List Byte) (d : Dev) : (Dev.post a b x d).latch = d.latch := rfl
@[simp] theorem Dev.post_free (a b : Nat) (x : List Byte) (d : Dev) : (Dev.post a b x d).free = d.free := rfl
@[simp] theorem Dev.post_sys (a b : Nat) (x : List Byte) (d : Dev) : (Dev.post a b x d).sys = d.sys := rfl
@[simp] theorem Dev.post_sec (a b : Nat) (x : List Byte) (d : Dev) : (Dev.post a b x d).sec = d.sec := rfl
@[simp] theorem Dev.post_ltm (a b : Nat) (x : List Byte) (d : Dev) : (Dev.post a b x d).ltm = d.ltm := rfl
@[simp] theorem Dev.post_evo (a b : Nat) (x : List Byte) (d : Dev) : (Dev.post a b x d).evo = d.evo := rfl
@[simp] theorem Dev.post_ports (a b : Nat) (x : List Byte) (d : Dev) : (Dev.post a b x d).ports = d.ports := rfl
@[simp] theorem Dev.post_cyc (a b : Nat) (x : List Byte) (d : Dev) : (Dev.post a b x d).cyc = d.cyc := rfl
@[simp] theorem Dev.post_eng (a b : Nat) (x : List Byte) (d : Dev) : (Dev.post a b x d).eng = d.eng := rfl
@[simp] theorem Dev.post_axes (a b : Nat) (x : List Byte) (d : Dev) : (Dev.post a b x d).axes = d.axes := rfl
@[simp] theorem Dev.post_trc (a b : Nat) (x : List Byte) (d : Dev) : (Dev.post a b x d).trc = d.trc := rfl
@[simp] theorem Dev.post_fb (a b : Nat) (x : List Byte) (d : Dev) : (Dev.post a b x d).fb = d.fb := rfl
@[simp] theorem Dev.post_adc (a b : Nat) (x : List Byte) (d : Dev) : (Dev.post a b x d).adc = d.adc := rfl
@[simp] theorem Dev.post_acq (a b : Nat) (x : List Byte) (d : Dev) : (Dev.post a b x d).acq = d.acq := rfl
@[simp] theorem Dev.post_dram (a b : Nat) (x : List Byte) (d : Dev) : (Dev.post a b x d).dram = d.dram := rfl
@[simp] theorem Dev.post_sto (a b : Nat) (x : List Byte) (d : Dev) : (Dev.post a b x d).sto = d.sto := rfl
@[simp] theorem Dev.post_saf (a b : Nat) (x : List Byte) (d : Dev) : (Dev.post a b x d).saf = d.saf := rfl
@[simp] theorem Dev.post_can (a b : Nat) (x : List Byte) (d : Dev) : (Dev.post a b x d).can = d.can := rfl
@[simp] theorem Dev.post_sch (a b : Nat) (x : List Byte) (d : Dev) : (Dev.post a b x d).sch = d.sch := rfl
@[simp] theorem Dev.post_mir (a b : Nat) (x : List Byte) (d : Dev) : (Dev.post a b x d).mir = d.mir := rfl
@[simp] theorem Dev.post_ledger (a b : Nat) (x : List Byte) (d : Dev) : (Dev.post a b x d).ledger = d.ledger := rfl
@[simp] theorem Dev.post_out (a b : Nat) (x : List Byte) (d : Dev) : (Dev.post a b x d).out = d.out := rfl

/-! A word going live. -/
@[simp] theorem Dev.goLive_regs (a : Nat) (w : Word) (d : Dev) : (Dev.goLive a w d).regs = d.regs := rfl
@[simp] theorem Dev.goLive_latch (a : Nat) (w : Word) (d : Dev) : (Dev.goLive a w d).latch = d.latch := rfl
@[simp] theorem Dev.goLive_free (a : Nat) (w : Word) (d : Dev) : (Dev.goLive a w d).free = d.free := rfl
@[simp] theorem Dev.goLive_sys (a : Nat) (w : Word) (d : Dev) : (Dev.goLive a w d).sys = d.sys := rfl
@[simp] theorem Dev.goLive_hif (a : Nat) (w : Word) (d : Dev) : (Dev.goLive a w d).hif = d.hif := rfl
@[simp] theorem Dev.goLive_sec (a : Nat) (w : Word) (d : Dev) : (Dev.goLive a w d).sec = d.sec := rfl
@[simp] theorem Dev.goLive_ltm (a : Nat) (w : Word) (d : Dev) : (Dev.goLive a w d).ltm = d.ltm := rfl
@[simp] theorem Dev.goLive_evo (a : Nat) (w : Word) (d : Dev) : (Dev.goLive a w d).evo = d.evo := rfl
@[simp] theorem Dev.goLive_ports (a : Nat) (w : Word) (d : Dev) : (Dev.goLive a w d).ports = d.ports := rfl
@[simp] theorem Dev.goLive_cyc (a : Nat) (w : Word) (d : Dev) : (Dev.goLive a w d).cyc = d.cyc := rfl
@[simp] theorem Dev.goLive_eng (a : Nat) (w : Word) (d : Dev) : (Dev.goLive a w d).eng = d.eng := rfl
@[simp] theorem Dev.goLive_axes (a : Nat) (w : Word) (d : Dev) : (Dev.goLive a w d).axes = d.axes := rfl
@[simp] theorem Dev.goLive_trc (a : Nat) (w : Word) (d : Dev) : (Dev.goLive a w d).trc = d.trc := rfl
@[simp] theorem Dev.goLive_fb (a : Nat) (w : Word) (d : Dev) : (Dev.goLive a w d).fb = d.fb := rfl
@[simp] theorem Dev.goLive_adc (a : Nat) (w : Word) (d : Dev) : (Dev.goLive a w d).adc = d.adc := rfl
@[simp] theorem Dev.goLive_acq (a : Nat) (w : Word) (d : Dev) : (Dev.goLive a w d).acq = d.acq := rfl
@[simp] theorem Dev.goLive_dram (a : Nat) (w : Word) (d : Dev) : (Dev.goLive a w d).dram = d.dram := rfl
@[simp] theorem Dev.goLive_sto (a : Nat) (w : Word) (d : Dev) : (Dev.goLive a w d).sto = d.sto := rfl
@[simp] theorem Dev.goLive_saf (a : Nat) (w : Word) (d : Dev) : (Dev.goLive a w d).saf = d.saf := rfl
@[simp] theorem Dev.goLive_can (a : Nat) (w : Word) (d : Dev) : (Dev.goLive a w d).can = d.can := rfl
@[simp] theorem Dev.goLive_sch (a : Nat) (w : Word) (d : Dev) : (Dev.goLive a w d).sch = d.sch := rfl
@[simp] theorem Dev.goLive_mir (a : Nat) (w : Word) (d : Dev) : (Dev.goLive a w d).mir = d.mir := rfl
@[simp] theorem Dev.goLive_ledger (a : Nat) (w : Word) (d : Dev) : (Dev.goLive a w d).ledger = d.ledger := rfl
@[simp] theorem Dev.goLive_out (a : Nat) (w : Word) (d : Dev) : (Dev.goLive a w d).out = d.out := rfl

/-! What the changed field becomes. -/
@[simp] theorem Dev.wr_regs (a v : Nat) (d : Dev) : (Dev.wr a v d).regs = smSet resetOf d.regs a (BitVec.ofNat 32 v) := rfl
@[simp] theorem Dev.goLive_live (a : Nat) (w : Word) (d : Dev) : (Dev.goLive a w d).live = smSet resetOf d.live a w := rfl
@[simp] theorem Dev.emit_out (o : Output) (d : Dev) : (Dev.emit o d).out = d.out ++ [o] := rfl
@[simp] theorem Dev.reach_ltm (t : LTime) (d : Dev) : (Dev.reach t d).ltm = { d.ltm with now := max d.ltm.now t } := rfl
@[simp] theorem Dev.postAt_batch (t : LTime) (a b n : Nat) (x : List Byte) (d : Dev) :
    (Dev.postAt t a b n x d).hif.batch = collect ⟨t, d.sys.index, a, b, n, padTo 15 x⟩ d.hif.batch := rfl
@[simp] theorem Dev.post_batch (a b : Nat) (x : List Byte) (d : Dev) :
    (Dev.post a b x d).hif.batch = collect ⟨d.now, d.sys.index, a, b, 1, padTo 15 x⟩ d.hif.batch := rfl
/-- An event changes nothing of the host interface but the collection. -/
theorem Dev.post_hif (a b : Nat) (x : List Byte) (d : Dev) :
    (Dev.post a b x d).hif = { d.hif with batch := (Dev.post a b x d).hif.batch } := rfl

/-! An update of the device part. -/
@[simp] theorem State.onDev_dev (f : Dev → Dev) (s : State) : (s.onDev f).dev = f s.dev := rfl
@[simp] theorem State.onDev_fuses (f : Dev → Dev) (s : State) : (s.onDev f).fuses = s.fuses := rfl
@[simp] theorem State.onDev_backup (f : Dev → Dev) (s : State) : (s.onDev f).backup = s.backup := rfl
@[simp] theorem State.onDev_pending (f : Dev → Dev) (s : State) : (s.onDev f).pending = s.pending := rfl

@[simp] theorem Dev.when_true (f : Dev → Dev) (d : Dev) : Dev.when true f d = f d := rfl
@[simp] theorem Dev.when_false (f : Dev → Dev) (d : Dev) : Dev.when false f d = d := rfl

end Sys2Proof.Machine
end

