-- ==== Sys2Proof/Laws/Word.lean ====
section
/-! SUPPORT. Sys2Proof/Laws/Word.lean: bit fields and little-endian bytes read back what was put there. -/
namespace Sys2Proof

theorem bitsOf_lt (v hi lo : Nat) : bitsOf v hi lo < 2 ^ (hi + 1 - lo) := Nat.mod_lt _ (by positivity)

theorem testBit_bitsOf (v hi lo i : Nat) : (bitsOf v hi lo).testBit i = (decide (i < hi + 1 - lo) && v.testBit (lo + i)) := by
  simp [bitsOf, Nat.testBit_mod_two_pow, Nat.testBit_div_two_pow, Nat.add_comm]

/-- The three stretches of a word around a field. -/
theorem split_word (v hi lo : Nat) :
    v = v % 2 ^ lo + bitsOf v hi lo * 2 ^ lo + v / 2 ^ (lo + (hi + 1 - lo)) * 2 ^ (lo + (hi + 1 - lo)) := by
  have h1 := Nat.div_add_mod v (2 ^ lo)
  have h2 := Nat.div_add_mod (v / 2 ^ lo) (2 ^ (hi + 1 - lo))
  rw [Nat.div_div_eq_div_mul, ← pow_add] at h2
  unfold bitsOf
  conv_lhs => rw [← h1, ← h2]
  rw [pow_add]; ring

theorem withBits_eq (v hi lo x : Nat) :
    withBits v hi lo x = v % 2 ^ lo + x % 2 ^ (hi + 1 - lo) * 2 ^ lo + v / 2 ^ (lo + (hi + 1 - lo)) * 2 ^ (lo + (hi + 1 - lo)) := by
  have h := split_word v hi lo
  unfold withBits
  generalize bitsOf v hi lo * 2 ^ lo = b at *
  omega

/-- Bit `i` after a field was replaced. -/
theorem testBit_withBits (v hi lo x i : Nat) :
    (withBits v hi lo x).testBit i = if lo ≤ i ∧ i < lo + (hi + 1 - lo) then x.testBit (i - lo) else v.testBit i := by
  rw [withBits_eq]
  set w := hi + 1 - lo
  have hlt : v % 2 ^ lo + x % 2 ^ w * 2 ^ lo < 2 ^ (lo + w) := by
    have a : v % 2 ^ lo < 2 ^ lo := Nat.mod_lt _ (by positivity)
    have b : x % 2 ^ w < 2 ^ w := Nat.mod_lt _ (by positivity)
    rw [pow_add]
    calc v % 2 ^ lo + x % 2 ^ w * 2 ^ lo < 2 ^ lo + x % 2 ^ w * 2 ^ lo := by omega
      _ = (x % 2 ^ w + 1) * 2 ^ lo := by ring
      _ ≤ 2 ^ w * 2 ^ lo := Nat.mul_le_mul_right _ b
      _ = 2 ^ lo * 2 ^ w := by ring
  have e1 : v % 2 ^ lo + x % 2 ^ w * 2 ^ lo + v / 2 ^ (lo + w) * 2 ^ (lo + w) =
      2 ^ (lo + w) * (v / 2 ^ (lo + w)) + (2 ^ lo * (x % 2 ^ w) + v % 2 ^ lo) := by ring
  have hl : 2 ^ lo * (x % 2 ^ w) + v % 2 ^ lo < 2 ^ (lo + w) := by rw [Nat.add_comm, Nat.mul_comm]; exact hlt
  rw [e1, Nat.testBit_two_pow_mul_add _ hl, Nat.testBit_two_pow_mul_add _ (Nat.mod_lt _ (by positivity))]
  simp only [Nat.testBit_mod_two_pow, Nat.testBit_div_two_pow]
  by_cases c1 : i < lo
  · have : i < lo + w := by omega
    have n : ¬ (lo ≤ i ∧ i < lo + w) := by omega
    simp [c1, this]
  · by_cases c2 : i < lo + w
    · have : i - lo < w := by omega
      have y : lo ≤ i ∧ i < lo + w := by omega
      simp [c1, c2, this, y]
    · have n : ¬ (lo ≤ i ∧ i < lo + w) := by omega
      have e : i - (lo + w) + (lo + w) = i := by omega
      simp [c2, e]

/-- A field reads back what was put there, cut to its width. -/
theorem bitsOf_withBits (v hi lo x : Nat) : bitsOf (withBits v hi lo x) hi lo = x % 2 ^ (hi + 1 - lo) := by
  apply Nat.eq_of_testBit_eq; intro i
  rw [testBit_bitsOf, testBit_withBits, Nat.testBit_mod_two_pow]
  by_cases h : i < hi + 1 - lo
  · have : lo ≤ lo + i ∧ lo + i < lo + (hi + 1 - lo) := by omega
    simp [h]
  · simp [h]

/-- A field that lies apart from the one replaced reads as before. -/
theorem bitsOf_withBits_apart (v hi lo x h l : Nat) (ap : h < lo ∨ hi < l) : bitsOf (withBits v hi lo x) h l = bitsOf v h l := by
  apply Nat.eq_of_testBit_eq; intro i
  rw [testBit_bitsOf, testBit_bitsOf, testBit_withBits]
  by_cases c : i < h + 1 - l
  · have : ¬ (lo ≤ l + i ∧ l + i < lo + (hi + 1 - lo)) := by omega
    simp [c, this]
  · simp [c]

/-- A word of `n` bits stays one when a field inside it is replaced. -/
theorem withBits_lt (v hi lo x n : Nat) (hv : v < 2 ^ n) (hn : hi < n) : withBits v hi lo x < 2 ^ n := by
  apply Nat.lt_pow_two_of_testBit
  intro i hi'
  rw [testBit_withBits]
  have : ¬ (lo ≤ i ∧ i < lo + (hi + 1 - lo)) := by omega
  simp [this, Nat.testBit_lt_two_pow (Nat.lt_of_lt_of_le hv (Nat.pow_le_pow_right (by norm_num) hi'))]

@[simp] theorem leBytes_length (n v : Nat) : (leBytes n v).length = n := by
  induction n generalizing v with
  | zero => rfl
  | succ n ih => simp [leBytes, ih]

/-- Little-endian bytes give their number back, cut to their width (R7). -/
@[simp] theorem leNat_leBytes (n v : Nat) : leNat (leBytes n v) = v % 2 ^ (8 * n) := by
  induction n generalizing v with
  | zero => simp [leBytes, leNat, Nat.mod_one]
  | succ n ih =>
    simp only [leBytes, leNat, ih, BitVec.toNat_ofNat]
    have : 2 ^ (8 * (n + 1)) = 256 * 2 ^ (8 * n) := by rw [Nat.mul_add, pow_add]; norm_num [Nat.mul_comm]
    rw [this, Nat.mod_mul]

theorem leNat_lt (bs : List Byte) : leNat bs < 2 ^ (8 * bs.length) := by
  induction bs with
  | nil => simp [leNat]
  | cons b bs ih =>
    simp only [leNat, List.length_cons]
    have hb := b.isLt
    have : 2 ^ (8 * (bs.length + 1)) = 256 * 2 ^ (8 * bs.length) := by rw [Nat.mul_add, pow_add]; norm_num [Nat.mul_comm]
    omega

@[simp] theorem zeros_length (n : Nat) : (zeros n).length = n := by simp [zeros]

@[simp] theorem padTo_length (n : Nat) (bs : List Byte) : (padTo n bs).length = n := by
  simp [padTo, zeros]; omega

/-- A saturating count never passes its width. -/
theorem satAdd_le (w v n : Nat) : satAdd w v n ≤ 2 ^ w - 1 := Nat.min_le_right _ _

end Sys2Proof
end

