-- ==== Sys2Proof/Laws/Regs.lean ====
section
/-! SUPPORT. Sys2Proof/Laws/Regs.lean: reading registers and fields after they were written. -/
namespace Sys2Proof.Machine

theorem Dev.word_wr (a v b : Nat) (d : Dev) : (Dev.wr a v d).word b = if b = a then BitVec.ofNat 32 v else d.word b := by
  simp [Dev.word, smGet_smSet]

theorem Dev.rd_lt (d : Dev) (a : Nat) : d.rd a < 2 ^ 32 := (d.word a).isLt

@[simp] theorem Dev.rd_wr_same (a v : Nat) (d : Dev) : (Dev.wr a v d).rd a = v % 2 ^ 32 := by simp [Dev.rd, Dev.word_wr]

theorem Dev.rd_wr_other (a v b : Nat) (d : Dev) (h : b ≠ a) : (Dev.wr a v d).rd b = d.rd b := by simp [Dev.rd, Dev.word_wr, h]

theorem Dev.rd_wr (a v b : Nat) (d : Dev) : (Dev.wr a v d).rd b = if b = a then v % 2 ^ 32 else d.rd b := by
  by_cases h : b = a
  · subst h; simp
  · simp [h, Dev.rd_wr_other]

theorem Dev.get_wr_other (a v : Nat) (g : Fld) (d : Dev) (h : g.a ≠ a) : (Dev.wr a v d).get g = d.get g := by
  simp [Dev.get, Dev.rd_wr_other _ _ _ _ h]

theorem Dev.get_wr_same (v : Nat) (g : Fld) (d : Dev) : (Dev.wr g.a v d).get g = bitsOf (v % 2 ^ 32) g.hi g.lo := by simp [Dev.get]

/-- A field reads what was written to it, cut to its width. -/
@[simp] theorem Dev.get_set_same (f : Fld) (v : Nat) (d : Dev) (h : f.hi < 32) : (Dev.set f v d).get f = v % 2 ^ (f.hi + 1 - f.lo) := by
  have hl : withBits (d.rd f.a) f.hi f.lo v < 2 ^ 32 := withBits_lt _ _ _ _ _ (d.rd_lt f.a) h
  simp only [Dev.set, Dev.get_wr_same, Nat.mod_eq_of_lt hl, bitsOf_withBits]

/-- Every other field reads as before. -/
theorem Dev.get_set_other (f g : Fld) (v : Nat) (d : Dev) (h : f.hi < 32) (ap : g.a ≠ f.a ∨ g.hi < f.lo ∨ f.hi < g.lo) :
    (Dev.set f v d).get g = d.get g := by
  by_cases e : g.a = f.a
  · have hl : withBits (d.rd f.a) f.hi f.lo v < 2 ^ 32 := withBits_lt _ _ _ _ _ (d.rd_lt f.a) h
    have ap' : g.hi < f.lo ∨ f.hi < g.lo := by simpa [e] using ap
    simp only [Dev.set, Dev.get, e, Dev.rd_wr_same, Nat.mod_eq_of_lt hl]
    exact bitsOf_withBits_apart _ _ _ _ _ _ ap'
  · exact Dev.get_wr_other _ _ _ _ e

theorem Dev.rd_set_other (f : Fld) (v b : Nat) (d : Dev) (h : b ≠ f.a) : (Dev.set f v d).rd b = d.rd b := Dev.rd_wr_other _ _ _ _ h

/-- A field holds less than its width allows. -/
theorem Dev.get_lt (d : Dev) (f : Fld) : d.get f < 2 ^ (f.hi + 1 - f.lo) := bitsOf_lt _ _ _

/-- Registers depend on the register file alone. -/
theorem Dev.rd_congr (d e : Dev) (a : Nat) (h : d.regs = e.regs) : d.rd a = e.rd a := by simp [Dev.rd, Dev.word, h]
theorem Dev.get_congr (d e : Dev) (f : Fld) (h : d.regs = e.regs) : d.get f = e.get f := by simp [Dev.get, Dev.rd_congr d e _ h]

@[simp] theorem Dev.rd_post (x y : Nat) (bs : List Byte) (d : Dev) (a : Nat) : (Dev.post x y bs d).rd a = d.rd a := rfl
@[simp] theorem Dev.get_post (x y : Nat) (bs : List Byte) (d : Dev) (f : Fld) : (Dev.post x y bs d).get f = d.get f := rfl
@[simp] theorem Dev.rd_emit (o : Output) (d : Dev) (a : Nat) : (Dev.emit o d).rd a = d.rd a := rfl
@[simp] theorem Dev.get_emit (o : Output) (d : Dev) (f : Fld) : (Dev.emit o d).get f = d.get f := rfl
@[simp] theorem Dev.rd_reach (t : LTime) (d : Dev) (a : Nat) : (Dev.reach t d).rd a = d.rd a := rfl
@[simp] theorem Dev.get_reach (t : LTime) (d : Dev) (f : Fld) : (Dev.reach t d).get f = d.get f := rfl
@[simp] theorem Dev.now_wr (a v : Nat) (d : Dev) : (Dev.wr a v d).now = d.now := rfl
@[simp] theorem Dev.now_set (f : Fld) (v : Nat) (d : Dev) : (Dev.set f v d).now = d.now := rfl
@[simp] theorem Dev.now_post (x y : Nat) (bs : List Byte) (d : Dev) : (Dev.post x y bs d).now = d.now := rfl
@[simp] theorem Dev.now_emit (o : Output) (d : Dev) : (Dev.emit o d).now = d.now := rfl

/-- Register writes keep the canonical form of the register file. -/
theorem Dev.wr_canonical (a v : Nat) (d : Dev) (h : smWf resetOf d.regs = true) : smWf resetOf (Dev.wr a v d).regs = true := by
  simpa using smWf_smSet resetOf d.regs a _ h

end Sys2Proof.Machine
end

