-- ==== Sys2Proof/Laws/Replies.lean ====
section
/-! SUPPORT. Sys2Proof/Laws/Replies.lean: writing a reply touches the registers, the host interface, the outputs and the free count alone. -/
namespace Sys2Proof.Machine

/-- A fold keeps what every step of it keeps. -/
theorem foldl_keep {α β : Type} (g : Dev → β) (f : Dev → α → Dev) (h : ∀ d x, g (f d x) = g d) (xs : List α) (d : Dev) :
    g (xs.foldl f d) = g d := by
  induction xs generalizing d with
  | nil => rfl
  | cons x xs ih => rw [List.foldl_cons, ih, h]
theorem forN_keep {β : Type} (g : Dev → β) (f : Nat → Dev → Dev) (h : ∀ i d, g (f i d) = g d) (n : Nat) (d : Dev) :
    g (Dev.forN n f d) = g d := foldl_keep g _ (fun d i => h i d) _ d
theorem forEach_keep {α β : Type} (g : Dev → β) (f : α → Dev → Dev) (h : ∀ x d, g (f x d) = g d) (xs : List α) (d : Dev) :
    g (Dev.forEach xs f d) = g d := foldl_keep g _ (fun d x => h x d) _ d
theorem when_keep {β : Type} (g : Dev → β) (b : Bool) (f : Dev → Dev) (h : ∀ d, g (f d) = g d) (d : Dev) : g (Dev.when b f d) = g d := by
  cases b with
  | false => rfl
  | true => exact h d

/-- What a reply cannot touch. -/
structure Dev.Rest where
  live : SMap Word
  latch : SMap Word
  sys : Sys
  sec : Sec
  ltm : Ltm
  evo : SMap EvoOut
  ports : SMap Port
  cyc : Cyc
  eng : Eng
  axes : SMap AxisState
  trc : Trc
  fb : SMap Fb
  adc : SMap AdcCh
  acq : Acq
  dram : SMap Byte
  sto : Sto
  saf : Saf
  can : SMap CanCh
  sch : Sch
  mir : Mir
  ledger : Ledger

/-- The part of the state that a reply cannot touch. -/
def restOf (d : Dev) : Dev.Rest := ⟨d.live, d.latch, d.sys, d.sec, d.ltm, d.evo, d.ports, d.cyc, d.eng, d.axes, d.trc, d.fb, d.adc, d.acq, d.dram, d.sto, d.saf, d.can, d.sch, d.mir, d.ledger⟩

@[simp] theorem rest_wr (a v : Nat) (d : Dev) : restOf (Dev.wr a v d) = restOf d := rfl
@[simp] theorem rest_set (f : Fld) (v : Nat) (d : Dev) : restOf (Dev.set f v d) = restOf d := rfl
@[simp] theorem rest_emit (o : Output) (d : Dev) : restOf (Dev.emit o d) = restOf d := rfl
@[simp] theorem rest_hif (d : Dev) (h : Hif) : restOf { d with hif := h } = restOf d := rfl
@[simp] theorem rest_post (a b : Nat) (x : List Byte) (d : Dev) : restOf (Dev.post a b x d) = restOf d := rfl
@[simp] theorem rest_count32 (a n : Nat) (d : Dev) : restOf (Dev.count32 a n d) = restOf d := rfl
@[simp] theorem rest_draw (d : Dev) : restOf (Dev.draw d).2 = restOf d := rfl

@[simp] theorem rest_fireVector (v : Nat) (d : Dev) : restOf (Dev.fireVector v d) = restOf d := by
  unfold Dev.fireVector; dsimp only; split <;> simp [restOf]
@[simp] theorem rest_signalN (v k : Nat) (d : Dev) : restOf (Dev.signalN v k d) = restOf d := by
  unfold Dev.signalN; dsimp only; split
  · rw [rest_fireVector]
  · rfl
@[simp] theorem rest_writeReply (r : KeptReply) (d : Dev) : restOf (Dev.writeReply r d) = restOf d := by
  unfold Dev.writeReply Dev.signal; dsimp only; rw [rest_signalN]; simp [restOf]
@[simp] theorem rest_pumpCq (c : Nat) (d : Dev) : restOf (Dev.pumpCq c d) = restOf d := by
  unfold Dev.pumpCq
  refine foldl_keep restOf _ ?_ _ d
  intro d x; dsimp only; split
  · rw [rest_writeReply]; rfl
  · rfl
/-- Completing a packet touches nothing else. -/
@[simp] theorem rest_complete (ref : PktRef) (st : Nat) (t : LTime) (res : List Byte) (d : Dev) :
    restOf (Dev.complete ref st t res d) = restOf d := by
  unfold Dev.complete; split
  · rfl
  · dsimp only; split <;> split <;> (rw [rest_pumpCq]; simp [restOf, Dev.draw])
@[simp] theorem complete_live (ref : PktRef) (st : Nat) (t : LTime) (res : List Byte) (d : Dev) : (Dev.complete ref st t res d).live = d.live :=
  congrArg Dev.Rest.live (rest_complete ref st t res d)
@[simp] theorem complete_latch (ref : PktRef) (st : Nat) (t : LTime) (res : List Byte) (d : Dev) : (Dev.complete ref st t res d).latch = d.latch :=
  congrArg Dev.Rest.latch (rest_complete ref st t res d)
@[simp] theorem complete_sys (ref : PktRef) (st : Nat) (t : LTime) (res : List Byte) (d : Dev) : (Dev.complete ref st t res d).sys = d.sys :=
  congrArg Dev.Rest.sys (rest_complete ref st t res d)
@[simp] theorem complete_sec (ref : PktRef) (st : Nat) (t : LTime) (res : List Byte) (d : Dev) : (Dev.complete ref st t res d).sec = d.sec :=
  congrArg Dev.Rest.sec (rest_complete ref st t res d)
@[simp] theorem complete_ltm (ref : PktRef) (st : Nat) (t : LTime) (res : List Byte) (d : Dev) : (Dev.complete ref st t res d).ltm = d.ltm :=
  congrArg Dev.Rest.ltm (rest_complete ref st t res d)
@[simp] theorem complete_evo (ref : PktRef) (st : Nat) (t : LTime) (res : List Byte) (d : Dev) : (Dev.complete ref st t res d).evo = d.evo :=
  congrArg Dev.Rest.evo (rest_complete ref st t res d)
@[simp] theorem complete_ports (ref : PktRef) (st : Nat) (t : LTime) (res : List Byte) (d : Dev) : (Dev.complete ref st t res d).ports = d.ports :=
  congrArg Dev.Rest.ports (rest_complete ref st t res d)
@[simp] theorem complete_cyc (ref : PktRef) (st : Nat) (t : LTime) (res : List Byte) (d : Dev) : (Dev.complete ref st t res d).cyc = d.cyc :=
  congrArg Dev.Rest.cyc (rest_complete ref st t res d)
@[simp] theorem complete_eng (ref : PktRef) (st : Nat) (t : LTime) (res : List Byte) (d : Dev) : (Dev.complete ref st t res d).eng = d.eng :=
  congrArg Dev.Rest.eng (rest_complete ref st t res d)
@[simp] theorem complete_axes (ref : PktRef) (st : Nat) (t : LTime) (res : List Byte) (d : Dev) : (Dev.complete ref st t res d).axes = d.axes :=
  congrArg Dev.Rest.axes (rest_complete ref st t res d)
@[simp] theorem complete_trc (ref : PktRef) (st : Nat) (t : LTime) (res : List Byte) (d : Dev) : (Dev.complete ref st t res d).trc = d.trc :=
  congrArg Dev.Rest.trc (rest_complete ref st t res d)
@[simp] theorem complete_fb (ref : PktRef) (st : Nat) (t : LTime) (res : List Byte) (d : Dev) : (Dev.complete ref st t res d).fb = d.fb :=
  congrArg Dev.Rest.fb (rest_complete ref st t res d)
@[simp] theorem complete_adc (ref : PktRef) (st : Nat) (t : LTime) (res : List Byte) (d : Dev) : (Dev.complete ref st t res d).adc = d.adc :=
  congrArg Dev.Rest.adc (rest_complete ref st t res d)
@[simp] theorem complete_acq (ref : PktRef) (st : Nat) (t : LTime) (res : List Byte) (d : Dev) : (Dev.complete ref st t res d).acq = d.acq :=
  congrArg Dev.Rest.acq (rest_complete ref st t res d)
@[simp] theorem complete_dram (ref : PktRef) (st : Nat) (t : LTime) (res : List Byte) (d : Dev) : (Dev.complete ref st t res d).dram = d.dram :=
  congrArg Dev.Rest.dram (rest_complete ref st t res d)
@[simp] theorem complete_sto (ref : PktRef) (st : Nat) (t : LTime) (res : List Byte) (d : Dev) : (Dev.complete ref st t res d).sto = d.sto :=
  congrArg Dev.Rest.sto (rest_complete ref st t res d)
@[simp] theorem complete_saf (ref : PktRef) (st : Nat) (t : LTime) (res : List Byte) (d : Dev) : (Dev.complete ref st t res d).saf = d.saf :=
  congrArg Dev.Rest.saf (rest_complete ref st t res d)
@[simp] theorem complete_can (ref : PktRef) (st : Nat) (t : LTime) (res : List Byte) (d : Dev) : (Dev.complete ref st t res d).can = d.can :=
  congrArg Dev.Rest.can (rest_complete ref st t res d)
@[simp] theorem complete_sch (ref : PktRef) (st : Nat) (t : LTime) (res : List Byte) (d : Dev) : (Dev.complete ref st t res d).sch = d.sch :=
  congrArg Dev.Rest.sch (rest_complete ref st t res d)
@[simp] theorem complete_mir (ref : PktRef) (st : Nat) (t : LTime) (res : List Byte) (d : Dev) : (Dev.complete ref st t res d).mir = d.mir :=
  congrArg Dev.Rest.mir (rest_complete ref st t res d)
@[simp] theorem complete_ledger (ref : PktRef) (st : Nat) (t : LTime) (res : List Byte) (d : Dev) : (Dev.complete ref st t res d).ledger = d.ledger :=
  congrArg Dev.Rest.ledger (rest_complete ref st t res d)

end Sys2Proof.Machine
end

