-- ==== Sys2Proof/Laws/Mode.lean ====
section
/-! SUPPORT. Sys2Proof/Laws/Mode.lean: the scheduler's parts and bring-up leave SYS_MODE alone, and a transition ends in the mode it names. -/
namespace Sys2Proof.Machine

theorem rd_count32_other (a n b : Nat) (d : Dev) (h : b ≠ a) : (Dev.count32 a n d).rd b = d.rd b := Dev.rd_wr_other _ _ _ _ h
theorem rd_cond_other (k : Nat) (v : Bool) (b : Nat) (d : Dev) (h1 : b ≠ SYS_COND) (h2 : b ≠ SYS_COND_STICKY) :
    (Dev.cond k v d).rd b = d.rd b := by
  unfold Dev.cond
  split
  · rfl
  · dsimp only
    split <;> split <;> simp [Dev.rd_wr_other, h1, h2]

/-- Registers from 0xC0000 on are none of SYS_MODE. -/
theorem mode_wr_far (a v : Nat) (d : Dev) (h : 4 < a) : (Dev.wr a v d).rd SYS_MODE = d.rd SYS_MODE :=
  Dev.rd_wr_other _ _ _ _ (by have : SYS_MODE = 4 := rfl; omega)
theorem mode_set_far (f : Fld) (v : Nat) (d : Dev) (h : 4 < f.a) : (Dev.set f v d).rd SYS_MODE = d.rd SYS_MODE := mode_wr_far _ _ _ h

@[simp] theorem mode_showTask (t : Nat) (d : Dev) : (Dev.showTask t d).rd SYS_MODE = d.rd SYS_MODE := by
  unfold Dev.showTask; dsimp only
  rw [mode_wr_far _ _ _ (by unfold SCH_UNREADY; omega), mode_wr_far _ _ _ (by unfold SCH_TASK_W3; omega), mode_wr_far _ _ _ (by unfold SCH_TASK_W2; omega),
    mode_wr_far _ _ _ (by unfold SCH_TASK_W1; omega), mode_wr_far _ _ _ (by unfold SCH_TASK_W0; omega)]
@[simp] theorem mode_setTask (t : Nat) (x : Task) (d : Dev) : (Dev.setTask t x d).rd SYS_MODE = d.rd SYS_MODE := by
  unfold Dev.setTask; rw [mode_showTask]; rfl
@[simp] theorem mode_showStock (d : Dev) : (Dev.showStock d).rd SYS_MODE = d.rd SYS_MODE := by
  unfold Dev.showStock; dsimp only
  rw [rd_cond_other _ _ _ _ (by decide) (by decide), mode_set_far _ _ _ (by decide), mode_set_far _ _ _ (by decide), mode_set_far _ _ _ (by decide)]
@[simp] theorem mode_showLevel (l : Nat) (d : Dev) : (Dev.showLevel l d).rd SYS_MODE = d.rd SYS_MODE := by
  unfold Dev.showLevel
  rw [mode_set_far _ _ _ (by simp only [SCH_LEVEL.SPILLED, SCH_LEVEL]; omega), mode_set_far _ _ _ (by simp only [SCH_LEVEL.DEPTH, SCH_LEVEL]; omega)]
@[simp] theorem mode_placeTask (t : Nat) (d : Dev) : (Dev.placeTask t d).rd SYS_MODE = d.rd SYS_MODE := by
  unfold Dev.placeTask; dsimp only
  split
  · rw [mode_setTask]; rfl
  · split
    · rw [mode_setTask]; split <;> rfl
    · rw [mode_setTask]; split
      · rfl
      · rw [Dev.rd_post, rd_count32_other _ _ _ _ (by decide)]
@[simp] theorem mode_pushTask (t : Nat) (d : Dev) : (Dev.pushTask t d).rd SYS_MODE = d.rd SYS_MODE := by
  unfold Dev.pushTask
  split
  · rfl
  · rw [mode_showLevel, mode_showStock, mode_placeTask]
@[simp] theorem mode_saveCore (c : Nat) (d : Dev) : (Dev.saveCore c d).rd SYS_MODE = d.rd SYS_MODE := by
  unfold Dev.saveCore; split
  · rfl
  · rw [mode_pushTask]; rfl
@[simp] theorem mode_showSched (d : Dev) : (Dev.showSched d).rd SYS_MODE = d.rd SYS_MODE := by
  unfold Dev.showSched; dsimp only
  rw [mode_set_far _ _ _ (by decide), forN_keep (fun d => d.rd SYS_MODE), mode_showStock, forN_keep (fun d => d.rd SYS_MODE)]
  · intro l d; exact mode_showLevel l d
  · intro c d; split <;>
    rw [mode_set_far _ _ _ (by simp only [SCH_CORE.PRIO, SCH_CORE]; omega), mode_set_far _ _ _ (by simp only [SCH_CORE.TASK, SCH_CORE]; omega)]
@[simp] theorem mode_runCores (m : Nat) (d : Dev) : (Dev.runCores m d).rd SYS_MODE = d.rd SYS_MODE := by
  unfold Dev.runCores; dsimp only
  rw [mode_showSched, mode_set_far _ _ _ (by decide), forN_keep (fun d => d.rd SYS_MODE)]
  intro c d; exact when_keep (fun d => d.rd SYS_MODE) _ _ (fun d => mode_saveCore c d) d
@[simp] theorem mode_runPlls (m : Nat) (d : Dev) : (Dev.runPlls m d).rd SYS_MODE = d.rd SYS_MODE := by
  unfold Dev.runPlls; dsimp only
  rw [mode_set_far _ _ _ (by decide), mode_set_far _ _ _ (by decide)]
@[simp] theorem mode_createFirmware (ts : List FwTask) (d : Dev) : (Dev.createFirmware ts d).rd SYS_MODE = d.rd SYS_MODE := by
  unfold Dev.createFirmware; dsimp only
  change (Dev.forEach ts _ d).rd SYS_MODE = _
  rw [forEach_keep (fun d => d.rd SYS_MODE)]
  intro t d; exact mode_setTask _ _ _

/-! Bring-up of a segment writes its link registers alone. -/
@[simp] theorem mode_count_far (f : Fld) (n : Nat) (d : Dev) (h : 4 < f.a) : (Dev.count f n d).rd SYS_MODE = d.rd SYS_MODE := mode_set_far _ _ _ h
@[simp] theorem mode_setPort (n : Nat) (p : Port) (d : Dev) : (Dev.setPort n p d).rd SYS_MODE = d.rd SYS_MODE := rfl
@[simp] theorem mode_mapCh (n c : Nat) (f : LinkCh → LinkCh) (d : Dev) : (Dev.mapCh n c f d).rd SYS_MODE = d.rd SYS_MODE := rfl
@[simp] theorem mode_sendControl (n c k a : Nat) (x : List Byte) (d : Dev) : (Dev.sendControl n c k a x d).rd SYS_MODE = d.rd SYS_MODE := rfl
theorem linkFld_far (n c : Nat) : 4 < (linkFld n c).a := by
  unfold linkFld; split <;> (simp only [NLS_LINK_STATUS.STATE_A, NLS_LINK_STATUS.STATE_B, NLS_LINK_STATUS]; omega)
theorem linkStatus_far (n : Nat) : 4 < NLS_LINK_STATUS n := by unfold NLS_LINK_STATUS; omega
theorem rateInfo_far (n : Nat) : 4 < NLS_RATE_INFO n := by unfold NLS_RATE_INFO; omega
@[simp] theorem mode_showChannels (d : Dev) : (Dev.showChannels d).rd SYS_MODE = d.rd SYS_MODE := rd_cond_other _ _ _ _ (by decide) (by decide)
@[simp] theorem mode_showHops (n : Nat) (d : Dev) : (Dev.showHops n d).rd SYS_MODE = d.rd SYS_MODE := by
  unfold Dev.showHops; dsimp only
  rw [mode_showChannels, mode_set_far _ _ _ (rateInfo_far n), mode_set_far _ _ _ (rateInfo_far n), mode_set_far _ _ _ (linkStatus_far n),
    mode_set_far _ _ _ (linkStatus_far n), mode_set_far _ _ _ (linkStatus_far n), mode_set_far _ _ _ (linkStatus_far n)]
@[simp] theorem mode_hopDown (n c h st : Nat) (d : Dev) : (Dev.hopDown n c h st d).rd SYS_MODE = d.rd SYS_MODE := by
  unfold Dev.hopDown; dsimp only
  rw [Dev.rd_post, mode_count_far, mode_showHops, mode_setPort]
  split <;> (simp only [NLS_LINK_DROP_CNT.COUNT_A, NLS_LINK_DROP_CNT.COUNT_B, NLS_LINK_DROP_CNT]; omega)
@[simp] theorem mode_retrain (n c r : Nat) (d : Dev) : (Dev.retrain n c r d).rd SYS_MODE = d.rd SYS_MODE := by
  unfold Dev.retrain; dsimp only
  rw [when_keep (fun d => d.rd SYS_MODE) _ _ (fun d => mode_hopDown _ _ _ _ d), mode_set_far _ _ _ (linkFld_far n c), mode_mapCh]
@[simp] theorem mode_orderRate (n r : Nat) (d : Dev) : (Dev.orderRate n r d).rd SYS_MODE = d.rd SYS_MODE := by
  unfold Dev.orderRate; dsimp only
  rw [mode_showHops, mode_setPort, forN_keep (fun d => d.rd SYS_MODE)]
  intro c d; rw [when_keep (fun d => d.rd SYS_MODE) _ _ (fun d => mode_retrain _ _ _ d), mode_sendControl]
@[simp] theorem mode_segmentReady (n r : Nat) (d : Dev) : (Dev.segmentReady n r d).rd SYS_MODE = d.rd SYS_MODE := by
  unfold Dev.segmentReady; dsimp only
  rw [Dev.rd_post, mode_set_far _ _ _ (linkStatus_far n), mode_set_far _ _ _ (linkStatus_far n), mode_setPort]
@[simp] theorem mode_endDiscovery (n : Nat) (d : Dev) : (Dev.endDiscovery n d).rd SYS_MODE = d.rd SYS_MODE := by
  unfold Dev.endDiscovery; dsimp only
  split
  · rw [mode_segmentReady]; split <;>
      rw [mode_set_far _ _ _ (rateInfo_far n)] <;> first
      | rw [mode_set_far _ _ _ (linkStatus_far n), mode_setPort]
      | rw [mode_set_far _ _ _ (rateInfo_far n), mode_set_far _ _ _ (rateInfo_far n), mode_set_far _ _ _ (linkStatus_far n), mode_setPort]
  · rw [mode_orderRate]; split <;>
      rw [mode_set_far _ _ _ (rateInfo_far n)] <;> first
      | rw [mode_set_far _ _ _ (linkStatus_far n), mode_setPort]
      | rw [mode_set_far _ _ _ (rateInfo_far n), mode_set_far _ _ _ (rateInfo_far n), mode_set_far _ _ _ (linkStatus_far n), mode_setPort]
@[simp] theorem mode_bringUpStep (n : Nat) (d : Dev) : (Dev.bringUpStep n d).rd SYS_MODE = d.rd SYS_MODE := by
  unfold Dev.bringUpStep; dsimp only
  split
  · rfl
  · split
    · exact mode_endDiscovery _ _
    · split
      · exact mode_segmentReady _ _ _
      · rfl
@[simp] theorem mode_channelEnable (n c : Nat) (d : Dev) : (Dev.channelEnable n c d).rd SYS_MODE = d.rd SYS_MODE := by
  unfold Dev.channelEnable; dsimp only
  have far : 4 < (if c = 0 then NLS_LINK_CTRL.EN_A n else NLS_LINK_CTRL.EN_B n).a := by
    split <;> (simp only [NLS_LINK_CTRL.EN_A, NLS_LINK_CTRL.EN_B, NLS_LINK_CTRL]; omega)
  generalize (if c = 0 then NLS_LINK_CTRL.EN_A n else NLS_LINK_CTRL.EN_B n) = f at far
  split
  · rw [mode_set_far _ _ _ (linkFld_far n c), mode_mapCh, mode_set_far _ _ _ far]
  · exact mode_set_far _ _ _ far
@[simp] theorem mode_startBringUp (n : Nat) (d : Dev) : (Dev.startBringUp n d).rd SYS_MODE = d.rd SYS_MODE := by
  unfold Dev.startBringUp; dsimp only
  rw [mode_bringUpStep, mode_set_far _ _ _ (linkStatus_far n), mode_setPort, forN_keep (fun d => d.rd SYS_MODE), mode_channelEnable, mode_channelEnable]
  intro c d; rfl
@[simp] theorem mode_bringUpAll (old : Nat) (d : Dev) : (Dev.bringUpAll old d).rd SYS_MODE = d.rd SYS_MODE := by
  unfold Dev.bringUpAll
  split
  · rfl
  · refine foldl_keep (fun d => d.rd SYS_MODE) _ (fun d n => ?_) _ d
    split
    · rfl
    · split
      · exact mode_startBringUp _ _
      · rw [mode_channelEnable, mode_channelEnable]

theorem mode_of_rd (d e : Dev) (h : d.rd SYS_MODE = e.rd SYS_MODE) : d.mode = e.mode := by
  have : SYS_MODE.MODE.a = SYS_MODE := rfl
  simp [Dev.mode, Dev.get, this, h]

/-- A transition ends in the mode it names (R45, R57). -/
theorem enterMode_mode (new cause detail : Nat) (bound : Option Nat) (more : Bool) (d : Dev) (h : new < 16) :
    (Dev.enterMode new cause detail bound more d).mode = new := by
  unfold Dev.enterMode; dsimp only
  have post : ∀ (b : Bool) (x y : Nat) (bs : List Byte) (d : Dev), (Dev.when b (Dev.post x y bs) d).mode = d.mode := by
    intro b x y bs d; exact when_keep Dev.mode b (Dev.post x y bs) (fun d => mode_of_rd _ _ (Dev.rd_post _ _ _ _ _)) d
  rw [post]
  have req : ∀ (b : Bool) (d : Dev),
      (Dev.when b (fun d => Dev.set SYS_MODE.TRANSITION 0 { d with sys := { d.sys with request := none } }) d).mode = d.mode := by
    intro b d; refine when_keep Dev.mode _ _ (fun d => ?_) d
    exact Dev.get_set_other _ _ _ _ (by decide) (by decide)
  rw [req]
  rw [mode_of_rd _ _ ((mode_bringUpAll _ _).trans ((mode_runCores _ _).trans (mode_runPlls _ _)))]
  have far : ∀ (d : Dev), (Dev.count32 SYS_TRANS_COUNT 1 d).mode = d.mode := fun d => mode_of_rd _ _ (rd_count32_other _ _ _ _ (by decide))
  rw [far]
  have tm : ∀ (v : Nat) (d : Dev), (Dev.wr64 SYS_MODE_TIME_LO v d).mode = d.mode := fun v d =>
    mode_of_rd _ _ ((mode_wr_far _ _ _ (by decide)).trans (mode_wr_far _ _ _ (by decide)))
  rw [tm]
  rw [mode_of_rd _ _ ((mode_set_far SYS_MODE_CAUSE.DETAIL _ _ (by decide)).trans (mode_set_far SYS_MODE_CAUSE.CAUSE _ _ (by decide)))]
  unfold Dev.mode
  rw [Dev.get_set_same _ _ _ (by decide)]
  exact Nat.mod_eq_of_lt h

end Sys2Proof.Machine
end

