-- ==== Sys2Proof/Laws/Packets.lean ====
section
/-! SUPPORT. Sys2Proof/Laws/Packets.lean: what a packet command does, by the outcome of its acceptance checks. -/
namespace Sys2Proof.Machine

theorem owe_epoch (q : Nat) (d : Dev) : (d.owe q).hif.epoch = d.hif.epoch := by simp [Dev.owe]

/-- A packet that passes the checks runs its opcode. -/
theorem Runs.packet {op : Opcode} {p p' : Packet} {d d' : Dev} (h : Runs op p d p' d') :
    Dev.packet op p d = Dev.answer (refOf p d) (op.run p' (refOf p d) d') := by
  obtain ⟨hr, ⟨hl1, hl2⟩, ⟨hf1, hf2, hf3⟩, ha, hm, ho⟩ := h
  have hs : (hasFlag p 2 && !op.sched) = false := by
    cases hb : hasFlag p 2 with
    | false => rfl
    | true => simp [hf3 hb]
  have hx : (hasFlag p' 2 && !op.ownTime) = false := by
    rcases ho with h | h <;> simp [h]
  have c1 : (decide (p.len.toNat < op.lMin) || decide (op.lMax < p.len.toNat)) = false := by
    simp only [Bool.or_eq_false_iff, decide_eq_false_iff_not]; omega
  have c2 : (decide (16 ≤ p.flags.toNat) || hasFlag p 0 != (decide (0 < p.len.toNat) || hasFlag p 1) || (hasFlag p 2 && !op.sched)) = false := by
    rw [hf2, hs]; simp only [bne_self_eq_false, Bool.or_false, decide_eq_false_iff_not]; omega
  unfold Dev.packet Dev.accept Dev.acceptFor
  simp only [hr, ha, hm, c1, c2, hx, owe_epoch, if_true, if_false, Bool.false_eq_true, ne_eq, not_true_eq_false, refOf]

/-- A packet without authentication that needs none runs as it is. -/
theorem authenticate_plain (op : Opcode) (p : Packet) (d : Dev) (hf : hasFlag p 1 = false) (hn : demanded op p d = []) :
    d.authenticate op p = (some p, d) := by simp [Dev.authenticate, hf, hn]

/-- No packet acts while the endpoint is absent (R386). -/
theorem packet_absent (op : Opcode) (p : Packet) (d : Dev) (h : d.ready = false) : Dev.packet op p d = d := by simp [Dev.packet, h]

@[simp] theorem answer_done (ref : PktRef) (st : Nat) (res : List Byte) (d : Dev) :
    Dev.answer ref (.done st res, d) = d.complete ref st d.now res := rfl
@[simp] theorem answer_doneAt (ref : PktRef) (st t : Nat) (res : List Byte) (d : Dev) :
    Dev.answer ref (.doneAt st t res, d) = d.complete ref st t res := rfl
@[simp] theorem answer_later (ref : PktRef) (d : Dev) : Dev.answer ref (.later, d) = d := rfl
@[simp] theorem answer_bad (ref : PktRef) (st : Nat) (d : Dev) : Dev.answer ref (.bad st, d) = d.complete ref st d.now [] := rfl

/-! Accepting a packet only counts it: owed completions, accepted packets, packets in work (R391, R393). -/
@[simp] theorem owe_live (q : Nat) (d : Dev) : (d.owe q).live = d.live := by simp [Dev.owe]
@[simp] theorem owe_latch (q : Nat) (d : Dev) : (d.owe q).latch = d.latch := by simp [Dev.owe]
@[simp] theorem owe_free (q : Nat) (d : Dev) : (d.owe q).free = d.free := by simp [Dev.owe]
@[simp] theorem owe_sys (q : Nat) (d : Dev) : (d.owe q).sys = d.sys := by simp [Dev.owe]
@[simp] theorem owe_sec (q : Nat) (d : Dev) : (d.owe q).sec = d.sec := by simp [Dev.owe]
@[simp] theorem owe_ltm (q : Nat) (d : Dev) : (d.owe q).ltm = d.ltm := by simp [Dev.owe]
@[simp] theorem owe_evo (q : Nat) (d : Dev) : (d.owe q).evo = d.evo := by simp [Dev.owe]
@[simp] theorem owe_ports (q : Nat) (d : Dev) : (d.owe q).ports = d.ports := by simp [Dev.owe]
@[simp] theorem owe_cyc (q : Nat) (d : Dev) : (d.owe q).cyc = d.cyc := by simp [Dev.owe]
@[simp] theorem owe_eng (q : Nat) (d : Dev) : (d.owe q).eng = d.eng := by simp [Dev.owe]
@[simp] theorem owe_axes (q : Nat) (d : Dev) : (d.owe q).axes = d.axes := by simp [Dev.owe]
@[simp] theorem owe_trc (q : Nat) (d : Dev) : (d.owe q).trc = d.trc := by simp [Dev.owe]
@[simp] theorem owe_fb (q : Nat) (d : Dev) : (d.owe q).fb = d.fb := by simp [Dev.owe]
@[simp] theorem owe_adc (q : Nat) (d : Dev) : (d.owe q).adc = d.adc := by simp [Dev.owe]
@[simp] theorem owe_acq (q : Nat) (d : Dev) : (d.owe q).acq = d.acq := by simp [Dev.owe]
@[simp] theorem owe_dram (q : Nat) (d : Dev) : (d.owe q).dram = d.dram := by simp [Dev.owe]
@[simp] theorem owe_sto (q : Nat) (d : Dev) : (d.owe q).sto = d.sto := by simp [Dev.owe]
@[simp] theorem owe_saf (q : Nat) (d : Dev) : (d.owe q).saf = d.saf := by simp [Dev.owe]
@[simp] theorem owe_can (q : Nat) (d : Dev) : (d.owe q).can = d.can := by simp [Dev.owe]
@[simp] theorem owe_sch (q : Nat) (d : Dev) : (d.owe q).sch = d.sch := by simp [Dev.owe]
@[simp] theorem owe_mir (q : Nat) (d : Dev) : (d.owe q).mir = d.mir := by simp [Dev.owe]
@[simp] theorem owe_ledger (q : Nat) (d : Dev) : (d.owe q).ledger = d.ledger := by simp [Dev.owe]
@[simp] theorem owe_out (q : Nat) (d : Dev) : (d.owe q).out = d.out := by simp [Dev.owe]

/-- Data that the host takes are written, and the command runs on. -/
theorem hostWrite_ok (p : Packet) (a : Nat) (x : List Byte) (ok : Reply) (d : Dev) (bs : List Byte) (h : p.host = some bs) :
    Dev.hostWrite p a x ok d = (ok, d.emit (.hostWrite a (d.outBytes p x))) := by simp [Dev.hostWrite, h]

/-- Data that the host gives are used, cut or padded to the length asked for. -/
theorem hostRead_ok (p : Packet) (n : Nat) (k : List Byte → Dev → Reply × Dev) (d : Dev) (bs : List Byte) (h : p.host = some bs) :
    Dev.hostRead p n k d = k (padTo n bs) d := by simp [Dev.hostRead, h]

/-- An error of the host ends the command with INTERNAL (R387). -/
theorem hostRead_error (p : Packet) (n : Nat) (k : List Byte → Dev → Reply × Dev) (d : Dev) (h : p.host = none) :
    Dev.hostRead p n k d = (.bad stINTERNAL, d.count32 HIF_DMA_ERR_CNT 1) := by simp [Dev.hostRead, h]

end Sys2Proof.Machine
end

