-- ==== Sys2Proof/Laws/PerInstr.lean ====
section
/-! SUPPORT. Sys2Proof/Laws/PerInstr.lean: the family Packets: what well-formedness of a command says of the packet it carries. -/
namespace Sys2Proof

/-- The packet that a command is, if it is one. -/
def Instr.packet? : Instr → Option Packet
  | .mainSupplyLoss => none
  | .mainSuppliesValid => none
  | .backupPor => none
  | .mainPor => none
  | .brownOut => none
  | .resetN _ => none
  | .watchdogExpiry => none
  | .securityViolation _ => none
  | .pcieHotReset => none
  | .debugReset => none
  | .resetRelease _ _ _ _ _ _ _ => none
  | .bootComplete _ _ _ _ _ _ _ _ _ _ => none
  | .dramTrained _ _ => none
  | .getInfo p => some p
  | .setMode p => some p
  | .getMode p => some p
  | .resetDevice p => some p
  | .resetBlock p => some p
  | .readTally p => some p
  | .clearTally p => some p
  | .setDutyMode p => some p
  | .heartbeat p => some p
  | .hostHeartbeatLapse => none
  | .pcieLinkDown => none
  | .perstN _ => none
  | .functionLevelReset => none
  | .wakeEvent _ => none
  | .channelEnable _ _ => none
  | .channelDisable _ _ => none
  | .renegotiate _ => none
  | .signalDetected _ _ => none
  | .blockLockGained _ _ => none
  | .blockLockLost _ _ => none
  | .detectTimeout _ _ => none
  | .capability _ _ _ => none
  | .negotiateTimeout _ _ => none
  | .delayRequest _ _ _ _ => none
  | .delayResponse _ _ _ _ => none
  | .measureTimeout _ _ => none
  | .rateOrder _ _ _ => none
  | .retrainExpiry _ _ => none
  | .linkRetryExpiry _ _ => none
  | .rateFallbackExpiry _ _ => none
  | .hopReport _ _ _ _ => none
  | .discoveryTimeout _ => none
  | .rateOrderTimeout _ => none
  | .tailWaitExpiry _ => none
  | .hopRemeasure _ _ _ _ => none
  | .laneRecalDue _ _ => none
  | .laneRecalDone _ _ => none
  | .asyncFrameTimeout _ => none
  | .cycleBoundary => none
  | .bellReceived _ _ _ _ => none
  | .backupBellWait _ => none
  | .joinListenExpiry => none
  | .silentCycleEnd => none
  | .joinLimitExpiry => none
  | .nodeFrame _ _ _ _ => none
  | .segmentFaultClear _ => none
  | .receiveWindowClose _ _ => none
  | .pitchClaim _ _ _ => none
  | .scheduleRequest _ _ => none
  | .leaveRequest _ _ _ => none
  | .generationAcknowledge _ _ _ => none
  | .pitchSilence _ _ => none
  | .inputLogClose => none
  | .msLogClose => none
  | .downlinkSlot _ => none
  | .guardStart => none
  | .scheduledPacketDue => none
  | .trunkStatusFrame _ _ => none
  | .holdoverEntered => none
  | .originTakeover => none
  | .trunkMasterFrame _ => none
  | .ppsEdge => none
  | .ppsLost => none
  | .wholeSecondTick => none
  | .ppsOutWidthEnd => none
  | .asyncFrameSent _ _ _ _ => none
  | .txtsPop => none
  | .ltmRateWrite _ => none
  | .evoFiring _ => none
  | .evoPulseEnd _ => none
  | .evoApply _ => none
  | .evoCancel _ => none
  | .laneStart _ => none
  | .axisComputationDone _ _ _ => none
  | .axisDeadline _ => none
  | .laneError _ => none
  | .laneSelftest _ _ _ => none
  | .ceApply => none
  | .loadSchedule p => some p
  | .activateGeneration p => some p
  | .getSegmentStatus p => some p
  | .grantPitch p => some p
  | .revokePitch p => some p
  | .sendAsync p => some p
  | .getLinkStats p => some p
  | .fenceNode p => some p
  | .configureAxis p => some p
  | .commitAxes p => some p
  | .enableAxis p => some p
  | .disableAxis p => some p
  | .moveProfile p => some p
  | .setGear p => some p
  | .loadCam p => some p
  | .streamSetpoints p => some p
  | .stopGroup p => some p
  | .readAxisState p => some p
  | .startTrace p => some p
  | .stopTrace p => some p
  | .ucmdStart _ => none
  | .ucmdStop _ => none
  | .monApply => none
  | .identifyAxis p => some p
  | .identifyHoldExpiry => none
  | .fbInputEdge _ _ _ _ => none
  | .fbSampleInstant => none
  | .fbApply _ => none
  | .fbPreset _ _ => none
  | .fbEdgePop _ => none
  | .triggerEdge _ _ _ _ => none
  | .tdcStampPop _ => none
  | .tdcTableDone _ _ => none
  | .tdcApply _ => none
  | .adcStart => none
  | .adcResult _ _ => none
  | .adcApply => none
  | .captureArmTime _ => none
  | .captureSample _ _ => none
  | .captureTrigger _ => none
  | .recordBufferGrant => none
  | .recordCopied _ => none
  | .acqApply _ => none
  | .configCaptureUnit p => some p
  | .arm p => some p
  | .disarm p => some p
  | .forceFire p => some p
  | .loadMask p => some p
  | .configRegistration p => some p
  | .calibrateTriggerPaths p => some p
  | .armFrame _ _ => none
  | .fireFrame _ _ => none
  | .disarmFrame _ _ => none
  | .tbusFrame _ _ => none
  | .tbusCalibration _ => none
  | .registrationRequestReady _ => none
  | .helloFrame _ _ => none
  | .mirrorSilenceTimeout => none
  | .leaseFrame _ _ => none
  | .leaseExpiry => none
  | .logFrame _ _ _ _ => none
  | .summaryFrame _ _ _ _ _ => none
  | .correctionFrame _ _ _ _ _ _ => none
  | .digestFrame _ _ _ _ _ => none
  | .sliceFrame _ _ _ _ => none
  | .reportFrame _ _ _ _ _ => none
  | .bulkFrame _ _ _ _ => none
  | .controlFrame _ _ _ _ => none
  | .divergenceOutcome => none
  | .permitInEdge => none
  | .permitInTimeout => none
  | .drillProofTimeout _ => none
  | .pairStatus p => some p
  | .swapDrill p => some p
  | .releasePermit p => some p
  | .resyncStandby p => some p
  | .mirApply => none
  | .safetyCycle _ _ _ _ _ _ => none
  | .safeInputSample _ _ => none
  | .discrepancyTimeout _ => none
  | .testPulse _ _ _ => none
  | .outputReadback _ _ _ => none
  | .sealRead _ _ => none
  | .pduReceived _ _ => none
  | .safetyWatchdogLapse _ => none
  | .confirmationTimeout _ _ => none
  | .sackRelease _ _ => none
  | .sackStuck => none
  | .loadSafetyParameters p => some p
  | .getSafetyStatus p => some p
  | .requestSafeStop p => some p
  | .openSafetyConnection p => some p
  | .readSafetyLog p => some p
  | .nvmeCommandComplete _ _ _ _ => none
  | .nvmeTimeout _ => none
  | .flushTimer => none
  | .mountStore p => some p
  | .readRecord p => some p
  | .listRecords p => some p
  | .deleteRecords p => some p
  | .flushStore p => some p
  | .compactLedger p => some p
  | .readLedger p => some p
  | .ledgerCompacted => none
  | .packetFetch _ _ => none
  | .sqDoorbell _ _ => none
  | .cqDoorbell _ _ => none
  | .evtDoorbell _ => none
  | .ringEnable _ _ _ => none
  | .ringDisable _ _ _ => none
  | .pcieDmaError _ _ => none
  | .msixCoalesceTimeout _ => none
  | .sessionProofTimeout _ => none
  | .getCertificate p => some p
  | .attest p => some p
  | .openSession p => some p
  | .closeSession p => some p
  | .installFirmware p => some p
  | .unlockDebug p => some p
  | .debugMailbox _ => none
  | .debugScopeExpiry => none
  | .createJob p => some p
  | .postEvent p => some p
  | .mapPages p => some p
  | .resumeDma p => some p
  | .taskDispatch _ _ => none
  | .taskWait _ _ _ => none
  | .taskEnd _ => none
  | .periodTimer _ => none
  | .dmaDescriptorPush _ _ => none
  | .dmaDescriptorComplete _ _ => none
  | .dmaFault _ _ => none
  | .configCan p => some p
  | .loadFilters p => some p
  | .startAutobaud p => some p
  | .autobaudWindowExpiry _ => none
  | .canSend p => some p
  | .getCanStatus p => some p
  | .canApply _ => none
  | .canFrameReceived _ _ _ _ _ _ _ => none
  | .canTxRequest _ _ => none
  | .canTxCancel _ _ _ => none
  | .canTransmitAt _ _ => none
  | .canTxComplete _ _ _ _ _ => none
  | .canErrorDetected _ _ _ _ _ _ => none
  | .busRecovered _ => none
  | .canHeartbeatPeriod _ => none
  | .canRxAck _ _ _ => none
  | .canTxeAck _ _ => none
  | .mailboxStatusRead _ _ => none
  | .mailboxReleaseRead _ _ => none
  | .lockTimeout _ => none
  | .supplyWarn _ _ _ => none
  | .vbatLow _ => none
  | .pllUnlock _ => none
  | .rtcInvalid => none
  | .refclkLost _ _ => none
  | .temperatureSample _ => none
  | .funcWrite _ _ => none
  | .parkEnd _ => none
  | .registerWrite _ _ _ => none
  | .readClear _ _ => none
  | .latchingRead _ _ => none
  | .getTime p => some p
  | .setMasterRank p => some p
  | .programEventOutput p => some p
  | .cancelEventOutput p => some p
  | .alignToPps p => some p
  | .pllLocked _ => none
  | .mirrorLaneLock _ _ => none
  | .helloTimer _ => none
  | .controllerSlot _ _ => none
  | .holderDownlinkFrame _ _ _ => none
  | .asyncReplyTimeout _ _ => none
  | .rootPortLink _ _ _ _ => none
  | .pcieLinkTrained _ _ => none
  | .vbatRestored _ => none

/-- A well-formed packet has the parameter bytes that its length says. -/
theorem Packet.wf_par (p : Packet) (h : p.wf = true) : p.par.length = 42 + 16 * p.len.toNat := by
  unfold Packet.wf at h
  simp only [Bool.and_eq_true, beq_iff_eq] at h
  exact h.1

namespace Laws.Packets

/-- A well-formed command that is a packet carries 42 + 16 L parameter bytes (R398). -/
def Statement (i : Instr) : Prop := i.wf = true → ∀ p, i.packet? = some p → p.par.length = 42 + 16 * p.len.toNat

theorem mainSupplyLoss : Statement (.mainSupplyLoss) := fun _ _ e => by cases e
theorem mainSuppliesValid : Statement (.mainSuppliesValid) := fun _ _ e => by cases e
theorem backupPor : Statement (.backupPor) := fun _ _ e => by cases e
theorem mainPor : Statement (.mainPor) := fun _ _ e => by cases e
theorem brownOut : Statement (.brownOut) := fun _ _ e => by cases e
theorem resetN (low : Bool) : Statement (.resetN low) := fun _ _ e => by cases e
theorem watchdogExpiry : Statement (.watchdogExpiry) := fun _ _ e => by cases e
theorem securityViolation (code : Fin 5) : Statement (.securityViolation code) := fun _ _ e => by cases e
theorem pcieHotReset : Statement (.pcieHotReset) := fun _ _ e => by cases e
theorem debugReset : Statement (.debugReset) := fun _ _ e => by cases e
theorem resetRelease (straps : BitVec 3) (vmon : BitVec 17) (levels : BitVec 8) (refs : BitVec 4) (passed : BitVec 3) (sec : BitVec 48) (sub : BitVec 15) : Statement (.resetRelease straps vmon levels refs passed sec sub) := fun _ _ e => by cases e
theorem bootComplete (aOk : Bool) (bOk : Bool) (bad : Option Nat) (torn : BitVec 32) (outBad : BitVec 8) (copyBad : BitVec 3) (r1 : BitVec 16) (r2 : BitVec 16) (tasks : List FwTask) (classes : List (Fin 4)) : Statement (.bootComplete aOk bOk bad torn outBad copyBad r1 r2 tasks classes) := fun _ _ e => by cases e
theorem dramTrained (gib : Fin 33) (ctxs : List MmuSetup) : Statement (.dramTrained gib ctxs) := fun _ _ e => by cases e
theorem getInfo (p : Packet) : Statement (.getInfo p) := fun h q e => by cases e; exact Packet.wf_par _ h
theorem setMode (p : Packet) : Statement (.setMode p) := fun h q e => by cases e; exact Packet.wf_par _ h
theorem getMode (p : Packet) : Statement (.getMode p) := fun h q e => by cases e; exact Packet.wf_par _ h
theorem resetDevice (p : Packet) : Statement (.resetDevice p) := fun h q e => by cases e; exact Packet.wf_par _ h
theorem resetBlock (p : Packet) : Statement (.resetBlock p) := fun h q e => by cases e; exact Packet.wf_par _ h
theorem readTally (p : Packet) : Statement (.readTally p) := fun h q e => by cases e; exact Packet.wf_par _ h
theorem clearTally (p : Packet) : Statement (.clearTally p) := fun h q e => by cases e; exact Packet.wf_par _ h
theorem setDutyMode (p : Packet) : Statement (.setDutyMode p) := fun h q e => by cases e; exact Packet.wf_par _ h
theorem heartbeat (p : Packet) : Statement (.heartbeat p) := fun h q e => by cases e; exact Packet.wf_par _ h
theorem hostHeartbeatLapse : Statement (.hostHeartbeatLapse) := fun _ _ e => by cases e
theorem pcieLinkDown : Statement (.pcieLinkDown) := fun _ _ e => by cases e
theorem perstN (low : Bool) : Statement (.perstN low) := fun _ _ e => by cases e
theorem functionLevelReset : Statement (.functionLevelReset) := fun _ _ e => by cases e
theorem wakeEvent (src : Fin 4) : Statement (.wakeEvent src) := fun _ _ e => by cases e
theorem channelEnable (n : Fin 10) (c : Fin 2) : Statement (.channelEnable n c) := fun _ _ e => by cases e
theorem channelDisable (n : Fin 10) (c : Fin 2) : Statement (.channelDisable n c) := fun _ _ e => by cases e
theorem renegotiate (n : Fin 10) : Statement (.renegotiate n) := fun _ _ e => by cases e
theorem signalDetected (n : Fin 10) (c : Fin 2) : Statement (.signalDetected n c) := fun _ _ e => by cases e
theorem blockLockGained (n : Fin 10) (c : Fin 2) : Statement (.blockLockGained n c) := fun _ _ e => by cases e
theorem blockLockLost (n : Fin 10) (c : Fin 2) : Statement (.blockLockLost n c) := fun _ _ e => by cases e
theorem detectTimeout (n : Fin 10) (c : Fin 2) : Statement (.detectTimeout n c) := fun _ _ e => by cases e
theorem capability (n : Fin 10) (c : Fin 2) (m : List Byte) : Statement (.capability n c m) := fun _ _ e => by cases e
theorem negotiateTimeout (n : Fin 10) (c : Fin 2) : Statement (.negotiateTimeout n c) := fun _ _ e => by cases e
theorem delayRequest (n : Fin 10) (c : Fin 2) (m : List Byte) (turn : BitVec 48) : Statement (.delayRequest n c m turn) := fun _ _ e => by cases e
theorem delayResponse (n : Fin 10) (c : Fin 2) (m : List Byte) (rtt : BitVec 80) : Statement (.delayResponse n c m rtt) := fun _ _ e => by cases e
theorem measureTimeout (n : Fin 10) (c : Fin 2) : Statement (.measureTimeout n c) := fun _ _ e => by cases e
theorem rateOrder (n : Fin 10) (c : Fin 2) (m : List Byte) : Statement (.rateOrder n c m) := fun _ _ e => by cases e
theorem retrainExpiry (n : Fin 10) (c : Fin 2) : Statement (.retrainExpiry n c) := fun _ _ e => by cases e
theorem linkRetryExpiry (n : Fin 10) (c : Fin 2) : Statement (.linkRetryExpiry n c) := fun _ _ e => by cases e
theorem rateFallbackExpiry (n : Fin 10) (c : Fin 2) : Statement (.rateFallbackExpiry n c) := fun _ _ e => by cases e
theorem hopReport (n : Fin 10) (c : Fin 2) (m : List Byte) (other : Option (Fin 64)) : Statement (.hopReport n c m other) := fun _ _ e => by cases e
theorem discoveryTimeout (n : Fin 10) : Statement (.discoveryTimeout n) := fun _ _ e => by cases e
theorem rateOrderTimeout (n : Fin 10) : Statement (.rateOrderTimeout n) := fun _ _ e => by cases e
theorem tailWaitExpiry (n : Fin 10) : Statement (.tailWaitExpiry n) := fun _ _ e => by cases e
theorem hopRemeasure (n : Fin 10) (c : Fin 2) (h : Fin 65) (v : Word) : Statement (.hopRemeasure n c h v) := fun _ _ e => by cases e
theorem laneRecalDue (n : Fin 10) (c : Fin 2) : Statement (.laneRecalDue n c) := fun _ _ e => by cases e
theorem laneRecalDone (n : Fin 10) (c : Fin 2) : Statement (.laneRecalDone n c) := fun _ _ e => by cases e
theorem asyncFrameTimeout (n : Fin 10) : Statement (.asyncFrameTimeout n) := fun _ _ e => by cases e
theorem cycleBoundary : Statement (.cycleBoundary) := fun _ _ e => by cases e
theorem bellReceived (n : Fin 10) (c : Fin 2) (rx : BitVec 80) (bytes : List Byte) : Statement (.bellReceived n c rx bytes) := fun _ _ e => by cases e
theorem backupBellWait (n : Fin 8) : Statement (.backupBellWait n) := fun _ _ e => by cases e
theorem joinListenExpiry : Statement (.joinListenExpiry) := fun _ _ e => by cases e
theorem silentCycleEnd : Statement (.silentCycleEnd) := fun _ _ e => by cases e
theorem joinLimitExpiry : Statement (.joinLimitExpiry) := fun _ _ e => by cases e
theorem nodeFrame (n : Fin 8) (c : Fin 2) (sof : BitVec 80) (bytes : List Byte) : Statement (.nodeFrame n c sof bytes) := fun _ _ e => by cases e
theorem segmentFaultClear (n : Fin 8) : Statement (.segmentFaultClear n) := fun _ _ e => by cases e
theorem receiveWindowClose (n : Fin 8) (slot : Fin 768) : Statement (.receiveWindowClose n slot) := fun _ _ e => by cases e
theorem pitchClaim (n : Fin 8) (pos : Fin 64) (req : List Byte) : Statement (.pitchClaim n pos req) := fun _ _ e => by cases e
theorem scheduleRequest (n : Fin 8) (pos : Fin 64) : Statement (.scheduleRequest n pos) := fun _ _ e => by cases e
theorem leaveRequest (n : Fin 8) (pos : Fin 64) (req : List Byte) : Statement (.leaveRequest n pos req) := fun _ _ e => by cases e
theorem generationAcknowledge (n : Fin 8) (pos : Fin 64) (gen : BitVec 16) : Statement (.generationAcknowledge n pos gen) := fun _ _ e => by cases e
theorem pitchSilence (n : Fin 8) (pitch : Fin 32) : Statement (.pitchSilence n pitch) := fun _ _ e => by cases e
theorem inputLogClose : Statement (.inputLogClose) := fun _ _ e => by cases e
theorem msLogClose : Statement (.msLogClose) := fun _ _ e => by cases e
theorem downlinkSlot (n : Fin 8) : Statement (.downlinkSlot n) := fun _ _ e => by cases e
theorem guardStart : Statement (.guardStart) := fun _ _ e => by cases e
theorem scheduledPacketDue : Statement (.scheduledPacketDue) := fun _ _ e => by cases e
theorem trunkStatusFrame (trunk : Fin 2) (payload : List Byte) : Statement (.trunkStatusFrame trunk payload) := fun _ _ e => by cases e
theorem holdoverEntered : Statement (.holdoverEntered) := fun _ _ e => by cases e
theorem originTakeover : Statement (.originTakeover) := fun _ _ e => by cases e
theorem trunkMasterFrame (payload : List Byte) : Statement (.trunkMasterFrame payload) := fun _ _ e => by cases e
theorem ppsEdge : Statement (.ppsEdge) := fun _ _ e => by cases e
theorem ppsLost : Statement (.ppsLost) := fun _ _ e => by cases e
theorem wholeSecondTick : Statement (.wholeSecondTick) := fun _ _ e => by cases e
theorem ppsOutWidthEnd : Statement (.ppsOutWidthEnd) := fun _ _ e => by cases e
theorem asyncFrameSent (port : Fin 10) (chanB : Bool) (tag : BitVec 16) (slot : BitVec 16) : Statement (.asyncFrameSent port chanB tag slot) := fun _ _ e => by cases e
theorem txtsPop : Statement (.txtsPop) := fun _ _ e => by cases e
theorem ltmRateWrite (v : Word) : Statement (.ltmRateWrite v) := fun _ _ e => by cases e
theorem evoFiring (n : Fin 16) : Statement (.evoFiring n) := fun _ _ e => by cases e
theorem evoPulseEnd (n : Fin 16) : Statement (.evoPulseEnd n) := fun _ _ e => by cases e
theorem evoApply (mask : BitVec 16) : Statement (.evoApply mask) := fun _ _ e => by cases e
theorem evoCancel (mask : BitVec 16) : Statement (.evoCancel mask) := fun _ _ e => by cases e
theorem laneStart (lane : Fin 32) : Statement (.laneStart lane) := fun _ _ e => by cases e
theorem axisComputationDone (lane : Fin 32) (cycles : Fin 361) (sram : SramCheck) : Statement (.axisComputationDone lane cycles sram) := fun _ _ e => by cases e
theorem axisDeadline (axis : Fin 512) : Statement (.axisDeadline axis) := fun _ _ e => by cases e
theorem laneError (lane : Fin 32) : Statement (.laneError lane) := fun _ _ e => by cases e
theorem laneSelftest (lane : Fin 32) (whole : Bool) (ok : Bool) : Statement (.laneSelftest lane whole ok) := fun _ _ e => by cases e
theorem ceApply : Statement (.ceApply) := fun _ _ e => by cases e
theorem loadSchedule (p : Packet) : Statement (.loadSchedule p) := fun h q e => by cases e; exact Packet.wf_par _ h
theorem activateGeneration (p : Packet) : Statement (.activateGeneration p) := fun h q e => by cases e; exact Packet.wf_par _ h
theorem getSegmentStatus (p : Packet) : Statement (.getSegmentStatus p) := fun h q e => by cases e; exact Packet.wf_par _ h
theorem grantPitch (p : Packet) : Statement (.grantPitch p) := fun h q e => by cases e; exact Packet.wf_par _ h
theorem revokePitch (p : Packet) : Statement (.revokePitch p) := fun h q e => by cases e; exact Packet.wf_par _ h
theorem sendAsync (p : Packet) : Statement (.sendAsync p) := fun h q e => by cases e; exact Packet.wf_par _ h
theorem getLinkStats (p : Packet) : Statement (.getLinkStats p) := fun h q e => by cases e; exact Packet.wf_par _ h
theorem fenceNode (p : Packet) : Statement (.fenceNode p) := fun h q e => by cases e; exact Packet.wf_par _ h
theorem configureAxis (p : Packet) : Statement (.configureAxis p) := fun h q e => by cases e; exact Packet.wf_par _ h
theorem commitAxes (p : Packet) : Statement (.commitAxes p) := fun h q e => by cases e; exact Packet.wf_par _ h
theorem enableAxis (p : Packet) : Statement (.enableAxis p) := fun h q e => by cases e; exact Packet.wf_par _ h
theorem disableAxis (p : Packet) : Statement (.disableAxis p) := fun h q e => by cases e; exact Packet.wf_par _ h
theorem moveProfile (p : Packet) : Statement (.moveProfile p) := fun h q e => by cases e; exact Packet.wf_par _ h
theorem setGear (p : Packet) : Statement (.setGear p) := fun h q e => by cases e; exact Packet.wf_par _ h
theorem loadCam (p : Packet) : Statement (.loadCam p) := fun h q e => by cases e; exact Packet.wf_par _ h
theorem streamSetpoints (p : Packet) : Statement (.streamSetpoints p) := fun h q e => by cases e; exact Packet.wf_par _ h
theorem stopGroup (p : Packet) : Statement (.stopGroup p) := fun h q e => by cases e; exact Packet.wf_par _ h
theorem readAxisState (p : Packet) : Statement (.readAxisState p) := fun h q e => by cases e; exact Packet.wf_par _ h
theorem startTrace (p : Packet) : Statement (.startTrace p) := fun h q e => by cases e; exact Packet.wf_par _ h
theorem stopTrace (p : Packet) : Statement (.stopTrace p) := fun h q e => by cases e; exact Packet.wf_par _ h
theorem ucmdStart (unit : Fin 4) : Statement (.ucmdStart unit) := fun _ _ e => by cases e
theorem ucmdStop (unit : Fin 4) : Statement (.ucmdStop unit) := fun _ _ e => by cases e
theorem monApply : Statement (.monApply) := fun _ _ e => by cases e
theorem identifyAxis (p : Packet) : Statement (.identifyAxis p) := fun h q e => by cases e; exact Packet.wf_par _ h
theorem identifyHoldExpiry : Statement (.identifyHoldExpiry) := fun _ _ e => by cases e
theorem fbInputEdge (n : Fin 4) (a : FbLevel) (b : FbLevel) (c : FbLevel) : Statement (.fbInputEdge n a b c) := fun _ _ e => by cases e
theorem fbSampleInstant : Statement (.fbSampleInstant) := fun _ _ e => by cases e
theorem fbApply (mask : BitVec 4) : Statement (.fbApply mask) := fun _ _ e => by cases e
theorem fbPreset (n : Fin 4) (hi : Word) : Statement (.fbPreset n hi) := fun _ _ e => by cases e
theorem fbEdgePop (n : Fin 4) : Statement (.fbEdgePop n) := fun _ _ e => by cases e
theorem triggerEdge (n : Fin 16) (rising : Bool) (c : Fin 224) (held : Bool) : Statement (.triggerEdge n rising c held) := fun _ _ e => by cases e
theorem tdcStampPop (n : Fin 16) : Statement (.tdcStampPop n) := fun _ _ e => by cases e
theorem tdcTableDone (n : Fin 16) (hits : List Nat) : Statement (.tdcTableDone n hits) := fun _ _ e => by cases e
theorem tdcApply (mask : BitVec 16) : Statement (.tdcApply mask) := fun _ _ e => by cases e
theorem adcStart : Statement (.adcStart) := fun _ _ e => by cases e
theorem adcResult (k : Fin 8) (code : BitVec 18) : Statement (.adcResult k code) := fun _ _ e => by cases e
theorem adcApply : Statement (.adcApply) := fun _ _ e => by cases e
theorem captureArmTime (u : Fin 16) : Statement (.captureArmTime u) := fun _ _ e => by cases e
theorem captureSample (u : Fin 16) (damaged : Bool) : Statement (.captureSample u damaged) := fun _ _ e => by cases e
theorem captureTrigger (u : Fin 16) : Statement (.captureTrigger u) := fun _ _ e => by cases e
theorem recordBufferGrant : Statement (.recordBufferGrant) := fun _ _ e => by cases e
theorem recordCopied (u : Fin 16) : Statement (.recordCopied u) := fun _ _ e => by cases e
theorem acqApply (mask : BitVec 16) : Statement (.acqApply mask) := fun _ _ e => by cases e
theorem configCaptureUnit (p : Packet) : Statement (.configCaptureUnit p) := fun h q e => by cases e; exact Packet.wf_par _ h
theorem arm (p : Packet) : Statement (.arm p) := fun h q e => by cases e; exact Packet.wf_par _ h
theorem disarm (p : Packet) : Statement (.disarm p) := fun h q e => by cases e; exact Packet.wf_par _ h
theorem forceFire (p : Packet) : Statement (.forceFire p) := fun h q e => by cases e; exact Packet.wf_par _ h
theorem loadMask (p : Packet) : Statement (.loadMask p) := fun h q e => by cases e; exact Packet.wf_par _ h
theorem configRegistration (p : Packet) : Statement (.configRegistration p) := fun h q e => by cases e; exact Packet.wf_par _ h
theorem calibrateTriggerPaths (p : Packet) : Statement (.calibrateTriggerPaths p) := fun h q e => by cases e; exact Packet.wf_par _ h
theorem armFrame (trunk : Fin 2) (payload : List Byte) : Statement (.armFrame trunk payload) := fun _ _ e => by cases e
theorem fireFrame (trunk : Fin 2) (payload : List Byte) : Statement (.fireFrame trunk payload) := fun _ _ e => by cases e
theorem disarmFrame (trunk : Fin 2) (payload : List Byte) : Statement (.disarmFrame trunk payload) := fun _ _ e => by cases e
theorem tbusFrame (rx : BitVec 80) (bits : BitVec 32) : Statement (.tbusFrame rx bits) := fun _ _ e => by cases e
theorem tbusCalibration (meas : Option (Nat × Nat)) : Statement (.tbusCalibration meas) := fun _ _ e => by cases e
theorem registrationRequestReady (r : Fin 32) : Statement (.registrationRequestReady r) := fun _ _ e => by cases e
theorem helloFrame (lane : Fin 2) (bytes : List Byte) : Statement (.helloFrame lane bytes) := fun _ _ e => by cases e
theorem mirrorSilenceTimeout : Statement (.mirrorSilenceTimeout) := fun _ _ e => by cases e
theorem leaseFrame (lane : Fin 2) (bytes : List Byte) : Statement (.leaseFrame lane bytes) := fun _ _ e => by cases e
theorem leaseExpiry : Statement (.leaseExpiry) := fun _ _ e => by cases e
theorem logFrame (lane : Fin 2) (hdr : List Byte) (ok : Bool) (entries : List (Nat × LogAct)) : Statement (.logFrame lane hdr ok entries) := fun _ _ e => by cases e
theorem summaryFrame (lane : Fin 2) (hdr : List Byte) (ok : Bool) (seg : Fin 8) (crcs : List (Option Nat)) : Statement (.summaryFrame lane hdr ok seg crcs) := fun _ _ e => by cases e
theorem correctionFrame (lane : Fin 2) (hdr : List Byte) (ok : Bool) (seg : Fin 8) (missing : BitVec 64) (full : List (Nat × List Byte)) : Statement (.correctionFrame lane hdr ok seg missing full) := fun _ _ e => by cases e
theorem digestFrame (lane : Fin 2) (hdr : List Byte) (ok : Bool) (digests : List Nat) (latched : BitVec 16) : Statement (.digestFrame lane hdr ok digests latched) := fun _ _ e => by cases e
theorem sliceFrame (lane : Fin 2) (hdr : List Byte) (ok : Bool) (data : List Byte) : Statement (.sliceFrame lane hdr ok data) := fun _ _ e => by cases e
theorem reportFrame (lane : Fin 2) (hdr : List Byte) (ok : Bool) (proofs : BitVec 18) (notice : Option (Nat × Nat)) : Statement (.reportFrame lane hdr ok proofs notice) := fun _ _ e => by cases e
theorem bulkFrame (lane : Fin 2) (hdr : List Byte) (ok : Bool) (parts : List BulkPart) : Statement (.bulkFrame lane hdr ok parts) := fun _ _ e => by cases e
theorem controlFrame (lane : Fin 2) (hdr : List Byte) (ok : Bool) (c : MirControl) : Statement (.controlFrame lane hdr ok c) := fun _ _ e => by cases e
theorem divergenceOutcome : Statement (.divergenceOutcome) := fun _ _ e => by cases e
theorem permitInEdge : Statement (.permitInEdge) := fun _ _ e => by cases e
theorem permitInTimeout : Statement (.permitInTimeout) := fun _ _ e => by cases e
theorem drillProofTimeout (path : Fin 2) : Statement (.drillProofTimeout path) := fun _ _ e => by cases e
theorem pairStatus (p : Packet) : Statement (.pairStatus p) := fun h q e => by cases e; exact Packet.wf_par _ h
theorem swapDrill (p : Packet) : Statement (.swapDrill p) := fun h q e => by cases e; exact Packet.wf_par _ h
theorem releasePermit (p : Packet) : Statement (.releasePermit p) := fun h q e => by cases e; exact Packet.wf_par _ h
theorem resyncStandby (p : Packet) : Statement (.resyncStandby p) := fun h q e => by cases e; exact Packet.wf_par _ h
theorem mirApply : Statement (.mirApply) := fun _ _ e => by cases e
theorem safetyCycle (r0 : Option Bool) (r1 : Option Bool) (r2 : Option Bool) (osc : List Int) (vdd : List (BitVec 8)) (sackLow : Bool) : Statement (.safetyCycle r0 r1 r2 osc vdd sackLow) := fun _ _ e => by cases e
theorem safeInputSample (a : BitVec 8) (b : BitVec 8) : Statement (.safeInputSample a b) := fun _ _ e => by cases e
theorem discrepancyTimeout (n : Fin 8) : Statement (.discrepancyTimeout n) := fun _ _ e => by cases e
theorem testPulse (k : Fin 4) (a : BitVec 8) (b : BitVec 8) : Statement (.testPulse k a b) := fun _ _ e => by cases e
theorem outputReadback (n : Fin 4) (a : Bool) (b : Bool) : Statement (.outputReadback n a b) := fun _ _ e => by cases e
theorem sealRead (r1 : BitVec 16) (r2 : BitVec 16) : Statement (.sealRead r1 r2) := fun _ _ e => by cases e
theorem pduReceived (c : Fin 1088) (bytes : List Byte) : Statement (.pduReceived c bytes) := fun _ _ e => by cases e
theorem safetyWatchdogLapse (c : Fin 1088) : Statement (.safetyWatchdogLapse c) := fun _ _ e => by cases e
theorem confirmationTimeout (c : Fin 1088) (b : Fin 8) : Statement (.confirmationTimeout c b) := fun _ _ e => by cases e
theorem sackRelease (conn : Option (Fin 1088)) (lowAt : BitVec 80) : Statement (.sackRelease conn lowAt) := fun _ _ e => by cases e
theorem sackStuck : Statement (.sackStuck) := fun _ _ e => by cases e
theorem loadSafetyParameters (p : Packet) : Statement (.loadSafetyParameters p) := fun h q e => by cases e; exact Packet.wf_par _ h
theorem getSafetyStatus (p : Packet) : Statement (.getSafetyStatus p) := fun h q e => by cases e; exact Packet.wf_par _ h
theorem requestSafeStop (p : Packet) : Statement (.requestSafeStop p) := fun h q e => by cases e; exact Packet.wf_par _ h
theorem openSafetyConnection (p : Packet) : Statement (.openSafetyConnection p) := fun h q e => by cases e; exact Packet.wf_par _ h
theorem readSafetyLog (p : Packet) : Statement (.readSafetyLog p) := fun h q e => by cases e; exact Packet.wf_par _ h
theorem nvmeCommandComplete (d : Fin 4) (k : Nat) (status : Nat) (data : List Byte) : Statement (.nvmeCommandComplete d k status data) := fun _ _ e => by cases e
theorem nvmeTimeout (d : Fin 4) : Statement (.nvmeTimeout d) := fun _ _ e => by cases e
theorem flushTimer : Statement (.flushTimer) := fun _ _ e => by cases e
theorem mountStore (p : Packet) : Statement (.mountStore p) := fun h q e => by cases e; exact Packet.wf_par _ h
theorem readRecord (p : Packet) : Statement (.readRecord p) := fun h q e => by cases e; exact Packet.wf_par _ h
theorem listRecords (p : Packet) : Statement (.listRecords p) := fun h q e => by cases e; exact Packet.wf_par _ h
theorem deleteRecords (p : Packet) : Statement (.deleteRecords p) := fun h q e => by cases e; exact Packet.wf_par _ h
theorem flushStore (p : Packet) : Statement (.flushStore p) := fun h q e => by cases e; exact Packet.wf_par _ h
theorem compactLedger (p : Packet) : Statement (.compactLedger p) := fun h q e => by cases e; exact Packet.wf_par _ h
theorem readLedger (p : Packet) : Statement (.readLedger p) := fun h q e => by cases e; exact Packet.wf_par _ h
theorem ledgerCompacted : Statement (.ledgerCompacted) := fun _ _ e => by cases e
theorem packetFetch (heads : List (Fin 64 × List Byte)) (host : HostRead) : Statement (.packetFetch heads host) := fun _ _ e => by cases e
theorem sqDoorbell (q : Fin 64) (v : BitVec 16) : Statement (.sqDoorbell q v) := fun _ _ e => by cases e
theorem cqDoorbell (c : Fin 64) (v : BitVec 16) : Statement (.cqDoorbell c v) := fun _ _ e => by cases e
theorem evtDoorbell (v : BitVec 16) : Statement (.evtDoorbell v) := fun _ _ e => by cases e
theorem ringEnable (kind : Fin 3) (n : Fin 64) (v : Word) : Statement (.ringEnable kind n v) := fun _ _ e => by cases e
theorem ringDisable (kind : Fin 3) (n : Fin 64) (v : Word) : Statement (.ringDisable kind n v) := fun _ _ e => by cases e
theorem pcieDmaError (kind : Fin 3) (n : Fin 64) : Statement (.pcieDmaError kind n) := fun _ _ e => by cases e
theorem msixCoalesceTimeout (v : Fin 64) : Statement (.msixCoalesceTimeout v) := fun _ _ e => by cases e
theorem sessionProofTimeout (sid : BitVec 16) : Statement (.sessionProofTimeout sid) := fun _ _ e => by cases e
theorem getCertificate (p : Packet) : Statement (.getCertificate p) := fun h q e => by cases e; exact Packet.wf_par _ h
theorem attest (p : Packet) : Statement (.attest p) := fun h q e => by cases e; exact Packet.wf_par _ h
theorem openSession (p : Packet) : Statement (.openSession p) := fun h q e => by cases e; exact Packet.wf_par _ h
theorem closeSession (p : Packet) : Statement (.closeSession p) := fun h q e => by cases e; exact Packet.wf_par _ h
theorem installFirmware (p : Packet) : Statement (.installFirmware p) := fun h q e => by cases e; exact Packet.wf_par _ h
theorem unlockDebug (p : Packet) : Statement (.unlockDebug p) := fun h q e => by cases e; exact Packet.wf_par _ h
theorem debugMailbox (t : Option (List Byte)) : Statement (.debugMailbox t) := fun _ _ e => by cases e
theorem debugScopeExpiry : Statement (.debugScopeExpiry) := fun _ _ e => by cases e
theorem createJob (p : Packet) : Statement (.createJob p) := fun h q e => by cases e; exact Packet.wf_par _ h
theorem postEvent (p : Packet) : Statement (.postEvent p) := fun h q e => by cases e; exact Packet.wf_par _ h
theorem mapPages (p : Packet) : Statement (.mapPages p) := fun h q e => by cases e; exact Packet.wf_par _ h
theorem resumeDma (p : Packet) : Statement (.resumeDma p) := fun h q e => by cases e; exact Packet.wf_par _ h
theorem taskDispatch (bad : Bool) (host : HostRead) : Statement (.taskDispatch bad host) := fun _ _ e => by cases e
theorem taskWait (c : Fin 6) (mask : Word) (all : Bool) : Statement (.taskWait c mask all) := fun _ _ e => by cases e
theorem taskEnd (c : Fin 6) : Statement (.taskEnd c) := fun _ _ e => by cases e
theorem periodTimer (t : Fin 256) : Statement (.periodTimer t) := fun _ _ e => by cases e
theorem dmaDescriptorPush (n : Fin 16) (b : List Byte) : Statement (.dmaDescriptorPush n b) := fun _ _ e => by cases e
theorem dmaDescriptorComplete (n : Fin 16) (ext : HostRead) : Statement (.dmaDescriptorComplete n ext) := fun _ _ e => by cases e
theorem dmaFault (n : Fin 16) (ext : List Byte) : Statement (.dmaFault n ext) := fun _ _ e => by cases e
theorem configCan (p : Packet) : Statement (.configCan p) := fun h q e => by cases e; exact Packet.wf_par _ h
theorem loadFilters (p : Packet) : Statement (.loadFilters p) := fun h q e => by cases e; exact Packet.wf_par _ h
theorem startAutobaud (p : Packet) : Statement (.startAutobaud p) := fun h q e => by cases e; exact Packet.wf_par _ h
theorem autobaudWindowExpiry (n : Fin 2) : Statement (.autobaudWindowExpiry n) := fun _ _ e => by cases e
theorem canSend (p : Packet) : Statement (.canSend p) := fun h q e => by cases e; exact Packet.wf_par _ h
theorem getCanStatus (p : Packet) : Statement (.getCanStatus p) := fun h q e => by cases e; exact Packet.wf_par _ h
theorem canApply (n : Fin 2) : Statement (.canApply n) := fun _ _ e => by cases e
theorem canFrameReceived (n : Fin 2) (id : Word) (dlc : BitVec 6) (sof : BitVec 80) (data : List Byte) (acked : Bool) (exc : Bool) : Statement (.canFrameReceived n id dlc sof data acked exc) := fun _ _ e => by cases e
theorem canTxRequest (n : Fin 2) (mask : Word) : Statement (.canTxRequest n mask) := fun _ _ e => by cases e
theorem canTxCancel (n : Fin 2) (mask : Word) (onBus : Option (Fin 32)) : Statement (.canTxCancel n mask onBus) := fun _ _ e => by cases e
theorem canTransmitAt (n : Fin 2) (b : Fin 32) : Statement (.canTransmitAt n b) := fun _ _ e => by cases e
theorem canTxComplete (n : Fin 2) (b : Fin 32) (out : Fin 3) (sof : BitVec 80) (delay : Option (BitVec 8)) : Statement (.canTxComplete n b out sof delay) := fun _ _ e => by cases e
theorem canErrorDetected (n : Fin 2) (kind : Fin 7) (dat : Bool) (tx : Bool) (big : Bool) (exempt : Bool) : Statement (.canErrorDetected n kind dat tx big exempt) := fun _ _ e => by cases e
theorem busRecovered (n : Fin 2) : Statement (.busRecovered n) := fun _ _ e => by cases e
theorem canHeartbeatPeriod (n : Fin 2) : Statement (.canHeartbeatPeriod n) := fun _ _ e => by cases e
theorem canRxAck (n : Fin 2) (k : Fin 2) (idx : BitVec 6) : Statement (.canRxAck n k idx) := fun _ _ e => by cases e
theorem canTxeAck (n : Fin 2) (idx : BitVec 5) : Statement (.canTxeAck n idx) := fun _ _ e => by cases e
theorem mailboxStatusRead (n : Fin 2) (m : Fin 64) : Statement (.mailboxStatusRead n m) := fun _ _ e => by cases e
theorem mailboxReleaseRead (n : Fin 2) (m : Fin 64) : Statement (.mailboxReleaseRead n m) := fun _ _ e => by cases e
theorem lockTimeout (n : Fin 2) : Statement (.lockTimeout n) := fun _ _ e => by cases e
theorem supplyWarn (b : Fin 16) (ok : Bool) (high : Bool) : Statement (.supplyWarn b ok high) := fun _ _ e => by cases e
theorem vbatLow (mv : BitVec 16) : Statement (.vbatLow mv) := fun _ _ e => by cases e
theorem pllUnlock (pll : Fin 9) : Statement (.pllUnlock pll) := fun _ _ e => by cases e
theorem rtcInvalid : Statement (.rtcInvalid) := fun _ _ e => by cases e
theorem refclkLost (pex : Bool) (ok : Bool) : Statement (.refclkLost pex ok) := fun _ _ e => by cases e
theorem temperatureSample (t : BitVec 16) : Statement (.temperatureSample t) := fun _ _ e => by cases e
theorem funcWrite (n : Fin 24) (v : Word) : Statement (.funcWrite n v) := fun _ _ e => by cases e
theorem parkEnd (n : Fin 24) : Statement (.parkEnd n) := fun _ _ e => by cases e
theorem registerWrite (a : BitVec 24) (size : BitVec 8) (v : BitVec 64) : Statement (.registerWrite a size v) := fun _ _ e => by cases e
theorem readClear (a : BitVec 24) (size : BitVec 8) : Statement (.readClear a size) := fun _ _ e => by cases e
theorem latchingRead (a : BitVec 24) (size : BitVec 8) : Statement (.latchingRead a size) := fun _ _ e => by cases e
theorem getTime (p : Packet) : Statement (.getTime p) := fun h q e => by cases e; exact Packet.wf_par _ h
theorem setMasterRank (p : Packet) : Statement (.setMasterRank p) := fun h q e => by cases e; exact Packet.wf_par _ h
theorem programEventOutput (p : Packet) : Statement (.programEventOutput p) := fun h q e => by cases e; exact Packet.wf_par _ h
theorem cancelEventOutput (p : Packet) : Statement (.cancelEventOutput p) := fun h q e => by cases e; exact Packet.wf_par _ h
theorem alignToPps (p : Packet) : Statement (.alignToPps p) := fun h q e => by cases e; exact Packet.wf_par _ h
theorem pllLocked (pll : Fin 9) : Statement (.pllLocked pll) := fun _ _ e => by cases e
theorem mirrorLaneLock (lane : Fin 2) (locked : Bool) : Statement (.mirrorLaneLock lane locked) := fun _ _ e => by cases e
theorem helloTimer (lane : Fin 2) : Statement (.helloTimer lane) := fun _ _ e => by cases e
theorem controllerSlot (n : Fin 10) (slot : Fin 768) : Statement (.controllerSlot n slot) := fun _ _ e => by cases e
theorem holderDownlinkFrame (n : Fin 8) (c : Fin 2) (bytes : List Byte) : Statement (.holderDownlinkFrame n c bytes) := fun _ _ e => by cases e
theorem asyncReplyTimeout (n : Fin 10) (tag : BitVec 16) : Statement (.asyncReplyTimeout n tag) := fun _ _ e => by cases e
theorem rootPortLink (d : Fin 4) (up : Bool) (speed : Nat) (width : Nat) : Statement (.rootPortLink d up speed width) := fun _ _ e => by cases e
theorem pcieLinkTrained (speed : Fin 9) (width : Fin 9) : Statement (.pcieLinkTrained speed width) := fun _ _ e => by cases e
theorem vbatRestored (mv : BitVec 16) : Statement (.vbatRestored mv) := fun _ _ e => by cases e

end Laws.Packets
end Sys2Proof
end

