-- ==== Sys2Proof/Laws/Reset.lean ====
section
/-! SUPPORT. Sys2Proof/Laws/Reset.lean: what a reset leaves, and that the commands' ends keep the queue and the tally's range. -/
namespace Sys2Proof.Machine

@[simp] theorem assertReset_pending (a b c : Nat) (s : State) : (s.assertReset a b c).pending = s.pending := by simp only [State.assertReset]
@[simp] theorem assertReset_fuses (a b c : Nat) (s : State) : (s.assertReset a b c).fuses = s.fuses := by simp only [State.assertReset]
@[simp] theorem assertReset_dev (a b c : Nat) (s : State) : (s.assertReset a b c).dev = s.dev.cleared c := by simp only [State.assertReset]
@[simp] theorem assertReset_counters (a b c : Nat) (s : State) :
    (s.assertReset a b c).backup.counters = bumpTally a s.backup.counters := by simp only [State.assertReset]
@[simp] theorem assertReset_cause (a b c : Nat) (s : State) :
    (s.assertReset a b c).backup.cause = some ⟨a, b, s.dev.now, s.dev.on LTM_STATUS.VALID, false, s.dev.mode⟩ := by simp only [State.assertReset]

/-- After a reset the mode is the one given. -/
@[simp] theorem cleared_mode (m : Nat) (d : Dev) (h : m < 16) : (d.cleared m).mode = m := by
  unfold Dev.cleared Dev.mode
  rw [Dev.get_set_same _ _ _ (by decide)]
  exact Nat.mod_eq_of_lt h
/-- Every other register is at its reset value. -/
theorem cleared_rd (m : Nat) (d : Dev) (a : Nat) (h : a ≠ SYS_MODE) : (d.cleared m).rd a = (resetOf a).toNat := by
  unfold Dev.cleared
  rw [Dev.rd_set_other _ _ _ _ h]
  simp [Dev.rd, Dev.word, Dev.reset, smGet]

@[simp] theorem takeReset_pending (s : State) : s.takeReset.pending = s.pending := by
  unfold State.takeReset; split
  · exact assertReset_pending _ _ _ _
  · rfl
@[simp] theorem takeReset_fuses (s : State) : s.takeReset.fuses = s.fuses := by
  unfold State.takeReset; split
  · exact assertReset_fuses _ _ _ _
  · rfl
@[simp] theorem settle_pending (s : State) : s.settle.pending = s.pending := by
  unfold State.settle; dsimp only; rw [takeReset_pending]

theorem bumpTally_length (k : Nat) (cs : List Nat) : (bumpTally k cs).length = cs.length := by simp [bumpTally]
theorem bumpTally_le (k : Nat) (cs : List Nat) (h : ∀ c ∈ cs, c ≤ 0xFFFF) : ∀ c ∈ bumpTally k cs, c ≤ 0xFFFF := by
  intro c hc
  simp only [bumpTally, List.mem_map] at hc
  obtain ⟨⟨x, i⟩, hm, rfl⟩ := hc
  have hx : x ∈ cs := List.fst_mem_of_mem_zipIdx hm
  dsimp only; split
  · exact satAdd_le 16 x 1
  · exact h x hx

/-- A reset keeps the tally and the clock in range. -/
theorem assertReset_inRange (a b c : Nat) (s : State) (h : s.backup.inRange) : (s.assertReset a b c).backup.inRange := by
  obtain ⟨h1, h2, _, _⟩ := h
  simp only [State.assertReset, Backup.inRange, bumpTally_length]
  refine ⟨h1, bumpTally_le _ _ h2, ?_, ?_⟩
  · exact Nat.mod_lt _ (by norm_num)
  · exact Nat.mod_lt _ (by norm_num)
theorem takeReset_inRange (s : State) (h : s.backup.inRange) : s.takeReset.backup.inRange := by
  unfold State.takeReset; split
  · exact assertReset_inRange _ _ _ _ h
  · exact h
/-- Clearing counters keeps them in range. -/
theorem clearTally_inRange (m : Nat) (b : Backup) (h : b.inRange) : (b.clearTally m).inRange := by
  obtain ⟨h1, h2, h3, h4⟩ := h
  refine ⟨by simpa [Backup.clearTally] using h1, ?_, h3, h4⟩
  intro c hc
  simp only [Backup.clearTally, List.mem_map] at hc
  obtain ⟨⟨x, i⟩, hm, rfl⟩ := hc
  have hx : x ∈ b.counters := List.fst_mem_of_mem_zipIdx hm
  dsimp only; split
  · omega
  · exact h2 x hx

end Sys2Proof.Machine
end

