-- ==== Sys2Proof/Laws/Shared.lean ====
section
/-! SUPPORT. Sys2Proof/Laws/Shared.lean: the shared operations of a port, an axis, a commit and a free value: what each leaves unchanged, one lemma per
field, and what it makes of the field it changes. -/
namespace Sys2Proof.Machine

/-! A port's state written. -/
@[simp] theorem Dev.setPort_regs (n : Nat) (p : Port) (d : Dev) : (Dev.setPort n p d).regs = d.regs := rfl
@[simp] theorem Dev.setPort_live (n : Nat) (p : Port) (d : Dev) : (Dev.setPort n p d).live = d.live := rfl
@[simp] theorem Dev.setPort_latch (n : Nat) (p : Port) (d : Dev) : (Dev.setPort n p d).latch = d.latch := rfl
@[simp] theorem Dev.setPort_free (n : Nat) (p : Port) (d : Dev) : (Dev.setPort n p d).free = d.free := rfl
@[simp] theorem Dev.setPort_sys (n : Nat) (p : Port) (d : Dev) : (Dev.setPort n p d).sys = d.sys := rfl
@[simp] theorem Dev.setPort_hif (n : Nat) (p : Port) (d : Dev) : (Dev.setPort n p d).hif = d.hif := rfl
@[simp] theorem Dev.setPort_sec (n : Nat) (p : Port) (d : Dev) : (Dev.setPort n p d).sec = d.sec := rfl
@[simp] theorem Dev.setPort_ltm (n : Nat) (p : Port) (d : Dev) : (Dev.setPort n p d).ltm = d.ltm := rfl
@[simp] theorem Dev.setPort_evo (n : Nat) (p : Port) (d : Dev) : (Dev.setPort n p d).evo = d.evo := rfl
@[simp] theorem Dev.setPort_cyc (n : Nat) (p : Port) (d : Dev) : (Dev.setPort n p d).cyc = d.cyc := rfl
@[simp] theorem Dev.setPort_eng (n : Nat) (p : Port) (d : Dev) : (Dev.setPort n p d).eng = d.eng := rfl
@[simp] theorem Dev.setPort_axes (n : Nat) (p : Port) (d : Dev) : (Dev.setPort n p d).axes = d.axes := rfl
@[simp] theorem Dev.setPort_trc (n : Nat) (p : Port) (d : Dev) : (Dev.setPort n p d).trc = d.trc := rfl
@[simp] theorem Dev.setPort_fb (n : Nat) (p : Port) (d : Dev) : (Dev.setPort n p d).fb = d.fb := rfl
@[simp] theorem Dev.setPort_adc (n : Nat) (p : Port) (d : Dev) : (Dev.setPort n p d).adc = d.adc := rfl
@[simp] theorem Dev.setPort_acq (n : Nat) (p : Port) (d : Dev) : (Dev.setPort n p d).acq = d.acq := rfl
@[simp] theorem Dev.setPort_dram (n : Nat) (p : Port) (d : Dev) : (Dev.setPort n p d).dram = d.dram := rfl
@[simp] theorem Dev.setPort_sto (n : Nat) (p : Port) (d : Dev) : (Dev.setPort n p d).sto = d.sto := rfl
@[simp] theorem Dev.setPort_saf (n : Nat) (p : Port) (d : Dev) : (Dev.setPort n p d).saf = d.saf := rfl
@[simp] theorem Dev.setPort_can (n : Nat) (p : Port) (d : Dev) : (Dev.setPort n p d).can = d.can := rfl
@[simp] theorem Dev.setPort_sch (n : Nat) (p : Port) (d : Dev) : (Dev.setPort n p d).sch = d.sch := rfl
@[simp] theorem Dev.setPort_mir (n : Nat) (p : Port) (d : Dev) : (Dev.setPort n p d).mir = d.mir := rfl
@[simp] theorem Dev.setPort_ledger (n : Nat) (p : Port) (d : Dev) : (Dev.setPort n p d).ledger = d.ledger := rfl
@[simp] theorem Dev.setPort_out (n : Nat) (p : Port) (d : Dev) : (Dev.setPort n p d).out = d.out := rfl

/-! An axis's state written. -/
@[simp] theorem Dev.setAxis_regs (a : Nat) (x : AxisState) (d : Dev) : (Dev.setAxis a x d).regs = d.regs := rfl
@[simp] theorem Dev.setAxis_live (a : Nat) (x : AxisState) (d : Dev) : (Dev.setAxis a x d).live = d.live := rfl
@[simp] theorem Dev.setAxis_latch (a : Nat) (x : AxisState) (d : Dev) : (Dev.setAxis a x d).latch = d.latch := rfl
@[simp] theorem Dev.setAxis_free (a : Nat) (x : AxisState) (d : Dev) : (Dev.setAxis a x d).free = d.free := rfl
@[simp] theorem Dev.setAxis_sys (a : Nat) (x : AxisState) (d : Dev) : (Dev.setAxis a x d).sys = d.sys := rfl
@[simp] theorem Dev.setAxis_hif (a : Nat) (x : AxisState) (d : Dev) : (Dev.setAxis a x d).hif = d.hif := rfl
@[simp] theorem Dev.setAxis_sec (a : Nat) (x : AxisState) (d : Dev) : (Dev.setAxis a x d).sec = d.sec := rfl
@[simp] theorem Dev.setAxis_ltm (a : Nat) (x : AxisState) (d : Dev) : (Dev.setAxis a x d).ltm = d.ltm := rfl
@[simp] theorem Dev.setAxis_evo (a : Nat) (x : AxisState) (d : Dev) : (Dev.setAxis a x d).evo = d.evo := rfl
@[simp] theorem Dev.setAxis_ports (a : Nat) (x : AxisState) (d : Dev) : (Dev.setAxis a x d).ports = d.ports := rfl
@[simp] theorem Dev.setAxis_cyc (a : Nat) (x : AxisState) (d : Dev) : (Dev.setAxis a x d).cyc = d.cyc := rfl
@[simp] theorem Dev.setAxis_eng (a : Nat) (x : AxisState) (d : Dev) : (Dev.setAxis a x d).eng = d.eng := rfl
@[simp] theorem Dev.setAxis_trc (a : Nat) (x : AxisState) (d : Dev) : (Dev.setAxis a x d).trc = d.trc := rfl
@[simp] theorem Dev.setAxis_fb (a : Nat) (x : AxisState) (d : Dev) : (Dev.setAxis a x d).fb = d.fb := rfl
@[simp] theorem Dev.setAxis_adc (a : Nat) (x : AxisState) (d : Dev) : (Dev.setAxis a x d).adc = d.adc := rfl
@[simp] theorem Dev.setAxis_acq (a : Nat) (x : AxisState) (d : Dev) : (Dev.setAxis a x d).acq = d.acq := rfl
@[simp] theorem Dev.setAxis_dram (a : Nat) (x : AxisState) (d : Dev) : (Dev.setAxis a x d).dram = d.dram := rfl
@[simp] theorem Dev.setAxis_sto (a : Nat) (x : AxisState) (d : Dev) : (Dev.setAxis a x d).sto = d.sto := rfl
@[simp] theorem Dev.setAxis_saf (a : Nat) (x : AxisState) (d : Dev) : (Dev.setAxis a x d).saf = d.saf := rfl
@[simp] theorem Dev.setAxis_can (a : Nat) (x : AxisState) (d : Dev) : (Dev.setAxis a x d).can = d.can := rfl
@[simp] theorem Dev.setAxis_sch (a : Nat) (x : AxisState) (d : Dev) : (Dev.setAxis a x d).sch = d.sch := rfl
@[simp] theorem Dev.setAxis_mir (a : Nat) (x : AxisState) (d : Dev) : (Dev.setAxis a x d).mir = d.mir := rfl
@[simp] theorem Dev.setAxis_ledger (a : Nat) (x : AxisState) (d : Dev) : (Dev.setAxis a x d).ledger = d.ledger := rfl
@[simp] theorem Dev.setAxis_out (a : Nat) (x : AxisState) (d : Dev) : (Dev.setAxis a x d).out = d.out := rfl

/-! A commit held for its boundary. -/
@[simp] theorem Dev.holdCommit_regs (u : Nat) (ws : List (Nat × Word)) (r : Option PktRef) (d : Dev) : (Dev.holdCommit u ws r d).regs = d.regs := rfl
@[simp] theorem Dev.holdCommit_live (u : Nat) (ws : List (Nat × Word)) (r : Option PktRef) (d : Dev) : (Dev.holdCommit u ws r d).live = d.live := rfl
@[simp] theorem Dev.holdCommit_latch (u : Nat) (ws : List (Nat × Word)) (r : Option PktRef) (d : Dev) : (Dev.holdCommit u ws r d).latch = d.latch := rfl
@[simp] theorem Dev.holdCommit_free (u : Nat) (ws : List (Nat × Word)) (r : Option PktRef) (d : Dev) : (Dev.holdCommit u ws r d).free = d.free := rfl
@[simp] theorem Dev.holdCommit_sys (u : Nat) (ws : List (Nat × Word)) (r : Option PktRef) (d : Dev) : (Dev.holdCommit u ws r d).sys = d.sys := rfl
@[simp] theorem Dev.holdCommit_hif (u : Nat) (ws : List (Nat × Word)) (r : Option PktRef) (d : Dev) : (Dev.holdCommit u ws r d).hif = d.hif := rfl
@[simp] theorem Dev.holdCommit_sec (u : Nat) (ws : List (Nat × Word)) (r : Option PktRef) (d : Dev) : (Dev.holdCommit u ws r d).sec = d.sec := rfl
@[simp] theorem Dev.holdCommit_ltm (u : Nat) (ws : List (Nat × Word)) (r : Option PktRef) (d : Dev) : (Dev.holdCommit u ws r d).ltm = d.ltm := rfl
@[simp] theorem Dev.holdCommit_evo (u : Nat) (ws : List (Nat × Word)) (r : Option PktRef) (d : Dev) : (Dev.holdCommit u ws r d).evo = d.evo := rfl
@[simp] theorem Dev.holdCommit_ports (u : Nat) (ws : List (Nat × Word)) (r : Option PktRef) (d : Dev) : (Dev.holdCommit u ws r d).ports = d.ports := rfl
@[simp] theorem Dev.holdCommit_eng (u : Nat) (ws : List (Nat × Word)) (r : Option PktRef) (d : Dev) : (Dev.holdCommit u ws r d).eng = d.eng := rfl
@[simp] theorem Dev.holdCommit_axes (u : Nat) (ws : List (Nat × Word)) (r : Option PktRef) (d : Dev) : (Dev.holdCommit u ws r d).axes = d.axes := rfl
@[simp] theorem Dev.holdCommit_trc (u : Nat) (ws : List (Nat × Word)) (r : Option PktRef) (d : Dev) : (Dev.holdCommit u ws r d).trc = d.trc := rfl
@[simp] theorem Dev.holdCommit_fb (u : Nat) (ws : List (Nat × Word)) (r : Option PktRef) (d : Dev) : (Dev.holdCommit u ws r d).fb = d.fb := rfl
@[simp] theorem Dev.holdCommit_adc (u : Nat) (ws : List (Nat × Word)) (r : Option PktRef) (d : Dev) : (Dev.holdCommit u ws r d).adc = d.adc := rfl
@[simp] theorem Dev.holdCommit_acq (u : Nat) (ws : List (Nat × Word)) (r : Option PktRef) (d : Dev) : (Dev.holdCommit u ws r d).acq = d.acq := rfl
@[simp] theorem Dev.holdCommit_dram (u : Nat) (ws : List (Nat × Word)) (r : Option PktRef) (d : Dev) : (Dev.holdCommit u ws r d).dram = d.dram := rfl
@[simp] theorem Dev.holdCommit_sto (u : Nat) (ws : List (Nat × Word)) (r : Option PktRef) (d : Dev) : (Dev.holdCommit u ws r d).sto = d.sto := rfl
@[simp] theorem Dev.holdCommit_saf (u : Nat) (ws : List (Nat × Word)) (r : Option PktRef) (d : Dev) : (Dev.holdCommit u ws r d).saf = d.saf := rfl
@[simp] theorem Dev.holdCommit_can (u : Nat) (ws : List (Nat × Word)) (r : Option PktRef) (d : Dev) : (Dev.holdCommit u ws r d).can = d.can := rfl
@[simp] theorem Dev.holdCommit_sch (u : Nat) (ws : List (Nat × Word)) (r : Option PktRef) (d : Dev) : (Dev.holdCommit u ws r d).sch = d.sch := rfl
@[simp] theorem Dev.holdCommit_mir (u : Nat) (ws : List (Nat × Word)) (r : Option PktRef) (d : Dev) : (Dev.holdCommit u ws r d).mir = d.mir := rfl
@[simp] theorem Dev.holdCommit_ledger (u : Nat) (ws : List (Nat × Word)) (r : Option PktRef) (d : Dev) : (Dev.holdCommit u ws r d).ledger = d.ledger := rfl
@[simp] theorem Dev.holdCommit_out (u : Nat) (ws : List (Nat × Word)) (r : Option PktRef) (d : Dev) : (Dev.holdCommit u ws r d).out = d.out := rfl

/-! A free value drawn: the counter alone moves. -/
@[simp] theorem Dev.draw_regs (d : Dev) : d.draw.2.regs = d.regs := rfl
@[simp] theorem Dev.draw_live (d : Dev) : d.draw.2.live = d.live := rfl
@[simp] theorem Dev.draw_latch (d : Dev) : d.draw.2.latch = d.latch := rfl
@[simp] theorem Dev.draw_sys (d : Dev) : d.draw.2.sys = d.sys := rfl
@[simp] theorem Dev.draw_hif (d : Dev) : d.draw.2.hif = d.hif := rfl
@[simp] theorem Dev.draw_sec (d : Dev) : d.draw.2.sec = d.sec := rfl
@[simp] theorem Dev.draw_ltm (d : Dev) : d.draw.2.ltm = d.ltm := rfl
@[simp] theorem Dev.draw_evo (d : Dev) : d.draw.2.evo = d.evo := rfl
@[simp] theorem Dev.draw_ports (d : Dev) : d.draw.2.ports = d.ports := rfl
@[simp] theorem Dev.draw_cyc (d : Dev) : d.draw.2.cyc = d.cyc := rfl
@[simp] theorem Dev.draw_eng (d : Dev) : d.draw.2.eng = d.eng := rfl
@[simp] theorem Dev.draw_axes (d : Dev) : d.draw.2.axes = d.axes := rfl
@[simp] theorem Dev.draw_trc (d : Dev) : d.draw.2.trc = d.trc := rfl
@[simp] theorem Dev.draw_fb (d : Dev) : d.draw.2.fb = d.fb := rfl
@[simp] theorem Dev.draw_adc (d : Dev) : d.draw.2.adc = d.adc := rfl
@[simp] theorem Dev.draw_acq (d : Dev) : d.draw.2.acq = d.acq := rfl
@[simp] theorem Dev.draw_dram (d : Dev) : d.draw.2.dram = d.dram := rfl
@[simp] theorem Dev.draw_sto (d : Dev) : d.draw.2.sto = d.sto := rfl
@[simp] theorem Dev.draw_saf (d : Dev) : d.draw.2.saf = d.saf := rfl
@[simp] theorem Dev.draw_can (d : Dev) : d.draw.2.can = d.can := rfl
@[simp] theorem Dev.draw_sch (d : Dev) : d.draw.2.sch = d.sch := rfl
@[simp] theorem Dev.draw_mir (d : Dev) : d.draw.2.mir = d.mir := rfl
@[simp] theorem Dev.draw_ledger (d : Dev) : d.draw.2.ledger = d.ledger := rfl
@[simp] theorem Dev.draw_out (d : Dev) : d.draw.2.out = d.out := rfl
@[simp] theorem Dev.draw_free (d : Dev) : d.draw.2.free = d.free + 1 := rfl

/-! What the changed field becomes. -/
@[simp] theorem Dev.setPort_ports (n : Nat) (p : Port) (d : Dev) : (Dev.setPort n p d).ports = smSet (fun _ => Port.reset) d.ports n p := rfl
@[simp] theorem Dev.setAxis_axes (a : Nat) (x : AxisState) (d : Dev) : (Dev.setAxis a x d).axes = smSet (fun _ => AxisState.reset) d.axes a x := rfl
@[simp] theorem Dev.holdCommit_commits (u : Nat) (ws : List (Nat × Word)) (r : Option PktRef) (d : Dev) :
    (Dev.holdCommit u ws r d).cyc.commits = d.cyc.commits ++ [⟨u, ws, r⟩] := rfl

/-- A bell that cuts frames changes the ports and the transcript only (R101). -/
theorem Dev.cutFrames_keeps (n : Nat) (t : LTime) (d : Dev) :
    ∃ ps os, Dev.cutFrames n t d = { d with ports := ps, out := os } := by
  have one : ∀ (c : Nat) (e : Dev), ∃ ps os,
      (if e.txEnd n c ≤ t || !e.laneReady n c then e
        else (e.setPort n { e.port n with txEnd := putKey c t (e.port n).txEnd }).emit (.frameCut n c)) = { e with ports := ps, out := os } := by
    intro c e
    split
    · exact ⟨e.ports, e.out, rfl⟩
    · exact ⟨_, _, rfl⟩
  obtain ⟨p0, o0, h0⟩ := one 0 d
  obtain ⟨p1, o1, h1⟩ := one 1 { d with ports := p0, out := o0 }
  exact ⟨p1, o1, (congrArg (fun e : Dev => if e.txEnd n 1 ≤ t || !e.laneReady n 1 then e
    else (e.setPort n { e.port n with txEnd := putKey 1 t (e.port n).txEnd }).emit (.frameCut n 1)) h0).trans h1⟩

end Sys2Proof.Machine
end

