-- ==== Sys2Proof/Tests/Slice0.lean ====
section
/-! SUPPORT. Sys2Proof/Tests/Slice0.lean: small states, one witness theorem per obligation (each of its clauses met by a concrete state and
operands), ill-formed terms that WellFormed refuses, the manual's worked examples, and single steps. Where a clause runs through the
uninterpreted cipher or signature check, its witness takes a cipher that opens or an image that verifies as given. -/
namespace Sys2Proof.Tests
open Sys2Proof Sys2Proof.Machine
set_option maxRecDepth 20000
set_option Elab.async false

/-- The reset state after an update of the device. -/
def st (f : Dev → Dev) : State := State.reset.onDev f
/-- The device in mode `m` with the host endpoint ready, after a further update. -/
def at_ (m : Nat) (f : Dev → Dev) : State := st (fun d => f ((d.set SYS_MODE.MODE m).set HIF_STATUS.READY 1))
/-- A packet on ring 0 without extension whose parameters hold the given (packet byte, size, value) fields. -/
def pk (fs : List (Nat × Nat × Nat)) : Packet :=
  { sq := 0, tag := 7, flags := 0, len := 0, session := 0, execAt := 0, tol := 0, sec := none, host := some []
    par := fs.foldl (fun b f => b.take (f.1 - 22) ++ leBytes f.2.1 f.2.2 ++ b.drop (f.1 - 22 + f.2.1)) (zeros 42) }
/-- The same with `n` extension units that hold the given bytes. -/
def pkx (n : Nat) (x : List Byte) (fs : List (Nat × Nat × Nat)) : Packet :=
  { pk fs with len := BitVec.ofNat 8 n, flags := 1, par := (pk fs).par ++ padTo (16 * n) x }
/-- Whether a plain packet passes the acceptance checks at once. -/
def runsOk (op : Opcode) (p : Packet) (d : Dev) : Bool :=
  d.ready && decide (op.lMin ≤ p.len.toNat) && decide (p.len.toNat ≤ op.lMax) && decide (p.flags.toNat < 16) &&
    (hasFlag p 0 == decide (0 < p.len.toNat)) && !hasFlag p 1 && !hasFlag p 2 && (demanded op p (d.owe p.sq.val)).isEmpty &&
    decide (op.modes p (d.owe p.sq.val) = 0)
/-- Such a packet runs on the state that owes its completion. -/
theorem runs_plain (op : Opcode) (p : Packet) (d : Dev) (h : runsOk op p d = true) : Runs op p d p (d.owe p.sq.val) := by
  simp only [runsOk, Bool.and_eq_true, decide_eq_true_eq, Bool.not_eq_true', beq_iff_eq, List.isEmpty_iff] at h
  obtain ⟨⟨⟨⟨⟨⟨⟨⟨h1, h2⟩, h3⟩, h4⟩, h5⟩, h6⟩, h7⟩, h8⟩, h9⟩ := h
  refine ⟨h1, ⟨h2, h3⟩, ⟨h4, ?_, ?_⟩, ?_, h9, .inl h7⟩
  · rw [h5, h6, Bool.or_false]
  · rw [h7]; intro e; cases e
  · exact authenticate_plain op p _ h6 h8

/-- The null cipher: the integrity check accepts and the text stands as sent. It meets what the model says of `Config.gcmOpen`: nothing. -/
def nullCipher : Prop := ∀ k iv a c t, Config.gcmOpen k iv a c t = some c
/-- The device in mode `m` with the host endpoint ready and session 1 open with every class granted. -/
def auth (m : Nat) (f : Dev → Dev) : State :=
  at_ m (fun d => f { d with sec := { d.sec with sessions := [⟨1, [], [], 0, 2 ^ 32 - 1, 0, [], 0, none⟩] } })
/-- A packet authenticated in session 1 with counter 1. -/
def pka (p : Packet) : Packet := { p with flags := 3, session := 1, sec := some ⟨1, zeros 16⟩ }
/-- Such a packet as it runs. -/
def opened (p : Packet) : Packet := { p with par := padTo (42 + 16 * p.len.toNat) p.par, sec := some ⟨1, []⟩ }
/-- The device once the packet is authenticated. -/
def counted (p : Packet) (d : Dev) : Dev := (d.owe p.sq.val).mapSession 1 (fun y => { y with counter := 1, failures := 0 })
/-- Whether an authenticated packet passes the other checks. -/
def authOk (op : Opcode) (p : Packet) (d : Dev) : Bool :=
  d.ready && decide (op.lMin ≤ p.len.toNat) && decide (p.len.toNat ≤ op.lMax) && decide (p.flags = 3) && decide (p.session = 1) &&
    decide (p.sec = some ⟨1, zeros 16⟩) && decide (op.modes (opened p) (counted p d) = 0) &&
    decide ((d.owe p.sq.val).sec.sessions = [⟨1, [], [], 0, 2 ^ 32 - 1, 0, [], 0, none⟩]) &&
    (demanded op p (d.owe p.sq.val)).all (fun c => decide (c < 32))
theorem bit_granted (c : Nat) (h : c < 32) : bitAt (2 ^ 32 - 1) c = true := by
  revert h; revert c; decide
/-- Such a packet runs under the null cipher. -/
theorem runs_auth (hg : nullCipher) (op : Opcode) (p : Packet) (d : Dev) (h : authOk op p d = true) : Runs op p d (opened p) (counted p d) := by
  simp only [authOk, Bool.and_eq_true, decide_eq_true_eq, List.all_eq_true] at h
  obtain ⟨⟨⟨⟨⟨⟨⟨⟨h1, h2⟩, h3⟩, h4⟩, h5⟩, h6⟩, h7⟩, h8⟩, h9⟩ := h
  have f1 : hasFlag p 1 = true := by unfold hasFlag; rw [h4]; decide
  have f0 : hasFlag p 0 = true := by unfold hasFlag; rw [h4]; decide
  have f2 : hasFlag p 2 = false := by unfold hasFlag; rw [h4]; decide
  have hn : (demanded op p (d.owe p.sq.val)).all (fun c => bitAt (2 ^ 32 - 1) c) = true := by
    rw [List.all_eq_true]; intro c hc; exact bit_granted c (h9 c hc)
  refine ⟨h1, ⟨h2, h3⟩, ⟨by rw [h4]; decide, by rw [f0, f1]; simp, by rw [f2]; intro e; cases e⟩, ?_, h7, .inl ?_⟩
  · unfold Dev.authenticate
    simp only [f1, h8, h5, h6, if_true, Dev.when, hg _ _ _ _ _]
    have hn' : ∀ x ∈ demanded op p (d.owe p.sq.val), bitAt 4294967295 x = true := by simpa using hn
    simp [opened, counted, h5, if_pos hn']
  · exact f2

/-- A small package: nothing in it but its controller index. -/
def pkg0 : Package := { (default : Package) with index := 1 }
/-- A small schedule generation without blocks. -/
def gen0 : Generation := ⟨1, false, [], [], [], none⟩
/-- With the package loaded. -/
def withPkg (d : Dev) : Dev := { d with sys := { d.sys with package := some pkg0 }, cyc := { d.cyc with working := some gen0, active := some gen0 } }

/-- Mode 4 with a hop end in a state, after an update of its record. -/
def hop (v : Nat) (f : LinkCh → LinkCh) : State :=
  at_ 4 (fun d => (d.set (linkFld 0 0) v).setPort 0 { d.port 0 with chA := f (d.port 0).chA })
/-- Mode `m` after an update of port 0. -/
def port0 (m : Nat) (f : Port → Port) : State := at_ m (fun d => d.setPort 0 (f (d.port 0)))

/-- A slot entry at time 0: kind, owner, payload, pitch, group. -/
def slotE (kind owner pay pitch group : Nat) : SlotEntry := ⟨0, 0, 200, kind, owner, pay, pitch, group⟩
/-- A block of a port with the given slots and pitches. -/
def blkE (port : Nat) (es : List SlotEntry) (ps : List PitchEntry) : SchedBlock :=
  { gen := 1, port := port, rate := 2, pipelined := false, closed := false, period := 4000, uplink := 100, openWin := 200, down := 300, guard := 10,
    w1 := 0, w2 := 0, w3 := 0, planNodes := 4, claim := 0, span := 64, slots := es, pitches := ps }
/-- Mode `m` while cycles run with one block active, after a further update. -/
def runs (m : Nat) (es : List SlotEntry) (ps : List PitchEntry) (f : Dev → Dev) : State :=
  at_ m (fun d => f { d with cyc := { d.cyc with running := true, active := some ⟨1, false, [blkE 0 es ps], [], [], none⟩ } })
/-- An image of one block with one slot. -/
def image0 : List Byte :=
  leBytes 2 1 ++ leBytes 1 1 ++ leBytes 1 0 ++ leBytes 4 112 ++ zeros 8 ++
  (leBytes 2 1 ++ zeros 34 ++ leBytes 2 1 ++ zeros 42) ++ (leBytes 2 1 ++ zeros 14)
/-- An image whose digest the package lists passes, when its other checks do. -/
theorem image0_ok : imageStatus [Config.sha384 image0] 112 image0 = 0 := by
  unfold imageStatus
  have h : [Config.sha384 image0].contains (Config.sha384 image0) = true := by simp
  rw [h]
  rfl
theorem image_ok (l : List (List Byte)) (n : Nat) (b : List Byte) (hl : l = [Config.sha384 image0]) (hn : n = 112) (hb : b = image0) :
    imageStatus l n b = 0 := by
  subst hl hn hb
  exact image0_ok
/-- Mode `m` with mirror lane 0 up, after a further update. -/
def mirS (m : Nat) (f : Dev → Dev) : State := runs m [slotE 2 3 24 0 1, slotE 4 0 16 0 1] [] (fun d => f (d.set MIR_STATUS.LANES 1))
/-- A mirror header of the partner, the tail end, for cycle 0. -/
def mh (typ fl : Nat) : List Byte := mirHeader typ (2 + fl) 0 0 0 0
/-- A bell or HELLO frame of the partner with payload `pay`. -/
def mf (typ : Nat) (pay : List Byte) : List Byte := mirHeader typ 2 pay.length 0 0 0 ++ pay ++ leBytes 4 (crc32 pay)
/-- A permit holder in Run with a synchronised standby. -/
def holds (f : Dev → Dev) : State :=
  mirS 7 (fun d => f { ((d.set SYS_MODE.PERMIT 1).set MIR_STATUS.SYNCED 1).set MIR_STATUS.COMPATIBLE 1 with mir := { d.mir with up := true, reportAt := some 0 } })
/-- Run with cycles running and axis 0 planned on lane 0, after a further update. -/
def lanes (f : Dev → Dev) : State :=
  runs 7 [] [] (fun d => f { d with cyc := { d.cyc with active := some ⟨1, false, [blkE 0 [slotE 2 3 24 0 1] []], [], [⟨0, 0, 0⟩], none⟩ } })
/-- Mode 5 in a join. -/
def joins (j : Join) (f : Dev → Dev) : State :=
  at_ 5 (fun d => f { d with cyc := { d.cyc with join := some j, working := some ⟨1, false, [blkE 0 [slotE 0 0 40 0 1] []], [], [], none⟩ } })
/-- Parameters of axis 0 that pass every rule of a commit, by the given writer. -/
def goodAxis (w : Nat → Word → Dev → Dev) (d : Dev) : Dev :=
  w (AX 0 pVMAX) 0x3F800000 (w (AX 0 pTLIM) 0x3F800000 (w (AX 0 pSTOP_DECEL) 0x3F800000 (w (AX 0 pGEAR_DEN) 1 (w (AX 0 pMASTER) 2 d))))
/-- A drive register or state update by name is written out in the witnesses; this one gives drive 0 the record `n`. -/
def driveWith (n : Nat) (d : Dev) : Dev :=
  { d.set (STO_D_STATUS.STATE 0) 3 with sto := { d.sto with drives := [(0, { Drive.reset with n := 4, aus := [(0, ⟨n, 0, 1, 2, 1, 0⟩)] })] } }
/-- Capture unit 0 after an update of its record, in a state. -/
def capS (st : Nat) (f : CapUnit → CapUnit) : State := at_ 7 (fun d => (d.set (ACQ_U_STATE.STATE 0) st).setCap 0 (f (d.capUnit 0)))
/-- A package that gives capture 17 MiB. -/
def withCap (d : Dev) : Dev := { d with sys := { d.sys with package := some { pkg0 with dramCapture := 17825792 } } }
/-- A bytes list with numbers at places. -/
def bytesAt (n : Nat) (fs : List (Nat × Nat × Nat)) : List Byte := fs.foldl (fun b f => spliceAt b f.1 (leBytes f.2.1 f.2.2)) (zeros n)
/-- A safety parameter set of `n` connections with the given numbers, its check code in place. -/
def safSet0 (n : Nat) (fs : List (Nat × Nat × Nat)) : List Byte :=
  let b := bytesAt (160 + 32 * n) ([(0, 2, 1), (8, 4, 160 + 32 * n), (12, 2, n), (16, 2, 100), (18, 2, 10)] ++ fs)
  spliceAt b 2 (leBytes 2 (crc16 b))
/-- Mode `m` with a safety set active, after a further update. -/
def safS (m : Nat) (set : List Byte) (f : Dev → Dev) : State := at_ m (fun d => f { d with saf := { d.saf with active := some set } })
/-- Connection 0 of a set with one connection in a state. -/
def connS (st : Nat) (f : Dev → Dev) : State := safS 7 (safSet0 1 [(164, 1, 1)]) (fun d => f (d.set (SAF_CONN_W0.STATE 0) st))
/-- A PDU of connection 0's peer: kind, sequence. -/
def pdu (kind seq : Nat) : List Byte :=
  let b := bytesAt 44 [(0, 1, kind), (2, 2, seq)]
  b ++ leBytes 4 (crc32cFrom ((connS 2 id).dev.pduSeed 0 false) b)
/-- CAN channel 0 with six transmit buffers, after a further update. -/
def canS (m : Nat) (f : Dev → Dev) : State := at_ m (fun d => f ((d.wr (CAN_RAM_TX 0) 0x60000).goLive (CAN_RAM_TX 0) 0x60000))
/-- A pending buffer of a CAN channel. -/
def pendC (b : Nat) (since : Option LTime) : CanPend := ⟨b, since, 0, false, 0, false, none⟩
/-- Channel 0 with pending buffers, in a state of STATE. -/
def canP (st : Nat) (ps : List CanPend) (f : Dev → Dev) : State := canS 7 (fun d => f ((d.set (CAN_STATUS.STATE 0) st).setCan 0 { d.canCh 0 with pend := ps }))
/-- A task in a state. -/
def taskS (k st : Nat) (f : Dev → Dev) : State := at_ 7 (fun d => f { d with sch := { d.sch with tasks := [(k, { Task.reset with state := st })] } })
/-- Core 0 runs a task. -/
def coreS (k : Nat) (f : Task → Task) : State :=
  at_ 7 (fun d => { d with sch := { d.sch with cores := [(0, k)], tasks := [(k, f { Task.reset with state := 3, prio := 20 })] } })
/-- DMA channel 0 with a present descriptor. -/
def dmaS (x : DmaDesc) (f : Dev → Dev) : State := at_ 7 (fun d => Dev.setDma 0 ⟨[], some x, 0⟩ false (f d))
/-- Inputs of a computation at rest. -/
def lawIn0 : LawIn := ⟨0, 0, 0, false, false, false, none, false, false, none, false, false, 2000, false⟩
/-- Fuses whose root slot 0 holds the hash of the zero key, for debug use. -/
def fusesK : Fuses := { State.reset.fuses with root0 := ⟨padTo 48 (Config.sha384 (zeros 97)), 4, false⟩ }
/-- A debug token for scope 1 of that key and the zero challenge. -/
def tokenK : List Byte := magicToken ++ spliceAt (zeros 344) 40 ([1, 0] ++ leBytes 4 86400)
theorem keyOk_self : fusesK.keyOk 0 4 (zeros 97) = true := by simp [Fuses.keyOk, fusesK, Fuses.root]
theorem token_fits : (tokenK.take 8 == magicToken && fieldAt tokenK 8 8 == fusesK.serial && some (zeros 32) == some ((tokenK.drop 16).take 32) &&
    decide (fieldAt tokenK 48 1 < 16) && decide (1 ≤ fieldAt tokenK 50 4) && decide (fieldAt tokenK 50 4 ≤ 86400) &&
    fusesK.keyOk (fieldAt tokenK 49 1) 4 (padTo 97 ((tokenK.drop 64).take 97))) = true := by
  have h1 : fieldAt tokenK 49 1 = 0 := by decide +kernel
  have h2 : padTo 97 ((tokenK.drop 64).take 97) = zeros 97 := by decide +kernel
  rw [h1, h2, keyOk_self, Bool.and_true]
  decide +kernel
/-- A credential list that holds the hash of the zero key grants that key its classes. -/
theorem credential_self (n : Nat) (x : List Byte) (h : x = zeros 97) (hn : n = 16) (f : Bool) : some 5 =
    (if n < 4 then (if f then some (2 ^ 32 - 1) else none) else match [(Config.sha384 (zeros 97), 5)][n - 16]? with
      | some c => if padTo 48 (Config.sha384 x) == padTo 48 c.1 then some c.2 else none
      | none => none) := by
  subst h hn
  simp
/-- The check that accepts every signature. It meets what the model says of `Config.ecdsaOk`: nothing. -/
def everySignature : Prop := ∀ k m g, Config.ecdsaOk k m g = true
/-- The first 208 bytes of a firmware image of revision B1 that names root slot 0. -/
def imgTop : List Byte := spliceAt (zeros 208) 24 [0xB1]
/-- A firmware image without a body; its header holds the hash of the empty body. -/
def imgFw : List Byte := imgTop ++ (padTo 48 (Config.sha384 []) ++ zeros 256)
/-- Fuses whose root slot 0 holds the hash of the zero key, for firmware use. -/
def fusesB (p : Bool) : Fuses := { State.reset.fuses with root0 := ⟨padTo 48 (Config.sha384 (zeros 97)), 1, false⟩, provisioned := p }
theorem imgTop_length : imgTop.length = 208 := by decide +kernel
theorem imgFw_hash : imgHash imgFw = true := by
  have h1 : imgBody imgFw = [] := by simp [imgBody, imgFw, imgTop_length]
  have h2 : (imgFw.drop 208).take 48 = padTo 48 (Config.sha384 []) := by
    rw [imgFw, List.drop_append_of_le_length (by rw [imgTop_length]), List.drop_of_length_le (by rw [imgTop_length]), List.nil_append,
      List.take_append_of_le_length (by simp), List.take_of_length_le (by simp)]
  have h3 : padTo 48 (padTo 48 (Config.sha384 [])) = padTo 48 (Config.sha384 []) := by
    generalize hx : padTo 48 (Config.sha384 []) = x
    have hl : x.length = 48 := by rw [← hx, padTo_length]
    simp [padTo, hl, zeros, List.take_of_length_le]
  rw [imgHash, h1, h2, h3, beq_self_eq_true]
theorem imgFw_verifies (hs : everySignature) (p : Bool) : verifyImage (fusesB p) imgFw 1 true = 0 := by
  have h1 : imgSlot imgFw = 0 := by decide +kernel
  have h2 : imgKey imgFw = zeros 97 := by decide +kernel
  have h3 : imgRev imgFw = true := by decide +kernel
  have h4 : fieldAt imgFw 16 8 = 0 := by decide +kernel
  have h5 : (fusesB p).arbValue = 0 := by cases p <;> decide +kernel
  simp [verifyImage, h1, h2, h3, h4, h5, imgFw_hash, imgSigned, hs _ _ _,
    show (fusesB p).root 0 = ⟨padTo 48 (Config.sha384 (zeros 97)), 1, false⟩ from rfl]
/-- Boot with that image in slot A. -/
def bootS (p : Bool) : State :=
  { st (fun d => { d with sys := { d.sys with bootSel := 3 }, sec := { d.sec with slotA := { d.sec.slotA with seq := some 1, image := imgFw } } }) with fuses := fusesB p }
theorem bootS_tries (hs : everySignature) (p : Bool) : tryBoot (bootS p).fuses (bootS p).dev.bootOrder [] = (some (0, imgFw), []) := by
  have h : (bootS p).dev.bootOrder = [(0, imgFw)] := rfl
  rw [h]
  simp [tryBoot, show (bootS p).fuses = fusesB p from rfl, imgFw_verifies hs p]
/-- The first 208 bytes of an image of 512 bytes with a magic and a hardware class, of revision B1, that names root slot 0. -/
def topOf (m : List Byte) (cls : Nat) : List Byte := spliceAt (spliceAt (zeros 208) 0 (m ++ leBytes 4 512 ++ leBytes 2 1 ++ leBytes 2 cls)) 24 [0xB1]
/-- Such an image without a body. -/
def imageOf (m : List Byte) (cls : Nat) : List Byte := topOf m cls ++ (padTo 48 (Config.sha384 []) ++ zeros 256)
/-- An image that names no root slot. -/
def imageBad (m : List Byte) : List Byte := spliceAt (topOf m 0) 32 [0xFF]
/-- Fuses whose root slot 0 holds the hash of the zero key, for firmware and packages. -/
def fusesI : Fuses := { State.reset.fuses with root0 := ⟨padTo 48 (Config.sha384 (zeros 97)), 3, false⟩, provisioned := true }
/-- Such an image, as it is read from host memory, verifies. -/
theorem imageOf_verifies (hs : everySignature) (m : List Byte) (cls use n : Nat) (fw : Bool) (hm : m = magicFw ∨ m = magicPkg) (hc : cls = 0 ∨ cls = 1)
    (hu : use = 1 ∨ use = 2) (hn : n = 512) : verifyImage fusesI (padTo n (imageOf m cls)) use fw = 0 := by
  subst hn
  have hl : (topOf m cls).length = 208 := by rcases hm with rfl | rfl <;> rcases hc with rfl | rfl <;> decide +kernel
  have hp : padTo 512 (imageOf m cls) = imageOf m cls := by
    have hx : (imageOf m cls).length = 512 := by simp [imageOf, hl, zeros]
    simp [padTo, hx, zeros, List.take_of_length_le]
  rw [hp]
  have h2 : (imageOf m cls).drop 208 = padTo 48 (Config.sha384 []) ++ zeros 256 := by
    rw [imageOf, List.drop_append_of_le_length (by rw [hl]), List.drop_of_length_le (by rw [hl]), List.nil_append]
  have h1 : imgBody (imageOf m cls) = [] := List.drop_of_length_le (by simp [imageOf, hl, zeros])
  have hh : imgHash (imageOf m cls) = true := by
    have h3 : padTo 48 (padTo 48 (Config.sha384 [])) = padTo 48 (Config.sha384 []) := by
      generalize hx : padTo 48 (Config.sha384 []) = x
      have hl : x.length = 48 := by rw [← hx, padTo_length]
      simp [padTo, hl, zeros, List.take_of_length_le]
    rw [imgHash, h1, h2, List.take_append_of_le_length (by simp), List.take_of_length_le (by simp), h3, beq_self_eq_true]
  have k1 : imgSlot (imageOf m cls) = 0 := by rcases hm with rfl | rfl <;> rcases hc with rfl | rfl <;> decide +kernel
  have k2 : imgKey (imageOf m cls) = zeros 97 := by rcases hm with rfl | rfl <;> rcases hc with rfl | rfl <;> decide +kernel
  have k3 : imgRev (imageOf m cls) = true := by rcases hm with rfl | rfl <;> rcases hc with rfl | rfl <;> decide +kernel
  have k4 : fieldAt (imageOf m cls) 16 8 = 0 := by rcases hm with rfl | rfl <;> rcases hc with rfl | rfl <;> decide +kernel
  have k5 : fusesI.arbValue = 0 := by decide +kernel
  have k6 : ¬3 &&& use = 0 := by rcases hu with rfl | rfl <;> decide
  simp [verifyImage, k1, k2, k3, k4, k5, hh, imgSigned, hs _ _ _, show fusesI.root 0 = ⟨padTo 48 (Config.sha384 (zeros 97)), 3, false⟩ from rfl, k6]
/-- Ring 63 enabled with one entry ready. -/
def ringS : State := at_ 7 (fun d => ((d.set HIF_CTRL.FETCH_EN 1).set (HIF_SQ_CFG.EN 63) 1).set (HIF_DB_SQ.TAIL 63) 1)
/-- A packet entry of an opcode without parameters. -/
def entryOf (op : Nat) : List Byte := leBytes 2 op ++ zeros 62
/-- Task `k` ready at level 0, core 0 on. -/
def readyS (k : Nat) (f : Task → Task) (g : Dev → Dev) : State :=
  at_ 7 (fun d => g { d.set SCH_STATUS.CORE_ON 1 with sch := { d.sch with tasks := [(k, f { Task.reset with state := 2, affinity := 1 })], lists := [(0, [k])] } })

/-- A witness for StepRunsFrontCommand. -/
theorem test_witness_StepRunsFrontCommand : (∃ (c : Instr) (cs : List Instr) (s : State), (s.pending = c :: cs)) :=
  ⟨.mainPor, [.flushTimer], { State.reset with pending := [.mainPor, .flushTimer] }, by decide +kernel⟩
/-- A witness for each clause of EmptyQueueStepTicks. -/
theorem test_witness_EmptyQueueStepTicks :
    (∃ (s : State), (s.pending = []) ∧ (s.dev.mode < 2)) ∧
    (∃ (s : State), (s.pending = []) ∧ (2 ≤ s.dev.mode) ∧ (s.dev.on MIR_STATUS.PERMIT_OUT = false) ∧ (s.dev.sys.selfReset = false) ∧ (s.dev.sys.resetDue = none)) :=
  ⟨⟨at_ 1 id, by decide +kernel⟩,
   ⟨at_ 4 id, by decide +kernel⟩⟩
/-- A witness for QueueIsKept. -/
theorem test_witness_QueueIsKept : (∃ (c : Instr) (s : State) (t : State), (exec c s = .next t)) :=
  ⟨.canApply 0, at_ 7 id, _, rfl⟩
/-- A witness for each clause of OnlyDmaBeyondDramStops. -/
theorem test_witness_OnlyDmaBeyondDramStops :
    (∃ (n : Fin 16) (s : State) (x : DmaDesc), ((s.dev.dmaCh n.val).cur = some x) ∧ (s.dev.get (DMA_CH_STATUS.STATE n.val) ≠ 2) ∧ (s.dev.descFault x (s.dev.dmaCh n.val).pos = none) ∧ (s.dev.inHole x (s.dev.dmaCh n.val).pos x.len = true)) ∧
    (∃ (n : Fin 16) (s : State) (x : DmaDesc) (f : Nat) (demand : Bool) (write : Bool), ((s.dev.dmaCh n.val).cur = some x) ∧ (s.dev.get (DMA_CH_STATUS.STATE n.val) ≠ 2) ∧ (s.dev.descFault x (s.dev.dmaCh n.val).pos = some (f, demand, write)) ∧ (s.dev.inHole x (s.dev.dmaCh n.val).pos f = true)) :=
  ⟨⟨0, at_ 7 (fun d => d.setDma 0 ⟨[], some ⟨2, false, 2, 2, 4096, 0, 0, 1⟩, 0⟩ false), _, rfl, by decide +kernel⟩,
   ⟨0, at_ 7 (fun d => Dev.setDma 0 ⟨[], some ⟨1, false, 2, 3, 8192, 0, 2093056, 1⟩, 0⟩ false { d.set (MMU_CTX_CFG.EN 3) 1 with dram := [(0, 15)] }), _, 4096, false, true, rfl, by decide +kernel⟩⟩
/-- A witness for BackupDomainKeepsItsRange. -/
theorem test_witness_BackupDomainKeepsItsRange : (∃ (s : State) (t : State), (s.backup.inRange) ∧ (step s = .next t)) :=
  ⟨State.reset, _, by unfold Backup.inRange; decide, rfl⟩
/-- A witness for each clause of FusesAreOnlyBlown. -/
theorem test_witness_FusesAreOnlyBlown :
    (∃ (c : Instr) (s : State) (t : State), ((∀ p, c ≠ .installFirmware p)) ∧ ((∀ h x, c ≠ .packetFetch h x)) ∧ ((∀ b x, c ≠ .taskDispatch b x)) ∧ (c ≠ .scheduledPacketDue) ∧ ((∀ p, c ≠ .clearTally p)) ∧ (exec c s = .next t)) ∧
    (∃ (c : Instr) (s : State) (t : State), ((∀ p, c ≠ .installFirmware p)) ∧ ((∀ h x, c ≠ .packetFetch h x)) ∧ ((∀ b x, c ≠ .taskDispatch b x)) ∧ (c ≠ .scheduledPacketDue) ∧ ((∀ p, c ≠ .clearTally p)) ∧ (exec c s = .next t) ∧ ((∀ a b x y z u v w k l, c ≠ .bootComplete a b x y z u v w k l))) :=
  ⟨⟨.mainPor, State.reset, _, by simp, by simp, by simp, by simp, by simp, rfl⟩,
   ⟨.mainPor, State.reset, _, by simp, by simp, by simp, by simp, by simp, rfl, by simp⟩⟩
/-- A witness for each clause of SystemQueriesAnswer. -/
theorem test_witness_SystemQueriesAnswer :
    (∃ (s : State) (p : Packet) (p' : Packet) (d' : Dev), (Runs (opGetInfo s.fuses) p s.dev p' d') ∧ (par p' 22 1 = 0)) ∧
    (∃ (s : State) (p : Packet) (p' : Packet) (d' : Dev), (Runs (opGetInfo s.fuses) p s.dev p' d') ∧ (par p' 22 1 = 1)) ∧
    (∃ (s : State) (p : Packet) (p' : Packet) (d' : Dev), (Runs (opGetInfo s.fuses) p s.dev p' d') ∧ (1 < par p' 22 1)) ∧
    (∃ (s : State) (p : Packet) (p' : Packet) (d' : Dev), (Runs opGetMode p s.dev p' d')) ∧
    (∃ (s : State) (p : Packet) (p' : Packet) (d' : Dev) (bs : List Byte), (Runs (opReadTally s.backup) p s.dev p' d') ∧ (par p' 22 8 % 8 = 0) ∧ (p'.host = some bs)) ∧
    (∃ (s : State) (p : Packet) (p' : Packet) (d' : Dev), (Runs (opReadTally s.backup) p s.dev p' d') ∧ (par p' 22 8 % 8 ≠ 0)) ∧
    (∃ (s : State) (p : Packet) (p' : Packet) (d' : Dev) (d1 : Dev), (Runs (opReadTally s.backup) p s.dev p' d') ∧ (par p' 22 8 % 8 = 0) ∧ (p'.host = none) ∧ (d1 = d'.count32 HIF_DMA_ERR_CNT 1)) :=
  ⟨⟨at_ 7 id, pk [], _, _, runs_plain _ _ _ (by decide +kernel), by decide +kernel⟩,
   ⟨at_ 7 id, pk [(22, 1, 1)], _, _, runs_plain _ _ _ (by decide +kernel), by decide +kernel⟩,
   ⟨at_ 7 id, pk [(22, 1, 2)], _, _, runs_plain _ _ _ (by decide +kernel), by decide +kernel⟩,
   ⟨at_ 7 id, pk [], _, _, runs_plain _ _ _ (by decide +kernel)⟩,
   ⟨at_ 7 id, pk [(22, 1, 8)], _, _, _, runs_plain _ _ _ (by decide +kernel), by decide +kernel, rfl⟩,
   ⟨at_ 7 id, pk [(22, 1, 4)], _, _, runs_plain _ _ _ (by decide +kernel), by decide +kernel⟩,
   ⟨at_ 7 id, { pk [] with host := none }, _, _, _, runs_plain _ _ _ (by decide +kernel), by decide +kernel, by decide +kernel, rfl⟩⟩
/-- A witness for each clause of SetModeRequests. -/
theorem test_witness_SetModeRequests :
    (∃ (s : State) (p : Packet) (p' : Packet) (d' : Dev), (Runs opSetMode p s.dev p' d') ∧ ([4, 6, 7, 10, 11].contains (par p' 22 1) = false ∨ (par p' 22 1 = 10 ∧ d'.sys.package.bind (·.dormant) = none))) ∧
    (∃ (s : State) (p : Packet) (p' : Packet) (d' : Dev), (Runs opSetMode p s.dev p' d') ∧ ([4, 6, 7, 10, 11].contains (par p' 22 1) = true) ∧ (par p' 22 1 ≠ 10 ∨ d'.sys.package.bind (·.dormant) ≠ none) ∧ (d'.on SYS_MODE.TRANSITION = true ∨ (d'.mode = 4 ∧ par p' 22 1 ≠ 4 ∧ d'.on RST_STATUS.DRAM_READY = false))) ∧
    (∃ (s : State) (p : Packet) (p' : Packet) (d' : Dev), (Runs opSetMode p s.dev p' d') ∧ (d'.mode = 4) ∧ (d'.on SYS_MODE.TRANSITION = false) ∧ (d'.on RST_STATUS.DRAM_READY = true) ∧ (par p' 22 1 = 11)) ∧
    (∃ (s : State) (p : Packet) (p' : Packet) (d' : Dev) (n : _), (Runs opSetMode p s.dev p' d') ∧ (d'.mode = 4) ∧ (d'.on SYS_MODE.TRANSITION = false) ∧ (d'.on RST_STATUS.DRAM_READY = true) ∧ (par p' 22 1 = 6 ∨ par p' 22 1 = 7) ∧ (d'.rateShort = some n)) ∧
    (∃ (s : State) (p : Packet) (p' : Packet) (d' : Dev) (d1 : Dev), (Runs opSetMode p s.dev p' d') ∧ (d'.mode = 4) ∧ (d'.on SYS_MODE.TRANSITION = false) ∧ (d'.on RST_STATUS.DRAM_READY = true) ∧ (par p' 22 1 = 6 ∨ par p' 22 1 = 7) ∧ (d'.rateShort = none) ∧ (d1 = (d'.request (par p' 22 1) (refOf p s.dev)).enterMode 5 6 p.tag.toNat none true)) ∧
    (∃ (s : State) (p : Packet) (p' : Packet) (d' : Dev), (Runs opSetMode p s.dev p' d') ∧ (par p' 22 1 = 4) ∧ (d'.on SYS_MODE.TRANSITION = false) ∧ (d'.canRelease = true)) ∧
    (∃ (s : State) (p : Packet) (p' : Packet) (d' : Dev), (Runs opSetMode p s.dev p' d') ∧ (par p' 22 1 = 4) ∧ (d'.on SYS_MODE.TRANSITION = false) ∧ (d'.canRelease = false)) ∧
    (∃ (s : State) (p : Packet) (p' : Packet) (d' : Dev) (d1 : Dev), (Runs opSetMode p s.dev p' d') ∧ (d'.mode = 10) ∧ (par p' 22 1 = 6 ∨ par p' 22 1 = 7) ∧ (d'.on SYS_MODE.TRANSITION = false) ∧ (d1 = ((d'.request (par p' 22 1) (refOf p s.dev)).logInput 0x01 68 (.wake d'.now) none).startWake)) ∧
    (∃ (s : State) (p : Packet) (p' : Packet) (d' : Dev), (Runs opSetMode p s.dev p' d') ∧ (par p' 22 1 = 7) ∧ (d'.mode = 6) ∧ (d'.permit = false) ∧ (d'.on SYS_MODE.TRANSITION = false) ∧ (d'.partnerHolds = true) ∧ (d'.mirrorUp = false)) ∧
    (∃ (s : State) (p : Packet) (p' : Packet) (d' : Dev) (d1 : Dev), (Runs opSetMode p s.dev p' d') ∧ (par p' 22 1 = 7) ∧ (d'.mode = 6) ∧ (d'.permit = false) ∧ (d'.on SYS_MODE.TRANSITION = false) ∧ (d'.partnerHolds = false ∨ d'.mirrorUp = true) ∧ (d1 = d'.request 7 (refOf p s.dev))) ∧
    (∃ (s : State) (p : Packet) (p' : Packet) (d' : Dev), (Runs opSetMode p s.dev p' d') ∧ (d'.on SYS_MODE.TRANSITION = false) ∧ ((d'.mode = 7 ∧ par p' 22 1 = 6) ∨ (d'.mode = 6 ∧ par p' 22 1 = 7 ∧ d'.permit = true) ∨ ((d'.mode = 6 ∨ d'.mode = 7) ∧ par p' 22 1 = 10 ∧ d'.sys.package.bind (·.dormant) ≠ none))) ∧
    (∃ (d : Dev), (d.mode = 3)) ∧
    (∃ (d : Dev), (d.mode = 9)) ∧
    (∃ (d : Dev) (t : Nat), (d.mode ≠ 3) ∧ (d.mode ≠ 9) ∧ (d.standby = true) ∧ (t ≠ 4)) ∧
    (∃ (d : Dev) (t : Nat) (b : List Byte), (d.mode = 4) ∧ (d.standby = false) ∧ (t = 6 ∨ t = 7) ∧ (d.mir.peer = some b) ∧ (fieldAt b 5 1 = flag d.sys.pairEnd)) ∧
    (∃ (d : Dev) (t : Nat), ((d.mode = 8 ∨ d.mode = 11)) ∧ (t = 4)) :=
  ⟨⟨at_ 6 id, pk [(22, 1, 10)], _, _, runs_plain _ _ _ (by decide +kernel), .inr (by decide +kernel)⟩,
   ⟨at_ 4 (fun d => withPkg d), pk [(22, 1, 7)], _, _, runs_plain _ _ _ (by decide +kernel), by decide +kernel, .inl (by decide +kernel), .inr (by decide +kernel)⟩,
   ⟨at_ 4 (fun d => d.set RST_STATUS.DRAM_READY 1), pk [(22, 1, 11)], _, _, runs_plain _ _ _ (by decide +kernel), by decide +kernel⟩,
   ⟨at_ 4 (fun d => (withPkg (d.set RST_STATUS.DRAM_READY 1)).set (NLS_LINK_STATUS.RATE_SHORT 7) 1), pk [(22, 1, 6)], _, _, _, runs_plain _ _ _ (by decide +kernel), by decide +kernel, by decide +kernel, by decide +kernel, .inl (by decide +kernel), rfl⟩,
   ⟨at_ 4 (fun d => withPkg (d.set RST_STATUS.DRAM_READY 1)), pk [(22, 1, 7)], _, _, _, runs_plain _ _ _ (by decide +kernel), by decide +kernel, by decide +kernel, by decide +kernel, .inr (by decide +kernel), by decide +kernel, rfl⟩,
   ⟨holds (fun d => { d.set SYS_MODE.MODE 6 with mir := { d.mir with peer := some (bytesAt 8 [(5, 1, 1)]) } }), pk [(22, 1, 4)], _, _, runs_plain _ _ _ (by decide +kernel), by decide +kernel⟩,
   ⟨at_ 11 id, pk [(22, 1, 4)], _, _, runs_plain _ _ _ (by decide +kernel), by decide +kernel⟩,
   ⟨at_ 10 id, pk [(22, 1, 7)], _, _, _, runs_plain _ _ _ (by decide +kernel), by decide +kernel, .inr (by decide +kernel), by decide +kernel, rfl⟩,
   ⟨at_ 6 (fun d => ((d.wr MIR_EPOCH 1).set MIR_HOLDER.HOLDER 5).set MIR_LEASE.IN_FORCE 2), pk [(22, 1, 7)], _, _, runs_plain _ _ _ (by decide +kernel), by decide +kernel⟩,
   ⟨at_ 6 id, pk [(22, 1, 7)], _, _, _, runs_plain _ _ _ (by decide +kernel), by decide +kernel, by decide +kernel, by decide +kernel, by decide +kernel, .inl (by decide +kernel), rfl⟩,
   ⟨at_ 6 (fun d => d.set SYS_MODE.PERMIT 1), pk [(22, 1, 7)], _, _, runs_plain _ _ _ (by decide +kernel), by decide +kernel, .inr (.inl (by decide +kernel))⟩,
   ⟨(at_ 3 id).dev, by decide +kernel⟩,
   ⟨(at_ 9 id).dev, by decide +kernel⟩,
   ⟨(at_ 8 id).dev, 7, by decide +kernel⟩,
   ⟨(at_ 4 (fun d => { d with mir := { d.mir with peer := some (bytesAt 8 [(5, 1, 1)]) } })).dev, 6, _, by decide +kernel, by decide +kernel, .inl rfl, rfl, by decide +kernel⟩,
   ⟨(at_ 11 id).dev, 4, .inr (by decide +kernel), by decide +kernel⟩⟩
/-- A witness for each clause of SystemCommandsTakeEffect. -/
theorem test_witness_SystemCommandsTakeEffect (hg : nullCipher) :
    (∃ (s : State) (p : Packet) (p' : Packet) (d' : Dev), (Runs opHeartbeat p s.dev p' d') ∧ (0 < par p' 22 2) ∧ (par p' 22 2 < 10 ∨ 60000 < par p' 22 2)) ∧
    (∃ (s : State) (p : Packet) (p' : Packet) (d' : Dev) (d1 : Dev), (Runs opHeartbeat p s.dev p' d') ∧ (par p' 22 2 = 0 ∨ (10 ≤ par p' 22 2 ∧ par p' 22 2 ≤ 60000)) ∧ (d1 = ({ d' with hif := { d'.hif with hbLast := d'.now, lapse := none } } : Dev).set HIF_HB.TIMEOUT (par p' 22 2)) ∧ (d1.hasCond condHOST_LOST = false)) ∧
    (∃ (s : State) (p : Packet) (p' : Packet) (d' : Dev) (d1 : Dev) (d2 : Dev), (Runs opHeartbeat p s.dev p' d') ∧ (par p' 22 2 = 0 ∨ (10 ≤ par p' 22 2 ∧ par p' 22 2 ≤ 60000)) ∧ (d1 = ({ d' with hif := { d'.hif with hbLast := d'.now, lapse := none } } : Dev).set HIF_HB.TIMEOUT (par p' 22 2)) ∧ (d1.hasCond condHOST_LOST = true) ∧ (d2 = ((d1.set HIF_STATUS.HOST_LOST 0).cond condHOST_LOST false).post 0 6 (leBytes 4 (min ((d'.now - d'.hif.lapse.getD d'.now) / ns 1000000) (2 ^ 32 - 1))))) ∧
    (∃ (s : State) (p : Packet) (p' : Packet) (d' : Dev), (Runs opResetDevice p s.dev p' d') ∧ (par p' 22 1 = 0xA5)) ∧
    (∃ (s : State) (p : Packet) (p' : Packet) (d' : Dev), (Runs opResetDevice p s.dev p' d') ∧ (par p' 22 1 ≠ 0xA5)) ∧
    (∃ (s : State) (p : Packet) (p' : Packet) (d' : Dev), (Runs opSetDuty p s.dev p' d') ∧ (par p' 22 1 < 8) ∧ (par p' 23 1 < 2)) ∧
    (∃ (s : State) (p : Packet) (p' : Packet) (d' : Dev), (Runs opSetDuty p s.dev p' d') ∧ (8 ≤ par p' 22 1 ∨ 2 ≤ par p' 23 1)) ∧
    (∃ (s : State) (p : Packet) (p' : Packet) (d' : Dev) (a : _) (n : _) (f : _), (Runs opResetBlock p s.dev p' d') ∧ (d'.resettable (par p' 22 2) = some (true, a, n, f)) ∧ (d'.commitWaits (par p' 22 2) = false)) ∧
    (∃ (s : State) (p : Packet) (p' : Packet) (d' : Dev) (i : _) (a : _) (n : _) (f : _), (Runs opResetBlock p s.dev p' d') ∧ (d'.resettable (par p' 22 2) = some (i, a, n, f)) ∧ (i = false ∨ d'.commitWaits (par p' 22 2) = true)) ∧
    (∃ (s : State) (p : Packet) (p' : Packet) (d' : Dev), (Runs opResetBlock p s.dev p' d') ∧ (d'.resettable (par p' 22 2) = none)) ∧
    (∃ (s : State) (p : Packet) (p' : Packet) (d' : Dev), (Runs opClearTally p s.dev p' d') ∧ (d'.sec.burn = none) ∧ (d'.sys.selfReset = false) ∧ (d'.sys.resetDue.any (fun x => decide (x ≤ d'.now)) = false)) ∧
    (∃ (src : Fin 4) (s : State) (f : _), (f = [SYS_WAKE_EN.TRIG, SYS_WAKE_EN.NODE_EVENT, SYS_WAKE_EN.CAN, SYS_WAKE_EN.PPS].getD src.val SYS_WAKE_EN.PPS) ∧ (s.dev.mode = 10) ∧ (s.dev.permit = true) ∧ (s.dev.on f = true)) ∧
    (∃ (src : Fin 4) (s : State) (f : _), (f = [SYS_WAKE_EN.TRIG, SYS_WAKE_EN.NODE_EVENT, SYS_WAKE_EN.CAN, SYS_WAKE_EN.PPS].getD src.val SYS_WAKE_EN.PPS) ∧ (s.dev.mode ≠ 10 ∨ s.dev.permit = false ∨ s.dev.on f = false)) :=
  ⟨⟨at_ 7 id, pk [(22, 2, 9)], _, _, runs_plain _ _ _ (by decide +kernel), by decide +kernel, .inl (by decide +kernel)⟩,
   ⟨at_ 7 id, pk [(22, 2, 10)], _, _, _, runs_plain _ _ _ (by decide +kernel), .inr (by decide +kernel), rfl, by decide +kernel⟩,
   ⟨at_ 7 (Dev.cond condHOST_LOST true), pk [], _, _, _, _, runs_plain _ _ _ (by decide +kernel), .inl (by decide +kernel), rfl, by decide +kernel, rfl⟩,
   ⟨at_ 7 id, pk [(22, 1, 0xA5)], _, _, runs_plain _ _ _ (by decide +kernel), by decide +kernel⟩,
   ⟨at_ 7 id, pk [], _, _, runs_plain _ _ _ (by decide +kernel), by decide +kernel⟩,
   ⟨at_ 4 id, pk [(22, 1, 7), (23, 1, 1)], _, _, runs_plain _ _ _ (by decide +kernel), by decide +kernel⟩,
   ⟨at_ 4 id, pk [(22, 1, 8)], _, _, runs_plain _ _ _ (by decide +kernel), .inl (by decide +kernel)⟩,
   ⟨at_ 4 id, pk [(22, 2, 0x0100)], _, _, 0x40000, 0x4000, Dev.setPort 0 Port.reset, runs_plain _ _ _ (by decide +kernel), by rfl, by decide +kernel⟩,
   ⟨at_ 7 id, pk [(22, 2, 0x0100)], _, _, false, 0x40000, 0x4000, Dev.setPort 0 Port.reset, runs_plain _ _ _ (by decide +kernel), by rfl, .inl rfl⟩,
   ⟨at_ 4 id, pk [(22, 2, 1)], _, _, runs_plain _ _ _ (by decide +kernel), by decide +kernel⟩,
   ⟨auth 4 id, pka (pk []), _, _, runs_auth hg _ _ _ (by decide +kernel), by decide +kernel⟩,
   ⟨1, at_ 10 (fun d => (d.set SYS_MODE.PERMIT 1).set SYS_WAKE_EN.NODE_EVENT 1), _, rfl, by decide +kernel⟩,
   ⟨3, at_ 7 id, _, rfl, .inl (by decide +kernel)⟩⟩
/-- A witness for each clause of ResetSourcesResetThePart. -/
theorem test_witness_ResetSourcesResetThePart :
    (∃ (s : State), (s.dev.mode ≠ 0)) ∧
    (∃ (s : State), (2 ≤ s.dev.mode)) ∧
    (∃ (s : State), (s.dev.mode ≠ 0)) ∧
    (∃ (s : State) (i : Fin 9), (i.val = 0 ∨ i.val = 3) ∧ (bitAt (s.dev.get CLK_PLL.RUNNING) i.val = true)) ∧
    (∃ (s : State), (s.dev.ready = true) ∧ (s.dev.on RST_CTRL.HOT_ACTION = true)) ∧
    (∃ (s : State), (2 ≤ s.dev.mode) ∧ (s.fuses.debugLock = false ∨ s.dev.sec.scopes ≠ [])) ∧
    (∃ (s : State), (s.dev.mode = 0)) ∧
    (∃ (s : State), (s.dev.mode < 2)) ∧
    (∃ (s : State) (i : Fin 9), (i.val = 0 ∨ i.val = 3) ∧ (bitAt (s.dev.get CLK_PLL.RUNNING) i.val = false)) ∧
    (∃ (s : State), (s.dev.ready = false)) ∧
    (∃ (s : State), (s.dev.mode < 2 ∨ (s.fuses.debugLock = true ∧ s.dev.sec.scopes = []))) :=
  ⟨⟨State.reset, by decide +kernel⟩,
   ⟨State.reset, by decide +kernel⟩,
   ⟨State.reset, by decide +kernel⟩,
   ⟨at_ 7 (fun d => d.set CLK_PLL.RUNNING 9), 3, .inr (by decide +kernel), by decide +kernel⟩,
   ⟨at_ 7 (fun d => d.set RST_CTRL.HOT_ACTION 1), by decide +kernel⟩,
   ⟨State.reset, by decide +kernel, .inl (by decide +kernel)⟩,
   ⟨at_ 0 id, by decide +kernel⟩,
   ⟨at_ 1 id, by decide +kernel⟩,
   ⟨at_ 1 (fun d => d.set CLK_PLL.RUNNING 0), 0, .inl (by decide +kernel), by decide +kernel⟩,
   ⟨State.reset, by decide +kernel⟩,
   ⟨at_ 1 id, .inl (by decide +kernel)⟩⟩
/-- A witness for each clause of TallyCountsAndClears. -/
theorem test_witness_TallyCountsAndClears :
    (∃ (s : State) (k : Nat), (k < s.backup.counters.length)) ∧
    (∃ (s : State), (s.dev.mode = 1 ∨ s.dev.mode = 2)) :=
  ⟨⟨State.reset, 8, by decide +kernel⟩,
   ⟨State.reset, .inr (by decide +kernel)⟩⟩
/-- A witness for each clause of ReleaseAndBootRun. -/
theorem test_witness_ReleaseAndBootRun (hs : everySignature) :
    (∃ (s : State), (s.dev.mode = 0)) ∧
    (∃ (s : State), (s.dev.mode ≠ 0)) ∧
    (∃ (s : State), (s.dev.mode = 1) ∧ (s.dev.sys.asserted = [])) ∧
    (∃ (s : State), (s.dev.mode ≠ 1 ∨ s.dev.sys.asserted ≠ [])) ∧
    (∃ (s : State), (s.dev.mode ≠ 2)) ∧
    (∃ (s : State) (d1 : Dev), (s.dev.mode = 2) ∧ (d1 = (s.dev.set HIF_STATUS.READY 1).post 0x0010 0x0012 ((causeBytes s.backup.cause).take 13)) ∧ ((s.backup.cause.map (·.source)).getD 0xFF = 5)) ∧
    (∃ (s : State) (d1 : Dev), (s.dev.mode = 2) ∧ (d1 = (s.dev.set HIF_STATUS.READY 1).post 0x0010 0x0012 ((causeBytes s.backup.cause).take 13)) ∧ ((s.backup.cause.map (·.source)).getD 0xFF ≠ 5) ∧ (s.dev.sys.bootSel = 0)) ∧
    (∃ (s : State) (d1 : Dev) (codes : _), (s.dev.mode = 2) ∧ (d1 = (s.dev.set HIF_STATUS.READY 1).post 0x0010 0x0012 ((causeBytes s.backup.cause).take 13)) ∧ ((s.backup.cause.map (·.source)).getD 0xFF ≠ 5) ∧ (s.dev.sys.bootSel ≠ 0) ∧ (tryBoot s.fuses d1.bootOrder [] = (none, codes))) ∧
    (∃ (s : State) (slot : _) (img : _) (codes : _), (s.dev.mode = 2) ∧ ((s.backup.cause.map (·.source)).getD 0xFF ≠ 5) ∧ (s.dev.sys.bootSel ≠ 0) ∧ (tryBoot s.fuses s.dev.bootOrder [] = (some (slot, img), codes)) ∧ (s.fuses.provisioned = false)) ∧
    (∃ (s : State) (slot : _) (img : _) (codes : _), (s.dev.mode = 2) ∧ ((s.backup.cause.map (·.source)).getD 0xFF ≠ 5) ∧ (s.dev.sys.bootSel ≠ 0) ∧ (tryBoot s.fuses s.dev.bootOrder [] = (some (slot, img), codes)) ∧ (s.fuses.provisioned = true)) ∧
    (∃ (s : State), (s.dev.mode < 4 ∨ s.dev.on RST_STATUS.DRAM_READY = true)) ∧
    (∃ (s : State) (gib : Fin 33) (d1 : Dev), (4 ≤ s.dev.mode) ∧ (s.dev.on RST_STATUS.DRAM_READY = false) ∧ (d1 = { s.dev with sys := { s.dev.sys with dramGiB := gib.val } }) ∧ (gib.val < 4)) ∧
    (∃ (s : State) (gib : Fin 33) (ctxs : List MmuSetup) (d1 : Dev) (d2 : Dev), (4 ≤ s.dev.mode) ∧ (s.dev.on RST_STATUS.DRAM_READY = false) ∧ (d1 = { s.dev with sys := { s.dev.sys with dramGiB := gib.val } }) ∧ (4 ≤ gib.val) ∧ (d2 = (d1.set RST_STATUS.DRAM_READY 1).createContexts ctxs) ∧ (d2.sys.package = none)) ∧
    (∃ (s : State) (gib : Fin 33) (ctxs : List MmuSetup) (d1 : Dev) (d2 : Dev) (k : _), (4 ≤ s.dev.mode) ∧ (s.dev.on RST_STATUS.DRAM_READY = false) ∧ (d1 = { s.dev with sys := { s.dev.sys with dramGiB := gib.val } }) ∧ (4 ≤ gib.val) ∧ (d2 = (d1.set RST_STATUS.DRAM_READY 1).createContexts ctxs) ∧ (d2.sys.package = some k) ∧ (d2.partitionOk k = true)) ∧
    (∃ (s : State) (gib : Fin 33) (ctxs : List MmuSetup) (d1 : Dev) (d2 : Dev) (k : _), (4 ≤ s.dev.mode) ∧ (s.dev.on RST_STATUS.DRAM_READY = false) ∧ (d1 = { s.dev with sys := { s.dev.sys with dramGiB := gib.val } }) ∧ (4 ≤ gib.val) ∧ (d2 = (d1.set RST_STATUS.DRAM_READY 1).createContexts ctxs) ∧ (d2.sys.package = some k) ∧ (d2.partitionOk k = false)) :=
  ⟨⟨at_ 0 id, by decide +kernel⟩,
   ⟨at_ 1 id, by decide +kernel⟩,
   ⟨at_ 1 id, by decide +kernel⟩,
   ⟨at_ 2 id, .inl (by decide +kernel)⟩,
   ⟨at_ 3 id, by decide +kernel⟩,
   ⟨{ State.reset with backup := { State.reset.backup with cause := some ⟨5, 1, 0, false, false, 7⟩ } }, _, by decide +kernel, rfl, by decide +kernel⟩,
   ⟨st (fun d => { d with sys := { d.sys with bootSel := 0 } }), _, by decide +kernel, rfl, by decide +kernel⟩,
   ⟨st (fun d => { d with sys := { d.sys with bootSel := 3 } }), _, _, by decide +kernel, rfl, by decide +kernel, by decide +kernel, rfl⟩,
   ⟨bootS false, 0, imgFw, [], by decide +kernel, by decide +kernel, by decide +kernel, bootS_tries hs false, by decide +kernel⟩,
   ⟨bootS true, 0, imgFw, [], by decide +kernel, by decide +kernel, by decide +kernel, bootS_tries hs true, by decide +kernel⟩,
   ⟨at_ 3 id, .inl (by decide +kernel)⟩,
   ⟨at_ 4 id, 3, _, by decide +kernel, by decide +kernel, rfl, by decide +kernel⟩,
   ⟨at_ 4 id, 4, [], _, _, by decide +kernel, by decide +kernel, rfl, by decide +kernel, rfl, by decide +kernel⟩,
   ⟨at_ 4 (fun d => { d with sys := { d.sys with package := some { pkg0 with dramStock := 4096 } } }), 4, [], _, _, _, by decide +kernel, by decide +kernel, rfl, by decide +kernel, rfl, rfl, by decide +kernel⟩,
   ⟨at_ 4 withPkg, 4, [], _, _, _, by decide +kernel, by decide +kernel, rfl, by decide +kernel, rfl, rfl, by decide +kernel⟩⟩
/-- A witness for each clause of HostEndpointEvents. -/
theorem test_witness_HostEndpointEvents :
    (∃ (s : State), (s.dev.get HIF_HB.TIMEOUT ≠ 0)) ∧
    (∃ (s : State), (s.dev.get HIF_HB.TIMEOUT = 0)) ∧
    (∃ (s : State), (s.dev.mode < 3)) ∧
    (∃ (s : State), (s.dev.ready = false)) ∧
    (∃ (s : State), (s.dev.mode < 3 ∨ s.dev.hif.perst = true)) ∧
    (∃ (d : Dev), (d.hasCond condHOST_LOST = true)) ∧
    (∃ (d : Dev) (d1 : Dev) (cause : Nat), (d.hasCond condHOST_LOST = false) ∧ (d1 = ((Dev.set HIF_STATUS.HOST_LOST 1 { d with hif := { d.hif with lapse := some d.now } }).cond condHOST_LOST true).post 0 5 (leBytes 1 cause)) ∧ (d1.get HIF_HOSTLOSS.POLICY = 1) ∧ (d1.permit = true) ∧ (d1.sync = true ∨ d1.mode = 11)) ∧
    (∃ (s : State), (3 ≤ s.dev.mode)) ∧
    (∃ (d : Dev), (d.hasCond condHOST_LOST = false)) ∧
    (∃ (d : Dev), (d.hasCond condHOST_LOST = false) ∧ (d.get HIF_HOSTLOSS.POLICY ≠ 1)) ∧
    (∃ (s : State) (c : Instr), (c = .functionLevelReset ∨ c = .perstN true ∨ (c = .pcieHotReset ∧ s.dev.on RST_CTRL.HOT_ACTION = false)) ∧ (s.dev.ready = true)) ∧
    (∃ (s : State), (3 ≤ s.dev.mode) ∧ (s.dev.hif.perst = false)) :=
  ⟨⟨at_ 7 (fun d => d.set HIF_HB.TIMEOUT 10), by decide +kernel⟩,
   ⟨at_ 7 id, by decide +kernel⟩,
   ⟨State.reset, by decide +kernel⟩,
   ⟨State.reset, by decide +kernel⟩,
   ⟨State.reset, .inl (by decide +kernel)⟩,
   ⟨(at_ 7 (Dev.cond condHOST_LOST true)).dev, by decide +kernel⟩,
   ⟨(at_ 7 (fun d => (d.set HIF_HOSTLOSS.POLICY 1).set SYS_MODE.PERMIT 1)).dev, _, 0, by decide +kernel, rfl, by decide +kernel, by decide +kernel, .inl (by decide +kernel)⟩,
   ⟨at_ 7 id, by decide +kernel⟩,
   ⟨State.reset.dev, by decide +kernel⟩,
   ⟨(at_ 7 (fun d => d.set HIF_HOSTLOSS.POLICY 0)).dev, by decide +kernel⟩,
   ⟨at_ 7 (fun d => d.set HIF_HOSTLOSS.POLICY 0), .functionLevelReset, .inl rfl, by decide +kernel⟩,
   ⟨at_ 7 id, by decide +kernel⟩⟩
/-- A witness for each clause of SupplyAndReferenceEvents. -/
theorem test_witness_SupplyAndReferenceEvents :
    (∃ (s : State) (b : Fin 16) (ok : Bool) (d1 : Dev), (2 ≤ s.dev.mode) ∧ (d1 = s.dev.wr RST_VMON (withBits (s.dev.rd RST_VMON) b.val b.val (flag ok))) ∧ (2 ≤ b.val) ∧ (b.val ≤ 4)) ∧
    (∃ (s : State) (b : Fin 16) (ok : Bool) (d1 : Dev), (2 ≤ s.dev.mode) ∧ (d1 = s.dev.wr RST_VMON (withBits (s.dev.rd RST_VMON) b.val b.val (flag ok))) ∧ (5 ≤ b.val) ∧ (b.val ≤ 7) ∧ (bitAt (s.dev.rd RST_VMON) b.val ≠ ok)) ∧
    (∃ (s : State) (b : Fin 16) (ok : Bool) (d1 : Dev), (2 ≤ s.dev.mode) ∧ (d1 = s.dev.wr RST_VMON (withBits (s.dev.rd RST_VMON) b.val b.val (flag ok))) ∧ (9 ≤ b.val) ∧ (bitAt (s.dev.rd RST_VMON) b.val ≠ ok)) ∧
    (∃ (s : State) (mv : BitVec 16), (2 ≤ s.dev.mode) ∧ (s.dev.on RST_VMON.VBAT_OK = true) ∧ (mv.toNat < 2400)) ∧
    (∃ (s : State) (mv : BitVec 16), (2 ≤ s.dev.mode) ∧ (2400 ≤ mv.toNat)) ∧
    (∃ (s : State) (i : Fin 9), (i.val ≠ 0) ∧ (i.val ≠ 3) ∧ (bitAt (s.dev.get CLK_PLL.LOCKED) i.val = true)) ∧
    (∃ (s : State) (i : Fin 9), (bitAt (s.dev.get CLK_PLL.RUNNING) i.val = true)) ∧
    (∃ (s : State) (pex : Bool) (ok : Bool) (b : Nat), (b = (if pex then 3 else 2)) ∧ (2 ≤ s.dev.mode) ∧ (bitAt (s.dev.rd CLK_REFMON) b ≠ ok)) ∧
    (∃ (s : State), (2 ≤ s.dev.mode) ∧ (s.dev.on CLK_REFMON.X32_OK = true)) ∧
    (∃ (s : State) (t16 : BitVec 16) (x : Int) (d1 : Dev) (warn : Int) (high : Int) (d2 : Dev), (2 ≤ s.dev.mode) ∧ (x = signedOf 16 t16.toNat) ∧ (d1 = Dev.calTemperature { s.dev with sys := { s.dev.sys with temp := x } }) ∧ (warn = d1.tempLimits.1) ∧ (high = d1.tempLimits.2) ∧ (d2 = (if d1.sys.tempWarn = false ∧ warn < x then (({ d1 with sys := { d1.sys with tempWarn := true } } : Dev).emit (.pin "SMB_ALERT_N" 0 false)).post 0x0010 0x0018 (leBytes 2 (codeOf 16 x) ++ leBytes 1 0) else if d1.sys.tempWarn = true ∧ x < warn - 80 then (({ d1 with sys := { d1.sys with tempWarn := false } } : Dev).emit (.pin "SMB_ALERT_N" 0 true)).post 0x0010 0x0018 (leBytes 2 (codeOf 16 x) ++ leBytes 1 1) else d1)) ∧ (d2.sys.tempHigh = false) ∧ (high < x)) ∧
    (∃ (s : State) (t16 : BitVec 16) (x : Int) (d1 : Dev) (warn : Int) (high : Int) (d2 : Dev), (2 ≤ s.dev.mode) ∧ (x = signedOf 16 t16.toNat) ∧ (d1 = Dev.calTemperature { s.dev with sys := { s.dev.sys with temp := x } }) ∧ (warn = d1.tempLimits.1) ∧ (high = d1.tempLimits.2) ∧ (d2 = (if d1.sys.tempWarn = false ∧ warn < x then (({ d1 with sys := { d1.sys with tempWarn := true } } : Dev).emit (.pin "SMB_ALERT_N" 0 false)).post 0x0010 0x0018 (leBytes 2 (codeOf 16 x) ++ leBytes 1 0) else if d1.sys.tempWarn = true ∧ x < warn - 80 then (({ d1 with sys := { d1.sys with tempWarn := false } } : Dev).emit (.pin "SMB_ALERT_N" 0 true)).post 0x0010 0x0018 (leBytes 2 (codeOf 16 x) ++ leBytes 1 1) else d1)) ∧ (d2.sys.tempHigh = true) ∧ (x < high - 80)) ∧
    (∃ (s : State) (t16 : BitVec 16) (x : Int) (d1 : Dev) (warn : Int) (high : Int) (d2 : Dev), (2 ≤ s.dev.mode) ∧ (x = signedOf 16 t16.toNat) ∧ (d1 = Dev.calTemperature { s.dev with sys := { s.dev.sys with temp := x } }) ∧ (warn = d1.tempLimits.1) ∧ (high = d1.tempLimits.2) ∧ (d2 = (if d1.sys.tempWarn = false ∧ warn < x then (({ d1 with sys := { d1.sys with tempWarn := true } } : Dev).emit (.pin "SMB_ALERT_N" 0 false)).post 0x0010 0x0018 (leBytes 2 (codeOf 16 x) ++ leBytes 1 0) else if d1.sys.tempWarn = true ∧ x < warn - 80 then (({ d1 with sys := { d1.sys with tempWarn := false } } : Dev).emit (.pin "SMB_ALERT_N" 0 true)).post 0x0010 0x0018 (leBytes 2 (codeOf 16 x) ++ leBytes 1 1) else d1)) ∧ ((d2.sys.tempHigh = false ∧ x ≤ high) ∨ (d2.sys.tempHigh = true ∧ high - 80 ≤ x))) ∧
    (∃ (s : State) (b : Fin 16) (ok : Bool), (s.dev.mode < 2 ∨ b.val < 2 ∨ b.val = 8 ∨ (5 ≤ b.val ∧ bitAt (s.dev.rd RST_VMON) b.val = ok))) ∧
    (∃ (s : State) (mv : BitVec 16), (s.dev.mode < 2 ∨ s.dev.on RST_VMON.VBAT_OK = false ∨ 2400 ≤ mv.toNat)) ∧
    (∃ (s : State) (mv : BitVec 16), (s.dev.mode < 2 ∨ mv.toNat < 2400)) ∧
    (∃ (s : State) (i : Fin 9), (i.val ≠ 0) ∧ (i.val ≠ 3) ∧ (bitAt (s.dev.get CLK_PLL.LOCKED) i.val = false)) ∧
    (∃ (s : State) (i : Fin 9), (bitAt (s.dev.get CLK_PLL.RUNNING) i.val = false)) ∧
    (∃ (s : State) (pex : Bool) (ok : Bool), (s.dev.mode < 2 ∨ bitAt (s.dev.rd CLK_REFMON) (if pex then 3 else 2) = ok)) ∧
    (∃ (s : State), (s.dev.mode < 2 ∨ s.dev.on CLK_REFMON.X32_OK = false)) ∧
    (∃ (s : State), (s.dev.mode < 2)) :=
  ⟨⟨at_ 7 id, 2, false, _, by decide +kernel, rfl, by decide +kernel⟩,
   ⟨at_ 7 id, 5, !bitAt ((at_ 7 id).dev.rd RST_VMON) 5, _, by decide +kernel, rfl, by decide +kernel⟩,
   ⟨at_ 7 id, 9, !bitAt ((at_ 7 id).dev.rd RST_VMON) 9, _, by decide +kernel, rfl, by decide +kernel⟩,
   ⟨at_ 7 (fun d => d.set RST_VMON.VBAT_OK 1), 2399, by decide +kernel⟩,
   ⟨at_ 7 id, 2400, by decide +kernel⟩,
   ⟨at_ 7 (fun d => d.set CLK_PLL.LOCKED 2), 1, by decide +kernel⟩,
   ⟨at_ 7 (fun d => d.set CLK_PLL.RUNNING 1), 0, by decide +kernel⟩,
   ⟨at_ 7 id, false, !bitAt ((at_ 7 id).dev.rd CLK_REFMON) 2, _, rfl, by decide +kernel⟩,
   ⟨at_ 7 (fun d => d.set CLK_REFMON.X32_OK 1), by decide +kernel⟩,
   ⟨at_ 7 id, 2000, _, _, _, _, _, by decide +kernel, rfl, rfl, rfl, rfl, rfl, by decide +kernel⟩,
   ⟨at_ 7 (fun d => { d with sys := { d.sys with tempHigh := true } }), 0, _, _, _, _, _, by decide +kernel, rfl, rfl, rfl, rfl, rfl, by decide +kernel⟩,
   ⟨at_ 7 id, 400, _, _, _, _, _, by decide +kernel, rfl, rfl, rfl, rfl, rfl, .inl (by decide +kernel)⟩,
   ⟨at_ 7 id, 8, false, .inr (.inr (.inl rfl))⟩,
   ⟨at_ 7 id, 2400, .inr (.inr (by decide))⟩,
   ⟨at_ 7 id, 2399, .inr (by decide)⟩,
   ⟨at_ 7 (fun d => d.set CLK_PLL.LOCKED 0), 1, by decide +kernel⟩,
   ⟨at_ 7 (fun d => d.set CLK_PLL.RUNNING 0), 0, by decide +kernel⟩,
   ⟨at_ 1 id, false, false, .inl (by decide +kernel)⟩,
   ⟨at_ 1 id, .inl (by decide +kernel)⟩,
   ⟨at_ 1 id, by decide +kernel⟩⟩
/-- A witness for each clause of PinFunctionsPark. -/
theorem test_witness_PinFunctionsPark :
    (∃ (s : State) (n : Fin 24) (v : Word) (d1 : Dev), (3 ≤ s.dev.mode) ∧ (d1 = Dev.wr PIN_MFP_OUT (withBits ((((s.dev.set (PIN_MFP.FUNC n.val) (bitsOf v.toNat 3 0)).set (PIN_MFP.OUT n.val) (bitsOf v.toNat 5 5)).set (PIN_MFP.PULL n.val) (bitsOf v.toNat 7 7)).rd PIN_MFP_OUT) n.val n.val (bitsOf v.toNat 5 5)) (((s.dev.set (PIN_MFP.FUNC n.val) (bitsOf v.toNat 3 0)).set (PIN_MFP.OUT n.val) (bitsOf v.toNat 5 5)).set (PIN_MFP.PULL n.val) (bitsOf v.toNat 7 7))) ∧ (s.dev.get (PIN_MFP.FUNC n.val) ≠ bitsOf v.toNat 3 0)) ∧
    (∃ (s : State) (n : Fin 24) (v : Word) (d1 : Dev), (3 ≤ s.dev.mode) ∧ (d1 = Dev.wr PIN_MFP_OUT (withBits ((((s.dev.set (PIN_MFP.FUNC n.val) (bitsOf v.toNat 3 0)).set (PIN_MFP.OUT n.val) (bitsOf v.toNat 5 5)).set (PIN_MFP.PULL n.val) (bitsOf v.toNat 7 7)).rd PIN_MFP_OUT) n.val n.val (bitsOf v.toNat 5 5)) (((s.dev.set (PIN_MFP.FUNC n.val) (bitsOf v.toNat 3 0)).set (PIN_MFP.OUT n.val) (bitsOf v.toNat 5 5)).set (PIN_MFP.PULL n.val) (bitsOf v.toNat 7 7))) ∧ (s.dev.get (PIN_MFP.FUNC n.val) = bitsOf v.toNat 3 0) ∧ (bitsOf v.toNat 3 0 ≠ 2 ∨ d1.on (PIN_MFP.PARKED n.val) = true)) ∧
    (∃ (s : State) (n : Fin 24) (v : Word) (d1 : Dev), (3 ≤ s.dev.mode) ∧ (d1 = Dev.wr PIN_MFP_OUT (withBits ((((s.dev.set (PIN_MFP.FUNC n.val) (bitsOf v.toNat 3 0)).set (PIN_MFP.OUT n.val) (bitsOf v.toNat 5 5)).set (PIN_MFP.PULL n.val) (bitsOf v.toNat 7 7)).rd PIN_MFP_OUT) n.val n.val (bitsOf v.toNat 5 5)) (((s.dev.set (PIN_MFP.FUNC n.val) (bitsOf v.toNat 3 0)).set (PIN_MFP.OUT n.val) (bitsOf v.toNat 5 5)).set (PIN_MFP.PULL n.val) (bitsOf v.toNat 7 7))) ∧ (s.dev.get (PIN_MFP.FUNC n.val) = bitsOf v.toNat 3 0) ∧ (bitsOf v.toNat 3 0 = 2) ∧ (d1.on (PIN_MFP.PARKED n.val) = false)) ∧
    (∃ (s : State) (n : Fin 24), (s.dev.on (PIN_MFP.PARKED n.val) = true)) ∧
    (∃ (s : State), (s.dev.mode < 3)) ∧
    (∃ (s : State) (n : Fin 24), (s.dev.on (PIN_MFP.PARKED n.val) = false)) :=
  ⟨⟨at_ 7 id, 0, 1, _, by decide +kernel, rfl, by decide +kernel⟩,
   ⟨at_ 7 id, 0, BitVec.ofNat 32 (State.reset.dev.get (PIN_MFP.FUNC 0)), _, by decide +kernel, rfl, by decide +kernel, .inl (by decide +kernel)⟩,
   ⟨at_ 7 (fun d => d.set (PIN_MFP.FUNC 0) 2), 0, 2, _, by decide +kernel, rfl, by decide +kernel⟩,
   ⟨at_ 7 (fun d => d.set (PIN_MFP.PARKED 0) 1), 0, by decide +kernel⟩,
   ⟨at_ 2 id, by decide +kernel⟩,
   ⟨at_ 7 id, 0, by decide +kernel⟩⟩
/-- A witness for each clause of LinkControlMessagesAreChecked. -/
theorem test_witness_LinkControlMessagesAreChecked :
    (∃ (kind : Nat), (kind < 256)) ∧
    (∃ (n : Fin 10) (c : Fin 2) (m : List Byte) (i : Instr), (m.length = 24) ∧ (fieldAt m 22 2 ≠ crc16 (m.take 22)) ∧ ((∃ turn, i = .delayRequest n c m turn) ∨ (∃ rtt, i = .delayResponse n c m rtt) ∨ i = .capability n c m ∨ i = .rateOrder n c m ∨ (∃ o, i = .hopReport n c m o))) :=
  ⟨⟨5, by decide +kernel⟩,
   ⟨0, 0, zeros 24, .rateOrder 0 0 (zeros 24), by decide +kernel, by decide +kernel, .inr (.inr (.inr (.inl rfl)))⟩⟩
/-- A witness for each clause of HopStatesFollowTheTable. -/
theorem test_witness_HopStatesFollowTheTable :
    (∃ (s : State) (n : Fin 10) (c : Fin 2), (s.dev.link n.val c.val = hsDISABLED)) ∧
    (∃ (s : State) (n : Fin 10) (c : Fin 2), (s.dev.link n.val c.val ≠ hsDISABLED)) ∧
    (∃ (s : State) (n : Fin 10) (c : Fin 2), (s.dev.link n.val c.val = hsDOWN) ∧ (((s.dev.port n.val).ch c.val).barred = false) ∧ (((s.dev.port n.val).ch c.val).waiting = false)) ∧
    (∃ (s : State) (n : Fin 10) (c : Fin 2), (s.dev.link n.val c.val ≠ hsDOWN ∨ ((s.dev.port n.val).ch c.val).barred = true ∨ ((s.dev.port n.val).ch c.val).waiting = true)) ∧
    (∃ (s : State) (n : Fin 10) (c : Fin 2), (s.dev.link n.val c.val = hsDETECT)) ∧
    (∃ (s : State) (n : Fin 10) (c : Fin 2), (s.dev.link n.val c.val = hsUP)) ∧
    (∃ (s : State) (n : Fin 10) (c : Fin 2), (s.dev.link n.val c.val = hsNEGOTIATE) ∧ (((s.dev.port n.val).ch c.val).attempts < 3)) ∧
    (∃ (s : State) (n : Fin 10) (c : Fin 2), (s.dev.link n.val c.val = hsNEGOTIATE) ∧ (3 ≤ ((s.dev.port n.val).ch c.val).attempts)) ∧
    (∃ (s : State) (n : Fin 10) (c : Fin 2), (s.dev.link n.val c.val = hsMEASURE) ∧ (((s.dev.port n.val).ch c.val).exchanges < 16)) ∧
    (∃ (s : State) (n : Fin 10) (c : Fin 2), (s.dev.link n.val c.val = hsMEASURE) ∧ (16 ≤ ((s.dev.port n.val).ch c.val).exchanges)) ∧
    (∃ (s : State) (n : Fin 10) (c : Fin 2), (s.dev.link n.val c.val = hsRETRAIN)) ∧
    (∃ (s : State) (n : Fin 10) (c : Fin 2), (((s.dev.port n.val).ch c.val).ordered ≠ none) ∧ (s.dev.link n.val c.val ≠ hsUP) ∧ (s.dev.link n.val c.val ≠ hsDISABLED)) ∧
    (∃ (s : State) (n : Fin 10) (c : Fin 2), (s.dev.link n.val c.val ≠ hsDETECT)) ∧
    (∃ (s : State) (n : Fin 10) (c : Fin 2), (s.dev.link n.val c.val ≠ hsUP)) ∧
    (∃ (s : State) (n : Fin 10) (c : Fin 2), (s.dev.link n.val c.val ≠ hsNEGOTIATE)) ∧
    (∃ (s : State) (n : Fin 10) (c : Fin 2), (s.dev.link n.val c.val ≠ hsMEASURE)) ∧
    (∃ (s : State) (n : Fin 10) (c : Fin 2), (s.dev.link n.val c.val ≠ hsRETRAIN)) ∧
    (∃ (s : State) (n : Fin 10) (c : Fin 2), (s.dev.link n.val c.val = hsUP ∨ s.dev.link n.val c.val = hsDISABLED)) :=
  ⟨⟨hop 0 id, 0, 0, by decide +kernel⟩,
   ⟨hop 5 id, 0, 0, by decide +kernel⟩,
   ⟨hop 1 id, 0, 0, by decide +kernel⟩,
   ⟨hop 2 id, 0, 0, by decide +kernel⟩,
   ⟨hop 2 id, 0, 0, by decide +kernel⟩,
   ⟨hop 5 id, 0, 0, by decide +kernel⟩,
   ⟨hop 3 (fun c => { c with attempts := 2 }), 0, 0, by decide +kernel⟩,
   ⟨hop 3 (fun c => { c with attempts := 3 }), 0, 0, by decide +kernel⟩,
   ⟨hop 4 (fun c => { c with exchanges := 15 }), 0, 0, by decide +kernel⟩,
   ⟨hop 4 (fun c => { c with exchanges := 16 }), 0, 0, by decide +kernel⟩,
   ⟨hop 6 id, 0, 0, by decide +kernel⟩,
   ⟨hop 1 (fun c => { c with ordered := some 1 }), 0, 0, by decide +kernel⟩,
   ⟨hop 3 id, 0, 0, by decide +kernel⟩,
   ⟨hop 6 id, 0, 0, by decide +kernel⟩,
   ⟨hop 2 id, 0, 0, by decide +kernel⟩,
   ⟨hop 5 id, 0, 0, by decide +kernel⟩,
   ⟨hop 5 id, 0, 0, by decide +kernel⟩,
   ⟨hop 5 (fun c => { c with ordered := some 1 }), 0, 0, by decide +kernel⟩⟩
/-- A witness for each clause of LinkControlMessagesAct. -/
theorem test_witness_LinkControlMessagesAct :
    (∃ (s : State) (n : Fin 10) (c : Fin 2) (m : List Byte), (controlOk m = true) ∧ (s.dev.link n.val c.val = hsNEGOTIATE) ∧ (fieldAt m 0 1 = 1) ∧ (fieldAt m 2 1 = 2) ∧ (1 ≤ fieldAt m 3 1) ∧ (Nat.land (fieldAt m 4 1) (s.dev.portMask n.val) ≠ 0) ∧ (fieldAt m 1 1 % 2 = 1)) ∧
    (∃ (s : State) (n : Fin 10) (c : Fin 2) (m : List Byte), (controlOk m = true) ∧ (s.dev.link n.val c.val = hsNEGOTIATE) ∧ (fieldAt m 0 1 = 1) ∧ (fieldAt m 2 1 ≠ 2 ∨ fieldAt m 3 1 = 0 ∨ Nat.land (fieldAt m 4 1) (s.dev.portMask n.val) = 0)) ∧
    (∃ (s : State) (n : Fin 10) (c : Fin 2) (m : List Byte), (controlOk m = true) ∧ (fieldAt m 0 1 = 3) ∧ (s.dev.link n.val c.val = hsUP ∨ (s.dev.link n.val c.val = hsMEASURE ∧ s.dev.upstream n.val = true))) ∧
    (∃ (s : State) (n : Fin 10) (c : Fin 2) (m : List Byte), (controlOk m = true) ∧ (fieldAt m 0 1 = 3) ∧ (s.dev.link n.val c.val = hsMEASURE) ∧ (s.dev.upstream n.val = false) ∧ (((s.dev.port n.val).ch c.val).exchanges + 1 < 256)) ∧
    (∃ (s : State) (n : Fin 10) (c : Fin 2) (m : List Byte), (controlOk m = true) ∧ (fieldAt m 0 1 = 4) ∧ (s.dev.link n.val c.val = hsMEASURE) ∧ (s.dev.upstream n.val = true)) ∧
    (∃ (s : State) (n : Fin 10) (c : Fin 2) (m : List Byte), (controlOk m = true) ∧ (fieldAt m 0 1 = 2) ∧ (hsDETECT ≤ s.dev.link n.val c.val) ∧ (s.dev.link n.val c.val ≤ hsUP)) ∧
    (∃ (s : State) (n : Fin 10) (c : Fin 2) (m : List Byte), (controlOk m = true) ∧ (fieldAt m 0 1 = 2) ∧ (s.dev.link n.val c.val < hsDETECT ∨ hsUP < s.dev.link n.val c.val)) :=
  ⟨⟨hop 3 id, 0, 0, controlMsg 1 1 1 1 0 [], by decide +kernel⟩,
   ⟨hop 3 id, 0, 0, controlMsg 1 1 0 7 0 [], by decide +kernel⟩,
   ⟨hop 5 id, 0, 0, controlMsg 3 0 1 1 0 [], by decide +kernel⟩,
   ⟨st (fun d => ((hop 4 (fun c => { c with exchanges := 254 })).onDev (fun d => { d with sys := { d.sys with pairEnd := false } })).dev), 0, 0, controlMsg 3 0 1 1 0 [], by decide +kernel⟩,
   ⟨st (fun d => ((hop 4 (fun c => { c with exchanges := 255 })).onDev (fun d => { d with sys := { d.sys with pairEnd := true } })).dev), 0, 0, controlMsg 4 0 1 1 0 [], by decide +kernel⟩,
   ⟨hop 5 id, 0, 0, controlMsg 2 0 1 1 0 [2], by decide +kernel⟩,
   ⟨hop 6 id, 0, 0, controlMsg 2 0 1 1 0 [2], by decide +kernel⟩⟩
/-- A witness for each clause of SegmentBringUpRuns. -/
theorem test_witness_SegmentBringUpRuns :
    (∃ (s : State), (s.dev.mode = 4 ∨ s.dev.mode = 11)) ∧
    (∃ (s : State), (s.dev.mode ≠ 4) ∧ (s.dev.mode ≠ 11)) ∧
    (∃ (s : State) (n : Fin 10), ((s.dev.mode = 4 ∨ s.dev.mode = 11)) ∧ (n.val < 8) ∧ ((s.dev.port n.val).phase = 1)) ∧
    (∃ (s : State) (n : Fin 10), ((s.dev.mode = 4 ∨ s.dev.mode = 11)) ∧ (n.val < 8) ∧ ((s.dev.port n.val).phase = 2) ∧ ((s.dev.port n.val).target = 0)) ∧
    (∃ (s : State) (n : Fin 10), (s.dev.sys.pairEnd = false) ∧ (n.val < 8) ∧ (s.dev.link n.val 0 = hsUP ∨ s.dev.link n.val 1 = hsUP) ∧ (s.dev.mode = 4 ∨ s.dev.mode = 11)) ∧
    (∃ (s : State) (n : Fin 10) (m : List Byte), (controlOk m = true) ∧ (fieldAt m 0 1 = 5) ∧ (n.val < 8) ∧ (bitAt (fieldAt m 1 1) 3 = false) ∧ (fieldAt m 5 1 ≠ 4) ∧ (fieldAt m 8 1 < 64) ∧ ((s.dev.port n.val).phase = 0)) ∧
    (∃ (s : State), (4 ≤ s.dev.mode) ∧ (s.dev.sync = false)) ∧
    (∃ (s : State) (n : Fin 10), (4 ≤ s.dev.mode) ∧ (s.dev.sync = true) ∧ (s.dev.cyc.running = true) ∧ (s.dev.openLeft n.val = 0)) ∧
    (∃ (s : State) (n : Fin 10) (c : Fin 2) (h : Fin 65) (v : Word), (4 ≤ s.dev.mode) ∧ (s.dev.sync = true) ∧ (s.dev.openLeft n.val ≠ 0) ∧ (((v.toNat : Int) - lookupD (hopKey c.val h.val) v.toNat (s.dev.port n.val).calRec).natAbs ≤ 131072) ∧ ((h.val < 64 → s.dev.on (if c.val = 0 then NLS_HOP_W3.STALE_A n.val h.val else NLS_HOP_W3.STALE_B n.val h.val) = false))) ∧
    (∃ (s : State) (n : Fin 10) (c : Fin 2), (s.dev.mode = 11) ∧ (s.dev.on (if c.val = 0 then NLS_RECAL.BUSY_B n.val else NLS_RECAL.BUSY_A n.val) = false) ∧ ((s.dev.cyc.running = true → ((s.dev.port n.val).ch (1 - c.val)).recal ≠ some s.dev.cyc.count))) ∧
    (∃ (s : State) (n : Fin 10) (c : Fin 2), (s.dev.on (if c.val = 0 then NLS_RECAL.BUSY_A n.val else NLS_RECAL.BUSY_B n.val) = true)) ∧
    (∃ (s : State) (n : Fin 10) (f : AsyncFrame) (fs : List AsyncFrame), ((s.dev.port n.val).queue = f :: fs)) ∧
    (∃ (s : State) (n : Fin 10), ((s.dev.port n.val).queue = [])) :=
  ⟨⟨at_ 4 id, by decide +kernel⟩,
   ⟨at_ 7 id, by decide +kernel⟩,
   ⟨port0 4 (fun p => { p with phase := 1 }), 0, by decide +kernel⟩,
   ⟨port0 4 (fun p => { p with phase := 2, target := 0 }), 0, by decide +kernel⟩,
   ⟨at_ 4 (fun d => { d.set (linkFld 0 0) 5 with sys := { d.sys with pairEnd := false } }), 0, by decide +kernel⟩,
   ⟨at_ 4 id, 0, controlMsg 5 0 1 1 0 [63], by decide +kernel⟩,
   ⟨at_ 4 id, by decide +kernel⟩,
   ⟨runs 7 [] [] id, 0, by decide +kernel⟩,
   ⟨runs 7 [] [] (fun d => { d with ltm := { d.ltm with now := quanta 200 } }), 0, 0, 63, 0, by decide +kernel⟩,
   ⟨at_ 11 id, 0, 0, by decide +kernel⟩,
   ⟨at_ 7 (fun d => d.set (NLS_RECAL.BUSY_A 0) 1), 0, 0, by decide +kernel⟩,
   ⟨port0 7 (fun p => { p with queue := [⟨1, 0, [], 0, false, none, 5, 0, 0, 0, none⟩] }), 0, _, _, rfl⟩,
   ⟨at_ 7 id, 0, by decide +kernel⟩⟩
/-- A witness for each clause of TimeEventsAct. -/
theorem test_witness_TimeEventsAct :
    (∃ (s : State), (s.dev.sync = true) ∧ (s.dev.on LTM_STATUS.ORIGIN = false) ∧ (s.dev.on LTM_STATUS.HOLDOVER = false) ∧ (max 1 (s.dev.get LTM_CTRL.HOLDOVER_CYCLES) ≤ s.dev.ltm.noSource)) ∧
    (∃ (s : State), (s.dev.sync = false ∨ s.dev.on LTM_STATUS.ORIGIN = true ∨ s.dev.on LTM_STATUS.HOLDOVER = true ∨ s.dev.ltm.noSource < max 1 (s.dev.get LTM_CTRL.HOLDOVER_CYCLES))) ∧
    (∃ (s : State) (k : Nat), (k = s.dev.get LTM_LINE.LINE_RANK) ∧ (s.dev.on LTM_STATUS.HOLDOVER = true) ∧ (1 ≤ k) ∧ (k ≤ 3) ∧ (s.dev.mode ≠ 8) ∧ (max 1 (s.dev.get LTM_CTRL.HOLDOVER_CYCLES) + 64 * k ≤ s.dev.ltm.noSource)) ∧
    (∃ (s : State) (k : Nat), (k = s.dev.get LTM_LINE.LINE_RANK) ∧ (s.dev.on LTM_STATUS.HOLDOVER = false ∨ k = 0 ∨ 3 < k ∨ s.dev.mode = 8 ∨ s.dev.ltm.noSource < max 1 (s.dev.get LTM_CTRL.HOLDOVER_CYCLES) + 64 * k)) ∧
    (∃ (s : State) (x : List Byte) (n : Nat), (n = min 128 (x.length / 16)) ∧ (n ≠ 0) ∧ (s.dev.mode ≠ 8) ∧ (s.dev.sync = true)) ∧
    (∃ (s : State) (x : List Byte) (n : Nat), (n = min 128 (x.length / 16)) ∧ (n = 0 ∨ s.dev.mode = 8 ∨ s.dev.sync = false)) ∧
    (∃ (s : State), (s.dev.ltm.ppsLost = false)) ∧
    (∃ (s : State), (s.dev.ltm.ppsLost = true)) ∧
    (∃ (s : State) (w : Nat) (v : Nat), (w = s.dev.get LTM_PPS_CTRL.OUT_WIDTH) ∧ (v = (if 1 ≤ w ∧ w ≤ 500 then w else 100)) ∧ (s.dev.ltm.ppsLow = true)) ∧
    (∃ (s : State) (w : Nat) (v : Nat), (w = s.dev.get LTM_PPS_CTRL.OUT_WIDTH) ∧ (v = (if 1 ≤ w ∧ w ≤ 500 then w else 100)) ∧ (s.dev.ltm.ppsLow = false)) ∧
    (∃ (s : State), (s.dev.ha 2 = true)) ∧
    (∃ (s : State), (s.dev.ha 2 = false)) :=
  ⟨⟨at_ 7 (fun d => { (d.set LTM_STATUS.ORIGIN 0).set LTM_STATUS.HOLDOVER 0 with ltm := { d.ltm with noSource := 300 } }), by decide +kernel⟩,
   ⟨at_ 7 id, by decide +kernel⟩,
   ⟨at_ 7 (fun d => { (d.set LTM_STATUS.HOLDOVER 1).set LTM_LINE.LINE_RANK 3 with ltm := { d.ltm with noSource := 600 } }), _, rfl, by decide +kernel⟩,
   ⟨at_ 7 id, _, rfl, by decide +kernel⟩,
   ⟨at_ 7 id, zeros 16, _, rfl, by decide +kernel⟩,
   ⟨at_ 7 id, zeros 15, _, rfl, by decide +kernel⟩,
   ⟨at_ 7 id, by decide +kernel⟩,
   ⟨at_ 7 (fun d => { d with ltm := { d.ltm with ppsLost := true } }), by decide +kernel⟩,
   ⟨at_ 7 (fun d => { d.set LTM_PPS_CTRL.OUT_WIDTH 501 with ltm := { d.ltm with ppsLow := true } }), _, _, rfl, rfl, by decide +kernel⟩,
   ⟨at_ 7 id, _, _, rfl, rfl, by decide +kernel⟩,
   ⟨at_ 7 (fun d => d.cond (condHA 2) true), by decide +kernel⟩,
   ⟨at_ 7 id, by decide +kernel⟩⟩
/-- A witness for each clause of PpsEdgeAndStampTransmit. -/
theorem test_witness_PpsEdgeAndStampTransmit :
    (∃ (s : State) (m : Int) (phi : Int), (m = (((s.dev.now / 65536 : Nat) : Int) - signedOf 32 (s.dev.rd LTM_PPS_DELAY)).emod 1000000000) ∧ (phi = (if 500000000 < m then m - 1000000000 else m))) ∧
    (∃ (s : State), (s.dev.ltm.alignWait = false)) ∧
    (∃ (s : State), (s.dev.ltm.alignWait = true) ∧ (s.dev.now < 2 ^ 79)) ∧
    (∃ (s : State), (s.dev.mode ≠ 5 ∨ s.dev.ltm.alignWait = false)) ∧
    (∃ (s : State), (s.dev.mode = 5) ∧ (s.dev.ltm.alignWait = true)) ∧
    (∃ (s : State) (port : Fin 10) (tag : BitVec 16), ((s.dev.port port.val).awaiting.any (fun f => f.tag == tag.toNat && f.stamp) = true) ∧ (s.dev.ltm.tx.length < 256)) ∧
    (∃ (s : State) (port : Fin 10) (tag : BitVec 16), ((s.dev.port port.val).awaiting.any (fun f => f.tag == tag.toNat && f.stamp) = true) ∧ (256 ≤ s.dev.ltm.tx.length)) ∧
    (∃ (s : State) (port : Fin 10) (tag : BitVec 16), ((s.dev.port port.val).awaiting.any (fun f => f.tag == tag.toNat && f.stamp) = false)) :=
  ⟨⟨at_ 10 (fun d => (d.set SYS_MODE.PERMIT 1).set SYS_WAKE_EN.PPS 1), _, _, rfl, rfl⟩,
   ⟨at_ 7 id, by decide +kernel⟩,
   ⟨at_ 5 (fun d => { d with ltm := { d.ltm with alignWait := true, now := ns 500000000 } }), by decide +kernel⟩,
   ⟨at_ 7 id, by decide +kernel⟩,
   ⟨at_ 5 (fun d => { d with ltm := { d.ltm with alignWait := true } }), by decide +kernel⟩,
   ⟨port0 7 (fun p => { p with awaiting := [⟨1, 0, [], 0, true, none, 5, 0, 0, 0, none⟩] }), 0, 5, by decide +kernel⟩,
   ⟨at_ 7 (fun d => { d.setPort 0 { d.port 0 with awaiting := [⟨1, 0, [], 0, true, none, 5, 0, 0, 0, none⟩] } with ltm := { d.ltm with tx := List.replicate 256 ⟨5, 0, false, 1, 2⟩ } }), 0, 5, by decide +kernel⟩,
   ⟨port0 7 (fun p => { p with awaiting := [⟨1, 0, [], 0, false, none, 5, 0, 0, 0, none⟩] }), 0, 5, by decide +kernel⟩⟩
/-- A witness for each clause of TimedOutputsFire. -/
theorem test_witness_TimedOutputsFire :
    (∃ (s : State) (n : Fin 16) (at0 : LTime), ((s.dev.evoOut n.val).next = some at0)) ∧
    (∃ (s : State) (n : Fin 16) (at0 : LTime), ((s.dev.evoOut n.val).low = some at0)) ∧
    (∃ (s : State) (n : Fin 16), ((s.dev.evoOut n.val).next = none)) ∧
    (∃ (s : State) (n : Fin 16), ((s.dev.evoOut n.val).low = none)) ∧
    (∃ (s : State) (n : Fin 16), (bitAt (s.dev.get EVO_APPLY.APPLY) n.val = false) ∧ (s.dev.evoRules n.val = none)) ∧
    (∃ (s : State) (n : Fin 16), (bitAt (s.dev.get EVO_APPLY.APPLY) n.val = true ∨ s.dev.evoRules n.val ≠ none)) ∧
    (∃ (s : State) (n : Fin 16) (e : EvoOut) (due : Option LTime) (d1 : Dev), (e = s.dev.evoOut n.val) ∧ (due = e.next.filter (fun t => decide (t < s.dev.now + ns 2))) ∧ (d1 = ((((s.dev.set (EVO_CTRL.MODE n.val) 0).goLive (EVO_CTRL n.val) (BitVec.ofNat 32 (withBits (s.dev.lrd (EVO_CTRL n.val)) 1 0 0))).setEvo n.val { e with mode := 0, next := due }).showEvo n.val)) ∧ ((e.next ≠ none ∨ e.mode = 3)) ∧ (due = none)) ∧
    (∃ (s : State) (n : Fin 16) (e : EvoOut) (due : Option LTime) (d1 : Dev), (e = s.dev.evoOut n.val) ∧ (due = e.next.filter (fun t => decide (t < s.dev.now + ns 2))) ∧ (d1 = ((((s.dev.set (EVO_CTRL.MODE n.val) 0).goLive (EVO_CTRL n.val) (BitVec.ofNat 32 (withBits (s.dev.lrd (EVO_CTRL n.val)) 1 0 0))).setEvo n.val { e with mode := 0, next := due }).showEvo n.val)) ∧ ((e.next = none ∧ e.mode ≠ 3) ∨ due ≠ none)) :=
  ⟨⟨at_ 7 (fun d => d.setEvo 0 { d.evoOut 0 with next := some 9 }), 0, 9, by decide +kernel⟩,
   ⟨at_ 7 (fun d => d.setEvo 0 { d.evoOut 0 with low := some 9 }), 0, 9, by decide +kernel⟩,
   ⟨at_ 7 id, 0, by decide +kernel⟩,
   ⟨at_ 7 id, 0, by decide +kernel⟩,
   ⟨at_ 7 (fun d => d.wr (EVO_WIDTH 0) 8), 0, by decide +kernel⟩,
   ⟨at_ 7 id, 0, by decide +kernel⟩,
   ⟨at_ 7 (fun d => d.setEvo 0 { d.evoOut 0 with next := some (ns 9) }), 0, _, _, _, rfl, rfl, rfl, by decide +kernel⟩,
   ⟨at_ 7 (fun d => d.setEvo 0 { d.evoOut 0 with next := some (ns 1) }), 0, _, _, _, rfl, rfl, rfl, by decide +kernel⟩⟩
/-- A witness for each clause of TimePacketsComplete. -/
theorem test_witness_TimePacketsComplete :
    (∃ (s : State) (p : Packet) (p' : Packet) (d' : Dev), (Runs opGetTime p s.dev p' d')) ∧
    (∃ (s : State) (p : Packet) (p' : Packet) (d' : Dev), (Runs opSetMasterRank p s.dev p' d') ∧ (par p' 22 1 = 0) ∧ (par p' 23 1 < 8 ∧ (par p' 24 1 = 2 ∨ par p' 24 1 = 3) ∧ (par p' 25 1 < 64 ∨ par p' 25 1 = 0xFF))) ∧
    (∃ (s : State) (p : Packet) (p' : Packet) (d' : Dev), (Runs opSetMasterRank p s.dev p' d') ∧ (par p' 22 1 = 0) ∧ (8 ≤ par p' 23 1 ∨ (par p' 24 1 ≠ 2 ∧ par p' 24 1 ≠ 3) ∨ (64 ≤ par p' 25 1 ∧ par p' 25 1 ≠ 0xFF))) ∧
    (∃ (s : State) (p : Packet) (p' : Packet) (d' : Dev) (d1 : Dev) (d2 : Dev), (Runs opSetMasterRank p s.dev p' d') ∧ (par p' 22 1 = 1) ∧ (par p' 23 1 ≤ 3 ∨ par p' 23 1 = 0xFF) ∧ (d1 = (d'.set LTM_LINE.LINE_RANK (par p' 23 1)).transact [(0x0A, settingBody 0x0200 0 (par p' 23 1))]) ∧ (d2 = (if d1.cyc.running = true ∧ d1.get LTM_STATUS.SOURCE_PORT = 0xFF ∧ d1.on LTM_STATUS.HOLDOVER = false then d1.leadTime else d1.chooseSource))) ∧
    (∃ (s : State) (p : Packet) (p' : Packet) (d' : Dev), (Runs opSetMasterRank p s.dev p' d') ∧ (2 ≤ par p' 22 1 ∨ (par p' 22 1 = 1 ∧ 3 < par p' 23 1 ∧ par p' 23 1 ≠ 0xFF))) ∧
    (∃ (s : State) (p : Packet) (p' : Packet) (d' : Dev) (n : _) (e : _), (Runs opProgramOutput p s.dev p' d') ∧ (n = par p' 22 1) ∧ (n < 16) ∧ (par p' 23 1 < 4) ∧ (bitAt (d'.get EVO_APPLY.APPLY) n = false) ∧ (e = ((((((d'.wr (EVO_CTRL n) (par p' 23 1 + par p' 24 1 % 4 * 4 + par p' 25 1 * 256)).wr64 (EVO_START_LO n) (par p' 26 8)).wr (EVO_PERIOD n) (par p' 34 4)).wr (EVO_WIDTH n) (par p' 38 4)).wr (EVO_COUNT n) (par p' 42 4)).wr (EVO_TOL n) p'.tol.toNat)) ∧ (e.evoRules n = none)) ∧
    (∃ (s : State) (p : Packet) (p' : Packet) (d' : Dev) (n : _) (e : _) (r : _), (Runs opProgramOutput p s.dev p' d') ∧ (n = par p' 22 1) ∧ (n < 16) ∧ (par p' 23 1 < 4) ∧ (bitAt (d'.get EVO_APPLY.APPLY) n = false) ∧ (e = ((((((d'.wr (EVO_CTRL n) (par p' 23 1 + par p' 24 1 % 4 * 4 + par p' 25 1 * 256)).wr64 (EVO_START_LO n) (par p' 26 8)).wr (EVO_PERIOD n) (par p' 34 4)).wr (EVO_WIDTH n) (par p' 38 4)).wr (EVO_COUNT n) (par p' 42 4)).wr (EVO_TOL n) p'.tol.toNat)) ∧ (e.evoRules n = some r)) ∧
    (∃ (s : State) (p : Packet) (p' : Packet) (d' : Dev), (Runs opProgramOutput p s.dev p' d') ∧ (16 ≤ par p' 22 1 ∨ 4 ≤ par p' 23 1)) ∧
    (∃ (s : State) (p : Packet) (p' : Packet) (d' : Dev), (Runs opProgramOutput p s.dev p' d') ∧ (par p' 22 1 < 16) ∧ (par p' 23 1 < 4) ∧ (bitAt (d'.get EVO_APPLY.APPLY) (par p' 22 1) = true)) ∧
    (∃ (s : State) (p : Packet) (p' : Packet) (d' : Dev), (Runs opCancelOutput p s.dev p' d')) ∧
    (∃ (s : State) (p : Packet) (p' : Packet) (d' : Dev), (Runs opAlignPps p s.dev p' d') ∧ (par p' 22 1 ≤ 1 ∧ 1 ≤ par p' 23 1 ∧ par p' 23 1 ≤ 50)) ∧
    (∃ (s : State) (p : Packet) (p' : Packet) (d' : Dev), (Runs opAlignPps p s.dev p' d') ∧ (1 < par p' 22 1 ∨ par p' 23 1 = 0 ∨ 50 < par p' 23 1)) :=
  ⟨⟨at_ 7 id, pk [], _, _, runs_plain _ _ _ (by decide +kernel)⟩,
   ⟨at_ 7 id, pk [(24, 1, 3), (25, 1, 63)], _, _, runs_plain _ _ _ (by decide +kernel), by decide +kernel⟩,
   ⟨at_ 7 id, pk [(24, 1, 1)], _, _, runs_plain _ _ _ (by decide +kernel), by decide +kernel⟩,
   ⟨at_ 7 id, pk [(22, 1, 1), (23, 1, 0xFF)], _, _, _, _, runs_plain _ _ _ (by decide +kernel), by decide +kernel, by decide +kernel, rfl, rfl⟩,
   ⟨at_ 7 id, pk [(22, 1, 1), (23, 1, 4)], _, _, runs_plain _ _ _ (by decide +kernel), by decide +kernel⟩,
   ⟨at_ 7 id, pk [(38, 4, 8)], _, _, _, _, runs_plain _ _ _ (by decide +kernel), rfl, by decide +kernel, by decide +kernel, by decide +kernel, rfl, by decide +kernel⟩,
   ⟨at_ 7 id, pk [(38, 4, 7)], _, _, _, _, 1, runs_plain _ _ _ (by decide +kernel), rfl, by decide +kernel, by decide +kernel, by decide +kernel, rfl, by decide +kernel⟩,
   ⟨at_ 7 id, pk [(22, 1, 16)], _, _, runs_plain _ _ _ (by decide +kernel), by decide +kernel⟩,
   ⟨at_ 7 (fun d => d.set EVO_APPLY.APPLY 1), pk [], _, _, runs_plain _ _ _ (by decide +kernel), by decide +kernel⟩,
   ⟨at_ 7 id, pk [(22, 2, 5)], _, _, runs_plain _ _ _ (by decide +kernel)⟩,
   ⟨at_ 7 id, pk [(22, 1, 1), (23, 1, 50)], _, _, runs_plain _ _ _ (by decide +kernel), by decide +kernel⟩,
   ⟨at_ 7 id, pk [(22, 1, 1), (23, 1, 51)], _, _, runs_plain _ _ _ (by decide +kernel), by decide +kernel⟩⟩
/-- A witness for each clause of NodeFramesAreFiltered. -/
theorem test_witness_NodeFramesAreFiltered :
    (∃ (s : State) (bs : List Byte), (s.dev.cyc.running = false) ∧ ((parseFrame bs).hdrOk = false ∨ knownType (parseFrame bs).typ = false)) ∧
    (∃ (s : State) (bs : List Byte), (s.dev.cyc.running = false) ∧ ((parseFrame bs).hdrOk = true) ∧ (knownType (parseFrame bs).typ = true)) ∧
    (∃ (s : State) (n : Fin 8) (sof : BitVec 80) (bs : List Byte) (b : SchedBlock) (k : Bool), (s.dev.cyc.running = true) ∧ (s.dev.activeBlock n.val = some b) ∧ (k = ((s.dev.windowSlot n.val sof.toNat b).map (fun x => x.1.kind == 8)).getD false) ∧ ((parseFrame bs).hdrOk = false)) ∧
    (∃ (s : State) (n : Fin 8) (sof : BitVec 80) (bs : List Byte) (b : SchedBlock) (k : Bool), (s.dev.cyc.running = true) ∧ (s.dev.activeBlock n.val = some b) ∧ (k = ((s.dev.windowSlot n.val sof.toNat b).map (fun x => x.1.kind == 8)).getD false) ∧ ((parseFrame bs).hdrOk = true) ∧ (knownType (parseFrame bs).typ = false)) ∧
    (∃ (s : State) (n : Fin 8) (sof : BitVec 80) (bs : List Byte) (b : SchedBlock) (far : Bool), (s.dev.cyc.running = true) ∧ (s.dev.activeBlock n.val = some b) ∧ ((parseFrame bs).hdrOk = true) ∧ (knownType (parseFrame bs).typ = true) ∧ (s.dev.windowSlot n.val sof.toNat b = none) ∧ (far = (s.dev.farSource n.val (parseFrame bs).src && b.slots.any (fun e => sentByHead e == some (!s.dev.headEnd n.val) && s.dev.inWindow n.val sof.toNat b e))) ∧ (far = false)) ∧
    (∃ (s : State) (n : Fin 8) (sof : BitVec 80) (bs : List Byte) (b : SchedBlock) (far : Bool), (s.dev.cyc.running = true) ∧ (s.dev.activeBlock n.val = some b) ∧ ((parseFrame bs).hdrOk = true) ∧ (knownType (parseFrame bs).typ = true) ∧ (s.dev.windowSlot n.val sof.toNat b = none) ∧ (far = (s.dev.farSource n.val (parseFrame bs).src && b.slots.any (fun e => sentByHead e == some (!s.dev.headEnd n.val) && s.dev.inWindow n.val sof.toNat b e))) ∧ (far = true)) ∧
    (∃ (s : State) (n : Fin 8) (sof : BitVec 80) (bs : List Byte) (b : SchedBlock) (e : SlotEntry) (sl : Nat), (s.dev.cyc.running = true) ∧ (s.dev.activeBlock n.val = some b) ∧ ((parseFrame bs).hdrOk = true) ∧ (knownType (parseFrame bs).typ = true) ∧ (s.dev.windowSlot n.val sof.toNat b = some (e, sl)) ∧ (typeFits e.kind (parseFrame bs).typ = false ∨ (parseFrame bs).slot ≠ sl ∨ (parseFrame bs).cycle ≠ s.dev.cyc.count ∨ (s.dev.slotOwner n.val sl b ≠ none ∧ (s.dev.slotOwner n.val sl b ≠ some (some ((parseFrame bs).src % 64)) ∨ s.dev.nodeSource n.val ((parseFrame bs).src % 64) (parseFrame bs).src = false)))) ∧
    (∃ (s : State) (n : Fin 8) (sof : BitVec 80) (bs : List Byte) (b : SchedBlock) (e : SlotEntry) (sl : Nat), (s.dev.cyc.running = true) ∧ (s.dev.activeBlock n.val = some b) ∧ ((parseFrame bs).hdrOk = true) ∧ (knownType (parseFrame bs).typ = true) ∧ (s.dev.windowSlot n.val sof.toNat b = some (e, sl)) ∧ (typeFits e.kind (parseFrame bs).typ = true) ∧ ((parseFrame bs).slot = sl) ∧ ((parseFrame bs).cycle = s.dev.cyc.count) ∧ (s.dev.slotOwner n.val sl b = none ∨ (s.dev.slotOwner n.val sl b = some (some ((parseFrame bs).src % 64)) ∧ s.dev.nodeSource n.val ((parseFrame bs).src % 64) (parseFrame bs).src = true)) ∧ ((parseFrame bs).bodyOk = false)) ∧
    (∃ (s : State) (n : Fin 8) (sof : BitVec 80) (bs : List Byte) (b : SchedBlock) (e : SlotEntry) (sl : Nat), (s.dev.cyc.running = true) ∧ (s.dev.activeBlock n.val = some b) ∧ ((parseFrame bs).hdrOk = true) ∧ (knownType (parseFrame bs).typ = true) ∧ (s.dev.windowSlot n.val sof.toNat b = some (e, sl)) ∧ (typeFits e.kind (parseFrame bs).typ = true) ∧ ((parseFrame bs).slot = sl) ∧ ((parseFrame bs).cycle = s.dev.cyc.count) ∧ (s.dev.slotOwner n.val sl b = none ∨ (s.dev.slotOwner n.val sl b = some (some ((parseFrame bs).src % 64)) ∧ s.dev.nodeSource n.val ((parseFrame bs).src % 64) (parseFrame bs).src = true)) ∧ ((parseFrame bs).bodyOk = true) ∧ (s.dev.on (NLS_POS_W2.FENCED n.val ((parseFrame bs).src % 64)) = true)) ∧
    (∃ (s : State) (n : Fin 8) (c : Fin 2) (sof : BitVec 80) (bs : List Byte) (b : SchedBlock) (e : SlotEntry) (sl : Nat) (u : List Byte) (d1 : Dev), (s.dev.cyc.running = true) ∧ (s.dev.activeBlock n.val = some b) ∧ ((parseFrame bs).hdrOk = true) ∧ (knownType (parseFrame bs).typ = true) ∧ (s.dev.windowSlot n.val sof.toNat b = some (e, sl)) ∧ (typeFits e.kind (parseFrame bs).typ = true) ∧ ((parseFrame bs).slot = sl) ∧ ((parseFrame bs).cycle = s.dev.cyc.count) ∧ (s.dev.slotOwner n.val sl b = none ∨ (s.dev.slotOwner n.val sl b = some (some ((parseFrame bs).src % 64)) ∧ s.dev.nodeSource n.val ((parseFrame bs).src % 64) (parseFrame bs).src = true)) ∧ ((parseFrame bs).bodyOk = true) ∧ (s.dev.on (NLS_POS_W2.FENCED n.val ((parseFrame bs).src % 64)) = false) ∧ (u = (spliceAt bs 1 [BitVec.ofNat 8 ((parseFrame bs).flags / 2 * 2)]).take 16 ++ (parseFrame bs).payload) ∧ (d1 = s.dev.setPort n.val { s.dev.port n.val with rx := putKey sl { (s.dev.port n.val).slotRx sl with state := c.val + 1, used := u } (s.dev.port n.val).rx }) ∧ ((parseFrame bs).typ = 2) ∧ (((s.dev.port n.val).slotRx sl).state = 0)) ∧
    (∃ (s : State) (n : Fin 8) (c : Fin 2) (sof : BitVec 80) (bs : List Byte) (b : SchedBlock) (e : SlotEntry) (sl : Nat) (u : List Byte) (d1 : Dev), (s.dev.cyc.running = true) ∧ (s.dev.activeBlock n.val = some b) ∧ ((parseFrame bs).hdrOk = true) ∧ (knownType (parseFrame bs).typ = true) ∧ (s.dev.windowSlot n.val sof.toNat b = some (e, sl)) ∧ (typeFits e.kind (parseFrame bs).typ = true) ∧ ((parseFrame bs).slot = sl) ∧ ((parseFrame bs).cycle = s.dev.cyc.count) ∧ (s.dev.slotOwner n.val sl b = none ∨ (s.dev.slotOwner n.val sl b = some (some ((parseFrame bs).src % 64)) ∧ s.dev.nodeSource n.val ((parseFrame bs).src % 64) (parseFrame bs).src = true)) ∧ ((parseFrame bs).bodyOk = true) ∧ (s.dev.on (NLS_POS_W2.FENCED n.val ((parseFrame bs).src % 64)) = false) ∧ (u = (spliceAt bs 1 [BitVec.ofNat 8 ((parseFrame bs).flags / 2 * 2)]).take 16 ++ (parseFrame bs).payload) ∧ (d1 = s.dev.setPort n.val { s.dev.port n.val with rx := putKey sl { (s.dev.port n.val).slotRx sl with state := c.val + 1, used := u } (s.dev.port n.val).rx }) ∧ ((parseFrame bs).typ = 8) ∧ (((s.dev.port n.val).slotRx sl).state = 0)) ∧
    (∃ (s : State) (n : Fin 8) (c : Fin 2) (sof : BitVec 80) (bs : List Byte) (b : SchedBlock) (e : SlotEntry) (sl : Nat) (u : List Byte) (d1 : Dev), (s.dev.cyc.running = true) ∧ (s.dev.activeBlock n.val = some b) ∧ ((parseFrame bs).hdrOk = true) ∧ (knownType (parseFrame bs).typ = true) ∧ (s.dev.windowSlot n.val sof.toNat b = some (e, sl)) ∧ (typeFits e.kind (parseFrame bs).typ = true) ∧ ((parseFrame bs).slot = sl) ∧ ((parseFrame bs).cycle = s.dev.cyc.count) ∧ (s.dev.slotOwner n.val sl b = none ∨ (s.dev.slotOwner n.val sl b = some (some ((parseFrame bs).src % 64)) ∧ s.dev.nodeSource n.val ((parseFrame bs).src % 64) (parseFrame bs).src = true)) ∧ ((parseFrame bs).bodyOk = true) ∧ (s.dev.on (NLS_POS_W2.FENCED n.val ((parseFrame bs).src % 64)) = false) ∧ (u = (spliceAt bs 1 [BitVec.ofNat 8 ((parseFrame bs).flags / 2 * 2)]).take 16 ++ (parseFrame bs).payload) ∧ (d1 = s.dev.setPort n.val { s.dev.port n.val with rx := putKey sl { (s.dev.port n.val).slotRx sl with state := c.val + 1, used := u } (s.dev.port n.val).rx }) ∧ ((parseFrame bs).typ ≠ 2) ∧ ((parseFrame bs).typ ≠ 8) ∧ (((s.dev.port n.val).slotRx sl).state = 0)) ∧
    (∃ (s : State) (n : Fin 8) (c : Fin 2) (sof : BitVec 80) (bs : List Byte) (b : SchedBlock) (e : SlotEntry) (sl : Nat) (u : List Byte) (d1 : Dev), (s.dev.cyc.running = true) ∧ (s.dev.activeBlock n.val = some b) ∧ ((parseFrame bs).hdrOk = true) ∧ (knownType (parseFrame bs).typ = true) ∧ (s.dev.windowSlot n.val sof.toNat b = some (e, sl)) ∧ (typeFits e.kind (parseFrame bs).typ = true) ∧ ((parseFrame bs).slot = sl) ∧ ((parseFrame bs).cycle = s.dev.cyc.count) ∧ (s.dev.slotOwner n.val sl b = none ∨ (s.dev.slotOwner n.val sl b = some (some ((parseFrame bs).src % 64)) ∧ s.dev.nodeSource n.val ((parseFrame bs).src % 64) (parseFrame bs).src = true)) ∧ ((parseFrame bs).bodyOk = true) ∧ (s.dev.on (NLS_POS_W2.FENCED n.val ((parseFrame bs).src % 64)) = false) ∧ (u = (spliceAt bs 1 [BitVec.ofNat 8 ((parseFrame bs).flags / 2 * 2)]).take 16 ++ (parseFrame bs).payload) ∧ (d1 = s.dev.setPort n.val { s.dev.port n.val with rx := putKey sl { (s.dev.port n.val).slotRx sl with state := c.val + 1, used := u } (s.dev.port n.val).rx }) ∧ (((s.dev.port n.val).slotRx sl).state = c.val + 1 ∨ ((s.dev.port n.val).slotRx sl).state = 3)) ∧
    (∃ (s : State) (n : Fin 8) (c : Fin 2) (sof : BitVec 80) (bs : List Byte) (b : SchedBlock) (e : SlotEntry) (sl : Nat) (u : List Byte) (d1 : Dev), (s.dev.cyc.running = true) ∧ (s.dev.activeBlock n.val = some b) ∧ ((parseFrame bs).hdrOk = true) ∧ (knownType (parseFrame bs).typ = true) ∧ (s.dev.windowSlot n.val sof.toNat b = some (e, sl)) ∧ (typeFits e.kind (parseFrame bs).typ = true) ∧ ((parseFrame bs).slot = sl) ∧ ((parseFrame bs).cycle = s.dev.cyc.count) ∧ (s.dev.slotOwner n.val sl b = none ∨ (s.dev.slotOwner n.val sl b = some (some ((parseFrame bs).src % 64)) ∧ s.dev.nodeSource n.val ((parseFrame bs).src % 64) (parseFrame bs).src = true)) ∧ ((parseFrame bs).bodyOk = true) ∧ (s.dev.on (NLS_POS_W2.FENCED n.val ((parseFrame bs).src % 64)) = false) ∧ (u = (spliceAt bs 1 [BitVec.ofNat 8 ((parseFrame bs).flags / 2 * 2)]).take 16 ++ (parseFrame bs).payload) ∧ (d1 = s.dev.setPort n.val { s.dev.port n.val with rx := putKey sl { (s.dev.port n.val).slotRx sl with state := c.val + 1, used := u } (s.dev.port n.val).rx }) ∧ (((s.dev.port n.val).slotRx sl).state = 2 - c.val)) ∧
    (∃ (s : State) (n : Fin 8) (b : SchedBlock) (e : SlotEntry) (sl : Fin 768) (r : Nat) (d1 : Dev) (d2 : Dev), (s.dev.cyc.running = true) ∧ (s.dev.activeBlock n.val = some b) ∧ (b.slots[sl.val]? = some e) ∧ (nodeSlot e = true) ∧ (((s.dev.port n.val).slotRx sl.val).closed = false) ∧ (r = ((s.dev.port n.val).slotRx sl.val).state) ∧ (d1 = s.dev.setPort n.val { s.dev.port n.val with rx := putKey sl.val { (s.dev.port n.val).slotRx sl.val with closed := true } (s.dev.port n.val).rx }) ∧ (d2 = d1.when (r == 1 || r == 2) (Dev.count32 (NLS_SINGLE_CNT n.val) 1)) ∧ (e.kind = 8)) ∧
    (∃ (s : State) (n : Fin 8) (b : SchedBlock) (e : SlotEntry) (sl : Fin 768) (r : Nat) (d1 : Dev) (d2 : Dev) (p : Nat), (s.dev.cyc.running = true) ∧ (s.dev.activeBlock n.val = some b) ∧ (b.slots[sl.val]? = some e) ∧ (nodeSlot e = true) ∧ (((s.dev.port n.val).slotRx sl.val).closed = false) ∧ (r = ((s.dev.port n.val).slotRx sl.val).state) ∧ (d1 = s.dev.setPort n.val { s.dev.port n.val with rx := putKey sl.val { (s.dev.port n.val).slotRx sl.val with closed := true } (s.dev.port n.val).rx }) ∧ (d2 = d1.when (r == 1 || r == 2) (Dev.count32 (NLS_SINGLE_CNT n.val) 1)) ∧ (e.kind ≠ 2) ∧ (s.dev.slotOwner n.val sl.val b = some (some p)) ∧ (s.dev.on (NLS_POS_W2.PRESENT n.val p) = true ∨ s.dev.on (NLS_POS_W2.PITCH n.val p) = true)) ∧
    (∃ (s : State) (n : Fin 8) (b : SchedBlock) (e : SlotEntry) (sl : Fin 768) (r : Nat) (d1 : Dev) (d2 : Dev), (s.dev.cyc.running = true) ∧ (s.dev.activeBlock n.val = some b) ∧ (b.slots[sl.val]? = some e) ∧ (nodeSlot e = true) ∧ (((s.dev.port n.val).slotRx sl.val).closed = false) ∧ (r = ((s.dev.port n.val).slotRx sl.val).state) ∧ (d1 = s.dev.setPort n.val { s.dev.port n.val with rx := putKey sl.val { (s.dev.port n.val).slotRx sl.val with closed := true } (s.dev.port n.val).rx }) ∧ (d2 = d1.when (r == 1 || r == 2) (Dev.count32 (NLS_SINGLE_CNT n.val) 1)) ∧ (e.kind = 2)) ∧
    (∃ (s : State) (n : Fin 8) (b : SchedBlock) (e : SlotEntry) (sl : Fin 768), (s.dev.activeBlock n.val = some b) ∧ (b.slots[sl.val]? = some e) ∧ (s.dev.cyc.running = false ∨ nodeSlot e = false ∨ ((s.dev.port n.val).slotRx sl.val).closed = true)) :=
  ⟨⟨at_ 4 id, [], by decide +kernel⟩,
   ⟨at_ 4 id, frameBytes 2 0 3 0 0 0 [], by decide +kernel⟩,
   ⟨runs 7 [slotE 8 3 24 0 1] [] id, 0, 0, [], _, _, by decide +kernel, rfl, rfl, by decide +kernel⟩,
   ⟨runs 7 [slotE 8 3 24 0 1] [] id, 0, 0, frameBytes 15 0 3 0 0 0 [], _, _, by decide +kernel, rfl, rfl, by decide +kernel⟩,
   ⟨runs 7 [] [] id, 0, 0, frameBytes 2 0 3 0 0 0 [], _, _, by decide +kernel, rfl, by decide +kernel, by decide +kernel, by decide +kernel, rfl, by decide +kernel⟩,
   ⟨runs 7 [slotE 1 3 24 0 1] [] id, 0, 0, frameBytes 1 0 0xF000 0 0 0 [], _, _, by decide +kernel, rfl, by decide +kernel, by decide +kernel, by decide +kernel, rfl, by decide +kernel⟩,
   ⟨runs 7 [slotE 2 3 24 0 1] [] id, 0, 0, frameBytes 2 0 3 0 1 0 [], _, _, _, by decide +kernel, rfl, by decide +kernel, by decide +kernel, rfl, .inr (.inl (by decide))⟩,
   ⟨runs 7 [slotE 2 3 24 0 1] [] id, 0, 0, (frameBytes 2 0 3 0 0 0 [1]).take 22, _, _, _, by decide +kernel, rfl, by decide +kernel, by decide +kernel, rfl, by decide +kernel, by decide +kernel, by decide +kernel, .inr (by decide +kernel), by decide +kernel⟩,
   ⟨runs 7 [slotE 2 3 24 0 1] [] (fun d => d.set (NLS_POS_W2.FENCED 0 3) 1), 0, 0, frameBytes 2 0 3 0 0 0 [1], _, _, _, by decide +kernel, rfl, by decide +kernel, by decide +kernel, rfl, by decide +kernel, by decide +kernel, by decide +kernel, .inr (by decide +kernel), by decide +kernel⟩,
   ⟨runs 7 [slotE 2 3 24 0 1] [] id, 0, 0, 0, frameBytes 2 0 3 0 0 0 [1], _, _, _, _, _, by decide +kernel, rfl, by decide +kernel, by decide +kernel, rfl, by decide +kernel, by decide +kernel, by decide +kernel, .inr (by decide +kernel), by decide +kernel, by decide +kernel, rfl, rfl, by decide +kernel⟩,
   ⟨runs 7 [slotE 7 3 24 0 1] [] id, 0, 0, 0, frameBytes 8 0 3 0 0 0 [1], _, _, _, _, _, by decide +kernel, rfl, by decide +kernel, by decide +kernel, rfl, by decide +kernel, by decide +kernel, by decide +kernel, .inr (by decide +kernel), by decide +kernel, by decide +kernel, rfl, rfl, by decide +kernel⟩,
   ⟨runs 7 [slotE 8 3 24 0 1] [] id, 0, 0, 0, frameBytes 5 0 9 0 0 0 [1], _, _, _, _, _, by decide +kernel, rfl, by decide +kernel, by decide +kernel, rfl, by decide +kernel, by decide +kernel, by decide +kernel, .inl (by decide +kernel), by decide +kernel, by decide +kernel, rfl, rfl, by decide +kernel⟩,
   ⟨runs 7 [slotE 2 3 24 0 1] [] (fun d => d.setPort 0 { d.port 0 with rx := [(0, ⟨1, [], false⟩)] }), 0, 0, 0, frameBytes 2 0 3 0 0 0 [1], _, _, _, _, _, by decide +kernel, rfl, by decide +kernel, by decide +kernel, rfl, by decide +kernel, by decide +kernel, by decide +kernel, .inr (by decide +kernel), by decide +kernel, by decide +kernel, rfl, rfl, by decide +kernel⟩,
   ⟨runs 7 [slotE 2 3 24 0 1] [] (fun d => d.setPort 0 { d.port 0 with rx := [(0, ⟨2, [], false⟩)] }), 0, 0, 0, frameBytes 2 0 3 0 0 0 [1], _, _, _, _, _, by decide +kernel, rfl, by decide +kernel, by decide +kernel, rfl, by decide +kernel, by decide +kernel, by decide +kernel, .inr (by decide +kernel), by decide +kernel, by decide +kernel, rfl, rfl, by decide +kernel⟩,
   ⟨runs 7 [slotE 8 3 24 0 1] [] (fun d => d.setPort 0 { d.port 0 with rx := [(0, ⟨2, [], false⟩)] }), 0, _, _, 0, _, _, _, by decide +kernel, rfl, rfl, by decide +kernel, by decide +kernel, rfl, rfl, rfl, by decide +kernel⟩,
   ⟨runs 7 [slotE 5 3 24 0 1] [] (fun d => (d.set (NLS_POS_W2.PRESENT 0 3) 1).setPort 0 { d.port 0 with rx := [(0, ⟨2, [], false⟩)] }), 0, _, _, 0, _, _, _, 3, by decide +kernel, rfl, rfl, by decide +kernel, by decide +kernel, rfl, rfl, rfl, by decide +kernel⟩,
   ⟨runs 7 [slotE 2 3 24 0 1] [] (fun d => d.set (NLS_POS_W2.PRESENT 0 3) 1), 0, _, _, 0, _, _, _, by decide +kernel, rfl, rfl, by decide +kernel, by decide +kernel, rfl, rfl, rfl, by decide +kernel⟩,
   ⟨runs 7 [slotE 3 3 24 0 1] [] id, 0, _, _, 0, rfl, rfl, by decide +kernel⟩⟩
/-- A witness for each clause of ClaimsRequestsAndReleases. -/
theorem test_witness_ClaimsRequestsAndReleases :
    (∃ (s : State), (s.dev.cyc.running = false)) ∧
    (∃ (s : State) (n : Fin 8) (d1 : Dev), (s.dev.cyc.running = true) ∧ (d1 = s.dev.count (NLS_CLAIM_CNT.VALID n.val) 1) ∧ (d1.mode = 8)) ∧
    (∃ (s : State) (n : Fin 8) (pos : Fin 64) (d1 : Dev), (s.dev.cyc.running = true) ∧ (d1 = s.dev.count (NLS_CLAIM_CNT.VALID n.val) 1) ∧ (d1.mode ≠ 8) ∧ (d1.on (NLS_POS_W2.FENCED n.val pos.val) = true)) ∧
    (∃ (s : State) (n : Fin 8) (pos : Fin 64) (req : List Byte) (d1 : Dev), (s.dev.cyc.running = true) ∧ (d1 = s.dev.count (NLS_CLAIM_CNT.VALID n.val) 1) ∧ (d1.mode ≠ 8) ∧ (d1.on (NLS_POS_W2.FENCED n.val pos.val) = false) ∧ (d1.ha 4 = false ∨ (d1.port n.val).holders.any (fun h => h.2 == reqIdentity (padTo 24 req)) = true)) ∧
    (∃ (s : State) (n : Fin 8) (pos : Fin 64) (req : List Byte) (d1 : Dev), (s.dev.cyc.running = true) ∧ (d1 = s.dev.count (NLS_CLAIM_CNT.VALID n.val) 1) ∧ (d1.mode ≠ 8) ∧ (d1.on (NLS_POS_W2.FENCED n.val pos.val) = false) ∧ (d1.ha 4 = true) ∧ ((d1.port n.val).holders.any (fun h => h.2 == reqIdentity (padTo 24 req)) = false)) ∧
    (∃ (s : State) (n : Fin 8) (pos : Fin 64), (s.dev.on (NLS_POS_W2.FENCED n.val pos.val) = true)) ∧
    (∃ (s : State) (n : Fin 8) (pos : Fin 64) (d1 : Dev), (s.dev.cyc.running = true) ∧ (s.dev.on (NLS_POS_W2.FENCED n.val pos.val) = false) ∧ (d1 = s.dev.count (NLS_CLAIM_CNT.VALID n.val) 1)) ∧
    (∃ (s : State) (n : Fin 8) (pos : Fin 64) (d1 : Dev) (k : Nat), (s.dev.cyc.running = true) ∧ (s.dev.on (NLS_POS_W2.FENCED n.val pos.val) = false) ∧ (d1 = s.dev.count (NLS_CLAIM_CNT.VALID n.val) 1) ∧ (d1.mode ≠ 8) ∧ ((List.range 32).find? (fun k => d1.get (NLS_PITCH.STATE n.val k) == 3 && d1.get (NLS_PITCH.HOLDER n.val k) == pos.val) = some k)) ∧
    (∃ (s : State) (n : Fin 8) (pos : Fin 64) (d1 : Dev), (s.dev.cyc.running = true) ∧ (s.dev.on (NLS_POS_W2.FENCED n.val pos.val) = false) ∧ (d1 = s.dev.count (NLS_CLAIM_CNT.VALID n.val) 1) ∧ (d1.mode = 8 ∨ (List.range 32).find? (fun k => d1.get (NLS_PITCH.STATE n.val k) == 3 && d1.get (NLS_PITCH.HOLDER n.val k) == pos.val) = none)) ∧
    (∃ (s : State) (n : Fin 8) (pos : Fin 64) (gen : BitVec 16) (g : Generation), (s.dev.cyc.pending = some g) ∧ (s.dev.on (NLS_POS_W2.FENCED n.val pos.val) = false) ∧ (g.num = gen.toNat)) ∧
    (∃ (s : State) (n : Fin 8) (pos : Fin 64) (gen : BitVec 16), ((s.dev.cyc.pending.map (fun g => g.num)) ≠ some gen.toNat ∨ s.dev.on (NLS_POS_W2.FENCED n.val pos.val) = true)) ∧
    (∃ (s : State) (n : Fin 8) (k : Fin 32), (s.dev.get (NLS_PITCH.STATE n.val k.val) = 3) ∧ (s.dev.get (NLS_PITCH.SILENT n.val k.val) = 1000) ∧ (s.dev.mode ≠ 8) ∧ (s.dev.cyc.running = true) ∧ (s.dev.releaseWaits n.val k.val = false)) ∧
    (∃ (s : State) (n : Fin 8) (k : Fin 32), (s.dev.get (NLS_PITCH.STATE n.val k.val) ≠ 3 ∨ s.dev.get (NLS_PITCH.SILENT n.val k.val) ≠ 1000 ∨ s.dev.mode = 8 ∨ s.dev.cyc.running = false ∨ s.dev.releaseWaits n.val k.val = true)) ∧
    (∃ (s : State) (n : Fin 10) (tag : BitVec 16) (f : AsyncFrame), ((s.dev.port n.val).awaiting.find? (fun f => f.ref.isSome && f.replyAddr != 0 && f.tag == tag.toNat) = some f)) ∧
    (∃ (s : State) (n : Fin 10) (tag : BitVec 16), ((s.dev.port n.val).awaiting.find? (fun f => f.ref.isSome && f.replyAddr != 0 && f.tag == tag.toNat) = none)) :=
  ⟨⟨at_ 7 id, by decide +kernel⟩,
   ⟨runs 8 [] [] id, 0, _, by decide +kernel, rfl, by decide +kernel⟩,
   ⟨runs 7 [] [] (fun d => d.set (NLS_POS_W2.FENCED 0 63) 1), 0, 63, _, by decide +kernel, rfl, by decide +kernel⟩,
   ⟨runs 7 [] [] id, 0, 63, [], _, by decide +kernel, rfl, by decide +kernel⟩,
   ⟨runs 7 [] [] (fun d => d.cond (condHA 4) true), 0, 0, [], _, by decide +kernel, rfl, by decide +kernel⟩,
   ⟨runs 7 [] [] (fun d => d.set (NLS_POS_W2.FENCED 0 63) 1), 0, 63, by decide +kernel⟩,
   ⟨runs 7 [] [] id, 0, 0, _, by decide +kernel, by decide +kernel, rfl⟩,
   ⟨runs 7 [] [] (fun d => d.set (NLS_PITCH.STATE 0 31) 3), 0, 0, _, _, by decide +kernel, by decide +kernel, rfl, by decide +kernel, rfl⟩,
   ⟨runs 7 [] [] id, 0, 0, _, by decide +kernel, by decide +kernel, rfl, by decide +kernel⟩,
   ⟨at_ 7 (fun d => { d with cyc := { d.cyc with pending := some gen0 } }), 0, 0, 1, _, rfl, by decide +kernel⟩,
   ⟨at_ 7 (fun d => { d with cyc := { d.cyc with pending := some gen0 } }), 0, 0, 2, by decide +kernel⟩,
   ⟨runs 7 [] [] (fun d => (d.set (NLS_PITCH.STATE 0 31) 3).set (NLS_PITCH.SILENT 0 31) 1000), 0, 31, by decide +kernel⟩,
   ⟨runs 7 [] [] id, 0, 0, by decide +kernel⟩,
   ⟨port0 7 (fun p => { p with awaiting := [⟨1, 0, [], 0, true, some ⟨0, 1, 0, false⟩, 5, 8, 0, 0, none⟩] }), 0, 5, _, rfl⟩,
   ⟨at_ 7 id, 0, 0, by decide +kernel⟩⟩
/-- A witness for each clause of NetworkPacketsTakeEffect. -/
theorem test_witness_NetworkPacketsTakeEffect :
    (∃ (s : State) (p : Packet) (p' : Packet) (d' : Dev) (bs : List Byte), (Runs opLoadSchedule p s.dev p' d') ∧ (p'.host = some bs) ∧ (imageStatus ((d'.sys.package.map (·.digests)).getD []) (par p' 30 4) (padTo (par p' 30 4) bs) = 0) ∧ (d'.cyc.countdown = none)) ∧
    (∃ (s : State) (p : Packet) (p' : Packet) (d' : Dev) (bs : List Byte), (Runs opLoadSchedule p s.dev p' d') ∧ (p'.host = some bs) ∧ (imageStatus ((d'.sys.package.map (·.digests)).getD []) (par p' 30 4) (padTo (par p' 30 4) bs) = 0) ∧ (d'.cyc.countdown ≠ none)) ∧
    (∃ (s : State) (p : Packet) (p' : Packet) (d' : Dev) (bs : List Byte), (Runs opLoadSchedule p s.dev p' d') ∧ (p'.host = some bs) ∧ (imageStatus ((d'.sys.package.map (·.digests)).getD []) (par p' 30 4) (padTo (par p' 30 4) bs) ≠ 0)) ∧
    (∃ (s : State) (p : Packet) (p' : Packet) (d' : Dev) (n : _), (Runs opGetSegmentStatus p s.dev p' d') ∧ (portOf (par p' 22 1) = some n)) ∧
    (∃ (s : State) (p : Packet) (p' : Packet) (d' : Dev), (Runs opGetSegmentStatus p s.dev p' d') ∧ (portOf (par p' 22 1) = none)) ∧
    (∃ (s : State) (p : Packet) (p' : Packet) (d' : Dev), (Runs opSendAsync p s.dev p' d') ∧ (portOf (par p' 22 1) = none)) ∧
    (∃ (s : State) (p : Packet) (p' : Packet) (d' : Dev), (Runs opGetLinkStats p s.dev p' d') ∧ (portOf (par p' 22 1) = none)) ∧
    (∃ (s : State) (p : Packet) (p' : Packet) (d' : Dev) (n : _) (pos : _) (c : _), (Runs opGrantPitch p s.dev p' d') ∧ (n = par p' 22 1) ∧ (pos = par p' 23 1) ∧ (n < 8) ∧ (pos < 64) ∧ ((d'.port n).posted.find? (fun c => c.pos == pos && decide (d'.cyclesSince c.cycle ≤ 64)) = some c) ∧ (bitAt (par p' 25 1) 0 = true)) ∧
    (∃ (s : State) (p : Packet) (p' : Packet) (d' : Dev) (n : _) (pos : _) (c : _), (Runs opGrantPitch p s.dev p' d') ∧ (n = par p' 22 1) ∧ (pos = par p' 23 1) ∧ (n < 8) ∧ (pos < 64) ∧ ((d'.port n).posted.find? (fun c => c.pos == pos && decide (d'.cyclesSince c.cycle ≤ 64)) = some c) ∧ (bitAt (par p' 25 1) 0 = false) ∧ (par p' 24 1 ≠ 0xFF) ∧ (d'.pitchFits n (par p' 24 1) pos c.req = true)) ∧
    (∃ (s : State) (p : Packet) (p' : Packet) (d' : Dev) (n : _) (pos : _) (c : _), (Runs opGrantPitch p s.dev p' d') ∧ (n = par p' 22 1) ∧ (pos = par p' 23 1) ∧ (n < 8) ∧ (pos < 64) ∧ ((d'.port n).posted.find? (fun c => c.pos == pos && decide (d'.cyclesSince c.cycle ≤ 64)) = some c) ∧ (bitAt (par p' 25 1) 0 = false) ∧ (par p' 24 1 ≠ 0xFF) ∧ (d'.pitchFits n (par p' 24 1) pos c.req = false)) ∧
    (∃ (s : State) (p : Packet) (p' : Packet) (d' : Dev) (n : _) (pos : _) (c : _) (k : _), (Runs opGrantPitch p s.dev p' d') ∧ (n = par p' 22 1) ∧ (pos = par p' 23 1) ∧ (n < 8) ∧ (pos < 64) ∧ ((d'.port n).posted.find? (fun c => c.pos == pos && decide (d'.cyclesSince c.cycle ≤ 64)) = some c) ∧ (bitAt (par p' 25 1) 0 = false) ∧ (par p' 24 1 = 0xFF) ∧ ((List.range 32).find? (fun k => d'.pitchFits n k pos c.req) = some k)) ∧
    (∃ (s : State) (p : Packet) (p' : Packet) (d' : Dev) (n : _) (pos : _) (c : _), (Runs opGrantPitch p s.dev p' d') ∧ (n = par p' 22 1) ∧ (pos = par p' 23 1) ∧ (n < 8) ∧ (pos < 64) ∧ ((d'.port n).posted.find? (fun c => c.pos == pos && decide (d'.cyclesSince c.cycle ≤ 64)) = some c) ∧ (bitAt (par p' 25 1) 0 = false) ∧ (par p' 24 1 = 0xFF) ∧ ((List.range 32).find? (fun k => d'.pitchFits n k pos c.req) = none)) ∧
    (∃ (s : State) (p : Packet) (p' : Packet) (d' : Dev), (Runs opGrantPitch p s.dev p' d') ∧ (8 ≤ par p' 22 1 ∨ 64 ≤ par p' 23 1 ∨ (d'.port (par p' 22 1)).posted.find? (fun c => c.pos == par p' 23 1 && decide (d'.cyclesSince c.cycle ≤ 64)) = none)) ∧
    (∃ (s : State) (p : Packet) (p' : Packet) (d' : Dev), (Runs opRevokePitch p s.dev p' d') ∧ (par p' 22 1 < 8 ∧ par p' 23 1 < 32 ∧ d'.get (NLS_PITCH.STATE (par p' 22 1) (par p' 23 1)) = 3)) ∧
    (∃ (s : State) (p : Packet) (p' : Packet) (d' : Dev), (Runs opRevokePitch p s.dev p' d') ∧ (8 ≤ par p' 22 1 ∨ 32 ≤ par p' 23 1 ∨ d'.get (NLS_PITCH.STATE (par p' 22 1) (par p' 23 1)) ≠ 3)) ∧
    (∃ (s : State) (p : Packet) (p' : Packet) (d' : Dev) (n : _) (bs : List Byte), (Runs opSendAsync p s.dev p' d') ∧ (portOf (par p' 22 1) = some n) ∧ (par p' 23 1 < 6) ∧ (par p' 28 2 ≤ 2048) ∧ (par p' 38 8 = 0 ∨ (1 ≤ par p' 48 2 ∧ par p' 48 2 ≤ 1000)) ∧ (p'.host = some bs)) ∧
    (∃ (s : State) (p : Packet) (p' : Packet) (d' : Dev) (n : _), (Runs opSendAsync p s.dev p' d') ∧ (portOf (par p' 22 1) = some n) ∧ (6 ≤ par p' 23 1 ∨ 2048 < par p' 28 2 ∨ (par p' 38 8 ≠ 0 ∧ (par p' 48 2 = 0 ∨ 1000 < par p' 48 2)))) ∧
    (∃ (s : State) (p : Packet) (p' : Packet) (d' : Dev) (n : _) (bs : List Byte) (w : _) (d1 : Dev), (Runs opGetLinkStats p s.dev p' d') ∧ (portOf (par p' 22 1) = some n) ∧ (p'.host = some bs) ∧ (w = [(0x000, 0x40), (0x100, 0x40), (0x400, 0x400), (0x800, 0x400)]) ∧ (d1 = d'.emit (.hostWrite (par p' 24 8) (d'.outBytes p' (w.flatMap (fun x => d'.regBytes (NLS_LINK_CTRL n + x.1) x.2))))) ∧ (bitAt (par p' 23 1) 0 = false)) ∧
    (∃ (s : State) (p : Packet) (p' : Packet) (d' : Dev) (n : _) (bs : List Byte) (w : _) (d1 : Dev) (d2 : Dev), (Runs opGetLinkStats p s.dev p' d') ∧ (portOf (par p' 22 1) = some n) ∧ (p'.host = some bs) ∧ (w = [(0x000, 0x40), (0x100, 0x40), (0x400, 0x400), (0x800, 0x400)]) ∧ (d1 = d'.emit (.hostWrite (par p' 24 8) (d'.outBytes p' (w.flatMap (fun x => d'.regBytes (NLS_LINK_CTRL n + x.1) x.2))))) ∧ (bitAt (par p' 23 1) 0 = true) ∧ (d2 = d1.forEach (w.flatMap (fun x => (List.range (x.2 / 4)).map (fun i => NLS_LINK_CTRL n + x.1 + 4 * i))) Dev.clearRc)) ∧
    (∃ (s : State) (p : Packet) (p' : Packet) (d' : Dev), (Runs opFenceNode p s.dev p' d') ∧ (par p' 22 1 < 8 ∧ par p' 23 1 < 64 ∧ par p' 24 1 ≤ 1)) ∧
    (∃ (s : State) (p : Packet) (p' : Packet) (d' : Dev), (Runs opFenceNode p s.dev p' d') ∧ (8 ≤ par p' 22 1 ∨ 64 ≤ par p' 23 1 ∨ 1 < par p' 24 1)) :=
  ⟨⟨at_ 6 (fun d => { d with sys := { d.sys with package := some { pkg0 with digests := [Config.sha384 image0] } } }), { pk [(30, 4, 112)] with host := some image0 }, _, _, _, runs_plain _ _ _ (by decide +kernel), rfl, image_ok _ _ _ rfl (by decide) (by decide), by decide +kernel⟩,
   ⟨at_ 6 (fun d => { d with sys := { d.sys with package := some { pkg0 with digests := [Config.sha384 image0] } }, cyc := { d.cyc with countdown := some ⟨1, 3, 0, none⟩ } }), { pk [(30, 4, 112)] with host := some image0 }, _, _, _, runs_plain _ _ _ (by decide +kernel), rfl, image_ok _ _ _ rfl (by decide) (by decide), by decide +kernel⟩,
   ⟨at_ 6 id, { pk [] with host := some [] }, _, _, _, runs_plain _ _ _ (by decide +kernel), rfl, by decide +kernel⟩,
   ⟨at_ 7 id, pk [(22, 1, 17)], _, _, _, runs_plain _ _ _ (by decide +kernel), rfl⟩,
   ⟨at_ 7 id, pk [(22, 1, 8)], _, _, runs_plain _ _ _ (by decide +kernel), by decide +kernel⟩,
   ⟨at_ 7 id, pk [(22, 1, 18)], _, _, runs_plain _ _ _ (by decide +kernel), by decide +kernel⟩,
   ⟨at_ 7 id, pk [(22, 1, 255)], _, _, runs_plain _ _ _ (by decide +kernel), by decide +kernel⟩,
   ⟨at_ 7 (fun d => (d.setPort 0 { d.port 0 with posted := [⟨5, [], 0⟩] }).cond (condHA 4) true), pk [(23, 1, 5), (25, 1, 1)], _, _, _, _, _, runs_plain _ _ _ (by decide +kernel), rfl, rfl, by decide +kernel, by decide +kernel, rfl, by decide +kernel⟩,
   ⟨runs 7 [slotE 2 3 24 0 1] [⟨0, 0, 0, 9, 0⟩] (fun d => ((d.setPort 0 { d.port 0 with posted := [⟨5, [], 0⟩] }).cond (condHA 4) true).set (NLS_PITCH.STATE 0 0) 1), pk [(23, 1, 5)], _, _, _, _, _, runs_plain _ _ _ (by decide +kernel), rfl, rfl, by decide +kernel, by decide +kernel, rfl, by decide +kernel⟩,
   ⟨runs 7 [slotE 2 3 24 0 1] [⟨0, 0, 0, 9, 0⟩] (fun d => ((d.setPort 0 { d.port 0 with posted := [⟨5, [], 0⟩] }).cond (condHA 4) true).set (NLS_PITCH.STATE 0 0) 1), pk [(23, 1, 5), (24, 1, 1)], _, _, _, _, _, runs_plain _ _ _ (by decide +kernel), rfl, rfl, by decide +kernel, by decide +kernel, rfl, by decide +kernel⟩,
   ⟨runs 7 [slotE 2 3 24 0 1] [⟨0, 0, 0, 9, 0⟩] (fun d => ((d.setPort 0 { d.port 0 with posted := [⟨5, [], 0⟩] }).cond (condHA 4) true).set (NLS_PITCH.STATE 0 0) 1), pk [(23, 1, 5), (24, 1, 0xFF)], _, _, _, _, _, _, runs_plain _ _ _ (by decide +kernel), rfl, rfl, by decide +kernel, by decide +kernel, rfl, by decide +kernel, by decide +kernel, rfl⟩,
   ⟨runs 7 [slotE 2 3 24 0 1] [⟨0, 0, 0, 9, 0⟩] (fun d => (d.setPort 0 { d.port 0 with posted := [⟨5, [], 0⟩] }).cond (condHA 4) true), pk [(23, 1, 5), (24, 1, 0xFF)], _, _, _, _, _, runs_plain _ _ _ (by decide +kernel), rfl, rfl, by decide +kernel, by decide +kernel, rfl, by decide +kernel⟩,
   ⟨at_ 7 (fun d => d.cond (condHA 4) true), pk [], _, _, runs_plain _ _ _ (by decide +kernel), by decide +kernel⟩,
   ⟨at_ 7 (fun d => d.set (NLS_PITCH.STATE 7 31) 3), pk [(22, 1, 7), (23, 1, 31)], _, _, runs_plain _ _ _ (by decide +kernel), by decide +kernel⟩,
   ⟨at_ 7 id, pk [(22, 1, 7), (23, 1, 31)], _, _, runs_plain _ _ _ (by decide +kernel), by decide +kernel⟩,
   ⟨at_ 7 id, pk [(22, 1, 1), (23, 1, 5)], _, _, _, _, runs_plain _ _ _ (by decide +kernel), rfl, by decide +kernel, by decide +kernel, by decide +kernel, rfl⟩,
   ⟨at_ 7 id, pk [(22, 1, 1), (23, 1, 6)], _, _, _, runs_plain _ _ _ (by decide +kernel), rfl, by decide +kernel⟩,
   ⟨at_ 7 id, pk [(22, 1, 16)], _, _, _, _, _, _, runs_plain _ _ _ (by decide +kernel), rfl, rfl, rfl, rfl, by decide +kernel⟩,
   ⟨at_ 7 id, pk [(22, 1, 16), (23, 1, 1)], _, _, _, _, _, _, _, runs_plain _ _ _ (by decide +kernel), rfl, rfl, rfl, rfl, by decide +kernel, rfl⟩,
   ⟨at_ 7 id, pk [(22, 1, 7), (23, 1, 63), (24, 1, 1)], _, _, runs_plain _ _ _ (by decide +kernel), by decide +kernel⟩,
   ⟨at_ 7 id, pk [(22, 1, 8)], _, _, runs_plain _ _ _ (by decide +kernel), by decide +kernel⟩⟩
/-- A witness for each clause of StandbyTakesTheHoldersFrames. -/
theorem test_witness_StandbyTakesTheHoldersFrames :
    (∃ (s : State) (l : Fin 2) (hdr : List Byte) (ok : Bool) (d1 : Dev), (s.dev.mirIn l.val 7 hdr ok = (none, d1))) ∧
    (∃ (s : State) (l : Fin 2) (hdr : List Byte) (ok : Bool) (d1 : Dev), (s.dev.mirIn l.val 4 hdr ok = (none, d1))) ∧
    (∃ (s : State) (l : Fin 2) (hdr : List Byte) (ok : Bool) (d1 : Dev), (s.dev.mirIn l.val 5 hdr ok = (none, d1))) ∧
    (∃ (s : State) (l : Fin 2) (hdr : List Byte) (ok : Bool) (d1 : Dev), (s.dev.mirIn l.val 6 hdr ok = (none, d1))) ∧
    (∃ (s : State) (l : Fin 2) (hdr : List Byte) (ok : Bool) (d1 : Dev), (s.dev.mirIn l.val 8 hdr ok = (none, d1))) ∧
    (∃ (s : State) (l : Fin 2) (hdr : List Byte) (ok : Bool) (d1 : Dev), (s.dev.mirIn l.val 9 hdr ok = (none, d1))) ∧
    (∃ (s : State) (l : Fin 2) (hdr : List Byte) (ok : Bool) (d1 : Dev), (s.dev.mirIn l.val 10 hdr ok = (none, d1))) ∧
    (∃ (s : State) (l : Fin 2) (b : List Byte) (pay : List Byte) (h : MirHdr) (d1 : Dev), (pay = (b.drop 16).take 96) ∧ (s.dev.mirIn l.val 2 b (b.length == 116 && crc32 pay == fieldAt b 112 4) = (some h, d1)) ∧ (d1.permit = false) ∧ (fieldAt pay 0 4 = d1.rd MIR_EPOCH)) ∧
    (∃ (s : State) (l : Fin 2) (b : List Byte) (pay : List Byte) (h : MirHdr) (d1 : Dev), (pay = (b.drop 16).take 96) ∧ (s.dev.mirIn l.val 2 b (b.length == 116 && crc32 pay == fieldAt b 112 4) = (some h, d1)) ∧ (d1.permit = false) ∧ (fieldAt pay 0 4 ≠ d1.rd MIR_EPOCH)) ∧
    (∃ (s : State) (l : Fin 2) (b : List Byte) (r : Option MirHdr) (d1 : Dev), (s.dev.mirIn l.val 2 b (b.length == 116 && crc32 ((b.drop 16).take 96) == fieldAt b 112 4) = (r, d1)) ∧ (r = none ∨ d1.permit = true)) ∧
    (∃ (s : State) (l : Fin 2) (hdr : List Byte) (h : MirHdr) (d1 : Dev), (s.dev.mirIn l.val 3 hdr true = (some h, d1)) ∧ (d1.standby = true) ∧ (h.cycle = d1.cyc.count)) ∧
    (∃ (s : State) (l : Fin 2) (hdr : List Byte) (h : MirHdr) (d1 : Dev), (s.dev.mirIn l.val 3 hdr true = (some h, d1)) ∧ (d1.standby = false ∨ h.cycle ≠ d1.cyc.count)) ∧
    (∃ (s : State) (l : Fin 2) (hdr : List Byte), ((parseMirHdr hdr).ok = true) ∧ ((parseMirHdr hdr).typ = 3) ∧ ((parseMirHdr hdr).cycle = s.dev.cyc.count) ∧ (s.dev.standby = true) ∧ (s.dev.laneUp l.val = true) ∧ (4 ≤ s.dev.mode)) ∧
    (∃ (s : State) (l : Fin 2) (hdr : List Byte) (n : Fin 8) (h : MirHdr) (d1 : Dev), (s.dev.mirIn l.val 4 hdr true = (some h, d1)) ∧ (d1.mode ≠ 8 ∨ h.cycle ≠ d1.cyc.count ∨ d1.cyc.running = false ∨ d1.activeBlock n.val = none)) ∧
    (∃ (s : State) (l : Fin 2) (hdr : List Byte) (n : Fin 8) (h : MirHdr) (d1 : Dev) (b : SchedBlock), (s.dev.mirIn l.val 4 hdr true = (some h, d1)) ∧ (d1.activeBlock n.val = some b) ∧ (d1.mode = 8) ∧ (h.cycle = d1.cyc.count) ∧ (d1.cyc.running = true) ∧ (d1.pipelinedTiming = true)) ∧
    (∃ (s : State) (l : Fin 2) (hdr : List Byte) (h : MirHdr) (d1 : Dev), (s.dev.mirIn l.val 5 hdr true = (some h, d1)) ∧ (d1.mode = 8) ∧ (d1.mir.resync ≠ none)) ∧
    (∃ (s : State) (l : Fin 2) (hdr : List Byte) (h : MirHdr) (d1 : Dev), (s.dev.mirIn l.val 5 hdr true = (some h, d1)) ∧ (d1.comparing = true) ∧ (d1.mir.resync = none) ∧ (h.cycle = d1.cyc.count) ∧ (d1.allDone = true)) ∧
    (∃ (s : State) (l : Fin 2) (hdr : List Byte) (h : MirHdr) (d1 : Dev), (s.dev.mirIn l.val 5 hdr true = (some h, d1)) ∧ (d1.comparing = true) ∧ (d1.mir.resync = none) ∧ (h.cycle = d1.cyc.count) ∧ (d1.allDone = false)) ∧
    (∃ (s : State) (l : Fin 2) (hdr : List Byte) (h : MirHdr) (d1 : Dev), (s.dev.mirIn l.val 5 hdr true = (some h, d1)) ∧ (d1.mode ≠ 8 ∨ d1.mir.resync = none) ∧ (d1.comparing = false ∨ h.cycle ≠ d1.cyc.count)) ∧
    (∃ (s : State) (l : Fin 2) (hdr : List Byte) (h : MirHdr) (d1 : Dev), (s.dev.mirIn l.val 6 hdr true = (some h, d1)) ∧ (d1.mode ≠ 8 ∨ 1 < d1.cyclesSince h.cycle)) ∧
    (∃ (s : State) (l : Fin 2) (hdr : List Byte) (h : MirHdr) (d1 : Dev), (s.dev.mirIn l.val 6 hdr true = (some h, d1)) ∧ (d1.mir.sweepFrom = none) ∧ (d1.comparing = false)) ∧
    (∃ (s : State) (l : Fin 2) (hdr : List Byte) (h : MirHdr) (d1 : Dev) (f : Nat), (s.dev.mirIn l.val 6 hdr true = (some h, d1)) ∧ (d1.mir.sweepFrom = some f) ∧ (64 ≤ (h.cycle + 2 ^ 32 - f) % 2 ^ 32)) ∧
    (∃ (s : State) (l : Fin 2) (hdr : List Byte) (h : MirHdr) (d1 : Dev) (f : Nat), (s.dev.mirIn l.val 6 hdr true = (some h, d1)) ∧ (d1.mode = 8) ∧ (d1.cyclesSince h.cycle ≤ 1) ∧ (d1.mir.sweepFrom = some f) ∧ ((h.cycle + 2 ^ 32 - f) % 2 ^ 32 < 64)) ∧
    (∃ (s : State) (l : Fin 2) (hdr : List Byte) (h : MirHdr) (d1 : Dev), (s.dev.mirIn l.val 9 hdr true = (some h, d1)) ∧ (d1.mode ≠ 8 ∨ d1.on MIR_STATUS.BULK = false ∨ d1.mir.imageDone = true)) ∧
    (∃ (s : State) (l : Fin 2) (hdr : List Byte) (h : MirHdr) (d1 : Dev), (s.dev.mirIn l.val 9 hdr true = (some h, d1)) ∧ (d1.mode = 8) ∧ (d1.on MIR_STATUS.BULK = true) ∧ (d1.mir.imageDone = false) ∧ (bitAt h.flags 0 = false)) ∧
    (∃ (s : State) (l : Fin 2) (hdr : List Byte) (ps : List BulkPart) (h : MirHdr) (d1 : Dev), (s.dev.mirIn l.val 9 hdr true = (some h, d1)) ∧ (d1.mode = 8) ∧ (d1.on MIR_STATUS.BULK = true) ∧ (d1.mir.imageDone = false) ∧ (bitAt h.flags 0 = true) ∧ (d1.mir.parts = []) ∧ (ps = []) ∧ (d1.mir.heldLogs = [])) :=
  ⟨⟨at_ 4 id, 0, [], false, _, rfl⟩,
   ⟨at_ 4 id, 0, [], false, _, rfl⟩,
   ⟨at_ 4 id, 0, [], false, _, rfl⟩,
   ⟨at_ 4 id, 0, [], false, _, rfl⟩,
   ⟨at_ 4 id, 0, [], false, _, rfl⟩,
   ⟨at_ 4 id, 0, [], false, _, rfl⟩,
   ⟨at_ 4 id, 0, [], false, _, rfl⟩,
   ⟨mirS 8 id, 0, mf 2 (zeros 96), _, (parseMirHdr (mf 2 (zeros 96))), ((mirS 8 id).dev.mirIn 0 2 (mf 2 (zeros 96)) true).2, rfl, by decide +kernel⟩,
   ⟨mirS 8 id, 0, mf 2 (leBytes 4 1 ++ zeros 92), _, (parseMirHdr (mf 2 (leBytes 4 1 ++ zeros 92))), ((mirS 8 id).dev.mirIn 0 2 (mf 2 (leBytes 4 1 ++ zeros 92)) true).2, rfl, by decide +kernel⟩,
   ⟨mirS 8 id, 0, [], none, _, rfl, .inl rfl⟩,
   ⟨mirS 8 id, 0, mh 3 0, _, _, rfl, by decide +kernel⟩,
   ⟨mirS 7 id, 0, mh 3 0, _, _, rfl, .inl rfl⟩,
   ⟨mirS 8 id, 0, mh 3 0, by decide +kernel⟩,
   ⟨mirS 7 id, 0, mh 4 0, 0, _, _, rfl, .inl (by decide)⟩,
   ⟨mirS 8 (fun d => d.set CE_STATUS.PIPELINED 1), 0, mh 4 0, 0, _, _, _, rfl, rfl, by decide +kernel⟩,
   ⟨mirS 8 (fun d => { d with mir := { d.mir with resync := some true } }), 0, mh 5 0, _, _, rfl, by decide +kernel⟩,
   ⟨mirS 8 (fun d => { d.set MIR_STATUS.SYNCED 1 with cyc := { d.cyc with active := none } }), 0, mh 5 0, _, _, rfl, by decide +kernel⟩,
   ⟨mirS 8 (fun d => { d.set MIR_STATUS.SYNCED 1 with cyc := { d.cyc with active := some ⟨1, false, [], [], [⟨0, 0, 0⟩], none⟩ } }), 0, mh 5 0, _, _, rfl, by decide +kernel⟩,
   ⟨mirS 7 id, 0, mh 5 0, _, _, rfl, .inl (by decide +kernel), .inl (by decide +kernel)⟩,
   ⟨mirS 7 id, 0, mh 6 0, _, _, rfl, .inl (by decide)⟩,
   ⟨mirS 8 id, 0, mh 6 0, _, _, rfl, by decide +kernel⟩,
   ⟨mirS 8 (fun d => { d with mir := { d.mir with sweepFrom := some 64 } }), 0, mh 6 0, _, _, _, rfl, rfl, by decide +kernel⟩,
   ⟨mirS 8 (fun d => { d with mir := { d.mir with sweepFrom := some 0 } }), 0, mh 6 0, _, _, _, rfl, by decide +kernel, by decide +kernel, rfl, by decide +kernel⟩,
   ⟨mirS 7 id, 0, mh 9 0, _, _, rfl, .inl (by decide)⟩,
   ⟨mirS 8 (fun d => d.set MIR_STATUS.BULK 1), 0, mh 9 0, _, _, rfl, by decide +kernel⟩,
   ⟨mirS 8 (fun d => d.set MIR_STATUS.BULK 1), 0, mh 9 1, ([] : List BulkPart), _, _, rfl, by decide +kernel⟩⟩
/-- A witness for each clause of HolderTakesTheStandbysFrames. -/
theorem test_witness_HolderTakesTheStandbysFrames :
    (∃ (s : State) (l : Fin 2) (hdr : List Byte) (n : Fin 8) (h : MirHdr) (d1 : Dev) (b : SchedBlock), (s.dev.mirIn l.val 7 hdr true = (some h, d1)) ∧ (d1.activeBlock n.val = some b) ∧ (d1.permit = false ∨ h.cycle ≠ d1.cyc.count ∨ d1.cyc.running = false)) ∧
    (∃ (s : State) (l : Fin 2) (hdr : List Byte) (n : Fin 8) (h : MirHdr) (d1 : Dev) (b : SchedBlock), (s.dev.mirIn l.val 7 hdr true = (some h, d1)) ∧ (d1.activeBlock n.val = some b) ∧ (d1.permit = true) ∧ (h.cycle = d1.cyc.count) ∧ (d1.cyc.running = true)) ∧
    (∃ (s : State) (l : Fin 2) (hdr : List Byte) (pr : BitVec 18) (h : MirHdr) (d1 : Dev) (d2 : Dev), (s.dev.mirIn l.val 8 hdr true = (some h, d1)) ∧ (d1.permit = true) ∧ (d2 = ({ d1 with mir := { d1.mir with reportAt := some d1.cyc.count } } : Dev).forEach ((List.range 18).filter (fun p => p != 16 && bitAt pr.toNat p)) Dev.prove)) ∧
    (∃ (s : State) (l : Fin 2) (hdr : List Byte) (pr : BitVec 18) (h : MirHdr) (d1 : Dev) (d2 : Dev), (s.dev.mirIn l.val 8 hdr true = (some h, d1)) ∧ (d1.permit = true) ∧ (d2 = ({ d1 with mir := { d1.mir with reportAt := some d1.cyc.count } } : Dev).forEach ((List.range 18).filter (fun p => p != 16 && bitAt pr.toNat p)) Dev.prove)) ∧
    (∃ (s : State) (l : Fin 2) (hdr : List Byte) (h : MirHdr) (d1 : Dev), (s.dev.mirIn l.val 8 hdr true = (some h, d1)) ∧ (d1.permit = false)) ∧
    (∃ (s : State) (l : Fin 2) (hdr : List Byte) (h : MirHdr) (d1 : Dev), (s.dev.mirIn l.val 10 hdr true = (some h, d1))) ∧
    (∃ (s : State) (l : Fin 2) (hdr : List Byte) (h : MirHdr) (d1 : Dev) (i : Incident), (s.dev.mirIn l.val 10 hdr true = (some h, d1)) ∧ (d1.mir.incident = some i)) ∧
    (∃ (s : State) (l : Fin 2) (hdr : List Byte) (h : MirHdr) (d1 : Dev), (s.dev.mirIn l.val 10 hdr true = (some h, d1)) ∧ (d1.mir.incident = none)) ∧
    (∃ (s : State) (l : Fin 2) (hdr : List Byte) (h : MirHdr) (d1 : Dev), (s.dev.mirIn l.val 10 hdr true = (some h, d1)) ∧ (d1.permit = true)) ∧
    (∃ (s : State) (l : Fin 2) (hdr : List Byte) (h : MirHdr) (d1 : Dev), (s.dev.mirIn l.val 10 hdr true = (some h, d1)) ∧ (d1.permit = false) ∧ (d1.mode = 8)) ∧
    (∃ (s : State) (l : Fin 2) (hdr : List Byte) (h : MirHdr) (d1 : Dev), (s.dev.mirIn l.val 10 hdr true = (some h, d1)) ∧ (d1.permit = false) ∧ (d1.mode ≠ 8)) ∧
    (∃ (s : State) (l : Fin 2) (hdr : List Byte) (h : MirHdr) (d1 : Dev), (s.dev.mirIn l.val 10 hdr true = (some h, d1)) ∧ (d1.permit = true)) ∧
    (∃ (s : State) (l : Fin 2) (hdr : List Byte) (h : MirHdr) (d1 : Dev), (s.dev.mirIn l.val 10 hdr true = (some h, d1)) ∧ (d1.permit = false)) ∧
    (∃ (s : State) (l : Fin 2) (hdr : List Byte) (h : MirHdr) (d1 : Dev), (s.dev.mirIn l.val 10 hdr true = (some h, d1)) ∧ (d1.permit = true)) ∧
    (∃ (s : State) (l : Fin 2) (hdr : List Byte) (h : MirHdr) (d1 : Dev), (s.dev.mirIn l.val 10 hdr true = (some h, d1)) ∧ (d1.permit = false)) ∧
    (∃ (s : State) (l : Fin 2) (hdr : List Byte) (h : MirHdr) (d1 : Dev) (p : Nat), (s.dev.mirIn l.val 10 hdr true = (some h, d1)) ∧ (p < 18) ∧ (p ≠ 16)) ∧
    (∃ (s : State) (l : Fin 2) (hdr : List Byte) (h : MirHdr) (d1 : Dev) (p : Nat), (s.dev.mirIn l.val 10 hdr true = (some h, d1)) ∧ (p < 18)) ∧
    (∃ (s : State) (l : Fin 2) (hdr : List Byte) (h : MirHdr) (d1 : Dev) (p : Nat), (s.dev.mirIn l.val 10 hdr true = (some h, d1)) ∧ (18 ≤ p)) ∧
    (∃ (s : State) (l : Fin 2) (hdr : List Byte) (h : MirHdr) (d1 : Dev), (s.dev.mirIn l.val 10 hdr true = (some h, d1))) :=
  ⟨⟨mirS 7 id, 0, mh 7 0, 0, _, _, _, rfl, rfl, .inl (by decide)⟩,
   ⟨mirS 7 (fun d => d.set SYS_MODE.PERMIT 1), 0, mh 7 0, 0, _, _, _, rfl, rfl, by decide +kernel⟩,
   ⟨mirS 7 (fun d => d.set SYS_MODE.PERMIT 1), 0, mh 8 0, 0, _, _, _, rfl, by decide +kernel, rfl⟩,
   ⟨mirS 7 (fun d => d.set SYS_MODE.PERMIT 1), 0, mh 8 0, 0, _, _, _, rfl, by decide +kernel, rfl⟩,
   ⟨mirS 7 id, 0, mh 8 0, _, _, rfl, by decide +kernel⟩,
   ⟨mirS 7 id, 0, mh 10 0, _, _, rfl⟩,
   ⟨mirS 7 (fun d => { d with mir := { d.mir with incident := some ⟨0, 1, 0, none, none, none⟩ } }), 0, mh 10 0, _, _, _, rfl, rfl⟩,
   ⟨mirS 7 id, 0, mh 10 0, _, _, rfl, by decide +kernel⟩,
   ⟨mirS 7 (fun d => d.set SYS_MODE.PERMIT 1), 0, mh 10 0, _, _, rfl, by decide +kernel⟩,
   ⟨mirS 8 id, 0, mh 10 0, _, _, rfl, by decide +kernel⟩,
   ⟨mirS 7 id, 0, mh 10 0, _, _, rfl, by decide +kernel⟩,
   ⟨mirS 7 (fun d => d.set SYS_MODE.PERMIT 1), 0, mh 10 0, _, _, rfl, by decide +kernel⟩,
   ⟨mirS 7 id, 0, mh 10 0, _, _, rfl, by decide +kernel⟩,
   ⟨mirS 7 (fun d => d.set SYS_MODE.PERMIT 1), 0, mh 10 0, _, _, rfl, by decide +kernel⟩,
   ⟨mirS 7 id, 0, mh 10 0, _, _, rfl, by decide +kernel⟩,
   ⟨mirS 7 id, 0, mh 10 0, _, _, (17 : Nat), rfl, by decide +kernel⟩,
   ⟨mirS 7 id, 0, mh 10 0, _, _, (17 : Nat), rfl, by decide +kernel⟩,
   ⟨mirS 7 id, 0, mh 10 0, _, _, (18 : Nat), rfl, by decide +kernel⟩,
   ⟨mirS 7 id, 0, mh 10 0, _, _, rfl⟩⟩
/-- A witness for each clause of PermitPassesOnExpiryAndFence. -/
theorem test_witness_PermitPassesOnExpiryAndFence :
    (∃ (s : State), (s.dev.cyc.running = true) ∧ (s.dev.standby = true) ∧ (s.dev.get MIR_LEASE.IN_FORCE ≠ 0) ∧ (s.dev.leaseRuns = false) ∧ (s.dev.mir.handover = none) ∧ (s.dev.lget MIR_CTRL.FENCE_EN = 1) ∧ (s.dev.on MIR_STATUS.PERMIT_IN = true) ∧ (s.dev.mir.fenceSaid = true)) ∧
    (∃ (s : State), (s.dev.cyc.running = true) ∧ (s.dev.standby = true) ∧ (s.dev.get MIR_LEASE.IN_FORCE ≠ 0) ∧ (s.dev.leaseRuns = false) ∧ (s.dev.mir.handover = none) ∧ (s.dev.lget MIR_CTRL.FENCE_EN = 1) ∧ (s.dev.on MIR_STATUS.PERMIT_IN = true) ∧ (s.dev.mir.fenceSaid = false)) ∧
    (∃ (s : State), (s.dev.cyc.running = true) ∧ (s.dev.standby = true) ∧ (s.dev.get MIR_LEASE.IN_FORCE ≠ 0) ∧ (s.dev.leaseRuns = false) ∧ (s.dev.mir.handover = none) ∧ (s.dev.lget MIR_CTRL.FENCE_EN ≠ 1 ∨ s.dev.on MIR_STATUS.PERMIT_IN = false)) ∧
    (∃ (s : State), (s.dev.leaseRuns = true ∨ s.dev.get MIR_LEASE.IN_FORCE = 0 ∨ s.dev.standby = false ∨ s.dev.cyc.running = false)) ∧
    (∃ (s : State) (h : Handover), (s.dev.mir.handover = some h) ∧ (h.bell = s.dev.cyc.count)) ∧
    (∃ (s : State) (n : Fin 8) (b : List Byte) (k : SchedBlock), (s.dev.cyc.running = true) ∧ (s.dev.activeBlock n.val = some k) ∧ ((parseFrame b).hdrOk = false ∨ knownType (parseFrame b).typ = false)) ∧
    (∃ (s : State) (n : Fin 8) (b : List Byte) (k : SchedBlock), (s.dev.cyc.running = true) ∧ (s.dev.activeBlock n.val = some k) ∧ ((parseFrame b).hdrOk = true) ∧ (knownType (parseFrame b).typ = true) ∧ (s.dev.permit = true ∨ (parseFrame b).typ ≠ 3 ∨ (parseFrame b).cycle ≠ s.dev.cyc.count ∨ s.dev.farSource n.val (parseFrame b).src = false ∨ k.slots[(parseFrame b).slot]? = none)) ∧
    (∃ (s : State) (n : Fin 8), (s.dev.cyc.running = false ∨ s.dev.activeBlock n.val = none)) ∧
    (∃ (s : State) (n : Fin 8) (b : List Byte) (k : SchedBlock) (e : SlotEntry), (s.dev.cyc.running = true) ∧ (s.dev.activeBlock n.val = some k) ∧ ((parseFrame b).hdrOk = true) ∧ ((parseFrame b).typ = 3) ∧ ((parseFrame b).cycle = s.dev.cyc.count) ∧ (s.dev.permit = false) ∧ (s.dev.farSource n.val (parseFrame b).src = true) ∧ (k.slots[(parseFrame b).slot]? = some e) ∧ (e.kind = (if s.dev.headEnd n.val then 4 else 3)) ∧ ((parseFrame b).bodyOk = false)) ∧
    (∃ (s : State) (n : Fin 8) (b : List Byte) (k : SchedBlock) (e : SlotEntry), (s.dev.cyc.running = true) ∧ (s.dev.activeBlock n.val = some k) ∧ ((parseFrame b).hdrOk = true) ∧ ((parseFrame b).typ = 3) ∧ ((parseFrame b).cycle = s.dev.cyc.count) ∧ (s.dev.permit = false) ∧ (s.dev.farSource n.val (parseFrame b).src = true) ∧ (k.slots[(parseFrame b).slot]? = some e) ∧ (e.kind = (if s.dev.headEnd n.val then 4 else 3)) ∧ ((parseFrame b).bodyOk = true) ∧ (s.dev.mode ≠ 8)) ∧
    (∃ (s : State) (n : Fin 8) (b : List Byte) (k : SchedBlock) (e : SlotEntry), (s.dev.cyc.running = true) ∧ (s.dev.activeBlock n.val = some k) ∧ ((parseFrame b).hdrOk = true) ∧ ((parseFrame b).typ = 3) ∧ ((parseFrame b).cycle = s.dev.cyc.count) ∧ (s.dev.permit = false) ∧ (s.dev.farSource n.val (parseFrame b).src = true) ∧ (k.slots[(parseFrame b).slot]? = some e) ∧ (e.kind = (if s.dev.headEnd n.val then 4 else 3)) ∧ ((parseFrame b).bodyOk = true) ∧ (s.dev.comparing = true) ∧ ((∀ x ∈ s.dev.binds, x.port = n.val → 16 * x.record + 16 ≤ (parseFrame b).payload.length → (s.dev.axis x.axis).standing ≠ 0 ∧ (((parseFrame b).payload.drop (16 * x.record)).take 16) = s.dev.downRecord x.axis ∧ bitAt (fieldAt (((parseFrame b).payload.drop (16 * x.record)).take 16) 12 2) 1 = false))) ∧
    (∃ (s : State) (g : Nat) (k : Nat) (c : Nat) (n : Nat) (d1 : Dev), (s.dev.mir.incident = some ⟨g, k, c, some n, some true, some true⟩) ∧ (d1 = Dev.post 0x01C0 0x01C7 (leBytes 1 g ++ leBytes 1 k ++ leBytes 4 c ++ leBytes 1 1) { s.dev with mir := { s.dev.mir with incident := none } })) ∧
    (∃ (s : State) (g : Nat) (k : Nat) (c : Nat) (n : Nat), (s.dev.mir.incident = some ⟨g, k, c, some n, some false, some true⟩) ∧ (s.dev.permit = true)) ∧
    (∃ (s : State) (g : Nat) (k : Nat) (c : Nat) (n : Nat), (s.dev.mir.incident = some ⟨g, k, c, some n, some true, some false⟩) ∧ (s.dev.permit = true) ∧ (s.dev.mode ≠ 8)) ∧
    (∃ (s : State), (s.dev.mir.incident = none)) ∧
    (∃ (s : State) (i : Incident), (s.dev.mir.incident = some i) ∧ (i.notice = none)) ∧
    (∃ (s : State) (i : Incident) (n : Nat), (s.dev.mir.incident = some i) ∧ (i.notice = some n) ∧ (i.own = none ∨ i.peer = none) ∧ (s.dev.cyclesSince n < 64)) ∧
    (∃ (s : State), (s.dev.mir.drill = none)) ∧
    (∃ (s : State) (p : Fin 2) (x : Drill), (s.dev.mir.drill = some x) ∧ (x.awaiting.contains (16 + p.val) = false)) ∧
    (∃ (s : State) (p : Fin 2) (x : Drill), (s.dev.mir.drill = some x) ∧ (x.awaiting.contains (16 + p.val) = true)) :=
  ⟨⟨mirS 8 (fun d => { Dev.set MIR_STATUS.PERMIT_IN 1 (Dev.goLive MIR_CTRL.FENCE_EN.a (2 ^ MIR_CTRL.FENCE_EN.lo) ((d.set MIR_LEASE.IN_FORCE 8).set MIR_LEASE.MISSING 8)) with mir := { d.mir with fenceSaid := true } }), by decide +kernel⟩,
   ⟨mirS 8 (fun d => Dev.set MIR_STATUS.PERMIT_IN 1 (Dev.goLive MIR_CTRL.FENCE_EN.a (2 ^ MIR_CTRL.FENCE_EN.lo) ((d.set MIR_LEASE.IN_FORCE 8).set MIR_LEASE.MISSING 8))), by decide +kernel⟩,
   ⟨mirS 8 (fun d => ((d.set MIR_LEASE.IN_FORCE 8).set MIR_LEASE.MISSING 8)), by decide +kernel, by decide +kernel, by decide +kernel, by decide +kernel, by decide +kernel, .inr (by decide)⟩,
   ⟨mirS 8 (fun d => ((d.set MIR_LEASE.IN_FORCE 8).set MIR_LEASE.MISSING 7)), .inl (by decide)⟩,
   ⟨mirS 8 (fun d => { (d.set MIR_LEASE.IN_FORCE 8).set MIR_LEASE.MISSING 8 with mir := { d.mir with handover := some ⟨0, 0, 0, none⟩ } }), _, rfl, by decide +kernel⟩,
   ⟨mirS 8 id, 0, [], _, by decide +kernel, rfl, .inl (by decide)⟩,
   ⟨mirS 7 (fun d => d.set SYS_MODE.PERMIT 1), 0, frameBytes 3 0 0 0 0 0 [], _, by decide +kernel, rfl, by decide +kernel, by decide +kernel, .inl (by decide)⟩,
   ⟨mirS 7 id, 7, .inr (by decide)⟩,
   ⟨mirS 7 id, 0, (frameBytes 3 0 0xF000 0 1 0 [1]).take 22, _, _, by decide +kernel, rfl, by decide +kernel, by decide +kernel, by decide +kernel, by decide +kernel, by decide +kernel, rfl, by decide +kernel⟩,
   ⟨mirS 7 id, 0, frameBytes 3 0 0xF000 0 1 0 [], _, _, by decide +kernel, rfl, by decide +kernel, by decide +kernel, by decide +kernel, by decide +kernel, by decide +kernel, rfl, by decide +kernel⟩,
   ⟨mirS 8 (fun d => d.set MIR_STATUS.SYNCED 1), 0, frameBytes 3 0 0xF000 0 1 0 [], _, _, by decide +kernel, rfl, by decide +kernel, by decide +kernel, by decide +kernel, by decide +kernel, by decide +kernel, rfl, by decide +kernel⟩,
   ⟨mirS 7 (fun d => { d with mir := { d.mir with incident := some ⟨0, 1, 0, some 1, some true, some true⟩ } }), _, _, _, _, _, rfl, rfl⟩,
   ⟨mirS 7 (fun d => { d.set SYS_MODE.PERMIT 1 with mir := { d.mir with incident := some ⟨0, 1, 0, some 1, some false, some true⟩ } }), _, _, _, _, rfl, by decide +kernel⟩,
   ⟨mirS 7 (fun d => { d.set SYS_MODE.PERMIT 1 with mir := { d.mir with incident := some ⟨0, 1, 0, some 1, some true, some false⟩ } }), _, _, _, _, rfl, by decide +kernel⟩,
   ⟨mirS 7 id, by decide +kernel⟩,
   ⟨mirS 7 (fun d => { d with mir := { d.mir with incident := some ⟨0, 1, 0, none, some true, some true⟩ } }), _, rfl, by decide +kernel⟩,
   ⟨mirS 7 (fun d => { d with mir := { d.mir with incident := some ⟨0, 1, 0, some 0, none, some true⟩ } }), _, (0 : Nat), rfl, by decide +kernel, .inl rfl, by decide +kernel⟩,
   ⟨mirS 7 id, by decide +kernel⟩,
   ⟨mirS 7 (fun d => { d with mir := { d.mir with drill := some ⟨0, [], [], [], false, false, []⟩ } }), 0, _, rfl, by decide +kernel⟩,
   ⟨mirS 7 (fun d => { d with mir := { d.mir with drill := some ⟨0, [], [], [], false, false, [17]⟩ } }), 1, _, rfl, by decide +kernel⟩⟩
/-- A witness for each clause of MirrorLinkAndPairPackets. -/
theorem test_witness_MirrorLinkAndPairPackets :
    (∃ (s : State) (l : Fin 2) (v : Bool), (4 ≤ s.dev.mode) ∧ (s.dev.laneUp l.val ≠ v)) ∧
    (∃ (s : State) (l : Fin 2) (v : Bool), (s.dev.mode < 4 ∨ s.dev.laneUp l.val = v)) ∧
    (∃ (s : State), (s.dev.mode < 4)) ∧
    (∃ (s : State) (l : Fin 2), (s.dev.laneUp l.val = false)) ∧
    (∃ (s : State), (4 ≤ s.dev.mode) ∧ (s.dev.mir.up = true)) ∧
    (∃ (s : State) (l : Fin 2), (4 ≤ s.dev.mode) ∧ (s.dev.laneUp l.val = true)) ∧
    (∃ (s : State) (l : Fin 2) (b : List Byte), (4 ≤ s.dev.mode) ∧ (s.dev.laneUp l.val = true) ∧ ((parseMirHdr b).ok = false ∨ b.length ≠ 84 ∨ (parseMirHdr b).len ≠ 64 ∨ crc32 ((b.drop 16).take 64) ≠ fieldAt b 80 4)) ∧
    (∃ (s : State) (l : Fin 2) (b : List Byte), (4 ≤ s.dev.mode) ∧ (s.dev.laneUp l.val = true) ∧ ((parseMirHdr b).ok = true) ∧ (b.length = 84) ∧ ((parseMirHdr b).len = 64) ∧ (crc32 ((b.drop 16).take 64) = fieldAt b 80 4) ∧ ((parseMirHdr b).typ = 1)) ∧
    (∃ (s : State) (l : Fin 2) (b : List Byte), (4 ≤ s.dev.mode) ∧ (s.dev.laneUp l.val = true) ∧ ((parseMirHdr b).ok = true) ∧ (b.length = 84) ∧ ((parseMirHdr b).len = 64) ∧ (crc32 ((b.drop 16).take 64) = fieldAt b 80 4) ∧ ((parseMirHdr b).typ ≠ 1)) ∧
    (∃ (s : State) (p : Packet) (p' : Packet) (d' : Dev), (Runs opPairStatus p s.dev p' d')) ∧
    (∃ (s : State) (p : Packet) (p' : Packet) (d' : Dev), (Runs opSwapDrill p s.dev p' d') ∧ ((bitAt (par p' 22 1) 0 = false ∨ (64 ≤ par p' 24 4 ∧ par p' 24 4 ≤ 1000000000))) ∧ (d'.passBusy = false)) ∧
    (∃ (s : State) (p : Packet) (p' : Packet) (d' : Dev), (Runs opSwapDrill p s.dev p' d') ∧ ((bitAt (par p' 22 1) 0 = false ∨ (64 ≤ par p' 24 4 ∧ par p' 24 4 ≤ 1000000000))) ∧ (d'.passBusy = true)) ∧
    (∃ (s : State) (p : Packet) (p' : Packet) (d' : Dev), (Runs opSwapDrill p s.dev p' d') ∧ (bitAt (par p' 22 1) 0 = true) ∧ ((par p' 24 4 < 64 ∨ 1000000000 < par p' 24 4))) ∧
    (∃ (s : State) (p : Packet) (p' : Packet) (d' : Dev), (Runs opReleasePermit p s.dev p' d') ∧ (d'.passBusy = false)) ∧
    (∃ (s : State) (p : Packet) (p' : Packet) (d' : Dev), (Runs opReleasePermit p s.dev p' d') ∧ (d'.passBusy = true)) ∧
    (∃ (s : State) (p : Packet) (p' : Packet) (d' : Dev) (d1 : Dev) (f : _) (d2 : Dev), (Runs opResync p s.dev p' d') ∧ (d1 = d'.clearPairFault.mirControl .clearFault) ∧ (f = bitAt (par p' 22 1) 0) ∧ (d2 = (if d1.permit then Dev.mirControl (.resync f f) { d1 with mir := { d1.mir with resync := some f } } else d1.askResync f f))) ∧
    (∃ (s : State), (s.dev.on MIR_APPLY.APPLY = true)) ∧
    (∃ (s : State), (s.dev.on MIR_APPLY.APPLY = false) ∧ ((s.dev.pairRules (s.dev.get MIR_CTRL.LEASE) (s.dev.cyc.active.toList ++ s.dev.cyc.pending.toList)).orElse (fun _ => s.dev.safetyFailWith [] (s.dev.get MIR_CTRL.LEASE)) = none)) ∧
    (∃ (s : State), (s.dev.on MIR_APPLY.APPLY = false) ∧ ((s.dev.pairRules (s.dev.get MIR_CTRL.LEASE) (s.dev.cyc.active.toList ++ s.dev.cyc.pending.toList)).orElse (fun _ => s.dev.safetyFailWith [] (s.dev.get MIR_CTRL.LEASE)) ≠ none)) :=
  ⟨⟨at_ 4 id, 1, true, by decide +kernel⟩,
   ⟨at_ 4 id, 1, false, .inr (by decide)⟩,
   ⟨at_ 3 id, by decide +kernel⟩,
   ⟨at_ 4 id, 0, by decide +kernel⟩,
   ⟨at_ 7 (fun d => { d with mir := { d.mir with up := true } }), by decide +kernel⟩,
   ⟨mirS 4 id, 0, by decide +kernel⟩,
   ⟨mirS 4 id, 0, [], by decide +kernel, by decide +kernel, .inl (by decide)⟩,
   ⟨mirS 4 id, 0, mf 1 (zeros 64), by decide +kernel⟩,
   ⟨mirS 4 id, 0, mf 2 (zeros 64), by decide +kernel⟩,
   ⟨at_ 7 id, pk [], _, _, runs_plain _ _ _ (by decide +kernel)⟩,
   ⟨holds id, pk [], _, _, runs_plain _ _ _ (by decide +kernel), .inl (by decide), by decide +kernel⟩,
   ⟨holds (fun d => { d with mir := { d.mir with resync := some true } }), pk [(22, 1, 1), (24, 4, 1000000000)], _, _, runs_plain _ _ _ (by decide +kernel), .inr (by decide), by decide +kernel⟩,
   ⟨holds id, pk [(22, 1, 1), (24, 4, 63)], _, _, runs_plain _ _ _ (by decide +kernel), by decide +kernel, .inl (by decide)⟩,
   ⟨holds id, pk [], _, _, runs_plain _ _ _ (by decide +kernel), by decide +kernel⟩,
   ⟨holds (fun d => { d with mir := { d.mir with resync := some true } }), pk [], _, _, runs_plain _ _ _ (by decide +kernel), by decide +kernel⟩,
   ⟨at_ 8 (fun d => { (d.set MIR_STATUS.COMPATIBLE 1) with mir := { d.mir with up := true } }), pk [], _, _, _, _, _, runs_plain _ _ _ (by decide +kernel), rfl, rfl, rfl⟩,
   ⟨at_ 7 (fun d => d.set MIR_APPLY.APPLY 1), by decide +kernel⟩,
   ⟨at_ 7 (fun d => d.set MIR_CTRL.LEASE 64), by decide +kernel⟩,
   ⟨at_ 7 (fun d => d.set MIR_CTRL.LEASE 1), by decide +kernel⟩⟩
/-- A witness for each clause of BoundaryAndLogsOpenTheNextCycle. -/
theorem test_witness_BoundaryAndLogsOpenTheNextCycle :
    (∃ (s : State), (s.dev.cyc.running = false) ∧ (s.dev.mode ≠ 11)) ∧
    (∃ (s : State), (s.dev.cyc.running = false) ∧ (s.dev.mode = 11) ∧ (s.dev.cyc.working = none)) ∧
    (∃ (s : State) (g : Generation), (s.dev.cyc.running = false) ∧ (s.dev.mode = 11) ∧ (s.dev.cyc.working = some g)) ∧
    (∃ (s : State), (s.dev.cyc.running = true)) ∧
    (∃ (s : State), (s.dev.cyc.running = false ∨ s.dev.cyc.closed = true)) ∧
    (∃ (s : State), (s.dev.cyc.running = true) ∧ (s.dev.cyc.closed = false)) ∧
    (∃ (s : State) (k : Nat), (k = (s.dev.now + ns 500000) / ns 1000000) ∧ ((s.dev.cyc.running = true ∧ s.dev.cyc.preBell = false) ∨ s.dev.mode < 2 ∨ s.dev.cyc.msDone = some k)) ∧
    (∃ (s : State) (k : Nat) (t : Nat) (d1 : Dev) (d2 : Dev) (d3 : Dev), (k = (s.dev.now + ns 500000) / ns 1000000) ∧ (t = k * ns 1000000) ∧ (s.dev.cyc.running = false ∨ s.dev.cyc.preBell = true) ∧ (2 ≤ s.dev.mode) ∧ (s.dev.cyc.msDone ≠ some k) ∧ (d1 = s.dev.reach t) ∧ (d2 = ({ d1 with cyc := { d1.cyc with waiting := [], partsSent := 0, msDone := some k } } : Dev).forEach s.dev.cyc.waiting (Dev.enterLogged (stopsOf (s.dev.cyc.waiting.map (·.act))) t)) ∧ (d3 = ((d2.goCommits t).modeNow false).when (((d2.goCommits t).modeNow false).mode = 11) Dev.traceBoundary)) ∧
    (∃ (s : State), (s.dev.cyc.running = false)) ∧
    (∃ (s : State) (a : Generation) (b : SchedBlock), (s.dev.cyc.running = true) ∧ (s.dev.cyc.active = some a) ∧ (a.blocks.head? = some b)) :=
  ⟨⟨at_ 4 id, by decide +kernel⟩,
   ⟨at_ 11 id, by decide +kernel⟩,
   ⟨at_ 11 (fun d => { d with cyc := { d.cyc with working := some ⟨1, false, [blkE 0 [] []], [], [], none⟩ } }), _, by decide +kernel, by decide +kernel, rfl⟩,
   ⟨runs 7 [] [] id, by decide +kernel⟩,
   ⟨at_ 4 id, .inl rfl⟩,
   ⟨runs 7 [] [] id, by decide +kernel⟩,
   ⟨at_ 1 id, _, rfl, .inr (.inl (by decide +kernel))⟩,
   ⟨at_ 4 (fun d => { d with cyc := { d.cyc with waiting := [⟨1, 68, .stopGroup 0 false 0 0, none⟩] } }), _, _, _, _, _, rfl, rfl, .inl rfl, by decide +kernel, by decide +kernel, rfl, rfl, rfl⟩,
   ⟨at_ 4 id, by decide +kernel⟩,
   ⟨runs 7 [] [] id, _, _, by decide +kernel, rfl, rfl⟩⟩
/-- A witness for each clause of BellsAreTakenAndTheLineIsJoined. -/
theorem test_witness_BellsAreTakenAndTheLineIsJoined :
    (∃ (s : State), (s.dev.cyc.running = false) ∧ (s.dev.mode ≠ 5 ∨ s.dev.cyc.join = none)) ∧
    (∃ (s : State) (b : List Byte), (s.dev.cyc.running = true ∨ (s.dev.mode = 5 ∧ s.dev.cyc.join ≠ none)) ∧ ((parseFrame b).hdrOk = false ∨ knownType (parseFrame b).typ = false)) ∧
    (∃ (s : State) (n : Fin 10) (b : List Byte) (k : SchedBlock) (d1 : Dev), (s.dev.cyc.running = true) ∧ (s.dev.mode ≠ 5 ∨ s.dev.cyc.join = none) ∧ (s.dev.activeBlock n.val = some k) ∧ ((parseFrame b).hdrOk = true) ∧ (knownType (parseFrame b).typ = true) ∧ (d1 = ({ s.dev with cyc := { s.dev.cyc with join := s.dev.cyc.join.map (fun (j : Join) => { j with silent := false }) } } : Dev)) ∧ ((parseFrame b).typ ≠ 1)) ∧
    (∃ (s : State) (n : Fin 10) (b : List Byte) (k : SchedBlock) (d1 : Dev), (s.dev.cyc.running = true) ∧ (s.dev.mode ≠ 5 ∨ s.dev.cyc.join = none) ∧ (s.dev.activeBlock n.val = some k) ∧ ((parseFrame b).hdrOk = true) ∧ (knownType (parseFrame b).typ = true) ∧ (d1 = ({ s.dev with cyc := { s.dev.cyc with join := s.dev.cyc.join.map (fun (j : Join) => { j with silent := false }) } } : Dev)) ∧ ((parseFrame b).typ = 1) ∧ ((parseFrame b).cycle ≠ s.dev.cyc.count ∨ k.slots[(parseFrame b).slot]? = none)) ∧
    (∃ (s : State) (n : Fin 10) (b : List Byte) (k : SchedBlock) (d1 : Dev) (e : SlotEntry), (s.dev.cyc.running = true) ∧ (s.dev.mode ≠ 5 ∨ s.dev.cyc.join = none) ∧ (s.dev.activeBlock n.val = some k) ∧ ((parseFrame b).hdrOk = true) ∧ (knownType (parseFrame b).typ = true) ∧ (d1 = ({ s.dev with cyc := { s.dev.cyc with join := s.dev.cyc.join.map (fun (j : Join) => { j with silent := false }) } } : Dev)) ∧ (k.slots[(parseFrame b).slot]? = some e) ∧ (s.dev.bellSource n.val (parseFrame b).src e = false) ∧ ((parseFrame b).typ = 1)) ∧
    (∃ (s : State) (n : Fin 10) (b : List Byte) (k : SchedBlock) (d1 : Dev) (e : SlotEntry), (s.dev.cyc.running = true) ∧ (s.dev.mode ≠ 5 ∨ s.dev.cyc.join = none) ∧ (s.dev.activeBlock n.val = some k) ∧ ((parseFrame b).hdrOk = true) ∧ (knownType (parseFrame b).typ = true) ∧ (d1 = ({ s.dev with cyc := { s.dev.cyc with join := s.dev.cyc.join.map (fun (j : Join) => { j with silent := false }) } } : Dev)) ∧ (k.slots[(parseFrame b).slot]? = some e) ∧ (s.dev.bellSource n.val (parseFrame b).src e = true) ∧ ((parseFrame b).typ = 1) ∧ ((parseFrame b).cycle = s.dev.cyc.count) ∧ ((parseFrame b).bodyOk = false ∨ (parseFrame b).payload.length ≠ 40)) ∧
    (∃ (s : State) (n : Fin 10) (b : List Byte) (k : SchedBlock) (d1 : Dev) (e : SlotEntry), (s.dev.cyc.running = true) ∧ (s.dev.mode ≠ 5 ∨ s.dev.cyc.join = none) ∧ (s.dev.activeBlock n.val = some k) ∧ ((parseFrame b).hdrOk = true) ∧ (knownType (parseFrame b).typ = true) ∧ (d1 = ({ s.dev with cyc := { s.dev.cyc with join := s.dev.cyc.join.map (fun (j : Join) => { j with silent := false }) } } : Dev)) ∧ (k.slots[(parseFrame b).slot]? = some e) ∧ (s.dev.bellSource n.val (parseFrame b).src e = true) ∧ ((parseFrame b).typ = 1) ∧ ((parseFrame b).cycle = s.dev.cyc.count) ∧ ((parseFrame b).bodyOk = true) ∧ ((parseFrame b).payload.length = 40) ∧ (fieldAt (parseFrame b).payload 10 2 ≠ k.gen)) ∧
    (∃ (s : State) (n : Fin 10) (b : List Byte) (k : SchedBlock) (d1 : Dev) (e : SlotEntry), (s.dev.cyc.running = true) ∧ (s.dev.mode ≠ 5 ∨ s.dev.cyc.join = none) ∧ (s.dev.activeBlock n.val = some k) ∧ ((parseFrame b).hdrOk = true) ∧ (knownType (parseFrame b).typ = true) ∧ (d1 = ({ s.dev with cyc := { s.dev.cyc with join := s.dev.cyc.join.map (fun (j : Join) => { j with silent := false }) } } : Dev)) ∧ (k.slots[(parseFrame b).slot]? = some e) ∧ (s.dev.bellSource n.val (parseFrame b).src e = true) ∧ ((parseFrame b).typ = 1) ∧ ((parseFrame b).cycle = s.dev.cyc.count) ∧ ((parseFrame b).bodyOk = true) ∧ ((parseFrame b).payload.length = 40) ∧ (fieldAt (parseFrame b).payload 10 2 = k.gen)) ∧
    (∃ (s : State) (n : Fin 10) (b : List Byte) (j : Join) (k : SchedBlock) (e : SlotEntry) (d1 : Dev), (s.dev.mode = 5) ∧ (s.dev.cyc.join = some j) ∧ (s.dev.planBlock n.val = some k) ∧ ((parseFrame b).hdrOk = true) ∧ ((parseFrame b).typ = 1) ∧ (k.slots[(parseFrame b).slot]? = some e) ∧ (d1 = { s.dev with cyc := { s.dev.cyc with join := some { j with silent := false } } }) ∧ (s.dev.bellSource n.val (parseFrame b).src e = false)) ∧
    (∃ (s : State) (n : Fin 10) (b : List Byte) (j : Join) (k : SchedBlock) (e : SlotEntry) (d1 : Dev), (s.dev.mode = 5) ∧ (s.dev.cyc.join = some j) ∧ (s.dev.planBlock n.val = some k) ∧ ((parseFrame b).hdrOk = true) ∧ ((parseFrame b).typ = 1) ∧ (k.slots[(parseFrame b).slot]? = some e) ∧ (d1 = { s.dev with cyc := { s.dev.cyc with join := some { j with silent := false } } }) ∧ (s.dev.bellSource n.val (parseFrame b).src e = true) ∧ ((parseFrame b).bodyOk = true) ∧ ((parseFrame b).payload.length = 40) ∧ (fieldAt (parseFrame b).payload 10 2 = k.gen)) ∧
    (∃ (s : State) (n : Fin 10) (b : List Byte) (j : Join) (k : SchedBlock) (e : SlotEntry) (d1 : Dev), (s.dev.mode = 5) ∧ (s.dev.cyc.join = some j) ∧ (s.dev.planBlock n.val = some k) ∧ ((parseFrame b).hdrOk = true) ∧ ((parseFrame b).typ = 1) ∧ (k.slots[(parseFrame b).slot]? = some e) ∧ (d1 = { s.dev with cyc := { s.dev.cyc with join := some { j with silent := false } } }) ∧ (s.dev.bellSource n.val (parseFrame b).src e = true) ∧ ((parseFrame b).bodyOk = true) ∧ ((parseFrame b).payload.length = 40) ∧ (fieldAt (parseFrame b).payload 10 2 ≠ k.gen)) ∧
    (∃ (s : State) (n : Fin 8) (k : SchedBlock), (s.dev.cyc.running = true) ∧ (s.dev.rank ≠ 0) ∧ (s.dev.linePorts.contains n.val = true) ∧ (s.dev.activeBlock n.val = some k) ∧ ((s.dev.port n.val).acting = false) ∧ ((s.dev.port n.val).sentBell = false) ∧ (s.dev.heardAbove s.dev.rank = false)) ∧
    (∃ (s : State) (n : Fin 8), (s.dev.cyc.running = false ∨ s.dev.rank = 0 ∨ s.dev.linePorts.contains n.val = false ∨ (s.dev.port n.val).acting = true ∨ (s.dev.port n.val).sentBell = true ∨ s.dev.heardAbove s.dev.rank = true)) ∧
    (∃ (s : State), (s.dev.cyc.join = none ∨ s.dev.mode ≠ 5)) ∧
    (∃ (s : State) (j : Join), (s.dev.cyc.join = some j) ∧ (s.dev.mode = 5) ∧ (j.listened = true)) ∧
    (∃ (s : State) (j : Join), (s.dev.cyc.join = some j) ∧ (s.dev.mode = 5) ∧ (j.listened = false)) ∧
    (∃ (s : State) (j : Join), (s.dev.cyc.join = some j) ∧ (s.dev.mode = 5) ∧ (j.silent = false ∨ s.dev.ltm.alignWait = true)) ∧
    (∃ (s : State) (j : Join), (s.dev.cyc.join = some j) ∧ (s.dev.mode = 5) ∧ (j.silent = true) ∧ (s.dev.ltm.alignWait = false) ∧ ((s.dev.sys.package.map (·.ppsAlign)).getD false = false)) ∧
    (∃ (s : State) (j : Join), (s.dev.cyc.join = some j) ∧ (s.dev.mode = 5) ∧ (j.silent = true) ∧ (s.dev.ltm.alignWait = false) ∧ ((s.dev.sys.package.map (·.ppsAlign)).getD false = true)) ∧
    (∃ (s : State) (j : Join), (s.dev.cyc.join = some j) ∧ (s.dev.mode = 5)) :=
  ⟨⟨at_ 4 id, by decide +kernel, .inl (by decide +kernel)⟩,
   ⟨runs 7 [] [] id, [], .inl rfl, .inl (by decide +kernel)⟩,
   ⟨runs 7 [slotE 1 0 40 0 1] [] id, 0, frameBytes 2 0 0xF000 0 0 0 [], _, _, by decide +kernel, .inl (by decide +kernel), rfl, by decide +kernel, by decide +kernel, rfl, by decide +kernel⟩,
   ⟨runs 7 [slotE 1 0 40 0 1] [] id, 0, frameBytes 1 0 0xF000 0 0 1 [], _, _, by decide +kernel, .inl (by decide +kernel), rfl, by decide +kernel, by decide +kernel, rfl, by decide +kernel, .inl (by decide +kernel)⟩,
   ⟨runs 7 [slotE 1 0 40 0 1] [] id, 0, frameBytes 1 0 0xF040 0 0 0 [], _, _, _, by decide +kernel, .inl (by decide +kernel), rfl, by decide +kernel, by decide +kernel, rfl, rfl, by decide +kernel⟩,
   ⟨runs 7 [slotE 1 0 40 0 1] [] id, 0, frameBytes 1 0 0xF000 0 0 0 (zeros 39), _, _, _, by decide +kernel, .inl (by decide +kernel), rfl, by decide +kernel, by decide +kernel, rfl, rfl, by decide +kernel, by decide +kernel, by decide +kernel, .inr (by decide +kernel)⟩,
   ⟨runs 7 [slotE 1 0 40 0 1] [] id, 0, frameBytes 1 0 0xF000 0 0 0 (zeros 40), _, _, _, by decide +kernel, .inl (by decide +kernel), rfl, by decide +kernel, by decide +kernel, rfl, rfl, by decide +kernel⟩,
   ⟨runs 7 [slotE 1 0 40 0 1] [] id, 0, frameBytes 1 0 0xF000 0 0 0 (zeros 10 ++ leBytes 2 1 ++ zeros 28), _, _, _, by decide +kernel, .inl (by decide +kernel), rfl, by decide +kernel, by decide +kernel, rfl, rfl, by decide +kernel⟩,
   ⟨joins ⟨0, false, 6, [], true⟩ (fun d => { d with sys := { d.sys with pairEnd := false } }), 0, frameBytes 1 0 0xF040 0 0 0 [], _, _, _, _, by decide +kernel, rfl, rfl, by decide +kernel, by decide +kernel, rfl, rfl, by decide +kernel⟩,
   ⟨joins ⟨0, false, 6, [], true⟩ (fun d => { d with sys := { d.sys with pairEnd := false } }), 0, frameBytes 1 0 0xF000 0 0 0 (zeros 10 ++ leBytes 2 1 ++ zeros 28), _, _, _, _, by decide +kernel, rfl, rfl, by decide +kernel, by decide +kernel, rfl, rfl, by decide +kernel⟩,
   ⟨joins ⟨0, false, 6, [], true⟩ (fun d => { d with sys := { d.sys with pairEnd := false } }), 0, frameBytes 1 0 0xF000 0 0 0 (zeros 40), _, _, _, _, by decide +kernel, rfl, rfl, by decide +kernel, by decide +kernel, rfl, rfl, by decide +kernel⟩,
   ⟨runs 7 [] [] (fun d => { d with sys := { d.sys with pairEnd := false } }), 0, _, by decide +kernel, by decide +kernel, by decide +kernel, rfl, by decide +kernel⟩,
   ⟨at_ 7 id, 0, .inl rfl⟩,
   ⟨at_ 7 id, .inl rfl⟩,
   ⟨joins ⟨0, true, 6, [], false⟩ id, _, rfl, by decide +kernel⟩,
   ⟨joins ⟨0, false, 6, [], false⟩ id, _, rfl, by decide +kernel⟩,
   ⟨joins ⟨0, true, 6, [], false⟩ id, _, rfl, by decide +kernel, .inl rfl⟩,
   ⟨joins ⟨0, true, 6, [], true⟩ id, _, rfl, by decide +kernel⟩,
   ⟨joins ⟨0, true, 6, [], true⟩ (fun d => { d with sys := { d.sys with package := some { pkg0 with ppsAlign := true } } }), _, rfl, by decide +kernel⟩,
   ⟨joins ⟨0, true, 6, [], false⟩ id, _, rfl, by decide +kernel⟩⟩
/-- A witness for each clause of ControllerFramesLeaveInTheirSlots. -/
theorem test_witness_ControllerFramesLeaveInTheirSlots :
    (∃ (s : State) (n : Fin 8), (s.dev.cyc.running = false ∨ s.dev.activeBlock n.val = none)) ∧
    (∃ (s : State) (n : Fin 10), (s.dev.cyc.running = false ∨ s.dev.activeBlock n.val = none)) ∧
    (∃ (s : State) (n : Fin 8) (b : SchedBlock), (s.dev.cyc.running = true) ∧ (s.dev.activeBlock n.val = some b) ∧ (s.dev.downSlot n.val b = none)) ∧
    (∃ (s : State) (n : Fin 8) (b : SchedBlock) (e : SlotEntry) (i : Nat), (s.dev.cyc.running = true) ∧ (s.dev.activeBlock n.val = some b) ∧ (s.dev.downSlot n.val b = some (e, i)) ∧ (b.guard ≤ entryTime (s.dev.headEnd n.val) e)) ∧
    (∃ (s : State) (n : Fin 8) (b : SchedBlock) (e : SlotEntry) (i : Nat) (d1 : Dev) (due : List Nat), (s.dev.cyc.running = true) ∧ (s.dev.activeBlock n.val = some b) ∧ (s.dev.downSlot n.val b = some (e, i)) ∧ (entryTime (s.dev.headEnd n.val) e < b.guard) ∧ (d1 = s.dev.reach (s.dev.slotTime n.val e)) ∧ (due = ((d1.binds.filter (fun x => x.port == n.val)).map (·.axis)).filter (fun a => decide (65536 * d1.deadline a ≤ 30 * (quanta (entryTime (d1.headEnd n.val) e) : Int)))) ∧ (s.dev.drives = true)) ∧
    (∃ (s : State) (n : Fin 8) (b : SchedBlock) (e : SlotEntry) (i : Nat) (d1 : Dev) (due : List Nat), (s.dev.cyc.running = true) ∧ (s.dev.activeBlock n.val = some b) ∧ (s.dev.downSlot n.val b = some (e, i)) ∧ (entryTime (s.dev.headEnd n.val) e < b.guard) ∧ (d1 = s.dev.reach (s.dev.slotTime n.val e)) ∧ (due = ((d1.binds.filter (fun x => x.port == n.val)).map (·.axis)).filter (fun a => decide (65536 * d1.deadline a ≤ 30 * (quanta (entryTime (d1.headEnd n.val) e) : Int)))) ∧ (s.dev.drives = true) ∧ (due = []) ∧ (d1.binds.all (fun x => x.port != n.val || d1.settled x.axis) = true) ∧ (d1.laneReady n.val 0 = true)) ∧
    (∃ (s : State) (n : Fin 8) (b : SchedBlock) (e : SlotEntry) (i : Nat) (d1 : Dev) (due : List Nat), (s.dev.cyc.running = true) ∧ (s.dev.activeBlock n.val = some b) ∧ (s.dev.downSlot n.val b = some (e, i)) ∧ (entryTime (s.dev.headEnd n.val) e < b.guard) ∧ (d1 = s.dev.reach (s.dev.slotTime n.val e)) ∧ (due = ((d1.binds.filter (fun x => x.port == n.val)).map (·.axis)).filter (fun a => decide (65536 * d1.deadline a ≤ 30 * (quanta (entryTime (d1.headEnd n.val) e) : Int)))) ∧ (s.dev.drives = false) ∧ (s.dev.mir.stopFrames.contains n.val = false)) ∧
    (∃ (s : State) (n : Fin 8) (b : SchedBlock) (e : SlotEntry) (i : Nat) (d1 : Dev) (due : List Nat), (s.dev.cyc.running = true) ∧ (s.dev.activeBlock n.val = some b) ∧ (s.dev.downSlot n.val b = some (e, i)) ∧ (entryTime (s.dev.headEnd n.val) e < b.guard) ∧ (d1 = s.dev.reach (s.dev.slotTime n.val e)) ∧ (due = ((d1.binds.filter (fun x => x.port == n.val)).map (·.axis)).filter (fun a => decide (65536 * d1.deadline a ≤ 30 * (quanta (entryTime (d1.headEnd n.val) e) : Int)))) ∧ (s.dev.drives = false) ∧ (s.dev.mir.stopFrames.contains n.val = true)) ∧
    (∃ (s : State) (n : Fin 10) (k : Fin 768) (b : SchedBlock), (s.dev.cyc.running = true) ∧ (s.dev.activeBlock n.val = some b) ∧ (b.slots[k.val]? = none)) ∧
    (∃ (s : State) (n : Fin 10) (k : Fin 768) (b : SchedBlock) (e : SlotEntry), (s.dev.cyc.running = true) ∧ (s.dev.activeBlock n.val = some b) ∧ (b.slots[k.val]? = some e) ∧ (sentByHead e ≠ some (s.dev.headEnd n.val) ∨ entryTime (s.dev.headEnd n.val) e = unusedTime ∨ b.guard ≤ entryTime (s.dev.headEnd n.val) e)) ∧
    (∃ (s : State) (n : Fin 10) (k : Fin 768) (b : SchedBlock) (e : SlotEntry) (d1 : Dev), (s.dev.cyc.running = true) ∧ (s.dev.activeBlock n.val = some b) ∧ (b.slots[k.val]? = some e) ∧ (sentByHead e = some (s.dev.headEnd n.val)) ∧ (entryTime (s.dev.headEnd n.val) e ≠ unusedTime) ∧ (entryTime (s.dev.headEnd n.val) e < b.guard) ∧ (d1 = s.dev.reach (s.dev.slotTime n.val e)) ∧ (e.kind = 9) ∧ (n.val < 8)) ∧
    (∃ (s : State) (n : Fin 10) (k : Fin 768) (b : SchedBlock) (e : SlotEntry) (d1 : Dev), (s.dev.cyc.running = true) ∧ (s.dev.activeBlock n.val = some b) ∧ (b.slots[k.val]? = some e) ∧ (sentByHead e = some (s.dev.headEnd n.val)) ∧ (entryTime (s.dev.headEnd n.val) e ≠ unusedTime) ∧ (entryTime (s.dev.headEnd n.val) e < b.guard) ∧ (d1 = s.dev.reach (s.dev.slotTime n.val e)) ∧ (e.kind = 9) ∧ (8 ≤ n.val) ∧ (k.val = bellSlot b (s.dev.headEnd n.val) + 1)) ∧
    (∃ (s : State) (n : Fin 10) (k : Fin 768) (b : SchedBlock) (e : SlotEntry) (d1 : Dev), (s.dev.cyc.running = true) ∧ (s.dev.activeBlock n.val = some b) ∧ (b.slots[k.val]? = some e) ∧ (sentByHead e = some (s.dev.headEnd n.val)) ∧ (entryTime (s.dev.headEnd n.val) e ≠ unusedTime) ∧ (entryTime (s.dev.headEnd n.val) e < b.guard) ∧ (d1 = s.dev.reach (s.dev.slotTime n.val e)) ∧ (e.kind = 6) ∧ (n.val < 8) ∧ ((d1.safetyPay n.val b).take (e.maxPay / 48 * 48) = [])) ∧
    (∃ (s : State) (n : Fin 10) (k : Fin 768) (b : SchedBlock) (e : SlotEntry) (d1 : Dev), (s.dev.cyc.running = true) ∧ (s.dev.activeBlock n.val = some b) ∧ (b.slots[k.val]? = some e) ∧ (sentByHead e = some (s.dev.headEnd n.val)) ∧ (entryTime (s.dev.headEnd n.val) e ≠ unusedTime) ∧ (entryTime (s.dev.headEnd n.val) e < b.guard) ∧ (d1 = s.dev.reach (s.dev.slotTime n.val e)) ∧ (e.kind = 6) ∧ (n.val < 8) ∧ ((d1.safetyPay n.val b).take (e.maxPay / 48 * 48) ≠ [])) ∧
    (∃ (s : State) (n : Fin 10) (k : Fin 768) (b : SchedBlock) (e : SlotEntry) (d1 : Dev), (s.dev.cyc.running = true) ∧ (s.dev.activeBlock n.val = some b) ∧ (b.slots[k.val]? = some e) ∧ (sentByHead e = some (s.dev.headEnd n.val)) ∧ (entryTime (s.dev.headEnd n.val) e ≠ unusedTime) ∧ (entryTime (s.dev.headEnd n.val) e < b.guard) ∧ (d1 = s.dev.reach (s.dev.slotTime n.val e)) ∧ (e.kind ≠ 6) ∧ (e.kind ≠ 9)) :=
  ⟨⟨at_ 4 id, 0, .inl rfl⟩,
   ⟨at_ 4 id, 0, .inl rfl⟩,
   ⟨runs 7 [] [] id, 0, _, by decide +kernel, rfl, by decide +kernel⟩,
   ⟨runs 7 [⟨10, 10, 200, 3, 0, 16, 0, 1⟩] [] id, 0, _, _, _, by decide +kernel, rfl, rfl, by decide +kernel⟩,
   ⟨runs 7 [slotE 3 0 16 0 1] [] (fun d => d.set SYS_MODE.PERMIT 1), 0, _, _, _, _, _, by decide +kernel, rfl, rfl, by decide +kernel, rfl, rfl, by decide +kernel⟩,
   ⟨runs 7 [slotE 3 0 16 0 1] [] (fun d => (d.set SYS_MODE.PERMIT 1).set CLK_PLL.LOCKED 127), 0, _, _, _, _, _, by decide +kernel, rfl, rfl, by decide +kernel, rfl, rfl, by decide +kernel⟩,
   ⟨runs 8 [slotE 3 0 16 0 1] [] id, 0, _, _, _, _, _, by decide +kernel, rfl, rfl, by decide +kernel, rfl, rfl, by decide +kernel⟩,
   ⟨runs 8 [slotE 3 0 16 0 1] [] (fun d => { d with mir := { d.mir with stopFrames := [0] } }), 0, _, _, _, _, _, by decide +kernel, rfl, rfl, by decide +kernel, rfl, rfl, by decide +kernel⟩,
   ⟨runs 7 [] [] id, 0, 0, _, by decide +kernel, rfl, by decide +kernel⟩,
   ⟨runs 7 [slotE 2 0 16 0 1] [] id, 0, 0, _, _, by decide +kernel, rfl, rfl, .inl (by decide +kernel)⟩,
   ⟨runs 7 [slotE 9 0xFF 16 0 1] [] id, 0, 0, _, _, _, by decide +kernel, rfl, rfl, by decide +kernel, by decide +kernel, by decide +kernel, rfl, by decide +kernel⟩,
   ⟨at_ 7 (fun d => { d with cyc := { d.cyc with running := true, active := some ⟨1, false, [blkE 16 [slotE 1 0 40 0 1, slotE 9 0xFB 40 0 1] []], [], [], none⟩ } }), 8, 1, _, _, _, by decide +kernel, rfl, rfl, by decide +kernel, by decide +kernel, by decide +kernel, rfl, by decide +kernel⟩,
   ⟨runs 7 [slotE 6 0xFF 48 0 1] [] id, 0, 0, _, _, _, by decide +kernel, rfl, rfl, by decide +kernel, by decide +kernel, by decide +kernel, rfl, by decide +kernel⟩,
   ⟨runs 7 [slotE 5 0 48 0 1, slotE 6 0xFF 48 0 1] [] (fun d => { d with saf := { d.saf with active := some (safSet0 1 [(164, 1, 1)]), conns := [(0, { SafConn.reset with tx := zeros 48 })] } }), 0, 1, _, _, _, by decide +kernel, rfl, rfl, by decide +kernel, by decide +kernel, by decide +kernel, rfl, by decide +kernel⟩,
   ⟨runs 7 [slotE 3 0 16 0 1] [] id, 0, 0, _, _, _, by decide +kernel, rfl, rfl, by decide +kernel, by decide +kernel, by decide +kernel, rfl, by decide +kernel⟩⟩
/-- A witness for each clause of LanesComputeTheirSequences. -/
theorem test_witness_LanesComputeTheirSequences :
    (∃ (s : State) (l : Fin 32), (s.dev.lanesRun = false ∨ bitAt (s.dev.rd CE_LANE_FAILED) l.val = true ∨ s.dev.eng.running.any (fun r => r.1 == l.val) = true ∨ (laneSeq s.dev.plan l.val)[s.dev.laneIndex l.val]? = none)) ∧
    (∃ (s : State) (l : Fin 32) (a : Nat), (s.dev.lanesRun = true) ∧ (bitAt (s.dev.rd CE_LANE_FAILED) l.val = false) ∧ (s.dev.eng.running.any (fun r => r.1 == l.val) = false) ∧ ((laneSeq s.dev.plan l.val)[s.dev.laneIndex l.val]? = some a) ∧ (s.dev.axisReady a = false)) ∧
    (∃ (s : State) (l : Fin 32) (a : Nat), (s.dev.lanesRun = true) ∧ (bitAt (s.dev.rd CE_LANE_FAILED) l.val = false) ∧ (s.dev.eng.running.any (fun r => r.1 == l.val) = false) ∧ ((laneSeq s.dev.plan l.val)[s.dev.laneIndex l.val]? = some a) ∧ (s.dev.axisReady a = true) ∧ (s.dev.vacant a = true)) ∧
    (∃ (s : State) (l : Fin 32) (a : Nat), (s.dev.lanesRun = true) ∧ (bitAt (s.dev.rd CE_LANE_FAILED) l.val = false) ∧ (s.dev.eng.running.any (fun r => r.1 == l.val) = false) ∧ ((laneSeq s.dev.plan l.val)[s.dev.laneIndex l.val]? = some a) ∧ (s.dev.axisReady a = true) ∧ (s.dev.vacant a = false) ∧ ((s.dev.hostValue a).1 = false ∨ (s.dev.hostValue a).2 ≠ none)) ∧
    (∃ (s : State) (l : Fin 32) (a : Nat), (s.dev.lanesRun = true) ∧ (bitAt (s.dev.rd CE_LANE_FAILED) l.val = false) ∧ (s.dev.eng.running.any (fun r => r.1 == l.val) = false) ∧ ((laneSeq s.dev.plan l.val)[s.dev.laneIndex l.val]? = some a) ∧ (s.dev.axisReady a = true) ∧ (s.dev.vacant a = false) ∧ ((s.dev.hostValue a).1 = true) ∧ ((s.dev.hostValue a).2 = none)) ∧
    (∃ (s : State) (l : Fin 32), (s.dev.eng.running.find? (fun r => r.1 == l.val) = none)) ∧
    (∃ (s : State) (l : Fin 32) (c : Fin 361) (x : SramCheck) (l' : Nat) (a : Nat) (d1 : Dev), (s.dev.eng.running.find? (fun r => r.1 == l.val) = some (l', a)) ∧ (d1 = ((({ s.dev with eng := { s.dev.eng with running := s.dev.eng.running.filter (fun r => r.1 != l.val), busy := putKey l.val (lookupD l.val 0 s.dev.eng.busy + c.val) s.dev.eng.busy } } : Dev).sramFound a x).computeAxis a).identStep a)) ∧
    (∃ (s : State) (a : Fin 512), ((s.dev.axis a.val).standing ≠ 0 ∨ s.dev.mode = 8 ∨ s.dev.lanesRun = false ∨ s.dev.plan.any (fun e => e.axis == a.val) = false)) ∧
    (∃ (s : State) (a : Fin 512), ((s.dev.axis a.val).standing = 0) ∧ (s.dev.mode ≠ 8) ∧ (s.dev.lanesRun = true) ∧ (s.dev.plan.any (fun e => e.axis == a.val) = true)) ∧
    (∃ (s : State) (l : Fin 32), (s.dev.eng.running.find? (fun r => r.1 == l.val) = none)) ∧
    (∃ (s : State) (l : Fin 32) (l' : Nat) (a : Nat), (s.dev.eng.running.find? (fun r => r.1 == l.val) = some (l', a)) ∧ (s.dev.mode = 8)) ∧
    (∃ (s : State) (l : Fin 32) (l' : Nat) (a : Nat), (s.dev.eng.running.find? (fun r => r.1 == l.val) = some (l', a)) ∧ (s.dev.mode ≠ 8)) ∧
    (∃ (s : State) (l : Fin 32), (bitAt (s.dev.get CLK_PLL.LOCKED) 2 = false ∨ bitAt (Nat.lor (s.dev.rd CE_LANE_FAILED) s.dev.eng.failing) l.val = true)) ∧
    (∃ (s : State) (l : Fin 32), (s.dev.mode = 5) ∧ (s.dev.cyc.running = false) ∧ (bitAt (s.dev.get CLK_PLL.LOCKED) 2 = true) ∧ (bitAt (Nat.lor (s.dev.rd CE_LANE_FAILED) s.dev.eng.failing) l.val = false)) ∧
    (∃ (s : State), (s.dev.on CE_APPLY.APPLY = true ∨ s.dev.mode = 8 ∨ s.dev.on MIR_STATUS.BULK = true)) ∧
    (∃ (s : State), (s.dev.on CE_APPLY.APPLY = false) ∧ (s.dev.mode ≠ 8) ∧ (s.dev.on MIR_STATUS.BULK = false)) :=
  ⟨⟨at_ 7 id, 0, .inl (by decide +kernel)⟩,
   ⟨lanes (fun d => d.set (NLS_POS_W2.PRESENT 0 3) 1), 0, _, by decide +kernel, by decide +kernel, by decide +kernel, rfl, by decide +kernel⟩,
   ⟨lanes id, 0, _, by decide +kernel, by decide +kernel, by decide +kernel, rfl, by decide +kernel⟩,
   ⟨lanes (fun d => { d.set (NLS_POS_W2.PRESENT 0 3) 1 with eng := { d.eng with fbReady := [0], host := [(0, ⟨false, zeros 12, false⟩)] } }), 0, _, by decide +kernel, by decide +kernel, by decide +kernel, rfl, by decide +kernel, by decide +kernel, .inr (by decide +kernel)⟩,
   ⟨lanes (fun d => { (Dev.cond (condHA 0) true d).set (NLS_POS_W2.PRESENT 0 3) 1 with eng := { d.eng with fbReady := [0] } }), 0, _, by decide +kernel, by decide +kernel, by decide +kernel, rfl, by decide +kernel⟩,
   ⟨at_ 7 id, 31, by decide +kernel⟩,
   ⟨lanes (fun d => { d with eng := { d.eng with running := [(0, 0)] } }), 0, 0, .clean, _, _, _, rfl, rfl⟩,
   ⟨at_ 8 id, 511, .inr (.inl (by decide +kernel))⟩,
   ⟨lanes id, 0, by decide +kernel⟩,
   ⟨at_ 7 id, 0, by decide +kernel⟩,
   ⟨runs 8 [] [] (fun d => { d with eng := { d.eng with running := [(0, 0)] } }), 0, _, _, rfl, by decide +kernel⟩,
   ⟨runs 7 [] [] (fun d => { d with eng := { d.eng with running := [(0, 0)] } }), 0, _, _, rfl, by decide +kernel⟩,
   ⟨at_ 5 id, 0, .inl (by decide +kernel)⟩,
   ⟨at_ 5 (fun d => d.set CLK_PLL.LOCKED 127), 0, by decide +kernel⟩,
   ⟨at_ 8 id, .inr (.inl (by decide +kernel))⟩,
   ⟨at_ 7 id, by decide +kernel⟩⟩
/-- A witness for each clause of AxisParametersAreWrittenAndCommitted. -/
theorem test_witness_AxisParametersAreWrittenAndCommitted :
    (∃ (s : State) (p : Packet) (p' : Packet) (d' : Dev) (bs : List Byte) (a : _) (o : _) (n : _), (Runs opConfigureAxis p s.dev p' d') ∧ (p'.host = some bs) ∧ (a = par p' 22 2) ∧ (o = par p' 32 2) ∧ (n = par p' 34 2) ∧ (a < 512) ∧ (o ≤ 0xDFC) ∧ (o % 4 = 0) ∧ (4 ≤ n) ∧ (n ≤ 3584) ∧ (n % 4 = 0) ∧ (o + n ≤ 0xE00)) ∧
    (∃ (s : State) (p : Packet) (p' : Packet) (d' : Dev), (Runs opConfigureAxis p s.dev p' d') ∧ ((512 ≤ par p' 22 2 ∨ 0xDFC < par p' 32 2 ∨ par p' 32 2 % 4 ≠ 0 ∨ par p' 34 2 < 4 ∨ 3584 < par p' 34 2 ∨ par p' 34 2 % 4 ≠ 0 ∨ 0xE00 < par p' 32 2 + par p' 34 2))) ∧
    (∃ (s : State) (p : Packet) (p' : Packet) (d' : Dev) (axes : _) (f : _), (Runs opCommitAxes p s.dev p' d') ∧ ((par p' 22 1 = 0 ∧ par p' 24 2 ≤ par p' 26 2 ∧ par p' 26 2 < 512) ∨ (par p' 22 1 = 1 ∧ p'.len.toNat = 4)) ∧ (axes = (if par p' 22 1 = 0 then (List.range (par p' 26 2 + 1 - par p' 24 2)).map (· + par p' 24 2) else (List.range 512).filter (fun a => bitAt (leNat (extBytes p' 0 64)) a))) ∧ (f = d'.afterCommits) ∧ (d'.on MIR_STATUS.BULK = true)) ∧
    (∃ (s : State) (p : Packet) (p' : Packet) (d' : Dev) (axes : _) (f : _), (Runs opCommitAxes p s.dev p' d') ∧ ((par p' 22 1 = 0 ∧ par p' 24 2 ≤ par p' 26 2 ∧ par p' 26 2 < 512) ∨ (par p' 22 1 = 1 ∧ p'.len.toNat = 4)) ∧ (axes = (if par p' 22 1 = 0 then (List.range (par p' 26 2 + 1 - par p' 24 2)).map (· + par p' 24 2) else (List.range 512).filter (fun a => bitAt (leNat (extBytes p' 0 64)) a))) ∧ (f = d'.afterCommits) ∧ (d'.on MIR_STATUS.BULK = false) ∧ (f.commitFail axes (axes.flatMap f.axisDiff) = none)) ∧
    (∃ (s : State) (p : Packet) (p' : Packet) (d' : Dev) (axes : _) (f : _) (r : Nat × Nat), (Runs opCommitAxes p s.dev p' d') ∧ ((par p' 22 1 = 0 ∧ par p' 24 2 ≤ par p' 26 2 ∧ par p' 26 2 < 512) ∨ (par p' 22 1 = 1 ∧ p'.len.toNat = 4)) ∧ (axes = (if par p' 22 1 = 0 then (List.range (par p' 26 2 + 1 - par p' 24 2)).map (· + par p' 24 2) else (List.range 512).filter (fun a => bitAt (leNat (extBytes p' 0 64)) a))) ∧ (f = d'.afterCommits) ∧ (d'.on MIR_STATUS.BULK = false) ∧ (f.commitFail axes (axes.flatMap f.axisDiff) = some r)) ∧
    (∃ (s : State) (p : Packet) (p' : Packet) (d' : Dev), (Runs opCommitAxes p s.dev p' d') ∧ (par p' 22 1 = 1) ∧ (p'.len.toNat ≠ 4)) ∧
    (∃ (s : State) (p : Packet) (p' : Packet) (d' : Dev), (Runs opCommitAxes p s.dev p' d') ∧ (1 < par p' 22 1 ∨ (par p' 22 1 = 0 ∧ (511 < par p' 26 2 ∨ par p' 26 2 < par p' 24 2)))) ∧
    (∃ (s : State) (p : Packet) (p' : Packet) (d' : Dev), (Runs opEnableAxis p s.dev p' d') ∧ (par p' 24 2 < 512) ∧ (par p' 22 2 ≤ par p' 24 2)) ∧
    (∃ (s : State) (p : Packet) (p' : Packet) (d' : Dev), (Runs opEnableAxis p s.dev p' d') ∧ (512 ≤ par p' 24 2 ∨ par p' 24 2 < par p' 22 2)) ∧
    (∃ (s : State) (p : Packet) (p' : Packet) (d' : Dev), (Runs opDisableAxis p s.dev p' d') ∧ (par p' 24 2 < 512) ∧ (par p' 22 2 ≤ par p' 24 2)) ∧
    (∃ (s : State) (p : Packet) (p' : Packet) (d' : Dev), (Runs opDisableAxis p s.dev p' d') ∧ (512 ≤ par p' 24 2 ∨ par p' 24 2 < par p' 22 2)) ∧
    (∃ (s : State) (p : Packet) (p' : Packet) (d' : Dev) (bs : List Byte) (a : _) (data : _), (Runs opReadAxisState p s.dev p' d') ∧ (a = par p' 22 2) ∧ (a < 512) ∧ (par p' 24 1 ≤ 2) ∧ (p'.host = some bs) ∧ (data = (if par p' 24 1 = 1 then [] else d'.paramBytes a) ++ (if par p' 24 1 = 0 then [] else axisStateBytes (d'.axis a)))) ∧
    (∃ (s : State) (p : Packet) (p' : Packet) (d' : Dev), (Runs opReadAxisState p s.dev p' d') ∧ ((512 ≤ par p' 22 2 ∨ 2 < par p' 24 1))) ∧
    (∃ (s : State) (p : Packet) (p' : Packet) (d' : Dev), (Runs opActivate p s.dev p' d') ∧ ((d'.cyc.pending.map (·.num)) ≠ some (par p' 22 2))) ∧
    (∃ (s : State) (p : Packet) (p' : Packet) (d' : Dev), (Runs opActivate p s.dev p' d') ∧ ((d'.cyc.pending.map (·.num)) = some (par p' 22 2)) ∧ (d'.cyc.countdown ≠ none ∨ d'.cyc.waiting.any (fun e => match e.act with | .activate _ _ => true | _ => false) = true)) ∧
    (∃ (s : State) (p : Packet) (p' : Packet) (d' : Dev) (g : _) (r : Nat × Nat), (Runs opActivate p s.dev p' d') ∧ (d'.cyc.pending = some g) ∧ (g.num = par p' 22 2) ∧ (d'.cyc.countdown = none) ∧ (d'.cyc.waiting.any (fun e => match e.act with | .activate _ _ => true | _ => false) = false) ∧ (d'.scheduleFail g = some r)) ∧
    (∃ (s : State) (p : Packet) (p' : Packet) (d' : Dev) (g : _), (Runs opActivate p s.dev p' d') ∧ (d'.cyc.pending = some g) ∧ (g.num = par p' 22 2) ∧ (d'.cyc.countdown = none) ∧ (d'.cyc.waiting.any (fun e => match e.act with | .activate _ _ => true | _ => false) = false) ∧ (d'.scheduleFail g = none) ∧ (engineRule1 g d'.allParams (d'.rd CE_LANE_FAILED) = none) ∧ (engineRule2 g d'.allParams = none) ∧ (engineRule3 g d'.allParams (d'.costOf d'.allParams) d'.markNode = none) ∧ (d'.pairFail (d'.lget MIR_CTRL.LEASE) [g] = none) ∧ (d'.safetyFailWith [g] (d'.lget MIR_CTRL.LEASE) = none)) :=
  ⟨⟨at_ 7 id, { pk [(22, 2, 511), (32, 2, 0xDFC), (34, 2, 4)] with host := some [] }, _, _, _, _, _, _, runs_plain _ _ _ (by decide +kernel), rfl, rfl, rfl, rfl, by decide +kernel⟩,
   ⟨at_ 7 id, pk [(22, 2, 512)], _, _, runs_plain _ _ _ (by decide +kernel), .inl (by decide)⟩,
   ⟨at_ 4 (fun d => d.set MIR_STATUS.BULK 1), pk [], _, _, _, _, runs_plain _ _ _ (by decide +kernel), .inl (by decide), rfl, rfl, by decide +kernel⟩,
   ⟨at_ 4 (goodAxis (fun a w => Dev.wr a w.toNat)), pk [], _, _, _, _, runs_plain _ _ _ (by decide +kernel), .inl (by decide), rfl, rfl, by decide +kernel⟩,
   ⟨at_ 4 id, pk [], _, _, _, _, _, runs_plain _ _ _ (by decide +kernel), .inl (by decide), rfl, rfl, by decide +kernel, rfl⟩,
   ⟨at_ 7 id, pkx 3 [] [(22, 1, 1)], _, _, runs_plain _ _ _ (by decide +kernel), by decide +kernel⟩,
   ⟨at_ 7 id, pk [(22, 1, 2)], _, _, runs_plain _ _ _ (by decide +kernel), .inl (by decide)⟩,
   ⟨at_ 7 id, pk [(24, 2, 511)], _, _, runs_plain _ _ _ (by decide +kernel), by decide +kernel⟩,
   ⟨at_ 7 id, pk [(24, 2, 512)], _, _, runs_plain _ _ _ (by decide +kernel), .inl (by decide)⟩,
   ⟨at_ 7 id, pk [(22, 2, 511), (24, 2, 511)], _, _, runs_plain _ _ _ (by decide +kernel), by decide +kernel⟩,
   ⟨at_ 7 id, pk [(22, 2, 1)], _, _, runs_plain _ _ _ (by decide +kernel), .inr (by decide)⟩,
   ⟨at_ 7 id, { pk [(24, 1, 1)] with host := some [] }, _, _, _, _, _, runs_plain _ _ _ (by decide +kernel), rfl, by decide +kernel, by decide +kernel, rfl, rfl⟩,
   ⟨at_ 7 id, pk [(22, 2, 512)], _, _, runs_plain _ _ _ (by decide +kernel), .inl (by decide)⟩,
   ⟨at_ 7 id, pk [], _, _, runs_plain _ _ _ (by decide +kernel), by decide +kernel⟩,
   ⟨at_ 4 (fun d => { d with cyc := { d.cyc with pending := some gen0, waiting := [⟨1, 68, .activate 1 none, none⟩] } }), pk [(22, 2, 1)], _, _, runs_plain _ _ _ (by decide +kernel), by decide +kernel, .inr (by decide)⟩,
   ⟨at_ 4 (fun d => { d with cyc := { d.cyc with pending := some ⟨1, false, [blkE 0 [] []], [], [], none⟩ } }), pk [(22, 2, 1)], _, _, _, _, runs_plain _ _ _ (by decide +kernel), rfl, by decide +kernel, by decide +kernel, by decide +kernel, rfl⟩,
   ⟨at_ 4 (fun d => { d with cyc := { d.cyc with pending := some gen0 } }), pk [(22, 2, 1)], _, _, _, runs_plain _ _ _ (by decide +kernel), rfl, by decide +kernel⟩⟩
/-- A witness for each clause of MotionPacketsAreLogged. -/
theorem test_witness_MotionPacketsAreLogged :
    (∃ (s : State) (p : Packet) (p' : Packet) (d' : Dev) (a : _) (busy : _), (Runs opMoveProfile p s.dev p' d') ∧ (a = par p' 22 2) ∧ (busy = (match d'.trc.ident with | some i => i.axis == a | none => false)) ∧ (a < 512) ∧ (par p' 24 1 = 1) ∧ (fpFinite (par p' 26 4) = true) ∧ ((d'.axis a).faulted = true ∨ d'.groupLatched (d'.groupOf a) = true)) ∧
    (∃ (s : State) (p : Packet) (p' : Packet) (d' : Dev) (a : _) (busy : _), (Runs opMoveProfile p s.dev p' d') ∧ (a = par p' 22 2) ∧ (busy = (match d'.trc.ident with | some i => i.axis == a | none => false)) ∧ (a < 512) ∧ (par p' 24 1 = 1) ∧ (fpFinite (par p' 26 4) = true) ∧ ((d'.axis a).faulted = false) ∧ (d'.groupLatched (d'.groupOf a) = false) ∧ (busy = true)) ∧
    (∃ (s : State) (p : Packet) (p' : Packet) (d' : Dev) (a : _) (busy : _), (Runs opMoveProfile p s.dev p' d') ∧ (a = par p' 22 2) ∧ (busy = (match d'.trc.ident with | some i => i.axis == a | none => false)) ∧ (a < 512) ∧ (par p' 24 1 = 1) ∧ (fpFinite (par p' 26 4) = true) ∧ ((d'.axis a).faulted = false) ∧ (d'.groupLatched (d'.groupOf a) = false) ∧ (busy = false)) ∧
    (∃ (s : State) (p : Packet) (p' : Packet) (d' : Dev) (a : _), (Runs opMoveProfile p s.dev p' d') ∧ (a = par p' 22 2) ∧ (512 ≤ a ∨ 1 < par p' 24 1 ∨ (par p' 24 1 = 1 ∧ fpFinite (par p' 26 4) = false) ∨ (par p' 24 1 = 0 ∧ ([par p' 34 4, par p' 38 4, par p' 42 4, par p' 46 4].all (fun x => fpFinite x && fpPos x) = false ∨ fpLt (d'.axisLive a pVMAX) (par p' 34 4) = true)))) ∧
    (∃ (s : State) (p : Packet) (p' : Packet) (d' : Dev) (a : _) (lims : _) (tgt : _) (list : _) (ph : _), (Runs opMoveProfile p s.dev p' d') ∧ (a = par p' 22 2) ∧ (a < 512) ∧ (par p' 24 1 = 0) ∧ (lims = [par p' 34 4, par p' 38 4, par p' 42 4, par p' 46 4]) ∧ (lims.all (fun x => fpFinite x && fpPos x) = true) ∧ (fpLt (d'.axisLive a pVMAX) (par p' 34 4) = false) ∧ ((d'.axis a).faulted = false) ∧ (d'.groupLatched (d'.groupOf a) = false) ∧ ((match d'.trc.ident with | some i => i.axis == a | none => false) = false) ∧ (tgt = (if bitAt (par p' 25 1) 0 then satAdd64 (d'.axis a).xs (signedOf 64 (par p' 26 8)) else signedOf 64 (par p' 26 8))) ∧ (list = (if tgt - (d'.axis a).xs = 0 then [] else Config.planProfile (tgt - (d'.axis a).xs) lims (d'.periodNs / 8))) ∧ (ph = ((list ++ List.replicate 8 (0, 0)).take 8).map (fun (x : Nat × Nat) => (x.1 % 2 ^ 32, x.2 % 2 ^ 32))) ∧ ((fpEq (d'.axis a).vs 0 && fpEq (d'.axis a).pa 0 && (d'.axis a).ph == 8) = false)) ∧
    (∃ (s : State) (p : Packet) (p' : Packet) (d' : Dev) (a : _) (lims : _) (tgt : _) (list : _) (ph : _), (Runs opMoveProfile p s.dev p' d') ∧ (a = par p' 22 2) ∧ (a < 512) ∧ (par p' 24 1 = 0) ∧ (lims = [par p' 34 4, par p' 38 4, par p' 42 4, par p' 46 4]) ∧ (lims.all (fun x => fpFinite x && fpPos x) = true) ∧ (fpLt (d'.axisLive a pVMAX) (par p' 34 4) = false) ∧ ((d'.axis a).faulted = false) ∧ (d'.groupLatched (d'.groupOf a) = false) ∧ ((match d'.trc.ident with | some i => i.axis == a | none => false) = false) ∧ (tgt = (if bitAt (par p' 25 1) 0 then satAdd64 (d'.axis a).xs (signedOf 64 (par p' 26 8)) else signedOf 64 (par p' 26 8))) ∧ (list = (if tgt - (d'.axis a).xs = 0 then [] else Config.planProfile (tgt - (d'.axis a).xs) lims (d'.periodNs / 8))) ∧ (ph = ((list ++ List.replicate 8 (0, 0)).take 8).map (fun (x : Nat × Nat) => (x.1 % 2 ^ 32, x.2 % 2 ^ 32))) ∧ ((fpEq (d'.axis a).vs 0 && fpEq (d'.axis a).pa 0 && (d'.axis a).ph == 8) = true) ∧ (par p' 50 8 = 0)) ∧
    (∃ (s : State) (p : Packet) (p' : Packet) (d' : Dev) (a : _) (lims : _) (tgt : _) (list : _) (ph : _) (bs : List Byte), (Runs opMoveProfile p s.dev p' d') ∧ (a = par p' 22 2) ∧ (a < 512) ∧ (par p' 24 1 = 0) ∧ (lims = [par p' 34 4, par p' 38 4, par p' 42 4, par p' 46 4]) ∧ (lims.all (fun x => fpFinite x && fpPos x) = true) ∧ (fpLt (d'.axisLive a pVMAX) (par p' 34 4) = false) ∧ ((d'.axis a).faulted = false) ∧ (d'.groupLatched (d'.groupOf a) = false) ∧ ((match d'.trc.ident with | some i => i.axis == a | none => false) = false) ∧ (tgt = (if bitAt (par p' 25 1) 0 then satAdd64 (d'.axis a).xs (signedOf 64 (par p' 26 8)) else signedOf 64 (par p' 26 8))) ∧ (list = (if tgt - (d'.axis a).xs = 0 then [] else Config.planProfile (tgt - (d'.axis a).xs) lims (d'.periodNs / 8))) ∧ (ph = ((list ++ List.replicate 8 (0, 0)).take 8).map (fun (x : Nat × Nat) => (x.1 % 2 ^ 32, x.2 % 2 ^ 32))) ∧ ((fpEq (d'.axis a).vs 0 && fpEq (d'.axis a).pa 0 && (d'.axis a).ph == 8) = true) ∧ (tgt = (d'.axis a).xs ∨ profileOk (d'.periodNs / 8) (tgt - (d'.axis a).xs) lims list = true) ∧ (par p' 50 8 ≠ 0) ∧ (p'.host = some bs)) ∧
    (∃ (s : State) (p : Packet) (p' : Packet) (d' : Dev) (a : _) (lims : _) (tgt : _) (list : _) (ph : _), (Runs opMoveProfile p s.dev p' d') ∧ (a = par p' 22 2) ∧ (a < 512) ∧ (par p' 24 1 = 0) ∧ (lims = [par p' 34 4, par p' 38 4, par p' 42 4, par p' 46 4]) ∧ (lims.all (fun x => fpFinite x && fpPos x) = true) ∧ (fpLt (d'.axisLive a pVMAX) (par p' 34 4) = false) ∧ ((d'.axis a).faulted = false) ∧ (d'.groupLatched (d'.groupOf a) = false) ∧ ((match d'.trc.ident with | some i => i.axis == a | none => false) = false) ∧ (tgt = (if bitAt (par p' 25 1) 0 then satAdd64 (d'.axis a).xs (signedOf 64 (par p' 26 8)) else signedOf 64 (par p' 26 8))) ∧ (list = (if tgt - (d'.axis a).xs = 0 then [] else Config.planProfile (tgt - (d'.axis a).xs) lims (d'.periodNs / 8))) ∧ (ph = ((list ++ List.replicate 8 (0, 0)).take 8).map (fun (x : Nat × Nat) => (x.1 % 2 ^ 32, x.2 % 2 ^ 32))) ∧ (tgt = (d'.axis a).xs) ∧ ((fpEq (d'.axis a).vs 0 && fpEq (d'.axis a).pa 0 && (d'.axis a).ph == 8) = true) ∧ (par p' 50 8 = 0)) ∧
    (∃ (s : State) (p : Packet) (p' : Packet) (d' : Dev) (a : _) (f : _) (busy : _), (Runs opSetGear p s.dev p' d') ∧ (a = par p' 22 2) ∧ (f = d'.afterCommits) ∧ (busy = (d'.on MIR_STATUS.BULK || (match d'.trc.ident with | some i => i.axis == a | none => false))) ∧ (512 ≤ a)) ∧
    (∃ (s : State) (p : Packet) (p' : Packet) (d' : Dev) (a : _) (f : _) (busy : _), (Runs opSetGear p s.dev p' d') ∧ (a = par p' 22 2) ∧ (f = d'.afterCommits) ∧ (busy = (d'.on MIR_STATUS.BULK || (match d'.trc.ident with | some i => i.axis == a | none => false))) ∧ (a < 512) ∧ ((d'.axis a).faulted = true ∨ d'.groupLatched (d'.groupOf a) = true)) ∧
    (∃ (s : State) (p : Packet) (p' : Packet) (d' : Dev) (a : _) (f : _) (busy : _), (Runs opSetGear p s.dev p' d') ∧ (a = par p' 22 2) ∧ (f = d'.afterCommits) ∧ (busy = (d'.on MIR_STATUS.BULK || (match d'.trc.ident with | some i => i.axis == a | none => false))) ∧ (a < 512) ∧ ((d'.axis a).faulted = false) ∧ (d'.groupLatched (d'.groupOf a) = false) ∧ (busy = true)) ∧
    (∃ (s : State) (p : Packet) (p' : Packet) (d' : Dev) (a : _) (f : _) (busy : _), (Runs opSetGear p s.dev p' d') ∧ (a = par p' 22 2) ∧ (f = d'.afterCommits) ∧ (busy = (d'.on MIR_STATUS.BULK || (match d'.trc.ident with | some i => i.axis == a | none => false))) ∧ (a < 512) ∧ ((d'.axis a).faulted = false) ∧ (d'.groupLatched (d'.groupOf a) = false) ∧ (busy = false) ∧ (f.commitFail [a] (f.gearWords a (par p' 24 4) (par p' 28 4)) = none)) ∧
    (∃ (s : State) (p : Packet) (p' : Packet) (d' : Dev) (a : _) (f : _) (busy : _) (r : Nat × Nat), (Runs opSetGear p s.dev p' d') ∧ (a = par p' 22 2) ∧ (f = d'.afterCommits) ∧ (busy = (d'.on MIR_STATUS.BULK || (match d'.trc.ident with | some i => i.axis == a | none => false))) ∧ (a < 512) ∧ ((d'.axis a).faulted = false) ∧ (d'.groupLatched (d'.groupOf a) = false) ∧ (busy = false) ∧ (f.commitFail [a] (f.gearWords a (par p' 24 4) (par p' 28 4)) = some r)) ∧
    (∃ (s : State) (p : Packet) (p' : Packet) (d' : Dev), (Runs opLoadCam p s.dev p' d') ∧ (1024 ≤ par p' 22 2)) ∧
    (∃ (s : State) (p : Packet) (p' : Packet) (d' : Dev), (Runs opLoadCam p s.dev p' d') ∧ (par p' 22 2 < 1024) ∧ (par p' 32 4 < 56 ∨ 98336 < par p' 32 4 ∨ (par p' 32 4 - 32) % 24 ≠ 0)) ∧
    (∃ (s : State) (p : Packet) (p' : Packet) (d' : Dev) (bs : List Byte) (b : _) (t : Nat) (n : _) (used : _), (Runs opLoadCam p s.dev p' d') ∧ (t = par p' 22 2) ∧ (n = par p' 32 4) ∧ (t < 1024) ∧ (56 ≤ n) ∧ (n ≤ 98336) ∧ ((n - 32) % 24 = 0) ∧ (p'.host = some bs) ∧ (b = padTo n bs) ∧ (n = 32 + 24 * fieldAt b 0 2) ∧ (fieldAt b 2 2 < 2) ∧ (fieldAt b 8 8 ≠ 0) ∧ (fieldAt b 0 2 ≤ 4096) ∧ (used = (d'.on MIR_STATUS.BULK || d'.live.any (fun w => decide (0x200000 ≤ w.1) && w.1 % 0x1000 == pOPT && optMode (d'.params ((w.1 - 0x200000) / 0x1000)) == 4 && bitsOf (d'.axisLive ((w.1 - 0x200000) / 0x1000) pCAM_TABLE) 9 0 == t))) ∧ (used = true)) ∧
    (∃ (s : State) (p : Packet) (p' : Packet) (d' : Dev) (bs : List Byte) (b : _) (t : Nat) (n : _) (used : _), (Runs opLoadCam p s.dev p' d') ∧ (t = par p' 22 2) ∧ (n = par p' 32 4) ∧ (t < 1024) ∧ (56 ≤ n) ∧ (n ≤ 98336) ∧ ((n - 32) % 24 = 0) ∧ (p'.host = some bs) ∧ (b = padTo n bs) ∧ (n = 32 + 24 * fieldAt b 0 2) ∧ (fieldAt b 2 2 < 2) ∧ (fieldAt b 8 8 ≠ 0) ∧ (fieldAt b 0 2 ≤ 4096) ∧ (used = (d'.on MIR_STATUS.BULK || d'.live.any (fun w => decide (0x200000 ≤ w.1) && w.1 % 0x1000 == pOPT && optMode (d'.params ((w.1 - 0x200000) / 0x1000)) == 4 && bitsOf (d'.axisLive ((w.1 - 0x200000) / 0x1000) pCAM_TABLE) 9 0 == t))) ∧ (used = false)) ∧
    (∃ (s : State) (p : Packet) (p' : Packet) (d' : Dev) (k : _) (w : _), (Runs opStream p s.dev p' d') ∧ (k = par p' 24 1) ∧ (w = par p' 25 1) ∧ (1 ≤ k) ∧ (k ≤ 64) ∧ (par p' 22 2 + k ≤ 512) ∧ (p'.len.toNat ≠ (12 * k + 15) / 16)) ∧
    (∃ (s : State) (p : Packet) (p' : Packet) (d' : Dev) (k : _) (w : _), (Runs opStream p s.dev p' d') ∧ (k = par p' 24 1) ∧ (w = par p' 25 1) ∧ (1 ≤ k) ∧ (k ≤ 64) ∧ (par p' 22 2 + k ≤ 512) ∧ (p'.len.toNat = (12 * k + 15) / 16) ∧ (w ≤ 1) ∧ (d'.ha w = false ∨ (List.range k).any (fun i => (d'.axis (par p' 22 2 + i)).faulted) = true)) ∧
    (∃ (s : State) (p : Packet) (p' : Packet) (d' : Dev) (k : _) (w : _), (Runs opStream p s.dev p' d') ∧ (k = par p' 24 1) ∧ (w = par p' 25 1) ∧ (1 ≤ k) ∧ (k ≤ 64) ∧ (par p' 22 2 + k ≤ 512) ∧ (p'.len.toNat = (12 * k + 15) / 16) ∧ (w = 0) ∧ (d'.ha 0 = true) ∧ ((List.range k).any (fun i => (d'.axis (par p' 22 2 + i)).faulted) = false)) ∧
    (∃ (s : State) (p : Packet) (p' : Packet) (d' : Dev) (k : _) (w : _), (Runs opStream p s.dev p' d') ∧ (k = par p' 24 1) ∧ (w = par p' 25 1) ∧ (1 ≤ k) ∧ (k ≤ 64) ∧ (par p' 22 2 + k ≤ 512) ∧ (p'.len.toNat = (12 * k + 15) / 16) ∧ (w = 1) ∧ (d'.ha 1 = true) ∧ ((List.range k).any (fun i => (d'.axis (par p' 22 2 + i)).faulted) = false)) ∧
    (∃ (s : State) (p : Packet) (p' : Packet) (d' : Dev), (Runs opStopGroup p s.dev p' d')) :=
  ⟨⟨at_ 7 (fun d => d.setAxis 0 { d.axis 0 with faulted := true }), pk [(24, 1, 1)], _, _, _, _, runs_plain _ _ _ (by decide +kernel), rfl, rfl, by decide +kernel, by decide +kernel, by decide +kernel, .inl (by decide +kernel)⟩,
   ⟨at_ 7 (fun d => { d with trc := { d.trc with ident := some ⟨0, 0, 10, 0, [], 0, some 5, []⟩ } }), pk [(24, 1, 1)], _, _, _, _, runs_plain _ _ _ (by decide +kernel), rfl, rfl, by decide +kernel⟩,
   ⟨at_ 7 id, pk [(22, 2, 511), (24, 1, 1)], _, _, _, _, runs_plain _ _ _ (by decide +kernel), rfl, rfl, by decide +kernel⟩,
   ⟨at_ 7 id, pk [(22, 2, 512)], _, _, _, runs_plain _ _ _ (by decide +kernel), rfl, .inl (by decide)⟩,
   ⟨at_ 7 (fun d => (d.goLive (AX 0 pVMAX) 0x3F800000).setAxis 0 { d.axis 0 with vs := 0x3F800000 }), pk [(34, 4, 0x3F800000), (38, 4, 0x3F800000), (42, 4, 0x3F800000), (46, 4, 0x3F800000)], _, _, _, _, _, _, _, runs_plain _ _ _ (by decide +kernel), rfl, by decide +kernel, by decide +kernel, rfl, by decide +kernel, by decide +kernel, by decide +kernel, by decide +kernel, by decide +kernel, rfl, rfl, rfl, by decide +kernel⟩,
   ⟨at_ 7 (fun d => d.goLive (AX 0 pVMAX) 0x3F800000), pk [(34, 4, 0x3F800000), (38, 4, 0x3F800000), (42, 4, 0x3F800000), (46, 4, 0x3F800000)], _, _, _, _, _, _, _, runs_plain _ _ _ (by decide +kernel), rfl, by decide +kernel, by decide +kernel, rfl, by decide +kernel, by decide +kernel, by decide +kernel, by decide +kernel, by decide +kernel, rfl, rfl, rfl, by decide +kernel⟩,
   ⟨at_ 7 (fun d => d.goLive (AX 0 pVMAX) 0x3F800000), { pk [(34, 4, 0x3F800000), (38, 4, 0x3F800000), (42, 4, 0x3F800000), (46, 4, 0x3F800000), (50, 8, 64)] with host := some [] }, _, _, _, _, _, _, _, _, runs_plain _ _ _ (by decide +kernel), rfl, by decide +kernel, by decide +kernel, rfl, by decide +kernel, by decide +kernel, by decide +kernel, by decide +kernel, by decide +kernel, rfl, rfl, rfl, by decide +kernel, .inl (by decide +kernel), by decide +kernel, rfl⟩,
   ⟨at_ 7 (fun d => d.goLive (AX 0 pVMAX) 0x3F800000), pk [(34, 4, 0x3F800000), (38, 4, 0x3F800000), (42, 4, 0x3F800000), (46, 4, 0x3F800000)], _, _, _, _, _, _, _, runs_plain _ _ _ (by decide +kernel), rfl, by decide +kernel, by decide +kernel, rfl, by decide +kernel, by decide +kernel, by decide +kernel, by decide +kernel, by decide +kernel, rfl, rfl, rfl, by decide +kernel⟩,
   ⟨at_ 7 id, pk [(22, 2, 512)], _, _, _, _, _, runs_plain _ _ _ (by decide +kernel), rfl, rfl, rfl, by decide +kernel⟩,
   ⟨at_ 7 (fun d => d.setAxis 0 { d.axis 0 with faulted := true }), pk [], _, _, _, _, _, runs_plain _ _ _ (by decide +kernel), rfl, rfl, rfl, by decide +kernel, .inl (by decide +kernel)⟩,
   ⟨at_ 7 (fun d => d.set MIR_STATUS.BULK 1), pk [], _, _, _, _, _, runs_plain _ _ _ (by decide +kernel), rfl, rfl, rfl, by decide +kernel⟩,
   ⟨at_ 7 (goodAxis Dev.goLive), pk [(28, 4, 1)], _, _, _, _, _, runs_plain _ _ _ (by decide +kernel), rfl, rfl, rfl, by decide +kernel⟩,
   ⟨at_ 7 id, pk [], _, _, _, _, _, _, runs_plain _ _ _ (by decide +kernel), rfl, rfl, rfl, by decide +kernel, by decide +kernel, by decide +kernel, by decide +kernel, rfl⟩,
   ⟨at_ 7 id, pk [(22, 2, 1024)], _, _, runs_plain _ _ _ (by decide +kernel), by decide +kernel⟩,
   ⟨at_ 7 id, pk [(32, 4, 55)], _, _, runs_plain _ _ _ (by decide +kernel), by decide +kernel, .inl (by decide)⟩,
   ⟨at_ 7 (fun d => d.set MIR_STATUS.BULK 1), { pk [(32, 4, 56)] with host := some (leBytes 4 1 ++ zeros 4 ++ leBytes 8 1 ++ zeros 40) }, _, _, _, _, _, _, _, runs_plain _ _ _ (by decide +kernel), rfl, rfl, by decide +kernel, by decide +kernel, by decide +kernel, by decide +kernel, rfl, rfl, by decide +kernel, by decide +kernel, by decide +kernel, by decide +kernel, rfl, by decide +kernel⟩,
   ⟨at_ 7 id, { pk [(32, 4, 56)] with host := some (leBytes 4 1 ++ zeros 4 ++ leBytes 8 1 ++ zeros 40) }, _, _, _, _, _, _, _, runs_plain _ _ _ (by decide +kernel), rfl, rfl, by decide +kernel, by decide +kernel, by decide +kernel, by decide +kernel, rfl, rfl, by decide +kernel, by decide +kernel, by decide +kernel, by decide +kernel, rfl, by decide +kernel⟩,
   ⟨at_ 7 (Dev.cond (condHA 0) true), pkx 2 [] [(24, 1, 1)], _, _, _, _, runs_plain _ _ _ (by decide +kernel), rfl, rfl, by decide +kernel⟩,
   ⟨at_ 7 id, pkx 1 [] [(24, 1, 1)], _, _, _, _, runs_plain _ _ _ (by decide +kernel), rfl, rfl, by decide +kernel, by decide +kernel, by decide +kernel, by decide +kernel, by decide +kernel, .inl (by decide +kernel)⟩,
   ⟨at_ 7 (Dev.cond (condHA 0) true), pkx 1 [] [(24, 1, 1)], _, _, _, _, runs_plain _ _ _ (by decide +kernel), rfl, rfl, by decide +kernel⟩,
   ⟨at_ 7 (Dev.cond (condHA 1) true), pkx 48 [] [(22, 2, 448), (24, 1, 64), (25, 1, 1)], _, _, _, _, runs_plain _ _ _ (by decide +kernel), rfl, rfl, by decide +kernel⟩,
   ⟨at_ 7 id, pk [], _, _, runs_plain _ _ _ (by decide +kernel)⟩⟩
/-- A witness for each clause of TracesMonitorsAndIdentification. -/
theorem test_witness_TracesMonitorsAndIdentification :
    (∃ (s : State) (p : Packet) (p' : Packet) (d' : Dev) (u : _), (Runs opStartTrace p s.dev p' d') ∧ (u = par p' 22 1) ∧ (4 ≤ u)) ∧
    (∃ (s : State) (p : Packet) (p' : Packet) (d' : Dev) (u : _), (Runs opStartTrace p s.dev p' d') ∧ (u = par p' 22 1) ∧ (u < 4) ∧ (d'.traceBusy u = true)) ∧
    (∃ (s : State) (p : Packet) (p' : Packet) (d' : Dev) (u : _), (Runs opStartTrace p s.dev p' d') ∧ (u = par p' 22 1) ∧ (u < 4) ∧ (d'.traceBusy u = false) ∧ (d'.traceRule u = none) ∧ (d'.tracedFail ((traceProbes d'.rd u).map (·.1)) = none)) ∧
    (∃ (s : State) (p : Packet) (p' : Packet) (d' : Dev) (u : _) (r : Nat × Nat), (Runs opStartTrace p s.dev p' d') ∧ (u = par p' 22 1) ∧ (u < 4) ∧ (d'.traceBusy u = false) ∧ ((d'.traceRule u).orElse (fun _ => d'.tracedFail ((traceProbes d'.rd u).map (·.1))) = some r)) ∧
    (∃ (s : State) (p : Packet) (p' : Packet) (d' : Dev), (Runs opStopTrace p s.dev p' d')) ∧
    (∃ (s : State) (p : Packet) (p' : Packet) (d' : Dev) (u : Nat), (Runs opStopTrace p s.dev p' d') ∧ (u < 4) ∧ (par p' 22 1 = 2 ^ u) ∧ (d'.get (TRC_USTATUS.STATE u) = 1 ∨ d'.get (TRC_USTATUS.STATE u) = 2)) ∧
    (∃ (s : State) (u : Fin 4), (s.dev.on (TRC_UCMD.START u.val) = true)) ∧
    (∃ (s : State) (u : Fin 4), (s.dev.on (TRC_UCMD.START u.val) = false) ∧ (traceModes.contains s.dev.mode = false ∨ s.dev.traceBusy u.val = true)) ∧
    (∃ (s : State) (u : Fin 4), (s.dev.on (TRC_UCMD.START u.val) = false) ∧ (traceModes.contains s.dev.mode = true) ∧ (s.dev.traceBusy u.val = false) ∧ (s.dev.traceRule u.val = none) ∧ (s.dev.tracedFail ((traceProbes s.dev.rd u.val).map (·.1)) = none)) ∧
    (∃ (s : State) (u : Fin 4) (r : Nat × Nat), (s.dev.on (TRC_UCMD.START u.val) = false) ∧ (traceModes.contains s.dev.mode = true) ∧ (s.dev.traceBusy u.val = false) ∧ ((s.dev.traceRule u.val).orElse (fun _ => s.dev.tracedFail ((traceProbes s.dev.rd u.val).map (·.1))) = some r)) ∧
    (∃ (s : State), (traceModes.contains s.dev.mode = false)) ∧
    (∃ (s : State), (traceModes.contains s.dev.mode = true)) ∧
    (∃ (s : State), (s.dev.on TRC_MON_CTRL.APPLY = true)) ∧
    (∃ (s : State) (axes : List Nat), (s.dev.on TRC_MON_CTRL.APPLY = false) ∧ (axes = (List.range 16).filterMap (fun k => if s.dev.on (TRC_MON.EN k) then some (s.dev.get (TRC_MON.AXIS k)) else none)) ∧ (axes.all (fun a => (s.dev.calOf 4 a).isSome) = true) ∧ (s.dev.tracedFail axes = none)) ∧
    (∃ (s : State) (axes : List Nat), (s.dev.on TRC_MON_CTRL.APPLY = false) ∧ (axes = (List.range 16).filterMap (fun k => if s.dev.on (TRC_MON.EN k) then some (s.dev.get (TRC_MON.AXIS k)) else none)) ∧ (axes.all (fun a => (s.dev.calOf 4 a).isSome) = false ∨ s.dev.tracedFail axes ≠ none)) ∧
    (∃ (s : State) (p : Packet) (p' : Packet) (d' : Dev) (a : _) (v : _) (h : _) (okP : _), (Runs opIdentify p s.dev p' d') ∧ (a = par p' 22 2) ∧ (v = par p' 24 4) ∧ (h = par p' 28 2) ∧ (okP = (decide (a < 512) && fpFinite v && fpPos v && !fpLt (d'.axisLive a pVMAX) v && decide (10 ≤ h) && decide (h ≤ 1000))) ∧ (okP = false)) ∧
    (∃ (s : State) (p : Packet) (p' : Packet) (d' : Dev) (a : _) (v : _) (h : _) (still : _) (busy : _), (Runs opIdentify p s.dev p' d') ∧ (a = par p' 22 2) ∧ (v = par p' 24 4) ∧ (h = par p' 28 2) ∧ (a < 512) ∧ (fpFinite v = true) ∧ (fpPos v = true) ∧ (fpLt (d'.axisLive a pVMAX) v = false) ∧ (10 ≤ h) ∧ (h ≤ 1000) ∧ (still = ((d'.axis a).enabled && !(d'.axis a).faulted && (optMode (d'.params a) == 1 || optMode (d'.params a) == 2) && fpEq (d'.axis a).vs 0 && (d'.axis a).ph == 8 && !d'.groupLatched (d'.groupOf a) && !fpEq (d'.axisLive a pJOG_ACCEL) 0)) ∧ (busy = (d'.trc.ident.isSome || d'.cyc.waiting.any (fun e => match e.act with | .identify _ _ => true | _ => false))) ∧ (still = false)) ∧
    (∃ (s : State) (p : Packet) (p' : Packet) (d' : Dev) (a : _) (v : _) (h : _) (still : _) (busy : _), (Runs opIdentify p s.dev p' d') ∧ (a = par p' 22 2) ∧ (v = par p' 24 4) ∧ (h = par p' 28 2) ∧ (a < 512) ∧ (fpFinite v = true) ∧ (fpPos v = true) ∧ (fpLt (d'.axisLive a pVMAX) v = false) ∧ (10 ≤ h) ∧ (h ≤ 1000) ∧ (still = ((d'.axis a).enabled && !(d'.axis a).faulted && (optMode (d'.params a) == 1 || optMode (d'.params a) == 2) && fpEq (d'.axis a).vs 0 && (d'.axis a).ph == 8 && !d'.groupLatched (d'.groupOf a) && !fpEq (d'.axisLive a pJOG_ACCEL) 0)) ∧ (busy = (d'.trc.ident.isSome || d'.cyc.waiting.any (fun e => match e.act with | .identify _ _ => true | _ => false))) ∧ (still = true) ∧ (busy = true)) ∧
    (∃ (s : State) (p : Packet) (p' : Packet) (d' : Dev) (a : _) (v : _) (h : _) (still : _) (busy : _), (Runs opIdentify p s.dev p' d') ∧ (a = par p' 22 2) ∧ (v = par p' 24 4) ∧ (h = par p' 28 2) ∧ (a < 512) ∧ (fpFinite v = true) ∧ (fpPos v = true) ∧ (fpLt (d'.axisLive a pVMAX) v = false) ∧ (10 ≤ h) ∧ (h ≤ 1000) ∧ (still = ((d'.axis a).enabled && !(d'.axis a).faulted && (optMode (d'.params a) == 1 || optMode (d'.params a) == 2) && fpEq (d'.axis a).vs 0 && (d'.axis a).ph == 8 && !d'.groupLatched (d'.groupOf a) && !fpEq (d'.axisLive a pJOG_ACCEL) 0)) ∧ (busy = (d'.trc.ident.isSome || d'.cyc.waiting.any (fun e => match e.act with | .identify _ _ => true | _ => false))) ∧ (still = true) ∧ (busy = false)) ∧
    (∃ (s : State) (p : Packet) (p' : Packet) (d' : Dev) (a : _) (v : _) (h : _) (still : _) (busy : _), (Runs opIdentify p s.dev p' d') ∧ (a = par p' 22 2) ∧ (v = par p' 24 4) ∧ (h = par p' 28 2) ∧ (a < 512) ∧ (fpFinite v = true) ∧ (fpPos v = true) ∧ (fpLt (d'.axisLive a pVMAX) v = false) ∧ (10 ≤ h) ∧ (h ≤ 1000) ∧ (still = ((d'.axis a).enabled && !(d'.axis a).faulted && (optMode (d'.params a) == 1 || optMode (d'.params a) == 2) && fpEq (d'.axis a).vs 0 && (d'.axis a).ph == 8 && !d'.groupLatched (d'.groupOf a) && !fpEq (d'.axisLive a pJOG_ACCEL) 0)) ∧ (busy = (d'.trc.ident.isSome || d'.cyc.waiting.any (fun e => match e.act with | .identify _ _ => true | _ => false))) ∧ (still = true) ∧ (busy = false) ∧ (d'.tracedFail [a] = none)) ∧
    (∃ (s : State) (i : Ident) (t : LTime), (s.dev.trc.ident = some i) ∧ (i.holdEnd = some t) ∧ (i.left = [])) ∧
    (∃ (s : State) (i : Ident) (t : LTime) (v : _) (vs : _), (s.dev.trc.ident = some i) ∧ (i.holdEnd = some t) ∧ (i.left = v :: vs)) ∧
    (∃ (s : State), (s.dev.trc.ident.bind (·.holdEnd) = none)) :=
  ⟨⟨at_ 7 id, pk [(22, 1, 4)], _, _, _, runs_plain _ _ _ (by decide +kernel), rfl, by decide +kernel⟩,
   ⟨at_ 7 (fun d => d.set (TRC_USTATUS.STATE 3) 1), pk [(22, 1, 3)], _, _, _, runs_plain _ _ _ (by decide +kernel), rfl, by decide +kernel⟩,
   ⟨at_ 7 id, pk [(22, 1, 0)], _, _, _, runs_plain _ _ _ (by decide +kernel), rfl, by decide +kernel⟩,
   ⟨at_ 7 (fun d => d.wr (TRC_UCTRL 3) 0), pk [(22, 1, 3)], _, _, _, _, runs_plain _ _ _ (by decide +kernel), rfl, by decide +kernel, by decide +kernel, rfl⟩,
   ⟨at_ 7 (fun d => d.set (TRC_USTATUS.STATE 3) 1), pk [(22, 1, 8)], _, _, runs_plain _ _ _ (by decide +kernel)⟩,
   ⟨at_ 7 (fun d => d.set (TRC_USTATUS.STATE 3) 1), pk [(22, 1, 8)], _, _, (3 : Nat), runs_plain _ _ _ (by decide +kernel), by decide +kernel, by decide +kernel, .inl (by decide +kernel)⟩,
   ⟨at_ 7 (fun d => d.set (TRC_UCMD.START 3) 1), 3, by decide +kernel⟩,
   ⟨at_ 4 id, 3, by decide +kernel, .inl (by decide +kernel)⟩,
   ⟨at_ 7 id, 3, by decide +kernel⟩,
   ⟨at_ 7 (fun d => d.wr (TRC_UCTRL 3) 0), 3, _, by decide +kernel, by decide +kernel, by decide +kernel, rfl⟩,
   ⟨at_ 4 id, by decide +kernel⟩,
   ⟨at_ 11 id, by decide +kernel⟩,
   ⟨at_ 7 (fun d => d.set TRC_MON_CTRL.APPLY 1), by decide +kernel⟩,
   ⟨at_ 7 id, _, by decide +kernel, rfl, by decide +kernel⟩,
   ⟨at_ 7 (fun d => d.set (TRC_MON.EN 0) 1), _, by decide +kernel, rfl, .inl (by decide +kernel)⟩,
   ⟨at_ 7 (fun d => { ((d.goLive (AX 0 pVMAX) 0x3F800000).goLive (AX 0 pJOG_ACCEL) 0x3F800000).goLive (AX 0 pOPT) 0x4 with axes := [(0, { AxisState.reset with enabled := true })] }), pk [(24, 4, 0x3F800000), (28, 2, 9)], _, _, _, _, _, _, runs_plain _ _ _ (by decide +kernel), rfl, rfl, rfl, rfl, by decide +kernel⟩,
   ⟨at_ 7 (fun d => d.goLive (AX 0 pVMAX) 0x3F800000), pk [(24, 4, 0x3F800000), (28, 2, 10)], _, _, _, _, _, _, _, runs_plain _ _ _ (by decide +kernel), rfl, rfl, rfl, by decide +kernel, by decide +kernel, by decide +kernel, by decide +kernel, by decide +kernel, by decide +kernel, rfl, rfl, by decide +kernel⟩,
   ⟨at_ 7 (fun d => { ((d.goLive (AX 0 pVMAX) 0x3F800000).goLive (AX 0 pJOG_ACCEL) 0x3F800000).goLive (AX 0 pOPT) 0x4 with axes := [(0, { AxisState.reset with enabled := true })], trc := { d.trc with ident := some ⟨0, 0, 10, 0, [], 0, some 5, []⟩ } }), pk [(24, 4, 0x3F800000), (28, 2, 10)], _, _, _, _, _, _, _, runs_plain _ _ _ (by decide +kernel), rfl, rfl, rfl, by decide +kernel, by decide +kernel, by decide +kernel, by decide +kernel, by decide +kernel, by decide +kernel, rfl, rfl, by decide +kernel⟩,
   ⟨at_ 7 (fun d => { ((d.goLive (AX 0 pVMAX) 0x3F800000).goLive (AX 0 pJOG_ACCEL) 0x3F800000).goLive (AX 0 pOPT) 0x4 with axes := [(0, { AxisState.reset with enabled := true })] }), pk [(24, 4, 0x3F800000), (28, 2, 10)], _, _, _, _, _, _, _, runs_plain _ _ _ (by decide +kernel), rfl, rfl, rfl, by decide +kernel, by decide +kernel, by decide +kernel, by decide +kernel, by decide +kernel, by decide +kernel, rfl, rfl, by decide +kernel⟩,
   ⟨at_ 7 (fun d => { ((d.goLive (AX 0 pVMAX) 0x3F800000).goLive (AX 0 pJOG_ACCEL) 0x3F800000).goLive (AX 0 pOPT) 0x4 with axes := [(0, { AxisState.reset with enabled := true })] }), pk [(24, 4, 0x3F800000), (28, 2, 10)], _, _, _, _, _, _, _, runs_plain _ _ _ (by decide +kernel), rfl, rfl, rfl, by decide +kernel, by decide +kernel, by decide +kernel, by decide +kernel, by decide +kernel, by decide +kernel, rfl, rfl, by decide +kernel⟩,
   ⟨at_ 7 (fun d => { d with trc := { d.trc with ident := some ⟨0, 0, 10, 0, [], 0, some 5, []⟩ } }), _, _, rfl, rfl, by decide +kernel⟩,
   ⟨at_ 7 (fun d => { d with trc := { d.trc with ident := some ⟨0, 0, 10, 0, [7], 0, some 5, []⟩ } }), _, _, _, _, rfl, rfl, rfl⟩,
   ⟨at_ 7 id, by decide +kernel⟩⟩
/-- A witness for each clause of FeedbackTriggersAndConvertersAct. -/
theorem test_witness_FeedbackTriggersAndConvertersAct :
    (∃ (s : State) (n : Fin 4) (a : FbLevel) (b : FbLevel) (c : FbLevel), (bitsOf (s.dev.lrd (FB_CTRL n.val)) 17 16 = 0) ∧ ((s.dev.fbCh n.val).a = a.level) ∧ ((s.dev.fbCh n.val).b = b.level) ∧ ((s.dev.fbCh n.val).c = c.level)) ∧
    (∃ (s : State) (n : Fin 4), (bitsOf (s.dev.lrd (FB_CTRL n.val)) 17 16 = 0) ∧ (bitsOf (s.dev.lrd (FB_CTRL n.val)) 2 0 = 0)) ∧
    (∃ (s : State) (n : Fin 4) (a : FbLevel) (b : FbLevel) (c : FbLevel), (a.level = false) ∧ (b.level = true) ∧ (c.level = false) ∧ (s.dev.lrd (FB_CTRL n.val) = 1) ∧ ((s.dev.fbCh n.val).a = false) ∧ ((s.dev.fbCh n.val).b = false) ∧ ((s.dev.fbCh n.val).c = false) ∧ (-140737488355328 ≤ (s.dev.fbCh n.val).cnt) ∧ ((s.dev.fbCh n.val).cnt < 140737488355327)) ∧
    (∃ (s : State) (n : Fin 4) (t0 : LTime) (c : Fb), (t0 = s.dev.sampleInstant) ∧ (c = fbSampleSpeed (bitsOf (s.dev.lrd (FB_EST n.val)) 8 4) (s.dev.lrd (FB_VUP n.val)) (s.dev.lrd (FB_VDN n.val)) (s.dev.fbTss n.val) t0 (s.dev.fbCh n.val)) ∧ (((s.dev.fbCh n.val).w.head?).map (·.2) ≠ some t0)) ∧
    (∃ (s : State) (t0 : LTime), (t0 = s.dev.sampleInstant) ∧ ((List.range 4).all (fun n => ((s.dev.fbCh n).w.head?).map (·.2) == some t0) = true)) ∧
    (∃ (s : State) (n : Fin 4), (s.dev.channelUsed n.val = true)) ∧
    (∃ (s : State) (n : Fin 4), (s.dev.channelUsed n.val = false)) ∧
    (∃ (s : State) (n : Fin 4), (bitAt (s.dev.get FB_APPLY.APPLY) n.val = true)) ∧
    (∃ (s : State) (n : Fin 4) (r : Nat), (bitAt (s.dev.get FB_APPLY.APPLY) n.val = false) ∧ (s.dev.fbRules n.val = some r)) ∧
    (∃ (s : State) (n : Fin 4), (bitAt (s.dev.get FB_APPLY.APPLY) n.val = false) ∧ (s.dev.fbRules n.val = none) ∧ (s.dev.sync = true)) ∧
    (∃ (s : State) (n : Fin 4), (bitAt (s.dev.get FB_APPLY.APPLY) n.val = false) ∧ (s.dev.fbRules n.val = none) ∧ (s.dev.sync = false)) ∧
    (∃ (s : State) (n : Fin 16) (r : Bool), (bitAt (s.dev.lrd (TDC_IN_CTRL n.val)) 0 = false ∨ edgeSelected (bitsOf (s.dev.lrd (TDC_IN_CTRL n.val)) 3 2) r = false)) ∧
    (∃ (s : State) (n : Fin 16) (r : Bool) (c : Fin 224) (t0 : Nat) (gap : Nat), (bitAt (s.dev.lrd (TDC_IN_CTRL n.val)) 0 = true) ∧ (edgeSelected (bitsOf (s.dev.lrd (TDC_IN_CTRL n.val)) 3 2) r = true) ∧ (t0 = s.dev.stampOf n.val c.val s.dev.now) ∧ (gap = (match (s.dev.tdcIn n.val).last with | some l => t0 - l | none => 2 ^ 80))) ∧
    (∃ (s : State) (n : Fin 16) (r : Bool) (c : Fin 224) (t0 : Nat) (gap : Nat), (bitAt (s.dev.lrd (TDC_IN_CTRL n.val)) 0 = true) ∧ (edgeSelected (bitsOf (s.dev.lrd (TDC_IN_CTRL n.val)) 3 2) r = true) ∧ (t0 = s.dev.stampOf n.val c.val s.dev.now) ∧ (gap = (match (s.dev.tdcIn n.val).last with | some l => t0 - l | none => 2 ^ 80)) ∧ (gap < ns (8 * bitsOf (s.dev.lrd (TDC_IN_CTRL n.val)) 31 16))) ∧
    (∃ (s : State) (n : Fin 16) (r : Bool) (c : Fin 224) (t0 : Nat) (gap : Nat), (bitAt (s.dev.lrd (TDC_IN_CTRL n.val)) 0 = true) ∧ (edgeSelected (bitsOf (s.dev.lrd (TDC_IN_CTRL n.val)) 3 2) r = true) ∧ (t0 = s.dev.stampOf n.val c.val s.dev.now) ∧ (gap = (match (s.dev.tdcIn n.val).last with | some l => t0 - l | none => 2 ^ 80)) ∧ (ns (8 * bitsOf (s.dev.lrd (TDC_IN_CTRL n.val)) 31 16) ≤ gap) ∧ (ns 4 ≤ gap) ∧ ((s.dev.tdcIn n.val).queue.length < 16)) ∧
    (∃ (s : State) (n : Fin 16), (s.dev.tdcCalibrates n.val = false)) ∧
    (∃ (s : State) (n : Fin 16), (s.dev.tdcCalibrates n.val = true) ∧ (s.dev.cyc.running = true)) ∧
    (∃ (s : State) (n : Fin 16), (s.dev.tdcCalibrates n.val = true) ∧ (s.dev.cyc.running = false)) ∧
    (∃ (s : State) (n : Fin 16), (bitAt (s.dev.get TDC_APPLY.APPLY) n.val = false)) ∧
    (∃ (s : State) (n : Fin 16), (bitAt (s.dev.get TDC_APPLY.APPLY) n.val = true)) ∧
    (∃ (s : State), (s.dev.on ADC_APPLY.APPLY = true)) ∧
    (∃ (s : State), (s.dev.on ADC_APPLY.APPLY = false)) ∧
    (∃ (s : State), (s.dev.adcInstant = none)) ∧
    (∃ (s : State) (k : Fin 8) (t0 : LTime), (s.dev.adcInstant = some t0) ∧ (bitAt (s.dev.lget ADC_CTRL.EN) k.val = true) ∧ ((match (s.dev.adcCh k.val).last with | some l => decide (l + ns 1000 ≤ t0) | none => true) = true)) ∧
    (∃ (s : State) (k : Fin 8) (t0 : LTime), (s.dev.adcInstant = some t0) ∧ (bitAt (s.dev.lget ADC_CTRL.EN) k.val = false ∨ (match (s.dev.adcCh k.val).last with | some l => decide (t0 < l + ns 1000) | none => false) = true)) ∧
    (∃ (s : State) (k : Fin 8), ((s.dev.adcCh k.val).busy = none)) ∧
    (∃ (s : State) (k : Fin 8) (t0 : _), ((s.dev.adcCh k.val).busy = some t0) ∧ ((s.dev.adcCh k.val).codes + 1 < 2 ^ adcAvg (s.dev.lrd (ADC_CH_CFG k.val)))) ∧
    (∃ (s : State) (k : Fin 8) (t0 : _), ((s.dev.adcCh k.val).busy = some t0) ∧ (2 ^ adcAvg (s.dev.lrd (ADC_CH_CFG k.val)) ≤ (s.dev.adcCh k.val).codes + 1)) :=
  ⟨⟨at_ 7 id, 3, ⟨false, true⟩, ⟨false, true⟩, ⟨false, true⟩, by decide +kernel⟩,
   ⟨at_ 7 id, 3, by decide +kernel⟩,
   ⟨at_ 7 (fun d => { d.goLive (FB_CTRL 3) 1 with fb := [(3, { Fb.reset with a := false, b := false, c := false, cnt := 140737488355326 })] }), 3, ⟨true, false⟩, ⟨true, true⟩, ⟨false, false⟩, by decide +kernel⟩,
   ⟨at_ 7 (fun d => (d.set SYS_MODE.PERMIT 1).goLive (FB_CTRL 3) 1), 3, _, _, rfl, rfl, by decide +kernel⟩,
   ⟨at_ 4 (fun d => { d with fb := [(0, { Fb.reset with w := [(0, 0)] }), (1, { Fb.reset with w := [(0, 0)] }), (2, { Fb.reset with w := [(0, 0)] }), (3, { Fb.reset with w := [(0, 0)] })] }), _, rfl, by decide +kernel⟩,
   ⟨at_ 7 (fun d => { d.goLive (AX 0 pMASTER) 0x30002 with axes := [(0, { AxisState.reset with enabled := true })] }), 3, by decide +kernel⟩,
   ⟨at_ 7 id, 3, by decide +kernel⟩,
   ⟨at_ 7 (fun d => d.set FB_APPLY.APPLY 8), 3, by decide +kernel⟩,
   ⟨at_ 7 (fun d => d.set (FB_CTRL.MODE 3) 5), 3, _, by decide +kernel, rfl⟩,
   ⟨at_ 7 id, 3, by decide +kernel⟩,
   ⟨at_ 4 id, 3, by decide +kernel⟩,
   ⟨at_ 7 id, 15, false, .inl (by decide +kernel)⟩,
   ⟨at_ 7 (fun d => d.goLive (TDC_IN_CTRL 15) 9), 15, true, 223, _, _, by decide +kernel, by decide +kernel, rfl, rfl⟩,
   ⟨at_ 7 (fun d => { d.goLive (TDC_IN_CTRL 15) 0x80009 with acq := { d.acq with tdc := [(15, { TdcIn.reset with last := some 0 })] } }), 15, true, 223, _, _, by decide +kernel, by decide +kernel, rfl, rfl, by decide +kernel⟩,
   ⟨at_ 7 (fun d => { d.goLive (TDC_IN_CTRL 15) 9 with acq := { d.acq with tdc := [(15, { TdcIn.reset with queue := List.replicate 15 ⟨1, false, 1⟩ })] } }), 15, true, 223, _, _, by decide +kernel, by decide +kernel, rfl, rfl, by decide +kernel⟩,
   ⟨at_ 7 id, 15, by decide +kernel⟩,
   ⟨runs 7 [] [] (fun d => { d with acq := { d.acq with tdc := [(15, { TdcIn.reset with asked := true })] } }), 15, by decide +kernel⟩,
   ⟨at_ 7 (fun d => { d with acq := { d.acq with tdc := [(15, { TdcIn.reset with asked := true })] } }), 15, by decide +kernel⟩,
   ⟨at_ 7 id, 15, by decide +kernel⟩,
   ⟨at_ 7 (fun d => d.set TDC_APPLY.APPLY 0x8000), 15, by decide +kernel⟩,
   ⟨at_ 7 (fun d => d.set ADC_APPLY.APPLY 1), by decide +kernel⟩,
   ⟨at_ 7 id, by decide +kernel⟩,
   ⟨at_ 7 (fun d => d.goLive ADC_CTRL.START.a 0x100), by decide +kernel⟩,
   ⟨at_ 7 (fun d => d.goLive ADC_CTRL.START.a 0xFF), 7, _, rfl, by decide +kernel⟩,
   ⟨at_ 7 (fun d => d.goLive ADC_CTRL.START.a 0), 7, _, rfl, .inl (by decide +kernel)⟩,
   ⟨at_ 7 id, 7, by decide +kernel⟩,
   ⟨at_ 7 (fun d => { d.goLive (ADC_CH_CFG 7) 1 with adc := [(7, { AdcCh.reset with busy := some 5 })] }), 7, _, rfl, by decide +kernel⟩,
   ⟨at_ 7 (fun d => { d with adc := [(7, { AdcCh.reset with busy := some 5 })] }), 7, _, rfl, by decide +kernel⟩⟩
/-- A witness for each clause of CaptureUnitsRunTheirStates. -/
theorem test_witness_CaptureUnitsRunTheirStates :
    (∃ (s : State) (u : Fin 16), (s.dev.capState u.val ≠ 1)) ∧
    (∃ (s : State) (u : Fin 16), (s.dev.capState u.val = 1)) ∧
    (∃ (s : State) (u : Fin 16), (s.dev.capState u.val < 2 ∨ s.dev.capDue u.val (s.dev.capNum u.val) = false)) ∧
    (∃ (s : State) (u : Fin 16), (2 ≤ s.dev.capState u.val) ∧ (s.dev.capDue u.val (s.dev.capNum u.val) = true) ∧ ((s.dev.capUnit u.val).records = []) ∧ (bitAt (s.dev.lrd (ACQ_U_CTRL u.val)) 20 = false)) ∧
    (∃ (s : State) (u : Fin 16) (c : CapUnit), (c = s.dev.capUnit u.val) ∧ (2 ≤ s.dev.capState u.val) ∧ (s.dev.capDue u.val (s.dev.capNum u.val) = true) ∧ (c.records.any (fun r => decide (r.first + s.dev.ringCap u.val ≤ c.n) && decide (c.n ≤ r.last + s.dev.ringCap u.val)) = true)) ∧
    (∃ (s : State) (u : Fin 16), ((s.dev.capUnit u.val).offers = [])) ∧
    (∃ (s : State) (u : Fin 16) (t0 : LTime) (st : Bool) (rest : List (LTime × Bool)) (d1 : Dev), ((s.dev.capUnit u.val).offers = (t0, st) :: rest) ∧ (d1 = s.dev.setCap u.val { s.dev.capUnit u.val with offers := rest }) ∧ (s.dev.capState u.val = 3) ∧ (s.dev.capGroup u.val = none)) ∧
    (∃ (s : State) (u : Fin 16) (t0 : LTime) (st : Bool) (rest : List (LTime × Bool)) (d1 : Dev) (g : _), ((s.dev.capUnit u.val).offers = (t0, st) :: rest) ∧ (d1 = s.dev.setCap u.val { s.dev.capUnit u.val with offers := rest }) ∧ (s.dev.capState u.val = 3) ∧ (s.dev.capGroup u.val = some g)) ∧
    (∃ (s : State) (u : Fin 16) (t0 : LTime) (st : Bool) (rest : List (LTime × Bool)) (d1 : Dev), ((s.dev.capUnit u.val).offers = (t0, st) :: rest) ∧ (d1 = s.dev.setCap u.val { s.dev.capUnit u.val with offers := rest }) ∧ (s.dev.capState u.val = 2) ∧ (s.dev.lget (ACQ_U_CTRL.PARTIAL_PRE u.val) = 1)) ∧
    (∃ (s : State) (u : Fin 16) (t0 : LTime) (st : Bool) (rest : List (LTime × Bool)) (d1 : Dev), ((s.dev.capUnit u.val).offers = (t0, st) :: rest) ∧ (d1 = s.dev.setCap u.val { s.dev.capUnit u.val with offers := rest }) ∧ (s.dev.capState u.val = 2) ∧ (s.dev.lget (ACQ_U_CTRL.PARTIAL_PRE u.val) ≠ 1)) ∧
    (∃ (s : State) (u : Fin 16) (t0 : LTime) (st : Bool) (rest : List (LTime × Bool)) (d1 : Dev), ((s.dev.capUnit u.val).offers = (t0, st) :: rest) ∧ (d1 = s.dev.setCap u.val { s.dev.capUnit u.val with offers := rest }) ∧ (s.dev.capState u.val = 4 ∨ s.dev.capState u.val = 5)) ∧
    (∃ (s : State) (u : Fin 16) (t0 : LTime) (st : Bool) (rest : List (LTime × Bool)) (d1 : Dev), ((s.dev.capUnit u.val).offers = (t0, st) :: rest) ∧ (d1 = s.dev.setCap u.val { s.dev.capUnit u.val with offers := rest }) ∧ (s.dev.capState u.val < 2)) ∧
    (∃ (s : State) (u : Fin 16), ((s.dev.capUnit u.val).records.findIdx? (·.granted) = none)) ∧
    (∃ (s : State) (u : Fin 16) (c : CapUnit) (i : Nat) (d1 : Dev), (c = s.dev.capUnit u.val) ∧ (c.records.findIdx? (·.granted) = some i) ∧ (d1 = s.dev.setCap u.val { c with records := c.records.eraseIdx i }) ∧ (s.dev.capState u.val ≠ 5 ∨ i + 1 ≠ c.records.length)) ∧
    (∃ (s : State) (u : Fin 16) (c : CapUnit) (i : Nat) (d1 : Dev), (c = s.dev.capUnit u.val) ∧ (c.records.findIdx? (·.granted) = some i) ∧ (d1 = s.dev.setCap u.val { c with records := c.records.eraseIdx i }) ∧ (s.dev.capState u.val = 5) ∧ (i + 1 = c.records.length) ∧ (s.dev.lget (ACQ_U_CTRL.AUTO_REARM u.val) = 1) ∧ (s.dev.get (ACQ_U_REPEAT.LEFT u.val) ≠ 1)) ∧
    (∃ (s : State) (u : Fin 16) (c : CapUnit) (i : Nat) (d1 : Dev), (c = s.dev.capUnit u.val) ∧ (c.records.findIdx? (·.granted) = some i) ∧ (d1 = s.dev.setCap u.val { c with records := c.records.eraseIdx i }) ∧ (s.dev.capState u.val = 5) ∧ (i + 1 = c.records.length) ∧ (s.dev.lget (ACQ_U_CTRL.AUTO_REARM u.val) ≠ 1 ∨ s.dev.get (ACQ_U_REPEAT.LEFT u.val) = 1)) ∧
    (∃ (s : State), (s.dev.get ACQ_POOL.FREE = 0 ∨ (List.range 16).find? (fun u => (s.dev.capUnit u).records.any (fun r => !r.granted)) = none)) ∧
    (∃ (s : State) (u : Nat) (i : Nat) (r : CapRecord), (s.dev.get ACQ_POOL.FREE ≠ 0) ∧ ((List.range 16).find? (fun u => (s.dev.capUnit u).records.any (fun r => !r.granted)) = some u) ∧ ((s.dev.capUnit u).records.findIdx? (fun r => !r.granted) = some i) ∧ ((s.dev.capUnit u).records[i]? = some r)) ∧
    (∃ (s : State) (u : Fin 16), (bitAt (s.dev.get ACQ_APPLY.APPLY) u.val = true)) ∧
    (∃ (s : State) (u : Fin 16), (bitAt (s.dev.get ACQ_APPLY.APPLY) u.val = false) ∧ (s.dev.capState u.val ≠ 0 ∨ s.dev.capRule u.val ≠ none)) ∧
    (∃ (s : State) (u : Fin 16), (bitAt (s.dev.get ACQ_APPLY.APPLY) u.val = false) ∧ (s.dev.capState u.val = 0) ∧ (s.dev.capRule u.val = none)) ∧
    (∃ (s : State) (p : Packet) (p' : Packet) (d' : Dev) (u : _) (d1 : Dev) (d2 : Dev), (Runs opConfigCapture p s.dev p' d') ∧ (u = par p' 22 1) ∧ (d1 = d'.forN 7 (fun i => Dev.plainWrite (ACQ_U_CTRL u + 4 * i) (par p' (24 + 4 * i) 4))) ∧ (d2 = d1.forN (2 * p'.len.toNat) (fun i d => (d.plainWrite (ACQ_DESC_LO u i) (ext p' (8 * i) 4)).plainWrite (ACQ_DESC_HI u i) (ext p' (8 * i + 4) 4))) ∧ (16 ≤ u)) ∧
    (∃ (s : State) (p : Packet) (p' : Packet) (d' : Dev) (u : _) (d1 : Dev) (d2 : Dev), (Runs opConfigCapture p s.dev p' d') ∧ (u = par p' 22 1) ∧ (d1 = d'.forN 7 (fun i => Dev.plainWrite (ACQ_U_CTRL u + 4 * i) (par p' (24 + 4 * i) 4))) ∧ (d2 = d1.forN (2 * p'.len.toNat) (fun i d => (d.plainWrite (ACQ_DESC_LO u i) (ext p' (8 * i) 4)).plainWrite (ACQ_DESC_HI u i) (ext p' (8 * i + 4) 4))) ∧ (u < 16) ∧ (d'.capState u ≠ 0 ∨ bitAt (d'.get ACQ_APPLY.APPLY) u = true)) ∧
    (∃ (s : State) (p : Packet) (p' : Packet) (d' : Dev) (u : _) (d1 : Dev) (d2 : Dev), (Runs opConfigCapture p s.dev p' d') ∧ (u = par p' 22 1) ∧ (d1 = d'.forN 7 (fun i => Dev.plainWrite (ACQ_U_CTRL u + 4 * i) (par p' (24 + 4 * i) 4))) ∧ (d2 = d1.forN (2 * p'.len.toNat) (fun i d => (d.plainWrite (ACQ_DESC_LO u i) (ext p' (8 * i) 4)).plainWrite (ACQ_DESC_HI u i) (ext p' (8 * i + 4) 4))) ∧ (u < 16) ∧ (d'.capState u = 0) ∧ (bitAt (d'.get ACQ_APPLY.APPLY) u = false) ∧ (d2.capRule u = none)) ∧
    (∃ (s : State) (p : Packet) (p' : Packet) (d' : Dev) (u : _) (d1 : Dev) (d2 : Dev) (r : Nat), (Runs opConfigCapture p s.dev p' d') ∧ (u = par p' 22 1) ∧ (d1 = d'.forN 7 (fun i => Dev.plainWrite (ACQ_U_CTRL u + 4 * i) (par p' (24 + 4 * i) 4))) ∧ (d2 = d1.forN (2 * p'.len.toNat) (fun i d => (d.plainWrite (ACQ_DESC_LO u i) (ext p' (8 * i) 4)).plainWrite (ACQ_DESC_HI u i) (ext p' (8 * i + 4) 4))) ∧ (u < 16) ∧ (d'.capState u = 0) ∧ (bitAt (d'.get ACQ_APPLY.APPLY) u = false) ∧ (d2.capRule u = some r)) ∧
    (∃ (s : State) (p : Packet) (p' : Packet) (d' : Dev) (n : _) (id : _) (at_ : _) (d1 : Dev), (Runs opArm p s.dev p' d') ∧ (n = (d'.acq.arms + 1) % 2 ^ 24) ∧ (id = d'.sys.index * 2 ^ 24 + n) ∧ (at_ = (if hasFlag p' 2 then some p'.execAt.toNat else none)) ∧ (d1 = ({ d' with acq := { d'.acq with arms := n } } : Dev)) ∧ (bitAt (par p' 24 1) 0 = true) ∧ (16 ≤ par p' 25 1)) ∧
    (∃ (s : State) (p : Packet) (p' : Packet) (d' : Dev) (n : _) (id : _) (at_ : _) (d1 : Dev), (Runs opArm p s.dev p' d') ∧ (n = (d'.acq.arms + 1) % 2 ^ 24) ∧ (id = d'.sys.index * 2 ^ 24 + n) ∧ (at_ = (if hasFlag p' 2 then some p'.execAt.toNat else none)) ∧ (d1 = ({ d' with acq := { d'.acq with arms := n } } : Dev)) ∧ (bitAt (par p' 24 1) 0 = false) ∧ (hasFlag p' 2 = false)) ∧
    (∃ (s : State) (p : Packet) (p' : Packet) (d' : Dev) (n : _) (id : _) (at_ : _) (d1 : Dev) (r : Nat × Dev), (Runs opArm p s.dev p' d') ∧ (n = (d'.acq.arms + 1) % 2 ^ 24) ∧ (id = d'.sys.index * 2 ^ 24 + n) ∧ (at_ = (if hasFlag p' 2 then some p'.execAt.toNat else none)) ∧ (d1 = ({ d' with acq := { d'.acq with arms := n } } : Dev)) ∧ (bitAt (par p' 24 1) 0 = false) ∧ (r = d1.armUnits (unitsOf (par p' 22 2)) id at_ p'.tol.toNat (par p' 26 2))) ∧
    (∃ (s : State) (p : Packet) (p' : Packet) (d' : Dev) (n : _) (id : _) (at_ : _) (d1 : Dev) (g : Nat) (r : Nat × Dev) (path : (Bool × Bool) × Dev) (d2 : Dev) (d3 : Dev) (d4 : Dev), (Runs opArm p s.dev p' d') ∧ (n = (d'.acq.arms + 1) % 2 ^ 24) ∧ (id = d'.sys.index * 2 ^ 24 + n) ∧ (at_ = (if hasFlag p' 2 then some p'.execAt.toNat else none)) ∧ (d1 = ({ d' with acq := { d'.acq with arms := n } } : Dev)) ∧ (bitAt (par p' 24 1) 0 = true) ∧ (g = par p' 25 1) ∧ (g < 16) ∧ (r = d1.armUnits (d1.groupUnits g) id at_ p'.tol.toNat (par p' 26 2)) ∧ (path = r.2.groupPath g) ∧ (d2 = ({ path.2 with acq := { path.2.acq with seen := path.2.acq.seen ++ [(0x12, g, id)], groups := (path.2.acq.groups.filter (fun (x : Nat × Nat × Nat) => x.1 != g)) ++ [(g, p'.tol.toNat, par p' 26 2)] } } : Dev)) ∧ (d3 = d2.when path.1.1 (Dev.floodTrunks 0x12 (leBytes 1 g ++ leBytes 1 (flag at_.isSome) ++ leBytes 1 r.2.sys.index ++ [0] ++ leBytes 4 id ++ leBytes 10 (at_.getD 0) ++ leBytes 4 p'.tol.toNat ++ leBytes 2 (par p' 26 2)) none)) ∧ (d4 = d3.when path.1.2 (Dev.sendTbus 1 g d3.now))) ∧
    (∃ (s : State) (p : Packet) (p' : Packet) (d' : Dev), (Runs opDisarm p s.dev p' d') ∧ (bitAt (par p' 24 1) 0 = true) ∧ (16 ≤ par p' 25 1)) ∧
    (∃ (s : State) (p : Packet) (p' : Packet) (d' : Dev), (Runs opDisarm p s.dev p' d') ∧ (bitAt (par p' 24 1) 0 = false)) ∧
    (∃ (s : State) (p : Packet) (p' : Packet) (d' : Dev) (g : Nat) (id : Nat) (d1 : Dev) (path : (Bool × Bool) × Dev) (d2 : Dev) (d3 : Dev) (d4 : Dev), (Runs opDisarm p s.dev p' d') ∧ (bitAt (par p' 24 1) 0 = true) ∧ (g = par p' 25 1) ∧ (g < 16) ∧ (id = (((d'.groupUnits g).head?).map (fun u => d'.rd (ACQ_U_ARM_ID u))).getD 0) ∧ (d1 = d'.forEach (d'.groupUnits g) Dev.disarm) ∧ (path = d1.groupPath g) ∧ (d2 = ({ path.2 with acq := { path.2.acq with seen := path.2.acq.seen ++ [(0x14, g, id)] } } : Dev)) ∧ (d3 = d2.when path.1.1 (Dev.floodTrunks 0x14 (leBytes 1 g ++ leBytes 1 d2.sys.index ++ zeros 2 ++ leBytes 4 id) none)) ∧ (d4 = d3.when path.1.2 (Dev.sendTbus 3 g d3.now))) ∧
    (∃ (s : State) (p : Packet) (p' : Packet) (d' : Dev), (Runs opForceFire p s.dev p' d')) ∧
    (∃ (s : State) (p : Packet) (p' : Packet) (d' : Dev) (t : Nat) (n : _) (used : _), (Runs opLoadMask p s.dev p' d') ∧ (t = par p' 22 1) ∧ (n = par p' 32 4) ∧ (used = ((List.range 16).any (fun u => d'.capState u != 0 && bitAt (d'.lrd (ACQ_U_CTRL u)) 20 && d'.lget (ACQ_U_CTRL.MASK_TABLE u) == t))) ∧ (16 ≤ t)) ∧
    (∃ (s : State) (p : Packet) (p' : Packet) (d' : Dev) (t : Nat) (n : _) (used : _), (Runs opLoadMask p s.dev p' d') ∧ (t = par p' 22 1) ∧ (n = par p' 32 4) ∧ (used = ((List.range 16).any (fun u => d'.capState u != 0 && bitAt (d'.lrd (ACQ_U_CTRL u)) 20 && d'.lget (ACQ_U_CTRL.MASK_TABLE u) == t))) ∧ (t < 16) ∧ (1048576 < n ∨ n < 32)) ∧
    (∃ (s : State) (p : Packet) (p' : Packet) (d' : Dev) (t : Nat) (n : _) (used : _), (Runs opLoadMask p s.dev p' d') ∧ (t = par p' 22 1) ∧ (n = par p' 32 4) ∧ (used = ((List.range 16).any (fun u => d'.capState u != 0 && bitAt (d'.lrd (ACQ_U_CTRL u)) 20 && d'.lget (ACQ_U_CTRL.MASK_TABLE u) == t))) ∧ (t < 16) ∧ (32 ≤ n) ∧ (n ≤ 1048576) ∧ (used = true)) ∧
    (∃ (s : State) (p : Packet) (p' : Packet) (d' : Dev) (t : Nat) (n : _) (used : _), (Runs opLoadMask p s.dev p' d') ∧ (t = par p' 22 1) ∧ (n = par p' 32 4) ∧ (used = ((List.range 16).any (fun u => d'.capState u != 0 && bitAt (d'.lrd (ACQ_U_CTRL u)) 20 && d'.lget (ACQ_U_CTRL.MASK_TABLE u) == t))) ∧ (t < 16) ∧ (32 ≤ n) ∧ (n ≤ 1048576) ∧ (used = false) ∧ ((d'.sys.package.map (·.dramCapture)).getD 0 < 16777216)) ∧
    (∃ (s : State) (p : Packet) (p' : Packet) (d' : Dev) (t : Nat) (n : _) (used : _) (bs : List Byte) (b : List Byte) (fits : Bool), (Runs opLoadMask p s.dev p' d') ∧ (t = par p' 22 1) ∧ (n = par p' 32 4) ∧ (used = ((List.range 16).any (fun u => d'.capState u != 0 && bitAt (d'.lrd (ACQ_U_CTRL u)) 20 && d'.lget (ACQ_U_CTRL.MASK_TABLE u) == t))) ∧ (t < 16) ∧ (32 ≤ n) ∧ (n ≤ 1048576) ∧ (used = false) ∧ (16777216 ≤ (d'.sys.package.map (·.dramCapture)).getD 0) ∧ (p'.host = some bs) ∧ (b = padTo n bs) ∧ (n = 32 + 8 * fieldAt b 1 1 * fieldAt b 2 2) ∧ (fits = (fieldAt b 0 1 == t && decide (1 ≤ fieldAt b 1 1) && decide (fieldAt b 1 1 ≤ 8) && decide (1 ≤ fieldAt b 2 2) && decide (fieldAt b 2 2 ≤ 4096) && decide (fieldAt b 4 1 ≤ 1) && decide (1 ≤ fieldAt b 5 1) && (if fieldAt b 4 1 = 0 then decide (1 ≤ fieldAt b 8 4) else decide (1 ≤ fieldAt b 8 8)))) ∧ (fits = true)) ∧
    (∃ (s : State) (p : Packet) (p' : Packet) (d' : Dev) (t : Nat) (n : _) (used : _) (bs : List Byte) (b : List Byte) (fits : Bool), (Runs opLoadMask p s.dev p' d') ∧ (t = par p' 22 1) ∧ (n = par p' 32 4) ∧ (used = ((List.range 16).any (fun u => d'.capState u != 0 && bitAt (d'.lrd (ACQ_U_CTRL u)) 20 && d'.lget (ACQ_U_CTRL.MASK_TABLE u) == t))) ∧ (t < 16) ∧ (32 ≤ n) ∧ (n ≤ 1048576) ∧ (used = false) ∧ (16777216 ≤ (d'.sys.package.map (·.dramCapture)).getD 0) ∧ (p'.host = some bs) ∧ (b = padTo n bs) ∧ (n = 32 + 8 * fieldAt b 1 1 * fieldAt b 2 2) ∧ (fits = (fieldAt b 0 1 == t && decide (1 ≤ fieldAt b 1 1) && decide (fieldAt b 1 1 ≤ 8) && decide (1 ≤ fieldAt b 2 2) && decide (fieldAt b 2 2 ≤ 4096) && decide (fieldAt b 4 1 ≤ 1) && decide (1 ≤ fieldAt b 5 1) && (if fieldAt b 4 1 = 0 then decide (1 ≤ fieldAt b 8 4) else decide (1 ≤ fieldAt b 8 8)))) ∧ (fits = false)) ∧
    (∃ (s : State) (p : Packet) (p' : Packet) (d' : Dev) (t : Nat) (n : _) (used : _) (bs : List Byte) (b : List Byte), (Runs opLoadMask p s.dev p' d') ∧ (t = par p' 22 1) ∧ (n = par p' 32 4) ∧ (used = ((List.range 16).any (fun u => d'.capState u != 0 && bitAt (d'.lrd (ACQ_U_CTRL u)) 20 && d'.lget (ACQ_U_CTRL.MASK_TABLE u) == t))) ∧ (t < 16) ∧ (32 ≤ n) ∧ (n ≤ 1048576) ∧ (used = false) ∧ (16777216 ≤ (d'.sys.package.map (·.dramCapture)).getD 0) ∧ (p'.host = some bs) ∧ (b = padTo n bs) ∧ (n ≠ 32 + 8 * fieldAt b 1 1 * fieldAt b 2 2)) :=
  ⟨⟨capS 0 id, 0, by decide +kernel⟩,
   ⟨capS 1 (fun c => { c with armAt := 9, nextId := some 7 }), 0, by decide +kernel⟩,
   ⟨capS 1 id, 0, .inl (by decide +kernel)⟩,
   ⟨capS 2 id, 0, by decide +kernel⟩,
   ⟨capS 2 (fun c => { c with n := 9, records := [⟨[], 0, 9, true⟩] }), 0, _, rfl, by decide +kernel⟩,
   ⟨capS 3 id, 0, by decide +kernel⟩,
   ⟨capS 3 (fun c => { c with offers := [(5, false)] }), 0, _, _, _, _, rfl, rfl, by decide +kernel⟩,
   ⟨at_ 7 (fun d => ((d.set (ACQ_U_STATE.STATE 0) 3).goLive (ACQ_U_CTRL 0) 0x05000010).setCap 0 { d.capUnit 0 with offers := [(5, false)] }), 0, _, _, _, _, _, rfl, rfl, by decide +kernel, rfl⟩,
   ⟨at_ 7 (fun d => ((d.set (ACQ_U_STATE.STATE 0) 2).goLive (ACQ_U_CTRL 0) 0xFF000014).setCap 0 { d.capUnit 0 with offers := [(5, false)] }), 0, _, _, _, _, rfl, rfl, by decide +kernel⟩,
   ⟨capS 2 (fun c => { c with offers := [(5, false)] }), 0, _, _, _, _, rfl, rfl, by decide +kernel⟩,
   ⟨capS 5 (fun c => { c with offers := [(5, false)] }), 0, _, _, _, _, rfl, rfl, .inr (by decide +kernel)⟩,
   ⟨capS 0 (fun c => { c with offers := [(5, false)] }), 0, _, _, _, _, rfl, rfl, by decide +kernel⟩,
   ⟨capS 3 id, 15, by decide +kernel⟩,
   ⟨capS 3 (fun c => { c with records := [⟨[], 0, 9, true⟩] }), 0, _, _, _, rfl, rfl, rfl, .inl (by decide +kernel)⟩,
   ⟨at_ 7 (fun d => ((d.set (ACQ_U_STATE.STATE 0) 5).goLive (ACQ_U_CTRL 0) 0xFF000012).setCap 0 { d.capUnit 0 with records := [⟨[], 0, 9, true⟩] }), 0, _, _, _, rfl, rfl, rfl, by decide +kernel⟩,
   ⟨at_ 7 (fun d => ((d.set (ACQ_U_STATE.STATE 0) 5).goLive (ACQ_U_CTRL 0) 0xFF000010).setCap 0 { d.capUnit 0 with records := [⟨[], 0, 9, true⟩] }), 0, _, _, _, rfl, rfl, rfl, by decide +kernel, by decide +kernel, .inl (by decide +kernel)⟩,
   ⟨at_ 7 (fun d => d.set ACQ_POOL.FREE 0), .inl (by decide +kernel)⟩,
   ⟨capS 5 (fun c => { c with records := [⟨[], 0, 9, false⟩] }), 0, 0, ⟨[], 0, 9, false⟩, by decide +kernel⟩,
   ⟨at_ 7 (fun d => d.set ACQ_APPLY.APPLY 0x8000), 15, by decide +kernel⟩,
   ⟨capS 1 id, 0, by decide +kernel, .inl (by decide +kernel)⟩,
   ⟨at_ 7 (fun d => withCap (((d.wr (ACQ_U_CTRL 0) 0x10).wr (ACQ_DESC_LO 0 0) 1).wr (ACQ_U_RING 0) 0x100001)), 0, by decide +kernel⟩,
   ⟨at_ 7 id, pk [(22, 1, 16)], _, _, _, _, _, runs_plain _ _ _ (by decide +kernel), rfl, rfl, rfl, by decide +kernel⟩,
   ⟨capS 1 id, pk [(22, 1, 0)], _, _, _, _, _, runs_plain _ _ _ (by decide +kernel), rfl, rfl, rfl, by decide +kernel, .inl (by decide +kernel)⟩,
   ⟨at_ 7 withCap, pkx 1 [1] [(22, 1, 0), (24, 4, 0x10), (44, 4, 0x100001)], _, _, _, _, _, runs_plain _ _ _ (by decide +kernel), rfl, rfl, rfl, by decide +kernel⟩,
   ⟨at_ 7 withCap, pk [(22, 1, 0)], _, _, _, _, _, _, runs_plain _ _ _ (by decide +kernel), rfl, rfl, rfl, by decide +kernel, by decide +kernel, by decide +kernel, rfl⟩,
   ⟨at_ 7 id, pk [(24, 1, 1), (25, 1, 16)], _, _, _, _, _, _, runs_plain _ _ _ (by decide +kernel), rfl, rfl, rfl, rfl, by decide +kernel⟩,
   ⟨at_ 7 id, pk [(22, 2, 0xFFFF)], _, _, _, _, _, _, runs_plain _ _ _ (by decide +kernel), rfl, rfl, rfl, rfl, by decide +kernel⟩,
   ⟨at_ 7 id, pk [(22, 2, 0xFFFF)], _, _, _, _, _, _, _, runs_plain _ _ _ (by decide +kernel), rfl, rfl, rfl, rfl, by decide +kernel, rfl⟩,
   ⟨at_ 7 (fun d => d.goLive (ACQ_U_CTRL 0) 0x05000010), pk [(24, 1, 1), (25, 1, 5)], _, _, _, _, _, _, _, _, _, _, _, _, runs_plain _ _ _ (by decide +kernel), rfl, rfl, rfl, rfl, by decide +kernel, rfl, by decide +kernel, rfl, rfl, rfl, rfl, rfl⟩,
   ⟨at_ 7 id, pk [(24, 1, 1), (25, 1, 16)], _, _, runs_plain _ _ _ (by decide +kernel), by decide +kernel⟩,
   ⟨at_ 7 id, pk [(22, 2, 0xFFFF)], _, _, runs_plain _ _ _ (by decide +kernel), by decide +kernel⟩,
   ⟨at_ 7 (fun d => d.goLive (ACQ_U_CTRL 0) 0x05000010), pk [(24, 1, 1), (25, 1, 5)], _, _, _, _, _, _, _, _, _, runs_plain _ _ _ (by decide +kernel), by decide +kernel, rfl, by decide +kernel, rfl, rfl, rfl, rfl, rfl, rfl⟩,
   ⟨at_ 7 id, pk [(22, 2, 0xFFFF)], _, _, runs_plain _ _ _ (by decide +kernel)⟩,
   ⟨at_ 7 id, pk [(22, 1, 16)], _, _, _, _, _, runs_plain _ _ _ (by decide +kernel), rfl, rfl, rfl, by decide +kernel⟩,
   ⟨at_ 7 id, pk [(22, 1, 15), (32, 4, 31)], _, _, _, _, _, runs_plain _ _ _ (by decide +kernel), rfl, rfl, rfl, by decide +kernel, .inr (by decide +kernel)⟩,
   ⟨at_ 7 (fun d => (d.set (ACQ_U_STATE.STATE 0) 3).goLive (ACQ_U_CTRL 0) 0xFF100010), pk [(22, 1, 0), (32, 4, 40)], _, _, _, _, _, runs_plain _ _ _ (by decide +kernel), rfl, rfl, rfl, by decide +kernel⟩,
   ⟨at_ 7 id, pk [(22, 1, 15), (32, 4, 40)], _, _, _, _, _, runs_plain _ _ _ (by decide +kernel), rfl, rfl, rfl, by decide +kernel⟩,
   ⟨at_ 7 withCap, { pk [(22, 1, 15), (32, 4, 40)] with host := some (bytesAt 40 [(0, 1, 15), (1, 1, 1), (2, 2, 1), (5, 1, 1), (8, 4, 1)]) }, _, _, _, _, _, _, _, _, runs_plain _ _ _ (by decide +kernel), rfl, rfl, rfl, by decide +kernel, by decide +kernel, by decide +kernel, by decide +kernel, by decide +kernel, rfl, rfl, by decide +kernel, rfl, by decide +kernel⟩,
   ⟨at_ 7 withCap, { pk [(22, 1, 15), (32, 4, 40)] with host := some (bytesAt 40 [(0, 1, 15), (1, 1, 1), (2, 2, 1), (5, 1, 0), (8, 4, 1)]) }, _, _, _, _, _, _, _, _, runs_plain _ _ _ (by decide +kernel), rfl, rfl, rfl, by decide +kernel, by decide +kernel, by decide +kernel, by decide +kernel, by decide +kernel, rfl, rfl, by decide +kernel, rfl, by decide +kernel⟩,
   ⟨at_ 7 withCap, { pk [(22, 1, 15), (32, 4, 48)] with host := some (bytesAt 40 [(0, 1, 15), (1, 1, 1), (2, 2, 1), (5, 1, 1), (8, 4, 1)]) }, _, _, _, _, _, _, _, runs_plain _ _ _ (by decide +kernel), rfl, rfl, rfl, by decide +kernel, by decide +kernel, by decide +kernel, by decide +kernel, by decide +kernel, rfl, rfl, by decide +kernel⟩⟩
/-- A witness for each clause of CaptureCrossesControllers. -/
theorem test_witness_CaptureCrossesControllers :
    (∃ (b : List Byte), (b.length ≠ 24 ∨ 16 ≤ fieldAt b 0 1)) ∧
    (∃ (b : List Byte), (b.length ≠ 8 ∨ 16 ≤ fieldAt b 0 1)) ∧
    (∃ (s : State) (b : List Byte), (s.dev.acq.seen.contains (0x12, fieldAt b 0 1, fieldAt b 4 4) = true)) ∧
    (∃ (s : State) (b : List Byte), (s.dev.acq.seen.contains (0x14, fieldAt b 0 1, fieldAt b 4 4) = true)) ∧
    (∃ (s : State) (k : Fin 2) (b : List Byte) (d1 : Dev), (b.length = 24) ∧ (fieldAt b 0 1 < 16) ∧ (s.dev.acq.seen.contains (0x12, fieldAt b 0 1, fieldAt b 4 4) = false) ∧ (d1 = Dev.floodTrunks 0x12 b (some k.val) ({ s.dev with acq := { s.dev.acq with seen := s.dev.acq.seen ++ [(0x12, fieldAt b 0 1, fieldAt b 4 4)], groups := (s.dev.acq.groups.filter (fun (x : Nat × Nat × Nat) => x.1 != fieldAt b 0 1)) ++ [(fieldAt b 0 1, fieldAt b 18 4, fieldAt b 22 2)] } } : Dev)) ∧ (bitAt (fieldAt b 1 1) 0 = false)) ∧
    (∃ (s : State) (k : Fin 2) (b : List Byte) (d1 : Dev), (b.length = 24) ∧ (fieldAt b 0 1 < 16) ∧ (s.dev.acq.seen.contains (0x12, fieldAt b 0 1, fieldAt b 4 4) = false) ∧ (d1 = Dev.floodTrunks 0x12 b (some k.val) ({ s.dev with acq := { s.dev.acq with seen := s.dev.acq.seen ++ [(0x12, fieldAt b 0 1, fieldAt b 4 4)], groups := (s.dev.acq.groups.filter (fun (x : Nat × Nat × Nat) => x.1 != fieldAt b 0 1)) ++ [(fieldAt b 0 1, fieldAt b 18 4, fieldAt b 22 2)] } } : Dev)) ∧ (bitAt (fieldAt b 1 1) 0 = true)) ∧
    (∃ (s : State) (b : List Byte), (b.length = 24) ∧ (fieldAt b 0 1 < 16) ∧ (s.dev.acq.fires.any (fun f => f.1 == fieldAt b 4 4 && decide (f.2 ≤ fieldAt b 8 10)) = true)) ∧
    (∃ (s : State) (b : List Byte) (d1 : Dev), (b.length = 24) ∧ (fieldAt b 0 1 < 16) ∧ (s.dev.acq.fires.any (fun f => f.1 == fieldAt b 4 4 && decide (f.2 ≤ fieldAt b 8 10)) = false) ∧ (d1 = ({ s.dev with acq := { s.dev.acq with fires := putKey (fieldAt b 4 4) (fieldAt b 8 10) s.dev.acq.fires } } : Dev))) ∧
    (∃ (s : State) (k : Fin 2) (b : List Byte) (d1 : Dev), (b.length = 8) ∧ (fieldAt b 0 1 < 16) ∧ (s.dev.acq.seen.contains (0x14, fieldAt b 0 1, fieldAt b 4 4) = false) ∧ (d1 = Dev.floodTrunks 0x14 b (some k.val) ({ s.dev with acq := { s.dev.acq with seen := s.dev.acq.seen ++ [(0x14, fieldAt b 0 1, fieldAt b 4 4)] } } : Dev))) ∧
    (∃ (s : State), (s.dev.on TDC_TBUS_CTRL.EN = false)) ∧
    (∃ (s : State) (rx : BitVec 80) (b : BitVec 32) (slot : Nat) (code : Nat) (d0 : Dev) (d1 : Dev), (s.dev.on TDC_TBUS_CTRL.EN = true) ∧ (((List.range 32).map (fun i => flag (bitAt b.toNat i))).sum % 2 = 0) ∧ (slot = bitsOf b.toNat 12 8) ∧ (code = bitsOf b.toNat 24 13) ∧ (d0 = ({ s.dev with acq := { s.dev.acq with busBusy := rx.toNat + ns 3400, d0 := putKey slot code s.dev.acq.d0, d0Cal := if s.dev.acq.d0Cal.any (fun x => x.1 == slot) then s.dev.acq.d0Cal else putKey slot code s.dev.acq.d0Cal } } : Dev)) ∧ (d1 = d0.showTbusStale) ∧ (bitsOf b.toNat 3 0 = 2)) ∧
    (∃ (s : State) (rx : BitVec 80) (b : BitVec 32) (slot : Nat) (code : Nat) (d0 : Dev) (d1 : Dev), (s.dev.on TDC_TBUS_CTRL.EN = true) ∧ (((List.range 32).map (fun i => flag (bitAt b.toNat i))).sum % 2 = 0) ∧ (slot = bitsOf b.toNat 12 8) ∧ (code = bitsOf b.toNat 24 13) ∧ (d0 = ({ s.dev with acq := { s.dev.acq with busBusy := rx.toNat + ns 3400, d0 := putKey slot code s.dev.acq.d0, d0Cal := if s.dev.acq.d0Cal.any (fun x => x.1 == slot) then s.dev.acq.d0Cal else putKey slot code s.dev.acq.d0Cal } } : Dev)) ∧ (d1 = d0.showTbusStale) ∧ (bitsOf b.toNat 3 0 = 3)) ∧
    (∃ (s : State) (rx : BitVec 80) (b : BitVec 32) (slot : Nat) (code : Nat) (d0 : Dev) (d1 : Dev), (s.dev.on TDC_TBUS_CTRL.EN = true) ∧ (((List.range 32).map (fun i => flag (bitAt b.toNat i))).sum % 2 = 0) ∧ (slot = bitsOf b.toNat 12 8) ∧ (code = bitsOf b.toNat 24 13) ∧ (d0 = ({ s.dev with acq := { s.dev.acq with busBusy := rx.toNat + ns 3400, d0 := putKey slot code s.dev.acq.d0, d0Cal := if s.dev.acq.d0Cal.any (fun x => x.1 == slot) then s.dev.acq.d0Cal else putKey slot code s.dev.acq.d0Cal } } : Dev)) ∧ (d1 = d0.showTbusStale) ∧ (bitsOf b.toNat 3 0 = 6)) ∧
    (∃ (s : State) (b : BitVec 32), (s.dev.on TDC_TBUS_CTRL.EN = true) ∧ (((List.range 32).map (fun i => flag (bitAt b.toNat i))).sum % 2 = 1) ∧ (bitsOf b.toNat 3 0 ≠ 2)) ∧
    (∃ (s : State), (s.dev.on TDC_TBUS_CTRL.EN = false)) ∧
    (∃ (s : State), (s.dev.acq.tbusAsked = false) ∧ (s.dev.on TDC_TBUS_CTRL.TBUS_BG = false ∨ s.dev.now < s.dev.acq.busBusy)) ∧
    (∃ (s : State), (s.dev.on TDC_TBUS_CTRL.EN = true) ∧ (s.dev.acq.tbusAsked = false) ∧ (s.dev.on TDC_TBUS_CTRL.TBUS_BG = true) ∧ (s.dev.acq.busBusy ≤ s.dev.now)) ∧
    (∃ (s : State), (s.dev.on TDC_TBUS_CTRL.EN = true) ∧ (s.dev.acq.tbusAsked = true)) ∧
    (∃ (s : State), (s.dev.on TDC_TBUS_CTRL.EN = true) ∧ (s.dev.acq.tbusAsked = true)) ∧
    (∃ (s : State) (r : Fin 32), ((s.dev.regCh r.val).marks = [])) ∧
    (∃ (s : State) (r : Fin 32) (m : LTime) (rest : List LTime) (c : RegCh) (d1 : Dev) (e : Int × Option Int), (c = s.dev.regCh r.val) ∧ (c.marks = m :: rest) ∧ (d1 = s.dev.setReg r.val { c with marks := rest }) ∧ (e = regError c.params (d1.markPosition (d1.axisLive (regField c.params 24 2) pREG_MASTER) m)) ∧ (e.2 = none ∨ s.dev.permit = false ∨ s.dev.sync = false)) ∧
    (∃ (s : State) (r : Fin 32) (m : LTime) (rest : List LTime) (c : RegCh) (d1 : Dev) (e : Int × Option Int) (v : _), (c = s.dev.regCh r.val) ∧ (c.marks = m :: rest) ∧ (d1 = s.dev.setReg r.val { c with marks := rest }) ∧ (e = regError c.params (d1.markPosition (d1.axisLive (regField c.params 24 2) pREG_MASTER) m)) ∧ (e.2 = some v) ∧ (s.dev.permit = true) ∧ (s.dev.sync = true)) ∧
    (∃ (s : State) (p : Packet) (p' : Packet) (d' : Dev), (Runs opConfigReg p s.dev p' d') ∧ (32 ≤ par p' 22 1)) ∧
    (∃ (s : State) (p : Packet) (p' : Packet) (d' : Dev), (Runs opConfigReg p s.dev p' d') ∧ (par p' 22 1 < 32) ∧ (d'.on MIR_STATUS.BULK = true)) ∧
    (∃ (s : State) (p : Packet) (p' : Packet) (d' : Dev), (Runs opConfigReg p s.dev p' d') ∧ (par p' 22 1 < 32) ∧ (d'.on MIR_STATUS.BULK = false) ∧ (d'.regRule (par p' 22 1) (padTo 38 p'.par) = none)) ∧
    (∃ (s : State) (p : Packet) (p' : Packet) (d' : Dev) (k : _), (Runs opConfigReg p s.dev p' d') ∧ (par p' 22 1 < 32) ∧ (d'.on MIR_STATUS.BULK = false) ∧ (d'.regRule (par p' 22 1) (padTo 38 p'.par) = some k)) ∧
    (∃ (s : State) (p : Packet) (p' : Packet) (d' : Dev) (k : _), (Runs opCalibratePaths p s.dev p' d') ∧ (k = par p' 22 1) ∧ (2 < k)) ∧
    (∃ (s : State) (p : Packet) (p' : Packet) (d' : Dev) (k : _) (d1 : Dev), (Runs opCalibratePaths p s.dev p' d') ∧ (k = par p' 22 1) ∧ (k ≤ 2) ∧ (d1 = d'.when (k != 1) (Dev.forN 16 (fun n d => d.when (bitAt (par p' 24 2) n) (Dev.setTdc n { d.tdcIn n with asked := true })))) ∧ (k = 0)) ∧
    (∃ (s : State) (p : Packet) (p' : Packet) (d' : Dev) (k : _) (d1 : Dev), (Runs opCalibratePaths p s.dev p' d') ∧ (k = par p' 22 1) ∧ (k ≤ 2) ∧ (d1 = d'.when (k != 1) (Dev.forN 16 (fun n d => d.when (bitAt (par p' 24 2) n) (Dev.setTdc n { d.tdcIn n with asked := true })))) ∧ (1 ≤ k) ∧ (d1.on TDC_TBUS_CTRL.EN = true)) ∧
    (∃ (s : State) (p : Packet) (p' : Packet) (d' : Dev) (k : _) (d1 : Dev), (Runs opCalibratePaths p s.dev p' d') ∧ (k = par p' 22 1) ∧ (k ≤ 2) ∧ (d1 = d'.when (k != 1) (Dev.forN 16 (fun n d => d.when (bitAt (par p' 24 2) n) (Dev.setTdc n { d.tdcIn n with asked := true })))) ∧ (1 ≤ k) ∧ (d1.on TDC_TBUS_CTRL.EN = false)) :=
  ⟨⟨zeros 23, .inl (by decide)⟩,
   ⟨leBytes 8 16, .inr (by decide)⟩,
   ⟨at_ 7 (fun d => { d with acq := { d.acq with seen := [(0x12, 0, 0)] } }), zeros 24, by decide +kernel⟩,
   ⟨at_ 7 (fun d => { d with acq := { d.acq with seen := [(0x14, 0, 0)] } }), zeros 8, by decide +kernel⟩,
   ⟨at_ 7 id, 0, zeros 24, _, by decide +kernel, by decide +kernel, by decide +kernel, rfl, by decide +kernel⟩,
   ⟨at_ 7 id, 0, leBytes 24 0x10F, _, by decide +kernel, by decide +kernel, by decide +kernel, rfl, by decide +kernel⟩,
   ⟨at_ 7 (fun d => { d with acq := { d.acq with fires := [(0, 0)] } }), zeros 24, by decide +kernel⟩,
   ⟨at_ 7 id, zeros 24, _, by decide +kernel, by decide +kernel, by decide +kernel, rfl⟩,
   ⟨at_ 7 id, 0, leBytes 8 15, _, by decide +kernel, by decide +kernel, by decide +kernel, rfl⟩,
   ⟨at_ 7 id, by decide +kernel⟩,
   ⟨at_ 7 (fun d => d.set TDC_TBUS_CTRL.EN 1), 0x10000000000, 0x80000002, _, _, _, _, by decide +kernel, by decide +kernel, rfl, rfl, rfl, rfl, by decide +kernel⟩,
   ⟨at_ 7 (fun d => d.set TDC_TBUS_CTRL.EN 1), 0x10000000000, 0x3, _, _, _, _, by decide +kernel, by decide +kernel, rfl, rfl, rfl, rfl, by decide +kernel⟩,
   ⟨at_ 7 (fun d => d.set TDC_TBUS_CTRL.EN 1), 0x10000000000, 0x6, _, _, _, _, by decide +kernel, by decide +kernel, rfl, rfl, rfl, rfl, by decide +kernel⟩,
   ⟨at_ 7 (fun d => d.set TDC_TBUS_CTRL.EN 1), 0x80000003, by decide +kernel⟩,
   ⟨at_ 7 id, by decide +kernel⟩,
   ⟨at_ 7 (fun d => (d.set TDC_TBUS_CTRL.EN 1).set TDC_TBUS_CTRL.TBUS_BG 0), by decide +kernel, .inl (by decide +kernel)⟩,
   ⟨at_ 7 (fun d => (d.set TDC_TBUS_CTRL.EN 1).set TDC_TBUS_CTRL.TBUS_BG 1), by decide +kernel⟩,
   ⟨at_ 7 (fun d => Dev.set TDC_TBUS_CTRL.EN 1 { d with acq := { d.acq with tbusAsked := true } }), by decide +kernel⟩,
   ⟨at_ 7 (fun d => Dev.set TDC_TBUS_CTRL.EN 1 { d with acq := { d.acq with tbusAsked := true } }), by decide +kernel⟩,
   ⟨at_ 7 id, 31, by decide +kernel⟩,
   ⟨at_ 4 (fun d => { d with acq := { d.acq with regs := [(31, { RegCh.reset with marks := [5] })] } }), 31, _, _, _, _, _, rfl, rfl, rfl, rfl, .inr (.inl (by decide +kernel))⟩,
   ⟨at_ 7 (fun d => Dev.set SYS_MODE.PERMIT 1 { d with acq := { d.acq with regs := [(31, { RegCh.reset with params := padTo 38 (leBytes 10 31 ++ leBytes 8 4096 ++ leBytes 8 0 ++ leBytes 8 2048 ++ leBytes 4 0x3F800000), marks := [5] })] } }), 31, _, _, _, _, _, _, rfl, rfl, rfl, rfl, rfl, by decide +kernel⟩,
   ⟨at_ 7 id, pk [(22, 1, 32)], _, _, runs_plain _ _ _ (by decide +kernel), by decide +kernel⟩,
   ⟨at_ 7 (fun d => d.set MIR_STATUS.BULK 1), pk [(22, 1, 31)], _, _, runs_plain _ _ _ (by decide +kernel), by decide +kernel⟩,
   ⟨at_ 7 (fun d => (d.goLive (AX 0 pREG_MASTER) 2).goLive (TDC_IN_CTRL 0) 1), pk [(22, 1, 31), (26, 1, 1), (32, 8, 2), (56, 4, 0x3F800000)], _, _, runs_plain _ _ _ (by decide +kernel), by decide +kernel⟩,
   ⟨at_ 7 id, pk [(22, 1, 31)], _, _, _, runs_plain _ _ _ (by decide +kernel), by decide +kernel, by decide +kernel, rfl⟩,
   ⟨at_ 7 id, pk [(22, 1, 3)], _, _, _, runs_plain _ _ _ (by decide +kernel), rfl, by decide +kernel⟩,
   ⟨at_ 7 id, pk [(24, 2, 0x8001)], _, _, _, _, runs_plain _ _ _ (by decide +kernel), rfl, by decide +kernel, rfl, by decide +kernel⟩,
   ⟨at_ 7 (fun d => d.set TDC_TBUS_CTRL.EN 1), pk [(22, 1, 2), (24, 2, 0x8001)], _, _, _, _, runs_plain _ _ _ (by decide +kernel), rfl, by decide +kernel, rfl, by decide +kernel⟩,
   ⟨at_ 7 id, pk [(22, 1, 1), (24, 2, 0x8001)], _, _, _, _, runs_plain _ _ _ (by decide +kernel), rfl, by decide +kernel, rfl, by decide +kernel⟩⟩
/-- A witness for each clause of StoreDrivesAndFlushesGoOn. -/
theorem test_witness_StoreDrivesAndFlushesGoOn :
    (∃ (s : State) (i : Fin 4), (s.dev.dState i.val ≠ 0 ∨ bitAt (s.dev.get CLK_NVM_REFCLK.EN) i.val = false)) ∧
    (∃ (s : State) (i : Fin 4), (s.dev.dState i.val = 0) ∧ (bitAt (s.dev.get CLK_NVM_REFCLK.EN) i.val = true)) ∧
    (∃ (s : State) (i : Fin 4), (s.dev.dState i.val = 0)) ∧
    (∃ (s : State) (i : Fin 4), (s.dev.dState i.val ≠ 0)) ∧
    (∃ (s : State) (i : Fin 4) (k : Nat), ((s.dev.drive i.val).ops[k]? = none)) ∧
    (∃ (s : State) (i : Fin 4) (k : Nat) (op : NvOp), ((s.dev.drive i.val).ops[k]? = some op)) ∧
    (∃ (n : Nat) (r : Rec) (d : Dev), (d.sto.writing.find? (fun y => y.num == n) = some r) ∧ (n ≠ 0) ∧ (1 < r.left)) ∧
    (∃ (n : Nat) (r : Rec) (d : Dev), (d.sto.writing.find? (fun y => y.num == n) = some r) ∧ (n ≠ 0) ∧ (r.left ≤ 1)) ∧
    (∃ (st : Nat), (st ≠ 0)) ∧
    (∃ (s : State) (i : Fin 4) (trains : Bool) (again : Bool), (trains = (decide (s.dev.dState i.val ≤ 1) && (s.dev.drive i.val).ops.isEmpty && (match s.dev.sto.job with | some j => j.waiting.contains i.val | none => false))) ∧ (again = (match (s.dev.drive i.val).timeout with | some t => decide (s.dev.now ≤ t + ns 10000000000) | none => false)) ∧ ((s.dev.drive i.val).ops = []) ∧ (trains = false)) ∧
    (∃ (s : State) (i : Fin 4) (trains : Bool) (again : Bool), (trains = (decide (s.dev.dState i.val ≤ 1) && (s.dev.drive i.val).ops.isEmpty && (match s.dev.sto.job with | some j => j.waiting.contains i.val | none => false))) ∧ (again = (match (s.dev.drive i.val).timeout with | some t => decide (s.dev.now ≤ t + ns 10000000000) | none => false)) ∧ ((s.dev.drive i.val).ops ≠ [] ∨ trains = true) ∧ (s.dev.dState i.val ≤ 2 ∨ again = true)) ∧
    (∃ (s : State) (i : Fin 4) (trains : Bool) (again : Bool), (trains = (decide (s.dev.dState i.val ≤ 1) && (s.dev.drive i.val).ops.isEmpty && (match s.dev.sto.job with | some j => j.waiting.contains i.val | none => false))) ∧ (again = (match (s.dev.drive i.val).timeout with | some t => decide (s.dev.now ≤ t + ns 10000000000) | none => false)) ∧ ((s.dev.drive i.val).ops ≠ []) ∧ (3 ≤ s.dev.dState i.val) ∧ (again = false)) ∧
    (∃ (s : State), (s.dev.sto.flush ≠ none ∨ s.dev.sto.writing ++ s.dev.sto.written = [] ∨ s.dev.drivesIn 3 = [])) ∧
    (∃ (s : State), (s.dev.sto.flush = none) ∧ (s.dev.sto.writing ++ s.dev.sto.written ≠ []) ∧ (s.dev.drivesIn 3 ≠ [])) ∧
    (∃ (s : State), (s.dev.ledger.compacting = none)) ∧
    (∃ (s : State) (b : Nat), (s.dev.ledger.compacting = some b)) :=
  ⟨⟨at_ 7 (fun d => d.set (STO_D_STATUS.STATE 3) 1), 3, .inl (by decide +kernel)⟩,
   ⟨at_ 7 (fun d => d.set CLK_NVM_REFCLK.EN 8), 3, by decide +kernel⟩,
   ⟨at_ 7 id, 3, by decide +kernel⟩,
   ⟨at_ 7 (fun d => d.set (STO_D_STATUS.STATE 3) 3), 3, by decide +kernel⟩,
   ⟨at_ 7 id, 3, 0, by decide +kernel⟩,
   ⟨at_ 7 (fun d => { d with sto := { d.sto with drives := [(3, { Drive.reset with ops := [.flush] })] } }), 3, 0, .flush, by decide +kernel⟩,
   ⟨1, _, { (at_ 7 id).dev with sto := { (at_ 7 id).dev.sto with writing := [⟨1, 0, [], 2, 1, 0, false, []⟩] } }, rfl, by decide +kernel⟩,
   ⟨1, _, { (at_ 7 id).dev with sto := { (at_ 7 id).dev.sto with writing := [⟨1, 0, [], 1, 1, 0, false, []⟩] } }, rfl, by decide +kernel⟩,
   ⟨1, by decide +kernel⟩,
   ⟨at_ 7 id, 3, _, _, rfl, rfl, by decide +kernel⟩,
   ⟨at_ 7 (fun d => { d with sto := { d.sto with drives := [(3, { Drive.reset with ops := [.flush] })] } }), 3, _, _, rfl, rfl, .inl (by decide +kernel), .inl (by decide +kernel)⟩,
   ⟨at_ 7 (fun d => Dev.set (STO_D_STATUS.STATE 3) 3 { d with sto := { d.sto with drives := [(3, { Drive.reset with ops := [.flush, .write 1 1 [7] false] })] } }), 3, _, _, rfl, rfl, by decide +kernel⟩,
   ⟨at_ 7 id, .inr (.inl rfl)⟩,
   ⟨at_ 7 (fun d => driveWith 1 { d with sto := { d.sto with written := [⟨1, 0, [], 1, 1, 0, false, []⟩] } }), by decide +kernel⟩,
   ⟨at_ 7 id, by decide +kernel⟩,
   ⟨at_ 7 (fun d => { d with ledger := { d.ledger with compacting := some 9, active := 1 } }), _, rfl⟩⟩
/-- A witness for each clause of StorePacketsTakeEffect. -/
theorem test_witness_StorePacketsTakeEffect (hg : nullCipher) :
    (∃ (s : State) (p : Packet) (p' : Packet) (d' : Dev) (op : _) (mask : _), (Runs opMountStore p s.dev p' d') ∧ (op = par p' 22 1) ∧ (mask = (List.range 4).filter (bitAt (par p' 23 1))) ∧ (2 < op ∨ 16 ≤ par p' 23 1)) ∧
    (∃ (s : State) (p : Packet) (p' : Packet) (d' : Dev) (op : _) (mask : _), (Runs opMountStore p s.dev p' d') ∧ (op = par p' 22 1) ∧ (mask = (List.range 4).filter (bitAt (par p' 23 1))) ∧ (op ≤ 2) ∧ (par p' 23 1 < 16) ∧ (d'.sto.job ≠ none ∨ d'.sto.unmounting ≠ none)) ∧
    (∃ (s : State) (p : Packet) (p' : Packet) (d' : Dev) (op : _) (mask : _), (Runs opMountStore p s.dev p' d') ∧ (op = par p' 22 1) ∧ (mask = (List.range 4).filter (bitAt (par p' 23 1))) ∧ (op = 0) ∧ (par p' 23 1 < 16) ∧ (d'.sto.job = none) ∧ (d'.sto.unmounting = none)) ∧
    (∃ (s : State) (p : Packet) (p' : Packet) (d' : Dev) (op : _) (mask : _) (asked : Bool), (Runs opMountStore p s.dev p' d') ∧ (op = par p' 22 1) ∧ (mask = (List.range 4).filter (bitAt (par p' 23 1))) ∧ (op = 1) ∧ (par p' 23 1 < 16) ∧ (d'.sto.job = none) ∧ (d'.sto.unmounting = none) ∧ (asked = (!d'.sto.flushNext.isEmpty || (match d'.sto.flush with | some f => !f.refs.isEmpty | none => false))) ∧ (asked = true)) ∧
    (∃ (s : State) (p : Packet) (p' : Packet) (d' : Dev) (op : _) (mask : _) (asked : Bool), (Runs opMountStore p s.dev p' d') ∧ (op = par p' 22 1) ∧ (mask = (List.range 4).filter (bitAt (par p' 23 1))) ∧ (op = 1) ∧ (par p' 23 1 < 16) ∧ (d'.sto.job = none) ∧ (d'.sto.unmounting = none) ∧ (asked = (!d'.sto.flushNext.isEmpty || (match d'.sto.flush with | some f => !f.refs.isEmpty | none => false))) ∧ (asked = false)) ∧
    (∃ (s : State) (p : Packet) (p' : Packet) (d' : Dev) (op : _) (mask : _) (works : Bool), (Runs opMountStore p s.dev p' d') ∧ (op = par p' 22 1) ∧ (mask = (List.range 4).filter (bitAt (par p' 23 1))) ∧ (op = 2) ∧ (par p' 23 1 < 16) ∧ (d'.sto.job = none) ∧ (d'.sto.unmounting = none) ∧ (works = ((d'.sto.writing ++ d'.sto.written).any (fun r => mask.contains r.drive) || mask.any (fun i => !(d'.drive i).ops.isEmpty))) ∧ (works = true)) ∧
    (∃ (s : State) (p : Packet) (p' : Packet) (d' : Dev) (op : _) (mask : _) (works : Bool), (Runs opMountStore p s.dev p' d') ∧ (op = par p' 22 1) ∧ (mask = (List.range 4).filter (bitAt (par p' 23 1))) ∧ (op = 2) ∧ (par p' 23 1 < 16) ∧ (d'.sto.job = none) ∧ (d'.sto.unmounting = none) ∧ (works = ((d'.sto.writing ++ d'.sto.written).any (fun r => mask.contains r.drive) || mask.any (fun i => !(d'.drive i).ops.isEmpty))) ∧ (works = false)) ∧
    (∃ (s : State) (p : Packet) (p' : Packet) (d' : Dev) (fl : _) (i : _) (au : _), (Runs opReadRecord p s.dev p' d') ∧ (fl = par p' 50 1) ∧ (i = par p' 22 1) ∧ (au = par p' 24 4) ∧ (8 ≤ fl)) ∧
    (∃ (s : State) (p : Packet) (p' : Packet) (d' : Dev) (fl : _) (i : _) (au : _), (Runs opReadRecord p s.dev p' d') ∧ (fl = par p' 50 1) ∧ (i = par p' 22 1) ∧ (au = par p' 24 4) ∧ (fl < 8) ∧ (bitAt fl 2 = true) ∧ (4 ≤ i ∨ d'.dState i ≠ 3 ∨ (d'.drive i).n ≤ au)) ∧
    (∃ (s : State) (p : Packet) (p' : Packet) (d' : Dev) (fl : _) (i : _) (au : _), (Runs opReadRecord p s.dev p' d') ∧ (fl = par p' 50 1) ∧ (i = par p' 22 1) ∧ (au = par p' 24 4) ∧ (fl < 8) ∧ (bitAt fl 2 = true) ∧ (i < 4) ∧ (d'.dState i = 3) ∧ (au < (d'.drive i).n)) ∧
    (∃ (s : State) (p : Packet) (p' : Packet) (d' : Dev) (n : _), (Runs opReadRecord p s.dev p' d') ∧ (n = par p' 22 8) ∧ (par p' 50 1 < 4) ∧ (d'.ha 7 = true ∨ d'.driveOf n = none ∨ d'.sto.writing.any (fun r => r.num == n) = true)) ∧
    (∃ (s : State) (p : Packet) (p' : Packet) (d' : Dev) (n : _) (i : Nat), (Runs opReadRecord p s.dev p' d') ∧ (n = par p' 22 8) ∧ (par p' 50 1 < 4) ∧ (d'.ha 7 = false) ∧ (d'.driveOf n = some i) ∧ (d'.sto.writing.any (fun r => r.num == n) = false)) ∧
    (∃ (s : State) (p : Packet) (p' : Packet) (d' : Dev) (kind : _), (Runs opListRecords p s.dev p' d') ∧ (kind = par p' 40 1) ∧ (2 < kind)) ∧
    (∃ (s : State) (p : Packet) (p' : Packet) (d' : Dev) (kind : _) (aus : List (Nat × Nat)), (Runs opListRecords p s.dev p' d') ∧ (kind = par p' 40 1) ∧ (kind ≤ 2) ∧ (d'.ha 7 = true) ∧ (aus = (d'.drivesIn 3).flatMap (fun i => (List.range (min (d'.drive i).dws (d'.drive i).n)).map (fun k => (i, (d'.rd (STO_D_WPTR i) + (d'.drive i).n - 1 - k) % max 1 (d'.drive i).n))))) ∧
    (∃ (s : State) (p : Packet) (p' : Packet) (d' : Dev) (kind : _) (ns_ : List Nat), (Runs opListRecords p s.dev p' d') ∧ (kind = par p' 40 1) ∧ (kind ≤ 2) ∧ (d'.ha 7 = false) ∧ (ns_ = (d'.recordsWith (fun e => decide (par p' 22 8 ≤ e.num) && (kind == 0 || e.kind == kind))).filter (fun n => !d'.sto.writing.any (fun r => r.num == n)))) ∧
    (∃ (s : State) (p : Packet) (p' : Packet) (d' : Dev) (bs : List Byte), (Runs opListRecords p s.dev p' d') ∧ (par p' 40 1 = 0) ∧ (d'.ha 7 = false) ∧ (d'.recordsWith (fun e => decide (par p' 22 8 ≤ e.num)) = []) ∧ (p'.host = some bs)) ∧
    (∃ (s : State) (p : Packet) (p' : Packet) (d' : Dev) (ns_ : _), (Runs opDeleteRecords p s.dev p' d') ∧ (ns_ = (if d'.ha 7 then [] else d'.recordsWith (fun e => decide (par p' 22 8 ≤ e.num) && decide (e.num ≤ par p' 30 8) && (e.state == 2 || (bitAt (par p' 38 1) 0 && e.state == 3))))) ∧ (d'.sto.pinned.any (fun n => par p' 22 8 ≤ n && n ≤ par p' 30 8) = true)) ∧
    (∃ (s : State) (p : Packet) (p' : Packet) (d' : Dev) (ns_ : _), (Runs opDeleteRecords p s.dev p' d') ∧ (ns_ = (if d'.ha 7 then [] else d'.recordsWith (fun e => decide (par p' 22 8 ≤ e.num) && decide (e.num ≤ par p' 30 8) && (e.state == 2 || (bitAt (par p' 38 1) 0 && e.state == 3))))) ∧ (d'.sto.pinned.any (fun n => par p' 22 8 ≤ n && n ≤ par p' 30 8) = false) ∧ (ns_ = [])) ∧
    (∃ (s : State) (p : Packet) (p' : Packet) (d' : Dev) (ns_ : _), (Runs opDeleteRecords p s.dev p' d') ∧ (ns_ = (if d'.ha 7 then [] else d'.recordsWith (fun e => decide (par p' 22 8 ≤ e.num) && decide (e.num ≤ par p' 30 8) && (e.state == 2 || (bitAt (par p' 38 1) 0 && e.state == 3))))) ∧ (d'.sto.pinned.any (fun n => par p' 22 8 ≤ n && n ≤ par p' 30 8) = false) ∧ (ns_ ≠ [])) ∧
    (∃ (s : State) (p : Packet) (p' : Packet) (d' : Dev), (Runs opFlushStore p s.dev p' d') ∧ (d'.sto.unmounting ≠ none)) ∧
    (∃ (s : State) (p : Packet) (p' : Packet) (d' : Dev), (Runs opFlushStore p s.dev p' d') ∧ (d'.sto.unmounting = none) ∧ (d'.drivesIn 3 = [])) ∧
    (∃ (s : State) (p : Packet) (p' : Packet) (d' : Dev), (Runs opFlushStore p s.dev p' d') ∧ (d'.sto.unmounting = none) ∧ (d'.drivesIn 3 ≠ []) ∧ (d'.sto.flush ≠ none)) ∧
    (∃ (s : State) (p : Packet) (p' : Packet) (d' : Dev), (Runs opFlushStore p s.dev p' d') ∧ (d'.sto.unmounting = none) ∧ (d'.drivesIn 3 ≠ []) ∧ (d'.sto.flush = none)) ∧
    (∃ (s : State) (p : Packet) (p' : Packet) (d' : Dev) (op : _), (Runs opCompactLedger p s.dev p' d') ∧ (op = par p' 22 1) ∧ (2 < op)) ∧
    (∃ (s : State) (p : Packet) (p' : Packet) (d' : Dev) (op : _), (Runs opCompactLedger p s.dev p' d') ∧ (op = par p' 22 1) ∧ (op ≤ 2) ∧ (d'.ledger.compacting ≠ none)) ∧
    (∃ (s : State) (p : Packet) (p' : Packet) (d' : Dev) (op : _), (Runs opCompactLedger p s.dev p' d') ∧ (op = par p' 22 1) ∧ (op ≤ 2) ∧ (d'.ledger.compacting = none) ∧ ((d'.on LDG_STATUS.CONFLICT = true ↔ op = 0))) ∧
    (∃ (s : State) (p : Packet) (p' : Packet) (d' : Dev) (op : _), (Runs opCompactLedger p s.dev p' d') ∧ (op = par p' 22 1) ∧ (op = 0) ∧ (d'.ledger.compacting = none) ∧ (d'.on LDG_STATUS.CONFLICT = false)) ∧
    (∃ (s : State) (p : Packet) (p' : Packet) (d' : Dev) (op : _) (l : Ledger), (Runs opCompactLedger p s.dev p' d') ∧ (op = par p' 22 1) ∧ (1 ≤ op) ∧ (op ≤ 2) ∧ (d'.ledger.compacting = none) ∧ (d'.on LDG_STATUS.CONFLICT = true) ∧ (l = ({ d'.ledger with active := op - 1 } : Ledger))) ∧
    (∃ (s : State) (p : Packet) (p' : Packet) (d' : Dev) (area : _), (Runs opReadLedger p s.dev p' d') ∧ (area = par p' 31 1) ∧ (2 < area)) ∧
    (∃ (s : State) (p : Packet) (p' : Packet) (d' : Dev) (area : _), (Runs opReadLedger p s.dev p' d') ∧ (area = par p' 31 1) ∧ (area ≤ 2) ∧ (p'.host = none)) ∧
    (∃ (s : State) (p : Packet) (p' : Packet) (d' : Dev) (area : _) (bs : List Byte) (a : LedgerArea) (es : List LedgerEntry) (clear : Bool) (r : List Byte × Option Nat), (Runs opReadLedger p s.dev p' d') ∧ (area = par p' 31 1) ∧ (area ≤ 2) ∧ (p'.host = some bs) ∧ (a = (if area = 0 then d'.ledger.area else if area = 1 then d'.ledger.areaA else d'.ledger.areaB)) ∧ (es = a.journal.filter (fun e => decide (par p' 22 8 ≤ e.seq) && (par p' 30 1 == 0 || e.typ == par p' 30 1))) ∧ (clear = (hasFlag p' 1 && (d'.sec.sessions.any (fun x => x.sid == p'.session.toNat && bitAt x.granted 4)))) ∧ (r = fillEntries clear (par p' 40 4) es)) :=
  ⟨⟨at_ 7 id, pk [(22, 1, 3)], _, _, _, _, runs_plain _ _ _ (by decide +kernel), rfl, rfl, .inl (by decide +kernel)⟩,
   ⟨at_ 7 (fun d => { d with sto := { d.sto with job := some ⟨0, [], [], none⟩ } }), pk [(23, 1, 15)], _, _, _, _, runs_plain _ _ _ (by decide +kernel), rfl, rfl, by decide +kernel, by decide +kernel, .inl (by decide +kernel)⟩,
   ⟨at_ 7 id, pk [(23, 1, 15)], _, _, _, _, runs_plain _ _ _ (by decide +kernel), rfl, rfl, by decide +kernel⟩,
   ⟨at_ 7 (fun d => { d with sto := { d.sto with flush := some ⟨[⟨0, 0, 0, false⟩], [], []⟩ } }), pk [(22, 1, 1), (23, 1, 15)], _, _, _, _, _, runs_plain _ _ _ (by decide +kernel), rfl, rfl, by decide +kernel, by decide +kernel, by decide +kernel, by decide +kernel, rfl, by decide +kernel⟩,
   ⟨at_ 7 id, pk [(22, 1, 1), (23, 1, 15)], _, _, _, _, _, runs_plain _ _ _ (by decide +kernel), rfl, rfl, by decide +kernel, by decide +kernel, by decide +kernel, by decide +kernel, rfl, by decide +kernel⟩,
   ⟨auth 7 (fun d => { d with sto := { d.sto with drives := [(0, { Drive.reset with ops := [.flush] })] } }), pka (pk [(22, 1, 2), (23, 1, 1)]), _, _, _, _, _, runs_auth hg _ _ _ (by decide +kernel), rfl, rfl, by decide +kernel, by decide +kernel, by decide +kernel, by decide +kernel, rfl, by decide +kernel⟩,
   ⟨auth 7 id, pka (pk [(22, 1, 2), (23, 1, 1)]), _, _, _, _, _, runs_auth hg _ _ _ (by decide +kernel), rfl, rfl, by decide +kernel, by decide +kernel, by decide +kernel, by decide +kernel, rfl, by decide +kernel⟩,
   ⟨at_ 7 id, pk [(50, 1, 8)], _, _, _, _, _, runs_plain _ _ _ (by decide +kernel), rfl, rfl, rfl, by decide +kernel⟩,
   ⟨at_ 7 id, pk [(22, 1, 4), (50, 1, 4)], _, _, _, _, _, runs_plain _ _ _ (by decide +kernel), rfl, rfl, rfl, by decide +kernel, by decide +kernel, .inl (by decide +kernel)⟩,
   ⟨at_ 7 (driveWith 1), pk [(22, 1, 0), (24, 4, 3), (50, 1, 4)], _, _, _, _, _, runs_plain _ _ _ (by decide +kernel), rfl, rfl, rfl, by decide +kernel⟩,
   ⟨at_ 7 id, pk [(50, 1, 2)], _, _, _, runs_plain _ _ _ (by decide +kernel), rfl, by decide +kernel, .inr (.inl (by decide +kernel))⟩,
   ⟨at_ 7 (driveWith 1), pk [(22, 8, 1)], _, _, _, _, runs_plain _ _ _ (by decide +kernel), rfl, by decide +kernel, by decide +kernel, rfl, by decide +kernel⟩,
   ⟨at_ 7 id, pk [(40, 1, 3)], _, _, _, runs_plain _ _ _ (by decide +kernel), rfl, by decide +kernel⟩,
   ⟨at_ 7 (fun d => driveWith 1 (d.cond (condHA 7) true)), pk [(30, 2, 9)], _, _, _, _, runs_plain _ _ _ (by decide +kernel), rfl, by decide +kernel, by decide +kernel, rfl⟩,
   ⟨at_ 7 (driveWith 1), pk [(30, 2, 9)], _, _, _, _, runs_plain _ _ _ (by decide +kernel), rfl, by decide +kernel, by decide +kernel, rfl⟩,
   ⟨at_ 7 id, { pk [] with host := some [] }, _, _, _, runs_plain _ _ _ (by decide +kernel), by decide +kernel, by decide +kernel, by decide +kernel, rfl⟩,
   ⟨auth 7 (fun d => { d with sto := { d.sto with pinned := [0] } }), pka (pk []), _, _, _, runs_auth hg _ _ _ (by decide +kernel), rfl, by decide +kernel⟩,
   ⟨auth 7 id, pka (pk [(30, 8, 1)]), _, _, _, runs_auth hg _ _ _ (by decide +kernel), rfl, by decide +kernel⟩,
   ⟨auth 7 (driveWith 0), pka (pk []), _, _, _, runs_auth hg _ _ _ (by decide +kernel), rfl, by decide +kernel⟩,
   ⟨at_ 7 (fun d => { d with sto := { d.sto with unmounting := some ([], ⟨0, 0, 0, false⟩) } }), pk [], _, _, runs_plain _ _ _ (by decide +kernel), by decide +kernel⟩,
   ⟨at_ 7 id, pk [], _, _, runs_plain _ _ _ (by decide +kernel), by decide +kernel⟩,
   ⟨at_ 7 (fun d => driveWith 1 { d with sto := { d.sto with flush := some ⟨[], [], []⟩ } }), pk [], _, _, runs_plain _ _ _ (by decide +kernel), by decide +kernel⟩,
   ⟨at_ 7 (driveWith 1), pk [], _, _, runs_plain _ _ _ (by decide +kernel), by decide +kernel⟩,
   ⟨at_ 7 id, pk [(22, 1, 3)], _, _, _, runs_plain _ _ _ (by decide +kernel), rfl, by decide +kernel⟩,
   ⟨at_ 7 (fun d => { d with ledger := { d.ledger with compacting := some 9 } }), pk [], _, _, _, runs_plain _ _ _ (by decide +kernel), rfl, by decide +kernel⟩,
   ⟨at_ 7 (fun d => d.set LDG_STATUS.CONFLICT 1), pk [], _, _, _, runs_plain _ _ _ (by decide +kernel), rfl, by decide +kernel⟩,
   ⟨at_ 7 (fun d => d.set LDG_STATUS.CONFLICT 0), pk [], _, _, _, runs_plain _ _ _ (by decide +kernel), rfl, by decide +kernel⟩,
   ⟨auth 7 (fun d => d.set LDG_STATUS.CONFLICT 1), pka (pk [(22, 1, 2)]), _, _, _, _, runs_auth hg _ _ _ (by decide +kernel), rfl, by decide +kernel, by decide +kernel, by decide +kernel, by decide +kernel, rfl⟩,
   ⟨at_ 7 id, pk [(31, 1, 3)], _, _, _, runs_plain _ _ _ (by decide +kernel), rfl, by decide +kernel⟩,
   ⟨at_ 7 id, { pk [] with host := none }, _, _, _, runs_plain _ _ _ (by decide +kernel), rfl, by decide +kernel⟩,
   ⟨at_ 7 id, { pk [(31, 1, 2), (40, 4, 4096)] with host := some [] }, _, _, _, _, _, _, _, _, runs_plain _ _ _ (by decide +kernel), rfl, by decide +kernel, rfl, rfl, rfl, rfl, rfl⟩⟩
/-- A witness for each clause of SafetyCyclesInputsAndOutputs. -/
theorem test_witness_SafetyCyclesInputsAndOutputs :
    (∃ (n : Fin 3) (m : Fin 3), (n ≠ m)) ∧
    (∃ (rs : List (Option Bool)) (n : Fin 3) (m : Fin 3) (c : Nat), (n ≠ m) ∧ (vote [n.val, m.val] rs = some c)) ∧
    (∃ (rs : List (Option Bool)) (c : _), (vote [0, 1, 2] rs = some c)) ∧
    (∃ (s : State), ((s.dev.mode < 2 ∨ s.dev.get SAF_STATUS.CH_ACTIVE + s.dev.get SAF_STATUS.CH_FAILED = 0))) ∧
    (∃ (s : State), (2 ≤ s.dev.mode) ∧ (s.dev.get SAF_STATUS.CH_ACTIVE + s.dev.get SAF_STATUS.CH_FAILED ≠ 0) ∧ ((List.range 3).all (fun n => decide (s.dev.get (SAF_CH.STATE n) < 2)) = true) ∧ (s.dev.saf.active = none) ∧ (s.dev.saf.causes = []) ∧ (s.dev.saf.exitDue = false) ∧ ((List.range 4).all (fun n => !(s.dev.sout n).toggling) = true)) ∧
    (∃ (s : State) (r0 : Option Bool) (r1 : Option Bool) (r2 : Option Bool) (c : Nat), (s.dev.get SAF_STATUS.CH_ACTIVE + s.dev.get SAF_STATUS.CH_FAILED ≠ 0) ∧ ([4, 5, 6, 7, 8, 10, 11].contains s.dev.mode = true) ∧ (vote ((List.range 3).filter (fun n => s.dev.get (SAF_CH.STATE n) != 2)) [r0, r1, r2] = some c)) ∧
    (∃ (s : State), ((List.range 8).all (fun n => !s.dev.sinOn n) = true)) ∧
    (∃ (s : State) (n : Fin 8) (mA : Bool) (mB : Bool), (s.dev.sinOn n.val = true) ∧ (mA = s.dev.saf.masks.any (fun m => m.1 == fieldAt (inEntry s.dev.safSet n.val) 1 1 && decide (s.dev.now < m.2))) ∧ (mB = s.dev.saf.masks.any (fun m => m.1 == fieldAt (inEntry s.dev.safSet n.val) 2 1 && decide (s.dev.now < m.2)))) ∧
    (∃ (s : State) (n : Fin 8), (s.dev.sinOn n.val = false ∨ (s.dev.contactOk n.val).1 = (s.dev.contactOk n.val).2)) ∧
    (∃ (s : State) (n : Fin 8), (s.dev.sinOn n.val = true) ∧ ((s.dev.contactOk n.val).1 ≠ (s.dev.contactOk n.val).2)) ∧
    (∃ (s : State), (s.dev.saf.active = none)) ∧
    (∃ (s : State), (s.dev.saf.active ≠ none)) ∧
    (∃ (s : State) (k : Fin 4) (a : BitVec 8) (b : BitVec 8) (n : Fin 8), (s.dev.sinOn n.val = true) ∧ ((fieldAt (inEntry s.dev.safSet n.val) 1 1 = k.val ∧ bitAt a.toNat n.val = true) ∨ (fieldAt (inEntry s.dev.safSet n.val) 2 1 = k.val ∧ bitAt b.toNat n.val = true))) ∧
    (∃ (s : State) (n : Fin 4), (s.dev.saf.active = none ∨ bitAt (fieldAt (outEntry s.dev.safSet n.val) 0 1) 0 = false)) ∧
    (∃ (s : State) (n : Fin 4), (s.dev.saf.active ≠ none) ∧ (bitAt (fieldAt (outEntry s.dev.safSet n.val) 0 1) 0 = true) ∧ ((s.dev.sout n.val).toggling = false)) ∧
    (∃ (s : State) (n : Fin 4) (a : Bool) (b : Bool), (s.dev.saf.active ≠ none) ∧ (bitAt (fieldAt (outEntry s.dev.safSet n.val) 0 1) 0 = true) ∧ ((s.dev.sout n.val).toggling = false) ∧ (a = true ∨ b = true)) ∧
    (∃ (s : State) (n : Fin 4), (s.dev.saf.active ≠ none) ∧ (bitAt (fieldAt (outEntry s.dev.safSet n.val) 0 1) 0 = true) ∧ ((s.dev.sout n.val).toggling = true)) ∧
    (∃ (s : State) (n : Fin 4), (s.dev.saf.active ≠ none) ∧ (bitAt (fieldAt (outEntry s.dev.safSet n.val) 0 1) 0 = true) ∧ ((s.dev.sout n.val).toggling = true) ∧ ((s.dev.sout n.val).badA = 0)) ∧
    (∃ (s : State) (n : Fin 4), (s.dev.saf.active ≠ none) ∧ (bitAt (fieldAt (outEntry s.dev.safSet n.val) 0 1) 0 = true) ∧ ((s.dev.sout n.val).toggling = true) ∧ ((s.dev.sout n.val).badA = 1)) ∧
    (∃ (s : State) (r1 : BitVec 16) (r2 : BitVec 16), (s.dev.mode < 2 ∨ r1 ≠ r2)) ∧
    (∃ (s : State), (2 ≤ s.dev.mode) ∧ (s.dev.saf.active = none) ∧ (s.dev.saf.pending = none)) ∧
    (∃ (s : State) (r1 : BitVec 16) (set : _), (2 ≤ s.dev.mode) ∧ (s.dev.saf.active = some set) ∧ (s.dev.saf.pending = none) ∧ (fieldAt set 2 2 = r1.toNat)) ∧
    (∃ (s : State) (r1 : BitVec 16) (set : _), (2 ≤ s.dev.mode) ∧ (s.dev.saf.active = some set) ∧ (s.dev.saf.pending = none) ∧ (fieldAt set 2 2 ≠ r1.toNat)) ∧
    (∃ (s : State) (r1 : BitVec 16) (set : _), (2 ≤ s.dev.mode) ∧ (s.dev.saf.pending = some set) ∧ (fieldAt set 2 2 = r1.toNat)) :=
  ⟨⟨0, 2, by decide +kernel⟩,
   ⟨[], 0, 2, _, by decide +kernel, rfl⟩,
   ⟨[some true], _, rfl⟩,
   ⟨at_ 1 id, .inl (by decide +kernel)⟩,
   ⟨at_ 7 (fun d => d.set SAF_STATUS.CH_ACTIVE 3), by decide +kernel⟩,
   ⟨at_ 7 (fun d => d.set SAF_STATUS.CH_ACTIVE 3), some true, some false, none, _, by decide +kernel, by decide +kernel, rfl⟩,
   ⟨at_ 7 id, by decide +kernel⟩,
   ⟨safS 7 (safSet0 0 [(32, 1, 1)]) id, 0, _, _, by decide +kernel, rfl, rfl⟩,
   ⟨at_ 7 id, 7, .inl (by decide +kernel)⟩,
   ⟨safS 7 (safSet0 0 [(32, 1, 1)]) (fun d => { d with saf := { d.saf with ins := [(0, { SafeIn.reset with a := true })] } }), 0, by decide +kernel⟩,
   ⟨at_ 7 id, by decide +kernel⟩,
   ⟨safS 7 (safSet0 0 []) id, by decide +kernel⟩,
   ⟨safS 7 (safSet0 0 [(32, 1, 1)]) id, 0, 1, 0, 0, by decide +kernel, .inl (by decide +kernel)⟩,
   ⟨at_ 7 id, 3, .inl rfl⟩,
   ⟨safS 7 (safSet0 0 [(96, 1, 1)]) id, 0, by decide +kernel⟩,
   ⟨safS 7 (safSet0 0 [(96, 1, 1)]) id, 0, true, false, by decide +kernel, by decide +kernel, by decide +kernel, .inl rfl⟩,
   ⟨safS 7 (safSet0 0 [(96, 1, 1)]) (fun d => { d with saf := { d.saf with outs := [(0, { SafeOut.reset with toggling := true })] } }), 0, by decide +kernel⟩,
   ⟨safS 7 (safSet0 0 [(96, 1, 1)]) (fun d => { d with saf := { d.saf with outs := [(0, { SafeOut.reset with toggling := true })] } }), 0, by decide +kernel⟩,
   ⟨safS 7 (safSet0 0 [(96, 1, 1)]) (fun d => { d with saf := { d.saf with outs := [(0, { SafeOut.reset with toggling := true, badA := 1 })] } }), 0, by decide +kernel⟩,
   ⟨at_ 7 id, 0, 1, .inr (by decide)⟩,
   ⟨at_ 2 id, by decide +kernel⟩,
   ⟨safS 7 (safSet0 0 []) id, BitVec.ofNat 16 (fieldAt (safSet0 0 []) 2 2), _, by decide +kernel, rfl, by decide +kernel⟩,
   ⟨safS 7 (safSet0 0 []) id, 0, _, by decide +kernel, rfl, by decide +kernel⟩,
   ⟨at_ 4 (fun d => { d with saf := { d.saf with pending := some (safSet0 0 []), causes := [4] } }), BitVec.ofNat 16 (fieldAt (safSet0 0 []) 2 2), _, by decide +kernel, rfl, by decide +kernel⟩⟩
/-- A witness for each clause of SafetyConnectionsAndResets. -/
theorem test_witness_SafetyConnectionsAndResets (hg : nullCipher) :
    (∃ (s : State) (c : Fin 1088) (bs : List Byte), (s.dev.usedConns.contains c.val = false) ∧ (connCount s.dev.safSet ≤ c.val ∨ fieldAt (connEntry s.dev.safSet c.val) 4 1 ≠ 2 ∨ bs.length ≠ 48)) ∧
    (∃ (s : State) (c : Fin 1088) (bs : List Byte), (s.dev.usedConns.contains c.val = false) ∧ (c.val < connCount s.dev.safSet) ∧ (fieldAt (connEntry s.dev.safSet c.val) 4 1 = 2) ∧ (bs.length = 48) ∧ (crc32cFrom (fieldAt (connEntry s.dev.safSet c.val) 0 4) (bs.take 44) = fieldAt bs 44 4)) ∧
    (∃ (s : State) (c : Fin 1088) (bs : List Byte) (recent : List LTime) (d1 : Dev), (s.dev.usedConns.contains c.val = true) ∧ (bs.length ≠ 48 ∨ crc32cFrom (s.dev.pduSeed c.val false) (bs.take 44) ≠ fieldAt bs 44 4) ∧ (recent = ((s.dev.conn c.val).crcAt.filter (fun t => decide (s.dev.now < t + ns 1000000000))) ++ [s.dev.now]) ∧ (d1 = (s.dev.count (SAF_CONN_W1.CRC_ERR c.val) 1).setConn c.val { s.dev.conn c.val with crcAt := recent }) ∧ (recent.length ≤ 10 ∨ s.dev.connState c.val = 0)) ∧
    (∃ (s : State) (c : Fin 1088) (bs : List Byte) (recent : List LTime) (d1 : Dev), (s.dev.usedConns.contains c.val = true) ∧ (bs.length ≠ 48 ∨ crc32cFrom (s.dev.pduSeed c.val false) (bs.take 44) ≠ fieldAt bs 44 4) ∧ (recent = ((s.dev.conn c.val).crcAt.filter (fun t => decide (s.dev.now < t + ns 1000000000))) ++ [s.dev.now]) ∧ (d1 = (s.dev.count (SAF_CONN_W1.CRC_ERR c.val) 1).setConn c.val { s.dev.conn c.val with crcAt := recent }) ∧ (10 < recent.length) ∧ (s.dev.connState c.val ≠ 0)) ∧
    (∃ (s : State) (c : Fin 1088) (bs : List Byte) (ahead : Nat), (s.dev.usedConns.contains c.val = true) ∧ (bs.length = 48) ∧ (crc32cFrom (s.dev.pduSeed c.val false) (bs.take 44) = fieldAt bs 44 4) ∧ (ahead = (fieldAt bs 2 2 + 65536 - s.dev.get (SAF_CONN_W0.SEQ_RX c.val)) % 65536) ∧ (fieldAt bs 0 1 = 1) ∧ (s.dev.connState c.val = 2 ∨ s.dev.connState c.val = 3) ∧ (ahead = 0)) ∧
    (∃ (s : State) (c : Fin 1088) (bs : List Byte) (ahead : Nat), (s.dev.usedConns.contains c.val = true) ∧ (bs.length = 48) ∧ (crc32cFrom (s.dev.pduSeed c.val false) (bs.take 44) = fieldAt bs 44 4) ∧ (ahead = (fieldAt bs 2 2 + 65536 - s.dev.get (SAF_CONN_W0.SEQ_RX c.val)) % 65536) ∧ (fieldAt bs 0 1 = 1) ∧ (s.dev.connState c.val = 2 ∨ s.dev.connState c.val = 3) ∧ (16 < ahead)) ∧
    (∃ (s : State) (c : Fin 1088) (bs : List Byte) (ahead : Nat), (s.dev.usedConns.contains c.val = true) ∧ (bs.length = 48) ∧ (crc32cFrom (s.dev.pduSeed c.val false) (bs.take 44) = fieldAt bs 44 4) ∧ (ahead = (fieldAt bs 2 2 + 65536 - s.dev.get (SAF_CONN_W0.SEQ_RX c.val)) % 65536) ∧ (fieldAt bs 0 1 = 1) ∧ (s.dev.connState c.val = 2 ∨ s.dev.connState c.val = 3) ∧ (1 ≤ ahead) ∧ (ahead ≤ 16)) ∧
    (∃ (s : State) (c : Fin 1088) (bs : List Byte) (ahead : Nat), (s.dev.usedConns.contains c.val = true) ∧ (bs.length = 48) ∧ (crc32cFrom (s.dev.pduSeed c.val false) (bs.take 44) = fieldAt bs 44 4) ∧ (ahead = (fieldAt bs 2 2 + 65536 - s.dev.get (SAF_CONN_W0.SEQ_RX c.val)) % 65536) ∧ (fieldAt bs 0 1 = 1) ∧ (s.dev.connState c.val < 2)) ∧
    (∃ (s : State) (c : Fin 1088) (bs : List Byte) (ahead : Nat), (s.dev.usedConns.contains c.val = true) ∧ (bs.length = 48) ∧ (crc32cFrom (s.dev.pduSeed c.val false) (bs.take 44) = fieldAt bs 44 4) ∧ (ahead = (fieldAt bs 2 2 + 65536 - s.dev.get (SAF_CONN_W0.SEQ_RX c.val)) % 65536) ∧ (fieldAt bs 0 1 = 4) ∧ (s.dev.connState c.val ≠ 0)) ∧
    (∃ (s : State) (c : Fin 1088), (s.dev.usedConns.contains c.val = false ∨ s.dev.connState c.val ≠ 2)) ∧
    (∃ (s : State) (c : Fin 1088), (s.dev.usedConns.contains c.val = true) ∧ (s.dev.connState c.val = 2)) ∧
    (∃ (s : State) (c : Fin 1088) (b : Fin 8) (open_ : Bool), (open_ = (s.dev.usedConns.contains c.val && fieldAt (connEntry s.dev.safSet c.val) 4 1 == 1 && decide (2 ≤ s.dev.connState c.val) && bitAt (s.dev.requested c.val) b.val && !bitAt (fieldAt (s.dev.conn c.val).rx 0 1) b.val)) ∧ (open_ = false)) ∧
    (∃ (s : State) (c : Fin 1088) (b : Fin 8) (open_ : Bool), (open_ = (s.dev.usedConns.contains c.val && fieldAt (connEntry s.dev.safSet c.val) 4 1 == 1 && decide (2 ≤ s.dev.connState c.val) && bitAt (s.dev.requested c.val) b.val && !bitAt (fieldAt (s.dev.conn c.val).rx 0 1) b.val)) ∧ (open_ = true)) ∧
    (∃ (s : State) (c : Fin 1088) (at_ : BitVec 80) (acks : Bool), (acks = (decide (2 ≤ s.dev.mode) && s.dev.usedConns.contains c.val && bitAt (fieldAt (connEntry s.dev.safSet c.val) 5 1) 1 && decide (s.dev.connState c.val = 2) && decide (ns 500000000 ≤ s.dev.now - at_.toNat) && decide (s.dev.now - at_.toNat ≤ ns 5000000000) && (decide (s.dev.saf.lastDemand < at_.toNat) || s.dev.saf.lastDemand == 0))) ∧ (acks = false)) ∧
    (∃ (s : State) (c : Fin 1088) (at_ : BitVec 80) (acks : Bool), (acks = (decide (2 ≤ s.dev.mode) && s.dev.usedConns.contains c.val && bitAt (fieldAt (connEntry s.dev.safSet c.val) 5 1) 1 && decide (s.dev.connState c.val = 2) && decide (ns 500000000 ≤ s.dev.now - at_.toNat) && decide (s.dev.now - at_.toNat ≤ ns 5000000000) && (decide (s.dev.saf.lastDemand < at_.toNat) || s.dev.saf.lastDemand == 0))) ∧ (acks = true)) ∧
    (∃ (s : State), (s.dev.mode < 2)) ∧
    (∃ (s : State) (at_ : BitVec 80) (past : Bool) (acks : Bool) (d1 : Dev), (2 ≤ s.dev.mode) ∧ (past = (match s.dev.saf.stuckEnd with | some t => decide (t + ns 1000000000 ≤ at_.toNat) | none => false)) ∧ (acks = (decide (ns 500000000 ≤ s.dev.now - at_.toNat) && decide (s.dev.now - at_.toNat ≤ ns 5000000000) && (decide (s.dev.saf.lastDemand < at_.toNat) || s.dev.saf.lastDemand == 0))) ∧ (d1 = ({ s.dev.set SAF_STATUS.SACK_LOW 0 with saf := { s.dev.saf with stuckEnd := none } } : Dev).set SAF_STATUS.SACK_STUCK 0) ∧ (s.dev.on SAF_STATUS.SACK_STUCK = true) ∧ (past = false)) ∧
    (∃ (s : State) (at_ : BitVec 80) (past : Bool) (acks : Bool) (d1 : Dev), (2 ≤ s.dev.mode) ∧ (past = (match s.dev.saf.stuckEnd with | some t => decide (t + ns 1000000000 ≤ at_.toNat) | none => false)) ∧ (acks = (decide (ns 500000000 ≤ s.dev.now - at_.toNat) && decide (s.dev.now - at_.toNat ≤ ns 5000000000) && (decide (s.dev.saf.lastDemand < at_.toNat) || s.dev.saf.lastDemand == 0))) ∧ (d1 = ({ s.dev.set SAF_STATUS.SACK_LOW 0 with saf := { s.dev.saf with stuckEnd := none } } : Dev).set SAF_STATUS.SACK_STUCK 0) ∧ (s.dev.on SAF_STATUS.SACK_STUCK = false ∨ past = true) ∧ (acks = false)) ∧
    (∃ (s : State) (at_ : BitVec 80) (past : Bool) (acks : Bool) (d1 : Dev), (2 ≤ s.dev.mode) ∧ (past = (match s.dev.saf.stuckEnd with | some t => decide (t + ns 1000000000 ≤ at_.toNat) | none => false)) ∧ (acks = (decide (ns 500000000 ≤ s.dev.now - at_.toNat) && decide (s.dev.now - at_.toNat ≤ ns 5000000000) && (decide (s.dev.saf.lastDemand < at_.toNat) || s.dev.saf.lastDemand == 0))) ∧ (d1 = ({ s.dev.set SAF_STATUS.SACK_LOW 0 with saf := { s.dev.saf with stuckEnd := none } } : Dev).set SAF_STATUS.SACK_STUCK 0) ∧ (s.dev.on SAF_STATUS.SACK_STUCK = false ∨ past = true) ∧ (acks = true)) ∧
    (∃ (s : State), (s.dev.mode < 2 ∨ s.dev.on SAF_STATUS.SACK_STUCK = true)) ∧
    (∃ (s : State), (2 ≤ s.dev.mode) ∧ (s.dev.on SAF_STATUS.SACK_STUCK = false)) ∧
    (∃ (s : State) (p : Packet) (p' : Packet) (d' : Dev), (Runs opLoadSafety p s.dev p' d') ∧ (65536 < par p' 30 4)) ∧
    (∃ (s : State) (p : Packet) (p' : Packet) (d' : Dev), (Runs opLoadSafety p s.dev p' d') ∧ (par p' 30 4 ≤ 65536) ∧ (p'.host = none)) ∧
    (∃ (s : State) (p : Packet) (p' : Packet) (d' : Dev) (bs : List Byte) (b : List Byte), (Runs opLoadSafety p s.dev p' d') ∧ (par p' 30 4 ≤ 65536) ∧ (p'.host = some bs) ∧ (b = padTo (par p' 30 4) bs) ∧ (setOk b = false)) ∧
    (∃ (s : State) (p : Packet) (p' : Packet) (d' : Dev) (bs : List Byte) (b : List Byte) (r : Nat × Nat), (Runs opLoadSafety p s.dev p' d') ∧ (par p' 30 4 ≤ 65536) ∧ (p'.host = some bs) ∧ (b = padTo (par p' 30 4) bs) ∧ (setOk b = true) ∧ (safetyFail b (d'.lget MIR_CTRL.LEASE) d'.safetyGens = some r)) ∧
    (∃ (s : State) (p : Packet) (p' : Packet) (d' : Dev) (bs : List Byte) (b : List Byte), (Runs opLoadSafety p s.dev p' d') ∧ (par p' 30 4 ≤ 65536) ∧ (p'.host = some bs) ∧ (b = padTo (par p' 30 4) bs) ∧ (setOk b = true) ∧ (safetyFail b (d'.lget MIR_CTRL.LEASE) d'.safetyGens = none)) ∧
    (∃ (s : State) (p : Packet) (p' : Packet) (d' : Dev) (mask : (Nat → Bool) → Nat → Nat), (Runs opGetSafety p s.dev p' d') ∧ (mask = (fun (f : Nat → Bool) (n : Nat) => ((List.range n).map (fun k => if f k then 2 ^ k else 0)).sum))) ∧
    (∃ (s : State) (p : Packet) (p' : Packet) (d' : Dev) (f : _), (Runs opSafeStop p s.dev p' d') ∧ (f = par p' 22 1) ∧ (f ≠ 1) ∧ (f ≠ 2)) ∧
    (∃ (s : State) (p : Packet) (p' : Packet) (d' : Dev) (f : _), (Runs opSafeStop p s.dev p' d') ∧ (f = par p' 22 1) ∧ (f = 1 ∨ f = 2)) ∧
    (∃ (s : State) (p : Packet) (p' : Packet) (d' : Dev), (Runs opOpenConn p s.dev p' d') ∧ (d'.usedConns.contains (par p' 22 2) = false)) ∧
    (∃ (s : State) (p : Packet) (p' : Packet) (d' : Dev) (d1 : Dev), (Runs opOpenConn p s.dev p' d') ∧ (d'.usedConns.contains (par p' 22 2) = true) ∧ (d1 = (((d'.setConn (par p' 22 2) { d'.conn (par p' 22 2) with opened := true, restart := !bitAt (fieldAt (connEntry d'.safSet (par p' 22 2)) 5 1) 0, confirmed := 0 }).set (SAF_CONN_W0.RUN (par p' 22 2)) 0).connTo (par p' 22 2) 1).showSafety)) ∧
    (∃ (s : State) (p : Packet) (p' : Packet) (d' : Dev) (k : _), (Runs opReadSafetyLog p s.dev p' d') ∧ (k = par p' 26 2) ∧ (k = 0 ∨ 1024 < k)) ∧
    (∃ (s : State) (p : Packet) (p' : Packet) (d' : Dev) (k : _) (bs : List Byte) (all : List LedgerEntry) (es : List LedgerEntry), (Runs opReadSafetyLog p s.dev p' d') ∧ (k = par p' 26 2) ∧ (0 < k) ∧ (k ≤ 1024) ∧ (p'.host = some bs) ∧ (all = d'.ledger.area.journal.filter (fun e => e.typ == 6)) ∧ (es = (all.drop (all.length - 4096)).filter (fun e => decide (par p' 22 4 ≤ e.seq)))) :=
  ⟨⟨at_ 7 id, 1087, [], by decide +kernel, .inl (by decide +kernel)⟩,
   ⟨safS 7 (safSet0 1 [(164, 1, 2), (165, 1, 8)]) (fun d => { d with sys := { d.sys with pairEnd := true } }), 0, zeros 44 ++ leBytes 4 (crc32cFrom 0 (zeros 44)), by decide +kernel⟩,
   ⟨connS 2 id, 0, [], _, _, by decide +kernel, .inl (by decide +kernel), rfl, rfl, .inl (by decide +kernel)⟩,
   ⟨connS 2 (fun d => d.setConn 0 { SafConn.reset with crcAt := [0, 0, 0, 0, 0, 0, 0, 0, 0, 0] }), 0, [], _, _, by decide +kernel, .inl (by decide +kernel), rfl, rfl, by decide +kernel⟩,
   ⟨connS 2 id, 0, pdu 1 0, _, by decide +kernel, by decide +kernel, by decide +kernel, rfl, by decide +kernel, .inl (by decide +kernel), by decide +kernel⟩,
   ⟨connS 2 id, 0, pdu 1 17, _, by decide +kernel, by decide +kernel, by decide +kernel, rfl, by decide +kernel, .inl (by decide +kernel), by decide +kernel⟩,
   ⟨connS 2 id, 0, pdu 1 16, _, by decide +kernel, by decide +kernel, by decide +kernel, rfl, by decide +kernel, .inl (by decide +kernel), by decide +kernel⟩,
   ⟨connS 1 id, 0, pdu 1 0, _, by decide +kernel, by decide +kernel, by decide +kernel, rfl, by decide +kernel⟩,
   ⟨connS 1 id, 0, pdu 4 0, _, by decide +kernel, by decide +kernel, by decide +kernel, rfl, by decide +kernel⟩,
   ⟨connS 1 id, 0, .inr (by decide +kernel)⟩,
   ⟨connS 2 id, 0, by decide +kernel⟩,
   ⟨connS 1 id, 0, 7, _, rfl, by decide +kernel⟩,
   ⟨connS 2 id, 0, 0, _, rfl, by decide +kernel⟩,
   ⟨at_ 1 id, 0, 5, _, rfl, by decide +kernel⟩,
   ⟨safS 7 (safSet0 1 [(164, 1, 1), (165, 1, 2)]) (fun d => { d.set (SAF_CONN_W0.STATE 0) 2 with ltm := { d.ltm with now := ns 2000000000 } }), 0, BitVec.ofNat 80 (ns 1000000000), _, rfl, by decide +kernel⟩,
   ⟨at_ 1 id, by decide +kernel⟩,
   ⟨at_ 7 (fun d => d.set SAF_STATUS.SACK_STUCK 1), 5, _, _, _, by decide +kernel, rfl, rfl, rfl, by decide +kernel⟩,
   ⟨at_ 7 id, 5, _, _, _, by decide +kernel, rfl, rfl, rfl, .inl (by decide +kernel), by decide +kernel⟩,
   ⟨at_ 9 (fun d => { d with ltm := { d.ltm with now := ns 2000000000 } }), BitVec.ofNat 80 (ns 1000000000), _, _, _, by decide +kernel, rfl, rfl, rfl, .inl (by decide +kernel), by decide +kernel⟩,
   ⟨at_ 1 id, .inl (by decide +kernel)⟩,
   ⟨at_ 2 id, by decide +kernel⟩,
   ⟨auth 7 id, pka { pk [(30, 4, 65537)] with host := some [] }, _, _, runs_auth hg _ _ _ (by decide +kernel), by decide +kernel⟩,
   ⟨auth 7 id, pka { pk [(30, 4, 160)] with host := none }, _, _, runs_auth hg _ _ _ (by decide +kernel), by decide +kernel⟩,
   ⟨auth 7 id, pka { pk [(30, 4, 160)] with host := some [] }, _, _, _, _, runs_auth hg _ _ _ (by decide +kernel), by decide +kernel, rfl, rfl, by decide +kernel⟩,
   ⟨auth 7 id, pka { pk [(30, 4, 192)] with host := some (safSet0 1 [(164, 1, 1)]) }, _, _, _, _, _, runs_auth hg _ _ _ (by decide +kernel), by decide +kernel, rfl, rfl, by decide +kernel, rfl⟩,
   ⟨auth 7 id, pka { pk [(30, 4, 160)] with host := some (safSet0 0 []) }, _, _, _, _, runs_auth hg _ _ _ (by decide +kernel), by decide +kernel, rfl, rfl, by decide +kernel⟩,
   ⟨at_ 3 id, pk [], _, _, _, runs_plain _ _ _ (by decide +kernel), rfl⟩,
   ⟨safS 7 (safSet0 0 []) id, pk [(22, 1, 3)], _, _, _, runs_plain _ _ _ (by decide +kernel), rfl, by decide +kernel⟩,
   ⟨safS 7 (safSet0 0 []) id, pk [(22, 1, 2)], _, _, _, runs_plain _ _ _ (by decide +kernel), rfl, .inr (by decide +kernel)⟩,
   ⟨at_ 7 id, pk [(22, 2, 0xFFFF)], _, _, runs_plain _ _ _ (by decide +kernel), by decide +kernel⟩,
   ⟨connS 1 id, pk [], _, _, _, runs_plain _ _ _ (by decide +kernel), by decide +kernel, rfl⟩,
   ⟨at_ 7 id, { pk [] with host := some [] }, _, _, _, runs_plain _ _ _ (by decide +kernel), rfl, .inl (by decide +kernel)⟩,
   ⟨at_ 7 id, { pk [(26, 2, 1024)] with host := some [] }, _, _, _, _, _, _, runs_plain _ _ _ (by decide +kernel), rfl, by decide +kernel, by decide +kernel, rfl, rfl, rfl⟩⟩
/-- A witness for each clause of RingsFollowDoorbellsAndEnables. -/
theorem test_witness_RingsFollowDoorbellsAndEnables :
    (∃ (s : State), (s.dev.ready = false)) ∧
    (∃ (s : State), (s.dev.ready = false)) ∧
    (∃ (s : State) (q : Fin 64) (v : BitVec 16), (s.dev.ready = true) ∧ (v.toNat < ringSize (s.dev.get (HIF_SQ_CFG.SIZE_LOG2 q.val)))) ∧
    (∃ (s : State) (q : Fin 64) (v : BitVec 16), (s.dev.ready = true) ∧ (ringSize (s.dev.get (HIF_SQ_CFG.SIZE_LOG2 q.val)) ≤ v.toNat)) ∧
    (∃ (s : State) (q : Fin 64) (v : BitVec 16), (s.dev.ready = true) ∧ (v.toNat < ringSize (s.dev.get (HIF_CQ_CFG.SIZE_LOG2 q.val)))) ∧
    (∃ (s : State) (q : Fin 64) (v : BitVec 16), (s.dev.ready = true) ∧ (v.toNat < ringSize (s.dev.get (HIF_CQ_CFG.SIZE_LOG2 q.val))) ∧ (s.dev.hif.kept.all (fun r => r.cq != q.val) = true)) ∧
    (∃ (s : State) (q : Fin 64) (v : BitVec 16), (s.dev.ready = true) ∧ (ringSize (s.dev.get (HIF_CQ_CFG.SIZE_LOG2 q.val)) ≤ v.toNat)) ∧
    (∃ (s : State) (v : BitVec 16), (s.dev.ready = true) ∧ (v.toNat < ringSize (s.dev.get HIF_EVT_CFG.SIZE_LOG2))) ∧
    (∃ (s : State) (v : BitVec 16), (s.dev.ready = true) ∧ (ringSize (s.dev.get HIF_EVT_CFG.SIZE_LOG2) ≤ v.toNat)) ∧
    (∃ (s : State) (k : Fin 3) (n : Fin 64), (bitAt (s.dev.rd (ringCfg k.val n.val)) 0 = true)) ∧
    (∃ (s : State) (n : Fin 64) (v : Word) (w : Nat), (s.dev.ready = true) ∧ (bitAt (s.dev.rd (HIF_SQ_CFG n.val)) 0 = false) ∧ (w = cfgBits 0 (withBits v.toNat 0 0 1)) ∧ (s.dev.on (HIF_CQ_CFG.EN (bitsOf w 13 8)) = true)) ∧
    (∃ (s : State) (n : Fin 64) (v : Word) (w : Nat), (s.dev.ready = true) ∧ (bitAt (s.dev.rd (HIF_SQ_CFG n.val)) 0 = false) ∧ (w = cfgBits 0 (withBits v.toNat 0 0 1)) ∧ (s.dev.on (HIF_CQ_CFG.EN (bitsOf w 13 8)) = false)) ∧
    (∃ (s : State) (n : Fin 64), (s.dev.ready = true) ∧ (bitAt (s.dev.rd (HIF_CQ_CFG n.val)) 0 = false)) ∧
    (∃ (s : State) (n : Fin 64), (s.dev.ready = true) ∧ (bitAt (s.dev.rd (HIF_CQ_CFG n.val)) 0 = false) ∧ (s.dev.hif.kept.all (fun r => r.cq != n.val) = true)) ∧
    (∃ (s : State), (s.dev.ready = true) ∧ (bitAt (s.dev.rd HIF_EVT_CFG) 0 = false)) ∧
    (∃ (s : State) (k : Fin 3) (n : Fin 64), (s.dev.ready = true) ∧ (bitAt (s.dev.rd (ringCfg k.val n.val)) 0 = false)) ∧
    (∃ (s : State) (k : Fin 3) (n : Fin 64), (s.dev.ready = true) ∧ (bitAt (s.dev.rd (ringCfg k.val n.val)) 0 = true) ∧ (k.val ≠ 1 ∨ s.dev.boundSqs n.val = [])) ∧
    (∃ (s : State) (n : Fin 64), (s.dev.ready = true) ∧ (s.dev.on (HIF_CQ_CFG.EN n.val) = true) ∧ (s.dev.boundSqs n.val ≠ [])) ∧
    (∃ (s : State) (k : Fin 3) (n : Fin 64), (bitAt (s.dev.rd (ringCfg k.val n.val)) 0 = false)) ∧
    (∃ (s : State) (n : Fin 64), (s.dev.ready = true) ∧ (bitAt (s.dev.rd (HIF_SQ_CFG n.val)) 0 = true)) ∧
    (∃ (s : State) (n : Fin 64) (d1 : Dev), (s.dev.ready = true) ∧ (bitAt (s.dev.rd (HIF_CQ_CFG n.val)) 0 = true) ∧ (d1 = ((s.dev.wr (HIF_CQ_CFG n.val) (withBits (s.dev.rd (HIF_CQ_CFG n.val)) 0 0 0)).count32 HIF_DMA_ERR_CNT 1).set (HIF_CQ_OWED.ERR n.val) 1) ∧ (s.dev.hif.lastReply.find? (fun r => r.cq == n.val) = none)) ∧
    (∃ (s : State) (n : Fin 64) (d1 : Dev) (r : KeptReply), (s.dev.ready = true) ∧ (bitAt (s.dev.rd (HIF_CQ_CFG n.val)) 0 = true) ∧ (d1 = ((s.dev.wr (HIF_CQ_CFG n.val) (withBits (s.dev.rd (HIF_CQ_CFG n.val)) 0 0 0)).count32 HIF_DMA_ERR_CNT 1).set (HIF_CQ_OWED.ERR n.val) 1) ∧ (s.dev.hif.lastReply.find? (fun r => r.cq == n.val) = some r)) ∧
    (∃ (s : State), (s.dev.ready = true) ∧ (bitAt (s.dev.rd HIF_EVT_CFG) 0 = true)) ∧
    (∃ (s : State) (v : Fin 64), (s.dev.hif.vectors.find? (fun p => p.1 == v.val) = none)) ∧
    (∃ (s : State) (v : Fin 64) (k : _) (n : _) (t0 : _), (s.dev.hif.vectors.find? (fun p => p.1 == v.val) = some (k, n, t0))) :=
  ⟨⟨State.reset, by decide +kernel⟩,
   ⟨State.reset, by decide +kernel⟩,
   ⟨at_ 7 id, 63, 15, by decide +kernel⟩,
   ⟨at_ 7 id, 63, 16, by decide +kernel⟩,
   ⟨at_ 7 id, 63, 15, by decide +kernel⟩,
   ⟨at_ 7 id, 63, 15, by decide +kernel⟩,
   ⟨at_ 7 id, 63, 16, by decide +kernel⟩,
   ⟨at_ 7 id, 15, by decide +kernel⟩,
   ⟨at_ 7 (fun d => d.set HIF_EVT_CFG.SIZE_LOG2 0), 16, by decide +kernel⟩,
   ⟨at_ 7 (fun d => d.set (HIF_CQ_CFG.EN 63) 1), 1, 63, by decide +kernel⟩,
   ⟨at_ 7 (fun d => d.set (HIF_CQ_CFG.EN 63) 1), 63, 0x3F00, _, by decide +kernel, by decide +kernel, rfl, by decide +kernel⟩,
   ⟨at_ 7 id, 63, 0x3F00, _, by decide +kernel, by decide +kernel, rfl, by decide +kernel⟩,
   ⟨at_ 7 (fun d => { d with hif := { d.hif with kept := [⟨63, 0, 0, 0, 0, []⟩] } }), 63, by decide +kernel⟩,
   ⟨at_ 7 id, 63, by decide +kernel⟩,
   ⟨at_ 7 id, by decide +kernel⟩,
   ⟨at_ 7 id, 2, 0, by decide +kernel⟩,
   ⟨at_ 7 (fun d => d.set (HIF_CQ_CFG.EN 0) 1), 1, 0, by decide +kernel, by decide +kernel, .inr (by decide +kernel)⟩,
   ⟨at_ 7 (fun d => (d.set (HIF_CQ_CFG.EN 0) 1).set (HIF_SQ_CFG.EN 5) 1), 0, by decide +kernel⟩,
   ⟨at_ 7 id, 0, 63, by decide +kernel⟩,
   ⟨at_ 7 (fun d => d.set (HIF_SQ_CFG.EN 63) 1), 63, by decide +kernel⟩,
   ⟨at_ 7 (fun d => d.set (HIF_CQ_CFG.EN 63) 1), 63, _, by decide +kernel, by decide +kernel, rfl, by decide +kernel⟩,
   ⟨at_ 7 (fun d => Dev.set (HIF_CQ_CFG.EN 63) 1 (Dev.set (HIF_CQ_OWED.COUNT 63) 65535 { d with hif := { d.hif with lastReply := [⟨63, 0, 0, 0, 0, []⟩] } })), 63, _, _, by decide +kernel, by decide +kernel, rfl, rfl⟩,
   ⟨at_ 7 (fun d => d.set HIF_EVT_CFG.EN 1), by decide +kernel⟩,
   ⟨at_ 7 id, 63, by decide +kernel⟩,
   ⟨at_ 7 (fun d => { d with hif := { d.hif with vectors := [(63, 1, 5)] } }), 63, _, _, _, rfl⟩⟩
/-- A witness for each clause of SessionsCertificatesAndDebugScopes. -/
theorem test_witness_SessionsCertificatesAndDebugScopes (hg : nullCipher) :
    (∃ (s : State) (sid : BitVec 16), (s.dev.sec.sessions.any (fun x => x.sid == sid.toNat && x.lapses.isSome) = false)) ∧
    (∃ (s : State) (sid : BitVec 16), (s.dev.sec.sessions.any (fun x => x.sid == sid.toNat && x.lapses.isSome) = true)) ∧
    (∃ (s : State) (p : Packet) (p' : Packet) (d' : Dev) (c : _), (Runs opGetCert p s.dev p' d') ∧ (c = (if par p' 22 1 = 0 then d'.sec.certDev else d'.sec.certCa)) ∧ (1 < par p' 22 1)) ∧
    (∃ (s : State) (p : Packet) (p' : Packet) (d' : Dev) (c : _), (Runs opGetCert p s.dev p' d') ∧ (c = (if par p' 22 1 = 0 then d'.sec.certDev else d'.sec.certCa)) ∧ (par p' 22 1 ≤ 1) ∧ (c = [] ∨ (par p' 22 1 = 0 ∧ certMatches d'.sec.idSecret c = false))) ∧
    (∃ (s : State) (p : Packet) (p' : Packet) (d' : Dev) (c : _), (Runs opGetCert p s.dev p' d') ∧ (c = (if par p' 22 1 = 0 then d'.sec.certDev else d'.sec.certCa)) ∧ (par p' 22 1 ≤ 1) ∧ (c ≠ []) ∧ (par p' 22 1 = 1 ∨ certMatches d'.sec.idSecret c = true) ∧ (par p' 32 2 < outLen p' c.length)) ∧
    (∃ (s : State) (p : Packet) (p' : Packet) (d' : Dev) (c : _) (bs : List Byte), (Runs opGetCert p s.dev p' d') ∧ (c = (if par p' 22 1 = 0 then d'.sec.certDev else d'.sec.certCa)) ∧ (par p' 22 1 ≤ 1) ∧ (c ≠ []) ∧ (par p' 22 1 = 1 ∨ certMatches d'.sec.idSecret c = true) ∧ (outLen p' c.length ≤ par p' 32 2) ∧ (p'.host = some bs)) ∧
    (∃ (s : State) (p : Packet) (p' : Packet) (d' : Dev) (c : _), (Runs opGetCert p s.dev p' d') ∧ (c = (if par p' 22 1 = 0 then d'.sec.certDev else d'.sec.certCa)) ∧ (par p' 22 1 ≤ 1) ∧ (c ≠ []) ∧ (par p' 22 1 = 1 ∨ certMatches d'.sec.idSecret c = true) ∧ (outLen p' c.length ≤ par p' 32 2) ∧ (p'.host = none)) ∧
    (∃ (s : State) (p : Packet) (p' : Packet) (d' : Dev) (body : _) (bs : List Byte), (Runs (opAttest s.fuses) p s.dev p' d') ∧ (body = d'.quoteBody s.fuses (extBytes p' 0 32)) ∧ (p'.host = some bs)) ∧
    (∃ (s : State) (p : Packet) (p' : Packet) (d' : Dev) (body : _), (Runs (opAttest s.fuses) p s.dev p' d') ∧ (body = d'.quoteBody s.fuses (extBytes p' 0 32)) ∧ (p'.host = none)) ∧
    (∃ (s : State) (p : Packet) (p' : Packet) (d' : Dev), (Runs (opOpenSession s.fuses) p s.dev p' d') ∧ (1 < par p' 22 1)) ∧
    (∃ (s : State) (p : Packet) (p' : Packet) (d' : Dev), (Runs (opOpenSession s.fuses) p s.dev p' d') ∧ ((par p' 22 1 = 0 ∧ p'.len.toNat ≠ 9) ∨ (par p' 22 1 = 1 ∧ p'.len.toNat ≠ 13))) ∧
    (∃ (s : State) (p : Packet) (p' : Packet) (d' : Dev), (Runs (opOpenSession s.fuses) p s.dev p' d') ∧ (par p' 22 1 = 0) ∧ (p'.len.toNat = 9) ∧ (8 ≤ d'.sec.sessions.length)) ∧
    (∃ (s : State) (p : Packet) (p' : Packet) (d' : Dev) (bs : List Byte), (Runs (opOpenSession s.fuses) p s.dev p' d') ∧ (par p' 22 1 = 0) ∧ (p'.len.toNat = 9) ∧ (d'.sec.sessions.length < 8) ∧ (p'.host = some bs)) ∧
    (∃ (s : State) (p : Packet) (p' : Packet) (d' : Dev), (Runs (opOpenSession s.fuses) p s.dev p' d') ∧ (par p' 22 1 = 0) ∧ (p'.len.toNat = 9) ∧ (d'.sec.sessions.length < 8) ∧ (p'.host = none)) ∧
    (∃ (s : State) (p : Packet) (p' : Packet) (d' : Dev) (sid : _) (cred : _) (creds : _), (Runs (opOpenSession s.fuses) p s.dev p' d') ∧ (par p' 22 1 = 1) ∧ (p'.len.toNat = 13) ∧ (sid = par p' 24 2) ∧ (cred = par p' 26 1) ∧ (creds = (if d'.mode = 3 then [] else (d'.sys.package.map (·.credentials)).getD [])) ∧ (d'.sec.sessions.find? (fun x => x.sid == sid && x.lapses.isSome) = none ∨ (cred < 4 || (16 ≤ cred && decide (cred - 16 < creds.length))) = false)) ∧
    (∃ (s : State) (p : Packet) (p' : Packet) (d' : Dev) (sid : _) (cred : _) (creds : _) (x : Session) (mask : Option Nat), (Runs (opOpenSession s.fuses) p s.dev p' d') ∧ (par p' 22 1 = 1) ∧ (p'.len.toNat = 13) ∧ (sid = par p' 24 2) ∧ (cred = par p' 26 1) ∧ (creds = (if d'.mode = 3 then [] else (d'.sys.package.map (·.credentials)).getD [])) ∧ (d'.sec.sessions.find? (fun x => x.sid == sid && x.lapses.isSome) = some x) ∧ ((cred < 4 || (16 ≤ cred && decide (cred - 16 < creds.length))) = true) ∧ (mask = (if cred < 4 then (if s.fuses.keyOk cred 2 (extBytes p' 0 97) then some (2 ^ 32 - 1) else none) else match creds[cred - 16]? with | some c => if padTo 48 (Config.sha384 (extBytes p' 0 97)) == padTo 48 c.1 then some c.2 else none | none => none)) ∧ (mask = none)) ∧
    (∃ (s : State) (p : Packet) (p' : Packet) (d' : Dev) (sid : _) (cred : _) (creds : _) (x : Session) (mask : Option Nat) (m : Nat) (g : Nat) (d1 : Dev), (Runs (opOpenSession s.fuses) p s.dev p' d') ∧ (par p' 22 1 = 1) ∧ (p'.len.toNat = 13) ∧ (sid = par p' 24 2) ∧ (cred = par p' 26 1) ∧ (creds = (if d'.mode = 3 then [] else (d'.sys.package.map (·.credentials)).getD [])) ∧ (d'.sec.sessions.find? (fun x => x.sid == sid && x.lapses.isSome) = some x) ∧ ((cred < 4 || (16 ≤ cred && decide (cred - 16 < creds.length))) = true) ∧ (mask = (if cred < 4 then (if s.fuses.keyOk cred 2 (extBytes p' 0 97) then some (2 ^ 32 - 1) else none) else match creds[cred - 16]? with | some c => if padTo 48 (Config.sha384 (extBytes p' 0 97)) == padTo 48 c.1 then some c.2 else none | none => none)) ∧ (mask = some m) ∧ (g = Nat.land x.requested m) ∧ (d1 = (d'.mapSession sid (fun y => { y with granted := g, lapses := none })).showSessions)) ∧
    (∃ (s : State) (p : Packet) (p' : Packet) (d' : Dev), (Runs opCloseSession p s.dev p' d') ∧ (hasFlag p' 1 = true) ∧ (p'.session.toNat = par p' 22 2)) ∧
    (∃ (s : State) (p : Packet) (p' : Packet) (d' : Dev), (Runs opCloseSession p s.dev p' d') ∧ (hasFlag p' 1 = false ∨ p'.session.toNat ≠ par p' 22 2)) ∧
    (∃ (s : State) (p : Packet) (p' : Packet) (d' : Dev) (r : List Byte × Dev), (Runs (opUnlockDebug s.fuses) p s.dev p' d') ∧ (par p' 22 1 = 0) ∧ (r = d'.newChallenge) ∧ (par p' 24 8 = 0)) ∧
    (∃ (s : State) (p : Packet) (p' : Packet) (d' : Dev) (r : List Byte × Dev) (bs : List Byte), (Runs (opUnlockDebug s.fuses) p s.dev p' d') ∧ (par p' 22 1 = 0) ∧ (r = d'.newChallenge) ∧ (par p' 24 8 ≠ 0) ∧ (p'.host = some bs)) ∧
    (∃ (s : State) (p : Packet) (p' : Packet) (d' : Dev) (r : List Byte × Dev), (Runs (opUnlockDebug s.fuses) p s.dev p' d') ∧ (par p' 22 1 = 0) ∧ (r = d'.newChallenge) ∧ (par p' 24 8 ≠ 0) ∧ (p'.host = none)) ∧
    (∃ (s : State) (p : Packet) (p' : Packet) (d' : Dev), (Runs (opUnlockDebug s.fuses) p s.dev p' d') ∧ (1 < par p' 22 1)) ∧
    (∃ (s : State) (p : Packet) (p' : Packet) (d' : Dev), (Runs (opUnlockDebug s.fuses) p s.dev p' d') ∧ (par p' 22 1 = 1) ∧ (p'.host = none)) ∧
    (∃ (s : State) (p : Packet) (p' : Packet) (d' : Dev) (bs : List Byte) (r : Option Nat × Dev), (Runs (opUnlockDebug s.fuses) p s.dev p' d') ∧ (par p' 22 1 = 1) ∧ (p'.host = some bs) ∧ (r = d'.debugToken s.fuses (padTo 352 bs))) ∧
    (∃ (s : State), (s.dev.mode ≠ 3) ∧ (s.dev.mode ≠ 4) ∧ (s.dev.mode ≠ 11)) ∧
    (∃ (s : State), (s.dev.mode = 3 ∨ s.dev.mode = 4 ∨ s.dev.mode = 11)) ∧
    (∃ (s : State) (x : List Byte) (r : Option Nat × Dev), (s.dev.mode = 3 ∨ s.dev.mode = 4 ∨ s.dev.mode = 11) ∧ (r = s.dev.debugToken s.fuses (padTo 352 x))) ∧
    (∃ (f : Fuses) (t : List Byte) (d : Dev) (fits : Bool) (sig : Bool), (fits = (t.take 8 == magicToken && fieldAt t 8 8 == f.serial && d.sec.challenge == some ((t.drop 16).take 32) && decide (fieldAt t 48 1 < 16) && decide (1 ≤ fieldAt t 50 4) && decide (fieldAt t 50 4 ≤ 86400) && f.keyOk (fieldAt t 49 1) 4 (padTo 97 ((t.drop 64).take 97)))) ∧ (sig = Config.ecdsaOk (padTo 97 ((t.drop 64).take 97)) (padTo 256 (t.take 256)) (padTo 96 ((t.drop 256).take 96))) ∧ (3 ≤ d.get SEC_TOKEN_FAIL_CNT.COUNT)) ∧
    (∃ (f : Fuses) (t : List Byte) (d : Dev) (fits : Bool) (sig : Bool), (fits = (t.take 8 == magicToken && fieldAt t 8 8 == f.serial && d.sec.challenge == some ((t.drop 16).take 32) && decide (fieldAt t 48 1 < 16) && decide (1 ≤ fieldAt t 50 4) && decide (fieldAt t 50 4 ≤ 86400) && f.keyOk (fieldAt t 49 1) 4 (padTo 97 ((t.drop 64).take 97)))) ∧ (sig = Config.ecdsaOk (padTo 97 ((t.drop 64).take 97)) (padTo 256 (t.take 256)) (padTo 96 ((t.drop 256).take 96))) ∧ (d.get SEC_TOKEN_FAIL_CNT.COUNT < 3) ∧ (fits = false)) ∧
    (∃ (f : Fuses) (t : List Byte) (d : Dev) (fits : Bool) (sig : Bool), (fits = (t.take 8 == magicToken && fieldAt t 8 8 == f.serial && d.sec.challenge == some ((t.drop 16).take 32) && decide (fieldAt t 48 1 < 16) && decide (1 ≤ fieldAt t 50 4) && decide (fieldAt t 50 4 ≤ 86400) && f.keyOk (fieldAt t 49 1) 4 (padTo 97 ((t.drop 64).take 97)))) ∧ (sig = Config.ecdsaOk (padTo 97 ((t.drop 64).take 97)) (padTo 256 (t.take 256)) (padTo 96 ((t.drop 256).take 96))) ∧ (d.get SEC_TOKEN_FAIL_CNT.COUNT < 3) ∧ (fits = true)) ∧
    (∃ (s : State), (s.dev.sec.scopes = [])) ∧
    (∃ (s : State) (t0 : _), ((s.dev.sec.scopes.map (·.2)).min? = some t0)) :=
  ⟨⟨at_ 7 id, 1, by decide +kernel⟩,
   ⟨at_ 7 (fun d => { d with sec := { d.sec with sessions := [⟨1, [], [], 0, 0, 0, [], 0, some 5⟩] } }), 1, by decide +kernel⟩,
   ⟨at_ 3 id, pk [(22, 1, 2)], _, _, _, runs_plain _ _ _ (by decide +kernel), rfl, by decide +kernel⟩,
   ⟨at_ 3 id, pk [(22, 1, 1)], _, _, _, runs_plain _ _ _ (by decide +kernel), rfl, by decide +kernel, .inl (by decide +kernel)⟩,
   ⟨at_ 3 (fun d => { d with sec := { d.sec with certCa := [5] } }), pk [(22, 1, 1)], _, _, _, runs_plain _ _ _ (by decide +kernel), rfl, by decide +kernel, by decide +kernel, .inl (by decide +kernel), by decide +kernel⟩,
   ⟨at_ 3 (fun d => { d with sec := { d.sec with certCa := [5] } }), { pk [(22, 1, 1), (32, 2, 1)] with host := some [] }, _, _, _, _, runs_plain _ _ _ (by decide +kernel), rfl, by decide +kernel, by decide +kernel, .inl (by decide +kernel), by decide +kernel, rfl⟩,
   ⟨at_ 3 (fun d => { d with sec := { d.sec with certCa := [5] } }), { pk [(22, 1, 1), (32, 2, 1)] with host := none }, _, _, _, runs_plain _ _ _ (by decide +kernel), rfl, by decide +kernel, by decide +kernel, .inl (by decide +kernel), by decide +kernel⟩,
   ⟨at_ 3 id, { pkx 2 [] [] with host := some [] }, _, _, _, _, runs_plain _ _ _ (by decide +kernel), rfl, rfl⟩,
   ⟨at_ 3 id, { pkx 2 [] [] with host := none }, _, _, _, runs_plain _ _ _ (by decide +kernel), rfl, by decide +kernel⟩,
   ⟨at_ 3 id, pkx 9 [] [(22, 1, 2)], _, _, runs_plain _ _ _ (by decide +kernel), by decide +kernel⟩,
   ⟨at_ 3 id, pkx 12 [] [(22, 1, 1)], _, _, runs_plain _ _ _ (by decide +kernel), .inr (by decide +kernel)⟩,
   ⟨at_ 3 (fun d => { d with sec := { d.sec with sessions := List.replicate 8 ⟨1, [], [], 0, 0, 0, [], 0, none⟩ } }), pkx 9 [] [], _, _, runs_plain _ _ _ (by decide +kernel), by decide +kernel⟩,
   ⟨at_ 3 id, { pkx 9 [] [] with host := some [] }, _, _, _, runs_plain _ _ _ (by decide +kernel), by decide +kernel, by decide +kernel, by decide +kernel, rfl⟩,
   ⟨at_ 3 id, { pkx 9 [] [] with host := none }, _, _, runs_plain _ _ _ (by decide +kernel), by decide +kernel⟩,
   ⟨at_ 3 id, pkx 13 [] [(22, 1, 1)], _, _, _, _, _, runs_plain _ _ _ (by decide +kernel), by decide +kernel, by decide +kernel, rfl, rfl, rfl, .inl (by decide +kernel)⟩,
   ⟨at_ 3 (fun d => { d with sec := { d.sec with sessions := [⟨1, [], [], 0, 0, 0, [], 7, some 5⟩] } }), pkx 13 [] [(22, 1, 1), (24, 2, 1)], _, _, _, _, _, _, _, runs_plain _ _ _ (by decide +kernel), by decide +kernel, by decide +kernel, rfl, rfl, rfl, rfl, by decide +kernel, rfl, by decide +kernel⟩,
   ⟨at_ 4 (fun d => { d with sec := { d.sec with sessions := [⟨1, [], [], 0, 0, 0, [], 7, some 5⟩] }, sys := { d.sys with package := some { pkg0 with credentials := [(Config.sha384 (zeros 97), 5)] } } }), pkx 13 [] [(22, 1, 1), (24, 2, 1), (26, 1, 16)], _, _, _, _, _, _, (some 5), (5 : Nat), _, _, runs_plain _ _ _ (by decide +kernel), by decide +kernel, by decide +kernel, rfl, rfl, rfl, rfl, by decide +kernel, credential_self _ _ (by decide +kernel) (by decide +kernel) _, by decide +kernel, rfl, rfl⟩,
   ⟨auth 7 id, pka (pk [(22, 2, 1)]), _, _, runs_auth hg _ _ _ (by decide +kernel), by decide +kernel⟩,
   ⟨at_ 7 id, pk [(22, 2, 1)], _, _, runs_plain _ _ _ (by decide +kernel), .inl (by decide +kernel)⟩,
   ⟨at_ 3 id, pk [], _, _, _, runs_plain _ _ _ (by decide +kernel), by decide +kernel, rfl, by decide +kernel⟩,
   ⟨at_ 3 id, { pk [(24, 8, 4096)] with host := some [] }, _, _, _, _, runs_plain _ _ _ (by decide +kernel), by decide +kernel, rfl, by decide +kernel, rfl⟩,
   ⟨at_ 3 id, { pk [(24, 8, 4096)] with host := none }, _, _, _, runs_plain _ _ _ (by decide +kernel), by decide +kernel, rfl, by decide +kernel⟩,
   ⟨at_ 3 id, pk [(22, 1, 2)], _, _, runs_plain _ _ _ (by decide +kernel), by decide +kernel⟩,
   ⟨at_ 3 id, { pk [(22, 1, 1)] with host := none }, _, _, runs_plain _ _ _ (by decide +kernel), by decide +kernel⟩,
   ⟨at_ 3 (fun d => d.set SEC_TOKEN_FAIL_CNT.COUNT 2), { pk [(22, 1, 1)] with host := some [] }, _, _, _, _, runs_plain _ _ _ (by decide +kernel), by decide +kernel, rfl, rfl⟩,
   ⟨at_ 7 id, by decide +kernel⟩,
   ⟨at_ 3 id, .inl (by decide +kernel)⟩,
   ⟨at_ 11 (fun d => d.set SEC_TOKEN_FAIL_CNT.COUNT 2), [], _, .inr (.inr (by decide +kernel)), rfl⟩,
   ⟨State.reset.fuses, [], (at_ 3 (fun d => d.set SEC_TOKEN_FAIL_CNT.COUNT 3)).dev, _, _, rfl, rfl, by decide +kernel⟩,
   ⟨State.reset.fuses, [], (at_ 3 (fun d => d.set SEC_TOKEN_FAIL_CNT.COUNT 2)).dev, _, _, rfl, rfl, by decide +kernel⟩,
   ⟨fusesK, tokenK, (at_ 3 (fun d => { d with sec := { d.sec with challenge := some (zeros 32) } })).dev, _, _, rfl, rfl, by decide +kernel, token_fits⟩,
   ⟨at_ 7 id, by decide +kernel⟩,
   ⟨at_ 7 (fun d => { d with sec := { d.sec with scopes := [(1, 5)] } }), _, rfl⟩⟩
/-- A witness for each clause of JobsEventsAndTasksRun. -/
theorem test_witness_JobsEventsAndTasksRun :
    (∃ (s : State) (p : Packet) (p' : Packet) (d' : Dev) (t : Nat) (prio : _) (bits : _) (aff : _) (range : Bool) (shape : Task → Task), (Runs opCreateJob p s.dev p' d') ∧ (t = par p' 24 2) ∧ (prio = par p' 23 1) ∧ (bits = par p' 30 1) ∧ (aff = (if par p' 44 1 = 0 then 0x3F else par p' 44 1)) ∧ (range = (decide (bits < 8) && decide (aff < 64) && (!bitAt bits 1 || (decide (10 ≤ par p' 32 4) && decide (par p' 32 4 ≤ 1000000))))) ∧ (shape = (fun (x : Task) => ({ x with affinity := aff, all := bitAt bits 0, timer := bitAt bits 1, period := par p' 32 4, mask := par p' 26 4, filter := if bitAt bits 2 then some (par p' 40 2, par p' 42 2) else none, left := if par p' 36 4 = 0 then none else some (par p' 36 4) } : Task))) ∧ ((par p' 22 1 = 0 ∧ p'.len.toNat ≠ 4) ∨ (par p' 22 1 ≠ 0 ∧ p'.len.toNat ≠ 0))) ∧
    (∃ (s : State) (p : Packet) (p' : Packet) (d' : Dev) (t : Nat) (prio : _) (bits : _) (aff : _) (range : Bool) (shape : Task → Task), (Runs opCreateJob p s.dev p' d') ∧ (t = par p' 24 2) ∧ (prio = par p' 23 1) ∧ (bits = par p' 30 1) ∧ (aff = (if par p' 44 1 = 0 then 0x3F else par p' 44 1)) ∧ (range = (decide (bits < 8) && decide (aff < 64) && (!bitAt bits 1 || (decide (10 ≤ par p' 32 4) && decide (par p' 32 4 ≤ 1000000))))) ∧ (shape = (fun (x : Task) => ({ x with affinity := aff, all := bitAt bits 0, timer := bitAt bits 1, period := par p' 32 4, mask := par p' 26 4, filter := if bitAt bits 2 then some (par p' 40 2, par p' 42 2) else none, left := if par p' 36 4 = 0 then none else some (par p' 36 4) } : Task))) ∧ (par p' 22 1 = 0) ∧ (p'.len.toNat = 4) ∧ ((decide (prio < 16) || decide (31 < prio) || decide (63 < par p' 31 1) || !range || !(decide (t = 0xFFFF) || (decide (128 ≤ t) && decide (t < 256))) || !storedOk (extBytes p' 0 64)) = true)) ∧
    (∃ (s : State) (p : Packet) (p' : Packet) (d' : Dev) (t : Nat) (prio : _) (bits : _) (aff : _) (range : Bool) (shape : Task → Task) (free : Option Nat), (Runs opCreateJob p s.dev p' d') ∧ (t = par p' 24 2) ∧ (prio = par p' 23 1) ∧ (bits = par p' 30 1) ∧ (aff = (if par p' 44 1 = 0 then 0x3F else par p' 44 1)) ∧ (range = (decide (bits < 8) && decide (aff < 64) && (!bitAt bits 1 || (decide (10 ≤ par p' 32 4) && decide (par p' 32 4 ≤ 1000000))))) ∧ (shape = (fun (x : Task) => ({ x with affinity := aff, all := bitAt bits 0, timer := bitAt bits 1, period := par p' 32 4, mask := par p' 26 4, filter := if bitAt bits 2 then some (par p' 40 2, par p' 42 2) else none, left := if par p' 36 4 = 0 then none else some (par p' 36 4) } : Task))) ∧ (par p' 22 1 = 0) ∧ (p'.len.toNat = 4) ∧ ((decide (prio < 16) || decide (31 < prio) || decide (63 < par p' 31 1) || !range || !(decide (t = 0xFFFF) || (decide (128 ≤ t) && decide (t < 256))) || !storedOk (extBytes p' 0 64)) = false) ∧ (free = (if t = 0xFFFF then (List.range 128).map (128 + ·) else [t]).find? (fun k => (d'.task k).state == 0 && !d'.hif.inWork.any (fun w => w.1 == 64 + k))) ∧ (free = none ∨ d'.cqRoom (par p' 31 1) = false)) ∧
    (∃ (s : State) (p : Packet) (p' : Packet) (d' : Dev) (t : Nat) (prio : _) (bits : _) (aff : _) (range : Bool) (shape : Task → Task) (free : Option Nat) (k : Nat) (d1 : Dev), (Runs opCreateJob p s.dev p' d') ∧ (t = par p' 24 2) ∧ (prio = par p' 23 1) ∧ (bits = par p' 30 1) ∧ (aff = (if par p' 44 1 = 0 then 0x3F else par p' 44 1)) ∧ (range = (decide (bits < 8) && decide (aff < 64) && (!bitAt bits 1 || (decide (10 ≤ par p' 32 4) && decide (par p' 32 4 ≤ 1000000))))) ∧ (shape = (fun (x : Task) => ({ x with affinity := aff, all := bitAt bits 0, timer := bitAt bits 1, period := par p' 32 4, mask := par p' 26 4, filter := if bitAt bits 2 then some (par p' 40 2, par p' 42 2) else none, left := if par p' 36 4 = 0 then none else some (par p' 36 4) } : Task))) ∧ (par p' 22 1 = 0) ∧ (p'.len.toNat = 4) ∧ ((decide (prio < 16) || decide (31 < prio) || decide (63 < par p' 31 1) || !range || !(decide (t = 0xFFFF) || (decide (128 ≤ t) && decide (t < 256))) || !storedOk (extBytes p' 0 64)) = false) ∧ (free = (if t = 0xFFFF then (List.range 128).map (128 + ·) else [t]).find? (fun k => (d'.task k).state == 0 && !d'.hif.inWork.any (fun w => w.1 == 64 + k))) ∧ (free = some k) ∧ (d'.cqRoom (par p' 31 1) = true) ∧ (d1 = (((d'.set (HIF_CQ_OWED.COUNT (par p' 31 1)) (d'.get (HIF_CQ_OWED.COUNT (par p' 31 1)) + 1)).setTask k (shape { Task.reset with state := 1, prio := prio, cq := par p' 31 1, packet := extBytes p' 0 64 })).showSched))) ∧
    (∃ (s : State) (p : Packet) (p' : Packet) (d' : Dev) (t : Nat) (prio : _) (bits : _) (aff : _) (range : Bool) (shape : Task → Task), (Runs opCreateJob p s.dev p' d') ∧ (t = par p' 24 2) ∧ (prio = par p' 23 1) ∧ (bits = par p' 30 1) ∧ (aff = (if par p' 44 1 = 0 then 0x3F else par p' 44 1)) ∧ (range = (decide (bits < 8) && decide (aff < 64) && (!bitAt bits 1 || (decide (10 ≤ par p' 32 4) && decide (par p' 32 4 ≤ 1000000))))) ∧ (shape = (fun (x : Task) => ({ x with affinity := aff, all := bitAt bits 0, timer := bitAt bits 1, period := par p' 32 4, mask := par p' 26 4, filter := if bitAt bits 2 then some (par p' 40 2, par p' 42 2) else none, left := if par p' 36 4 = 0 then none else some (par p' 36 4) } : Task))) ∧ (par p' 22 1 ≠ 0) ∧ (p'.len.toNat = 0) ∧ (2 < par p' 22 1 ∨ t < 128 ∨ 256 ≤ t ∨ (d'.task t).state = 0 ∨ (par p' 22 1 = 2 ∧ range = false))) ∧
    (∃ (s : State) (p : Packet) (p' : Packet) (d' : Dev) (t : Nat) (prio : _) (bits : _) (aff : _) (range : Bool) (shape : Task → Task), (Runs opCreateJob p s.dev p' d') ∧ (t = par p' 24 2) ∧ (prio = par p' 23 1) ∧ (bits = par p' 30 1) ∧ (aff = (if par p' 44 1 = 0 then 0x3F else par p' 44 1)) ∧ (range = (decide (bits < 8) && decide (aff < 64) && (!bitAt bits 1 || (decide (10 ≤ par p' 32 4) && decide (par p' 32 4 ≤ 1000000))))) ∧ (shape = (fun (x : Task) => ({ x with affinity := aff, all := bitAt bits 0, timer := bitAt bits 1, period := par p' 32 4, mask := par p' 26 4, filter := if bitAt bits 2 then some (par p' 40 2, par p' 42 2) else none, left := if par p' 36 4 = 0 then none else some (par p' 36 4) } : Task))) ∧ (par p' 22 1 = 1) ∧ (p'.len.toNat = 0) ∧ (128 ≤ t) ∧ (t < 256) ∧ ((d'.task t).state ≠ 0)) ∧
    (∃ (s : State) (p : Packet) (p' : Packet) (d' : Dev) (t : Nat) (prio : _) (bits : _) (aff : _) (range : Bool) (shape : Task → Task), (Runs opCreateJob p s.dev p' d') ∧ (t = par p' 24 2) ∧ (prio = par p' 23 1) ∧ (bits = par p' 30 1) ∧ (aff = (if par p' 44 1 = 0 then 0x3F else par p' 44 1)) ∧ (range = (decide (bits < 8) && decide (aff < 64) && (!bitAt bits 1 || (decide (10 ≤ par p' 32 4) && decide (par p' 32 4 ≤ 1000000))))) ∧ (shape = (fun (x : Task) => ({ x with affinity := aff, all := bitAt bits 0, timer := bitAt bits 1, period := par p' 32 4, mask := par p' 26 4, filter := if bitAt bits 2 then some (par p' 40 2, par p' 42 2) else none, left := if par p' 36 4 = 0 then none else some (par p' 36 4) } : Task))) ∧ (par p' 22 1 = 2) ∧ (p'.len.toNat = 0) ∧ (128 ≤ t) ∧ (t < 256) ∧ ((d'.task t).state ≠ 0) ∧ (range = true)) ∧
    (∃ (s : State) (p : Packet) (p' : Packet) (d' : Dev) (k : _), (Runs opPostEvent p s.dev p' d') ∧ (k = par p' 22 2) ∧ (k ≠ 0xFFFF) ∧ (k < 128 ∨ 256 ≤ k ∨ (d'.task k).state = 0)) ∧
    (∃ (s : State) (p : Packet) (p' : Packet) (d' : Dev) (k : _), (Runs opPostEvent p s.dev p' d') ∧ (k = par p' 22 2) ∧ (128 ≤ k) ∧ (k < 256) ∧ ((d'.task k).state ≠ 0)) ∧
    (∃ (s : State) (p : Packet) (p' : Packet) (d' : Dev) (k : _) (jobs : List Nat), (Runs opPostEvent p s.dev p' d') ∧ (k = par p' 22 2) ∧ (k = 0xFFFF) ∧ (jobs = ((List.range 128).map (128 + ·)).filter (fun k => (d'.task k).state != 0))) ∧
    (∃ (s : State) (p : Packet) (p' : Packet) (d' : Dev) (c : _) (size : _) (va : _) (count : _) (unit : _) (pa : _) (vas : _) (slot : Nat → Option Nat) (part : Bool) (bad : Bool), (Runs opMapPages p s.dev p' d') ∧ (c = par p' 22 1) ∧ (size = par p' 23 1) ∧ (va = par p' 24 8) ∧ (count = par p' 32 4) ∧ (unit = (if size = 1 then 2 ^ 21 else 4096)) ∧ (pa = par p' 38 8) ∧ (vas = (List.range count).map (fun i => va + i * unit)) ∧ (slot = (fun (v : Nat) => if size = 1 then (if !bitAt (d'.entry64 (d'.l1At c v)) 0 && bitAt (d'.entry64 (d'.l1At c v)) 6 then some (d'.l1At c v) else none) else if bitAt (d'.entry64 (d'.l1At c v)) 0 && !bitAt (d'.entry64 (d'.l1At c v)) 1 then (if !bitAt (d'.entry64 (l2At (d'.entry64 (d'.l1At c v)) v)) 0 && bitAt (d'.entry64 (l2At (d'.entry64 (d'.l1At c v)) v)) 6 then some (l2At (d'.entry64 (d'.l1At c v)) v) else none) else none)) ∧ (part = (match d'.sys.package with | some k => decide (k.dramCapture + k.dramStock + k.dramSpill ≤ pa) && decide (pa + count * unit ≤ k.dramCapture + k.dramStock + k.dramSpill + k.dramHost) | none => false)) ∧ (bad = (decide (c < 3) || decide (64 ≤ c) || decide (1 < size) || decide (count = 0) || decide (512 < count) || decide (1 < par p' 36 1) || decide (4 ≤ par p' 37 1) || decide (va % unit ≠ 0) || decide (pa % unit ≠ 0) || decide (2 ^ 39 < va + count * unit) || !d'.on (MMU_CTX_CFG.EN c) || !vas.all (fun v => (slot v).isSome) || (decide (par p' 36 1 = 0) && !part))) ∧ (bad = true)) ∧
    (∃ (s : State) (p : Packet) (p' : Packet) (d' : Dev) (c : _) (size : _) (va : _) (count : _) (unit : _) (pa : _) (vas : _) (slot : Nat → Option Nat) (part : Bool) (bad : Bool) (d1 : Dev), (Runs opMapPages p s.dev p' d') ∧ (c = par p' 22 1) ∧ (size = par p' 23 1) ∧ (va = par p' 24 8) ∧ (count = par p' 32 4) ∧ (unit = (if size = 1 then 2 ^ 21 else 4096)) ∧ (pa = par p' 38 8) ∧ (vas = (List.range count).map (fun i => va + i * unit)) ∧ (slot = (fun (v : Nat) => if size = 1 then (if !bitAt (d'.entry64 (d'.l1At c v)) 0 && bitAt (d'.entry64 (d'.l1At c v)) 6 then some (d'.l1At c v) else none) else if bitAt (d'.entry64 (d'.l1At c v)) 0 && !bitAt (d'.entry64 (d'.l1At c v)) 1 then (if !bitAt (d'.entry64 (l2At (d'.entry64 (d'.l1At c v)) v)) 0 && bitAt (d'.entry64 (l2At (d'.entry64 (d'.l1At c v)) v)) 6 then some (l2At (d'.entry64 (d'.l1At c v)) v) else none) else none)) ∧ (part = (match d'.sys.package with | some k => decide (k.dramCapture + k.dramStock + k.dramSpill ≤ pa) && decide (pa + count * unit ≤ k.dramCapture + k.dramStock + k.dramSpill + k.dramHost) | none => false)) ∧ (bad = (decide (c < 3) || decide (64 ≤ c) || decide (1 < size) || decide (count = 0) || decide (512 < count) || decide (1 < par p' 36 1) || decide (4 ≤ par p' 37 1) || decide (va % unit ≠ 0) || decide (pa % unit ≠ 0) || decide (2 ^ 39 < va + count * unit) || !d'.on (MMU_CTX_CFG.EN c) || !vas.all (fun v => (slot v).isSome) || (decide (par p' 36 1 = 0) && !part))) ∧ (bad = false) ∧ (d1 = vas.zipIdx.foldl (fun (d : Dev) (v : Nat × Nat) => match slot v.1 with | some a => d.putPte a size (par p' 36 1) (par p' 37 1) (pa + v.2 * unit) | none => d) d')) ∧
    (∃ (s : State) (p : Packet) (p' : Packet) (d' : Dev) (n : _), (Runs opResumeDma p s.dev p' d') ∧ (n = par p' 22 1) ∧ (16 ≤ n ∨ 1 < par p' 23 1)) ∧
    (∃ (s : State) (p : Packet) (p' : Packet) (d' : Dev) (n : _), (Runs opResumeDma p s.dev p' d') ∧ (n = par p' 22 1) ∧ (n < 16) ∧ (par p' 23 1 ≤ 1) ∧ (d'.get (DMA_CH_STATUS.STATE n) ≠ 2 ∨ d'.on (DMA_CH_STATUS.HOST_FAULT n) = false)) ∧
    (∃ (s : State) (p : Packet) (p' : Packet) (d' : Dev) (n : _), (Runs opResumeDma p s.dev p' d') ∧ (n = par p' 22 1) ∧ (n < 16) ∧ (par p' 23 1 = 1) ∧ (d'.get (DMA_CH_STATUS.STATE n) = 2) ∧ (d'.on (DMA_CH_STATUS.HOST_FAULT n) = true)) ∧
    (∃ (s : State) (p : Packet) (p' : Packet) (d' : Dev) (n : _) (x : DmaDesc) (d1 : Dev) (w : Walk), (Runs opResumeDma p s.dev p' d') ∧ (n = par p' 22 1) ∧ (n < 16) ∧ (par p' 23 1 = 0) ∧ (d'.get (DMA_CH_STATUS.STATE n) = 2) ∧ (d'.on (DMA_CH_STATUS.HOST_FAULT n) = true) ∧ ((d'.dmaCh n).cur = some x) ∧ (d1 = (d'.set (DMA_CH_STATUS.HOST_FAULT n) 0).setDma n (d'.dmaCh n) false) ∧ (w = d1.walk (d1.get (DMA_CH_FAULT.CTX n)) (d1.rd64 (DMA_CH_FAULT_VA_LO n)) (d1.on (DMA_CH_FAULT.WRITE n))) ∧ (w ≠ .demand ∨ d1.descFault x (d'.dmaCh n).pos = none)) ∧
    (∃ (s : State) (p : Packet) (p' : Packet) (d' : Dev) (n : _) (x : DmaDesc) (d1 : Dev) (w : Walk) (o : Nat) (dm : Bool) (wr : Bool), (Runs opResumeDma p s.dev p' d') ∧ (n = par p' 22 1) ∧ (n < 16) ∧ (par p' 23 1 = 0) ∧ (d'.get (DMA_CH_STATUS.STATE n) = 2) ∧ (d'.on (DMA_CH_STATUS.HOST_FAULT n) = true) ∧ ((d'.dmaCh n).cur = some x) ∧ (d1 = (d'.set (DMA_CH_STATUS.HOST_FAULT n) 0).setDma n (d'.dmaCh n) false) ∧ (w = d1.walk (d1.get (DMA_CH_FAULT.CTX n)) (d1.rd64 (DMA_CH_FAULT_VA_LO n)) (d1.on (DMA_CH_FAULT.WRITE n))) ∧ (w = .demand) ∧ (d1.descFault x (d'.dmaCh n).pos = some (o, dm, wr))) ∧
    (∃ (s : State) (c : Fin 6), (s.dev.onCore c.val = none)) ∧
    (∃ (s : State) (c : Fin 6) (k : Nat), (s.dev.onCore c.val = some k) ∧ (k < 128)) ∧
    (∃ (s : State) (c : Fin 6) (m : Word) (all : Bool) (k : Nat), (s.dev.onCore c.val = some k) ∧ (k < 128) ∧ (s.dev.sch.handler ≠ some k) ∧ ((s.dev.task k).deleted = false) ∧ (waitMet { s.dev.task k with mask := m.toNat, all := all } = false)) ∧
    (∃ (s : State) (c : Fin 6) (k : Nat), (s.dev.onCore c.val = some k) ∧ (128 ≤ k)) ∧
    (∃ (s : State) (k : Fin 256), ((s.dev.task k.val).timer = false)) ∧
    (∃ (s : State) (k : Fin 256), ((s.dev.task k.val).timer = true)) :=
  ⟨⟨at_ 7 id, pk [], _, _, _, _, _, _, _, _, runs_plain _ _ _ (by decide +kernel), rfl, rfl, rfl, rfl, rfl, rfl, .inl (by decide +kernel)⟩,
   ⟨at_ 7 id, pkx 4 [] [(23, 1, 15)], _, _, _, _, _, _, _, _, runs_plain _ _ _ (by decide +kernel), rfl, rfl, rfl, rfl, rfl, rfl, by decide +kernel⟩,
   ⟨at_ 7 (fun d => d.set (HIF_CQ_OWED.COUNT 63) 16), pkx 4 [] [(23, 1, 16), (24, 2, 128), (31, 1, 63)], _, _, _, _, _, _, _, _, _, runs_plain _ _ _ (by decide +kernel), rfl, rfl, rfl, rfl, rfl, rfl, by decide +kernel, by decide +kernel, by decide +kernel, rfl, .inr (by decide +kernel)⟩,
   ⟨at_ 7 id, pkx 4 [] [(23, 1, 31), (24, 2, 255), (31, 1, 63)], _, _, _, _, _, _, _, _, _, _, _, runs_plain _ _ _ (by decide +kernel), rfl, rfl, rfl, rfl, rfl, rfl, by decide +kernel, by decide +kernel, by decide +kernel, rfl, rfl, by decide +kernel, rfl⟩,
   ⟨at_ 7 id, pk [(22, 1, 1), (24, 2, 128)], _, _, _, _, _, _, _, _, runs_plain _ _ _ (by decide +kernel), rfl, rfl, rfl, rfl, rfl, rfl, by decide +kernel, by decide +kernel, .inr (.inr (.inr (.inl (by decide +kernel))))⟩,
   ⟨taskS 255 1 id, pk [(22, 1, 1), (24, 2, 255)], _, _, _, _, _, _, _, _, runs_plain _ _ _ (by decide +kernel), rfl, rfl, rfl, rfl, rfl, rfl, by decide +kernel⟩,
   ⟨taskS 255 1 id, pk [(22, 1, 2), (23, 1, 31), (24, 2, 255)], _, _, _, _, _, _, _, _, runs_plain _ _ _ (by decide +kernel), rfl, rfl, rfl, rfl, rfl, rfl, by decide +kernel⟩,
   ⟨at_ 7 id, pk [(22, 2, 127)], _, _, _, runs_plain _ _ _ (by decide +kernel), rfl, by decide +kernel, .inl (by decide +kernel)⟩,
   ⟨taskS 255 1 id, pk [(22, 2, 255), (24, 2, 1)], _, _, _, runs_plain _ _ _ (by decide +kernel), rfl, by decide +kernel⟩,
   ⟨taskS 255 1 id, pk [(22, 2, 65535), (24, 2, 1)], _, _, _, _, runs_plain _ _ _ (by decide +kernel), rfl, by decide +kernel, rfl⟩,
   ⟨at_ 7 (Dev.cond (condHA 5) true), pk [(22, 1, 2)], _, _, _, _, _, _, _, _, _, _, _, _, runs_plain _ _ _ (by decide +kernel), rfl, rfl, rfl, rfl, rfl, rfl, rfl, rfl, rfl, rfl, by decide +kernel⟩,
   ⟨at_ 7 (fun d => Dev.set (MMU_CTX_CFG.EN 63) 1 (Dev.cond (condHA 5) true { d with dram := [(0, 64)] })), pk [(22, 1, 63), (23, 1, 1), (32, 4, 1), (36, 1, 1), (37, 1, 3)], _, _, _, _, _, _, _, _, _, _, _, _, _, runs_plain _ _ _ (by decide +kernel), rfl, rfl, rfl, rfl, rfl, rfl, rfl, rfl, rfl, rfl, by decide +kernel, rfl⟩,
   ⟨at_ 7 (Dev.cond (condHA 5) true), pk [(22, 1, 16)], _, _, _, runs_plain _ _ _ (by decide +kernel), rfl, .inl (by decide +kernel)⟩,
   ⟨at_ 7 (Dev.cond (condHA 5) true), pk [(22, 1, 15), (23, 1, 1)], _, _, _, runs_plain _ _ _ (by decide +kernel), rfl, by decide +kernel, by decide +kernel, .inl (by decide +kernel)⟩,
   ⟨at_ 7 (fun d => Dev.set (DMA_CH_STATUS.HOST_FAULT 15) 1 (Dev.set (DMA_CH_STATUS.STATE 15) 2 (Dev.cond (condHA 5) true d))), pk [(22, 1, 15), (23, 1, 1)], _, _, _, runs_plain _ _ _ (by decide +kernel), rfl, by decide +kernel⟩,
   ⟨at_ 7 (fun d => Dev.set (DMA_CH_STATUS.HOST_FAULT 0) 1 (Dev.setDma 0 ⟨[], some ⟨1, false, 0, 0, 8, 0, 0, 1⟩, 0⟩ true (Dev.cond (condHA 5) true d))), pk [], _, _, _, _, _, _, runs_plain _ _ _ (by decide +kernel), rfl, by decide +kernel, by decide +kernel, by decide +kernel, by decide +kernel, rfl, rfl, rfl, .inr (by decide +kernel)⟩,
   ⟨at_ 7 (fun d => Dev.set (DMA_CH_FAULT.CTX 0) 63 (Dev.set (MMU_CTX_CFG.EN 63) 1 (Dev.set (DMA_CH_STATUS.HOST_FAULT 0) 1 (Dev.setDma 0 ⟨[], some ⟨1, false, 63, 0, 8, 0, 0, 1⟩, 0⟩ true (Dev.cond (condHA 5) true { d with dram := [(0, 64)] }))))), pk [], _, _, _, _, _, _, _, _, _, runs_plain _ _ _ (by decide +kernel), rfl, by decide +kernel, by decide +kernel, by decide +kernel, by decide +kernel, rfl, rfl, rfl, by decide +kernel, rfl⟩,
   ⟨at_ 7 id, 5, by decide +kernel⟩,
   ⟨coreS 127 id, 0, _, rfl, by decide +kernel⟩,
   ⟨coreS 127 id, 0, 1, false, _, rfl, by decide +kernel⟩,
   ⟨coreS 255 id, 0, _, rfl, by decide +kernel⟩,
   ⟨at_ 7 id, 255, by decide +kernel⟩,
   ⟨at_ 7 (fun d => { d with sch := { d.sch with tasks := [(255, { Task.reset with timer := true })] } }), 255, by decide +kernel⟩⟩
/-- A witness for each clause of DmaDescriptorsArePushedAndMoved. -/
theorem test_witness_DmaDescriptorsArePushedAndMoved :
    (∃ (s : State) (b : List Byte) (x : DmaDesc), (x = (⟨fieldAt b 0 1, bitAt (fieldAt b 1 1) 0, fieldAt b 2 1, fieldAt b 3 1, fieldAt b 4 4, fieldAt b 8 8, fieldAt b 16 8, fieldAt b 24 2⟩ : DmaDesc)) ∧ (s.dev.mode < 4 ∨ (x.op ≠ 1 ∧ x.op ≠ 2) ∨ x.len = 0 ∨ 2 ^ 30 < x.len ∨ 64 ≤ x.dstCtx ∨ (x.op = 1 ∧ 64 ≤ x.srcCtx))) ∧
    (∃ (s : State) (b : List Byte) (x : DmaDesc), (4 ≤ s.dev.mode) ∧ (x = (⟨fieldAt b 0 1, bitAt (fieldAt b 1 1) 0, fieldAt b 2 1, fieldAt b 3 1, fieldAt b 4 4, fieldAt b 8 8, fieldAt b 16 8, fieldAt b 24 2⟩ : DmaDesc)) ∧ ((x.op = 1 ∧ x.srcCtx < 64) ∨ x.op = 2) ∧ (0 < x.len) ∧ (x.len ≤ 2 ^ 30) ∧ (x.dstCtx < 64) ∧ (s.dev.get DMA_POOL.FREE = 0)) ∧
    (∃ (s : State) (n : Fin 16) (b : List Byte) (x : DmaDesc), (4 ≤ s.dev.mode) ∧ (x = (⟨fieldAt b 0 1, bitAt (fieldAt b 1 1) 0, fieldAt b 2 1, fieldAt b 3 1, fieldAt b 4 4, fieldAt b 8 8, fieldAt b 16 8, fieldAt b 24 2⟩ : DmaDesc)) ∧ ((x.op = 1 ∧ x.srcCtx < 64) ∨ x.op = 2) ∧ (0 < x.len) ∧ (x.len ≤ 2 ^ 30) ∧ (x.dstCtx < 64) ∧ (0 < s.dev.get DMA_POOL.FREE) ∧ ((s.dev.dmaCh n.val).cur = none)) ∧
    (∃ (s : State) (n : Fin 16) (b : List Byte) (x : DmaDesc), (4 ≤ s.dev.mode) ∧ (x = (⟨fieldAt b 0 1, bitAt (fieldAt b 1 1) 0, fieldAt b 2 1, fieldAt b 3 1, fieldAt b 4 4, fieldAt b 8 8, fieldAt b 16 8, fieldAt b 24 2⟩ : DmaDesc)) ∧ ((x.op = 1 ∧ x.srcCtx < 64) ∨ x.op = 2) ∧ (0 < x.len) ∧ (x.len ≤ 2 ^ 30) ∧ (x.dstCtx < 64) ∧ (0 < s.dev.get DMA_POOL.FREE) ∧ ((s.dev.dmaCh n.val).cur ≠ none) ∧ ((s.dev.dmaCh n.val).queue.length < 16)) ∧
    (∃ (s : State) (n : Fin 16) (b : List Byte) (x : DmaDesc), (4 ≤ s.dev.mode) ∧ (x = (⟨fieldAt b 0 1, bitAt (fieldAt b 1 1) 0, fieldAt b 2 1, fieldAt b 3 1, fieldAt b 4 4, fieldAt b 8 8, fieldAt b 16 8, fieldAt b 24 2⟩ : DmaDesc)) ∧ ((x.op = 1 ∧ x.srcCtx < 64) ∨ x.op = 2) ∧ (0 < x.len) ∧ (x.len ≤ 2 ^ 30) ∧ (x.dstCtx < 64) ∧ (0 < s.dev.get DMA_POOL.FREE) ∧ ((s.dev.dmaCh n.val).cur ≠ none) ∧ (16 ≤ (s.dev.dmaCh n.val).queue.length)) ∧
    (∃ (s : State) (n : Fin 16), ((s.dev.dmaCh n.val).cur = none ∨ s.dev.get (DMA_CH_STATUS.STATE n.val) = 2)) ∧
    (∃ (s : State) (n : Fin 16) (x : DmaDesc), ((s.dev.dmaCh n.val).cur = some x) ∧ (s.dev.get (DMA_CH_STATUS.STATE n.val) ≠ 2) ∧ (s.dev.descFault x (s.dev.dmaCh n.val).pos = none) ∧ (s.dev.inHole x (s.dev.dmaCh n.val).pos x.len = true)) ∧
    (∃ (s : State) (n : Fin 16) (e : HostRead) (x : DmaDesc), ((s.dev.dmaCh n.val).cur = some x) ∧ (s.dev.get (DMA_CH_STATUS.STATE n.val) ≠ 2) ∧ (s.dev.descFault x (s.dev.dmaCh n.val).pos = none) ∧ (s.dev.inHole x (s.dev.dmaCh n.val).pos x.len = false) ∧ (e = none)) ∧
    (∃ (s : State) (n : Fin 16) (e : HostRead) (x : DmaDesc) (bs : List Byte), ((s.dev.dmaCh n.val).cur = some x) ∧ (s.dev.get (DMA_CH_STATUS.STATE n.val) ≠ 2) ∧ (s.dev.descFault x (s.dev.dmaCh n.val).pos = none) ∧ (s.dev.inHole x (s.dev.dmaCh n.val).pos x.len = false) ∧ (e = some bs)) ∧
    (∃ (s : State) (n : Fin 16) (x : DmaDesc), ((s.dev.dmaCh n.val).cur = some x) ∧ (s.dev.get (DMA_CH_STATUS.STATE n.val) ≠ 2) ∧ (s.dev.descFault x (s.dev.dmaCh n.val).pos = none)) ∧
    (∃ (s : State) (n : Fin 16) (x : DmaDesc) (o : Nat) (dm : Bool) (w : Bool), ((s.dev.dmaCh n.val).cur = some x) ∧ (s.dev.get (DMA_CH_STATUS.STATE n.val) ≠ 2) ∧ (s.dev.descFault x (s.dev.dmaCh n.val).pos = some (o, dm, w))) ∧
    (∃ (s : State) (n : Fin 16) (x : DmaDesc) (o : Nat) (dm : Bool) (w : Bool), ((s.dev.dmaCh n.val).cur = some x) ∧ (s.dev.get (DMA_CH_STATUS.STATE n.val) ≠ 2) ∧ (s.dev.descFault x (s.dev.dmaCh n.val).pos = some (o, dm, w)) ∧ (s.dev.inHole x (s.dev.dmaCh n.val).pos o = true)) ∧
    (∃ (s : State) (n : Fin 16) (x : DmaDesc) (o : Nat) (dm : Bool) (w : Bool), ((s.dev.dmaCh n.val).cur = some x) ∧ (s.dev.get (DMA_CH_STATUS.STATE n.val) ≠ 2) ∧ (s.dev.descFault x (s.dev.dmaCh n.val).pos = some (o, dm, w)) ∧ (s.dev.inHole x (s.dev.dmaCh n.val).pos o = false)) :=
  ⟨⟨at_ 3 id, [], _, rfl, .inl (by decide +kernel)⟩,
   ⟨at_ 7 (fun d => d.set DMA_POOL.FREE 0), bytesAt 32 [(0, 1, 1), (4, 4, 1)], _, by decide +kernel, rfl, .inl (by decide +kernel), by decide +kernel⟩,
   ⟨at_ 7 id, 0, bytesAt 32 [(0, 1, 2), (2, 1, 63), (3, 1, 63), (4, 4, 1073741824)], _, by decide +kernel, rfl, .inr (by decide +kernel), by decide +kernel⟩,
   ⟨dmaS ⟨1, false, 0, 0, 8, 0, 0, 0⟩ id, 0, bytesAt 32 [(0, 1, 2), (4, 4, 1)], _, by decide +kernel, rfl, .inr (by decide +kernel), by decide +kernel⟩,
   ⟨at_ 7 (fun d => Dev.setDma 0 ⟨List.replicate 16 ⟨1, false, 0, 0, 8, 0, 0, 1⟩, some ⟨1, false, 0, 0, 8, 0, 0, 1⟩, 0⟩ false d), 0, bytesAt 32 [(0, 1, 2), (4, 4, 1)], _, by decide +kernel, rfl, .inr (by decide +kernel), by decide +kernel⟩,
   ⟨at_ 7 id, 15, .inl (by decide +kernel)⟩,
   ⟨dmaS ⟨1, false, 0, 2, 4096, 0, 0, 1⟩ id, 0, _, rfl, by decide +kernel⟩,
   ⟨dmaS ⟨1, false, 0, 0, 8, 0, 0, 1⟩ id, 0, none, _, rfl, by decide +kernel⟩,
   ⟨dmaS ⟨1, false, 0, 0, 8, 0, 0, 1⟩ id, 0, some [], _, _, rfl, by decide +kernel, by decide +kernel, by decide +kernel, rfl⟩,
   ⟨dmaS ⟨1, false, 0, 0, 8, 0, 0, 1⟩ id, 0, _, rfl, by decide +kernel⟩,
   ⟨dmaS ⟨1, false, 3, 0, 8, 0, 0, 1⟩ id, 0, _, _, _, _, rfl, by decide +kernel, rfl⟩,
   ⟨at_ 7 (fun d => Dev.setDma 0 ⟨[], some ⟨1, false, 2, 3, 8192, 0, 2093056, 1⟩, 0⟩ false { d.set (MMU_CTX_CFG.EN 3) 1 with dram := [(0, 15)] }), 0, _, 4096, false, true, rfl, by decide +kernel⟩,
   ⟨dmaS ⟨1, false, 3, 0, 8, 0, 0, 1⟩ id, 0, _, _, _, _, rfl, by decide +kernel, rfl, by decide +kernel⟩⟩
/-- A witness for each clause of CanChannelsAreSetUpAndSend. -/
theorem test_witness_CanChannelsAreSetUpAndSend :
    (∃ (s : State) (p : Packet) (p' : Packet) (d' : Dev) (n : _) (op : _), (Runs opConfigCan p s.dev p' d') ∧ (n = par p' 22 1) ∧ (op = par p' 23 1) ∧ (1 < n ∨ 5 < op)) ∧
    (∃ (s : State) (p : Packet) (p' : Packet) (d' : Dev) (n : _) (op : _), (Runs opConfigCan p s.dev p' d') ∧ (n = par p' 22 1) ∧ (op = par p' 23 1) ∧ (n ≤ 1) ∧ (4 ≤ op) ∧ (op ≤ 5) ∧ (d'.mode ≠ 11)) ∧
    (∃ (s : State) (p : Packet) (p' : Packet) (d' : Dev) (n : _) (op : _), (Runs opConfigCan p s.dev p' d') ∧ (n = par p' 22 1) ∧ (op = par p' 23 1) ∧ (n ≤ 1) ∧ (op = 0) ∧ (d'.get (CAN_STATUS.STATE n) = 0)) ∧
    (∃ (s : State) (p : Packet) (p' : Packet) (d' : Dev) (n : _) (op : _) (d1 : Dev), (Runs opConfigCan p s.dev p' d') ∧ (n = par p' 22 1) ∧ (op = par p' 23 1) ∧ (n ≤ 1) ∧ (op = 0) ∧ (d'.get (CAN_STATUS.STATE n) = 1) ∧ (d1 = d'.autobaudDone n none)) ∧
    (∃ (s : State) (p : Packet) (p' : Packet) (d' : Dev) (n : _) (op : _), (Runs opConfigCan p s.dev p' d') ∧ (n = par p' 22 1) ∧ (op = par p' 23 1) ∧ (n ≤ 1) ∧ (op = 0) ∧ (d'.get (CAN_STATUS.STATE n) = 3)) ∧
    (∃ (s : State) (p : Packet) (p' : Packet) (d' : Dev) (n : _) (op : _) (d1 : Dev), (Runs opConfigCan p s.dev p' d') ∧ (n = par p' 22 1) ∧ (op = par p' 23 1) ∧ (n ≤ 1) ∧ (op = 0) ∧ (d'.get (CAN_STATUS.STATE n) = 2) ∧ (d1 = d'.setCan n { d'.canCh n with stopRef := some (refOf p s.dev) })) ∧
    (∃ (s : State) (p : Packet) (p' : Packet) (d' : Dev) (n : _) (op : _) (d1 : Dev), (Runs opConfigCan p s.dev p' d') ∧ (n = par p' 22 1) ∧ (op = par p' 23 1) ∧ (n ≤ 1) ∧ (op = 3) ∧ (d1 = (if d'.get (CAN_STATUS.ERR_STATE n) = 2 then d'.set (CAN_STATUS.RECOVERING n) 1 else d'))) ∧
    (∃ (s : State) (p : Packet) (p' : Packet) (d' : Dev) (n : _) (op : _), (Runs opConfigCan p s.dev p' d') ∧ (n = par p' 22 1) ∧ (op = par p' 23 1) ∧ (n ≤ 1) ∧ (op = 1 ∨ op = 2 ∨ (4 ≤ op ∧ op ≤ 5 ∧ d'.mode = 11)) ∧ (d'.commitWaits (0x0D00 + n) = true ∨ d'.get (CAN_STATUS.STATE n) = 1 ∨ d'.get (CAN_STATUS.STATE n) = 3)) ∧
    (∃ (s : State) (p : Packet) (p' : Packet) (d' : Dev) (n : _) (op : _) (e : _) (ws : _), (Runs opConfigCan p s.dev p' d') ∧ (n = par p' 22 1) ∧ (op = par p' 23 1) ∧ (n ≤ 1) ∧ (op = 1 ∨ op = 2 ∨ (4 ≤ op ∧ op ≤ 5 ∧ d'.mode = 11)) ∧ (d'.commitWaits (0x0D00 + n) = false) ∧ (d'.get (CAN_STATUS.STATE n) ≠ 1) ∧ (d'.get (CAN_STATUS.STATE n) ≠ 3) ∧ (e = d'.forEach [(CAN_CTRL n, par p' 24 4 % 2 ^ 11), (CAN_ARB_TIMING n, par p' 28 4 % 2 ^ 31), (CAN_DATA_TIMING n, par p' 32 4 % 2 ^ 21), (CAN_DELAY_COMP n, withBits (d'.rd (CAN_DELAY_COMP n)) 15 0 (par p' 36 4))] (fun x d => d.wr x.1 x.2)) ∧ (ws = e.capture (canRegs n)) ∧ (d'.canBars n (d'.capWord ws) = true)) ∧
    (∃ (s : State) (p : Packet) (p' : Packet) (d' : Dev) (n : _) (op : _) (e : _) (ws : _) (r : _), (Runs opConfigCan p s.dev p' d') ∧ (n = par p' 22 1) ∧ (op = par p' 23 1) ∧ (n ≤ 1) ∧ (op = 1 ∨ op = 2 ∨ (4 ≤ op ∧ op ≤ 5 ∧ d'.mode = 11)) ∧ (d'.commitWaits (0x0D00 + n) = false) ∧ (d'.get (CAN_STATUS.STATE n) ≠ 1) ∧ (d'.get (CAN_STATUS.STATE n) ≠ 3) ∧ (e = d'.forEach [(CAN_CTRL n, par p' 24 4 % 2 ^ 11), (CAN_ARB_TIMING n, par p' 28 4 % 2 ^ 31), (CAN_DATA_TIMING n, par p' 32 4 % 2 ^ 21), (CAN_DELAY_COMP n, withBits (d'.rd (CAN_DELAY_COMP n)) 15 0 (par p' 36 4))] (fun x d => d.wr x.1 x.2)) ∧ (ws = e.capture (canRegs n)) ∧ (d'.canBars n (d'.capWord ws) = false) ∧ (d'.canFail n (d'.capWord ws) = some r)) ∧
    (∃ (s : State) (p : Packet) (p' : Packet) (d' : Dev) (n : _) (op : _) (e : _) (ws : _), (Runs opConfigCan p s.dev p' d') ∧ (n = par p' 22 1) ∧ (op = par p' 23 1) ∧ (n ≤ 1) ∧ (op = 1 ∨ op = 2 ∨ (4 ≤ op ∧ op ≤ 5 ∧ d'.mode = 11)) ∧ (d'.commitWaits (0x0D00 + n) = false) ∧ (d'.get (CAN_STATUS.STATE n) ≠ 1) ∧ (d'.get (CAN_STATUS.STATE n) ≠ 3) ∧ (e = d'.forEach [(CAN_CTRL n, par p' 24 4 % 2 ^ 11), (CAN_ARB_TIMING n, par p' 28 4 % 2 ^ 31), (CAN_DATA_TIMING n, par p' 32 4 % 2 ^ 21), (CAN_DELAY_COMP n, withBits (d'.rd (CAN_DELAY_COMP n)) 15 0 (par p' 36 4))] (fun x d => d.wr x.1 x.2)) ∧ (ws = e.capture (canRegs n)) ∧ (d'.canBars n (d'.capWord ws) = false) ∧ (d'.canFail n (d'.capWord ws) = none) ∧ (d'.sync = false)) ∧
    (∃ (s : State) (p : Packet) (p' : Packet) (d' : Dev) (n : _) (op : _) (e : _) (ws : _), (Runs opConfigCan p s.dev p' d') ∧ (n = par p' 22 1) ∧ (op = par p' 23 1) ∧ (n ≤ 1) ∧ (op = 1 ∨ op = 2 ∨ (4 ≤ op ∧ op ≤ 5 ∧ d'.mode = 11)) ∧ (d'.commitWaits (0x0D00 + n) = false) ∧ (d'.get (CAN_STATUS.STATE n) ≠ 1) ∧ (d'.get (CAN_STATUS.STATE n) ≠ 3) ∧ (e = d'.forEach [(CAN_CTRL n, par p' 24 4 % 2 ^ 11), (CAN_ARB_TIMING n, par p' 28 4 % 2 ^ 31), (CAN_DATA_TIMING n, par p' 32 4 % 2 ^ 21), (CAN_DELAY_COMP n, withBits (d'.rd (CAN_DELAY_COMP n)) 15 0 (par p' 36 4))] (fun x d => d.wr x.1 x.2)) ∧ (ws = e.capture (canRegs n)) ∧ (d'.canBars n (d'.capWord ws) = false) ∧ (d'.canFail n (d'.capWord ws) = none) ∧ (d'.sync = true)) ∧
    (∃ (s : State) (p : Packet) (p' : Packet) (d' : Dev) (n : _) (l : _) (k : _) (cap : _) (size : _), (Runs opLoadFilters p s.dev p' d') ∧ (n = par p' 22 1) ∧ (l = par p' 23 1) ∧ (k = par p' 32 2) ∧ (cap = (if l = 0 then d'.lget (CAN_RAM_RULES.COUNT n) else if l = 1 then d'.lget (CAN_RAM_MBX.COUNT n) else 8)) ∧ (size = (if l = 0 then 12 else 4)) ∧ (1 < n ∨ 2 < l)) ∧
    (∃ (s : State) (p : Packet) (p' : Packet) (d' : Dev) (n : _) (l : _) (k : _) (cap : _) (size : _), (Runs opLoadFilters p s.dev p' d') ∧ (n = par p' 22 1) ∧ (l = par p' 23 1) ∧ (k = par p' 32 2) ∧ (cap = (if l = 0 then d'.lget (CAN_RAM_RULES.COUNT n) else if l = 1 then d'.lget (CAN_RAM_MBX.COUNT n) else 8)) ∧ (size = (if l = 0 then 12 else 4)) ∧ (n ≤ 1) ∧ (l ≤ 2) ∧ (cap < k)) ∧
    (∃ (s : State) (p : Packet) (p' : Packet) (d' : Dev) (n : _) (l : _) (k : _) (cap : _) (size : _), (Runs opLoadFilters p s.dev p' d') ∧ (n = par p' 22 1) ∧ (l = par p' 23 1) ∧ (k = par p' 32 2) ∧ (cap = (if l = 0 then d'.lget (CAN_RAM_RULES.COUNT n) else if l = 1 then d'.lget (CAN_RAM_MBX.COUNT n) else 8)) ∧ (size = (if l = 0 then 12 else 4)) ∧ (n ≤ 1) ∧ (l ≤ 2) ∧ (k ≤ cap) ∧ (d'.commitWaits (0x0D00 + n) = true)) ∧
    (∃ (s : State) (p : Packet) (p' : Packet) (d' : Dev) (n : _) (l : _) (k : _) (cap : _) (size : _) (d1 : Dev), (Runs opLoadFilters p s.dev p' d') ∧ (n = par p' 22 1) ∧ (l = par p' 23 1) ∧ (k = par p' 32 2) ∧ (cap = (if l = 0 then d'.lget (CAN_RAM_RULES.COUNT n) else if l = 1 then d'.lget (CAN_RAM_MBX.COUNT n) else 8)) ∧ (size = (if l = 0 then 12 else 4)) ∧ (n ≤ 1) ∧ (l ≤ 2) ∧ (k ≤ cap) ∧ (d'.commitWaits (0x0D00 + n) = false) ∧ (p'.host = none) ∧ (d1 = d'.count32 HIF_DMA_ERR_CNT 1)) ∧
    (∃ (s : State) (p : Packet) (p' : Packet) (d' : Dev) (n : _) (l : _) (k : _) (cap : _) (size : _) (bs : List Byte) (ws : _) (e : _) (r : _), (Runs opLoadFilters p s.dev p' d') ∧ (n = par p' 22 1) ∧ (l = par p' 23 1) ∧ (k = par p' 32 2) ∧ (cap = (if l = 0 then d'.lget (CAN_RAM_RULES.COUNT n) else if l = 1 then d'.lget (CAN_RAM_MBX.COUNT n) else 8)) ∧ (size = (if l = 0 then 12 else 4)) ∧ (n ≤ 1) ∧ (l ≤ 2) ∧ (k ≤ cap) ∧ (d'.commitWaits (0x0D00 + n) = false) ∧ (p'.host = some bs) ∧ (ws = (if l = 0 then (List.range (3 * k)).map (fun i => (CAN_CTRL n + 0x4000 + d'.lget (CAN_RAM_RULES.START n) + 4 * i, BitVec.ofNat 32 (fieldAt (padTo (size * k) bs) (4 * i) 4))) else if l = 1 then (List.range k).map (fun i => (CAN_CTRL n + 0x4000 + d'.mbxOff n i, BitVec.ofNat 32 (fieldAt (padTo (size * k) bs) (4 * i) 4))) else (List.range k).map (fun i => (CAN_LAWMAP n i, BitVec.ofNat 32 (fieldAt (padTo (size * k) bs) (4 * i) 4) &&& 0x7FF7F)))) ∧ (e = d'.forEach ws (fun x d => if CAN_CTRL n + 0x4000 ≤ x.1 then d.canPut n (x.1 - (CAN_CTRL n + 0x4000)) (leBytes 4 x.2.toNat) else d.wr x.1 x.2.toNat)) ∧ (e.canFail n (e.capWord ws) = some r)) ∧
    (∃ (s : State) (p : Packet) (p' : Packet) (d' : Dev) (n : _) (l : _) (k : _) (cap : _) (size : _) (bs : List Byte) (ws : _) (e : _), (Runs opLoadFilters p s.dev p' d') ∧ (n = par p' 22 1) ∧ (l = par p' 23 1) ∧ (k = par p' 32 2) ∧ (cap = (if l = 0 then d'.lget (CAN_RAM_RULES.COUNT n) else if l = 1 then d'.lget (CAN_RAM_MBX.COUNT n) else 8)) ∧ (size = (if l = 0 then 12 else 4)) ∧ (n ≤ 1) ∧ (l ≤ 2) ∧ (k ≤ cap) ∧ (d'.commitWaits (0x0D00 + n) = false) ∧ (p'.host = some bs) ∧ (ws = (if l = 0 then (List.range (3 * k)).map (fun i => (CAN_CTRL n + 0x4000 + d'.lget (CAN_RAM_RULES.START n) + 4 * i, BitVec.ofNat 32 (fieldAt (padTo (size * k) bs) (4 * i) 4))) else if l = 1 then (List.range k).map (fun i => (CAN_CTRL n + 0x4000 + d'.mbxOff n i, BitVec.ofNat 32 (fieldAt (padTo (size * k) bs) (4 * i) 4))) else (List.range k).map (fun i => (CAN_LAWMAP n i, BitVec.ofNat 32 (fieldAt (padTo (size * k) bs) (4 * i) 4) &&& 0x7FF7F)))) ∧ (e = d'.forEach ws (fun x d => if CAN_CTRL n + 0x4000 ≤ x.1 then d.canPut n (x.1 - (CAN_CTRL n + 0x4000)) (leBytes 4 x.2.toNat) else d.wr x.1 x.2.toNat)) ∧ (e.canFail n (e.capWord ws) = none) ∧ (d'.sync = false)) ∧
    (∃ (s : State) (p : Packet) (p' : Packet) (d' : Dev) (n : _) (l : _) (k : _) (cap : _) (size : _) (bs : List Byte) (ws : _) (e : _), (Runs opLoadFilters p s.dev p' d') ∧ (n = par p' 22 1) ∧ (l = par p' 23 1) ∧ (k = par p' 32 2) ∧ (cap = (if l = 0 then d'.lget (CAN_RAM_RULES.COUNT n) else if l = 1 then d'.lget (CAN_RAM_MBX.COUNT n) else 8)) ∧ (size = (if l = 0 then 12 else 4)) ∧ (n ≤ 1) ∧ (l ≤ 2) ∧ (k ≤ cap) ∧ (d'.commitWaits (0x0D00 + n) = false) ∧ (p'.host = some bs) ∧ (ws = (if l = 0 then (List.range (3 * k)).map (fun i => (CAN_CTRL n + 0x4000 + d'.lget (CAN_RAM_RULES.START n) + 4 * i, BitVec.ofNat 32 (fieldAt (padTo (size * k) bs) (4 * i) 4))) else if l = 1 then (List.range k).map (fun i => (CAN_CTRL n + 0x4000 + d'.mbxOff n i, BitVec.ofNat 32 (fieldAt (padTo (size * k) bs) (4 * i) 4))) else (List.range k).map (fun i => (CAN_LAWMAP n i, BitVec.ofNat 32 (fieldAt (padTo (size * k) bs) (4 * i) 4) &&& 0x7FF7F)))) ∧ (e = d'.forEach ws (fun x d => if CAN_CTRL n + 0x4000 ≤ x.1 then d.canPut n (x.1 - (CAN_CTRL n + 0x4000)) (leBytes 4 x.2.toNat) else d.wr x.1 x.2.toNat)) ∧ (e.canFail n (e.capWord ws) = none) ∧ (d'.sync = true)) ∧
    (∃ (s : State) (p : Packet) (p' : Packet) (d' : Dev) (n : _) (k : _) (w : _), (Runs opStartAutobaud p s.dev p' d') ∧ (n = par p' 22 1) ∧ (k = par p' 23 1) ∧ (w = par p' 24 2) ∧ (1 < n ∨ k = 0 ∨ 8 < k ∨ w < 10 ∨ 5000 < w)) ∧
    (∃ (s : State) (p : Packet) (p' : Packet) (d' : Dev) (n : _) (k : _) (w : _), (Runs opStartAutobaud p s.dev p' d') ∧ (n = par p' 22 1) ∧ (k = par p' 23 1) ∧ (w = par p' 24 2) ∧ (n ≤ 1) ∧ (0 < k) ∧ (k ≤ 8) ∧ (10 ≤ w) ∧ (w ≤ 5000) ∧ (d'.get (CAN_STATUS.STATE n) ≠ 0)) ∧
    (∃ (s : State) (p : Packet) (p' : Packet) (d' : Dev) (n : _) (k : _) (w : _) (d1 : Dev), (Runs opStartAutobaud p s.dev p' d') ∧ (n = par p' 22 1) ∧ (k = par p' 23 1) ∧ (w = par p' 24 2) ∧ (n ≤ 1) ∧ (0 < k) ∧ (k ≤ 8) ∧ (10 ≤ w) ∧ (w ≤ 5000) ∧ (d'.get (CAN_STATUS.STATE n) = 0) ∧ (d1 = (d'.setCan n { d'.canCh n with auto := some ⟨(List.range k).map (fun i => (ext p' (8 * i) 4, ext p' (8 * i + 4) 4)), w, 0, 0, false, bitAt (par p' 26 1) 0⟩ }).set (CAN_STATUS.STATE n) 1)) ∧
    (∃ (s : State) (n : Fin 2), ((s.dev.canCh n.val).auto = none)) ∧
    (∃ (s : State) (n : Fin 2) (a : _), ((s.dev.canCh n.val).auto = some a) ∧ (a.idx + 1 < a.cands.length)) ∧
    (∃ (s : State) (n : Fin 2) (a : _), ((s.dev.canCh n.val).auto = some a) ∧ (a.cands.length ≤ a.idx + 1)) ∧
    (∃ (s : State) (p : Packet) (p' : Packet) (d' : Dev) (n : _) (f : _) (dlc : _) (id : _) (word : _) (db : _) (len : _) (bad : Bool), (Runs opCanSend p s.dev p' d') ∧ (n = par p' 22 1) ∧ (f = par p' 23 1) ∧ (dlc = par p' 28 1) ∧ (id = par p' 24 4) ∧ (word = id + 2 ^ 29 * flag (bitAt f 0) + 2 ^ 30 * flag (bitAt f 3)) ∧ (db = dlc + 16 * flag (bitAt f 1) + 32 * flag (bitAt f 2)) ∧ (len = frameLen word db) ∧ (bad = (decide (1 < n) || decide (64 ≤ f) || decide (15 < dlc) || decide ((if bitAt f 0 then 2 ^ 29 else 2 ^ 11) ≤ id) || (bitAt f 3 && bitAt f 1) || (bitAt f 2 && !bitAt f 1) || (bitAt f 1 && !bitAt (d'.lrd (CAN_CTRL n)) 3) || (bitAt f 2 && !bitAt (d'.lrd (CAN_CTRL n)) 4))) ∧ (bad = true)) ∧
    (∃ (s : State) (p : Packet) (p' : Packet) (d' : Dev) (n : _) (f : _) (dlc : _) (id : _) (word : _) (db : _) (len : _) (bad : Bool), (Runs opCanSend p s.dev p' d') ∧ (n = par p' 22 1) ∧ (f = par p' 23 1) ∧ (dlc = par p' 28 1) ∧ (id = par p' 24 4) ∧ (word = id + 2 ^ 29 * flag (bitAt f 0) + 2 ^ 30 * flag (bitAt f 3)) ∧ (db = dlc + 16 * flag (bitAt f 1) + 32 * flag (bitAt f 2)) ∧ (len = frameLen word db) ∧ (bad = (decide (1 < n) || decide (64 ≤ f) || decide (15 < dlc) || decide ((if bitAt f 0 then 2 ^ 29 else 2 ^ 11) ≤ id) || (bitAt f 3 && bitAt f 1) || (bitAt f 2 && !bitAt f 1) || (bitAt f 1 && !bitAt (d'.lrd (CAN_CTRL n)) 3) || (bitAt f 2 && !bitAt (d'.lrd (CAN_CTRL n)) 4))) ∧ (bad = false) ∧ (p'.len.toNat ≠ (len + 15) / 16)) ∧
    (∃ (s : State) (p : Packet) (p' : Packet) (d' : Dev) (n : _) (f : _) (dlc : _) (id : _) (word : _) (db : _) (len : _) (bad : Bool), (Runs opCanSend p s.dev p' d') ∧ (n = par p' 22 1) ∧ (f = par p' 23 1) ∧ (dlc = par p' 28 1) ∧ (id = par p' 24 4) ∧ (word = id + 2 ^ 29 * flag (bitAt f 0) + 2 ^ 30 * flag (bitAt f 3)) ∧ (db = dlc + 16 * flag (bitAt f 1) + 32 * flag (bitAt f 2)) ∧ (len = frameLen word db) ∧ (bad = (decide (1 < n) || decide (64 ≤ f) || decide (15 < dlc) || decide ((if bitAt f 0 then 2 ^ 29 else 2 ^ 11) ≤ id) || (bitAt f 3 && bitAt f 1) || (bitAt f 2 && !bitAt f 1) || (bitAt f 1 && !bitAt (d'.lrd (CAN_CTRL n)) 3) || (bitAt f 2 && !bitAt (d'.lrd (CAN_CTRL n)) 4))) ∧ (bad = false) ∧ (p'.len.toNat = (len + 15) / 16) ∧ ((List.range (d'.txCount n)).find? (fun b => decide (5 ≤ b) && (d'.canPending n b).isNone) = none)) ∧
    (∃ (s : State) (p : Packet) (p' : Packet) (d' : Dev) (n : _) (f : _) (dlc : _) (id : _) (word : _) (db : _) (len : _) (bad : Bool) (b : _) (e : _) (at_ : _) (tol : _), (Runs opCanSend p s.dev p' d') ∧ (n = par p' 22 1) ∧ (f = par p' 23 1) ∧ (dlc = par p' 28 1) ∧ (id = par p' 24 4) ∧ (word = id + 2 ^ 29 * flag (bitAt f 0) + 2 ^ 30 * flag (bitAt f 3)) ∧ (db = dlc + 16 * flag (bitAt f 1) + 32 * flag (bitAt f 2)) ∧ (len = frameLen word db) ∧ (bad = (decide (1 < n) || decide (64 ≤ f) || decide (15 < dlc) || decide ((if bitAt f 0 then 2 ^ 29 else 2 ^ 11) ≤ id) || (bitAt f 3 && bitAt f 1) || (bitAt f 2 && !bitAt f 1) || (bitAt f 1 && !bitAt (d'.lrd (CAN_CTRL n)) 3) || (bitAt f 2 && !bitAt (d'.lrd (CAN_CTRL n)) 4))) ∧ (bad = false) ∧ (p'.len.toNat = (len + 15) / 16) ∧ ((List.range (d'.txCount n)).find? (fun b => decide (5 ≤ b) && (d'.canPending n b).isNone) = some b) ∧ (at_ = par p' 30 10) ∧ (tol = p'.tol.toNat) ∧ (e = d'.fillBuffer n b word db (flag (bitAt f 5) + 2 * flag (bitAt f 4)) p'.tag.toNat at_ tol (extBytes p' 0 len)) ∧ (at_ = 0)) ∧
    (∃ (s : State) (p : Packet) (p' : Packet) (d' : Dev) (n : _) (f : _) (dlc : _) (id : _) (word : _) (db : _) (len : _) (bad : Bool) (b : _) (e : _) (at_ : _) (tol : _), (Runs opCanSend p s.dev p' d') ∧ (n = par p' 22 1) ∧ (f = par p' 23 1) ∧ (dlc = par p' 28 1) ∧ (id = par p' 24 4) ∧ (word = id + 2 ^ 29 * flag (bitAt f 0) + 2 ^ 30 * flag (bitAt f 3)) ∧ (db = dlc + 16 * flag (bitAt f 1) + 32 * flag (bitAt f 2)) ∧ (len = frameLen word db) ∧ (bad = (decide (1 < n) || decide (64 ≤ f) || decide (15 < dlc) || decide ((if bitAt f 0 then 2 ^ 29 else 2 ^ 11) ≤ id) || (bitAt f 3 && bitAt f 1) || (bitAt f 2 && !bitAt f 1) || (bitAt f 1 && !bitAt (d'.lrd (CAN_CTRL n)) 3) || (bitAt f 2 && !bitAt (d'.lrd (CAN_CTRL n)) 4))) ∧ (bad = false) ∧ (p'.len.toNat = (len + 15) / 16) ∧ ((List.range (d'.txCount n)).find? (fun b => decide (5 ≤ b) && (d'.canPending n b).isNone) = some b) ∧ (at_ = par p' 30 10) ∧ (tol = p'.tol.toNat) ∧ (e = d'.fillBuffer n b word db (flag (bitAt f 5) + 2 * flag (bitAt f 4)) p'.tag.toNat at_ tol (extBytes p' 0 len)) ∧ (at_ ≠ 0) ∧ (e.now + ns 1000 ≤ at_)) ∧
    (∃ (s : State) (p : Packet) (p' : Packet) (d' : Dev) (n : _) (f : _) (dlc : _) (id : _) (word : _) (db : _) (len : _) (bad : Bool) (b : _) (e : _) (at_ : _) (tol : _), (Runs opCanSend p s.dev p' d') ∧ (n = par p' 22 1) ∧ (f = par p' 23 1) ∧ (dlc = par p' 28 1) ∧ (id = par p' 24 4) ∧ (word = id + 2 ^ 29 * flag (bitAt f 0) + 2 ^ 30 * flag (bitAt f 3)) ∧ (db = dlc + 16 * flag (bitAt f 1) + 32 * flag (bitAt f 2)) ∧ (len = frameLen word db) ∧ (bad = (decide (1 < n) || decide (64 ≤ f) || decide (15 < dlc) || decide ((if bitAt f 0 then 2 ^ 29 else 2 ^ 11) ≤ id) || (bitAt f 3 && bitAt f 1) || (bitAt f 2 && !bitAt f 1) || (bitAt f 1 && !bitAt (d'.lrd (CAN_CTRL n)) 3) || (bitAt f 2 && !bitAt (d'.lrd (CAN_CTRL n)) 4))) ∧ (bad = false) ∧ (p'.len.toNat = (len + 15) / 16) ∧ ((List.range (d'.txCount n)).find? (fun b => decide (5 ≤ b) && (d'.canPending n b).isNone) = some b) ∧ (at_ = par p' 30 10) ∧ (tol = p'.tol.toNat) ∧ (e = d'.fillBuffer n b word db (flag (bitAt f 5) + 2 * flag (bitAt f 4)) p'.tag.toNat at_ tol (extBytes p' 0 len)) ∧ (at_ ≠ 0) ∧ (at_ < e.now + ns 1000) ∧ (0xFFFFFFFE ≤ tol ∨ e.now + ns 1000 - at_ ≤ ns tol)) ∧
    (∃ (s : State) (p : Packet) (p' : Packet) (d' : Dev) (n : _) (f : _) (dlc : _) (id : _) (word : _) (db : _) (len : _) (bad : Bool) (b : _) (e : _) (at_ : _) (tol : _), (Runs opCanSend p s.dev p' d') ∧ (n = par p' 22 1) ∧ (f = par p' 23 1) ∧ (dlc = par p' 28 1) ∧ (id = par p' 24 4) ∧ (word = id + 2 ^ 29 * flag (bitAt f 0) + 2 ^ 30 * flag (bitAt f 3)) ∧ (db = dlc + 16 * flag (bitAt f 1) + 32 * flag (bitAt f 2)) ∧ (len = frameLen word db) ∧ (bad = (decide (1 < n) || decide (64 ≤ f) || decide (15 < dlc) || decide ((if bitAt f 0 then 2 ^ 29 else 2 ^ 11) ≤ id) || (bitAt f 3 && bitAt f 1) || (bitAt f 2 && !bitAt f 1) || (bitAt f 1 && !bitAt (d'.lrd (CAN_CTRL n)) 3) || (bitAt f 2 && !bitAt (d'.lrd (CAN_CTRL n)) 4))) ∧ (bad = false) ∧ (p'.len.toNat = (len + 15) / 16) ∧ ((List.range (d'.txCount n)).find? (fun b => decide (5 ≤ b) && (d'.canPending n b).isNone) = some b) ∧ (at_ = par p' 30 10) ∧ (tol = p'.tol.toNat) ∧ (e = d'.fillBuffer n b word db (flag (bitAt f 5) + 2 * flag (bitAt f 4)) p'.tag.toNat at_ tol (extBytes p' 0 len)) ∧ (at_ ≠ 0) ∧ (at_ < e.now + ns 1000) ∧ (tol < 0xFFFFFFFE) ∧ (ns tol < e.now + ns 1000 - at_)) ∧
    (∃ (s : State) (p : Packet) (p' : Packet) (d' : Dev) (n : _), (Runs opCanStatus p s.dev p' d') ∧ (n = par p' 22 1) ∧ (1 < n)) ∧
    (∃ (s : State) (p : Packet) (p' : Packet) (d' : Dev) (n : _), (Runs opCanStatus p s.dev p' d') ∧ (n = par p' 22 1) ∧ (n ≤ 1)) ∧
    (∃ (s : State) (n : Fin 2), (s.dev.on (CAN_APPLY.APPLY n.val) = true ∨ s.dev.commitWaits (0x0D00 + n.val) = true)) ∧
    (∃ (s : State) (n : Fin 2) (ws : _), (s.dev.on (CAN_APPLY.APPLY n.val) = false) ∧ (s.dev.commitWaits (0x0D00 + n.val) = false) ∧ (ws = s.dev.capture (canRegs n.val)) ∧ (s.dev.canBars n.val (s.dev.capWord ws) = true ∨ s.dev.canFail n.val (s.dev.capWord ws) ≠ none)) ∧
    (∃ (s : State) (n : Fin 2) (ws : _), (s.dev.on (CAN_APPLY.APPLY n.val) = false) ∧ (s.dev.commitWaits (0x0D00 + n.val) = false) ∧ (ws = s.dev.capture (canRegs n.val)) ∧ (s.dev.canBars n.val (s.dev.capWord ws) = false) ∧ (s.dev.canFail n.val (s.dev.capWord ws) = none) ∧ (s.dev.sync = false)) ∧
    (∃ (s : State) (n : Fin 2) (ws : _), (s.dev.on (CAN_APPLY.APPLY n.val) = false) ∧ (s.dev.commitWaits (0x0D00 + n.val) = false) ∧ (ws = s.dev.capture (canRegs n.val)) ∧ (s.dev.canBars n.val (s.dev.capWord ws) = false) ∧ (s.dev.canFail n.val (s.dev.capWord ws) = none) ∧ (s.dev.sync = true)) :=
  ⟨⟨at_ 7 id, pk [(22, 1, 2)], _, _, _, _, runs_plain _ _ _ (by decide +kernel), rfl, rfl, .inl (by decide +kernel)⟩,
   ⟨at_ 7 id, pk [(23, 1, 4)], _, _, _, _, runs_plain _ _ _ (by decide +kernel), rfl, rfl, by decide +kernel⟩,
   ⟨at_ 7 id, pk [(22, 1, 1)], _, _, _, _, runs_plain _ _ _ (by decide +kernel), rfl, rfl, by decide +kernel⟩,
   ⟨canP 1 [] id, pk [], _, _, _, _, _, runs_plain _ _ _ (by decide +kernel), rfl, rfl, by decide +kernel, by decide +kernel, by decide +kernel, rfl⟩,
   ⟨canP 3 [] id, pk [], _, _, _, _, runs_plain _ _ _ (by decide +kernel), rfl, rfl, by decide +kernel⟩,
   ⟨canP 2 [pendC 5 (some 0)] id, pk [], _, _, _, _, _, runs_plain _ _ _ (by decide +kernel), rfl, rfl, by decide +kernel, by decide +kernel, by decide +kernel, rfl⟩,
   ⟨at_ 7 (fun d => d.set (CAN_STATUS.ERR_STATE 0) 2), pk [(23, 1, 3)], _, _, _, _, _, runs_plain _ _ _ (by decide +kernel), rfl, rfl, by decide +kernel, by decide +kernel, rfl⟩,
   ⟨at_ 7 (fun d => d.set (CAN_STATUS.STATE 0) 3), pk [(23, 1, 2)], _, _, _, _, runs_plain _ _ _ (by decide +kernel), rfl, rfl, by decide +kernel, .inr (.inl (by decide +kernel)), .inr (.inr (by decide +kernel))⟩,
   ⟨canP 2 [] id, pk [(23, 1, 1)], _, _, _, _, _, _, runs_plain _ _ _ (by decide +kernel), rfl, rfl, by decide +kernel, .inl (by decide +kernel), by decide +kernel, by decide +kernel, by decide +kernel, rfl, rfl, by decide +kernel⟩,
   ⟨canS 4 id, pk [(23, 1, 1)], _, _, _, _, _, _, _, runs_plain _ _ _ (by decide +kernel), rfl, rfl, by decide +kernel, .inl (by decide +kernel), by decide +kernel, by decide +kernel, by decide +kernel, rfl, rfl, by decide +kernel, rfl⟩,
   ⟨canS 4 id, pk [(23, 1, 1), (24, 4, 32), (28, 4, 118365699), (32, 4, 609152), (36, 4, 30)], _, _, _, _, _, _, runs_plain _ _ _ (by decide +kernel), rfl, rfl, by decide +kernel, .inl (by decide +kernel), by decide +kernel, by decide +kernel, by decide +kernel, rfl, rfl, by decide +kernel⟩,
   ⟨canS 7 id, pk [(23, 1, 1), (24, 4, 32), (28, 4, 118365699), (32, 4, 609152), (36, 4, 30)], _, _, _, _, _, _, runs_plain _ _ _ (by decide +kernel), rfl, rfl, by decide +kernel, .inl (by decide +kernel), by decide +kernel, by decide +kernel, by decide +kernel, rfl, rfl, by decide +kernel⟩,
   ⟨at_ 7 id, pk [(23, 1, 3)], _, _, _, _, _, _, _, runs_plain _ _ _ (by decide +kernel), rfl, rfl, rfl, rfl, rfl, .inr (by decide +kernel)⟩,
   ⟨at_ 7 id, pk [(32, 2, 1)], _, _, _, _, _, _, _, runs_plain _ _ _ (by decide +kernel), rfl, rfl, rfl, rfl, rfl, by decide +kernel⟩,
   ⟨at_ 7 (fun d => d.holdCommit 0xD00 [] none), pk [(23, 1, 2), (32, 2, 8)], _, _, _, _, _, _, _, runs_plain _ _ _ (by decide +kernel), rfl, rfl, rfl, rfl, rfl, by decide +kernel⟩,
   ⟨at_ 7 id, { pk [(23, 1, 2)] with host := none }, _, _, _, _, _, _, _, _, runs_plain _ _ _ (by decide +kernel), rfl, rfl, rfl, rfl, rfl, by decide +kernel, by decide +kernel, by decide +kernel, by decide +kernel, by decide +kernel, rfl⟩,
   ⟨at_ 7 id, pk [(23, 1, 2)], _, _, _, _, _, _, _, _, _, _, _, runs_plain _ _ _ (by decide +kernel), rfl, rfl, rfl, rfl, rfl, by decide +kernel, by decide +kernel, by decide +kernel, by decide +kernel, rfl, rfl, rfl, rfl⟩,
   ⟨canS 4 id, pk [(23, 1, 2)], _, _, _, _, _, _, _, _, _, _, runs_plain _ _ _ (by decide +kernel), rfl, rfl, rfl, rfl, rfl, by decide +kernel, by decide +kernel, by decide +kernel, by decide +kernel, rfl, rfl, rfl, by decide +kernel⟩,
   ⟨canS 7 id, pk [(23, 1, 2)], _, _, _, _, _, _, _, _, _, _, runs_plain _ _ _ (by decide +kernel), rfl, rfl, rfl, rfl, rfl, by decide +kernel, by decide +kernel, by decide +kernel, by decide +kernel, rfl, rfl, rfl, by decide +kernel⟩,
   ⟨at_ 7 id, pkx 4 [] [(22, 1, 2)], _, _, _, _, _, runs_plain _ _ _ (by decide +kernel), rfl, rfl, rfl, .inl (by decide +kernel)⟩,
   ⟨at_ 7 (fun d => d.set (CAN_STATUS.STATE 0) 2), pkx 4 [] [(23, 1, 8), (24, 2, 5000)], _, _, _, _, _, runs_plain _ _ _ (by decide +kernel), rfl, rfl, rfl, by decide +kernel⟩,
   ⟨at_ 7 id, pkx 4 [] [(23, 1, 1), (24, 2, 10)], _, _, _, _, _, _, runs_plain _ _ _ (by decide +kernel), rfl, rfl, rfl, by decide +kernel, by decide +kernel, by decide +kernel, by decide +kernel, by decide +kernel, by decide +kernel, rfl⟩,
   ⟨at_ 7 id, 1, by decide +kernel⟩,
   ⟨at_ 7 (fun d => d.setCan 0 { d.canCh 0 with auto := some ⟨[(0, 0), (0, 0)], 10, 0, 0, false, false⟩ }), 0, _, rfl, by decide +kernel⟩,
   ⟨at_ 7 (fun d => d.setCan 0 { d.canCh 0 with auto := some ⟨[(0, 0)], 10, 0, 0, false, false⟩ }), 0, _, rfl, by decide +kernel⟩,
   ⟨at_ 7 id, pk [(28, 1, 16)], _, _, _, _, _, _, _, _, _, _, runs_plain _ _ _ (by decide +kernel), rfl, rfl, rfl, rfl, rfl, rfl, rfl, rfl, by decide +kernel⟩,
   ⟨at_ 7 id, pk [(28, 1, 8)], _, _, _, _, _, _, _, _, _, _, runs_plain _ _ _ (by decide +kernel), rfl, rfl, rfl, rfl, rfl, rfl, rfl, rfl, by decide +kernel⟩,
   ⟨at_ 7 id, pk [], _, _, _, _, _, _, _, _, _, _, runs_plain _ _ _ (by decide +kernel), rfl, rfl, rfl, rfl, rfl, rfl, rfl, rfl, by decide +kernel⟩,
   ⟨canS 7 id, pkx 1 [] [(28, 1, 8), (24, 4, 2047)], _, _, _, _, _, _, _, _, _, _, _, _, _, _, runs_plain _ _ _ (by decide +kernel), rfl, rfl, rfl, rfl, rfl, rfl, rfl, rfl, by decide +kernel, by decide +kernel, rfl, rfl, rfl, rfl, by decide +kernel⟩,
   ⟨canS 7 id, pkx 1 [] [(28, 1, 8), (34, 4, 1000)], _, _, _, _, _, _, _, _, _, _, _, _, _, _, runs_plain _ _ _ (by decide +kernel), rfl, rfl, rfl, rfl, rfl, rfl, rfl, rfl, by decide +kernel, by decide +kernel, rfl, rfl, rfl, rfl, by decide +kernel⟩,
   ⟨canS 7 id, { pkx 1 [] [(28, 1, 8), (30, 4, 1)] with tol := 0xFFFFFFFF }, _, _, _, _, _, _, _, _, _, _, _, _, _, _, runs_plain _ _ _ (by decide +kernel), rfl, rfl, rfl, rfl, rfl, rfl, rfl, rfl, by decide +kernel, by decide +kernel, rfl, rfl, rfl, rfl, by decide +kernel, by decide +kernel, .inl (by decide +kernel)⟩,
   ⟨canS 7 id, pkx 1 [] [(28, 1, 8), (30, 4, 1)], _, _, _, _, _, _, _, _, _, _, _, _, _, _, runs_plain _ _ _ (by decide +kernel), rfl, rfl, rfl, rfl, rfl, rfl, rfl, rfl, by decide +kernel, by decide +kernel, rfl, rfl, rfl, rfl, by decide +kernel⟩,
   ⟨at_ 7 id, pk [(22, 1, 2)], _, _, _, runs_plain _ _ _ (by decide +kernel), rfl, by decide +kernel⟩,
   ⟨at_ 7 id, pk [(22, 1, 1)], _, _, _, runs_plain _ _ _ (by decide +kernel), rfl, by decide +kernel⟩,
   ⟨at_ 7 (fun d => d.set (CAN_APPLY.APPLY 1) 1), 1, .inl (by decide +kernel)⟩,
   ⟨at_ 7 id, 0, _, by decide +kernel, by decide +kernel, rfl, .inr (by decide +kernel)⟩,
   ⟨canS 4 id, 0, _, by decide +kernel, by decide +kernel, rfl, by decide +kernel⟩,
   ⟨canS 7 id, 0, _, by decide +kernel, by decide +kernel, rfl, by decide +kernel⟩⟩
/-- A witness for each clause of CanTransmitBuffersContendAndEnd. -/
theorem test_witness_CanTransmitBuffersContendAndEnd :
    (∃ (s : State) (n : Fin 2) (b : Fin 32) (at_ : _) (tol : _), (at_ = s.dev.canField n.val (s.dev.txOff n.val b.val + 4) 10) ∧ (tol = s.dev.canField n.val (s.dev.txOff n.val b.val + 16) 4) ∧ (b.val < 5 ∨ s.dev.txCount n.val ≤ b.val ∨ s.dev.canPending n.val b.val ≠ none)) ∧
    (∃ (s : State) (n : Fin 2) (b : Fin 32) (at_ : _) (tol : _), (at_ = s.dev.canField n.val (s.dev.txOff n.val b.val + 4) 10) ∧ (tol = s.dev.canField n.val (s.dev.txOff n.val b.val + 16) 4) ∧ (5 ≤ b.val) ∧ (b.val < s.dev.txCount n.val) ∧ (s.dev.canPending n.val b.val = none) ∧ (at_ = 0)) ∧
    (∃ (s : State) (n : Fin 2) (b : Fin 32) (at_ : _) (tol : _), (at_ = s.dev.canField n.val (s.dev.txOff n.val b.val + 4) 10) ∧ (tol = s.dev.canField n.val (s.dev.txOff n.val b.val + 16) 4) ∧ (5 ≤ b.val) ∧ (b.val < s.dev.txCount n.val) ∧ (s.dev.canPending n.val b.val = none) ∧ (at_ ≠ 0) ∧ (s.dev.now + ns 1000 ≤ at_)) ∧
    (∃ (s : State) (n : Fin 2) (b : Fin 32) (at_ : _) (tol : _), (at_ = s.dev.canField n.val (s.dev.txOff n.val b.val + 4) 10) ∧ (tol = s.dev.canField n.val (s.dev.txOff n.val b.val + 16) 4) ∧ (5 ≤ b.val) ∧ (b.val < s.dev.txCount n.val) ∧ (s.dev.canPending n.val b.val = none) ∧ (at_ ≠ 0) ∧ (at_ < s.dev.now + ns 1000) ∧ (0xFFFFFFFE ≤ tol ∨ s.dev.now + ns 1000 - at_ ≤ ns tol)) ∧
    (∃ (s : State) (n : Fin 2) (b : Fin 32) (at_ : _) (tol : _), (at_ = s.dev.canField n.val (s.dev.txOff n.val b.val + 4) 10) ∧ (tol = s.dev.canField n.val (s.dev.txOff n.val b.val + 16) 4) ∧ (5 ≤ b.val) ∧ (b.val < s.dev.txCount n.val) ∧ (s.dev.canPending n.val b.val = none) ∧ (at_ ≠ 0) ∧ (at_ < s.dev.now + ns 1000) ∧ (tol < 0xFFFFFFFE) ∧ (ns tol < s.dev.now + ns 1000 - at_)) ∧
    (∃ (s : State) (n : Fin 2) (b : Fin 32), (s.dev.canPending n.val b.val = none)) ∧
    (∃ (s : State) (n : Fin 2) (b : Fin 32) (onBus : Option (Fin 32)) (p : CanPend), (s.dev.canPending n.val b.val = some p) ∧ (onBus ≠ some b ∨ p.since = none ∨ s.dev.canSends n.val = false)) ∧
    (∃ (s : State) (n : Fin 2) (b : Fin 32) (onBus : Option (Fin 32)) (p : CanPend), (s.dev.canPending n.val b.val = some p) ∧ (onBus = some b) ∧ (p.since ≠ none) ∧ (s.dev.canSends n.val = true)) ∧
    (∃ (s : State) (n : Fin 2) (b : Fin 32), (s.dev.canPending n.val b.val = none)) ∧
    (∃ (s : State) (n : Fin 2) (b : Fin 32) (p : CanPend), (s.dev.canPending n.val b.val = some p) ∧ (p.since ≠ none)) ∧
    (∃ (s : State) (n : Fin 2) (b : Fin 32) (p : CanPend), (s.dev.canPending n.val b.val = some p) ∧ (p.since = none)) ∧
    (∃ (s : State) (n : Fin 2) (b : Fin 32) (sof : BitVec 80), ((s.dev.get (CAN_STATUS.STATE n.val) ≠ 2 ∧ s.dev.get (CAN_STATUS.STATE n.val) ≠ 3) ∨ (s.dev.canCh n.val).listen = true ∨ bitAt (s.dev.lrd (CAN_CTRL n.val)) 0 = true ∨ s.dev.get (CAN_STATUS.ERR_STATE n.val) = 2 ∨ s.dev.canWinner n.val sof.toNat ≠ some b.val)) ∧
    (∃ (s : State) (n : Fin 2) (b : Fin 32) (sof : BitVec 80) (dl : Option (BitVec 8)) (p : CanPend) (id : _) (dlc : _) (oneShot : Bool) (d1 : Dev), (s.dev.get (CAN_STATUS.STATE n.val) = 2 ∨ s.dev.get (CAN_STATUS.STATE n.val) = 3) ∧ ((s.dev.canCh n.val).listen = false) ∧ (bitAt (s.dev.lrd (CAN_CTRL n.val)) 0 = false) ∧ (s.dev.get (CAN_STATUS.ERR_STATE n.val) ≠ 2) ∧ (s.dev.canWinner n.val sof.toNat = some b.val) ∧ (s.dev.canPending n.val b.val = some p) ∧ (id = s.dev.canField n.val (s.dev.txOff n.val b.val) 4 % 2 ^ 31) ∧ (dlc = s.dev.canField n.val (s.dev.txOff n.val b.val + 14) 1) ∧ (oneShot = (bitAt (s.dev.lrd (CAN_CTRL n.val)) 6 || bitAt (s.dev.canField n.val (s.dev.txOff n.val b.val + 15) 1) 1)) ∧ (d1 = (match dl with | some m => if bitAt (s.dev.lrd (CAN_CTRL n.val)) 7 && bitAt dlc 4 && decide (bitsOf (s.dev.lrd (CAN_DELAY_COMP n.val)) 15 8 ≤ m.toNat) then s.dev.set (CAN_DELAY_COMP.MEASURED n.val) m.toNat else s.dev | none => s.dev)) ∧ (p.cancelled = true)) ∧
    (∃ (s : State) (n : Fin 2) (b : Fin 32) (sof : BitVec 80) (dl : Option (BitVec 8)) (p : CanPend) (id : _) (dlc : _) (oneShot : Bool) (d1 : Dev), (s.dev.get (CAN_STATUS.STATE n.val) = 2 ∨ s.dev.get (CAN_STATUS.STATE n.val) = 3) ∧ ((s.dev.canCh n.val).listen = false) ∧ (bitAt (s.dev.lrd (CAN_CTRL n.val)) 0 = false) ∧ (s.dev.get (CAN_STATUS.ERR_STATE n.val) ≠ 2) ∧ (s.dev.canWinner n.val sof.toNat = some b.val) ∧ (s.dev.canPending n.val b.val = some p) ∧ (id = s.dev.canField n.val (s.dev.txOff n.val b.val) 4 % 2 ^ 31) ∧ (dlc = s.dev.canField n.val (s.dev.txOff n.val b.val + 14) 1) ∧ (oneShot = (bitAt (s.dev.lrd (CAN_CTRL n.val)) 6 || bitAt (s.dev.canField n.val (s.dev.txOff n.val b.val + 15) 1) 1)) ∧ (d1 = (match dl with | some m => if bitAt (s.dev.lrd (CAN_CTRL n.val)) 7 && bitAt dlc 4 && decide (bitsOf (s.dev.lrd (CAN_DELAY_COMP n.val)) 15 8 ≤ m.toNat) then s.dev.set (CAN_DELAY_COMP.MEASURED n.val) m.toNat else s.dev | none => s.dev)) ∧ (p.cancelled = false) ∧ (oneShot = true)) ∧
    (∃ (s : State) (n : Fin 2) (b : Fin 32) (sof : BitVec 80) (dl : Option (BitVec 8)) (p : CanPend) (id : _) (dlc : _) (oneShot : Bool) (d1 : Dev), (s.dev.get (CAN_STATUS.STATE n.val) = 2 ∨ s.dev.get (CAN_STATUS.STATE n.val) = 3) ∧ ((s.dev.canCh n.val).listen = false) ∧ (bitAt (s.dev.lrd (CAN_CTRL n.val)) 0 = false) ∧ (s.dev.get (CAN_STATUS.ERR_STATE n.val) ≠ 2) ∧ (s.dev.canWinner n.val sof.toNat = some b.val) ∧ (s.dev.canPending n.val b.val = some p) ∧ (id = s.dev.canField n.val (s.dev.txOff n.val b.val) 4 % 2 ^ 31) ∧ (dlc = s.dev.canField n.val (s.dev.txOff n.val b.val + 14) 1) ∧ (oneShot = (bitAt (s.dev.lrd (CAN_CTRL n.val)) 6 || bitAt (s.dev.canField n.val (s.dev.txOff n.val b.val + 15) 1) 1)) ∧ (d1 = (match dl with | some m => if bitAt (s.dev.lrd (CAN_CTRL n.val)) 7 && bitAt dlc 4 && decide (bitsOf (s.dev.lrd (CAN_DELAY_COMP n.val)) 15 8 ≤ m.toNat) then s.dev.set (CAN_DELAY_COMP.MEASURED n.val) m.toNat else s.dev | none => s.dev)) ∧ (p.cancelled = false) ∧ (oneShot = false)) ∧
    (∃ (s : State) (n : Fin 2) (b : Fin 32) (sof : BitVec 80) (dl : Option (BitVec 8)) (p : CanPend) (id : _) (dlc : _) (oneShot : Bool) (d1 : Dev) (data : _) (d2 : Dev) (d3 : _) (d4 : _), (s.dev.get (CAN_STATUS.STATE n.val) = 2 ∨ s.dev.get (CAN_STATUS.STATE n.val) = 3) ∧ ((s.dev.canCh n.val).listen = false) ∧ (bitAt (s.dev.lrd (CAN_CTRL n.val)) 0 = false) ∧ (s.dev.get (CAN_STATUS.ERR_STATE n.val) ≠ 2) ∧ (s.dev.canWinner n.val sof.toNat = some b.val) ∧ (s.dev.canPending n.val b.val = some p) ∧ (id = s.dev.canField n.val (s.dev.txOff n.val b.val) 4 % 2 ^ 31) ∧ (dlc = s.dev.canField n.val (s.dev.txOff n.val b.val + 14) 1) ∧ (oneShot = (bitAt (s.dev.lrd (CAN_CTRL n.val)) 6 || bitAt (s.dev.canField n.val (s.dev.txOff n.val b.val + 15) 1) 1)) ∧ (d1 = (match dl with | some m => if bitAt (s.dev.lrd (CAN_CTRL n.val)) 7 && bitAt dlc 4 && decide (bitsOf (s.dev.lrd (CAN_DELAY_COMP n.val)) 15 8 ≤ m.toNat) then s.dev.set (CAN_DELAY_COMP.MEASURED n.val) m.toNat else s.dev | none => s.dev)) ∧ (data = d1.canBytes n.val (s.dev.txOff n.val b.val + 24) (frameLen id dlc)) ∧ (d2 = (if d1.canLoop n.val = 4 then d1 else d1.emit (.can n.val id data))) ∧ (d3 = d2.endBuffer n.val { p with attempts := p.attempts + 1 } (if p.late then 3 else 0) sof.toNat (if p.late then stLATE else stOK)) ∧ (d4 = (if (d3.canCh n.val).tec = 0 then d3 else d3.canCounters n.val ((d3.canCh n.val).tec - 1) (d3.canRec n.val)))) :=
  ⟨⟨at_ 7 id, 0, 4, _, _, rfl, rfl, .inl (by decide +kernel)⟩,
   ⟨canS 7 id, 0, 5, _, _, rfl, rfl, by decide +kernel⟩,
   ⟨canS 7 (Dev.canPut 0 484 (leBytes 10 (2 ^ 42))), 0, 5, _, _, rfl, rfl, by decide +kernel⟩,
   ⟨canS 7 (fun d => Dev.canPut 0 496 (leBytes 4 0xFFFFFFFF) (Dev.canPut 0 484 (leBytes 10 1) d)), 0, 5, _, _, rfl, rfl, by decide +kernel, by decide +kernel, by decide +kernel, by decide +kernel, by decide +kernel, .inl (by decide +kernel)⟩,
   ⟨canS 7 (Dev.canPut 0 484 (leBytes 10 1)), 0, 5, _, _, rfl, rfl, by decide +kernel⟩,
   ⟨at_ 7 id, 0, 31, by decide +kernel⟩,
   ⟨canP 2 [pendC 5 none] id, 0, 5, none, _, rfl, .inl (by decide +kernel)⟩,
   ⟨canP 2 [pendC 5 (some 0)] id, 0, 5, (some 5), _, rfl, by decide +kernel⟩,
   ⟨at_ 7 id, 0, 31, by decide +kernel⟩,
   ⟨canP 2 [pendC 5 (some 0)] id, 0, 5, _, rfl, by decide +kernel⟩,
   ⟨canP 2 [pendC 5 none] id, 0, 5, _, rfl, by decide +kernel⟩,
   ⟨at_ 7 id, 0, 5, 0, .inl (by decide +kernel)⟩,
   ⟨canP 2 [⟨5, some 0, 0, false, 0, true, none⟩] id, 0, 5, 0, none, _, _, _, _, _, .inl (by decide +kernel), by decide +kernel, by decide +kernel, by decide +kernel, by decide +kernel, rfl, rfl, rfl, rfl, rfl, by decide +kernel⟩,
   ⟨canP 2 [pendC 5 (some 0)] (Dev.goLive (CAN_CTRL 0) 0x40), 0, 5, 0, none, _, _, _, _, _, .inl (by decide +kernel), by decide +kernel, by decide +kernel, by decide +kernel, by decide +kernel, rfl, rfl, rfl, rfl, rfl, by decide +kernel⟩,
   ⟨canP 2 [pendC 5 (some 0)] (Dev.goLive (CAN_CTRL 0) 0), 0, 5, 0, none, _, _, _, _, _, .inl (by decide +kernel), by decide +kernel, by decide +kernel, by decide +kernel, by decide +kernel, rfl, rfl, rfl, rfl, rfl, by decide +kernel⟩,
   ⟨canP 2 [pendC 5 (some 0)] id, 0, 5, 0, none, _, _, _, _, _, _, _, _, _, .inl (by decide +kernel), by decide +kernel, by decide +kernel, by decide +kernel, by decide +kernel, rfl, rfl, rfl, rfl, rfl, rfl, rfl, rfl, rfl⟩⟩
/-- A witness for each clause of CanChannelsReceiveAndCount. -/
theorem test_witness_CanChannelsReceiveAndCount :
    (∃ (s : State) (n : Fin 2), (s.dev.get (CAN_STATUS.STATE n.val) = 0 ∨ s.dev.get (CAN_STATUS.ERR_STATE n.val) = 2 ∨ s.dev.canLoop n.val = 4)) ∧
    (∃ (s : State) (n : Fin 2), (s.dev.get (CAN_STATUS.STATE n.val) ≠ 0) ∧ (s.dev.get (CAN_STATUS.ERR_STATE n.val) ≠ 2) ∧ (s.dev.canLoop n.val ≠ 4)) ∧
    (∃ (s : State) (n : Fin 2) (ack : Bool), (s.dev.get (CAN_STATUS.STATE n.val) = 1) ∧ (s.dev.get (CAN_STATUS.ERR_STATE n.val) ≠ 2) ∧ (s.dev.canLoop n.val ≠ 4) ∧ (ack = false ∨ (s.dev.canCh n.val).auto = none)) ∧
    (∃ (s : State) (n : Fin 2) (dlc : BitVec 6) (ack : Bool) (a : _) (d1 : Dev), (s.dev.get (CAN_STATUS.STATE n.val) = 1) ∧ (s.dev.get (CAN_STATUS.ERR_STATE n.val) ≠ 2) ∧ (s.dev.canLoop n.val ≠ 4) ∧ ((s.dev.canCh n.val).auto = some a) ∧ (ack = true) ∧ (d1 = s.dev.setCan n.val { s.dev.canCh n.val with auto := some { a with good := a.good + 1, verified := a.verified || bitAt dlc.toNat 5 } })) ∧
    (∃ (s : State) (n : Fin 2) (id : Word) (dlc : BitVec 6) (sof : BitVec 80) (x : List Byte) (data : _) (ctrl : Nat) (d0 : Dev) (d1 : Dev) (elem : Nat → List Byte) (rule : Nat → List Byte) (hit : Option Nat) (mbx : Option Nat), (2 ≤ s.dev.get (CAN_STATUS.STATE n.val)) ∧ (s.dev.get (CAN_STATUS.ERR_STATE n.val) ≠ 2) ∧ (s.dev.canLoop n.val ≠ 4) ∧ (data = padTo (frameLen id.toNat dlc.toNat) x) ∧ (d0 = s.dev.canGoodRx n.val) ∧ (ctrl = d0.lrd (CAN_CTRL n.val)) ∧ (d1 = (if bitAt id.toNat 30 then d0 else d0.forEach (d0.usedConns.filter (fun c => fieldAt (connEntry d0.safSet c) 4 1 == 3 && fieldAt (connEntry d0.safSet c) 11 1 == n.val && fieldAt (connEntry d0.safSet c) 12 4 % 2 ^ 30 == id.toNat % 2 ^ 30)) (fun c d => d.pduReceived c data))) ∧ (elem = (fun (r : Nat) => canElement id.toNat dlc.toNat r sof.toNat data)) ∧ (rule = (fun (i : Nat) => d1.canBytes n.val (d1.lget (CAN_RAM_RULES.START n.val) + 12 * i) 12)) ∧ (hit = (List.range (d1.lget (CAN_RAM_RULES.COUNT n.val))).find? (fun i => canMatches id.toNat (rule i))) ∧ (mbx = (List.range (d1.lget (CAN_RAM_MBX.COUNT n.val))).find? (fun m => bitAt (d1.canField n.val (d1.mbxOff n.val m) 4) 31 && d1.canField n.val (d1.mbxOff n.val m) 4 % 2 ^ 30 == id.toNat % 2 ^ 30)) ∧ (bitAt ctrl 2 = true) ∧ (bitAt ctrl 10 = true) ∧ (bitAt id.toNat 30 = true)) ∧
    (∃ (s : State) (n : Fin 2) (id : Word) (dlc : BitVec 6) (sof : BitVec 80) (x : List Byte) (data : _) (ctrl : Nat) (d0 : Dev) (d1 : Dev) (elem : Nat → List Byte) (rule : Nat → List Byte) (hit : Option Nat) (mbx : Option Nat), (2 ≤ s.dev.get (CAN_STATUS.STATE n.val)) ∧ (s.dev.get (CAN_STATUS.ERR_STATE n.val) ≠ 2) ∧ (s.dev.canLoop n.val ≠ 4) ∧ (data = padTo (frameLen id.toNat dlc.toNat) x) ∧ (d0 = s.dev.canGoodRx n.val) ∧ (ctrl = d0.lrd (CAN_CTRL n.val)) ∧ (d1 = (if bitAt id.toNat 30 then d0 else d0.forEach (d0.usedConns.filter (fun c => fieldAt (connEntry d0.safSet c) 4 1 == 3 && fieldAt (connEntry d0.safSet c) 11 1 == n.val && fieldAt (connEntry d0.safSet c) 12 4 % 2 ^ 30 == id.toNat % 2 ^ 30)) (fun c d => d.pduReceived c data))) ∧ (elem = (fun (r : Nat) => canElement id.toNat dlc.toNat r sof.toNat data)) ∧ (rule = (fun (i : Nat) => d1.canBytes n.val (d1.lget (CAN_RAM_RULES.START n.val) + 12 * i) 12)) ∧ (hit = (List.range (d1.lget (CAN_RAM_RULES.COUNT n.val))).find? (fun i => canMatches id.toNat (rule i))) ∧ (mbx = (List.range (d1.lget (CAN_RAM_MBX.COUNT n.val))).find? (fun m => bitAt (d1.canField n.val (d1.mbxOff n.val m) 4) 31 && d1.canField n.val (d1.mbxOff n.val m) 4 % 2 ^ 30 == id.toNat % 2 ^ 30)) ∧ (bitAt ctrl 2 = true) ∧ (bitAt ctrl 10 = false ∨ bitAt id.toNat 30 = false) ∧ (mbx = none)) ∧
    (∃ (s : State) (n : Fin 2) (id : Word) (dlc : BitVec 6) (sof : BitVec 80) (x : List Byte) (data : _) (ctrl : Nat) (d0 : Dev) (d1 : Dev) (elem : Nat → List Byte) (rule : Nat → List Byte) (hit : Option Nat) (mbx : Option Nat) (m : _), (2 ≤ s.dev.get (CAN_STATUS.STATE n.val)) ∧ (s.dev.get (CAN_STATUS.ERR_STATE n.val) ≠ 2) ∧ (s.dev.canLoop n.val ≠ 4) ∧ (data = padTo (frameLen id.toNat dlc.toNat) x) ∧ (d0 = s.dev.canGoodRx n.val) ∧ (ctrl = d0.lrd (CAN_CTRL n.val)) ∧ (d1 = (if bitAt id.toNat 30 then d0 else d0.forEach (d0.usedConns.filter (fun c => fieldAt (connEntry d0.safSet c) 4 1 == 3 && fieldAt (connEntry d0.safSet c) 11 1 == n.val && fieldAt (connEntry d0.safSet c) 12 4 % 2 ^ 30 == id.toNat % 2 ^ 30)) (fun c d => d.pduReceived c data))) ∧ (elem = (fun (r : Nat) => canElement id.toNat dlc.toNat r sof.toNat data)) ∧ (rule = (fun (i : Nat) => d1.canBytes n.val (d1.lget (CAN_RAM_RULES.START n.val) + 12 * i) 12)) ∧ (hit = (List.range (d1.lget (CAN_RAM_RULES.COUNT n.val))).find? (fun i => canMatches id.toNat (rule i))) ∧ (mbx = (List.range (d1.lget (CAN_RAM_MBX.COUNT n.val))).find? (fun m => bitAt (d1.canField n.val (d1.mbxOff n.val m) 4) 31 && d1.canField n.val (d1.mbxOff n.val m) 4 % 2 ^ 30 == id.toNat % 2 ^ 30)) ∧ (bitAt ctrl 2 = true) ∧ (bitAt ctrl 10 = false ∨ bitAt id.toNat 30 = false) ∧ (mbx = some m)) ∧
    (∃ (s : State) (n : Fin 2) (id : Word) (dlc : BitVec 6) (sof : BitVec 80) (x : List Byte) (data : _) (ctrl : Nat) (d0 : Dev) (d1 : Dev) (elem : Nat → List Byte) (rule : Nat → List Byte) (hit : Option Nat) (mbx : Option Nat), (2 ≤ s.dev.get (CAN_STATUS.STATE n.val)) ∧ (s.dev.get (CAN_STATUS.ERR_STATE n.val) ≠ 2) ∧ (s.dev.canLoop n.val ≠ 4) ∧ (data = padTo (frameLen id.toNat dlc.toNat) x) ∧ (d0 = s.dev.canGoodRx n.val) ∧ (ctrl = d0.lrd (CAN_CTRL n.val)) ∧ (d1 = (if bitAt id.toNat 30 then d0 else d0.forEach (d0.usedConns.filter (fun c => fieldAt (connEntry d0.safSet c) 4 1 == 3 && fieldAt (connEntry d0.safSet c) 11 1 == n.val && fieldAt (connEntry d0.safSet c) 12 4 % 2 ^ 30 == id.toNat % 2 ^ 30)) (fun c d => d.pduReceived c data))) ∧ (elem = (fun (r : Nat) => canElement id.toNat dlc.toNat r sof.toNat data)) ∧ (rule = (fun (i : Nat) => d1.canBytes n.val (d1.lget (CAN_RAM_RULES.START n.val) + 12 * i) 12)) ∧ (hit = (List.range (d1.lget (CAN_RAM_RULES.COUNT n.val))).find? (fun i => canMatches id.toNat (rule i))) ∧ (mbx = (List.range (d1.lget (CAN_RAM_MBX.COUNT n.val))).find? (fun m => bitAt (d1.canField n.val (d1.mbxOff n.val m) 4) 31 && d1.canField n.val (d1.mbxOff n.val m) 4 % 2 ^ 30 == id.toNat % 2 ^ 30)) ∧ (bitAt ctrl 2 = false) ∧ (d1.ha 3 = true)) ∧
    (∃ (s : State) (n : Fin 2) (id : Word) (dlc : BitVec 6) (sof : BitVec 80) (x : List Byte) (data : _) (ctrl : Nat) (d0 : Dev) (d1 : Dev) (elem : Nat → List Byte) (rule : Nat → List Byte) (hit : Option Nat) (mbx : Option Nat), (2 ≤ s.dev.get (CAN_STATUS.STATE n.val)) ∧ (s.dev.get (CAN_STATUS.ERR_STATE n.val) ≠ 2) ∧ (s.dev.canLoop n.val ≠ 4) ∧ (data = padTo (frameLen id.toNat dlc.toNat) x) ∧ (d0 = s.dev.canGoodRx n.val) ∧ (ctrl = d0.lrd (CAN_CTRL n.val)) ∧ (d1 = (if bitAt id.toNat 30 then d0 else d0.forEach (d0.usedConns.filter (fun c => fieldAt (connEntry d0.safSet c) 4 1 == 3 && fieldAt (connEntry d0.safSet c) 11 1 == n.val && fieldAt (connEntry d0.safSet c) 12 4 % 2 ^ 30 == id.toNat % 2 ^ 30)) (fun c d => d.pduReceived c data))) ∧ (elem = (fun (r : Nat) => canElement id.toNat dlc.toNat r sof.toNat data)) ∧ (rule = (fun (i : Nat) => d1.canBytes n.val (d1.lget (CAN_RAM_RULES.START n.val) + 12 * i) 12)) ∧ (hit = (List.range (d1.lget (CAN_RAM_RULES.COUNT n.val))).find? (fun i => canMatches id.toNat (rule i))) ∧ (mbx = (List.range (d1.lget (CAN_RAM_MBX.COUNT n.val))).find? (fun m => bitAt (d1.canField n.val (d1.mbxOff n.val m) 4) 31 && d1.canField n.val (d1.mbxOff n.val m) 4 % 2 ^ 30 == id.toNat % 2 ^ 30)) ∧ (bitAt ctrl 2 = false) ∧ (d1.ha 3 = false) ∧ (bitAt ctrl 10 = true) ∧ (bitAt id.toNat 30 = true)) ∧
    (∃ (s : State) (n : Fin 2) (id : Word) (dlc : BitVec 6) (sof : BitVec 80) (x : List Byte) (data : _) (ctrl : Nat) (d0 : Dev) (d1 : Dev) (elem : Nat → List Byte) (rule : Nat → List Byte) (hit : Option Nat) (mbx : Option Nat), (2 ≤ s.dev.get (CAN_STATUS.STATE n.val)) ∧ (s.dev.get (CAN_STATUS.ERR_STATE n.val) ≠ 2) ∧ (s.dev.canLoop n.val ≠ 4) ∧ (data = padTo (frameLen id.toNat dlc.toNat) x) ∧ (d0 = s.dev.canGoodRx n.val) ∧ (ctrl = d0.lrd (CAN_CTRL n.val)) ∧ (d1 = (if bitAt id.toNat 30 then d0 else d0.forEach (d0.usedConns.filter (fun c => fieldAt (connEntry d0.safSet c) 4 1 == 3 && fieldAt (connEntry d0.safSet c) 11 1 == n.val && fieldAt (connEntry d0.safSet c) 12 4 % 2 ^ 30 == id.toNat % 2 ^ 30)) (fun c d => d.pduReceived c data))) ∧ (elem = (fun (r : Nat) => canElement id.toNat dlc.toNat r sof.toNat data)) ∧ (rule = (fun (i : Nat) => d1.canBytes n.val (d1.lget (CAN_RAM_RULES.START n.val) + 12 * i) 12)) ∧ (hit = (List.range (d1.lget (CAN_RAM_RULES.COUNT n.val))).find? (fun i => canMatches id.toNat (rule i))) ∧ (mbx = (List.range (d1.lget (CAN_RAM_MBX.COUNT n.val))).find? (fun m => bitAt (d1.canField n.val (d1.mbxOff n.val m) 4) 31 && d1.canField n.val (d1.mbxOff n.val m) 4 % 2 ^ 30 == id.toNat % 2 ^ 30)) ∧ (bitAt ctrl 2 = false) ∧ (d1.ha 3 = false) ∧ (bitAt ctrl 10 = false ∨ bitAt id.toNat 30 = false) ∧ (hit = none)) ∧
    (∃ (s : State) (n : Fin 2) (id : Word) (dlc : BitVec 6) (sof : BitVec 80) (x : List Byte) (data : _) (ctrl : Nat) (d0 : Dev) (d1 : Dev) (elem : Nat → List Byte) (rule : Nat → List Byte) (hit : Option Nat) (mbx : Option Nat) (i : _) (d2 : Dev) (dest : Nat), (2 ≤ s.dev.get (CAN_STATUS.STATE n.val)) ∧ (s.dev.get (CAN_STATUS.ERR_STATE n.val) ≠ 2) ∧ (s.dev.canLoop n.val ≠ 4) ∧ (data = padTo (frameLen id.toNat dlc.toNat) x) ∧ (d0 = s.dev.canGoodRx n.val) ∧ (ctrl = d0.lrd (CAN_CTRL n.val)) ∧ (d1 = (if bitAt id.toNat 30 then d0 else d0.forEach (d0.usedConns.filter (fun c => fieldAt (connEntry d0.safSet c) 4 1 == 3 && fieldAt (connEntry d0.safSet c) 11 1 == n.val && fieldAt (connEntry d0.safSet c) 12 4 % 2 ^ 30 == id.toNat % 2 ^ 30)) (fun c d => d.pduReceived c data))) ∧ (elem = (fun (r : Nat) => canElement id.toNat dlc.toNat r sof.toNat data)) ∧ (rule = (fun (i : Nat) => d1.canBytes n.val (d1.lget (CAN_RAM_RULES.START n.val) + 12 * i) 12)) ∧ (hit = (List.range (d1.lget (CAN_RAM_RULES.COUNT n.val))).find? (fun i => canMatches id.toNat (rule i))) ∧ (mbx = (List.range (d1.lget (CAN_RAM_MBX.COUNT n.val))).find? (fun m => bitAt (d1.canField n.val (d1.mbxOff n.val m) 4) 31 && d1.canField n.val (d1.mbxOff n.val m) 4 % 2 ^ 30 == id.toNat % 2 ^ 30)) ∧ (bitAt ctrl 2 = false) ∧ (d1.ha 3 = false) ∧ (bitAt ctrl 10 = false ∨ bitAt id.toNat 30 = false) ∧ (hit = some i) ∧ (dest = fieldAt (rule i) 8 1 % 8) ∧ (d2 = (if dest = 2 then d1 else d1.rxPush n.val (if dest = 1 ∨ dest = 4 then 1 else 0) (elem i))) ∧ (dest < 3 ∨ data.length < 12 ∨ d1.permit = false ∨ d1.sync = false) ∧ (bitAt (fieldAt (rule i) 8 1) 3 = false ∨ dest = 2)) ∧
    (∃ (s : State) (n : Fin 2) (id : Word) (dlc : BitVec 6) (sof : BitVec 80) (x : List Byte) (data : _) (ctrl : Nat) (d0 : Dev) (d1 : Dev) (elem : Nat → List Byte) (rule : Nat → List Byte) (hit : Option Nat) (mbx : Option Nat) (i : _), (2 ≤ s.dev.get (CAN_STATUS.STATE n.val)) ∧ (s.dev.get (CAN_STATUS.ERR_STATE n.val) ≠ 2) ∧ (s.dev.canLoop n.val ≠ 4) ∧ (data = padTo (frameLen id.toNat dlc.toNat) x) ∧ (d0 = s.dev.canGoodRx n.val) ∧ (ctrl = d0.lrd (CAN_CTRL n.val)) ∧ (d1 = (if bitAt id.toNat 30 then d0 else d0.forEach (d0.usedConns.filter (fun c => fieldAt (connEntry d0.safSet c) 4 1 == 3 && fieldAt (connEntry d0.safSet c) 11 1 == n.val && fieldAt (connEntry d0.safSet c) 12 4 % 2 ^ 30 == id.toNat % 2 ^ 30)) (fun c d => d.pduReceived c data))) ∧ (elem = (fun (r : Nat) => canElement id.toNat dlc.toNat r sof.toNat data)) ∧ (rule = (fun (i : Nat) => d1.canBytes n.val (d1.lget (CAN_RAM_RULES.START n.val) + 12 * i) 12)) ∧ (hit = (List.range (d1.lget (CAN_RAM_RULES.COUNT n.val))).find? (fun i => canMatches id.toNat (rule i))) ∧ (mbx = (List.range (d1.lget (CAN_RAM_MBX.COUNT n.val))).find? (fun m => bitAt (d1.canField n.val (d1.mbxOff n.val m) 4) 31 && d1.canField n.val (d1.mbxOff n.val m) 4 % 2 ^ 30 == id.toNat % 2 ^ 30)) ∧ (bitAt ctrl 2 = false) ∧ (d1.ha 3 = false) ∧ (bitAt ctrl 10 = false ∨ bitAt id.toNat 30 = false) ∧ (hit = some i)) ∧
    (∃ (s : State) (n : Fin 2) (k : Fin 7) (dat : Bool) (d1 : Dev), (d1 = (s.dev.count32 (CAN_ERR_CNT n.val) 1).set (if dat then CAN_STATUS.DATA_ERROR n.val else CAN_STATUS.LAST_ERROR n.val) k.val) ∧ (s.dev.get (CAN_STATUS.STATE n.val) = 0 ∨ k = 0 ∨ s.dev.get (CAN_STATUS.ERR_STATE n.val) = 2)) ∧
    (∃ (s : State) (n : Fin 2) (k : Fin 7) (dat : Bool) (d1 : Dev), (d1 = (s.dev.count32 (CAN_ERR_CNT n.val) 1).set (if dat then CAN_STATUS.DATA_ERROR n.val else CAN_STATUS.LAST_ERROR n.val) k.val) ∧ (k ≠ 0) ∧ (s.dev.get (CAN_STATUS.ERR_STATE n.val) ≠ 2) ∧ (s.dev.get (CAN_STATUS.STATE n.val) = 1)) ∧
    (∃ (s : State) (n : Fin 2) (k : Fin 7) (dat : Bool) (tx : Bool) (ex : Bool) (d1 : Dev), (d1 = (s.dev.count32 (CAN_ERR_CNT n.val) 1).set (if dat then CAN_STATUS.DATA_ERROR n.val else CAN_STATUS.LAST_ERROR n.val) k.val) ∧ (k ≠ 0) ∧ (s.dev.get (CAN_STATUS.ERR_STATE n.val) ≠ 2) ∧ (2 ≤ s.dev.get (CAN_STATUS.STATE n.val)) ∧ (tx = true) ∧ (ex = true) ∧ (k = 1 ∨ (k = 3 ∧ s.dev.get (CAN_STATUS.ERR_STATE n.val) = 1))) ∧
    (∃ (s : State) (n : Fin 2) (k : Fin 7) (dat : Bool) (tx : Bool) (ex : Bool) (d1 : Dev), (d1 = (s.dev.count32 (CAN_ERR_CNT n.val) 1).set (if dat then CAN_STATUS.DATA_ERROR n.val else CAN_STATUS.LAST_ERROR n.val) k.val) ∧ (k ≠ 0) ∧ (s.dev.get (CAN_STATUS.ERR_STATE n.val) ≠ 2) ∧ (2 ≤ s.dev.get (CAN_STATUS.STATE n.val)) ∧ (tx = true) ∧ (ex = false ∨ (k ≠ 1 ∧ (k ≠ 3 ∨ s.dev.get (CAN_STATUS.ERR_STATE n.val) ≠ 1)))) ∧
    (∃ (s : State) (n : Fin 2) (k : Fin 7) (dat : Bool) (tx : Bool) (d1 : Dev), (d1 = (s.dev.count32 (CAN_ERR_CNT n.val) 1).set (if dat then CAN_STATUS.DATA_ERROR n.val else CAN_STATUS.LAST_ERROR n.val) k.val) ∧ (k ≠ 0) ∧ (s.dev.get (CAN_STATUS.ERR_STATE n.val) ≠ 2) ∧ (2 ≤ s.dev.get (CAN_STATUS.STATE n.val)) ∧ (tx = false)) ∧
    (∃ (s : State) (n : Fin 2), (s.dev.get (CAN_STATUS.ERR_STATE n.val) ≠ 2 ∨ s.dev.on (CAN_STATUS.RECOVERING n.val) = false)) ∧
    (∃ (s : State) (n : Fin 2), (s.dev.get (CAN_STATUS.ERR_STATE n.val) = 2) ∧ (s.dev.on (CAN_STATUS.RECOVERING n.val) = true)) ∧
    (∃ (s : State) (n : Fin 2) (w : _) (k : _) (d1 : Dev), (w = s.dev.lrd (CAN_HB_ID n.val)) ∧ (k = ((s.dev.canCh n.val).beat + 1) % 65536) ∧ (d1 = s.dev.setCan n.val { s.dev.canCh n.val with beat := k }) ∧ (s.dev.mode < 4 ∨ bitAt w 31 = false)) ∧
    (∃ (s : State) (n : Fin 2) (w : _) (k : _) (d1 : Dev), (w = s.dev.lrd (CAN_HB_ID n.val)) ∧ (k = ((s.dev.canCh n.val).beat + 1) % 65536) ∧ (d1 = s.dev.setCan n.val { s.dev.canCh n.val with beat := k }) ∧ (4 ≤ s.dev.mode) ∧ (bitAt w 31 = true) ∧ (d1.get (CAN_STATUS.STATE n.val) ≠ 2 ∨ d1.txCount n.val ≤ 4)) ∧
    (∃ (s : State) (n : Fin 2) (w : _) (k : _) (d1 : Dev), (w = s.dev.lrd (CAN_HB_ID n.val)) ∧ (k = ((s.dev.canCh n.val).beat + 1) % 65536) ∧ (d1 = s.dev.setCan n.val { s.dev.canCh n.val with beat := k }) ∧ (4 ≤ s.dev.mode) ∧ (bitAt w 31 = true) ∧ (d1.get (CAN_STATUS.STATE n.val) = 2) ∧ (4 < d1.txCount n.val)) ∧
    (∃ (s : State) (n : Fin 2) (k : Fin 2) (i : BitVec 6) (size : _) (f : _) (g : _), (size = bitsOf (s.dev.lrd (if k = 0 then CAN_RAM_RX0 n.val else CAN_RAM_RX1 n.val)) 23 16) ∧ (f = s.dev.get (CAN_RX_STATUS.FILL n.val k.val)) ∧ (g = s.dev.get (CAN_RX_STATUS.GET n.val k.val)) ∧ (size ≤ i.toNat ∨ f < (i.toNat + size - g) % size + 1)) ∧
    (∃ (s : State) (n : Fin 2) (k : Fin 2) (i : BitVec 6) (size : _) (f : _) (g : _), (size = bitsOf (s.dev.lrd (if k = 0 then CAN_RAM_RX0 n.val else CAN_RAM_RX1 n.val)) 23 16) ∧ (f = s.dev.get (CAN_RX_STATUS.FILL n.val k.val)) ∧ (g = s.dev.get (CAN_RX_STATUS.GET n.val k.val)) ∧ (i.toNat < size) ∧ ((i.toNat + size - g) % size + 1 ≤ f)) ∧
    (∃ (s : State) (n : Fin 2) (i : BitVec 5) (size : _) (f : _) (g : _), (size = s.dev.lget (CAN_RAM_TXE.COUNT n.val)) ∧ (f = s.dev.get (CAN_TXE_STATUS.FILL n.val)) ∧ (g = s.dev.get (CAN_TXE_STATUS.GET n.val)) ∧ (size ≤ i.toNat ∨ f < (i.toNat + size - g) % size + 1)) ∧
    (∃ (s : State) (n : Fin 2) (i : BitVec 5) (size : _) (f : _) (g : _), (size = s.dev.lget (CAN_RAM_TXE.COUNT n.val)) ∧ (f = s.dev.get (CAN_TXE_STATUS.FILL n.val)) ∧ (g = s.dev.get (CAN_TXE_STATUS.GET n.val)) ∧ (i.toNat < size) ∧ ((i.toNat + size - g) % size + 1 ≤ f)) ∧
    (∃ (s : State) (n : Fin 2) (m : Fin 64), (bitAt (s.dev.lrd (CAN_CTRL n.val)) 2 = false ∨ s.dev.lget (CAN_RAM_MBX.COUNT n.val) ≤ m.val)) ∧
    (∃ (s : State) (n : Fin 2) (m : Fin 64) (d0 : Dev) (st : _) (o : _), (bitAt (s.dev.lrd (CAN_CTRL n.val)) 2 = true) ∧ (m.val < s.dev.lget (CAN_RAM_MBX.COUNT n.val)) ∧ (d0 = (if s.dev.mbxLocked n.val = some m.val then s.dev else s.dev.mbxRelease n.val false)) ∧ (st = withBits (d0.canField n.val (d0.mbxOff n.val m.val + 4) 4) 2 2 1) ∧ (o = s.dev.mbxOff n.val m.val + 0x5C)) ∧
    (∃ (s : State) (n : Fin 2) (m : Fin 64) (d0 : Dev) (st : _) (o : _), (bitAt (s.dev.lrd (CAN_CTRL n.val)) 2 = true) ∧ (m.val < s.dev.lget (CAN_RAM_MBX.COUNT n.val)) ∧ (d0 = (if s.dev.mbxLocked n.val = some m.val then s.dev else s.dev.mbxRelease n.val false)) ∧ (st = withBits (d0.canField n.val (d0.mbxOff n.val m.val + 4) 4) 2 2 1) ∧ (o = s.dev.mbxOff n.val m.val + 0x5C) ∧ (s.dev.mbxLocked n.val ≠ some m.val)) ∧
    (∃ (s : State) (n : Fin 2) (m : Fin 64) (d0 : Dev) (st : _) (o : _), (bitAt (s.dev.lrd (CAN_CTRL n.val)) 2 = true) ∧ (m.val < s.dev.lget (CAN_RAM_MBX.COUNT n.val)) ∧ (d0 = (if s.dev.mbxLocked n.val = some m.val then s.dev else s.dev.mbxRelease n.val false)) ∧ (st = withBits (d0.canField n.val (d0.mbxOff n.val m.val + 4) 4) 2 2 1) ∧ (o = s.dev.mbxOff n.val m.val + 0x5C) ∧ (s.dev.mbxLocked n.val = some m.val) ∧ ((s.dev.canCh n.val).held = none)) ∧
    (∃ (s : State) (n : Fin 2) (m : Fin 64) (d0 : Dev) (st : _) (o : _) (e : _), (bitAt (s.dev.lrd (CAN_CTRL n.val)) 2 = true) ∧ (m.val < s.dev.lget (CAN_RAM_MBX.COUNT n.val)) ∧ (d0 = (if s.dev.mbxLocked n.val = some m.val then s.dev else s.dev.mbxRelease n.val false)) ∧ (st = withBits (d0.canField n.val (d0.mbxOff n.val m.val + 4) 4) 2 2 1) ∧ (o = s.dev.mbxOff n.val m.val + 0x5C) ∧ (s.dev.mbxLocked n.val = some m.val) ∧ ((s.dev.canCh n.val).held = some e)) ∧
    (∃ (s : State) (n : Fin 2), (s.dev.mbxLocked n.val = none)) ∧
    (∃ (s : State) (n : Fin 2) (k : _), (s.dev.mbxLocked n.val = some k)) :=
  ⟨⟨at_ 7 id, 0, .inl (by decide +kernel)⟩,
   ⟨canP 2 [] id, 0, by decide +kernel⟩,
   ⟨canP 1 [] id, 0, false, by decide +kernel, by decide +kernel, by decide +kernel, .inl (by decide +kernel)⟩,
   ⟨canP 1 [] (fun d => d.setCan 0 { d.canCh 0 with auto := some ⟨[(0, 0)], 10, 0, 1, false, false⟩ }), 0, 0, true, _, _, by decide +kernel, by decide +kernel, by decide +kernel, rfl, by decide +kernel, rfl⟩,
   ⟨canP 2 [] (Dev.goLive (CAN_CTRL 0) 0x404), 0, 0x40000000, 0, 0, [], _, _, _, _, _, _, _, _, by decide +kernel, by decide +kernel, by decide +kernel, rfl, rfl, rfl, rfl, rfl, rfl, rfl, rfl, by decide +kernel⟩,
   ⟨canP 2 [] (Dev.goLive (CAN_CTRL 0) 4), 0, 0, 0, 0, [], _, _, _, _, _, _, _, _, by decide +kernel, by decide +kernel, by decide +kernel, rfl, rfl, rfl, rfl, rfl, rfl, rfl, rfl, by decide +kernel, .inl (by decide +kernel), by decide +kernel⟩,
   ⟨canP 2 [] (fun d => ((Dev.canPut 0 0x1000 (leBytes 4 (2 ^ 31)) d).goLive (CAN_RAM_MBX 0) 0x11000).goLive (CAN_CTRL 0) 4), 0, 0, 0, 0, [], _, _, _, _, _, _, _, _, _, by decide +kernel, by decide +kernel, by decide +kernel, rfl, rfl, rfl, rfl, rfl, rfl, rfl, rfl, by decide +kernel, .inl (by decide +kernel), rfl⟩,
   ⟨canP 2 [] (Dev.cond (condHA 3) true), 0, 0, 0, 0, [], _, _, _, _, _, _, _, _, by decide +kernel, by decide +kernel, by decide +kernel, rfl, rfl, rfl, rfl, rfl, rfl, rfl, rfl, by decide +kernel⟩,
   ⟨canP 2 [] (Dev.goLive (CAN_CTRL 0) 0x400), 0, 0x40000000, 0, 0, [], _, _, _, _, _, _, _, _, by decide +kernel, by decide +kernel, by decide +kernel, rfl, rfl, rfl, rfl, rfl, rfl, rfl, rfl, by decide +kernel⟩,
   ⟨canP 2 [] id, 0, 0, 0, 0, [], _, _, _, _, _, _, _, _, by decide +kernel, by decide +kernel, by decide +kernel, rfl, rfl, rfl, rfl, rfl, rfl, rfl, rfl, by decide +kernel, by decide +kernel, .inl (by decide +kernel), by decide +kernel⟩,
   ⟨canP 2 [] (fun d => ((Dev.canPut 0 0x1000 (leBytes 4 0x40000000) d).goLive (CAN_RAM_RULES 0) 0x11000)), 0, 0, 0, 0, [], _, _, _, _, _, _, _, _, _, _, _, by decide +kernel, by decide +kernel, by decide +kernel, rfl, rfl, rfl, rfl, rfl, rfl, rfl, rfl, by decide +kernel, by decide +kernel, .inl (by decide +kernel), rfl, rfl, rfl, .inl (by decide +kernel), .inl (by decide +kernel)⟩,
   ⟨canP 2 [] (fun d => ((Dev.canPut 0 0x1000 (leBytes 4 0x40000000) d).goLive (CAN_RAM_RULES 0) 0x11000)), 0, 0, 0, 0, [], _, _, _, _, _, _, _, _, _, by decide +kernel, by decide +kernel, by decide +kernel, rfl, rfl, rfl, rfl, rfl, rfl, rfl, rfl, by decide +kernel, by decide +kernel, .inl (by decide +kernel), rfl⟩,
   ⟨at_ 7 id, 0, 6, false, _, rfl, .inl (by decide +kernel)⟩,
   ⟨canP 1 [] id, 0, 1, false, _, rfl, by decide +kernel⟩,
   ⟨canP 2 [] id, 0, 1, false, true, true, _, rfl, by decide +kernel, by decide +kernel, by decide +kernel, by decide +kernel, by decide +kernel, .inl (by decide +kernel)⟩,
   ⟨canP 3 [] id, 0, 1, false, true, false, _, rfl, by decide +kernel, by decide +kernel, by decide +kernel, by decide +kernel, .inl (by decide +kernel)⟩,
   ⟨canP 2 [] id, 0, 1, false, false, _, rfl, by decide +kernel⟩,
   ⟨at_ 7 id, 0, .inl (by decide +kernel)⟩,
   ⟨canP 2 [] (fun d => (d.set (CAN_STATUS.ERR_STATE 0) 2).set (CAN_STATUS.RECOVERING 0) 1), 0, by decide +kernel⟩,
   ⟨at_ 3 id, 0, _, _, _, rfl, rfl, rfl, .inl (by decide +kernel)⟩,
   ⟨at_ 4 (Dev.goLive (CAN_HB_ID 0) 0x80000000), 0, _, _, _, rfl, rfl, rfl, by decide +kernel, by decide +kernel, .inl (by decide +kernel)⟩,
   ⟨canP 2 [] (Dev.goLive (CAN_HB_ID 0) 0x80000000), 0, _, _, _, rfl, rfl, rfl, by decide +kernel⟩,
   ⟨at_ 7 id, 0, 0, 0, _, _, _, rfl, rfl, rfl, .inl (by decide +kernel)⟩,
   ⟨at_ 7 (fun d => (Dev.goLive (CAN_RAM_RX0 0) 0x80000 d).set (CAN_RX_STATUS.FILL 0 0) 8), 0, 0, 7, _, _, _, rfl, rfl, rfl, by decide +kernel⟩,
   ⟨at_ 7 id, 0, 0, _, _, _, rfl, rfl, rfl, .inl (by decide +kernel)⟩,
   ⟨at_ 7 (fun d => (Dev.goLive (CAN_RAM_TXE 0) 0x80000 d).set (CAN_TXE_STATUS.FILL 0) 8), 0, 7, _, _, _, rfl, rfl, rfl, by decide +kernel⟩,
   ⟨at_ 7 id, 0, 63, .inl (by decide +kernel)⟩,
   ⟨at_ 7 (fun d => (Dev.goLive (CAN_RAM_MBX 0) 0x400000 d).goLive (CAN_CTRL 0) 4), 0, 63, _, _, _, by decide +kernel, by decide +kernel, rfl, rfl, rfl⟩,
   ⟨at_ 7 (fun d => (Dev.goLive (CAN_RAM_MBX 0) 0x400000 d).goLive (CAN_CTRL 0) 4), 0, 63, _, _, _, by decide +kernel, by decide +kernel, rfl, rfl, rfl, by decide +kernel⟩,
   ⟨at_ 7 (fun d => ((Dev.goLive (CAN_RAM_MBX 0) 0x400000 d).goLive (CAN_CTRL 0) 4).set (CAN_MBX_LOCK.LOCKED 0) 1), 0, 0, _, _, _, by decide +kernel, by decide +kernel, rfl, rfl, rfl, by decide +kernel⟩,
   ⟨at_ 7 (fun d => ((Dev.goLive (CAN_RAM_MBX 0) 0x400000 (d.setCan 0 { d.canCh 0 with held := some [] })).goLive (CAN_CTRL 0) 4).set (CAN_MBX_LOCK.LOCKED 0) 1), 0, 0, _, _, _, _, by decide +kernel, by decide +kernel, rfl, rfl, rfl, by decide +kernel, rfl⟩,
   ⟨at_ 7 id, 1, by decide +kernel⟩,
   ⟨at_ 7 (fun d => (d.set (CAN_MBX_LOCK.LOCKED 1) 1).set (CAN_MBX_LOCK.MAILBOX 1) 63), 1, _, rfl⟩⟩
/-- A witness for each clause of Bar0AccessSizes. -/
theorem test_witness_Bar0AccessSizes :
    (∃ (s : State) (a : BitVec 24), (s.dev.ready = true) ∧ (a.toNat % 8 = 0) ∧ (¬(0xC0000 ≤ a.toNat ∧ a.toNat < 0xD0000))) ∧
    (∃ (s : State) (a : BitVec 24), (s.dev.ready = true) ∧ (a.toNat % 4 = 0) ∧ (¬(0xC0000 ≤ a.toNat ∧ a.toNat < 0xD0000))) ∧
    (∃ (s : State) (a : BitVec 24) (n : BitVec 8), (s.dev.ready = true) ∧ ((n.toNat ≠ 4 ∧ n.toNat ≠ 8) ∨ a.toNat % n.toNat ≠ 0)) ∧
    (∃ (s : State) (a : BitVec 24), (s.dev.ready = true) ∧ (a.toNat % 8 = 0)) ∧
    (∃ (s : State) (a : BitVec 24), (s.dev.ready = true) ∧ (a.toNat % 4 = 0)) :=
  ⟨⟨at_ 7 id, 0xBFFF8, by decide +kernel⟩,
   ⟨at_ 7 id, 0xD0004, by decide +kernel⟩,
   ⟨at_ 7 id, 0xC0002, 4, by decide +kernel, .inr (by decide)⟩,
   ⟨at_ 7 id, 0xC0008, by decide +kernel⟩,
   ⟨at_ 7 id, 0xC0004, by decide +kernel⟩⟩
/-- A witness for each clause of RegisterBitsFollowTheirAccess. -/
theorem test_witness_RegisterBitsFollowTheirAccess :
    (∃ (s : State) (a : BitVec 24) (r : RegDesc), (s.dev.ready = true) ∧ (a.toNat % 4 = 0) ∧ (a.toNat < 0x10000) ∧ (descOf a.toNat = some r) ∧ (a.toNat ≠ SYS_DRILL_LIMIT) ∧ (a.toNat ≠ SYS_COND_EVT_EN) ∧ (a.toNat ≠ PIN_MFP_OUT) ∧ (indexIn a.toNat (PIN_MFP 0) 4 24 = none)) ∧
    (∃ (s : State) (a : BitVec 24), (s.dev.ready = true) ∧ (a.toNat % 4 = 0) ∧ (a.toNat < 0x10000) ∧ (descOf a.toNat = none)) ∧
    (∃ (s : State) (a : BitVec 24), (s.dev.ready = true) ∧ (a.toNat % 4 = 0) ∧ (0xC0000 ≤ a.toNat) ∧ (a.toNat < 0xD0000)) ∧
    (∃ (s : State) (a : BitVec 24) (x : Nat) (r : RegDesc), (s.dev.ready = true) ∧ (a.toNat % 4 = 0) ∧ (a.toNat < 0x10000) ∧ (descOf a.toNat = some r) ∧ (isLatched a.toNat = false) ∧ (latchesNext a.toNat = false) ∧ (latchesTwo a.toNat = false) ∧ (s.dev.busNow s.backup a.toNat = (x, s.dev))) ∧
    (∃ (s : State), (s.dev.ready = true)) ∧
    (∃ (s : State), (s.dev.ready = false)) ∧
    (∃ (s : State) (a : BitVec 24), (s.dev.ready = true) ∧ (a.toNat % 4 = 0) ∧ (0x400000 ≤ a.toNat)) :=
  ⟨⟨at_ 7 id, 0, _, by decide +kernel, by decide +kernel, by decide +kernel, rfl, by decide +kernel⟩,
   ⟨at_ 7 id, 0xFFFC, by decide +kernel⟩,
   ⟨at_ 7 id, 0xC0000, by decide +kernel⟩,
   ⟨at_ 7 id, 0, _, _, by decide +kernel, by decide +kernel, by decide +kernel, rfl, by decide +kernel, by decide +kernel, by decide +kernel, rfl⟩,
   ⟨at_ 7 id, by decide +kernel⟩,
   ⟨State.reset, by decide +kernel⟩,
   ⟨at_ 7 id, 0x400000, by decide +kernel⟩⟩
/-- A witness for each clause of BiquadStagesRun. -/
theorem test_witness_BiquadStagesRun :
    (∃ (co : Nat → Nat) (x : Nat) (s1 : Nat) (y : Nat), (y = fpFma (co 0) x s1)) ∧
    (∃ (co : Nat → Nat → Nat) (n : Nat) (m : Nat) (k : Nat) (x : Nat) (st : List Nat) (a : Nat × List Nat) (b : Nat × List Nat), (2 * n ≤ st.length) ∧ (a = biquadChain co n k x (st.take (2 * n))) ∧ (b = biquadChain co m (k + n) a.1 (st.drop (2 * n)))) ∧
    (∃ (P : Nat → Nat) (i : LawIn) (s : AxisState) (t : AxisState) (a : Nat × List Nat) (b : Nat × List Nat), (t = controllers P i false s) ∧ (optSplit P = 0) ∧ (a = biquadChain (fun k c => P (pPBQ k c)) (optPbq P) 0 (fpAdd (fpAdd ((t.nodes[4]?).getD 0) s.ip) ((t.nodes[6]?).getD 0)) s.pbq) ∧ (b = biquadChain (fun k c => P (pVBQ k c)) (optVbq P) 0 ((t.nodes[14]?).getD 0) s.vbq)) ∧
    (∃ (P : Nat → Nat) (i : LawIn) (s : AxisState) (t : AxisState) (a : Nat × List Nat), (t = controllers P i false s) ∧ (optSplit P = 1) ∧ (a = biquadChain (fun k c => P (pPBQ k c)) (optPbq P) 0 (fpAdd (fpAdd ((t.nodes[4]?).getD 0) s.ip) ((t.nodes[6]?).getD 0)) s.pbq)) :=
  ⟨⟨fun k => 0x3F800000 + k, 0x40000000, 0, _, rfl⟩,
   ⟨fun a b => 0x3F800000 + a + b, 1, 1, 0, 0x40000000, [1, 2, 3, 4], _, _, by decide +kernel, rfl, rfl⟩,
   ⟨fun k => if k = pOPT then 0x500 else 0x3F800000, lawIn0, AxisState.reset, _, _, _, rfl, by decide +kernel, rfl, rfl⟩,
   ⟨fun k => if k = pOPT then 0x501 else 0x3F800000, lawIn0, AxisState.reset, _, _, rfl, by decide +kernel, rfl⟩⟩
/-- A witness for each clause of JogAndStopRampsRun. -/
theorem test_witness_JogAndStopRampsRun :
    (∃ (s : State) (p : Packet) (p' : Packet) (d' : Dev) (a : _), (Runs opMoveProfile p s.dev p' d') ∧ (a = par p' 22 2) ∧ (a < 512) ∧ (par p' 24 1 = 1) ∧ (fpFinite (par p' 26 4) = true) ∧ ((d'.axis a).faulted = false) ∧ (d'.groupLatched (d'.groupOf a) = false) ∧ (d'.trc.ident = none)) ∧
    (∃ (d : Dev) (a : Nat) (stops : Nat), (bitAt stops (d.groupOf a) = false) ∧ (d.groupLatched (d.groupOf a) = false) ∧ ((d.axis a).faulted = false)) ∧
    (∃ (vt : Nat) (step : Nat) (s : AxisState), (fpLt s.vs vt = true) ∧ (fpLt vt (fpAdd s.vs step) = false)) ∧
    (∃ (vt : Nat) (step : Nat) (s : AxisState), (fpLt s.vs vt = true) ∧ (fpLt vt (fpAdd s.vs step) = true)) ∧
    (∃ (vt : Nat) (step : Nat) (s : AxisState), (fpLt vt s.vs = true) ∧ (fpLt s.vs vt = false) ∧ (fpLt (fpSub s.vs step) vt = false)) ∧
    (∃ (vt : Nat) (step : Nat) (s : AxisState), (fpLt vt s.vs = true) ∧ (fpLt s.vs vt = false) ∧ (fpLt (fpSub s.vs step) vt = true)) ∧
    (∃ (vt : Nat) (s : AxisState), (fpLt s.vs vt = false) ∧ (fpLt vt s.vs = false)) ∧
    (∃ (period : Nat) (vt : Nat) (step : Nat) (s : AxisState) (t : AxisState), (t = rampStep period vt step s)) ∧
    (∃ (P : Nat → Nat) (i : LawIn) (s : AxisState) (t : AxisState), (s.first = false) ∧ (i.follows = false) ∧ (s.stopping = true ∨ s.stopped = true) ∧ (t = rampStep i.period 0 (fpMul (P pSTOP_DECEL) (constTS i.period)) s)) :=
  ⟨⟨at_ 7 id, pk [(22, 2, 511), (24, 1, 1)], _, _, _, runs_plain _ _ _ (by decide +kernel), rfl, by decide +kernel⟩,
   ⟨(at_ 7 id).dev, 5, 0, by decide +kernel⟩,
   ⟨0x40000000, 0x3F000000, AxisState.reset, by decide +kernel⟩,
   ⟨0x3F000000, 0x40000000, AxisState.reset, by decide +kernel⟩,
   ⟨0xC0000000, 0x3F000000, AxisState.reset, by decide +kernel⟩,
   ⟨0xBF000000, 0x40000000, AxisState.reset, by decide +kernel⟩,
   ⟨0, AxisState.reset, by decide +kernel⟩,
   ⟨0, 0x40000000, 0, AxisState.reset, _, rfl⟩,
   ⟨fun k => 0x3F800000, lawIn0, { AxisState.reset with stopping := true, vs := 0x40000000 }, _, by decide +kernel, by decide +kernel, by decide +kernel, rfl⟩⟩
/-- A witness for each clause of PacketsAreFetchedHeldDispatchedAndInstalled. -/
theorem test_witness_PacketsAreFetchedHeldDispatchedAndInstalled (hg : nullCipher) (hs : everySignature) :
    (∃ (s : State) (heads : _), (s.dev.nothingDue) ∧ (s.dev.ready = false ∨ s.dev.pickRing heads = none)) ∧
    (∃ (s : State) (s1 : State) (heads : _) (host : _) (q : Fin 64) (b : List Byte) (c : Instr) (op : Opcode), (s.dev.ready = true) ∧ (s.dev.pickRing heads = some (q, b)) ∧ (s1 = s.onDev (Dev.fetched q.val (entriesOf b))) ∧ (packetOf c s1 = some (op, parsePacket q b host)) ∧ (op.code = fieldAt b 0 2)) ∧
    (∃ (s : State) (s1 : State) (heads : _) (q : Fin 64) (b : List Byte), (s.dev.ready = true) ∧ (s.dev.pickRing heads = some (q, b)) ∧ (s1 = s.onDev (Dev.fetched q.val (entriesOf b))) ∧ (fieldAt b 0 2 = 0xFFFF)) ∧
    (∃ (s : State), (s.dev.nothingDue) ∧ (s.dev.hif.held = [])) ∧
    (∃ (s : State) (h : HeldPacket) (d0 : Dev) (c : Instr) (op : Opcode), (firstDue s.dev.hif.held = some h) ∧ (packetOf c s = some (op, h.pkt)) ∧ (op.code = h.op) ∧ (d0 = Dev.showHeld { s.dev.reach h.pkt.execAt.toNat with hif := { s.dev.hif with held := s.dev.hif.held.erase h } }) ∧ (op.modes h.pkt d0 ≠ 0)) ∧
    (∃ (s : State) (h : HeldPacket) (d0 : Dev) (c : Instr) (op : Opcode), (firstDue s.dev.hif.held = some h) ∧ (packetOf c s = some (op, h.pkt)) ∧ (op.code = h.op) ∧ (d0 = Dev.showHeld { s.dev.reach h.pkt.execAt.toNat with hif := { s.dev.hif with held := s.dev.hif.held.erase h } }) ∧ (op.modes h.pkt d0 = 0)) ∧
    (∃ (s : State) (bad : Bool), (s.dev.nothingDue) ∧ ((s.dev.dispatchTask bad).1 = none)) ∧
    (∃ (s : State) (bad : Bool) (k : Nat) (d1 : Dev), (s.dev.dispatchTask bad = (some k, d1))) ∧
    (∃ (s : State) (bad : Bool) (k : Nat) (d1 : Dev), (s.dev.dispatchTask bad = (some k, d1)) ∧ (k < 128 ∨ (d1.task k).began = true)) ∧
    (∃ (s : State) (bad : Bool) (k : Nat) (d1 : Dev), (s.dev.dispatchTask bad = (some k, d1)) ∧ (128 ≤ k) ∧ ((d1.task k).began = false) ∧ (d1.hif.inWork.any (fun w => w.1 == 64 + k) = true)) ∧
    (∃ (s : State) (bad : Bool) (host : _) (k : Nat) (d1 : Dev) (c : Instr) (op : Opcode) (p : Packet) (d2 : Dev), (s.dev.dispatchTask bad = (some k, d1)) ∧ (128 ≤ k) ∧ ((d1.task k).began = false) ∧ (d1.hif.inWork.any (fun w => w.1 == 64 + k) = false) ∧ (p = { parsePacket 0 (padTo 64 (d1.task k).packet) host with session := 0, execAt := 0, tol := 0, sec := none }) ∧ (packetOf c s = some (op, p)) ∧ (op.code = fieldAt (d1.task k).packet 0 2) ∧ (d2 = d1.setTask k { d1.task k with began := true, skipping := false, runs := (d1.task k).runs + 1 })) ∧
    (∃ (s : State) (p : Packet) (p' : Packet) (d' : Dev) (kind : Nat) (n : Nat), (Runs (opInstall s.fuses) p s.dev p' d') ∧ (d'.nothingDue) ∧ (kind = par p' 22 1) ∧ (n = par p' 32 4) ∧ (kind = 0 ∨ 4 < kind)) ∧
    (∃ (s : State) (p : Packet) (p' : Packet) (d' : Dev) (kind : Nat) (n : Nat), (Runs (opInstall s.fuses) p s.dev p' d') ∧ (d'.nothingDue) ∧ (kind = par p' 22 1) ∧ (n = par p' 32 4) ∧ (1 ≤ kind) ∧ (kind ≤ 4) ∧ (n < 512 ∨ (if kind = 1 then 3 * 2 ^ 20 else 2 ^ 24) < n)) ∧
    (∃ (s : State) (p : Packet) (p' : Packet) (d' : Dev) (kind : Nat) (n : Nat), (Runs (opInstall s.fuses) p s.dev p' d') ∧ (d'.nothingDue) ∧ (kind = par p' 22 1) ∧ (n = par p' 32 4) ∧ (1 ≤ kind) ∧ (kind ≤ 4) ∧ (512 ≤ n) ∧ (n ≤ (if kind = 1 then 3 * 2 ^ 20 else 2 ^ 24)) ∧ (p'.host = none)) ∧
    (∃ (s : State) (p : Packet) (p' : Packet) (d' : Dev) (kind : Nat) (n : Nat) (bs : List Byte) (b : List Byte), (Runs (opInstall s.fuses) p s.dev p' d') ∧ (d'.nothingDue) ∧ (kind = par p' 22 1) ∧ (n = par p' 32 4) ∧ (1 ≤ kind) ∧ (kind ≤ 4) ∧ (512 ≤ n) ∧ (n ≤ (if kind = 1 then 3 * 2 ^ 20 else 2 ^ 24)) ∧ (p'.host = some bs) ∧ (b = padTo n bs) ∧ (fieldAt b 8 4 ≠ n)) ∧
    (∃ (s : State) (p : Packet) (p' : Packet) (d' : Dev) (kind : Nat) (n : Nat) (bs : List Byte) (b : List Byte), (Runs (opInstall s.fuses) p s.dev p' d') ∧ (d'.nothingDue) ∧ (kind = par p' 22 1) ∧ (n = par p' 32 4) ∧ (1 ≤ kind) ∧ (kind ≤ 4) ∧ (512 ≤ n) ∧ (n ≤ (if kind = 1 then 3 * 2 ^ 20 else 2 ^ 24)) ∧ (p'.host = some bs) ∧ (b = padTo n bs) ∧ (fieldAt b 8 4 = n) ∧ (kind = 1) ∧ (b.take 8 ≠ magicFw)) ∧
    (∃ (s : State) (p : Packet) (p' : Packet) (d' : Dev) (kind : Nat) (n : Nat) (bs : List Byte) (b : List Byte), (Runs (opInstall s.fuses) p s.dev p' d') ∧ (d'.nothingDue) ∧ (kind = par p' 22 1) ∧ (n = par p' 32 4) ∧ (1 ≤ kind) ∧ (kind ≤ 4) ∧ (512 ≤ n) ∧ (n ≤ (if kind = 1 then 3 * 2 ^ 20 else 2 ^ 24)) ∧ (p'.host = some bs) ∧ (b = padTo n bs) ∧ (fieldAt b 8 4 = n) ∧ (kind = 1) ∧ (b.take 8 = magicFw) ∧ (verifyImage s.fuses b 1 true ≠ 0)) ∧
    (∃ (s : State) (p : Packet) (p' : Packet) (d' : Dev) (kind : Nat) (n : Nat) (bs : List Byte) (b : List Byte), (Runs (opInstall s.fuses) p s.dev p' d') ∧ (d'.nothingDue) ∧ (kind = par p' 22 1) ∧ (n = par p' 32 4) ∧ (1 ≤ kind) ∧ (kind ≤ 4) ∧ (512 ≤ n) ∧ (n ≤ (if kind = 1 then 3 * 2 ^ 20 else 2 ^ 24)) ∧ (p'.host = some bs) ∧ (b = padTo n bs) ∧ (fieldAt b 8 4 = n) ∧ (kind = 1) ∧ (b.take 8 = magicFw) ∧ (verifyImage s.fuses b 1 true = 0)) ∧
    (∃ (s : State) (p : Packet) (p' : Packet) (d' : Dev) (kind : Nat) (n : Nat) (bs : List Byte) (b : List Byte), (Runs (opInstall s.fuses) p s.dev p' d') ∧ (d'.nothingDue) ∧ (kind = par p' 22 1) ∧ (n = par p' 32 4) ∧ (1 ≤ kind) ∧ (kind ≤ 4) ∧ (512 ≤ n) ∧ (n ≤ (if kind = 1 then 3 * 2 ^ 20 else 2 ^ 24)) ∧ (p'.host = some bs) ∧ (b = padTo n bs) ∧ (fieldAt b 8 4 = n) ∧ (kind = 2) ∧ (b.take 8 ≠ magicPkg)) ∧
    (∃ (s : State) (p : Packet) (p' : Packet) (d' : Dev) (kind : Nat) (n : Nat) (bs : List Byte) (b : List Byte) (k : Package), (Runs (opInstall s.fuses) p s.dev p' d') ∧ (d'.nothingDue) ∧ (kind = par p' 22 1) ∧ (n = par p' 32 4) ∧ (1 ≤ kind) ∧ (kind ≤ 4) ∧ (512 ≤ n) ∧ (n ≤ (if kind = 1 then 3 * 2 ^ 20 else 2 ^ 24)) ∧ (p'.host = some bs) ∧ (b = padTo n bs) ∧ (fieldAt b 8 4 = n) ∧ (kind = 2) ∧ (b.take 8 = magicPkg) ∧ (k = { Config.packageOf b with bytes := b, fwClass := fieldAt b 14 2 }) ∧ (verifyImage s.fuses b 2 false ≠ 0)) ∧
    (∃ (s : State) (p : Packet) (p' : Packet) (d' : Dev) (kind : Nat) (n : Nat) (bs : List Byte) (b : List Byte) (k : Package), (Runs (opInstall s.fuses) p s.dev p' d') ∧ (d'.nothingDue) ∧ (kind = par p' 22 1) ∧ (n = par p' 32 4) ∧ (1 ≤ kind) ∧ (kind ≤ 4) ∧ (512 ≤ n) ∧ (n ≤ (if kind = 1 then 3 * 2 ^ 20 else 2 ^ 24)) ∧ (p'.host = some bs) ∧ (b = padTo n bs) ∧ (fieldAt b 8 4 = n) ∧ (kind = 2) ∧ (b.take 8 = magicPkg) ∧ (k = { Config.packageOf b with bytes := b, fwClass := fieldAt b 14 2 }) ∧ (verifyImage s.fuses b 2 false = 0) ∧ ((decide (fieldAt b 14 2 ≠ d'.get SEC_FW.CLASS) || (d'.on RST_STATUS.DRAM_READY && !d'.partitionOk k)) = true)) ∧
    (∃ (s : State) (p : Packet) (p' : Packet) (d' : Dev) (kind : Nat) (n : Nat) (bs : List Byte) (b : List Byte) (k : Package), (Runs (opInstall s.fuses) p s.dev p' d') ∧ (d'.nothingDue) ∧ (kind = par p' 22 1) ∧ (n = par p' 32 4) ∧ (1 ≤ kind) ∧ (kind ≤ 4) ∧ (512 ≤ n) ∧ (n ≤ (if kind = 1 then 3 * 2 ^ 20 else 2 ^ 24)) ∧ (p'.host = some bs) ∧ (b = padTo n bs) ∧ (fieldAt b 8 4 = n) ∧ (kind = 2) ∧ (b.take 8 = magicPkg) ∧ (k = { Config.packageOf b with bytes := b, fwClass := fieldAt b 14 2 }) ∧ (verifyImage s.fuses b 2 false = 0) ∧ ((decide (fieldAt b 14 2 ≠ d'.get SEC_FW.CLASS) || (d'.on RST_STATUS.DRAM_READY && !d'.partitionOk k)) = false)) ∧
    (∃ (s : State) (p : Packet) (p' : Packet) (d' : Dev) (kind : Nat) (n : Nat) (bs : List Byte) (b : List Byte), (Runs (opInstall s.fuses) p s.dev p' d') ∧ (d'.nothingDue) ∧ (kind = par p' 22 1) ∧ (n = par p' 32 4) ∧ (1 ≤ kind) ∧ (kind ≤ 4) ∧ (512 ≤ n) ∧ (n ≤ (if kind = 1 then 3 * 2 ^ 20 else 2 ^ 24)) ∧ (p'.host = some bs) ∧ (b = padTo n bs) ∧ (fieldAt b 8 4 = n) ∧ (kind = 3)) ∧
    (∃ (s : State) (p : Packet) (p' : Packet) (d' : Dev) (kind : Nat) (n : Nat) (bs : List Byte) (b : List Byte), (Runs (opInstall s.fuses) p s.dev p' d') ∧ (d'.nothingDue) ∧ (kind = par p' 22 1) ∧ (n = par p' 32 4) ∧ (1 ≤ kind) ∧ (kind ≤ 4) ∧ (512 ≤ n) ∧ (n ≤ (if kind = 1 then 3 * 2 ^ 20 else 2 ^ 24)) ∧ (p'.host = some bs) ∧ (b = padTo n bs) ∧ (fieldAt b 8 4 = n) ∧ (kind = 4)) :=
  ⟨⟨at_ 7 id, [(63, entryOf 0)], by decide +kernel, .inr (by decide +kernel)⟩,
   ⟨ringS, _, [(63, entryOf 0x0101)], none, 63, entryOf 0x0101, .getInfo (parsePacket 63 (entryOf 0x0101) none), _, by decide +kernel, by decide +kernel, rfl, rfl, by decide +kernel⟩,
   ⟨ringS, _, [(63, entryOf 0xFFFF)], 63, entryOf 0xFFFF, by decide +kernel, by decide +kernel, rfl, by decide +kernel⟩,
   ⟨at_ 7 id, by decide +kernel⟩,
   ⟨at_ 4 (fun d => { d with hif := { d.hif with held := [⟨0x0309, { pk [] with flags := 4, execAt := 9 }, ⟨0, 7, 0, false⟩⟩] } }), ⟨0x0309, { pk [] with flags := 4, execAt := 9 }, ⟨0, 7, 0, false⟩⟩, _, .stopGroup { pk [] with flags := 4, execAt := 9 }, _, by decide +kernel, rfl, by decide +kernel, rfl, by decide +kernel⟩,
   ⟨at_ 7 (fun d => { d with hif := { d.hif with held := [⟨0x0309, { pk [] with flags := 4, execAt := 9 }, ⟨0, 7, 0, false⟩⟩] } }), ⟨0x0309, { pk [] with flags := 4, execAt := 9 }, ⟨0, 7, 0, false⟩⟩, _, .stopGroup { pk [] with flags := 4, execAt := 9 }, _, by decide +kernel, rfl, by decide +kernel, rfl, by decide +kernel⟩,
   ⟨at_ 7 id, false, by decide +kernel⟩,
   ⟨readyS 127 id id, false, 127, ((readyS 127 id id).dev.dispatchTask false).2, Prod.ext (by decide +kernel) rfl⟩,
   ⟨readyS 127 id id, false, 127, ((readyS 127 id id).dev.dispatchTask false).2, Prod.ext (by decide +kernel) rfl, .inl (by decide +kernel)⟩,
   ⟨readyS 128 id (fun d => { d with hif := { d.hif with inWork := [(192, 1)] } }), false, 128, ((readyS 128 id (fun d => { d with hif := { d.hif with inWork := [(192, 1)] } })).dev.dispatchTask false).2, Prod.ext (by decide +kernel) rfl, by decide +kernel⟩,
   ⟨readyS 255 (fun x => { x with packet := entryOf 0x0101 }) id, false, none, 255, ((readyS 255 (fun x => { x with packet := entryOf 0x0101 }) id).dev.dispatchTask false).2, .getInfo _, _, _, _, Prod.ext (by decide +kernel) rfl, by decide +kernel, by decide +kernel, by decide +kernel, rfl, rfl, by decide +kernel, rfl⟩,
   ⟨at_ 4 id, pk [], _, _, _, _, runs_plain _ _ _ (by decide +kernel), by decide +kernel, rfl, rfl, .inl (by decide +kernel)⟩,
   ⟨at_ 4 id, pk [(22, 1, 1), (32, 4, 511)], _, _, _, _, runs_plain _ _ _ (by decide +kernel), by decide +kernel, rfl, rfl, by decide +kernel, by decide +kernel, .inl (by decide +kernel)⟩,
   ⟨at_ 4 id, { pk [(22, 1, 4), (32, 4, 16777216)] with host := none }, _, _, _, _, runs_plain _ _ _ (by decide +kernel), by decide +kernel, rfl, rfl, by decide +kernel⟩,
   ⟨at_ 4 id, { pk [(22, 1, 4), (32, 4, 512)] with host := some [] }, _, _, _, _, _, _, runs_plain _ _ _ (by decide +kernel), by decide +kernel, rfl, rfl, by decide +kernel, by decide +kernel, by decide +kernel, by decide +kernel, rfl, rfl, by decide +kernel⟩,
   ⟨at_ 4 id, { pk [(22, 1, 1), (32, 4, 512)] with host := some (imageBad magicPkg) }, _, _, _, _, _, _, runs_plain _ _ _ (by decide +kernel), by decide +kernel, rfl, rfl, by decide +kernel, by decide +kernel, by decide +kernel, by decide +kernel, rfl, rfl, by decide +kernel⟩,
   ⟨at_ 4 id, { pk [(22, 1, 1), (32, 4, 512)] with host := some (imageBad magicFw) }, _, _, _, _, _, _, runs_plain _ _ _ (by decide +kernel), by decide +kernel, rfl, rfl, by decide +kernel, by decide +kernel, by decide +kernel, by decide +kernel, rfl, rfl, by decide +kernel⟩,
   ⟨{ at_ 3 id with fuses := fusesI }, { pk [(22, 1, 1), (32, 4, 512)] with host := some (imageOf magicFw 0) }, _, _, _, _, _, _, runs_plain _ _ _ (by decide +kernel), by decide +kernel, rfl, rfl, by decide +kernel, by decide +kernel, by decide +kernel, by decide +kernel, rfl, rfl, by decide +kernel, by decide +kernel, by decide +kernel, imageOf_verifies hs magicFw 0 1 _ true (.inl rfl) (.inl rfl) (.inl rfl) (by decide +kernel)⟩,
   ⟨auth 4 id, pka { pk [(22, 1, 2), (32, 4, 512)] with host := some (imageBad magicFw) }, _, _, _, _, _, _, runs_auth hg _ _ _ (by decide +kernel), by decide +kernel, rfl, rfl, by decide +kernel, by decide +kernel, by decide +kernel, by decide +kernel, rfl, rfl, by decide +kernel⟩,
   ⟨auth 4 id, pka { pk [(22, 1, 2), (32, 4, 512)] with host := some (imageBad magicPkg) }, _, _, _, _, _, _, _, runs_auth hg _ _ _ (by decide +kernel), by decide +kernel, rfl, rfl, by decide +kernel, by decide +kernel, by decide +kernel, by decide +kernel, rfl, rfl, by decide +kernel, by decide +kernel, by decide +kernel, rfl, by decide +kernel⟩,
   ⟨{ auth 4 id with fuses := fusesI }, pka { pk [(22, 1, 2), (32, 4, 512)] with host := some (imageOf magicPkg 1) }, _, _, _, _, _, _, _, runs_auth hg _ _ _ (by decide +kernel), by decide +kernel, rfl, rfl, by decide +kernel, by decide +kernel, by decide +kernel, by decide +kernel, rfl, rfl, by decide +kernel, by decide +kernel, by decide +kernel, rfl, imageOf_verifies hs magicPkg 1 2 _ false (.inr rfl) (.inr rfl) (.inr rfl) (by decide +kernel), by decide +kernel⟩,
   ⟨{ auth 4 id with fuses := fusesI }, pka { pk [(22, 1, 2), (32, 4, 512)] with host := some (imageOf magicPkg 0) }, _, _, _, _, _, _, _, runs_auth hg _ _ _ (by decide +kernel), by decide +kernel, rfl, rfl, by decide +kernel, by decide +kernel, by decide +kernel, by decide +kernel, rfl, rfl, by decide +kernel, by decide +kernel, by decide +kernel, rfl, imageOf_verifies hs magicPkg 0 2 _ false (.inr rfl) (.inl rfl) (.inr rfl) (by decide +kernel), by decide +kernel⟩,
   ⟨at_ 3 (fun d => d.set SEC_STATUS.SEALED_REASON 9), { pk [(22, 1, 3), (32, 4, 512)] with host := some (imageBad magicProv) }, _, _, _, _, _, _, runs_plain _ _ _ (by decide +kernel), by decide +kernel, rfl, rfl, by decide +kernel, by decide +kernel, by decide +kernel, by decide +kernel, rfl, rfl, by decide +kernel⟩,
   ⟨at_ 4 id, { pk [(22, 1, 4), (32, 4, 512)] with host := some (imageBad magicFw) }, _, _, _, _, _, _, runs_plain _ _ _ (by decide +kernel), by decide +kernel, rfl, rfl, by decide +kernel, by decide +kernel, by decide +kernel, by decide +kernel, rfl, rfl, by decide +kernel⟩⟩
/-- A witness for each clause of PacketsAreCheckedInOrder. -/
theorem test_witness_PacketsAreCheckedInOrder :
    (∃ (c : Instr) (s : State) (op : Opcode) (p : Packet), (packetOf c s = some (op, p)) ∧ (s.dev.ready = false)) ∧
    (∃ (c : Instr) (s : State) (op : Opcode) (p : Packet) (d0 : Dev), (packetOf c s = some (op, p)) ∧ (s.dev.ready = true) ∧ (d0 = s.dev.owe p.sq.val) ∧ (p.len.toNat < op.lMin ∨ op.lMax < p.len.toNat)) ∧
    (∃ (c : Instr) (s : State) (op : Opcode) (p : Packet) (d0 : Dev), (packetOf c s = some (op, p)) ∧ (s.dev.ready = true) ∧ (d0 = s.dev.owe p.sq.val) ∧ (op.lMin ≤ p.len.toNat) ∧ (p.len.toNat ≤ op.lMax) ∧ (16 ≤ p.flags.toNat ∨ hasFlag p 0 ≠ (decide (0 < p.len.toNat) || hasFlag p 1) ∨ (hasFlag p 2 = true ∧ op.sched = false))) ∧
    (∃ (c : Instr) (s : State) (op : Opcode) (p : Packet) (d0 : Dev) (d1 : Dev), (packetOf c s = some (op, p)) ∧ (s.dev.ready = true) ∧ (d0 = s.dev.owe p.sq.val) ∧ (op.lMin ≤ p.len.toNat) ∧ (p.len.toNat ≤ op.lMax) ∧ (p.flags.toNat < 16) ∧ (hasFlag p 0 = (decide (0 < p.len.toNat) || hasFlag p 1)) ∧ ((hasFlag p 2 = true → op.sched = true)) ∧ (d0.authenticate op p = (none, d1))) ∧
    (∃ (c : Instr) (s : State) (op : Opcode) (p : Packet) (d0 : Dev) (p' : Packet) (d1 : Dev), (packetOf c s = some (op, p)) ∧ (s.dev.ready = true) ∧ (d0 = s.dev.owe p.sq.val) ∧ (op.lMin ≤ p.len.toNat) ∧ (p.len.toNat ≤ op.lMax) ∧ (p.flags.toNat < 16) ∧ (hasFlag p 0 = (decide (0 < p.len.toNat) || hasFlag p 1)) ∧ ((hasFlag p 2 = true → op.sched = true)) ∧ (d0.authenticate op p = (some p', d1)) ∧ (op.modes p' d1 ≠ 0)) ∧
    (∃ (c : Instr) (s : State) (op : Opcode) (p : Packet) (d0 : Dev) (p' : Packet) (d1 : Dev), (packetOf c s = some (op, p)) ∧ (s.dev.ready = true) ∧ (d0 = s.dev.owe p.sq.val) ∧ (op.lMin ≤ p.len.toNat) ∧ (p.len.toNat ≤ op.lMax) ∧ (p.flags.toNat < 16) ∧ (hasFlag p 0 = (decide (0 < p.len.toNat) || hasFlag p 1)) ∧ ((hasFlag p 2 = true → op.sched = true)) ∧ (d0.authenticate op p = (some p', d1)) ∧ (op.modes p' d1 = 0) ∧ (hasFlag p' 2 = false ∨ op.ownTime = true)) ∧
    (∃ (c : Instr) (s : State) (op : Opcode) (p : Packet) (d0 : Dev) (p' : Packet) (d1 : Dev), (packetOf c s = some (op, p)) ∧ (s.dev.ready = true) ∧ (d0 = s.dev.owe p.sq.val) ∧ (op.lMin ≤ p.len.toNat) ∧ (p.len.toNat ≤ op.lMax) ∧ (p.flags.toNat < 16) ∧ (hasFlag p 0 = (decide (0 < p.len.toNat) || hasFlag p 1)) ∧ ((hasFlag p 2 = true → op.sched = true)) ∧ (d0.authenticate op p = (some p', d1)) ∧ (op.modes p' d1 = 0) ∧ (hasFlag p' 2 = true) ∧ (op.ownTime = false) ∧ (d1.now + ns 1000 ≤ p'.execAt.toNat) ∧ (d1.hif.held.length < 256)) ∧
    (∃ (c : Instr) (s : State) (op : Opcode) (p : Packet) (d0 : Dev) (p' : Packet) (d1 : Dev), (packetOf c s = some (op, p)) ∧ (s.dev.ready = true) ∧ (d0 = s.dev.owe p.sq.val) ∧ (op.lMin ≤ p.len.toNat) ∧ (p.len.toNat ≤ op.lMax) ∧ (p.flags.toNat < 16) ∧ (hasFlag p 0 = (decide (0 < p.len.toNat) || hasFlag p 1)) ∧ ((hasFlag p 2 = true → op.sched = true)) ∧ (d0.authenticate op p = (some p', d1)) ∧ (op.modes p' d1 = 0) ∧ (hasFlag p' 2 = true) ∧ (op.ownTime = false) ∧ (d1.now + ns 1000 ≤ p'.execAt.toNat) ∧ (256 ≤ d1.hif.held.length)) ∧
    (∃ (c : Instr) (s : State) (op : Opcode) (p : Packet) (d0 : Dev) (p' : Packet) (d1 : Dev), (packetOf c s = some (op, p)) ∧ (s.dev.ready = true) ∧ (d0 = s.dev.owe p.sq.val) ∧ (op.lMin ≤ p.len.toNat) ∧ (p.len.toNat ≤ op.lMax) ∧ (p.flags.toNat < 16) ∧ (hasFlag p 0 = (decide (0 < p.len.toNat) || hasFlag p 1)) ∧ ((hasFlag p 2 = true → op.sched = true)) ∧ (d0.authenticate op p = (some p', d1)) ∧ (op.modes p' d1 = 0) ∧ (hasFlag p' 2 = true) ∧ (op.ownTime = false) ∧ (p'.execAt.toNat < d1.now + ns 1000) ∧ (p'.tol.toNat = 0xFFFFFFFE ∨ (p'.tol.toNat < 0xFFFFFFFE ∧ p'.execAt.toNat + ns p'.tol.toNat < d1.now + ns 1000))) ∧
    (∃ (c : Instr) (s : State) (op : Opcode) (p : Packet) (d0 : Dev) (p' : Packet) (d1 : Dev) (r : PktRef), (packetOf c s = some (op, p)) ∧ (s.dev.ready = true) ∧ (d0 = s.dev.owe p.sq.val) ∧ (op.lMin ≤ p.len.toNat) ∧ (p.len.toNat ≤ op.lMax) ∧ (p.flags.toNat < 16) ∧ (hasFlag p 0 = (decide (0 < p.len.toNat) || hasFlag p 1)) ∧ ((hasFlag p 2 = true → op.sched = true)) ∧ (d0.authenticate op p = (some p', d1)) ∧ (op.modes p' d1 = 0) ∧ (hasFlag p' 2 = true) ∧ (op.ownTime = false) ∧ (p'.execAt.toNat < d1.now + ns 1000) ∧ (p'.tol.toNat = 0xFFFFFFFF ∨ (p'.tol.toNat < 0xFFFFFFFE ∧ d1.now + ns 1000 ≤ p'.execAt.toNat + ns p'.tol.toNat)) ∧ (r = { refOf p s.dev with late := true })) :=
  ⟨⟨.getInfo (pk []), State.reset, _, _, rfl, by decide +kernel⟩,
   ⟨.getInfo (pkx 9 [] []), at_ 7 id, _, _, _, rfl, by decide +kernel, rfl, .inr (by decide +kernel)⟩,
   ⟨.getInfo { pk [] with flags := 16 }, at_ 7 id, _, _, _, rfl, by decide +kernel, rfl, by decide +kernel, by decide +kernel, .inl (by decide +kernel)⟩,
   ⟨.getInfo { pk [] with flags := 3, session := 5, sec := some ⟨1, zeros 16⟩ }, at_ 7 id, _, _, _, _, rfl, by decide +kernel, rfl, by decide +kernel, by decide +kernel, by decide +kernel, by decide +kernel, by decide +kernel, rfl⟩,
   ⟨.fenceNode (pk []), at_ 4 id, _, _, _, _, _, rfl, by decide +kernel, rfl, by decide +kernel, by decide +kernel, by decide +kernel, by decide +kernel, by decide +kernel, rfl, by decide +kernel⟩,
   ⟨.getInfo (pk []), at_ 7 id, _, _, _, _, _, rfl, by decide +kernel, rfl, by decide +kernel, by decide +kernel, by decide +kernel, by decide +kernel, by decide +kernel, rfl, by decide +kernel, .inl (by decide +kernel)⟩,
   ⟨.stopGroup { pk [] with flags := 4, execAt := BitVec.ofNat 80 (ns 1000) }, at_ 7 id, _, _, _, _, _, rfl, by decide +kernel, rfl, by decide +kernel, by decide +kernel, by decide +kernel, by decide +kernel, by decide +kernel, rfl, by decide +kernel⟩,
   ⟨.stopGroup { pk [] with flags := 4, execAt := BitVec.ofNat 80 (ns 1000) }, at_ 7 (fun d => { d with hif := { d.hif with held := List.replicate 256 ⟨opStopGroup.code, pk [], ⟨0, 0, 0, false⟩⟩ } }), _, _, _, _, _, rfl, by decide +kernel, rfl, by decide +kernel, by decide +kernel, by decide +kernel, by decide +kernel, by decide +kernel, rfl, by decide +kernel⟩,
   ⟨.stopGroup { pk [] with flags := 4, execAt := BitVec.ofNat 80 (ns 1000 - 1) }, at_ 7 id, _, _, _, _, _, rfl, by decide +kernel, rfl, by decide +kernel, by decide +kernel, by decide +kernel, by decide +kernel, by decide +kernel, rfl, by decide +kernel, by decide +kernel, by decide +kernel, by decide +kernel, .inr (by decide +kernel)⟩,
   ⟨.stopGroup { pk [] with flags := 4, execAt := BitVec.ofNat 80 (ns 1000 - 1), tol := 0xFFFFFFFF }, at_ 7 id, _, _, _, _, _, _, rfl, by decide +kernel, rfl, by decide +kernel, by decide +kernel, by decide +kernel, by decide +kernel, by decide +kernel, rfl, by decide +kernel, by decide +kernel, by decide +kernel, by decide +kernel, .inl (by decide +kernel), rfl⟩⟩
/-- A witness for each clause of QueriesAndRingsLeaveTheMachine. -/
theorem test_witness_QueriesAndRingsLeaveTheMachine :
    (∃ (c : Instr) (s : State) (op : Opcode) (p : Packet), (packetOf c s = some (op, p)) ∧ (op.code ∈ queryCodes)) ∧
    (∃ (q : Fin 64) (v : BitVec 16) (k : Fin 3) (w : Word) (c : Instr), (c = .sqDoorbell q v ∨ c = .cqDoorbell q v ∨ c = .evtDoorbell v ∨ c = .ringEnable k q w ∨ c = .ringDisable k q w ∨ c = .pcieDmaError k q)) :=
  ⟨⟨.getInfo (pk []), at_ 7 id, _, _, rfl, by decide +kernel⟩,
   ⟨63, 5, 0, 0, .sqDoorbell 63 5, .inl rfl⟩⟩
/-- A witness for BackupDomainChangesOnlyByItsCommands. -/
theorem test_witness_BackupDomainChangesOnlyByItsCommands : (∃ (c : Instr) (s : State) (t : State), (backupCommand c = false) ∧ (exec c s = .next t)) :=
  ⟨.canApply 0, at_ 7 id, _, by decide +kernel, rfl⟩

/-- LOAD of a boot image that verifies: the clause of ReleaseAndBootRun that runs firmware. The signature check is uninterpreted, so an image that
verifies is given. -/
theorem test_witness_ReleaseAndBootRun_image (f : Fuses) (img : List Byte) (hp : f.provisioned = true) (hv : verifyImage f img 1 true = 0) :
    ∃ s : State, s.dev.mode = 2 ∧ (s.backup.cause.map (·.source)).getD 0xFF ≠ 5 ∧ s.dev.sys.bootSel ≠ 0 ∧ s.fuses.provisioned = true ∧
      ∃ slot codes, tryBoot s.fuses s.dev.bootOrder [] = (some (slot, img), codes) := by
  have hm : State.reset.dev.mode = 2 := by decide +kernel
  have hc : (State.reset.backup.cause.map (·.source)).getD 0xFF ≠ 5 := by decide +kernel
  refine ⟨{ State.reset with
    fuses := f, dev := { State.reset.dev with
      sys := { State.reset.dev.sys with bootSel := 1 }, sec := { State.reset.dev.sec with slotA := ⟨some 1, img⟩, slotB := ⟨none, []⟩ } } },
    hm, hc, by simp, hp, 0, [], ?_⟩
  simp [Dev.bootOrder, tryBoot, hv]

/-! ## Ill-formed terms, refused check by check -/

/-- A packet whose parameters miss a byte. -/
theorem test_wf_packet_length : Packet.wf { pk [] with par := zeros 41 } = false := by decide +kernel
/-- A security entry without the AUTH flag. -/
theorem test_wf_packet_flag : Packet.wf { pk [] with sec := some ⟨1, zeros 16⟩ } = false := by decide +kernel
/-- The AUTH flag without a security entry. -/
theorem test_wf_packet_no_entry : Packet.wf { pk [] with flags := 2 } = false := by decide +kernel
/-- A 15-byte tag. -/
theorem test_wf_packet_tag : Packet.wf { pk [] with flags := 2, sec := some ⟨1, zeros 15⟩ } = false := by decide +kernel
/-- A counter of 65 bits. -/
theorem test_wf_packet_counter : Packet.wf { pk [] with flags := 2, sec := some ⟨2 ^ 64, zeros 16⟩ } = false := by decide +kernel
/-- Contexts 0 to 2 are no paged contexts, and 64 does not exist. -/
theorem test_wf_context : MmuSetup.wf ⟨2, 0, false, [], []⟩ = false ∧ MmuSetup.wf ⟨64, 0, false, [], []⟩ = false := by decide +kernel
/-- An L1 table or a page that is not aligned, an entry at an odd place and one of 65 bits. -/
theorem test_wf_tables : MmuSetup.wf ⟨3, 8, false, [], []⟩ = false ∧ MmuSetup.wf ⟨3, 0, false, [8], []⟩ = false ∧
    MmuSetup.wf ⟨3, 0, false, [], [(4, 0)]⟩ = false ∧ MmuSetup.wf ⟨3, 0, false, [], [(0, 2 ^ 64)]⟩ = false := by decide +kernel
/-- One context twice. -/
theorem test_wf_contexts : Instr.wf (.dramTrained 4 [⟨3, 0, false, [], []⟩, ⟨3, 0, false, [], []⟩]) = false := by decide +kernel
/-- A boot with 15 interrupt classes, with one task number twice, with two fault handlers. -/
theorem test_wf_boot :
    Instr.wf (.bootComplete true true none 0 0 0 0 0 [] (List.replicate 15 0)) = false ∧
    Instr.wf (.bootComplete true true none 0 0 0 0 0 [⟨1, 0, 0, 0, false, none, false⟩, ⟨1, 0, 0, 0, false, none, false⟩] (List.replicate 16 0)) = false ∧
    Instr.wf (.bootComplete true true none 0 0 0 0 0 [⟨1, 0, 0, 0, false, none, true⟩, ⟨2, 0, 0, 0, false, none, true⟩] (List.replicate 16 0)) = false := by
  decide +kernel
/-- Four oscillators. -/
theorem test_wf_oscillators : Instr.wf (.safetyCycle none none none [0, 0, 0, 0] [] false) = false := by decide +kernel
/-- A 23-byte link control message, of each kind. -/
theorem test_wf_control : Instr.wf (.capability 0 0 (zeros 23)) = false ∧ Instr.wf (.delayRequest 0 0 (zeros 23) 0) = false ∧
    Instr.wf (.delayResponse 0 0 (zeros 23) 0) = false ∧ Instr.wf (.rateOrder 0 0 (zeros 23)) = false ∧
    Instr.wf (.hopReport 0 0 (zeros 23) none) = false := by decide +kernel
/-- A debug token of 351 bytes, a DMA descriptor of 31, an NVMe status of 17 bits, CAN data of 65 bytes. -/
theorem test_wf_lengths : Instr.wf (.debugMailbox (some (zeros 351))) = false ∧ Instr.wf (.dmaDescriptorPush 0 (zeros 31)) = false ∧
    Instr.wf (.nvmeCommandComplete 0 0 65536 []) = false ∧ Instr.wf (.canFrameReceived 0 0 0 0 (zeros 65) true false) = false := by decide +kernel
/-- One ring with two heads, a written value wider than its access, a link speed and a width that their fields cannot hold. -/
theorem test_wf_operands : Instr.wf (.packetFetch [(3, []), (3, [])] none) = false ∧ Instr.wf (.registerWrite 0 4 (2 ^ 32)) = false ∧
    Instr.wf (.rootPortLink 0 true 16 1) = false ∧ Instr.wf (.rootPortLink 0 true 1 64) = false := by decide +kernel
/-- A well-formed packet command and a well-formed boot. -/
theorem test_wf_accepts : Instr.wf (.getInfo (pk [])) = true ∧
    Instr.wf (.bootComplete true true none 0 0 0 0 0 [⟨1, 0, 0, 0, false, none, true⟩] (List.replicate 16 0)) = true := by decide +kernel

/-! ## Worked examples of the manual -/

/-- The line time 1,000,000.5 ns in ten bytes (R8). -/
theorem test_line_time_bytes : leBytes 10 (1000000 * 65536 + 0x8000) = [0x00, 0x80, 0x40, 0x42, 0x0F, 0, 0, 0, 0, 0] := by decide +kernel
/-- The check values of R85's table over "123456789". -/
theorem test_crc_check_values : crc16 [0x31, 0x32, 0x33, 0x34, 0x35, 0x36, 0x37, 0x38, 0x39] = 0x29B1 ∧
    crc32 [0x31, 0x32, 0x33, 0x34, 0x35, 0x36, 0x37, 0x38, 0x39] = 0xCBF43926 := by decide +kernel
/-- 72.70 ns from one exchange of 145.40 ns (R72): 0x0048_B333. -/
theorem test_hop_delay : hopDelay 9528934 1 = 0x48B333 := by decide +kernel
/-- The servo step of 05: theta 5,243, I −1,200,000, KP 2, KI 6, 16 µs. -/
theorem test_servo :
    let d := (runs 7 [] [] (fun d => { ((d.set LTM_CTRL.KP_SHIFT 2).set LTM_CTRL.KI_SHIFT 6).wr LTM_INTEG (codeOf 32 (-1200000)) with
      ltm := { d.ltm with theta := some 5243 }, cyc := { d.cyc with active := some ⟨1, false, [{ blkE 0 [] [] with period := 2000 }], [], [], none⟩ } })).dev.servo
    d.rd LTM_RATE = codeOf 32 (-260322) ∧ d.rd LTM_INTEG = codeOf 32 (-1114099) := by decide +kernel
/-- Frame blocks of the 16 µs segment of 04 (R82). -/
theorem test_frame_blocks : [40, 96, 192, 24, 1024].map frameBlocks = [8, 15, 27, 6, 131] := by decide +kernel
/-- 250,000 counts/s over 16 µs predicts 4 counts (R168). -/
theorem test_predict : predict 2000 0xF42408000 0x48742400 = 0xF42448000 := by decide +kernel
/-- The gear 3 to 7 of 07 (R189): increments and remainders of seven cycles. -/
theorem test_gear :
    let P := fun o => if o = pGEAR_NUM then 3 else if o = pGEAR_DEN then 7 else 0
    let run := fun k => (List.range k).foldl (fun s i => gearStep P (6553600 * (i + 1)) 0 s) AxisState.reset
    (List.range 7).map (fun k => ((run (k + 1)).xs - (run k).xs, (run (k + 1)).rem)) =
      [(2808685, 5), (2808686, 3), (2808686, 1), (2808685, 6), (2808686, 4), (2808686, 2), (2808686, 0)] := by decide +kernel
/-- The profile-cruise computation of 07: nodes 11, 18, 19 and 20 (R197). -/
theorem test_law :
    let P := fun o => if o = pTLIM then 0x3F800000 else if o = pVMAX then 0x48435000 else if o = pKP then 0x44000000 else if o = pKVP then 0x39800000
      else if o = pKVFF then 0x3F800000 else 0
    let i : LawIn := ⟨-524288, 0x47C40000, 0, false, false, false, none, false, false, none, false, false, 2000, false⟩
    let s := controllers P i false { AxisState.reset with enabled := true, vs := 0x47C00000, iv := 0x3F400000 }
    [11, 18, 19, 20].map (fun k => (s.nodes[k]?).getD 0) = [0x45000000, 0x3FA00000, 0x3F800000, 1] ∧ s.iv = 0x3F400000 ∧ s.ip = 0 ∧
      (formRecord P false false s).take 4 = [0x00, 0x00, 0x80, 0x3F] ∧ torqueField P = 4096 := by decide +kernel
/-- The period measurement of 09 (R238): 20,000 counts/s, then the bound 16,666.666015625 with no further edge. -/
theorem test_feedback_speed :
    let t := fun (n : Nat) => n * 65536
    let c := { Fb.reset with still := false, n := 1, h := [t 500000], tlast := t 500000 }
    let e := fbEdgeSpeed 1 (t 1000000) (t 1050000) false (fbEdgeSpeed 1 (t 1000000) (t 1000000) false c)
    e.v = 0x469C4000 ∧ (fbEvaluate (t 1000000) (t 1110000) e).v = 0x46823555 ∧ (fbEvaluate (t 1000000) (t 2050000) e).still = true := by decide +kernel
/-- FINE of 801, 790 and 812 hits (R249). -/
theorem test_fine : fineTable 0 [801, 790, 812] = [400, 1196, 1997] := by decide +kernel
/-- Line time at Boot from the real-time clock (R503): 1,700,000,000 s and 12,345. -/
theorem test_rtc : rtcToLine 1700000000 12345 = 1700000000376739501 * 65536 + 0xF400 := by decide +kernel
/-- The 500 kbit/s and 2 Mbit/s timing words of 17 pass rule 100 (R464). -/
theorem test_can_timing : canTiming 0x20 0x070E1E03 0x00094B80 = true := by decide +kernel
/-- Delay of D0 codes 150 and 49 with LOOP 6.80 ns (R277): 32.05 ns. -/
theorem test_tbus_delay : (at_ 7 (fun d => (d.set TDC_TBUS_D0.D0 49).set TDC_TBUS_D0.LOOP 1741)).dev.tbusDelay 150 = 101 * 16384 + 1741 * 256 := by
  decide +kernel
/-- Rotation of R92: group of 4, span 16: the second slot of the group serves position 13 in cycle 3, and position 1 in cycle 4. -/
theorem test_rotation :
    let b := { blkE 0 (List.replicate 4 (slotE 5 0xFC 96 0 4)) [] with span := 16 }
    turnOf b 1 3 = some 13 ∧ turnOf b 1 4 = some 1 := by decide +kernel

/-! ## Single steps -/

/-- A read of SYS_ID answers its reset value (R57). -/
theorem test_read_id : (match exec (.readClear 0 4) (at_ 7 id) with | .next t => t.dev.out.getLast? | _ => none) =
    some (.busData 0 (State.reset.dev.rd SYS_ID)) := by decide +kernel
/-- A main power-on reset counts in the tally and enters Reset (R494, R498). -/
theorem test_main_por : (match exec .mainPor (at_ 7 id) with | .next t => (t.dev.mode, (t.backup.counters[1]?).getD 0) | _ => (0, 0)) = (1, 1) := by
  decide +kernel
/-- SET_MODE from Configure to Service completes (R45). -/
theorem test_set_mode : (match exec (.setMode (pk [(22, 1, 11)])) (at_ 4 (fun d => d.set RST_STATUS.DRAM_READY 1)) with | .next t => t.dev.mode | _ => 0) = 11 := by
  decide +kernel
/-- A doorbell beyond its ring is an error of that ring and changes no doorbell (R389). -/
theorem test_doorbell : (match exec (.sqDoorbell 5 16) (at_ 7 (fun d => d.set (HIF_SQ_CFG.EN 5) 1)) with | .next t => t.dev.rd (HIF_DB_SQ 5) | _ => 99) = 0 := by
  decide +kernel
/-- A stop order of the host waits for the input log (R20). -/
theorem test_stop_group : (match exec (.stopGroup (pk [(22, 2, 1)])) (at_ 7 id) with | .next t => t.dev.cyc.waiting.map (·.act) | _ => []) =
    [.stopGroup 1 false 0 0xFFFF] := by decide +kernel
/-- A step takes the front command and leaves the rest (R391). -/
theorem test_step_queue : (match step { at_ 4 id with pending := [.flushTimer, .mainPor] } with | .next t => t.pending | _ => []) = [.mainPor] := by
  decide +kernel
/-- An edge on an enabled counter pair counts up (R231). -/
theorem test_feedback_edge : (match exec (.fbInputEdge 0 ⟨true, true⟩ ⟨false, false⟩ ⟨false, false⟩) (at_ 7 (fun d => { d.goLive (FB_CTRL 0) 1 with
      fb := [(0, { Fb.reset with a := false, b := false, c := false })] })) with | .next t => (t.dev.fbCh 0).cnt.natAbs | _ => 0) = 1 := by decide +kernel

end Sys2Proof.Tests
end

section
/-! PROOFS. The cycle boundary, the close of the logs and the guard (R20, R21, R23, R79, R117, R124): what each leaves of the cycle, and O32. -/
namespace Sys2Proof.Machine

/-! ## The commands of the cycle, by what they make of the device part -/

/-- An update that leaves the device part as it was leaves the state as it was. -/
theorem State.onDev_of_fixed {f : Dev → Dev} {s : State} (h : f s.dev = s.dev) : s.onDev f = s := by simp [State.onDev, h]
/-- Two updates that agree on the device part agree on the state. -/
theorem State.onDev_congr {f g : Dev → Dev} {s : State} (h : f s.dev = g s.dev) : s.onDev f = s.onDev g := by simp [State.onDev, h]

theorem exec_cycleBoundary {g : Dev → Dev} {s : State} (h : s.dev.boundary = g s.dev) : exec .cycleBoundary s = .next (s.onDev g).takeReset :=
  congrArg (fun t : State => Host.Outcome.next t.takeReset) (State.onDev_congr h)
theorem exec_cycleBoundary_fixed {s : State} (h : s.dev.boundary = s.dev) : exec .cycleBoundary s = .next s.takeReset :=
  congrArg (fun t : State => Host.Outcome.next t.takeReset) (State.onDev_of_fixed h)
theorem exec_msLogClose {g : Dev → Dev} {s : State} (h : s.dev.msClose = g s.dev) : exec .msLogClose s = .next (s.onDev g).takeReset :=
  congrArg (fun t : State => Host.Outcome.next t.takeReset) (State.onDev_congr h)
theorem exec_msLogClose_fixed {s : State} (h : s.dev.msClose = s.dev) : exec .msLogClose s = .next s.takeReset :=
  congrArg (fun t : State => Host.Outcome.next t.takeReset) (State.onDev_of_fixed h)
theorem exec_inputLogClose_fixed {s : State} (h : s.dev.logClose = s.dev) : exec .inputLogClose s = .next s :=
  congrArg Host.Outcome.next (State.onDev_of_fixed h)
theorem exec_guardStart {g : Dev → Dev} {s : State} (h : s.dev.guardStart = g s.dev) : exec .guardStart s = .next (s.onDev g) :=
  congrArg Host.Outcome.next (State.onDev_congr h)
theorem exec_guardStart_fixed {s : State} (h : s.dev.guardStart = s.dev) : exec .guardStart s = .next s :=
  congrArg Host.Outcome.next (State.onDev_of_fixed h)

/-! ## What keeps the cycle's state: the registers that show it, the bells, the axes of a new cycle -/

@[simp] theorem cyc_showGeneration (g : Generation) (n : Nat) (d : Dev) : (Dev.showGeneration g n d).cyc = d.cyc := by
  unfold Dev.showGeneration
  split
  · rfl
  · dsimp only
    rw [Dev.wr_cyc, forN_keep Dev.cyc]
    · rw [Dev.wr_cyc, Dev.set_cyc, Dev.set_cyc, Dev.set_cyc, Dev.set_cyc, Dev.set_cyc]
    · intro k e
      split
      · split
        · exact Dev.set_cyc _ _ _
        · rfl
      · split
        · rfl
        · rw [when_keep Dev.cyc _ (Dev.set _ 0) (Dev.set_cyc _ _), Dev.wr_cyc]
@[simp] theorem cyc_showPlan (d : Dev) : d.showPlan.cyc = d.cyc := by
  unfold Dev.showPlan
  split
  · rfl
  · rw [Dev.set_cyc, Dev.set_cyc, Dev.set_cyc]
@[simp] theorem cyc_showCycle (n : Nat) (d : Dev) : (Dev.showCycle n d).cyc = d.cyc := by
  unfold Dev.showCycle
  rw [Dev.wr_cyc, Dev.wr_cyc, Dev.set_cyc, Dev.set_cyc, Dev.set_cyc]
@[simp] theorem cyc_enableNow (a : Nat) (d : Dev) : (Dev.enableNow a d).cyc = d.cyc := by
  unfold Dev.enableNow
  dsimp only
  split <;> rfl
@[simp] theorem cyc_openAxes (d : Dev) : d.openAxes.cyc = d.cyc := by
  unfold Dev.openAxes
  dsimp only
  rw [Dev.wr_cyc, forN_keep Dev.cyc, forEach_keep Dev.cyc, forEach_keep Dev.cyc, forEach_keep Dev.cyc]
  · intro l e; rfl
  · intro a e; split <;> rfl
  · intro a e
    rw [Dev.setAxis_cyc]
    have stop : (if (e.axis a).stopped && bitAt (e.axisLive a pCHECK) 5 then e.setAxis a { e.axis a with enabled := false } else e).cyc = e.cyc := by
      split <;> rfl
    split
    · exact stop
    · split
      · exact stop
      · rw [cyc_enableNow, stop]
    · exact stop
  · intro l e; split <;> rfl
@[simp] theorem cyc_sendFrame (n chans typ flags dst slot cycle : Nat) (pay : List Byte) (d : Dev) :
    (Dev.sendFrame n chans typ flags dst slot cycle pay d).cyc = d.cyc := by
  unfold Dev.sendFrame
  refine forN_keep Dev.cyc _ (fun c e => ?_) _ d
  split
  · rfl
  · split <;> rfl
@[simp] theorem cyc_cutFrames (n : Nat) (t : LTime) (d : Dev) : (Dev.cutFrames n t d).cyc = d.cyc := by
  obtain ⟨ps, os, h⟩ := Dev.cutFrames_keeps n t d
  rw [h]
@[simp] theorem cyc_sendBell (n : Nat) (t : LTime) (d : Dev) : (Dev.sendBell n t d).cyc = d.cyc := by
  unfold Dev.sendBell
  split
  · rfl
  · simp
@[simp] theorem cyc_sendBells (d : Dev) : d.sendBells.cyc = d.cyc := by
  unfold Dev.sendBells
  refine forEach_keep Dev.cyc _ (fun n e => ?_) _ d
  split
  · rfl
  · exact cyc_sendBell _ _ _

/-! ## The cycle boundary (R79) -/

/-- Before cycles run and outside Service the boundary changes nothing. -/
theorem boundary_idle (d : Dev) (hr : d.cyc.running = false) (hm : d.mode ≠ 11) : d.boundary = d := by
  simp [Dev.boundary, hr, hm]
/-- In Service the first bell starts the test schedule. -/
theorem boundary_service (d : Dev) (hr : d.cyc.running = false) (hm : d.mode = 11) : d.boundary = d.startTest := by
  simp [Dev.boundary, hr, hm]
/-- While cycles run the cycle closes, its log enters the law, what waited acts and the next cycle opens. -/
theorem boundary_running (d : Dev) (hr : d.cyc.running = true) :
    d.boundary = ((d.closeCycle.2.enterLaw d.standby d.closeCycle.1 d.cyc.log).atBell d.cyc.count d.partnerHolds).openCycle := by
  simp [Dev.boundary, hr]
theorem startTest_without_generation (d : Dev) (hw : d.cyc.working = none) : d.startTest = d := by
  simp [Dev.startTest, hw]
/-- A test schedule starts with cycle 0 at the present time, its log open and empty. -/
theorem startTest_cyc (d : Dev) (g : Generation) (hw : d.cyc.working = some g) :
    d.startTest.cyc =
      { d.cyc with running := true, closed := false, count := 0, ref := d.now, active := some (formPlan d.allParams g), log := [], used := 0 } := by
  simp only [Dev.startTest, hw]
  rw [forEach_keep Dev.cyc _ cyc_showCycle, cyc_sendBells, cyc_openAxes, cyc_showPlan, forEach_keep Dev.cyc]
  intro n e
  rw [cyc_showGeneration, Dev.setPort_cyc]

theorem closeCycle_count (d : Dev) : d.closeCycle.2.cyc.count = (d.cyc.count + 1) % 2 ^ 32 := rfl
theorem closeCycle_ref (d : Dev) : d.closeCycle.2.cyc.ref = d.cyc.ref + ns d.periodNs := rfl
theorem closeCycle_closed (d : Dev) : d.closeCycle.2.cyc.closed = false := rfl
theorem closeCycle_log (d : Dev) : d.closeCycle.2.cyc.log = [] := rfl
theorem closeCycle_host (d : Dev) : d.closeCycle.2.eng.host = [] := rfl

/-! ## The close of the input log (R21) -/

@[simp] theorem cyc_mirOut (o : Output) (d : Dev) : (Dev.mirOut o d).cyc = d.cyc := by
  unfold Dev.mirOut
  split <;> rfl
@[simp] theorem closed_decideActivate (L : Nat) (refL : LTime) (gen : Nat) (at_ : Option (LTime × Nat)) (ref : Option PktRef) (d : Dev) :
    (Dev.decideActivate L refL gen at_ ref d).2.cyc.closed = d.cyc.closed := by
  unfold Dev.decideActivate
  split <;> rfl
@[simp] theorem closed_decideActivations (d : Dev) : d.decideActivations.cyc.closed = d.cyc.closed := by
  unfold Dev.decideActivations
  refine foldl_keep (fun d => d.cyc.closed) _ (fun e x => ?_) _ d
  dsimp only
  split
  · split
    · exact closed_decideActivate _ _ _ _ _ _
    · rfl
  · rfl
/-- Outside a running cycle whose log is open the close does nothing. -/
theorem logClose_idle (d : Dev) (h : d.cyc.running = false ∨ d.cyc.closed = true) : d.logClose = d := by
  have hb : (!d.cyc.running || d.cyc.closed) = true := by
    rcases h with h | h <;> simp [h]
  simp only [Dev.logClose, hb, if_true]
/-- The log of a running cycle is closed by its close. -/
theorem logClose_closed (d : Dev) (hr : d.cyc.running = true) (hc : d.cyc.closed = false) : d.logClose.cyc.closed = true := by
  unfold Dev.logClose
  rw [if_neg (by simp [hr, hc])]
  extract_lets down e c e1 e2 past r used c2 e3 e4 e5 e6
  by_cases hs : e.standby = true
  · rw [if_pos hs]
  · rw [if_neg hs]
    have h5 : e5.cyc = e3.cyc := rfl
    have h6 : e6.cyc = e5.cyc := by
      unfold e6
      split
      · exact cyc_mirOut _ _
      · rfl
    rw [closed_decideActivations, h6, h5]

/-! ## What keeps SYS_MODE: completions, commits and the parts of a logged change of mode -/

@[simp] theorem mode_wr64_far (a v : Nat) (d : Dev) (h : 4 < a) : (Dev.wr64 a v d).rd SYS_MODE = d.rd SYS_MODE :=
  (mode_wr_far _ _ _ (Nat.lt_add_right 4 h)).trans (mode_wr_far _ _ _ h)
theorem mode_fireVector (v : Nat) (d : Dev) : (Dev.fireVector v d).rd SYS_MODE = d.rd SYS_MODE := by
  unfold Dev.fireVector
  dsimp only
  split
  · exact mode_wr_far _ _ _ (Nat.lt_add_right _ (by decide))
  · rfl
theorem mode_signalN (v k : Nat) (d : Dev) : (Dev.signalN v k d).rd SYS_MODE = d.rd SYS_MODE := by
  unfold Dev.signalN
  dsimp only
  split
  · exact mode_fireVector _ _
  · rfl
theorem mode_writeReply (r : KeptReply) (d : Dev) : (Dev.writeReply r d).rd SYS_MODE = d.rd SYS_MODE := by
  unfold Dev.writeReply Dev.signal
  dsimp only
  rw [mode_signalN, mode_set_far (HIF_CQ_OWED.COUNT r.cq) _ _ (Nat.lt_add_right _ (by decide)),
    mode_set_far (HIF_CQ_TAIL.PHASE r.cq) _ _ (Nat.lt_add_right _ (by decide)),
    mode_set_far (HIF_CQ_TAIL.TAIL r.cq) _ _ (Nat.lt_add_right _ (by decide))]
  rfl
theorem mode_pumpCq (c : Nat) (d : Dev) : (Dev.pumpCq c d).rd SYS_MODE = d.rd SYS_MODE := by
  unfold Dev.pumpCq
  refine foldl_keep (fun d => d.rd SYS_MODE) _ (fun e r => ?_) _ d
  dsimp only
  split
  · exact mode_writeReply _ _
  · rfl
theorem mode_complete (ref : PktRef) (st : Nat) (t : LTime) (res : List Byte) (d : Dev) :
    (Dev.complete ref st t res d).rd SYS_MODE = d.rd SYS_MODE := by
  unfold Dev.complete
  split
  · rfl
  · dsimp only
    have owed : ∀ (b : Bool) (cq v : Nat) (e : Dev), (if b then Dev.set (HIF_CQ_OWED.COUNT cq) v e else e).rd SYS_MODE = e.rd SYS_MODE := by
      intro b cq v e
      split
      · exact mode_set_far _ _ _ (Nat.lt_add_right _ (by decide))
      · rfl
    split <;> (rw [mode_pumpCq]; exact owed _ _ _ _)
theorem mode_completeOpt (ref : Option PktRef) (st : Nat) (t : LTime) (res : List Byte) (d : Dev) :
    (Dev.completeOpt ref st t res d).rd SYS_MODE = d.rd SYS_MODE := by
  cases ref with
  | none => rfl
  | some r => exact mode_complete r st t res d

theorem mode_goLiveAll (ws : List (Nat × Word)) (d : Dev) : (Dev.goLiveAll ws d).rd SYS_MODE = d.rd SYS_MODE :=
  foldl_keep (fun d => d.rd SYS_MODE) (fun d (p : Nat × Word) => d.goLive p.1 p.2) (fun _ _ => rfl) ws d
theorem mode_showEvo (n : Nat) (d : Dev) : (Dev.showEvo n d).rd SYS_MODE = d.rd SYS_MODE := mode_set_far _ _ _ (by decide)
theorem mode_evoCommit (n : Nat) (ws : List (Nat × Word)) (t : LTime) (ref : Option PktRef) (d : Dev) :
    (Dev.evoCommit n ws t ref d).rd SYS_MODE = d.rd SYS_MODE := by
  unfold Dev.evoCommit
  extract_lets e0 c old o e1 first
  have h1 : e1.rd SYS_MODE = d.rd SYS_MODE := by
    rw [mode_set_far _ _ _ (by decide), mode_wr_far (EVO_FIRED n) _ _ (Nat.lt_add_right _ (by decide)), mode_goLiveAll]
  have shown : ∀ x : EvoOut, ((e1.setEvo n x).showEvo n).rd SYS_MODE = d.rd SYS_MODE := fun x => (mode_showEvo n _).trans h1
  clear_value first e1
  cases first with
  | none => rw [mode_completeOpt, shown]
  | some f =>
    dsimp only
    split
    · rw [mode_completeOpt, shown]
    · rw [mode_completeOpt, Dev.rd_post, shown]
    · rw [mode_completeOpt, Dev.rd_post, shown]
theorem mode_staleClass (k : Nat) (v : Bool) (d : Dev) : (Dev.staleClass k v d).rd SYS_MODE = d.rd SYS_MODE := by
  unfold Dev.staleClass
  dsimp only
  rw [rd_cond_other _ _ _ _ (by decide) (by decide), mode_set_far _ _ _ (by decide)]
theorem mode_startMonitor (k : Nat) (d : Dev) : (Dev.startMonitor k d).rd SYS_MODE = d.rd SYS_MODE := by
  unfold Dev.startMonitor
  dsimp only
  split
  · rw [when_keep (fun d => d.rd SYS_MODE) _ _ (fun _ => Dev.rd_post _ _ _ _ _), mode_set_far (TRC_MON.DRIFT k) _ _ (Nat.lt_add_right _ (by decide)),
      mode_set_far (TRC_MON.STALE k) _ _ (Nat.lt_add_right _ (by decide))]
    rfl
  · rfl
theorem mode_monCommit (ws : List (Nat × Word)) (d : Dev) : (Dev.monCommit ws d).rd SYS_MODE = d.rd SYS_MODE := by
  unfold Dev.monCommit Dev.showInertia
  dsimp only
  rw [mode_staleClass, mode_set_far _ _ _ (by decide), forN_keep (fun d => d.rd SYS_MODE), mode_goLiveAll]
  intro k e
  split
  · exact mode_startMonitor _ _
  · rfl
theorem mode_showFb (n : Nat) (d : Dev) : (Dev.showFb n d).rd SYS_MODE = d.rd SYS_MODE := by
  unfold Dev.showFb
  dsimp only
  split <;> simp (disch := simp only [FB_STATUS.HALL_STATE, FB_STATUS.STANDSTILL, FB_STATUS.PENDING, FB_STATUS.REVERSAL, FB_STATUS.COUNT_MODE, FB_STATUS.DIR,
    FB_PAIR.OFF_VALID, FB_EDGE_CTRL.DEPTH, FB_STATUS, FB_COUNT_LO, FB_SPEED, FB_SPEED_PERIOD, FB_SPEED_COUNT, FB_LAST_EDGE_FRAC, FB_LAST_EDGE_LO, FB_PAIR,
    FB_PAIR_OFFSET_LO, FB_EDGE_CTRL, FB_EDGE0, FB_EDGE2, FB_EDGE3]; omega) only [mode_set_far, mode_wr_far, mode_wr64_far]
theorem mode_fbCommit (n : Nat) (ws : List (Nat × Word)) (d : Dev) : (Dev.fbCommit n ws d).rd SYS_MODE = d.rd SYS_MODE := by
  unfold Dev.fbCommit
  extract_lets c0 e0 d1 c1 e1 pick c2 c3 hs c4 c5 d2 pt0 pt x d3
  have h2 : d2.rd SYS_MODE = d.rd SYS_MODE := mode_goLiveAll ws d
  have h3 : d3.rd SYS_MODE = d2.rd SYS_MODE := by
    unfold d3
    split
    · exact when_keep (fun d => d.rd SYS_MODE) _ _ (fun e => by rw [Dev.rd_emit, Dev.rd_emit, Dev.rd_emit]) d2
    · rw [Dev.rd_emit, Dev.rd_emit, Dev.rd_emit]
  rw [mode_showFb, mode_set_far _ _ _ (by decide), h3, h2]
theorem mode_capCommit (u : Nat) (ws : List (Nat × Word)) (ref : Option PktRef) (d : Dev) :
    (Dev.capCommit u ws ref d).rd SYS_MODE = d.rd SYS_MODE := by
  unfold Dev.capCommit
  dsimp only
  split
  · rw [mode_completeOpt, mode_goLiveAll, mode_set_far _ _ _ (by decide)]
  · rw [mode_completeOpt, mode_set_far _ _ _ (by decide), mode_set_far _ _ _ (by decide)]
theorem mode_canCommit (n : Nat) (ws : List (Nat × Word)) (ref : Option PktRef) (d : Dev) :
    (Dev.canCommit n ws ref d).rd SYS_MODE = d.rd SYS_MODE := by
  unfold Dev.canCommit
  extract_lets base d1 d2 d3
  have h2 : d2.rd SYS_MODE = d.rd SYS_MODE := by
    rw [mode_set_far (CAN_APPLY.APPLY n) _ _ (Nat.lt_add_right _ (by decide)), forEach_keep (fun d => d.rd SYS_MODE)]
    intro p e
    split <;> rfl
  have h3 : d3.rd SYS_MODE = d2.rd SYS_MODE := by
    unfold d3
    split
    · exact mode_set_far _ _ _ (Nat.lt_add_right _ (by decide))
    · rfl
  rw [mode_completeOpt, h3, h2]
/-- A commit going live keeps SYS_MODE, whatever its block. -/
theorem mode_goCommit (u : Nat) (ws : List (Nat × Word)) (t : LTime) (ref : Option PktRef) (d : Dev) :
    (Dev.goCommit u ws t ref d).rd SYS_MODE = d.rd SYS_MODE := by
  unfold Dev.goCommit
  split
  · exact mode_evoCommit _ _ _ _ _
  · extract_lets e
    rw [mode_completeOpt]
    unfold e
    split
    · rw [mode_set_far _ _ _ (by decide), mode_goLiveAll]
    split
    · exact mode_monCommit _ _
    split
    · exact (mode_set_far _ _ _ (by decide)).trans (mode_goLiveAll _ _)
    split
    · exact mode_fbCommit _ _ _
    split
    · exact (mode_set_far _ _ _ (by decide)).trans (mode_goLiveAll _ _)
    split
    · exact mode_capCommit _ _ _ _
    split
    · exact mode_canCommit _ _ _ _
    split
    · rw [mode_set_far _ _ _ (by decide), mode_goLiveAll]
    · rfl
theorem goCommits_mode (t : LTime) (d : Dev) : (Dev.goCommits t d).mode = d.mode :=
  mode_of_rd _ _ (forEach_keep (fun d => d.rd SYS_MODE) _ (fun _ _ => mode_goCommit _ _ _ _ _) _ _)

theorem mode_abortIdent (p : Nat → Bool) (d : Dev) : (Dev.abortIdent p d).rd SYS_MODE = d.rd SYS_MODE := by
  unfold Dev.abortIdent
  split
  · split
    · unfold Dev.endIdent
      split
      · rfl
      · dsimp only
        rw [Dev.rd_post]
        simp (disch := decide) only [mode_set_far, mode_wr_far]
        rfl
    · rfl
  · rfl
theorem orderStops_mode (m c a : Nat) (d : Dev) : (Dev.orderStops m c a d).mode = d.mode := by
  refine mode_of_rd _ _ (forN_keep (fun d => d.rd SYS_MODE) _ (fun g e => ?_) _ d)
  split
  · exact mode_abortIdent _ _
  · rfl
theorem endRequest_mode (d : Dev) : d.endRequest.mode = d.mode := Dev.get_set_other _ _ _ _ (by decide) (by decide)
theorem mode_setSource (p : Nat) (d : Dev) : (Dev.setSource p d).rd SYS_MODE = d.rd SYS_MODE := by
  unfold Dev.setSource Dev.showTimePath
  dsimp only
  rw [mode_set_far _ _ _ (by decide), mode_set_far _ _ _ (by decide)]
theorem mode_leaveHoldover (p : Nat) (d : Dev) : (Dev.leaveHoldover p d).rd SYS_MODE = d.rd SYS_MODE := by
  unfold Dev.leaveHoldover
  dsimp only
  split
  · rw [Dev.rd_post, rd_cond_other _ _ _ _ (by decide) (by decide), mode_set_far _ _ _ (by decide)]
    rfl
  · rfl
theorem mode_becomeOrigin (d : Dev) : d.becomeOrigin.rd SYS_MODE = d.rd SYS_MODE := by
  unfold Dev.becomeOrigin
  dsimp only
  rw [when_keep (fun d => d.rd SYS_MODE) _ _ (fun _ => Dev.rd_post _ _ _ _ _), mode_leaveHoldover, mode_set_far _ _ _ (by decide),
    mode_set_far _ _ _ (by decide), mode_set_far _ _ _ (by decide), mode_setSource, mode_set_far _ _ _ (by decide)]
theorem mode_endOrigin (d : Dev) : d.endOrigin.rd SYS_MODE = d.rd SYS_MODE := by
  unfold Dev.endOrigin
  split
  · rfl
  · rw [Dev.rd_post]
    simp (disch := decide) only [mode_set_far]
theorem mode_chooseSource (d : Dev) : d.chooseSource.rd SYS_MODE = d.rd SYS_MODE := by
  unfold Dev.chooseSource
  split
  · rfl
  extract_lets offers k clean
  split
  · split
    · rfl
    · split
      · exact mode_becomeOrigin d
      · exact mode_endOrigin d
  · split
    · rfl
    split
    · exact mode_becomeOrigin d
    extract_lets port idx hops changed d1 d2 d3
    have h2 : d2.rd SYS_MODE = d.rd SYS_MODE := by
      rw [mode_set_far _ _ _ (by decide), mode_set_far _ _ _ (by decide), mode_set_far _ _ _ (by decide), mode_setSource,
        mode_set_far _ _ _ (by decide)]
    have h3 : d3.rd SYS_MODE = d2.rd SYS_MODE := by
      unfold d3
      split
      · exact mode_leaveHoldover _ _
      · rfl
    rw [when_keep (fun d => d.rd SYS_MODE) _ _ (fun _ => Dev.rd_post _ _ _ _ _), h3, h2]
theorem leadTime_mode (d : Dev) : d.leadTime.mode = d.mode := by
  refine mode_of_rd _ _ ?_
  unfold Dev.leadTime
  split
  · rfl
  split
  · exact mode_chooseSource d
  split
  · exact mode_becomeOrigin d
  · rfl

/-- A controller outside Service does not enter Service with its dormant generation (R45, R52). -/
theorem goDormant_not_service (c x : Nat) (d : Dev) (h : d.mode ≠ 11) : (Dev.goDormant c x d).mode ≠ 11 := by
  unfold Dev.goDormant
  split
  · rw [enterMode_mode _ _ _ _ _ _ (by decide)]
    decide
  · rwa [endRequest_mode]
/-- A move to Run ends in Run or stays in Ready (R45, R48). -/
theorem toRun_not_service (d : Dev) : (Dev.toRun false d).mode ≠ 11 := by
  unfold Dev.toRun
  simp only [Bool.and_false, Bool.false_eq_true, if_false]
  split
  · rw [leadTime_mode, enterMode_mode _ _ _ _ _ _ (by decide)]
    decide
  · rw [enterMode_mode _ _ _ _ _ _ (by decide)]
    decide
theorem enterModeAct_not_service (t : Nat) (d : Dev) (h : d.mode ≠ 11) : (Dev.enterModeAct false t d).mode ≠ 11 := by
  unfold Dev.enterModeAct
  split
  · split
    · rwa [when_keep Dev.mode _ _ (orderStops_mode _ _ _)]
    · exact h
    · exact goDormant_not_service _ _ d h
    · exact h
  split
  · exact toRun_not_service d
  split
  · rwa [orderStops_mode]
  split
  · exact goDormant_not_service _ _ d h
  · rwa [endRequest_mode]
/-- In Service a logged change of mode only ends its request. -/
theorem enterModeAct_service (t : Nat) (d : Dev) (h : d.mode = 11) : (Dev.enterModeAct false t d).mode = 11 := by
  simp [Dev.enterModeAct, h, endRequest_mode]
/-- The logged change of mode of a boundary neither enters nor leaves Service (R45). -/
theorem modeNow_service_iff (d : Dev) : (Dev.modeNow false d).mode = 11 ↔ d.mode = 11 := by
  unfold Dev.modeNow
  split
  · rfl
  · extract_lets m e
    have he : e.mode = d.mode := rfl
    clear_value e
    rw [← he]
    split
    · exact ⟨fun h => by_contra fun n => enterModeAct_not_service _ _ n h, enterModeAct_service _ _⟩
    · rw [endRequest_mode]

/-! ## The millisecond close (R23) -/

/-- The number of the whole millisecond nearest to the present line time. -/
def Dev.msNow (d : Dev) : Nat := (d.now + ns 500000) / ns 1000000
/-- While a cycle's own log is the one that closes, before Boot, and in a millisecond that has closed, the millisecond close does nothing. -/
theorem msClose_idle (d : Dev) (h : (d.cyc.running = true ∧ d.cyc.preBell = false) ∨ d.mode < 2 ∨ d.cyc.msDone = some d.msNow) :
    d.msClose = d := by
  have hb : ((d.cyc.running && !d.cyc.preBell) || decide (d.mode < 2) || d.cyc.msDone == some d.msNow) = true := by
    rcases h with ⟨h1, h2⟩ | h | h <;> simp [*]
  unfold Dev.msNow at hb
  simp only [Dev.msClose, hb, if_true]

/-- Otherwise, from Boot on, the millisecond closes: every waiting input enters at its instant, then the commits and the logged change of mode act. -/
theorem msClose_closes (d d1 d2 d3 : Dev) (t : Nat) (ht : t = d.msNow * ns 1000000) (hr : d.cyc.running = false ∨ d.cyc.preBell = true)
    (hm : 2 ≤ d.mode) (hd : d.cyc.msDone ≠ some d.msNow) (h1 : d1 = d.reach t)
    (h2 : d2 = ({ d1 with cyc := { d1.cyc with waiting := [], partsSent := 0, msDone := some d.msNow } } : Dev).forEach d.cyc.waiting
      (Dev.enterLogged (stopsOf (d.cyc.waiting.map (·.act))) t))
    (h3 : d3 = ((d2.goCommits t).modeNow false).when (((d2.goCommits t).modeNow false).mode = 11) Dev.traceBoundary) :
    d.msClose = ((d3.when (4 ≤ d3.mode) Dev.showAbsent).showChannels.storeGuard.canGuard).flushEvents := by
  have hb : ¬ ((d.cyc.running && !d.cyc.preBell) || decide (d.mode < 2) || d.cyc.msDone == some d.msNow) = true := by
    have hrun : (d.cyc.running && !d.cyc.preBell) = false := by
      rcases hr with h | h <;> simp [h]
    simp [hrun, hd, Nat.not_lt.mpr hm]
  have same : decide (((d2.goCommits t).modeNow false).mode = 11) = decide (d2.mode = 11) :=
    decide_eq_decide.mpr ((modeNow_service_iff _).trans (by rw [goCommits_mode]))
  rw [same] at h3
  subst h3 h2 h1 ht
  exact if_neg hb

/-! ## The guard (R117, R124) -/

theorem guardStart_idle (d : Dev) (hr : d.cyc.running = false) : d.guardStart = d := by
  simp [Dev.guardStart, hr]
/-- The guard's work, in the order in which it is done. -/
theorem guardStart_running (d : Dev) (a : Generation) (b : SchedBlock) (hr : d.cyc.running = true) (ha : d.cyc.active = some a)
    (hb : a.blocks.head? = some b) :
    d.guardStart = ((((((((((d.reach (d.cyc.ref + quanta b.guard)).forEach d.linePorts Dev.forceDown).rankSources.servo).steerPps).traceGuard).regGuard).storeGuard).canGuard).missEvents).pairGuard).flushEvents := by
  unfold Dev.guardStart
  rw [if_neg (by simp [hr]), ha, Option.bind_some, hb]

end Sys2Proof.Machine

open Sys2Proof Sys2Proof.Machine

/-- Settles O32: each clause is the equation of its operation in that case (R20, R21, R23, R79, R117, R124); a test schedule's start and the
close of the log rest on the lemmas that say what the shown registers, the bells, the axes' opening and the activations leave of the cycle's state. -/
theorem boundaryAndLogsOpenTheNextCycle : Obligations.BoundaryAndLogsOpenTheNextCycle := by
  refine ⟨fun s hr hm => ?_, fun s hr hm hw => ?_, fun s g hr hm hw => ?_, fun s hr => ?_, fun s h => ?_, fun s hr hc => ?_,
    fun s k hk h => ?_, fun s k t d1 d2 d3 hk ht hr hm hd h1 h2 h3 => ?_, fun s hr => ?_, fun s a b hr ha hb => ?_⟩
  · exact exec_cycleBoundary_fixed (boundary_idle _ hr hm)
  · exact exec_cycleBoundary_fixed ((boundary_service _ hr hm).trans (startTest_without_generation _ hw))
  · have hc := startTest_cyc _ g hw
    exact ⟨_, rfl, by rw [hc], by rw [hc], by rw [hc], by rw [hc], by rw [hc], exec_cycleBoundary (boundary_service _ hr hm)⟩
  · exact ⟨_, rfl, closeCycle_count _, closeCycle_ref _, closeCycle_closed _, closeCycle_log _, closeCycle_host _,
      exec_cycleBoundary (boundary_running _ hr)⟩
  · exact exec_inputLogClose_fixed (logClose_idle _ h)
  · exact ⟨_, rfl, logClose_closed _ hr hc⟩
  · subst hk
    exact exec_msLogClose_fixed (msClose_idle _ h)
  · subst hk
    exact exec_msLogClose (msClose_closes _ d1 d2 d3 t ht hr hm hd h1 h2 h3)
  · exact exec_guardStart_fixed (guardStart_idle _ hr)
  · exact exec_guardStart (guardStart_running _ a b hr ha hb)

end

section
/-! PROOFS. The access codes of the SYS, RST, CLK and PIN windows, the latched time and the reserved space (R10 to R12, R42, R57, R386), and O54. -/
namespace Sys2Proof

/-! ## Bits of a word, and the bits of a mask taken away -/

/-- `bitAt` is the library's `Nat.testBit` (R9). -/
theorem bitAt_eq_testBit (v i : Nat) : bitAt v i = v.testBit i := by
  rw [Nat.testBit_eq_decide_div_mod_eq]
  rfl
/-- A word is the sum of its bits under a mask and the others. -/
theorem land_add_ldiff (x m : Nat) : (x &&& m) + Nat.ldiff x m = x := by
  induction x using Nat.binaryRec generalizing m with
  | zero => simp [Nat.ldiff]
  | bit a x ih =>
    cases m using Nat.bitCasesOn with
    | bit b m =>
      have low : (a && b).toNat + (a && !b).toNat = a.toNat := by cases a <;> cases b <;> rfl
      have high := ih m
      rw [Nat.land_bit, Nat.ldiff_bit, Nat.bit_val, Nat.bit_val, Nat.bit_val]
      omega
/-- Subtracting the bits under a mask clears them and no other. -/
theorem testBit_sub_land (x m i : Nat) : (x - Nat.land x m).testBit i = (x.testBit i && !m.testBit i) := by
  have h : x - Nat.land x m = Nat.ldiff x m := Nat.sub_eq_of_eq_add' (land_add_ldiff x m).symm
  rw [h, Nat.testBit_ldiff]
theorem testBit_land (x m i : Nat) : (Nat.land x m).testBit i = (x.testBit i && m.testBit i) := Nat.testBit_and x m i
theorem testBit_lor (x m i : Nat) : (Nat.lor x m).testBit i = (x.testBit i || m.testBit i) := Nat.testBit_or x m i
/-- A register keeps the low 32 bits of what is written. -/
theorem testBit_mod_word (v i : Nat) (h : i < 32) : (v % 2 ^ 32).testBit i = v.testBit i := by
  rw [Nat.testBit_mod_two_pow, decide_eq_true h, Bool.true_and]

end Sys2Proof

namespace Sys2Proof.Machine

/-! ## A plain write and a clearing read, bit by bit (R10 to R12) -/

/-- A plain write changes no other register. -/
theorem rd_plainWrite_other (a v b : Nat) (d : Dev) (h : b ≠ a) : (Dev.plainWrite a v d).rd b = d.rd b := by
  unfold Dev.plainWrite
  split
  · exact Dev.rd_wr_other _ _ _ _ h
  · rfl
/-- Reserved offsets keep nothing. -/
theorem plainWrite_reserved (a v : Nat) (d : Dev) (h : descOf a = none) : Dev.plainWrite a v d = d := by
  simp [Dev.plainWrite, h]
/-- Each bit follows its access code. -/
theorem bitAt_plainWrite (a v i : Nat) (r : RegDesc) (d : Dev) (h : descOf a = some r) (hi : i < 32) :
    bitAt ((Dev.plainWrite a v d).rd a) i =
      (if bitAt r.w1c i && bitAt v i then false else if bitAt r.w1s i && bitAt v i then true
        else if bitAt r.rw i then bitAt v i else bitAt (d.rd a) i) := by
  simp only [Dev.plainWrite, h, Dev.rd_wr_same, bitAt_eq_testBit, testBit_mod_word _ _ hi, testBit_sub_land, testBit_lor, testBit_land]
  -- the truth table of the four bits
  cases r.w1c.testBit i <;> cases r.w1s.testBit i <;> cases r.rw.testBit i <;> cases v.testBit i <;> simp
theorem rd_clearRc_other (a b : Nat) (d : Dev) (h : b ≠ a) (ha : a ≠ CE_SLACK_MIN) : (Dev.clearRc a d).rd b = d.rd b := by
  unfold Dev.clearRc
  split
  · split
    · rfl
    · exact Dev.rd_wr_other _ _ _ _ h
  · rfl
/-- A read clears the RC bits of its register (R11). -/
theorem bitAt_clearRc (a i : Nat) (r : RegDesc) (d : Dev) (h : descOf a = some r) (ha : a ≠ CE_SLACK_MIN) (hi : i < 32) :
    bitAt ((Dev.clearRc a d).rd a) i = (if bitAt r.rc i then false else bitAt (d.rd a) i) := by
  simp only [Dev.clearRc, h, if_neg ha]
  split
  case isTrue h0 => simp [h0, bitAt]
  case isFalse =>
    rw [Dev.rd_wr_same]
    simp only [bitAt_eq_testBit, testBit_mod_word _ _ hi, testBit_sub_land]
    cases r.rc.testBit i <;> simp
theorem clearRc_reserved (a : Nat) (d : Dev) (h : descOf a = none) : Dev.clearRc a d = d := by
  simp [Dev.clearRc, h]
theorem out_clearRc (a : Nat) (d : Dev) : (Dev.clearRc a d).out = d.out := by
  unfold Dev.clearRc
  split
  · split
    · rfl
    · split
      · exact Dev.set_out _ _ _
      · rfl
  · rfl

/-! ## Where an offset lies -/

theorem indexIn_below {a base : Nat} (stride c : Nat) (h : a < base) : indexIn a base stride c = none := by
  simp [indexIn, Nat.not_le.mpr h]
theorem indexIn_beyond {a base stride c : Nat} (hs : 0 < stride) (h : base + c * stride ≤ a) : indexIn a base stride c = none := by
  have hc : ¬ (a - base) / stride < c := by
    rw [Nat.div_lt_iff_lt_mul hs]
    omega
  simp [indexIn, hc]
/-- Mailbox words lie in the CAN windows. -/
theorem mailboxAt_outside (d : Dev) (a : Nat) (h : a < 0xD0000 ∨ 0xE0000 ≤ a) : d.mailboxAt a = none := by
  have hb : (a < 0xD0000 || 0xE0000 ≤ a || a % 0x8000 < 0x4000 : Bool) = true := by
    rcases h with h | h <;> simp [h]
  exact if_pos hb
/-- No register stands in the space from 0x40_0000 on (R39). -/
theorem descOf_reserved_space (a : Nat) (h : 0x400000 ≤ a) : descOf a = none := by
  have ht : regTable a = [] := by
    unfold regTable
    repeat rw [if_neg (by omega)]
  simp [descOf, ht]
theorem latchesNext_reserved_space (a : Nat) (h : 0x3FFFFC ≤ a) : latchesNext a = false := by
  unfold latchesNext
  rw [indexIn_beyond (by decide) (by unfold FB_COUNT_LO; omega), indexIn_beyond (by decide) (by unfold ADC_CH_TIME_LO; omega),
    indexIn_beyond (by decide) (by unfold ACQ_U_TRIG_LO; omega), indexIn_beyond (by decide) (by unfold DMA_CH_FAULT_VA_LO; omega)]
  simp [SYS_MODE_TIME_LO, TDC_SYNC_LO, STO_NEWEST_LO, STO_OLDEST_LO, LDG_GEN_LO, LDG_ENTRY_LO, RST_CAUSE_TIME_LO]
  omega
theorem latchesTwo_reserved_space (a : Nat) (h : 0x3FFFF8 ≤ a) : latchesTwo a = false := by
  unfold latchesTwo
  rw [indexIn_beyond (by decide) (by unfold FB_LAST_EDGE_FRAC; omega)]
  simp [LTM_NOW_FRAC, RST_RTC_SUB]
  omega
theorem isLatched_reserved_space (a : Nat) (h : 0x400000 ≤ a) : isLatched a = false := by
  simp [isLatched, latchesNext_reserved_space (a - 4) (by omega), latchesTwo_reserved_space (a - 4) (by omega),
    latchesTwo_reserved_space (a - 8) (by omega)]

/-! ## An accepted access (R40, R386) -/

theorem busWrite_absent (a n v : Nat) (d : Dev) (h : d.ready = false) : Dev.busWrite a n v d = d := by simp [Dev.busWrite, h]
theorem busRead_absent (b : Backup) (a n : Nat) (d : Dev) (h : d.ready = false) : Dev.busRead b a n d = d := by simp [Dev.busRead, h]
/-- An aligned 32-bit write to the SAF window is counted and discarded (R42). -/
theorem busWrite_saf (a v : Nat) (d : Dev) (hr : d.ready = true) (ha : a % 4 = 0) (h1 : 0xC0000 ≤ a) (h2 : a < 0xD0000) :
    Dev.busWrite a 4 v d = d.count HIF_BAD_ACCESS_CNT.SAF 1 := by
  simp [Dev.busWrite, accessOk, hr, ha, h1, h2]
theorem busWrite_word (a v : Nat) (d : Dev) (hr : d.ready = true) (ha : a % 4 = 0) (hs : a < 0xC0000 ∨ 0xD0000 ≤ a) :
    Dev.busWrite a 4 v d = d.busWrite32 a (v % 2 ^ 32) := by
  have hb : ¬ (0xC0000 ≤ a ∧ a < 0xD0000) := by omega
  simp [Dev.busWrite, accessOk, hr, ha, hb]
theorem busRead_word (b : Backup) (a : Nat) (d : Dev) (hr : d.ready = true) (ha : a % 4 = 0) : Dev.busRead b a 4 d = d.busRead32 b a := by
  simp [Dev.busRead, accessOk, hr, ha]
/-- The windows below 0x1_0000 are those of SYS, RST, CLK and PIN. -/
theorem busWrite32_sys (a v : Nat) (d : Dev) (h : a < 0x10000) : Dev.busWrite32 a v d = d.sysWrite a v := by
  unfold Dev.busWrite32
  rw [if_neg (by omega), if_pos h]
theorem busWrite32_reserved_space (a v : Nat) (d : Dev) (h : 0x400000 ≤ a) : Dev.busWrite32 a v d = d := by
  unfold Dev.busWrite32
  rw [if_pos (by omega), if_neg (by simp; omega)]
/-- A register of those windows without a row of its own takes a plain write. -/
theorem sysWrite_plain (a v : Nat) (d : Dev) (h1 : a ≠ SYS_DRILL_LIMIT) (h2 : a ≠ SYS_COND_EVT_EN) (h3 : a ≠ PIN_MFP_OUT)
    (h4 : indexIn a (PIN_MFP 0) 4 24 = none) : Dev.sysWrite a v d = d.plainWrite a v := by
  simp only [Dev.sysWrite, if_neg h1, if_neg h2, if_neg h3, h4]
/-- An offset that is one of an array's is the offset of its member. -/
theorem indexIn_some {a base stride c n : Nat} (h : indexIn a base stride c = some n) : n < c ∧ a = base + n * stride := by
  unfold indexIn at h
  split at h
  case isFalse => cases h
  case isTrue hb =>
    simp only [Bool.and_eq_true, decide_eq_true_eq, beq_iff_eq] at hb
    obtain ⟨⟨hle, hmod⟩, hlt⟩ := hb
    obtain rfl : (a - base) / stride = n := Option.some.inj h
    have := Nat.div_mul_cancel (Nat.dvd_of_mod_eq_zero hmod)
    exact ⟨hlt, by omega⟩
/-- The multi-function pins are registers of the PIN table (R526). -/
theorem descOf_pinMfp (n : Nat) (h : n < 24) : descOf (PIN_MFP 0 + n * 4) ≠ none := by
  have all : ∀ k : Fin 24, descOf (PIN_MFP 0 + k.val * 4) ≠ none := by decide
  exact all ⟨n, h⟩
/-- A write to a reserved offset of those windows keeps nothing. -/
theorem sysWrite_reserved (a v : Nat) (d : Dev) (h : descOf a = none) : Dev.sysWrite a v d = d := by
  have h1 : a ≠ SYS_DRILL_LIMIT := by rintro rfl; revert h; decide
  have h2 : a ≠ SYS_COND_EVT_EN := by rintro rfl; revert h; decide
  have h3 : a ≠ PIN_MFP_OUT := by rintro rfl; revert h; decide
  have h4 : indexIn a (PIN_MFP 0) 4 24 = none := by
    cases hn : indexIn a (PIN_MFP 0) 4 24 with
    | none => rfl
    | some n =>
      obtain ⟨hlt, rfl⟩ := indexIn_some hn
      exact absurd h (descOf_pinMfp n hlt)
  rw [sysWrite_plain a v d h1 h2 h3 h4, plainWrite_reserved a v d h]

/-! ## A 32-bit read (R11, R57) -/

/-- Below the line-time window and in the reserved space a read pops no queue and locks no mailbox. -/
theorem busRead32_unqueued (b : Backup) (a : Nat) (d : Dev) (hx : a < 0x30000 ∨ 0x400000 ≤ a) :
    Dev.busRead32 b a d = if isLatched a then d.emit (.busData a (smGet resetOf d.latch a).toNat) else
      ((((d.busNow b a).2.emit (.busData a (d.busNow b a).1)).clearRc a).when (latchesNext a || latchesTwo a)
        (Dev.latchWord b (a + 4))).when (latchesTwo a) (Dev.latchWord b (a + 8)) := by
  have h1 : a ≠ LTM_TXTS_ENTRY3 := by unfold LTM_TXTS_ENTRY3; omega
  have h2 : indexIn a (FB_EDGE3 0) 0x100 4 = none := by
    rcases hx with h | h
    · exact indexIn_below _ _ (by unfold FB_EDGE3; omega)
    · exact indexIn_beyond (by decide) (by unfold FB_EDGE3; omega)
  have h3 : indexIn a (TDC_IN_TS3 0) 0x40 16 = none := by
    rcases hx with h | h
    · exact indexIn_below _ _ (by unfold TDC_IN_TS3; omega)
    · exact indexIn_beyond (by decide) (by unfold TDC_IN_TS3; omega)
  have h4 : d.mailboxAt a = none := mailboxAt_outside d a (by omega)
  simp only [Dev.busRead32, if_neg h1, h2, h3, h4]
/-- A latched word answers what was latched. -/
theorem busRead32_latched (b : Backup) (a : Nat) (d : Dev) (hx : a < 0x30000 ∨ 0x400000 ≤ a) (hl : isLatched a = true) :
    Dev.busRead32 b a d = d.emit (.busData a (smGet resetOf d.latch a).toNat) := by
  rw [busRead32_unqueued b a d hx, if_pos hl]
/-- A word that is not latched and latches nothing goes out and its RC bits clear. -/
theorem busRead32_plain (b : Backup) (a x : Nat) (d e : Dev) (hx : a < 0x30000 ∨ 0x400000 ≤ a) (hl : isLatched a = false)
    (hn : latchesNext a = false) (ht : latchesTwo a = false) (hv : d.busNow b a = (x, e)) :
    Dev.busRead32 b a d = (e.emit (.busData a x)).clearRc a := by
  simp [busRead32_unqueued b a d hx, hl, hn, ht, hv]
/-- A low word goes out, its RC bits clear, and the word above is latched. -/
theorem busRead32_latching (b : Backup) (a x : Nat) (d e : Dev) (hx : a < 0x30000 ∨ 0x400000 ≤ a) (hl : isLatched a = false)
    (hn : latchesNext a = true) (ht : latchesTwo a = false) (hv : d.busNow b a = (x, e)) :
    Dev.busRead32 b a d = ((e.emit (.busData a x)).clearRc a).latchWord b (a + 4) := by
  simp [busRead32_unqueued b a d hx, hl, hn, ht, hv]
/-- The registers of the SYS window show what they hold. -/
theorem busNow_sys (b : Backup) (a : Nat) (d : Dev) (h : a < 0x4000) : Dev.busNow b a d = (d.rd a, d) := by
  have hp : busPort a = none := by
    unfold busPort
    rw [if_neg (by simp; omega)]
  simp (disch := omega) only [Dev.busNow, LTM_NOW_FRAC, LTM_NOW_LO, LTM_NOW_HI, RST_RTC_SUB, RST_RTC_SEC_LO, RST_RTC_SEC_HI, RST_WDT, TDC_SYNC_LO, LDG_RATE,
    HIF_HB, SEC_DEBUG_LEFT, Bool.and_eq_true, decide_eq_true_eq, if_neg, hp]
theorem busNow_reserved_space (b : Backup) (a : Nat) (d : Dev) (h : 0x400000 ≤ a) : Dev.busNow b a d = (0, d) := if_pos h
theorem busRead32_reserved_space (b : Backup) (a : Nat) (d : Dev) (h : 0x400000 ≤ a) : Dev.busRead32 b a d = d.emit (.busData a 0) := by
  rw [busRead32_plain b a 0 d d (.inr h) (isLatched_reserved_space a h) (latchesNext_reserved_space a (by omega))
    (latchesTwo_reserved_space a (by omega)) (busNow_reserved_space b a d h), clearRc_reserved _ _ (descOf_reserved_space a h)]

/-! ## The coherent time of the last change of mode (R57) -/

/-- SYS_MODE_TIME_LO has no RC bit. -/
theorem clearRc_modeTimeLo (d : Dev) : Dev.clearRc SYS_MODE_TIME_LO d = d := rfl
/-- Reading SYS_MODE_TIME_LO latches the word above it. -/
theorem busRead32_modeTimeLo (b : Backup) (d : Dev) :
    Dev.busRead32 b SYS_MODE_TIME_LO d = (d.emit (.busData SYS_MODE_TIME_LO (d.rd SYS_MODE_TIME_LO))).latchWord b SYS_MODE_TIME_HI := by
  rw [busRead32_latching b SYS_MODE_TIME_LO _ d d (.inl (by decide)) (by decide) (by decide) (by decide) (busNow_sys b _ d (by decide)),
    clearRc_modeTimeLo]
  rfl
theorem latchWord_modeTimeHi (b : Backup) (d : Dev) : Dev.latchWord b SYS_MODE_TIME_HI d =
    { d with latch := smSet resetOf d.latch SYS_MODE_TIME_HI (BitVec.ofNat 32 (d.rd SYS_MODE_TIME_HI)) } := by
  simp only [Dev.latchWord, busNow_sys b SYS_MODE_TIME_HI d (by decide)]

/-! ## The bus commands, by what they make of the device part -/

theorem exec_registerWrite {g : Dev → Dev} {s : State} {a : BitVec 24} {n : BitVec 8} {v : BitVec 64}
    (h : s.dev.busWrite a.toNat n.toNat v.toNat = g s.dev) : exec (.registerWrite a n v) s = .next (s.onDev g) :=
  congrArg Host.Outcome.next (State.onDev_congr h)
theorem exec_readClear {g : Dev → Dev} {s : State} {a : BitVec 24} {n : BitVec 8}
    (h : s.dev.busRead s.backup a.toNat n.toNat = g s.dev) : exec (.readClear a n) s = .next (s.onDev g) :=
  congrArg Host.Outcome.next (State.onDev_congr h)
theorem exec_latchingRead {g : Dev → Dev} {s : State} {a : BitVec 24} {n : BitVec 8}
    (h : s.dev.busRead s.backup a.toNat n.toNat = g s.dev) : exec (.latchingRead a n) s = .next (s.onDev g) :=
  congrArg Host.Outcome.next (State.onDev_congr h)
/-- A write that changes nothing of the device part changes nothing. -/
theorem exec_registerWrite_fixed {s : State} {a : BitVec 24} {n : BitVec 8} {v : BitVec 64}
    (h : s.dev.busWrite a.toNat n.toNat v.toNat = s.dev) : exec (.registerWrite a n v) s = .next s :=
  congrArg Host.Outcome.next (State.onDev_of_fixed h)

/-! ## The clauses about writes and reads -/

/-- What an aligned 32-bit write makes of a register of the SYS, RST, CLK and PIN windows without a row of its own. -/
theorem registerWrite_plain (s : State) (a : BitVec 24) (v : BitVec 64) (hr : s.dev.ready = true) (ha : a.toNat % 4 = 0) (hw : a.toNat < 0x10000)
    (h1 : a.toNat ≠ SYS_DRILL_LIMIT) (h2 : a.toNat ≠ SYS_COND_EVT_EN) (h3 : a.toNat ≠ PIN_MFP_OUT) (h4 : indexIn a.toNat (PIN_MFP 0) 4 24 = none) :
    exec (.registerWrite a 4#8 v) s = .next (s.onDev (Dev.plainWrite a.toNat (v.toNat % 2 ^ 32))) :=
  exec_registerWrite ((busWrite_word _ _ _ hr ha (by omega)).trans ((busWrite32_sys _ _ _ hw).trans (sysWrite_plain _ _ _ h1 h2 h3 h4)))

end Sys2Proof.Machine

open Sys2Proof Sys2Proof.Machine

/-- Settles O54: the accepted access comes down to a plain write, a clearing read or a latch, whose lemmas say each bit (R10 to R12, R42, R57, R386). -/
theorem registerBitsFollowTheirAccess : Obligations.RegisterBitsFollowTheirAccess := by
  refine ⟨fun s a v r hr ha hw hd h1 h2 h3 h4 => ?_, fun s a v hr ha hw hd => ?_, fun s a v hr ha hlo hhi => ?_,
    fun s a x r hr ha hw hd hl hn ht hv => ?_, fun s hr => ?_, fun s hr => ?_, fun s a n v hr => ?_, fun s a v hr ha h => ?_⟩
  · refine ⟨_, registerWrite_plain s a v hr ha hw h1 h2 h3 h4, fun b hb => rd_plainWrite_other _ _ b _ hb, fun i hi => ?_⟩
    have hv : bitAt (v.toNat % 2 ^ 32) i = bitAt v.toNat i := by simp only [bitAt_eq_testBit, testBit_mod_word _ _ hi]
    rw [State.onDev_dev, bitAt_plainWrite _ _ _ r _ hd hi, hv]
  · exact exec_registerWrite_fixed ((busWrite_word _ _ _ hr ha (by omega)).trans ((busWrite32_sys _ _ _ hw).trans (sysWrite_reserved _ _ _ hd)))
  · exact exec_registerWrite (busWrite_saf _ _ _ hr ha hlo hhi)
  · have hslack : a.toNat ≠ CE_SLACK_MIN := by unfold CE_SLACK_MIN; omega
    refine ⟨_, exec_readClear (g := fun d => (d.emit (.busData a.toNat x)).clearRc a.toNat)
      ((busRead_word _ _ _ hr ha).trans (busRead32_plain _ _ _ _ _ (by omega) hl hn ht hv)), ?_, fun b hb => ?_, fun i hi => ?_⟩
    · rw [State.onDev_dev, out_clearRc, Dev.emit_out]
    · rw [State.onDev_dev, rd_clearRc_other _ _ _ hb hslack, Dev.rd_emit]
    · rw [State.onDev_dev, bitAt_clearRc _ _ r _ hd hslack hi, Dev.rd_emit]
  · refine ⟨_, exec_latchingRead (g := fun d => (d.emit (.busData SYS_MODE_TIME_LO (d.rd SYS_MODE_TIME_LO))).latchWord s.backup SYS_MODE_TIME_HI)
      ((busRead_word _ _ _ hr (by decide)).trans (busRead32_modeTimeLo _ _)), ?_, ?_, ?_⟩
    · rw [State.onDev_dev, latchWord_modeTimeHi, Dev.emit_out]
    · rw [State.onDev_dev, latchWord_modeTimeHi, Dev.emit_regs]
    · rw [State.onDev_dev, latchWord_modeTimeHi, smGet_smSet_same, Dev.rd_emit, BitVec.toNat_ofNat, Nat.mod_eq_of_lt (Dev.rd_lt _ _)]
  · exact exec_latchingRead ((busRead_word _ _ _ hr (by decide)).trans (busRead32_latched _ _ _ (.inl (by decide)) (by decide)))
  · exact ⟨exec_registerWrite_fixed (busWrite_absent _ _ _ _ hr), congrArg Host.Outcome.next (State.onDev_of_fixed (busRead_absent _ _ _ _ hr)),
      congrArg Host.Outcome.next (State.onDev_of_fixed (busRead_absent _ _ _ _ hr))⟩
  · have read := (busRead_word s.backup _ _ hr ha).trans (busRead32_reserved_space s.backup _ s.dev h)
    exact ⟨exec_registerWrite_fixed ((busWrite_word _ _ _ hr ha (by omega)).trans (busWrite32_reserved_space _ _ _ h)), exec_readClear read,
      exec_latchingRead read⟩

end

section
/-! PROOFS. Which commands answer a next state (R37, R432 to R434), and O4. -/
namespace Sys2Proof.Machine

/-! ## The DMA channel's commands, by their running descriptor -/

/-- A channel's completion answers a next state or meets DRAM that is not fitted (R37, R433). -/
theorem dmaDescriptorComplete_answers (n : Fin 16) (ext : HostRead) (s : State) :
    (∃ t, exec (.dmaDescriptorComplete n ext) s = .next t) ∨ exec (.dmaDescriptorComplete n ext) s = .fault .dramHole := by
  show (∃ t, execDmaDescriptorComplete n ext s = .next t) ∨ execDmaDescriptorComplete n ext s = .fault .dramHole
  unfold execDmaDescriptorComplete
  dsimp only
  split
  · exact .inl ⟨_, rfl⟩
  · split
    · exact .inl ⟨_, rfl⟩
    · split
      · exact .inr rfl
      · split <;> exact .inl ⟨_, rfl⟩
/-- A channel's fault answers a next state or meets DRAM that is not fitted (R37, R434). -/
theorem dmaFault_answers (n : Fin 16) (ext : List Byte) (s : State) :
    (∃ t, exec (.dmaFault n ext) s = .next t) ∨ exec (.dmaFault n ext) s = .fault .dramHole := by
  show (∃ t, execDmaFault n ext s = .next t) ∨ execDmaFault n ext s = .fault .dramHole
  unfold execDmaFault
  dsimp only
  split
  · exact .inl ⟨_, rfl⟩
  · split
    · exact .inl ⟨_, rfl⟩
    · split
      · exact .inl ⟨_, rfl⟩
      · split
        · exact .inr rfl
        · exact .inl ⟨_, rfl⟩

/-- A transfer that runs without a translation fault stops where its descriptor touches DRAM beyond what is fitted. -/
theorem dmaDescriptorComplete_hole (n : Fin 16) (ext : HostRead) (s : State) (x : DmaDesc) (hc : (s.dev.dmaCh n.val).cur = some x)
    (hs : s.dev.get (DMA_CH_STATUS.STATE n.val) ≠ 2) (hf : s.dev.descFault x (s.dev.dmaCh n.val).pos = none)
    (hh : s.dev.inHole x (s.dev.dmaCh n.val).pos x.len = true) : exec (.dmaDescriptorComplete n ext) s = .fault .dramHole := by
  show execDmaDescriptorComplete n ext s = _
  simp [execDmaDescriptorComplete, hc, hs, hf, hh]
/-- A transfer stops on its way to a translation fault where the bytes before the fault touch DRAM beyond what is fitted. -/
theorem dmaFault_hole (n : Fin 16) (ext : List Byte) (s : State) (x : DmaDesc) (f : Nat) (demand write : Bool)
    (hc : (s.dev.dmaCh n.val).cur = some x) (hs : s.dev.get (DMA_CH_STATUS.STATE n.val) ≠ 2)
    (hf : s.dev.descFault x (s.dev.dmaCh n.val).pos = some (f, demand, write))
    (hh : s.dev.inHole x (s.dev.dmaCh n.val).pos f = true) : exec (.dmaFault n ext) s = .fault .dramHole := by
  show execDmaFault n ext s = _
  simp [execDmaFault, hc, hs, hf, hh]

end Sys2Proof.Machine

open Sys2Proof Sys2Proof.Machine

/-- Settles O4: of the commands only the two that move a channel's bytes have an arm that faults, and it is the one for DRAM that is not fitted (R37, R432). -/
theorem onlyDmaBeyondDramStops : Obligations.OnlyDmaBeyondDramStops := by
  refine ⟨fun c s => ?_, dmaDescriptorComplete_hole, dmaFault_hole⟩
  cases c with
  | dmaDescriptorComplete n x => exact (dmaDescriptorComplete_answers n x s).imp_right (fun h => ⟨h, .inl ⟨n, x, rfl⟩⟩)
  | dmaFault n x => exact (dmaFault_answers n x s).imp_right (fun h => ⟨h, .inr ⟨n, x, rfl⟩⟩)
  | _ => exact .inl ⟨_, rfl⟩

end

section
/-! PROOFS. BAR0's accesses by size and alignment (R40, R42), and O53. -/
namespace Sys2Proof.Machine

theorem accessOk_doubleword (a : Nat) (ha : a % 8 = 0) : accessOk a 8 = true := by simp [accessOk, ha]
/-- An access of another size or alignment than a natural word or doubleword is refused. -/
theorem accessOk_refused (a n : Nat) (h : (n ≠ 4 ∧ n ≠ 8) ∨ a % n ≠ 0) : accessOk a n = false := by
  rcases h with ⟨h4, h8⟩ | h
  · simp [accessOk, h4, h8]
  · have h4 : n = 4 → a % 4 ≠ 0 := fun e => e ▸ h
    have h8 : n = 8 → a % 8 ≠ 0 := fun e => e ▸ h
    simpa [accessOk] using ⟨h4, h8⟩

/-- A write of another size or alignment is discarded and counted (R40). -/
theorem busWrite_refused (a n v : Nat) (d : Dev) (hr : d.ready = true) (h : accessOk a n = false) :
    Dev.busWrite a n v d = d.count HIF_BAD_ACCESS_CNT.SIZE 1 := by simp [Dev.busWrite, hr, h]
theorem busRead_refused (b : Backup) (a n : Nat) (d : Dev) (hr : d.ready = true) (h : accessOk a n = false) :
    Dev.busRead b a n d = d.emit (.busData a 0) := by simp [Dev.busRead, hr, h]
/-- An aligned doubleword is written as its low word and then its high word (R40). -/
theorem busWrite_doubleword (a v : Nat) (d : Dev) (hr : d.ready = true) (ha : a % 8 = 0) (hs : ¬(0xC0000 ≤ a ∧ a < 0xD0000)) (hv : v < 2 ^ 64) :
    Dev.busWrite a 8 v d = (d.busWrite32 a (v % 2 ^ 32)).busWrite32 (a + 4) (v / 2 ^ 32) := by
  have hhi : v / 2 ^ 32 % 2 ^ 32 = v / 2 ^ 32 := Nat.mod_eq_of_lt (by omega)
  simp only [Dev.busWrite, hr, accessOk_doubleword a ha, hhi, Bool.not_true, Bool.false_eq_true, if_false, Bool.and_eq_true, decide_eq_true_eq, if_neg hs]
  rfl
theorem busRead_doubleword (b : Backup) (a : Nat) (d : Dev) (hr : d.ready = true) (ha : a % 8 = 0) :
    Dev.busRead b a 8 d = (d.busRead32 b a).busRead32 b (a + 4) := by
  simp [Dev.busRead, accessOk_doubleword a ha, hr]

end Sys2Proof.Machine

open Sys2Proof Sys2Proof.Machine

/-- Settles O53: an access is a word, a doubleword of two words, or refused, and the bus commands are what it makes of the device part (R40, R42). -/
theorem bar0AccessSizes : Obligations.Bar0AccessSizes := by
  refine ⟨fun s a => Dev.rd_lt _ _, fun s a v hr ha hs => ?_, fun s a v hr ha hs => ?_, fun s a n v hr h => ?_, fun s a hr ha => ?_, fun s a hr ha => ?_⟩
  · exact exec_registerWrite (g := fun d => (d.busWrite32 a.toNat (v.toNat % 2 ^ 32)).busWrite32 (a.toNat + 4) (v.toNat / 2 ^ 32))
      (busWrite_doubleword _ _ _ hr ha hs v.isLt)
  · exact exec_registerWrite (busWrite_word _ _ _ hr ha (by omega))
  · have no := accessOk_refused _ _ h
    exact ⟨exec_registerWrite (busWrite_refused _ _ _ _ hr no), exec_readClear (busRead_refused _ _ _ _ hr no),
      exec_latchingRead (busRead_refused _ _ _ _ hr no)⟩
  · have read := busRead_doubleword s.backup _ _ hr ha
    exact ⟨exec_readClear (g := fun d => (d.busRead32 s.backup a.toNat).busRead32 s.backup (a.toNat + 4)) read,
      exec_latchingRead (g := fun d => (d.busRead32 s.backup a.toNat).busRead32 s.backup (a.toNat + 4)) read⟩
  · have read := busRead_word s.backup _ _ hr ha
    exact ⟨exec_readClear read, exec_latchingRead read⟩

end

section
/-! PROOFS. SET_MODE (R26, R45 to R47, R52, R67, R313): its first check and its outcomes, and O9. -/
namespace Sys2Proof.Machine

/-- An accepted packet command ends in what its opcode's reply makes of the device part. -/
theorem Runs.next {op : Opcode} {p p' : Packet} {s : State} {d' e : Dev} (h : Runs op p s.dev p' d')
    (he : Dev.answer (refOf p s.dev) (op.run p' (refOf p s.dev) d') = e) :
    (Host.Outcome.next (s.onDev (Dev.packet op p)) : Answer) = .next (s.onDev (fun _ => e)) :=
  congrArg Host.Outcome.next (State.onDev_congr (h.packet.trans he))

/-! ## A request that is only noted or logged keeps line time -/

theorem now_request (t : Nat) (ref : PktRef) (d : Dev) : (d.request t ref).now = d.now := rfl
theorem now_logInput (k n : Nat) (a : LogAct) (ref : Option PktRef) (d : Dev) : (d.logInput k n a ref).now = d.now := rfl
theorem now_askPermit (d : Dev) : ({ d with mir := { d.mir with runNext := true } } : Dev).now = d.now := rfl
theorem answer_logMode (t : Nat) (ref : PktRef) (d : Dev) :
    Dev.answer ref (d.logMode t ref) = ((d.request t ref).logInput 0x01 68 (.mode t) none).complete ref stACCEPTED d.now [] := by
  rw [Dev.logMode, answer_done, now_logInput, now_request]

/-! ## The mode check (R46) -/

theorem setModeFirst_sealed (d : Dev) (t : Nat) (h : d.mode = 3) : d.setModeFirst t = stWRONG_MODE := by simp [Dev.setModeFirst, h]
theorem setModeFirst_lockout (d : Dev) (t : Nat) (h : d.mode = 9) : d.setModeFirst t = stSAFETY_LOCKED := by simp [Dev.setModeFirst, h]
theorem setModeFirst_standby (d : Dev) (t : Nat) (h3 : d.mode ≠ 3) (h9 : d.mode ≠ 9) (hs : d.standby = true) (ht : t ≠ 4) :
    d.setModeFirst t = stNOT_PERMIT_HOLDER := by simp [Dev.setModeFirst, h3, h9, hs, ht]
/-- Two ends that carry the same PAIR_END stay off the line (R26). -/
theorem setModeFirst_sameEnd (d : Dev) (t : Nat) (b : List Byte) (hm : d.mode = 4) (hs : d.standby = false) (ht : t = 6 ∨ t = 7)
    (hp : d.mir.peer = some b) (he : fieldAt b 5 1 = flag d.sys.pairEnd) : d.setModeFirst t = stWRONG_MODE := by
  have stays : d.mayLeave t = false := by
    rcases ht with rfl | rfl <;> simp [Dev.mayLeave, hp, he]
  rcases ht with rfl | rfl <;> simp [Dev.setModeFirst, hm, hs, stays]
/-- From Shadow and from Service Configure is a target. -/
theorem setModeFirst_offLine (d : Dev) (hm : d.mode = 8 ∨ d.mode = 11) : d.setModeFirst 4 = 0 := by
  rcases hm with hm | hm <;> simp [Dev.setModeFirst, hm]
/-- Configure itself is no target in Configure. -/
theorem setModeFirst_configure (d : Dev) (hm : d.mode = 4) : d.setModeFirst 4 ≠ 0 := by
  simp [Dev.setModeFirst, hm, stWRONG_MODE]

/-! ## What a SET_MODE that passes the check does (R45 to R47, R52, R67, R313) -/

section
variable (p : Packet) (ref : PktRef) (d : Dev)

theorem setMode_noTarget (h : [4, 6, 7, 10, 11].contains (par p 22 1) = false ∨ (par p 22 1 = 10 ∧ d.sys.package.bind (·.dormant) = none)) :
    opSetMode.run p ref d = (.bad stBAD_PARAMETER, d) := by
  rcases h with h | ⟨h10, hd⟩
  · simp only [opSetMode, h, Bool.not_false, Bool.true_or, if_true]
  · simp only [opSetMode, h10, hd, Option.isNone_none, decide_true, Bool.and_self, Bool.or_true, if_true]
theorem setMode_busy (ht : [4, 6, 7, 10, 11].contains (par p 22 1) = true) (hd : par p 22 1 ≠ 10 ∨ d.sys.package.bind (·.dormant) ≠ none)
    (h : d.on SYS_MODE.TRANSITION = true ∨ (d.mode = 4 ∧ par p 22 1 ≠ 4 ∧ d.on RST_STATUS.DRAM_READY = false)) :
    opSetMode.run p ref d = (.bad stBUSY, d) := by
  simp only [opSetMode]
  refine (if_neg ?target).trans (if_pos ?busy)
  case target =>
    rw [ht, Bool.not_true, Bool.false_or]
    rcases hd with hd | hd
    · simp [hd]
    · obtain ⟨g, hg⟩ := Option.ne_none_iff_exists'.mp hd
      simp only [hg, Option.isNone_some, Bool.and_false, Bool.false_eq_true, not_false_eq_true]
  case busy =>
    rcases h with h | ⟨hm, h4, hr⟩
    · simp [h]
    · simp [hm, h4, hr]

theorem setMode_toService (hm : d.mode = 4) (ht : d.on SYS_MODE.TRANSITION = false) (hr : d.on RST_STATUS.DRAM_READY = true) (h : par p 22 1 = 11) :
    opSetMode.run p ref d = (.done stOK [], d.enterMode 11 6 ref.tag none false) := by
  simp [opSetMode, hm, ht, hr, h]
theorem setMode_rateShort (hm : d.mode = 4) (ht : d.on SYS_MODE.TRANSITION = false) (hr : d.on RST_STATUS.DRAM_READY = true)
    (h : par p 22 1 = 6 ∨ par p 22 1 = 7) (n : Nat) (hn : d.rateShort = some n) :
    opSetMode.run p ref d = (.done stCONSISTENCY (ruleResult 1 (portSource n)), d) := by
  rcases h with h | h <;> simp [opSetMode, hm, ht, hr, h, hn]
theorem setMode_join (hm : d.mode = 4) (ht : d.on SYS_MODE.TRANSITION = false) (hr : d.on RST_STATUS.DRAM_READY = true)
    (h : par p 22 1 = 6 ∨ par p 22 1 = 7) (hn : d.rateShort = none) (e : Dev) (he : e = (d.request (par p 22 1) ref).enterMode 5 6 ref.tag none true) :
    opSetMode.run p ref d = (.done stACCEPTED [], { e with cyc := { e.cyc with join := some ⟨e.now, false, par p 22 1, [], false⟩ } }) := by
  subst he
  rcases h with h | h <;> simp [opSetMode, hm, ht, hr, h, hn]
theorem setMode_release (hm : d.mode ≠ 4) (ht : d.on SYS_MODE.TRANSITION = false) (h : par p 22 1 = 4) (hc : d.canRelease = true) :
    opSetMode.run p ref d = (.done stACCEPTED [], (d.request 4 ref).logInput 0x01 68 (.permit 3 0) none) := by
  simp [opSetMode, hm, ht, h, hc]
theorem setMode_configure (hm : d.mode ≠ 4) (ht : d.on SYS_MODE.TRANSITION = false) (h : par p 22 1 = 4) (hc : d.canRelease = false) :
    opSetMode.run p ref d = (.done stOK [], d.goConfigure 6 ref.tag none) := by
  simp [opSetMode, hm, ht, h, hc]
theorem setMode_wake (hm : d.mode = 10) (ht : d.on SYS_MODE.TRANSITION = false) (h : par p 22 1 = 6 ∨ par p 22 1 = 7) :
    opSetMode.run p ref d = (.done stACCEPTED [], ((d.request (par p 22 1) ref).logInput 0x01 68 (.wake d.now) none).startWake) := by
  rcases h with h | h <;> simp [opSetMode, hm, ht, h]
theorem setMode_notHolder (hm : d.mode = 6) (ht : d.on SYS_MODE.TRANSITION = false) (h : par p 22 1 = 7) (hp : d.permit = false)
    (hh : d.partnerHolds = true) (hu : d.mirrorUp = false) : opSetMode.run p ref d = (.bad stNOT_PERMIT_HOLDER, d) := by
  simp [opSetMode, hm, ht, h, hp, hh, hu]
theorem setMode_askPermit (hm : d.mode = 6) (ht : d.on SYS_MODE.TRANSITION = false) (h : par p 22 1 = 7) (hp : d.permit = false)
    (hh : d.partnerHolds = false ∨ d.mirrorUp = true) (e : Dev) (he : e = d.request 7 ref) :
    opSetMode.run p ref d = (.done stACCEPTED [], { e with mir := { e.mir with runNext := true } }) := by
  subst he
  rcases hh with hh | hh <;> simp [opSetMode, hm, ht, h, hp, hh]
theorem setMode_logged (ht : d.on SYS_MODE.TRANSITION = false)
    (h : (d.mode = 7 ∧ par p 22 1 = 6) ∨ (d.mode = 6 ∧ par p 22 1 = 7 ∧ d.permit = true) ∨
      ((d.mode = 6 ∨ d.mode = 7) ∧ par p 22 1 = 10 ∧ d.sys.package.bind (·.dormant) ≠ none)) :
    opSetMode.run p ref d = d.logMode (par p 22 1) ref := by
  rcases h with ⟨hm, h⟩ | ⟨hm, h, hp⟩ | ⟨hm, h, hd⟩
  · simp [opSetMode, hm, ht, h]
  · simp [opSetMode, hm, ht, h, hp]
  · obtain ⟨g, hg⟩ := Option.ne_none_iff_exists'.mp hd
    simp only [opSetMode, hg]
    rcases hm with hm | hm <;> simp [hm, ht, h]

end

end Sys2Proof.Machine

open Sys2Proof Sys2Proof.Machine

/-- Settles O9: each clause is an equation of SET_MODE's meaning or of its mode check (R26, R45 to R47, R52, R67, R313); that Configure is no target in
Configure comes from the check. -/
theorem setModeRequests : Obligations.SetModeRequests := by
  refine ⟨fun s p p' d' r h => ?_, fun s p p' d' r h1 h2 h3 => ?_, fun s p p' d' r hm ht hr => ⟨fun h => ?_, fun n h hn => ?_, fun d1 h hn e => ?_⟩,
    fun s p p' d' r h ht => ?_, fun s p p' d' d1 r hm h ht e => ?_, fun s p p' d' r h hm hp ht => ⟨fun hh hu => ?_, fun hh d1 e => ?_⟩,
    fun s p p' d' r ht h => ?_, fun d t b => ⟨setModeFirst_sealed d t, setModeFirst_lockout d t, setModeFirst_standby d t, setModeFirst_sameEnd d t b, ?_⟩⟩
  · exact r.next (congrArg _ (setMode_noTarget _ _ _ h))
  · exact r.next (congrArg _ (setMode_busy _ _ _ h1 h2 h3))
  · exact r.next (congrArg _ (setMode_toService _ _ _ hm ht hr h))
  · exact r.next (congrArg _ (setMode_rateShort _ _ _ hm ht hr h n hn))
  · exact r.next (congrArg _ (setMode_join _ _ _ hm ht hr h hn d1 e))
  · have hm : d'.mode ≠ 4 := fun hm => setModeFirst_configure d' hm (h ▸ r.mode)
    exact ⟨fun hc => r.next (by rw [setMode_release _ _ _ hm ht h hc, answer_done, now_logInput, now_request]),
      fun hc => r.next (congrArg _ (setMode_configure _ _ _ hm ht h hc))⟩
  · exact r.next (by rw [setMode_wake _ _ _ hm ht h, answer_done, e])
  · exact r.next (congrArg _ (setMode_notHolder _ _ _ hm ht h hp hh hu))
  · exact r.next (by rw [setMode_askPermit _ _ _ hm ht h hp hh d1 e, answer_done, now_askPermit, e, now_request])
  · exact r.next (by rw [setMode_logged _ _ _ ht h, answer_logMode])
  · rintro hm rfl
    exact setModeFirst_offLine d hm

end

section
/-! PROOFS. The axis opcodes of R411 and ACTIVATE_GENERATION (R41, R95, R170, R199, R206, R209): their outcomes, and O36. -/
namespace Sys2Proof.Machine

/-! ## Axis parameters (R41, R170, R206, R411) -/

section
variable (p : Packet) (ref : PktRef) (d : Dev)

/-- A range of whole words inside the parameter window takes the host's data. -/
theorem configureAxis_stores (bs : List Byte) (hb : p.host = some bs) (ha : par p 22 2 < 512) (ho : par p 32 2 ≤ 0xDFC) (ho4 : par p 32 2 % 4 = 0)
    (hn : 4 ≤ par p 34 2) (hn' : par p 34 2 ≤ 3584) (hn4 : par p 34 2 % 4 = 0) (hi : par p 32 2 + par p 34 2 ≤ 0xE00) :
    opConfigureAxis.run p ref d = (.done stOK [], d.forN (par p 34 2 / 4) (fun i =>
      Dev.axWrite (par p 22 2) (par p 32 2 + 4 * i) (fieldAt (padTo (par p 34 2) bs) (4 * i) 4))) := by
  simp only [opConfigureAxis]
  rw [if_neg (by simp only [Bool.or_eq_true, decide_eq_true_eq]; omega), hostRead_ok _ _ _ _ _ hb]
theorem configureAxis_badRange (h : 512 ≤ par p 22 2 ∨ 0xDFC < par p 32 2 ∨ par p 32 2 % 4 ≠ 0 ∨ par p 34 2 < 4 ∨ 3584 < par p 34 2 ∨
    par p 34 2 % 4 ≠ 0 ∨ 0xE00 < par p 32 2 + par p 34 2) : opConfigureAxis.run p ref d = (.bad stBAD_PARAMETER, d) := by
  simp only [opConfigureAxis]
  exact if_pos (by simp only [Bool.or_eq_true, decide_eq_true_eq]; omega)

/-! ## COMMIT_AXES (R170) -/

/-- The axes that a COMMIT_AXES names: those of its range, or those of its mask. -/
def commitAxesOf (p : Packet) : List Nat :=
  if par p 22 1 = 0 then (List.range (par p 26 2 + 1 - par p 24 2)).map (· + par p 24 2)
  else (List.range 512).filter (fun a => bitAt (leNat (extBytes p 0 64)) a)

theorem commitAxes_badLength (hf : par p 22 1 = 1) (hl : p.len.toNat ≠ 4) : opCommitAxes.run p ref d = (.bad stBAD_LENGTH, d) := by
  simp [opCommitAxes, hf, hl]
theorem commitAxes_badRange (h : 1 < par p 22 1 ∨ (par p 22 1 = 0 ∧ (511 < par p 26 2 ∨ par p 26 2 < par p 24 2))) :
    opCommitAxes.run p ref d = (.bad stBAD_PARAMETER, d) := by
  simp only [opCommitAxes]
  rw [if_neg (by simp only [Bool.and_eq_true, decide_eq_true_eq]; omega), if_pos (by simpa using h)]
/-- A COMMIT_AXES of a well-formed range or mask waits for no bulk transfer, and is checked with what waits already live. -/
theorem commitAxes_checked (h : (par p 22 1 = 0 ∧ par p 24 2 ≤ par p 26 2 ∧ par p 26 2 < 512) ∨ (par p 22 1 = 1 ∧ p.len.toNat = 4)) :
    opCommitAxes.run p ref d = if d.on MIR_STATUS.BULK then (.bad stBUSY, d) else
      match d.afterCommits.commitFail (commitAxesOf p) ((commitAxesOf p).flatMap d.afterCommits.axisDiff) with
      | some r => (.done stCONSISTENCY (ruleResult r.1 r.2), d)
      | none => d.logPacket 0x02 (((commitAxesOf p).map (fun a => commitSize (d.afterCommits.axisDiff a).length)).sum)
          (.commitAxes (commitAxesOf p) ((commitAxesOf p).flatMap d.afterCommits.axisDiff)) ref := by
  simp only [opCommitAxes]
  rw [if_neg (by simp only [Bool.and_eq_true, decide_eq_true_eq]; omega),
    if_neg (by simp only [Bool.or_eq_true, Bool.and_eq_true, decide_eq_true_eq]; omega)]
  rfl
theorem commitAxes_busy (h : (par p 22 1 = 0 ∧ par p 24 2 ≤ par p 26 2 ∧ par p 26 2 < 512) ∨ (par p 22 1 = 1 ∧ p.len.toNat = 4))
    (hb : d.on MIR_STATUS.BULK = true) : opCommitAxes.run p ref d = (.bad stBUSY, d) := by
  rw [commitAxes_checked p ref d h, if_pos hb]
theorem commitAxes_breaksRule (h : (par p 22 1 = 0 ∧ par p 24 2 ≤ par p 26 2 ∧ par p 26 2 < 512) ∨ (par p 22 1 = 1 ∧ p.len.toNat = 4))
    (hb : d.on MIR_STATUS.BULK = false) (r : Nat × Nat)
    (hr : d.afterCommits.commitFail (commitAxesOf p) ((commitAxesOf p).flatMap d.afterCommits.axisDiff) = some r) :
    opCommitAxes.run p ref d = (.done stCONSISTENCY (ruleResult r.1 r.2), d) := by
  rw [commitAxes_checked p ref d h, if_neg (by simp [hb]), hr]
theorem commitAxes_logged (h : (par p 22 1 = 0 ∧ par p 24 2 ≤ par p 26 2 ∧ par p 26 2 < 512) ∨ (par p 22 1 = 1 ∧ p.len.toNat = 4))
    (hb : d.on MIR_STATUS.BULK = false)
    (hr : d.afterCommits.commitFail (commitAxesOf p) ((commitAxesOf p).flatMap d.afterCommits.axisDiff) = none) :
    opCommitAxes.run p ref d = d.logPacket 0x02 (((commitAxesOf p).map (fun a => commitSize (d.afterCommits.axisDiff a).length)).sum)
      (.commitAxes (commitAxesOf p) ((commitAxesOf p).flatMap d.afterCommits.axisDiff)) ref := by
  rw [commitAxes_checked p ref d h, if_neg (by simp [hb]), hr]

/-! ## ENABLE_AXIS, DISABLE_AXIS and READ_AXIS_STATE (R199, R203, R209) -/

theorem axisRange_valid (h1 : par p 24 2 < 512) (h2 : par p 22 2 ≤ par p 24 2) : axisRange p = some (par p 22 2, par p 24 2) := by
  simp [axisRange, h1, h2]
theorem axisRange_bad (h : 512 ≤ par p 24 2 ∨ par p 24 2 < par p 22 2) : axisRange p = none := by
  simp only [axisRange, Bool.and_eq_true, decide_eq_true_eq]
  exact if_neg (by omega)

theorem readAxisState_writes (bs : List Byte) (hb : p.host = some bs) (ha : par p 22 2 < 512) (hf : par p 24 1 ≤ 2) :
    opReadAxisState.run p ref d = (.done stOK (leBytes 4 (d.axis (par p 22 2)).lastCycle), d.emit (.hostWrite (par p 25 8) (d.outBytes p
      ((if par p 24 1 = 1 then [] else d.paramBytes (par p 22 2)) ++ (if par p 24 1 = 0 then [] else axisStateBytes (d.axis (par p 22 2))))))) := by
  simp only [opReadAxisState]
  rw [if_neg (by simp only [Bool.or_eq_true, decide_eq_true_eq]; omega), hostWrite_ok _ _ _ _ _ _ hb]
theorem readAxisState_badRange (h : 512 ≤ par p 22 2 ∨ 2 < par p 24 1) : opReadAxisState.run p ref d = (.bad stBAD_PARAMETER, d) := by
  simp only [opReadAxisState]
  exact if_pos (by simpa using h)

/-! ## ACTIVATE_GENERATION (R95, R96, R167) -/

/-- Whether an activation has been accepted and its countdown has not begun. -/
def Dev.activationWaits (d : Dev) : Bool := d.cyc.waiting.any (fun e => match e.act with | .activate _ _ => true | _ => false)

theorem activate_notPending (h : d.cyc.pending.map (·.num) ≠ some (par p 22 2)) : opActivate.run p ref d = (.bad stBAD_PARAMETER, d) := by
  cases hp : d.cyc.pending with
  | none => simp only [opActivate, hp]
  | some g =>
    have hg : g.num ≠ par p 22 2 := by simpa [hp] using h
    simp only [opActivate, hp, if_pos hg]
theorem activate_busy (h : d.cyc.pending.map (·.num) = some (par p 22 2)) (hw : d.cyc.countdown ≠ none ∨ d.activationWaits = true) :
    opActivate.run p ref d = (.bad stBUSY, d) := by
  obtain ⟨g, hp, hg⟩ := Option.map_eq_some_iff.mp h
  have busy : (d.cyc.countdown.isSome || d.activationWaits) = true := by
    rcases hw with hw | hw
    · simp [Option.isSome_iff_ne_none.mpr hw]
    · simp [hw]
  simp only [opActivate, hp, if_neg (not_not_intro hg)]
  exact if_pos busy
/-- The pending generation, with nothing under way, is checked by its schedule rules first. -/
theorem activate_scheduleFails (g : Generation) (hp : d.cyc.pending = some g) (hg : g.num = par p 22 2) (hc : d.cyc.countdown = none)
    (hw : d.activationWaits = false) (r : Nat × Nat) (hr : d.scheduleFail g = some r) :
    opActivate.run p ref d = (.done stCONSISTENCY (ruleResult r.1 r.2), d) := by
  have free : (d.cyc.countdown.isSome || d.activationWaits) = false := by simp [hc, hw]
  simp only [opActivate, hp, if_neg (not_not_intro hg)]
  refine (if_neg (by rw [Bool.not_eq_true]; exact free)).trans ?_
  simp only [hr]
theorem activate_logged (g : Generation) (hp : d.cyc.pending = some g) (hg : g.num = par p 22 2) (hc : d.cyc.countdown = none)
    (hw : d.activationWaits = false) (hs : d.scheduleFail g = none) (h1 : engineRule1 g d.allParams (d.rd CE_LANE_FAILED) = none)
    (h2 : engineRule2 g d.allParams = none) (h3 : engineRule3 g d.allParams (d.costOf d.allParams) d.markNode = none)
    (hpair : d.pairFail (d.lget MIR_CTRL.LEASE) [g] = none) (hsafe : d.safetyFailWith [g] (d.lget MIR_CTRL.LEASE) = none) :
    opActivate.run p ref d =
      d.logPacket 0x01 68 (.activate g.num (if hasFlag p 2 then some (p.execAt.toNat, p.tol.toNat) else none)) ref := by
  have free : (d.cyc.countdown.isSome || d.activationWaits) = false := by simp [hc, hw]
  simp only [opActivate, hp, if_neg (not_not_intro hg)]
  refine (if_neg (by rw [Bool.not_eq_true]; exact free)).trans ?_
  simp only [hs, h1, h2, h3, hpair, hsafe, Option.orElse_none]

end

end Sys2Proof.Machine

open Sys2Proof Sys2Proof.Machine

/-- Settles O36: each clause is an equation of its opcode's meaning on an accepted packet (R41, R95, R96, R170, R199, R203, R206, R209, R411). -/
theorem axisParametersAreWrittenAndCommitted : Obligations.AxisParametersAreWrittenAndCommitted := by
  refine ⟨?configure, fun s p p' d' r h => r.next (congrArg _ (configureAxis_badRange _ _ _ h)), ?commit,
    fun s p p' d' r => ⟨fun hf hl => r.next (congrArg _ (commitAxes_badLength _ _ _ hf hl)), fun h => r.next (congrArg _ (commitAxes_badRange _ _ _ h))⟩,
    ?enable, ?disable, ?read, fun s p p' d' r h => r.next (congrArg _ (readAxisState_badRange _ _ _ h)),
    fun s p p' d' r => ⟨fun h => r.next (congrArg _ (activate_notPending _ _ _ h)), fun h hw => r.next (congrArg _ (activate_busy _ _ _ h hw))⟩,
    fun s p p' d' g r hp hg hc hw => ⟨fun x hx => r.next (congrArg _ (activate_scheduleFails _ _ _ g hp hg hc hw x hx)),
      fun hs h1 h2 h3 hpair hsafe => r.next (congrArg _ (activate_logged _ _ _ g hp hg hc hw hs h1 h2 h3 hpair hsafe))⟩⟩
  case configure =>
    rintro s p p' d' bs _ _ _ r hb rfl rfl rfl ha ho ho4 hn hn' hn4 hi
    exact ⟨_, rfl, r.next (congrArg _ (configureAxis_stores _ _ _ bs hb ha ho ho4 hn hn' hn4 hi))⟩
  case commit =>
    rintro s p p' d' _ _ r h rfl rfl
    exact ⟨fun hb => r.next (congrArg _ (commitAxes_busy _ _ _ h hb)), fun hb hr => r.next (congrArg _ (commitAxes_logged _ _ _ h hb hr)),
      fun hb x hx => r.next (congrArg _ (commitAxes_breaksRule _ _ _ h hb x hx))⟩
  case enable =>
    refine fun s p p' d' r => ⟨fun h1 h2 => r.next ?_, fun h => r.next ?_⟩
    · simp only [opEnableAxis, axisRange_valid _ h1 h2, Dev.logPacket, answer_later]
    · simp only [opEnableAxis, axisRange_bad _ h, answer_bad]
  case disable =>
    refine fun s p p' d' r => ⟨fun h1 h2 => r.next ?_, fun h => r.next ?_⟩
    · simp only [opDisableAxis, axisRange_valid _ h1 h2, Dev.logPacket, answer_later]
    · simp only [opDisableAxis, axisRange_bad _ h, answer_bad]
  case read =>
    rintro s p p' d' bs _ _ r rfl ha hf hb rfl
    exact r.next (congrArg _ (readAxisState_writes _ _ _ bs hb ha hf))

end

section
/-! PROOFS. The lanes (R35, R38, R151 to R163, R172 to R176): what a start, a completion, a deadline, an error and a self-test make of the axes and the
engine, and O35. -/
namespace Sys2Proof.Machine

/-! ## What the lanes work on, and what leaves it alone -/

/-- The part of the device that the lanes work on: the axes' states and the control engine. -/
def Dev.lanePart (d : Dev) : SMap AxisState × Eng := (d.axes, d.eng)

theorem axes_of_lanePart {d e : Dev} (h : d.lanePart = e.lanePart) : d.axes = e.axes := congrArg Prod.fst h
theorem eng_of_lanePart {d e : Dev} (h : d.lanePart = e.lanePart) : d.eng = e.eng := congrArg Prod.snd h

@[simp] theorem lanePart_wr (a v : Nat) (d : Dev) : (Dev.wr a v d).lanePart = d.lanePart := rfl
@[simp] theorem lanePart_set (f : Fld) (v : Nat) (d : Dev) : (Dev.set f v d).lanePart = d.lanePart := rfl
@[simp] theorem lanePart_post (x y : Nat) (bs : List Byte) (d : Dev) : (Dev.post x y bs d).lanePart = d.lanePart := rfl
@[simp] theorem lanePart_sendFrame (n chans typ flags dst slot cycle : Nat) (pay : List Byte) (d : Dev) :
    (Dev.sendFrame n chans typ flags dst slot cycle pay d).lanePart = d.lanePart := by
  unfold Dev.sendFrame
  refine forN_keep Dev.lanePart _ (fun c e => ?_) _ d
  split
  · rfl
  · split <;> rfl
@[simp] theorem lanePart_downBytes (n : Nat) (b : SchedBlock) (len : Nat) (f : Nat → List Byte) (d : Dev) :
    (Dev.downBytes n b len f d).2.lanePart = d.lanePart := by
  unfold Dev.downBytes
  dsimp only
  split <;> rfl
/-- A downlink frame that goes out reads the axes and changes none (R161). -/
@[simp] theorem lanePart_finishDown (n : Nat) (d : Dev) : (Dev.finishDown n d).lanePart = d.lanePart := by
  unfold Dev.finishDown
  split
  · dsimp only
    split
    · rfl
    · split
      · rfl
      · exact (lanePart_sendFrame _ _ _ _ _ _ _ _ _).trans (lanePart_downBytes _ _ _ _ _)
  · rfl
@[simp] theorem lanePart_settleDown (d : Dev) : d.settleDown.lanePart = d.lanePart :=
  forEach_keep Dev.lanePart _ lanePart_finishDown _ d
@[simp] theorem lanePart_mirOut (o : Output) (d : Dev) : (Dev.mirOut o d).lanePart = d.lanePart := by
  unfold Dev.mirOut
  split <;> rfl
@[simp] theorem lanePart_sendDigest (d : Dev) : d.sendDigest.lanePart = d.lanePart := by
  unfold Dev.sendDigest
  split
  · rfl
  · exact lanePart_mirOut _ _
@[simp] theorem lanePart_cond (b : Nat) (v : Bool) (d : Dev) : (Dev.cond b v d).lanePart = d.lanePart := by
  unfold Dev.cond
  split
  · rfl
  · dsimp only
    split <;> split <;> rfl
@[simp] theorem lanePart_offerTrigger (src : Nat) (t : LTime) (stale : Bool) (d : Dev) : (Dev.offerTrigger src t stale d).lanePart = d.lanePart := by
  unfold Dev.offerTrigger
  refine forN_keep Dev.lanePart _ (fun u e => ?_) _ d
  split <;> rfl
@[simp] theorem lanePart_abortIdent (p : Nat → Bool) (d : Dev) : (Dev.abortIdent p d).lanePart = d.lanePart := by
  unfold Dev.abortIdent
  split
  · split
    · unfold Dev.endIdent
      split
      · rfl
      · simp only [lanePart_post, lanePart_wr, lanePart_set]
        rfl
    · rfl
  · rfl

/-! ## A fault, and a miss (R163, R202) -/

/-- A fault that is noted orders its group's stop, and leaves the axes and the lanes as they are. -/
theorem noteFault_lanes (a code : Nat) (d : Dev) : (d.noteFault a code).axes = d.axes ∧ (d.noteFault a code).eng.running = d.eng.running := by
  unfold Dev.noteFault
  extract_lets d1 g d2 d3
  have h1 : d1.lanePart = d.lanePart := by
    refine when_keep Dev.lanePart _ _ (fun e => ?_) d
    rfl
  have h3 : (d3.showFaults.post (0x0800 + a) 0x0412 (leBytes 1 code ++ leBytes 4 d3.cyc.count)).lanePart = d2.lanePart :=
    (lanePart_cond _ _ _).trans ((lanePart_abortIdent _ _).trans (lanePart_offerTrigger _ _ _ _))
  have axes1 : d1.axes = d.axes := axes_of_lanePart h1
  have running1 : d1.eng.running = d.eng.running := congrArg Eng.running (eng_of_lanePart h1)
  exact ⟨(axes_of_lanePart h3).trans axes1, (congrArg Eng.running (eng_of_lanePart h3)).trans running1⟩

theorem setFault_standing (code : Nat) (s : AxisState) : (setFault code s).standing = s.standing := by
  unfold setFault; split <;> rfl
theorem setFault_miss (code : Nat) (s : AxisState) : (setFault code s).miss = s.miss := by
  unfold setFault; split <;> rfl
theorem setFault_missCount (code : Nat) (s : AxisState) : (setFault code s).missCount = s.missCount := by
  unfold setFault; split <;> rfl

theorem axis_setAxis (a : Nat) (x : AxisState) (d : Dev) : (d.setAxis a x).axis a = x := smGet_smSet_same _ _ _ _
theorem axis_congr {d e : Dev} (h : d.axes = e.axes) (a : Nat) : d.axis a = e.axis a := congrArg (fun m => smGet (fun _ => AxisState.reset) m a) h

/-- What a miss leaves of its axis: abandoned, its MISS flag set and the miss counted (R163). -/
def Missed (x y : AxisState) : Prop := y.standing = 2 ∧ y.miss = true ∧ y.missCount = satAdd 32 x.missCount 1

theorem axis_missAxis (a : Nat) (d : Dev) : Missed (d.axis a) ((d.missAxis a).axis a) := by
  unfold Dev.missAxis
  extract_lets s0 lim n hit newFault s1 s2 held s3 d1 d2 d3 g d4
  have hx : (d4.when newFault (Dev.noteFault a 1)).axis a = s3 :=
    (axis_congr (when_keep Dev.axes _ _ (fun e => (noteFault_lanes a 1 e).1) d4) a).trans (axis_setAxis a s3 d)
  have h2 : s2.standing = s1.standing ∧ s2.miss = s1.miss ∧ s2.missCount = s1.missCount := by
    unfold s2
    split
    · exact ⟨setFault_standing _ _, setFault_miss _ _, setFault_missCount _ _⟩
    · exact ⟨rfl, rfl, rfl⟩
  rw [hx]
  exact h2
theorem running_missAxis (a : Nat) (d : Dev) : (d.missAxis a).eng.running = d.eng.running :=
  when_keep (fun d => d.eng.running) _ _ (fun e => (noteFault_lanes a 1 e).2) _

/-! ## A lane starts (R35, R156, R157) -/

section
variable (l : Nat) (d : Dev)

theorem laneStart_idle (h : d.lanesRun = false ∨ bitAt (d.rd CE_LANE_FAILED) l = true ∨ d.eng.running.any (fun r => r.1 == l) = true ∨
    (laneSeq d.plan l)[d.laneIndex l]? = none) : d.laneStart l = d := by
  unfold Dev.laneStart
  split
  · rfl
  · next free =>
    have none_left : (laneSeq d.plan l)[d.laneIndex l]? = none := by
      rcases h with h | h | h | h
      · simp [h] at free
      · simp [h] at free
      · simp [h] at free
      · exact h
    rw [none_left]

/-- The device with the lane's sequence moved on by one axis. -/
def Dev.advance (l : Nat) (d : Dev) : Dev := { d with eng := { d.eng with done := putKey l (d.laneIndex l + 1) d.eng.done } }
/-- The device with lane `l` running axis `a`, the next of its sequence. -/
def Dev.runOn (l a : Nat) (d : Dev) : Dev :=
  { d with eng := { d.eng with
    done := putKey l (d.laneIndex l + 1) d.eng.done, running := d.eng.running ++ [(l, a)], started := putKey l d.now d.eng.started } }

variable (a : Nat) (hr : d.lanesRun = true) (hf : bitAt (d.rd CE_LANE_FAILED) l = false) (hb : d.eng.running.any (fun r => r.1 == l) = false)
  (hs : (laneSeq d.plan l)[d.laneIndex l]? = some a)
include hr hf hb hs

/-- A free lane in working order waits for the next axis of its sequence and then starts it. -/
theorem laneStart_next : d.laneStart l = if !d.axisReady a then d else
    if d.vacant a then (d.advance l).setAxis a { d.axis a with standing := 3, record := zeros 16, lastRecord := zeros 16 }
    else if (d.hostValue a).1 && (d.hostValue a).2.isNone then
      ((d.advance l).when (d.hostNonFinite a) (Dev.post (0x0800 + a) 0x0417 [1])).missAxis a
    else d.runOn l a := by
  have free : (!d.lanesRun || bitAt (d.rd CE_LANE_FAILED) l || d.eng.running.any (fun r => r.1 == l)) = false := by simp [hr, hf, hb]
  unfold Dev.laneStart
  rw [if_neg (by rw [free]; decide), hs]
  rfl

theorem laneStart_unready (h : d.axisReady a = false) : d.laneStart l = d := by
  rw [laneStart_next l d a hr hf hb hs, if_pos (by simp [h])]
theorem laneStart_vacant (h : d.axisReady a = true) (hv : d.vacant a = true) :
    d.laneStart l = (d.advance l).setAxis a { d.axis a with standing := 3, record := zeros 16, lastRecord := zeros 16 } := by
  rw [laneStart_next l d a hr hf hb hs, if_neg (by simp [h]), if_pos hv]
theorem laneStart_runs (h : d.axisReady a = true) (hv : d.vacant a = false) (hh : (d.hostValue a).1 = false ∨ (d.hostValue a).2 ≠ none) :
    d.laneStart l = d.runOn l a := by
  have given : ((d.hostValue a).1 && (d.hostValue a).2.isNone) = false := by
    rcases hh with hh | hh
    · simp [hh]
    · obtain ⟨v, hv⟩ := Option.ne_none_iff_exists'.mp hh
      simp [hv]
  rw [laneStart_next l d a hr hf hb hs, if_neg (by simp [h]), if_neg (by simp [hv]), if_neg (by rw [given]; decide)]
theorem laneStart_misses (h : d.axisReady a = true) (hv : d.vacant a = false) (h1 : (d.hostValue a).1 = true) (h2 : (d.hostValue a).2 = none) :
    d.laneStart l = ((d.advance l).when (d.hostNonFinite a) (Dev.post (0x0800 + a) 0x0417 [1])).missAxis a := by
  rw [laneStart_next l d a hr hf hb hs, if_neg (by simp [h]), if_neg (by simp [hv]), if_pos (by simp [h1, h2])]

end

/-! ## A lane completes its axis (R38, R151, R176) -/

section
variable (l c : Nat) (x : SramCheck) (d : Dev)

theorem axisDone_idle (h : d.eng.running.find? (fun r => r.1 == l) = none) : d.axisDone l c x = d := by
  unfold Dev.axisDone
  rw [h]
/-- The lane is free, and its cycles are counted. -/
def Dev.freeLane (l c : Nat) (d : Dev) : Dev :=
  { d with eng := { d.eng with running := d.eng.running.filter (fun r => r.1 != l), busy := putKey l (lookupD l 0 d.eng.busy + c) d.eng.busy } }
/-- The slack of axis `a` if it completes now, in ns: deadline less completion (R160, R176). -/
def Dev.slackNow (d : Dev) (a : Nat) : Int := (65536 * d.deadline a - 30 * ((d.now - d.cyc.ref : Nat) : Int)).fdiv (30 * 65536)
/-- A completion computes the axis after what the SRAM check found, and records its slack. -/
theorem axisDone_computes (l' a : Nat) (h : d.eng.running.find? (fun r => r.1 == l) = some (l', a)) (d1 : Dev)
    (h1 : d1 = (((d.freeLane l c).sramFound a x).computeAxis a).identStep a) :
    (d.axisDone l c x).axes = d1.axes ∧ (d.axisDone l c x).eng.running = d1.eng.running ∧ (d.axisDone l c x).eng.busy = d1.eng.busy ∧
      (d.axisDone l c x).eng.slack = d1.eng.slack ++ [(a, d.slackNow a)] := by
  subst h1
  unfold Dev.axisDone
  simp only [h]
  split <;> exact ⟨rfl, rfl, rfl, rfl⟩

end

/-! ## Deadlines and lane errors (R163, R166, R173) -/

theorem axisDeadline_left (a : Nat) (d : Dev) (h : (d.axis a).standing ≠ 0 ∨ d.mode = 8 ∨ d.lanesRun = false ∨ d.plan.any (fun e => e.axis == a) = false) :
    d.axisDeadline a = d := by
  unfold Dev.axisDeadline
  refine if_pos ?_
  rcases h with h | h | h | h <;> simp [h]
theorem axisDeadline_abandons (a : Nat) (d : Dev) (hs : (d.axis a).standing = 0) (hm : d.mode ≠ 8) (hr : d.lanesRun = true)
    (hp : d.plan.any (fun e => e.axis == a) = true) :
    d.axisDeadline a = ((d.when (d.eng.running.any (fun r => r.2 == a)) (Dev.count32 CE_ABORT_CNT 1)).skipAxis a).missAxis a := by
  unfold Dev.axisDeadline
  exact if_neg (by simp [hs, hm, hr, hp])
/-- The lanes' sequences go on without an axis, whose state stays. -/
theorem axes_skipAxis (a : Nat) (d : Dev) : (d.skipAxis a).axes = d.axes := by
  have abandon : ∀ xs : List Nat, (d.forEach xs Dev.laneAbandon).axes = d.axes := fun xs => forEach_keep Dev.axes Dev.laneAbandon (fun _ _ => rfl) xs d
  unfold Dev.skipAxis
  dsimp only
  split <;> exact abandon _
theorem axisDeadline_misses (a : Nat) (d : Dev) (hs : (d.axis a).standing = 0) (hm : d.mode ≠ 8) (hr : d.lanesRun = true)
    (hp : d.plan.any (fun e => e.axis == a) = true) : Missed (d.axis a) ((d.axisDeadline a).axis a) := by
  have kept : ((d.when (d.eng.running.any (fun r => r.2 == a)) (Dev.count32 CE_ABORT_CNT 1)).skipAxis a).axes = d.axes :=
    (axes_skipAxis a _).trans (when_keep Dev.axes _ (Dev.count32 CE_ABORT_CNT 1) (fun _ => rfl) d)
  have miss := axis_missAxis a ((d.when (d.eng.running.any (fun r => r.2 == a)) (Dev.count32 CE_ABORT_CNT 1)).skipAxis a)
  rwa [axis_congr kept, ← axisDeadline_abandons a d hs hm hr hp] at miss

theorem laneError_idle (l : Nat) (d : Dev) (h : d.eng.running.find? (fun r => r.1 == l) = none) : d.laneError l = d := by
  unfold Dev.laneError
  rw [h]
/-- An error abandons what its lane runs; outside Shadow the axis then misses the cycle. -/
theorem laneError_abandons (l l' a : Nat) (d : Dev) (h : d.eng.running.find? (fun r => r.1 == l) = some (l', a)) :
    ∃ e : Dev, d.laneError l = (if d.mode = 8 then e else e.missAxis a) ∧ e.axes = d.axes ∧
      e.eng.running = d.eng.running.filter (fun r => r.1 != l) := by
  unfold Dev.laneError
  split
  case h_1 h0 => simp [h] at h0
  next l2 a2 h0 =>
  obtain ⟨rfl, rfl⟩ : l2 = l' ∧ a2 = a := by simpa [h, eq_comm] using h0
  extract_lets d1 again d2 g d3 d4
  have post : ∀ {β : Type} (g : Dev → β), (∀ e : Dev, g (Dev.post 0x0400 0x0403 (leBytes 1 l ++ leBytes 1 0) e) = g e) → g d4 = g d3 :=
    fun g hg => when_keep g _ _ hg d3
  have mode : d4.mode = d.mode := by
    refine mode_of_rd _ _ ((post (fun e => e.rd SYS_MODE) (fun _ => rfl)).trans ?_)
    show ((d.count32 CE_LANE_ERR_CNT 1).count32 CE_ABORT_CNT 1).rd SYS_MODE = d.rd SYS_MODE
    rw [rd_count32_other _ _ _ _ (by decide), rd_count32_other _ _ _ _ (by decide)]
  exact ⟨d4, by rw [mode], post Dev.axes (fun _ => rfl), post (fun e => e.eng.running) (fun _ => rfl)⟩

/-! ## Self-tests (R174) -/

theorem bitAt_withBits_own (v l x : Nat) (hl : l < 32) : bitAt (withBits v l l x % 2 ^ 32) l = x.testBit 0 := by
  rw [bitAt_eq_testBit, testBit_mod_word _ _ hl, testBit_withBits, if_pos (by omega), Nat.sub_self]

theorem ownResult_rd (d : Dev) (a : Nat) : d.ownResult.rd a = d.rd a := by
  unfold Dev.ownResult
  split
  · dsimp only
    split
    · rfl
    · unfold Dev.mirControl Dev.mirOut
      split <;> rfl
  · rfl

section
variable (l : Nat) (d : Dev)

theorem laneSelftest_out (w o : Bool) (h : bitAt (d.get CLK_PLL.LOCKED) 2 = false ∨ bitAt (Nat.lor (d.rd CE_LANE_FAILED) d.eng.failing) l = true) :
    d.laneSelftest l w o = d := by
  unfold Dev.laneSelftest
  refine if_pos ?_
  rcases h with h | h
  · simp [h]
  · exact (Bool.or_eq_true _ _).mpr (.inr h)

variable (hl : l < 32) (hr : d.cyc.running = false) (hp : bitAt (d.get CLK_PLL.LOCKED) 2 = true)
  (ho : bitAt (Nat.lor (d.rd CE_LANE_FAILED) d.eng.failing) l = false)
include hl hr hp ho

/-- In Join a lane that fails its test is failed at once. -/
theorem laneSelftest_fails (w : Bool) (hm : d.mode = 5) :
    bitAt ((d.laneSelftest l w false).rd CE_LANE_FAILED) l = true ∧ bitAt ((d.laneSelftest l w false).rd CE_SELFTEST) l = false := by
  have still : d.lanesRun = false := by simp [Dev.lanesRun, hr]
  unfold Dev.laneSelftest
  extract_lets idle other out n g e bit e2
  have shown : e2.rd CE_SELFTEST = withBits (e.rd CE_SELFTEST) l l 0 % 2 ^ 32 := Dev.rd_wr_same _ _ _
  have mode : e2.mode = 5 := (mode_of_rd e2 d (mode_wr_far CE_SELFTEST _ e (by decide))).trans hm
  rw [if_neg (by simp [still, hp, show out = false from ho]), if_pos (by decide), if_pos mode]
  constructor
  · rw [Dev.rd_wr_same, bitAt_withBits_own _ _ _ hl]
    rfl
  · rw [Dev.rd_wr_other _ _ _ _ (by decide), shown, bitAt_withBits_own _ _ _ hl]
    rfl
/-- A lane that passes the whole pattern counts as tested. -/
theorem laneSelftest_passes :
    (d.laneSelftest l true true).rd CE_LANE_FAILED = d.rd CE_LANE_FAILED ∧ bitAt ((d.laneSelftest l true true).rd CE_SELFTEST) l = true := by
  have still : d.lanesRun = false := by simp [Dev.lanesRun, hr]
  unfold Dev.laneSelftest
  extract_lets idle other out n g e bit e2
  rw [if_neg (by simp [still, hp, show out = false from ho]), if_neg (by decide), if_pos (show 10 ≤ n from Nat.le_refl 10)]
  constructor
  · exact Dev.rd_wr_other _ _ _ _ (by decide)
  · rw [show (bit 1).rd CE_SELFTEST = _ from Dev.rd_wr_same _ _ _, bitAt_withBits_own _ _ _ hl]
    rfl

end

/-! ## CE_APPLY (R172) -/

theorem ceApply_waits (d : Dev) (h : d.on CE_APPLY.APPLY = true ∨ d.mode = 8 ∨ d.on MIR_STATUS.BULK = true) : d.ceApply = d := by
  unfold Dev.ceApply
  refine if_pos ?_
  rcases h with h | h | h <;> simp [h]
theorem ceApply_logged (d : Dev) (ha : d.on CE_APPLY.APPLY = false) (hm : d.mode ≠ 8) (hb : d.on MIR_STATUS.BULK = false) :
    d.ceApply = (d.set CE_APPLY.APPLY 1).logInput 0x02 (8 + 8 * ((d.capture [CE_CTRL]).filter (fun w => w.2 != d.liveWord w.1)).length)
      (.commit 0x0400 (d.capture [CE_CTRL])) none := by
  unfold Dev.ceApply
  exact if_neg (by simp [ha, hm, hb])

/-! ## The lanes' commands, by what they make of the device part -/

theorem exec_laneStart {s : State} {l : Fin 32} {e : Dev} (h : s.dev.laneStart l.val = e) :
    exec (.laneStart l) s = .next (s.onDev (fun _ => e.settleDown)) := congrArg Host.Outcome.next (State.onDev_congr (congrArg Dev.settleDown h))
theorem exec_axisDeadline {s : State} {a : Fin 512} {e : Dev} (h : s.dev.axisDeadline a.val = e) :
    exec (.axisDeadline a) s = .next (s.onDev (fun _ => e.settleDown)) := congrArg Host.Outcome.next (State.onDev_congr (congrArg Dev.settleDown h))
theorem exec_laneError {s : State} {l : Fin 32} {e : Dev} (h : s.dev.laneError l.val = e) :
    exec (.laneError l) s = .next (s.onDev (fun _ => e.settleDown)) := congrArg Host.Outcome.next (State.onDev_congr (congrArg Dev.settleDown h))
theorem exec_laneSelftest {s : State} {l : Fin 32} {w o : Bool} {e : Dev} (h : s.dev.laneSelftest l.val w o = e) :
    exec (.laneSelftest l w o) s = .next (s.onDev (fun _ => e.ownResult)) := congrArg Host.Outcome.next (State.onDev_congr (congrArg Dev.ownResult h))

/-- A completion frees the lane, and the holder's DIGEST follows the last one (R292). -/
theorem exec_axisComputationDone (s : State) (l : Fin 32) (c : Fin 361) (x : SramCheck) :
    ∃ t, exec (.axisComputationDone l c x) s = .next t ∧ t.dev.lanePart = (s.dev.axisDone l.val c.val x).lanePart := by
  refine ⟨_, rfl, (lanePart_settleDown _).trans ?_⟩
  split
  · exact lanePart_sendDigest _
  · rfl
theorem exec_axisComputationDone_idle {s : State} {l : Fin 32} {c : Fin 361} {x : SramCheck} (h : s.dev.axisDone l.val c.val x = s.dev) :
    exec (.axisComputationDone l c x) s = .next (s.onDev Dev.settleDown) := by
  refine congrArg Host.Outcome.next (State.onDev_congr (congrArg Dev.settleDown ?_))
  rw [h]
  exact if_neg (by simp)

end Sys2Proof.Machine

open Sys2Proof Sys2Proof.Machine

/-- Settles O35: each clause is an equation of the lane operation in that case; the frames that go out after it leave axes and engine alone (R38, R151,
R155 to R157, R160, R161, R163, R166, R172 to R174, R176). -/
theorem lanesComputeTheirSequences : Obligations.LanesComputeTheirSequences := by
  have settled : ∀ (s : State) (e : Dev), (s.onDev (fun _ => e.settleDown)).dev.lanePart = e.lanePart := fun _ e => lanePart_settleDown e
  have running : ∀ (s : State) (e : Dev), (s.onDev (fun _ => e.settleDown)).dev.eng.running = e.eng.running :=
    fun s e => congrArg Eng.running (eng_of_lanePart (settled s e))
  have axis : ∀ (s : State) (e : Dev) (a : Nat), (s.onDev (fun _ => e.settleDown)).dev.axis a = e.axis a :=
    fun s e a => axis_congr (axes_of_lanePart (settled s e)) a
  refine ⟨fun s l h => exec_laneStart (laneStart_idle _ _ h), fun s l a hr hf hb hs => ⟨fun h => ?_, fun h hv => ?_, fun h hv hh => ?_, fun h hv h1 h2 => ?_⟩,
    fun s l c x h => exec_axisComputationDone_idle (axisDone_idle _ _ _ _ h), fun s l c x l' a d1 h h1 => ?_,
    fun s a h => exec_axisDeadline (axisDeadline_left _ _ h), fun s a hs hm hr hp => ?_, fun s l h => exec_laneError (laneError_idle _ _ h),
    fun s l l' a h => ?_, fun s l w o h => exec_laneSelftest (laneSelftest_out _ _ _ _ h), fun s l w hm hr hp ho => ⟨?_, ?_⟩,
    fun s => ⟨fun h => ?_, fun ha hm hb => ?_⟩⟩
  · exact exec_laneStart (laneStart_unready _ _ a hr hf hb hs h)
  · refine ⟨_, exec_laneStart (laneStart_vacant _ _ a hr hf hb hs h hv), ?_, ?_, running _ _⟩ <;> rw [axis, axis_setAxis]
  · have runs := settled s (s.dev.runOn l.val a)
    have axes := axes_of_lanePart runs
    exact ⟨_, exec_laneStart (laneStart_runs _ _ a hr hf hb hs h hv hh), running _ _, congrArg Eng.done (eng_of_lanePart runs), axes⟩
  · have before : ((s.dev.advance l.val).when (s.dev.hostNonFinite a) (Dev.post (0x0800 + a) 0x0417 [1])).eng.running = s.dev.eng.running :=
      when_keep (fun d => d.eng.running) _ (Dev.post (0x0800 + a) 0x0417 [1]) (fun _ => rfl) _
    refine ⟨_, exec_laneStart (laneStart_misses _ _ a hr hf hb hs h hv h1 h2), ?_, (running _ _).trans ((running_missAxis _ _).trans before)⟩
    rw [axis]
    exact (axis_missAxis _ _).2.1
  · obtain ⟨t, ht, keeps⟩ := exec_axisComputationDone s l c x
    obtain ⟨haxes, hrun, hbusy, hslack⟩ := axisDone_computes l.val c.val x s.dev l' a h d1 h1
    exact ⟨t, ht, (axes_of_lanePart keeps).trans haxes, (congrArg Eng.running (eng_of_lanePart keeps)).trans hrun,
      (congrArg Eng.busy (eng_of_lanePart keeps)).trans hbusy, (congrArg Eng.slack (eng_of_lanePart keeps)).trans hslack⟩
  · obtain ⟨standing, miss, count⟩ := axisDeadline_misses a.val s.dev hs hm hr hp
    refine ⟨_, exec_axisDeadline rfl, ?_, ?_, ?_⟩ <;> rw [axis] <;> assumption
  · obtain ⟨e, he, haxes, hrun⟩ := laneError_abandons l.val l' a s.dev h
    refine ⟨fun hm => ?_, fun hm => ?_⟩
    · exact ⟨_, exec_laneError (he.trans (if_pos hm)), (running _ _).trans hrun, (axes_of_lanePart (settled _ _)).trans haxes⟩
    · refine ⟨_, exec_laneError (he.trans (if_neg hm)), (running _ _).trans ((running_missAxis _ _).trans hrun), ?_⟩
      rw [axis]
      exact (axis_missAxis _ _).2.1
  · obtain ⟨failed, tested⟩ := laneSelftest_fails l.val s.dev l.isLt hr hp ho w hm
    refine ⟨_, exec_laneSelftest rfl, ?_, ?_⟩ <;> rw [State.onDev_dev, ownResult_rd] <;> assumption
  · obtain ⟨failed, tested⟩ := laneSelftest_passes l.val s.dev l.isLt hr hp ho
    refine ⟨_, exec_laneSelftest rfl, ?_, ?_⟩ <;> rw [State.onDev_dev, ownResult_rd] <;> assumption
  · exact congrArg Host.Outcome.next (State.onDev_of_fixed (ceApply_waits _ h))
  · exact congrArg Host.Outcome.next (State.onDev_congr (ceApply_logged _ ha hm hb))

end

section
/-! PROOFS. Supplies, release, the boot ROM and DRAM training (R45, R446 to R448, R500 to R503): what each leaves of
mode, fuses and safety state, and O13. -/
namespace Sys2Proof.Machine

/-! ## What register views, the scheduler, the links and the ledger leave alone -/

/-- The device's system, line-time and safety parts. -/
def Dev.bootPart (d : Dev) : Sys × Ltm × Saf := (d.sys, d.ltm, d.saf)

theorem sys_of_bootPart {d e : Dev} (h : d.bootPart = e.bootPart) : d.sys = e.sys := congrArg Prod.fst h
theorem ltm_of_bootPart {d e : Dev} (h : d.bootPart = e.bootPart) : d.ltm = e.ltm := congrArg (fun x => x.2.1) h
theorem saf_of_bootPart {d e : Dev} (h : d.bootPart = e.bootPart) : d.saf = e.saf := congrArg (fun x => x.2.2) h

@[simp] theorem bootPart_wr (a v : Nat) (d : Dev) : (Dev.wr a v d).bootPart = d.bootPart := by simp [Dev.bootPart]
@[simp] theorem bootPart_set (f : Fld) (v : Nat) (d : Dev) : (Dev.set f v d).bootPart = d.bootPart := by simp [Dev.bootPart]
@[simp] theorem bootPart_post (x y : Nat) (bs : List Byte) (d : Dev) : (Dev.post x y bs d).bootPart = d.bootPart := by simp [Dev.bootPart]
@[simp] theorem bootPart_wr64 (a v : Nat) (d : Dev) : (Dev.wr64 a v d).bootPart = d.bootPart := by simp [Dev.bootPart]
@[simp] theorem bootPart_count (f : Fld) (v : Nat) (d : Dev) : (Dev.count f v d).bootPart = d.bootPart := by simp [Dev.bootPart]
@[simp] theorem bootPart_setPort (n : Nat) (p : Port) (d : Dev) : (Dev.setPort n p d).bootPart = d.bootPart := by simp [Dev.bootPart]
@[simp] theorem bootPart_mapCh (n c : Nat) (f : LinkCh → LinkCh) (d : Dev) : (Dev.mapCh n c f d).bootPart = d.bootPart := by simp [Dev.bootPart, Dev.mapCh]
@[simp] theorem bootPart_sendControl (n c k a : Nat) (x : List Byte) (d : Dev) : (Dev.sendControl n c k a x d).bootPart = d.bootPart := by
  simp [Dev.bootPart, Dev.sendControl]
theorem bootPart_showTask (t : Nat) (d : Dev) : (Dev.showTask t d).bootPart = d.bootPart := by
  unfold Dev.showTask
  dsimp only
  rw [bootPart_wr, bootPart_wr, bootPart_wr, bootPart_wr, bootPart_wr]
theorem bootPart_schUpdate (x : Sch) (d : Dev) : ({ d with sch := x } : Dev).bootPart = d.bootPart := by simp [Dev.bootPart]
@[simp] theorem bootPart_setTask (t : Nat) (x : Task) (d : Dev) : (Dev.setTask t x d).bootPart = d.bootPart := by
  rw [Dev.setTask, bootPart_showTask, bootPart_schUpdate]
@[simp] theorem bootPart_cond (b : Nat) (v : Bool) (d : Dev) : (Dev.cond b v d).bootPart = d.bootPart := by
  unfold Dev.cond
  split
  · rfl
  · dsimp only
    split <;> split <;> rfl
@[simp] theorem bootPart_completeOpt (ref : Option PktRef) (st : Nat) (t : LTime) (res : List Byte) (d : Dev) :
    (Dev.completeOpt ref st t res d).bootPart = d.bootPart := by
  cases ref with
  | none => rfl
  | some r => simp [Dev.completeOpt, Dev.bootPart]

/-! The ledger. -/
@[simp] theorem bootPart_ledger (l : Ledger) (d : Dev) : ({ d with ledger := l } : Dev).bootPart = d.bootPart := by simp [Dev.bootPart]
@[simp] theorem bootPart_showLedger (d : Dev) : d.showLedger.bootPart = d.bootPart := by
  unfold Dev.showLedger
  dsimp only
  rw [bootPart_wr64, bootPart_set, bootPart_set]
@[simp] theorem bootPart_checkFill (d : Dev) : d.checkFill.bootPart = d.bootPart := by
  unfold Dev.checkFill
  dsimp only
  split
  · rfl
  · split
    · rw [bootPart_post, bootPart_set, bootPart_set, bootPart_ledger]
    · rw [bootPart_set, bootPart_ledger]
@[simp] theorem bootPart_transact (items : List (Nat × List Byte)) (d : Dev) : (Dev.transact items d).bootPart = d.bootPart := by
  unfold Dev.transact
  split
  · rfl
  · dsimp only
    rw [bootPart_checkFill, bootPart_showLedger, bootPart_ledger]
@[simp] theorem bootPart_safPost (code : Nat) (x : List Byte) (d : Dev) : (Dev.safPost code x d).bootPart = d.bootPart := by
  rw [Dev.safPost, bootPart_post, bootPart_transact]
theorem mode_showLedger (d : Dev) : d.showLedger.rd SYS_MODE = d.rd SYS_MODE := by
  unfold Dev.showLedger
  dsimp only
  rw [mode_wr64_far _ _ _ (by decide), mode_set_far _ _ _ (by decide), mode_set_far _ _ _ (by decide)]
theorem mode_checkFill (d : Dev) : d.checkFill.rd SYS_MODE = d.rd SYS_MODE := by
  unfold Dev.checkFill
  dsimp only
  split
  · rfl
  · split
    · rw [Dev.rd_post, mode_set_far _ _ _ (by decide), mode_set_far _ _ _ (by decide)]
      rfl
    · exact mode_set_far _ _ _ (by decide)
theorem mode_transact (items : List (Nat × List Byte)) (d : Dev) : (Dev.transact items d).rd SYS_MODE = d.rd SYS_MODE := by
  unfold Dev.transact
  split
  · rfl
  · dsimp only
    rw [mode_checkFill, mode_showLedger]
    rfl
theorem mode_safPost (code : Nat) (x : List Byte) (d : Dev) : (Dev.safPost code x d).rd SYS_MODE = d.rd SYS_MODE := by
  rw [Dev.safPost, Dev.rd_post, mode_transact]

/-! The scheduler. -/
@[simp] theorem bootPart_showStock (d : Dev) : d.showStock.bootPart = d.bootPart := by
  unfold Dev.showStock
  dsimp only
  rw [bootPart_cond, bootPart_set, bootPart_set, bootPart_set]
@[simp] theorem bootPart_showLevel (l : Nat) (d : Dev) : (Dev.showLevel l d).bootPart = d.bootPart := by
  rw [Dev.showLevel, bootPart_set, bootPart_set]
@[simp] theorem bootPart_placeTask (t : Nat) (d : Dev) : (Dev.placeTask t d).bootPart = d.bootPart := by
  unfold Dev.placeTask
  dsimp only
  split
  · rw [bootPart_setTask, bootPart_schUpdate]
  · split
    · rw [bootPart_setTask]
      split <;> rfl
    · rw [bootPart_setTask]
      split <;> rfl
@[simp] theorem bootPart_pushTask (t : Nat) (d : Dev) : (Dev.pushTask t d).bootPart = d.bootPart := by
  unfold Dev.pushTask
  split
  · rfl
  · rw [bootPart_showLevel, bootPart_showStock, bootPart_placeTask]
@[simp] theorem bootPart_saveCore (c : Nat) (d : Dev) : (Dev.saveCore c d).bootPart = d.bootPart := by
  unfold Dev.saveCore
  split
  · rfl
  · dsimp only
    rw [bootPart_pushTask]
    rfl
@[simp] theorem bootPart_showSched (d : Dev) : d.showSched.bootPart = d.bootPart := by
  unfold Dev.showSched
  dsimp only
  rw [bootPart_set, forN_keep Dev.bootPart, bootPart_showStock, forN_keep Dev.bootPart]
  · exact bootPart_showLevel
  · intro c e
    split <;> rw [bootPart_set, bootPart_set]
@[simp] theorem bootPart_runCores (m : Nat) (d : Dev) : (Dev.runCores m d).bootPart = d.bootPart := by
  unfold Dev.runCores
  dsimp only
  rw [bootPart_showSched, bootPart_set, forN_keep Dev.bootPart]
  intro c e
  exact when_keep Dev.bootPart _ _ (bootPart_saveCore c) e
@[simp] theorem bootPart_runPlls (m : Nat) (d : Dev) : (Dev.runPlls m d).bootPart = d.bootPart := by
  unfold Dev.runPlls
  dsimp only
  rw [bootPart_set, bootPart_set]
@[simp] theorem bootPart_createFirmware (ts : List FwTask) (d : Dev) : (Dev.createFirmware ts d).bootPart = d.bootPart := by
  unfold Dev.createFirmware
  change (Dev.forEach ts _ d).bootPart = _
  exact forEach_keep Dev.bootPart _ (fun _ _ => bootPart_setTask _ _ _) ts d

/-! The links. -/
@[simp] theorem bootPart_showHops (n : Nat) (d : Dev) : (Dev.showHops n d).bootPart = d.bootPart := by
  unfold Dev.showHops Dev.showChannels
  extract_lets p d1 tail mask up
  rw [bootPart_cond]
  simp only [d1, bootPart_set]
@[simp] theorem bootPart_hopDown (n c h st : Nat) (d : Dev) : (Dev.hopDown n c h st d).bootPart = d.bootPart := by
  unfold Dev.hopDown
  dsimp only
  rw [bootPart_post, bootPart_count, bootPart_showHops, bootPart_setPort]
@[simp] theorem bootPart_retrain (n c r : Nat) (d : Dev) : (Dev.retrain n c r d).bootPart = d.bootPart := by
  unfold Dev.retrain
  dsimp only
  rw [when_keep Dev.bootPart _ _ (bootPart_hopDown _ _ _ _), bootPart_set, bootPart_mapCh]
@[simp] theorem bootPart_orderRate (n r : Nat) (d : Dev) : (Dev.orderRate n r d).bootPart = d.bootPart := by
  unfold Dev.orderRate
  dsimp only
  rw [bootPart_showHops, bootPart_setPort, forN_keep Dev.bootPart]
  intro c e
  rw [when_keep Dev.bootPart _ _ (bootPart_retrain n c r), bootPart_sendControl]
@[simp] theorem bootPart_segmentReady (n r : Nat) (d : Dev) : (Dev.segmentReady n r d).bootPart = d.bootPart := by
  unfold Dev.segmentReady
  dsimp only
  rw [bootPart_post, bootPart_set, bootPart_set, bootPart_setPort]
@[simp] theorem bootPart_endDiscovery (n : Nat) (d : Dev) : (Dev.endDiscovery n d).bootPart = d.bootPart := by
  unfold Dev.endDiscovery
  extract_lets p up planned most hops r byHop limited lim d1 d2
  have h2 : d2.bootPart = d.bootPart := by
    clear_value limited lim
    unfold d2
    split <;> simp only [d1, bootPart_set, bootPart_setPort]
  clear_value d2
  split
  · rw [bootPart_segmentReady, h2]
  · rw [bootPart_orderRate, h2]
@[simp] theorem bootPart_bringUpStep (n : Nat) (d : Dev) : (Dev.bringUpStep n d).bootPart = d.bootPart := by
  unfold Dev.bringUpStep
  dsimp only
  split
  · rfl
  split
  · exact bootPart_endDiscovery n d
  split
  · exact bootPart_segmentReady _ _ _
  · rfl
@[simp] theorem bootPart_channelEnable (n c : Nat) (d : Dev) : (Dev.channelEnable n c d).bootPart = d.bootPart := by
  unfold Dev.channelEnable
  extract_lets e
  have he : e.bootPart = d.bootPart := bootPart_set _ _ _
  split
  · rw [bootPart_set, bootPart_mapCh, he]
  · exact he
@[simp] theorem bootPart_startBringUp (n : Nat) (d : Dev) : (Dev.startBringUp n d).bootPart = d.bootPart := by
  unfold Dev.startBringUp
  dsimp only
  rw [bootPart_bringUpStep, bootPart_set, bootPart_setPort, forN_keep Dev.bootPart, bootPart_channelEnable, bootPart_channelEnable]
  exact fun _ _ => bootPart_mapCh _ _ _ _
@[simp] theorem bootPart_bringUpAll (old : Nat) (d : Dev) : (Dev.bringUpAll old d).bootPart = d.bootPart := by
  unfold Dev.bringUpAll
  split
  · rfl
  · refine foldl_keep Dev.bootPart _ (fun e n => ?_) _ d
    split
    · rfl
    split
    · exact bootPart_startBringUp n e
    · rw [bootPart_channelEnable, bootPart_channelEnable]

/-! Registers that show the fuses, the tally, the safety state. -/
theorem bootPart_showTally (b : Backup) (d : Dev) : (Dev.showTally b d).bootPart = d.bootPart := forEach_keep Dev.bootPart _ (fun _ _ => bootPart_wr _ _ _) _ d
theorem bootPart_showPlanned (d : Dev) : d.showPlanned.bootPart = d.bootPart := forN_keep Dev.bootPart _ (fun _ _ => bootPart_set _ _ _) _ d
theorem bootPart_showSafety (d : Dev) : d.showSafety.bootPart = d.bootPart := by
  unfold Dev.showSafety
  extract_lets code holds d1 d2 d3 d4 d5 d6 us
  rw [bootPart_set, bootPart_set]
  unfold d6 d5 d4 d3 d2 d1
  simp only [bootPart_set, bootPart_wr]
theorem bootPart_failChannel (n r : Nat) (d : Dev) : (Dev.failChannel n r d).bootPart = d.bootPart := by
  unfold Dev.failChannel
  split
  · rfl
  · dsimp only
    rw [bootPart_safPost, bootPart_set, bootPart_set, bootPart_set]
theorem mode_showTally (b : Backup) (d : Dev) : (Dev.showTally b d).rd SYS_MODE = d.rd SYS_MODE :=
  forEach_keep (fun d => d.rd SYS_MODE) _ (fun _ _ => mode_wr_far _ _ _ (Nat.lt_add_right _ (by decide))) _ d
theorem mode_showFuses (f : Fuses) (d : Dev) : (Dev.showFuses f d).rd SYS_MODE = d.rd SYS_MODE :=
  (mode_wr_far _ _ _ (by decide)).trans (mode_set_far _ _ _ (by decide))
theorem mode_failChannel (n r : Nat) (d : Dev) : (Dev.failChannel n r d).rd SYS_MODE = d.rd SYS_MODE := by
  unfold Dev.failChannel
  split
  · rfl
  · dsimp only
    rw [mode_safPost, mode_set_far _ _ _ (by decide), mode_set_far _ _ _ (by decide), mode_set_far (SAF_CH.STATE n) _ _ (Nat.lt_add_right _ (by decide))]
theorem mode_showSafety (d : Dev) : d.showSafety.rd SYS_MODE = d.rd SYS_MODE := by
  unfold Dev.showSafety
  extract_lets code holds d1 d2 d3 d4 d5 d6 us
  have h2 : d2.rd SYS_MODE = d.rd SYS_MODE := by simp (disch := decide) only [d2, d1, mode_set_far]
  have h4 : d4.rd SYS_MODE = d2.rd SYS_MODE := by simp (disch := decide) only [d4, d3, mode_set_far]
  rw [mode_set_far _ _ _ (by decide), mode_set_far _ _ _ (by decide), mode_set_far _ _ _ (by decide), mode_wr_far _ _ _ (by decide), h4, h2]
theorem mode_driveOutputs (ok : Bool) (d : Dev) : (Dev.driveOutputs ok d).rd SYS_MODE = d.rd SYS_MODE := by
  refine forN_keep (fun d => d.rd SYS_MODE) _ (fun n e => ?_) _ d
  dsimp only
  split
  · rfl
  · split <;> rfl

/-! ## The safety state over an entry to Configure -/

theorem saf_completeOpt (ref : Option PktRef) (st : Nat) (t : LTime) (res : List Byte) (d : Dev) : (Dev.completeOpt ref st t res d).saf = d.saf :=
  saf_of_bootPart (bootPart_completeOpt ref st t res d)
theorem saf_dropHeld (st : Nat) (d : Dev) : (Dev.dropHeld st d).saf = d.saf := by
  unfold Dev.dropHeld
  dsimp only
  rw [forEach_keep Dev.saf _ (fun _ _ => complete_saf _ _ _ _ _)]
  rfl
theorem saf_cancelOutputs (d : Dev) : d.cancelOutputs.saf = d.saf := by
  unfold Dev.cancelOutputs
  dsimp only
  rw [forN_keep Dev.saf, forEach_keep Dev.saf _ (fun _ _ => saf_completeOpt _ _ _ _ _), Dev.set_saf]
  intro n e
  dsimp only
  rw [Dev.set_saf, Dev.goLive_saf, Dev.set_saf, when_keep Dev.saf _ _ (Dev.emit_saf _)]
theorem saf_dropLineActs (st : Nat) (d : Dev) : (Dev.dropLineActs st d).saf = d.saf := by
  unfold Dev.dropLineActs
  dsimp only
  rw [forEach_keep Dev.saf _ (fun _ _ => saf_completeOpt _ _ _ _ _)]
theorem saf_lanesOff (d : Dev) : d.lanesOff.saf = d.saf := by
  unfold Dev.lanesOff
  dsimp only
  rw [Dev.wr_saf, forN_keep Dev.saf, forN_keep Dev.saf]
  · intro l e; split <;> rfl
  · intro k e; split <;> rfl
theorem saf_offLine (c : Cyc) (m : Mir) (l : Ltm) (d : Dev) : ({ d with cyc := c, mir := m, ltm := l } : Dev).saf = d.saf := rfl
theorem saf_leaveLine (d : Dev) : d.leaveLine.saf = d.saf := by
  unfold Dev.leaveLine
  extract_lets d1 d2 d3 d4
  have h1 : d1.saf = d.saf := by
    refine when_keep Dev.saf _ _ (forN_keep Dev.saf _ (fun n e => ?_) 10) d
    split
    · rfl
    · rw [Dev.set_saf, Dev.set_saf, Dev.set_saf, Dev.set_saf]
  have h2 : d2.saf = d1.saf := by
    refine when_keep Dev.saf _ _ (fun e => ?_) d1
    rw [Dev.set_saf, Dev.set_saf, Dev.set_saf]
  have h3 : d3.saf = d2.saf := (saf_completeOpt _ _ _ _ _).trans (saf_dropLineActs _ _)
  have h4 : d4.saf = d3.saf := by
    unfold d4
    rw [saf_lanesOff, Dev.set_saf, Dev.set_saf, Dev.set_saf]
  exact (saf_offLine _ _ _ d4).trans (h4.trans (h3.trans (h2.trans h1)))
theorem saf_endTrace (u cause : Nat) (d : Dev) : (Dev.endTrace u cause d).saf = d.saf := by
  unfold Dev.endTrace
  extract_lets st t d1 d2 trc d3 sto
  have h2 : d2.saf = d.saf := by rw [Dev.post_saf, Dev.set_saf, Dev.set_saf]
  clear_value d2
  split
  · rfl
  · split <;> exact h2
theorem saf_dropStart (u : Nat) (d : Dev) : (Dev.dropStart u d).saf = d.saf := by
  unfold Dev.dropStart
  dsimp only
  split
  · rfl
  · rw [saf_completeOpt, Dev.set_saf]
theorem saf_endIdent (r : Nat) (vs : List Nat) (d : Dev) : (Dev.endIdent r vs d).saf = d.saf := by
  unfold Dev.endIdent
  split
  · rfl
  · extract_lets v trc d1 d2 d3
    have h2 : d2.saf = d1.saf := by rw [Dev.set_saf, Dev.set_saf, Dev.set_saf]
    rw [Dev.post_saf, Dev.wr_saf, Dev.wr_saf, Dev.wr_saf, Dev.wr_saf, Dev.wr_saf, h2]
theorem saf_setCapState (u st : Nat) (d : Dev) : (Dev.setCapState u st d).saf = d.saf := by
  unfold Dev.setCapState
  dsimp only
  rw [Dev.set_saf, Dev.set_saf, Dev.set_saf]
theorem saf_endFill (u : Nat) (early : Bool) (d : Dev) : (Dev.endFill u early d).saf = d.saf := by
  unfold Dev.endFill
  dsimp only
  rw [saf_setCapState]
  rfl
theorem saf_disarm (u : Nat) (d : Dev) : (Dev.disarm u d).saf = d.saf := by
  unfold Dev.disarm
  dsimp only
  split
  · rfl
  · rw [saf_setCapState]
    exact when_keep Dev.saf _ _ (saf_endFill u true) d
theorem saf_fbSettle (all : Bool) (d : Dev) : (Dev.fbSettle all d).saf = d.saf := by
  refine forN_keep Dev.saf _ (fun n e => ?_) 4 d
  split <;> rfl
theorem saf_showStore (d : Dev) : d.showStore.saf = d.saf := by
  unfold Dev.showStore
  dsimp only
  rw [saf_of_bootPart (bootPart_cond _ _ _), Dev.wr64_saf, Dev.wr64_saf, Dev.wr_saf, Dev.wr_saf, forN_keep Dev.saf _ (fun _ _ => Dev.wr_saf _ _ _),
    Dev.set_saf, Dev.set_saf]
theorem saf_mountDone (j : MountJob) (d : Dev) : (Dev.mountDone j d).saf = d.saf := by
  unfold Dev.mountDone
  extract_lets kept broken d1 sto1 d2 top sto2 d3 d4 d5
  have h1 : d1.saf = d.saf := by
    clear_value broken
    unfold d1
    split
    · rw [Dev.post_saf, Dev.set_saf]
    · rfl
  have h2 : d2.saf = d1.saf := by
    unfold d2
    split <;> rfl
  have h3 : d3.saf = d2.saf := rfl
  have h4 : d4.saf = d3.saf := by exact (saf_showStore _).trans (Dev.set_saf _ _ _)
  rw [saf_completeOpt, Dev.post_saf, h4, h3, h2, h1]
/-- The mount that AUTO_MOUNT starts (R369). -/
theorem saf_startMount (mask : List Nat) (ref : Option PktRef) (d : Dev) : (Dev.startMount 0 mask ref d).saf = d.saf := by
  unfold Dev.startMount
  extract_lets d1 fresh d2 d3 wait j sto d4
  have h2 : d2.saf = d.saf := by rw [Dev.set_saf, Dev.set_saf]
  have h3 : d3.saf = d2.saf := forEach_keep Dev.saf _ (fun _ _ => Dev.emit_saf _ _) fresh d2
  have h4 : d4.saf = d.saf := h3.trans h2
  split
  · rw [saf_mountDone, h4]
  · refine (forEach_keep Dev.saf _ (fun i e => ?_) wait d4).trans h4
    split
    · rfl
    · rfl

theorem saf_closeScopes (d : Dev) : d.closeScopes.saf = d.saf := by
  unfold Dev.closeScopes
  split
  · rfl
  · extract_lets mask sec d1
    rw [Dev.post_saf, Dev.wr_saf, Dev.set_saf]
theorem saf_endSession (sid cause : Nat) (d : Dev) : (Dev.endSession sid cause d).saf = d.saf := by
  unfold Dev.endSession Dev.showSessions
  split
  · extract_lets opened sec d1
    rw [Dev.set_saf, when_keep Dev.saf _ _ (Dev.post_saf _ _ _)]
  · rfl
theorem saf_endSessions (cause : Nat) (d : Dev) : (Dev.endSessions cause d).saf = d.saf :=
  forEach_keep Dev.saf _ (fun _ _ => saf_endSession _ _ _) _ d
theorem bootPart_showFb (n : Nat) (d : Dev) : (Dev.showFb n d).bootPart = d.bootPart := by
  unfold Dev.showFb
  dsimp only
  split <;> simp only [bootPart_set, bootPart_wr, bootPart_wr64]
theorem saf_setFb (n : Nat) (x : Fb) (d : Dev) : (Dev.setFb n x d).saf = d.saf := rfl
theorem saf_fbShadow (d : Dev) : d.fbShadow.saf = d.saf := by
  refine forN_keep Dev.saf _ (fun n e => ?_) 4 d
  exact (saf_of_bootPart (bootPart_showFb n _)).trans (saf_setFb _ _ _)

/-- What the blocks do at a change of mode leaves the safety part alone (R45). -/
theorem saf_modeHooks (old new : Nat) (d : Dev) : (Dev.modeHooks old new d).saf = d.saf := by
  unfold Dev.modeHooks
  extract_lets syncd d1 d2 d3 d4 d5 d6 d7 d8 d9 d10
  have h1 : d1.saf = d.saf := when_keep Dev.saf _ _ (saf_dropHeld _) d
  have h2 : d2.saf = d1.saf := when_keep Dev.saf _ _ saf_closeScopes d1
  have h3 : d3.saf = d2.saf := when_keep Dev.saf _ _ (saf_endSessions 3) d2
  have h4 : d4.saf = d3.saf := when_keep Dev.saf _ _ saf_cancelOutputs d3
  have h5 : d5.saf = d4.saf := when_keep Dev.saf _ _ saf_leaveLine d4
  have h6 : d6.saf = d5.saf := when_keep Dev.saf _ _ (forN_keep Dev.saf _ (fun u e => (saf_dropStart u _).trans (saf_endTrace u 4 e)) 4) d5
  have h7 : d7.saf = d6.saf := when_keep Dev.saf _ _ (saf_endIdent 1 []) d6
  have h8 : d8.saf = d7.saf := when_keep Dev.saf _ _ (forN_keep Dev.saf _ saf_disarm 16) d7
  have h9 : d9.saf = d8.saf := when_keep Dev.saf _ _ (Dev.set_saf _ _) d8
  have h10 : d10.saf = d9.saf := (when_keep Dev.saf _ _ (saf_fbSettle true) _).trans (when_keep Dev.saf _ _ saf_fbShadow d9)
  rw [when_keep Dev.saf _ _ (saf_startMount _ _), h10, h9, h8, h7, h6, h5, h4, h3, h2, h1]
theorem saf_sysUpdate (x : Sys) (d : Dev) : ({ d with sys := x } : Dev).saf = d.saf := rfl
/-- So does the whole change (R45, R56, R57). -/
theorem saf_enterMode (new cause detail : Nat) (bound : Option Nat) (more : Bool) (d : Dev) :
    (Dev.enterMode new cause detail bound more d).saf = d.saf := by
  have served : ∀ (b : Bool) (e : Dev),
      (Dev.when b (fun e => Dev.set SYS_MODE.TRANSITION 0 { e with sys := { e.sys with request := none } }) e).saf = e.saf := by
    intro b e
    refine when_keep Dev.saf _ _ (fun e => ?_) e
    rw [Dev.set_saf]
  unfold Dev.enterMode
  dsimp only
  rw [when_keep Dev.saf _ _ (Dev.post_saf _ _ _), served, saf_of_bootPart (bootPart_bringUpAll _ _), saf_of_bootPart (bootPart_runCores _ _),
    saf_of_bootPart (bootPart_runPlls _ _), Dev.count32_saf, Dev.wr64_saf, Dev.set_saf, Dev.set_saf, Dev.set_saf, Dev.set_saf, saf_sysUpdate,
    saf_modeHooks]

/-! ## The boot ROM's stages (R375, R446, R449, R328) -/

theorem saf_readLedger (aOk bOk : Bool) (bad : Option Nat) (torn : Nat) (d : Dev) : (Dev.readLedger aOk bOk bad torn d).saf = d.saf := by
  unfold Dev.readLedger
  dsimp only
  split
  · rw [Dev.post_saf, saf_of_bootPart (bootPart_cond _ _ _), Dev.set_saf, Dev.set_saf, Dev.set_saf]
  split
  · rw [saf_of_bootPart (bootPart_showLedger _), Dev.post_saf, Dev.wr64_saf, Dev.set_saf, Dev.set_saf]
  · refine (when_keep Dev.saf _ _ (fun e => ?_) _).trans ?_
    · rw [Dev.post_saf, Dev.set_saf]
    · rw [when_keep Dev.saf _ _ (Dev.count32_saf _ _), saf_of_bootPart (bootPart_showLedger _), Dev.wr64_saf, Dev.set_saf, Dev.set_saf, Dev.set_saf]
theorem saf_loadSettings (d : Dev) : d.loadSettings.saf = d.saf := by
  have duty : ∀ (n : Nat) (e : Dev), (Dev.when (lastSetting d.journal 0 n == some 1) (Dev.cond (condHA n) true) e).saf = e.saf := fun n e =>
    when_keep Dev.saf _ _ (fun e => saf_of_bootPart (bootPart_cond _ _ e)) e
  unfold Dev.loadSettings
  extract_lets j d1 d2 ident gen sto d3 d4 sto4 d5 trc
  have h1 : d1.saf = d.saf := forN_keep Dev.saf _ duty 8 d
  clear_value d1
  have h2 : d2.saf = d.saf := by
    unfold d2
    split
    · rw [Dev.set_saf, h1]
    · exact h1
  clear_value d2
  have h4 : d4.saf = d.saf := (Dev.wr_saf _ _ _).trans h2
  clear_value d4
  have h5 : d5.saf = d.saf := by
    unfold d5
    split
    · rw [Dev.wr64_saf, h4]
    · exact h4
  exact h5
theorem saf_enterCam (table : Nat) (bs : List Byte) (d : Dev) : (Dev.enterCam table bs d).saf = d.saf := by
  unfold Dev.enterCam
  split <;> rfl
/-- A package becomes the one in force, its working cycle with it; events collected before the index was known carry it too (R137, R449). -/
def Dev.packageTaken (k : Package) (d : Dev) : Dev :=
  let own := fun (e : Event) => if e.ctrl = d.sys.index then { e with ctrl := k.index } else e
  let d : Dev := { d with
    sys := { d.sys with package := some k, index := k.index }
    hif := { d.hif with batch := d.hif.batch.map own, unsent := d.hif.unsent.map own }
    ledger := { d.ledger with held := d.ledger.held.map own } }
  { d with cyc := { d.cyc with working := (k.images.map parseImage).find? (fun g => g.num == k.working) } }
theorem saf_packageTaken (k : Package) (d : Dev) : (d.packageTaken k).saf = d.saf := rfl
theorem loadPackage_taken (k : Package) (d : Dev) : Dev.loadPackage k d =
    ((((d.packageTaken k).set LTM_LINE.LINE_RANK k.lineRank).forEach (k.axisWords ++ k.settings) (fun p d => (d.wr p.1 p.2.toNat).goLive p.1 p.2)).forEach
      k.cams (fun t d => d.enterCam t.1 t.2)).showPlanned.bringUpAll 4 := rfl
theorem saf_loadPackage (k : Package) (d : Dev) : (Dev.loadPackage k d).saf = d.saf := by
  rw [loadPackage_taken, saf_of_bootPart (bootPart_bringUpAll _ _), saf_of_bootPart (bootPart_showPlanned _),
    forEach_keep Dev.saf, forEach_keep Dev.saf, Dev.set_saf, saf_packageTaken]
  · intro p e
    rw [Dev.goLive_saf, Dev.wr_saf]
  · exact fun t e => saf_enterCam t.1 t.2 e
/-- With every output good, every copy good and no seal reading, the safety channels find no lockout cause at Boot. -/
theorem causes_bootSafety {r1 r2 : Nat} (h : r1 ≠ r2) (d : Dev) : (Dev.bootSafety 0 0 r1 r2 d).saf.causes = d.saf.causes := by
  have hr : (r1 == r2) = false := by simp [h]
  have pins : ∀ (f : Nat → Dev → Dev) (e : Dev), Dev.forN 8 (fun k d => d.when (bitAt 0 k) (f k)) e = e := fun f e =>
    forN_keep id _ (fun k e => by simp [bitAt]) 8 e
  have copies : ∀ x, (Nat.land 0 x != 0) = false := fun x => by simp [Nat.land]
  unfold Dev.bootSafety
  dsimp only
  rw [saf_of_bootPart (bootPart_showSafety _), hr]
  simp only [Dev.when_false, pins, copies, Bool.and_false, bne_self_eq_false]

theorem bootOrder_congr {d e : Dev} (hsec : d.sec = e.sec) (hsys : d.sys = e.sys) : d.bootOrder = e.bootOrder := by
  simp only [Dev.bootOrder, hsec, hsys]

/-! ## The lockout that a cause of Boot brings (R45, R348) -/

theorem mode_ledgerEvent (e : Event) (d : Dev) : (Dev.ledgerEvent e d).rd SYS_MODE = d.rd SYS_MODE := by
  unfold Dev.ledgerEvent
  split
  · exact mode_transact _ _
  · unfold Dev.transactLimited
    split
    · exact rd_count32_other _ _ _ _ (by decide)
    · exact mode_transact _ _
  · rfl
theorem holdEvents_mode (d : Dev) : d.holdEvents.mode = d.mode :=
  mode_of_rd _ _ (forEach_keep (fun d => d.rd SYS_MODE) _ mode_ledgerEvent _ { d with hif := { d.hif with batch := [] } })
theorem showAbsent_mode (d : Dev) : d.showAbsent.mode = d.mode := mode_of_rd _ _ (rd_cond_other _ _ _ _ (by decide) (by decide))
/-- A lockout cause in Configure leads to Lockout (R45, R50). -/
theorem lockout_configure (c : Nat) (d : Dev) (h : d.mode = 4) : (Dev.lockout c d).mode = 9 := by
  unfold Dev.lockout
  extract_lets known causes saf d1 lockable was d2 d3 saf3 d4 d5
  have hm : d1.mode = 4 := h
  have hl : lockable = true := by simp [lockable, hm]
  rw [if_pos hl]
  have h5 : d5.mode = 9 := enterMode_mode _ _ _ _ _ _ (by decide)
  clear_value d5
  rw [← h5]
  exact mode_of_rd _ _ ((mode_showSafety _).trans (mode_driveOutputs _ _))
theorem bootLockout_elsewhere (was : Nat) (d : Dev) (h : was ≠ 2 ∨ d.mode ≠ 4) : Dev.bootLockout was d = d := by
  unfold Dev.bootLockout
  split
  · exact if_neg fun hb => h.elim (fun hw => hw (by simp_all)) (fun hm => hm (by simp_all))
  · rfl
theorem bootLockout_without_cause (was : Nat) (d : Dev) (h : d.saf.causes = []) : Dev.bootLockout was d = d := by
  simp [Dev.bootLockout, h]
theorem bootLockout_mode (d : Dev) (h : d.mode = 4) : (Dev.bootLockout 2 d).mode = 4 ∨ (Dev.bootLockout 2 d).mode = 9 := by
  unfold Dev.bootLockout
  split
  · rw [if_pos (by simp [h])]
    exact Or.inr (lockout_configure _ _ ((holdEvents_mode d).trans h))
  · exact Or.inl h

/-! ## The boot ROM (R45, R446 to R448) -/

/-- The fuses after a boot from an image: one that advances the anti-rollback value blows its bits (R447). -/
def Fuses.afterBoot (f : Fuses) (img : List Byte) : Fuses :=
  if bitAt (fieldAt img 33 1) 0 && decide (f.arbValue < fieldAt img 16 8) then { f with arb := Nat.lor f.arb (2 ^ min (fieldAt img 16 8) 64 - 1) } else f

theorem Fuses.afterBoot_kept {f : Fuses} {img : List Byte} (h : bitAt (fieldAt img 33 1) 0 = false ∨ fieldAt img 16 8 ≤ f.arbValue) :
    f.afterBoot img = f := by
  refine if_neg fun hb => ?_
  rcases h with h | h <;> simp [h] at hb
  omega
theorem Fuses.afterBoot_advanced {f : Fuses} {img : List Byte} (h : bitAt (fieldAt img 33 1) 0 = true) (hv : f.arbValue < fieldAt img 16 8) :
    f.afterBoot img = { f with arb := Nat.lor f.arb (2 ^ min (fieldAt img 16 8) 64 - 1) } := if_pos (by simp [h, hv])

theorem mode_seal (reason cause : Nat) (d : Dev) : (Dev.seal reason cause d).mode = 3 := enterMode_mode _ _ _ _ _ _ (by decide)

/-! The stages of a boot from an image that verifies, as `State.boot` runs them (`boot_verified`). -/

/-- The registers that name the booted image (R446). -/
def Dev.imageNamed (slot : Nat) (img : List Byte) (codes : List Nat) (d : Dev) : Dev :=
  let d := (d.set SEC_STATUS.BOOT_SLOT slot).set SEC_STATUS.FALLBACK (flag (!codes.isEmpty))
  let d := (d.set SEC_FW.VERSION (fieldAt img 12 2)).set SEC_FW.CLASS (fieldAt img 14 2)
  { d with sec := { d.sec with fwHash := padTo 48 ((img.drop 208).take 48) } }
/-- The failure of an image tried before the booted one is posted (R446, R460). -/
def Dev.postFallback (codes : List Nat) (d : Dev) : Dev :=
  match codes with
  | c :: _ => d.post 0x0F00 0x0F01 (leBytes 1 c)
  | [] => d
/-- What the boot ROM shows of the image that verifies. -/
def Dev.imageBooted (slot : Nat) (img : List Byte) (codes : List Nat) (d : Dev) : Dev := (d.imageNamed slot img codes).postFallback codes
/-- The package that verified, when there is one, becomes the active one (R446, R449). -/
def Dev.loadVerified (found : Option (Nat × Package)) (d : Dev) : Dev :=
  match found with
  | some (slot, k) => Dev.loadPackage k { d with sec := { d.sec with activePkg := slot } }
  | none => d
/-- The line rank of the ledger, when it holds one (R373). -/
def Dev.loadRank (rank : Option Nat) (d : Dev) : Dev :=
  match rank with
  | some r => d.set LTM_LINE.LINE_RANK r
  | none => d
/-- The active package, when it verifies, and the line rank of the ledger (R373, R449). -/
def Dev.loadBootPackage (f : Fuses) (d : Dev) : Dev :=
  let d := d.loadVerified (d.bootPackage f)
  d.loadRank (lastSetting d.journal 0x0200 0)
/-- Entry to Configure: the watchdog's timeout, firmware's tasks, the DMA channels' classes and the anti-rollback value (R415, R447, R496). -/
def Dev.toConfigure (f : Fuses) (img : List Byte) (tasks : List FwTask) (classes : List (Fin 4)) (d : Dev) : Dev :=
  let d := d.draw.2.set RST_WDT.TIMEOUT (10 + d.draw.1 % 991)
  let d := (d.enterMode 4 3 0 none false).createFirmware tasks
  let d := d.forEach (classes.take 16).zipIdx (fun c d => d.set (DMA_CH_STATUS.CLASS c.2) c.1.val)
  if bitAt (fieldAt img 33 1) 0 && decide (f.arbValue < fieldAt img 16 8) then (d.showFuses (f.afterBoot img)).post 0x0F00 0x0F08 (leBytes 1 (fieldAt img 16 8))
  else d

theorem saf_secUpdate (x : Sec) (d : Dev) : ({ d with sec := x } : Dev).saf = d.saf := rfl
theorem saf_imageNamed (slot : Nat) (img : List Byte) (codes : List Nat) (d : Dev) : (Dev.imageNamed slot img codes d).saf = d.saf := by
  rw [Dev.imageNamed, saf_secUpdate, Dev.set_saf, Dev.set_saf, Dev.set_saf, Dev.set_saf]
theorem saf_postFallback (codes : List Nat) (d : Dev) : (Dev.postFallback codes d).saf = d.saf := by
  cases codes with
  | nil => rfl
  | cons c cs => exact Dev.post_saf _ _ _ _
theorem saf_imageBooted (slot : Nat) (img : List Byte) (codes : List Nat) (d : Dev) : (Dev.imageBooted slot img codes d).saf = d.saf := by
  rw [Dev.imageBooted, saf_postFallback, saf_imageNamed]
theorem saf_loadVerified (found : Option (Nat × Package)) (d : Dev) : (Dev.loadVerified found d).saf = d.saf := by
  cases found with
  | none => rfl
  | some x =>
    obtain ⟨slot, k⟩ := x
    rw [Dev.loadVerified, saf_loadPackage, saf_secUpdate]
theorem saf_loadRank (rank : Option Nat) (d : Dev) : (Dev.loadRank rank d).saf = d.saf := by
  cases rank with
  | none => rfl
  | some r => exact Dev.set_saf _ _ _
theorem saf_loadBootPackage (f : Fuses) (d : Dev) : (Dev.loadBootPackage f d).saf = d.saf := by
  rw [Dev.loadBootPackage, saf_loadRank, saf_loadVerified]
theorem dmaClass_far (i : Nat) : 4 < (DMA_CH_STATUS.CLASS i).a := by
  unfold DMA_CH_STATUS.CLASS DMA_CH_STATUS
  dsimp only
  omega
theorem mode_showClass (c : Fin 4 × Nat) (d : Dev) : (d.set (DMA_CH_STATUS.CLASS c.2) c.1.val).rd SYS_MODE = d.rd SYS_MODE :=
  mode_set_far _ _ _ (dmaClass_far c.2)
theorem toConfigure_mode (f : Fuses) (img : List Byte) (tasks : List FwTask) (classes : List (Fin 4)) (d : Dev) :
    (Dev.toConfigure f img tasks classes d).mode = 4 := by
  have classed : ∀ (cs : List (Fin 4 × Nat)) (e : Dev), (e.forEach cs (fun c d => d.set (DMA_CH_STATUS.CLASS c.2) c.1.val)).mode = e.mode := fun cs e =>
    mode_of_rd _ _ (forEach_keep (fun d => d.rd SYS_MODE) _ mode_showClass cs e)
  unfold Dev.toConfigure
  dsimp only
  split
  · rw [mode_of_rd _ _ ((Dev.rd_post _ _ _ _ _).trans (mode_showFuses _ _)), classed, mode_of_rd _ _ (mode_createFirmware _ _),
      enterMode_mode _ _ _ _ _ _ (by decide)]
  · rw [classed, mode_of_rd _ _ (mode_createFirmware _ _), enterMode_mode _ _ _ _ _ _ (by decide)]
theorem saf_toConfigure (f : Fuses) (img : List Byte) (tasks : List FwTask) (classes : List (Fin 4)) (d : Dev) :
    (Dev.toConfigure f img tasks classes d).saf = d.saf := by
  have classed : ∀ (cs : List (Fin 4 × Nat)) (e : Dev), (e.forEach cs (fun c d => d.set (DMA_CH_STATUS.CLASS c.2) c.1.val)).saf = e.saf := fun cs e =>
    forEach_keep Dev.saf _ (fun _ _ => Dev.set_saf _ _ _) cs e
  unfold Dev.toConfigure
  dsimp only
  split
  · rw [Dev.post_saf, Dev.showFuses, Dev.wr_saf, Dev.set_saf, classed, saf_of_bootPart (bootPart_createFirmware _ _), saf_enterMode, Dev.set_saf, Dev.draw_saf]
  · rw [classed, saf_of_bootPart (bootPart_createFirmware _ _), saf_enterMode, Dev.set_saf, Dev.draw_saf]

section
variable {s : State} {aOk bOk : Bool} {bad : Option Nat} {torn outBad copyBad r1 r2 : Nat} {tasks : List FwTask} {classes : List (Fin 4)}

/-- The device part once the endpoint is present and the reset's cause is posted (R499, R500). -/
def State.announced (s : State) : Dev := (s.dev.set HIF_STATUS.READY 1).post 0x0010 0x0012 ((causeBytes s.backup.cause).take 13)
/-- The source that the last-cause record names, 0xFF without a record (R499). -/
def State.resetSource (s : State) : Nat := (s.backup.cause.map (·.source)).getD 0xFF

theorem bootOrder_announced (s : State) : s.announced.bootOrder = s.dev.bootOrder := bootOrder_congr rfl rfl

theorem boot_elsewhere (hm : s.dev.mode ≠ 2) : s.boot aOk bOk bad torn outBad copyBad r1 r2 tasks classes = s := if_pos hm
theorem boot_violation (hm : s.dev.mode = 2) (hs : s.resetSource = 5) : s.boot aOk bOk bad torn outBad copyBad r1 r2 tasks classes =
    s.onDev (fun _ => (s.announced.post 0x0F00 0x0F0A (leBytes 1 ((s.backup.cause.map (·.detail)).getD 0))).seal 10 0x0F) := by
  unfold State.boot
  rw [if_neg (not_not.mpr hm)]
  exact if_pos hs
theorem boot_recovery (hm : s.dev.mode = 2) (hs : s.resetSource ≠ 5) (hb : s.dev.sys.bootSel = 0) :
    s.boot aOk bOk bad torn outBad copyBad r1 r2 tasks classes = s.onDev (fun _ => s.announced.seal 7 4) := by
  unfold State.boot
  rw [if_neg (not_not.mpr hm)]
  exact (if_neg hs).trans (if_pos hb)
theorem boot_unverified {codes : List Nat} (hm : s.dev.mode = 2) (hs : s.resetSource ≠ 5) (hb : s.dev.sys.bootSel ≠ 0)
    (ht : tryBoot s.fuses s.announced.bootOrder [] = (none, codes)) :
    s.boot aOk bOk bad torn outBad copyBad r1 r2 tasks classes = s.onDev (fun _ => s.announced.seal ((codes.getLast?).getD 8) 4) := by
  unfold State.boot
  rw [if_neg (not_not.mpr hm)]
  extract_lets d0 src d1
  have notViolated : ¬src = 5 := hs
  have notRecovered : ¬d1.sys.bootSel = 0 := hb
  rw [if_neg notViolated, if_neg notRecovered]
  have tried : tryBoot s.fuses d1.bootOrder [] = (none, codes) := ht
  split
  next codes' h =>
    obtain rfl : codes = codes' := congrArg Prod.snd (tried.symm.trans h)
    rfl
  next h => exact absurd (tried.symm.trans h) (by simp)
end

/-- The device part in Configure, after the stages of a boot from an image that verifies (`boot_verified`). -/
def State.configured (s : State) (slot : Nat) (img : List Byte) (codes : List Nat) (aOk bOk : Bool) (bad : Option Nat) (torn outBad copyBad r1 r2 : Nat)
    (tasks : List FwTask) (classes : List (Fin 4)) : Dev :=
  ((((s.announced.imageBooted slot img codes).readLedger aOk bOk bad torn).loadSettings.loadBootPackage s.fuses).bootSafety
    outBad copyBad r1 r2).toConfigure s.fuses img tasks classes

section
variable {s : State} {aOk bOk : Bool} {bad : Option Nat} {torn outBad copyBad r1 r2 : Nat} {tasks : List FwTask} {classes : List (Fin 4)}

/-- An image verifies: the part seals when it is not provisioned (R448), and otherwise reaches Configure, with the fuses that the image leaves
(R45, R447, R449). -/
theorem boot_verified {slot : Nat} {img : List Byte} {codes : List Nat} (hm : s.dev.mode = 2) (hs : s.resetSource ≠ 5) (hb : s.dev.sys.bootSel ≠ 0)
    (ht : tryBoot s.fuses s.announced.bootOrder [] = (some (slot, img), codes)) :
    s.boot aOk bOk bad torn outBad copyBad r1 r2 tasks classes =
      if !s.fuses.provisioned then s.onDev (fun _ => (s.announced.imageBooted slot img codes).seal 9 5)
      else { s with
        fuses := s.fuses.afterBoot img
        dev := s.configured slot img codes aOk bOk bad torn outBad copyBad r1 r2 tasks classes } := by
  unfold State.boot
  rw [if_neg (not_not.mpr hm)]
  extract_lets d0 src d1
  have notViolated : ¬src = 5 := hs
  have notRecovered : ¬d1.sys.bootSel = 0 := hb
  rw [if_neg notViolated, if_neg notRecovered]
  have tried : tryBoot s.fuses d1.bootOrder [] = (some (slot, img), codes) := ht
  split
  next h => exact absurd (tried.symm.trans h) (by simp)
  next slot' img' codes' h =>
    have same := tried.symm.trans h
    simp only [Prod.mk.injEq, Option.some.injEq] at same
    obtain ⟨⟨rfl, rfl⟩, rfl⟩ := same
    extract_lets d2 sec2 d3 booted read settings sec3 verified loaded safe v up f
    have hbooted : s.announced.imageBooted slot img codes = booted := rfl
    refine ite_congr rfl (fun _ => ?_) (fun _ => ?_)
    · rw [hbooted]
      rfl
    · have hverified : settings.loadVerified (settings.bootPackage s.fuses) = verified := rfl
      have hloaded : settings.loadBootPackage s.fuses = loaded := by
        rw [Dev.loadBootPackage, hverified]
        rfl
      have hsafe : Dev.bootSafety outBad copyBad r1 r2 ((booted.readLedger aOk bOk bad torn).loadSettings.loadBootPackage s.fuses) = safe :=
        congrArg (Dev.bootSafety outBad copyBad r1 r2) hloaded
      rw [State.configured, hbooted, hsafe]
      rfl
end

theorem saf_announced (s : State) : s.announced.saf = s.dev.saf := by
  rw [State.announced, Dev.post_saf, Dev.set_saf]

section
variable {s : State} {aOk bOk : Bool} {bad : Option Nat} {torn : BitVec 32} {outBad : BitVec 8} {copyBad : BitVec 3} {r1 r2 : BitVec 16}
  {tasks : List FwTask} {classes : List (Fin 4)}

/-- A boot that does not end in Configure has no lockout cause to act on, and shows no absent partner (R45, R55). -/
theorem exec_bootComplete_elsewhere (h : s.dev.mode ≠ 2 ∨
      (s.boot aOk bOk bad torn.toNat outBad.toNat copyBad.toNat r1.toNat r2.toNat tasks classes).dev.mode ≠ 4) :
    exec (.bootComplete aOk bOk bad torn outBad copyBad r1 r2 tasks classes) s =
      .next (s.boot aOk bOk bad torn.toNat outBad.toNat copyBad.toNat r1.toNat r2.toNat tasks classes) := by
  change execBootComplete aOk bOk bad torn outBad copyBad r1 r2 tasks classes s = _
  unfold execBootComplete
  generalize s.boot aOk bOk bad torn.toNat outBad.toNat copyBad.toNat r1.toNat r2.toNat tasks classes = t at h ⊢
  have hf : ¬(s.dev.mode = 2 && t.dev.mode = 4) = true := by
    rcases h with h | h <;> simp [h]
  refine congrArg Host.Outcome.next (State.onDev_of_fixed ?_)
  rw [if_neg hf, bootLockout_elsewhere _ _ h]
/-- A boot that ends in Configure shows whether the partner is absent and acts on a lockout cause that arose in Boot (R45, R55). -/
theorem exec_bootComplete_configure {t : State} (hm : s.dev.mode = 2)
    (ht : s.boot aOk bOk bad torn.toNat outBad.toNat copyBad.toNat r1.toNat r2.toNat tasks classes = t) (h4 : t.dev.mode = 4) :
    exec (.bootComplete aOk bOk bad torn outBad copyBad r1 r2 tasks classes) s = .next (t.onDev (fun _ => t.dev.showAbsent.bootLockout 2)) := by
  change execBootComplete aOk bOk bad torn outBad copyBad r1 r2 tasks classes s = _
  unfold execBootComplete
  rw [ht]
  refine congrArg Host.Outcome.next (State.onDev_congr ?_)
  rw [hm, if_pos (by simp [h4])]

/-- A sealed part answers BOOT_COMPLETE with its sealed state (R448). -/
theorem exec_bootComplete_sealed {e : Dev} {reason cause : Nat}
    (ht : s.boot aOk bOk bad torn.toNat outBad.toNat copyBad.toNat r1.toNat r2.toNat tasks classes = s.onDev (fun _ => e.seal reason cause)) :
    exec (.bootComplete aOk bOk bad torn outBad copyBad r1 r2 tasks classes) s = .next (s.onDev (fun _ => e.seal reason cause)) := by
  rw [← ht]
  refine exec_bootComplete_elsewhere (Or.inr fun h4 => ?_)
  rw [ht] at h4
  exact absurd ((mode_seal reason cause e).symm.trans h4) (by decide)
end

section
variable {slot : Nat} {img : List Byte} {codes : List Nat} {aOk bOk : Bool} {bad : Option Nat} {torn outBad copyBad r1 r2 : Nat}
  {tasks : List FwTask} {classes : List (Fin 4)}

theorem configured_mode (s : State) : (s.configured slot img codes aOk bOk bad torn outBad copyBad r1 r2 tasks classes).mode = 4 := by
  rw [State.configured, toConfigure_mode]
/-- With every output good, every copy good and no seal reading, a boot keeps the list of lockout causes. -/
theorem causes_configured (s : State) (h : r1 ≠ r2) :
    (s.configured slot img codes aOk bOk bad torn 0 0 r1 r2 tasks classes).saf.causes = s.dev.saf.causes := by
  rw [State.configured, saf_toConfigure, causes_bootSafety h, saf_loadBootPackage, saf_loadSettings, saf_readLedger, saf_imageBooted, saf_announced]
/-- The lockout that follows Configure: none when no cause has arisen. -/
theorem bootLockout_absent_mode {d : Dev} (h4 : d.mode = 4) :
    (d.showAbsent.bootLockout 2).mode = 4 ∨ (d.showAbsent.bootLockout 2).mode = 9 :=
  bootLockout_mode _ ((showAbsent_mode d).trans h4)
theorem bootLockout_absent_without_cause {d : Dev} (h4 : d.mode = 4) (hc : d.saf.causes = []) : (d.showAbsent.bootLockout 2).mode = 4 := by
  have hs : d.showAbsent.saf.causes = [] := by
    rw [Dev.showAbsent, saf_of_bootPart (bootPart_cond _ _ _), hc]
  rw [bootLockout_without_cause _ _ hs, showAbsent_mode, h4]
end

section
variable {s : State} {aOk bOk : Bool} {bad : Option Nat} {torn : BitVec 32} {outBad : BitVec 8} {copyBad : BitVec 3} {r1 r2 : BitVec 16}
  {tasks : List FwTask} {classes : List (Fin 4)} {slot : Nat} {img : List Byte} {codes : List Nat}

/-- O13's clause of a part that is not provisioned (R448). -/
theorem bootComplete_unprovisioned (hm : s.dev.mode = 2) (hs : s.resetSource ≠ 5) (hb : s.dev.sys.bootSel ≠ 0)
    (ht : tryBoot s.fuses s.dev.bootOrder [] = (some (slot, img), codes)) (hp : s.fuses.provisioned = false) :
    ∃ t, exec (.bootComplete aOk bOk bad torn outBad copyBad r1 r2 tasks classes) s = .next t ∧ t.dev.mode = 3 ∧
      t.fuses = s.fuses ∧ t.backup = s.backup := by
  rw [← bootOrder_announced] at ht
  refine ⟨_, exec_bootComplete_sealed ((boot_verified hm hs hb ht).trans (if_pos (by simp [hp]))), ?_, State.onDev_fuses _ _, State.onDev_backup _ _⟩
  rw [State.onDev_dev, mode_seal]
/-- Configure as a boot reached it, or the Lockout that follows: O13's clause of a provisioned part, from the boot's result (R45, R348). -/
theorem exec_bootComplete_provisioned {t : State} (hm : s.dev.mode = 2)
    (ht : s.boot aOk bOk bad torn.toNat outBad.toNat copyBad.toNat r1.toNat r2.toNat tasks classes = t) (h4 : t.dev.mode = 4) :
    ∃ u, exec (.bootComplete aOk bOk bad torn outBad copyBad r1 r2 tasks classes) s = .next u ∧ (u.dev.mode = 4 ∨ u.dev.mode = 9) ∧
      u.backup = t.backup ∧ (t.dev.saf.causes = [] → u.dev.mode = 4) ∧ u.fuses = t.fuses :=
  ⟨_, exec_bootComplete_configure hm ht h4, bootLockout_absent_mode h4, State.onDev_backup _ _, bootLockout_absent_without_cause h4, State.onDev_fuses _ _⟩
/-- The boot of a provisioned part from an image that verifies (R45, R447). -/
theorem bootComplete_provisioned (hm : s.dev.mode = 2) (hs : s.resetSource ≠ 5) (hb : s.dev.sys.bootSel ≠ 0)
    (ht : tryBoot s.fuses s.dev.bootOrder [] = (some (slot, img), codes)) (hp : s.fuses.provisioned = true) :
    ∃ t, exec (.bootComplete aOk bOk bad torn outBad copyBad r1 r2 tasks classes) s = .next t ∧ (t.dev.mode = 4 ∨ t.dev.mode = 9) ∧
      t.backup = s.backup ∧ (s.dev.saf.causes = [] → outBad = 0 → copyBad = 0 → r1 ≠ r2 → t.dev.mode = 4) ∧ t.fuses = s.fuses.afterBoot img := by
  rw [← bootOrder_announced] at ht
  obtain ⟨u, hu, hmode, hbackup, hfree, hfuses⟩ := exec_bootComplete_provisioned (aOk := aOk) (bOk := bOk) (bad := bad) (torn := torn) (outBad := outBad)
    (copyBad := copyBad) (r1 := r1) (r2 := r2) (tasks := tasks) (classes := classes) hm ((boot_verified hm hs hb ht).trans (if_neg (by simp [hp])))
    (configured_mode s)
  refine ⟨u, hu, hmode, hbackup, fun hc ho hk hr => hfree ?_, hfuses⟩
  subst ho hk
  exact (causes_configured s fun h => hr (BitVec.eq_of_toNat_eq h)).trans hc
end

/-! ## The release sequence (R500, R503) -/

/-- The backup domain after the release: the real-time clock counts on when it is valid and X32 runs. -/
def Backup.released (x32 : Bool) (sec sub : Nat) (b : Backup) : Backup :=
  let b : Backup := { b with rtcValid := b.rtcValid && x32 }
  let b : Backup := if b.rtcValid then { b with rtcSec := sec % 2 ^ 48, rtcSub := sub % 32768 } else b
  { b with cause := b.cause.map (fun c => { c with rtcValid := b.rtcValid }) }
/-- The line time that a backup domain gives: its clock's, or 0 without a valid one (R503). -/
def Backup.lineTime (b : Backup) : LTime := if b.rtcValid then rtcToLine b.rtcSec b.rtcSub else 0
theorem counters_released (x32 : Bool) (sec sub : Nat) (b : Backup) : (b.released x32 sec sub).counters = b.counters := by
  unfold Backup.released
  dsimp only
  split <;> rfl
theorem rtcValid_released (x32 : Bool) (sec sub : Nat) (b : Backup) : (b.released x32 sec sub).rtcValid = (b.rtcValid && x32) := by
  unfold Backup.released
  dsimp only
  split <;> rfl
theorem lineTime_released {sec sub : Nat} (hsec : sec < 2 ^ 48) (hsub : sub < 32768) (x32 : Bool) (b : Backup) :
    (b.released x32 sec sub).lineTime = if b.rtcValid && x32 then rtcToLine sec sub else 0 := by
  rw [Backup.lineTime, rtcValid_released]
  refine ite_congr rfl (fun hv => ?_) (fun _ => rfl)
  simp only [Backup.released, if_pos hv, Nat.mod_eq_of_lt hsec, Nat.mod_eq_of_lt hsub]

/-! The stages of the release, as `State.release` runs them (`release_runs`). -/

/-- Straps, line time and the PUF's secret are taken. -/
def Dev.strapped (straps : Nat) (t : LTime) (f : Fuses) (d : Dev) : Dev := { d with
  sys := { d.sys with bootSel := straps % 4, pairEnd := bitAt straps 2, rtcAt := (t : Int) }
  ltm := { d.ltm with now := t }
  sec := { d.sec with idSecret := Config.pufSecret f.pufHelper } }
/-- Boot is shown, with its cause, its time, the end of the pair and the grade. -/
def Dev.showBoot (why straps : Nat) (t : LTime) (f : Fuses) (d : Dev) : Dev :=
  let d := (((d.set SYS_MODE.MODE 2).set SYS_MODE.PREV_MODE 1).set SYS_MODE_CAUSE.CAUSE why).set SYS_MODE.HEAD_END (flag (bitAt straps 2))
  (d.wr64 SYS_MODE_TIME_LO (t / 65536 % 2 ^ 64)).set SYS_ID.GRADE f.grade
/-- The backup domain is shown: tally, last cause, clock. -/
def Dev.showBackup (b : Backup) (src : Nat) (f : Fuses) (d : Dev) : Dev :=
  let c := b.cause
  let d := ((d.showTally b).set RST_CAUSE.SOURCE (if c.isSome then src else 0xF)).set RST_CAUSE.DETAIL ((c.map (·.detail)).getD 0)
  let d := (d.set RST_CAUSE.TIME_VALID (flag ((c.map (·.timeValid)).getD false))).wr64 RST_CAUSE_TIME_LO (((c.map (·.time)).getD 0) / 65536 % 2 ^ 64)
  ((d.set RST_CTRL.HOT_ACTION (flag f.hotAction)).set RST_STATUS.BACKUP_LOST (flag (src == 0))).set RST_RTC_SUB.VALID (flag b.rtcValid)
/-- Supplies, references and I/O banks are shown, and the PLLs and cores of Boot run. -/
def Dev.showSupplies (vmon levels refs : Nat) (d : Dev) : Dev :=
  let d := (d.wr RST_VMON (vmon % 2 ^ 17)).wr CLK_REFMON (refs % 16)
  let d := d.forN 8 (fun n d => (d.set (PIN_BANK.POWERED n) (flag (bitAt vmon (8 + n)))).set (PIN_BANK.LEVEL n) (flag (bitAt levels n)))
  ((d.runPlls 2).set CLK_PLL.LOCKED 9).runCores 2
/-- The fuses are shown, and the last security violation. -/
def Dev.showSecurity (f : Fuses) (violation : Nat) (d : Dev) : Dev :=
  let d := ((d.showFuses f).set SEC_STATUS.PROVISIONED (flag f.provisioned)).set SEC_STATUS.DEBUG_LOCK (flag f.debugLock)
  d.set SEC_STATUS.LAST_VIOLATION violation
/-- The safety channels that pass their self-tests are active, the others fail (R319). -/
def Dev.selfTested (passed : Nat) (d : Dev) : Dev :=
  let d := d.set SAF_STATUS.CH_ACTIVE (passed % 8)
  d.forN 3 (fun n d => d.when (!bitAt passed n) (Dev.failChannel n 3))
/-- The events of the release: a cleared backup domain, a clock that is no longer valid, the change of mode. -/
def Dev.postRelease (cleared lost : Bool) (why : Nat) (d : Dev) : Dev :=
  let d := d.when cleared (Dev.post 0x0010 0x0014 [0])
  let d := d.when lost (Dev.post 0x0010 0x0014 (leBytes 1 1))
  d.post 0 1 (modeChangeData 2 1 why 0 none none false)
/-- The device part after the release, from the backup domain that the release leaves. -/
def State.releasedDev (straps vmon levels refs passed : Nat) (b : Backup) (s : State) : Dev :=
  let src := (s.backup.cause.map (·.source)).getD 0xF
  let why := if src ≤ 1 then 1 else 2
  let d := (s.dev.strapped straps b.lineTime s.fuses).showBoot why straps b.lineTime s.fuses
  let d := (d.showBackup b src s.fuses).showSupplies vmon levels refs
  let d := (d.showSecurity s.fuses (if src = 5 then (b.cause.map (·.detail)).getD 0 else 0)).selfTested passed
  d.postRelease (src == 0) (s.backup.rtcValid && !bitAt refs 1) why

/-! None of the stages after the straps touches the system, line-time and safety parts, and only `showBoot` the mode. -/
theorem bootPart_showBoot (why straps : Nat) (t : LTime) (f : Fuses) (d : Dev) : (Dev.showBoot why straps t f d).bootPart = d.bootPart := by
  rw [Dev.showBoot, bootPart_set, bootPart_wr64, bootPart_set, bootPart_set, bootPart_set, bootPart_set]
theorem bootPart_showBackup (b : Backup) (src : Nat) (f : Fuses) (d : Dev) : (Dev.showBackup b src f d).bootPart = d.bootPart := by
  rw [Dev.showBackup, bootPart_set, bootPart_set, bootPart_set, bootPart_wr64, bootPart_set, bootPart_set, bootPart_set, bootPart_showTally]
theorem bootPart_showSupplies (vmon levels refs : Nat) (d : Dev) : (Dev.showSupplies vmon levels refs d).bootPart = d.bootPart := by
  rw [Dev.showSupplies, bootPart_runCores, bootPart_set, bootPart_runPlls, forN_keep Dev.bootPart, bootPart_wr, bootPart_wr]
  intro n e
  rw [bootPart_set, bootPart_set]
theorem bootPart_showFuses (f : Fuses) (d : Dev) : (Dev.showFuses f d).bootPart = d.bootPart := by
  rw [Dev.showFuses, bootPart_wr, bootPart_set]
theorem bootPart_showSecurity (f : Fuses) (v : Nat) (d : Dev) : (Dev.showSecurity f v d).bootPart = d.bootPart := by
  rw [Dev.showSecurity, bootPart_set, bootPart_set, bootPart_set, bootPart_showFuses]
theorem bootPart_selfTested (passed : Nat) (d : Dev) : (Dev.selfTested passed d).bootPart = d.bootPart := by
  rw [Dev.selfTested, forN_keep Dev.bootPart, bootPart_set]
  exact fun n e => when_keep Dev.bootPart _ _ (bootPart_failChannel n 3) e
theorem bootPart_postRelease (cleared lost : Bool) (why : Nat) (d : Dev) : (Dev.postRelease cleared lost why d).bootPart = d.bootPart := by
  rw [Dev.postRelease, bootPart_post, when_keep Dev.bootPart _ _ (bootPart_post _ _ _), when_keep Dev.bootPart _ _ (bootPart_post _ _ _)]
theorem bootPart_releasedDev (straps vmon levels refs passed : Nat) (b : Backup) (s : State) :
    (s.releasedDev straps vmon levels refs passed b).bootPart = (s.dev.strapped straps b.lineTime s.fuses).bootPart := by
  rw [State.releasedDev, bootPart_postRelease, bootPart_selfTested, bootPart_showSecurity, bootPart_showSupplies, bootPart_showBackup, bootPart_showBoot]

theorem showBoot_mode (why straps : Nat) (t : LTime) (f : Fuses) (d : Dev) : (Dev.showBoot why straps t f d).mode = 2 := by
  unfold Dev.showBoot Dev.mode
  dsimp only
  rw [Dev.get_set_other _ _ _ _ (by decide) (by decide)]
  change (Dev.wr64 _ _ _).mode = 2
  rw [mode_of_rd _ _ (mode_wr64_far _ _ _ (by decide))]
  unfold Dev.mode
  rw [Dev.get_set_other _ _ _ _ (by decide) (by decide), Dev.get_set_other _ _ _ _ (by decide) (by decide), Dev.get_set_other _ _ _ _ (by decide) (by decide),
    Dev.get_set_same _ _ _ (by decide)]
  rfl
theorem mode_showBackup (b : Backup) (src : Nat) (f : Fuses) (d : Dev) : (Dev.showBackup b src f d).rd SYS_MODE = d.rd SYS_MODE := by
  rw [Dev.showBackup, mode_set_far _ _ _ (by decide), mode_set_far _ _ _ (by decide), mode_set_far _ _ _ (by decide), mode_wr64_far _ _ _ (by decide),
    mode_set_far _ _ _ (by decide), mode_set_far _ _ _ (by decide), mode_set_far _ _ _ (by decide), mode_showTally]
theorem pinBank_far (n : Nat) : 4 < PIN_BANK n := by
  unfold PIN_BANK
  omega
theorem mode_showSupplies (vmon levels refs : Nat) (d : Dev) : (Dev.showSupplies vmon levels refs d).rd SYS_MODE = d.rd SYS_MODE := by
  rw [Dev.showSupplies, mode_runCores, mode_set_far _ _ _ (by decide), mode_runPlls, forN_keep (fun d => d.rd SYS_MODE), mode_wr_far _ _ _ (by decide),
    mode_wr_far _ _ _ (by decide)]
  intro n e
  rw [mode_set_far _ _ _ (pinBank_far n), mode_set_far _ _ _ (pinBank_far n)]
theorem mode_showSecurity (f : Fuses) (v : Nat) (d : Dev) : (Dev.showSecurity f v d).rd SYS_MODE = d.rd SYS_MODE := by
  rw [Dev.showSecurity, mode_set_far _ _ _ (by decide), mode_set_far _ _ _ (by decide), mode_set_far _ _ _ (by decide), mode_showFuses]
theorem mode_selfTested (passed : Nat) (d : Dev) : (Dev.selfTested passed d).rd SYS_MODE = d.rd SYS_MODE := by
  rw [Dev.selfTested, forN_keep (fun d => d.rd SYS_MODE), mode_set_far _ _ _ (by decide)]
  exact fun n e => when_keep (fun d => d.rd SYS_MODE) _ _ (mode_failChannel n 3) e
theorem rd_postRelease (cleared lost : Bool) (why : Nat) (d : Dev) (a : Nat) : (Dev.postRelease cleared lost why d).rd a = d.rd a := by
  rw [Dev.postRelease, Dev.rd_post, when_keep (fun d => d.rd a) _ _ (fun _ => Dev.rd_post _ _ _ _ _),
    when_keep (fun d => d.rd a) _ _ (fun _ => Dev.rd_post _ _ _ _ _)]
theorem releasedDev_mode (straps vmon levels refs passed : Nat) (b : Backup) (s : State) : (s.releasedDev straps vmon levels refs passed b).mode = 2 := by
  rw [State.releasedDev, mode_of_rd _ _ (rd_postRelease _ _ _ _ _), mode_of_rd _ _ (mode_selfTested _ _), mode_of_rd _ _ (mode_showSecurity _ _ _),
    mode_of_rd _ _ (mode_showSupplies _ _ _ _), mode_of_rd _ _ (mode_showBackup _ _ _ _), showBoot_mode]
/-- All three channels pass: none fails, and all are active. -/
theorem selfTested_all (d : Dev) : (Dev.selfTested 7 d).get SAF_STATUS.CH_ACTIVE = 7 := Dev.get_set_same SAF_STATUS.CH_ACTIVE 7 d (by decide)
theorem releasedDev_channels (straps vmon levels refs : Nat) (b : Backup) (s : State) :
    (s.releasedDev straps vmon levels refs 7 b).get SAF_STATUS.CH_ACTIVE = 7 := by
  rw [State.releasedDev, Dev.get, rd_postRelease]
  exact selfTested_all _

section
variable {straps vmon levels refs passed sec sub : Nat} {s : State}
theorem release_elsewhere (h : s.dev.mode ≠ 1 ∨ s.dev.sys.asserted ≠ []) : s.release straps vmon levels refs passed sec sub = s := by
  refine if_pos ?_
  rcases h with h | h <;> simp [h]
theorem release_runs (hm : s.dev.mode = 1) (ha : s.dev.sys.asserted = []) : s.release straps vmon levels refs passed sec sub =
    { s with backup := s.backup.released (bitAt refs 1) sec sub
             dev := s.releasedDev straps vmon levels refs passed (s.backup.released (bitAt refs 1) sec sub) } := by
  unfold State.release
  rw [if_neg (by simp [hm, ha])]
  rfl
end

section
variable {straps : BitVec 3} {vmon : BitVec 17} {levels : BitVec 8} {refs : BitVec 4} {passed : BitVec 3} {sec : BitVec 48} {sub : BitVec 15} {s : State}
theorem exec_resetRelease_elsewhere (h : s.dev.mode ≠ 1 ∨ s.dev.sys.asserted ≠ []) :
    exec (.resetRelease straps vmon levels refs passed sec sub) s = .next s :=
  congrArg Host.Outcome.next (release_elsewhere h)
/-- The release takes Reset to Boot (R500, R503). -/
theorem exec_resetRelease (hm : s.dev.mode = 1) (ha : s.dev.sys.asserted = []) :
    ∃ t, exec (.resetRelease straps vmon levels refs passed sec sub) s = .next t ∧ t.dev.mode = 2 ∧ t.dev.sys.bootSel = straps.toNat % 4 ∧
      t.dev.sys.pairEnd = bitAt straps.toNat 2 ∧ t.fuses = s.fuses ∧ t.backup.counters = s.backup.counters ∧
      t.dev.ltm.now = (if s.backup.rtcValid && bitAt refs.toNat 1 then rtcToLine sec.toNat sub.toNat else 0) ∧
      (passed = 7 → t.dev.get SAF_STATUS.CH_ACTIVE = 7) := by
  have hkept := bootPart_releasedDev straps.toNat vmon.toNat levels.toNat refs.toNat passed.toNat (s.backup.released (bitAt refs.toNat 1) sec.toNat sub.toNat) s
  have hsys := sys_of_bootPart hkept
  have hltm := ltm_of_bootPart hkept
  refine ⟨_, congrArg Host.Outcome.next (release_runs hm ha), releasedDev_mode _ _ _ _ _ _ _, congrArg Sys.bootSel hsys, congrArg Sys.pairEnd hsys, rfl,
    counters_released _ _ _ _, (congrArg Ltm.now hltm).trans (lineTime_released sec.isLt sub.isLt _ _), fun hp => ?_⟩
  subst hp
  exact releasedDev_channels _ _ _ _ _ _
end

/-! ## DRAM training (R37, R501) -/

/-- A package whose partition does not fit the DRAM is dropped (R37). -/
def Dev.dropMisfit (d : Dev) : Dev :=
  match d.sys.package with
  | some k => if d.partitionOk k then d else Dev.showPlanned { d with sys := { d.sys with package := none }, cyc := { d.cyc with working := none } }
  | none => d
theorem dropMisfit_none {d : Dev} (h : d.sys.package = none) : d.dropMisfit = d := by rw [Dev.dropMisfit, h]
theorem dropMisfit_fits {d : Dev} {k : Package} (h : d.sys.package = some k) (hk : d.partitionOk k = true) : d.dropMisfit = d := by
  rw [Dev.dropMisfit, h]
  exact if_pos hk
theorem dropMisfit_misfit {d : Dev} {k : Package} (h : d.sys.package = some k) (hk : d.partitionOk k = false) :
    d.dropMisfit = Dev.showPlanned { d with sys := { d.sys with package := none }, cyc := { d.cyc with working := none } } := by
  rw [Dev.dropMisfit, h]
  exact if_neg (by simp [hk])

section
variable {d : Dev} {gib : Nat} {ctxs : List MmuSetup}
theorem dramTrained_elsewhere (h : d.mode < 4 ∨ d.on RST_STATUS.DRAM_READY = true) : Dev.dramTrained gib ctxs d = d := if_pos (by simpa using h)
theorem dramTrained_small (hm : 4 ≤ d.mode) (hr : d.on RST_STATUS.DRAM_READY = false) (hg : gib < 4) :
    Dev.dramTrained gib ctxs d = { d with sys := { d.sys with dramGiB := gib } } := by
  rw [Dev.dramTrained, if_neg (by simp [hr]; omega)]
  exact if_pos hg
theorem dramTrained_enough (hm : 4 ≤ d.mode) (hr : d.on RST_STATUS.DRAM_READY = false) (hg : 4 ≤ gib) :
    Dev.dramTrained gib ctxs d = ((Dev.set RST_STATUS.DRAM_READY 1 { d with sys := { d.sys with dramGiB := gib } }).createContexts ctxs).dropMisfit := by
  rw [Dev.dramTrained, if_neg (by simp [hr]; omega)]
  exact if_neg (by omega)
end

theorem exec_dramTrained {s : State} {gib : Fin 33} {ctxs : List MmuSetup} {e : Dev} (h : Dev.dramTrained gib.val ctxs s.dev = e) :
    exec (.dramTrained gib ctxs) s = .next (s.onDev (fun _ => e)) := congrArg Host.Outcome.next (State.onDev_congr h)

end Sys2Proof.Machine

open Sys2Proof Sys2Proof.Machine

/-- Settles O13, each clause by the equations of the function that it is about: `State.release` (R500), `State.boot` with the lockout that a cause of
Boot brings (R45, R446 to R448), and `Dev.dramTrained` (R501). -/
theorem releaseAndBootRun : Obligations.ReleaseAndBootRun := by
  unfold Obligations.ReleaseAndBootRun
  refine ⟨fun s => ⟨fun h => congrArg Host.Outcome.next (if_pos h), fun h => congrArg Host.Outcome.next (if_neg h)⟩,
    fun s straps vmon levels refs passed sec sub => ⟨exec_resetRelease, exec_resetRelease_elsewhere⟩,
    ?elsewhere, ?sealed, ?verified, ?dramKept, ?dram, ?pin⟩
  case elsewhere =>
    intro s aOk bOk bad torn outBad copyBad r1 r2 tasks classes hm
    exact (exec_bootComplete_elsewhere (Or.inl hm)).trans (congrArg Host.Outcome.next (boot_elsewhere hm))
  case sealed =>
    rintro s aOk bOk bad torn outBad copyBad r1 r2 tasks classes d1 hm rfl
    exact ⟨fun hs => exec_bootComplete_sealed (boot_violation hm hs), fun hs hb => exec_bootComplete_sealed (boot_recovery hm hs hb),
      fun codes hs hb ht => exec_bootComplete_sealed (boot_unverified hm hs hb ht)⟩
  case verified =>
    intro s aOk bOk bad torn outBad copyBad r1 r2 tasks classes slot img codes hm hs hb ht
    refine ⟨bootComplete_unprovisioned hm hs hb ht, fun hp => ?_⟩
    obtain ⟨t, hexec, hmode, hbackup, hfree, hfuses⟩ := bootComplete_provisioned hm hs hb ht hp
    exact ⟨t, hexec, hmode, hbackup, hfree, fun h => hfuses.trans (Fuses.afterBoot_kept h), fun h hv => hfuses.trans (Fuses.afterBoot_advanced h hv)⟩
  case dramKept =>
    intro s gib ctxs h
    exact congrArg Host.Outcome.next (State.onDev_of_fixed (dramTrained_elsewhere h))
  case dram =>
    rintro s gib ctxs d1 hm hr rfl
    refine ⟨fun hg => exec_dramTrained (dramTrained_small hm hr hg), ?_⟩
    rintro d2 hg rfl
    have trained := dramTrained_enough (ctxs := ctxs) hm hr hg
    exact ⟨fun h => exec_dramTrained (trained.trans (dropMisfit_none h)), fun k h hk => exec_dramTrained (trained.trans (dropMisfit_fits h hk)),
      fun k h hk => exec_dramTrained (trained.trans (dropMisfit_misfit h hk))⟩
  case pin =>
    intro s hm
    exact congrArg Host.Outcome.next ((if_neg hm).trans (if_neg (by decide)))
end

section
/-! PROOFS. The network opcodes (R94, R109, R112, R113, R409, R410): their outcomes on an accepted packet, and O27. -/
namespace Sys2Proof.Machine

section
variable (p : Packet) (ref : PktRef) (d : Dev)

/-! ## LOAD_SCHEDULE (R94, R409, R410) -/

/-- The status of a LOAD_SCHEDULE's image, read as `bs`: 0 when it passes every check. -/
def loadStatus (p : Packet) (bs : List Byte) (d : Dev) : Nat :=
  imageStatus ((d.sys.package.map (·.digests)).getD []) (par p 30 4) (padTo (par p 30 4) bs)

section
variable (bs : List Byte) (hb : p.host = some bs)
include hb

theorem loadSchedule_read : opLoadSchedule.run p ref d =
    if loadStatus p bs d ≠ 0 then (.bad (loadStatus p bs d), d) else if d.cyc.countdown.isSome then (.bad stBUSY, d)
    else d.logPacket 0x03 (tableSize (padTo (par p 30 4) bs).length) (.schedule (padTo (par p 30 4) bs)) ref := by
  simp only [opLoadSchedule]
  rw [hostRead_ok _ _ _ _ _ hb]
  rfl
theorem loadSchedule_fails (h : loadStatus p bs d ≠ 0) : opLoadSchedule.run p ref d = (.bad (loadStatus p bs d), d) := by
  rw [loadSchedule_read p ref d bs hb, if_pos h]
theorem loadSchedule_busy (h : loadStatus p bs d = 0) (hc : d.cyc.countdown ≠ none) : opLoadSchedule.run p ref d = (.bad stBUSY, d) := by
  rw [loadSchedule_read p ref d bs hb, if_neg (not_not_intro h), if_pos (Option.isSome_iff_ne_none.mpr hc)]
theorem loadSchedule_logged (h : loadStatus p bs d = 0) (hc : d.cyc.countdown = none) : opLoadSchedule.run p ref d =
    d.logPacket 0x03 (tableSize (padTo (par p 30 4) bs).length) (.schedule (padTo (par p 30 4) bs)) ref := by
  rw [loadSchedule_read p ref d bs hb, if_neg (not_not_intro h), if_neg (by simp [hc])]

end

/-! ## GET_SEGMENT_STATUS (R409) -/

theorem getSegmentStatus_answers (n : Nat) (h : portOf (par p 22 1) = some n) : opGetSegmentStatus.run p ref d =
    (.done stOK (leBytes 4 (d.rd (NLS_LINK_STATUS n)) ++ leBytes 4 (d.rd (NLS_SCHED_STATUS n)) ++
      leBytes 8 (((List.range 64).map (fun k => if d.on (NLS_POS_W2.PRESENT n k) then 2 ^ k else 0)).sum)), d) := by
  simp only [opGetSegmentStatus, h]
theorem getSegmentStatus_noPort (h : portOf (par p 22 1) = none) : opGetSegmentStatus.run p ref d = (.bad stBAD_PARAMETER, d) := by
  simp only [opGetSegmentStatus, h]

/-! ## GRANT_PITCH (R112, R409) -/

/-- The claim of a position that the host was asked for within the last 64 cycles. -/
def Dev.askedClaim (d : Dev) (n pos : Nat) : Option Claim :=
  (d.port n).posted.find? (fun c => c.pos == pos && decide (d.cyclesSince c.cycle ≤ 64))
/-- The pitch that a GRANT_PITCH grants a claim: the named one where it fits, or the lowest that fits. -/
def grantedPitch (p : Packet) (c : Claim) (d : Dev) : Option Nat :=
  if par p 24 1 = 0xFF then (List.range 32).find? (fun k => d.pitchFits (par p 22 1) k (par p 23 1) c.req)
  else if d.pitchFits (par p 22 1) (par p 24 1) (par p 23 1) c.req then some (par p 24 1) else none

theorem grantPitch_unasked (h : 8 ≤ par p 22 1 ∨ 64 ≤ par p 23 1 ∨ d.askedClaim (par p 22 1) (par p 23 1) = none) :
    opGrantPitch.run p ref d = (.bad stBAD_PARAMETER, d) := by
  have unasked : (if par p 22 1 < 8 && par p 23 1 < 64 then d.askedClaim (par p 22 1) (par p 23 1) else none) = none := by
    rcases h with h | h | h
    · exact if_neg (by simp; omega)
    · exact if_neg (by simp; omega)
    · rw [h, ite_self]
  unfold Dev.askedClaim at unasked
  simp only [opGrantPitch, unasked]

section
variable (c : Claim) (hn : par p 22 1 < 8) (hp : par p 23 1 < 64) (hc : d.askedClaim (par p 22 1) (par p 23 1) = some c)
include hn hp hc

theorem grantPitch_asked : opGrantPitch.run p ref d =
    if bitAt (par p 25 1) 0 then d.logPacket 0x01 68 (.refuse (par p 22 1) (par p 23 1) 3 c.req) ref
    else match grantedPitch p c d with
      | some k => d.logPacket 0x01 68 (.grant (par p 22 1) (par p 23 1) k c.req) ref
      | none => (.bad stBAD_PARAMETER, d) := by
  have asked : (if par p 22 1 < 8 && par p 23 1 < 64 then d.askedClaim (par p 22 1) (par p 23 1) else none) = some c := by
    rw [if_pos (by simp [hn, hp]), hc]
  unfold Dev.askedClaim at asked
  simp only [opGrantPitch, asked]
  rfl
theorem grantPitch_refuses (h : bitAt (par p 25 1) 0 = true) :
    opGrantPitch.run p ref d = d.logPacket 0x01 68 (.refuse (par p 22 1) (par p 23 1) 3 c.req) ref := by
  rw [grantPitch_asked p ref d c hn hp hc, if_pos h]
theorem grantPitch_grants (h : bitAt (par p 25 1) 0 = false) (k : Nat) (hk : grantedPitch p c d = some k) :
    opGrantPitch.run p ref d = d.logPacket 0x01 68 (.grant (par p 22 1) (par p 23 1) k c.req) ref := by
  rw [grantPitch_asked p ref d c hn hp hc, if_neg (by simp [h]), hk]
theorem grantPitch_noPitch (h : bitAt (par p 25 1) 0 = false) (hk : grantedPitch p c d = none) :
    opGrantPitch.run p ref d = (.bad stBAD_PARAMETER, d) := by
  rw [grantPitch_asked p ref d c hn hp hc, if_neg (by simp [h]), hk]

end

section
variable {p d} {c : Claim}
theorem grantedPitch_lowest (h : par p 24 1 = 0xFF) :
    grantedPitch p c d = (List.range 32).find? (fun k => d.pitchFits (par p 22 1) k (par p 23 1) c.req) := if_pos h
theorem grantedPitch_named (h : par p 24 1 ≠ 0xFF) (hf : d.pitchFits (par p 22 1) (par p 24 1) (par p 23 1) c.req = true) :
    grantedPitch p c d = some (par p 24 1) := (if_neg h).trans (if_pos hf)
theorem grantedPitch_misfit (h : par p 24 1 ≠ 0xFF) (hf : d.pitchFits (par p 22 1) (par p 24 1) (par p 23 1) c.req = false) :
    grantedPitch p c d = none := (if_neg h).trans (if_neg (by simp [hf]))
end

/-! ## REVOKE_PITCH and FENCE_NODE (R109, R113, R409) -/

theorem revokePitch_logged (h : par p 22 1 < 8 ∧ par p 23 1 < 32 ∧ d.get (NLS_PITCH.STATE (par p 22 1) (par p 23 1)) = 3) :
    opRevokePitch.run p ref d = d.logPacket 0x01 68 (.revoke (par p 22 1) (par p 23 1) 1 []) ref := by
  obtain ⟨hn, hk, hs⟩ := h
  exact if_pos (by simp [hn, hk, hs])
theorem revokePitch_unheld (h : 8 ≤ par p 22 1 ∨ 32 ≤ par p 23 1 ∨ d.get (NLS_PITCH.STATE (par p 22 1) (par p 23 1)) ≠ 3) :
    opRevokePitch.run p ref d = (.bad stBAD_PARAMETER, d) := by
  refine if_neg ?_
  simp only [Bool.and_eq_true, decide_eq_true_eq]
  omega
theorem fenceNode_logged (h : par p 22 1 < 8 ∧ par p 23 1 < 64 ∧ par p 24 1 ≤ 1) : opFenceNode.run p ref d =
    d.logPacket 0x01 68 (.fence (par p 22 1) (par p 23 1) (par p 24 1 == 1) false) ref := by
  obtain ⟨hn, hk, hr⟩ := h
  exact if_pos (by simp [hn, hk, hr])
theorem fenceNode_badRange (h : 8 ≤ par p 22 1 ∨ 64 ≤ par p 23 1 ∨ 1 < par p 24 1) : opFenceNode.run p ref d = (.bad stBAD_PARAMETER, d) := by
  refine if_neg ?_
  simp only [Bool.and_eq_true, decide_eq_true_eq]
  omega

/-! ## SEND_ASYNC (R409) -/

/-- Channel bits of the flags that name no channel or one: below 6 the two bits are not both set, and the flags without their lowest bit are
the channel code. -/
theorem sendAsync_channels {fl : Nat} (h : fl < 6) :
    (bitAt fl 1 && bitAt fl 2) = false ∧ (if bitAt fl 1 then 1 else if bitAt fl 2 then 2 else 0) = fl / 2 := by
  interval_cases fl <;> decide
theorem sendAsync_bothChannels {fl : Nat} (h : 6 ≤ fl) (h8 : fl < 8) : (bitAt fl 1 && bitAt fl 2) = true := by
  interval_cases fl <;> decide

theorem sendAsync_noPort (h : portOf (par p 22 1) = none) : opSendAsync.run p ref d = (.bad stBAD_PARAMETER, d) := by
  simp only [opSendAsync, h]

section
variable (n : Nat) (h : portOf (par p 22 1) = some n)
include h

theorem sendAsync_badRange (hr : 6 ≤ par p 23 1 ∨ 2048 < par p 28 2 ∨ (par p 38 8 ≠ 0 ∧ (par p 48 2 = 0 ∨ 1000 < par p 48 2))) :
    opSendAsync.run p ref d = (.bad stBAD_PARAMETER, d) := by
  simp only [opSendAsync, h]
  refine if_pos ?_
  rcases hr with hf | hl | ⟨ha, ht⟩
  · rcases Nat.lt_or_ge (par p 23 1) 8 with h8 | h8
    · simp [sendAsync_bothChannels hf h8]
    · simp [h8]
  · simp [hl]
  · rcases ht with ht | ht <;> simp [ha, ht]
/-- The frame waits in its port's queue with the packet's tag, its channels and its time-stamp flag. -/
theorem sendAsync_queues (bs : List Byte) (hb : p.host = some bs) (hf : par p 23 1 < 6) (hl : par p 28 2 ≤ 2048)
    (ht : par p 38 8 = 0 ∨ (1 ≤ par p 48 2 ∧ par p 48 2 ≤ 1000)) : opSendAsync.run p ref d =
      (.later, d.setPort n { d.port n with queue := (d.port n).queue ++ [⟨0x08, par p 24 3, padTo (par p 28 2) bs, par p 23 1 / 2, bitAt (par p 23 1) 0,
        some ref, p.tag.toNat, par p 38 8, par p 46 2, par p 48 2, some p⟩] }) := by
  obtain ⟨one, channels⟩ := sendAsync_channels hf
  simp only [opSendAsync, h]
  rw [if_neg, hostRead_ok _ _ _ _ _ hb, channels]
  simp only [one, Bool.or_false, Bool.or_eq_true, Bool.and_eq_true, decide_eq_true_eq]
  omega

end

/-! ## GET_LINK_STATS (R409) -/

/-- The register spans of a port that GET_LINK_STATS writes: offset and bytes. -/
def linkSpans : List (Nat × Nat) := [(0x000, 0x40), (0x100, 0x40), (0x400, 0x400), (0x800, 0x400)]
/-- The offsets of a port's registers in those spans. -/
def linkOffsets (n : Nat) : List Nat := linkSpans.flatMap (fun x => (List.range (x.2 / 4)).map (fun i => NLS_LINK_CTRL n + x.1 + 4 * i))
/-- The device with the spans of port `n` written to the host. -/
def Dev.statsSent (p : Packet) (n : Nat) (d : Dev) : Dev :=
  d.emit (.hostWrite (par p 24 8) (d.outBytes p (linkSpans.flatMap (fun x => d.regBytes (NLS_LINK_CTRL n + x.1) x.2))))

theorem getLinkStats_noPort (h : portOf (par p 22 1) = none) : opGetLinkStats.run p ref d = (.bad stBAD_PARAMETER, d) := by
  simp only [opGetLinkStats, h]

section
variable (n : Nat) (h : portOf (par p 22 1) = some n) (bs : List Byte) (hb : p.host = some bs)
include h hb

theorem getLinkStats_writes : opGetLinkStats.run p ref d =
    if bitAt (par p 23 1) 0 then (.done stOK [], (d.statsSent p n).forEach (linkOffsets n) Dev.clearRc) else (.done stOK [], d.statsSent p n) := by
  simp only [opGetLinkStats, h]
  rw [hostWrite_ok _ _ _ _ _ _ hb]
  rfl
theorem getLinkStats_keeps (hc : bitAt (par p 23 1) 0 = false) : opGetLinkStats.run p ref d = (.done stOK [], d.statsSent p n) := by
  rw [getLinkStats_writes p ref d n h bs hb, if_neg (by simp [hc])]
theorem getLinkStats_clears (hc : bitAt (par p 23 1) 0 = true) :
    opGetLinkStats.run p ref d = (.done stOK [], (d.statsSent p n).forEach (linkOffsets n) Dev.clearRc) := by
  rw [getLinkStats_writes p ref d n h bs hb, if_pos hc]

end

end

end Sys2Proof.Machine

open Sys2Proof Sys2Proof.Machine

/-- Settles O27: each clause is an equation of its opcode's meaning on an accepted packet (R94, R109, R112, R113, R409, R410). -/
theorem networkPacketsTakeEffect : Obligations.NetworkPacketsTakeEffect := by
  refine ⟨?load, fun s p p' d' n r h => r.next (congrArg _ (getSegmentStatus_answers _ _ _ n h)),
    fun s p p' d' r h => r.next (congrArg _ (getSegmentStatus_noPort _ _ _ h)), fun s p p' d' r h => r.next (congrArg _ (sendAsync_noPort _ _ _ h)),
    fun s p p' d' r h => r.next (congrArg _ (getLinkStats_noPort _ _ _ h)), ?grant,
    fun s p p' d' r h => r.next (congrArg _ (grantPitch_unasked _ _ _ h)),
    fun s p p' d' r => ⟨fun h => r.next (congrArg _ (revokePitch_logged _ _ _ h)), fun h => r.next (congrArg _ (revokePitch_unheld _ _ _ h))⟩,
    fun s p p' d' n bs r h => ⟨fun hf hl ht hb => r.next (congrArg _ (sendAsync_queues _ _ _ n h bs hb hf hl ht)),
      fun hr => r.next (congrArg _ (sendAsync_badRange _ _ _ n h hr))⟩, ?stats,
    fun s p p' d' r => ⟨fun h => r.next (congrArg _ (fenceNode_logged _ _ _ h)), fun h => r.next (congrArg _ (fenceNode_badRange _ _ _ h))⟩⟩
  case load =>
    exact fun s p p' d' bs r hb => ⟨fun h hc => r.next (congrArg _ (loadSchedule_logged _ _ _ bs hb h hc)),
      fun h hc => r.next (congrArg _ (loadSchedule_busy _ _ _ bs hb h hc)), fun h => r.next (congrArg _ (loadSchedule_fails _ _ _ bs hb h))⟩
  case grant =>
    rintro s p p' d' _ _ c r rfl rfl hn hp hc
    exact ⟨fun h => r.next (congrArg _ (grantPitch_refuses _ _ _ c hn hp hc h)),
      fun h h24 hf => r.next (congrArg _ (grantPitch_grants _ _ _ c hn hp hc h _ (grantedPitch_named h24 hf))),
      fun h h24 hf => r.next (congrArg _ (grantPitch_noPitch _ _ _ c hn hp hc h (grantedPitch_misfit h24 hf))),
      fun k h h24 hk => r.next (congrArg _ (grantPitch_grants _ _ _ c hn hp hc h k ((grantedPitch_lowest h24).trans hk))),
      fun h h24 hk => r.next (congrArg _ (grantPitch_noPitch _ _ _ c hn hp hc h ((grantedPitch_lowest h24).trans hk)))⟩
  case stats =>
    intro s p p' d' n bs w d1 r h hb hw h1
    obtain rfl : w = linkSpans := hw
    obtain rfl : d1 = d'.statsSent p' n := h1
    refine ⟨fun hc => r.next (congrArg _ (getLinkStats_keeps _ _ _ n h bs hb hc)), fun d2 hc h2 => r.next ?_⟩
    rw [getLinkStats_clears _ _ _ n h bs hb hc, answer_done, h2, linkOffsets]
end

section
/-! PROOFS. Claims, requests, acknowledgements and releases of a segment's nodes (R94, R97, R105, R109 to R113) and the reply of a SEND_ASYNC that never
comes (R409), and O26. -/
namespace Sys2Proof.Machine

/-- A command whose meaning agrees on the device part with another update answers with that update. -/
theorem next_of_dev {f g : Dev → Dev} {s : State} (h : f s.dev = g s.dev) : (Host.Outcome.next (s.onDev f) : Answer) = .next (s.onDev g) :=
  congrArg Host.Outcome.next (State.onDev_congr h)
/-- A command whose meaning leaves the device part as it was changes nothing. -/
theorem next_of_fixed {f : Dev → Dev} {s : State} (h : f s.dev = s.dev) : (Host.Outcome.next (s.onDev f) : Answer) = .next s :=
  congrArg Host.Outcome.next (State.onDev_of_fixed h)

/-! ## A condition flag set or cleared (R55) -/

theorem hasCond_cond (b : Nat) (v : Bool) (d : Dev) (hb : b < 32) : (Dev.cond b v d).hasCond b = v := by
  have shown : ∀ e : Dev, (e.wr SYS_COND (withBits (d.rd SYS_COND) b b (flag v))).hasCond b = v := by
    intro e
    rw [Dev.hasCond, Dev.rd_wr_same, bitAt_withBits_own _ _ _ hb]
    cases v <;> rfl
  have sticky : ∀ (x : Nat) (e : Dev), (e.wr SYS_COND_STICKY x).hasCond b = e.hasCond b := fun x e => by
    rw [Dev.hasCond, Dev.rd_wr_other _ _ _ _ (by decide), Dev.hasCond]
  unfold Dev.cond
  split
  case isTrue h => exact eq_of_beq h
  case isFalse h =>
    extract_lets d1 d2
    have h2 : d2.hasCond b = v := by
      unfold d2
      split
      · rw [sticky]; exact shown d
      · exact shown d
    split
    · exact h2
    · exact h2

/-! ## Claims (R111, R112) -/

section
variable (n pos : Nat) (req : List Byte) (d : Dev)

theorem pitchClaim_idle (h : d.cyc.running = false) : Dev.pitchClaim n pos req d = d := by simp [Dev.pitchClaim, h]

section
variable (hr : d.cyc.running = true) (e : Dev) (he : e = d.count (NLS_CLAIM_CNT.VALID n) 1)
include hr he

/-- While cycles run a claim counts; what follows is decided on the device with the count. -/
theorem pitchClaim_counts : Dev.pitchClaim n pos req d =
    if e.mode = 8 then e
    else if e.on (NLS_POS_W2.FENCED n pos) then
      (e.respond n pos 4 0xFF 0 req).post (portSource n) 0x010E (leBytes 1 pos ++ leBytes 1 4)
    else if e.ha 4 && !(e.port n).holders.any (fun h => h.2 == reqIdentity (padTo 24 req)) then
      (e.setPort n { e.port n with posted := (e.port n).posted.filter (fun x => x.pos != pos) ++ [⟨pos, padTo 24 req, d.cyc.count⟩] }).post (portSource n) 0x010B
        (leBytes 1 pos ++ reqIdentity req ++ leBytes 1 (fieldAt req 3 1) ++ leBytes 2 (fieldAt req 12 2) ++ leBytes 2 (fieldAt req 14 2))
    else e.setPort n { e.port n with claims := (e.port n).claims.filter (fun x => x.pos != pos) ++ [⟨pos, padTo 24 req, d.cyc.count⟩] } := by
  subst he
  exact if_neg (by simp [hr])
theorem pitchClaim_shadow (hm : e.mode = 8) : Dev.pitchClaim n pos req d = e := by
  rw [pitchClaim_counts n pos req d hr e he, if_pos hm]
theorem pitchClaim_fenced (hm : e.mode ≠ 8) (hf : e.on (NLS_POS_W2.FENCED n pos) = true) : Dev.pitchClaim n pos req d =
    (e.respond n pos 4 0xFF 0 req).post (portSource n) 0x010E (leBytes 1 pos ++ leBytes 1 4) := by
  rw [pitchClaim_counts n pos req d hr e he, if_neg hm, if_pos hf]
theorem pitchClaim_waits (hm : e.mode ≠ 8) (hf : e.on (NLS_POS_W2.FENCED n pos) = false)
    (h : e.ha 4 = false ∨ (e.port n).holders.any (fun h => h.2 == reqIdentity (padTo 24 req)) = true) : Dev.pitchClaim n pos req d =
      e.setPort n { e.port n with claims := (e.port n).claims.filter (fun x => x.pos != pos) ++ [⟨pos, padTo 24 req, d.cyc.count⟩] } := by
  rw [pitchClaim_counts n pos req d hr e he, if_neg hm, if_neg (by simp [hf]), if_neg]
  rcases h with h | h <;> simp only [h, Bool.false_and, Bool.not_true, Bool.and_false, Bool.false_eq_true, not_false_eq_true]
theorem pitchClaim_posted (hm : e.mode ≠ 8) (hf : e.on (NLS_POS_W2.FENCED n pos) = false) (ha : e.ha 4 = true)
    (h : (e.port n).holders.any (fun h => h.2 == reqIdentity (padTo 24 req)) = false) : Dev.pitchClaim n pos req d =
      (e.setPort n { e.port n with posted := (e.port n).posted.filter (fun x => x.pos != pos) ++ [⟨pos, padTo 24 req, d.cyc.count⟩] }).post (portSource n) 0x010B
        (leBytes 1 pos ++ reqIdentity req ++ leBytes 1 (fieldAt req 3 1) ++ leBytes 2 (fieldAt req 12 2) ++ leBytes 2 (fieldAt req 14 2)) := by
  rw [pitchClaim_counts n pos req d hr e he, if_neg hm, if_neg (by simp [hf]), if_pos]
  simp only [ha, h, Bool.not_false, Bool.and_self]

end

/-! ## Schedule requests and leave requests (R97, R109, R113) -/

/-- Before cycles run and of a fenced position a request is not noted. -/
theorem request_unheard (h : d.cyc.running = false ∨ d.on (NLS_POS_W2.FENCED n pos) = true) :
    (!d.cyc.running || d.on (NLS_POS_W2.FENCED n pos)) = true := by
  rcases h with h | h <;> simp [h]
theorem request_heard (hr : d.cyc.running = true) (hf : d.on (NLS_POS_W2.FENCED n pos) = false) :
    ¬ (!d.cyc.running || d.on (NLS_POS_W2.FENCED n pos)) = true := by simp [hr, hf]

theorem scheduleRequest_unheard (h : d.cyc.running = false ∨ d.on (NLS_POS_W2.FENCED n pos) = true) : Dev.scheduleRequest n pos d = d :=
  if_pos (request_unheard n pos d h)
theorem leaveRequest_unheard (h : d.cyc.running = false ∨ d.on (NLS_POS_W2.FENCED n pos) = true) : Dev.leaveRequest n pos req d = d :=
  if_pos (request_unheard n pos d h)

section
variable (hr : d.cyc.running = true) (hf : d.on (NLS_POS_W2.FENCED n pos) = false) (e : Dev) (he : e = d.count (NLS_CLAIM_CNT.VALID n) 1)
include hr hf he

/-- The position is owed its schedule parts, once. -/
theorem scheduleRequest_owes : Dev.scheduleRequest n pos d =
    e.setPort n { e.port n with parts := (e.port n).parts ++ (if (e.port n).parts.contains pos then [] else [pos]) } := by
  subst he
  refine (if_neg (request_heard n pos d hr hf)).trans ?_
  dsimp only
  split
  · rw [List.append_nil]
  · rfl
theorem leaveRequest_logged (hm : e.mode ≠ 8) (k : Nat)
    (hk : (List.range 32).find? (fun k => e.get (NLS_PITCH.STATE n k) == 3 && e.get (NLS_PITCH.HOLDER n k) == pos) = some k) :
    Dev.leaveRequest n pos req d = e.logInput 0x01 68 (.revoke n k 0 (padTo 24 req)) none := by
  subst he
  refine (if_neg (request_heard n pos d hr hf)).trans ((if_neg hm).trans ?_)
  simp only [hk]
theorem leaveRequest_counted (h : e.mode = 8 ∨
    (List.range 32).find? (fun k => e.get (NLS_PITCH.STATE n k) == 3 && e.get (NLS_PITCH.HOLDER n k) == pos) = none) : Dev.leaveRequest n pos req d = e := by
  subst he
  refine (if_neg (request_heard n pos d hr hf)).trans ?_
  rcases h with hm | hk
  · exact if_pos hm
  · simp only [hk, ite_self]

end

/-! ## Acknowledgements of the pending generation (R94, R109) -/

variable (gen : Nat)

/-- Any other generation's acknowledgement, and a fenced position's, changes nothing. -/
theorem genAck_ignored (h : d.cyc.pending.map (fun g => g.num) ≠ some gen ∨ d.on (NLS_POS_W2.FENCED n pos) = true) : Dev.genAck n pos gen d = d := by
  cases hp : d.cyc.pending with
  | none => simp only [Dev.genAck, hp]
  | some g =>
    simp only [Dev.genAck, hp]
    refine if_neg ?_
    rcases h with h | h
    · have other : g.num ≠ gen := by simpa [hp] using h
      simp [other]
    · simp [h]
theorem genAck_noted (g : Generation) (hp : d.cyc.pending = some g) (hf : d.on (NLS_POS_W2.FENCED n pos) = false) (hg : g.num = gen)
    (a : Nat) (ha : a = if pos < 32 then NLS_GEN_ACK_LO n else NLS_GEN_ACK_HI n) :
    Dev.genAck n pos gen d = (d.wr a (withBits (d.rd a) (pos % 32) (pos % 32) 1)).set (NLS_POS_W2.GEN_ACK n pos) 1 := by
  subst ha
  simp only [Dev.genAck, hp]
  exact if_pos (by simp [hg, hf])
/-- The acknowledgement shows at the position and in the bit map of its half. -/
theorem genAck_shows (g : Generation) (hp : d.cyc.pending = some g) (hf : d.on (NLS_POS_W2.FENCED n pos) = false) (hg : g.num = gen) :
    (Dev.genAck n pos gen d).on (NLS_POS_W2.GEN_ACK n pos) = true ∧
      bitAt ((Dev.genAck n pos gen d).rd (if pos < 32 then NLS_GEN_ACK_LO n else NLS_GEN_ACK_HI n)) (pos % 32) = true := by
  have apart : (if pos < 32 then NLS_GEN_ACK_LO n else NLS_GEN_ACK_HI n) ≠ (NLS_POS_W2.GEN_ACK n pos).a := by
    simp only [NLS_GEN_ACK_LO, NLS_GEN_ACK_HI, NLS_POS_W2.GEN_ACK, NLS_POS_W2]
    split <;> omega
  rw [genAck_noted n pos d gen g hp hf hg _ rfl]
  constructor
  · rw [Dev.on, Dev.get_set_same _ _ _ (show 2 < 32 by decide)]
    rfl
  · rw [Dev.rd_set_other _ _ _ _ apart, Dev.rd_wr_same, bitAt_withBits_own _ _ _ (Nat.mod_lt _ (by decide))]
    rfl

end

/-! ## The release of a silent holder (R113) -/

section
variable (n k : Nat) (d : Dev)

theorem pitchSilence_logged (hs : d.get (NLS_PITCH.STATE n k) = 3) (hn : d.get (NLS_PITCH.SILENT n k) = 1000) (hm : d.mode ≠ 8)
    (hr : d.cyc.running = true) (hw : d.releaseWaits n k = false) : Dev.pitchSilence n k d = d.logInput 0x01 68 (.revoke n k 2 []) none :=
  if_pos (by simp [hs, hn, hm, hr, hw])
theorem pitchSilence_idle (h : d.get (NLS_PITCH.STATE n k) ≠ 3 ∨ d.get (NLS_PITCH.SILENT n k) ≠ 1000 ∨ d.mode = 8 ∨ d.cyc.running = false ∨
    d.releaseWaits n k = true) : Dev.pitchSilence n k d = d := by
  refine if_neg ?_
  rcases h with h | h | h | h | h <;> simp [h]

end

/-! ## SEGMENT_FAULT_CLEAR (R105) -/

/-- Whether a segment shows its fault. -/
def Dev.segFault (d : Dev) (n : Nat) : Bool := d.on (NLS_SEG_FAULT.SEGMENT_FAULT n)

theorem segFault_cleared_same (n : Nat) (d : Dev) : (d.set (NLS_SEG_FAULT.SEGMENT_FAULT n) 0).segFault n = false := by
  rw [Dev.segFault, Dev.on, Dev.get_set_same _ _ _ (show 0 < 32 by decide)]
  rfl
theorem segFault_cleared_other {n m : Nat} (h : m ≠ n) (d : Dev) : (d.set (NLS_SEG_FAULT.SEGMENT_FAULT n) 0).segFault m = d.segFault m := by
  have apart : (NLS_SEG_FAULT.SEGMENT_FAULT m).a ≠ (NLS_SEG_FAULT.SEGMENT_FAULT n).a := by
    simp only [NLS_SEG_FAULT.SEGMENT_FAULT, NLS_SEG_FAULT]
    omega
  rw [Dev.segFault, Dev.on, Dev.get_set_other _ _ _ _ (show 0 < 32 by decide) (.inl apart), Dev.segFault, Dev.on]
theorem segFault_cond (b : Nat) (v : Bool) (n : Nat) (d : Dev) : (Dev.cond b v d).segFault n = d.segFault n := by
  have h1 : (NLS_SEG_FAULT.SEGMENT_FAULT n).a ≠ SYS_COND := by simp only [NLS_SEG_FAULT.SEGMENT_FAULT, NLS_SEG_FAULT, SYS_COND]; omega
  have h2 : (NLS_SEG_FAULT.SEGMENT_FAULT n).a ≠ SYS_COND_STICKY := by simp only [NLS_SEG_FAULT.SEGMENT_FAULT, NLS_SEG_FAULT, SYS_COND_STICKY]; omega
  rw [Dev.segFault, Dev.on, Dev.get, rd_cond_other _ _ _ _ h1 h2, Dev.segFault, Dev.on, Dev.get]

theorem segFaultClear_clears (n : Nat) (d : Dev) : (Dev.segFaultClear n d).segFault n = false :=
  (segFault_cond _ _ _ _).trans (segFault_cleared_same n d)
/-- The condition ends when no other segment shows a fault. -/
theorem segFaultClear_cond (n : Nat) (d : Dev) (h : ∀ m < 8, m ≠ n → d.segFault m = false) :
    (Dev.segFaultClear n d).hasCond condSEGMENT_FAULT = false := by
  refine (hasCond_cond _ _ _ (by decide)).trans (List.any_eq_false.mpr fun m hm => ?_)
  have none_left : (d.set (NLS_SEG_FAULT.SEGMENT_FAULT n) 0).segFault m = false := by
    by_cases hn : m = n
    · exact hn ▸ segFault_cleared_same m d
    · exact (segFault_cleared_other hn d).trans (h m (List.mem_range.mp hm) hn)
  exact ne_true_of_eq_false none_left

/-! ## A reply that never came (R409) -/

section
variable (n tag : Nat) (d : Dev)

theorem asyncReplyTimeout_completes (f : AsyncFrame)
    (h : (d.port n).awaiting.find? (fun f => f.ref.isSome && f.replyAddr != 0 && f.tag == tag) = some f) : Dev.asyncReplyTimeout n tag d =
      (d.setPort n { d.port n with awaiting := (d.port n).awaiting.filter (fun f => !(f.ref.isSome && f.replyAddr != 0 && f.tag == tag)) }).completeOpt
        f.ref stOK d.now [0, 0, 1] := by
  simp only [Dev.asyncReplyTimeout, h]
theorem asyncReplyTimeout_idle (h : (d.port n).awaiting.find? (fun f => f.ref.isSome && f.replyAddr != 0 && f.tag == tag) = none) :
    Dev.asyncReplyTimeout n tag d = d := by
  simp only [Dev.asyncReplyTimeout, h]

end

end Sys2Proof.Machine

open Sys2Proof Sys2Proof.Machine

/-- Settles O26: each clause is the equation of its operation in that case (R94, R97, R105, R109, R111 to R113, R409); an acknowledgement and a cleared
segment fault are read back from the registers that show them. -/
theorem claimsRequestsAndReleases : Obligations.ClaimsRequestsAndReleases := by
  refine ⟨fun s n pos req h => ⟨next_of_fixed (pitchClaim_idle _ _ _ _ h), next_of_fixed (scheduleRequest_unheard _ _ _ (.inl h)),
      next_of_fixed (leaveRequest_unheard _ _ _ _ (.inl h))⟩,
    fun s n pos req e hr he => ⟨fun hm => next_of_dev (pitchClaim_shadow _ _ _ _ hr e he hm),
      fun hm hf => next_of_dev (pitchClaim_fenced _ _ _ _ hr e he hm hf), fun hm hf h => next_of_dev (pitchClaim_waits _ _ _ _ hr e he hm hf h),
      fun hm hf ha h => next_of_dev (pitchClaim_posted _ _ _ _ hr e he hm hf ha h)⟩,
    fun s n pos req h => ⟨next_of_fixed (scheduleRequest_unheard _ _ _ (.inr h)), next_of_fixed (leaveRequest_unheard _ _ _ _ (.inr h))⟩,
    fun s n pos e hr hf he => next_of_dev (scheduleRequest_owes _ _ _ hr hf e he),
    fun s n pos req e hr hf he => ⟨fun k hm hk => next_of_dev (leaveRequest_logged _ _ _ _ hr hf e he hm k hk),
      fun h => next_of_dev (leaveRequest_counted _ _ _ _ hr hf e he h)⟩,
    fun s n pos gen => ⟨fun g hp hf hg => ⟨_, rfl, genAck_shows _ _ _ _ g hp hf hg⟩, fun h => next_of_fixed (genAck_ignored _ _ _ _ h)⟩,
    fun s n k => ⟨fun hs hn hm hr hw => next_of_dev (pitchSilence_logged _ _ _ hs hn hm hr hw), fun h => next_of_fixed (pitchSilence_idle _ _ _ h)⟩,
    fun s n => ⟨_, rfl, segFaultClear_clears _ _, fun h => segFaultClear_cond _ _ fun m hm hn => h ⟨m, hm⟩ fun e => hn (congrArg Fin.val e)⟩,
    fun s n tag => ⟨fun f h => next_of_dev (asyncReplyTimeout_completes _ _ _ f h), fun h => next_of_fixed (asyncReplyTimeout_idle _ _ _ h)⟩⟩
end

section
/-! PROOFS. The bells as they arrive, the backup bell and the timers of Join (R86, R99, R100, R102, R122), and O33. -/
namespace Sys2Proof.Machine

/-! ## A port written and read back, and what stop frames leave alone (R305) -/

theorem port_setPort (n : Nat) (p : Port) (d : Dev) : (d.setPort n p).port n = p := smGet_smSet_same _ _ _ _
theorem port_congr {d e : Dev} (h : d.ports = e.ports) (n : Nat) : d.port n = e.port n := congrArg (fun m => smGet (fun _ => Port.reset) m n) h

/-- Stop frames start and end in MIR_STATUS, the pair's state and the events. -/
theorem showStopFrames_keep {β : Type} (g : Dev → β) (hpost : ∀ x y bs d, g (Dev.post x y bs d) = g d) (hmir : ∀ (m : Mir) (d : Dev), g { d with mir := m } = g d)
    (hset : ∀ v d, g (Dev.set MIR_STATUS.STOP_FRAMES v d) = g d) (d : Dev) : g d.showStopFrames = g d := by
  have posted : ∀ (xs : List Nat) (b : Nat) (e : Dev), g (e.forEach xs (fun n => Dev.post 0x01C0 0x01CD (leBytes 1 n ++ leBytes 1 b))) = g e :=
    fun xs _ e => forEach_keep g _ (fun _ _ => hpost _ _ _ _) xs e
  exact (hset _ _).trans ((posted _ _ _).trans ((posted _ _ _).trans (hmir _ _)))
theorem ports_showStopFrames (d : Dev) : d.showStopFrames.ports = d.ports :=
  showStopFrames_keep Dev.ports (fun _ _ _ _ => rfl) (fun _ _ => rfl) (fun _ _ => rfl) d
theorem rd_showStopFrames (a : Nat) (d : Dev) (h : a ≠ MIR_STATUS) : d.showStopFrames.rd a = d.rd a :=
  showStopFrames_keep (fun d => d.rd a) (fun _ _ _ _ => rfl) (fun _ _ => rfl) (fun _ _ => Dev.rd_set_other _ _ _ _ h) d

/-! ## Bells as they arrive (R86, R99, R102) -/

/-- Whether the controller stands in Join. -/
def Dev.joining (d : Dev) : Bool := d.mode == 5 && d.cyc.join.isSome
/-- The block that bells of a port are held against: the working generation's in Join, the active one's while cycles run. -/
def Dev.bellBlock (d : Dev) (n : Nat) : Option SchedBlock := if d.joining then d.planBlock n else d.activeBlock n
/-- The device with a bell heard: it ends the silence that a founder times. -/
def Dev.bellHeard (d : Dev) : Dev := { d with cyc := { d.cyc with join := d.cyc.join.map (fun j => { j with silent := false }) } }
/-- Whether a bell stands in a bell slot of its source. -/
def Dev.bellInSlot (d : Dev) (n : Nat) (f : Frame) (b : SchedBlock) : Bool := (b.slots[f.slot]?).any (d.bellSource n f.src)

theorem joining_false {d : Dev} (h : d.mode ≠ 5 ∨ d.cyc.join = none) : d.joining = false := by
  rcases h with h | h <;> simp [Dev.joining, h]
theorem joining_true {d : Dev} {j : Join} (hm : d.mode = 5) (hj : d.cyc.join = some j) : d.joining = true := by
  simp [Dev.joining, hm, hj]
theorem bellHeard_join {d : Dev} {j : Join} (hj : d.cyc.join = some j) :
    d.bellHeard = { d with cyc := { d.cyc with join := some { j with silent := false } } } := by
  rw [Dev.bellHeard, hj, Option.map_some]
theorem bellBlock_running {d : Dev} (h : d.joining = false) (n : Nat) : d.bellBlock n = d.activeBlock n := if_neg (by simp [h])
theorem bellBlock_joining {d : Dev} (h : d.joining = true) (n : Nat) : d.bellBlock n = d.planBlock n := if_pos h
theorem bellInSlot_some {d : Dev} {f : Frame} {b : SchedBlock} {e : SlotEntry} (h : b.slots[f.slot]? = some e) (n : Nat) :
    d.bellInSlot n f b = d.bellSource n f.src e := by rw [Dev.bellInSlot, h, Option.any_some]
theorem bellInSlot_none {d : Dev} {f : Frame} {b : SchedBlock} (h : b.slots[f.slot]? = none) (n : Nat) : d.bellInSlot n f b = false := by
  rw [Dev.bellInSlot, h, Option.any_none]

section
variable (n c rx : Nat) (bs : List Byte) (d : Dev)

theorem bellReceived_idle (hj : d.joining = false) (hr : d.cyc.running = false) : Dev.bellReceived n c rx bs d = d := by
  unfold Dev.joining at hj
  simp only [Dev.bellReceived, hj, hr, Bool.not_false, Bool.and_self, if_true]

variable (hl : d.joining = true ∨ d.cyc.running = true)
include hl

/-- In Join and while cycles run a frame is checked in this order: header and type, slot and cycle, payload, generation. -/
theorem bellReceived_checks : Dev.bellReceived n c rx bs d =
    if !(parseFrame bs).hdrOk || !knownType (parseFrame bs).typ then d.crcErr n c
    else match d.bellBlock n with
      | none => d
      | some b =>
        if (parseFrame bs).typ ≠ 1 then d
        else if !d.bellInSlot n (parseFrame bs) b || (!d.joining && (parseFrame bs).cycle ≠ d.cyc.count) then d.bellHeard
        else if !(parseFrame bs).bodyOk || (parseFrame bs).payload.length ≠ 40 then d.bellHeard.crcErr n c
        else if fieldAt (parseFrame bs).payload 10 2 ≠ b.gen then d.bellHeard
        else if d.joining then d.bellHeard.joinBell n c rx (parseFrame bs) b else d.bellHeard.takeBell n c rx (parseFrame bs) b := by
  have live : ¬ (!d.joining && !d.cyc.running) = true := by
    rcases hl with h | h <;> simp [h]
  unfold Dev.bellReceived
  refine (if_neg live).trans (if_congr Iff.rfl rfl ?_)
  change (match d.bellBlock n with | none => d | some b => _) = _
  cases d.bellBlock n with
  | none => rfl
  | some b =>
    by_cases ht : (parseFrame bs).typ = 1
    · cases hs : b.slots[(parseFrame bs).slot]? with
      | none => simp [ht, hs, bellInSlot_none hs, Dev.bellHeard]
      | some e =>
        simp only [ht, hs, bellInSlot_some hs, if_true, ne_eq, not_true_eq_false, decide_false, Bool.false_or, if_false]
        rfl
    · simp [ht]

theorem bellReceived_badHeader (h : (parseFrame bs).hdrOk = false ∨ knownType (parseFrame bs).typ = false) :
    Dev.bellReceived n c rx bs d = d.crcErr n c := by
  rw [bellReceived_checks n c rx bs d hl, if_pos]
  rcases h with h | h <;> simp [h]

variable (hh : (parseFrame bs).hdrOk = true) (b : SchedBlock) (hb : d.bellBlock n = some b)
include hh hb

theorem bellReceived_otherType (hk : knownType (parseFrame bs).typ = true) (ht : (parseFrame bs).typ ≠ 1) : Dev.bellReceived n c rx bs d = d := by
  rw [bellReceived_checks n c rx bs d hl, if_neg (by simp [hh, hk]), hb]
  exact if_pos ht

variable (ht : (parseFrame bs).typ = 1)
include ht

theorem bellReceived_bell : Dev.bellReceived n c rx bs d =
    if !d.bellInSlot n (parseFrame bs) b || (!d.joining && (parseFrame bs).cycle ≠ d.cyc.count) then d.bellHeard
    else if !(parseFrame bs).bodyOk || (parseFrame bs).payload.length ≠ 40 then d.bellHeard.crcErr n c
    else if fieldAt (parseFrame bs).payload 10 2 ≠ b.gen then d.bellHeard
    else if d.joining then d.bellHeard.joinBell n c rx (parseFrame bs) b else d.bellHeard.takeBell n c rx (parseFrame bs) b := by
  have known : knownType (parseFrame bs).typ = true := by rw [ht]; decide
  rw [bellReceived_checks n c rx bs d hl, if_neg (by simp [hh, known]), hb]
  exact if_neg (not_not_intro ht)
theorem bellReceived_notTaken (h : d.bellInSlot n (parseFrame bs) b = false ∨ (d.joining = false ∧ (parseFrame bs).cycle ≠ d.cyc.count)) :
    Dev.bellReceived n c rx bs d = d.bellHeard := by
  rw [bellReceived_bell n c rx bs d hl hh b hb ht, if_pos]
  rcases h with h | ⟨hj, hc⟩
  · simp [h]
  · simp [hj, hc]

variable (hs : d.bellInSlot n (parseFrame bs) b = true) (hc : d.joining = true ∨ (parseFrame bs).cycle = d.cyc.count)
include hs hc

theorem bellReceived_inSlot : Dev.bellReceived n c rx bs d =
    if !(parseFrame bs).bodyOk || (parseFrame bs).payload.length ≠ 40 then d.bellHeard.crcErr n c
    else if fieldAt (parseFrame bs).payload 10 2 ≠ b.gen then d.bellHeard
    else if d.joining then d.bellHeard.joinBell n c rx (parseFrame bs) b else d.bellHeard.takeBell n c rx (parseFrame bs) b := by
  rw [bellReceived_bell n c rx bs d hl hh b hb ht, if_neg]
  rcases hc with hc | hc <;> simp [hs, hc]
theorem bellReceived_badPayload (h : (parseFrame bs).bodyOk = false ∨ (parseFrame bs).payload.length ≠ 40) :
    Dev.bellReceived n c rx bs d = d.bellHeard.crcErr n c := by
  rw [bellReceived_inSlot n c rx bs d hl hh b hb ht hs hc, if_pos]
  rcases h with h | h <;> simp [h]

variable (ho : (parseFrame bs).bodyOk = true) (h40 : (parseFrame bs).payload.length = 40)
include ho h40

theorem bellReceived_otherGeneration (hg : fieldAt (parseFrame bs).payload 10 2 ≠ b.gen) : Dev.bellReceived n c rx bs d = d.bellHeard := by
  rw [bellReceived_inSlot n c rx bs d hl hh b hb ht hs hc, if_neg (by simp [ho, h40]), if_pos hg]
theorem bellReceived_good (hg : fieldAt (parseFrame bs).payload 10 2 = b.gen) : Dev.bellReceived n c rx bs d =
    if d.joining then d.bellHeard.joinBell n c rx (parseFrame bs) b else d.bellHeard.takeBell n c rx (parseFrame bs) b := by
  rw [bellReceived_inSlot n c rx bs d hl hh b hb ht hs hc, if_neg (by simp [ho, h40]), if_neg (not_not_intro hg)]

end

/-! ## The backup bell (R100) -/

theorem port_sendBell {n : Nat} {b : SchedBlock} {d : Dev} (t : LTime) (h : d.activeBlock n = some b) : ((d.sendBell n t).port n).sentBell = true := by
  simp only [Dev.sendBell, h]
  exact congrArg Port.sentBell (port_setPort _ _ _)

section
variable (n : Nat) (d : Dev) (hn : n < 8)
include hn

theorem portRank_segment : d.portRank n = d.rank := if_neg (Nat.not_le.mpr hn)
theorem backupBell_silent (h : d.cyc.running = false ∨ d.rank = 0 ∨ d.linePorts.contains n = false ∨ (d.port n).acting = true ∨
    (d.port n).sentBell = true ∨ d.heardAbove d.rank = true) : Dev.backupBell n d = d := by
  have still : (!d.cyc.running || d.portRank n = 0 || !d.linePorts.contains n || (d.port n).acting || (d.port n).sentBell || d.heardAbove (d.portRank n)) = true := by
    rw [portRank_segment n d hn]
    rcases h with h | h | h | h | h | h <;> simp only [h, Bool.not_false, decide_true, Bool.or_true, Bool.true_or]
  exact if_pos still
theorem backupBell_due (hr : d.cyc.running = true) (hk : d.rank ≠ 0) (hp : d.linePorts.contains n = true) (ha : (d.port n).acting = false)
    (hs : (d.port n).sentBell = false) (hh : d.heardAbove d.rank = false) (e : Dev)
    (he : e = (d.reach (d.cyc.ref + ns (d.rd (NLS_BELL_WAIT n)))).sendBell n (d.cyc.ref + ns (d.rd (NLS_BELL_WAIT n)))) : Dev.backupBell n d =
      (((e.setPort n { e.port n with acting := true }).set (NLS_SCHED_STATUS.ACTING n) 1).post (portSource n) 0x0110
        (leBytes 1 (d.portRank n) ++ leBytes 4 e.cyc.count)).showStopFrames := by
  have due : (!d.cyc.running || d.portRank n = 0 || !d.linePorts.contains n || (d.port n).acting || (d.port n).sentBell || d.heardAbove (d.portRank n)) = false := by
    rw [portRank_segment n d hn]
    simp only [hr, hk, hp, ha, hs, hh, Bool.not_true, decide_false, Bool.or_false]
  subst he
  exact if_neg (by rw [due]; decide)
/-- The backup master has sent its bell and acts, and its port shows it. -/
theorem backupBell_acts (hr : d.cyc.running = true) (hk : d.rank ≠ 0) (hp : d.linePorts.contains n = true) (b : SchedBlock)
    (hb : d.activeBlock n = some b) (ha : (d.port n).acting = false) (hs : (d.port n).sentBell = false) (hh : d.heardAbove d.rank = false) :
    ((Dev.backupBell n d).port n).acting = true ∧ ((Dev.backupBell n d).port n).sentBell = true ∧
      (Dev.backupBell n d).on (NLS_SCHED_STATUS.ACTING n) = true := by
  have apart : (NLS_SCHED_STATUS.ACTING n).a ≠ MIR_STATUS := by
    simp only [NLS_SCHED_STATUS.ACTING, NLS_SCHED_STATUS, MIR_STATUS]
    omega
  obtain ⟨e, he⟩ : ∃ e, e = (d.reach (d.cyc.ref + ns (d.rd (NLS_BELL_WAIT n)))).sendBell n (d.cyc.ref + ns (d.rd (NLS_BELL_WAIT n))) := ⟨_, rfl⟩
  have sent : (e.port n).sentBell = true := he ▸ port_sendBell _ hb
  rw [backupBell_due n d hn hr hk hp ha hs hh e he,
    port_congr ((ports_showStopFrames _).trans ((Dev.post_ports _ _ _ _).trans (Dev.set_ports _ _ _))), port_setPort]
  refine ⟨rfl, sent, ?_⟩
  rw [Dev.on, Dev.get, rd_showStopFrames _ _ apart, Dev.rd_post, ← Dev.get, Dev.get_set_same _ _ _ (show 27 < 32 by decide)]
  rfl

end

/-! ## The timers of Join (R102, R122) -/

section
variable (d : Dev)

/-- Outside Join the timers do nothing. -/
theorem joinTimers_outside (h : d.cyc.join = none ∨ d.mode ≠ 5) : d.listenExpiry = d ∧ d.silentEnd = d ∧ d.joinLimit = d := by
  unfold Dev.listenExpiry Dev.silentEnd Dev.joinLimit
  cases hj : d.cyc.join with
  | none => exact ⟨rfl, rfl, rfl⟩
  | some j =>
    have hm : d.mode ≠ 5 := h.resolve_left (by simp [hj])
    exact ⟨if_pos (by simp [hm]), if_pos (by simp [hm]), if_pos hm⟩

variable (j : Join) (hj : d.cyc.join = some j)
include hj

theorem listenExpiry_listened (h : j.listened = true) : d.listenExpiry = d := by
  simp only [Dev.listenExpiry, hj]
  exact if_pos (by simp [h])
theorem silentEnd_waits (h : j.silent = false ∨ d.ltm.alignWait = true) : d.silentEnd = d := by
  simp only [Dev.silentEnd, hj]
  refine if_pos ?_
  rcases h with h | h <;> simp [h]

variable (hm : d.mode = 5)
include hm

/-- Without a bell a controller that may found times a silent cycle. -/
theorem listenExpiry_ends (h : j.listened = false) : d.listenExpiry = { d with cyc := { d.cyc with
    join := some { j with listened := true, silent := j.bells.isEmpty && (d.sys.package.map (·.founding)).getD false } } } := by
  simp only [Dev.listenExpiry, hj]
  exact if_neg (by simp [hm, h])
theorem silentEnd_silent (hs : j.silent = true) (ha : d.ltm.alignWait = false) : d.silentEnd =
    if (d.sys.package.map (·.ppsAlign)).getD false then { d with ltm := { d.ltm with alignWait := true } } else d.found := by
  simp only [Dev.silentEnd, hj]
  exact if_neg (by simp [hm, hs, ha])
theorem joinLimit_leaves : d.joinLimit = (d.post 0 0x0011 (leBytes 1 (flag (!j.bells.isEmpty)))).enterMode 4 7 0 none false := by
  simp only [Dev.joinLimit, hj]
  exact if_neg (by simp [hm])

end

end Sys2Proof.Machine

open Sys2Proof Sys2Proof.Machine

/-- Settles O33: the clauses about a received frame follow the order of its checks (R86, R99, R102), a backup master's bell is read back from its port
(R100), and the timers' clauses are their equations in Join (R102, R122). -/
theorem bellsAreTakenAndTheLineIsJoined : Obligations.BellsAreTakenAndTheLineIsJoined := by
  refine ⟨fun s n c rx bs hr hj => next_of_fixed (bellReceived_idle _ _ _ _ _ (joining_false hj) hr), ?badHeader, ?running, ?joining,
    fun s n b hr hk hp hb ha hs hh => ⟨_, rfl, backupBell_acts _ _ n.isLt hr hk hp b hb ha hs hh⟩,
    fun s n h => next_of_fixed (backupBell_silent _ _ n.isLt h), ?outside, ?timers⟩
  case badHeader =>
    refine fun s n c rx bs hl h => next_of_dev (bellReceived_badHeader _ _ _ _ _ ?_ h)
    rcases hl with hr | ⟨hm, hj⟩
    · exact .inr hr
    · obtain ⟨j, hj⟩ := Option.ne_none_iff_exists'.mp hj
      exact .inl (joining_true hm hj)
  case running =>
    rintro s n c rx bs b _ hr hnj hb hh hk rfl
    have hj := joining_false hnj
    replace hb := (bellBlock_running hj n.val).trans hb
    refine ⟨fun ht => next_of_fixed (bellReceived_otherType _ _ _ _ _ (.inr hr) hh b hb hk ht), fun ht h => ?_, fun e he hs ht => ?_, fun e he hs ht hc => ?_⟩
    · exact next_of_dev (bellReceived_notTaken _ _ _ _ _ (.inr hr) hh b hb ht
        (h.elim (fun hc => .inr ⟨hj, hc⟩) (fun he => .inl (bellInSlot_none he _))))
    · exact next_of_dev (bellReceived_notTaken _ _ _ _ _ (.inr hr) hh b hb ht (.inl ((bellInSlot_some he _).trans hs)))
    · replace hs := (bellInSlot_some he n.val).trans hs
      refine ⟨fun h => next_of_dev (bellReceived_badPayload _ _ _ _ _ (.inr hr) hh b hb ht hs (.inr hc) h),
        fun ho h40 hg => next_of_dev (bellReceived_otherGeneration _ _ _ _ _ (.inr hr) hh b hb ht hs (.inr hc) ho h40 hg), fun ho h40 hg => ?_⟩
      exact next_of_dev ((bellReceived_good _ _ _ _ _ (.inr hr) hh b hb ht hs (.inr hc) ho h40 hg).trans (if_neg (by simp [hj])))
  case joining =>
    rintro s n c rx bs j b e _ hm hjoin hb hh ht he rfl
    have hj := joining_true hm hjoin
    replace hb := (bellBlock_joining hj n.val).trans hb
    rw [← bellHeard_join hjoin]
    refine ⟨fun hs => next_of_dev (bellReceived_notTaken _ _ _ _ _ (.inl hj) hh b hb ht (.inl ((bellInSlot_some he _).trans hs))), fun hs ho h40 => ?_⟩
    replace hs := (bellInSlot_some he n.val).trans hs
    exact ⟨fun hg => next_of_dev ((bellReceived_good _ _ _ _ _ (.inl hj) hh b hb ht hs (.inl hj) ho h40 hg).trans (if_pos hj)),
      fun hg => next_of_dev (bellReceived_otherGeneration _ _ _ _ _ (.inl hj) hh b hb ht hs (.inl hj) ho h40 hg)⟩
  case outside =>
    intro s h
    obtain ⟨listen, silent, limit⟩ := joinTimers_outside s.dev h
    exact ⟨next_of_fixed listen, next_of_fixed silent, next_of_fixed limit⟩
  case timers =>
    intro s j hj hm
    exact ⟨fun h => next_of_fixed (listenExpiry_listened _ j hj h), fun h => next_of_dev (listenExpiry_ends _ j hj hm h),
      fun h => next_of_fixed (silentEnd_waits _ j hj h),
      fun hs ha hp => next_of_dev ((silentEnd_silent _ j hj hm hs ha).trans (if_neg (by simp [hp]))),
      fun hs ha hp => next_of_dev ((silentEnd_silent _ j hj hm hs ha).trans (if_pos hp)),
      _, rfl, enterMode_mode _ _ _ _ _ _ (by decide), next_of_dev (joinLimit_leaves _ j hj hm)⟩
end

section
/-! PROOFS. The frames of the nodes: the filter, the copies of a slot and the close of its window (R84, R86, R104, R106, R108, R155), and O25. -/
namespace Sys2Proof.Machine

/-! ## The filter (R84, R86, R104, R108) -/

/-- Whether a frame stands in a claim slot's receive window. -/
def Dev.inClaim (d : Dev) (n sof : Nat) (b : SchedBlock) : Bool := ((d.windowSlot n sof b).map (fun x => x.1.kind == 8)).getD false
/-- Whether a frame is that of the other end's controller in that end's own slot. -/
def Dev.fromFarEnd (d : Dev) (n sof : Nat) (f : Frame) (b : SchedBlock) : Bool :=
  d.farSource n f.src && b.slots.any (fun e => sentByHead e == some (!d.headEnd n) && d.inWindow n sof b e)
/-- Whether a frame is its slot owner's; in a claim slot any source passes. -/
def Dev.ownerFits (d : Dev) (n s : Nat) (f : Frame) (b : SchedBlock) : Bool :=
  match d.slotOwner n s b with
  | none => true
  | some o => o == some (f.src % 64) && d.nodeSource n (f.src % 64) f.src
/-- Whether a frame fits the slot whose window holds it: type, slot number, cycle and source. -/
def Dev.frameFits (d : Dev) (n : Nat) (f : Frame) (b : SchedBlock) (e : SlotEntry) (s : Nat) : Bool :=
  typeFits e.kind f.typ && f.slot == s && f.cycle == d.cyc.count && d.ownerFits n s f b
/-- What of a frame the second copy is compared with (R104): its header without the channel bit, and its payload. -/
def frameContent (bs : List Byte) : List Byte :=
  (spliceAt bs 1 [BitVec.ofNat 8 ((parseFrame bs).flags / 2 * 2)]).take 16 ++ (parseFrame bs).payload
/-- The device with slot `s` of port `n` holding `r`. -/
def Dev.setSlotRx (n s : Nat) (r : SlotRx) (d : Dev) : Dev := d.setPort n { d.port n with rx := putKey s r (d.port n).rx }
/-- A good copy of an accepted frame reaches its slot. -/
def Dev.takeCopy (n c sof s : Nat) (b : SchedBlock) (bs : List Byte) (d : Dev) : Dev :=
  let f := parseFrame bs
  let r := (d.port n).slotRx s
  if r.state = 0 then
    let e := d.setSlotRx n s { r with state := c + 1, used := frameContent bs }
    let e := e.when (decide (f.typ = 2) && !e.on (NLS_POS_W2.FENCED n (f.src % 64))) (Dev.takeUplink n s (some (f.src % 64)) sof f.payload)
    e.when (decide (f.typ = 8)) (Dev.asyncReply n f.src f.payload)
  else if r.state = c + 1 || r.state = 3 then d
  else (d.setSlotRx n s { r with state := 3 }).when (frameContent bs != r.used) (Dev.disagree n ((d.slotOwner n s b).getD none))

section
variable {n s : Nat} {f : Frame} {b : SchedBlock} {e : SlotEntry} {d : Dev}

theorem ownerFits_iff : d.ownerFits n s f b = true ↔
    d.slotOwner n s b = none ∨ (d.slotOwner n s b = some (some (f.src % 64)) ∧ d.nodeSource n (f.src % 64) f.src = true) := by
  unfold Dev.ownerFits
  cases d.slotOwner n s b with
  | none => simp
  | some o => simp
theorem frameFits_true (ht : typeFits e.kind f.typ = true) (hs : f.slot = s) (hc : f.cycle = d.cyc.count)
    (ho : d.slotOwner n s b = none ∨ (d.slotOwner n s b = some (some (f.src % 64)) ∧ d.nodeSource n (f.src % 64) f.src = true)) :
    d.frameFits n f b e s = true := by
  simp [Dev.frameFits, ht, hs, hc, ownerFits_iff.mpr ho]
theorem frameFits_false (h : typeFits e.kind f.typ = false ∨ f.slot ≠ s ∨ f.cycle ≠ d.cyc.count ∨
    (d.slotOwner n s b ≠ none ∧ (d.slotOwner n s b ≠ some (some (f.src % 64)) ∨ d.nodeSource n (f.src % 64) f.src = false))) :
    d.frameFits n f b e s = false := by
  rcases h with h | h | h | ⟨hn, ho⟩
  · simp [Dev.frameFits, h]
  · simp [Dev.frameFits, h]
  · simp [Dev.frameFits, h]
  · have foreign : d.ownerFits n s f b = false := by
      rw [Bool.eq_false_iff, ne_eq, ownerFits_iff]
      rintro (h | ⟨h1, h2⟩)
      · exact hn h
      · exact ho.elim (fun h => h h1) (fun h => by simp [h] at h2)
    simp [Dev.frameFits, foreign]

end

section
variable (n c sof : Nat) (bs : List Byte) (d : Dev)

theorem nodeFrame_idle (hr : d.cyc.running = false) : Dev.nodeFrame n c sof bs d =
    if (parseFrame bs).hdrOk && knownType (parseFrame bs).typ then d else d.crcErr n c := by
  simp only [Dev.nodeFrame, hr]
  rfl
theorem nodeFrame_idle_bad (hr : d.cyc.running = false) (h : (parseFrame bs).hdrOk = false ∨ knownType (parseFrame bs).typ = false) :
    Dev.nodeFrame n c sof bs d = d.crcErr n c := by
  rw [nodeFrame_idle n c sof bs d hr, if_neg]
  rcases h with h | h <;> simp [h]
theorem nodeFrame_idle_good (hr : d.cyc.running = false) (hh : (parseFrame bs).hdrOk = true) (hk : knownType (parseFrame bs).typ = true) :
    Dev.nodeFrame n c sof bs d = d := by
  rw [nodeFrame_idle n c sof bs d hr, if_pos (by simp [hh, hk])]

variable (hr : d.cyc.running = true) (b : SchedBlock) (hb : d.activeBlock n = some b)
include hr hb

/-- While cycles run a frame is checked in this order: header, type, window, slot, payload, fence. -/
theorem nodeFrame_checks : Dev.nodeFrame n c sof bs d =
    if !(parseFrame bs).hdrOk then (d.crcErr n c).when (d.inClaim n sof b) (Dev.count (NLS_CLAIM_CNT.DAMAGED n) 1)
    else if !knownType (parseFrame bs).typ then d.crcErr n c
    else match d.windowSlot n sof b with
      | none => d.when (!d.fromFarEnd n sof (parseFrame bs) b) (Dev.policeHit n ((parseFrame bs).src % 64))
      | some (e, s) =>
        if !d.frameFits n (parseFrame bs) b e s then d.policeHit n ((parseFrame bs).src % 64)
        else if !(parseFrame bs).bodyOk then (d.crcErr n c).when (e.kind == 8) (Dev.count (NLS_CLAIM_CNT.DAMAGED n) 1)
        else if d.on (NLS_POS_W2.FENCED n ((parseFrame bs).src % 64)) then d else d.takeCopy n c sof s b bs := by
  unfold Dev.inClaim Dev.frameFits
  simp only [Dev.nodeFrame, hr, hb]
  cases d.windowSlot n sof b with
  | none => rfl
  | some x =>
    simp only [Option.map_some, Option.getD_some, Bool.not_and]
    rfl

theorem nodeFrame_badHeader (hh : (parseFrame bs).hdrOk = false) : Dev.nodeFrame n c sof bs d =
    (d.crcErr n c).when (d.inClaim n sof b) (Dev.count (NLS_CLAIM_CNT.DAMAGED n) 1) := by
  rw [nodeFrame_checks n c sof bs d hr b hb, if_pos (by simp [hh])]

variable (hh : (parseFrame bs).hdrOk = true)
include hh

theorem nodeFrame_unknownType (hk : knownType (parseFrame bs).typ = false) : Dev.nodeFrame n c sof bs d = d.crcErr n c := by
  rw [nodeFrame_checks n c sof bs d hr b hb, if_neg (by simp [hh]), if_pos (by simp [hk])]

variable (hk : knownType (parseFrame bs).typ = true)
include hk

/-- Outside every receive window. -/
theorem nodeFrame_outside (hw : d.windowSlot n sof b = none) : Dev.nodeFrame n c sof bs d =
    d.when (!d.fromFarEnd n sof (parseFrame bs) b) (Dev.policeHit n ((parseFrame bs).src % 64)) := by
  rw [nodeFrame_checks n c sof bs d hr b hb, if_neg (by simp [hh]), if_neg (by simp [hk]), hw]

variable (e : SlotEntry) (s : Nat) (hw : d.windowSlot n sof b = some (e, s))
include hw

theorem nodeFrame_inWindow : Dev.nodeFrame n c sof bs d =
    if !d.frameFits n (parseFrame bs) b e s then d.policeHit n ((parseFrame bs).src % 64)
    else if !(parseFrame bs).bodyOk then (d.crcErr n c).when (e.kind == 8) (Dev.count (NLS_CLAIM_CNT.DAMAGED n) 1)
    else if d.on (NLS_POS_W2.FENCED n ((parseFrame bs).src % 64)) then d else d.takeCopy n c sof s b bs := by
  rw [nodeFrame_checks n c sof bs d hr b hb, if_neg (by simp [hh]), if_neg (by simp [hk]), hw]
theorem nodeFrame_misfit (hf : d.frameFits n (parseFrame bs) b e s = false) :
    Dev.nodeFrame n c sof bs d = d.policeHit n ((parseFrame bs).src % 64) := by
  rw [nodeFrame_inWindow n c sof bs d hr b hb hh hk e s hw, if_pos (by simp [hf])]

variable (hf : d.frameFits n (parseFrame bs) b e s = true)
include hf

theorem nodeFrame_badPayload (ho : (parseFrame bs).bodyOk = false) : Dev.nodeFrame n c sof bs d =
    (d.crcErr n c).when (e.kind == 8) (Dev.count (NLS_CLAIM_CNT.DAMAGED n) 1) := by
  rw [nodeFrame_inWindow n c sof bs d hr b hb hh hk e s hw, if_neg (by simp [hf]), if_pos (by simp [ho])]

variable (ho : (parseFrame bs).bodyOk = true)
include ho

theorem nodeFrame_fenced (hx : d.on (NLS_POS_W2.FENCED n ((parseFrame bs).src % 64)) = true) : Dev.nodeFrame n c sof bs d = d := by
  rw [nodeFrame_inWindow n c sof bs d hr b hb hh hk e s hw, if_neg (by simp [hf]), if_neg (by simp [ho]), if_pos hx]
theorem nodeFrame_taken (hx : d.on (NLS_POS_W2.FENCED n ((parseFrame bs).src % 64)) = false) :
    Dev.nodeFrame n c sof bs d = d.takeCopy n c sof s b bs := by
  rw [nodeFrame_inWindow n c sof bs d hr b hb hh hk e s hw, if_neg (by simp [hf]), if_neg (by simp [ho]), if_neg (by simp [hx])]

end

/-! ## The copies of a slot (R86, R104, R155) -/

section
variable (n c sof s : Nat) (b : SchedBlock) (bs : List Byte) (d : Dev)

section
variable (h0 : ((d.port n).slotRx s).state = 0) (e : Dev)
  (he : e = d.setSlotRx n s { (d.port n).slotRx s with state := c + 1, used := frameContent bs })
include h0 he

/-- The first copy is kept, and its content goes on by its type. -/
theorem takeCopy_first : d.takeCopy n c sof s b bs =
    (e.when (decide ((parseFrame bs).typ = 2) && !d.on (NLS_POS_W2.FENCED n ((parseFrame bs).src % 64)))
      (Dev.takeUplink n s (some ((parseFrame bs).src % 64)) sof (parseFrame bs).payload)).when (decide ((parseFrame bs).typ = 8))
        (Dev.asyncReply n (parseFrame bs).src (parseFrame bs).payload) := by
  subst he
  exact if_pos h0
theorem takeCopy_uplink (ht : (parseFrame bs).typ = 2) (hx : d.on (NLS_POS_W2.FENCED n ((parseFrame bs).src % 64)) = false) :
    d.takeCopy n c sof s b bs = e.takeUplink n s (some ((parseFrame bs).src % 64)) sof (parseFrame bs).payload := by
  rw [takeCopy_first n c sof s b bs d h0 e he, ht, hx]
  rfl
theorem takeCopy_async (ht : (parseFrame bs).typ = 8) :
    d.takeCopy n c sof s b bs = e.asyncReply n (parseFrame bs).src (parseFrame bs).payload := by
  rw [takeCopy_first n c sof s b bs d h0 e he, ht]
  rfl
theorem takeCopy_kept (h2 : (parseFrame bs).typ ≠ 2) (h8 : (parseFrame bs).typ ≠ 8) : d.takeCopy n c sof s b bs = e := by
  rw [takeCopy_first n c sof s b bs d h0 e he, decide_eq_false h2, decide_eq_false h8, Bool.false_and, Dev.when_false, Dev.when_false]

end

/-- A repeated copy of the same channel, and one after both, changes nothing. -/
theorem takeCopy_repeated (h : ((d.port n).slotRx s).state = c + 1 ∨ ((d.port n).slotRx s).state = 3) : d.takeCopy n c sof s b bs = d := by
  refine (if_neg (by omega)).trans (if_pos ?_)
  rcases h with h | h <;> simp [h]

section
variable (hc : c < 2) (h : ((d.port n).slotRx s).state = 2 - c)
include hc h

/-- The other channel's copy completes the slot and is compared with the first. -/
theorem takeCopy_second : d.takeCopy n c sof s b bs = (d.setSlotRx n s { (d.port n).slotRx s with state := 3 }).when
    (frameContent bs != ((d.port n).slotRx s).used) (Dev.disagree n ((d.slotOwner n s b).getD none)) := by
  refine (if_neg (by omega)).trans (if_neg ?_)
  simp only [Bool.or_eq_true, decide_eq_true_eq]
  omega
theorem takeCopy_agrees (hu : frameContent bs = ((d.port n).slotRx s).used) :
    d.takeCopy n c sof s b bs = d.setSlotRx n s { (d.port n).slotRx s with state := 3 } := by
  rw [takeCopy_second n c sof s b bs d hc h, hu, bne_self_eq_false, Dev.when_false]
theorem takeCopy_disagrees (hu : frameContent bs ≠ ((d.port n).slotRx s).used) : d.takeCopy n c sof s b bs =
    (d.setSlotRx n s { (d.port n).slotRx s with state := 3 }).disagree n ((d.slotOwner n s b).getD none) := by
  rw [takeCopy_second n c sof s b bs d hc h, bne_iff_ne.mpr hu, Dev.when_true]

end

end

/-! ## What a slot's window holds -/

theorem find?_putKey_other {α : Type} {k j : Nat} (h : j ≠ k) (v : α) (t : List (Nat × α)) :
    (putKey k v t).find? (fun x => x.1 == j) = t.find? (fun x => x.1 == j) := by
  have last : List.find? (fun x => x.1 == j) [(k, v)] = none := by simp [h.symm]
  have kept : ∀ x : Nat × α, decide ((x.1 != k) = true ∧ (x.1 == j) = true) = (x.1 == j) := by
    intro x
    by_cases hx : x.1 = j
    · simp [hx, h]
    · simp [hx]
  rw [putKey, List.find?_append, last, Option.or_none, List.find?_filter]
  exact congrArg (fun p => t.find? p) (funext kept)
theorem find?_putKey_same {α : Type} (k : Nat) (v : α) (t : List (Nat × α)) : (putKey k v t).find? (fun x => x.1 == k) = some (k, v) := by
  have gone : (t.filter (fun x => x.1 != k)).find? (fun x => x.1 == k) = none := by simp
  rw [putKey, List.find?_append, gone, Option.none_or, List.find?_cons_of_pos (by simp)]

theorem port_setSlotRx (n s : Nat) (r : SlotRx) (d : Dev) :
    (d.setSlotRx n s r).port n = { d.port n with rx := putKey s r (d.port n).rx } := port_setPort _ _ _
theorem slotRx_setSlotRx_same (n s : Nat) (r : SlotRx) (d : Dev) : ((d.setSlotRx n s r).port n).slotRx s = r := by
  rw [port_setSlotRx, Port.slotRx, find?_putKey_same]
  rfl
theorem slotRx_setSlotRx_other {s k : Nat} (h : k ≠ s) (n : Nat) (r : SlotRx) (d : Dev) :
    ((d.setSlotRx n s r).port n).slotRx k = (d.port n).slotRx k := by
  rw [port_setSlotRx, Port.slotRx, find?_putKey_other h]
  rfl

/-! ## A window closes (R104, R106, R113, R115, R155) -/

/-- A single copy is counted at the port. -/
def Dev.countSingle (n r : Nat) (d : Dev) : Dev := d.when (r == 1 || r == 2) (Dev.count32 (NLS_SINGLE_CNT n) 1)
/-- The node or the pitch's holder that owns a slot, if one stands there. -/
def Dev.slotHolder (d : Dev) (n s : Nat) (b : SchedBlock) : Option Nat :=
  match d.slotOwner n s b with
  | some (some p) => if d.on (NLS_POS_W2.PRESENT n p) || d.on (NLS_POS_W2.PITCH n p) then some p else none
  | _ => none
/-- The copies held are shown and counted at a holder's position. -/
def Dev.countCopies (n r : Nat) (h : Option Nat) (d : Dev) : Dev :=
  match h with
  | some p => ((d.set (NLS_POS_W2.SINGLE n p) (flag (r == 1 || r == 2))).when (r == 0 || r == 2) (Dev.count (NLS_POS_W0.MISSED_A n p) 1)).when
      (r == 0 || r == 1) (Dev.count (NLS_POS_W0.MISSED_B n p) 1)
  | none => d
/-- A channel without a copy of an uplink slot is silent for its holder in this cycle (R115). -/
def Dev.markSilent (n r : Nat) (h : Option Nat) (d : Dev) : Dev :=
  match h with
  | some p => d.setPort n { d.port n with
      silentA := if r == 0 || r == 2 then Nat.lor (d.port n).silentA (2 ^ p) else (d.port n).silentA
      silentB := if r == 0 || r == 1 then Nat.lor (d.port n).silentB (2 ^ p) else (d.port n).silentB }
  | none => d
/-- The silence of a pitch's holder grows or ends (R113). -/
def Dev.countSilence (n r : Nat) (e : SlotEntry) (d : Dev) : Dev :=
  d.when (e.owner == 0xFE && d.get (NLS_PITCH.STATE n e.pitch) == 3) (fun d =>
    (d.set (NLS_PITCH.SILENT n e.pitch)
      (if (r == 0 || r == 2) && (r == 0 || r == 1) then min 1000 (d.get (NLS_PITCH.SILENT n e.pitch) + 1) else 0)).pitchSilence n e.pitch)
/-- The axes bound to an uplink slot. -/
def Dev.slotAxes (d : Dev) (n s : Nat) : List Nat := (d.binds.filter (fun x => x.port == n && x.slot == s)).map (fun x => x.axis)
/-- The slot's axes are ready (R155). -/
def Dev.feedReady (n s : Nat) (d : Dev) : Dev := { d with eng := { d.eng with fbReady := d.eng.fbReady ++ d.slotAxes n s } }
/-- Whether every uplink window of block `b` has closed at port `n`. -/
def Dev.uplinksClosed (d : Dev) (n : Nat) (b : SchedBlock) : Bool :=
  b.slots.zipIdx.all (fun x => x.1.kind != 2 || entryTime (d.headEnd n) x.1 == unusedTime || ((d.port n).slotRx x.2).closed)
/-- The lost set is formed after the last of them (R115). -/
def Dev.endUplinks (n : Nat) (b : SchedBlock) (d : Dev) : Dev := d.when (d.uplinksClosed n b && decide (n < 8)) (Dev.formLost n)

section
variable (n s : Nat) (d : Dev)

theorem windowClose_idle (b : SchedBlock) (e : SlotEntry) (hb : d.activeBlock n = some b) (he : b.slots[s]? = some e)
    (h : d.cyc.running = false ∨ nodeSlot e = false ∨ ((d.port n).slotRx s).closed = true) : Dev.windowClose n s d = d := by
  rcases hr : d.cyc.running with _ | _
  · simp only [Dev.windowClose, hr]
  · simp only [Dev.windowClose, hr, hb, he]
    refine if_pos ?_
    rcases h with h | h | h
    · simp [hr] at h
    · simp [h]
    · simp [h]

variable (hr : d.cyc.running = true) (b : SchedBlock) (hb : d.activeBlock n = some b) (e : SlotEntry) (he : b.slots[s]? = some e)
  (hn : nodeSlot e = true) (hc : ((d.port n).slotRx s).closed = false) (r : Nat) (h : r = ((d.port n).slotRx s).state) (d2 : Dev)
  (h2 : d2 = (d.setSlotRx n s { (d.port n).slotRx s with closed := true }).countSingle n r)
include hr hb he hn hc h h2

/-- The copies are counted; an uplink slot's silence, axes and lost set follow. -/
theorem windowClose_node : Dev.windowClose n s d =
    if e.kind ≠ 2 then d2.countCopies n r (d2.slotHolder n s b)
    else ((((d2.countCopies n r (d2.slotHolder n s b)).markSilent n r (d2.slotHolder n s b)).countSilence n r e).feedReady n s).endUplinks n b := by
  subst h
  unfold Dev.windowClose
  simp -zeta only [hr, hb, he]
  extract_lets q r0 e1 e2 noA noB holder e3 q3 e4 e5 ready eng e6 q6 all
  rw [if_neg (by simp [q, r0, hn, hc]), show d2 = e2 from h2, show e2.slotHolder n s b = holder from rfl,
    show e2.countCopies n r0.state holder = e3 from rfl, show e3.markSilent n r0.state holder = e4 from rfl,
    show e4.countSilence n r0.state e = e5 from rfl, show e5.feedReady n s = e6 from rfl]
  rfl

theorem windowClose_uplink (hk : e.kind = 2) : Dev.windowClose n s d =
    ((((d2.countCopies n r (d2.slotHolder n s b)).markSilent n r (d2.slotHolder n s b)).countSilence n r e).feedReady n s).endUplinks n b := by
  rw [windowClose_node n s d hr b hb e he hn hc r h d2 h2, if_neg (not_not_intro hk)]
theorem windowClose_other (hk : e.kind ≠ 2) : Dev.windowClose n s d = d2.countCopies n r (d2.slotHolder n s b) := by
  rw [windowClose_node n s d hr b hb e he hn hc r h d2 h2, if_pos hk]

end

/-! ## The holder of a slot (R92, R104) -/

/-- A slot's holder is read from the cycle's count, the pitches and the positions. -/
theorem slotHolder_congr {d e : Dev} {n : Nat} (hc : d.cyc = e.cyc) (hp : ∀ k, d.rd (NLS_PITCH n k) = e.rd (NLS_PITCH n k))
    (hw : ∀ p, d.rd (NLS_POS_W2 n p) = e.rd (NLS_POS_W2 n p)) (s : Nat) (b : SchedBlock) : d.slotHolder n s b = e.slotHolder n s b := by
  have state : ∀ k, d.get (NLS_PITCH.STATE n k) = e.get (NLS_PITCH.STATE n k) := fun k => congrArg (fun v => bitsOf v 1 0) (hp k)
  have holder : ∀ k, d.get (NLS_PITCH.HOLDER n k) = e.get (NLS_PITCH.HOLDER n k) := fun k => congrArg (fun v => bitsOf v 7 2) (hp k)
  have owner : d.slotOwner n s b = e.slotOwner n s b := by
    unfold Dev.slotOwner
    cases b.slots[s]? with
    | none => rfl
    | some x => simp only [state, holder, hc]
  have stands : ∀ p, (d.on (NLS_POS_W2.PRESENT n p) || d.on (NLS_POS_W2.PITCH n p)) = (e.on (NLS_POS_W2.PRESENT n p) || e.on (NLS_POS_W2.PITCH n p)) := by
    intro p
    simp only [Dev.on, Dev.get, NLS_POS_W2.PRESENT, NLS_POS_W2.PITCH, hw]
  simp only [Dev.slotHolder, owner, stands]
theorem slotHolder_claim {n s : Nat} {b : SchedBlock} {e : SlotEntry} (he : b.slots[s]? = some e) (hk : e.kind = 8) (d : Dev) :
    d.slotHolder n s b = none := by
  simp [Dev.slotHolder, Dev.slotOwner, he, hk]
theorem slotHolder_owned {n s p : Nat} {b : SchedBlock} {d : Dev} (ho : d.slotOwner n s b = some (some p))
    (h : d.on (NLS_POS_W2.PRESENT n p) = true ∨ d.on (NLS_POS_W2.PITCH n p) = true) : d.slotHolder n s b = some p := by
  simp only [Dev.slotHolder, ho]
  exact if_pos (by simpa using h)
/-- The count of single copies stands below the pitches and the positions. -/
theorem rd_countSingle {n a : Nat} (h : NLS_SINGLE_CNT n < a) (r : Nat) (d : Dev) : (d.countSingle n r).rd a = d.rd a :=
  when_keep (fun d => d.rd a) _ _ (fun _ => rd_count32_other _ _ _ _ (Nat.ne_of_gt h)) d
theorem slotHolder_closing (n s r : Nat) (x : SlotRx) (b : SchedBlock) (d : Dev) :
    ((d.setSlotRx n s x).countSingle n r).slotHolder n s b = d.slotHolder n s b := by
  have cycle : ∀ e : Dev, (e.countSingle n r).cyc = e.cyc := when_keep Dev.cyc _ (Dev.count32 (NLS_SINGLE_CNT n) 1) (Dev.count32_cyc _ _)
  refine slotHolder_congr (cycle _) (fun k => rd_countSingle ?_ r _) (fun p => rd_countSingle ?_ r _) s b
  · unfold NLS_SINGLE_CNT NLS_PITCH
    omega
  · unfold NLS_SINGLE_CNT NLS_POS_W2
    omega

/-! ## What the close of a window leaves of the slots and the engine -/

/-- The part of the device that the close of a window is about: what the port's windows hold, the engine, the active generation and the end. -/
def Dev.closePart (n : Nat) (d : Dev) : List (Nat × SlotRx) × Eng × Option Generation × Sys := ((d.port n).rx, d.eng, d.cyc.active, d.sys)

theorem rx_of_closePart {n : Nat} {d e : Dev} (h : d.closePart n = e.closePart n) : (d.port n).rx = (e.port n).rx := congrArg Prod.fst h
theorem eng_of_closePart {n : Nat} {d e : Dev} (h : d.closePart n = e.closePart n) : d.eng = e.eng := congrArg (fun x => x.2.1) h
theorem active_of_closePart {n : Nat} {d e : Dev} (h : d.closePart n = e.closePart n) : d.cyc.active = e.cyc.active := congrArg (fun x => x.2.2.1) h
theorem sys_of_closePart {n : Nat} {d e : Dev} (h : d.closePart n = e.closePart n) : d.sys = e.sys := congrArg (fun x => x.2.2.2) h
theorem slotRx_congr {p q : Port} (h : p.rx = q.rx) (s : Nat) : p.slotRx s = q.slotRx s := by rw [Port.slotRx, h, Port.slotRx]
theorem slotAxes_congr {d e : Dev} (h : d.cyc.active = e.cyc.active) (n s : Nat) : d.slotAxes n s = e.slotAxes n s := by
  rw [Dev.slotAxes, Dev.binds, h, Dev.slotAxes, Dev.binds]

section
variable (n : Nat)

theorem closePart_set (f : Fld) (v : Nat) (d : Dev) : (Dev.set f v d).closePart n = d.closePart n := rfl
theorem closePart_count (f : Fld) (v : Nat) (d : Dev) : (Dev.count f v d).closePart n = d.closePart n := rfl
theorem closePart_post (x y : Nat) (bs : List Byte) (d : Dev) : (Dev.post x y bs d).closePart n = d.closePart n := rfl
theorem closePart_cond (k : Nat) (v : Bool) (d : Dev) : (Dev.cond k v d).closePart n = d.closePart n := by
  unfold Dev.cond
  split
  · rfl
  · dsimp only
    split <;> split <;> rfl
theorem closePart_setPort {p : Port} {d : Dev} (h : p.rx = (d.port n).rx) : (d.setPort n p).closePart n = d.closePart n := by
  simp only [Dev.closePart, port_setPort, Dev.setPort_eng, Dev.setPort_cyc, Dev.setPort_sys, h]
theorem closePart_mirOut (o : Output) (d : Dev) : (Dev.mirOut o d).closePart n = d.closePart n := by
  unfold Dev.mirOut
  split <;> rfl
theorem closePart_countSingle (r : Nat) (d : Dev) : (d.countSingle n r).closePart n = d.closePart n :=
  when_keep (Dev.closePart n) _ (Dev.count32 (NLS_SINGLE_CNT n) 1) (fun _ => rfl) d
theorem closePart_countCopies (r : Nat) (h : Option Nat) (d : Dev) : (d.countCopies n r h).closePart n = d.closePart n := by
  cases h with
  | none => rfl
  | some p => exact (when_keep (Dev.closePart n) _ _ (closePart_count n _ _) _).trans (when_keep (Dev.closePart n) _ _ (closePart_count n _ _) _)
theorem closePart_markSilent (r : Nat) (h : Option Nat) (d : Dev) : (d.markSilent n r h).closePart n = d.closePart n := by
  cases h with
  | none => rfl
  | some p => exact closePart_setPort n rfl
theorem closePart_pitchSilence (k : Nat) (d : Dev) : (Dev.pitchSilence n k d).closePart n = d.closePart n := by
  unfold Dev.pitchSilence
  split <;> rfl
theorem closePart_countSilence (r : Nat) (e : SlotEntry) (d : Dev) : (d.countSilence n r e).closePart n = d.closePart n := by
  unfold Dev.countSilence
  exact when_keep (Dev.closePart n) _ _ (fun _ => (closePart_pitchSilence n _ _).trans (closePart_set n _ _ _)) d
theorem closePart_formLost (d : Dev) : (Dev.formLost n d).closePart n = d.closePart n := by
  unfold Dev.formLost
  dsimp only
  rw [when_keep (Dev.closePart n) _ _ (closePart_post n _ _ _), when_keep (Dev.closePart n) _ _ (closePart_post n _ _ _), closePart_cond, closePart_set,
    closePart_set, closePart_set, closePart_set, closePart_set]
  exact closePart_setPort n rfl
theorem closePart_endUplinks (b : SchedBlock) (d : Dev) : (d.endUplinks n b).closePart n = d.closePart n :=
  when_keep (Dev.closePart n) _ _ (closePart_formLost n) d
theorem closePart_windowClosed (s : Nat) (d : Dev) : (d.windowClosed n s).closePart n = (d.windowClose n s).closePart n := by
  unfold Dev.windowClosed
  dsimp only
  split
  · exact closePart_mirOut n _ _
  · rfl

end

/-- Closing an uplink slot's window leaves it closed, and its axes join those that are ready. -/
theorem windowClosed_uplink (n s : Nat) (d : Dev) (hr : d.cyc.running = true) (b : SchedBlock) (hb : d.activeBlock n = some b) (e : SlotEntry)
    (he : b.slots[s]? = some e) (hn : nodeSlot e = true) (hc : ((d.port n).slotRx s).closed = false) (hk : e.kind = 2) :
    (((d.windowClosed n s).port n).slotRx s).closed = true ∧ (d.windowClosed n s).eng.fbReady = d.eng.fbReady ++ d.slotAxes n s := by
  obtain ⟨d1, h1⟩ : ∃ d1, d1 = d.setSlotRx n s { (d.port n).slotRx s with closed := true } := ⟨_, rfl⟩
  obtain ⟨r, h⟩ : ∃ r, r = ((d.port n).slotRx s).state := ⟨_, rfl⟩
  obtain ⟨d3, h3⟩ : ∃ d3, d3 = (((d1.countSingle n r).countCopies n r ((d1.countSingle n r).slotHolder n s b)).markSilent n r
    ((d1.countSingle n r).slotHolder n s b)).countSilence n r e := ⟨_, rfl⟩
  have part3 : d3.closePart n = d1.closePart n := by
    rw [h3, closePart_countSilence, closePart_markSilent, closePart_countCopies, closePart_countSingle]
  have part : (d.windowClosed n s).closePart n = (d3.feedReady n s).closePart n := by
    rw [closePart_windowClosed, windowClose_uplink n s d hr b hb e he hn hc r h _ rfl hk, closePart_endUplinks, ← h1, ← h3]
  have active : d3.cyc.active = d.cyc.active := (active_of_closePart part3).trans (by rw [h1]; rfl)
  have eng : d3.eng = d.eng := (eng_of_closePart part3).trans (by rw [h1]; rfl)
  constructor
  · rw [slotRx_congr (rx_of_closePart part), show (d3.feedReady n s).port n = d3.port n from rfl, slotRx_congr (rx_of_closePart part3), h1,
      slotRx_setSlotRx_same]
  · rw [eng_of_closePart part, ← slotAxes_congr active, ← eng]
    rfl

/-! ## When a standby's SUMMARY goes out (R297) -/

/-- Whether every uplink window of the port's active block has closed. -/
def Dev.allUplinksClosed (d : Dev) (n : Nat) : Bool :=
  match d.activeBlock n with
  | some b => d.uplinksClosed n b
  | none => true
theorem allUplinksClosed_some {d : Dev} {n : Nat} {b : SchedBlock} (h : d.activeBlock n = some b) : d.allUplinksClosed n = d.uplinksClosed n b := by
  rw [Dev.allUplinksClosed, h]
/-- No SUMMARY goes out when the close of the window closes no segment. -/
theorem windowClosed_unsent {n s : Nat} {d : Dev} (h : (d.windowClose n s).allUplinksClosed n = d.allUplinksClosed n) :
    d.windowClosed n s = d.windowClose n s := by
  have same : (!d.allUplinksClosed n && (d.windowClose n s).allUplinksClosed n) = false := by
    rw [h, Bool.not_and_self]
  refine if_neg ?_
  change ¬ (!d.allUplinksClosed n && (d.windowClose n s).allUplinksClosed n && decide _) = true
  rw [same, Bool.false_and]
  decide
theorem windowClosed_fixed {n s : Nat} {d : Dev} (h : d.windowClose n s = d) : d.windowClosed n s = d :=
  (windowClosed_unsent (congrArg (fun e => e.allUplinksClosed n) h)).trans h
/-- The uplink windows stand as they did when their slots do. -/
theorem uplinksClosed_congr {d e : Dev} {n : Nat} {b : SchedBlock} (hs : d.headEnd n = e.headEnd n)
    (h : ∀ k x, b.slots[k]? = some x → x.kind = 2 → (d.port n).slotRx k = (e.port n).slotRx k) : d.uplinksClosed n b = e.uplinksClosed n b := by
  unfold Dev.uplinksClosed
  rw [Bool.eq_iff_iff, List.all_eq_true, List.all_eq_true]
  refine forall₂_congr fun x hx => ?_
  have hk := List.mem_zipIdx_iff_getElem?.mp hx
  by_cases hu : x.1.kind = 2
  · rw [hs, h x.2 x.1 hk hu]
  · simp [hu]

section
variable (n s : Nat) (d : Dev) (hr : d.cyc.running = true) (b : SchedBlock) (hb : d.activeBlock n = some b) (e : SlotEntry) (he : b.slots[s]? = some e)
  (hn : nodeSlot e = true) (hc : ((d.port n).slotRx s).closed = false) (r : Nat) (h : r = ((d.port n).slotRx s).state) (d2 : Dev)
  (h2 : d2 = (d.setSlotRx n s { (d.port n).slotRx s with closed := true }).countSingle n r) (hk : e.kind ≠ 2)
include hr hb he hn hc h h2 hk

/-- Closing another slot's window counts its copies and sends nothing. -/
theorem windowClosed_other : d.windowClosed n s = d2.countCopies n r (d.slotHolder n s b) := by
  have holder : d2.slotHolder n s b = d.slotHolder n s b := h2 ▸ slotHolder_closing n s r _ b d
  have close := windowClose_other n s d hr b hb e he hn hc r h d2 h2 hk
  rw [holder] at close
  refine (windowClosed_unsent ?_).trans close
  rw [close]
  have part : (d2.countCopies n r (d.slotHolder n s b)).closePart n = (d.setSlotRx n s { (d.port n).slotRx s with closed := true }).closePart n := by
    rw [closePart_countCopies, h2, closePart_countSingle]
  have block : (d2.countCopies n r (d.slotHolder n s b)).activeBlock n = some b := by
    rw [Dev.activeBlock, active_of_closePart part]
    exact hb
  rw [allUplinksClosed_some block, allUplinksClosed_some hb]
  refine uplinksClosed_congr (by rw [Dev.headEnd, sys_of_closePart part]; rfl) fun k x hx hu => ?_
  have apart : k ≠ s := by
    rintro rfl
    exact hk (by rwa [Option.some.inj (he.symm.trans hx)])
  rw [slotRx_congr (rx_of_closePart part), slotRx_setSlotRx_other apart]
theorem windowClosed_claim (h8 : e.kind = 8) : d.windowClosed n s = d2 := by
  rw [windowClosed_other n s d hr b hb e he hn hc r h d2 h2 hk, slotHolder_claim he h8]
  rfl
theorem windowClosed_owned (p : Nat) (ho : d.slotOwner n s b = some (some p))
    (hp : d.on (NLS_POS_W2.PRESENT n p) = true ∨ d.on (NLS_POS_W2.PITCH n p) = true) : d.windowClosed n s = d2.countCopies n r (some p) := by
  rw [windowClosed_other n s d hr b hb e he hn hc r h d2 h2 hk, slotHolder_owned ho hp]

end

end Sys2Proof.Machine

open Sys2Proof Sys2Proof.Machine

/-- Settles O25: a frame's clauses follow the order of its checks and the state of its slot (R84, R86, R104, R108, R155); the close of a window follows
the slot's kind and holder, and of an uplink slot the windows and the engine are read back (R104, R106). -/
theorem nodeFramesAreFiltered : Obligations.NodeFramesAreFiltered := by
  refine ⟨fun s n c sof bs hr => ⟨fun h => next_of_dev (nodeFrame_idle_bad _ _ _ _ _ hr h), fun hh hk => next_of_fixed (nodeFrame_idle_good _ _ _ _ _ hr hh hk)⟩,
    ?header, ?outside, ?misfit, ?fits, ?close,
    fun s n b e sl hb he h => next_of_fixed (windowClosed_fixed (windowClose_idle _ _ _ b e hb he h))⟩
  case header =>
    rintro s n c sof bs b _ hr hb rfl
    exact ⟨fun hh => next_of_dev (nodeFrame_badHeader _ _ _ _ _ hr b hb hh), fun hh hk => next_of_dev (nodeFrame_unknownType _ _ _ _ _ hr b hb hh hk)⟩
  case outside =>
    intro s n c sof bs b far hr hb hh hk hw hfar
    have out := nodeFrame_outside n.val c.val _ _ _ hr b hb hh hk hw
    rw [show s.dev.fromFarEnd n.val sof.toNat (parseFrame bs) b = far from hfar.symm] at out
    refine ⟨fun h => next_of_dev (out.trans ?_), fun h => next_of_fixed (out.trans ?_)⟩
    · rw [h]
      rfl
    · rw [h]
      rfl
  case misfit =>
    intro s n c sof bs b e sl hr hb hh hk hw h
    exact next_of_dev (nodeFrame_misfit _ _ _ _ _ hr b hb hh hk e sl hw (frameFits_false h))
  case fits =>
    intro s n c sof bs b e sl hr hb hh hk hw ht hs hcy ho
    have fits := frameFits_true ht hs hcy ho
    refine ⟨fun hx => next_of_dev (nodeFrame_badPayload _ _ _ _ _ hr b hb hh hk e sl hw fits hx),
      fun ho hx => next_of_fixed (nodeFrame_fenced _ _ _ _ _ hr b hb hh hk e sl hw fits ho hx), fun ho hx u d1 hu h1 => ?_⟩
    have taken := nodeFrame_taken n.val c.val _ _ _ hr b hb hh hk e sl hw fits ho hx
    obtain rfl : u = frameContent bs := hu
    refine ⟨fun h2 h0 => next_of_dev (taken.trans (takeCopy_uplink _ _ _ _ _ _ _ h0 d1 h1 h2 hx)),
      fun h8 h0 => next_of_dev (taken.trans (takeCopy_async _ _ _ _ _ _ _ h0 d1 h1 h8)),
      fun h2 h8 h0 => next_of_dev (taken.trans (takeCopy_kept _ _ _ _ _ _ _ h0 d1 h1 h2 h8)),
      fun h => next_of_fixed (taken.trans (takeCopy_repeated _ _ _ _ _ _ _ h)), fun h => ⟨_, rfl, fun hu => ?_, fun hu => ?_⟩⟩
    · exact next_of_dev (taken.trans (takeCopy_agrees _ _ _ _ _ _ _ c.isLt h hu))
    · exact next_of_dev (taken.trans (takeCopy_disagrees _ _ _ _ _ _ _ c.isLt h hu))
  case close =>
    intro s n b e sl r d1 d2 hr hb he hn hc h h1 h2
    obtain rfl : d1 = s.dev.setSlotRx n.val sl.val { (s.dev.port n.val).slotRx sl.val with closed := true } := h1
    refine ⟨fun h8 => ?_, fun p hk ho hp => ?_, fun hk => ⟨_, rfl, windowClosed_uplink _ _ _ hr b hb e he hn hc hk⟩⟩
    · exact next_of_dev (windowClosed_claim _ _ _ hr b hb e he hn hc r h d2 h2 (by omega) h8)
    · exact next_of_dev (windowClosed_owned _ _ _ hr b hb e he hn hc r h d2 h2 hk p ho hp)
end

section
/-! PROOFS. The acceptance of the host's packets in the order of its checks (R140, R141, R386, R391, R399 to R402), and O58. -/
namespace Sys2Proof.Machine

/-- A command that is a packet of the host means what its opcode's acceptance makes of the device part. -/
theorem exec_packetOf {c : Instr} {s : State} {op : Opcode} {p : Packet} (h : packetOf c s = some (op, p)) :
    exec c s = .next (s.onDev (Dev.packet op p)) := by
  -- a command that is no packet contradicts the hypothesis; the meaning of each of the others is that of its opcode by definition
  cases c <;> cases h <;> rfl

/-! ## How late a scheduled action is (R140) -/

theorem lateness_early {e t : Nat} (tol dflt : Nat) (h : e ≤ t) : lateness e t tol dflt = 0 := if_pos h
/-- An action behind its time is judged by its tolerance; the code 0xFFFFFFFE stands for the default. -/
theorem lateness_behind {e t : Nat} (tol dflt : Nat) (h : t < e) : lateness e t tol dflt =
    if (if tol = 0xFFFFFFFE then dflt else tol) = 0xFFFFFFFF ∨ e - t ≤ ns (if tol = 0xFFFFFFFE then dflt else tol) then 1 else 2 := by
  simp [lateness, Nat.not_le.mpr h]
theorem lateness_within {e t tol : Nat} (dflt : Nat) (h : t < e) (hw : tol = 0xFFFFFFFF ∨ (tol < 0xFFFFFFFE ∧ e ≤ t + ns tol)) :
    lateness e t tol dflt = 1 := by
  have named : tol ≠ 0xFFFFFFFE := by omega
  rw [lateness_behind _ _ h, if_neg named, if_pos (by omega)]
theorem lateness_missed {e t tol : Nat} (h : t < e) (hm : tol = 0xFFFFFFFE ∨ (tol < 0xFFFFFFFE ∧ t + ns tol < e)) : lateness e t tol 0 = 2 := by
  rw [lateness_behind _ _ h]
  rcases hm with rfl | ⟨hlt, hm⟩
  · rw [if_pos rfl, if_neg (by unfold ns; omega)]
  · have named : tol ≠ 0xFFFFFFFE := Nat.ne_of_lt hlt
    rw [if_neg named, if_neg (by omega)]

/-! ## A scheduled packet is held, late or missed (R141, R400) -/

section
variable (op : Opcode) (p : Packet) (ref : PktRef) (d : Dev)

/-- What becomes of a scheduled packet that has passed the checks, by its lateness. -/
def Dev.schedulePacket (late : Nat) : Dev :=
  match late with
  | 0 => if 256 ≤ d.hif.held.length then d.complete ref stNO_RESOURCE d.now []
         else Dev.showHeld { d with hif := { d.hif with held := d.hif.held ++ [⟨op.code, p, ref⟩] } }
  | 1 => Dev.answer { ref with late := true } (op.run p { ref with late := true } d)
  | _ => d.complete ref stMISSED d.now []

theorem schedulePacket_held (h : d.hif.held.length < 256) :
    d.schedulePacket op p ref 0 = Dev.showHeld { d with hif := { d.hif with held := d.hif.held ++ [⟨op.code, p, ref⟩] } } := if_neg (Nat.not_le.mpr h)
theorem schedulePacket_full (h : 256 ≤ d.hif.held.length) : d.schedulePacket op p ref 0 = d.complete ref stNO_RESOURCE d.now [] := if_pos h

end

/-! ## The checks of acceptance, in their order (R391, R399 to R401) -/

section
variable (op : Opcode) (p p' : Packet) (ref : PktRef) (d d1 : Dev)

/-- An accepted packet is judged on the state that owes it a completion. -/
theorem packet_present (h : d.ready = true) : Dev.packet op p d = (d.owe p.sq.val).acceptFor op p (refOf p d) := by
  simp [Dev.packet, Dev.accept, h, owe_epoch, refOf]
theorem acceptFor_badLength (h : p.len.toNat < op.lMin ∨ op.lMax < p.len.toNat) :
    d.acceptFor op p ref = d.complete ref stBAD_LENGTH d.now [] := if_pos (by simpa using h)

section
variable (hmin : op.lMin ≤ p.len.toNat) (hmax : p.len.toNat ≤ op.lMax)
include hmin hmax

theorem acceptFor_badFlags (h : 16 ≤ p.flags.toNat ∨ hasFlag p 0 ≠ (decide (0 < p.len.toNat) || hasFlag p 1) ∨ (hasFlag p 2 = true ∧ op.sched = false)) :
    d.acceptFor op p ref = d.complete ref stBAD_PARAMETER d.now [] := by
  unfold Dev.acceptFor
  rw [if_neg (by simp; omega), if_pos]
  simpa only [Bool.or_eq_true, Bool.and_eq_true, Bool.not_eq_true', bne_iff_ne, decide_eq_true_eq, or_assoc] using h

variable (hflags : p.flags.toNat < 16) (hext : hasFlag p 0 = (decide (0 < p.len.toNat) || hasFlag p 1)) (hsched : hasFlag p 2 = true → op.sched = true)
include hflags hext hsched

theorem acceptFor_unauthenticated (ha : d.authenticate op p = (none, d1)) :
    d.acceptFor op p ref = d1.complete ref stNOT_AUTHENTICATED d1.now [] := by
  unfold Dev.acceptFor
  rw [if_neg (by simp; omega), if_neg (by simpa [hext, hflags] using hsched), ha]

variable (ha : d.authenticate op p = (some p', d1))
include ha

/-- An authenticated packet is checked for its mode, and scheduled or run. -/
theorem acceptFor_authenticated (late : Nat) (hl : lateness (d1.now + ns 1000) p'.execAt.toNat p'.tol.toNat 0 = late) : d.acceptFor op p ref =
    if op.modes p' d1 ≠ 0 then d1.complete ref (op.modes p' d1) d1.now []
    else if hasFlag p' 2 && !op.ownTime then d1.schedulePacket op p' ref late else Dev.answer ref (op.run p' ref d1) := by
  unfold Dev.acceptFor
  rw [if_neg (by simp; omega), if_neg (by simpa [hext, hflags] using hsched), ha]
  by_cases hm : op.modes p' d1 ≠ 0
  · exact (if_pos hm).trans (if_pos hm).symm
  by_cases hw : (hasFlag p' 2 && !op.ownTime) = true
  · refine (if_neg hm).trans ((if_pos hw).trans (Eq.trans ?_ ((if_neg hm).trans (if_pos hw)).symm))
    rw [hl]
    rfl
  · exact (if_neg hm).trans ((if_neg hw).trans ((if_neg hm).trans (if_neg hw)).symm)
theorem acceptFor_wrongMode (hm : op.modes p' d1 ≠ 0) : d.acceptFor op p ref = d1.complete ref (op.modes p' d1) d1.now [] := by
  rw [acceptFor_authenticated op p p' ref d d1 hmin hmax hflags hext hsched ha _ rfl, if_pos hm]

variable (hm : op.modes p' d1 = 0)
include hm

theorem acceptFor_atOnce (ho : hasFlag p' 2 = false ∨ op.ownTime = true) : d.acceptFor op p ref = Dev.answer ref (op.run p' ref d1) := by
  have now : ¬(hasFlag p' 2 && !op.ownTime) = true := by
    rcases ho with h | h <;> simp [h]
  rw [acceptFor_authenticated op p p' ref d d1 hmin hmax hflags hext hsched ha _ rfl, if_neg (not_not.mpr hm), if_neg now]
theorem acceptFor_scheduled (h2 : hasFlag p' 2 = true) (ho : op.ownTime = false) (late : Nat)
    (hl : lateness (d1.now + ns 1000) p'.execAt.toNat p'.tol.toNat 0 = late) : d.acceptFor op p ref = d1.schedulePacket op p' ref late := by
  have waits : (hasFlag p' 2 && !op.ownTime) = true := by simp [h2, ho]
  rw [acceptFor_authenticated op p p' ref d d1 hmin hmax hflags hext hsched ha late hl, if_neg (not_not.mpr hm), if_pos waits]

end
end
end Sys2Proof.Machine

open Sys2Proof Sys2Proof.Machine

/-- Settles O58: the clauses follow the order of the checks of a packet's acceptance (R391, R399 to R402); a scheduled packet is judged by its lateness
(R140, R141). -/
theorem packetsAreCheckedInOrder : Obligations.PacketsAreCheckedInOrder := by
  intro c s op p hc
  rw [exec_packetOf hc]
  refine ⟨fun hr => next_of_fixed (packet_absent op p s.dev hr), fun d0 hr hd => ?_⟩
  subst hd
  -- with the endpoint present it is enough to say what acceptance makes of the state that owes the completion
  have accepted : ∀ {e : Dev}, (s.dev.owe p.sq.val).acceptFor op p (refOf p s.dev) = e →
      (Host.Outcome.next (s.onDev (Dev.packet op p)) : Answer) = .next (s.onDev (fun _ => e)) :=
    fun he => next_of_dev ((packet_present op p s.dev hr).trans he)
  refine ⟨fun h => accepted (acceptFor_badLength _ _ _ _ h), fun hmin hmax => ⟨fun h => accepted (acceptFor_badFlags _ _ _ _ hmin hmax h),
    fun hf hx hs => ⟨fun d1 ha => accepted (acceptFor_unauthenticated _ _ _ _ _ hmin hmax hf hx hs ha), fun p' d1 ha => ⟨fun hm => ?_, fun hm ho => ?_,
      fun hm h2 ho => ?_⟩⟩⟩⟩
  · exact accepted (acceptFor_wrongMode _ _ _ _ _ _ hmin hmax hf hx hs ha hm)
  · exact accepted (acceptFor_atOnce _ _ _ _ _ _ hmin hmax hf hx hs ha hm ho)
  · have scheduled : ∀ late, lateness (d1.now + ns 1000) p'.execAt.toNat p'.tol.toNat 0 = late →
        (s.dev.owe p.sq.val).acceptFor op p (refOf p s.dev) = d1.schedulePacket op p' (refOf p s.dev) late :=
      acceptFor_scheduled _ _ _ _ _ _ hmin hmax hf hx hs ha hm h2 ho
    refine ⟨fun h hr => accepted ((scheduled 0 (lateness_early _ _ h)).trans (schedulePacket_held _ _ _ _ hr)),
      fun h hr => accepted ((scheduled 0 (lateness_early _ _ h)).trans (schedulePacket_full _ _ _ _ hr)),
      fun h ht => accepted (scheduled 2 (lateness_missed h ht)), fun r h ht hr => ?_⟩
    subst hr
    exact accepted (scheduled 1 (lateness_within _ h ht))

end

section
/-! PROOFS. The timebase with no command waiting (R44, R120), and O2. -/
namespace Sys2Proof.Machine

theorem step_empty {s : State} (h : s.pending = []) : step s = .next s.idle := by simp [step, h]
/-- PERMIT_OUT keeps its level while it is inactive (R287). -/
theorem permitPin_inactive {d : Dev} (h : d.on MIR_STATUS.PERMIT_OUT = false) : d.permitPin = d := by simp [Dev.permitPin, h]
theorem takeReset_not_due {s : State} (hs : s.dev.sys.selfReset = false) (hd : s.dev.sys.resetDue = none) : s.takeReset = s := by
  simp [State.takeReset, hs, hd]
theorem idle_before_boot {s : State} (h : s.dev.mode < 2) : s.idle = s := if_neg (Nat.not_le.mpr h)
/-- From Boot on an idle step is a tick of the timebase alone. -/
theorem idle_ticks {s : State} (hm : 2 ≤ s.dev.mode) (hp : s.dev.on MIR_STATUS.PERMIT_OUT = false) (hs : s.dev.sys.selfReset = false)
    (hd : s.dev.sys.resetDue = none) : s.idle = s.onDev Dev.tick := by
  have pin : s.dev.tick.permitPin = s.dev.tick := permitPin_inactive hp
  rw [State.idle, if_pos hm, State.onDev_congr (g := Dev.tick) pin]
  exact takeReset_not_due hs hd

end Sys2Proof.Machine

open Sys2Proof Sys2Proof.Machine

/-- Settles O2: an idle step is the tick of R120, since PERMIT_OUT keeps its level and no reset is due. -/
theorem emptyQueueStepTicks : Obligations.EmptyQueueStepTicks := by
  refine ⟨fun s he hm => ?_, fun s he hm hp hs hd => ?_⟩
  · rw [step_empty he, idle_before_boot hm]
  · rw [step_empty he, idle_ticks hm hp hs hd]
    rfl

end

section
/-! PROOFS. Line time (R121, R122, R125 to R136, R146): holdover and origin, PPS, the second, the stamp queue, and O21. -/
namespace Sys2Proof.Machine

/-! ## Flags, conditions and the source's registers -/

theorem on_set_other (f g : Fld) (v : Nat) (d : Dev) (h : f.hi < 32) (ap : g.a ≠ f.a ∨ g.hi < f.lo ∨ f.hi < g.lo) : (Dev.set f v d).on g = d.on g := by
  rw [Dev.on, Dev.get_set_other f g v d h ap, Dev.on]
/-- A one-bit field shows the flag that was written to it. -/
theorem on_set_flag (f : Fld) (b : Bool) (d : Dev) (h : f.hi < 32) (one : f.hi = f.lo) : (Dev.set f (flag b) d).on f = b := by
  rw [Dev.on, Dev.get_set_same f _ d h, one, Nat.add_sub_cancel_left]
  cases b <;> rfl
theorem hasCond_congr {d e : Dev} (h : d.rd SYS_COND = e.rd SYS_COND) (b : Nat) : d.hasCond b = e.hasCond b := congrArg (fun v => bitAt v b) h
/-- A condition shows in the condition registers alone. -/
theorem get_cond_other (k : Nat) (v : Bool) (f : Fld) (d : Dev) (h1 : f.a ≠ SYS_COND) (h2 : f.a ≠ SYS_COND_STICKY) : (Dev.cond k v d).get f = d.get f :=
  congrArg (fun x => bitsOf x f.hi f.lo) (rd_cond_other k v f.a d h1 h2)

theorem rd_setSource_other (p a : Nat) (d : Dev) (h : a ≠ LTM_STATUS) : (Dev.setSource p d).rd a = d.rd a :=
  (Dev.rd_set_other LTM_STATUS.STALE _ a _ h).trans (Dev.rd_set_other LTM_STATUS.SOURCE_PORT _ a _ h)
theorem get_setSource_port (p : Nat) (d : Dev) : (Dev.setSource p d).get LTM_STATUS.SOURCE_PORT = p % 256 :=
  (Dev.get_set_other LTM_STATUS.STALE _ _ _ (by decide) (by decide)).trans (Dev.get_set_same _ _ _ (by decide))
theorem get_setSource_other (p : Nat) (f : Fld) (d : Dev) (hp : f.a ≠ LTM_STATUS ∨ f.hi < 8 ∨ 15 < f.lo) (hs : f.a ≠ LTM_STATUS ∨ f.hi < 5 ∨ 5 < f.lo) :
    (Dev.setSource p d).get f = d.get f :=
  (Dev.get_set_other LTM_STATUS.STALE f _ _ (by decide) hs).trans (Dev.get_set_other LTM_STATUS.SOURCE_PORT f _ _ (by decide) hp)

/-! ## Holdover and the origin (R128 to R130) -/

section
variable (d : Dev)

theorem enterHoldover_waits (h : d.sync = false ∨ d.on LTM_STATUS.ORIGIN = true ∨ d.on LTM_STATUS.HOLDOVER = true ∨ d.ltm.noSource < d.holdoverLimit) :
    d.enterHoldover = d := by
  refine if_pos ?_
  simp only [Bool.or_eq_true, Bool.not_eq_true', decide_eq_true_eq]
  tauto
theorem enterHoldover_enters (hs : d.sync = true) (ho : d.on LTM_STATUS.ORIGIN = false) (hh : d.on LTM_STATUS.HOLDOVER = false)
    (hn : d.holdoverLimit ≤ d.ltm.noSource) : d.enterHoldover =
    (((d.set LTM_STATUS.HOLDOVER 1).cond condSYNC_HOLDOVER true).post 0x0200 0x0202 (leBytes 1 (d.get LTM_STATUS.SOURCE_PORT))).setSource 0xFF :=
  if_neg (by simp [hs, ho, hh, hn])
/-- The registers of a controller in holdover: it has no source, and its rate stays (R130). -/
theorem enterHoldover_shows (hs : d.sync = true) (ho : d.on LTM_STATUS.ORIGIN = false) (hh : d.on LTM_STATUS.HOLDOVER = false)
    (hn : d.holdoverLimit ≤ d.ltm.noSource) : d.enterHoldover.on LTM_STATUS.HOLDOVER = true ∧ d.enterHoldover.hasCond condSYNC_HOLDOVER = true ∧
      d.enterHoldover.get LTM_STATUS.SOURCE_PORT = 0xFF ∧ d.enterHoldover.rate = d.rate := by
  rw [enterHoldover_enters d hs ho hh hn]
  refine ⟨?_, ?_, ?_, ?_⟩
  · rw [Dev.on, get_setSource_other _ _ _ (by decide) (by decide), Dev.get_post, get_cond_other _ _ _ _ (by decide) (by decide)]
    exact on_set_flag LTM_STATUS.HOLDOVER true d (by decide) rfl
  · rw [hasCond_congr (rd_setSource_other _ _ _ (by decide)), hasCond_congr (Dev.rd_post _ _ _ _ _), hasCond_cond _ _ _ (by decide)]
  · rw [get_setSource_port]
  · rw [Dev.rate, rd_setSource_other _ _ _ (by decide), Dev.rd_post, rd_cond_other _ _ _ _ (by decide) (by decide),
      Dev.rd_set_other _ _ _ _ (by decide), Dev.rate]

theorem on_leaveHoldover (p : Nat) : (d.leaveHoldover p).on LTM_STATUS.HOLDOVER = false := by
  unfold Dev.leaveHoldover
  extract_lets e
  split
  case isTrue =>
    rw [Dev.on, Dev.get_post, get_cond_other _ _ _ _ (by decide) (by decide)]
    exact on_set_flag LTM_STATUS.HOLDOVER false _ (by decide) rfl
  case isFalse h => exact Bool.eq_false_iff.mpr h
theorem get_leaveHoldover_other (p : Nat) (f : Fld) (hs : f.a ≠ LTM_STATUS ∨ f.hi < 2 ∨ 2 < f.lo) (h1 : f.a ≠ SYS_COND) (h2 : f.a ≠ SYS_COND_STICKY) :
    (d.leaveHoldover p).get f = d.get f := by
  unfold Dev.leaveHoldover
  extract_lets e
  split
  · rw [Dev.get_post, get_cond_other _ _ _ _ h1 h2, Dev.get_set_other LTM_STATUS.HOLDOVER f _ _ (by decide) hs]
    rfl
  · rfl

/-- The registers of a controller that has become the origin (R129, R130). -/
theorem becomeOrigin_shows : d.becomeOrigin.on LTM_STATUS.ORIGIN = true ∧ d.becomeOrigin.on LTM_STATUS.HOLDOVER = false ∧
    d.becomeOrigin.get LTM_LINE.ORIGIN_RANK = d.get LTM_LINE.LINE_RANK := by
  unfold Dev.becomeOrigin
  extract_lets k was e e2
  have posted : ∀ f, (e2.when (!was) (Dev.post 0x0200 0x0204 (leBytes 1 0xFF ++ leBytes 1 e2.sys.index ++ leBytes 1 k ++ leBytes 1 0))).get f = e2.get f :=
    fun f => when_keep (fun x => x.get f) _ _ (fun _ => Dev.get_post _ _ _ _ _) e2
  refine ⟨?_, ?_, ?_⟩
  · rw [Dev.on, posted, get_leaveHoldover_other _ _ _ (by decide) (by decide) (by decide), Dev.get_set_other _ _ _ _ (by decide) (by decide),
      Dev.get_set_other _ _ _ _ (by decide) (by decide), Dev.get_set_other _ _ _ _ (by decide) (by decide),
      get_setSource_other _ _ _ (by decide) (by decide)]
    exact on_set_flag LTM_STATUS.ORIGIN true d (by decide) rfl
  · rw [Dev.on, posted]
    exact on_leaveHoldover _ _
  · rw [posted, get_leaveHoldover_other _ _ _ (by decide) (by decide) (by decide), Dev.get_set_same _ _ _ (by decide)]
    exact Nat.mod_eq_of_lt (Dev.get_lt d LTM_LINE.LINE_RANK)
theorem takeOrigin_waits (h : d.on LTM_STATUS.HOLDOVER = false ∨ d.get LTM_LINE.LINE_RANK = 0 ∨ 3 < d.get LTM_LINE.LINE_RANK ∨ d.mode = 8 ∨
    d.ltm.noSource < d.holdoverLimit + 64 * d.get LTM_LINE.LINE_RANK) : d.takeOrigin = d := by
  refine if_neg ?_
  simp only [Bool.and_eq_true, decide_eq_true_eq]
  rintro ⟨⟨⟨⟨hh, h1⟩, h3⟩, hm⟩, hn⟩
  rcases h with h | h | h | h | h
  · simp [hh] at h
  all_goals omega
theorem takeOrigin_takes (hh : d.on LTM_STATUS.HOLDOVER = true) (h1 : 1 ≤ d.get LTM_LINE.LINE_RANK) (h3 : d.get LTM_LINE.LINE_RANK ≤ 3)
    (hm : d.mode ≠ 8) (hn : d.holdoverLimit + 64 * d.get LTM_LINE.LINE_RANK ≤ d.ltm.noSource) : d.takeOrigin = d.becomeOrigin :=
  if_pos (by simp [hh, h1, h3, hm, hn])

/-! ## Shared masters (R131) -/

theorem trunkMasters_logged (x : List Byte) (hn : min 128 (x.length / 16) ≠ 0) (hm : d.mode ≠ 8) (hs : d.sync = true) :
    d.trunkMasters x = d.logInput 0x07 (4 + 16 * min 128 (x.length / 16))
      (.masters (leBytes 10 d.cyc.ref ++ x.take (16 * min 128 (x.length / 16)))) none :=
  if_neg (by simp only [hs, Bool.or_eq_true, decide_eq_true_eq, Bool.not_true, Bool.false_eq_true, or_false, not_or]; exact ⟨hn, hm⟩)
theorem trunkMasters_dropped (x : List Byte) (h : min 128 (x.length / 16) = 0 ∨ d.mode = 8 ∨ d.sync = false) : d.trunkMasters x = d :=
  if_pos (by simp only [Bool.or_eq_true, decide_eq_true_eq, Bool.not_eq_true', or_assoc]; exact h)

/-! ## PPS lost, the second and PPS_OUT (R134, R135, R493) -/

theorem ppsGone_first (h : d.ltm.ppsLost = false) : d.ppsGone = Dev.post 0x0200 0x0207 [] { d with ltm := { d.ltm with ppsLost := true } } :=
  if_neg (by simp [h])
theorem ppsGone_again (h : d.ltm.ppsLost = true) : d.ppsGone = d := if_pos h

/-- PPS_OUT falls at a second where it is enabled (R135). -/
def Dev.ppsFall (d : Dev) : Dev :=
  if d.on LTM_PPS_CTRL.OUT_EN then Dev.emit (.pin "PPS_OUT" 0 false) { d with ltm := { d.ltm with ppsLow := true } } else d
theorem now_ppsFall : d.ppsFall.now = d.now := by
  unfold Dev.ppsFall
  split <;> rfl
theorem on_ppsFall (f : Fld) : d.ppsFall.on f = d.on f := by
  unfold Dev.ppsFall
  split <;> rfl
theorem ppsLow_ppsFall : d.ppsFall.ltm.ppsLow = (d.on LTM_PPS_CTRL.OUT_EN || d.ltm.ppsLow) := by
  unfold Dev.ppsFall
  split
  case isTrue h => simp [h]
  case isFalse h => simp [h]

/-- With valid line time the real-time clock takes the second. -/
theorem wholeSecondTick_valid (s : State) (h : s.dev.on LTM_STATUS.VALID = true) : (wholeSecondTick s).backup = { s.backup with
    rtcValid := true, rtcSec := max s.dev.now (wholeSecond s.dev.now) / 65536 / 1000000000 % 2 ^ 48, rtcSub := 0 } := by
  have valid : ((s.dev.reach (wholeSecond s.dev.now)).ppsFall).on LTM_STATUS.VALID = true := (on_ppsFall _ _).trans h
  have second : ((s.dev.reach (wholeSecond s.dev.now)).ppsFall).now = max s.dev.now (wholeSecond s.dev.now) := now_ppsFall _
  rw [← second]
  exact congrArg State.backup (if_pos valid)
theorem wholeSecondTick_invalid (s : State) (h : s.dev.on LTM_STATUS.VALID = false) : (wholeSecondTick s).backup = s.backup := by
  have invalid : ((s.dev.reach (wholeSecond s.dev.now)).ppsFall).on LTM_STATUS.VALID = false := (on_ppsFall _ _).trans h
  have kept : wholeSecondTick s = { s with dev := (s.dev.reach (wholeSecond s.dev.now)).ppsFall } := if_neg (Bool.eq_false_iff.mp invalid)
  rw [kept]
theorem wholeSecondTick_ppsLow (s : State) : (wholeSecondTick s).dev.ltm.ppsLow = (s.dev.on LTM_PPS_CTRL.OUT_EN || s.dev.ltm.ppsLow) := by
  refine Eq.trans ?_ (ppsLow_ppsFall (s.dev.reach (wholeSecond s.dev.now)))
  show (if (s.dev.reach (wholeSecond s.dev.now)).ppsFall.on LTM_STATUS.VALID then _ else _ : State).dev.ltm.ppsLow = _
  split <;> rfl

/-- PPS_OUT returns high OUT_WIDTH ms after the second at which it fell (R135, R146). -/
theorem ppsOutEnd_ends (w v : Nat) (hw : w = d.get LTM_PPS_CTRL.OUT_WIDTH) (hv : v = if 1 ≤ w ∧ w ≤ 500 then w else 100) (h : d.ltm.ppsLow = true) :
    d.ppsOutEnd = Dev.emit (.pin "PPS_OUT" 0 true)
      { d with ltm := { d.ltm with now := max d.ltm.now (d.now / ns 1000000000 * ns 1000000000 + ns (1000000 * v)), ppsLow := false } } := by
  subst hw hv
  simp [Dev.ppsOutEnd, h, Dev.reach, ns]
theorem ppsOutEnd_high (h : d.ltm.ppsLow = false) : d.ppsOutEnd = d := if_neg (by simp [h])

/-! ## The transmit stamp queue (R136) -/

theorem ltm_showTx : d.showTx.ltm = d.ltm := by
  unfold Dev.showTx
  extract_lets e
  have depth : e.ltm = d.ltm := rfl
  split
  · rw [Dev.wr_ltm, depth]
  · rw [Dev.wr_ltm, Dev.wr_ltm, Dev.wr64_ltm, depth]
theorem out_showTx : d.showTx.out = d.out := by
  unfold Dev.showTx
  extract_lets e
  have depth : e.out = d.out := rfl
  split
  · rw [Dev.wr_out, depth]
  · rw [Dev.wr_out, Dev.wr_out, Dev.wr64_out, depth]
theorem get_showTx_depth : d.showTx.get LTM_TXTS_STATUS.DEPTH = d.ltm.tx.length % 2 ^ 9 := by
  unfold Dev.showTx
  extract_lets e
  have depth : e.get LTM_TXTS_STATUS.DEPTH = d.ltm.tx.length % 2 ^ 9 := Dev.get_set_same _ _ _ (by decide)
  split
  · rw [Dev.get_wr_other _ _ _ _ (by decide), depth]
  · unfold Dev.wr64
    rw [Dev.get_wr_other _ _ _ _ (by decide), Dev.get_wr_other _ _ _ _ (by decide), Dev.get_wr_other _ _ _ _ (by decide),
      Dev.get_wr_other _ _ _ _ (by decide), depth]

/-! ## LTM_RATE (R120, R125) -/

theorem clampInt_eq (lo hi x : Int) (h : lo ≤ hi) : clampInt lo hi x = max lo (min hi x) := by
  unfold clampInt
  split
  · omega
  · split <;> omega
theorem rateWrite_assisted (v : Nat) (h : d.ha 2 = true) :
    d.rateWrite v = d.wr LTM_RATE (codeOf 32 (max (-219902325) (min 219902325 (signedOf 32 v)))) := by
  rw [Dev.rateWrite, if_pos h, Dev.setRate, clampInt_eq _ _ _ (by decide)]
  rfl
theorem rateWrite_ignored (v : Nat) (h : d.ha 2 = false) : d.rateWrite v = d := if_neg (by simp [h])

end
end Sys2Proof.Machine

open Sys2Proof Sys2Proof.Machine

/-- Settles O21: each clause is an equation of its command's meaning, or reads the fields that it names off the registers written (R125, R129 to R131,
R134 to R136, R146, R493). -/
theorem timeEventsAct : Obligations.TimeEventsAct := by
  refine ⟨fun s k x => rfl, fun s => ⟨fun hs ho hh hn => ?_, fun h => ?_⟩, fun s k hk => ⟨fun hh h1 h3 hm hn => ?_, fun h => ?_⟩,
    fun s x n hn => ⟨fun h0 hm hs => ?_, fun h => ?_⟩, fun s => ⟨fun h => ?_, fun h => ?_⟩, fun s => ?_,
    fun s w v hw hv => ⟨fun h => ?_, fun h => ?_⟩, fun s => ?_, fun s v => ⟨fun h => ?_, fun h => ?_⟩⟩
  · exact ⟨_, rfl, enterHoldover_shows _ hs ho hh hn⟩
  · exact next_of_fixed (enterHoldover_waits _ h)
  · subst hk
    exact ⟨_, next_of_dev (takeOrigin_takes _ hh h1 h3 hm hn), becomeOrigin_shows _⟩
  · subst hk
    exact next_of_fixed (takeOrigin_waits _ h)
  · subst hn
    exact next_of_dev (trunkMasters_logged _ x h0 hm hs)
  · subst hn
    exact next_of_fixed (trunkMasters_dropped _ x h)
  · exact next_of_dev (ppsGone_first _ h)
  · exact next_of_fixed (ppsGone_again _ h)
  · have low := wholeSecondTick_ppsLow s
    refine ⟨_, rfl, fun hv => ?_, fun hv => wholeSecondTick_invalid s hv, fun he => ?_, fun he => ?_⟩
    · rw [wholeSecondTick_valid s hv]
      exact ⟨rfl, rfl, rfl⟩
    · rw [low, he, Bool.true_or]
    · rw [low, he, Bool.false_or]
  · exact next_of_dev (ppsOutEnd_ends _ w v hw hv h)
  · exact next_of_fixed (ppsOutEnd_high _ h)
  · exact ⟨_, rfl, congrArg Ltm.tx (ltm_showTx _), out_showTx _, get_showTx_depth _⟩
  · exact next_of_dev (rateWrite_assisted _ _ h)
  · exact next_of_fixed (rateWrite_ignored _ _ h)

end

section
/-! PROOFS. A PPS edge (R122, R134) and the transmit stamps (R136): what they make of line time, of the registers and of the stamp queue, and O22. -/
namespace Sys2Proof.Machine

/-! ## An edge may wake a dormant line (R53) -/

section
variable (d : Dev)

theorem ltm_startWake : d.startWake.ltm = d.ltm := by
  unfold Dev.startWake
  split
  · rfl
  · rw [Dev.set_ltm, Dev.wr_ltm]
/-- A wake shows in the PLLs and the lanes' self-test alone. -/
theorem rd_startWake (a : Nat) (hs : a ≠ CE_SELFTEST) (hp : a ≠ CLK_PLL) : d.startWake.rd a = d.rd a := by
  unfold Dev.startWake
  split
  · rfl
  · rw [Dev.rd_set_other CLK_PLL.RUNNING _ _ _ hp, Dev.rd_wr_other _ _ _ _ hs]
    rfl
theorem ltm_wakeOn (f : Fld) : (d.wakeOn f).ltm = d.ltm := by
  unfold Dev.wakeOn
  split
  · exact ltm_startWake _
  · rfl
theorem rd_wakeOn (f : Fld) (a : Nat) (hs : a ≠ CE_SELFTEST) (hp : a ≠ CLK_PLL) : (d.wakeOn f).rd a = d.rd a := by
  unfold Dev.wakeOn
  split
  · exact rd_startWake _ a hs hp
  · rfl

/-! ## The phase of an edge (R134) -/

/-- The distance of the present line time from the nearest second, in ns, after the cable delay. -/
def Dev.ppsPhase : Int :=
  let m := (((d.now / 65536 : Nat) : Int) - signedOf 32 (d.rd LTM_PPS_DELAY)).emod 1000000000
  if 500000000 < m then m - 1000000000 else m
theorem ltm_ppsError : d.ppsError.ltm = d.ltm := by
  unfold Dev.ppsError
  extract_lets r m phi lock was e
  exact when_keep Dev.ltm _ _ (fun _ => Dev.post_ltm _ _ _ _) e
theorem rd_ppsError_phase : d.ppsError.rd LTM_PPS_ERR = codeOf 32 d.ppsPhase := by
  have word : codeOf 32 d.ppsPhase < 2 ^ 32 := by
    unfold codeOf
    omega
  unfold Dev.ppsError
  extract_lets r m phi lock was e
  rw [when_keep (fun x => x.rd LTM_PPS_ERR) _ _ (fun _ => Dev.rd_post _ _ _ _ _), Dev.rd_set_other _ _ _ _ (by decide), Dev.rd_wr_same]
  exact Nat.mod_eq_of_lt word
theorem on_ppsError_locked : d.ppsError.on LTM_STATUS.PPS_LOCKED = decide (d.ppsPhase.natAbs ≤ 50) := by
  unfold Dev.ppsError
  extract_lets r m phi lock was e
  rw [Dev.on, when_keep (fun x => x.get LTM_STATUS.PPS_LOCKED) _ _ (fun _ => Dev.get_post _ _ _ _ _)]
  exact on_set_flag LTM_STATUS.PPS_LOCKED lock _ (by decide) rfl

/-! ## The alignment of line time to an edge (R122) -/

/-- The whole second nearest to a line time. -/
def nearestSecond (t : LTime) : LTime := (t + ns 500000000) / ns 1000000000 * ns 1000000000
theorem nearestSecond_lt {t : LTime} (h : t < 2 ^ 79) : nearestSecond t < 2 ^ 80 := by
  have half : ns 500000000 < 2 ^ 79 := by decide
  calc nearestSecond t ≤ t + ns 500000000 := Nat.div_mul_le_self _ _
    _ < 2 ^ 79 + 2 ^ 79 := Nat.add_lt_add h half
    _ = 2 ^ 80 := by decide
theorem nearestSecond_eq (t : Nat) : (t + 65536 * 1000000000 / 2) / (65536 * 1000000000) * (65536 * 1000000000) = nearestSecond t := by
  simp [nearestSecond, ns]
theorem now_stepTime (t : LTime) : (d.stepTime t).now = t % 2 ^ 80 := rfl
/-- A founder's line time is set to the second that the edge marks. -/
def Dev.alignToEdge : Dev := if d.ltm.alignWait && decide (nearestSecond d.now ≠ d.now) then d.stepTime (nearestSecond d.now) else d
theorem regs_alignToEdge : d.alignToEdge.regs = d.regs := by
  unfold Dev.alignToEdge
  split <;> rfl
theorem now_alignToEdge_waiting (hw : d.ltm.alignWait = true) (h : d.now < 2 ^ 79) : d.alignToEdge.now = nearestSecond d.now := by
  unfold Dev.alignToEdge
  by_cases hn : nearestSecond d.now = d.now
  · rw [if_neg (by simp [hn]), hn]
  · rw [if_pos (by simp [hw, hn])]
    rw [now_stepTime, Nat.mod_eq_of_lt (nearestSecond_lt h)]
theorem alignToEdge_idle (hw : d.ltm.alignWait = false) : d.alignToEdge = d := if_neg (by simp [hw])

/-- An edge is the last one, and no alignment waits any more. -/
def Dev.edgeTaken : Dev := { d with ltm := { d.ltm with alignWait := false, ppsLast := some d.now, ppsLost := false } }
/-- An edge: the wake it may be, its phase, the alignment, and its place as the last edge. -/
theorem ppsEdge_eq : d.ppsEdge = (d.wakeOn SYS_WAKE_EN.PPS).ppsError.alignToEdge.edgeTaken := by
  unfold Dev.ppsEdge
  extract_lets e sec t e2
  have aligned : e2 = e.alignToEdge := by
    have ht : t = nearestSecond e.now := nearestSecond_eq e.now
    unfold e2 Dev.alignToEdge
    rw [ht]
  exact congrArg Dev.edgeTaken aligned
theorem ltm_ppsArrived : (d.wakeOn SYS_WAKE_EN.PPS).ppsError.ltm = d.ltm := (ltm_ppsError _).trans (ltm_wakeOn d _)
theorem ppsPhase_wakeOn : (d.wakeOn SYS_WAKE_EN.PPS).ppsPhase = d.ppsPhase := by
  have now : (d.wakeOn SYS_WAKE_EN.PPS).now = d.now := congrArg Ltm.now (ltm_wakeOn d _)
  rw [Dev.ppsPhase, now, rd_wakeOn _ _ _ (by decide) (by decide), Dev.ppsPhase]
theorem regs_ppsEdge : d.ppsEdge.regs = (d.wakeOn SYS_WAKE_EN.PPS).ppsError.regs := (congrArg Dev.regs (ppsEdge_eq d)).trans (regs_alignToEdge _)
theorem now_ppsEdge : d.ppsEdge.now = (d.wakeOn SYS_WAKE_EN.PPS).ppsError.alignToEdge.now := (congrArg Dev.now (ppsEdge_eq d)).trans rfl
theorem ltm_ppsEdge : d.ppsEdge.ltm.ppsLast = some d.ppsEdge.now ∧ d.ppsEdge.ltm.ppsLost = false ∧ d.ppsEdge.ltm.alignWait = false := by
  rw [ppsEdge_eq]
  exact ⟨rfl, rfl, rfl⟩
theorem rd_ppsEdge_phase : d.ppsEdge.rd LTM_PPS_ERR = codeOf 32 d.ppsPhase := by
  rw [Dev.rd_congr _ _ _ (regs_ppsEdge d), rd_ppsError_phase, ppsPhase_wakeOn]
theorem on_ppsEdge_locked : d.ppsEdge.on LTM_STATUS.PPS_LOCKED = decide (d.ppsPhase.natAbs ≤ 50) := by
  rw [Dev.on, Dev.get_congr _ _ _ (regs_ppsEdge d), ← Dev.on, on_ppsError_locked, ppsPhase_wakeOn]
theorem now_ppsEdge_idle (hw : d.ltm.alignWait = false) : d.ppsEdge.now = d.now := by
  rw [now_ppsEdge, alignToEdge_idle _ (by rw [ltm_ppsArrived, hw]), Dev.now, ltm_ppsArrived, Dev.now]
theorem now_ppsEdge_waiting (hw : d.ltm.alignWait = true) (h : d.now < 2 ^ 79) : d.ppsEdge.now = nearestSecond d.now := by
  have now : (d.wakeOn SYS_WAKE_EN.PPS).ppsError.now = d.now := congrArg Ltm.now (ltm_ppsArrived d)
  rw [now_ppsEdge, now_alignToEdge_waiting _ (by rw [ltm_ppsArrived, hw]) (by rw [now]; exact h), now]

theorem ppsArrives_plain (h : d.mode ≠ 5 ∨ d.ltm.alignWait = false) : d.ppsArrives = d.ppsEdge := by
  refine if_neg ?_
  rcases h with h | h <;> simp [h]
theorem ppsArrives_founds (hm : d.mode = 5) (hw : d.ltm.alignWait = true) : d.ppsArrives = d.ppsEdge.found := if_pos (by simp [hm, hw])

/-! ## Transmit stamps (R136) -/

section
variable (port tag slot : Nat) (b : Bool)

theorem tx_pushTx_room (h : d.ltm.tx.length < 256) : (d.pushTx port b tag slot).ltm.tx = d.ltm.tx ++ [⟨d.now, portByte port, b, tag, slot⟩] := by
  rw [Dev.pushTx, if_neg (Nat.not_le.mpr h), ltm_showTx]
theorem ltm_postSum (x y : Nat) (mk : Nat → List Byte) : (d.postSum x y mk).ltm = d.ltm := rfl
theorem get_postSum (x y : Nat) (mk : Nat → List Byte) (f : Fld) : (d.postSum x y mk).get f = d.get f := rfl
theorem tx_pushTx_full (h : 256 ≤ d.ltm.tx.length) : (d.pushTx port b tag slot).ltm.tx = d.ltm.tx := by
  rw [Dev.pushTx, if_pos h, ltm_postSum, Dev.count32_ltm, Dev.set_ltm]
theorem overflow_pushTx (h : 256 ≤ d.ltm.tx.length) : (d.pushTx port b tag slot).on LTM_TXTS_STATUS.OVERFLOW = true := by
  rw [Dev.pushTx, if_pos h, Dev.on, get_postSum, Dev.count32, Dev.get_wr_other _ _ _ _ (by decide)]
  exact on_set_flag LTM_TXTS_STATUS.OVERFLOW true d (by decide) rfl
/-- A sent frame whose tag asks for a stamp takes one; the port's waiting frames have no part in line time. -/
theorem asyncSent_stamped (h : (d.port port).awaiting.any (fun f => f.tag == tag && f.stamp) = true) :
    ∃ q : Port, d.asyncSent port b tag slot = (d.setPort port q).pushTx port b tag slot := ⟨_, if_pos h⟩
theorem asyncSent_unstamped (h : (d.port port).awaiting.any (fun f => f.tag == tag && f.stamp) = false) : d.asyncSent port b tag slot = d :=
  if_neg (by simp only [h, Bool.false_eq_true, not_false_eq_true])

end
end
end Sys2Proof.Machine

open Sys2Proof Sys2Proof.Machine

/-- Settles O22: the fields that an edge writes are read back, and a stamp enters the queue at the present line time (R122, R134, R136). -/
theorem ppsEdgeAndStampTransmit : Obligations.PpsEdgeAndStampTransmit := by
  refine ⟨fun s m phi hm hphi => ?_, fun s => ⟨now_ppsEdge_idle _, now_ppsEdge_waiting _⟩, fun s h => ?_, fun s hm hw => ?_,
    fun s port b tag slot => ⟨fun hs => ?_, fun hs => ?_⟩⟩
  · subst hm hphi
    exact ⟨rd_ppsEdge_phase _, on_ppsEdge_locked _, ltm_ppsEdge _⟩
  · exact next_of_dev (ppsArrives_plain _ h)
  · exact next_of_dev (g := fun d => d.ppsEdge.found) (ppsArrives_founds _ hm hw)
  · obtain ⟨q, sent⟩ := asyncSent_stamped s.dev port.val tag.toNat slot.toNat b hs
    refine ⟨fun hr => ⟨_, next_of_dev (g := fun d => (d.setPort port.val q).pushTx port.val b tag.toNat slot.toNat) sent, ?_⟩,
      fun hf => ⟨_, next_of_dev (g := fun d => (d.setPort port.val q).pushTx port.val b tag.toNat slot.toNat) sent, ?_, ?_⟩⟩
    · exact tx_pushTx_room (s.dev.setPort port.val q) _ _ _ _ hr
    · exact tx_pushTx_full (s.dev.setPort port.val q) _ _ _ _ hf
    · exact overflow_pushTx (s.dev.setPort port.val q) _ _ _ _ hf
  · exact next_of_fixed (asyncSent_unstamped _ _ _ _ _ hs)

end

section
/-! PROOFS. The timed outputs (R140, R142 to R144, R147, R148): a firing, a pulse's end, a commit and a cancel, and O23. -/
namespace Sys2Proof.Machine

/-! ## An update over indices of which one acts, or none -/

/-- Nothing comes of updates that leave the state as it is. -/
theorem forN_fixed (f : Nat → Dev → Dev) (n : Nat) (d : Dev) (h : ∀ k < n, f k d = d) : Dev.forN n f d = d := by
  induction n with
  | zero => rfl
  | succ n ih =>
    have before : (List.range n).foldl (fun d i => f i d) d = d := ih (fun k hk => h k (Nat.lt_succ_of_lt hk))
    rw [Dev.forN, List.range_succ, List.foldl_append, before]
    exact h n (Nat.lt_succ_self n)
/-- Of updates of which one index alone acts, its own is what comes. -/
theorem forN_single (f : Nat → Dev → Dev) (n j : Nat) (d : Dev) (hj : j < n) (h : ∀ k e, k ≠ j → f k e = e) : Dev.forN n f d = f j d := by
  induction n with
  | zero => exact absurd hj (Nat.not_lt_zero j)
  | succ n ih =>
    rw [Dev.forN, List.range_succ, List.foldl_append]
    rcases Nat.lt_succ_iff_lt_or_eq.mp hj with hlt | rfl
    · have before : (List.range n).foldl (fun d i => f i d) d = f j d := ih hlt
      rw [before]
      exact h n _ (Nat.ne_of_gt hlt)
    · have before : (List.range j).foldl (fun d i => f i d) d = d := forN_fixed f j d (fun k hk => h k d (Nat.ne_of_lt hk))
      rw [before]
      rfl
theorem bitAt_two_pow_self (n : Nat) : bitAt (2 ^ n) n = true := by rw [bitAt_eq_testBit, Nat.testBit_two_pow_self]
theorem bitAt_two_pow_other {n k : Nat} (h : k ≠ n) : bitAt (2 ^ n) k = false := by rw [bitAt_eq_testBit, Nat.testBit_two_pow_of_ne h.symm]
theorem bitAt_zero (k : Nat) : bitAt 0 k = false := by rw [bitAt_eq_testBit, Nat.zero_testBit]
/-- The mask of one of the sixteen outputs. -/
theorem toNat_outputMask (n : Fin 16) : (BitVec.ofNat 16 (2 ^ n.val)).toNat = 2 ^ n.val := by
  rw [BitVec.toNat_ofNat]
  exact Nat.mod_eq_of_lt (Nat.pow_lt_pow_right (by decide) n.isLt)

/-! ## A firing (R142) -/

/-- The outputs and line time, which conversions and offered triggers leave alone. -/
def Dev.outputPart (d : Dev) : SMap EvoOut × Ltm := (d.evo, d.ltm)
theorem outputPart_count (f : Fld) (v : Nat) (d : Dev) : (Dev.count f v d).outputPart = d.outputPart := rfl
theorem outputPart_setAdc (k : Nat) (x : AdcCh) (d : Dev) : (Dev.setAdc k x d).outputPart = d.outputPart := rfl
theorem outputPart_adcStart (t : LTime) (d : Dev) : (d.adcStart t).outputPart = d.outputPart := by
  unfold Dev.adcStart
  refine forN_keep Dev.outputPart _ (fun k e => ?_) _ d
  split
  · rfl
  · extract_lets x
    split
    · split
      · exact outputPart_count _ _ _
      · exact outputPart_setAdc _ _ _
    · exact outputPart_setAdc _ _ _
theorem outputPart_offerTrigger (src : Nat) (t : LTime) (stale : Bool) (d : Dev) : (Dev.offerTrigger src t stale d).outputPart = d.outputPart := by
  unfold Dev.offerTrigger
  refine forN_keep Dev.outputPart _ (fun u e => ?_) _ d
  split <;> rfl

section
variable (n : Nat) (d : Dev)

theorem evoOut_setEvo (e : EvoOut) : (d.setEvo n e).evoOut n = e := smGet_smSet_same _ _ _ _
theorem evoOut_congr {d e : Dev} (h : d.outputPart = e.outputPart) (n : Nat) : d.evoOut n = e.evoOut n :=
  congrArg (fun x : SMap EvoOut × Ltm => smGet (fun _ => EvoOut.reset) x.1 n) h
theorem now_congr {d e : Dev} (h : d.outputPart = e.outputPart) : d.now = e.now := congrArg (fun x : SMap EvoOut × Ltm => x.2.now) h

/-- Output `y` is `x` after a firing at `t`: counted, and its enabled pin low for WIDTH; its next firing is any. -/
def FiredAt (t : LTime) (x y : EvoOut) : Prop := y.fired = x.fired + 1 ∧ (x.pinEn = true → y.low = some (t + ns x.width))
/-- An output just after a firing at `t`. -/
def EvoOut.afterFiring (e : EvoOut) (t : LTime) : EvoOut :=
  { e with fired := e.fired + 1, low := if e.pinEn then some (t + ns e.width) else e.low, late := false }
theorem firedAt_afterFiring (e : EvoOut) (t : LTime) (next : Option LTime) : FiredAt t e { e.afterFiring t with next := next } :=
  ⟨rfl, fun h => if_pos h⟩
/-- The device part at a firing: line time has reached the instant, the pin is low and the register counts. -/
def Dev.fireStart (t : LTime) : Dev := ((d.reach t).when (d.evoOut n).pinEn (Dev.emit (.pin "EVO" n false))).count32 (EVO_FIRED n) 1
theorem ltm_fireStart (t : LTime) : (d.fireStart n t).ltm = { d.ltm with now := max d.ltm.now t } := by
  rw [Dev.fireStart, Dev.count32_ltm, when_keep Dev.ltm _ _ (Dev.emit_ltm _), Dev.reach_ltm]

theorem evoOut_evoEnd : (d.evoEnd n).evoOut n = { d.evoOut n with next := none } := evoOut_setEvo n d _
theorem ltm_evoEnd : (d.evoEnd n).ltm = d.ltm := rfl

/-- After a firing line time has reached its instant, and the output is as fired, with the next firing that its mode gives it. -/
theorem evoFire_fires (t : LTime) (h : (d.evoOut n).next = some t) :
    (d.evoFire n).2.ltm = (d.fireStart n t).ltm ∧ ∃ next, (d.evoFire n).2.evoOut n = { (d.evoOut n).afterFiring t with next := next } := by
  have goes : ∀ (e : EvoOut), (((d.fireStart n t).setEvo n e).showEvo n).evoOut n = e := fun e => evoOut_setEvo n _ e
  have ends : ∀ (e : EvoOut), (((d.fireStart n t).setEvo n e).evoEnd n).evoOut n = { e with next := none } := fun e => by
    rw [evoOut_evoEnd, evoOut_setEvo]
  unfold Dev.evoFire
  dsimp only
  rw [h]
  dsimp only
  split
  · split
    · exact ⟨rfl, _, goes _⟩
    · exact ⟨rfl, _, ends _⟩
  · exact ⟨rfl, _, goes _⟩
  · exact ⟨rfl, _, ends _⟩

theorem evoFire_idle (h : (d.evoOut n).next = none) : d.evoFire n = (false, d) := by simp [Dev.evoFire, h]
theorem evoFiring_idle (h : (d.evoOut n).next = none) : d.evoFiring n = d := by simp [Dev.evoFiring, h, evoFire_idle n d h]
/-- The conversions that a firing starts and the capture units that it is offered to leave the outputs alone. -/
theorem outputPart_evoFiring (t : LTime) (h : (d.evoOut n).next = some t) : (d.evoFiring n).outputPart = (d.evoFire n).2.outputPart := by
  unfold Dev.evoFiring
  extract_lets fires r e
  rw [if_neg (by simp [fires, h]), outputPart_offerTrigger]
  exact when_keep Dev.outputPart _ _ (outputPart_adcStart _) _
/-- A due firing: line time has reached its instant, it is counted, and an enabled pin is low for WIDTH. -/
theorem evoFiring_fires (t : LTime) (h : (d.evoOut n).next = some t) :
    FiredAt t (d.evoOut n) ((d.evoFiring n).evoOut n) ∧ (d.evoFiring n).now = max d.now t := by
  obtain ⟨time, next, out⟩ := evoFire_fires n d t h
  have part := outputPart_evoFiring n d t h
  refine ⟨?_, ?_⟩
  · rw [evoOut_congr part, out]
    exact firedAt_afterFiring _ _ _
  · rw [now_congr part, Dev.now, time, ltm_fireStart, Dev.now]

/-! ## A pulse's end (R142) -/

theorem evoPulseEnd_ends (t : LTime) (h : (d.evoOut n).low = some t) :
    d.evoPulseEnd n = ((d.reach t).setEvo n { d.evoOut n with low := none }).emit (.pin "EVO" n true) := by simp [Dev.evoPulseEnd, h]
theorem evoPulseEnd_idle (h : (d.evoOut n).low = none) : d.evoPulseEnd n = d := by simp [Dev.evoPulseEnd, h]

/-! ## EVO_APPLY of one output (R143, R147) -/

section
variable (hn : n < 16)
include hn

/-- A write to EVO_APPLY with one bit concerns its output alone. -/
theorem evoApply_single : d.evoApply (2 ^ n) = if bitAt (d.get EVO_APPLY.APPLY) n || (d.evoRules n).isSome then d
    else (d.set EVO_APPLY.APPLY (withBits (d.get EVO_APPLY.APPLY) n n 1)).holdCommit (0x0300 + n) (d.capture (evoRegs n)) none := by
  unfold Dev.evoApply
  rw [forN_single _ 16 n d hn (fun k e hk => if_pos (by simp [bitAt_two_pow_other hk]))]
  simp [bitAt_two_pow_self]
theorem evoApply_captures (hw : bitAt (d.get EVO_APPLY.APPLY) n = false) (hr : d.evoRules n = none) : d.evoApply (2 ^ n) =
    (d.set EVO_APPLY.APPLY (withBits (d.get EVO_APPLY.APPLY) n n 1)).holdCommit (0x0300 + n) (d.capture (evoRegs n)) none := by
  rw [evoApply_single n d hn, if_neg (by simp [hw, hr])]
theorem evoApply_refused (h : bitAt (d.get EVO_APPLY.APPLY) n = true ∨ d.evoRules n ≠ none) : d.evoApply (2 ^ n) = d := by
  rw [evoApply_single n d hn, if_pos (by simpa [Option.isSome_iff_ne_none] using h)]

/-! ## EVO_CANCEL (R144, R148) -/

/-- What a cancel makes of an output, before its event: MODE is 0 in both copies, and only `due` is left to fire. -/
def Dev.evoCancelled (due : Option LTime) (d : Dev) : Dev :=
  (((d.set (EVO_CTRL.MODE n) 0).goLive (EVO_CTRL n) (BitVec.ofNat 32 (withBits (d.lrd (EVO_CTRL n)) 1 0 0))).setEvo n
    { d.evoOut n with mode := 0, next := due }).showEvo n
theorem evoCancel_single (due : Option LTime) (hd : due = (d.evoOut n).next.filter (fun t => decide (t < d.now + ns 2))) : d.evoCancel (2 ^ n) =
    (d.evoCancelled n due).when (((d.evoOut n).next.isSome || (d.evoOut n).mode == 3) && due.isNone)
      (Dev.post (0x0300 + n) 0x0301 (leBytes 4 (d.evoOut n).fired)) := by
  unfold Dev.evoCancel
  rw [forN_single _ 16 n d hn (fun k e hk => if_pos (by simp [bitAt_two_pow_other hk])), if_neg (by simp [bitAt_two_pow_self]), hd]
  rfl
/-- A cancel that ends an armed output's firings posts EVO_DONE. -/
theorem evoCancel_ends (due : Option LTime) (hd : due = (d.evoOut n).next.filter (fun t => decide (t < d.now + ns 2)))
    (ha : (d.evoOut n).next ≠ none ∨ (d.evoOut n).mode = 3) (hnone : due = none) :
    d.evoCancel (2 ^ n) = (d.evoCancelled n due).post (0x0300 + n) 0x0301 (leBytes 4 (d.evoOut n).fired) := by
  have ran : (((d.evoOut n).next.isSome || (d.evoOut n).mode == 3) && due.isNone) = true := by
    simpa [hnone, Option.isSome_iff_ne_none] using ha
  rw [evoCancel_single n d hn due hd, ran, Dev.when_true]
theorem evoCancel_silent (due : Option LTime) (hd : due = (d.evoOut n).next.filter (fun t => decide (t < d.now + ns 2)))
    (h : ((d.evoOut n).next = none ∧ (d.evoOut n).mode ≠ 3) ∨ due ≠ none) : d.evoCancel (2 ^ n) = d.evoCancelled n due := by
  have idle : (((d.evoOut n).next.isSome || (d.evoOut n).mode == 3) && due.isNone) = false := by
    rcases h with ⟨hx, hm⟩ | h
    · simp [hx, hm]
    · simp [Option.isNone_eq_false_iff, Option.isSome_iff_ne_none, h]
  rw [evoCancel_single n d hn due hd, idle, Dev.when_false]

end

theorem evoCancel_none : d.evoCancel 0 = d := forN_fixed _ 16 d (fun k _ => if_pos (by simp [bitAt_zero]))

end
end Sys2Proof.Machine

open Sys2Proof Sys2Proof.Machine

/-- Settles O23: a firing leaves its output as fired and line time at its instant, a mask of one bit concerns its output alone, and each clause is what
the command makes of that output (R140, R142 to R144, R147, R148). -/
theorem timedOutputsFire : Obligations.TimedOutputsFire := by
  refine ⟨fun s n at0 h => ?_, fun s n at0 h => next_of_dev (evoPulseEnd_ends _ _ at0 h),
    fun s n => ⟨fun h => next_of_fixed (evoFiring_idle _ _ h), fun h => next_of_fixed (evoPulseEnd_idle _ _ h)⟩, fun s n => ⟨fun hw hr => ?_, fun h => ?_⟩,
    fun s n e due d1 he hdue hd1 => ⟨fun ha hnone => ?_, fun h => ?_⟩, fun s => next_of_fixed (evoCancel_none _)⟩
  · obtain ⟨⟨fired, low⟩, time⟩ := evoFiring_fires n.val s.dev at0 h
    exact ⟨_, rfl, fired, (le_max_left _ _).trans_eq time.symm, (le_max_right _ _).trans_eq time.symm, low⟩
  · exact next_of_dev ((congrArg s.dev.evoApply (toNat_outputMask n)).trans (evoApply_captures n.val s.dev n.isLt hw hr))
  · exact next_of_fixed ((congrArg s.dev.evoApply (toNat_outputMask n)).trans (evoApply_refused n.val s.dev n.isLt h))
  · subst he hd1
    exact next_of_dev ((congrArg s.dev.evoCancel (toNat_outputMask n)).trans (evoCancel_ends n.val s.dev n.isLt due hdue ha hnone))
  · subst he hd1
    exact next_of_dev ((congrArg s.dev.evoCancel (toNat_outputMask n)).trans (evoCancel_silent n.val s.dev n.isLt due hdue h))

end

section
/-! PROOFS. The time opcodes (R128, R134, R144, R145): their outcomes, and O24. -/
namespace Sys2Proof.Machine

section
variable (p : Packet) (ref : PktRef) (d : Dev)

/-! ## SET_MASTER_RANK (R128, R145) -/

theorem setMasterRank_port (hk : par p 22 1 = 0) (hn : par p 23 1 < 8) (hr : par p 24 1 = 2 ∨ par p 24 1 = 3)
    (hv : par p 25 1 < 64 ∨ par p 25 1 = 0xFF) : opSetMasterRank.run p ref d = (.done stOK [], d.setPort (par p 23 1)
      { d.port (par p 23 1) with ranks := ((d.port (par p 23 1)).ranks.filter (fun x => x.1 != par p 24 1)) ++ [(par p 24 1, par p 25 1)] }) := by
  simp [opSetMasterRank, hk, hn, hr, hv]
theorem setMasterRank_badPort (hk : par p 22 1 = 0)
    (h : 8 ≤ par p 23 1 ∨ (par p 24 1 ≠ 2 ∧ par p 24 1 ≠ 3) ∨ (64 ≤ par p 25 1 ∧ par p 25 1 ≠ 0xFF)) :
    opSetMasterRank.run p ref d = (.bad stBAD_PARAMETER, d) := by
  simp only [opSetMasterRank, hk]
  exact if_neg (by simp only [Bool.and_eq_true, Bool.or_eq_true, decide_eq_true_eq]; omega)
theorem setMasterRank_line (hk : par p 22 1 = 1) (hr : par p 23 1 ≤ 3 ∨ par p 23 1 = 0xFF) (d1 : Dev)
    (h1 : d1 = (d.set LTM_LINE.LINE_RANK (par p 23 1)).transact [(0x0A, settingBody 0x0200 0 (par p 23 1))]) :
    opSetMasterRank.run p ref d = (.done stOK [],
      if d1.cyc.running = true ∧ d1.get LTM_STATUS.SOURCE_PORT = 0xFF ∧ d1.on LTM_STATUS.HOLDOVER = false then d1.leadTime else d1.chooseSource) := by
  subst h1
  simp [opSetMasterRank, hk, hr, and_assoc]
theorem setMasterRank_badLine (h : 2 ≤ par p 22 1 ∨ (par p 22 1 = 1 ∧ 3 < par p 23 1 ∧ par p 23 1 ≠ 0xFF)) :
    opSetMasterRank.run p ref d = (.bad stBAD_PARAMETER, d) := by
  simp only [opSetMasterRank]
  split
  case h_1 h0 => omega
  case h_2 h1 => exact if_neg (by simp only [Bool.or_eq_true, decide_eq_true_eq]; omega)
  case h_3 => rfl

/-! ## PROGRAM_EVENT_OUTPUT (R143, R145) -/

theorem programOutput_bad (h : 16 ≤ par p 22 1 ∨ 4 ≤ par p 23 1) : opProgramOutput.run p ref d = (.bad stBAD_PARAMETER, d) := by
  simp [opProgramOutput, h]
theorem programOutput_busy (hn : par p 22 1 < 16) (hm : par p 23 1 < 4) (hw : bitAt (d.get EVO_APPLY.APPLY) (par p 22 1) = true) :
    opProgramOutput.run p ref d = (.bad stBUSY, d) := by
  simp [opProgramOutput, Nat.not_le.mpr hn, Nat.not_le.mpr hm, hw]

section
variable (n : Nat) (e : Dev) (hn : n = par p 22 1) (hl : n < 16) (hm : par p 23 1 < 4) (hw : bitAt (d.get EVO_APPLY.APPLY) n = false)
  (he : e = ((((((d.wr (EVO_CTRL n) (par p 23 1 + par p 24 1 % 4 * 4 + par p 25 1 * 256)).wr64 (EVO_START_LO n) (par p 26 8)).wr (EVO_PERIOD n)
      (par p 34 4)).wr (EVO_WIDTH n) (par p 38 4)).wr (EVO_COUNT n) (par p 42 4)).wr (EVO_TOL n) p.tol.toNat))
include hn hl hm hw he

theorem programOutput_breaksRule (r : Nat) (hr : e.evoRules n = some r) :
    opProgramOutput.run p ref d = (.done stCONSISTENCY (ruleResult r (0x0300 + n)), e) := by
  subst hn he
  simp [opProgramOutput, Nat.not_le.mpr hl, Nat.not_le.mpr hm, hw, hr]
theorem programOutput_waits (hr : e.evoRules n = none) : opProgramOutput.run p ref d =
    (.later, (e.set EVO_APPLY.APPLY (withBits (e.get EVO_APPLY.APPLY) n n 1)).holdCommit (0x0300 + n) (e.capture (evoRegs n)) (some ref)) := by
  subst hn he
  simp [opProgramOutput, Nat.not_le.mpr hl, Nat.not_le.mpr hm, hw, hr]

end

/-! ## ALIGN_TO_PPS (R134, R145) -/

theorem alignPps_stores (ha : par p 22 1 ≤ 1) (h1 : 1 ≤ par p 23 1) (h50 : par p 23 1 ≤ 50) : opAlignPps.run p ref d = (.done stOK [],
    ((d.set LTM_PPS_CTRL.ALIGN_EN (par p 22 1)).set LTM_PPS_CTRL.SLEW (par p 23 1)).wr LTM_PPS_DELAY (par p 24 4)) := by
  simp [opAlignPps, ha, h1, h50]
theorem alignPps_bad (h : 1 < par p 22 1 ∨ par p 23 1 = 0 ∨ 50 < par p 23 1) : opAlignPps.run p ref d = (.bad stBAD_PARAMETER, d) :=
  if_neg (by simp only [Bool.and_eq_true, decide_eq_true_eq]; omega)

end
end Sys2Proof.Machine

open Sys2Proof Sys2Proof.Machine

/-- Settles O24: each clause is an equation of its opcode's meaning on an accepted packet (R128, R134, R144, R145). -/
theorem timePacketsComplete : Obligations.TimePacketsComplete := by
  refine ⟨fun s p p' d' r => r.next rfl, fun s p p' d' r hk => ⟨fun ⟨hn, hr, hv⟩ => ?_, fun h => ?_⟩, fun s p p' d' d1 d2 r hk hr h1 h2 => ?_,
    fun s p p' d' r h => ?_, fun s p p' d' n e r hn hl hm hw he => ⟨fun hr => ?_, fun k hr => ?_⟩,
    fun s p p' d' r => ⟨fun h => ?_, fun hn hm hw => ?_⟩, fun s p p' d' r => r.next rfl, fun s p p' d' r => ⟨fun ⟨ha, h1, h50⟩ => ?_, fun h => ?_⟩⟩
  · exact r.next (congrArg _ (setMasterRank_port _ _ _ hk hn hr hv))
  · exact r.next (congrArg _ (setMasterRank_badPort _ _ _ hk h))
  · subst h2
    exact r.next (congrArg _ (setMasterRank_line _ _ _ hk hr d1 h1))
  · exact r.next (congrArg _ (setMasterRank_badLine _ _ _ h))
  · exact r.next (congrArg _ (programOutput_waits _ _ _ n e hn hl hm hw he hr))
  · exact r.next (congrArg _ (programOutput_breaksRule _ _ _ n e hn hl hm hw he k hr))
  · exact r.next (congrArg _ (programOutput_bad _ _ _ h))
  · exact r.next (congrArg _ (programOutput_busy _ _ _ hn hm hw))
  · exact r.next (congrArg _ (alignPps_stores _ _ _ ha h1 h50))
  · exact r.next (congrArg _ (alignPps_bad _ _ _ h))

end

section
/-! PROOFS. The permit's passing and its fence, the holder's downlink, the outcome of an incident and the proofs of a drill (R166, R286, R287, R290, R291,
R298, R301, R310, R311, R316), and O30. -/
namespace Sys2Proof.Machine

/-! ## PAIR_FAULT (R302, R316) -/

theorem rest_cond (b : Nat) (v : Bool) (d : Dev) : restOf (Dev.cond b v d) = restOf d := by
  unfold Dev.cond
  split
  · rfl
  · dsimp only
    split <;> split <;> rfl

section
variable (why : Nat) (d : Dev)

theorem rest_pairFault : restOf (d.pairFault why) = restOf d := (rest_post _ _ _ _).trans ((rest_cond _ _ _).trans (rest_set _ _ _))
theorem mir_pairFault : (d.pairFault why).mir = d.mir := congrArg Dev.Rest.mir (rest_pairFault why d)
theorem cyc_pairFault : (d.pairFault why).cyc = d.cyc := congrArg Dev.Rest.cyc (rest_pairFault why d)
theorem on_pairFault : (d.pairFault why).on MIR_STATUS.PAIR_FAULT = true := by
  rw [Dev.on, Dev.pairFault, Dev.get_post, get_cond_other _ _ _ _ (by decide) (by decide)]
  exact on_set_flag MIR_STATUS.PAIR_FAULT true d (by decide) rfl
theorem rd_pairFault_mode : (d.pairFault why).rd SYS_MODE = d.rd SYS_MODE := by
  rw [Dev.pairFault, Dev.rd_post, rd_cond_other _ _ _ _ (by decide) (by decide), mode_set_far _ _ _ (by decide)]

end

/-- The permit stands in SYS_MODE (R57). -/
theorem permit_of_rd {d e : Dev} (h : d.rd SYS_MODE = e.rd SYS_MODE) : d.permit = e.permit :=
  congrArg (fun v => bitsOf v SYS_MODE.PERMIT.hi SYS_MODE.PERMIT.lo != 0) h

/-! ## The end of a lease (R286, R287, R290) -/

section
variable (d : Dev)

/-- Whether a handover is announced for the present bell. -/
def Dev.handoverDue : Bool := d.mir.handover.any (fun h => h.bell == d.cyc.count)

/-- The fence keeps the permit from the standby, and it says so once. -/
def Dev.fencedOff : Dev :=
  if d.mir.fenceSaid then d else Dev.pairFault 2 (Dev.post 0x01C0 0x01CC [] { d with mir := { d.mir with fenceSaid := true } })
/-- The standby takes the permit at the present bell, and acts for the holder. -/
def Dev.takeExpired : Dev :=
  (((d.standbyTakes 8).when (d.standbyTakes 8).permit Dev.sendLease).sendBells).forEach (d.standbyTakes 8).linePorts Dev.showCycle

/-- Only a standby of running cycles whose lease has run out acts, and not at the bell of a handover: the fence then decides. -/
theorem leaseExpiry_checks : d.leaseExpiry =
    if !d.cyc.running || !d.standby || d.get MIR_LEASE.IN_FORCE = 0 || d.leaseRuns || d.handoverDue then d
    else if d.lget MIR_CTRL.FENCE_EN = 1 && d.on MIR_STATUS.PERMIT_IN then d.fencedOff.sendBells
    else d.takeExpired := by
  unfold Dev.leaseExpiry Dev.handoverDue
  cases d.mir.handover <;> rfl
theorem leaseExpiry_idle (h : d.leaseRuns = true ∨ d.get MIR_LEASE.IN_FORCE = 0 ∨ d.standby = false ∨ d.cyc.running = false ∨ d.handoverDue = true) :
    d.leaseExpiry = d := by
  rw [leaseExpiry_checks, if_pos]
  rcases h with h | h | h | h | h <;> simp [h]

variable (hr : d.cyc.running = true) (hs : d.standby = true) (hf : d.get MIR_LEASE.IN_FORCE ≠ 0) (hl : d.leaseRuns = false) (hh : d.mir.handover = none)
include hr hs hf hl hh

theorem leaseExpiry_expired : d.leaseExpiry =
    if d.lget MIR_CTRL.FENCE_EN = 1 && d.on MIR_STATUS.PERMIT_IN then d.fencedOff.sendBells else d.takeExpired := by
  rw [leaseExpiry_checks, if_neg (by simp [hr, hs, hf, hl, Dev.handoverDue, hh])]
theorem leaseExpiry_fenced (he : d.lget MIR_CTRL.FENCE_EN = 1) (hp : d.on MIR_STATUS.PERMIT_IN = true) : d.leaseExpiry = d.fencedOff.sendBells := by
  rw [leaseExpiry_expired d hr hs hf hl hh, if_pos (by simp [he, hp])]
theorem leaseExpiry_takes (h : d.lget MIR_CTRL.FENCE_EN ≠ 1 ∨ d.on MIR_STATUS.PERMIT_IN = false) : d.leaseExpiry = d.takeExpired := by
  rw [leaseExpiry_expired d hr hs hf hl hh, if_neg]
  rcases h with h | h <;> simp [h]

end

/-! ## The holder's downlink (R166, R298, R310, R311) -/

section
variable (n c : Nat) (bs : List Byte) (d : Dev)

/-- Whether the records that a payload holds for this port are the standby's own, of axes that have settled and are not held. -/
def Dev.recordsAgree (pay : List Byte) : Prop := ∀ x ∈ d.binds, x.port = n → 16 * x.record + 16 ≤ pay.length →
  (d.axis x.axis).standing ≠ 0 ∧ ((pay.drop (16 * x.record)).take 16) = d.downRecord x.axis ∧
    bitAt (fieldAt ((pay.drop (16 * x.record)).take 16) 12 2) 1 = false

/-- Copies of the other end's downlinks noted for the bell (R310, R311). -/
def Dev.noteDowns (ks : List Nat) : Dev := { d with mir := { d.mir with downs := d.mir.downs ++ ks } }

theorem mode_of_comparing {d : Dev} (h : d.comparing = true) : d.mode = 8 := by
  simp only [Dev.comparing, Bool.and_eq_true, beq_iff_eq] at h
  obtain ⟨⟨shadow, _⟩, _⟩ := h
  exact shadow

theorem holderDownlink_idle (h : d.cyc.running = false ∨ d.activeBlock n = none) : Dev.holderDownlink n c bs d = d := by
  unfold Dev.holderDownlink
  rcases h with h | h <;> simp only [h]
  cases d.cyc.running <;> rfl

variable (hr : d.cyc.running = true) (b : SchedBlock) (hb : d.activeBlock n = some b)
include hr hb

theorem holderDownlink_badHeader (h : (parseFrame bs).hdrOk = false ∨ knownType (parseFrame bs).typ = false) :
    Dev.holderDownlink n c bs d = d.crcErr n c := by
  simp only [Dev.holderDownlink, hr, hb]
  refine if_pos ?_
  rcases h with h | h <;> simp [h]

variable (hh : (parseFrame bs).hdrOk = true)
include hh

theorem holderDownlink_ignored (hk : knownType (parseFrame bs).typ = true) (h : d.permit = true ∨ (parseFrame bs).typ ≠ 3 ∨
    (parseFrame bs).cycle ≠ d.cyc.count ∨ d.farSource n (parseFrame bs).src = false ∨ b.slots[(parseFrame bs).slot]? = none) :
    Dev.holderDownlink n c bs d = d := by
  simp only [Dev.holderDownlink, hr, hb]
  rw [if_neg (by simp [hh, hk]), if_pos]
  rcases h with h | h | h | h | h
  · simp [h]
  · simp [h]
  · simp [h]
  · cases b.slots[(parseFrame bs).slot]? <;> simp [h]
  · simp [h]

variable (ht : (parseFrame bs).typ = 3) (hc : (parseFrame bs).cycle = d.cyc.count) (hp : d.permit = false)
  (hf : d.farSource n (parseFrame bs).src = true) (e : SlotEntry) (he : b.slots[(parseFrame bs).slot]? = some e)
  (hk : e.kind = if d.headEnd n then 4 else 3)
include ht hc hp hf he hk

theorem holderDownlink_badPayload (ho : (parseFrame bs).bodyOk = false) : Dev.holderDownlink n c bs d = d.crcErr n c := by
  have known : knownType (parseFrame bs).typ = true := by rw [ht]; decide
  simp only [Dev.holderDownlink, hr, hb]
  rw [if_neg (by simp [hh, known]), if_neg (by simp [ht, hc, hp, hf, he, hk]), if_pos (by simp [ho])]
/-- A fitting frame whose records agree is noted, and to a standby that compares it proves its path. -/
theorem holderDownlink_agrees (ho : (parseFrame bs).bodyOk = true) (ha : d.mode = 8 → d.recordsAgree n (parseFrame bs).payload) :
    Dev.holderDownlink n c bs d = d.noteDowns ([16 + 8 * c + n] ++ if d.comparing then [8 * c + n] else []) := by
  have known : knownType (parseFrame bs).typ = true := by rw [ht]; decide
  unfold Dev.holderDownlink
  simp -zeta only [hr, hb]
  extract_lets f mine axes record live held d1 late bad good d2 later m
  refine (if_neg (by simp [f, hh, known])).trans ((if_neg (by simp [mine, f, ht, hc, hp, hf, he, hk])).trans ((if_neg (by simp [f, ho])).trans ?_))
  have agree : ∀ x ∈ axes, d.mode = 8 →
      (d.axis x.axis).standing ≠ 0 ∧ record x = d.downRecord x.axis ∧ bitAt (fieldAt (record x) 12 2) 1 = false := by
    intro x hx hm
    obtain ⟨bound, fits⟩ := List.mem_filter.mp hx
    rw [Bool.and_eq_true, beq_iff_eq, decide_eq_true_eq] at fits
    exact ha hm x bound fits.1 fits.2
  have awake : live = true → d.mode = 8 := fun hl => beq_iff_eq.mp (Bool.and_eq_true_iff.mp hl).1
  have hheld : held = [] := List.filter_eq_nil_iff.mpr (fun x hx => by
    cases hl : live with
    | false => simp
    | true =>
      obtain ⟨_, _, notHeld⟩ := agree x hx (awake hl)
      simp [notHeld])
  have hd1 : d1 = d := by simp only [d1, hheld]; rfl
  have hlate : late = [] := List.filter_eq_nil_iff.mpr (fun x hx => by
    cases hl : live with
    | false => simp
    | true =>
      obtain ⟨settled, _, _⟩ := agree x hx (awake hl)
      simp [hd1, settled])
  have hbad : bad = [] := by
    unfold bad
    split
    case isTrue compares =>
      refine List.filter_eq_nil_iff.mpr (fun x hx => ?_)
      obtain ⟨_, same, _⟩ := agree x hx (mode_of_comparing (hd1 ▸ (Bool.and_eq_true_iff.mp compares).1))
      simp [hd1, same]
    case isFalse => rfl
  have hd2 : d2 = d := by simp only [d2, hbad, hd1]; rfl
  have hlater : later = [] := by simp [later, hlate]
  simp [m, hd2, hlater, good, hbad, hd1, Dev.noteDowns]
end

/-! ## The outcome of an incident (R301) -/

section
variable (d : Dev)

theorem outcome_none (h : d.mir.incident = none) : d.outcome = d := by simp only [Dev.outcome, h]
theorem outcome_unnoticed (i : Incident) (h : d.mir.incident = some i) (hn : i.notice = none) : d.outcome = d := by
  obtain ⟨g, k, c, notice, own, peer⟩ := i
  subst hn
  simp only [Dev.outcome, h]
theorem outcome_waits (i : Incident) (n : Nat) (h : d.mir.incident = some i) (hn : i.notice = some n) (hr : i.own = none ∨ i.peer = none)
    (hc : d.cyclesSince n < 64) : d.outcome = d := by
  obtain ⟨g, k, c, notice, own, peer⟩ := i
  obtain rfl : notice = some n := hn
  have unsettled : (own.isSome && peer.isSome) = false := by
    rcases hr with rfl | rfl
    · rfl
    · exact Bool.and_false _
  simp only [Dev.outcome, h]
  exact if_pos (by simp [unsettled, hc])

/-- The incident is over, and its row is posted. -/
def Dev.closeIncident (g k c row : Nat) : Dev :=
  Dev.post 0x01C0 0x01C7 (leBytes 1 g ++ leBytes 1 k ++ leBytes 4 c ++ leBytes 1 row) { d with mir := { d.mir with incident := none } }

/-- The incident is over with a controller that failed: PAIR_FAULT is set. -/
def Dev.failIncident (g k c row : Nat) : Dev := (d.closeIncident g k c row).pairFault 1

section
variable (g k c row : Nat)

theorem rd_failIncident_mode : (d.failIncident g k c row).rd SYS_MODE = d.rd SYS_MODE := rd_pairFault_mode _ _
theorem on_failIncident : (d.failIncident g k c row).on MIR_STATUS.PAIR_FAULT = true := on_pairFault _ _
theorem waiting_failIncident : (d.failIncident g k c row).cyc.waiting = d.cyc.waiting := congrArg Cyc.waiting (cyc_pairFault 1 (d.closeIncident g k c row))
theorem incident_failIncident : (d.failIncident g k c row).mir.incident = none := congrArg Mir.incident (mir_pairFault 1 (d.closeIncident g k c row))

end

/-- The synchronisation ends: no resynchronisation is pending, and none runs. -/
def Dev.endSync : Dev :=
  let e := d.set MIR_STATUS.SYNCED 0
  { e with mir := { e.mir with resync := none, sweepFrom := none } }

theorem rd_endSync_mode : d.endSync.rd SYS_MODE = d.rd SYS_MODE := mode_set_far MIR_STATUS.SYNCED _ _ (by decide)
theorem on_endSync_synced : d.endSync.on MIR_STATUS.SYNCED = false := on_set_flag MIR_STATUS.SYNCED false d (by decide) rfl
theorem on_endSync_pairFault : d.endSync.on MIR_STATUS.PAIR_FAULT = d.on MIR_STATUS.PAIR_FAULT :=
  on_set_other MIR_STATUS.SYNCED MIR_STATUS.PAIR_FAULT _ _ (by decide) (by decide)

theorem outcome_bothPassed (g k c n : Nat) (h : d.mir.incident = some ⟨g, k, c, some n, some true, some true⟩) :
    d.outcome = if d.mode = 8 then (d.closeIncident g k c 1).askResync false false else d.closeIncident g k c 1 := by
  simp only [Dev.outcome, h]
  cases hp : d.permit <;> rfl

variable (hp : d.permit = true)
include hp

/-- The holder that fails alone logs that the permit passes. -/
theorem outcome_holderFailed (g k c n : Nat) (h : d.mir.incident = some ⟨g, k, c, some n, some false, some true⟩) :
    d.outcome = (d.failIncident g k c 3).logInput 0x01 68 (.permit 2 0) none := by
  have keeps : (d.failIncident g k c 3).permit = true := (permit_of_rd (rd_failIncident_mode d g k c 3)).trans hp
  simp only [Dev.outcome, h, hp, Option.getD_some, if_true]
  exact if_pos keeps
/-- When the standby fails alone the synchronisation ends. -/
theorem outcome_standbyFailed (g k c n : Nat) (h : d.mir.incident = some ⟨g, k, c, some n, some true, some false⟩) (hm : d.mode ≠ 8) :
    d.outcome = (d.failIncident g k c 2).endSync := by
  have stays : (d.failIncident g k c 2).endSync.mode ≠ 8 := by
    rwa [mode_of_rd _ d ((rd_endSync_mode _).trans (rd_failIncident_mode d g k c 2))]
  simp only [Dev.outcome, h, hp, Option.getD_some, if_true]
  exact if_neg stays

end

/-! ## PERMIT_IN and the proofs of a drill (R287, R310, R311) -/

section
variable (d : Dev)

theorem on_permitIn : d.permitIn.on MIR_STATUS.PERMIT_IN = true := by
  have shown := on_set_flag MIR_STATUS.PERMIT_IN true d (by decide) rfl
  unfold Dev.permitIn
  dsimp only
  split
  · split
    · exact shown
    · exact shown
  · exact shown

variable (p : Nat)
theorem drillTimeout_none (h : d.mir.drill = none) : Dev.drillTimeout p d = d := by simp only [Dev.drillTimeout, h]
theorem drillTimeout_proved (x : Drill) (h : d.mir.drill = some x) (hc : x.awaiting.contains p = false) : Dev.drillTimeout p d = d := by
  simp only [Dev.drillTimeout, h]
  exact if_pos (by simp only [hc, Bool.not_false])
theorem drillTimeout_fails (x : Drill) (h : d.mir.drill = some x) (hc : x.awaiting.contains p = true) : Dev.drillTimeout p d =
    Dev.drillFailed p false { d with mir := { d.mir with drill := some { x with awaiting := x.awaiting.filter (· ≠ p) } } } := by
  simp only [Dev.drillTimeout, h]
  exact if_neg (by simp only [hc, Bool.not_true, Bool.false_eq_true, not_false_eq_true])

end

end Sys2Proof.Machine

open Sys2Proof Sys2Proof.Machine

/-- Settles O30: the clauses about a lease, a downlink, an incident and a drill are equations of their operations in that case (R166, R286, R287, R290, R298,
R301, R310, R311); a closed incident's flags are read back through PAIR_FAULT, which touches its own registers alone. -/
theorem permitPassesOnExpiryAndFence : Obligations.PermitPassesOnExpiryAndFence := by
  refine ⟨fun s hr hs hf hl hh => ⟨fun he hp => ⟨fun hq => ?saidBefore, fun hq => ?saysSo⟩,
      fun h => next_of_dev (leaseExpiry_takes _ hr hs hf hl hh h)⟩,
    fun s h => next_of_fixed (leaseExpiry_idle _ ?notExpired), fun s h hh hb => next_of_fixed (leaseExpiry_idle _ ?handover),
    fun s n c bs b hr hb => ⟨fun h => next_of_dev (holderDownlink_badHeader _ _ _ _ hr b hb h),
      fun hh hk h => next_of_fixed (holderDownlink_ignored _ _ _ _ hr b hb hh hk h)⟩,
    fun s n c bs h => next_of_fixed (holderDownlink_idle _ _ _ _ h),
    fun s n c bs b e hr hb hh ht hc hp hf he hk =>
      ⟨fun ho => next_of_dev (holderDownlink_badPayload _ _ _ _ hr b hb hh ht hc hp hf e he hk ho),
        fun ho => ⟨fun hm => ?noted, fun hs ha => ?compared⟩⟩,
    ?bothPassed, fun s g k c n h hp => ⟨_, rfl, ?holderFailed⟩, fun s g k c n h hp hm => ⟨_, rfl, ?standbyFailed⟩,
    fun s h => next_of_fixed (outcome_none _ h), fun s i h hn => next_of_fixed (outcome_unnoticed _ i h hn),
    fun s i n h hn hr hc => next_of_fixed (outcome_waits _ i n h hn hr hc),
    fun s => ⟨_, rfl, on_permitIn _⟩, fun s => rfl, fun s p h => next_of_fixed (drillTimeout_none _ _ h),
    fun s p x h => ⟨fun hc => next_of_fixed (drillTimeout_proved _ _ x h hc), fun hc => next_of_dev (drillTimeout_fails _ _ x h hc)⟩⟩
  case saidBefore => exact next_of_dev ((leaseExpiry_fenced _ hr hs hf hl hh he hp).trans (congrArg Dev.sendBells (if_pos hq)))
  case saysSo => exact next_of_dev ((leaseExpiry_fenced _ hr hs hf hl hh he hp).trans (congrArg Dev.sendBells (if_neg (by simp [hq]))))
  case notExpired => tauto
  case handover => exact .inr (.inr (.inr (.inr (by simp [Dev.handoverDue, hh, hb]))))
  case noted =>
    have apart : s.dev.comparing = false := Bool.eq_false_iff.mpr (fun h => hm (mode_of_comparing h))
    refine ⟨_, next_of_dev (g := fun _ => _) (holderDownlink_agrees _ _ _ _ hr b hb hh ht hc hp hf e he hk ho (absurd · hm)), ?_⟩
    simp [Dev.noteDowns, apart]
  case compared =>
    refine ⟨_, next_of_dev (g := fun _ => _) (holderDownlink_agrees _ _ _ _ hr b hb hh ht hc hp hf e he hk ho (fun _ => ha)), ?_, rfl⟩
    simp [Dev.noteDowns, hs]
  case bothPassed =>
    rintro s g k c n _ h rfl
    exact next_of_dev (outcome_bothPassed _ g k c n h)
  case holderFailed =>
    rw [State.onDev_dev, outcome_holderFailed _ hp g k c n h]
    exact ⟨congrArg (· ++ [_]) (waiting_failIncident _ g k c 3), on_failIncident _ g k c 3, incident_failIncident _ g k c 3⟩
  case standbyFailed =>
    rw [State.onDev_dev, outcome_standbyFailed _ hp g k c n h hm]
    exact ⟨(on_endSync_pairFault _).trans (on_failIncident _ g k c 2), on_endSync_synced _,
      (permit_of_rd ((rd_endSync_mode _).trans (rd_failIncident_mode _ g k c 2))).trans hp, incident_failIncident _ g k c 2⟩
end

section
/-! PROOFS. Motion (R186 to R192, R195 to R198, R201 to R203, R411): the biquad chains, the ramp and the motion opcodes, and O55, O56 and O37. -/
namespace Sys2Proof.Machine

/-! ## Biquad chains (R196) -/

section
variable (co : Nat → Nat → Nat)

theorem biquadChain_zero (k x : Nat) (st : List Nat) : biquadChain co 0 k x st = (x, st) := rfl
/-- The first stage's output is the input of the stages that follow it. -/
theorem biquadChain_succ (n k x s1 s2 : Nat) (st : List Nat) : biquadChain co (n + 1) k x (s1 :: s2 :: st) =
    ((biquadChain co n (k + 1) (biquad (co k) x s1 s2).1 st).1,
      (biquad (co k) x s1 s2).2.1 :: (biquad (co k) x s1 s2).2.2 :: (biquadChain co n (k + 1) (biquad (co k) x s1 s2).1 st).2) := rfl
/-- Stages in a row are the first of them, and the rest on their output. -/
theorem biquadChain_add (m : Nat) : ∀ (n k x : Nat) (st : List Nat) (a b : Nat × List Nat), 2 * n ≤ st.length →
    a = biquadChain co n k x (st.take (2 * n)) → b = biquadChain co m (k + n) a.1 (st.drop (2 * n)) →
    biquadChain co (n + m) k x st = (b.1, a.2 ++ b.2) := by
  intro n
  induction n with
  | zero =>
    rintro k x st _ _ - rfl rfl
    simp [biquadChain_zero]
  | succ n ih =>
    rintro k x st _ _ hl rfl rfl
    match st, hl with
    | s1 :: s2 :: rest, hl =>
      have hrest : 2 * n ≤ rest.length := by simp only [List.length_cons] at hl; omega
      have next := ih (k + 1) (biquad (co k) x s1 s2).1 rest _ _ hrest rfl rfl
      rw [Nat.add_right_comm k 1 n] at next
      rw [Nat.add_right_comm n 1 m, biquadChain_succ, next]
      rfl

end

section
variable (P : Nat → Nat) (i : LawIn) (s : AxisState)

/-- The chain of position stages on the sum of node 4, IP and node 6. -/
def positionChain (t : AxisState) : Nat × List Nat :=
  biquadChain (fun k c => P (pPBQ k c)) (optPbq P) 0 (fpAdd (fpAdd ((t.nodes[4]?).getD 0) s.ip) ((t.nodes[6]?).getD 0)) s.pbq
/-- The chain of velocity stages on node 14. -/
def velocityChain (t : AxisState) : Nat × List Nat :=
  biquadChain (fun k c => P (pVBQ k c)) (optVbq P) 0 ((t.nodes[14]?).getD 0) s.vbq

/-- Split 0 runs both loops, and so both chains (R197). -/
theorem controllers_split0 (t : AxisState) (ht : t = controllers P i false s) (h : optSplit P = 0) :
    t.nodes[7]? = some (positionChain P s t).1 ∧ t.pbq = (positionChain P s t).2 ∧
      t.nodes[15]? = some (velocityChain P s t).1 ∧ t.vbq = (velocityChain P s t).2 := by
  simp only [controllers, h] at ht
  subst ht
  exact ⟨rfl, rfl, rfl, rfl⟩
/-- Split 1 runs the position loop alone (R197). -/
theorem controllers_split1 (t : AxisState) (ht : t = controllers P i false s) (h : optSplit P = 1) :
    t.nodes[7]? = some (positionChain P s t).1 ∧ t.pbq = (positionChain P s t).2 ∧ t.vbq = s.vbq := by
  simp only [controllers, h] at ht
  subst ht
  exact ⟨rfl, rfl, rfl⟩

end

/-! ## The ramp of the jog and of the controlled stop (R188, R195) -/

section
variable (period vt step : Nat) (s : AxisState)

theorem rampStep_below (h : fpLt s.vs vt = true) :
    (rampStep period vt step s).vs = if fpLt vt (fpAdd s.vs step) then vt else fpAdd s.vs step := by
  simp only [rampStep, h, if_true]
theorem rampStep_above (h : fpLt vt s.vs = true) (hn : fpLt s.vs vt = false) :
    (rampStep period vt step s).vs = if fpLt (fpSub s.vs step) vt then vt else fpSub s.vs step := by
  simp only [rampStep, h, hn, if_true, if_false, Bool.false_eq_true]
theorem rampStep_reached (h : fpLt s.vs vt = false) (hn : fpLt vt s.vs = false) : (rampStep period vt step s).vs = s.vs := by
  simp only [rampStep, h, hn, if_false, Bool.false_eq_true]
/-- The position moves by the mean of the old and the new velocity. -/
theorem rampStep_xs : (rampStep period vt step s).xs =
    satAdd64 s.xs (int64Round (fpMul (fpAdd s.vs (rampStep period vt step s).vs) (fpScale (constKT period) (-1)))) := rfl
/-- Nothing but position and velocity changes. -/
theorem rampStep_frame : rampStep period vt step s = { s with xs := (rampStep period vt step s).xs, vs := (rampStep period vt step s).vs } := rfl

variable (P : Nat → Nat) (cam : Nat → Nat → Nat) (i : LawIn)

/-- An axis that stops and follows no master moves by the ramp towards 0. -/
theorem stepGenerator_stops (hf : s.first = false) (hm : i.follows = false) (hs : s.stopping = true ∨ s.stopped = true) :
    (stepGenerator P cam i false s).xs = (rampStep i.period 0 (fpMul (P pSTOP_DECEL) (constTS i.period)) s).xs ∧
      (stepGenerator P cam i false s).vs = (rampStep i.period 0 (fpMul (P pSTOP_DECEL) (constTS i.period)) s).vs := by
  have ramp : ((s.stopping || s.stopped) && !i.follows) = true := by
    rw [hm, (Bool.or_eq_true ..).mpr hs]
    rfl
  simp only [stepGenerator, hf, ramp, if_true, if_false, Bool.false_eq_true, and_self]

end

/-! ## A jog enters the law (R188, R204) -/

theorem enterAct_jog (d : Dev) (a v stops : Nat) (ref : Option PktRef) (hs : bitAt stops (d.groupOf a) = false) (hl : d.groupLatched (d.groupOf a) = false)
    (hf : (d.axis a).faulted = false) :
    d.enterAct stops (.jog a v) ref = (some (stOK, []), (d.liveMode a 1).setAxis a { d.axis a with jogVt := v }) := by
  simp only [Dev.enterAct, Dev.enterJog, hs, hl, hf, Bool.or_self, if_false, Bool.false_eq_true]

/-! ## MOVE_PROFILE (R187, R188, R411) -/

/-- Whether an identification holds the axis. -/
def Dev.identifies (d : Dev) (a : Nat) : Bool := match d.trc.ident with | some i => i.axis == a | none => false
/-- A fault of the axis or the latched stop of its group bars the axis from moving (R201, R203). -/
def Dev.barred (d : Dev) (a : Nat) : Bool := (d.axis a).faulted || d.groupLatched (d.groupOf a)
/-- Whether an axis is at rest, with no phase left (R187). -/
def AxisState.still (s : AxisState) : Bool := fpEq s.vs 0 && fpEq s.pa 0 && s.ph == 8
/-- The limits of a position move: velocity, acceleration, deceleration and jerk. -/
def moveLimits (p : Packet) : List Nat := [par p 34 4, par p 38 4, par p 42 4, par p 46 4]
/-- Whether they are positive, finite and within VMAX. -/
def Dev.limitsOk (d : Dev) (p : Packet) : Bool :=
  (moveLimits p).all (fun x => fpFinite x && fpPos x) && !fpLt (d.axisLive (par p 22 2) pVMAX) (par p 34 4)
/-- A MOVE_PROFILE of another axis or kind, of a position move with bad limits or of a jog with a bad velocity. -/
def Dev.badMove (d : Dev) (p : Packet) : Bool :=
  512 ≤ par p 22 2 || 1 < par p 24 1 || (par p 24 1 = 0 && !d.limitsOk p) || (par p 24 1 = 1 && !fpFinite (par p 26 4))
/-- The target of a position move, absolute or from where the axis stands. -/
def Dev.moveTarget (d : Dev) (p : Packet) : Int :=
  if bitAt (par p 25 1) 0 then satAdd64 (d.axis (par p 22 2)).xs (signedOf 64 (par p 26 8)) else signedOf 64 (par p 26 8)
/-- The distance of a position move. -/
def Dev.moveDist (d : Dev) (p : Packet) : Int := d.moveTarget p - (d.axis (par p 22 2)).xs
/-- The list planned for it, which is empty for no distance. -/
def Dev.movePlan (d : Dev) (p : Packet) : List (Nat × Nat) :=
  if d.moveDist p = 0 then [] else Config.planProfile (d.moveDist p) (moveLimits p) (d.periodNs / 8)
/-- Whether the plan keeps R539. -/
def Dev.planKept (d : Dev) (p : Packet) : Bool := profileOk (d.periodNs / 8) (d.moveDist p) (moveLimits p) (d.movePlan p)
/-- The eight phases that the log holds of the plan. -/
def Dev.movePhases (d : Dev) (p : Packet) : List (Nat × Nat) :=
  ((d.movePlan p ++ List.replicate 8 (0, 0)).take 8).map (fun (x : Nat × Nat) => (x.1 % 2 ^ 32, x.2 % 2 ^ 32))
/-- The move is logged with its target and its phases. -/
def Dev.loggedMove (d : Dev) (p : Packet) (ref : PktRef) : Dev :=
  d.logInput 0x01 132 (.move (par p 22 2) (d.moveTarget p) (d.movePhases p)) (some ref)
/-- The list is written at the address given, and the move logged, unless the host answers with an error (R387). -/
def Dev.moveToHost (d : Dev) (p : Packet) (ref : PktRef) : Reply × Dev :=
  match p.host with
  | none => (.bad stINTERNAL, d.count32 HIF_DMA_ERR_CNT 1)
  | some _ => (.later, (d.loggedMove p ref).emit (.hostWrite (par p 50 8)
      (d.outBytes p ((d.movePhases p).flatMap (fun (x : Nat × Nat) => leBytes 4 x.1 ++ leBytes 4 x.2)))))

section
variable (p : Packet) (ref : PktRef) (d : Dev)

/-- The checks of a MOVE_PROFILE in their order. -/
theorem moveProfile_checks : opMoveProfile.run p ref d =
    if d.badMove p then (.bad stBAD_PARAMETER, d)
    else if d.barred (par p 22 2) then (.bad stWRONG_MODE, d)
    else if d.identifies (par p 22 2) then (.bad stBUSY, d)
    else if par p 24 1 = 1 then d.logPacket 0x01 68 (.jog (par p 22 2) (par p 26 4)) ref
    else if !(d.axis (par p 22 2)).still then (.bad stBUSY, d)
    else if d.moveDist p ≠ 0 && !d.planKept p then (.bad stBAD_PARAMETER, d)
    else if par p 50 8 = 0 then (.later, d.loggedMove p ref)
    else d.moveToHost p ref := rfl
theorem moveProfile_refused (h : d.badMove p = true) : opMoveProfile.run p ref d = (.bad stBAD_PARAMETER, d) := by
  rw [moveProfile_checks, if_pos h]

section
variable (hw : d.badMove p = false)
include hw

theorem moveProfile_barred (hb : d.barred (par p 22 2) = true) : opMoveProfile.run p ref d = (.bad stWRONG_MODE, d) := by
  simp only [moveProfile_checks, hw, hb, if_true, if_false, Bool.false_eq_true]

variable (hb : d.barred (par p 22 2) = false)
include hb

theorem moveProfile_identified (hi : d.identifies (par p 22 2) = true) : opMoveProfile.run p ref d = (.bad stBUSY, d) := by
  simp only [moveProfile_checks, hw, hb, hi, if_true, if_false, Bool.false_eq_true]

variable (hi : d.identifies (par p 22 2) = false)
include hi

theorem moveProfile_jog (hk : par p 24 1 = 1) : opMoveProfile.run p ref d = d.logPacket 0x01 68 (.jog (par p 22 2) (par p 26 4)) ref := by
  simp only [moveProfile_checks, hw, hb, hi, hk, if_true, if_false, Bool.false_eq_true]

variable (hk : par p 24 1 = 0)
include hk

theorem moveProfile_moving (hs : (d.axis (par p 22 2)).still = false) : opMoveProfile.run p ref d = (.bad stBUSY, d) := by
  simp [moveProfile_checks, hw, hb, hi, hk, hs]

variable (hs : (d.axis (par p 22 2)).still = true)
include hs

theorem moveProfile_unplanned (hd : d.moveDist p ≠ 0) (hp : d.planKept p = false) : opMoveProfile.run p ref d = (.bad stBAD_PARAMETER, d) := by
  simp [moveProfile_checks, hw, hb, hi, hk, hs, hd, hp]

variable (hp : d.moveDist p = 0 ∨ d.planKept p = true)
include hp

/-- A move at rest, with a plan that keeps R539 or with no distance, is logged, and its list is written where an address is given. -/
theorem moveProfile_planned : opMoveProfile.run p ref d = if par p 50 8 = 0 then (.later, d.loggedMove p ref) else d.moveToHost p ref := by
  have planned : ¬ (d.moveDist p ≠ 0 && !d.planKept p) = true := by
    rcases hp with hp | hp <;> simp [hp]
  simp only [moveProfile_checks, hw, hb, hi, hk, hs, Bool.not_true, Bool.false_eq_true, zero_ne_one, if_false]
  exact if_neg planned
theorem moveProfile_logged (ha : par p 50 8 = 0) : opMoveProfile.run p ref d = (.later, d.loggedMove p ref) :=
  (moveProfile_planned p ref d hw hb hi hk hs hp).trans (if_pos ha)
theorem moveProfile_written (ha : par p 50 8 ≠ 0) (bs : List Byte) (hh : p.host = some bs) : opMoveProfile.run p ref d =
    (.later, (d.loggedMove p ref).emit (.hostWrite (par p 50 8)
      (d.outBytes p ((d.movePhases p).flatMap (fun (x : Nat × Nat) => leBytes 4 x.1 ++ leBytes 4 x.2))))) := by
  rw [moveProfile_planned p ref d hw hb hi hk hs hp, if_neg ha, Dev.moveToHost, hh]

end

/-- A move of no distance holds eight empty phases. -/
theorem movePhases_still (h : d.moveDist p = 0) : d.movePhases p = List.replicate 8 (0, 0) := by
  rw [Dev.movePhases, Dev.movePlan, if_pos h]
  rfl

theorem moveDist_eq_zero : d.moveDist p = 0 ↔ d.moveTarget p = (d.axis (par p 22 2)).xs := sub_eq_zero

theorem badMove_jog (ha : par p 22 2 < 512) (hk : par p 24 1 = 1) (hv : fpFinite (par p 26 4) = true) : d.badMove p = false := by
  simp [Dev.badMove, ha, hk, hv]
theorem badMove_position (ha : par p 22 2 < 512) (hk : par p 24 1 = 0) (hl : (moveLimits p).all (fun x => fpFinite x && fpPos x) = true)
    (hv : fpLt (d.axisLive (par p 22 2) pVMAX) (par p 34 4) = false) : d.badMove p = false := by
  simp only [Dev.badMove, Dev.limitsOk, hk, hl, hv]
  simp [ha]
theorem badMove_of (h : 512 ≤ par p 22 2 ∨ 1 < par p 24 1 ∨ (par p 24 1 = 1 ∧ fpFinite (par p 26 4) = false) ∨
    (par p 24 1 = 0 ∧ ((moveLimits p).all (fun x => fpFinite x && fpPos x) = false ∨ fpLt (d.axisLive (par p 22 2) pVMAX) (par p 34 4) = true))) :
    d.badMove p = true := by
  simp only [Dev.badMove, Dev.limitsOk, Bool.or_eq_true, Bool.and_eq_true, decide_eq_true_eq]
  rcases h with h | h | ⟨hk, hv⟩ | ⟨hk, hl | hl⟩
  · exact .inl (.inl (.inl h))
  · exact .inl (.inl (.inr h))
  · exact .inr ⟨hk, by simp [hv]⟩
  · exact .inl (.inr ⟨hk, by rw [hl]; rfl⟩)
  · exact .inl (.inr ⟨hk, by rw [hl, Bool.not_true, Bool.and_false]; rfl⟩)

/-- An axis is barred by its fault or by its group's latched stop, and by nothing else. -/
theorem barred_iff (a : Nat) : d.barred a = true ↔ (d.axis a).faulted = true ∨ d.groupLatched (d.groupOf a) = true := Bool.or_eq_true_iff
theorem barred_clear (a : Nat) (hf : (d.axis a).faulted = false) (hg : d.groupLatched (d.groupOf a) = false) : d.barred a = false := by
  rw [Dev.barred, hf, hg]
  rfl
theorem identifies_none (a : Nat) (h : d.trc.ident = none) : d.identifies a = false := by
  rw [Dev.identifies, h]

/-! ## SET_GEAR (R186, R203, R411) -/

/-- The checks of a SET_GEAR in their order. -/
theorem setGear_checks : opSetGear.run p ref d =
    if 512 ≤ par p 22 2 then (.bad stBAD_PARAMETER, d)
    else if d.barred (par p 22 2) then (.bad stWRONG_MODE, d)
    else if d.on MIR_STATUS.BULK || d.identifies (par p 22 2) then (.bad stBUSY, d)
    else match d.afterCommits.commitFail [par p 22 2] (d.afterCommits.gearWords (par p 22 2) (par p 24 4) (par p 28 4)) with
      | some r => (.done stCONSISTENCY (ruleResult r.1 r.2), d)
      | none => d.logPacket 0x02 32 (.gear (par p 22 2) (par p 24 4) (par p 28 4)) ref := rfl
theorem setGear_badAxis (h : 512 ≤ par p 22 2) : opSetGear.run p ref d = (.bad stBAD_PARAMETER, d) := if_pos h

section
variable (ha : par p 22 2 < 512)
include ha

theorem setGear_barred (hb : d.barred (par p 22 2) = true) : opSetGear.run p ref d = (.bad stWRONG_MODE, d) := by
  rw [setGear_checks, if_neg (Nat.not_le.mpr ha), if_pos hb]

variable (hb : d.barred (par p 22 2) = false)
include hb

theorem setGear_busy (hi : (d.on MIR_STATUS.BULK || d.identifies (par p 22 2)) = true) : opSetGear.run p ref d = (.bad stBUSY, d) := by
  rw [setGear_checks, if_neg (Nat.not_le.mpr ha), if_neg (by simp [hb]), if_pos hi]

variable (hi : (d.on MIR_STATUS.BULK || d.identifies (par p 22 2)) = false)
include hi

theorem setGear_logged (hr : d.afterCommits.commitFail [par p 22 2] (d.afterCommits.gearWords (par p 22 2) (par p 24 4) (par p 28 4)) = none) :
    opSetGear.run p ref d = d.logPacket 0x02 32 (.gear (par p 22 2) (par p 24 4) (par p 28 4)) ref := by
  rw [setGear_checks, if_neg (Nat.not_le.mpr ha), if_neg (by simp [hb]), if_neg (by simp [hi]), hr]
theorem setGear_breaksRule (r : Nat × Nat)
    (hr : d.afterCommits.commitFail [par p 22 2] (d.afterCommits.gearWords (par p 22 2) (par p 24 4) (par p 28 4)) = some r) :
    opSetGear.run p ref d = (.done stCONSISTENCY (ruleResult r.1 r.2), d) := by
  rw [setGear_checks, if_neg (Nat.not_le.mpr ha), if_neg (by simp [hb]), if_neg (by simp [hi]), hr]

end

/-! ## LOAD_CAM (R190, R411) -/

/-- Whether a cam table is in use: a bulk transfer runs, or the live parameters of an axis in cam mode name the table. -/
def Dev.camUsed (d : Dev) (t : Nat) : Bool :=
  d.on MIR_STATUS.BULK || d.live.any (fun w => decide (0x200000 ≤ w.1) && w.1 % 0x1000 == pOPT && optMode (d.params ((w.1 - 0x200000) / 0x1000)) == 4 &&
    bitsOf (d.axisLive ((w.1 - 0x200000) / 0x1000) pCAM_TABLE) 9 0 == t)

theorem loadCam_badTable (h : 1024 ≤ par p 22 2) : opLoadCam.run p ref d = (.bad stBAD_PARAMETER, d) := if_pos h
theorem loadCam_badLength (ht : par p 22 2 < 1024) (h : par p 32 4 < 56 ∨ 98336 < par p 32 4 ∨ (par p 32 4 - 32) % 24 ≠ 0) :
    opLoadCam.run p ref d = (.bad stBAD_LENGTH, d) :=
  (if_neg (Nat.not_le.mpr ht)).trans (if_pos (by simpa [or_assoc] using h))

section
variable (bs b : List Byte) (ht : par p 22 2 < 1024) (hl : 56 ≤ par p 32 4) (hu : par p 32 4 ≤ 98336) (hm : (par p 32 4 - 32) % 24 = 0)
  (hh : p.host = some bs) (hb : b = padTo (par p 32 4) bs) (hn : par p 32 4 = 32 + 24 * fieldAt b 0 2) (hf : fieldAt b 2 2 < 2) (hw : fieldAt b 8 8 ≠ 0)
  (hc : fieldAt b 0 2 ≤ 4096)
include ht hl hu hm hh hb hn hf hw hc

/-- A well-formed table is loaded when it is not in use and has a place. -/
theorem loadCam_wellFormed : opLoadCam.run p ref d =
    if d.camUsed (par p 22 2) then (.bad stBUSY, d)
    else if (d.camPlace (par p 22 2) (par p 32 4)).isNone then (.bad stNO_RESOURCE, d)
    else d.logPacket 0x03 (tableSize (par p 32 4)) (.cam (par p 22 2) b) ref := by
  have sized : ¬ (par p 32 4 < 56 || 98336 < par p 32 4 || (par p 32 4 - 32) % 24 ≠ 0) = true := by
    simp only [Bool.or_eq_true, decide_eq_true_eq]; omega
  have header : ¬ (2 ≤ fieldAt b 2 2 || fieldAt b 8 8 = 0 || fieldAt b 0 2 = 0 || 4096 < fieldAt b 0 2) = true := by
    simp only [Bool.or_eq_true, decide_eq_true_eq]; omega
  subst hb
  refine (if_neg (Nat.not_le.mpr ht)).trans ((if_neg sized).trans ((hostRead_ok _ _ _ _ _ hh).trans ?_))
  exact (if_neg (not_not_intro hn)).trans (if_neg header)

end

/-! ## STREAM_SETPOINTS (R192, R198, R203) -/

theorem stream_badLength (h1 : 1 ≤ par p 24 1) (h64 : par p 24 1 ≤ 64) (hn : p.len.toNat ≠ (12 * par p 24 1 + 15) / 16) :
    opStream.run p ref d = (.bad stBAD_LENGTH, d) := by
  have counted : 0 < par p 24 1 := h1
  exact if_pos (by simp [counted, h64, hn])

section
variable (hn : p.len.toNat = (12 * par p 24 1 + 15) / 16) (hw : par p 25 1 ≤ 1)
include hn hw

theorem stream_noDuty (hd : d.ha (par p 25 1) = false) : opStream.run p ref d = (.bad stWRONG_MODE, d) :=
  (if_neg (by simp [hn])).trans (if_pos (by simp [hw, hd]))

variable (hd : d.ha (par p 25 1) = true) (h1 : 1 ≤ par p 24 1) (h64 : par p 24 1 ≤ 64) (hr : par p 22 2 + par p 24 1 ≤ 512)
include hd h1 h64 hr

/-- A batch of the duty that is set, for axes that exist, is logged unless an axis is faulted. -/
theorem stream_inDuty : opStream.run p ref d =
    if (List.range (par p 24 1)).any (fun i => (d.axis (par p 22 2 + i)).faulted) then (.bad stWRONG_MODE, d)
    else d.logPacket (if par p 25 1 = 1 then 0x05 else 0x04) (16 + 12 * par p 24 1)
      (.stream (par p 25 1 == 1) (par p 22 2) (par p 24 1) (par p 26 8) (extBytes p 0 (12 * par p 24 1))) ref :=
  (if_neg (by simp [hn])).trans ((if_neg (by simp [hd])).trans (if_neg (by simp only [Bool.or_eq_true, decide_eq_true_eq]; omega)))

end
end
end Sys2Proof.Machine

open Sys2Proof Sys2Proof.Machine

/-- Settles O55: a stage and a chain unfold by their recursion, stages in a row by induction on the first of them (R196); the law under loop splits 0 and 1
runs the chains on its own nodes (R197). -/
theorem biquadStagesRun : Obligations.BiquadStagesRun := by
  refine ⟨fun co x s1 s2 y hy => hy ▸ rfl, biquadChain_zero, fun co k x s1 s2 st => biquadChain_succ co 0 k x s1 s2 st,
    fun co n m => biquadChain_add co m n, ?split0, ?split1⟩
  case split0 =>
    rintro P i s t _ _ ht h rfl rfl
    exact controllers_split0 P i s t ht h
  case split1 =>
    rintro P i s t _ ht h rfl
    exact controllers_split1 P i s t ht h

/-- Settles O56: the jog is logged and enters as the outcomes of its opcode and of its entry say (R188, R204); the ramp is read off its three cases, and
the generator of the jog and that of a stop are that ramp (R186, R195). -/
theorem jogAndStopRampsRun : Obligations.JogAndStopRampsRun := by
  refine ⟨?logged, fun d a v stops ref hs hl hf => ?enters, fun period vt step s => ⟨fun h hv => ?_, fun h hv => ?_, fun h hn hv => ?_, fun h hn hv => ?_,
    fun h hn => rampStep_reached period vt step s h hn⟩, ?moves, fun P cam i s => rfl, ?stops⟩
  case logged =>
    rintro s p p' d' _ r rfl ha hk hv hf hg hi
    exact r.next (congrArg _ (moveProfile_jog _ _ _ (badMove_jog _ _ ha hk hv) (barred_clear _ _ hf hg) (identifies_none _ _ hi) hk))
  case enters =>
    rw [enterAct_jog d a v stops ref hs hl hf]
    exact ⟨rfl, congrArg AxisState.jogVt (axis_setAxis a _ _)⟩
  case moves =>
    rintro period vt step s _ rfl
    exact ⟨rampStep_xs period vt step s, rampStep_frame period vt step s⟩
  case stops =>
    rintro P cam i s _ hf hm hs rfl
    exact stepGenerator_stops s P cam i hf hm hs
  · simp [rampStep_below period vt step s h, hv]
  · simp [rampStep_below period vt step s h, hv]
  · simp [rampStep_above period vt step s h hn, hv]
  · simp [rampStep_above period vt step s h hn, hv]

/-- Settles O37: each clause is an equation of its opcode's meaning on an accepted packet (R186 to R188, R190, R192, R198, R201 to R203, R411). BAD_PARAMETER
for a move without a list that keeps R539 (log 1), WRONG_MODE for a batch of a faulted axis (log 125) and the batch's length before its duty (log 130) are the
model's choices. -/
theorem motionPacketsAreLogged : Obligations.MotionPacketsAreLogged := by
  refine ⟨?jog, ?badMove, ?position, ?gear, fun s p p' d' r => ⟨fun h => r.next (congrArg _ (loadCam_badTable _ _ _ h)),
    fun ht h => r.next (congrArg _ (loadCam_badLength _ _ _ ht h))⟩, ?cam, ?stream, fun s p p' d' r => r.next rfl⟩
  case jog =>
    rintro s p p' d' _ _ r rfl rfl ha hk hv
    have sound := badMove_jog _ d' ha hk hv
    exact ⟨fun h => r.next (congrArg _ (moveProfile_barred _ _ _ sound ((barred_iff _ _).mpr h))),
      fun hf hg hi => r.next (congrArg _ (moveProfile_identified _ _ _ sound (barred_clear _ _ hf hg) hi)),
      fun hf hg hi => r.next (congrArg _ (moveProfile_jog _ _ _ sound (barred_clear _ _ hf hg) hi hk))⟩
  case badMove =>
    rintro s p p' d' _ r rfl h
    exact r.next (congrArg _ (moveProfile_refused _ _ _ (badMove_of _ _ h)))
  case position =>
    rintro s p p' d' _ _ _ _ _ r rfl ha hk rfl hl hv hf hg hi rfl rfl rfl
    have sound := badMove_position _ d' ha hk hl hv
    have free := barred_clear _ _ hf hg
    refine ⟨fun hs => r.next (congrArg _ (moveProfile_moving _ _ _ sound free hi hk hs)), fun hs hn => r.next ?_, fun bs hs hp hn hh => r.next ?_,
      fun hd hs hn => r.next ?_⟩
    · by_cases hp : d'.moveTarget p' = (d'.axis (par p' 22 2)).xs ∨ d'.planKept p' = true
      · exact (congrArg _ (moveProfile_logged _ _ _ sound free hi hk hs (hp.imp_left (moveDist_eq_zero _ _).mpr) hn)).trans (if_pos hp).symm
      · obtain ⟨hd, hp'⟩ := not_or.mp hp
        have refused := moveProfile_unplanned _ (refOf p s.dev) d' sound free hi hk hs (mt (moveDist_eq_zero _ _).mp hd) (Bool.eq_false_iff.mpr hp')
        exact (congrArg _ refused).trans (if_neg hp).symm
    · exact congrArg _ (moveProfile_written _ _ _ sound free hi hk hs (hp.imp_left (moveDist_eq_zero _ _).mpr) hn bs hh)
    · have noDistance := (moveDist_eq_zero _ d').mpr hd
      rw [moveProfile_logged _ _ _ sound free hi hk hs (.inl noDistance) hn, answer_later, Dev.loggedMove, movePhases_still _ _ noDistance]
      rfl
  case gear =>
    rintro s p p' d' _ _ _ r rfl rfl rfl
    exact ⟨fun h => r.next (congrArg _ (setGear_badAxis _ _ _ h)), fun ha h => r.next (congrArg _ (setGear_barred _ _ _ ha ((barred_iff _ _).mpr h))),
      fun ha hf hg hi => r.next (congrArg _ (setGear_busy _ _ _ ha (barred_clear _ _ hf hg) hi)),
      fun ha hf hg hi hr => r.next (congrArg _ (setGear_logged _ _ _ ha (barred_clear _ _ hf hg) hi hr)),
      fun ha hf hg hi x hr => r.next (congrArg _ (setGear_breaksRule _ _ _ ha (barred_clear _ _ hf hg) hi x hr))⟩
  case cam =>
    rintro s p p' d' bs b _ _ _ r rfl rfl ht hl hu hm hh hb hn hf hw hc rfl
    have loaded := loadCam_wellFormed _ (refOf p s.dev) d' bs b ht hl hu hm hh hb hn hf hw hc
    refine ⟨fun hused => r.next (congrArg _ (loaded.trans (if_pos hused))), fun hfree => r.next ?_⟩
    rw [loaded.trans (if_neg (Bool.eq_false_iff.mp hfree))]
    split <;> rfl
  case stream =>
    rintro s p p' d' _ _ r rfl rfl h1 h64 hr
    refine ⟨fun hn => r.next (congrArg _ (stream_badLength _ _ _ h1 h64 hn)), fun hn hw h => r.next ?_, fun hn hw hd hc => r.next ?_, fun hn hw hd hc => r.next ?_⟩
    · cases hd : d'.ha (par p' 25 1) with
      | false => exact congrArg _ (stream_noDuty _ _ _ hn hw hd)
      | true => exact congrArg _ ((stream_inDuty _ _ _ hn hw hd h1 h64 hr).trans (if_pos (h.resolve_left (by simp [hd]))))
    · rw [stream_inDuty _ _ _ hn (by omega) (hw.symm ▸ hd) h1 h64 hr, if_neg (Bool.eq_false_iff.mp hc), hw]
      rfl
    · rw [stream_inDuty _ _ _ hn (by omega) (hw.symm ▸ hd) h1 h64 hr, if_neg (Bool.eq_false_iff.mp hc), hw]
      rfl

end

section
/-! PROOFS. Traces, inertia monitors and identification (R213, R214, R218, R219, R221 to R224, R229): the trace units as they start and stop, MON_APPLY,
IDENTIFY_AXIS and the end of a hold, and O38. -/
namespace Sys2Proof.Machine

/-! ## Trace units -/

theorem traceUnit_setUnit (u : Nat) (t : TraceUnit) (d : Dev) : (d.setUnit u t).traceUnit u = t := smGet_smSet_same _ _ _ _
theorem traceUnit_congr {d e : Dev} (h : d.trc = e.trc) (u : Nat) : d.traceUnit u = e.traceUnit u :=
  congrArg (fun t : Trc => smGet (fun _ => TraceUnit.reset) t.units u) h

/-! ## A start (R218, R219, R221, R229) -/

/-- Unit `u` as a start that passes its checks leaves it: its words captured, its start due for `ref`. -/
def Dev.starting (d : Dev) (u : Nat) (ref : Option PktRef) : TraceUnit :=
  { d.traceUnit u with words := d.capture (traceRegs u), startDue := some ref, probes := traceProbes d.rd u, size := sampleSize (traceProbes d.rd u) }
theorem startTrace_passes {u : Nat} {d : Dev} (ref : Option PktRef) (hr : d.traceRule u = none)
    (hf : d.tracedFail ((traceProbes d.rd u).map (·.1)) = none) : d.startTrace u ref = (none, d.setUnit u (d.starting u ref)) := by
  simp only [Dev.startTrace, hr, hf]
  rfl
/-- The rules of the unit come before the budget of the axes it traces. -/
theorem startTrace_fails {u : Nat} {d : Dev} {r : Nat × Nat} (ref : Option PktRef)
    (h : (d.traceRule u).orElse (fun _ => d.tracedFail ((traceProbes d.rd u).map (·.1))) = some r) : d.startTrace u ref = (some r, d) := by
  cases hr : d.traceRule u with
  | some x =>
    rw [hr] at h
    obtain rfl : x = r := Option.some.inj h
    simp only [Dev.startTrace, hr]
  | none =>
    rw [hr] at h
    have budget : d.tracedFail ((traceProbes d.rd u).map (·.1)) = some r := h
    simp only [Dev.startTrace, hr, budget]

section
variable (p : Packet) (ref : PktRef) (d : Dev)

/-- The checks of a START_TRACE in their order. -/
theorem opStartTrace_checks : opStartTrace.run p ref d =
    if 4 ≤ par p 22 1 then (.bad stBAD_PARAMETER, d)
    else if d.traceBusy (par p 22 1) then (.bad stBUSY, d)
    else match d.startTrace (par p 22 1) (some ref) with
      | (some r, e) => (.done stCONSISTENCY (ruleResult r.1 r.2), e)
      | (none, e) => (.later, e) := rfl
theorem opStartTrace_badUnit (h : 4 ≤ par p 22 1) : opStartTrace.run p ref d = (.bad stBAD_PARAMETER, d) := if_pos h
theorem opStartTrace_busy (hu : par p 22 1 < 4) (hb : d.traceBusy (par p 22 1) = true) : opStartTrace.run p ref d = (.bad stBUSY, d) := by
  rw [opStartTrace_checks, if_neg (Nat.not_le.mpr hu), if_pos hb]
theorem opStartTrace_waits (hu : par p 22 1 < 4) (hb : d.traceBusy (par p 22 1) = false) (hr : d.traceRule (par p 22 1) = none)
    (hf : d.tracedFail ((traceProbes d.rd (par p 22 1)).map (·.1)) = none) :
    opStartTrace.run p ref d = (.later, d.setUnit (par p 22 1) (d.starting (par p 22 1) (some ref))) := by
  rw [opStartTrace_checks, if_neg (Nat.not_le.mpr hu), if_neg (by simp [hb]), startTrace_passes _ hr hf]
theorem opStartTrace_fails (hu : par p 22 1 < 4) (hb : d.traceBusy (par p 22 1) = false) {r : Nat × Nat}
    (h : (d.traceRule (par p 22 1)).orElse (fun _ => d.tracedFail ((traceProbes d.rd (par p 22 1)).map (·.1))) = some r) :
    opStartTrace.run p ref d = (.done stCONSISTENCY (ruleResult r.1 r.2), d) := by
  rw [opStartTrace_checks, if_neg (Nat.not_le.mpr hu), if_neg (by simp [hb]), startTrace_fails _ h]

end

section
variable (u : Nat) (d : Dev)

theorem ucmdStart_waiting (h : d.on (TRC_UCMD.START u) = true) : d.ucmdStart u = d := if_pos h

variable (hw : d.on (TRC_UCMD.START u) = false)
include hw

theorem ucmdStart_refused (h : traceModes.contains d.mode = false ∨ d.traceBusy u = true) : d.ucmdStart u = d.set (TRC_USTATUS.REFUSED u) 1 := by
  have barred : (!traceModes.contains d.mode || d.traceBusy u) = true := by rcases h with h | h <;> rw [h] <;> simp
  exact (if_neg (by simp [hw])).trans (if_pos barred)

variable (hm : traceModes.contains d.mode = true) (hb : d.traceBusy u = false)
include hm hb

theorem ucmdStart_checks : d.ucmdStart u = match d.startTrace u none with
    | (some r, e) => (e.set (TRC_USTATUS.REFUSED u) 1).wr (TRC_USAMPLES u) r.1
    | (none, e) => e.set (TRC_UCMD.START u) 1 :=
  (if_neg (by simp [hw])).trans (if_neg (by rw [hm, hb]; decide))
theorem ucmdStart_waits (hr : d.traceRule u = none) (hf : d.tracedFail ((traceProbes d.rd u).map (·.1)) = none) :
    d.ucmdStart u = (d.setUnit u (d.starting u none)).set (TRC_UCMD.START u) 1 := by
  rw [ucmdStart_checks u d hw hm hb, startTrace_passes _ hr hf]
theorem ucmdStart_fails {r : Nat × Nat} (h : (d.traceRule u).orElse (fun _ => d.tracedFail ((traceProbes d.rd u).map (·.1))) = some r) :
    d.ucmdStart u = (d.set (TRC_USTATUS.REFUSED u) 1).wr (TRC_USAMPLES u) r.1 := by
  rw [ucmdStart_checks u d hw hm hb, startTrace_fails _ h]

end

/-! ## A stop (R219, R221, R229) -/

theorem stopDue_stopTrace {u : Nat} {d : Dev} (h : d.get (TRC_USTATUS.STATE u) = 1 ∨ d.get (TRC_USTATUS.STATE u) = 2) :
    ((d.stopTrace u).traceUnit u).stopDue = true := by
  rw [Dev.stopTrace, if_pos (by simpa using h), traceUnit_setUnit]
theorem units_of_single_bit : ∀ u < 4, (List.range 4).filter (bitAt (2 ^ u)) = [u] := by decide
theorem ucmdStop_elsewhere {d : Dev} (u : Nat) (h : traceModes.contains d.mode = false) : d.ucmdStop u = d :=
  if_neg (Bool.eq_false_iff.mp h)
theorem ucmdStop_traces {d : Dev} (u : Nat) (h : traceModes.contains d.mode = true) :
    d.ucmdStop u = (d.set (TRC_UCMD.STOP u) 1).stopTrace u := if_pos h

/-! ## MON_APPLY (R213, R229) -/

/-- The axes that the enabled monitor entries name. -/
def Dev.monitored (d : Dev) : List Nat :=
  (List.range 16).filterMap (fun k => if d.on (TRC_MON.EN k) then some (d.get (TRC_MON.AXIS k)) else none)

section
variable (d : Dev)

theorem monApply_waiting (h : d.on TRC_MON_CTRL.APPLY = true) : d.monApply = d := if_pos h

variable (hw : d.on TRC_MON_CTRL.APPLY = false)
include hw

theorem monApply_checks : d.monApply =
    if d.monitored.all (fun a => (d.calOf 4 a).isSome) && (d.tracedFail d.monitored).isNone then
      ((d.set TRC_MON_CTRL.APPLY 1).set TRC_MON_CTRL.REFUSED 0).holdCommit 0x0401 (d.capture ((List.range 16).map TRC_MON)) none
    else d.set TRC_MON_CTRL.REFUSED 1 := if_neg (by simp [hw])
theorem monApply_captured (hc : d.monitored.all (fun a => (d.calOf 4 a).isSome) = true) (hf : d.tracedFail d.monitored = none) : d.monApply =
    ((d.set TRC_MON_CTRL.APPLY 1).set TRC_MON_CTRL.REFUSED 0).holdCommit 0x0401 (d.capture ((List.range 16).map TRC_MON)) none := by
  rw [monApply_checks d hw, if_pos (by rw [hc, hf]; rfl)]
theorem monApply_refused (h : d.monitored.all (fun a => (d.calOf 4 a).isSome) = false ∨ d.tracedFail d.monitored ≠ none) :
    d.monApply = d.set TRC_MON_CTRL.REFUSED 1 := by
  have fails : ¬ (d.monitored.all (fun a => (d.calOf 4 a).isSome) && (d.tracedFail d.monitored).isNone) = true := by
    rw [Bool.and_eq_true, Option.isNone_iff_eq_none, not_and_or]
    exact h.imp_left (fun hc => by simp [hc])
  rw [monApply_checks d hw, if_neg fails]

end

/-! ## IDENTIFY_AXIS (R213, R222) -/

section
variable (p : Packet) (ref : PktRef) (d : Dev)

/-- Whether the axis, the velocity and the hold of an IDENTIFY_AXIS lie within R222. -/
def Dev.identFits : Bool :=
  decide (par p 22 2 < 512) && fpFinite (par p 24 4) && fpPos (par p 24 4) && !fpLt (d.axisLive (par p 22 2) pVMAX) (par p 24 4) &&
    decide (10 ≤ par p 28 2) && decide (par p 28 2 ≤ 1000)
/-- Whether axis `a` is clean, at rest and able to jog. -/
def Dev.identReady (d : Dev) (a : Nat) : Bool :=
  (d.axis a).enabled && !(d.axis a).faulted && (optMode (d.params a) == 1 || optMode (d.params a) == 2) && fpEq (d.axis a).vs 0 && (d.axis a).ph == 8 &&
    !d.groupLatched (d.groupOf a) && !fpEq (d.axisLive a pJOG_ACCEL) 0
/-- Whether an identification runs or waits in the log. -/
def Dev.identBusy (d : Dev) : Bool :=
  d.trc.ident.isSome || d.cyc.waiting.any (fun e => match e.act with | .identify _ _ => true | _ => false)

/-- With an axis that exists the parameters break R222 where one of its comparisons fails. -/
theorem not_identFits (ha : par p 22 2 < 512) : (!d.identFits p) = (!fpFinite (par p 24 4) || !fpPos (par p 24 4) ||
    fpLt (d.axisLive (par p 22 2) pVMAX) (par p 24 4) || decide (par p 28 2 < 10) || decide (1000 < par p 28 2)) := by
  simp only [Dev.identFits, decide_eq_true ha, Bool.true_and, Bool.not_and, Bool.not_not, ← decide_not, Nat.not_le]
theorem not_identReady (a : Nat) : (!d.identReady a) = (!(d.axis a).enabled || (d.axis a).faulted ||
    (decide (optMode (d.params a) ≠ 1) && decide (optMode (d.params a) ≠ 2)) || !(fpEq (d.axis a).vs 0 && (d.axis a).ph == 8) ||
    d.groupLatched (d.groupOf a) || fpEq (d.axisLive a pJOG_ACCEL) 0) := by
  simp only [Dev.identReady, Bool.not_and, Bool.not_or, Bool.not_not, Bool.or_assoc, decide_not, beq_eq_decide]
/-- The checks of an IDENTIFY_AXIS in their order. -/
theorem opIdentify_checks : opIdentify.run p ref d =
    if !d.identFits p then (.bad stBAD_PARAMETER, d)
    else if !d.identReady (par p 22 2) then (.bad stWRONG_MODE, d)
    else if d.identBusy then (.bad stBUSY, d)
    else match d.tracedFail [par p 22 2] with
      | some r => (.done stCONSISTENCY (ruleResult r.1 r.2), d)
      | none => d.logPacket 0x01 68 (.identify (par p 22 2) (leBytes 4 (par p 24 4) ++ leBytes 2 (par p 28 2) ++ leBytes 1 (par p 30 1))) ref := by
  rcases Nat.lt_or_ge (par p 22 2) 512 with ha | ha
  · rw [not_identFits p d ha, not_identReady]
    exact if_neg (Nat.not_le.mpr ha)
  · have noAxis : d.identFits p = false := by simp [Dev.identFits, Nat.not_lt.mpr ha]
    rw [noAxis]
    exact if_pos ha
theorem opIdentify_badParameter (h : d.identFits p = false) : opIdentify.run p ref d = (.bad stBAD_PARAMETER, d) := by
  rw [opIdentify_checks, h]
  rfl

variable (hp : d.identFits p = true)
include hp

theorem opIdentify_wrongMode (h : d.identReady (par p 22 2) = false) : opIdentify.run p ref d = (.bad stWRONG_MODE, d) := by
  rw [opIdentify_checks, hp, h]
  rfl

variable (hr : d.identReady (par p 22 2) = true)
include hr

theorem opIdentify_busy (h : d.identBusy = true) : opIdentify.run p ref d = (.bad stBUSY, d) := by
  rw [opIdentify_checks, hp, hr, h]
  rfl

variable (hb : d.identBusy = false)
include hb

theorem opIdentify_budget {r : Nat × Nat} (h : d.tracedFail [par p 22 2] = some r) :
    opIdentify.run p ref d = (.done stCONSISTENCY (ruleResult r.1 r.2), d) := by
  rw [opIdentify_checks, hp, hr, hb, h]
  rfl
theorem opIdentify_logged (h : d.tracedFail [par p 22 2] = none) : opIdentify.run p ref d =
    d.logPacket 0x01 68 (.identify (par p 22 2) (leBytes 4 (par p 24 4) ++ leBytes 2 (par p 28 2) ++ leBytes 1 (par p 30 1))) ref := by
  rw [opIdentify_checks, hp, hr, hb, h]
  rfl

end

/-! ## The end of a hold (R223) -/

section
variable (d : Dev)

theorem identHold_none (h : d.trc.ident.bind (·.holdEnd) = none) : d.identHold = d := by
  cases hi : d.trc.ident with
  | none => simp only [Dev.identHold, hi]
  | some i =>
    rw [hi] at h
    have noHold : i.holdEnd = none := h
    simp only [Dev.identHold, hi, noHold]

variable (i : Ident) (t : LTime) (hi : d.trc.ident = some i) (ht : i.holdEnd = some t)
include hi ht

theorem identHold_ends (hl : i.left = []) : d.identHold = (d.reach t).identSolve i := by
  simp only [Dev.identHold, hi, ht, hl]
  rfl
theorem identHold_goesOn {v : Nat} {vs : List Nat} (hl : i.left = v :: vs) : d.identHold = Dev.logInput 0x01 68 (.jog i.axis v) none
    { d.reach t with trc := { d.trc with ident := some { i with left := vs, target := v, holdEnd := none } } } := by
  simp only [Dev.identHold, hi, ht, hl, Dev.identNext, Dev.reach_trc]
  rfl

end
end Sys2Proof.Machine

open Sys2Proof Sys2Proof.Machine

/-- Settles O38: the clauses are the outcomes of the checks of each command, in their order (R213, R218, R219, R221 to R224, R229). -/
theorem tracesMonitorsAndIdentification : Obligations.TracesMonitorsAndIdentification := by
  refine ⟨?start, fun s p p' d' r => ⟨_, rfl, r.next rfl⟩, ?stopUnit, fun s u h => next_of_fixed (ucmdStart_waiting _ _ h), ?ucmdStart,
    fun s u => ⟨fun h => next_of_fixed (ucmdStop_elsewhere _ h), fun h => next_of_dev (ucmdStop_traces _ h)⟩,
    fun s h => next_of_fixed (monApply_waiting _ h), ?monApply, ?badParameter, ?identify, ?hold, fun s h => next_of_fixed (identHold_none _ h)⟩
  case start =>
    rintro s p p' d' _ r rfl
    refine ⟨fun h => r.next (congrArg _ (opStartTrace_badUnit _ _ _ h)), fun hu hb => r.next (congrArg _ (opStartTrace_busy _ _ _ hu hb)),
      fun hu hb hr hf => ⟨_, r.next (congrArg _ (opStartTrace_waits _ _ _ hu hb hr hf)), ?_⟩,
      fun x hu hb h => r.next (congrArg _ (opStartTrace_fails _ _ _ hu hb h))⟩
    rw [State.onDev_dev, answer_later, traceUnit_setUnit]
    exact ⟨rfl, rfl, rfl⟩
  case stopUnit =>
    intro s p p' d' u r hu hm hs
    refine ⟨_, r.next (answer_done _ _ _ _), ?_⟩
    rw [State.onDev_dev, traceUnit_congr (complete_trc _ _ _ _ _), hm, units_of_single_bit u hu]
    exact stopDue_stopTrace hs
  case ucmdStart =>
    intro s u hw
    refine ⟨fun h => next_of_dev (ucmdStart_refused _ _ hw h), fun hm hb hr hf =>
      ⟨_, next_of_dev (g := fun _ => _) (ucmdStart_waits _ _ hw hm hb hr hf), ?_, ?_⟩,
      fun r hm hb h => next_of_dev (ucmdStart_fails _ _ hw hm hb h)⟩
    · exact on_set_flag (TRC_UCMD.START u.val) true _ ((by decide : 0 < 32)) rfl
    · rw [State.onDev_dev, traceUnit_congr (Dev.set_trc _ _ _), traceUnit_setUnit]
      rfl
  case monApply =>
    rintro s _ hw rfl
    exact ⟨fun hc hf => next_of_dev (monApply_captured _ hw hc hf), fun h => next_of_dev (monApply_refused _ hw h)⟩
  case badParameter =>
    rintro s p p' d' _ _ _ _ r rfl rfl rfl rfl h
    exact r.next (congrArg _ (opIdentify_badParameter _ _ _ h))
  case identify =>
    rintro s p p' d' _ _ _ _ _ r rfl rfl rfl ha hv hpos hmax hlo hhi rfl rfl
    have fits : d'.identFits p' = true := by simp [Dev.identFits, ha, hv, hpos, hmax, hlo, hhi]
    refine ⟨fun h => r.next (congrArg _ (opIdentify_wrongMode _ _ _ fits h)), fun hr hb => r.next (congrArg _ (opIdentify_busy _ _ _ fits hr hb)),
      fun hr hb => r.next ?_, fun hr hb hf => r.next (congrArg _ (opIdentify_logged _ _ _ fits hr hb hf))⟩
    cases hf : d'.tracedFail [par p' 22 2] with
    | some x => exact congrArg _ (opIdentify_budget _ _ _ fits hr hb hf)
    | none => exact congrArg _ (opIdentify_logged _ _ _ fits hr hb hf)
  case hold =>
    intro s i t hi ht
    refine ⟨fun hl => next_of_dev (identHold_ends _ i t hi ht hl), fun v vs hl =>
      ⟨_, next_of_dev (g := fun _ => _) (identHold_goesOn _ i t hi ht hl), rfl, ?_⟩⟩
    exact Nat.le_max_right _ _

end

section
/-! PROOFS. Captures across controllers (R227, R250, R266, R268, R271 to R278): arm, fire and disarm frames, the trigger bus and its calibration,
registration marks and their set-up, and O41. -/
namespace Sys2Proof.Machine

/-! ## Arm, fire and disarm frames (R272 to R274) -/

section
variable (k : Nat) (b : List Byte) (d : Dev)

/-- An arm frame's group and identifier are noted, with what its group's units are armed with, and the frame goes on. -/
def Dev.noteArm : Dev :=
  Dev.floodTrunks 0x12 b (some k) { d with acq := { d.acq with
    seen := d.acq.seen ++ [(0x12, fieldAt b 0 1, fieldAt b 4 4)]
    groups := (d.acq.groups.filter (fun x => x.1 != fieldAt b 0 1)) ++ [(fieldAt b 0 1, fieldAt b 18 4, fieldAt b 22 2)] } }
/-- A fire frame that is the earliest of its identifier is noted and goes on. -/
def Dev.noteFire : Dev :=
  Dev.floodTrunks 0x13 b (some k) { d with acq := { d.acq with fires := putKey (fieldAt b 4 4) (fieldAt b 8 10) d.acq.fires } }
/-- A disarm frame's group and identifier are noted, and the frame goes on. -/
def Dev.noteDisarm : Dev :=
  Dev.floodTrunks 0x14 b (some k) { d with acq := { d.acq with seen := d.acq.seen ++ [(0x14, fieldAt b 0 1, fieldAt b 4 4)] } }

theorem armFrame_dropped (h : (b.length ≠ 24 ∨ 16 ≤ fieldAt b 0 1) ∨ d.acq.seen.contains (0x12, fieldAt b 0 1, fieldAt b 4 4) = true) :
    d.armFrame k b = d := if_pos (by simpa using h)
theorem fireFrame_dropped (h : b.length ≠ 24 ∨ 16 ≤ fieldAt b 0 1) : d.fireFrame k b = d := if_pos (by simpa using h)
theorem disarmFrame_dropped (h : (b.length ≠ 8 ∨ 16 ≤ fieldAt b 0 1) ∨ d.acq.seen.contains (0x14, fieldAt b 0 1, fieldAt b 4 4) = true) :
    d.disarmFrame k b = d := if_pos (by simpa using h)

theorem disarmFrame_new (hl : b.length = 8) (hg : fieldAt b 0 1 < 16) (hs : d.acq.seen.contains (0x14, fieldAt b 0 1, fieldAt b 4 4) = false) :
    d.disarmFrame k b = (d.noteDisarm k b).forEach (d.groupUnits (fieldAt b 0 1)) Dev.disarm :=
  if_neg (by rw [hs]; simp [hl, hg])

variable (hl : b.length = 24) (hg : fieldAt b 0 1 < 16)
include hl hg

theorem armFrame_new (hs : d.acq.seen.contains (0x12, fieldAt b 0 1, fieldAt b 4 4) = false) : d.armFrame k b =
    ((d.noteArm k b).armUnits ((d.noteArm k b).groupUnits (fieldAt b 0 1)) (fieldAt b 4 4)
      (if bitAt (fieldAt b 1 1) 0 then some (fieldAt b 8 10) else none) (fieldAt b 18 4) (fieldAt b 22 2)).2 :=
  if_neg (by rw [hs]; simp [hl, hg])
theorem fireFrame_applied : d.fireFrame k b =
    (if d.acq.fires.any (fun f => f.1 == fieldAt b 4 4 && decide (f.2 ≤ fieldAt b 8 10)) then d else d.noteFire k b).applyFire (fieldAt b 0 1)
      (fieldAt b 8 10) (bitAt (fieldAt b 3 1) 0) (bitAt (fieldAt b 3 1) 1) (fieldAt b 2 1) (fieldAt b 1 1) :=
  if_neg (by simp [hl, hg])

end

/-! ## Frames of the trigger bus (R276, R277) -/

section
variable (rx bits : Nat) (d : Dev)

theorem tbusFrame_disabled (h : d.on TDC_TBUS_CTRL.EN = false) : d.tbusFrame rx bits = d := if_pos (by simp [h])

/-- A frame of good parity occupies the bus (log 57) and tells its sender's D0 code, which the class 1 record's age is judged by. -/
def Dev.hearTbus : Dev :=
  Dev.showTbusStale { d with acq := { d.acq with
    busBusy := rx + ns 3400
    d0 := putKey (bitsOf bits 12 8) (bitsOf bits 24 13) d.acq.d0
    d0Cal := if d.acq.d0Cal.any (fun x => x.1 == bitsOf bits 12 8) then d.acq.d0Cal else putKey (bitsOf bits 12 8) (bitsOf bits 24 13) d.acq.d0Cal } }

/-- A synchronisation clears the SYNCCLK count. -/
def Dev.clearSync : Dev := { (d.hearTbus rx bits).wr64 TDC_SYNC_LO 0 with acq := { (d.hearTbus rx bits).acq with sync := 0 } }

variable (he : d.on TDC_TBUS_CTRL.EN = true)
include he

theorem tbusFrame_badParity (hp : ((List.range 32).map (fun i => flag (bitAt bits i))).sum % 2 = 1) (hk : bitsOf bits 3 0 ≠ 2) :
    d.tbusFrame rx bits = ({ d with acq := { d.acq with busBusy := rx + ns 3400 } } : Dev).count TDC_TBUS_ERR.PARITY 1 := by
  simp [Dev.tbusFrame, he, hp, hk]

variable (hp : ((List.range 32).map (fun i => flag (bitAt bits i))).sum % 2 = 0)
include hp

theorem tbusFrame_fire (hk : bitsOf bits 3 0 = 2) : d.tbusFrame rx bits = (d.hearTbus rx bits).applyFire (bitsOf bits 7 4)
    (rx - (d.hearTbus rx bits).tbusDelay (bitsOf bits 24 13) - ns 200) false false 0xFF 0xFF := by
  simp only [Dev.tbusFrame, he, hp, hk]
  rfl
theorem tbusFrame_disarm (hk : bitsOf bits 3 0 = 3) :
    d.tbusFrame rx bits = (d.hearTbus rx bits).forEach ((d.hearTbus rx bits).groupUnits (bitsOf bits 7 4)) Dev.disarm := by
  simp only [Dev.tbusFrame, he, hp, hk]
  rfl
theorem tbusFrame_sync (hk : bitsOf bits 3 0 = 6) : d.tbusFrame rx bits = d.clearSync rx bits := by
  simp only [Dev.tbusFrame, he, hp, hk]
  rfl

end

theorem rd_wr64_low (a v : Nat) (d : Dev) : (d.wr64 a v).rd a = v % 2 ^ 32 := by
  rw [Dev.wr64, Dev.rd_wr_other _ _ _ _ (Nat.ne_of_lt (Nat.lt_add_of_pos_right (by decide))), Dev.rd_wr_same, Nat.mod_mod]
theorem rd_wr64_high (a v : Nat) (d : Dev) : (d.wr64 a v).rd (a + 4) = v / 2 ^ 32 % 2 ^ 32 := Dev.rd_wr_same _ _ _

/-! ## What a calibration record leaves of the captures and of the bus's own delays (R226, R227) -/

/-- A field reads the same where its register does. -/
theorem get_of_rd (f : Fld) {d e : Dev} (h : d.rd f.a = e.rd f.a) : d.get f = e.get f := congrArg (fun v => bitsOf v f.hi f.lo) h
/-- What the trigger bus works on: the state of the captures, and the register of its own delays. -/
def Dev.busPart (d : Dev) : Acq × Nat := (d.acq, d.rd TDC_TBUS_D0)

theorem busPart_of_rest {d e : Dev} (h : restOf d = restOf e) (hr : d.rd TDC_TBUS_D0 = e.rd TDC_TBUS_D0) : d.busPart = e.busPart :=
  Prod.ext (congrArg Dev.Rest.acq h) hr
theorem busPart_set (f : Fld) (v : Nat) (d : Dev) (h : TDC_TBUS_D0 ≠ f.a) : (d.set f v).busPart = d.busPart :=
  busPart_of_rest (rest_set f v d) (Dev.rd_set_other f v _ d h)
theorem busPart_wr (a v : Nat) (d : Dev) (h : TDC_TBUS_D0 ≠ a) : (d.wr a v).busPart = d.busPart :=
  busPart_of_rest (rest_wr a v d) (Dev.rd_wr_other a v _ d h)
theorem busPart_trc (t : Trc) (d : Dev) : ({ d with trc := t } : Dev).busPart = d.busPart := rfl
theorem busPart_post (x y : Nat) (bs : List Byte) (d : Dev) : (d.post x y bs).busPart = d.busPart := rfl
theorem busPart_staleClass (c : Nat) (v : Bool) (d : Dev) : (d.staleClass c v).busPart = d.busPart :=
  (busPart_of_rest (rest_cond _ _ _) (rd_cond_other _ _ _ _ (by decide) (by decide))).trans (busPart_set _ _ _ (by decide))
theorem busPart_showLedger (d : Dev) : d.showLedger.busPart = d.busPart := by
  rw [Dev.showLedger, Dev.wr64, busPart_wr _ _ _ (by decide), busPart_wr _ _ _ (by decide), busPart_set _ _ _ (by decide), busPart_set _ _ _ (by decide)]
theorem busPart_checkFill (d : Dev) : d.checkFill.busPart = d.busPart := by
  unfold Dev.checkFill
  dsimp only
  have compacting : ∀ l : Ledger, (Dev.set LDG_STATUS.COMPACTING 1 { d with ledger := l }).busPart = d.busPart := fun l => busPart_set _ _ _ (by decide)
  split
  · rfl
  · split
    · rw [busPart_post, busPart_set _ _ _ (by decide), compacting]
    · rw [compacting]
theorem busPart_transact (items : List (Nat × List Byte)) (d : Dev) : (d.transact items).busPart = d.busPart := by
  unfold Dev.transact
  split
  · rfl
  · dsimp only
    rw [busPart_checkFill, busPart_showLedger]
    rfl
theorem busPart_transactLimited (typ : Nat) (body : List Byte) (d : Dev) : (d.transactLimited typ body).busPart = d.busPart := by
  unfold Dev.transactLimited
  split
  · exact busPart_wr _ _ _ (by decide)
  · exact busPart_transact _ _
/-- Only a record of class 4 restarts the inertia monitors. -/
theorem busPart_takeCal (rcd : List Byte) (d : Dev) (h : fieldAt rcd 0 1 ≠ 4) : (d.takeCal rcd).busPart = d.busPart := by
  rw [Dev.takeCal, if_neg h, Dev.keepCal, busPart_trc, busPart_transactLimited]
theorem class_calBytes_bus (vals : List Byte) (d : Dev) : fieldAt (d.calBytes 1 0 vals).1 0 1 = 1 := rfl
theorem busPart_freeCal (d : Dev) : (d.freeCal 1 0).busPart = d.busPart :=
  busPart_takeCal _ _ (by rw [class_calBytes_bus]; decide)

/-! ## The calibration of the trigger bus (R277) -/

section
variable (m : Option (Nat × Nat)) (d : Dev)

theorem tbusCalibration_disabled (h : d.on TDC_TBUS_CTRL.EN = false) : d.tbusCalibration m = d := if_pos (by simp [h])
theorem tbusCalibration_notDue (ha : d.acq.tbusAsked = false) (h : d.on TDC_TBUS_CTRL.TBUS_BG = false ∨ d.now < d.acq.busBusy) :
    d.tbusCalibration m = d := by
  have noBackground : ¬ (d.on TDC_TBUS_CTRL.TBUS_BG && decide (d.acq.busBusy ≤ d.now)) = true := by
    rw [Bool.and_eq_true, decide_eq_true_eq, not_and_or, Nat.not_le]
    exact h.imp_left Bool.eq_false_iff.mp
  cases he : d.on TDC_TBUS_CTRL.EN with
  | false => exact tbusCalibration_disabled m d he
  | true => exact (if_neg (by simp [he])).trans ((if_neg (by simp [ha])).trans (if_neg noBackground))

variable (he : d.on TDC_TBUS_CTRL.EN = true)
include he

theorem tbusCalibration_background (ha : d.acq.tbusAsked = false) (hb : d.on TDC_TBUS_CTRL.TBUS_BG = true) (hn : d.acq.busBusy ≤ d.now) :
    d.tbusCalibration m = d.tbusRequest.tbusResult m :=
  (if_neg (by simp [he])).trans ((if_neg (by simp [ha])).trans (if_pos (by simp [hb, hn])))
theorem tbusCalibration_asked (ha : d.acq.tbusAsked = true) :
    d.tbusCalibration m = Dev.tbusResult m { d with acq := { d.acq with tbusAsked := false } } :=
  (if_neg (by simp [he])).trans (if_pos ha)

end

section
variable (loop rtt : Nat) (d : Dev)

/-- D0 as the measured loop and round trip give it. -/
def Dev.measuredD0 : Nat :=
  (clampInt 0 4095 (if d.get TDC_TBUS_CTRL.SLOT = 0 then 0 else roundHalfAway ((rtt : Int) - ns 2000 - 2 * loop) (2 * 16384))).toNat
/-- The register of the measured delays. -/
def Dev.showDelays : Dev := (d.set TDC_TBUS_D0.D0 (d.measuredD0 loop rtt)).set TDC_TBUS_D0.LOOP (min (2 ^ 20 - 1) (loop / 256))
theorem get_showDelays_loop : (d.showDelays loop rtt).get TDC_TBUS_D0.LOOP = min (2 ^ 20 - 1) (loop / 256) := by
  have fits : min (2 ^ 20 - 1) (loop / 256) < 2 ^ 20 := by omega
  rw [Dev.showDelays, Dev.get_set_same _ _ _ (by decide)]
  exact Nat.mod_eq_of_lt fits
theorem get_showDelays_d0 : (d.showDelays loop rtt).get TDC_TBUS_D0.D0 = d.measuredD0 loop rtt % 2 ^ 12 := by
  rw [Dev.showDelays, Dev.get_set_other _ _ _ _ (by decide) (by decide), Dev.get_set_same _ _ _ (by decide)]
  rfl
/-- A result shows the measured delays, and keeps the D0 codes that they were taken at. -/
theorem busPart_tbusResult : (d.tbusResult (some (loop, rtt))).busPart = ({ d.acq with d0Cal := d.acq.d0 }, (d.showDelays loop rtt).rd TDC_TBUS_D0) := by
  rw [Dev.tbusResult, busPart_post, busPart_staleClass, busPart_freeCal]
  rfl
theorem acq_tbusResult : (d.tbusResult (some (loop, rtt))).acq = { d.acq with d0Cal := d.acq.d0 } := congrArg Prod.fst (busPart_tbusResult loop rtt d)
theorem rd_tbusResult : (d.tbusResult (some (loop, rtt))).rd TDC_TBUS_D0 = (d.showDelays loop rtt).rd TDC_TBUS_D0 :=
  congrArg Prod.snd (busPart_tbusResult loop rtt d)
theorem get_tbusResult_loop : (d.tbusResult (some (loop, rtt))).get TDC_TBUS_D0.LOOP = min (2 ^ 20 - 1) (loop / 256) := by
  rw [get_of_rd TDC_TBUS_D0.LOOP (rd_tbusResult loop rtt d), get_showDelays_loop]
/-- Slot 0 measures no round trip. -/
theorem get_tbusResult_d0 (h : d.get TDC_TBUS_CTRL.SLOT = 0) : (d.tbusResult (some (loop, rtt))).get TDC_TBUS_D0.D0 = 0 := by
  rw [get_of_rd TDC_TBUS_D0.D0 (rd_tbusResult loop rtt d), get_showDelays_d0, Dev.measuredD0, if_pos h]
  rfl

end

/-! ## A registration mark (R268, R271) -/

theorem rd_setReg (r : Nat) (c : RegCh) (d : Dev) (a : Nat) : (d.setReg r c).rd a = d.rd a := rfl
theorem cyc_setReg (r : Nat) (c : RegCh) (d : Dev) : (d.setReg r c).cyc = d.cyc := rfl
/-- Counting a mark leaves the mode and the permit alone. -/
theorem mode_countMark (r : Nat) (e : Int × Option Int) (d : Dev) : (d.countMark r e).rd SYS_MODE = d.rd SYS_MODE := by
  have counts : SYS_MODE ≠ ACQ_REG_COUNTS r := Nat.ne_of_lt (Nat.lt_add_right _ (by decide))
  have missed : SYS_MODE ≠ ACQ_REG_SEQ r := Nat.ne_of_lt (Nat.lt_add_right _ (by decide))
  unfold Dev.countMark Dev.count
  split
  · rw [Dev.rd_set_other _ _ _ _ missed, rd_setReg, Dev.rd_set_other _ _ _ _ counts]
  · rw [Dev.rd_post, Dev.rd_set_other _ _ _ _ counts]
theorem permit_countMark (r : Nat) (e : Int × Option Int) {d d1 : Dev} {c : RegCh} (h : d1 = d.setReg r c) : (d1.countMark r e).permit = d.permit :=
  permit_of_rd ((mode_countMark r e d1).trans (h ▸ rfl))
theorem sync_countMark (r : Nat) (e : Int × Option Int) {d d1 : Dev} {c : RegCh} (h : d1 = d.setReg r c) : (d1.countMark r e).sync = d.sync := by
  have mode : (d1.countMark r e).mode = d.mode := mode_of_rd _ _ ((mode_countMark r e d1).trans (h ▸ rfl))
  rw [Dev.sync, mode, Dev.sync]
theorem waiting_logInput (k n : Nat) (a : LogAct) (ref : Option PktRef) (d : Dev) :
    (d.logInput k n a ref).cyc.waiting = d.cyc.waiting ++ [⟨k, n, a, ref⟩] := rfl
theorem get_logInput (k n : Nat) (a : LogAct) (ref : Option PktRef) (d : Dev) (f : Fld) : (d.logInput k n a ref).get f = d.get f := rfl
/-- The request of an accepted mark enters the log, and the channel's sequence follows it (R271). -/
def Dev.logRegRequest (r : Nat) (v : Int) (seq : Nat) (d : Dev) : Dev :=
  ((d.setReg r { d.regCh r with seq := seq }).set (ACQ_REG_SEQ.SEQ r) seq).logInput 0x08 16 (.regRequest r v seq) none
theorem waiting_logRegRequest (r : Nat) (v : Int) (seq : Nat) (d : Dev) :
    (d.logRegRequest r v seq).cyc.waiting = d.cyc.waiting ++ [⟨0x08, 16, .regRequest r v seq, none⟩] := by
  rw [Dev.logRegRequest, waiting_logInput, Dev.set_cyc, cyc_setReg]
theorem get_logRegRequest_seq (r : Nat) (v : Int) (seq : Nat) (d : Dev) : (d.logRegRequest r v seq).get (ACQ_REG_SEQ.SEQ r) = seq % 65536 := by
  rw [Dev.logRegRequest, get_logInput, Dev.get_set_same _ _ _ (by decide : 31 < 32)]
  rfl

section
variable (r : Nat) (d : Dev)

theorem regReady_none (h : (d.regCh r).marks = []) : d.regReady r = d := by
  simp only [Dev.regReady, h]

variable {m : LTime} {rest : List LTime} (hm : (d.regCh r).marks = m :: rest) (d1 : Dev) (h1 : d1 = d.setReg r { d.regCh r with marks := rest })
  (e : Int × Option Int)
  (he : e = regError (d.regCh r).params (d1.markPosition (d1.axisLive (regField (d.regCh r).params 24 2) pREG_MASTER) m))
include hm h1 he

/-- The first mark is counted; one that is accepted is logged as the channel's next request by a synchronised permit holder. -/
theorem regReady_counts : d.regReady r = match e.2 with
    | some v => if (d1.countMark r e).permit && (d1.countMark r e).sync then (d1.countMark r e).logRegRequest r v (((d.regCh r).seq + 1) % 65536)
      else d1.countMark r e
    | none => d1.countMark r e := by
  subst h1 he
  simp only [Dev.regReady, hm]
  rfl

theorem regReady_unlogged (h : e.2 = none ∨ d.permit = false ∨ d.sync = false) : d.regReady r = d1.countMark r e := by
  rw [regReady_counts r d hm d1 h1 e he, permit_countMark r e h1, sync_countMark r e h1]
  cases hv : e.2 with
  | none => rfl
  | some v => exact if_neg (by simpa [hv, imp_iff_not_or] using h)
theorem regReady_logged {v : Int} (hv : e.2 = some v) (hp : d.permit = true) (hs : d.sync = true) :
    d.regReady r = (d1.countMark r e).logRegRequest r v (((d.regCh r).seq + 1) % 65536) := by
  rw [regReady_counts r d hm d1 h1 e he, permit_countMark r e h1, sync_countMark r e h1, hv, hp, hs]
  rfl

end

/-! ## CONFIG_REGISTRATION (R266, R278) -/

section
variable (p : Packet) (ref : PktRef) (d : Dev)

/-- The checks of a CONFIG_REGISTRATION in their order. -/
theorem configReg_checks : opConfigReg.run p ref d =
    if 32 ≤ par p 22 1 then (.bad stBAD_PARAMETER, d)
    else if d.on MIR_STATUS.BULK then (.bad stBUSY, d)
    else match d.regRule (par p 22 1) (padTo 38 p.par) with
      | some k => (.done stCONSISTENCY (ruleResult k (axisPlace (regField (padTo 38 p.par) 24 2))), d)
      | none => d.logPacket 0x01 68 (.configReg (par p 22 1) (padTo 38 p.par)) ref := rfl
theorem configReg_badChannel (h : 32 ≤ par p 22 1) : opConfigReg.run p ref d = (.bad stBAD_PARAMETER, d) := if_pos h

variable (hr : par p 22 1 < 32)
include hr

theorem configReg_busy (hb : d.on MIR_STATUS.BULK = true) : opConfigReg.run p ref d = (.bad stBUSY, d) := by
  rw [configReg_checks, if_neg (Nat.not_le.mpr hr), if_pos hb]

variable (hb : d.on MIR_STATUS.BULK = false)
include hb

theorem configReg_logged (h : d.regRule (par p 22 1) (padTo 38 p.par) = none) :
    opConfigReg.run p ref d = d.logPacket 0x01 68 (.configReg (par p 22 1) (padTo 38 p.par)) ref := by
  rw [configReg_checks, if_neg (Nat.not_le.mpr hr), if_neg (by simp [hb]), h]
theorem configReg_breaksRule {k : Nat} (h : d.regRule (par p 22 1) (padTo 38 p.par) = some k) :
    opConfigReg.run p ref d = (.done stCONSISTENCY (ruleResult k (axisPlace (regField (padTo 38 p.par) 24 2))), d) := by
  rw [configReg_checks, if_neg (Nat.not_le.mpr hr), if_neg (by simp [hb]), h]

end

/-! ## CALIBRATE_TRIGGER_PATHS (R250, R277, R278) -/

/-- The inputs whose bit is set in `mask` are asked for a new table. -/
def Dev.askInputs (mask : Nat) (d : Dev) : Dev := d.forN 16 (fun n d => d.when (bitAt mask n) (Dev.setTdc n { d.tdcIn n with asked := true }))

section
variable (p : Packet) (ref : PktRef) (d : Dev)

theorem calibratePaths_badKind (h : 2 < par p 22 1) : opCalibratePaths.run p ref d = (.bad stBAD_PARAMETER, d) := if_pos h

variable (d1 : Dev) (h1 : d1 = d.when (par p 22 1 != 1) (Dev.askInputs (par p 24 2))) (hk : par p 22 1 ≤ 2)
include h1 hk

/-- A kind that exists is accepted; one other than 0 asks the trigger bus, whose calibration has failed at once while it is disabled. -/
theorem calibratePaths_accepted : opCalibratePaths.run p ref d =
    (.done stACCEPTED [], if par p 22 1 = 0 then d1
      else if d1.on TDC_TBUS_CTRL.EN then Dev.tbusRequest { d1 with acq := { d1.acq with tbusAsked := true } }
      else d1.post 0x0B10 0x0B02 [1, 1]) := by
  subst h1
  exact if_neg (Nat.not_lt.mpr hk)

end
end Sys2Proof.Machine

open Sys2Proof Sys2Proof.Machine

/-- Settles O41: a frame, a calibration or a mark that is not taken leaves the device part as it is, and one that is taken is an equation of its command
(R250, R266, R268, R271 to R278). A result is read back past the calibration record it enters (R227), which touches neither the captures nor the register of
the delays. The bus busy for 3,400 ns and the firing controller 0xFF are the model's choices (log 57), and byte 27 of CONFIG_REGISTRATION rests on log 59. -/
theorem captureCrossesControllers : Obligations.CaptureCrossesControllers := by
  refine ⟨?dropped, ?arm, ?fire, ?disarm, fun s rx b h => next_of_fixed (tbusFrame_disabled _ _ _ h), ?bus,
    fun s rx b he hp hk => next_of_dev (tbusFrame_badParity _ _ _ he hp hk), ?calibration, fun s he ha => next_of_dev (tbusCalibration_asked _ _ he ha),
    ?measured, fun s r h => next_of_fixed (regReady_none _ _ h), ?mark, ?configReg, ?calibratePaths⟩
  case dropped =>
    exact fun s k b => ⟨fun h => ⟨next_of_fixed (armFrame_dropped _ _ _ (.inl h)), next_of_fixed (fireFrame_dropped _ _ _ h)⟩,
      fun h => next_of_fixed (disarmFrame_dropped _ _ _ (.inl h)), fun h => next_of_fixed (armFrame_dropped _ _ _ (.inr h)),
      fun h => next_of_fixed (disarmFrame_dropped _ _ _ (.inr h))⟩
  case arm =>
    rintro s k b _ hl hg hs rfl
    exact ⟨fun ha => next_of_dev ((armFrame_new _ _ _ hl hg hs).trans (by rw [ha]; rfl)),
      fun ha => next_of_dev ((armFrame_new _ _ _ hl hg hs).trans (by rw [ha]; rfl))⟩
  case fire =>
    intro s k b hl hg
    refine ⟨fun h => next_of_dev ((fireFrame_applied _ _ _ hl hg).trans (by rw [if_pos h])), ?_⟩
    rintro _ h rfl
    exact next_of_dev ((fireFrame_applied _ _ _ hl hg).trans (by rw [if_neg (Bool.eq_false_iff.mp h)]; rfl))
  case disarm =>
    rintro s k b _ hl hg hs rfl
    exact next_of_dev (disarmFrame_new _ _ _ hl hg hs)
  case bus =>
    rintro s rx b _ _ _ _ he hp rfl rfl rfl rfl
    refine ⟨fun hk => next_of_dev (tbusFrame_fire _ _ _ he hp hk), fun hk => next_of_dev (tbusFrame_disarm _ _ _ he hp hk),
      fun hk => ⟨_, next_of_dev (g := fun d => d.clearSync rx.toNat b.toNat) (tbusFrame_sync _ _ _ he hp hk), rfl, ?_, ?_⟩⟩
    · exact rd_wr64_low TDC_SYNC_LO 0 (s.dev.hearTbus rx.toNat b.toNat)
    · exact rd_wr64_high TDC_SYNC_LO 0 (s.dev.hearTbus rx.toNat b.toNat)
  case calibration =>
    exact fun s m => ⟨fun h => next_of_fixed (tbusCalibration_disabled _ _ h), fun ha h => next_of_fixed (tbusCalibration_notDue _ _ ha h),
      fun he ha hb hn => next_of_dev (tbusCalibration_background _ _ he ha hb hn)⟩
  case measured =>
    intro s loop rtt he ha
    have measured : (s.onDev (Dev.tbusCalibration (some (loop, rtt)))).dev =
        Dev.tbusResult (some (loop, rtt)) { s.dev with acq := { s.dev.acq with tbusAsked := false } } := tbusCalibration_asked _ _ he ha
    refine ⟨_, rfl, ?_⟩
    rw [measured, get_tbusResult_loop, acq_tbusResult]
    exact ⟨rfl, rfl, rfl, fun unslotted => get_tbusResult_d0 loop rtt _ unslotted⟩
  case mark =>
    rintro s r m rest _ d1 e rfl hm h1 he
    refine ⟨fun h => next_of_dev (regReady_unlogged _ _ hm d1 h1 e he h), fun v hv hp hs =>
      ⟨_, next_of_dev (g := fun _ => _) (regReady_logged _ _ hm d1 h1 e he hv hp hs), ?_⟩⟩
    rw [State.onDev_dev, get_logRegRequest_seq, Nat.mod_mod]
    exact ⟨waiting_logRegRequest _ _ _ _, rfl⟩
  case configReg =>
    exact fun s p p' d' r => ⟨fun h => r.next (congrArg _ (configReg_badChannel _ _ _ h)), fun hr hb => r.next (congrArg _ (configReg_busy _ _ _ hr hb)),
      fun hr hb h => r.next (congrArg _ (configReg_logged _ _ _ hr hb h)), fun k hr hb h => r.next (congrArg _ (configReg_breaksRule _ _ _ hr hb h))⟩
  case calibratePaths =>
    rintro s p p' d' _ r rfl
    refine ⟨fun h => r.next (congrArg _ (calibratePaths_badKind _ _ _ h)), fun d1 hk h1 => ?_⟩
    have accepted := congrArg (Dev.answer (refOf p s.dev)) (calibratePaths_accepted p' (refOf p s.dev) d' d1 h1 hk)
    refine ⟨fun h0 => r.next (accepted.trans (by rw [if_pos h0]; rfl)), fun h0 he => ⟨_, rfl, r.next (accepted.trans ?_)⟩,
      fun h0 he => ⟨_, rfl, r.next (accepted.trans ?_)⟩⟩
    · rw [if_neg (Nat.ne_of_gt h0), if_pos he]
      rfl
    · rw [if_neg (Nat.ne_of_gt h0), if_neg (Bool.eq_false_iff.mp he)]
      rfl

end

section
/-! PROOFS. The feedback channels (R231, R232, R238 to R240, R242 to R244), the trigger inputs (R247, R248, R250, R279) and the converters (R252, R253,
R280), and O39. -/
namespace Sys2Proof.Machine

/-! ## What is read back after a part was replaced, and what depends on the rest alone -/

/-- Updates below a bound keep what each of them keeps. -/
theorem forN_keep_below {β : Type} (g : Dev → β) (f : Nat → Dev → Dev) (n : Nat) (h : ∀ k < n, ∀ e, g (f k e) = g e) (d : Dev) :
    g (Dev.forN n f d) = g d := by
  induction n with
  | zero => rfl
  | succ n ih =>
    rw [Dev.forN, List.range_succ, List.foldl_append]
    exact (h n (Nat.lt_succ_self n) _).trans (ih (fun k hk => h k (Nat.lt_succ_of_lt hk)))
/-- Of updates of which one index alone touches a part, that part comes from its own update, done to a state of the same part as the first. -/
theorem forN_single_keep {β : Type} (g : Dev → β) (f : Nat → Dev → Dev) (n j : Nat) (hj : j < n) (h : ∀ k e, k ≠ j → g (f k e) = g e) (d : Dev) :
    ∃ e, g e = g d ∧ g (Dev.forN n f d) = g (f j e) := by
  induction n with
  | zero => exact absurd hj (Nat.not_lt_zero j)
  | succ n ih =>
    rw [Dev.forN, List.range_succ, List.foldl_append]
    rcases Nat.lt_succ_iff_lt_or_eq.mp hj with hlt | rfl
    · obtain ⟨e, same, own⟩ := ih hlt
      exact ⟨e, same, (h n _ (Nat.ne_of_gt hlt)).trans own⟩
    · exact ⟨Dev.forN j f d, forN_keep_below g f j (fun k hk e => h k e (Nat.ne_of_lt hk)) d, rfl⟩

theorem rest_postSum (src code : Nat) (mk : Nat → List Byte) (d : Dev) : restOf (Dev.postSum src code mk d) = restOf d := rfl

section
variable {d e : Dev} (h : restOf d = restOf e)
include h

theorem lrd_of_rest (a : Nat) : d.lrd a = e.lrd a := congrArg (fun r : Dev.Rest => (smGet resetOf r.live a).toNat) h
theorem fbCh_of_rest (n : Nat) : d.fbCh n = e.fbCh n := congrArg (fun r : Dev.Rest => smGet (fun _ => Fb.reset) r.fb n) h
theorem tdcIn_of_rest (n : Nat) : d.tdcIn n = e.tdcIn n := congrArg (fun r : Dev.Rest => smGet (fun _ => TdcIn.reset) r.acq.tdc n) h
theorem adcCh_of_rest (k : Nat) : d.adcCh k = e.adcCh k := congrArg (fun r : Dev.Rest => smGet (fun _ => AdcCh.reset) r.adc k) h

end

theorem fbCh_setFb (n : Nat) (c : Fb) (d : Dev) : (d.setFb n c).fbCh n = c := smGet_smSet_same _ _ _ _
theorem fbCh_setFb_other {n k : Nat} (h : n ≠ k) (c : Fb) (d : Dev) : (d.setFb k c).fbCh n = d.fbCh n := smGet_smSet_other _ _ _ _ _ h
theorem tdcIn_setTdc (n : Nat) (x : TdcIn) (d : Dev) : (d.setTdc n x).tdcIn n = x := smGet_smSet_same _ _ _ _
theorem adcCh_setAdc (k : Nat) (x : AdcCh) (d : Dev) : (d.setAdc k x).adcCh k = x := smGet_smSet_same _ _ _ _
theorem adcCh_setAdc_other {j k : Nat} (h : j ≠ k) (x : AdcCh) (d : Dev) : (d.setAdc k x).adcCh j = d.adcCh j := smGet_smSet_other _ _ _ _ _ h

section
variable {β : Type} (g : Dev → β) (h : ∀ a v d, g (Dev.wr a v d) = g d) (n : Nat) (d : Dev)
include h

theorem set_keep (f : Fld) (v : Nat) (d : Dev) : g (d.set f v) = g d := h _ _ _
theorem wr64_keep (a v : Nat) (d : Dev) : g (d.wr64 a v) = g d := (h _ _ _).trans (h _ _ _)
/-- Registers that show a channel are all that showing it writes. -/
theorem showFb_keep : g (d.showFb n) = g d := by
  unfold Dev.showFb
  dsimp only
  split <;> simp only [h, set_keep g h, wr64_keep g h]
/-- Registers that show an input's queue are all that showing it writes. -/
theorem showTdc_keep : g (d.showTdc n) = g d := by
  unfold Dev.showTdc
  dsimp only
  split <;> simp only [h, set_keep g h, wr64_keep g h]

end

theorem rest_showFb (n : Nat) (d : Dev) : restOf (d.showFb n) = restOf d := showFb_keep restOf rest_wr n d
theorem out_showFb (n : Nat) (d : Dev) : (d.showFb n).out = d.out := showFb_keep Dev.out Dev.wr_out n d
theorem fbCh_showFb (n k : Nat) (d : Dev) : (d.showFb k).fbCh n = d.fbCh n := fbCh_of_rest (rest_showFb k d) n
theorem out_showTdc (n : Nat) (d : Dev) : (d.showTdc n).out = d.out := showTdc_keep Dev.out Dev.wr_out n d
theorem tdcIn_showTdc (n k : Nat) (d : Dev) : (d.showTdc k).tdcIn n = d.tdcIn n := tdcIn_of_rest (showTdc_keep restOf rest_wr k d) n

/-! ## An APPLY bit and its waiting commit (R14) -/

/-- A field reads bit `n` as 1 after that bit of it was set. -/
theorem bitAt_set_own (f : Fld) (v n : Nat) (d : Dev) (hf : f.hi < 32) (hn : n < f.hi + 1 - f.lo) :
    bitAt ((d.set f (withBits v n n 1)).get f) n = true := by
  rw [Dev.get_set_same _ _ _ hf, bitAt_eq_testBit, Nat.testBit_mod_two_pow, decide_eq_true hn, testBit_withBits, if_pos (by omega), Nat.sub_self]
  rfl
theorem commitWaits_holdCommit (u : Nat) (ws : List (Nat × Word)) (ref : Option PktRef) (d : Dev) : (d.holdCommit u ws ref).commitWaits u = true := by
  simp [Dev.commitWaits]
/-- The mask of one of the four channels. -/
theorem toNat_channelMask (n : Fin 4) : (BitVec.ofNat 4 (2 ^ n.val)).toNat = 2 ^ n.val := by
  rw [BitVec.toNat_ofNat]
  exact Nat.mod_eq_of_lt (Nat.pow_lt_pow_right (by decide) n.isLt)
/-- Words are captured the same after a register that is not among them was written. -/
theorem capture_set (f : Fld) (v : Nat) (as : List Nat) (d : Dev) (h : ∀ a ∈ as, a ≠ f.a) : (d.set f v).capture as = d.capture as :=
  List.map_congr_left (fun a ha => by rw [Dev.set, Dev.word_wr, if_neg (h a ha)])

/-! ## The levels of a channel's inputs (R231, R242, R243) -/

section
variable (n : Nat) (a b c : FbLevel) (d : Dev)

/-- A channel as it takes the levels of its inputs. -/
def Fb.withLevels (a b c : FbLevel) (o : Fb) : Fb :=
  { o with a := a.level, b := b.level, c := c.level, pinA := a.pin, pinB := b.pin, pinC := c.pin }

/-- The outputs stay as they are where PT_MODE is 0. -/
theorem fbPass_off (o w : Fb) (h : bitsOf (d.lrd (FB_CTRL n)) 17 16 = 0) : d.fbPass n o w = d := by
  simp [Dev.fbPass, h]
/-- Without an accepted change, and in mode 0, the levels alone are taken. -/
theorem fbInput_quiet (hp : bitsOf (d.lrd (FB_CTRL n)) 17 16 = 0)
    (h : bitsOf (d.lrd (FB_CTRL n)) 2 0 = 0 ∨ ((d.fbCh n).a = a.level ∧ (d.fbCh n).b = b.level ∧ (d.fbCh n).c = c.level)) :
    d.fbInput n a b c = d.setFb n ((d.fbCh n).withLevels a b c) := by
  unfold Dev.fbInput
  dsimp only
  rw [if_pos (by simpa [and_assoc] using h), fbPass_off _ _ _ _ hp]
  rfl

end

/-! ## A counted edge (R231, R232, R238) -/

theorem cnt_fbEvaluate (tss t : Nat) (c : Fb) : (fbEvaluate tss t c).cnt = c.cnt := by
  unfold fbEvaluate
  split
  · rfl
  · split <;> rfl
theorem cnt_fbSampleSpeed (cwin vup vdn tss t : Nat) (c : Fb) : (fbSampleSpeed cwin vup vdn tss t c).cnt = c.cnt := cnt_fbEvaluate _ _ _
theorem cnt_fbEdgeSpeed (pavg tss t : Nat) (neg : Bool) (c : Fb) : (fbEdgeSpeed pavg tss t neg c).cnt = c.cnt := by
  unfold fbEdgeSpeed
  dsimp only
  rw [cnt_fbEvaluate]
  split
  · rfl
  · split <;> rfl
/-- A count of 48 bits is what its code stands for. -/
theorem signedOf_codeOf_count {x : Int} (hl : -140737488355328 ≤ x) (hh : x < 140737488355328) : signedOf 48 (codeOf 48 x) = x := by
  unfold signedOf codeOf
  norm_num
  split <;> omega

section
variable (n : Nat) (d : Dev)

theorem fbCh_when_post (b : Bool) (x y : Nat) (bs : List Byte) : (d.when b (Dev.post x y bs)).fbCh n = d.fbCh n :=
  when_keep (fun d => d.fbCh n) b (Dev.post x y bs) (fun _ => rfl) d
/-- A channel whose direction is not turned counts the step, within 48 bits. -/
theorem cnt_fbCount (t : Nat) (step : Int) (h : bitAt (d.lrd (FB_CTRL n)) 11 = false) :
    ((d.fbCount n t step).fbCh n).cnt = signedOf 48 (codeOf 48 ((d.fbCh n).cnt + step)) := by
  unfold Dev.fbCount
  rw [h]
  dsimp only
  rw [fbCh_when_post, fbCh_of_rest (rest_set _ _ _), fbCh_setFb]
  exact cnt_fbEdgeSpeed _ _ _ _ _
/-- An edge record leaves the count. -/
theorem cnt_fbPush (e : FbEdge) : ((d.fbPush n e).fbCh n).cnt = (d.fbCh n).cnt := by
  unfold Dev.fbPush
  extract_lets en sel ch
  split
  · rfl
  · split
    · exact congrArg Fb.cnt (fbCh_of_rest ((rest_postSum _ _ _ _).trans ((rest_count32 _ _ _).trans (rest_set _ _ _))) n)
    · rw [fbCh_setFb]

variable (a b c : FbLevel)

/-- In quadrature mode without inversion and filter, A low while B rises is a forward step. -/
theorem cnt_fbInput_forward (ha : a.level = false) (hb : b.level = true) (hc : c.level = false) (hctrl : d.lrd (FB_CTRL n) = 1)
    (oa : (d.fbCh n).a = false) (ob : (d.fbCh n).b = false) (oc : (d.fbCh n).c = false) :
    ((d.fbInput n a b c).fbCh n).cnt = signedOf 48 (codeOf 48 ((d.fbCh n).cnt + 1)) := by
  unfold Dev.fbInput
  extract_lets o w ctrl mode d1 t lo lw r free x d2 illegal hs d3 d4 d5 cnt chg
  have taken : d1 = d.setFb n w := congrArg (Dev.setFb n w) (fbPass_off n d o w (by rw [hctrl]; rfl))
  have hmode : mode = 1 := congrArg (fun v => bitsOf v 2 0) hctrl
  have before : lo = (false, false, false) := by
    simp only [lo, fbLevels, ctrl, hctrl, o, oa, ob, oc]
    rfl
  have after : lw = (false, true, false) := by
    simp only [lw, fbLevels, ctrl, hctrl, w, ha, hb, hc]
    rfl
  have forward : r = (some 1, none) := by
    simp only [r, hmode, before, after]
    rfl
  have legal : illegal = none := by simp only [illegal, forward]
  have undrawn : d2 = d1 := if_neg (by simp [free, hmode])
  have counted : d4 = d1.fbCount n t 1 := by simp only [d4, d3, legal, undrawn, forward]
  have quadrature : d5 = d4 := by simp [d5, hmode, Dev.when]
  rw [if_neg (by simp [hmode, o, w, ob, hb]), fbCh_showFb, forEach_keep (fun d => (d.fbCh n).cnt) _ (fun _ _ => cnt_fbPush n _ _), quadrature, counted,
    cnt_fbCount n d1 t 1 (by rw [taken]; exact congrArg (fun v => bitAt v 11) hctrl), taken, fbCh_setFb]

end

/-! ## Sample instants (R239, R240) -/

/-- A logged sample of channel `n` waits for the law. -/
def Dev.sampleWaits (n : Nat) (d : Dev) : Bool := d.cyc.waiting.any (fun e => match e.act with | .fbSample k _ => k == n | _ => false)
/-- What a sample instant of channel `n` works on: the channel, the live words, the mode with the permit, and whether a sample of it is logged. -/
def Dev.samplePart (n : Nat) (d : Dev) : Fb × SMap Word × Nat × Bool := (d.fbCh n, d.live, d.rd SYS_MODE, d.sampleWaits n)
/-- The estimator of channel `n` after a sample instant at `t`. -/
def Dev.sampledFb (n : Nat) (t : LTime) (d : Dev) : Fb :=
  fbSampleSpeed (bitsOf (d.lrd (FB_EST n)) 8 4) (d.lrd (FB_VUP n)) (d.lrd (FB_VDN n)) (d.fbTss n) t (d.fbCh n)
/-- A channel of which the permit holder logs a sample. -/
def Dev.logsSample (n : Nat) (d : Dev) : Bool := d.sync && d.permit && bitsOf (d.lrd (FB_CTRL n)) 2 0 != 0
/-- The sample of channel `n` is logged. -/
def Dev.logSample (n : Nat) (ok : Bool) (bs : List Byte) (d : Dev) : Dev :=
  (d.set (FB_STATUS.SAMPLE_VALID n) (flag ok)).logInput 0x06 28 (.fbSample n bs) none

section
variable {n k : Nat} (d : Dev)

theorem samplePart_showFb : (d.showFb k).samplePart n = d.samplePart n := by
  have same := rest_showFb k d
  have live : (d.showFb k).live = d.live := congrArg Dev.Rest.live same
  have waiting : (d.showFb k).sampleWaits n = d.sampleWaits n := congrArg (fun r : Dev.Rest =>
    r.cyc.waiting.any (fun e => match e.act with | .fbSample k _ => k == n | _ => false)) same
  rw [Dev.samplePart, fbCh_showFb, live, mode_showFb, waiting]
  rfl
theorem samplePart_setFb_other (h : n ≠ k) (c : Fb) : (d.setFb k c).samplePart n = d.samplePart n := by
  rw [Dev.samplePart, fbCh_setFb_other h]
  rfl
/-- A logged sample leaves the channels, the live words and the mode, and is one of its own channel alone. -/
theorem samplePart_logSample (ok : Bool) (bs : List Byte) :
    (d.logSample k ok bs).samplePart n = (d.fbCh n, d.live, d.rd SYS_MODE, d.sampleWaits n || k == n) := by
  have mode : (d.logSample k ok bs).rd SYS_MODE = d.rd SYS_MODE := Dev.rd_set_other (FB_STATUS.SAMPLE_VALID k) _ _ d (Nat.ne_of_lt (Nat.lt_add_right _ (by decide)))
  have waiting : (d.logSample k ok bs).sampleWaits n = (d.sampleWaits n || k == n) := by
    simp only [Dev.sampleWaits, Dev.logSample, waiting_logInput, Dev.set_cyc, List.any_append, List.any_cons, List.any_nil, Bool.or_false]
  rw [Dev.samplePart, mode, waiting]
  rfl
/-- The sample instant of a channel whose own instant is not that of `t` runs its estimator, and logs its sample where one is due. -/
theorem fbSampleCh_runs (t : LTime) (h : ((d.fbCh n).w.head?).map (·.2) ≠ some t) : ∃ c ok bs,
    d.fbSampleCh n t = ((d.setFb n c).when ((d.setFb n c).logsSample n) (Dev.logSample n ok bs)).showFb n ∧
    ∃ own, c = { d.sampledFb n t with bad := false, own := own } := by
  unfold Dev.fbSampleCh
  rw [if_neg (by simpa using h)]
  exact ⟨_, _, _, rfl, _, rfl⟩
theorem fbSampleCh_done (t : LTime) (h : ((d.fbCh n).w.head?).map (·.2) = some t) : d.fbSampleCh n t = d := if_pos (by simp [h])
/-- A channel's sample instant leaves the part of another. -/
theorem samplePart_fbSampleCh_other (h : k ≠ n) (t : LTime) : (d.fbSampleCh k t).samplePart n = d.samplePart n := by
  by_cases done : ((d.fbCh k).w.head?).map (·.2) = some t
  · rw [fbSampleCh_done d t done]
  · obtain ⟨c, ok, bs, runs, -⟩ := fbSampleCh_runs d t done
    have logged : ∀ e : Dev, (e.logSample k ok bs).samplePart n = e.samplePart n := fun e => by
      rw [samplePart_logSample, beq_false_of_ne h, Bool.or_false]
      rfl
    rw [runs, samplePart_showFb, when_keep (Dev.samplePart n) _ _ logged, samplePart_setFb_other d h.symm]
/-- A channel's sample instant leaves its estimator as sampled, and its sample logged where one is due. -/
theorem fbSampleCh_own (t : LTime) (h : ((d.fbCh n).w.head?).map (·.2) ≠ some t) :
    (∃ own, (d.fbSampleCh n t).fbCh n = { d.sampledFb n t with bad := false, own := own }) ∧
    (d.logsSample n = true → (d.fbSampleCh n t).sampleWaits n = true) := by
  obtain ⟨c, ok, bs, runs, own, hc⟩ := fbSampleCh_runs d t h
  have part := (congrArg (Dev.samplePart n) runs).trans (samplePart_showFb _)
  have logged : ∀ e : Dev, (e.logSample n ok bs).fbCh n = e.fbCh n := fun _ => rfl
  refine ⟨⟨own, ?_⟩, fun due => ?_⟩
  · have channel := congrArg Prod.fst part
    exact channel.trans ((when_keep (fun e => e.fbCh n) _ _ logged _).trans ((fbCh_setFb n c d).trans hc))
  · have due' : (d.setFb n c).logsSample n = true := due
    rw [due', Dev.when_true, samplePart_logSample, beq_self_eq_true, Bool.or_true] at part
    exact congrArg (fun p => p.2.2.2) part

/-- A due sample instant of all channels leaves channel `n` as sampled, and its sample logged where one is due. -/
theorem fbSample_own (hn : n < 4) (h : ((d.fbCh n).w.head?).map (·.2) ≠ some d.sampleInstant) :
    (∃ own, d.fbSample.fbCh n = { d.sampledFb n d.sampleInstant with bad := false, own := own }) ∧
    (d.logsSample n = true → d.fbSample.sampleWaits n = true) := by
  obtain ⟨e, same, run⟩ := forN_single_keep (Dev.samplePart n) (fun k => Dev.fbSampleCh k d.sampleInstant) 4 n hn
    (fun k e hk => samplePart_fbSampleCh_other e hk _) (d.reach d.sampleInstant)
  have channel : e.fbCh n = d.fbCh n := congrArg Prod.fst same
  have live : e.live = d.live := congrArg (fun p => p.2.1) same
  have mode : e.rd SYS_MODE = d.rd SYS_MODE := congrArg (fun p => p.2.2.1) same
  have lrd : ∀ a, e.lrd a = d.lrd a := fun a => congrArg (fun m => (smGet resetOf m a).toNat) live
  have sampled : e.sampledFb n d.sampleInstant = d.sampledFb n d.sampleInstant := by
    simp only [Dev.sampledFb, Dev.fbTss, lrd, channel]
  have logs : e.logsSample n = d.logsSample n := by
    simp only [Dev.logsSample, Dev.sync, mode_of_rd e d mode, permit_of_rd mode, lrd]
  obtain ⟨⟨own, est⟩, logged⟩ := fbSampleCh_own e d.sampleInstant (by rwa [channel])
  rw [sampled] at est
  rw [logs] at logged
  exact ⟨⟨own, (congrArg Prod.fst run).trans est⟩, fun due => (congrArg (fun p => p.2.2.2) run).trans (logged due)⟩
theorem fbSample_done (h : (List.range 4).all (fun n => ((d.fbCh n).w.head?).map (·.2) == some d.sampleInstant) = true) :
    d.fbSample = d.reach d.sampleInstant :=
  forN_fixed _ 4 _ (fun k hk => fbSampleCh_done _ _ (eq_of_beq (List.all_eq_true.mp h k (List.mem_range.mpr hk))))

end

/-! ## FB_PRESET, FB_APPLY and the edge records (R232, R242, R244) -/

section
variable (n : Nat) (d : Dev)

theorem fbPreset_refused (hi : Nat) (h : d.channelUsed n = true) : d.fbPreset n hi = d.set (FB_STATUS.PRESET_REFUSED n) 1 := if_pos h
theorem cnt_fbPreset (hi : Nat) (h : d.channelUsed n = false) :
    ((d.fbPreset n hi).fbCh n).cnt = signedOf 48 ((d.fbCh n).presetLo + 2 ^ 32 * (hi % 2 ^ 16)) := by
  rw [Dev.fbPreset, if_neg (by simp [h]), fbCh_showFb, fbCh_setFb]
theorem queue_fbEdgePop : ((d.fbEdgePop n).fbCh n).queue = (d.fbCh n).queue.drop 1 := by
  unfold Dev.fbEdgePop
  dsimp only
  rw [fbCh_showFb, fbCh_setFb]
  rfl
theorem out_fbEdgePop : (d.fbEdgePop n).out = d.out ++ [.busData (FB_EDGE3 n) (d.rd (FB_EDGE3 n))] := by
  unfold Dev.fbEdgePop
  dsimp only
  rw [out_showFb]
  rfl

/-- A channel whose rules hold is no longer shown as refused. -/
def Dev.fbAccepted (n : Nat) (d : Dev) : Dev := d.set FB_APPLY.REFUSED (withBits (d.get FB_APPLY.REFUSED) n n 0)
/-- The channel's commit waits for the boundary. -/
def Dev.fbCaptured (n : Nat) (d : Dev) : Dev :=
  (d.set FB_APPLY.APPLY (withBits (d.get FB_APPLY.APPLY) n n 1)).holdCommit (0x0A00 + n) (d.capture (fbRegs n)) none

theorem capture_fbAccepted : (d.fbAccepted n).capture (fbRegs n) = d.capture (fbRegs n) :=
  capture_set _ _ _ _ (fun a ha => by
    simp only [fbRegs, List.mem_cons, List.not_mem_nil, or_false, FB_CTRL, FB_EST, FB_VUP, FB_VDN] at ha
    simp only [FB_APPLY.REFUSED, FB_APPLY]
    omega)
theorem sync_fbAccepted : (d.fbAccepted n).sync = d.sync := by
  have mode : (d.fbAccepted n).mode = d.mode := mode_of_rd _ _ (Dev.rd_set_other FB_APPLY.REFUSED _ _ d (by decide))
  rw [Dev.sync, mode, Dev.sync]

variable (hn : n < 4)
include hn

/-- A write to FB_APPLY with one bit concerns its channel alone. -/
theorem fbApply_single : d.fbApply (2 ^ n) = if bitAt (d.get FB_APPLY.APPLY) n then d
    else match d.fbRules n with
      | some _ => d.set FB_APPLY.REFUSED (withBits (d.get FB_APPLY.REFUSED) n n 1)
      | none => if d.sync then ((d.fbAccepted n).fbCaptured n) else (d.fbAccepted n).fbCommit n (d.capture (fbRegs n)) := by
  unfold Dev.fbApply
  rw [forN_single _ 4 n d hn (fun k e hk => if_pos (by simp [bitAt_two_pow_other hk])), bitAt_two_pow_self, Bool.not_true, Bool.false_or,
    ← sync_fbAccepted n d, ← capture_fbAccepted n d]
  rfl
theorem fbApply_waiting (h : bitAt (d.get FB_APPLY.APPLY) n = true) : d.fbApply (2 ^ n) = d := by
  rw [fbApply_single n d hn, if_pos h]

variable (hw : bitAt (d.get FB_APPLY.APPLY) n = false)
include hw

theorem fbApply_refused {r : Nat} (h : d.fbRules n = some r) :
    d.fbApply (2 ^ n) = d.set FB_APPLY.REFUSED (withBits (d.get FB_APPLY.REFUSED) n n 1) := by
  rw [fbApply_single n d hn, if_neg (by simp [hw]), h]
theorem fbApply_captured (h : d.fbRules n = none) (hs : d.sync = true) : d.fbApply (2 ^ n) = (d.fbAccepted n).fbCaptured n := by
  rw [fbApply_single n d hn, if_neg (by simp [hw]), h]
  exact if_pos hs
theorem fbApply_live (h : d.fbRules n = none) (hs : d.sync = false) : d.fbApply (2 ^ n) = (d.fbAccepted n).fbCommit n (d.capture (fbRegs n)) := by
  rw [fbApply_single n d hn, if_neg (by simp [hw]), h]
  exact if_neg (by simp [hs])

end

/-! ## Trigger edges and their stamps (R247, R248, R279) -/

section
variable (n : Nat) (d : Dev)

theorem queue_tdcPop : ((d.tdcPop n).tdcIn n).queue = (d.tdcIn n).queue.drop 1 := by
  unfold Dev.tdcPop
  dsimp only
  rw [tdcIn_showTdc, tdcIn_setTdc]
  rfl
theorem out_tdcPop : (d.tdcPop n).out = d.out ++ [.busData (TDC_IN_TS3 n) (d.rd (TDC_IN_TS3 n))] := by
  unfold Dev.tdcPop
  dsimp only
  rw [out_showTdc]
  rfl

/-- An edge at `t` comes sooner than `g` after the last accepted one. -/
def Dev.edgeWithin (n : Nat) (t g : LTime) (d : Dev) : Bool := match (d.tdcIn n).last with | some l => decide (t - l < g) | none => false
/-- An edge at `t` is accepted: counted, stamped and queued, offered to the capture units and the registration channels, and it may wake the line. -/
def Dev.acceptEdge (n : Nat) (rising : Bool) (t : LTime) (d : Dev) : Dev :=
  let x := d.tdcIn n
  let d := (d.count32 (TDC_IN_EDGES n) 1).setTdc n { x with last := some t, seq := (x.seq + 1) % 2 ^ 32 }
  let d := d.pushStamp n ⟨t, !rising, (x.seq + 1) % 2 ^ 32⟩
  let stale := !bitAt (d.get TDC_STATUS.CAL_VALID) n || bitAt (d.get TDC_STATUS.STALE) n
  ((d.offerTrigger (0x1000 + n) t stale).offerMarks n rising t).wakeOn SYS_WAKE_EN.TRIG

/-- The level that is shown is in no register that the stamp is made from. -/
theorem stampOf_setLevel (c : Nat) (hn : n < 16) (v : Nat) (t : LTime) : (d.set (TDC_IN_STATUS.LEVEL n) v).stampOf n c t = d.stampOf n c t := by
  have valid : (d.set (TDC_IN_STATUS.LEVEL n) v).get TDC_STATUS.CAL_VALID = d.get TDC_STATUS.CAL_VALID :=
    get_of_rd _ (Dev.rd_set_other _ _ _ _ (by simp only [TDC_STATUS.CAL_VALID, TDC_STATUS, TDC_IN_STATUS.LEVEL, TDC_IN_STATUS]; omega))
  have fine : ∀ j, (d.set (TDC_IN_STATUS.LEVEL n) v).get (TDC_FINE.FINE n j) = d.get (TDC_FINE.FINE n j) := fun j =>
    get_of_rd _ (Dev.rd_set_other _ _ _ _ (by simp only [TDC_FINE.FINE, TDC_FINE, TDC_IN_STATUS.LEVEL, TDC_IN_STATUS]; omega))
  have delay : (d.set (TDC_IN_STATUS.LEVEL n) v).rd (TDC_IN_DELAY n) = d.rd (TDC_IN_DELAY n) :=
    Dev.rd_set_other _ _ _ _ (by simp only [TDC_IN_DELAY, TDC_IN_STATUS.LEVEL, TDC_IN_STATUS]; omega)
  unfold Dev.stampOf
  rw [valid, fine, delay]
  rfl

/-- With no edge before, the distance counts as longer than any dead time. -/
theorem edgeWithin_eq (t gap g : Nat) (hgap : gap = match (d.tdcIn n).last with | some l => t - l | none => 2 ^ 80) (hg : g ≤ 2 ^ 80) :
    d.edgeWithin n t g = decide (gap < g) := by
  subst hgap
  unfold Dev.edgeWithin
  cases (d.tdcIn n).last with
  | none => exact (decide_eq_false (Nat.not_lt.mpr hg)).symm
  | some l => rfl
theorem deadTime_le (v : Nat) : ns (8 * bitsOf v 31 16) ≤ 2 ^ 80 := by
  have field := bitsOf_lt v 31 16
  show 8 * bitsOf v 31 16 * 65536 ≤ (2 ^ 80 : Nat)
  omega
theorem tdcIn_congr {d e : Dev} (h : d.acq.tdc = e.acq.tdc) (n : Nat) : d.tdcIn n = e.tdcIn n := congrArg (fun m => smGet (fun _ => TdcIn.reset) m n) h
theorem tdc_offerTrigger (src : Nat) (t : LTime) (stale : Bool) : (d.offerTrigger src t stale).acq.tdc = d.acq.tdc := by
  unfold Dev.offerTrigger
  refine forN_keep (fun d => d.acq.tdc) _ (fun u e => ?_) _ d
  split <;> rfl
theorem tdc_offerMarks (rising : Bool) (t : LTime) : (d.offerMarks n rising t).acq.tdc = d.acq.tdc := by
  unfold Dev.offerMarks
  refine forN_keep (fun d => d.acq.tdc) _ (fun r e => ?_) _ d
  dsimp only
  split <;> rfl
theorem acq_startWake : d.startWake.acq = d.acq := by
  unfold Dev.startWake
  split
  · rfl
  · rw [Dev.set_acq, Dev.wr_acq]
theorem acq_wakeOn (f : Fld) : (d.wakeOn f).acq = d.acq := by
  unfold Dev.wakeOn
  split
  · exact acq_startWake _
  · rfl
/-- A queue with room takes the stamp. -/
theorem tdcIn_pushStamp (e : TdcStamp) (h : (d.tdcIn n).queue.length < 16) :
    (d.pushStamp n e).tdcIn n = { d.tdcIn n with queue := (d.tdcIn n).queue ++ [e] } := by
  unfold Dev.pushStamp
  dsimp only
  rw [if_neg (Nat.not_le.mpr h), tdcIn_showTdc, tdcIn_setTdc]
theorem tdcIn_acceptEdge (rising : Bool) (t : LTime) (h : (d.tdcIn n).queue.length < 16) : (d.acceptEdge n rising t).tdcIn n =
    { d.tdcIn n with last := some t, seq := ((d.tdcIn n).seq + 1) % 2 ^ 32, queue := (d.tdcIn n).queue ++ [⟨t, !rising, ((d.tdcIn n).seq + 1) % 2 ^ 32⟩] } := by
  unfold Dev.acceptEdge
  extract_lets x d1 d2 stale
  have stamped : d1.tdcIn n = { x with last := some t, seq := (x.seq + 1) % 2 ^ 32 } := tdcIn_setTdc n _ _
  have kept : ((d2.offerTrigger (0x1000 + n) t stale).offerMarks n rising t).tdcIn n = d2.tdcIn n :=
    tdcIn_congr ((tdc_offerMarks n _ rising t).trans (tdc_offerTrigger _ _ _ _)) n
  rw [tdcIn_congr (congrArg Acq.tdc (acq_wakeOn _ _)) n, kept, tdcIn_pushStamp n d1 _ (by rw [stamped]; exact h), stamped]

variable (rising : Bool) (c : Nat)

theorem triggerEdge_unselected (held : Bool) (h : bitAt (d.lrd (TDC_IN_CTRL n)) 0 = false ∨ edgeSelected (bitsOf (d.lrd (TDC_IN_CTRL n)) 3 2) rising = false) :
    d.triggerEdge n rising c held = d.set (TDC_IN_STATUS.LEVEL n) (flag rising) := by
  have off : (!bitAt (d.lrd (TDC_IN_CTRL n)) 0 || !edgeSelected (bitsOf (d.lrd (TDC_IN_CTRL n)) 3 2) rising) = true := by simpa using h
  exact if_pos off

variable (he : bitAt (d.lrd (TDC_IN_CTRL n)) 0 = true) (hs : edgeSelected (bitsOf (d.lrd (TDC_IN_CTRL n)) 3 2) rising = true)
include he hs

/-- An edge of the selected direction at an enabled input is judged by its level and by its distance from the last accepted one. -/
theorem triggerEdge_selected (held : Bool) (t0 : LTime) (ht : (d.set (TDC_IN_STATUS.LEVEL n) (flag rising)).stampOf n c d.now = t0) :
    d.triggerEdge n rising c held =
      if !held then (d.set (TDC_IN_STATUS.LEVEL n) (flag rising)).count (TDC_IN_LOST.SUPPRESSED n) 1
      else if d.edgeWithin n t0 (ns (8 * bitsOf (d.lrd (TDC_IN_CTRL n)) 31 16)) then
        (d.set (TDC_IN_STATUS.LEVEL n) (flag rising)).count (TDC_IN_LOST.SUPPRESSED n) 1
      else if d.edgeWithin n t0 (ns 4) then (d.set (TDC_IN_STATUS.LEVEL n) (flag rising)).count (TDC_IN_LOST.LOST n) 1
      else (d.set (TDC_IN_STATUS.LEVEL n) (flag rising)).acceptEdge n rising t0 := by
  subst ht
  have on : ¬ (!bitAt (d.lrd (TDC_IN_CTRL n)) 0 || !edgeSelected (bitsOf (d.lrd (TDC_IN_CTRL n)) 3 2) rising) = true := by simp [he, hs]
  refine (if_neg on).trans ?_
  dsimp only
  have shown : (d.set (TDC_IN_STATUS.LEVEL n) (flag rising)).tdcIn n = d.tdcIn n := rfl
  unfold Dev.edgeWithin
  rw [shown]
  cases (d.tdcIn n).last with
  | none => rfl
  | some l => rfl
theorem triggerEdge_notHeld : d.triggerEdge n rising c false =
    (d.set (TDC_IN_STATUS.LEVEL n) (flag rising)).count (TDC_IN_LOST.SUPPRESSED n) 1 :=
  (triggerEdge_selected n d rising c he hs false _ rfl).trans (if_pos rfl)

variable (hn : n < 16) {t0 gap : Nat} (ht : t0 = d.stampOf n c d.now)
  (hgap : gap = match (d.tdcIn n).last with | some l => t0 - l | none => 2 ^ 80)
include hn ht hgap

theorem triggerEdge_soon (hg : gap < ns (8 * bitsOf (d.lrd (TDC_IN_CTRL n)) 31 16)) :
    d.triggerEdge n rising c true = (d.set (TDC_IN_STATUS.LEVEL n) (flag rising)).count (TDC_IN_LOST.SUPPRESSED n) 1 := by
  rw [triggerEdge_selected n d rising c he hs true t0 ((stampOf_setLevel n d c hn _ _).trans ht.symm), if_neg (by decide),
    edgeWithin_eq n d t0 gap _ hgap (deadTime_le _), if_pos (decide_eq_true hg)]
theorem triggerEdge_accepted (hg : ns (8 * bitsOf (d.lrd (TDC_IN_CTRL n)) 31 16) ≤ gap) (hr : ns 4 ≤ gap) :
    d.triggerEdge n rising c true = (d.set (TDC_IN_STATUS.LEVEL n) (flag rising)).acceptEdge n rising t0 := by
  rw [triggerEdge_selected n d rising c he hs true t0 ((stampOf_setLevel n d c hn _ _).trans ht.symm), if_neg (by decide),
    edgeWithin_eq n d t0 gap _ hgap (deadTime_le _), if_neg (by simpa using hg), edgeWithin_eq n d t0 gap _ hgap (by decide), if_neg (by simpa using hr)]

end

/-! ## Tables and TDC_APPLY (R250, R279) -/

section
variable (n : Nat) (hits : List Nat) (d : Dev)

theorem tableDone_dropped (h : d.tdcCalibrates n = false) : d.tableDone n hits = d := if_pos (by simp [h])
theorem tableDone_calibrates (h : d.tdcCalibrates n = true) :
    d.tableDone n hits = if d.cyc.running then d.setTdc n { d.tdcIn n with table := some hits } else d.takeTable n hits := if_neg (by simp [h])

variable (hn : n < 16)
include hn

/-- A write to TDC_APPLY with one bit concerns its input alone. -/
theorem tdcApply_single : d.tdcApply (2 ^ n) = if bitAt (d.get TDC_APPLY.APPLY) n then d
    else (d.set TDC_APPLY.APPLY (withBits (d.get TDC_APPLY.APPLY) n n 1)).holdCommit (0x0B00 + n) (d.capture [TDC_IN_CTRL n]) none := by
  unfold Dev.tdcApply
  rw [forN_single _ 16 n d hn (fun k e hk => if_pos (by simp [bitAt_two_pow_other hk])), bitAt_two_pow_self, Bool.not_true, Bool.false_or]

end

/-! ## Starts of the converters (R252) -/

/-- A converter is not at rest at `t`: its last start is less than 1 µs ago. -/
def AdcCh.busyAt (t : LTime) (x : AdcCh) : Bool := match x.last with | some l => decide (t < l + ns 1000) | none => false
/-- Converter `k` at a start at `t`. -/
def Dev.adcStartOne (t : LTime) (k : Nat) (d : Dev) : Dev :=
  if !bitAt (d.lget ADC_CTRL.EN) k || (d.adcCh k).last == some t then d
  else if (d.adcCh k).busyAt t then d.count ADC_STATUS.BUSY_CNT 1
  else d.setAdc k { d.adcCh k with last := some t, busy := some t }
/-- What a start of converter `k` works on. -/
def Dev.adcPart (k : Nat) (d : Dev) : AdcCh × SMap Word := (d.adcCh k, d.live)

section
variable {k : Nat} (t : LTime) (d : Dev)

theorem adcStart_each : d.adcStart t = d.forN 8 (Dev.adcStartOne t) := rfl
theorem adcPart_adcStartOne_other {j : Nat} (h : j ≠ k) : (d.adcStartOne t j).adcPart k = d.adcPart k := by
  unfold Dev.adcStartOne
  split
  · rfl
  · split
    · rfl
    · exact Prod.ext (adcCh_setAdc_other h.symm _ d) rfl
/-- An enabled converter that is at rest starts. -/
theorem adcStartOne_starts (he : bitAt (d.lget ADC_CTRL.EN) k = true)
    (h : (match (d.adcCh k).last with | some l => decide (l + ns 1000 ≤ t) | none => true) = true) :
    (d.adcStartOne t k).adcCh k = { d.adcCh k with last := some t, busy := some t } := by
  have rested : (d.adcCh k).last ≠ some t ∧ (d.adcCh k).busyAt t = false := by
    unfold AdcCh.busyAt
    cases hl : (d.adcCh k).last with
    | none => exact ⟨nofun, rfl⟩
    | some l =>
      have late : l + ns 1000 ≤ t := by simpa [hl] using h
      have earlier : l < t := Nat.lt_of_lt_of_le (Nat.lt_add_of_pos_right (by decide)) late
      exact ⟨fun e => Nat.ne_of_lt earlier (Option.some.inj e), decide_eq_false (Nat.not_lt.mpr late)⟩
  obtain ⟨new, idle⟩ := rested
  rw [Dev.adcStartOne, if_neg (by simp [he, new]), if_neg (by simp [idle]), adcCh_setAdc]
/-- A converter that is disabled or not at rest stays as it is. -/
theorem adcStartOne_stays (h : bitAt (d.lget ADC_CTRL.EN) k = false ∨
    (match (d.adcCh k).last with | some l => decide (t < l + ns 1000) | none => false) = true) : (d.adcStartOne t k).adcCh k = d.adcCh k := by
  unfold Dev.adcStartOne
  rcases h with off | busy
  · rw [if_pos (by simp [off])]
  · rw [if_pos (show (d.adcCh k).busyAt t = true from busy)]
    split <;> rfl

/-- A start of all converters does to converter `k` what its own start does. -/
theorem adcGridStart_own (hk : k < 8) (h : d.adcInstant = some t) :
    ∃ e : Dev, e.adcPart k = d.adcPart k ∧ d.adcGridStart.adcCh k = (e.adcStartOne t k).adcCh k := by
  obtain ⟨e, same, run⟩ := forN_single_keep (Dev.adcPart k) (Dev.adcStartOne t) 8 k hk (fun j e hj => adcPart_adcStartOne_other t e hj) (d.reach t)
  refine ⟨e, same, ?_⟩
  rw [Dev.adcGridStart, h]
  exact (congrArg (fun e => e.adcCh k) (adcStart_each t (d.reach t))).trans (congrArg Prod.fst run)
theorem adcGridStart_none (h : d.adcInstant = none) : d.adcGridStart = d := by rw [Dev.adcGridStart, h]

variable {d} {e : Dev} (same : e.adcPart k = d.adcPart k)
include same

theorem adcCh_of_part : e.adcCh k = d.adcCh k := congrArg Prod.fst same
theorem lget_of_part (f : Fld) : e.lget f = d.lget f := congrArg (fun p : AdcCh × SMap Word => bitsOf (smGet resetOf p.2 f.a).toNat f.hi f.lo) same

end

/-! ## Codes and samples of a converter (R253) -/

section
variable (k code : Nat) (d : Dev)

theorem adcCh_offerTrigger (src : Nat) (t : LTime) (stale : Bool) : (d.offerTrigger src t stale).adcCh k = d.adcCh k := by
  unfold Dev.offerTrigger
  refine forN_keep (fun d => d.adcCh k) _ (fun u e => ?_) _ d
  split <;> rfl
/-- A sample is numbered; beyond that it leaves the converter's conversion and mean as they are. -/
theorem adcCh_adcSample (t : LTime) (mean : Int) :
    ∃ b, (d.adcSample k t mean).adcCh k = { d.adcCh k with beyond := some b, n := ((d.adcCh k).n + 1) % 2 ^ 32 } := by
  unfold Dev.adcSample
  extract_lets g o th cfg fin x d1 v y d2 beyond was d3 old d4
  have h1 : restOf d1 = restOf d := by
    unfold d1
    split <;> rfl
  have h2 : restOf d2 = restOf d1 := by
    unfold d2
    split <;> rfl
  have h3 : d3.adcCh k = d.adcCh k := adcCh_of_rest ((show restOf d3 = restOf d2 from rfl).trans (h2.trans h1)) k
  have h4 : d4.adcCh k = { d.adcCh k with beyond := some beyond, n := ((d.adcCh k).n + 1) % 2 ^ 32 } := by
    rw [← h3]
    exact adcCh_setAdc _ _ _
  refine ⟨beyond, ?_⟩
  split
  · rw [adcCh_offerTrigger, h4]
  · exact h4
/-- The code as the bank's supply lets it count (R516). -/
def Dev.codeSeen (code : Nat) (d : Dev) : Nat := if d.on (PIN_BANK.LEVEL 7) then code else 0
/-- The sum of a converter's codes with one more. -/
def Dev.codeSum (k code : Nat) (d : Dev) : Int := (d.adcCh k).sum + signedOf 18 (d.codeSeen code)
/-- OVR shows a code at the end of the range, and any code without the bank's supply. -/
def Dev.showOver (k code : Nat) (d : Dev) : Dev :=
  d.when (d.codeSeen code == 0x1FFFF || d.codeSeen code == 0x20000 || !d.on (PIN_BANK.LEVEL 7))
    (fun d => d.set ADC_STATUS.OVR (withBits (d.get ADC_STATUS.OVR) k k 1))
theorem adcResult_unawaited (h : (d.adcCh k).busy = none) : d.adcResult k code = d := by simp only [Dev.adcResult, h]

variable {t0 : LTime} (h : (d.adcCh k).busy = some t0)
include h

/-- An awaited code is taken: it joins the mean, or ends it with a sample. -/
theorem adcResult_awaited : d.adcResult k code =
    if (d.adcCh k).codes + 1 < 2 ^ adcAvg (d.lrd (ADC_CH_CFG k)) then
      (d.showOver k code).setAdc k { d.adcCh k with busy := none, sum := d.codeSum k code, codes := (d.adcCh k).codes + 1 }
    else ((d.showOver k code).setAdc k { d.adcCh k with busy := none, sum := 0, codes := 0 }).adcSample k t0
      (shiftFloor (d.codeSum k code) (adcAvg (d.lrd (ADC_CH_CFG k)))) := by
  have same : restOf (d.showOver k code) = restOf d := when_keep restOf _ _ (fun _ => rest_set _ _ _) d
  simp only [Dev.adcResult, h]
  rw [← lrd_of_rest same (ADC_CH_CFG k)]
  rfl
theorem adcCh_adcResult_more (hm : (d.adcCh k).codes + 1 < 2 ^ adcAvg (d.lrd (ADC_CH_CFG k))) :
    ∃ sum, (d.adcResult k code).adcCh k = { d.adcCh k with busy := none, sum := sum, codes := (d.adcCh k).codes + 1 } := by
  exact ⟨_, by rw [adcResult_awaited k code d h, if_pos hm, adcCh_setAdc]⟩
theorem adcCh_adcResult_last (hm : 2 ^ adcAvg (d.lrd (ADC_CH_CFG k)) ≤ (d.adcCh k).codes + 1) : ∃ b, (d.adcResult k code).adcCh k =
    { d.adcCh k with busy := none, sum := 0, codes := 0, beyond := some b, n := ((d.adcCh k).n + 1) % 2 ^ 32 } := by
  obtain ⟨b, sample⟩ := adcCh_adcSample k ((d.showOver k code).setAdc k { d.adcCh k with busy := none, sum := 0, codes := 0 }) t0
    (shiftFloor (d.codeSum k code) (adcAvg (d.lrd (ADC_CH_CFG k))))
  exact ⟨b, by rw [adcResult_awaited k code d h, if_neg (Nat.not_lt.mpr hm), sample, adcCh_setAdc]⟩

end
end Sys2Proof.Machine

open Sys2Proof Sys2Proof.Machine

/-- Settles O39: an input, a table, a request or a result that is not taken leaves the device part as it is or only shows it, and one that is taken is read
back past the registers that show it (R231, R232, R239 to R253). A sample instant and a start act on each channel alone, so channel `n` comes as its own step
leaves it. -/
theorem feedbackTriggersAndConvertersAct : Obligations.FeedbackTriggersAndConvertersAct := by
  refine ⟨?quiet, ?forward, ?sample, ?sampled, ?preset, ?applyWaits, ?apply, ?edgePop, ?stampPop,
    fun s n r h c hu => next_of_dev (triggerEdge_unselected _ _ _ _ _ hu), ?edge, ?table, ?tdcApply,
    fun s => ⟨fun h => next_of_fixed (if_pos h), fun h => next_of_dev (if_neg (by simp [h]))⟩,
    fun s h => next_of_fixed (adcGridStart_none _ h), ?start, ?result⟩
  case quiet =>
    intro s n a b c hp
    refine ⟨fun ha hb hc => next_of_dev ((fbInput_quiet _ _ _ _ _ hp (.inr ⟨ha, hb, hc⟩)).trans ?_),
      fun hm => next_of_dev (fbInput_quiet _ _ _ _ _ hp (.inl hm))⟩
    rw [Fb.withLevels, ← ha, ← hb, ← hc]
  case forward =>
    intro s n a b c ha hb hc hctrl oa ob oc hl hh
    refine ⟨_, rfl, (cnt_fbInput_forward _ _ _ _ _ ha hb hc hctrl oa ob oc).trans (signedOf_codeOf_count ?_ ?_)⟩ <;> omega
  case sample =>
    rintro s n _ c rfl hc h
    obtain ⟨⟨own, est⟩, logged⟩ := fbSample_own s.dev n.isLt h
    have sampled : s.dev.sampledFb n.val s.dev.sampleInstant = c := hc.symm
    rw [sampled] at est
    exact ⟨_, rfl, (congrArg Fb.v est :), (congrArg Fb.w est :), (congrArg Fb.cmode est :),
      (congrArg Fb.cnt est).trans ((congrArg Fb.cnt hc).trans (cnt_fbSampleSpeed _ _ _ _ _ _)), logged⟩
  case sampled =>
    rintro s _ rfl h
    exact next_of_dev (fbSample_done _ h)
  case preset =>
    exact fun s n hi => ⟨fun h => next_of_dev (fbPreset_refused _ _ _ h), fun h => ⟨_, rfl, cnt_fbPreset _ _ _ h⟩⟩
  case applyWaits =>
    exact fun s n h => next_of_fixed ((congrArg s.dev.fbApply (toNat_channelMask n)).trans (fbApply_waiting _ _ n.isLt h))
  case apply =>
    intro s n hw
    have mask := congrArg s.dev.fbApply (toNat_channelMask n)
    refine ⟨fun r hr => next_of_dev (mask.trans (fbApply_refused _ _ n.isLt hw hr)), fun hr hs => ?_,
      fun hr hs => next_of_dev (mask.trans (fbApply_live _ _ n.isLt hw hr hs))⟩
    refine ⟨_, next_of_dev (g := fun d => (d.fbAccepted n.val).fbCaptured n.val) (mask.trans (fbApply_captured _ _ n.isLt hw hr hs)), ?_,
      commitWaits_holdCommit _ _ _ _⟩
    exact bitAt_set_own FB_APPLY.APPLY _ n.val (s.dev.fbAccepted n.val) (by decide) n.isLt
  case edgePop => exact fun s n => ⟨_, rfl, queue_fbEdgePop _ _, out_fbEdgePop _ _⟩
  case stampPop => exact fun s n => ⟨_, rfl, queue_tdcPop _ _, out_tdcPop _ _⟩
  case edge =>
    intro s n r c t0 gap he hs ht hgap
    refine ⟨next_of_dev (triggerEdge_notHeld _ _ _ _ he hs), fun hg => next_of_dev (triggerEdge_soon _ _ _ _ he hs n.isLt ht hgap hg),
      fun hg hr room => ?_⟩
    refine ⟨_, next_of_dev (g := fun d => (d.set (TDC_IN_STATUS.LEVEL n.val) (flag r)).acceptEdge n.val r t0)
      (triggerEdge_accepted _ _ _ _ he hs n.isLt ht hgap hg hr), ?_⟩
    have accepted := tdcIn_acceptEdge n.val (s.dev.set (TDC_IN_STATUS.LEVEL n.val) (flag r)) r t0 room
    exact ⟨congrArg TdcIn.queue accepted, congrArg TdcIn.last accepted⟩
  case table =>
    exact fun s n h => ⟨fun hc => next_of_fixed (tableDone_dropped _ _ _ hc),
      fun hc hr => next_of_dev ((tableDone_calibrates _ _ _ hc).trans (if_pos hr)),
      fun hc hr => next_of_dev ((tableDone_calibrates _ _ _ hc).trans (if_neg (by simp [hr])))⟩
  case tdcApply =>
    intro s n
    have single := (congrArg s.dev.tdcApply (toNat_outputMask n)).trans (tdcApply_single _ _ n.isLt)
    refine ⟨fun hw => ?_, fun hw => next_of_fixed (single.trans (if_pos hw))⟩
    refine ⟨_, next_of_dev (g := fun d => (d.set TDC_APPLY.APPLY (withBits (d.get TDC_APPLY.APPLY) n.val n.val 1)).holdCommit (0x0B00 + n.val)
      (d.capture [TDC_IN_CTRL n.val]) none) (single.trans (if_neg (by simp [hw]))), commitWaits_holdCommit _ _ _ _, ?_⟩
    exact bitAt_set_own TDC_APPLY.APPLY _ n.val s.dev (by decide) n.isLt
  case start =>
    intro s k t0 hi
    obtain ⟨e, same, run⟩ := adcGridStart_own t0 s.dev k.isLt hi
    have channel := adcCh_of_part same
    refine ⟨fun he hr => ?_, fun h => ?_⟩
    · have started := run.trans (adcStartOne_starts t0 e (by rwa [lget_of_part same]) (by rwa [channel]))
      exact ⟨_, rfl, congrArg AdcCh.busy started, congrArg AdcCh.last started⟩
    · exact ⟨_, rfl, (run.trans (adcStartOne_stays t0 e (by rwa [lget_of_part same, channel]))).trans channel⟩
  case result =>
    intro s k c
    refine ⟨fun h => next_of_fixed (adcResult_unawaited _ _ _ h), fun t0 h hm => ?_, fun t0 h hm => ?_⟩
    · obtain ⟨sum, taken⟩ := adcCh_adcResult_more k.val c.toNat s.dev h hm
      exact ⟨_, rfl, congrArg AdcCh.busy taken, congrArg AdcCh.codes taken⟩
    · obtain ⟨b, taken⟩ := adcCh_adcResult_last k.val c.toNat s.dev h hm
      exact ⟨_, rfl, congrArg AdcCh.busy taken, congrArg AdcCh.codes taken, congrArg AdcCh.n taken⟩

end

section
/-! PROOFS. Capture units (R255 to R261, R263, R272 to R274, R278): their samples, triggers and records, ACQ_APPLY, and the packets that configure, arm,
disarm and fire them and load their masks, and O40. -/
namespace Sys2Proof.Machine

/-! ## A capture unit and its state as they are read back (R257) -/

/-- Of two entries put in one place the later stays. -/
theorem smPut_smPut {α : Type} (m : SMap α) (k : Nat) (v w : α) : smPut (smPut m k v) k w = smPut m k w := by
  induction m with
  | nil => exact if_pos rfl
  | cons x m ih =>
    obtain ⟨k', v'⟩ := x
    by_cases same : k' = k
    · simp [smPut, same]
    · by_cases before : k < k'
      · simp [smPut, same, before]
      · simp [smPut, same, before, ih]
/-- An entry that is no default is replaced in its place. -/
theorem smSet_smSet {α : Type} [DecidableEq α] (d : Nat → α) (m : SMap α) (k : Nat) {v w : α} (hv : v ≠ d k) (hw : w ≠ d k) :
    smSet d (smSet d m k v) k w = smSet d m k w := by
  rw [smSet, smSet, smSet, if_neg hv, if_neg hw, if_neg hw, smPut_smPut]

theorem capUnit_setCap (u : Nat) (c : CapUnit) (d : Dev) : (d.setCap u c).capUnit u = c := smGet_smSet_same _ _ _ _
theorem capUnit_of_rest {d e : Dev} (h : restOf d = restOf e) (u : Nat) : d.capUnit u = e.capUnit u :=
  congrArg (fun r : Dev.Rest => smGet (fun _ => CapUnit.reset) r.acq.units u) h
theorem live_of_rest {d e : Dev} (h : restOf d = restOf e) : d.live = e.live := congrArg Dev.Rest.live h
/-- A unit of which a sample was due is none as after reset. -/
theorem ne_reset_of_lastDue {c : CapUnit} {n : Nat} (h : c.lastDue = some n) : c ≠ CapUnit.reset := by
  rintro rfl
  exact nomatch h
theorem setCap_setCap (u : Nat) {c e : CapUnit} (d : Dev) (hc : c ≠ CapUnit.reset) (he : e ≠ CapUnit.reset) : (d.setCap u c).setCap u e = d.setCap u e :=
  congrArg (fun m => ({ d with acq := { d.acq with units := m } } : Dev)) (smSet_smSet _ d.acq.units u hc he)

section
variable (u st : Nat) (d : Dev)

theorem rest_setCapState : restOf (d.setCapState u st) = restOf d := rfl
theorem rd_setCapState_other (a : Nat) (hs : a ≠ ACQ_U_STATE u) (hq : a ≠ ACQ_STATUS) : (d.setCapState u st).rd a = d.rd a := by
  rw [Dev.setCapState, Dev.rd_set_other _ _ _ _ hq, Dev.rd_set_other _ _ _ _ hq, Dev.rd_set_other _ _ _ _ hs]
theorem capState_setCapState : (d.setCapState u st).capState u = st % 8 := by
  have apart : ACQ_U_STATE u ≠ ACQ_STATUS := Nat.ne_of_gt (Nat.lt_add_right _ (by decide))
  rw [Dev.capState, Dev.setCapState, get_of_rd _ (Dev.rd_set_other _ _ _ _ apart), get_of_rd _ (Dev.rd_set_other _ _ _ _ apart),
    Dev.get_set_same _ _ _ (by decide : 2 < 32)]
  rfl

end

/-! ## A fill that advances or ends (R257, R258) -/

section
variable (u : Nat) (d : Dev)

/-- How far a unit's sampling has come, which the end of a fill leaves: samples taken, the number that was due last, and whether it pauses. -/
def CapUnit.progress (c : CapUnit) : Nat × Option Nat × Bool := (c.n, c.lastDue, c.paused)

theorem live_endFill (early : Bool) : (d.endFill u early).live = d.live := rfl
theorem progress_endFill (early : Bool) : ((d.endFill u early).capUnit u).progress = (d.capUnit u).progress := by
  rw [Dev.endFill, capUnit_of_rest (rest_setCapState u 5 _), capUnit_setCap]
  rfl
/-- What entering a state and ending a fill keep, PRE and POST keep as they advance. -/
theorem capAdvance_keep {β : Type} (g : Dev → β) (hs : ∀ st e, g (Dev.setCapState u st e) = g e) (he : ∀ e, g (Dev.endFill u false e) = g e) :
    g (d.capAdvance u) = g d := by
  unfold Dev.capAdvance
  extract_lets c d1
  have entered : g d1 = g d := by
    unfold d1
    split
    · exact hs 3 d
    · rfl
  split
  · split
    · exact (he d1).trans entered
    · exact entered
  · exact entered
theorem live_capAdvance : (d.capAdvance u).live = d.live :=
  capAdvance_keep u d Dev.live (fun st e => live_of_rest (rest_setCapState u st e)) (fun e => live_endFill u e false)
theorem progress_capAdvance : ((d.capAdvance u).capUnit u).progress = (d.capUnit u).progress :=
  capAdvance_keep u d (fun e => (e.capUnit u).progress) (fun st e => congrArg CapUnit.progress (capUnit_of_rest (rest_setCapState u st e) u))
    (fun e => progress_endFill u e false)
/-- A unit that enters PRE without a trigger is armed once its PRE is filled. -/
theorem capAdvance_entered (h : (d.capUnit u).trig = none) : (d.setCapState u 2).capAdvance u =
    if d.lget (ACQ_U_PRE.PRE u) ≤ (d.capUnit u).n - (d.capUnit u).start then (d.setCapState u 2).setCapState u 3 else d.setCapState u 2 := by
  have entered : (d.setCapState u 2).capState u = 2 := capState_setCapState u 2 d
  have kept : (d.setCapState u 2).capUnit u = d.capUnit u := capUnit_of_rest (rest_setCapState u 2 d) u
  have live : (d.setCapState u 2).lget (ACQ_U_PRE.PRE u) = d.lget (ACQ_U_PRE.PRE u) := rfl
  simp only [Dev.capAdvance, entered, kept, h, live, decide_true, Bool.true_and, decide_eq_true_eq]
/-- Entering PRE leaves a unit without a trigger in PRE or armed, and changes nothing but the states that are shown. -/
theorem capAdvance_entered_keep {β : Type} (g : Dev → β) (hg : ∀ st e, g (Dev.setCapState u st e) = g e) (h : (d.capUnit u).trig = none) :
    g ((d.setCapState u 2).capAdvance u) = g d := by
  rw [capAdvance_entered u d h]
  split
  · exact (hg 3 _).trans (hg 2 d)
  · exact hg 2 d
theorem capState_entered (h : (d.capUnit u).trig = none) : ((d.setCapState u 2).capAdvance u).capState u =
    if d.lget (ACQ_U_PRE.PRE u) ≤ (d.capUnit u).n - (d.capUnit u).start then 3 else 2 := by
  rw [capAdvance_entered u d h]
  split <;> exact capState_setCapState _ _ _
theorem capGroup_of_live {d e : Dev} (h : d.live = e.live) : d.capGroup u = e.capGroup u :=
  congrArg (fun m : SMap Word => if bitsOf (smGet resetOf m (ACQ_U_CTRL u)).toNat 31 24 < 16 then
    some (bitsOf (smGet resetOf m (ACQ_U_CTRL u)).toNat 31 24) else none) h
/-- A trigger leaves the unit in its group. -/
theorem capGroup_capFire (t : LTime) (forced remote mask stale : Bool) (ctrl unit : Nat) :
    (d.capFire u t forced remote mask stale ctrl unit).capGroup u = d.capGroup u :=
  capGroup_of_live u ((live_capAdvance u _).trans rfl)

end

/-! ## Arm-at times and samples (R255, R257, R260) -/

section
variable (u : Nat) (d : Dev)

theorem armTime_elsewhere (h : d.capState u ≠ 1) : d.armTime u = d := if_pos h
theorem armTime_waiting (h : d.capState u = 1) :
    d.armTime u = (d.reach (d.capUnit u).armAt).takeArm u ((d.capUnit u).nextId.getD 0) (d.capUnit u).count := if_neg (not_not.mpr h)

theorem captureSample_notDue (x : Bool) (h : d.capState u < 2 ∨ d.capDue u (d.capNum u) = false) : d.captureSample u x = d :=
  if_pos (by simpa using h)

/-- A unit at a sample that is due: its number is noted, and the trigger sample is this one when its time is not after the trigger. -/
def Dev.unitDue (u : Nat) (d : Dev) : CapUnit :=
  { d.capUnit u with
    lastDue := some (d.capNum u)
    trig := (d.capUnit u).trig.map (fun tr =>
      if d.capState u = 4 && tr.idx < (d.capUnit u).n && d.capTime u ≤ tr.time then { tr with idx := (d.capUnit u).n, late := false } else tr) }
/-- Whether the next sample would overwrite one of a record that is still in the ring. -/
def Dev.ringFull (u : Nat) (d : Dev) : Bool :=
  (d.capUnit u).records.any (fun r => decide (r.first + d.ringCap u ≤ (d.capUnit u).n) && decide ((d.capUnit u).n ≤ r.last + d.ringCap u))

variable (x : Bool) (hs : 2 ≤ d.capState u) (hd : d.capDue u (d.capNum u) = true)
include hs hd

theorem sample_notSkipped : ¬ (d.capState u < 2 || !d.capDue u (d.capNum u)) = true := by simp [hd, Nat.lt_of_succ_le hs]
theorem captureSample_pauses (h : d.ringFull u = true) : d.captureSample u x = d.setCap u { d.unitDue u with paused := true } := by
  refine (if_neg (sample_notSkipped u d hs hd)).trans ((if_pos h).trans ?_)
  exact setCap_setCap u d (ne_reset_of_lastDue (c := d.unitDue u) rfl) (ne_reset_of_lastDue (c := { d.unitDue u with paused := true }) rfl)
/-- Without a mask a sample that is due and has room is taken, and PRE and POST advance. -/
theorem captureSample_takes (hr : d.ringFull u = false) (hm : bitAt (d.lrd (ACQ_U_CTRL u)) 20 = false) :
    ∃ e : Dev, d.captureSample u x = e.capAdvance u ∧ (e.capUnit u).progress = ((d.capUnit u).n + 1, some (d.capNum u), false) := by
  have room : ¬ d.ringFull u = true := Bool.eq_false_iff.mp hr
  unfold Dev.captureSample
  extract_lets num t c0 c d1 ds s cap vals mask runs isTrig word bs d2 d3 cont d4
  have noViolation : d4 = d3 := by
    have unmasked : runs.2 = [] := congrArg Prod.snd (if_pos (by simp [show bitAt (d1.lrd (ACQ_U_CTRL u)) 20 = false from hm]))
    simp only [d4, unmasked]
  refine ⟨d3, ((if_neg (sample_notSkipped u d hs hd)).trans (if_neg room)).trans (congrArg (Dev.capAdvance u) noViolation), ?_⟩
  rw [capUnit_setCap]
  rfl

end

/-! ## Triggers (R257 to R259, R274) -/

section
variable (u : Nat) (d : Dev)

theorem captureTrigger_none (h : (d.capUnit u).offers = []) : d.captureTrigger u = d := by
  simp only [Dev.captureTrigger, h]
theorem captureTrigger_offered {t0 : LTime} {stale : Bool} {rest : List (LTime × Bool)} (h : (d.capUnit u).offers = (t0, stale) :: rest) :
    d.captureTrigger u = (d.setCap u { d.capUnit u with offers := rest }).capTrigger u t0 false false stale true := by
  simp only [Dev.captureTrigger, h]

variable (t : LTime) (forced mask stale fire : Bool)

theorem capTrigger_alone (h : d.capState u = 3) (hg : d.capGroup u = none) :
    d.capTrigger u t forced mask stale fire = d.capFire u t forced false mask stale d.sys.index u := by
  simp only [Dev.capTrigger, h, capGroup_capFire, hg]
theorem capTrigger_group {g : Nat} (h : d.capState u = 3) (hg : d.capGroup u = some g) : d.capTrigger u t forced mask stale true =
    ((d.capFire u t forced false mask stale d.sys.index u).sendFire g u (d.rd (ACQ_U_ARM_ID u)) t forced mask).applyFire g t forced mask
      (d.capFire u t forced false mask stale d.sys.index u).sys.index u := by
  simp only [Dev.capTrigger, h, capGroup_capFire, hg]
  rfl
theorem capTrigger_partial (h : d.capState u = 2) (hp : d.lget (ACQ_U_CTRL.PARTIAL_PRE u) = 1) :
    d.capTrigger u t forced mask stale fire = d.capFire u t forced false mask stale d.sys.index u := by
  simp only [Dev.capTrigger, h, hp, if_true]
theorem capTrigger_filling (h : d.capState u = 2) (hp : d.lget (ACQ_U_CTRL.PARTIAL_PRE u) ≠ 1) :
    d.capTrigger u t forced mask stale fire = d.capLost u := by
  simp only [Dev.capTrigger, h, hp, if_false]
theorem capTrigger_lost (h : d.capState u = 4 ∨ d.capState u = 5) : d.capTrigger u t forced mask stale fire = d.capLost u := by
  rcases h with h | h <;> simp only [Dev.capTrigger, h]
theorem capTrigger_idle (h : d.capState u < 2) : d.capTrigger u t forced mask stale fire = d := by
  have idleOrWaits : d.capState u = 0 ∨ d.capState u = 1 := by omega
  rcases idleOrWaits with h | h <;> simp only [Dev.capTrigger, h]

end

/-! ## Records that leave their ring, and their buffers (R257, R259, R260) -/

section
variable (u : Nat) (d : Dev)

theorem recordCopied_none (h : (d.capUnit u).records.findIdx? (·.granted) = none) : d.recordCopied u = d := by
  simp only [Dev.recordCopied, h]

/-- A record has left the ring. -/
def Dev.dropRecord (u i : Nat) (d : Dev) : Dev := d.setCap u { d.capUnit u with records := (d.capUnit u).records.eraseIdx i }
/-- A fill is counted off the repeats that are left. -/
def Dev.countFill (u : Nat) (d : Dev) : Dev := d.when (d.get (ACQ_U_REPEAT.LEFT u) != 0) (Dev.set (ACQ_U_REPEAT.LEFT u) (d.get (ACQ_U_REPEAT.LEFT u) - 1))
/-- The dead time that began at `t`, as it is shown (R259). -/
def Dev.deadSince (t : LTime) (d : Dev) : Nat := min ((d.now - t) / 65536) (2 ^ 32 - 1)
/-- A dead time is shown, with the longest one. -/
def Dev.showDead (u dead : Nat) (d : Dev) : Dev :=
  (d.wr (ACQ_U_DEAD_LAST u) dead).wr (ACQ_U_DEAD_MAX u) (max dead (d.rd (ACQ_U_DEAD_MAX u)))
/-- An arm that came meanwhile gives its identifier and repeats. -/
def Dev.takeNextArm (u : Nat) (c : CapUnit) (d : Dev) : Dev :=
  match c.nextId with
  | none => d
  | some id => (d.wr (ACQ_U_ARM_ID u) id).set (ACQ_U_REPEAT.LEFT u) c.count
/-- Unit `u`, which was `c`, re-arms: its dead time is shown, and nothing of the last fill stays. -/
def Dev.refillUnit (u : Nat) (c : CapUnit) (d : Dev) : Dev :=
  let shown := (d.showDead u (d.deadSince c.deadFrom)).takeNextArm u c
  shown.setCap u { shown.capUnit u with dead := some (d.deadSince c.deadFrom), nextId := none, trig := none, viol := none, runs := [], offers := [] }

theorem capUnit_dropRecord (i : Nat) : (d.dropRecord u i).capUnit u = { d.capUnit u with records := (d.capUnit u).records.eraseIdx i } := capUnit_setCap _ _ _
theorem rest_countFill : restOf (d.countFill u) = restOf d := when_keep restOf _ _ (fun _ => rest_set _ _ _) d
theorem now_countFill : (d.countFill u).now = d.now := when_keep Dev.now _ _ (fun _ => Dev.now_set _ _ _) d
theorem capUnit_counted (i : Nat) : ((d.dropRecord u i).countFill u).capUnit u =
    { d.capUnit u with records := (d.capUnit u).records.eraseIdx i } :=
  (capUnit_of_rest (rest_countFill u _) u).trans (capUnit_dropRecord u d i)

/-- The register of the dead time is none of those that are written after it. -/
theorem deadLast_apart : ACQ_U_DEAD_LAST u ≠ ACQ_U_DEAD_MAX u ∧ ACQ_U_DEAD_LAST u ≠ ACQ_U_ARM_ID u ∧ ACQ_U_DEAD_LAST u ≠ ACQ_U_REPEAT u ∧
    ACQ_U_DEAD_LAST u ≠ ACQ_U_STATE u ∧ ACQ_U_DEAD_LAST u ≠ ACQ_STATUS := by
  simp only [ACQ_U_DEAD_LAST, ACQ_U_DEAD_MAX, ACQ_U_ARM_ID, ACQ_U_REPEAT, ACQ_U_STATE, ACQ_STATUS]
  omega

section
variable (c : CapUnit)

theorem rest_takeNextArm : restOf (d.takeNextArm u c) = restOf d := by
  unfold Dev.takeNextArm
  split <;> rfl
theorem rd_takeNextArm_deadLast : (d.takeNextArm u c).rd (ACQ_U_DEAD_LAST u) = d.rd (ACQ_U_DEAD_LAST u) := by
  obtain ⟨-, armId, left, -, -⟩ := deadLast_apart u
  unfold Dev.takeNextArm
  split
  · rfl
  · rw [Dev.rd_set_other (ACQ_U_REPEAT.LEFT u) _ _ _ left, Dev.rd_wr_other _ _ _ _ armId]
theorem rd_showDead (dead : Nat) (h : dead < 2 ^ 32) : (d.showDead u dead).rd (ACQ_U_DEAD_LAST u) = dead := by
  rw [Dev.showDead, Dev.rd_wr_other _ _ _ _ (deadLast_apart u).1, Dev.rd_wr_same, Nat.mod_eq_of_lt h]
theorem deadSince_lt (t : LTime) : d.deadSince t < 2 ^ 32 := Nat.lt_of_le_of_lt (Nat.min_le_right _ _) (by decide)

theorem live_refillUnit : (d.refillUnit u c).live = d.live :=
  (live_of_rest (rest_takeNextArm u (d.showDead u (d.deadSince c.deadFrom)) c)).trans rfl
theorem rd_refillUnit : (d.refillUnit u c).rd (ACQ_U_DEAD_LAST u) = d.deadSince c.deadFrom :=
  (rd_takeNextArm_deadLast u (d.showDead u (d.deadSince c.deadFrom)) c).trans (rd_showDead u d _ (deadSince_lt d _))
theorem capUnit_refillUnit : (d.refillUnit u c).capUnit u =
    { d.capUnit u with dead := some (d.deadSince c.deadFrom), nextId := none, trig := none, viol := none, runs := [], offers := [] } := by
  have same : ((d.showDead u (d.deadSince c.deadFrom)).takeNextArm u c).capUnit u = d.capUnit u := capUnit_of_rest (rest_takeNextArm u _ c) u
  rw [Dev.refillUnit, capUnit_setCap, same]

end

variable {i : Nat} (hi : (d.capUnit u).records.findIdx? (·.granted) = some i)
include hi

theorem recordCopied_leaves (h : d.capState u ≠ 5 ∨ i + 1 ≠ (d.capUnit u).records.length) :
    d.recordCopied u = d.setCap u { d.capUnit u with records := (d.capUnit u).records.eraseIdx i } := by
  simp only [Dev.recordCopied, hi]
  exact if_pos (by rw [Bool.or_eq_true, decide_eq_true_eq, decide_eq_true_eq]; exact h)

variable (hs : d.capState u = 5) (hl : i + 1 = (d.capUnit u).records.length)
include hs hl

/-- A dead unit whose last fill has been copied counts the fill, and enters PRE or IDLE. -/
theorem recordCopied_lastFill : d.recordCopied u = if d.lget (ACQ_U_CTRL.AUTO_REARM u) = 1 && d.get (ACQ_U_REPEAT.LEFT u) ≠ 1 then
      ((((d.dropRecord u i).countFill u).refillUnit u (d.capUnit u)).setCapState u 2).capAdvance u
    else ((d.dropRecord u i).countFill u).setCapState u 0 := by
  simp only [Dev.recordCopied, hi]
  refine (if_neg (by rw [Bool.or_eq_true, decide_eq_true_eq, decide_eq_true_eq, not_or, not_not, not_not]; exact ⟨hs, hl⟩)).trans ?_
  rfl
theorem recordCopied_rearms (ha : d.lget (ACQ_U_CTRL.AUTO_REARM u) = 1) (hr : d.get (ACQ_U_REPEAT.LEFT u) ≠ 1) :
    (d.recordCopied u).capState u = (if d.lget (ACQ_U_PRE.PRE u) ≤ (d.capUnit u).n - (d.capUnit u).start then 3 else 2) ∧
      (d.recordCopied u).rd (ACQ_U_DEAD_LAST u) = d.deadSince (d.capUnit u).deadFrom ∧
      ((d.recordCopied u).capUnit u).records = (d.capUnit u).records.eraseIdx i := by
  rw [recordCopied_lastFill u d hi hs hl, if_pos (by simp [ha, hr])]
  have counted := capUnit_counted u d i
  have elapsed : ((d.dropRecord u i).countFill u).deadSince (d.capUnit u).deadFrom = d.deadSince (d.capUnit u).deadFrom :=
    congrArg (fun t => min ((t - (d.capUnit u).deadFrom) / 65536) (2 ^ 32 - 1)) (now_countFill u _)
  have words : ((d.dropRecord u i).countFill u).live = d.live := (live_of_rest (rest_countFill u _)).trans rfl
  generalize (d.dropRecord u i).countFill u = e at counted elapsed words ⊢
  have filled := capUnit_refillUnit u e (d.capUnit u)
  have untriggered : ((e.refillUnit u (d.capUnit u)).capUnit u).trig = none := by rw [filled]
  have pre : (e.refillUnit u (d.capUnit u)).lget (ACQ_U_PRE.PRE u) = d.lget (ACQ_U_PRE.PRE u) :=
    congrArg (fun m => bitsOf (smGet resetOf m (ACQ_U_PRE u)).toNat 23 0) ((live_refillUnit u e _).trans words)
  refine ⟨?_, ?_, ?_⟩
  · rw [capState_entered u _ untriggered, pre, filled, counted]
  · obtain ⟨-, -, -, state, status⟩ := deadLast_apart u
    have shown := capAdvance_entered_keep u _ (fun e => e.rd (ACQ_U_DEAD_LAST u)) (fun st e => rd_setCapState_other u st e _ state status) untriggered
    exact shown.trans ((rd_refillUnit u e _).trans elapsed)
  · have kept := capAdvance_entered_keep u _ (fun e => e.capUnit u) (fun st e => capUnit_of_rest (rest_setCapState u st e) u) untriggered
    exact congrArg CapUnit.records (kept.trans (filled.trans (by rw [counted])))
theorem recordCopied_ends (h : d.lget (ACQ_U_CTRL.AUTO_REARM u) ≠ 1 ∨ d.get (ACQ_U_REPEAT.LEFT u) = 1) :
    (d.recordCopied u).capState u = 0 ∧ ((d.recordCopied u).capUnit u).records = (d.capUnit u).records.eraseIdx i := by
  rw [recordCopied_lastFill u d hi hs hl, if_neg (by simpa [imp_iff_not_or] using h)]
  exact ⟨capState_setCapState u 0 _, congrArg CapUnit.records ((capUnit_of_rest (rest_setCapState u 0 _) u).trans (capUnit_counted u d i))⟩

end

theorem grantBuffer_none (d : Dev) (h : d.get ACQ_POOL.FREE = 0 ∨
    (List.range 16).find? (fun u => (d.capUnit u).records.any (fun r => !r.granted)) = none) : d.grantBuffer = d := by
  unfold Dev.grantBuffer
  rcases h with empty | unasked
  · exact if_pos empty
  · split
    · rfl
    · rw [unasked]
theorem grantBuffer_grants (d : Dev) {u i : Nat} {r : CapRecord} (hf : d.get ACQ_POOL.FREE ≠ 0)
    (hu : (List.range 16).find? (fun u => (d.capUnit u).records.any (fun r => !r.granted)) = some u)
    (hi : (d.capUnit u).records.findIdx? (fun r => !r.granted) = some i) (hr : (d.capUnit u).records[i]? = some r) : d.grantBuffer =
    ((d.set ACQ_POOL.FREE (d.get ACQ_POOL.FREE - 1)).setCap u
      { d.capUnit u with records := (d.capUnit u).records.modify i (fun r => { r with granted := true }) }).sealRecord ⟨1, u, r.payload⟩ := by
  simp only [Dev.grantBuffer, if_neg hf, hu, hi, hr]
  rfl

/-! ## ACQ_APPLY (R261) -/

section
variable (u : Nat) (d : Dev)

/-- A unit whose rules hold is no longer shown as refused. -/
def Dev.acqAccepted (u : Nat) (d : Dev) : Dev := d.set ACQ_APPLY.REFUSED (withBits (d.get ACQ_APPLY.REFUSED) u u 0)

theorem refused_acqAccepted : bitAt ((d.acqAccepted u).get ACQ_APPLY.REFUSED) u = false := by
  rw [Dev.acqAccepted, Dev.get_set_same _ _ _ (by decide), bitAt_eq_testBit, Nat.testBit_mod_two_pow, testBit_withBits, if_pos (by omega), Nat.zero_testBit,
    Bool.and_false]
theorem refused_holdCapture (ref : Option PktRef) : (d.holdCapture u ref).get ACQ_APPLY.REFUSED = d.get ACQ_APPLY.REFUSED :=
  Dev.get_set_other ACQ_APPLY.APPLY ACQ_APPLY.REFUSED _ d (by decide) (.inr (.inr (by decide)))
theorem apply_holdCapture (hu : u < 16) (ref : Option PktRef) : bitAt ((d.holdCapture u ref).get ACQ_APPLY.APPLY) u = true :=
  bitAt_set_own ACQ_APPLY.APPLY _ u d (by decide) hu

variable (hu : u < 16)
include hu

/-- A write to ACQ_APPLY with one bit concerns its unit alone. -/
theorem acqApply_single : d.acqApply (2 ^ u) = if bitAt (d.get ACQ_APPLY.APPLY) u then d
    else if d.capState u ≠ 0 || (d.capRule u).isSome then d.set ACQ_APPLY.REFUSED (withBits (d.get ACQ_APPLY.REFUSED) u u 1)
    else (d.acqAccepted u).holdCapture u none := by
  unfold Dev.acqApply
  rw [forN_single _ 16 u d hu (fun k e hk => if_pos (by simp [bitAt_two_pow_other hk])), bitAt_two_pow_self, Bool.not_true, Bool.false_or]
  dsimp only
  split
  · rfl
  · split
    case isTrue bad =>
      rw [bad]
      rfl
    case isFalse good =>
      rw [Bool.eq_false_iff.mpr good]
      rfl
theorem acqApply_waiting (h : bitAt (d.get ACQ_APPLY.APPLY) u = true) : d.acqApply (2 ^ u) = d := by
  rw [acqApply_single u d hu, if_pos h]

variable (hw : bitAt (d.get ACQ_APPLY.APPLY) u = false)
include hw

theorem acqApply_refused (h : d.capState u ≠ 0 ∨ d.capRule u ≠ none) :
    d.acqApply (2 ^ u) = d.set ACQ_APPLY.REFUSED (withBits (d.get ACQ_APPLY.REFUSED) u u 1) := by
  rw [acqApply_single u d hu, if_neg (by simp [hw]), if_pos (by simpa [Option.isSome_iff_ne_none] using h)]
theorem acqApply_captured (hs : d.capState u = 0) (hr : d.capRule u = none) : d.acqApply (2 ^ u) = (d.acqAccepted u).holdCapture u none := by
  rw [acqApply_single u d hu, if_neg (by simp [hw]), if_neg (by simp [hs, hr])]

end

/-! ## CONFIG_CAPTURE_UNIT (R261, R278) -/

section
variable (p : Packet) (ref : PktRef) (d : Dev)

/-- The words of the unit and of its descriptors as the packet gives them. -/
def Dev.captureWords (p : Packet) (d : Dev) : Dev :=
  (d.forN 7 (fun i => Dev.plainWrite (ACQ_U_CTRL (par p 22 1) + 4 * i) (par p (24 + 4 * i) 4))).forN (2 * p.len.toNat)
    (fun i d => (d.plainWrite (ACQ_DESC_LO (par p 22 1) i) (ext p (8 * i) 4)).plainWrite (ACQ_DESC_HI (par p 22 1) i) (ext p (8 * i + 4) 4))

/-- The checks of a CONFIG_CAPTURE_UNIT in their order. -/
theorem configCapture_checks : opConfigCapture.run p ref d =
    if 16 ≤ par p 22 1 then (.bad stBAD_PARAMETER, d)
    else if d.capState (par p 22 1) ≠ 0 || bitAt (d.get ACQ_APPLY.APPLY) (par p 22 1) then (.bad stBUSY, d)
    else match (d.captureWords p).capRule (par p 22 1) with
      | some r => (.done stCONSISTENCY (ruleResult r (0x0B80 + par p 22 1)), d.captureWords p)
      | none => (.later, (d.captureWords p).holdCapture (par p 22 1) (some ref)) := rfl
theorem configCapture_badUnit (h : 16 ≤ par p 22 1) : opConfigCapture.run p ref d = (.bad stBAD_PARAMETER, d) := if_pos h

variable (hu : par p 22 1 < 16)
include hu

theorem configCapture_busy (h : d.capState (par p 22 1) ≠ 0 ∨ bitAt (d.get ACQ_APPLY.APPLY) (par p 22 1) = true) :
    opConfigCapture.run p ref d = (.bad stBUSY, d) := by
  rw [configCapture_checks, if_neg (Nat.not_le.mpr hu), if_pos (by simpa using h)]

variable (hs : d.capState (par p 22 1) = 0) (hw : bitAt (d.get ACQ_APPLY.APPLY) (par p 22 1) = false)
include hs hw

theorem configCapture_waits (h : (d.captureWords p).capRule (par p 22 1) = none) :
    opConfigCapture.run p ref d = (.later, (d.captureWords p).holdCapture (par p 22 1) (some ref)) := by
  rw [configCapture_checks, if_neg (Nat.not_le.mpr hu), if_neg (by simp [hs, hw]), h]
theorem configCapture_breaksRule {r : Nat} (h : (d.captureWords p).capRule (par p 22 1) = some r) :
    opConfigCapture.run p ref d = (.done stCONSISTENCY (ruleResult r (0x0B80 + par p 22 1)), d.captureWords p) := by
  rw [configCapture_checks, if_neg (Nat.not_le.mpr hu), if_neg (by simp [hs, hw]), h]

end

/-! ## ARM and DISARM (R257, R272, R273, R278) -/

/-- The status of an arm: at its time, late within tolerance, or missed. -/
def armStatus (r : Nat) : Nat := match r with | 0 => stOK | 1 => stLATE | _ => stMISSED

section
variable (p : Packet) (ref : PktRef) (d : Dev)

/-- The identifier of the next arm. -/
def Dev.nextArmId (d : Dev) : Nat := d.sys.index * 2 ^ 24 + (d.acq.arms + 1) % 2 ^ 24
/-- The next arm is counted. -/
def Dev.countArm (d : Dev) : Dev := { d with acq := { d.acq with arms := (d.acq.arms + 1) % 2 ^ 24 } }
/-- The arm-at time of an ARM. -/
def armAtOf (p : Packet) : Option LTime := if hasFlag p 2 then some p.execAt.toNat else none
/-- The listed units of an ARM, or those of its group, are armed. -/
def Dev.armListed (p : Packet) (us : List Nat) (d : Dev) : Nat × Dev :=
  d.countArm.armUnits us d.nextArmId (armAtOf p) p.tol.toNat (par p 26 2)
/-- A group's arm `id` is noted and goes out by its path. -/
def Dev.sendArm (p : Packet) (g id : Nat) (d : Dev) : Dev :=
  let path := d.groupPath g
  let noted : Dev := { path.2 with acq := { path.2.acq with
    seen := path.2.acq.seen ++ [(0x12, g, id)]
    groups := (path.2.acq.groups.filter (fun x => x.1 != g)) ++ [(g, p.tol.toNat, par p 26 2)] } }
  let flooded := noted.when path.1.1 (Dev.floodTrunks 0x12 (leBytes 1 g ++ leBytes 1 (flag (armAtOf p).isSome) ++ leBytes 1 d.sys.index ++ [0] ++ leBytes 4 id ++
    leBytes 10 ((armAtOf p).getD 0) ++ leBytes 4 p.tol.toNat ++ leBytes 2 (par p 26 2)) none)
  flooded.when path.1.2 (Dev.sendTbus 1 g flooded.now)
/-- A group's disarm `id` is noted and goes out by its path. -/
def Dev.sendDisarm (g id : Nat) (d : Dev) : Dev :=
  let path := d.groupPath g
  let noted : Dev := { path.2 with acq := { path.2.acq with seen := path.2.acq.seen ++ [(0x14, g, id)] } }
  let flooded := noted.when path.1.1 (Dev.floodTrunks 0x14 (leBytes 1 g ++ leBytes 1 noted.sys.index ++ zeros 2 ++ leBytes 4 id) none)
  flooded.when path.1.2 (Dev.sendTbus 3 g flooded.now)
/-- The arm identifier of a group's first unit. -/
def Dev.groupArmId (g : Nat) (d : Dev) : Nat := (((d.groupUnits g).head?).map (fun u => d.rd (ACQ_U_ARM_ID u))).getD 0

/-- An ARM whose units are listed, or whose group exists. -/
theorem opArm_run (h : ¬ (bitAt (par p 24 1) 0 && decide (16 ≤ par p 25 1)) = true) : opArm.run p ref d =
    (let r := d.armListed p (if bitAt (par p 24 1) 0 then d.countArm.groupUnits (par p 25 1) else unitsOf (par p 22 2))
     (.done (armStatus r.1) (leBytes 4 d.nextArmId), if bitAt (par p 24 1) 0 then r.2.sendArm p (par p 25 1) d.nextArmId else r.2)) := if_neg h
theorem opArm_badGroup (hb : bitAt (par p 24 1) 0 = true) (hg : 16 ≤ par p 25 1) : opArm.run p ref d = (.bad stBAD_PARAMETER, d) :=
  if_pos (by simp [hb, hg])
theorem opArm_units (hb : bitAt (par p 24 1) 0 = false) : opArm.run p ref d =
    (.done (armStatus (d.armListed p (unitsOf (par p 22 2))).1) (leBytes 4 d.nextArmId), (d.armListed p (unitsOf (par p 22 2))).2) := by
  rw [opArm_run p ref d (by simp [hb]), hb]
  rfl
theorem opArm_group (hb : bitAt (par p 24 1) 0 = true) (hg : par p 25 1 < 16) : opArm.run p ref d =
    (.done (armStatus (d.armListed p (d.countArm.groupUnits (par p 25 1))).1) (leBytes 4 d.nextArmId),
      (d.armListed p (d.countArm.groupUnits (par p 25 1))).2.sendArm p (par p 25 1) d.nextArmId) := by
  rw [opArm_run p ref d (by simp [hg]), hb]
  rfl
/-- Without an arm-at time the units are armed at once. -/
theorem armListed_atOnce (us : List Nat) (h : hasFlag p 2 = false) :
    d.armListed p us = (0, d.countArm.forEach us (fun u e => e.takeArm u d.nextArmId (par p 26 2))) := by
  simp only [Dev.armListed, armAtOf, h]
  rfl

theorem opDisarm_run (h : ¬ (bitAt (par p 24 1) 0 && decide (16 ≤ par p 25 1)) = true) : opDisarm.run p ref d =
    (.done stOK [], if bitAt (par p 24 1) 0 then (d.forEach (d.groupUnits (par p 25 1)) Dev.disarm).sendDisarm (par p 25 1) (d.groupArmId (par p 25 1))
      else d.forEach (unitsOf (par p 22 2)) Dev.disarm) := by
  refine (if_neg h).trans ?_
  cases bitAt (par p 24 1) 0 <;> rfl
theorem opDisarm_badGroup (hb : bitAt (par p 24 1) 0 = true) (hg : 16 ≤ par p 25 1) : opDisarm.run p ref d = (.bad stBAD_PARAMETER, d) :=
  if_pos (by simp [hb, hg])
theorem opDisarm_units (hb : bitAt (par p 24 1) 0 = false) :
    opDisarm.run p ref d = (.done stOK [], d.forEach (unitsOf (par p 22 2)) Dev.disarm) := by
  rw [opDisarm_run p ref d (by simp [hb]), hb]
  rfl
theorem opDisarm_group (hb : bitAt (par p 24 1) 0 = true) (hg : par p 25 1 < 16) : opDisarm.run p ref d =
    (.done stOK [], (d.forEach (d.groupUnits (par p 25 1)) Dev.disarm).sendDisarm (par p 25 1) (d.groupArmId (par p 25 1))) := by
  rw [opDisarm_run p ref d (by simp [hg]), hb]
  rfl

end

/-! ## LOAD_MASK (R263, R278) -/

/-- Whether a mask table `b` is well formed as table `t`. -/
def maskFits (t : Nat) (b : List Byte) : Bool :=
  fieldAt b 0 1 == t && decide (1 ≤ fieldAt b 1 1) && decide (fieldAt b 1 1 ≤ 8) && decide (1 ≤ fieldAt b 2 2) && decide (fieldAt b 2 2 ≤ 4096) &&
    decide (fieldAt b 4 1 ≤ 1) && decide (1 ≤ fieldAt b 5 1) && (if fieldAt b 4 1 = 0 then decide (1 ≤ fieldAt b 8 4) else decide (1 ≤ fieldAt b 8 8))
/-- What LOAD_MASK refuses is what is not well formed. -/
theorem not_maskFits (t : Nat) (b : List Byte) : (decide (fieldAt b 0 1 ≠ t) || decide (fieldAt b 1 1 = 0) || decide (8 < fieldAt b 1 1) ||
    decide (fieldAt b 2 2 = 0) || decide (4096 < fieldAt b 2 2) || decide (1 < fieldAt b 4 1) || decide (fieldAt b 5 1 = 0) ||
    (if fieldAt b 4 1 = 0 then decide (fieldAt b 8 4 = 0) else decide (fieldAt b 8 8 = 0))) = !maskFits t b := by
  have zero : ∀ n : Nat, decide (1 ≤ n) = !decide (n = 0) := fun n => by rw [← decide_not, decide_eq_decide, Nat.one_le_iff_ne_zero]
  have above : ∀ m n : Nat, decide (m ≤ n) = !decide (n < m) := fun m n => by rw [← decide_not, decide_eq_decide, Nat.not_lt]
  have other : (fieldAt b 0 1 == t) = !decide (fieldAt b 0 1 ≠ t) := by
    by_cases same : fieldAt b 0 1 = t <;> simp [same]
  unfold maskFits
  rw [other]
  simp only [zero, above _ 8, above _ 4096, above _ 1, Bool.not_and, Bool.not_not]
  split <;> rw [Bool.not_not]
/-- Whether a unit that is not idle tests its samples against table `t`. -/
def Dev.maskUsed (t : Nat) (d : Dev) : Bool :=
  (List.range 16).any (fun u => d.capState u != 0 && bitAt (d.lrd (ACQ_U_CTRL u)) 20 && d.lget (ACQ_U_CTRL.MASK_TABLE u) == t)
/-- Bytes of the capture partition. -/
def Dev.captureDram (d : Dev) : Nat := (d.sys.package.map (·.dramCapture)).getD 0
/-- Mask table `t` is stored. -/
def Dev.storeMask (t : Nat) (b : List Byte) (d : Dev) : Dev :=
  { d with dram := putBytes d.dram (maskBase t) b, acq := { d.acq with masks := (d.acq.masks.filter (fun x => x != t)) ++ [t] } }

theorem contains_storeMask (t : Nat) (b : List Byte) (d : Dev) : (d.storeMask t b).acq.masks.contains t = true := by simp [Dev.storeMask]

section
variable (p : Packet) (ref : PktRef) (d : Dev)

theorem loadMask_badTable (h : 16 ≤ par p 22 1) : opLoadMask.run p ref d = (.bad stBAD_PARAMETER, d) := if_pos h

variable (ht : par p 22 1 < 16)
include ht

theorem loadMask_badLength (h : 1048576 < par p 32 4 ∨ par p 32 4 < 32) : opLoadMask.run p ref d = (.bad stBAD_LENGTH, d) :=
  (if_neg (Nat.not_le.mpr ht)).trans (if_pos (by simpa using h))

variable (hl : 32 ≤ par p 32 4) (hh : par p 32 4 ≤ 1048576)
include hl hh

theorem loadMask_busy (hu : d.maskUsed (par p 22 1) = true) : opLoadMask.run p ref d = (.bad stBUSY, d) :=
  (if_neg (Nat.not_le.mpr ht)).trans ((if_neg (by simp [hl, hh])).trans (if_pos hu))

variable (hu : d.maskUsed (par p 22 1) = false)
include hu

theorem loadMask_noRoom (hm : d.captureDram < 16777216) : opLoadMask.run p ref d = (.bad stNO_RESOURCE, d) :=
  (if_neg (Nat.not_le.mpr ht)).trans ((if_neg (by simp [hl, hh])).trans ((if_neg (Bool.eq_false_iff.mp hu)).trans (if_pos hm)))

variable (hm : 16777216 ≤ d.captureDram) {bs b : List Byte} (hb : p.host = some bs) (hp : b = padTo (par p 32 4) bs)
include hm hb hp

/-- The table that was read is stored when its length is that of its points and it is well formed. -/
theorem loadMask_reads : opLoadMask.run p ref d =
    if par p 32 4 ≠ 32 + 8 * fieldAt b 1 1 * fieldAt b 2 2 then (.bad stBAD_LENGTH, d)
    else if maskFits (par p 22 1) b then (.done stOK [], d.storeMask (par p 22 1) b) else (.bad stBAD_PARAMETER, d) := by
  subst hp
  refine (if_neg (Nat.not_le.mpr ht)).trans ((if_neg (by simp [hl, hh])).trans ((if_neg (Bool.eq_false_iff.mp hu)).trans
    ((if_neg (Nat.not_lt.mpr hm)).trans ((hostRead_ok _ _ _ _ _ hb).trans ?_))))
  dsimp only
  rw [not_maskFits]
  cases maskFits (par p 22 1) (padTo (par p 32 4) bs) <;> rfl

end

end Sys2Proof.Machine

open Sys2Proof Sys2Proof.Machine

/-- Settles O40: a command that is not taken leaves the device part as it is, and one that is taken is an equation of its command (R255 to R261, R263, R272 to
R274, R278). What a re-armed unit shows is read past its re-arming, which without a trigger writes only the shown states after the dead time (R259). NO_RESOURCE
without a capture partition, and BAD_PARAMETER and BAD_LENGTH for a faulty table, are the model's choices (log 58; R402). -/
theorem captureUnitsRunTheirStates : Obligations.CaptureUnitsRunTheirStates := by
  refine ⟨fun s u => ⟨fun h => next_of_fixed (armTime_elsewhere _ _ h), fun h => next_of_dev (armTime_waiting _ _ h)⟩,
    fun s u x h => next_of_fixed (captureSample_notDue _ _ x h), ?takes, ?pauses, fun s u h => next_of_fixed (captureTrigger_none _ _ h), ?trigger,
    fun s u h => next_of_fixed (recordCopied_none _ _ h), ?copied, fun s h => next_of_fixed (grantBuffer_none _ h),
    fun s u i r hf hu hi hr => next_of_dev (grantBuffer_grants _ hf hu hi hr), ?apply, ?config, ?arm, ?disarm, fun s p p' d' r => ⟨_, rfl, r.next rfl⟩, ?mask⟩
  case takes =>
    intro s u x hs hd hr hm
    have room : s.dev.ringFull u.val = false := by rw [Dev.ringFull, hr]; rfl
    obtain ⟨e, taken, progress⟩ := captureSample_takes _ _ x hs hd room hm
    have kept := (progress_capAdvance u.val e).trans progress
    refine ⟨_, next_of_dev (g := fun _ => _) taken, congrArg Prod.fst kept, congrArg (fun c => c.2.1) kept, congrArg (fun c => c.2.2) kept⟩
  case pauses =>
    rintro s u x _ rfl hs hd h
    exact next_of_dev (captureSample_pauses _ _ x hs hd h)
  case trigger =>
    rintro s u t0 st rest _ ho rfl
    have offered := captureTrigger_offered u.val s.dev ho
    exact ⟨fun h hg => next_of_dev (offered.trans (capTrigger_alone _ _ _ _ _ _ _ h hg)),
      fun g h hg => next_of_dev (offered.trans (capTrigger_group _ _ _ _ _ _ h hg)),
      fun h hp => next_of_dev (offered.trans (capTrigger_partial _ _ _ _ _ _ _ h hp)),
      fun h hp => next_of_dev (offered.trans (capTrigger_filling _ _ _ _ _ _ _ h hp)),
      fun h => next_of_dev (offered.trans (capTrigger_lost _ _ _ _ _ _ _ h)), fun h => next_of_dev (offered.trans (capTrigger_idle _ _ _ _ _ _ _ h))⟩
  case copied =>
    rintro s u _ i _ rfl hi rfl
    exact ⟨fun h => next_of_dev (recordCopied_leaves _ _ hi h), fun hs hl ha hr => ⟨_, rfl, recordCopied_rearms _ _ hi hs hl ha hr⟩,
      fun hs hl h => ⟨_, rfl, recordCopied_ends _ _ hi hs hl h⟩⟩
  case apply =>
    intro s u
    have mask := congrArg s.dev.acqApply (toNat_outputMask u)
    refine ⟨fun h => next_of_fixed (mask.trans (acqApply_waiting _ _ u.isLt h)), fun hw h => next_of_dev (mask.trans (acqApply_refused _ _ u.isLt hw h)),
      fun hw hs hr => ⟨_, next_of_dev (g := fun d => (d.acqAccepted u.val).holdCapture u.val none) (mask.trans (acqApply_captured _ _ u.isLt hw hs hr)),
        commitWaits_holdCommit _ _ _ _, apply_holdCapture _ _ u.isLt none, ?_⟩⟩
    rw [State.onDev_dev, refused_holdCapture, refused_acqAccepted]
  case config =>
    rintro s p p' d' _ _ _ r rfl rfl rfl
    exact ⟨fun h => r.next (congrArg _ (configCapture_badUnit _ _ _ h)), fun hu h => r.next (congrArg _ (configCapture_busy _ _ _ hu h)),
      fun hu hs hw h => r.next (congrArg _ (configCapture_waits _ _ _ hu hs hw h)),
      fun x hu hs hw h => r.next (congrArg _ (configCapture_breaksRule _ _ _ hu hs hw h))⟩
  case arm =>
    rintro s p p' d' _ _ _ _ r rfl rfl rfl rfl
    refine ⟨fun hb hg => r.next (congrArg _ (opArm_badGroup _ _ _ hb hg)), fun hb ha => ⟨_, rfl, r.next ?_⟩, ?_, ?_⟩
    · rw [opArm_units _ _ _ hb, armListed_atOnce _ _ _ ha]
      rfl
    · rintro _ hb rfl
      exact r.next (congrArg _ (opArm_units _ _ _ hb))
    · rintro _ _ _ _ _ _ hb rfl hg rfl rfl rfl rfl rfl
      exact r.next (congrArg _ (opArm_group _ _ _ hb hg))
  case disarm =>
    intro s p p' d' r
    refine ⟨fun hb hg => r.next (congrArg _ (opDisarm_badGroup _ _ _ hb hg)), fun hb => ⟨_, rfl, r.next (congrArg _ (opDisarm_units _ _ _ hb))⟩, ?_⟩
    rintro _ _ _ _ _ _ _ hb rfl hg rfl rfl rfl rfl rfl rfl
    exact r.next (congrArg _ (opDisarm_group _ _ _ hb hg))
  case mask =>
    rintro s p p' d' _ _ _ r rfl rfl rfl
    refine ⟨fun h => r.next (congrArg _ (loadMask_badTable _ _ _ h)), fun ht h => r.next (congrArg _ (loadMask_badLength _ _ _ ht h)),
      fun ht hl hh hu => r.next (congrArg _ (loadMask_busy _ _ _ ht hl hh hu)),
      fun ht hl hh hu hm => r.next (congrArg _ (loadMask_noRoom _ _ _ ht hl hh hu hm)), ?_, ?_⟩
    · rintro bs b _ ht hl hh hu hm hb hp hn rfl
      have reads := loadMask_reads p' (refOf p s.dev) d' ht hl hh hu hm hb hp
      rw [if_neg (not_not.mpr hn)] at reads
      refine ⟨fun hf => ?_, fun hf => r.next (congrArg _ (reads.trans (if_neg (Bool.eq_false_iff.mp hf))))⟩
      have same := rest_complete (refOf p s.dev) stOK d'.now [] (d'.storeMask (par p' 22 1) b)
      refine ⟨_, r.next (congrArg _ (reads.trans (if_pos hf))), congrArg Dev.Rest.dram same, ?_⟩
      exact (congrArg (fun r : Dev.Rest => r.acq.masks.contains (par p' 22 1)) same).trans (contains_storeMask _ b d')
    · intro bs b ht hl hh hu hm hb hp hn
      exact r.next (congrArg _ ((loadMask_reads p' _ d' ht hl hh hu hm hb hp).trans (if_pos hn)))

end

section
/-! PROOFS. What commands leave of the fuses, the backup domain and the queue (R441, R447, R493, R498, R499), and O1, O3, O5, O6, O7, O60. -/
namespace Sys2Proof.Machine

/-! ## Commands that act on the device part alone -/

/-- State `t` has the fuses, the backup domain and the queue of `s`. -/
def State.sameBeside (s t : State) : Prop := t.fuses = s.fuses ∧ t.backup = s.backup ∧ t.pending = s.pending

theorem sameBeside_refl (s : State) : s.sameBeside s := ⟨rfl, rfl, rfl⟩
theorem sameBeside_onDev (f : Dev → Dev) (s : State) : s.sameBeside (s.onDev f) := ⟨rfl, rfl, rfl⟩
theorem sameBeside_ite {b : Prop} [Decidable b] {s t u : State} (ht : s.sameBeside t) (hu : s.sameBeside u) : s.sameBeside (if b then t else u) := by
  split <;> assumption
theorem dmaDescriptorComplete_sameBeside {n : Fin 16} {ext : HostRead} {s t : State} (h : execDmaDescriptorComplete n ext s = .next t) :
    s.sameBeside t := by
  unfold execDmaDescriptorComplete at h
  dsimp only at h
  split at h
  · exact Host.Outcome.next.inj h ▸ sameBeside_refl s
  split at h
  · exact Host.Outcome.next.inj h ▸ sameBeside_refl s
  split at h
  · cases h
  split at h <;> exact Host.Outcome.next.inj h ▸ sameBeside_onDev _ s
theorem dmaFault_sameBeside {n : Fin 16} {ext : List Byte} {s t : State} (h : execDmaFault n ext s = .next t) : s.sameBeside t := by
  unfold execDmaFault at h
  dsimp only at h
  split at h
  · exact Host.Outcome.next.inj h ▸ sameBeside_refl s
  split at h
  · exact Host.Outcome.next.inj h ▸ sameBeside_refl s
  split at h
  · exact Host.Outcome.next.inj h ▸ sameBeside_refl s
  split at h
  · cases h
  · exact Host.Outcome.next.inj h ▸ sameBeside_onDev _ s

/-- Every command but BOOT_COMPLETE and those that may write the backup domain. -/
def onDevice : Instr → Bool
  | .bootComplete _ _ _ _ _ _ _ _ _ _ => false
  | c => !backupCommand c
/-- These commands act on the device part alone. -/
theorem exec_sameBeside {c : Instr} {s t : State} (hc : onDevice c = true) (h : exec c s = .next t) : s.sameBeside t := by
  cases c
  case mainSupplyLoss | backupPor | mainPor | brownOut | resetN | watchdogExpiry | securityViolation | pcieHotReset | debugReset | pllUnlock
      | resetRelease | rtcInvalid | wholeSecondTick | installFirmware | clearTally | packetFetch | taskDispatch | scheduledPacketDue | cycleBoundary
      | msLogClose | bootComplete => exact Bool.noConfusion hc
  case dmaDescriptorComplete => exact dmaDescriptorComplete_sameBeside h
  case dmaFault => exact dmaFault_sameBeside h
  case mainSuppliesValid => exact Host.Outcome.next.inj h ▸ sameBeside_ite (sameBeside_onDev _ _) (sameBeside_refl _)
  case hostHeartbeatLapse => exact Host.Outcome.next.inj h ▸ sameBeside_ite (sameBeside_refl _) (sameBeside_onDev _ _)
  case pcieLinkTrained => exact Host.Outcome.next.inj h ▸ sameBeside_ite (sameBeside_refl _) (sameBeside_onDev _ _)
  all_goals exact Host.Outcome.next.inj h ▸ sameBeside_onDev _ _

/-! ## The boot: the fuses may only be blown (R441, R447) -/

theorem onlyBlown_refl (f : Fuses) : f.onlyBlown f := ⟨fun _ => id, id, id, id, fun _ _ => id⟩
/-- The anti-rollback field only gains bits. -/
theorem onlyBlown_advance (f : Fuses) (up : Bool) (m : Nat) : f.onlyBlown (if up = true then { f with arb := Nat.lor f.arb m } else f) := by
  cases up with
  | false => exact onlyBlown_refl f
  | true => exact ⟨fun i h => by rw [if_pos rfl, testBit_lor, h, Bool.true_or], id, id, id, fun _ _ => id⟩

/-- The boot keeps the backup domain and the queue, and advances the anti-rollback counter at most. -/
theorem boot_keeps (aOk bOk : Bool) (bad : Option Nat) (torn outBad copyBad r1 r2 : Nat) (tasks : List FwTask) (classes : List (Fin 4)) (s : State) :
    (s.boot aOk bOk bad torn outBad copyBad r1 r2 tasks classes).backup = s.backup ∧
      (s.boot aOk bOk bad torn outBad copyBad r1 r2 tasks classes).pending = s.pending ∧
      s.fuses.onlyBlown (s.boot aOk bOk bad torn outBad copyBad r1 r2 tasks classes).fuses := by
  unfold State.boot
  split
  · exact ⟨rfl, rfl, onlyBlown_refl _⟩
  extract_lets d src d1
  split
  · exact ⟨rfl, rfl, onlyBlown_refl _⟩
  split
  · exact ⟨rfl, rfl, onlyBlown_refl _⟩
  split
  · exact ⟨rfl, rfl, onlyBlown_refl _⟩
  extract_lets d2 d3 d4
  split
  · exact ⟨rfl, rfl, onlyBlown_refl _⟩
  exact ⟨rfl, rfl, onlyBlown_advance _ _ _⟩

/-! ## The commands that may write the backup domain -/

/-- State `t` has the fuses and the queue of `s`, and its backup domain is in range when that of `s` is. -/
def State.keepsRange (s t : State) : Prop := t.fuses = s.fuses ∧ t.pending = s.pending ∧ (s.backup.inRange → t.backup.inRange)

theorem keepsRange_refl (s : State) : s.keepsRange s := ⟨rfl, rfl, id⟩
theorem keepsRange_of_sameBeside {s t : State} (h : s.sameBeside t) : s.keepsRange t := by
  obtain ⟨fuses, backup, pending⟩ := h
  exact ⟨fuses, pending, fun r => backup ▸ r⟩
theorem keepsRange_onDev (f : Dev → Dev) (s : State) : s.keepsRange (s.onDev f) := keepsRange_of_sameBeside (sameBeside_onDev f s)
theorem keepsRange_ite {b : Prop} [Decidable b] {s t u : State} (ht : s.keepsRange t) (hu : s.keepsRange u) : s.keepsRange (if b then t else u) := by
  split <;> assumption
theorem keepsRange_assertReset (src detail m : Nat) (s : State) : s.keepsRange (s.assertReset src detail m) :=
  ⟨assertReset_fuses _ _ _ _, assertReset_pending _ _ _ _, assertReset_inRange _ _ _ _⟩
theorem keepsRange_powered (src detail m : Nat) (s : State) : s.keepsRange (s.powered (State.assertReset src detail m)) :=
  keepsRange_ite (keepsRange_refl s) (keepsRange_assertReset _ _ _ s)
theorem keepsRange_takeReset (s : State) : s.keepsRange s.takeReset := ⟨takeReset_fuses s, takeReset_pending s, takeReset_inRange s⟩
/-- The release from reset stores a clock reading that is cut to its bits, and counts nothing (R493). -/
theorem keepsRange_release (straps vmon levels refs passed sec sub : Nat) (s : State) :
    s.keepsRange (s.release straps vmon levels refs passed sec sub) := by
  unfold State.release
  refine keepsRange_ite (keepsRange_refl s) ⟨rfl, rfl, ?_⟩
  rintro ⟨length, counters, seconds, ticks⟩
  have sec_lt : sec % 2 ^ 48 < 2 ^ 48 := Nat.mod_lt _ (by norm_num)
  have sub_lt : sub % 32768 < 2 ^ 15 := Nat.mod_lt _ (by norm_num)
  dsimp only
  split
  · exact ⟨length, counters, sec_lt, sub_lt⟩
  · exact ⟨length, counters, seconds, ticks⟩
theorem keepsRange_wholeSecondTick (s : State) : s.keepsRange (wholeSecondTick s) := by
  refine keepsRange_ite ⟨rfl, rfl, ?_⟩ ⟨rfl, rfl, id⟩
  rintro ⟨length, counters, -, -⟩
  exact ⟨length, counters, Nat.mod_lt _ (by norm_num), by norm_num⟩
/-- The power-on reset of the domain leaves counter 0 at 1 and the clock at 0 (R494, R498). -/
theorem keepsRange_backupPor (s : State) : s.keepsRange s.backupPor :=
  ⟨rfl, rfl, fun _ => show Backup.inRange ⟨1 :: List.replicate 8 0, _, _, 0, 0⟩ from ⟨rfl, by decide, by decide, by decide⟩⟩
theorem keepsRange_resetPin (low : Bool) (s : State) : s.keepsRange (s.resetPin low) :=
  keepsRange_ite (keepsRange_refl s) (keepsRange_ite (keepsRange_assertReset _ _ _ (s.onDev _)) (keepsRange_onDev _ s))
theorem keepsRange_pllUnlock (i : Nat) (s : State) : s.keepsRange (s.pllUnlock i) :=
  keepsRange_ite (keepsRange_ite (keepsRange_assertReset _ _ _ s) (keepsRange_refl s)) (keepsRange_onDev _ s)
theorem keepsRange_hotReset (s : State) : s.keepsRange s.hotReset :=
  keepsRange_ite (keepsRange_refl s) (keepsRange_ite (keepsRange_assertReset _ _ _ s) (keepsRange_onDev _ s))
theorem keepsRange_debugReset (s : State) : s.keepsRange s.debugReset := keepsRange_ite (keepsRange_assertReset _ _ _ s) (keepsRange_refl s)
/-- An empty queue's step ticks, and takes a reset that is due. -/
theorem keepsRange_idle (s : State) : s.keepsRange s.idle := keepsRange_ite (keepsRange_takeReset (s.onDev _)) (keepsRange_refl s)

/-- The commands that may write fuses: BOOT_COMPLETE and those at whose end an installation's fuses are taken (R441). -/
def mayBlow : Instr → Bool
  | .bootComplete _ _ _ _ _ _ _ _ _ _ | .installFirmware _ | .clearTally _ | .packetFetch _ _ | .taskDispatch _ _ | .scheduledPacketDue => true
  | _ => false
/-- Every other command keeps the fuses, the queue and the range of the backup domain. -/
theorem exec_keepsRange {c : Instr} {s t : State} (hc : mayBlow c = false) (h : exec c s = .next t) : s.keepsRange t := by
  cases c
  case bootComplete | installFirmware | clearTally | packetFetch | taskDispatch | scheduledPacketDue => exact Bool.noConfusion hc
  case mainSupplyLoss | brownOut | securityViolation => exact Host.Outcome.next.inj h ▸ keepsRange_powered _ _ _ s
  case mainPor => exact Host.Outcome.next.inj h ▸ keepsRange_assertReset _ _ _ s
  case watchdogExpiry => exact Host.Outcome.next.inj h ▸ keepsRange_ite (keepsRange_assertReset _ _ _ s) (keepsRange_refl s)
  case backupPor => exact Host.Outcome.next.inj h ▸ keepsRange_backupPor s
  case resetN => exact Host.Outcome.next.inj h ▸ keepsRange_resetPin _ s
  case pcieHotReset => exact Host.Outcome.next.inj h ▸ keepsRange_hotReset s
  case debugReset => exact Host.Outcome.next.inj h ▸ keepsRange_debugReset s
  case pllUnlock => exact Host.Outcome.next.inj h ▸ keepsRange_pllUnlock _ s
  case resetRelease => exact Host.Outcome.next.inj h ▸ keepsRange_release _ _ _ _ _ _ _ s
  case rtcInvalid => exact Host.Outcome.next.inj h ▸ keepsRange_ite (keepsRange_refl s) ⟨rfl, rfl, id⟩
  case wholeSecondTick => exact Host.Outcome.next.inj h ▸ keepsRange_wholeSecondTick s
  case cycleBoundary | msLogClose => exact Host.Outcome.next.inj h ▸ keepsRange_takeReset (s.onDev _)
  all_goals exact keepsRange_of_sameBeside (exec_sameBeside rfl h)

/-! ## The end of a packet -/

theorem settle_inRange (s : State) (h : s.backup.inRange) : s.settle.backup.inRange := by
  refine takeReset_inRange _ ?_
  dsimp only
  split
  · exact clearTally_inRange _ _ h
  · exact h
/-- Whatever command runs, the queue is kept and the backup domain stays in range. -/
theorem exec_pending_inRange {c : Instr} {s t : State} (h : exec c s = .next t) : t.pending = s.pending ∧ (s.backup.inRange → t.backup.inRange) := by
  cases c
  case bootComplete =>
    obtain ⟨backup, pending, -⟩ := boot_keeps _ _ _ _ _ _ _ _ _ _ s
    exact Host.Outcome.next.inj h ▸ ⟨pending, fun r => backup ▸ r⟩
  case installFirmware | clearTally | packetFetch | taskDispatch | scheduledPacketDue =>
    exact Host.Outcome.next.inj h ▸ ⟨settle_pending (s.onDev _), settle_inRange (s.onDev _)⟩
  all_goals exact (exec_keepsRange rfl h).2

end Sys2Proof.Machine

open Sys2Proof Sys2Proof.Machine

/-- Settles O1: the step takes the front command from the queue. -/
theorem stepRunsFrontCommand : Obligations.StepRunsFrontCommand := by
  intro c cs s h
  unfold step
  rw [h]

/-- Settles O3, by what a command makes of the queue. -/
theorem queueIsKept : Obligations.QueueIsKept := fun _ _ _ h => (exec_pending_inRange h).1

/-- Settles O5: the front command, or the tick of an empty queue, keeps the range (R493, R498). -/
theorem backupDomainKeepsItsRange : Obligations.BackupDomainKeepsItsRange := by
  intro s t range h
  cases queue : s.pending with
  | nil =>
    rw [step, queue] at h
    exact Host.Outcome.next.inj h ▸ (keepsRange_idle s).2.2 range
  | cons c cs =>
    rw [stepRunsFrontCommand c cs s queue] at h
    exact (exec_pending_inRange h).2 range

/-- Settles O6: nine counters at 0, and the clock at 0. -/
theorem resetStateBackupInRange : Obligations.ResetStateBackupInRange := ⟨rfl, by decide, by decide, by decide⟩

/-- Settles O7: only the boot writes a fuse, and it gains bits of the anti-rollback field at most (R441, R447). -/
theorem fusesAreOnlyBlown : Obligations.FusesAreOnlyBlown := by
  intro c s t hi hf hd hs hk h
  cases c
  case installFirmware => exact absurd rfl (hi _)
  case packetFetch => exact absurd rfl (hf _ _)
  case taskDispatch => exact absurd rfl (hd _ _)
  case scheduledPacketDue => exact absurd rfl hs
  case clearTally => exact absurd rfl (hk _)
  case bootComplete =>
    obtain ⟨-, -, blown⟩ := boot_keeps _ _ _ _ _ _ _ _ _ _ s
    exact ⟨Host.Outcome.next.inj h ▸ blown, fun hb => absurd rfl (hb _ _ _ _ _ _ _ _ _ _)⟩
  all_goals
    have fuses := (exec_keepsRange rfl h).1
    exact ⟨fuses ▸ onlyBlown_refl _, fun _ => fuses⟩

/-- Settles O60: the boot keeps the backup domain, and every other command that is not listed acts on the device part alone. -/
theorem backupDomainChangesOnlyByItsCommands : Obligations.BackupDomainChangesOnlyByItsCommands := by
  intro c s t hb h
  cases c
  case bootComplete => exact Host.Outcome.next.inj h ▸ (boot_keeps _ _ _ _ _ _ _ _ _ _ s).1
  case mainSupplyLoss | backupPor | mainPor | brownOut | resetN | watchdogExpiry | securityViolation | pcieHotReset | debugReset | pllUnlock
      | resetRelease | rtcInvalid | wholeSecondTick | installFirmware | clearTally | packetFetch | taskDispatch | scheduledPacketDue | cycleBoundary
      | msLogClose => exact Bool.noConfusion hb
  all_goals exact (exec_sameBeside rfl h).2.1

end

section
/-! PROOFS. The reset sources and the tally (R489, R492 to R498), and O11, O12. -/
namespace Sys2Proof.Machine

/-! ## A reset by one source -/

/-- A command that comes to a reset, after which reset pins are still asserted as `as` says, resets the part (R494, R498). -/
theorem resetsBy_of_asserts {c : Instr} {s : State} {src detail m : Nat} (as : List Nat) (hm : m < 16)
    (h : exec c s = .next ((s.onDev (fun d => { d with sys := { d.sys with asserted := as } })).assertReset src detail m)) : ResetsBy c s src detail m := by
  refine ⟨_, h, assertReset_fuses _ _ _ _, ?_, fun a ha => ?_, assertReset_counters _ _ _ _, assertReset_cause _ _ _ _, ?_⟩
  · rw [assertReset_dev, cleared_mode _ _ hm]
  · rw [assertReset_dev, cleared_rd _ _ _ ha]
  · rw [assertReset_dev]
    exact ⟨rfl, rfl, rfl, rfl, rfl, rfl, rfl, rfl⟩
theorem resetsBy_of_reset {c : Instr} {s : State} {src detail m : Nat} (hm : m < 16) (h : exec c s = .next (s.assertReset src detail m)) :
    ResetsBy c s src detail m := resetsBy_of_asserts s.dev.sys.asserted hm h

/-! ## The sources, asserted and not -/

theorem powered_on (f : State → State) {s : State} (h : s.dev.mode ≠ 0) : s.powered f = f s := if_neg h
theorem powered_off (f : State → State) {s : State} (h : s.dev.mode = 0) : s.powered f = s := if_pos h
theorem resetPin_off (low : Bool) {s : State} (h : s.dev.mode = 0) : s.resetPin low = s := if_pos h
theorem resetPin_low {s : State} (h : s.dev.mode ≠ 0) :
    s.resetPin true = (s.onDev (fun d => { d with sys := { d.sys with asserted := [3] } })).assertReset 3 0 1 := (if_neg h).trans (if_pos rfl)
theorem watchdog_runs {s : State} (h : 2 ≤ s.dev.mode) : exec .watchdogExpiry s = .next (s.assertReset 4 0 1) := congrArg Host.Outcome.next (if_pos h)
theorem watchdog_stands {s : State} (h : s.dev.mode < 2) : exec .watchdogExpiry s = .next s := congrArg Host.Outcome.next (if_neg (Nat.not_le.mpr h))
/-- PLL_SYS and PLL_TIME, numbers 0 and 3, reset the part when they lose lock (R492). -/
theorem pllUnlock_clock {s : State} {i : Nat} (hi : i = 0 ∨ i = 3) :
    s.pllUnlock i = if bitAt (s.dev.get CLK_PLL.RUNNING) i then s.assertReset 4 1 1 else s := if_pos (by simpa using hi)
theorem pllUnlock_other {s : State} {i : Nat} (h0 : i ≠ 0) (h3 : i ≠ 3) : s.pllUnlock i = s.onDev (Dev.pllLost i) := if_neg (by simp [h0, h3])
theorem hotReset_absent {s : State} (h : s.dev.ready = false) : s.hotReset = s := if_pos (by rw [h]; rfl)
theorem hotReset_resets {s : State} (hr : s.dev.ready = true) (h : s.dev.on RST_CTRL.HOT_ACTION = true) : s.hotReset = s.assertReset 7 0 1 :=
  (if_neg (by simp [hr])).trans (if_pos h)
theorem debugReset_open {s : State} (hm : 2 ≤ s.dev.mode) (h : s.fuses.debugLock = false ∨ s.dev.sec.scopes ≠ []) :
    s.debugReset = s.assertReset 8 0 1 := if_pos (by simpa [hm] using h)
theorem debugReset_closed {s : State} (h : s.dev.mode < 2 ∨ (s.fuses.debugLock = true ∧ s.dev.sec.scopes = [])) : s.debugReset = s := by
  refine if_neg ?_
  rcases h with h | ⟨h1, h2⟩
  · simp [Nat.not_le.mpr h]
  · simp [h1, h2]

/-! ## The tally, counter by counter (R498) -/

theorem bumpTally_getD (src k : Nat) (cs : List Nat) (h : k < cs.length) :
    (bumpTally src cs).getD k 0 = if k = src then min (cs.getD k 0 + 1) 0xFFFF else cs.getD k 0 := by
  have hk : k < (bumpTally src cs).length := by rwa [bumpTally_length]
  rw [List.getD_eq_getElem _ _ hk, List.getD_eq_getElem _ _ h]
  simp [bumpTally, satAdd]

end Sys2Proof.Machine

open Sys2Proof Sys2Proof.Machine

/-- Settles O11: each source that asserts comes to `State.assertReset`, and one that cannot assert leaves the state as it is (R489, R492, R494 to R497). -/
theorem resetSourcesResetThePart : Obligations.ResetSourcesResetThePart := by
  refine ⟨fun s h => resetsBy_of_reset (by decide) (congrArg Host.Outcome.next (powered_on _ h)), fun s => resetsBy_of_reset (by decide) rfl,
    fun s h => resetsBy_of_reset (by decide) (congrArg Host.Outcome.next (powered_on _ h)),
    fun s h => resetsBy_of_asserts [3] (by decide) (congrArg Host.Outcome.next (resetPin_low h)),
    fun s h => resetsBy_of_reset (by decide) (watchdog_runs h),
    fun s code h => resetsBy_of_reset (by decide) (congrArg Host.Outcome.next (powered_on _ h)),
    fun s i hi h => resetsBy_of_reset (by decide) (congrArg Host.Outcome.next ((pllUnlock_clock hi).trans (if_pos h))),
    fun s hr h => resetsBy_of_reset (by decide) (congrArg Host.Outcome.next (hotReset_resets hr h)),
    fun s hm h => resetsBy_of_reset (by decide) (congrArg Host.Outcome.next (debugReset_open hm h)), fun s low code h => ?_, fun s h => watchdog_stands h,
    fun s i hi h => congrArg Host.Outcome.next ((pllUnlock_clock hi).trans (if_neg (by simp [h]))),
    fun s h => congrArg Host.Outcome.next (hotReset_absent h), fun s h => congrArg Host.Outcome.next (debugReset_closed h)⟩
  exact ⟨congrArg Host.Outcome.next (powered_off _ h), congrArg Host.Outcome.next (powered_off _ h), congrArg Host.Outcome.next (resetPin_off low h),
    congrArg Host.Outcome.next (powered_off _ h)⟩

/-- Settles O12: the counter of the source counts and saturates, the others stay (R494, R498, R500). -/
theorem tallyCountsAndClears : Obligations.TallyCountsAndClears := by
  refine ⟨fun s src detail m k hk => ⟨?_, assertReset_cause _ _ _ _⟩, fun s => ⟨_, rfl, rfl, rfl, rfl, rfl, rfl, cleared_mode _ _ (by decide)⟩, fun s h => ?_⟩
  · rw [assertReset_counters, bumpTally_getD _ _ _ hk]
  · exact resetsBy_of_reset (by decide) (congrArg Host.Outcome.next (powered_on _ (by omega)))

end

section
/-! PROOFS. Supplies, references, the die's temperature and the multi-function pins (R488 to R493, R517, R518, R526, R531), and O15, O16. -/
namespace Sys2Proof.Machine

/-! ## Supplies (R488, R489) -/

/-- RST_VMON with the bit of one rail written. -/
def Dev.rail (b : Nat) (ok : Bool) (d : Dev) : Dev := d.wr RST_VMON (withBits (d.rd RST_VMON) b b (flag ok))

theorem supplyWarn_safety (b : Nat) (ok high : Bool) (d : Dev) (hm : 2 ≤ d.mode) (h2 : 2 ≤ b) (h4 : b ≤ 4) :
    Dev.supplyWarn b ok high d = (d.rail b ok).when (!ok) (Dev.failChannel (b - 2) 1) :=
  (if_neg (Nat.not_lt.mpr hm)).trans (if_pos (by simp [h2, h4]))
/-- Outside the safety rails a change of a rail that is watched is shown and posted; a bank also shows its power. -/
theorem supplyWarn_watched (b : Nat) (ok high : Bool) (d : Dev) (hm : 2 ≤ d.mode) (hb : (5 ≤ b ∧ b ≤ 7) ∨ (9 ≤ b ∧ b ≤ 15))
    (h : bitAt (d.rd RST_VMON) b ≠ ok) (e : Dev) (he : e = (d.rail b ok).post 0x0010 0x0016 (leBytes 1 b ++ leBytes 1 (flag ok))) :
    Dev.supplyWarn b ok high d = if b < 8 then e else (e.set (PIN_BANK.POWERED (b - 8)) (flag ok)).when ok (Dev.set (PIN_BANK.LEVEL (b - 8)) (flag high)) := by
  have watched : [5, 6, 7, 9, 10, 11, 12, 13, 14, 15].contains b = true := by
    simp only [List.contains_eq_mem, List.mem_cons, List.not_mem_nil, decide_eq_true_eq]; omega
  subst he
  exact (if_neg (Nat.not_lt.mpr hm)).trans ((if_neg (by simp only [Bool.and_eq_true, decide_eq_true_eq]; omega)).trans (if_pos (by simp only [watched, Bool.true_and, bne_iff_ne]; exact h)))
theorem supplyWarn_fixed (b : Nat) (ok high : Bool) (d : Dev) (h : d.mode < 2 ∨ b < 2 ∨ b = 8 ∨ (5 ≤ b ∧ bitAt (d.rd RST_VMON) b = ok)) :
    Dev.supplyWarn b ok high d = d := by
  unfold Dev.supplyWarn
  split
  · rfl
  · rename_i hm
    have unguarded : (2 ≤ b && b ≤ 4) = false := by
      simp only [Bool.and_eq_false_iff, decide_eq_false_iff_not]; omega
    have seen : ([5, 6, 7, 9, 10, 11, 12, 13, 14, 15].contains b && bitAt (d.rd RST_VMON) b != ok) = false := by
      rcases h with h | h | h | ⟨-, h⟩
      · exact absurd h hm
      · interval_cases b <;> rfl
      · subst h; rfl
      · simp [h]
    simp only [unguarded, seen, Bool.false_eq_true, if_false]
theorem vbatLow_falls (mv : Nat) (d : Dev) (hm : 2 ≤ d.mode) (ho : d.on RST_VMON.VBAT_OK = true) (h : mv < 2400) :
    Dev.vbatLow mv d = (d.set RST_VMON.VBAT_OK 0).post 0x0010 0x0013 (leBytes 2 mv) :=
  if_neg (by simp [ho, Nat.not_lt.mpr hm, Nat.not_le.mpr h])
theorem vbatLow_fixed (mv : Nat) (d : Dev) (h : d.mode < 2 ∨ d.on RST_VMON.VBAT_OK = false ∨ 2400 ≤ mv) : Dev.vbatLow mv d = d :=
  if_pos (by simpa [or_assoc] using h)
theorem vbatBack_rises (mv : Nat) (d : Dev) (hm : 2 ≤ d.mode) (h : 2400 ≤ mv) : Dev.vbatBack mv d = d.set RST_VMON.VBAT_OK 1 :=
  if_neg (by simp [Nat.not_lt.mpr hm, Nat.not_lt.mpr h])
theorem vbatBack_fixed (mv : Nat) (d : Dev) (h : d.mode < 2 ∨ mv < 2400) : Dev.vbatBack mv d = d := if_pos (by simpa using h)

/-! ## PLLs and references (R491, R492) -/

theorem pllLost_locked (i : Nat) (d : Dev) (h : bitAt (d.get CLK_PLL.LOCKED) i = true) : Dev.pllLost i d =
    ((d.set CLK_PLL.LOCKED (withBits (d.get CLK_PLL.LOCKED) i i 0)).count32 CLK_UNLOCK_CNT 1).post 0x0010 0x0015 (leBytes 1 i) := if_neg (by simp [h])
theorem pllLost_fixed (i : Nat) (d : Dev) (h : bitAt (d.get CLK_PLL.LOCKED) i = false) : Dev.pllLost i d = d := if_pos (by simp [h])
theorem pllLocked_running (i : Nat) (d : Dev) (h : bitAt (d.get CLK_PLL.RUNNING) i = true) :
    Dev.pllLocked i d = d.set CLK_PLL.LOCKED (withBits (d.get CLK_PLL.LOCKED) i i 1) := if_pos h
theorem pllLocked_fixed (i : Nat) (d : Dev) (h : bitAt (d.get CLK_PLL.RUNNING) i = false) : Dev.pllLocked i d = d := if_neg (by simp [h])
theorem refclk_changes (pex ok : Bool) (d : Dev) (b : Nat) (hb : b = if pex then 3 else 2) (hm : 2 ≤ d.mode) (h : bitAt (d.rd CLK_REFMON) b ≠ ok) :
    Dev.refclk pex ok d =
      (d.wr CLK_REFMON (withBits (d.rd CLK_REFMON) b b (flag ok))).post 0x0010 0x0017 (leBytes 1 b ++ leBytes 1 (flag (!ok))) := by
  subst hb
  exact if_neg (by simpa [Nat.not_lt.mpr hm] using h)
theorem refclk_fixed (pex ok : Bool) (d : Dev) (h : d.mode < 2 ∨ bitAt (d.rd CLK_REFMON) (if pex then 3 else 2) = ok) : Dev.refclk pex ok d = d :=
  if_pos (by simpa using h)
theorem rtcInvalid_fixed (s : State) (h : s.dev.mode < 2 ∨ s.dev.on CLK_REFMON.X32_OK = false) : exec .rtcInvalid s = .next s :=
  congrArg Host.Outcome.next (if_pos (by simpa using h))
/-- An X32 fault makes the real-time clock invalid and shows it (R493). -/
theorem rtcInvalid_faults (s : State) (hm : 2 ≤ s.dev.mode) (h : s.dev.on CLK_REFMON.X32_OK = true) : exec .rtcInvalid s = .next { s with
    backup := { s.backup with rtcValid := false }
    dev := ((s.dev.set CLK_REFMON.X32_OK 0).set RST_RTC_SUB.VALID 0).post 0x0010 0x0014 (leBytes 1 1) } :=
  congrArg Host.Outcome.next (if_neg (by simp [h, Nat.not_lt.mpr hm]))

/-! ## The die's temperature (R531) -/

/-- What a sample does at the warning threshold: the alert and its event at a crossing, and again 5 °C below it. -/
def Dev.tempWarning (x warn : Int) (d : Dev) : Dev :=
  if d.sys.tempWarn = false ∧ warn < x then
    (({ d with sys := { d.sys with tempWarn := true } } : Dev).emit (.pin "SMB_ALERT_N" 0 false)).post 0x0010 0x0018 (leBytes 2 (codeOf 16 x) ++ leBytes 1 0)
  else if d.sys.tempWarn = true ∧ x < warn - 80 then
    (({ d with sys := { d.sys with tempWarn := false } } : Dev).emit (.pin "SMB_ALERT_N" 0 true)).post 0x0010 0x0018 (leBytes 2 (codeOf 16 x) ++ leBytes 1 1)
  else d
/-- What a sample does at the high threshold. -/
def Dev.tempHighCheck (x high : Int) (d : Dev) : Dev :=
  if d.sys.tempHigh = false ∧ high < x then
    ({ d with sys := { d.sys with tempHigh := true } } : Dev).post 0x0010 0x0019 (leBytes 2 (codeOf 16 x) ++ leBytes 1 0)
  else if d.sys.tempHigh = true ∧ x < high - 80 then
    ({ d with sys := { d.sys with tempHigh := false } } : Dev).post 0x0010 0x0019 (leBytes 2 (codeOf 16 x) ++ leBytes 1 1)
  else d
/-- A sample is taken and passes both thresholds. -/
theorem tempSample_taken (x : Int) (d d1 : Dev) (hm : 2 ≤ d.mode) (h1 : d1 = Dev.calTemperature { d with sys := { d.sys with temp := x } }) :
    Dev.tempSample x d = (d1.tempWarning x d1.tempLimits.1).tempHighCheck x d1.tempLimits.2 := by
  subst h1
  refine (if_neg (Nat.not_lt.mpr hm)).trans ?_
  simp only [Dev.tempHighCheck, Dev.tempWarning, Bool.and_eq_true, Bool.not_eq_true', decide_eq_true_eq]
  rfl
theorem tempSample_fixed (x : Int) (d : Dev) (h : d.mode < 2) : Dev.tempSample x d = d := if_pos h

/-! ## The multi-function pins (R517, R518, R526) -/

/-- The three fields of PIN_MFP_n and the pin's bit of PIN_MFP_OUT as a write leaves them. -/
def Dev.mfpStored (n v : Nat) (d : Dev) : Dev :=
  let d := ((d.set (PIN_MFP.FUNC n) (bitsOf v 3 0)).set (PIN_MFP.OUT n) (bitsOf v 5 5)).set (PIN_MFP.PULL n) (bitsOf v 7 7)
  d.wr PIN_MFP_OUT (withBits (d.rd PIN_MFP_OUT) n n (bitsOf v 5 5))
theorem mfpWrite_early (n v : Nat) (d : Dev) (h : d.mode < 3) : Dev.mfpWrite n v d = d := if_pos h
theorem mfpWrite_parks (n v : Nat) (d : Dev) (hm : 3 ≤ d.mode) (h : d.get (PIN_MFP.FUNC n) ≠ bitsOf v 3 0) :
    Dev.mfpWrite n v d = ((d.mfpStored n v).set (PIN_MFP.PARKED n) 1).showMfp n true := (if_neg (Nat.not_lt.mpr hm)).trans (if_pos h)
theorem mfpWrite_stores (n v : Nat) (d : Dev) (hm : 3 ≤ d.mode) (h : d.get (PIN_MFP.FUNC n) = bitsOf v 3 0)
    (hp : bitsOf v 3 0 ≠ 2 ∨ (d.mfpStored n v).on (PIN_MFP.PARKED n) = true) : Dev.mfpWrite n v d = d.mfpStored n v :=
  (if_neg (Nat.not_lt.mpr hm)).trans ((if_neg (not_not.mpr h)).trans (if_neg (by
    rw [h]
    rcases hp with hp | hp
    · simp [hp]
    · exact fun hb => absurd hp (by simpa [Dev.mfpStored] using (Bool.and_eq_true_iff.mp hb).2))))
theorem mfpWrite_drives (n v : Nat) (d : Dev) (hm : 3 ≤ d.mode) (h : d.get (PIN_MFP.FUNC n) = bitsOf v 3 0) (h2 : bitsOf v 3 0 = 2)
    (hp : (d.mfpStored n v).on (PIN_MFP.PARKED n) = false) : Dev.mfpWrite n v d = (d.mfpStored n v).showMfp n (bitAt v 5) :=
  (if_neg (Nat.not_lt.mpr hm)).trans ((if_neg (not_not.mpr h)).trans (if_pos (Bool.and_eq_true_iff.mpr ⟨decide_eq_true (h.trans h2), by
    rw [Bool.not_eq_true']; exact hp⟩)))
theorem parkEnd_parked (n : Nat) (d e : Dev) (h : d.on (PIN_MFP.PARKED n) = true) (he : e = (d.set (PIN_MFP.PARKED n) 0).count32 PIN_PARK_CNT 1) :
    Dev.parkEnd n d = e.showMfp n (e.mfpLevel n) := he ▸ if_neg (by simp [h])
theorem parkEnd_fixed (n : Nat) (d : Dev) (h : d.on (PIN_MFP.PARKED n) = false) : Dev.parkEnd n d = d := if_pos (by simp [h])

end Sys2Proof.Machine

open Sys2Proof Sys2Proof.Machine

/-- Settles O15: each clause is the equation of its operation in that case (R488, R489, R491 to R493, R531). -/
theorem supplyAndReferenceEvents : Obligations.SupplyAndReferenceEvents := by
  refine ⟨?supply, fun s mv hm ho h => next_of_dev (vbatLow_falls _ _ hm ho h), fun s mv hm h => next_of_dev (vbatBack_rises _ _ hm h),
    fun s i h0 h3 h => (congrArg Host.Outcome.next (pllUnlock_other h0 h3)).trans (next_of_dev (pllLost_locked _ _ h)),
    fun s i h => next_of_dev (pllLocked_running _ _ h), fun s pex ok b hb hm h => next_of_dev (by exact refclk_changes pex ok _ b hb hm h), ?rtc, ?temperature,
    fun s b ok high h => next_of_fixed (supplyWarn_fixed _ _ _ _ h), fun s mv h => next_of_fixed (vbatLow_fixed _ _ h),
    fun s mv h => next_of_fixed (vbatBack_fixed _ _ h),
    fun s i h0 h3 h => (congrArg Host.Outcome.next (pllUnlock_other h0 h3)).trans (next_of_fixed (pllLost_fixed _ _ h)),
    fun s i h => next_of_fixed (pllLocked_fixed _ _ h), fun s pex ok h => next_of_fixed (refclk_fixed _ _ _ h), fun s h => rtcInvalid_fixed s h,
    fun s t h => next_of_fixed (tempSample_fixed _ _ h)⟩
  case supply =>
    rintro s b ok high _ hm rfl
    refine ⟨fun h2 h4 => next_of_dev (supplyWarn_safety _ _ _ _ hm h2 h4), fun h5 h7 h => next_of_dev ?_, fun h9 h => next_of_dev ?_⟩
    · exact (supplyWarn_watched _ _ _ _ hm (.inl ⟨h5, h7⟩) h _ rfl).trans (if_pos (by omega))
    · exact (supplyWarn_watched _ _ _ _ hm (.inr ⟨h9, by omega⟩) h _ rfl).trans (if_neg (by omega))
  case rtc =>
    intro s hm h
    refine ⟨_, rtcInvalid_faults s hm h, rfl, rfl, ?_, ?_⟩
    · rw [Dev.on, Dev.get_post, Dev.get_set_same _ _ _ (by decide)]
      rfl
    · rw [Dev.on, Dev.get_post, Dev.get_set_other _ _ _ _ (by decide) (by decide), Dev.get_set_same _ _ _ (by decide)]
      rfl
  case temperature =>
    rintro s t x d1 _ _ d2 hm rfl h1 rfl rfl h2
    have taken : Dev.tempSample (signedOf 16 t.toNat) s.dev = d2.tempHighCheck (signedOf 16 t.toNat) d1.tempLimits.2 := by
      rw [tempSample_taken _ _ _ hm h1, h2]
      rfl
    refine ⟨fun hh h => next_of_dev (taken.trans (if_pos ⟨hh, h⟩)), fun hh h => next_of_dev (taken.trans ((if_neg ?_).trans (if_pos ⟨hh, h⟩))),
      fun h => next_of_dev (taken.trans ((if_neg ?_).trans (if_neg ?_)))⟩
    · simp [hh]
    · rcases h with ⟨hh, h⟩ | ⟨hh, h⟩ <;> simp [hh, Int.not_lt.mpr h]
    · rcases h with ⟨hh, h⟩ | ⟨hh, h⟩ <;> simp [hh, Int.not_lt.mpr h]

/-- Settles O16: a write that changes the function parks the pin, and the end of the park drives it (R517, R518, R526). -/
theorem pinFunctionsPark : Obligations.PinFunctionsPark := by
  refine ⟨?_, fun s n h => next_of_dev (parkEnd_parked _ _ _ h rfl), fun s n v h => next_of_fixed (mfpWrite_early _ _ _ h),
    fun s n h => next_of_fixed (parkEnd_fixed _ _ h)⟩
  rintro s n v _ hm rfl
  exact ⟨fun h => next_of_dev (mfpWrite_parks _ _ _ hm h), fun h hp => next_of_dev (mfpWrite_stores _ _ _ hm h hp),
    fun h h2 hp => next_of_dev (mfpWrite_drives _ _ _ hm h h2 hp)⟩

end

section
/-! PROOFS. What a part of the state keeps when registers, events and the scheduler are written (R12, R55, R116, R416 to R427, R432 to R435). -/
namespace Sys2Proof.Machine

/-- `g` reads neither a register nor the collected events. -/
structure Blind {β : Type} (g : Dev → β) : Prop where
  wr : ∀ a v d, g (Dev.wr a v d) = g d
  batch : ∀ (es : List Event) (d : Dev), g { d with hif := { d.hif with batch := es } } = g d

namespace Blind
variable {β : Type} {g : Dev → β} (h : Blind g)
include h

theorem set (f : Fld) (v : Nat) (d : Dev) : g (Dev.set f v d) = g d := h.wr _ _ _
theorem count (f : Fld) (n : Nat) (d : Dev) : g (Dev.count f n d) = g d := h.wr _ _ _
theorem count32 (a n : Nat) (d : Dev) : g (Dev.count32 a n d) = g d := h.wr _ _ _
theorem wr64 (a v : Nat) (d : Dev) : g (Dev.wr64 a v d) = g d := (h.wr _ _ _).trans (h.wr _ _ _)
theorem post (x y : Nat) (bs : List Byte) (d : Dev) : g (Dev.post x y bs d) = g d := h.batch _ _
theorem cond (b : Nat) (v : Bool) (d : Dev) : g (Dev.cond b v d) = g d := by
  unfold Dev.cond
  split
  · rfl
  · extract_lets d1 d2
    have raised : g d2 = g d := by
      unfold d2
      split
      · exact (h.wr _ _ _).trans (h.wr _ _ _)
      · exact h.wr _ _ _
    split
    · exact (h.post _ _ _ _).trans raised
    · exact raised
theorem showTask (t : Nat) (d : Dev) : g (Dev.showTask t d) = g d := by
  unfold Dev.showTask
  simp only [h.wr]
theorem showStock (d : Dev) : g d.showStock = g d := by
  unfold Dev.showStock
  dsimp only
  rw [h.cond, h.set, h.set, h.set]
theorem showLevel (l : Nat) (d : Dev) : g (Dev.showLevel l d) = g d := (h.set _ _ _).trans (h.set _ _ _)
theorem showSched (d : Dev) : g d.showSched = g d := by
  unfold Dev.showSched
  dsimp only
  rw [h.set, forN_keep g, h.showStock, forN_keep g _ h.showLevel]
  intro c e
  split <;> exact (h.set _ _ _).trans (h.set _ _ _)

end Blind

/-- `g` reads no register, no collected event, and neither the scheduler's state nor DRAM. -/
structure SchedBlind {β : Type} (g : Dev → β) : Prop extends Blind g where
  sch : ∀ (x : Sch) (d : Dev), g { d with sch := x } = g d
  dram : ∀ (m : SMap Byte) (d : Dev), g { d with dram := m } = g d

namespace SchedBlind
variable {β : Type} {g : Dev → β} (h : SchedBlind g)
include h

theorem setTask (t : Nat) (x : Task) (d : Dev) : g (Dev.setTask t x d) = g d := (h.showTask t _).trans (h.sch _ d)
theorem placeTask (t : Nat) (d : Dev) : g (Dev.placeTask t d) = g d := by
  unfold Dev.placeTask
  extract_lets x l spilled sch refusedDev
  split
  · exact (h.setTask _ _ _).trans (h.sch _ d)
  split
  · extract_lets d1 d2 sch d3
    have linked : g d1 = g d := by
      unfold d1
      split
      · exact h.dram _ d
      · rfl
    exact (h.setTask _ _ d3).trans ((h.sch _ d2).trans ((h.dram _ d1).trans linked))
  · have refused : g refusedDev = g d := by
      unfold refusedDev
      split
      · rfl
      · exact (h.post _ _ _ _).trans (h.count32 _ _ d)
    exact (h.setTask _ _ _).trans refused
theorem pushTask (t : Nat) (d : Dev) : g (Dev.pushTask t d) = g d := by
  unfold Dev.pushTask
  split
  · rfl
  · rw [h.showLevel, h.showStock, h.placeTask]
theorem retryUnready (d : Dev) : g d.retryUnready = g d := by
  unfold Dev.retryUnready
  split
  · exact h.pushTask _ d
  · rfl
theorem refill (l : Nat) (bad : Bool) (d : Dev) : g (Dev.refill l bad d) = g d := by
  unfold Dev.refill
  split
  · rfl
  split
  · rfl
  dsimp only
  split
  · exact (h.post _ _ _ _).trans ((h.showStock _).trans ((h.setTask _ _ _).trans (h.sch _ d)))
  · exact (h.retryUnready _).trans (h.sch _ d)
theorem leaveCell (t : Nat) (d : Dev) : g (Dev.leaveCell t d) = g d := by
  unfold Dev.leaveCell
  split
  · rfl
  · refine (h.retryUnready _).trans ((h.sch _ _).trans ?_)
    split
    · exact h.dram _ d
    · rfl
theorem tryWake (t : Nat) (d : Dev) : g (Dev.tryWake t d) = g d := by
  unfold Dev.tryWake
  dsimp only
  split
  · rw [h.pushTask, h.setTask]
  · rfl
theorem setFlags (t m : Nat) (d : Dev) : g (Dev.setFlags t m d) = g d := by
  unfold Dev.setFlags
  dsimp only
  split
  · rfl
  · rw [h.tryWake, h.setTask]
theorem freeDesc (d : Dev) : g d.freeDesc = g d := by
  unfold Dev.freeDesc
  dsimp only
  rw [forEach_keep g _ (fun t e => h.setFlags t _ e)]
  exact (h.sch _ _).trans (h.set _ _ d)
theorem setDma (n : Nat) (x : DmaCh) (parked : Bool) (d : Dev) : g (Dev.setDma n x parked d) = g d := by
  unfold Dev.setDma
  dsimp only
  rw [h.set, h.set, h.wr, h.set, h.set, h.sch]
theorem endDesc (n st : Nat) (d : Dev) : g (Dev.endDesc n st d) = g d := by
  unfold Dev.endDesc
  dsimp only
  split
  · rfl
  split
  · rw [when_keep g _ _ (h.setFlags _ _), h.count32, h.freeDesc, h.setDma, h.set, h.set]
  · rw [h.post, h.setFlags, h.freeDesc, h.setDma, h.set, h.set]
theorem dropParked (t : Nat) (d : Dev) : g (Dev.dropParked t d) = g d := by
  unfold Dev.dropParked
  rw [forN_keep g]
  intro n e
  split
  · rw [h.endDesc]
  · rfl
theorem freeTask (t cause : Nat) (d : Dev) : g (Dev.freeTask t cause d) = g d := by
  unfold Dev.freeTask
  extract_lets x d1 sch d2 busy d3
  have owed : g d3 = g d := by
    have unlisted : g d2 = g d := (h.sch _ _).trans (h.dropParked t d)
    unfold d3
    split
    · exact (h.set _ _ _).trans unlisted
    · exact unlisted
  clear_value d3 busy
  split
  · rfl
  · rw [h.showSched, when_keep g _ _ (h.post _ _ _), h.refill, h.leaveCell, h.setTask, owed]
theorem deleteJobs (d : Dev) : g d.deleteJobs = g d := by
  have each : ∀ (i : Nat) (e : Dev), g (if (e.task (128 + i)).state = 0 then e else e.freeTask (128 + i) 1) = g e := by
    intro i e
    split
    · rfl
    · rw [h.freeTask]
  unfold Dev.deleteJobs
  rw [forN_keep g _ each]

end SchedBlind

end Sys2Proof.Machine
end

section
/-! PROOFS. Host lapses, the Function Level Reset, PERST_N and the link (R385, R386, R408, R497), and O14. -/
namespace Sys2Proof.Machine

/-! ## The end of every session (R455) -/

/-- The end of a session writes the sessions, SEC_STATUS and an event. -/
theorem endSession_keep {β : Type} {g : Dev → β} (h : Blind g) (hs : ∀ (xs : List Session) (d : Dev), g { d with sec := { d.sec with sessions := xs } } = g d)
    (sid cause : Nat) (d : Dev) : g (Dev.endSession sid cause d) = g d := by
  unfold Dev.endSession
  split
  · exact (h.set _ _ _).trans ((when_keep g _ _ (h.post _ _ _) _).trans (hs _ d))
  · rfl
theorem endSessions_keep {β : Type} {g : Dev → β} (h : Blind g) (hs : ∀ (xs : List Session) (d : Dev), g { d with sec := { d.sec with sessions := xs } } = g d)
    (cause : Nat) (d : Dev) : g (Dev.endSessions cause d) = g d := forEach_keep g _ (fun sid e => endSession_keep h hs sid cause e) _ d
theorem rd_endSession (sid cause a : Nat) (d : Dev) (h : a ≠ SEC_STATUS) : (Dev.endSession sid cause d).rd a = d.rd a := by
  unfold Dev.endSession
  split
  · exact (Dev.rd_set_other _ _ _ _ h).trans (when_keep (fun e => e.rd a) _ (Dev.post _ _ _) (fun _ => rfl) _)
  · rfl
theorem rd_endSessions (cause a : Nat) (d : Dev) (h : a ≠ SEC_STATUS) : (Dev.endSessions cause d).rd a = d.rd a :=
  forEach_keep (fun e => e.rd a) _ (fun _ _ => rd_endSession _ _ _ _ h) _ d
theorem sessions_endSession (sid cause : Nat) (d : Dev) :
    (Dev.endSession sid cause d).sec.sessions = d.sec.sessions.filter (fun x => x.sid != sid) := by
  unfold Dev.endSession
  split
  · exact when_keep (fun e => e.sec.sessions) _ (Dev.post _ _ _) (fun _ => rfl) _
  · next h =>
    have absent : ∀ x ∈ d.sec.sessions, ¬ x.sid = sid := by simpa using h
    exact (List.filter_eq_self.mpr (fun x hx => by simpa using absent x hx)).symm
/-- Sessions that are ended one by one are those of the list. -/
theorem sessions_endEach (cause : Nat) (sids : List Nat) (d : Dev) :
    (d.forEach sids (fun sid => Dev.endSession sid cause)).sec.sessions = d.sec.sessions.filter (fun x => !sids.contains x.sid) := by
  induction sids generalizing d with
  | nil => exact (List.filter_eq_self.mpr (fun _ _ => rfl)).symm
  | cons sid sids ih =>
    refine (ih (Dev.endSession sid cause d)).trans ?_
    rw [sessions_endSession, List.filter_filter]
    refine List.filter_congr (fun x _ => ?_)
    rw [List.contains_cons, Bool.not_or, Bool.and_comm]
    rfl
theorem sessions_endSessions (cause : Nat) (d : Dev) : (Dev.endSessions cause d).sec.sessions = [] := by
  rw [Dev.endSessions, sessions_endEach, List.filter_eq_nil_iff]
  intro x hx
  simpa using ⟨x, hx, rfl⟩

/-! ## A lapse (R408) -/

section
variable (cause : Nat) (d : Dev)

/-- The state in which a first lapse is recorded, shown and posted. -/
def Dev.lapsed (cause : Nat) (d : Dev) : Dev :=
  ((Dev.set HIF_STATUS.HOST_LOST 1 { d with hif := { d.hif with lapse := some d.now } }).cond condHOST_LOST true).post 0 5 (leBytes 1 cause)
theorem hostLapse_known (h : d.hasCond condHOST_LOST = true) : d.hostLapse cause = d := if_pos h
theorem hostLapse_first (h : d.hasCond condHOST_LOST = false) : d.hostLapse cause =
    (d.lapsed cause).when ((d.lapsed cause).get HIF_HOSTLOSS.POLICY = 1 && (d.lapsed cause).permit && ((d.lapsed cause).sync || (d.lapsed cause).mode == 11))
      (Dev.logInput 0x01 68 (.stopGroup ((d.lapsed cause).get HIF_HOSTLOSS.GROUPS) false 0 0xFFFF) none) := if_neg (by simp [h])
/-- What a lapse leaves is read in the state that recorded it, save the logged inputs. -/
theorem hostLapse_keep {β : Type} (g : Dev → β) (hg : ∀ (w : List LogEntry) (e : Dev), g { e with cyc := { e.cyc with waiting := w } } = g e)
    (h : d.hasCond condHOST_LOST = false) : g (d.hostLapse cause) = g (d.lapsed cause) := by
  rw [hostLapse_first _ _ h]
  exact when_keep g _ _ (fun e => hg _ e) _

theorem get_lapsed_other (f : Fld) (h1 : f.a ≠ HIF_STATUS) (h2 : f.a ≠ SYS_COND) (h3 : f.a ≠ SYS_COND_STICKY) : (d.lapsed cause).get f = d.get f := by
  rw [Dev.lapsed, Dev.get_post, get_cond_other _ _ _ _ h2 h3]
  exact Dev.get_wr_other _ _ _ _ h1
theorem rd_lapsed_other (a : Nat) (h1 : a ≠ HIF_STATUS) (h2 : a ≠ SYS_COND) (h3 : a ≠ SYS_COND_STICKY) : (d.lapsed cause).rd a = d.rd a := by
  rw [Dev.lapsed, Dev.rd_post, rd_cond_other _ _ _ _ h2 h3, Dev.rd_set_other _ _ _ _ h1]
  rfl
theorem lapsed_keep {β : Type} {g : Dev → β} (hb : Blind g) (hl : ∀ (t : Option LTime) (e : Dev), g { e with hif := { e.hif with lapse := t } } = g e) :
    g (d.lapsed cause) = g d := (hb.post _ _ _ _).trans ((hb.cond _ _ _).trans ((hb.set _ _ _).trans (hl _ d)))
theorem lapse_lapsed : (d.lapsed cause).hif.lapse = some d.now :=
  have hb : Blind (fun e => e.hif.lapse) := ⟨fun _ _ _ => rfl, fun _ _ => rfl⟩
  (hb.post _ _ _ _).trans ((hb.cond _ _ _).trans rfl)
theorem host_lost_lapsed : (d.lapsed cause).on HIF_STATUS.HOST_LOST = true := by
  rw [Dev.on, Dev.lapsed, Dev.get_post, get_cond_other _ _ _ _ (by decide) (by decide)]
  exact on_set_flag HIF_STATUS.HOST_LOST true _ (by decide) rfl
theorem hasCond_lapsed : (d.lapsed cause).hasCond condHOST_LOST = true :=
  (hasCond_congr (Dev.rd_post _ _ _ _ _) _).trans (hasCond_cond _ true _ (by decide))
/-- What neither registers, events, the recorded lapse nor the logged inputs show, a lapse keeps. -/
theorem hostLapse_blind {β : Type} {g : Dev → β} (hb : Blind g) (hl : ∀ (t : Option LTime) (e : Dev), g { e with hif := { e.hif with lapse := t } } = g e)
    (hw : ∀ (w : List LogEntry) (e : Dev), g { e with cyc := { e.cyc with waiting := w } } = g e) : g (d.hostLapse cause) = g d := by
  cases h : d.hasCond condHOST_LOST with
  | true => rw [hostLapse_known _ _ h]
  | false => exact (hostLapse_keep cause d g hw h).trans (lapsed_keep cause d hb hl)
theorem rd_hostLapse (a : Nat) (h1 : a ≠ HIF_STATUS) (h2 : a ≠ SYS_COND) (h3 : a ≠ SYS_COND_STICKY) : (d.hostLapse cause).rd a = d.rd a := by
  cases h : d.hasCond condHOST_LOST with
  | true => rw [hostLapse_known _ _ h]
  | false => exact (hostLapse_keep cause d (fun e => e.rd a) (fun _ _ => rfl) h).trans (rd_lapsed_other cause d a h1 h2 h3)
/-- Under another policy than 1 a lapse logs nothing. -/
theorem cyc_hostLapse (hp : d.get HIF_HOSTLOSS.POLICY ≠ 1) : (d.hostLapse cause).cyc = d.cyc := by
  cases h : d.hasCond condHOST_LOST with
  | true => rw [hostLapse_known _ _ h]
  | false =>
    have policy : (d.lapsed cause).get HIF_HOSTLOSS.POLICY ≠ 1 := by rwa [get_lapsed_other _ _ _ (by decide) (by decide) (by decide)]
    rw [hostLapse_first _ _ h, Dev.when, if_neg (by simp [policy])]
    exact lapsed_keep cause d (g := Dev.cyc) ⟨fun _ _ _ => rfl, fun _ _ => rfl⟩ (fun _ _ => rfl)

end

/-! ## The Function Level Reset (R386) -/

theorem smGet_filter {α : Type} (dflt : Nat → α) (m : SMap α) (p : Nat → Bool) (k : Nat) :
    smGet dflt (m.filter (fun x => p x.1)) k = if p k then smGet dflt m k else dflt k := by
  induction m with
  | nil => simp [smGet]
  | cons x m ih =>
    obtain ⟨k', v⟩ := x
    by_cases e : k' = k
    · subst e
      cases hp : p k' <;> simp [hp, smGet, ih]
    · cases hp : p k' <;> simp [hp, smGet, ih, e]
/-- A window that is reset shows its reset values. -/
theorem rd_resetWindow (lo hi a : Nat) (d : Dev) : (Dev.resetWindow lo hi d).rd a = if lo ≤ a ∧ a < hi then (resetOf a).toNat else d.rd a := by
  have at_ := smGet_filter resetOf d.regs (fun k => k < lo || hi ≤ k) a
  unfold Dev.rd Dev.word Dev.resetWindow
  dsimp only
  rw [at_]
  by_cases h : lo ≤ a ∧ a < hi
  · rw [if_pos h, if_neg (by simp; omega)]
  · rw [if_neg h, if_pos (by simp; omega)]

/-- The state from which a Function Level Reset clears the host interface: sessions ended, the lapse taken, host jobs deleted. -/
def Dev.flrEnded (d : Dev) : Dev := ((d.endSessions 3).hostLapse 2).deleteJobs
/-- The host interface goes to its reset values in a new epoch; HIF_STATUS keeps what it shows and gains its two flags. -/
def Dev.flrCleared (d : Dev) : Dev :=
  let keep := d.rd HIF_STATUS
  let d := (d.resetWindow 0x10000 0x20000).wr HIF_STATUS keep
  let d := d.set HIF_STATUS.FLR_SEEN 1
  let d := d.set HIF_STATUS.HOST_LOST 1
  { d with hif := { d.hif with held := [], kept := [], vectors := [], dropped := 0, unsent := [], lastReply := [], turn := [], inWork := [], epoch := d.hif.epoch + 1 } }

section
variable (d : Dev)

theorem rd_flrCleared (a : Nat) (h1 : 0x10000 ≤ a) (h2 : a < 0x20000) (h3 : a ≠ HIF_STATUS) : d.flrCleared.rd a = (resetOf a).toNat := by
  have shown (f : Fld) (hf : f.a = HIF_STATUS) (v : Nat) (e : Dev) : (Dev.set f v e).rd a = e.rd a := Dev.rd_set_other _ _ _ _ (hf ▸ h3)
  have cleared (h : Hif) (e : Dev) : ({ e with hif := h } : Dev).rd a = e.rd a := rfl
  unfold Dev.flrCleared
  rw [cleared, shown HIF_STATUS.HOST_LOST rfl, shown HIF_STATUS.FLR_SEEN rfl, Dev.rd_wr_other _ _ _ _ h3, rd_resetWindow, if_pos ⟨h1, h2⟩]
theorem held_flrCleared : d.flrCleared.hif.held = [] := by simp only [Dev.flrCleared]
theorem kept_flrCleared : d.flrCleared.hif.kept = [] := by simp only [Dev.flrCleared]
theorem epoch_flrCleared : d.flrCleared.hif.epoch = d.hif.epoch + 1 := by
  simp only [Dev.flrCleared, Dev.set_hif, Dev.wr_hif]
  rfl
theorem sec_flrCleared : d.flrCleared.sec = d.sec := by
  simp only [Dev.flrCleared, Dev.set_sec, Dev.wr_sec]
  rfl
theorem cyc_flrCleared : d.flrCleared.cyc = d.cyc := by
  simp only [Dev.flrCleared, Dev.set_cyc, Dev.wr_cyc]
  rfl
theorem motion_flrCleared : d.flrCleared.axes = d.axes ∧ d.flrCleared.eng = d.eng ∧ d.flrCleared.ports = d.ports ∧ d.flrCleared.saf = d.saf := by
  simp only [Dev.flrCleared, Dev.set_axes, Dev.set_eng, Dev.set_ports, Dev.set_saf, Dev.wr_axes, Dev.wr_eng, Dev.wr_ports, Dev.wr_saf]
  exact ⟨rfl, rfl, rfl, rfl⟩

theorem functionReset_ready (hr : d.ready = true) : d.functionReset = d.flrEnded.flrCleared := by
  unfold Dev.functionReset Dev.flrEnded Dev.flrCleared
  rw [if_neg (by simp [hr])]
theorem functionReset_absent (hr : d.ready = false) : d.functionReset = d := if_pos (by simp [hr])

/-- What the sessions, the lapse, the logged inputs and the scheduler's state do not show is kept until the host interface is cleared. -/
theorem flrEnded_keep {β : Type} {g : Dev → β} (h : SchedBlind g) (hs : ∀ (xs : List Session) (d : Dev), g { d with sec := { d.sec with sessions := xs } } = g d)
    (hl : ∀ (t : Option LTime) (e : Dev), g { e with hif := { e.hif with lapse := t } } = g e)
    (hw : ∀ (w : List LogEntry) (e : Dev), g { e with cyc := { e.cyc with waiting := w } } = g e) : g d.flrEnded = g d := by
  rw [Dev.flrEnded, h.deleteJobs, hostLapse_blind 2 _ h.toBlind hl hw, endSessions_keep h.toBlind hs]
theorem sessions_flrEnded : d.flrEnded.sec.sessions = [] := by
  have sched : SchedBlind (fun e => e.sec.sessions) := ⟨⟨fun _ _ _ => rfl, fun _ _ => rfl⟩, fun _ _ => rfl, fun _ _ => rfl⟩
  rw [Dev.flrEnded, sched.deleteJobs, hostLapse_blind 2 _ sched.toBlind (fun _ _ => rfl) (fun _ _ => rfl), sessions_endSessions]
theorem cyc_flrEnded (hp : d.get HIF_HOSTLOSS.POLICY ≠ 1) : d.flrEnded.cyc = d.cyc := by
  have sched : SchedBlind Dev.cyc := ⟨⟨fun _ _ _ => rfl, fun _ _ => rfl⟩, fun _ _ => rfl, fun _ _ => rfl⟩
  have policy : (d.endSessions 3).get HIF_HOSTLOSS.POLICY ≠ 1 := by
    rwa [Dev.get, rd_endSessions _ _ _ (by decide)]
  rw [Dev.flrEnded, sched.deleteJobs, cyc_hostLapse 2 _ policy, endSessions_keep sched.toBlind (fun _ _ => rfl)]

/-- A device part that a Function Level Reset of `d` has left: the host interface anew, sessions gone, and with policy 0 the motion side as it was (R386, R408). -/
structure FlrDone (d t : Dev) : Prop where
  held : t.hif.held = []
  kept : t.hif.kept = []
  epoch : t.hif.epoch = d.hif.epoch + 1
  sessions : t.sec.sessions = []
  window : ∀ a, 0x10000 ≤ a → a < 0x20000 → a ≠ HIF_STATUS → t.rd a = (resetOf a).toNat
  motion : d.get HIF_HOSTLOSS.POLICY = 0 → t.axes = d.axes ∧ t.eng = d.eng ∧ t.cyc = d.cyc ∧ t.ports = d.ports ∧ t.saf = d.saf

/-- The level of PERST_N is no part of what a Function Level Reset is measured by. -/
theorem FlrDone.ofPin {d t : Dev} {low : Bool} (h : FlrDone { d with hif := { d.hif with perst := low } } t) : FlrDone d t :=
  ⟨h.held, h.kept, h.epoch, h.sessions, h.window, h.motion⟩
theorem flrDone_functionReset (hr : d.ready = true) : FlrDone d d.functionReset := by
  have ended := flrEnded_keep d (g := fun e => (e.hif.epoch, e.axes, e.eng, e.ports, e.saf)) ⟨⟨fun _ _ _ => rfl, fun _ _ => rfl⟩, fun _ _ => rfl, fun _ _ => rfl⟩
    (fun _ _ => rfl) (fun _ _ => rfl) (fun _ _ => rfl)
  have sessions := sessions_flrEnded d
  have cyc := cyc_flrEnded d
  rw [functionReset_ready d hr]
  generalize d.flrEnded = e at ended sessions cyc
  simp only [Prod.mk.injEq] at ended
  obtain ⟨epoch, axes, eng, ports, saf⟩ := ended
  obtain ⟨axes', eng', ports', saf'⟩ := motion_flrCleared e
  exact ⟨held_flrCleared e, kept_flrCleared e, (epoch_flrCleared e).trans (congrArg (· + 1) epoch), (congrArg Sec.sessions (sec_flrCleared e)).trans sessions,
    rd_flrCleared e, fun hp => ⟨axes'.trans axes, eng'.trans eng, (cyc_flrCleared e).trans (cyc (by omega)), ports'.trans ports, saf'.trans saf⟩⟩

end

/-! ## The link and PERST_N (R385, R497) -/

theorem linkDownHost_early (d : Dev) (h : d.mode < 3) : d.linkDownHost = d := if_pos h
theorem linkDownHost_lapses (d : Dev) (h : 3 ≤ d.mode) : d.linkDownHost = ((d.set HIF_STATUS.SPEED 0).set HIF_STATUS.WIDTH 0).hostLapse 1 :=
  if_neg (Nat.not_lt.mpr h)
/-- A link that goes down after a Function Level Reset finds its policy reset, so it logs nothing. -/
theorem flrDone_linkDownHost {d t : Dev} (h : FlrDone d t) : FlrDone d t.linkDownHost := by
  rcases Nat.lt_or_ge t.mode 3 with hm | hm
  · rwa [linkDownHost_early t hm]
  · obtain ⟨held, kept, epoch, sessions, window, motion⟩ := h
    have blind : Blind (fun e : Dev => (e.hif.held, e.hif.kept, e.hif.epoch, e.sec.sessions, e.axes, e.eng, e.ports, e.saf)) :=
      ⟨fun _ _ _ => rfl, fun _ _ => rfl⟩
    have lapse := (hostLapse_blind 1 _ blind (fun _ _ => rfl) (fun _ _ => rfl)).trans ((blind.set HIF_STATUS.WIDTH 0 _).trans (blind.set HIF_STATUS.SPEED 0 t))
    simp only [Prod.mk.injEq] at lapse
    obtain ⟨held', kept', epoch', sessions', axes', eng', ports', saf'⟩ := lapse
    have policy : ((t.set HIF_STATUS.SPEED 0).set HIF_STATUS.WIDTH 0).get HIF_HOSTLOSS.POLICY ≠ 1 := by
      rw [Dev.get_set_other _ _ _ _ (by decide) (by decide), Dev.get_set_other _ _ _ _ (by decide) (by decide), Dev.get, window _ (by decide) (by decide) (by decide)]
      decide
    rw [linkDownHost_lapses t hm]
    refine ⟨held'.trans held, kept'.trans kept, epoch'.trans epoch, sessions'.trans sessions, fun a h1 h2 h3 => ?_, fun hp => ?_⟩
    · have outside : a ≠ SYS_COND ∧ a ≠ SYS_COND_STICKY := by unfold SYS_COND SYS_COND_STICKY; omega
      rw [rd_hostLapse 1 _ a h3 outside.1 outside.2, Dev.rd_set_other _ _ _ _ h3, Dev.rd_set_other _ _ _ _ h3, window a h1 h2 h3]
    · obtain ⟨axes, eng, cyc, ports, saf⟩ := motion hp
      have cyc' := (cyc_hostLapse 1 _ policy).trans ((Dev.set_cyc _ _ _).trans (Dev.set_cyc _ _ _))
      exact ⟨axes'.trans axes, eng'.trans eng, cyc'.trans cyc, ports'.trans ports, saf'.trans saf⟩

end Sys2Proof.Machine

open Sys2Proof Sys2Proof.Machine

/-- Settles O14: a lapse by the state that records it, the Function Level Reset by what its parts leave (R385, R386, R408, R497). -/
theorem hostEndpointEvents : Obligations.HostEndpointEvents := by
  refine ⟨fun s h => congrArg Host.Outcome.next (if_neg h), fun s h => congrArg Host.Outcome.next (if_pos h), fun s h => next_of_fixed (linkDownHost_early _ h),
    fun s hr => ⟨next_of_fixed (functionReset_absent _ hr), next_of_dev (congrArg Dev.linkDownHost (functionReset_absent { s.dev with hif := { s.dev.hif with perst := true } } hr))⟩,
    fun s speed width h => congrArg Host.Outcome.next (if_pos (by simpa using h)), fun d cause h => hostLapse_known _ _ h, ?logs,
    fun s h => next_of_dev (linkDownHost_lapses _ h), fun d cause h => ⟨?_, ?_, ?_, fun hp => cyc_hostLapse cause d hp⟩, ?flr, fun s => rfl,
    fun s speed width hm hp => congrArg Host.Outcome.next (if_neg (by simp [hp, Nat.not_lt.mpr hm]))⟩
  case logs =>
    rintro d _ cause h rfl hp permit hm
    exact (hostLapse_first cause d h).trans (if_pos (by
      have mode : ((d.lapsed cause).sync || (d.lapsed cause).mode == 11) = true := Bool.or_eq_true_iff.mpr (hm.imp id beq_of_eq)
      rw [mode, Bool.and_true]
      exact Bool.and_eq_true_iff.mpr ⟨decide_eq_true hp, permit⟩))
  case flr =>
    intro s c hc hr
    have done : ∃ t, exec c s = .next t ∧ FlrDone s.dev t.dev ∧ t.fuses = s.fuses ∧ t.backup = s.backup := by
      rcases hc with rfl | rfl | ⟨rfl, ha⟩
      · exact ⟨_, rfl, flrDone_functionReset _ hr, rfl, rfl⟩
      · exact ⟨_, rfl, flrDone_linkDownHost (flrDone_functionReset { s.dev with hif := { s.dev.hif with perst := true } } hr).ofPin, rfl, rfl⟩
      · exact ⟨s.onDev Dev.functionReset, congrArg Host.Outcome.next ((if_neg (by simp [hr])).trans (if_neg (by simp [ha]))), flrDone_functionReset _ hr, rfl, rfl⟩
    obtain ⟨t, ht, ⟨held, kept, epoch, sessions, window, motion⟩, fuses, backup⟩ := done
    refine ⟨t, ht, held, kept, epoch, sessions, window, fun hp => ?_⟩
    obtain ⟨axes, eng, cyc, ports, saf⟩ := motion hp
    exact ⟨axes, eng, cyc, ports, saf, fuses, backup⟩
  · exact (hostLapse_keep cause d (fun e => e.hif.lapse) (fun _ _ => rfl) h).trans (lapse_lapsed cause d)
  · exact (hostLapse_keep cause d (fun e => e.on HIF_STATUS.HOST_LOST) (fun _ _ => rfl) h).trans (host_lost_lapsed cause d)
  · exact (hostLapse_keep cause d (fun e => e.hasCond condHOST_LOST) (fun _ _ => rfl) h).trans (hasCond_lapsed cause d)

end

section
/-! PROOFS. What replies, rings and queries write: the host interface, outputs and the free count (R387 to R397, R412), and O8, O59. -/
namespace Sys2Proof.Machine

/-- `g` reads no register of the completion rings and of the vectors, nothing else of the host interface, no output and not the free count. -/
structure ReplyBlind {β : Type} (g : Dev → β) : Prop where
  rings : ∀ a v d, 0x10900 ≤ a → a < 0x20000 → g (Dev.wr a v d) = g d
  hif : ∀ (x : Hif) (d : Dev), g { d with hif := x } = g d
  emit : ∀ o d, g (Dev.emit o d) = g d
  draw : ∀ d : Dev, g d.draw.2 = g d

namespace ReplyBlind
variable {β : Type} {g : Dev → β} (h : ReplyBlind g)
include h

theorem fireVector (v : Nat) (d : Dev) (hv : v < 64) : g (Dev.fireVector v d) = g d := by
  unfold Dev.fireVector
  dsimp only
  split
  · exact (h.rings _ _ _ (Nat.le_add_right_of_le (by decide)) (by omega)).trans (h.hif _ d)
  · exact (h.emit _ _).trans (h.hif _ d)
theorem signalN (v k : Nat) (d : Dev) (hv : v < 64) : g (Dev.signalN v k d) = g d := by
  unfold Dev.signalN
  dsimp only
  split
  · exact h.fireVector v d hv
  · exact h.hif _ d
/-- A reply is written to a completion ring of the part, and signals a vector of six bits (R394, R396, R412). -/
theorem writeReply (r : KeptReply) (d : Dev) (hr : r.cq < 64) : g (Dev.writeReply r d) = g d := by
  have tail : 0x10900 ≤ HIF_CQ_TAIL r.cq ∧ HIF_CQ_TAIL r.cq < 0x20000 := by unfold HIF_CQ_TAIL; omega
  have owed : 0x10900 ≤ HIF_CQ_OWED r.cq ∧ HIF_CQ_OWED r.cq < 0x20000 := by unfold HIF_CQ_OWED; omega
  unfold Dev.writeReply
  extract_lets size at_ phase d1 d2 wrap d3
  exact (h.signalN _ _ _ (Dev.get_lt _ (HIF_CQ_CFG.VECTOR r.cq))).trans ((h.rings _ _ _ owed.1 owed.2).trans ((h.rings _ _ _ tail.1 tail.2).trans
    ((h.rings _ _ _ tail.1 tail.2).trans ((h.hif _ d1).trans (h.emit _ d)))))
theorem pumpCq (c : Nat) (d : Dev) (hc : c < 64) : g (Dev.pumpCq c d) = g d := by
  have each : ∀ (rs : List KeptReply) (e : Dev), (∀ r ∈ rs, r.cq = c) → g (rs.foldl (fun d r =>
      if d.on (HIF_CQ_CFG.EN c) && d.cqUsed c + 1 < ringSize (d.get (HIF_CQ_CFG.SIZE_LOG2 c)) then
        Dev.writeReply r { d with hif := { d.hif with kept := d.hif.kept.erase r } }
      else d) e) = g e := by
    intro rs
    induction rs with
    | nil => exact fun _ _ => rfl
    | cons r rs ih =>
      intro e hrs
      refine (ih _ (fun x hx => hrs x (List.mem_cons_of_mem r hx))).trans ?_
      dsimp only
      split
      · exact (h.writeReply r _ (by rw [hrs r List.mem_cons_self]; exact hc)).trans (h.hif _ e)
      · rfl
  exact each _ d (fun r hr => eq_of_beq (List.mem_filter.mp hr).2)
/-- A packet of a submission ring completes on that ring's completion ring. -/
theorem complete (ref : PktRef) (st : Nat) (t : LTime) (res : List Byte) (d : Dev) (hq : ref.sq < 64) : g (Dev.complete ref st t res d) = g d := by
  have ring : decide (64 ≤ ref.sq) = false := decide_eq_false (Nat.not_le.mpr hq)
  unfold Dev.complete
  split
  · rfl
  · simp only [ring, Bool.false_and, Bool.false_eq_true, if_false]
    exact (h.pumpCq _ _ (Dev.get_lt d (HIF_SQ_CFG.CQ ref.sq))).trans ((h.hif _ _).trans (h.hif _ d))
theorem answer (ref : PktRef) (r : Reply × Dev) (hq : ref.sq < 64) : g (Dev.answer ref r) = g r.2 := by
  obtain ⟨reply, d⟩ := r
  cases reply with
  | done st res => exact h.complete _ _ _ _ _ hq
  | doneAt st t res => exact h.complete _ _ _ _ _ hq
  | later => rfl

end ReplyBlind

/-- `g` reads no register of the host interface's window either. -/
structure HostBlind {β : Type} (g : Dev → β) : Prop extends ReplyBlind g where
  common : ∀ a v d, 0x10000 ≤ a → a < 0x10900 → g (Dev.wr a v d) = g d

namespace HostBlind
variable {β : Type} {g : Dev → β} (h : HostBlind g)
include h

theorem wr (a v : Nat) (d : Dev) (h1 : 0x10000 ≤ a) (h2 : a < 0x20000) : g (Dev.wr a v d) = g d := by
  by_cases ha : a < 0x10900
  · exact h.common a v d h1 ha
  · exact h.rings a v d (Nat.not_lt.mp ha) h2
theorem set (f : Fld) (v : Nat) (d : Dev) (h1 : 0x10000 ≤ f.a) (h2 : f.a < 0x20000) : g (Dev.set f v d) = g d := h.wr _ _ _ h1 h2
theorem count32 (a n : Nat) (d : Dev) (h1 : 0x10000 ≤ a) (h2 : a < 0x20000) : g (Dev.count32 a n d) = g d := h.wr _ _ _ h1 h2
theorem post (x y : Nat) (bs : List Byte) (d : Dev) : g (Dev.post x y bs d) = g d := h.hif _ _
theorem showHeld (d : Dev) : g d.showHeld = g d := h.set HIF_SCHED_PENDING.COUNT _ d (by decide) (by decide)
theorem owe (q : Nat) (d : Dev) (hq : q < 64) : g (Dev.owe q d) = g d := by
  have accepted : 0x10000 ≤ HIF_SQ_ACCEPTED q ∧ HIF_SQ_ACCEPTED q < 0x20000 := by unfold HIF_SQ_ACCEPTED; omega
  have owed : 0x10000 ≤ HIF_CQ_OWED (d.get (HIF_SQ_CFG.CQ q)) ∧ HIF_CQ_OWED (d.get (HIF_SQ_CFG.CQ q)) < 0x20000 := by
    have ring : d.get (HIF_SQ_CFG.CQ q) < 64 := Dev.get_lt d (HIF_SQ_CFG.CQ q)
    unfold HIF_CQ_OWED
    omega
  exact (h.hif _ _).trans ((h.count32 _ _ _ accepted.1 accepted.2).trans (h.set _ _ d owed.1 owed.2))
theorem hostWrite (p : Packet) (a : Nat) (x : List Byte) (ok : Reply) (d : Dev) : g (Dev.hostWrite p a x ok d).2 = g d := by
  unfold Dev.hostWrite
  split
  · exact h.count32 _ _ d (by decide) (by decide)
  · exact h.emit _ d
theorem schedulePacket (op : Opcode) (p : Packet) (ref : PktRef) (d : Dev) (late : Nat) (hq : ref.sq < 64)
    (hr : ∀ (p : Packet) (ref : PktRef) (d : Dev), g (op.run p ref d).2 = g d) : g (d.schedulePacket op p ref late) = g d := by
  unfold Dev.schedulePacket
  split
  · split
    · exact h.complete _ _ _ _ d hq
    · exact (h.showHeld _).trans (h.hif _ d)
  · exact (h.answer { ref with late := true } _ hq).trans (hr p { ref with late := true } d)
  · exact h.complete _ _ _ _ d hq
/-- What authentication and the opcode's run keep, the acceptance of a packet keeps (R399 to R401). -/
theorem acceptFor (op : Opcode) (p : Packet) (ref : PktRef) (d : Dev) (hq : ref.sq < 64) (ha : g (d.authenticate op p).2 = g d)
    (hr : ∀ (p : Packet) (ref : PktRef) (d : Dev), g (op.run p ref d).2 = g d) : g (d.acceptFor op p ref) = g d := by
  by_cases hlen : p.len.toNat < op.lMin ∨ op.lMax < p.len.toNat
  · rw [acceptFor_badLength op p ref d hlen]
    exact h.complete _ _ _ _ d hq
  obtain ⟨hmin, hmax⟩ := not_or.mp hlen
  by_cases hflags : 16 ≤ p.flags.toNat ∨ hasFlag p 0 ≠ (decide (0 < p.len.toNat) || hasFlag p 1) ∨ (hasFlag p 2 = true ∧ op.sched = false)
  · rw [acceptFor_badFlags op p ref d (Nat.not_lt.mp hmin) (Nat.not_lt.mp hmax) hflags]
    exact h.complete _ _ _ _ d hq
  obtain ⟨hfew, hflags⟩ := not_or.mp hflags
  obtain ⟨hext, hsched⟩ := not_or.mp hflags
  have own : hasFlag p 2 = true → op.sched = true := fun h2 => Bool.eq_true_of_not_eq_false (fun hs => hsched ⟨h2, hs⟩)
  cases hr' : d.authenticate op p with
  | mk o d1 =>
    rw [hr'] at ha
    cases o with
    | none =>
      rw [acceptFor_unauthenticated op p ref d d1 (Nat.not_lt.mp hmin) (Nat.not_lt.mp hmax) (Nat.not_le.mp hfew) (not_not.mp hext) own hr']
      exact (h.complete _ _ _ _ d1 hq).trans ha
    | some p' =>
      rw [acceptFor_authenticated op p p' ref d d1 (Nat.not_lt.mp hmin) (Nat.not_lt.mp hmax) (Nat.not_le.mp hfew) (not_not.mp hext) own hr' _ rfl]
      split
      · exact (h.complete _ _ _ _ d1 hq).trans ha
      split
      · exact (h.schedulePacket op p' ref d1 _ hq hr).trans ha
      · exact (h.answer ref _ hq).trans ((hr p' ref d1).trans ha)
theorem packet (op : Opcode) (p : Packet) (d : Dev) (ha : ∀ d : Dev, g (d.authenticate op p).2 = g d)
    (hr : ∀ (p : Packet) (ref : PktRef) (d : Dev), g (op.run p ref d).2 = g d) : g (Dev.packet op p d) = g d := by
  unfold Dev.packet
  split
  · exact (h.acceptFor op p _ _ p.sq.isLt (ha _) hr).trans (h.owe _ d p.sq.isLt)
  · rfl

end HostBlind

/-! ## Authentication (R399, R456) -/

/-- Without authentication a packet that needs it is counted, and another left as it is. -/
theorem authenticate_open_keep {β : Type} {g : Dev → β} (op : Opcode) (p : Packet) (d : Dev) (hf : hasFlag p 1 = false)
    (hc : g (d.count32 SEC_AUTH_FAIL_CNT 1) = g d) : g (d.authenticate op p).2 = g d := by
  unfold Dev.authenticate
  simp only [hf, Bool.false_eq_true, if_false]
  split
  · rfl
  · exact hc
/-- Authentication writes the sessions, registers and events. -/
theorem authenticate_keep {β : Type} {g : Dev → β} (h : Blind g) (hs : ∀ (xs : List Session) (d : Dev), g { d with sec := { d.sec with sessions := xs } } = g d)
    (op : Opcode) (p : Packet) (d : Dev) : g (d.authenticate op p).2 = g d := by
  have failed (code sid : Nat) (e : Dev) : g (e.authFailed code sid) = g e := (h.post _ _ _ _).trans (h.count32 _ _ e)
  have ends (b : Bool) (sid cause : Nat) (e : Dev) : g (e.when b (Dev.endSession sid cause)) = g e := when_keep g b _ (endSession_keep h hs sid cause) e
  unfold Dev.authenticate
  extract_lets need sid
  split
  · split
    · dsimp only
      split
      · split
        · exact (ends _ _ _ _).trans (hs _ d)
        · exact (h.count32 _ _ _).trans ((ends _ _ _ _).trans (hs _ d))
      · exact (ends _ _ _ _).trans ((failed _ _ _).trans (hs _ d))
    · exact failed _ _ d
  · split
    · rfl
    · exact h.count32 _ _ d

/-! ## The queries -/

/-- An opcode that writes nothing but what a host write and its failure write, and draws. -/
def Opcode.onlyAnswers (op : Opcode) : Prop :=
  ∀ (β : Type) (g : Dev → β), HostBlind g → ∀ (p : Packet) (ref : PktRef) (d : Dev), g (op.run p ref d).2 = g d

theorem onlyAnswers_getInfo (f : Fuses) : (opGetInfo f).onlyAnswers := by
  intro β g h p ref d
  simp only [opGetInfo]
  split <;> rfl
theorem onlyAnswers_getMode : opGetMode.onlyAnswers := fun _ _ _ _ _ _ => rfl
theorem onlyAnswers_readTally (b : Backup) : (opReadTally b).onlyAnswers := by
  intro β g h p ref d
  simp only [opReadTally]
  split
  · rfl
  · exact h.hostWrite _ _ _ _ d
theorem onlyAnswers_getSegmentStatus : opGetSegmentStatus.onlyAnswers := by
  intro β g h p ref d
  simp only [opGetSegmentStatus]
  split <;> rfl
theorem onlyAnswers_readAxisState : opReadAxisState.onlyAnswers := by
  intro β g h p ref d
  simp only [opReadAxisState]
  split
  · rfl
  · exact h.hostWrite _ _ _ _ d
theorem onlyAnswers_getTime : opGetTime.onlyAnswers := fun _ _ _ _ _ _ => rfl
theorem onlyAnswers_readLedger : opReadLedger.onlyAnswers := by
  intro β g h p ref d
  simp only [opReadLedger]
  split
  · rfl
  · exact h.hostWrite _ _ _ _ d
theorem onlyAnswers_getSafety : opGetSafety.onlyAnswers := fun _ _ _ _ _ _ => rfl
theorem onlyAnswers_readSafetyLog : opReadSafetyLog.onlyAnswers := by
  intro β g h p ref d
  simp only [opReadSafetyLog]
  split
  · rfl
  · exact h.hostWrite _ _ _ _ d
theorem onlyAnswers_canStatus : opCanStatus.onlyAnswers := by
  intro β g h p ref d
  simp only [opCanStatus]
  split <;> rfl
theorem onlyAnswers_pairStatus : opPairStatus.onlyAnswers := fun _ _ h _ _ d => h.draw d
theorem onlyAnswers_getCert : opGetCert.onlyAnswers := by
  intro β g h p ref d
  simp only [opGetCert]
  generalize (if par p 22 1 = 0 then d.sec.certDev else d.sec.certCa) = cert
  split
  · rfl
  split
  · rfl
  split
  · rfl
  · exact h.hostWrite _ _ _ _ d
theorem onlyAnswers_attest (f : Fuses) : (opAttest f).onlyAnswers := fun _ _ h _ _ d => h.hostWrite _ _ _ _ d

/-- Every packet command with the code of a query only answers. -/
theorem onlyAnswers_of_queryCode {c : Instr} {s : State} {op : Opcode} {p : Packet} (h : packetOf c s = some (op, p)) (hq : op.code ∈ queryCodes) :
    op.onlyAnswers := by
  cases c <;> cases h
  case getInfo => exact onlyAnswers_getInfo _
  case getMode => exact onlyAnswers_getMode
  case readTally => exact onlyAnswers_readTally _
  case getSegmentStatus => exact onlyAnswers_getSegmentStatus
  case readAxisState => exact onlyAnswers_readAxisState
  case getTime => exact onlyAnswers_getTime
  case readLedger => exact onlyAnswers_readLedger
  case getSafetyStatus => exact onlyAnswers_getSafety
  case readSafetyLog => exact onlyAnswers_readSafetyLog
  case getCanStatus => exact onlyAnswers_canStatus
  case pairStatus => exact onlyAnswers_pairStatus
  case getCertificate => exact onlyAnswers_getCert
  case attest => exact onlyAnswers_attest _
  -- the code of every other opcode is none of theirs
  all_goals exact absurd hq (by simp [queryCodes, opOpenSession, opUnlockDebug] <;> decide)

/-! ## What stays beside the host interface -/

/-- The parts of `Dev.keeps`, as one value: all that a reply cannot touch but the security block. -/
def Dev.keptPart (d : Dev) : Dev.Rest := { restOf d with sec := Sec.reset }

theorem hostBlind_keptPart : HostBlind Dev.keptPart := ⟨⟨fun _ _ _ _ _ => rfl, fun _ _ => rfl, fun _ _ => rfl, fun _ => rfl⟩, fun _ _ _ _ _ => rfl⟩
theorem blind_keptPart : Blind Dev.keptPart := ⟨fun _ _ _ => rfl, fun _ _ => rfl⟩
theorem keeps_of_keptPart {d e : Dev} (h : e.keptPart = d.keptPart) : d.keeps e := by
  simp only [Dev.keptPart, restOf, Dev.Rest.mk.injEq] at h
  obtain ⟨live, latch, sys, -, ltm, evo, ports, cyc, eng, axes, trc, fb, adc, acq, dram, sto, saf, can, sch, mir, ledger⟩ := h
  exact ⟨live, latch, sys, ltm, evo, ports, cyc, eng, axes, trc, fb, adc, acq, dram, sto, saf, can, sch, mir, ledger⟩
/-- A register outside the host interface's window. -/
theorem replyBlind_rd {a : Nat} (h : a < 0x10900 ∨ 0x20000 ≤ a) : ReplyBlind (fun d => d.rd a) :=
  ⟨fun b _ _ h1 h2 => Dev.rd_wr_other b _ a _ (by omega), fun _ _ => rfl, fun _ _ => rfl, fun _ => rfl⟩
theorem hostBlind_rd {a : Nat} (h : a < 0x10000 ∨ 0x20000 ≤ a) : HostBlind (fun d => d.rd a) :=
  ⟨replyBlind_rd (by omega), fun b _ _ h1 h2 => Dev.rd_wr_other b _ a _ (by omega)⟩

/-! ## The rings (R388, R389, R397) -/

namespace HostBlind
variable {β : Type} {g : Dev → β} (h : HostBlind g)
include h

theorem ringError (kind n code : Nat) (d : Dev) : g (Dev.ringError kind n code d) = g d := h.post _ _ _ d
theorem sqError (q code : Nat) (d : Dev) (hq : q < 64) : g (Dev.sqError q code d) = g d := by
  have status : 0x10000 ≤ HIF_SQ_STATUS q ∧ HIF_SQ_STATUS q < 0x20000 := by unfold HIF_SQ_STATUS; omega
  exact (h.set _ _ _ status.1 status.2).trans (h.set _ _ d status.1 status.2)
theorem sqDoorbell (q v : Nat) (d : Dev) (hq : q < 64) : g (Dev.sqDoorbell q v d) = g d := by
  unfold Dev.sqDoorbell
  split
  · rfl
  split
  · exact h.wr _ _ d (by unfold HIF_DB_SQ; omega) (by unfold HIF_DB_SQ; omega)
  · exact (h.ringError _ _ _ _).trans (h.sqError q 1 d hq)
theorem cqDoorbell (c v : Nat) (d : Dev) (hc : c < 64) : g (Dev.cqDoorbell c v d) = g d := by
  have owed : 0x10000 ≤ HIF_CQ_OWED c ∧ HIF_CQ_OWED c < 0x20000 := by unfold HIF_CQ_OWED; omega
  unfold Dev.cqDoorbell
  split
  · rfl
  split
  · exact (h.pumpCq c _ hc).trans (h.wr _ _ d (by unfold HIF_DB_CQ; omega) (by unfold HIF_DB_CQ; omega))
  · exact (h.ringError _ _ _ _).trans (h.set _ _ d owed.1 owed.2)
theorem evtDoorbell (v : Nat) (d : Dev) : g (Dev.evtDoorbell v d) = g d := by
  unfold Dev.evtDoorbell
  split
  · rfl
  split
  · exact h.wr _ _ d (by decide) (by decide)
  · exact h.ringError _ _ _ d
theorem cfg (kind n v : Nat) (d : Dev) (hn : n < 64) : g (Dev.wr (ringCfg kind n) v d) = g d := by
  have at_ : 0x10000 ≤ ringCfg kind n ∧ ringCfg kind n < 0x20000 := by
    unfold ringCfg
    split
    · unfold HIF_SQ_CFG; omega
    · unfold HIF_CQ_CFG; omega
    · decide
  exact h.wr _ _ d at_.1 at_.2
theorem ringEnable (kind n v : Nat) (d : Dev) (hn : n < 64) : g (Dev.ringEnable kind n v d) = g d := by
  unfold Dev.ringEnable
  extract_lets a w
  split
  · rfl
  split
  · split
    · exact (h.wr _ _ _ (by unfold HIF_DB_SQ; omega) (by unfold HIF_DB_SQ; omega)).trans
        ((h.set _ _ _ (by simp only [HIF_SQ_HEAD.HEAD, HIF_SQ_HEAD]; omega) (by simp only [HIF_SQ_HEAD.HEAD, HIF_SQ_HEAD]; omega)).trans (h.cfg 0 n _ d hn))
    · exact (h.sqError n 4 _ hn).trans (h.cfg 0 n _ d hn)
  · exact (h.pumpCq n _ hn).trans ((h.wr _ _ _ (by unfold HIF_DB_CQ; omega) (by unfold HIF_DB_CQ; omega)).trans
      ((h.wr _ _ _ (by unfold HIF_CQ_TAIL; omega) (by unfold HIF_CQ_TAIL; omega)).trans (h.cfg 1 n _ d hn)))
  · exact (h.wr _ _ _ (by decide) (by decide)).trans ((h.set _ _ _ (by decide) (by decide)).trans (h.cfg _ n _ d hn))
theorem ringDisable (kind n v : Nat) (d : Dev) (hn : n < 64) : g (Dev.ringDisable kind n v d) = g d := by
  have owed : 0x10000 ≤ HIF_CQ_OWED n ∧ HIF_CQ_OWED n < 0x20000 := by unfold HIF_CQ_OWED; omega
  have each : ∀ (qs : List Nat) (e : Dev), (∀ q ∈ qs, q < 64) → g (e.forEach qs (fun q d => d.sqError q 3)) = g e := by
    intro qs
    induction qs with
    | nil => exact fun _ _ => rfl
    | cons q qs ih => exact fun e hqs => (ih _ (fun x hx => hqs x (List.mem_cons_of_mem q hx))).trans (h.sqError q 3 e (hqs q List.mem_cons_self))
  unfold Dev.ringDisable
  extract_lets a
  split
  · rfl
  split
  · exact h.cfg kind n _ d hn
  split
  · exact (each _ _ (fun q hq => List.mem_range.mp (List.mem_filter.mp hq).1)).trans (h.set _ _ d owed.1 owed.2)
  · exact h.cfg kind n _ d hn
theorem dmaError (kind n : Nat) (d : Dev) (hn : n < 64) : g (Dev.dmaError kind n d) = g d := by
  have owed : 0x10000 ≤ HIF_CQ_OWED n ∧ HIF_CQ_OWED n < 0x20000 := by unfold HIF_CQ_OWED; omega
  unfold Dev.dmaError
  extract_lets a d1 e d0 d2
  have counted : g d1 = g d := (h.count32 _ _ _ (by decide) (by decide)).trans (h.cfg kind n _ d hn)
  split
  · rfl
  · refine (h.ringError _ _ _ _).trans (Eq.trans ?_ counted)
    unfold d2
    split
    · exact h.sqError n 2 d1 hn
    · have shown : g e = g d1 := h.set _ _ d1 owed.1 owed.2
      clear d2
      unfold d0
      clear d0
      clear_value e
      split
      · exact (h.set _ _ _ owed.1 owed.2).trans ((h.hif _ e).trans shown)
      · exact shown
    · rfl

end HostBlind

/-- What a ring command keeps, by what nothing of the host interface shows. -/
theorem ringCommand_keep {c : Instr} {s : State} {q : Fin 64} {v : BitVec 16} {k : Fin 3} {w : Word}
    (hc : c = .sqDoorbell q v ∨ c = .cqDoorbell q v ∨ c = .evtDoorbell v ∨ c = .ringEnable k q w ∨ c = .ringDisable k q w ∨ c = .pcieDmaError k q) :
    ∃ f : Dev → Dev, exec c s = .next (s.onDev f) ∧ ∀ (β : Type) (g : Dev → β), HostBlind g → g (f s.dev) = g s.dev := by
  rcases hc with rfl | rfl | rfl | rfl | rfl | rfl
  · exact ⟨_, rfl, fun _ _ h => h.sqDoorbell _ _ _ q.isLt⟩
  · exact ⟨_, rfl, fun _ _ h => h.cqDoorbell _ _ _ q.isLt⟩
  · exact ⟨_, rfl, fun _ _ h => h.evtDoorbell _ _⟩
  · exact ⟨_, rfl, fun _ _ h => h.ringEnable _ _ _ _ q.isLt⟩
  · exact ⟨_, rfl, fun _ _ h => h.ringDisable _ _ _ _ q.isLt⟩
  · exact ⟨_, rfl, fun _ _ h => h.dmaError _ _ _ q.isLt⟩

end Sys2Proof.Machine

open Sys2Proof Sys2Proof.Machine

/-- Settles O59: acceptance and replies write the host interface and, authenticated, the security block; a query's run writes no more (R387, R399 to R401). -/
theorem queriesAndRingsLeaveTheMachine : Obligations.QueriesAndRingsLeaveTheMachine := by
  refine ⟨fun c s op p hc hq => ?_, fun s q v k w c hc => ?_⟩
  · have answers := onlyAnswers_of_queryCode hc hq
    refine ⟨_, exec_packetOf hc, rfl, rfl, rfl, keeps_of_keptPart ?_, fun hf a ha => ?_⟩
    · exact hostBlind_keptPart.packet op p s.dev (authenticate_keep blind_keptPart (fun _ _ => rfl) op p) (answers _ _ hostBlind_keptPart)
    · have outside := hostBlind_rd (a := a) (by omega)
      have counter : a ≠ SEC_AUTH_FAIL_CNT := by unfold SEC_AUTH_FAIL_CNT; omega
      exact outside.packet op p s.dev (fun d => authenticate_open_keep (g := fun d => d.rd a) op p d hf (Dev.rd_wr_other _ _ _ _ counter)) (answers _ _ outside)
  · obtain ⟨f, hf, keep⟩ := ringCommand_keep hc
    exact ⟨_, hf, rfl, rfl, rfl, keeps_of_keptPart (keep _ _ hostBlind_keptPart),
      keep _ Dev.sec ⟨⟨fun _ _ _ _ _ => rfl, fun _ _ => rfl, fun _ _ => rfl, fun _ => rfl⟩, fun _ _ _ _ _ => rfl⟩, fun a ha => keep _ _ (hostBlind_rd ha)⟩

/-- Settles O8: each clause is an equation of its opcode's meaning on an accepted packet (R394, R402, R405, R499). -/
theorem systemQueriesAnswer : Obligations.SystemQueriesAnswer := by
  refine ⟨fun s p p' d' r h => r.next ?_, fun s p p' d' r h => r.next ?_, fun s p p' d' r h => r.next ?_, fun s p p' d' r => r.next rfl,
    fun s p p' d' bs r ha hb => r.next ?_, fun s p p' d' r ha => r.next ?_, fun s p p' d' d1 r ha hn h1 => r.next ?_⟩
  · simp only [opGetInfo, h]
    rfl
  · simp only [opGetInfo, h]
    rfl
  · simp only [opGetInfo]
    split
    · omega
    · omega
    · rfl
  · simp only [opReadTally, if_neg (not_not.mpr ha), hostWrite_ok _ _ _ _ _ _ hb]
    rfl
  · simp only [opReadTally, if_pos ha]
    rfl
  · subst h1
    simp only [opReadTally, if_neg (not_not.mpr ha), Dev.hostWrite, hn]
    rfl

end

section
/-! PROOFS. A descriptor refused by a full queue whose owner's words lie in the DMA window (R425, R437), and the refutation of O49. -/
namespace Sys2Proof.Machine

/-- A task beyond the 256 that the part has: the second of its words is the overflow counter of channel 0. -/
def strayTask : Nat := 0xF10
theorem strayTask_word : SCH_TASK_W1 strayTask = DMA_CH_OVF_CNT 0 := by decide
/-- A descriptor of the stray task: one byte of pattern into DRAM. -/
def strayDesc : List Byte := leBytes 4 2 ++ leBytes 4 1 ++ zeros 16 ++ leBytes 8 strayTask
/-- Channel 0 is full, and the stray task waits for an event. -/
def strayOwner : State := State.reset.onDev (fun d =>
  Dev.set SYS_MODE.MODE 7 <| Dev.setDma 0 ⟨List.replicate 16 ⟨1, false, 0, 0, 8, 0, 0, 1⟩, some ⟨1, false, 0, 0, 8, 0, 0, 1⟩, 0⟩ false
    { d with sch := { d.sch with tasks := [(strayTask, { Task.reset with state := 1 })] } })
/-- Flag 26 of the stray task, shown in the second of its words, replaces the count of the overflow. -/
theorem strayOwner_count : (strayOwner.dev.dmaPush 0 strayDesc).rd (DMA_CH_OVF_CNT 0) = 2 ^ 26 ∧ strayOwner.dev.rd (DMA_CH_OVF_CNT 0) = 0 := by
  decide +kernel

end Sys2Proof.Machine

open Sys2Proof Sys2Proof.Machine

/-- Refutes O49: the descriptor's owner is any 16-bit number, and the states are not limited to tasks below 256. Where a task 0xF10 stands, flag 26 that
the overflow sets for it (R425) is shown in its word SCH_TASK_W1, whose address is that of DMA_CH_OVF_CNT of channel 0, so the counter does not rise by
one. -/
theorem not_dmaDescriptorsArePushedAndMoved : ¬ Obligations.DmaDescriptorsArePushedAndMoved := by
  intro h
  obtain ⟨-, pushed, -⟩ := h
  obtain ⟨-, -, -, full⟩ := pushed strayOwner 0 strayDesc _ (by decide +kernel) rfl (.inr (by decide +kernel)) (by decide +kernel) (by decide +kernel) (by decide +kernel)
  obtain ⟨t, ht, -, -, counted⟩ := full (by decide +kernel) (by decide +kernel) (by decide +kernel)
  cases ht
  obtain ⟨after, before⟩ := strayOwner_count
  exact absurd (after.symm.trans (counted.trans (congrArg (satAdd 32 · 1) before))) (by decide)

end

section
/-! PROOFS. The job, event, page and DMA opcodes and the commands of the cores (R416 to R420, R426 to R436), and O48. -/
namespace Sys2Proof.Machine

section
variable (p : Packet) (ref : PktRef) (d : Dev)

/-! ## CREATE_JOB (R426, R427) -/

/-- The affinity that a job asks for: all cores when none is named. -/
def jobAffinity (p : Packet) : Nat := if par p 44 1 = 0 then 0x3F else par p 44 1
/-- Whether the fields of a job are in range. -/
def jobRange (p : Packet) : Bool :=
  decide (par p 30 1 < 8) && decide (jobAffinity p < 64) && (!bitAt (par p 30 1) 1 || (decide (10 ≤ par p 32 4) && decide (par p 32 4 ≤ 1000000)))
/-- A task with the fields that a packet names. -/
def jobShape (p : Packet) (x : Task) : Task :=
  { x with affinity := jobAffinity p, all := bitAt (par p 30 1) 0, timer := bitAt (par p 30 1) 1, period := par p 32 4, mask := par p 26 4
           filter := if bitAt (par p 30 1) 2 then some (par p 40 2, par p 42 2) else none
           left := if par p 36 4 = 0 then none else some (par p 36 4) }
/-- Whether the fields of a creation are out of range, or its stored packet is one that R426 forbids. -/
def jobBad (p : Packet) : Bool :=
  decide (par p 23 1 < 16) || decide (31 < par p 23 1) || decide (63 < par p 31 1) || !jobRange p ||
    !(decide (par p 24 2 = 0xFFFF) || (decide (128 ≤ par p 24 2) && decide (par p 24 2 < 256))) || !storedOk (extBytes p 0 64)
/-- The job that a creation takes: the one named, or the first that is free. -/
def Dev.freeJob (p : Packet) (d : Dev) : Option Nat :=
  (if par p 24 2 = 0xFFFF then (List.range 128).map (128 + ·) else [par p 24 2]).find?
    (fun k => (d.task k).state == 0 && !d.hif.inWork.any (fun w => w.1 == 64 + k))
/-- The state with job `k` created and its completion reserved. -/
def Dev.jobCreated (p : Packet) (k : Nat) (d : Dev) : Dev :=
  ((d.set (HIF_CQ_OWED.COUNT (par p 31 1)) (d.get (HIF_CQ_OWED.COUNT (par p 31 1)) + 1)).setTask k
    (jobShape p { Task.reset with state := 1, prio := par p 23 1, cq := par p 31 1, packet := extBytes p 0 64 })).showSched

/-- A creation, by its checks. -/
theorem createJob_creates (h : par p 22 1 = 0) : opCreateJob.run p ref d =
    if p.len.toNat ≠ 4 then (.bad stBAD_LENGTH, d)
    else if jobBad p then (.bad stBAD_PARAMETER, d)
    else match d.freeJob p, d.cqRoom (par p 31 1) with
      | some k, true => (.done stOK (leBytes 2 k), d.jobCreated p k)
      | _, _ => (.bad stNO_RESOURCE, d) := by
  simp only [opCreateJob, h]
  rfl
/-- A deletion or a change, by its checks. -/
theorem createJob_changes (h : par p 22 1 ≠ 0) : opCreateJob.run p ref d =
    if p.len.toNat ≠ 0 then (.bad stBAD_LENGTH, d)
    else if 2 < par p 22 1 || par p 24 2 < 128 || 256 ≤ par p 24 2 || (d.task (par p 24 2)).state = 0 || (par p 22 1 = 2 && !jobRange p) then (.bad stBAD_PARAMETER, d)
    else if par p 22 1 = 1 then (.done stOK (leBytes 2 (par p 24 2)), d.deleteTask (par p 24 2))
    else (.done stOK (leBytes 2 (par p 24 2)), ((d.setTask (par p 24 2) (jobShape p (d.task (par p 24 2)))).tryWake (par p 24 2)).showSched) := by
  simp only [opCreateJob]
  cases ho : par p 22 1 with
  | zero => exact absurd ho h
  | succ n => rfl
theorem createJob_badLength (h : (par p 22 1 = 0 ∧ p.len.toNat ≠ 4) ∨ (par p 22 1 ≠ 0 ∧ p.len.toNat ≠ 0)) :
    opCreateJob.run p ref d = (.bad stBAD_LENGTH, d) := by
  rcases h with ⟨h0, hl⟩ | ⟨h0, hl⟩
  · exact (createJob_creates p ref d h0).trans (if_pos hl)
  · exact (createJob_changes p ref d h0).trans (if_pos hl)

section
variable (h0 : par p 22 1 = 0) (hl : p.len.toNat = 4)
include h0 hl

theorem createJob_badFields (hb : jobBad p = true) : opCreateJob.run p ref d = (.bad stBAD_PARAMETER, d) :=
  (createJob_creates p ref d h0).trans ((if_neg (not_not.mpr hl)).trans (if_pos hb))
/-- In range, the free job and the room for its completion decide. -/
theorem createJob_inRange (hb : jobBad p = false) : opCreateJob.run p ref d =
    match d.freeJob p, d.cqRoom (par p 31 1) with
      | some k, true => (.done stOK (leBytes 2 k), d.jobCreated p k)
      | _, _ => (.bad stNO_RESOURCE, d) :=
  (createJob_creates p ref d h0).trans ((if_neg (not_not.mpr hl)).trans (if_neg (by simp [hb])))
theorem createJob_noRoom (hb : jobBad p = false) (h : d.freeJob p = none ∨ d.cqRoom (par p 31 1) = false) :
    opCreateJob.run p ref d = (.bad stNO_RESOURCE, d) := by
  rw [createJob_inRange p ref d h0 hl hb]
  split
  · next hk hr =>
    rcases h with h | h
    · exact nomatch hk.symm.trans h
    · exact nomatch hr.symm.trans h
  · rfl
theorem createJob_created (hb : jobBad p = false) (k : Nat) (hk : d.freeJob p = some k) (hr : d.cqRoom (par p 31 1) = true) :
    opCreateJob.run p ref d = (.done stOK (leBytes 2 k), d.jobCreated p k) := by
  rw [createJob_inRange p ref d h0 hl hb, hk, hr]
end

section
variable (h0 : par p 22 1 ≠ 0) (hl : p.len.toNat = 0)
include h0 hl

theorem createJob_noJob (h : 2 < par p 22 1 ∨ par p 24 2 < 128 ∨ 256 ≤ par p 24 2 ∨ (d.task (par p 24 2)).state = 0 ∨ (par p 22 1 = 2 ∧ jobRange p = false)) :
    opCreateJob.run p ref d = (.bad stBAD_PARAMETER, d) :=
  (createJob_changes p ref d h0).trans ((if_neg (not_not.mpr hl)).trans (if_pos (by simpa [or_assoc] using h)))
/-- An existing job is deleted, or changed when its new fields are in range. -/
theorem createJob_changed (hop : par p 22 1 ≤ 2) (hlo : 128 ≤ par p 24 2) (hhi : par p 24 2 < 256) (hs : (d.task (par p 24 2)).state ≠ 0)
    (hr : par p 22 1 = 2 → jobRange p = true) : opCreateJob.run p ref d =
    if par p 22 1 = 1 then (.done stOK (leBytes 2 (par p 24 2)), d.deleteTask (par p 24 2))
    else (.done stOK (leBytes 2 (par p 24 2)), ((d.setTask (par p 24 2) (jobShape p (d.task (par p 24 2)))).tryWake (par p 24 2)).showSched) := by
  refine (createJob_changes p ref d h0).trans ((if_neg (not_not.mpr hl)).trans (if_neg ?_))
  simp only [Bool.or_eq_true, Bool.and_eq_true, decide_eq_true_eq, Bool.not_eq_true', not_or, not_and, Bool.not_eq_false]
  exact ⟨⟨⟨⟨by omega, by omega⟩, by omega⟩, hs⟩, hr⟩
end

/-! ## POST_EVENT (R416) -/

/-- The jobs that exist. -/
def Dev.jobs (d : Dev) : List Nat := ((List.range 128).map (128 + ·)).filter (fun k => (d.task k).state != 0)
theorem mem_jobs (k : Nat) : k ∈ d.jobs ↔ 128 ≤ k ∧ k < 256 ∧ (d.task k).state ≠ 0 := by
  simp only [Dev.jobs, List.mem_filter, List.mem_map, List.mem_range, bne_iff_ne]
  constructor
  · rintro ⟨⟨i, hi, rfl⟩, hs⟩
    exact ⟨by omega, by omega, hs⟩
  · rintro ⟨hlo, hhi, hs⟩
    exact ⟨⟨k - 128, by omega, by omega⟩, hs⟩
theorem postEvent_all (h : par p 22 2 = 0xFFFF) : opPostEvent.run p ref d =
    (.done stOK (leBytes 2 d.jobs.length), (d.forEach d.jobs (fun k d => d.setFlags k (par p 24 2))).showSched) := if_pos h
theorem postEvent_one (h : par p 22 2 ∈ d.jobs) :
    opPostEvent.run p ref d = (.done stOK (leBytes 2 1), (d.setFlags (par p 22 2) (par p 24 2)).showSched) := by
  have below : par p 22 2 ≠ 0xFFFF := by
    have := (mem_jobs d _).mp h
    omega
  exact (if_neg below).trans (if_pos (List.contains_iff_mem.mpr h))
theorem postEvent_bad (hall : par p 22 2 ≠ 0xFFFF) (h : par p 22 2 ∉ d.jobs) : opPostEvent.run p ref d = (.bad stBAD_PARAMETER, d) :=
  (if_neg hall).trans (if_neg (fun hc => h (List.contains_iff_mem.mp hc)))

/-! ## RESUME_DMA (R435) -/

theorem resumeDma_parked (hs : d.get (DMA_CH_STATUS.STATE (par p 22 1)) = 2) (hf : d.on (DMA_CH_STATUS.HOST_FAULT (par p 22 1)) = true) :
    ¬(decide (d.get (DMA_CH_STATUS.STATE (par p 22 1)) ≠ 2) || !d.on (DMA_CH_STATUS.HOST_FAULT (par p 22 1))) = true := by simp [hs, hf]
theorem resumeDma_badChannel (h : 16 ≤ par p 22 1 ∨ 1 < par p 23 1) : opResumeDma.run p ref d = (.bad stBAD_PARAMETER, d) := if_pos (by simpa using h)

section
variable (hn : par p 22 1 < 16) (ha : par p 23 1 ≤ 1)
include hn ha

theorem resumeDma_inRange : ¬(decide (16 ≤ par p 22 1) || decide (1 < par p 23 1)) = true := by
  simp only [Bool.or_eq_true, decide_eq_true_eq]
  omega
theorem resumeDma_notParked (h : d.get (DMA_CH_STATUS.STATE (par p 22 1)) ≠ 2 ∨ d.on (DMA_CH_STATUS.HOST_FAULT (par p 22 1)) = false) :
    opResumeDma.run p ref d = (.bad stWRONG_MODE, d) :=
  (if_neg (resumeDma_inRange p hn ha)).trans (if_pos (by simpa using h))

variable (hs : d.get (DMA_CH_STATUS.STATE (par p 22 1)) = 2) (hf : d.on (DMA_CH_STATUS.HOST_FAULT (par p 22 1)) = true)
include hs hf

theorem resumeDma_ends (h1 : par p 23 1 = 1) :
    opResumeDma.run p ref d = (.done stOK (leBytes 4 (d.dmaCh (par p 22 1)).pos), d.endDesc (par p 22 1) 3) :=
  (if_neg (resumeDma_inRange p hn ha)).trans ((if_neg (resumeDma_parked p d hs hf)).trans (if_pos h1))

end

/-- The state in which a parked channel goes on. -/
def Dev.unparked (n : Nat) (d : Dev) : Dev := (d.set (DMA_CH_STATUS.HOST_FAULT n) 0).setDma n (d.dmaCh n) false
/-- What the page that faulted answers now. -/
def Dev.walkAgain (n : Nat) (d : Dev) : Walk := d.walk (d.get (DMA_CH_FAULT.CTX n)) (d.rd64 (DMA_CH_FAULT_VA_LO n)) (d.on (DMA_CH_FAULT.WRITE n))
section
variable (hn : par p 22 1 < 16) (h0 : par p 23 1 = 0) (hs : d.get (DMA_CH_STATUS.STATE (par p 22 1)) = 2)
  (hf : d.on (DMA_CH_STATUS.HOST_FAULT (par p 22 1)) = true) (x : DmaDesc) (hx : (d.dmaCh (par p 22 1)).cur = some x)
include hn h0 hs hf hx

/-- A resumed channel takes its next fault when its page still faults. -/
theorem resumeDma_faults (o : Nat) (demand write : Bool) (hw : (d.unparked (par p 22 1)).walkAgain (par p 22 1) = .demand)
    (hr : (d.unparked (par p 22 1)).descFault x (d.dmaCh (par p 22 1)).pos = some (o, demand, write)) : opResumeDma.run p ref d =
      (.done stOK (leBytes 4 (d.dmaCh (par p 22 1)).pos), (d.unparked (par p 22 1)).takeFault (par p 22 1) o demand write []) := by
  have ha : par p 23 1 ≤ 1 := by omega
  refine (if_neg (resumeDma_inRange p hn ha)).trans ((if_neg (resumeDma_parked p d hs hf)).trans ((if_neg (by omega)).trans ?_))
  unfold Dev.walkAgain Dev.unparked at *
  simp only [hx, Option.bind_some, if_pos hw, hr]
/-- A resumed channel goes on when its page answers, or nothing faults any more. -/
theorem resumeDma_goesOn (h : (d.unparked (par p 22 1)).walkAgain (par p 22 1) ≠ .demand ∨ (d.unparked (par p 22 1)).descFault x (d.dmaCh (par p 22 1)).pos = none) :
    opResumeDma.run p ref d =
      (.done stOK (leBytes 4 (d.dmaCh (par p 22 1)).pos), (d.unparked (par p 22 1)).post 0x0E00 0x0E02 (leBytes 1 (par p 22 1) ++ leBytes 1 1)) := by
  have ha : par p 23 1 ≤ 1 := by omega
  refine (if_neg (resumeDma_inRange p hn ha)).trans ((if_neg (resumeDma_parked p d hs hf)).trans ((if_neg (by omega)).trans ?_))
  unfold Dev.walkAgain Dev.unparked at *
  rcases h with h | h
  · simp only [hx, Option.bind_some, if_neg h]
  · simp only [hx, Option.bind_some, h, ite_self]
end

end

/-! ## The commands of the cores (R416, R418) -/

theorem tasks_showTask (k : Nat) (d : Dev) : (d.showTask k).sch = d.sch :=
  Blind.showTask (g := fun e => e.sch) ⟨fun _ _ _ => rfl, fun _ _ => rfl⟩ k d
theorem task_setTask (k : Nat) (x : Task) (d : Dev) : (d.setTask k x).task k = x := by
  unfold Dev.task Dev.setTask
  rw [tasks_showTask]
  exact smGet_smSet_same _ _ _ _
theorem cores_setTask (k : Nat) (x : Task) (d : Dev) : (d.setTask k x).sch.cores = d.sch.cores := by
  unfold Dev.setTask
  rw [tasks_showTask]
theorem tryWake_waits (k : Nat) (d : Dev) (h : waitMet (d.task k) = false) : d.tryWake k = d := if_neg (by simp [h])
theorem sch_showSched (d : Dev) : d.showSched.sch = d.sch := Blind.showSched (g := fun e => e.sch) ⟨fun _ _ _ => rfl, fun _ _ => rfl⟩ d
/-- A task whose wait is not met waits, and leaves its core. -/
theorem waitTask_waits (k : Nat) (d : Dev) (hd : (d.task k).deleted = false) (hw : waitMet (d.task k) = false) :
    ((d.waitTask k).task k) = { d.task k with state := 1, began := false } ∧ (d.waitTask k).sch.cores = d.sch.cores.filter (fun y => y.2 != k) := by
  have waits : ∀ e : Dev, (e.setTask k { d.task k with state := 1, began := false }).tryWake k = e.setTask k { d.task k with state := 1, began := false } :=
    fun e => tryWake_waits k _ (by rw [task_setTask]; exact hw)
  have left : d.waitTask k = ((Dev.setTask k { d.task k with state := 1, began := false }
      { d with sch := { d.sch with cores := d.sch.cores.filter (fun y => y.2 != k) } })).showSched :=
    (if_neg (by simp [hd])).trans (congrArg Dev.showSched (waits _))
  rw [left]
  constructor
  · unfold Dev.task
    rw [sch_showSched]
    exact task_setTask k _ _
  · rw [sch_showSched]
    exact cores_setTask k _ _
theorem handlerRan_other (k : Nat) (d : Dev) (h : d.sch.handler ≠ some k) : d.handlerRan k = d := if_neg (by simpa using h)

theorem taskWait_idle (c m : Nat) (all : Bool) (d : Dev) (h : d.onCore c = none) : d.taskWait c m all = d := by
  unfold Dev.taskWait
  rw [h]
theorem taskEnd_idle (c : Nat) (d : Dev) (h : d.onCore c = none) : d.taskEnd c = d := by
  unfold Dev.taskEnd
  rw [h]
theorem taskWait_firmware (c m k : Nat) (all : Bool) (d : Dev) (h : d.onCore c = some k) (hk : k < 128) :
    d.taskWait c m all = ((d.handlerRan k).setTask k { (d.handlerRan k).task k with mask := m, all := all }).waitTask k := by
  unfold Dev.taskWait
  rw [h]
  exact if_neg (Nat.not_le.mpr hk)
theorem taskWait_job (c m k : Nat) (all : Bool) (d : Dev) (h : d.onCore c = some k) (hk : 128 ≤ k) : d.taskWait c m all = d.jobRunEnd k := by
  unfold Dev.taskWait
  rw [h]
  exact if_pos hk
theorem taskEnd_firmware (c k : Nat) (d : Dev) (h : d.onCore c = some k) (hk : k < 128) : d.taskEnd c = (d.handlerRan k).freeTask k 0 := by
  unfold Dev.taskEnd
  rw [h]
  exact if_neg (Nat.not_le.mpr hk)
theorem taskEnd_job (c k : Nat) (d : Dev) (h : d.onCore c = some k) (hk : 128 ≤ k) : d.taskEnd c = d.jobRunEnd k := by
  unfold Dev.taskEnd
  rw [h]
  exact if_pos hk

end Sys2Proof.Machine

open Sys2Proof Sys2Proof.Machine

/-- Settles O48: each clause is an equation of its opcode's meaning on an accepted packet, or of its command's meaning on the task of a core (R416 to R420,
R426 to R436). The order of the areas in DRAM that MAP_PAGES uses is the model's (log entry 49), as are the reserved completion of a job (87) and the checks of
a descriptor (88). -/
theorem jobsEventsAndTasksRun : Obligations.JobsEventsAndTasksRun := by
  refine ⟨?create, ?post, ?pages, ?resume, ?idle, ?firmware, ?waits, ?ends, ?period⟩
  case create =>
    rintro s p p' d' _ _ _ _ _ _ r rfl rfl rfl rfl rfl rfl
    refine ⟨fun h => r.next (congrArg _ (createJob_badLength _ _ _ h)), fun h0 hl hb => r.next (congrArg _ (createJob_badFields _ _ _ h0 hl hb)), ?_,
      fun h0 hl h => r.next (congrArg _ (createJob_noJob _ _ _ h0 hl h)), fun h1 hl hlo hhi hs => ⟨_, rfl, r.next ?_⟩,
      fun h2 hl hlo hhi hs hr => ⟨_, rfl, r.next ?_⟩⟩
    · rintro _ h0 hl hb rfl
      refine ⟨fun h => r.next (congrArg _ (createJob_noRoom _ _ _ h0 hl hb h)), ?_⟩
      rintro k _ hk hr rfl
      exact r.next (congrArg _ (createJob_created _ _ _ h0 hl hb k hk hr))
    · exact congrArg _ ((createJob_changed _ _ _ (by omega) hl (by omega) hlo hhi hs (by omega)).trans (if_pos h1))
    · exact congrArg _ ((createJob_changed _ _ _ (by omega) hl (by omega) hlo hhi hs (fun _ => hr)).trans (if_neg (by omega)))
  case post =>
    rintro s p p' d' _ r rfl
    refine ⟨fun hall h => r.next (congrArg _ (postEvent_bad _ _ _ hall ?_)), fun hlo hhi hs => ⟨_, rfl, r.next (congrArg _ (postEvent_one _ _ _ ?_))⟩, ?_⟩
    · rw [mem_jobs]
      omega
    · exact (mem_jobs _ _).mpr ⟨hlo, hhi, hs⟩
    · rintro _ h rfl
      exact ⟨_, rfl, r.next (congrArg _ (postEvent_all _ _ _ h))⟩
  case pages =>
    rintro s p p' d' _ _ _ _ _ _ _ _ _ _ r rfl rfl rfl rfl rfl rfl rfl rfl rfl rfl
    refine ⟨fun hb => r.next (congrArg (Dev.answer _) (if_pos hb)), ?_⟩
    rintro _ hb rfl
    exact r.next (congrArg (Dev.answer _) (if_neg (Bool.eq_false_iff.mp hb)))
  case resume =>
    rintro s p p' d' _ r rfl
    refine ⟨fun h => r.next (congrArg _ (resumeDma_badChannel _ _ _ h)), fun hn ha h => r.next (congrArg _ (resumeDma_notParked _ _ _ hn ha h)),
      fun hn h1 hs hf => ⟨_, rfl, r.next (congrArg _ (resumeDma_ends _ _ _ hn (by omega) hs hf h1))⟩, ?_⟩
    rintro x _ _ hn h0 hs hf hx rfl rfl
    exact ⟨fun h => ⟨_, rfl, r.next (congrArg _ (resumeDma_goesOn _ _ _ hn h0 hs hf x hx h))⟩,
      fun o dm wr hw hfault => ⟨_, rfl, r.next (congrArg _ (resumeDma_faults _ _ _ hn h0 hs hf x hx o dm wr hw hfault))⟩⟩
  case idle => exact fun s c m all h => ⟨next_of_fixed (taskWait_idle _ _ _ _ h), next_of_fixed (taskEnd_idle _ _ h)⟩
  case firmware => exact fun s c m all k h hk => next_of_dev (taskWait_firmware _ _ _ _ _ h hk)
  case waits =>
    intro s c m all k h hk hh hd hw
    have run := taskWait_firmware c.val m.toNat k all s.dev h hk
    rw [handlerRan_other _ _ hh] at run
    have own := task_setTask k { s.dev.task k with mask := m.toNat, all := all } s.dev
    obtain ⟨task, cores⟩ := waitTask_waits k (s.dev.setTask k { s.dev.task k with mask := m.toNat, all := all }) (by rw [own]; exact hd) (by rw [own]; exact hw)
    rw [own] at task
    rw [cores_setTask] at cores
    rw [← run] at task cores
    exact ⟨_, rfl, congrArg Task.state task, congrArg Task.mask task, congrArg Task.all task, cores⟩
  case ends =>
    exact fun s c m all k h => ⟨fun hk => next_of_dev (taskEnd_firmware _ _ _ h hk),
      fun hk => ⟨next_of_dev (taskWait_job _ _ _ _ _ h hk), next_of_dev (taskEnd_job _ _ _ h hk)⟩⟩
  case period => exact fun s k => ⟨fun h => next_of_fixed (if_neg (by simp [h])), fun h => next_of_dev (if_pos h)⟩

end

section
/-! PROOFS. Doorbells, ring enables and disables, PCIe failures and coalescing (R386 to R397, R412), and O46. -/
namespace Sys2Proof.Machine

/-- A one-bit field is set where its bit is. -/
theorem on_eq_bitAt (f : Fld) (d : Dev) (h : f.hi = f.lo) : d.on f = bitAt (d.rd f.a) f.lo := by
  have bit : f.hi + 1 - f.lo = 1 := by omega
  unfold Dev.on Dev.get bitsOf bitAt
  rw [bit]
  rcases Nat.mod_two_eq_zero_or_one (d.rd f.a / 2 ^ f.lo) with h | h <;> simp [h]
/-- What holds of the device part that a command leaves holds of the state that it answers. -/
theorem exists_next {f : Dev → Dev} {s : State} {P : State → Prop} (e : Dev) (h : f s.dev = e) (hp : ∀ t : State, t.dev = e → P t) :
    ∃ t, (Host.Outcome.next (s.onDev f) : Answer) = .next t ∧ P t := ⟨_, rfl, hp _ h⟩
/-- A CQ for which no reply is kept stays as it is. -/
theorem pumpCq_empty (c : Nat) (d : Dev) (h : d.hif.kept.all (fun r => r.cq != c) = true) : d.pumpCq c = d := by
  have none : d.hif.kept.filter (fun r => r.cq == c) = [] := by
    rw [List.filter_eq_nil_iff]
    intro r hr
    simpa using List.all_eq_true.mp h r hr
  unfold Dev.pumpCq
  rw [none]
  rfl
theorem on_of_rd (f : Fld) {d e : Dev} (h : d.rd f.a = e.rd f.a) : d.on f = e.on f := congrArg (· != 0) (get_of_rd f h)
theorem cfgBits_lt (k v : Nat) : cfgBits k v < 2 ^ 32 := by
  refine Nat.lt_of_le_of_lt Nat.and_le_right ?_
  split <;> decide

/-! ## Doorbells (R389) -/

section
variable (d : Dev) (hr : d.ready = true)
include hr

/-- With the endpoint present a doorbell command runs its checks. -/
theorem ready_guard {α : Type} (x y : α) : (if (!d.ready) = true then x else y) = y := if_neg (by simp [hr])
theorem sqDoorbell_inside (q v : Nat) (h : v < ringSize (d.get (HIF_SQ_CFG.SIZE_LOG2 q))) : Dev.sqDoorbell q v d = d.wr (HIF_DB_SQ q) v :=
  (ready_guard d hr _ _).trans (if_pos h)
theorem sqDoorbell_outside (q v : Nat) (h : ringSize (d.get (HIF_SQ_CFG.SIZE_LOG2 q)) ≤ v) : Dev.sqDoorbell q v d = (d.sqError q 1).ringError 0 q 1 :=
  (ready_guard d hr _ _).trans (if_neg (Nat.not_lt.mpr h))
theorem cqDoorbell_inside (q v : Nat) (h : v < ringSize (d.get (HIF_CQ_CFG.SIZE_LOG2 q))) : Dev.cqDoorbell q v d = (d.wr (HIF_DB_CQ q) v).pumpCq q :=
  (ready_guard d hr _ _).trans (if_pos h)
theorem cqDoorbell_outside (q v : Nat) (h : ringSize (d.get (HIF_CQ_CFG.SIZE_LOG2 q)) ≤ v) :
    Dev.cqDoorbell q v d = (d.set (HIF_CQ_OWED.ERR q) 1).ringError 1 q 1 :=
  (ready_guard d hr _ _).trans (if_neg (Nat.not_lt.mpr h))
theorem evtDoorbell_inside (v : Nat) (h : v < ringSize (d.get HIF_EVT_CFG.SIZE_LOG2)) : Dev.evtDoorbell v d = d.wr HIF_DB_EVT v :=
  (ready_guard d hr _ _).trans (if_pos h)
theorem evtDoorbell_outside (v : Nat) (h : ringSize (d.get HIF_EVT_CFG.SIZE_LOG2) ≤ v) : Dev.evtDoorbell v d = d.ringError 2 0 1 :=
  (ready_guard d hr _ _).trans (if_neg (Nat.not_lt.mpr h))

/-! ## Enabling and disabling (R388) -/

/-- A disabled ring is enabled by its kind. -/
theorem ringEnable_guard (k n : Nat) {α : Type} (x y : α) (h : bitAt (d.rd (ringCfg k n)) 0 = false) :
    (if (!d.ready || bitAt (d.rd (ringCfg k n)) 0) = true then x else y) = y := if_neg (by simp [hr, h])
theorem ringEnable_sq (n v : Nat) (h : bitAt (d.rd (HIF_SQ_CFG n)) 0 = false) : Dev.ringEnable 0 n v d =
    if d.on (HIF_CQ_CFG.EN (bitsOf (cfgBits 0 (withBits v 0 0 1)) 13 8)) then
      ((d.wr (HIF_SQ_CFG n) (cfgBits 0 (withBits v 0 0 1))).set (HIF_SQ_HEAD.HEAD n) 0).wr (HIF_DB_SQ n) 0
    else (d.wr (HIF_SQ_CFG n) (withBits (cfgBits 0 (withBits v 0 0 1)) 0 0 0)).sqError n 4 := ringEnable_guard d hr 0 n _ _ h
theorem ringEnable_cq (n v : Nat) (h : bitAt (d.rd (HIF_CQ_CFG n)) 0 = false) : Dev.ringEnable 1 n v d =
    (((d.wr (HIF_CQ_CFG n) (cfgBits 1 (withBits v 0 0 1))).wr (HIF_CQ_TAIL n) 0x10000).wr (HIF_DB_CQ n) 0).pumpCq n := ringEnable_guard d hr 1 n _ _ h
theorem ringEnable_evt (n v : Nat) (h : bitAt (d.rd HIF_EVT_CFG) 0 = false) : Dev.ringEnable 2 n v d =
    ((d.wr HIF_EVT_CFG (cfgBits 2 (withBits v 0 0 1))).set HIF_EVT_TAIL.TAIL 0).wr HIF_DB_EVT 0 := ringEnable_guard d hr 2 n _ _ h
theorem ringDisable_disabled (k n v : Nat) (h : bitAt (d.rd (ringCfg k n)) 0 = false) :
    Dev.ringDisable k n v d = d.wr (ringCfg k n) (cfgBits k (withBits v 0 0 0)) := (ready_guard d hr _ _).trans (if_pos (by simp [h]))
theorem ringDisable_enabled (k n v : Nat) (h : bitAt (d.rd (ringCfg k n)) 0 = true) (hb : k ≠ 1 ∨ d.boundSqs n = []) :
    Dev.ringDisable k n v d = d.wr (ringCfg k n) (withBits (d.rd (ringCfg k n)) 0 0 0) := by
  refine (ready_guard d hr _ _).trans ((if_neg (by simp [h])).trans (if_neg ?_))
  rcases hb with hb | hb <;> simp [hb]
theorem ringDisable_bound (n v : Nat) (h : d.on (HIF_CQ_CFG.EN n) = true) (hb : d.boundSqs n ≠ []) :
    Dev.ringDisable 1 n v d = (d.set (HIF_CQ_OWED.ERR n) 1).forEach (d.boundSqs n) (fun q d => d.sqError q 3) := by
  have enabled : bitAt (d.rd (HIF_CQ_CFG n)) 0 = true := (on_eq_bitAt (HIF_CQ_CFG.EN n) d rfl).symm.trans h
  exact (ready_guard d hr _ _).trans ((if_neg (by simp [ringCfg, enabled])).trans (if_pos (by simp [hb])))

/-! ## PCIe failures (R397) -/

/-- The completion whose write failed is kept before the others. -/
def Dev.keptFirst (r : KeptReply) (d : Dev) : Dev := { d with hif := { d.hif with kept := r :: d.hif.kept, lastReply := d.hif.lastReply.erase r } }
/-- What becomes of the last reply of a CQ whose write failed: it is owed again. -/
def Dev.lastKept (n : Nat) (d : Dev) : Dev :=
  match d.hif.lastReply.find? (fun (r : KeptReply) => r.cq == n) with
  | some r => (d.keptFirst r).set (HIF_CQ_OWED.COUNT n) ((d.keptFirst r).get (HIF_CQ_OWED.COUNT n) + 1)
  | none => d
/-- What a failure leaves of a ring, by its kind. -/
def Dev.failedRing (kind n : Nat) (d : Dev) : Dev :=
  match kind with
  | 0 => d.sqError n 2
  | 1 => (d.set (HIF_CQ_OWED.ERR n) 1).lastKept n
  | _ => d
omit hr in
theorem dmaError_eq (k n : Nat) : Dev.dmaError k n d = if !d.ready || !bitAt (d.rd (ringCfg k n)) 0 then d else
    (((d.wr (ringCfg k n) (withBits (d.rd (ringCfg k n)) 0 0 0)).count32 HIF_DMA_ERR_CNT 1).failedRing k n).ringError k n 2 := rfl
/-- An enabled ring is disabled, and its failure counted, shown and posted. -/
theorem dmaError_enabled (k n : Nat) (h : bitAt (d.rd (ringCfg k n)) 0 = true) : Dev.dmaError k n d =
    (((d.wr (ringCfg k n) (withBits (d.rd (ringCfg k n)) 0 0 0)).count32 HIF_DMA_ERR_CNT 1).failedRing k n).ringError k n 2 :=
  (dmaError_eq d k n).trans (if_neg (by simp [hr, h]))
/-- The state in which a CQ is disabled and the failure counted and shown. -/
def Dev.cqFailed (n : Nat) (d : Dev) : Dev :=
  ((d.wr (HIF_CQ_CFG n) (withBits (d.rd (HIF_CQ_CFG n)) 0 0 0)).count32 HIF_DMA_ERR_CNT 1).set (HIF_CQ_OWED.ERR n) 1
theorem dmaError_cq (n : Nat) (h : bitAt (d.rd (HIF_CQ_CFG n)) 0 = true) : Dev.dmaError 1 n d = ((d.cqFailed n).lastKept n).ringError 1 n 2 :=
  dmaError_enabled d hr 1 n h
omit hr
theorem lastKept_none (n : Nat) (h : d.hif.lastReply.find? (fun r => r.cq == n) = none) : d.lastKept n = d := by
  unfold Dev.lastKept
  rw [h]
theorem lastKept_some (n : Nat) (r : KeptReply) (h : d.hif.lastReply.find? (fun r => r.cq == n) = some r) : d.lastKept n =
    (d.keptFirst r).set (HIF_CQ_OWED.COUNT n) (d.get (HIF_CQ_OWED.COUNT n) + 1) := by
  unfold Dev.lastKept
  rw [h]
  rfl

end

theorem ringEnable_enabled (k n v : Nat) (d : Dev) (h : bitAt (d.rd (ringCfg k n)) 0 = true) : Dev.ringEnable k n v d = d := if_pos (by simp [h])
theorem dmaError_disabled (k n : Nat) (d : Dev) (h : bitAt (d.rd (ringCfg k n)) 0 = false) : Dev.dmaError k n d = d := if_pos (by simp [h])

/-- Errors of SQs leave every other register as it was. -/
theorem rd_sqErrors (a code : Nat) (qs : List Nat) (d : Dev) (ha : ∀ q ∈ qs, a ≠ HIF_SQ_STATUS q) :
    (d.forEach qs (fun q d => d.sqError q code)).rd a = d.rd a := by
  induction qs generalizing d with
  | nil => rfl
  | cons q qs ih =>
    have first : (d.sqError q code).rd a = d.rd a := (Dev.rd_set_other _ _ _ _ (ha q List.mem_cons_self)).trans (Dev.rd_set_other _ _ _ _ (ha q List.mem_cons_self))
    exact (ih _ (fun x hx => ha x (List.mem_cons_of_mem q hx))).trans first
theorem on_sqError (q code : Nat) (d : Dev) : (d.sqError q code).on (HIF_SQ_STATUS.ERR q) = true :=
  (on_set_other _ _ _ _ (show 3 < 32 by decide) (.inr (.inl (show 0 < 1 by decide)))).trans (on_set_flag (HIF_SQ_STATUS.ERR q) true d (show 0 < 32 by decide) rfl)
theorem code_sqError (q code : Nat) (d : Dev) (h : code < 8) : (d.sqError q code).get (HIF_SQ_STATUS.CODE q) = code :=
  (Dev.get_set_same (HIF_SQ_STATUS.CODE q) code _ (show 3 < 32 by decide)).trans (Nat.mod_eq_of_lt h)

/-! ## What the registers of a ring show after its start -/

theorem ringStarted_cfg (n w : Nat) (d : Dev) (hw : w < 2 ^ 32) : (((d.wr (HIF_SQ_CFG n) w).set (HIF_SQ_HEAD.HEAD n) 0).wr (HIF_DB_SQ n) 0).rd (HIF_SQ_CFG n) = w := by
  rw [Dev.rd_wr_other _ _ _ _ (by unfold HIF_SQ_CFG HIF_DB_SQ; omega), Dev.rd_set_other _ _ _ _ (by simp only [HIF_SQ_CFG, HIF_SQ_HEAD.HEAD, HIF_SQ_HEAD]; omega),
    Dev.rd_wr_same, Nat.mod_eq_of_lt hw]
theorem ringStarted_head (n w : Nat) (d : Dev) : (((d.wr (HIF_SQ_CFG n) w).set (HIF_SQ_HEAD.HEAD n) 0).wr (HIF_DB_SQ n) 0).get (HIF_SQ_HEAD.HEAD n) = 0 :=
  (get_of_rd (HIF_SQ_HEAD.HEAD n) (Dev.rd_wr_other _ _ _ _ (by simp only [HIF_SQ_HEAD.HEAD, HIF_SQ_HEAD, HIF_DB_SQ]; omega))).trans
    (Dev.get_set_same (HIF_SQ_HEAD.HEAD n) 0 _ (show 15 < 32 by decide))
theorem ringRefused_off (n w : Nat) (d : Dev) : ((d.wr (HIF_SQ_CFG n) (withBits w 0 0 0)).sqError n 4).on (HIF_SQ_CFG.EN n) = false := by
  have apart : HIF_SQ_CFG n ≠ HIF_SQ_STATUS n := by unfold HIF_SQ_CFG HIF_SQ_STATUS; omega
  have word : ((d.wr (HIF_SQ_CFG n) (withBits w 0 0 0)).sqError n 4).rd (HIF_SQ_CFG n) = withBits w 0 0 0 % 2 ^ 32 :=
    (Dev.rd_set_other _ _ _ _ apart).trans ((Dev.rd_set_other _ _ _ _ apart).trans (Dev.rd_wr_same _ _ _))
  rw [on_eq_bitAt _ _ rfl]
  show bitAt (((d.wr (HIF_SQ_CFG n) (withBits w 0 0 0)).sqError n 4).rd (HIF_SQ_CFG n)) 0 = false
  rw [word, bitAt_withBits_own w 0 0 (by decide)]
  rfl
theorem cqStarted_cfg (n w : Nat) (d : Dev) (hw : w < 2 ^ 32) : (((d.wr (HIF_CQ_CFG n) w).wr (HIF_CQ_TAIL n) 0x10000).wr (HIF_DB_CQ n) 0).rd (HIF_CQ_CFG n) = w := by
  rw [Dev.rd_wr_other _ _ _ _ (by unfold HIF_CQ_CFG HIF_DB_CQ; omega), Dev.rd_wr_other _ _ _ _ (by unfold HIF_CQ_CFG HIF_CQ_TAIL; omega),
    Dev.rd_wr_same, Nat.mod_eq_of_lt hw]

section
variable (n : Nat) (d : Dev)

/-- The errors of the SQs bound to a CQ leave the CQ's own registers. -/
theorem rd_boundErrors (a : Nat) (e : Dev) (ha : 0x10900 ≤ a) : (e.forEach (d.boundSqs n) (fun q d => d.sqError q 3)).rd a = e.rd a := by
  refine rd_sqErrors a 3 _ e (fun q hq => ?_)
  have below := List.mem_range.mp (List.mem_filter.mp hq).1
  unfold HIF_SQ_STATUS
  omega
variable (hn : n < 64)
include hn

theorem boundErrors_enabled : ((d.set (HIF_CQ_OWED.ERR n) 1).forEach (d.boundSqs n) (fun q d => d.sqError q 3)).on (HIF_CQ_CFG.EN n) = d.on (HIF_CQ_CFG.EN n) := by
  refine on_of_rd (HIF_CQ_CFG.EN n) ((rd_boundErrors n d _ _ ?_).trans (Dev.rd_set_other _ _ _ _ ?_))
  · simp only [HIF_CQ_CFG.EN, HIF_CQ_CFG]
    omega
  · simp only [HIF_CQ_CFG.EN, HIF_CQ_CFG, HIF_CQ_OWED.ERR, HIF_CQ_OWED]
    omega
theorem boundErrors_shown : ((d.set (HIF_CQ_OWED.ERR n) 1).forEach (d.boundSqs n) (fun q d => d.sqError q 3)).on (HIF_CQ_OWED.ERR n) = true := by
  refine (on_of_rd (HIF_CQ_OWED.ERR n) (rd_boundErrors n d _ _ ?_)).trans (on_set_flag (HIF_CQ_OWED.ERR n) true d (show 31 < 32 by decide) rfl)
  simp only [HIF_CQ_OWED.ERR, HIF_CQ_OWED]
  omega
end

/-! ## Coalescing (R396) -/

theorem coalesced_idle (v : Nat) (d : Dev) (h : d.hif.vectors.find? (fun p => p.1 == v) = none) : Dev.coalesced v d = d := by
  unfold Dev.coalesced
  rw [h]
theorem coalesced_fires (v k n : Nat) (t : LTime) (d : Dev) (h : d.hif.vectors.find? (fun p => p.1 == v) = some (k, n, t)) :
    Dev.coalesced v d = (d.reach (t + ns (1000 * d.get (HIF_VEC.TIME v)))).fireVector v := by
  unfold Dev.coalesced
  rw [h]

end Sys2Proof.Machine

open Sys2Proof Sys2Proof.Machine

/-- Settles O46: each clause is an equation of its command's meaning (R386 to R397, R412). -/
theorem ringsFollowDoorbellsAndEnables : Obligations.RingsFollowDoorbellsAndEnables := by
  refine ⟨fun s h => ?absent, fun s q v hr => ?bells, fun s k n v h => next_of_fixed (ringEnable_enabled _ _ _ _ h), ?sq, fun s n v hr h => ?cq,
    fun s n v hr h => ?evt, fun s k n v hr => ⟨fun h => next_of_dev (ringDisable_disabled _ hr _ _ _ h), fun h hb => next_of_dev (ringDisable_enabled _ hr _ _ _ h hb)⟩,
    fun s n v hr h hb => ?bound, fun s k n h => next_of_fixed (dmaError_disabled _ _ _ h), fun s n hr h => next_of_dev (dmaError_enabled _ hr 0 n.val h), ?failed,
    fun s n hr h => next_of_dev (dmaError_enabled _ hr 2 n.val h),
    fun s v => ⟨fun h => next_of_fixed (coalesced_idle _ _ h), fun k n t0 h => next_of_dev (coalesced_fires _ _ _ _ _ h)⟩⟩
  case absent =>
    exact ⟨fun q v => ⟨next_of_fixed (if_pos (by simp [h])), next_of_fixed (if_pos (by simp [h])), next_of_fixed (if_pos (by simp [h]))⟩,
      fun k n w => ⟨next_of_fixed (if_pos (by simp [h])), next_of_fixed (if_pos (by simp [h])), next_of_fixed (if_pos (by simp [h]))⟩⟩
  case bells =>
    exact ⟨fun h => next_of_dev (sqDoorbell_inside _ hr _ _ h), fun h => next_of_dev (sqDoorbell_outside _ hr _ _ h),
      fun h => next_of_dev (cqDoorbell_inside _ hr _ _ h), fun h hk => next_of_dev ((cqDoorbell_inside _ hr _ _ h).trans (pumpCq_empty _ _ hk)),
      fun h => next_of_dev (cqDoorbell_outside _ hr _ _ h), fun h => next_of_dev (evtDoorbell_inside _ hr _ h),
      fun h => next_of_dev (evtDoorbell_outside _ hr _ h)⟩
  case sq =>
    rintro s n v _ hr h rfl
    have run := ringEnable_sq _ hr n.val v.toNat h
    refine ⟨fun hc => exists_next (f := Dev.ringEnable 0 n.val v.toNat) _ (run.trans (if_pos hc)) (fun t ht => ?_),
      fun hc => exists_next (f := Dev.ringEnable 0 n.val v.toNat) _ (run.trans (if_neg (by simp [hc]))) (fun t ht => ?_)⟩
    · exact ⟨(congrArg (Dev.rd · _) ht).trans (ringStarted_cfg _ _ _ (cfgBits_lt _ _)), (congrArg (Dev.get · _) ht).trans (ringStarted_head _ _ _),
        (congrArg (Dev.rd · _) ht).trans (Dev.rd_wr_same _ _ _)⟩
    · exact ⟨(congrArg (Dev.on · _) ht).trans (ringRefused_off _ _ _), (congrArg (Dev.on · _) ht).trans (on_sqError _ _ _),
        (congrArg (Dev.get · _) ht).trans (code_sqError _ _ _ (by decide))⟩
  case cq =>
    have run := ringEnable_cq _ hr n.val v.toNat h
    refine ⟨next_of_dev run, fun hk => exists_next (f := Dev.ringEnable 1 n.val v.toNat) _ (run.trans (pumpCq_empty _ _ hk)) (fun t ht => ?_)⟩
    rw [ht]
    exact ⟨cqStarted_cfg _ _ _ (cfgBits_lt _ _), (Dev.rd_wr_other _ _ _ _ (by unfold HIF_CQ_TAIL HIF_DB_CQ; omega)).trans (Dev.rd_wr_same _ _ _), Dev.rd_wr_same _ _ _⟩
  case evt =>
    refine exists_next (f := Dev.ringEnable 2 n.val v.toNat) _ (ringEnable_evt _ hr n.val v.toNat h) (fun t ht => ?_)
    rw [ht]
    refine ⟨?_, ?_, Dev.rd_wr_same _ _ _⟩
    · refine (Dev.rd_wr_other _ _ _ _ (by decide)).trans ((Dev.rd_set_other _ _ _ _ (by decide)).trans ?_)
      exact (Dev.rd_wr_same _ _ _).trans (Nat.mod_eq_of_lt (cfgBits_lt _ _))
    · exact (get_of_rd _ (Dev.rd_wr_other _ _ _ _ (by decide))).trans (Dev.get_set_same HIF_EVT_TAIL.TAIL 0 _ (by decide))
  case bound =>
    have run := ringDisable_bound _ hr n.val v.toNat h hb
    refine ⟨next_of_dev (f := Dev.ringDisable 1 n.val v.toNat) run, exists_next (f := Dev.ringDisable 1 n.val v.toNat) _ run (fun t ht => ?_)⟩
    rw [ht]
    exact ⟨(boundErrors_enabled n.val s.dev n.isLt).trans h, boundErrors_shown n.val s.dev n.isLt⟩
  case failed =>
    intro s n d1 hr h hd
    have run : Dev.dmaError 1 n.val s.dev = (d1.lastKept n.val).ringError 1 n.val 2 := by
      subst hd
      exact dmaError_cq _ hr n.val h
    have last : d1.hif = s.dev.hif := (congrArg Dev.hif hd).trans (Dev.set_hif _ _ _)
    clear hd
    refine ⟨fun hl => next_of_dev (run.trans ?_), fun r hl => next_of_dev (run.trans ?_)⟩
    · rw [lastKept_none d1 n.val (by rw [last]; exact hl)]
    · rw [lastKept_some d1 n.val r (by rw [last]; exact hl)]
      rfl

end

section
/-! PROOFS. What the links' bring-up and the ledger's entries leave of the rest (R61 to R78, R373 to R378). -/
namespace Sys2Proof.Machine

/-- `g` reads no register, no collected event, no port and no output. -/
structure LinkBlind {β : Type} (g : Dev → β) : Prop extends Blind g where
  ports : ∀ (x : SMap Port) (d : Dev), g { d with ports := x } = g d
  emit : ∀ (o : Output) (d : Dev), g (Dev.emit o d) = g d

namespace LinkBlind
variable {β : Type} {g : Dev → β} (h : LinkBlind g)
include h

theorem setPort (n : Nat) (p : Port) (d : Dev) : g (Dev.setPort n p d) = g d := h.ports _ d
theorem mapCh (n c : Nat) (f : LinkCh → LinkCh) (d : Dev) : g (Dev.mapCh n c f d) = g d := h.ports _ d
theorem sendControl (n c k a : Nat) (x : List Byte) (d : Dev) : g (Dev.sendControl n c k a x d) = g d := h.emit _ d
theorem showHops (n : Nat) (d : Dev) : g (Dev.showHops n d) = g d := by
  unfold Dev.showHops Dev.showChannels
  extract_lets p d1 tail mask up
  rw [h.cond]
  simp only [d1, h.set]
theorem hopDown (n c k st : Nat) (d : Dev) : g (Dev.hopDown n c k st d) = g d := by
  unfold Dev.hopDown
  dsimp only
  rw [h.post, h.count, h.showHops, h.setPort]
theorem retrain (n c r : Nat) (d : Dev) : g (Dev.retrain n c r d) = g d := by
  unfold Dev.retrain
  dsimp only
  rw [when_keep g _ _ (h.hopDown _ _ _ _), h.set, h.mapCh]
theorem orderRate (n r : Nat) (d : Dev) : g (Dev.orderRate n r d) = g d := by
  have each : ∀ (c : Nat) (e : Dev), g (Dev.when (2 ≤ (e.sendControl n c 0x02 0 (leBytes 1 r)).link n c && (e.sendControl n c 0x02 0 (leBytes 1 r)).link n c ≤ 5)
      (Dev.retrain n c r) (e.sendControl n c 0x02 0 (leBytes 1 r))) = g e := by
    intro c e
    rw [when_keep g _ _ (h.retrain n c r), h.sendControl]
  unfold Dev.orderRate
  dsimp only
  rw [h.showHops, h.setPort, forN_keep g _ each]
theorem segmentReady (n r : Nat) (d : Dev) : g (Dev.segmentReady n r d) = g d := by
  unfold Dev.segmentReady
  dsimp only
  rw [h.post, h.set, h.set, h.setPort]
theorem endDiscovery (n : Nat) (d : Dev) : g (Dev.endDiscovery n d) = g d := by
  unfold Dev.endDiscovery
  extract_lets p up planned most hops r byHop limited lim d1 d2
  have limit : g d2 = g d := by
    clear_value limited lim
    unfold d2
    split <;> simp only [d1, h.set, h.setPort]
  clear_value d2
  split
  · rw [h.segmentReady, limit]
  · rw [h.orderRate, limit]
theorem bringUpStep (n : Nat) (d : Dev) : g (Dev.bringUpStep n d) = g d := by
  unfold Dev.bringUpStep
  dsimp only
  split
  · rfl
  split
  · exact h.endDiscovery n d
  split
  · exact h.segmentReady _ _ _
  · rfl
theorem channelEnable (n c : Nat) (d : Dev) : g (Dev.channelEnable n c d) = g d := by
  unfold Dev.channelEnable
  extract_lets e
  have enabled : g e = g d := h.set _ _ d
  split
  · rw [h.set, h.mapCh, enabled]
  · exact enabled
theorem startBringUp (n : Nat) (d : Dev) : g (Dev.startBringUp n d) = g d := by
  unfold Dev.startBringUp
  dsimp only
  rw [h.bringUpStep, h.set, h.setPort, forN_keep g, h.channelEnable, h.channelEnable]
  exact fun _ _ => h.mapCh _ _ _ _
theorem bringUpAll (old : Nat) (d : Dev) : g (Dev.bringUpAll old d) = g d := by
  unfold Dev.bringUpAll
  split
  · rfl
  · refine foldl_keep g _ (fun e n => ?_) _ d
    split
    · rfl
    split
    · exact h.startBringUp n e
    · rw [h.channelEnable, h.channelEnable]

end LinkBlind

/-- `g` reads no register, no collected event and nothing of the ledger. -/
structure LedgerBlind {β : Type} (g : Dev → β) : Prop extends Blind g where
  ledger : ∀ (x : Ledger) (d : Dev), g { d with ledger := x } = g d

namespace LedgerBlind
variable {β : Type} {g : Dev → β} (h : LedgerBlind g)
include h

theorem showLedger (d : Dev) : g d.showLedger = g d := by
  unfold Dev.showLedger
  dsimp only
  rw [h.wr64, h.set, h.set]
theorem checkFill (d : Dev) : g d.checkFill = g d := by
  unfold Dev.checkFill
  dsimp only
  split
  · rfl
  split
  · exact (h.post _ _ _ _).trans ((h.set _ _ _).trans ((h.set _ _ _).trans (h.ledger _ d)))
  · exact (h.set _ _ _).trans (h.ledger _ d)
theorem transact (items : List (Nat × List Byte)) (d : Dev) : g (Dev.transact items d) = g d := by
  unfold Dev.transact
  split
  · rfl
  · exact (h.checkFill _).trans ((h.showLedger _).trans (h.ledger _ d))
theorem safPost (code : Nat) (x : List Byte) (d : Dev) : g (Dev.safPost code x d) = g d := (h.post _ _ _ _).trans (h.transact _ d)

end LedgerBlind

end Sys2Proof.Machine
end

section
/-! PROOFS. What a command leaves for its end (R45, R405, R441, R499). -/
namespace Sys2Proof.Machine

/-- Fuses to blow and counters to clear apart, a command's end takes a reset that is due. -/
theorem settle_plain (s : State) (hb : s.dev.sec.burn = none) (hc : s.dev.sys.clearTally = none) : s.settle = s.takeReset := by
  unfold State.settle
  simp only [hb, hc, Option.getD_none, Option.isSome_none, Bool.false_eq_true, if_false]
theorem settle_nothingDue (s : State) (h : s.dev.nothingDue) : s.settle = s := by
  obtain ⟨hb, hc, hs, hd⟩ := h
  exact (settle_plain s hb hc).trans (if_neg (by simp [hs, hd]))
theorem settle_fuses (s : State) : s.settle.fuses = s.dev.sec.burn.getD s.fuses := takeReset_fuses _
/-- What the parts that it reads keep, keeps a state free of what is due. -/
theorem nothingDue_of_parts {d e : Dev} (hsec : e.sec.burn = d.sec.burn) (hsys : e.sys = d.sys) (hltm : e.ltm = d.ltm) (h : d.nothingDue) : e.nothingDue := by
  obtain ⟨hb, hc, hs, hd⟩ := h
  unfold Dev.nothingDue Dev.now
  rw [hsec, hsys, hltm]
  exact ⟨hb, hc, hs, hd⟩
theorem nothingDue_complete (ref : PktRef) (st : Nat) (t : LTime) (res : List Byte) (d : Dev) (h : d.nothingDue) : (d.complete ref st t res).nothingDue :=
  nothingDue_of_parts (congrArg Sec.burn (complete_sec _ _ _ _ d)) (complete_sys _ _ _ _ d) (complete_ltm _ _ _ _ d) h
theorem sys_showFuses (f : Fuses) (d : Dev) : (Dev.showFuses f d).sys = d.sys := rfl
theorem sys_showTally (b : Backup) (d : Dev) : (Dev.showTally b d).sys = d.sys := sys_of_bootPart (bootPart_showTally b d)
theorem takeReset_mode (s : State) (h : s.dev.sys.selfReset = true) : s.takeReset.dev.mode = 1 := by
  have taken : s.takeReset = s.assertReset 6 0 1 := if_pos (by simp [h])
  rw [taken, assertReset_dev, cleared_mode _ _ (by decide)]
/-- The boot flash outlives a reset (R494). -/
theorem takeReset_slots (s : State) : s.takeReset.dev.sec.slotA = s.dev.sec.slotA ∧ s.takeReset.dev.sec.slotB = s.dev.sec.slotB := by
  unfold State.takeReset
  split
  · exact ⟨rfl, rfl⟩
  · exact ⟨rfl, rfl⟩
/-- A part that resets itself is in Reset at the command's end. -/
theorem settle_mode (s : State) (h : s.dev.sys.selfReset = true) : s.settle.dev.mode = 1 := by
  refine takeReset_mode _ ?_
  dsimp only
  split
  · rw [sys_showTally]
    split
    · rw [sys_showFuses]
      exact h
    · exact h
  · split
    · rw [sys_showFuses]
      exact h
    · exact h

end Sys2Proof.Machine
end

section
/-! PROOFS. Packets that are fetched, held or started by jobs (R141, R391, R400, R419, R420, R427), installations (R441, R449, R450), and O57. -/
namespace Sys2Proof.Machine

/-! ## An opcode is found by its code -/

/-- The codes of the manual's opcodes, in the order of the model's list. -/
def opcodeCodes : List Nat :=
  [(0x0101, 9), (0x0201, 8), (0x0301, 13), (0x0401, 7), (0x0501, 5), (0x0601, 7), (0x0701, 5), (0x0801, 5), (0x0901, 4), (0x0A01, 6), (0x0B01, 4)].flatMap
    (fun r => List.range' r.1 r.2)
theorem opcodes_codes (f : Fuses) (b : Backup) : (opcodes f b).map (·.code) = opcodeCodes := rfl
theorem mem_opcodes {c : Instr} {s : State} {op : Opcode} {p : Packet} (h : packetOf c s = some (op, p)) : op ∈ opcodes s.fuses s.backup := by
  -- a command that is no packet contradicts the hypothesis; the opcode of each of the others stands in the list
  cases c <;> cases h <;> simp only [opcodes, List.mem_append, List.mem_cons, true_or, or_true]
/-- The codes differ from each other. -/
theorem opcodeCodes_nodup : opcodeCodes.Nodup := by decide +kernel
theorem opcodeOf_packet {c : Instr} {s : State} {op : Opcode} {p : Packet} (h : packetOf c s = some (op, p)) :
    opcodeOf s.fuses s.backup op.code = some op := by
  have mem := mem_opcodes h
  have nodup : ((opcodes s.fuses s.backup).map (·.code)).Nodup := opcodes_codes _ _ ▸ opcodeCodes_nodup
  cases found : opcodeOf s.fuses s.backup op.code with
  | none => exact absurd (List.find?_eq_none.mp found op mem) (by simp)
  | some o =>
    have same : o.code = op.code := by simpa using List.find?_some found
    exact congrArg some (List.inj_on_of_nodup_map nodup (List.mem_of_find?_eq_some found) mem same)
theorem opcodeOf_unknown (f : Fuses) (b : Backup) : opcodeOf f b 0xFFFF = none := by
  have absent : 0xFFFF ∉ opcodeCodes := by decide +kernel
  refine List.find?_eq_none.mpr (fun o ho hc => absent ?_)
  rw [← opcodes_codes f b]
  exact List.mem_map.mpr ⟨o, ho, by simpa using hc⟩
/-- A packet of a known code is accepted as its opcode. -/
theorem acceptCode_packet {c : Instr} {s : State} {op : Opcode} {p : Packet} (h : packetOf c s = some (op, p)) {code : Nat} (hc : op.code = code)
    (q : Packet) (ref : PktRef) (d : Dev) : d.acceptCode s.fuses s.backup code q ref = d.acceptFor op q ref := by
  unfold Dev.acceptCode
  rw [← hc, opcodeOf_packet h]
theorem acceptCode_unknown (f : Fuses) (b : Backup) (q : Packet) (ref : PktRef) (d : Dev) :
    d.acceptCode f b 0xFFFF q ref = d.complete ref stBAD_OPCODE d.now [] := by
  unfold Dev.acceptCode
  rw [opcodeOf_unknown]

/-! ## Fetching (R391) -/

theorem fetch_idle (f : Fuses) (b : Backup) (heads : List (Fin 64 × List Byte)) (host : HostRead) (d : Dev) (h : d.ready = false ∨ d.pickRing heads = none) :
    d.fetch f b heads host = d := by
  unfold Dev.fetch
  split
  · rfl
  · next hr =>
    rcases h with h | h
    · exact absurd (by simp [h]) hr
    · rw [h]
theorem fetch_served (f : Fuses) (b : Backup) (heads : List (Fin 64 × List Byte)) (host : HostRead) (d : Dev) (q : Fin 64) (bs : List Byte)
    (hr : d.ready = true) (h : d.pickRing heads = some (q, bs)) : d.fetch f b heads host =
    ((d.fetched q.val (entriesOf bs)).owe q.val).acceptCode f b (fieldAt bs 0 2) (parsePacket q bs host)
      (refOf (parsePacket q bs host) (d.fetched q.val (entriesOf bs))) := by
  unfold Dev.fetch
  rw [if_neg (by simp [hr]), h]
  rfl
theorem ready_fetched (q k : Nat) (d : Dev) (hq : q < 64) : (d.fetched q k).ready = d.ready :=
  on_of_rd HIF_STATUS.READY (Dev.rd_set_other (HIF_SQ_HEAD.HEAD q) _ _ d (by simp only [HIF_STATUS.READY, HIF_STATUS, HIF_SQ_HEAD.HEAD, HIF_SQ_HEAD]; omega))

/-! ## Held packets (R141, R400) -/

theorem heldDue_empty (f : Fuses) (b : Backup) (d : Dev) (h : d.hif.held = []) : d.heldDue f b = d := by
  unfold Dev.heldDue
  rw [h]
  rfl
/-- The state in which a held packet runs at its time. -/
def Dev.heldTaken (h : HeldPacket) (d : Dev) : Dev :=
  Dev.showHeld { d.reach h.pkt.execAt.toNat with hif := { d.hif with held := d.hif.held.erase h } }
theorem heldDue_runs {c : Instr} {s : State} {op : Opcode} {h : HeldPacket} (hd : firstDue s.dev.hif.held = some h) (hp : packetOf c s = some (op, h.pkt))
    (hc : op.code = h.op) : s.dev.heldDue s.fuses s.backup = (s.dev.heldTaken h).runOpcode op h.pkt h.ref := by
  unfold Dev.heldDue
  rw [hd]
  dsimp only
  rw [← hc, opcodeOf_packet hp]
  rfl

/-! ## Dispatch (R419, R420, R427) -/

/-- A task starts on a core. -/
def Dev.startTask (c t : Nat) (d : Dev) : Dev :=
  let d : Dev := { d with sch := { d.sch with cores := d.sch.cores ++ [(c, t)] } }
  let d := (d.count32 SCH_DISPATCH_CNT 1).setTask t { d.task t with state := 3 }
  (d.emit (.core c t true)).showSched
theorem dispatchTask_starts (bad : Bool) (d : Dev) (k : Nat) (e : Dev) (h : d.dispatchTask bad = (some k, e)) : ∃ c d1, e = Dev.startTask c k d1 := by
  unfold Dev.dispatchTask at h
  split at h
  · exact nomatch h
  split at h
  · exact nomatch h
  split at h
  · exact nomatch h
  next c pre _ =>
    obtain ⟨hk, he⟩ := Prod.mk.inj h
    obtain rfl := Option.some.inj hk
    exact ⟨c, _, he.symm⟩
theorem startTask_stands (c t : Nat) (d : Dev) : (c, t) ∈ (d.startTask c t).sch.cores ∧ ((d.startTask c t).task t).state = 3 := by
  unfold Dev.startTask
  constructor
  · rw [sch_showSched, Dev.emit_sch, cores_setTask]
    exact List.mem_append_right _ List.mem_cons_self
  · unfold Dev.task
    rw [sch_showSched, Dev.emit_sch]
    exact congrArg Task.state (task_setTask t _ _)
/-- A decision that starts no task changes nothing. -/
theorem dispatchTask_none (bad : Bool) (d : Dev) (h : (d.dispatchTask bad).1 = none) : d.dispatchTask bad = (none, d) := by
  revert h
  unfold Dev.dispatchTask
  split
  · exact fun _ => rfl
  split
  · exact fun _ => rfl
  split
  · exact fun _ => rfl
  · exact fun h => nomatch h
theorem dispatchRun_none (f : Fuses) (b : Backup) (bad : Bool) (host : HostRead) (d : Dev) (h : (d.dispatchTask bad).1 = none) :
    d.dispatchRun f b bad host = d := by
  unfold Dev.dispatchRun
  rw [dispatchTask_none bad d h]
theorem dispatchRun_starts (f : Fuses) (b : Backup) (bad : Bool) (host : HostRead) (d : Dev) (k : Nat) (e : Dev) (h : d.dispatchTask bad = (some k, e)) :
    d.dispatchRun f b bad host = e.beginJob f b k host := by
  unfold Dev.dispatchRun
  rw [h]
theorem beginJob_none (f : Fuses) (b : Backup) (k : Nat) (host : HostRead) (d : Dev) (h : k < 128 ∨ (d.task k).began = true) :
    d.beginJob f b k host = d := if_pos (by simpa using h)
theorem beginJob_skips (f : Fuses) (b : Backup) (k : Nat) (host : HostRead) (d : Dev) (hk : 128 ≤ k) (hb : (d.task k).began = false)
    (hw : d.hif.inWork.any (fun w => w.1 == 64 + k) = true) :
    d.beginJob f b k host = d.setTask k { d.task k with began := true, skipping := true, skips := (d.task k).skips + 1 } :=
  (if_neg (by simp [hb, hk])).trans (if_pos hw)
/-- The packet that a job's run accepts. -/
def jobPacket (x : Task) (host : HostRead) : Packet := { parsePacket 0 (padTo 64 x.packet) host with session := 0, execAt := 0, tol := 0, sec := none }
/-- The state in which a job's packet is accepted. -/
def Dev.jobBegun (k : Nat) (d : Dev) : Dev :=
  let d := d.setTask k { d.task k with began := true, skipping := false, runs := (d.task k).runs + 1 }
  { d with hif := { d.hif with inWork := bumpWork (64 + k) true d.hif.inWork } }
theorem beginJob_accepts (f : Fuses) (b : Backup) (k : Nat) (host : HostRead) (d : Dev) (hk : 128 ≤ k) (hb : (d.task k).began = false)
    (hw : d.hif.inWork.any (fun w => w.1 == 64 + k) = false) : d.beginJob f b k host =
    (d.jobBegun k).acceptCode f b (fieldAt (d.task k).packet 0 2) (jobPacket (d.task k) host)
      ⟨64 + k, (jobPacket (d.task k) host).tag.toNat, (d.jobBegun k).hif.epoch, false⟩ :=
  (if_neg (by simp [hb, hk])).trans (if_neg (by simp [hw]))

/-! ## INSTALL_FIRMWARE (R449, R450) -/

section
variable {p p' : Packet} {s : State} {d' : Dev} (r : Runs (opInstall s.fuses) p s.dev p' d')
include r

/-- An accepted installation ends in what settles of its reply. -/
theorem install_next {x : Reply × Dev} (h : (opInstall s.fuses).run p' (refOf p s.dev) d' = x) :
    exec (.installFirmware p) s = .next (s.onDev (fun _ => Dev.answer (refOf p s.dev) x)).settle :=
  congrArg (fun t : State => Host.Outcome.next t.settle) (State.onDev_congr (r.packet.trans (congrArg _ h)))
/-- A refused installation leaves nothing for its end. -/
theorem install_refused {st : Nat} {e : Dev} (h : (opInstall s.fuses).run p' (refOf p s.dev) d' = (.bad st, e)) (he : e.nothingDue) :
    exec (.installFirmware p) s = .next (s.onDev (fun _ => e.complete (refOf p s.dev) st e.now [])) :=
  (install_next r h).trans (congrArg Host.Outcome.next (settle_nothingDue (s.onDev _) (nothingDue_complete _ _ _ _ e he)))
end

section
variable (f : Fuses) (p : Packet) (ref : PktRef) (d : Dev)

/-- The largest image of a kind. -/
def imageMax (kind : Nat) : Nat := if kind = 1 then 3 * 2 ^ 20 else 2 ^ 24
/-- What an image of a kind does, by its kind. -/
def Dev.installImage (f : Fuses) (kind : Nat) (b : List Byte) (d : Dev) : Reply × Dev :=
  match kind with
  | 1 => d.installFirmware f b
  | 2 => d.installPackage f b
  | 3 => d.installProvisioning f b
  | _ => d.installRevocation f b
theorem install_badKind (h : par p 22 1 = 0 ∨ 4 < par p 22 1) : (opInstall f).run p ref d = (.bad stBAD_PARAMETER, d) := if_pos (by simpa using h)

section
variable (h1 : 1 ≤ par p 22 1) (h4 : par p 22 1 ≤ 4)
include h1 h4

theorem install_badLength (h : par p 32 4 < 512 ∨ imageMax (par p 22 1) < par p 32 4) : (opInstall f).run p ref d = (.bad stBAD_LENGTH, d) := by
  refine (if_neg (by simp; omega)).trans (if_pos ?_)
  simp only [Bool.or_eq_true, decide_eq_true_eq]
  exact h.symm

variable (hlo : 512 ≤ par p 32 4) (hhi : par p 32 4 ≤ imageMax (par p 22 1))
include hlo hhi

/-- An image of an allowed length is read from the host. -/
theorem install_reads : (opInstall f).run p ref d = d.hostRead p (par p 32 4) (fun b d =>
    if fieldAt b 8 4 ≠ par p 32 4 then (.bad stBAD_LENGTH, d) else d.installImage f (par p 22 1) b) := by
  refine (if_neg (by simp; omega)).trans (if_neg ?_)
  simp only [Bool.or_eq_true, decide_eq_true_eq, not_or, Nat.not_lt]
  exact ⟨hhi, hlo⟩
theorem install_noImage (h : p.host = none) : (opInstall f).run p ref d = (.bad stINTERNAL, d.count32 HIF_DMA_ERR_CNT 1) :=
  (install_reads f p ref d h1 h4 hlo hhi).trans (hostRead_error p _ _ d h)

variable (bs : List Byte) (hb : p.host = some bs)
include hb

theorem install_otherLength (h : fieldAt (padTo (par p 32 4) bs) 8 4 ≠ par p 32 4) : (opInstall f).run p ref d = (.bad stBAD_LENGTH, d) :=
  (install_reads f p ref d h1 h4 hlo hhi).trans ((hostRead_ok p _ _ d bs hb).trans (if_pos h))
theorem install_image (h : fieldAt (padTo (par p 32 4) bs) 8 4 = par p 32 4) :
    (opInstall f).run p ref d = d.installImage f (par p 22 1) (padTo (par p 32 4) bs) :=
  (install_reads f p ref d h1 h4 hlo hhi).trans ((hostRead_ok p _ _ d bs hb).trans (if_neg (not_not.mpr h)))
end
end

/-! ## Firmware images -/

section
variable (f : Fuses) (b : List Byte) (d : Dev)

/-- What the slot not running holds after an image has been written to it. -/
def Dev.nextSlot (b : List Byte) (d : Dev) : FlashSlot :=
  ⟨some (((if d.get SEC_STATUS.BOOT_SLOT = 0 then d.sec.slotA.seq else d.sec.slotB.seq).getD 0 + 1) % 2 ^ 64), b⟩
/-- The state in which a firmware image stands in the slot not running. -/
def Dev.imageWritten (b : List Byte) (d : Dev) : Dev :=
  { d with sec := if d.get SEC_STATUS.BOOT_SLOT = 0 then { d.sec with slotB := d.nextSlot b } else { d.sec with slotA := d.nextSlot b } }
/-- The state that an installed firmware image leaves; in Sealed the part resets. -/
def Dev.firmwareInstalled (b : List Byte) (d : Dev) : Dev :=
  ((d.imageWritten b).installDone 1 (fieldAt b 12 2)).when (((d.imageWritten b).installDone 1 (fieldAt b 12 2)).mode == 3) Dev.resetSelf
theorem imageWritten_toB (h : d.get SEC_STATUS.BOOT_SLOT = 0) :
    (d.imageWritten b).sec = { d.sec with slotB := ⟨some ((d.sec.slotA.seq.getD 0 + 1) % 2 ^ 64), b⟩ } := by
  simp only [Dev.imageWritten, Dev.nextSlot, if_pos h]
theorem imageWritten_toA (h : d.get SEC_STATUS.BOOT_SLOT ≠ 0) :
    (d.imageWritten b).sec = { d.sec with slotA := ⟨some ((d.sec.slotB.seq.getD 0 + 1) % 2 ^ 64), b⟩ } := by
  simp only [Dev.imageWritten, Dev.nextSlot, if_neg h]
theorem sec_firmwareInstalled : (d.firmwareInstalled b).sec = (d.imageWritten b).sec := when_keep Dev.sec _ Dev.resetSelf (fun _ => rfl) _
theorem mode_firmwareInstalled : (d.firmwareInstalled b).mode = d.mode := when_keep Dev.mode _ Dev.resetSelf (fun _ => rfl) _
theorem firmwareInstalled_outside (h : d.mode ≠ 3) : d.firmwareInstalled b = (d.imageWritten b).installDone 1 (fieldAt b 12 2) := by
  have elsewhere : (((d.imageWritten b).installDone 1 (fieldAt b 12 2)).mode == 3) = false := beq_eq_false_iff_ne.mpr h
  unfold Dev.firmwareInstalled
  rw [elsewhere]
  rfl
theorem firmwareInstalled_sealed (h : d.mode = 3) : (d.firmwareInstalled b).sys.selfReset = true := by
  have inSealed : (((d.imageWritten b).installDone 1 (fieldAt b 12 2)).mode == 3) = true := beq_iff_eq.mpr h
  unfold Dev.firmwareInstalled
  rw [inSealed]
  rfl
theorem installFirmware_noMagic (h : b.take 8 ≠ magicFw) : d.installFirmware f b = (.bad stBAD_PARAMETER, d) := if_pos h
theorem installFirmware_unverified (hm : b.take 8 = magicFw) (hv : verifyImage f b 1 true ≠ 0) :
    d.installFirmware f b = (.bad (verifyStatus (verifyImage f b 1 true)), d) := (if_neg (not_not.mpr hm)).trans (if_pos hv)
theorem installFirmware_written (hm : b.take 8 = magicFw) (hv : verifyImage f b 1 true = 0) : d.installFirmware f b =
    (.done stOK (leBytes 2 (fieldAt b 12 2) ++ leBytes 1 (flag (d.get SEC_STATUS.BOOT_SLOT = 0))), d.firmwareInstalled b) :=
  (if_neg (not_not.mpr hm)).trans (if_neg (not_not.mpr hv))

/-! ## Packages -/

/-- The package that an image holds. -/
def imagePackage (b : List Byte) : Package := { Config.packageOf b with bytes := b, fwClass := fieldAt b 14 2 }
/-- Whether a package does not fit the firmware's class or the DRAM. -/
def Dev.packageMisfits (b : List Byte) (d : Dev) : Bool :=
  decide (fieldAt b 14 2 ≠ d.get SEC_FW.CLASS) || (d.on RST_STATUS.DRAM_READY && !d.partitionOk (imagePackage b))
/-- The slot that a package takes. -/
def Dev.packageSlot (d : Dev) : Nat := if d.sys.package.isNone then 0 else 1 - d.sec.activePkg
/-- The state in which a package stands in its slot, and is the active one. -/
def Dev.packageWritten (b : List Byte) (d : Dev) : Dev :=
  { d with sec := { (if d.packageSlot = 0 then { d.sec with pkg0 := some (imagePackage b) } else { d.sec with pkg1 := some (imagePackage b) }) with activePkg := d.packageSlot } }
/-- The state that an installed package leaves. -/
def Dev.packageInstalled (b : List Byte) (d : Dev) : Dev :=
  (((d.packageWritten b).transact [(2, packageBody (imagePackage b) d.packageSlot)]).loadPackage (imagePackage b)).installDone 2 (fieldAt b 12 2)
theorem installPackage_noMagic (h : b.take 8 ≠ magicPkg) : d.installPackage f b = (.bad stBAD_PARAMETER, d) := if_pos h
theorem installPackage_unverified (hm : b.take 8 = magicPkg) (hv : verifyImage f b 2 false ≠ 0) :
    d.installPackage f b = (.bad (verifyStatus (verifyImage f b 2 false)), d) := (if_neg (not_not.mpr hm)).trans (if_pos hv)
theorem installPackage_misfits (hm : b.take 8 = magicPkg) (hv : verifyImage f b 2 false = 0) (h : d.packageMisfits b = true) :
    d.installPackage f b = (.bad stBAD_PARAMETER, d) := (if_neg (not_not.mpr hm)).trans ((if_neg (not_not.mpr hv)).trans (if_pos h))
theorem installPackage_installs (hm : b.take 8 = magicPkg) (hv : verifyImage f b 2 false = 0) (h : d.packageMisfits b = false) :
    d.installPackage f b = (.done stOK ((padTo 48 (Config.sha384 b)).take 16), d.packageInstalled b) :=
  (if_neg (not_not.mpr hm)).trans ((if_neg (not_not.mpr hv)).trans (if_neg (Bool.eq_false_iff.mp h)))

/-- The parts that the load of a package leaves: the system, line time, security and the cycle's state. -/
def Dev.loadPart (d : Dev) : Sys × Ltm × Sec × Cyc := (d.sys, d.ltm, d.sec, d.cyc)
theorem linkBlind_loadPart : LinkBlind Dev.loadPart where
  wr _ _ _ := rfl
  batch _ _ := rfl
  ports _ _ := rfl
  emit _ _ := rfl
theorem ledgerBlind_loadPart : LedgerBlind Dev.loadPart where
  wr _ _ _ := rfl
  batch _ _ := rfl
  ledger _ _ := rfl
theorem loadPart_loadPackage (k : Package) : (d.loadPackage k).loadPart = (d.packageTaken k).loadPart := by
  have cam : ∀ (t : Nat × List Byte) (e : Dev), (e.enterCam t.1 t.2).loadPart = e.loadPart := by
    intro t e
    unfold Dev.enterCam
    split <;> rfl
  have setting : ∀ (x : Nat × Word) (e : Dev), ((e.wr x.1 x.2.toNat).goLive x.1 x.2).loadPart = e.loadPart := fun _ _ => rfl
  rw [loadPackage_taken, linkBlind_loadPart.bringUpAll, Dev.showPlanned, forN_keep Dev.loadPart _ (fun _ _ => linkBlind_loadPart.set _ _ _),
    forEach_keep Dev.loadPart _ cam, forEach_keep Dev.loadPart _ setting, linkBlind_loadPart.set]
theorem loadPart_packageInstalled : (d.packageInstalled b).loadPart = ((d.packageWritten b).packageTaken (imagePackage b)).loadPart := by
  have noted : ((d.packageWritten b).transact [(2, packageBody (imagePackage b) d.packageSlot)]).loadPart = (d.packageWritten b).loadPart :=
    ledgerBlind_loadPart.transact _ _
  have taken (e e' : Dev) (h : e.loadPart = e'.loadPart) : (e.packageTaken (imagePackage b)).loadPart = (e'.packageTaken (imagePackage b)).loadPart := by
    simp only [Dev.loadPart, Prod.mk.injEq] at h ⊢
    obtain ⟨hsys, hltm, hsec, hcyc⟩ := h
    simp only [Dev.packageTaken, hsys, hltm, hsec, hcyc, and_self]
  exact (linkBlind_loadPart.post _ _ _ _).trans ((loadPart_loadPackage _ _).trans (taken _ _ noted))

omit f b d in
theorem nothingDue_packageTaken (k : Package) {e : Dev} (h : e.nothingDue) : (e.packageTaken k).nothingDue := by
  obtain ⟨hb, hc, hs, hd⟩ := h
  exact ⟨hb, hc, hs, hd⟩

/-! ## Provisioning and revocation -/

theorem installProvisioning_done (h : (d.installProvisioning f b).1 = .done stOK []) :
    ∃ g e, (d.installProvisioning f b).2 = e ∧ e.sec.burn = some g ∧ g.provisioned = true ∧ g.debugLock = true ∧ e.sys.selfReset = true := by
  revert h
  unfold Dev.installProvisioning
  dsimp only
  split
  · exact fun h => nomatch h
  split
  · exact fun h => nomatch h
  split
  · exact fun h => nomatch h
  · exact fun _ => ⟨_, _, rfl, rfl, rfl, rfl, rfl⟩
theorem verifyStatus_ne (code : Nat) : verifyStatus code ≠ stOK := by
  unfold verifyStatus
  split <;> decide
theorem installRevocation_done (h : (d.installRevocation f b).1 = .done stOK []) :
    (d.installRevocation f b).2.sec.burn = some (f.setRoot (fieldAt (imgBody b) 0 1) { f.root (fieldAt (imgBody b) 0 1) with revoked := true }) := by
  revert h
  unfold Dev.installRevocation
  dsimp only
  split
  · exact fun h => nomatch h
  split
  · exact fun h => nomatch h
  split
  · exact fun h => absurd (Reply.done.inj h).1 (verifyStatus_ne _)
  split
  · exact fun h => nomatch h
  · exact fun _ => when_keep (fun e => e.sec.burn) _ Dev.resetSelf (fun _ => rfl) _

end

section
variable (b : List Byte) (d : Dev) (hn : d.nothingDue)
include hn

theorem due_firmwareInstalled : (d.firmwareInstalled b).sec.burn = none ∧ (d.firmwareInstalled b).sys.clearTally = none := by
  obtain ⟨hburn, hclear, -, -⟩ := hn
  constructor
  · rw [sec_firmwareInstalled]
    unfold Dev.imageWritten
    dsimp only
    split <;> exact hburn
  · exact (when_keep (fun e => e.sys.clearTally) _ Dev.resetSelf (fun _ => rfl) _).trans hclear
theorem nothingDue_firmwareInstalled (h : d.mode ≠ 3) : (d.firmwareInstalled b).nothingDue := by
  obtain ⟨burn, -⟩ := due_firmwareInstalled b d hn
  have parts : (d.firmwareInstalled b).sys = d.sys ∧ (d.firmwareInstalled b).ltm = d.ltm := by
    rw [firmwareInstalled_outside b d h]
    exact ⟨rfl, rfl⟩
  exact nothingDue_of_parts (burn.trans hn.1.symm) parts.1 parts.2 hn

variable {s : State} (ref : PktRef) (res : List Byte)

/-- The end of a command that has installed a firmware image (R449). -/
theorem settle_firmwareInstalled {t : State} (ht : t = (s.onDev (fun _ => (d.firmwareInstalled b).complete ref stOK (d.firmwareInstalled b).now res)).settle) :
    t.fuses = s.fuses ∧ t.dev.mode = (if d.mode = 3 then 1 else d.mode) ∧ t.dev.sec.slotA = (d.imageWritten b).sec.slotA ∧
      t.dev.sec.slotB = (d.imageWritten b).sec.slotB := by
  obtain ⟨burn, clear⟩ := due_firmwareInstalled b d hn
  have sec : ((d.firmwareInstalled b).complete ref stOK (d.firmwareInstalled b).now res).sec = (d.imageWritten b).sec :=
    (complete_sec _ _ _ _ _).trans (sec_firmwareInstalled b d)
  have sys : ((d.firmwareInstalled b).complete ref stOK (d.firmwareInstalled b).now res).sys = (d.firmwareInstalled b).sys := complete_sys _ _ _ _ _
  have plain := settle_plain (s.onDev (fun _ => (d.firmwareInstalled b).complete ref stOK (d.firmwareInstalled b).now res))
    ((congrArg Sec.burn (complete_sec _ _ _ _ _)).trans burn) ((congrArg Sys.clearTally sys).trans clear)
  obtain ⟨slotA, slotB⟩ := takeReset_slots (s.onDev (fun _ => (d.firmwareInstalled b).complete ref stOK (d.firmwareInstalled b).now res))
  rw [← plain, ← ht] at slotA slotB
  refine ⟨?_, ?_, slotA.trans (congrArg Sec.slotA sec), slotB.trans ((congrArg Sec.slotB sec).trans rfl)⟩
  · rw [ht, plain]
    exact takeReset_fuses _
  · rw [ht]
    by_cases h3 : d.mode = 3
    · rw [if_pos h3]
      exact settle_mode _ ((congrArg Sys.selfReset sys).trans (firmwareInstalled_sealed b d h3))
    · rw [if_neg h3, settle_nothingDue _ (nothingDue_complete _ _ _ _ _ (nothingDue_firmwareInstalled b d hn h3))]
      exact (mode_of_rd _ _ (mode_complete _ _ _ _ _)).trans (mode_firmwareInstalled b d)

theorem nothingDue_packageInstalled : (d.packageInstalled b).nothingDue := by
  have parts := loadPart_packageInstalled b d
  have unburnt : (d.packageWritten b).sec.burn = none := by
    unfold Dev.packageWritten
    dsimp only
    split <;> exact hn.1
  have written : (d.packageWritten b).nothingDue := nothingDue_of_parts (unburnt.trans hn.1.symm) rfl rfl hn
  have taken := nothingDue_packageTaken (imagePackage b) written
  simp only [Dev.loadPart, Prod.mk.injEq] at parts
  obtain ⟨sys, ltm, sec, -⟩ := parts
  exact nothingDue_of_parts (congrArg Sec.burn sec) sys ltm taken
/-- The end of a command that has installed a package (R449). -/
theorem settle_packageInstalled {t : State} (ht : t = (s.onDev (fun _ => (d.packageInstalled b).complete ref stOK (d.packageInstalled b).now res)).settle) :
    t.fuses = s.fuses ∧ t.dev.sys.package = some (imagePackage b) ∧ t.dev.sec.activePkg = d.packageSlot ∧
      t.dev.cyc.working = ((imagePackage b).images.map parseImage).find? (fun g => g.num == (imagePackage b).working) := by
  have parts := loadPart_packageInstalled b d
  simp only [Dev.loadPart, Prod.mk.injEq] at parts
  obtain ⟨sys, -, sec, cyc⟩ := parts
  rw [ht, settle_nothingDue _ (nothingDue_complete _ _ _ _ _ (nothingDue_packageInstalled b d hn))]
  refine ⟨rfl, ?_, ?_, ?_⟩
  · exact congrArg Sys.package ((complete_sys _ _ _ _ _).trans sys)
  · exact congrArg Sec.activePkg ((complete_sec _ _ _ _ _).trans sec)
  · exact congrArg Cyc.working ((complete_cyc _ _ _ _ _).trans cyc)

end

theorem settle_provisioned {f : Fuses} {b : List Byte} {d : Dev} {s t : State} (ref : PktRef) (h : (d.installProvisioning f b).1 = .done stOK [])
    (ht : t = (s.onDev (fun _ => Dev.answer ref (d.installProvisioning f b))).settle) : t.fuses.provisioned = true ∧ t.fuses.debugLock = true ∧ t.dev.mode = 1 := by
  obtain ⟨g, e, he, burn, provisioned, locked, resets⟩ := installProvisioning_done f b d h
  have done : Dev.answer ref (d.installProvisioning f b) = e.complete ref stOK e.now [] := by
    rw [← Prod.mk.eta (p := d.installProvisioning f b), h, he]
    rfl
  rw [done] at ht
  have fuses : t.fuses = g := by
    rw [ht, settle_fuses]
    show Option.getD (Sec.burn (e.complete ref stOK e.now []).sec) _ = g
    rw [complete_sec, burn]
    rfl
  rw [fuses]
  refine ⟨provisioned, locked, ?_⟩
  rw [ht]
  exact settle_mode _ ((congrArg Sys.selfReset (complete_sys _ _ _ _ _)).trans resets)
theorem settle_revoked {f : Fuses} {b : List Byte} {d : Dev} {s t : State} (ref : PktRef) (h : (d.installRevocation f b).1 = .done stOK [])
    (ht : t = (s.onDev (fun _ => Dev.answer ref (d.installRevocation f b))).settle) :
    t.fuses = f.setRoot (fieldAt (imgBody b) 0 1) { f.root (fieldAt (imgBody b) 0 1) with revoked := true } := by
  have burn := installRevocation_done f b d h
  generalize d.installRevocation f b = x at h ht burn
  obtain ⟨reply, e⟩ := x
  obtain rfl : reply = .done stOK [] := h
  rw [ht, settle_fuses]
  show Option.getD (Sec.burn (e.complete ref stOK e.now []).sec) _ = _
  rw [complete_sec, burn]
  rfl

end Sys2Proof.Machine

open Sys2Proof Sys2Proof.Machine

/-- Settles O57: fetched, held and job packets run as the opcode of their code (R141, R391, R400, R427), a dispatched task stands on its core (R420), and each
outcome of an installation is an equation of its meaning, whose end is that of State.settle (R441, R449, R450). That body byte 0 of a revocation image names
the slot is the model's choice (log entry 84), as is the package's free slot (85). -/
theorem packetsAreFetchedHeldDispatchedAndInstalled : Obligations.PacketsAreFetchedHeldDispatchedAndInstalled := by
  refine ⟨?idle, ?fetch, ?noHeld, ?held, ?noTask, ?dispatch, ?install⟩
  case idle =>
    intro s heads host hn h
    refine congrArg Host.Outcome.next ?_
    rw [State.onDev_of_fixed (fetch_idle _ _ _ _ _ h)]
    exact settle_nothingDue s hn
  case fetch =>
    rintro s _ heads host q b hr hp rfl
    have run := fetch_served s.fuses s.backup heads host s.dev q b hr hp
    have settled (g : Dev → Dev) (h : s.dev.fetch s.fuses s.backup heads host = g (s.dev.fetched q.val (entriesOf b))) :
        exec (.packetFetch heads host) s = .next ((s.onDev (Dev.fetched q.val (entriesOf b))).onDev g).settle :=
      congrArg (fun t : State => Host.Outcome.next t.settle) (State.onDev_congr (g := fun d => g (d.fetched q.val (entriesOf b))) h)
    have ready : (s.dev.fetched q.val (entriesOf b)).ready = true := (ready_fetched _ _ _ q.isLt).trans hr
    refine ⟨fun c op hc hcode => ⟨_, exec_packetOf hc, settled _ (run.trans ?_)⟩, fun hcode => settled _ (run.trans ?_)⟩
    · exact (acceptCode_packet hc hcode _ _ _).trans (packet_present op _ _ ready).symm
    · rw [hcode]
      exact acceptCode_unknown _ _ _ _ _
  case noHeld =>
    intro s hn h
    refine congrArg Host.Outcome.next ?_
    rw [State.onDev_of_fixed (heldDue_empty _ _ _ h)]
    exact settle_nothingDue s hn
  case held =>
    rintro s h _ c op hd hp hc rfl
    have run := heldDue_runs hd hp hc
    have settled {e : Dev} (he : (s.dev.heldTaken h).runOpcode op h.pkt h.ref = e) : exec .scheduledPacketDue s = .next (s.onDev (fun _ => e)).settle :=
      congrArg (fun t : State => Host.Outcome.next t.settle) (State.onDev_congr (run.trans he))
    exact ⟨fun hm => settled (if_pos hm), fun hm => settled (if_neg (not_not.mpr hm))⟩
  case noTask =>
    intro s bad host hn h
    refine congrArg Host.Outcome.next ?_
    rw [State.onDev_of_fixed (dispatchRun_none _ _ _ _ _ h)]
    exact settle_nothingDue s hn
  case dispatch =>
    intro s bad host k d1 h
    have stands : (∃ c, (c, k) ∈ d1.sch.cores) ∧ (d1.task k).state = 3 := by
      obtain ⟨c, d0, hd⟩ := dispatchTask_starts bad s.dev k d1 h
      obtain ⟨core, state⟩ := startTask_stands c k d0
      rw [hd]
      exact ⟨⟨c, core⟩, state⟩
    have settled (e : Dev) (he : d1.beginJob s.fuses s.backup k host = e) : exec (.taskDispatch bad host) s = .next (s.onDev (fun _ => e)).settle :=
      congrArg (fun t : State => Host.Outcome.next t.settle) (State.onDev_congr ((dispatchRun_starts _ _ _ _ _ _ _ h).trans he))
    refine ⟨stands, fun hk => settled _ (beginJob_none _ _ _ _ _ hk), fun hk hb hw => settled _ (beginJob_skips _ _ _ _ _ hk hb hw), ?_⟩
    rintro i op _ _ hk hb hw rfl hi hcode rfl
    refine settled _ ((beginJob_accepts _ _ _ _ _ hk hb hw).trans ((acceptCode_packet hi hcode _ _ _).trans ?_))
    unfold Dev.jobBegun
    dsimp only
    rfl
  case install =>
    rintro s p p' d' _ _ r hn rfl rfl
    refine ⟨fun h => install_refused r (install_badKind _ _ _ _ h) hn, fun h1 h4 h => install_refused r (install_badLength _ _ _ _ h1 h4 h) hn,
      fun h1 h4 hlo hhi => ⟨fun h => install_refused r (install_noImage _ _ _ _ h1 h4 hlo hhi h) hn, ?_⟩⟩
    rintro bs _ hb rfl
    have image := install_image s.fuses p' (refOf p s.dev) d' h1 h4 hlo hhi bs hb
    have other := install_otherLength s.fuses p' (refOf p s.dev) d' h1 h4 hlo hhi bs hb
    generalize padTo (par p' 32 4) bs = b at *
    have kindOf (k : Nat) (hk : par p' 22 1 = k) (hl : fieldAt b 8 4 = par p' 32 4) :
        (opInstall s.fuses).run p' (refOf p s.dev) d' = d'.installImage s.fuses k b := hk ▸ image hl
    refine ⟨fun h => install_refused r (other h) hn, fun hl hk hm => install_refused r ((kindOf 1 hk hl).trans (installFirmware_noMagic _ _ _ hm)) hn,
      fun hl hk hm hv => install_refused r ((kindOf 1 hk hl).trans (installFirmware_unverified _ _ _ hm hv)) hn, fun hl hk hm hv => ?firmware,
      fun hl hk hm => install_refused r ((kindOf 2 hk hl).trans (installPackage_noMagic _ _ _ hm)) hn, ?package,
      fun hl hk => ⟨_, install_next r (kindOf 3 hk hl), rfl, fun h => settle_provisioned _ h rfl⟩,
      fun hl hk => ⟨_, install_next r (kindOf 4 hk hl), rfl, ?revoked⟩⟩
    case firmware =>
      have run := install_next r ((kindOf 1 hk hl).trans (installFirmware_written _ _ _ hm hv))
      obtain ⟨fuses, mode, slotA, slotB⟩ := settle_firmwareInstalled (s := s) b d' hn (refOf p s.dev) _ rfl
      refine ⟨_, run, fuses, mode, fun h => ?_, fun h => ?_⟩
      · have sec := imageWritten_toB b d' h
        exact ⟨slotB.trans (congrArg Sec.slotB sec), slotA.trans ((congrArg Sec.slotA sec).trans rfl)⟩
      · have sec := imageWritten_toA b d' h
        exact ⟨slotA.trans (congrArg Sec.slotA sec), slotB.trans ((congrArg Sec.slotB sec).trans rfl)⟩
    case package =>
      rintro _ hl hk hm rfl
      refine ⟨fun hv => install_refused r ((kindOf 2 hk hl).trans (installPackage_unverified _ _ _ hm hv)) hn,
        fun hv h => install_refused r ((kindOf 2 hk hl).trans (installPackage_misfits _ _ _ hm hv h)) hn, fun hv h => ?_⟩
      have run := install_next r ((kindOf 2 hk hl).trans (installPackage_installs _ _ _ hm hv h))
      exact ⟨_, run, settle_packageInstalled b d' hn (refOf p s.dev) _ rfl⟩
    case revoked =>
      rintro _ rfl h
      exact settle_revoked _ h rfl

end

section
/-! PROOFS. Certificates, quotes, sessions, debug tokens and scopes (R387, R451 to R460), and O47. -/
namespace Sys2Proof.Machine

section
variable (f : Fuses) (p : Packet) (ref : PktRef) (d : Dev)

theorem sessionLapse_unproved (sid : Nat) (h : d.sec.sessions.any (fun x => x.sid == sid && x.lapses.isSome) = true) :
    d.sessionLapse sid = d.endSession sid 0 := if_pos h
theorem sessionLapse_none (sid : Nat) (h : d.sec.sessions.any (fun x => x.sid == sid && x.lapses.isSome) = false) : d.sessionLapse sid = d :=
  if_neg (by simp [h])

/-! ## GET_CERTIFICATE and ATTEST (R451, R452) -/

/-- An error of the host ends a command that writes to it with INTERNAL (R387). -/
theorem hostWrite_error (a : Nat) (x : List Byte) (ok : Reply) (h : p.host = none) :
    Dev.hostWrite p a x ok d = (.bad stINTERNAL, d.count32 HIF_DMA_ERR_CNT 1) := by simp [Dev.hostWrite, h]
/-- The certificate that a packet names. -/
def Dev.namedCert (p : Packet) (d : Dev) : List Byte := if par p 22 1 = 0 then d.sec.certDev else d.sec.certCa
theorem getCert_badKind (h : 1 < par p 22 1) : opGetCert.run p ref d = (.bad stBAD_PARAMETER, d) := if_pos h

section
variable (hk : par p 22 1 ≤ 1)
include hk

theorem getCert_absent (h : d.namedCert p = [] ∨ (par p 22 1 = 0 ∧ certMatches d.sec.idSecret (d.namedCert p) = false)) :
    opGetCert.run p ref d = (.bad stNO_RESOURCE, d) := by
  refine (if_neg (Nat.not_lt.mpr hk)).trans (if_pos ?_)
  rw [Bool.or_eq_true, List.isEmpty_iff, Bool.and_eq_true, decide_eq_true_eq, Bool.not_eq_true']
  exact h

variable (hc : d.namedCert p ≠ []) (hm : par p 22 1 = 1 ∨ certMatches d.sec.idSecret (d.namedCert p) = true)
include hc hm

/-- A certificate that is present is written when it fits. -/
theorem getCert_present : opGetCert.run p ref d = if par p 32 2 < outLen p (d.namedCert p).length then (.bad stBAD_LENGTH, d)
    else d.hostWrite p (par p 24 8) (d.namedCert p) (.done stOK (leBytes 2 (outLen p (d.namedCert p).length))) := by
  refine (if_neg (Nat.not_lt.mpr hk)).trans (if_neg ?_)
  rw [Bool.or_eq_true, List.isEmpty_iff, Bool.and_eq_true, decide_eq_true_eq, Bool.not_eq_true']
  rintro (h | ⟨h0, h⟩)
  · exact hc h
  · rcases hm with hm | hm
    · omega
    · exact Bool.noConfusion (hm.symm.trans h)
end

/-! ## OPEN_SESSION, step 0 (R453) -/

theorem openSession_badStep (h : 1 < par p 22 1) : (opOpenSession f).run p ref d = (.bad stBAD_PARAMETER, d) := by
  simp only [opOpenSession]
  split
  · omega
  · omega
  · rfl
theorem openSession_exchanges (h : par p 22 1 = 0) : (opOpenSession f).run p ref d = if p.len.toNat = 9 then d.openExchange f p else (.bad stBAD_LENGTH, d) := by
  simp only [opOpenSession, h]
theorem openSession_proves (h : par p 22 1 = 1) : (opOpenSession f).run p ref d = if p.len.toNat = 13 then d.openProof f p else (.bad stBAD_LENGTH, d) := by
  simp only [opOpenSession, h]
theorem openSession_badLength (h : (par p 22 1 = 0 ∧ p.len.toNat ≠ 9) ∨ (par p 22 1 = 1 ∧ p.len.toNat ≠ 13)) :
    (opOpenSession f).run p ref d = (.bad stBAD_LENGTH, d) := by
  rcases h with ⟨h0, hl⟩ | ⟨h1, hl⟩
  · exact (openSession_exchanges f p ref d h0).trans (if_neg hl)
  · exact (openSession_proves f p ref d h1).trans (if_neg hl)
theorem openExchange_full (h : 8 ≤ d.sec.sessions.length) : d.openExchange f p = (.bad stNO_RESOURCE, d) := if_pos h
/-- An exchange adds one session that is to be proved within a second. -/
theorem openExchange_adds (h : d.sec.sessions.length < 8) (bs : List Byte) (hb : p.host = some bs) : ∃ x st e, d.openExchange f p = (.done stOK st, e) ∧
    e.sec.sessions = d.sec.sessions ++ [x] ∧ x.lapses = some (d.now + ns 1000000000) ∧ x.granted = 0 ∧ x.requested = ext p 129 4 := by
  unfold Dev.openExchange
  rw [if_neg (Nat.not_le.mpr h)]
  dsimp only [Dev.drawBytes]
  rw [hb]
  dsimp only
  rw [hostWrite_ok _ _ _ _ _ bs hb]
  exact ⟨_, _, _, rfl, rfl, rfl, rfl, rfl⟩
theorem openExchange_error (h : d.sec.sessions.length < 8) (hb : p.host = none) : ∃ e, d.openExchange f p = (.bad stINTERNAL, e) ∧
    e.sec.sessions = d.sec.sessions ∧ e.rd HIF_DMA_ERR_CNT = (d.count32 HIF_DMA_ERR_CNT 1).rd HIF_DMA_ERR_CNT := by
  unfold Dev.openExchange
  rw [if_neg (Nat.not_le.mpr h)]
  dsimp only [Dev.drawBytes]
  rw [hb]
  exact ⟨_, rfl, rfl, rfl⟩

/-! ## OPEN_SESSION, step 1 (R453) -/

/-- The credentials that may prove a session: those of the package, outside Sealed. -/
def Dev.credentials (d : Dev) : List (List Byte × Nat) := if d.mode = 3 then [] else (d.sys.package.map (·.credentials)).getD []
/-- The classes that a credential's key may have, if the key is the credential's. -/
def Dev.keyMask (f : Fuses) (p : Packet) (d : Dev) : Option Nat :=
  if par p 26 1 < 4 then (if f.keyOk (par p 26 1) 2 (extBytes p 0 97) then some (2 ^ 32 - 1) else none)
  else match d.credentials[par p 26 1 - 16]? with
    | some c => if padTo 48 (Config.sha384 (extBytes p 0 97)) == padTo 48 c.1 then some c.2 else none
    | none => none
/-- Whether a packet names a credential that exists. -/
def Dev.knownCredential (p : Packet) (d : Dev) : Bool := par p 26 1 < 4 || (16 ≤ par p 26 1 && decide (par p 26 1 - 16 < d.credentials.length))
theorem openProof_unknownSession (h : d.sec.sessions.find? (fun x => x.sid == par p 24 2 && x.lapses.isSome) = none) :
    d.openProof f p = (.bad stBAD_PARAMETER, d) := by
  unfold Dev.openProof
  simp only [h]
theorem openProof_unknownCredential (h : d.knownCredential p = false) : d.openProof f p = (.bad stBAD_PARAMETER, d) := by
  unfold Dev.openProof
  dsimp only
  split
  · rfl
  · exact if_pos ((congrArg (!·) h).trans rfl)

section
variable (x : Session) (hx : d.sec.sessions.find? (fun x => x.sid == par p 24 2 && x.lapses.isSome) = some x) (hc : d.knownCredential p = true)
include hx hc

/-- A proof with a known credential is judged by its key and its signature. -/
theorem openProof_judged : d.openProof f p = match d.keyMask f p with
    | some m =>
      if Config.ecdsaOk (extBytes p 0 97) x.th (extBytes p 97 96) then
        (.done stOK (leBytes 4 (Nat.land x.requested m)), ((d.mapSession (par p 24 2) (fun y => { y with granted := Nat.land x.requested m, lapses := none })).showSessions).post
          0x0F00 0x0F02 (leBytes 2 (par p 24 2) ++ leBytes 4 (Nat.land x.requested m) ++ leBytes 1 (par p 26 1)))
      else (.bad stBAD_SIGNATURE, d.endSession (par p 24 2) 0)
    | none => (.bad stBAD_SIGNATURE, d.endSession (par p 24 2) 0) := by
  have known : ¬(!d.knownCredential p) = true := by rw [hc]; decide
  unfold Dev.openProof
  dsimp only
  rw [hx]
  exact if_neg known
end

/-! ## CLOSE_SESSION (R455) -/

theorem closeSession_own (hf : hasFlag p 1 = true) (h : p.session.toNat = par p 22 2) :
    opCloseSession.run p ref d = (.done stOK [], d.endSession (par p 22 2) 0) := if_pos (by simp [hf, h])
theorem closeSession_other (h : hasFlag p 1 = false ∨ p.session.toNat ≠ par p 22 2) :
    opCloseSession.run p ref d = (.bad stNOT_AUTHENTICATED, d.count32 SEC_AUTH_FAIL_CNT 1) := if_neg (by rcases h with h | h <;> simp [h])

/-! ## Debug tokens and scopes (R457, R458, R460) -/

/-- Whether a token's fields and key fit. -/
def Dev.tokenFits (f : Fuses) (t : List Byte) (d : Dev) : Bool :=
  t.take 8 == magicToken && fieldAt t 8 8 == f.serial && d.sec.challenge == some ((t.drop 16).take 32) && decide (fieldAt t 48 1 < 16) &&
    decide (1 ≤ fieldAt t 50 4) && decide (fieldAt t 50 4 ≤ 86400) && f.keyOk (fieldAt t 49 1) 4 (padTo 97 ((t.drop 64).take 97))
/-- Whether a token's signature holds. -/
def tokenSigned (t : List Byte) : Bool := Config.ecdsaOk (padTo 97 ((t.drop 64).take 97)) (padTo 256 (t.take 256)) (padTo 96 ((t.drop 256).take 96))

section
variable (t : List Byte)

theorem debugToken_barred (h : 3 ≤ d.get SEC_TOKEN_FAIL_CNT.COUNT) : d.debugToken f t = (none, d) := if_pos h
/-- The state in which a failed token is counted. -/
def Dev.tokenFailed (d : Dev) : Dev := d.set SEC_TOKEN_FAIL_CNT.COUNT (d.get SEC_TOKEN_FAIL_CNT.COUNT + 1)
/-- The state in which a token has opened its scope. -/
def Dev.scopeOpened (t : List Byte) (d : Dev) : Dev :=
  ((Dev.set SEC_TOKEN_FAIL_CNT.COUNT 0 { d with sec := { d.sec with scopes := d.sec.scopes ++ [(fieldAt t 48 1, d.now + ns (fieldAt t 50 4 * 1000000000))], opened := true } }).showScopes).post
    0x0F00 0x0F05 (leBytes 1 (fieldAt t 48 1) ++ leBytes 1 (fieldAt t 49 1) ++ leBytes 4 (fieldAt t 50 4))
theorem debugToken_judged (h : d.get SEC_TOKEN_FAIL_CNT.COUNT < 3) : d.debugToken f t =
    if d.tokenFits f t && tokenSigned t then (some (fieldAt t 48 1), d.scopeOpened t) else (none, d.tokenFailed) := if_neg (Nat.not_le.mpr h)
theorem count_tokenFailed (h : d.get SEC_TOKEN_FAIL_CNT.COUNT < 3) : d.tokenFailed.get SEC_TOKEN_FAIL_CNT.COUNT = d.get SEC_TOKEN_FAIL_CNT.COUNT + 1 :=
  (Dev.get_set_same SEC_TOKEN_FAIL_CNT.COUNT _ d (by decide)).trans (Nat.mod_eq_of_lt (Nat.lt_of_le_of_lt h (by decide)))
theorem count_scopeOpened : (d.scopeOpened t).get SEC_TOKEN_FAIL_CNT.COUNT = 0 := by
  refine (get_of_rd SEC_TOKEN_FAIL_CNT.COUNT ((Dev.rd_wr_other _ _ _ _ (by decide)).trans (Dev.rd_set_other _ _ _ _ (by decide)))).trans ?_
  exact Dev.get_set_same SEC_TOKEN_FAIL_CNT.COUNT 0 _ (by decide)
end

theorem mailbox_closed (x : Option (List Byte)) (h : [3, 4, 11].contains d.mode = false) : d.mailbox f x = d := if_pos (by rw [h]; rfl)
theorem mailbox_challenge (h : [3, 4, 11].contains d.mode = true) : d.mailbox f none = d.newChallenge.2.emit (.jtag d.newChallenge.1) :=
  if_neg (by rw [h]; decide)
theorem mailbox_token (x : List Byte) (h : [3, 4, 11].contains d.mode = true) : d.mailbox f (some x) =
    (d.debugToken f (padTo 352 x)).2.emit (.jtag (match (d.debugToken f (padTo 352 x)).1 with | some sc => leBytes 1 sc | none => [])) := by
  refine (if_neg (by rw [h]; decide)).trans ?_
  dsimp only
  generalize d.debugToken f (padTo 352 x) = r
  obtain ⟨_ | sc, e⟩ := r <;> rfl

/-! ## UNLOCK_DEBUG (R457) -/

theorem unlockDebug_badStep (h : 1 < par p 22 1) : (opUnlockDebug f).run p ref d = (.bad stBAD_PARAMETER, d) := by
  simp only [opUnlockDebug]
  split
  · omega
  · omega
  · rfl
theorem unlockDebug_challenges (h : par p 22 1 = 0) : (opUnlockDebug f).run p ref d =
    if par p 24 8 = 0 then (.done stOK (d.newChallenge.1.take 16), d.newChallenge.2)
    else d.newChallenge.2.hostWrite p (par p 24 8) d.newChallenge.1 (.done stOK (d.newChallenge.1.take 16)) := by
  simp only [opUnlockDebug, h]
/-- A token is read from the host and judged. -/
theorem unlockDebug_reads (h : par p 22 1 = 1) : (opUnlockDebug f).run p ref d = d.hostRead p 352 (fun t d =>
    match (d.debugToken f t).1 with
    | some sc => (.done stOK (leBytes 1 sc), (d.debugToken f t).2)
    | none => (.bad stBAD_SIGNATURE, (d.debugToken f t).2)) := by
  have each : ∀ (t : List Byte) (d : Dev), (match d.debugToken f t with
      | (some sc, d) => ((.done stOK (leBytes 1 sc), d) : Reply × Dev)
      | (none, d) => (.bad stBAD_SIGNATURE, d)) = match (d.debugToken f t).1 with
        | some sc => (.done stOK (leBytes 1 sc), (d.debugToken f t).2)
        | none => (.bad stBAD_SIGNATURE, (d.debugToken f t).2) := by
    intro t d
    obtain ⟨_ | sc, e⟩ := d.debugToken f t <;> rfl
  simp only [opUnlockDebug, h]
  exact congrArg (fun k => d.hostRead p 352 k) (funext (fun t => funext (each t)))

theorem scopeExpiry_none (h : d.sec.scopes = []) : d.scopeExpiry = d := by
  unfold Dev.scopeExpiry
  rw [h]
  rfl
theorem scopeExpiry_closes (t : LTime) (h : (d.sec.scopes.map (·.2)).min? = some t) :
    d.scopeExpiry.sec.scopes = d.sec.scopes.filter (fun x => decide (t < x.2)) ∧ d.scopeExpiry.now = max d.now t := by
  unfold Dev.scopeExpiry
  rw [h]
  exact ⟨rfl, rfl⟩

end

end Sys2Proof.Machine

open Sys2Proof Sys2Proof.Machine

/-- Settles O47: each clause is an equation of its opcode's meaning on an accepted packet, or of its command's meaning (R387, R451 to R460). That a proof of an
unknown session is BAD_PARAMETER, and that the eight sessions count those not proved yet, is the model's choice (log entry 86). -/
theorem sessionsCertificatesAndDebugScopes : Obligations.SessionsCertificatesAndDebugScopes := by
  refine ⟨fun s sid => ⟨fun h => next_of_fixed (sessionLapse_none _ _ h), fun h => next_of_dev (sessionLapse_unproved _ _ h)⟩, ?cert, ?attest, ?exchange, ?proof,
    fun s p p' d' r => ⟨fun hf h => ⟨_, rfl, r.next (congrArg _ (closeSession_own _ _ _ hf h))⟩, fun h => ⟨_, rfl, r.next (congrArg _ (closeSession_other _ _ _ h))⟩⟩,
    ?challenge, ?fresh, ?unlock, ?closed, ?mailbox, ?token, ?expiry⟩
  case cert =>
    rintro s p p' d' _ r rfl
    refine ⟨fun h => r.next (congrArg _ (getCert_badKind _ _ _ h)), fun hk h => r.next (congrArg _ (getCert_absent _ _ _ hk h)),
      fun hk hc hm hl => r.next (congrArg _ ((getCert_present _ _ _ hk hc hm).trans (if_pos hl))), fun bs hk hc hm hl hb => r.next ?_,
      fun hk hc hm hl hb => ⟨_, rfl, r.next ?_⟩⟩
    · exact congrArg (Dev.answer _) ((getCert_present _ _ _ hk hc hm).trans ((if_neg (Nat.not_lt.mpr hl)).trans (hostWrite_ok _ _ _ _ _ bs hb)))
    · exact congrArg (Dev.answer _) ((getCert_present _ _ _ hk hc hm).trans ((if_neg (Nat.not_lt.mpr hl)).trans (hostWrite_error _ _ _ _ _ hb)))
  case attest =>
    rintro s p p' d' _ r rfl
    exact ⟨fun bs hb => r.next (congrArg (Dev.answer _) (hostWrite_ok _ _ _ _ _ bs hb)), fun hb => ⟨_, rfl, r.next (congrArg (Dev.answer _) (hostWrite_error _ _ _ _ _ hb))⟩⟩
  case exchange =>
    intro s p p' d' r
    refine ⟨fun h => r.next (congrArg _ (openSession_badStep _ _ _ _ h)), fun h => r.next (congrArg _ (openSession_badLength _ _ _ _ h)),
      fun h0 hl h => r.next (congrArg _ ((openSession_exchanges _ _ _ _ h0).trans ((if_pos hl).trans (openExchange_full _ _ _ h)))), fun bs h0 hl h hb => ?_,
      fun h0 hl h hb => ?_⟩
    · obtain ⟨x, res, e, run, sessions, lapses, granted, requested⟩ := openExchange_adds s.fuses p' d' h bs hb
      refine ⟨_, x, r.next (congrArg _ ((openSession_exchanges _ _ _ _ h0).trans ((if_pos hl).trans run))), ?_, lapses, granted, requested⟩
      exact (congrArg Sec.sessions (complete_sec _ _ _ _ _)).trans sessions
    · obtain ⟨e, run, sessions, counted⟩ := openExchange_error s.fuses p' d' h hb
      refine ⟨_, r.next (congrArg _ ((openSession_exchanges _ _ _ _ h0).trans ((if_pos hl).trans run))), (congrArg Sec.sessions (complete_sec _ _ _ _ _)).trans sessions, ?_⟩
      exact ((replyBlind_rd (.inl (by decide))).complete (refOf p s.dev) _ _ _ _ p.sq.isLt).trans counted
  case proof =>
    rintro s p p' d' _ _ _ r h1 hl rfl rfl rfl
    have run := (openSession_proves s.fuses p' (refOf p s.dev) d' h1).trans (if_pos hl)
    refine ⟨?_, ?_⟩
    · rintro (h | h)
      · exact r.next (congrArg _ (run.trans (openProof_unknownSession _ _ _ h)))
      · exact r.next (congrArg _ (run.trans (openProof_unknownCredential _ _ _ h)))
    · intro x mask hx hc hmask
      have judged := run.trans (openProof_judged s.fuses p' d' x hx hc)
      replace hmask : mask = d'.keyMask s.fuses p' := hmask
      rw [← hmask] at judged
      refine ⟨?_, ?_⟩
      · rintro rfl
        exact ⟨_, rfl, r.next (congrArg _ judged)⟩
      · rintro m _ _ rfl rfl rfl
        refine r.next ((congrArg _ judged).trans ?_)
        dsimp only
        split <;> rfl
  case challenge =>
    rintro s p p' d' _ r h0 rfl
    have run := unlockDebug_challenges s.fuses p' (refOf p s.dev) d' h0
    exact ⟨fun h => r.next (congrArg (Dev.answer _) (run.trans (if_pos h))),
      fun bs h hb => r.next (congrArg (Dev.answer _) (run.trans ((if_neg h).trans (hostWrite_ok _ _ _ _ _ bs hb)))),
      fun h hb => ⟨_, rfl, r.next (congrArg (Dev.answer _) (run.trans ((if_neg h).trans (hostWrite_error _ _ _ _ _ hb))))⟩⟩
  case fresh =>
    exact fun d => ⟨rfl, padTo_length _ _, rfl⟩
  case unlock =>
    refine fun s p p' d' r => ⟨fun h => r.next (congrArg _ (unlockDebug_badStep _ _ _ _ h)), fun h1 hb => ⟨_, rfl, r.next ?_⟩, ?_⟩
    · exact congrArg (Dev.answer _) ((unlockDebug_reads _ _ _ _ h1).trans (hostRead_error _ _ _ _ hb))
    · rintro bs _ h1 hb rfl
      refine r.next ((congrArg (Dev.answer _) ((unlockDebug_reads _ _ _ _ h1).trans (hostRead_ok _ _ _ _ bs hb))).trans ?_)
      generalize d'.debugToken s.fuses (padTo 352 bs) = x
      obtain ⟨_ | sc, e⟩ := x <;> rfl
  case closed =>
    exact fun s t h3 h4 h11 => next_of_fixed (mailbox_closed _ _ _ (by simp [h3, h4, h11]))
  case mailbox =>
    intro s h
    have opened : [3, 4, 11].contains s.dev.mode = true := by rcases h with h | h | h <;> rw [h] <;> rfl
    refine ⟨⟨_, rfl, next_of_dev (mailbox_challenge _ _ opened)⟩, ?_⟩
    rintro x _ rfl
    refine next_of_dev ((mailbox_token _ _ _ opened).trans ?_)
    rfl
  case token =>
    rintro f t d _ _ rfl rfl
    refine ⟨debugToken_barred f d t, fun h hf => ?_, fun h hf => ?_⟩
    · have unfit : (d.tokenFits f t && tokenSigned t) = false := by
        rw [show d.tokenFits f t = false from hf]
        rfl
      exact (debugToken_judged f d t h).trans (if_neg (by rw [unfit]; decide))
    · have judged := debugToken_judged f d t h
      rw [show d.tokenFits f t = true from hf, Bool.true_and] at judged
      rw [judged]
      change _ = (if tokenSigned t = true then _ else _) ∧ _ = (if tokenSigned t = true then _ else _) ∧ _ = (if tokenSigned t = true then _ else _)
      cases tokenSigned t with
      | false => exact ⟨rfl, rfl, count_tokenFailed d h⟩
      | true => exact ⟨rfl, rfl, count_scopeOpened d t⟩
  case expiry =>
    refine fun s => ⟨fun h => next_of_fixed (scopeExpiry_none _ h), fun t0 h => ?_⟩
    exact ⟨_, rfl, scopeExpiry_closes s.dev t0 h⟩

end

section
/-! PROOFS. Frames of the mirror link as the standby and the holder take them (R286, R292, R294 to R301, R303, R306 to R310), and O28 and O29. -/
namespace Sys2Proof.Machine

/-! ## A frame that fails the checks of the link (R292) -/

section
variable {d d1 : Dev} {l : Nat} {hdr : List Byte} {ok : Bool}

theorem summaryFrame_unread (n : Nat) (crcs : List (Option Nat)) (h : d.mirIn l 7 hdr ok = (none, d1)) : d.summaryFrame l hdr ok n crcs = d1 := by
  simp only [Dev.summaryFrame, h]
theorem correctionFrame_unread (n m : Nat) (full : List (Nat × List Byte)) (h : d.mirIn l 4 hdr ok = (none, d1)) :
    d.correctionFrame l hdr ok n m full = d1 := by
  simp only [Dev.correctionFrame, h]
theorem digestFrame_unread (ds : List Nat) (la : Nat) (h : d.mirIn l 5 hdr ok = (none, d1)) : d.digestFrame l hdr ok ds la = d1 := by
  simp only [Dev.digestFrame, h]
theorem sliceFrame_unread (data : List Byte) (h : d.mirIn l 6 hdr ok = (none, d1)) : d.sliceFrame l hdr ok data = d1 := by
  simp only [Dev.sliceFrame, h]
theorem reportFrame_unread (pr : Nat) (no : Option (Nat × Nat)) (h : d.mirIn l 8 hdr ok = (none, d1)) : d.reportFrame l hdr ok pr no = d1 := by
  simp only [Dev.reportFrame, h]
theorem bulkFrame_unread (ps : List BulkPart) (h : d.mirIn l 9 hdr ok = (none, d1)) : d.bulkFrame l hdr ok ps = d1 := by
  simp only [Dev.bulkFrame, h]
theorem controlFrame_unread (c : MirControl) (h : d.mirIn l 10 hdr ok = (none, d1)) : d.controlFrame l hdr ok c = d1 := by
  simp only [Dev.controlFrame, h]

end

/-! ## LEASE_FRAME (R286, R294) -/

section
variable {d d1 : Dev} {l : Nat} {b : List Byte} {r : Option MirHdr}
  (hr : d.mirIn l 2 b (b.length == 116 && crc32 ((b.drop 16).take 96) == fieldAt b 112 4) = (r, d1))
include hr

theorem leaseFrame_ignored (h : r = none ∨ d1.permit = true ∨ fieldAt ((b.drop 16).take 96) 0 4 ≠ d1.rd MIR_EPOCH) : d.leaseFrame l b = d1 := by
  simp only [Dev.leaseFrame, hr]
  cases r with
  | none => rfl
  | some h0 =>
    refine if_pos ?_
    rcases h with h | h | h
    · exact absurd h (by simp)
    · simp [h]
    · simp [h]
theorem leaseFrame_taken {h0 : MirHdr} (h : r = some h0) (hp : d1.permit = false) (he : fieldAt ((b.drop 16).take 96) 0 4 = d1.rd MIR_EPOCH) :
    ∃ m : Mir, m.lease = some (h0.cycle, (b.drop 16).take 96) ∧ d.leaseFrame l b =
      ((Dev.set MIR_LEASE.IN_FORCE (fieldAt ((b.drop 16).take 96) 7 1 % 128) { d1 with mir := m }).showRole).showStopFrames := by
  subst h
  simp only [Dev.leaseFrame, hr]
  rw [if_neg (by simp [hp, he])]
  exact ⟨_, rfl, rfl⟩

end

/-- Showing the role and the stop frames keeps the lease. -/
theorem lease_shown (d : Dev) : (d.showRole.showStopFrames).mir.lease = d.mir.lease := by
  have posted : ∀ (xs : List Nat) (b : Nat) (e : Dev), (e.forEach xs (fun n => Dev.post 0x01C0 0x01CD (leBytes 1 n ++ leBytes 1 b))).mir = e.mir :=
    fun xs b e => forEach_keep Dev.mir (fun n => Dev.post 0x01C0 0x01CD (leBytes 1 n ++ leBytes 1 b)) (fun _ _ => rfl) xs e
  unfold Dev.showStopFrames
  dsimp only
  rw [Dev.set_mir, posted, posted]
  rfl
theorem inForce_shown (v : Nat) (d : Dev) (h : v < 128) : (((Dev.set MIR_LEASE.IN_FORCE v d).showRole).showStopFrames).get MIR_LEASE.IN_FORCE = v := by
  have kept : (((Dev.set MIR_LEASE.IN_FORCE v d).showRole).showStopFrames).rd MIR_LEASE = (Dev.set MIR_LEASE.IN_FORCE v d).rd MIR_LEASE :=
    (rd_showStopFrames _ _ (by decide)).trans (Dev.rd_set_other _ _ _ _ (by decide))
  exact (get_of_rd MIR_LEASE.IN_FORCE kept).trans ((Dev.get_set_same _ _ _ (by decide)).trans (Nat.mod_eq_of_lt h))

/-! ## LOG_FRAME (R292, R296, R303) -/

/-- A part of the holder's log joins the parts received; a wake in it starts the lanes. -/
def Dev.logTaken (h : MirHdr) (es : List (Nat × LogAct)) (d : Dev) : Dev :=
  let bad := d.mir.rxBad || bitAt h.flags 2
  let d := d.when (es.any (fun e => match e.2 with | .wake _ => true | _ => false)) Dev.startWake
  { d with mir := { d.mir with rxBad := bad, rx := (d.mir.rx.filter (fun p => p.part != h.part)) ++ [⟨h.part, bitAt h.flags 0, es⟩] } }

theorem mir_startWake (d : Dev) : d.startWake.mir = d.mir := by
  unfold Dev.startWake
  split
  · rfl
  · rw [Dev.set_mir, Dev.wr_mir]
theorem rx_logTaken (h : MirHdr) (es : List (Nat × LogAct)) (d : Dev) :
    (d.logTaken h es).mir.rx = (d.mir.rx.filter (fun p => p.part != h.part)) ++ [⟨h.part, bitAt h.flags 0, es⟩] := by
  have kept := when_keep Dev.mir (es.any (fun e => match e.2 with | .wake _ => true | _ => false)) Dev.startWake mir_startWake d
  exact congrArg (fun m : Mir => (m.rx.filter (fun p => p.part != h.part)) ++ [⟨h.part, bitAt h.flags 0, es⟩]) kept

section
variable {d : Dev} {l : Nat} {hdr : List Byte} (es : List (Nat × LogAct))

theorem logFrame_good {d1 : Dev} {h : MirHdr} (hr : d.mirIn l 3 hdr true = (some h, d1)) : d.logFrame l hdr true es =
    if !d1.standby || h.cycle ≠ d1.cyc.count then d1 else d1.logTaken h es := by
  have whole : ((parseMirHdr hdr).ok && !true && (parseMirHdr hdr).typ == 3 && (parseMirHdr hdr).cycle == d.cyc.count && d.standby && d.laneUp l) = false := by simp
  unfold Dev.logFrame
  dsimp only
  rw [whole, if_neg Bool.false_ne_true, hr]
  rfl
/-- A torn frame of this cycle's log marks the log bad, and is counted on its lane. -/
theorem logFrame_torn (hok : (parseMirHdr hdr).ok = true) (ht : (parseMirHdr hdr).typ = 3) (hc : (parseMirHdr hdr).cycle = d.cyc.count)
    (hs : d.standby = true) (hl : d.laneUp l = true) (hm : 4 ≤ d.mode) :
    d.logFrame l hdr false es = Dev.mirCrc l { d with mir := { d.mir with rxBad := true } } := by
  have torn : ((parseMirHdr hdr).ok && !false && (parseMirHdr hdr).typ == 3 && (parseMirHdr hdr).cycle == d.cyc.count && d.standby && d.laneUp l) = true := by
    simp [hok, ht, hc, hs, hl]
  have counted : Dev.mirIn l 3 hdr false { d with mir := { d.mir with rxBad := true } } =
      (none, Dev.mirCrc l { d with mir := { d.mir with rxBad := true } }) := by
    have up : Dev.laneUp { d with mir := { d.mir with rxBad := true } } l = true := hl
    have awake : ¬ Dev.mode { d with mir := { d.mir with rxBad := true } } < 4 := Nat.not_lt.mpr hm
    unfold Dev.mirIn
    dsimp only
    rw [if_neg (by simp [up, awake]), if_pos (by simp)]
  simp only [Dev.logFrame, torn, if_true, counted]

end
/-! ## CORRECTION_FRAME (R297) -/

section
variable {d d1 : Dev} {l : Nat} {hdr : List Byte} {h : MirHdr} (hr : d.mirIn l 4 hdr true = (some h, d1)) (n m : Nat)
include hr

theorem correctionFrame_ignored (full : List (Nat × List Byte)) (hi : d1.mode ≠ 8 ∨ h.cycle ≠ d1.cyc.count ∨ d1.cyc.running = false ∨ d1.activeBlock n = none) :
    d.correctionFrame l hdr true n m full = d1 := by
  simp only [Dev.correctionFrame, hr]
  cases hb : d1.activeBlock n with
  | none => rfl
  | some b =>
    refine if_pos ?_
    rcases hi with hi | hi | hi | hi
    · simp [hi]
    · simp [hi]
    · simp [hi]
    · simp [hb] at hi

omit hr in
/-- Writing the receive slots changes the ports alone. -/
theorem correctSlots_keep {β : Type} (g : Dev → β) (hp : ∀ (x : SMap Port) (e : Dev), g { e with ports := x } = g e) (full : List (Nat × List Byte)) (b : SchedBlock)
    (e : Dev) : g (e.correctSlots n m full b) = g e := by
  refine forEach_keep g _ (fun x e => ?_) _ e
  split
  · dsimp only
    split
    · exact hp _ _
    · split
      · exact hp _ _
      · rfl
  · rfl

variable {b : SchedBlock} (hb : d1.activeBlock n = some b) (hm : d1.mode = 8) (hc : h.cycle = d1.cyc.count) (hg : d1.cyc.running = true)
  (ht : d1.pipelinedTiming = true)
include hb hm hc hg ht

/-- With pipelined timing a correction only takes away the feedback of the positions that it names as missing. -/
theorem correctionFrame_drops {x : Bind} {p : Nat} (hx : x ∈ d1.binds) (hn : x.port = n) (ho : d1.slotOwner n x.slot b = some (some p)) (hp : p < 64)
    (hbit : bitAt m p = true) : ∀ f ∈ (d.correctionFrame l hdr true n m []).eng.fb, f.1 ≠ x.axis := by
  unfold Dev.correctionFrame
  extract_lets r e mine marked eng
  have read : r.1 = some h := congrArg Prod.fst hr
  obtain rfl : e = d1 := congrArg Prod.snd hr
  clear_value e
  simp -zeta only [read, hb]
  extract_lets posOf dropped given fb axes d2 d3 axes2
  rw [if_neg (by simp [hm, hc, hg])]
  have timing : d3.pipelinedTiming = true :=
    (correctSlots_keep n m Dev.pipelinedTiming (fun _ _ => rfl) [] b d2).trans ht
  have kept : d3.eng.fb = fb := congrArg Eng.fb (correctSlots_keep n m Dev.eng (fun _ _ => rfl) [] b d2)
  have pos : posOf x = p := by simp only [posOf, ho]
  have named : x ∈ dropped := List.mem_filter.mpr ⟨List.mem_filter.mpr ⟨hx, by simp [hn]⟩, by simp [pos, hp, hbit]⟩
  have noneGiven : given = [] := by simp [given]
  rw [if_pos timing, kept]
  intro f hf heq
  have stays : f ∈ e.eng.fb.filter (fun f => !dropped.any (fun x => x.axis == f.1) && !given.any (fun g => g.1 == f.1)) := by
    simpa only [fb, noneGiven, List.append_nil] using hf
  have gone : dropped.any (fun x => x.axis == f.1) = true := List.any_eq_true.mpr ⟨x, named, by simp [heq]⟩
  simp [gone] at stays

end

/-! ## DIGEST_FRAME (R298) -/

section
variable {d d1 : Dev} {l : Nat} {hdr : List Byte} {h : MirHdr} (hr : d.mirIn l 5 hdr true = (some h, d1)) (ds : List Nat) (la : Nat)
include hr

theorem digestFrame_latches (hm : d1.mode = 8) (hs : d1.mir.resync ≠ none) :
    d.digestFrame l hdr true ds la = { d1 with eng := { d1.eng with latched := la, complete := la } } := by
  simp only [Dev.digestFrame, hr]
  exact if_pos (by simp [hm, Option.isSome_iff_ne_none.mpr hs])
theorem digestFrame_settled (hs : d1.mode ≠ 8 ∨ d1.mir.resync = none) : d.digestFrame l hdr true ds la =
    if !d1.comparing || h.cycle ≠ d1.cyc.count then d1
    else if d1.allDone then d1.compareDigest ds la else { d1 with mir := { d1.mir with digest := some (ds, la) } } := by
  simp only [Dev.digestFrame, hr]
  exact if_neg (by rcases hs with hs | hs <;> simp [hs])

end

/-! ## SLICE_FRAME (R300, R308) -/

section
variable {d d1 : Dev} {l : Nat} {hdr data : List Byte} {h : MirHdr} (hr : d.mirIn l 6 hdr true = (some h, d1))
include hr

theorem sliceFrame_away (ha : d1.mode ≠ 8 ∨ 1 < d1.cyclesSince h.cycle) : d.sliceFrame l hdr true data = d1 := by
  simp only [Dev.sliceFrame, hr]
  exact if_pos (by simpa using ha)
theorem sliceFrame_uncompared (hf : d1.mir.sweepFrom = none) (hc : d1.comparing = false) : d.sliceFrame l hdr true data = d1 := by
  simp only [Dev.sliceFrame, hr, hf, hc, Bool.not_false, if_true, ite_self]
theorem sliceFrame_unswept {f : Nat} (hf : d1.mir.sweepFrom = some f) (ho : 64 ≤ (h.cycle + 2 ^ 32 - f) % 2 ^ 32) : d.sliceFrame l hdr true data = d1 := by
  simp only [Dev.sliceFrame, hr, hf, if_pos ho, ite_self]
theorem sliceFrame_swept {f : Nat} (hm : d1.mode = 8) (ha : d1.cyclesSince h.cycle ≤ 1) (hf : d1.mir.sweepFrom = some f)
    (hi : (h.cycle + 2 ^ 32 - f) % 2 ^ 32 < 64) {d2 : Dev}
    (h2 : d2 = d1.loadSlice (d1.cyclesSince h.cycle) (((d1.sliceAxes (h.cycle % 64)).drop (4 * (h.part % 2))).take 4) data) :
    d.sliceFrame l hdr true data = { d2 with mir := { d2.mir with loaded := d2.mir.loaded ++ [64 * (h.part % 2) + h.cycle % 64] } } := by
  subst h2
  simp only [Dev.sliceFrame, hr, hf]
  rw [if_neg (by simp [hm, ha]), if_neg (Nat.not_le.mpr hi)]

end

/-! ## BULK_FRAME (R307, R308) -/

section
variable {d d1 : Dev} {l : Nat} {hdr : List Byte} {h : MirHdr} (hr : d.mirIn l 9 hdr true = (some h, d1)) (ps : List BulkPart)
include hr

theorem bulkFrame_ignored (hi : d1.mode ≠ 8 ∨ d1.on MIR_STATUS.BULK = false ∨ d1.mir.imageDone = true) : d.bulkFrame l hdr true ps = d1 := by
  simp only [Dev.bulkFrame, hr]
  refine if_pos ?_
  rcases hi with hi | hi | hi <;> simp [hi]

variable (hm : d1.mode = 8) (hb : d1.on MIR_STATUS.BULK = true) (hd : d1.mir.imageDone = false)
include hm hb hd

theorem bulkFrame_more (hf : bitAt h.flags 0 = false) : d.bulkFrame l hdr true ps = { d1 with mir := { d1.mir with parts := d1.mir.parts ++ ps } } := by
  simp only [Dev.bulkFrame, hr]
  rw [if_neg (by simp [hm, hb, hd]), if_pos (by simp [hf])]
/-- The last frame of an empty image, with no log held, ends the transfer. -/
theorem bulkFrame_ends (hf : bitAt h.flags 0 = true) (hp : d1.mir.parts = []) (hl : d1.mir.heldLogs = []) : d.bulkFrame l hdr true [] =
    Dev.set MIR_STATUS.BULK 0 { d1 with
      mir := { d1.mir with parts := [], heldLogs := [], imageDone := true, sweepFrom := some (sweepStart d1.cyc.count), loaded := [] }
      eng := { d1.eng with cams := [] } } := by
  simp only [Dev.bulkFrame, hr]
  rw [if_neg (by simp [hm, hb, hd]), if_neg (by simp [hf]), hp, hl]
  rfl

end
end Sys2Proof.Machine

open Sys2Proof Sys2Proof.Machine

/-- Settles O28: each clause is the equation of its frame in that case (R286, R294, R296 to R298, R300, R307, R308). That a standby takes the
stop-group latches of a digest frame while it resynchronises is the model's choice (log 107). -/
theorem standbyTakesTheHoldersFrames : Obligations.StandbyTakesTheHoldersFrames := by
  refine ⟨fun s l hdr ok d1 sg crcs m full ds la data pr no ps c => ⟨fun h => next_of_dev (g := fun _ => d1) (summaryFrame_unread _ _ h),
      fun h => next_of_dev (g := fun _ => d1) (correctionFrame_unread _ _ _ h), fun h => next_of_dev (g := fun _ => d1) (digestFrame_unread _ _ h),
      fun h => next_of_dev (g := fun _ => d1) (sliceFrame_unread _ h), fun h => next_of_dev (g := fun _ => d1) (reportFrame_unread _ _ h),
      fun h => next_of_dev (g := fun _ => d1) (bulkFrame_unread _ h), fun h => next_of_dev (g := fun _ => d1) (controlFrame_unread _ h)⟩,
    ?lease, ?noLease, fun s l hdr es h d1 hr => ⟨fun hs hc => ?log, fun hi => ?noLog⟩, fun s l hdr es hok ht hc hs hl hm => ?torn,
    fun s l hdr n m full h d1 hr hi => next_of_dev (g := fun _ => d1) (correctionFrame_ignored hr _ _ full hi),
    fun s l hdr n m h d1 b hr hb hm hc hg ht => ⟨_, rfl, fun x p hx hn ho hp hbit => correctionFrame_drops hr n.val m.toNat hb hm hc hg ht hx hn ho hp hbit⟩,
    fun s l hdr ds la h d1 hr => ⟨fun hm hs => next_of_dev (g := fun _ => _) (digestFrame_latches hr ds la.toNat hm hs),
      fun hc hs hk => ⟨fun ha => ?compared, fun ha => ?keptDigest⟩, fun hs hi => ?noDigest⟩,
    fun s l hdr data h d1 f hr => ⟨fun ha => next_of_dev (g := fun _ => d1) (sliceFrame_away hr ha),
      fun hf hc => next_of_dev (g := fun _ => d1) (sliceFrame_uncompared hr hf hc),
      fun hf ho => next_of_dev (g := fun _ => d1) (sliceFrame_unswept hr hf ho),
      fun hm ha hf hi => ⟨_, rfl, next_of_dev (g := fun _ => _) (sliceFrame_swept hr hm ha hf hi rfl)⟩⟩,
    fun s l hdr ps h d1 hr hi => next_of_dev (g := fun _ => d1) (bulkFrame_ignored hr ps hi),
    fun s l hdr ps h d1 hr hm hb hd => ⟨fun hf => next_of_dev (g := fun _ => _) (bulkFrame_more hr ps hm hb hd hf), fun hf hp he hl => ?last⟩⟩
  case lease =>
    rintro s l b pay h d1 rfl hr hp
    refine ⟨fun he => ?_, fun he => next_of_dev (g := fun _ => d1) (leaseFrame_ignored hr (.inr (.inr he)))⟩
    obtain ⟨m, hm, taken⟩ := leaseFrame_taken hr rfl hp he
    exact exists_next (f := Dev.leaseFrame l.val b) _ taken (fun t ht =>
      ⟨ht ▸ (lease_shown _).trans hm, ht ▸ inForce_shown _ _ (Nat.mod_lt _ (by decide))⟩)
  case noLease =>
    intro s l b r d1 hr hi
    exact next_of_dev (g := fun _ => d1) (leaseFrame_ignored hr (hi.imp_right .inl))
  case log =>
    exact exists_next (f := Dev.logFrame l.val hdr true es) (d1.logTaken h es) ((logFrame_good es hr).trans (if_neg (by simp [hs, hc])))
      (fun t ht => ht ▸ rx_logTaken h es d1)
  case noLog => exact next_of_dev (g := fun _ => d1) ((logFrame_good es hr).trans (if_pos (by rcases hi with hi | hi <;> simp [hi])))
  case torn => exact exists_next (f := Dev.logFrame l.val hdr false es) _ (logFrame_torn es hok ht hc hs hl hm) (fun t ht => by rw [ht]; exact ⟨rfl, rfl⟩)
  case compared =>
    exact next_of_dev (g := fun _ => _) ((digestFrame_settled hr ds la.toNat (.inr hs)).trans ((if_neg (by simp [hc, hk])).trans (if_pos ha)))
  case keptDigest =>
    exact next_of_dev (g := fun _ => _) ((digestFrame_settled hr ds la.toNat (.inr hs)).trans ((if_neg (by simp [hc, hk])).trans (if_neg (by simp [ha]))))
  case noDigest =>
    exact next_of_dev (g := fun _ => d1) ((digestFrame_settled hr ds la.toNat hs).trans (if_pos (by rcases hi with hi | hi <;> simp [hi])))
  case last =>
    subst he
    exact exists_next (f := Dev.bulkFrame l.val hdr true []) _ (bulkFrame_ends hr hm hb hd hf hp hl) (fun t ht => by
      rw [ht]
      exact ⟨rfl, rfl, on_set_flag MIR_STATUS.BULK false _ (by decide) rfl⟩)
end

section
/-! PROOFS. What the holder does with a standby's summaries, reports and control frames (R285, R297, R301, R303, R306, R308 to R310), and O29. -/
namespace Sys2Proof.Machine

/-! ## SUMMARY_FRAME (R297) -/

section
variable {d d1 : Dev} {l n : Nat} {hdr : List Byte} {h : MirHdr} {b : SchedBlock} (hr : d.mirIn l 7 hdr true = (some h, d1)) (hb : d1.activeBlock n = some b)
  (crcs : List (Option Nat))
include hr hb

theorem summaryFrame_ignored (hi : d1.permit = false ∨ h.cycle ≠ d1.cyc.count ∨ d1.cyc.running = false) : d.summaryFrame l hdr true n crcs = d1 := by
  simp only [Dev.summaryFrame, hr, hb]
  refine if_pos ?_
  rcases hi with hi | hi | hi <;> simp [hi]
theorem sums_summaryFrame (hp : d1.permit = true) (hc : h.cycle = d1.cyc.count) (hg : d1.cyc.running = true) :
    (d.summaryFrame l hdr true n crcs).mir.sums = putKey n crcs d1.mir.sums := by
  have sent : ∀ (e : Dev) (x y : Nat) (full : List (Nat × List Byte)), (e.sendCorrection n x y full).mir.sums = e.mir.sums := by
    intro e x y full
    unfold Dev.sendCorrection Dev.mirOut
    dsimp only
    split <;> rfl
  simp only [Dev.summaryFrame, hr, hb]
  rw [if_neg (by simp [hp, hc, hg])]
  split
  · rfl
  · exact sent _ _ _ _

end

/-! ## REPORT_FRAME (R301, R310) -/

section
variable {d d1 : Dev} {l : Nat} {hdr : List Byte} {h : MirHdr} (hr : d.mirIn l 8 hdr true = (some h, d1)) (pr : Nat) (no : Option (Nat × Nat))
include hr

theorem reportFrame_ignored (hp : d1.permit = false) : d.reportFrame l hdr true pr no = d1 := by
  simp only [Dev.reportFrame, hr]
  exact if_pos (by simp [hp])
theorem reportFrame_proves (hp : d1.permit = true) {d2 : Dev} (h2 : d2 = ({ d1 with mir := { d1.mir with reportAt := some d1.cyc.count } } : Dev).forEach
    ((List.range 18).filter (fun p => p != 16 && bitAt pr p)) Dev.prove) : d.reportFrame l hdr true pr no =
      match no with | some (g, k) => d2.takeNotice (g % 32) (k % 8) ((h.cycle + 2 ^ 32 - 1) % 2 ^ 32) | none => d2 := by
  subst h2
  simp only [Dev.reportFrame, hr]
  exact if_neg (by simp [hp])

end

/-! ## CONTROL_FRAME (R301, R303, R308 to R310) -/

section
variable (d : Dev)

/-- The standby says that it is synchronised: the resynchronisation is over. -/
def Dev.standbySynced : Dev :=
  ((((({ d with mir := { d.mir with resync := none, sweepFrom := none, bulkLeft := 0 } } : Dev).set MIR_STATUS.SYNCED 1).set MIR_STATUS.SWEEP 0).post 0x01C0 0x01C6
    (leBytes 1 (flag (d.mir.resync.getD false)))).showRole).fbSettle false
/-- A proof of PERMIT_OUT arrives (R310, R311). -/
def Dev.provedPermit : Dev :=
  match (d.confirmPath 16).mir.drill with
  | some x => { d.confirmPath 16 with mir := { (d.confirmPath 16).mir with drill := some { x with awaiting := x.awaiting.filter (· ≠ 16) } } }
  | none => d.confirmPath 16
/-- What a control frame that passed the link's checks does, by what it carries. -/
def Dev.takeControl : MirControl → Dev
  | .selfTest g k c => d.takeNotice (g % 32) (k % 8) (c % 2 ^ 32)
  | .result good => match d.mir.incident with
    | some i => { d with mir := { d.mir with incident := some { i with peer := some good } } }
    | none => d
  | .resync full bulk => if d.permit then d.startResync full bulk else if d.mode = 8 then d.askResync full bulk else d
  | .logLost _ => if d.permit then d.noteIncident else d
  | .synced => if !d.permit then d else d.standbySynced
  | .proved 16 => d.provedPermit
  | .proved p => if p < 18 then d.prove p else d
  | .clearFault => d.clearPairFault
  | .failed p => if p < 18 then d.pathFailed p else d

theorem controlFrame_read {d d1 : Dev} {l : Nat} {hdr : List Byte} {h : MirHdr} (hr : d.mirIn l 10 hdr true = (some h, d1)) (c : MirControl) :
    d.controlFrame l hdr true c = d1.takeControl c := by
  simp only [Dev.controlFrame, hr]
  rfl
theorem takeControl_proved (p : Nat) (h : p ≠ 16) : d.takeControl (.proved p) = if p < 18 then d.prove p else d := by
  simp only [Dev.takeControl]

theorem fbSettle_keep {β : Type} (g : Dev → β) (hf : ∀ (x : SMap Fb) (e : Dev), g { e with fb := x } = g e) (all : Bool) (e : Dev) :
    g (e.fbSettle all) = g e := by
  refine forN_keep g _ (fun n e => ?_) 4 e
  dsimp only
  split
  · exact hf _ _
  · rfl
theorem mir_standbySynced : d.standbySynced.mir = { d.mir with resync := none, sweepFrom := none, bulkLeft := 0 } :=
  fbSettle_keep Dev.mir (fun _ _ => rfl) false _
theorem on_showRole (f : Fld) (e : Dev) (h : f.a ≠ MIR_STATUS.ROLE.a ∨ f.hi < MIR_STATUS.ROLE.lo ∨ MIR_STATUS.ROLE.hi < f.lo) : e.showRole.on f = e.on f :=
  on_set_other MIR_STATUS.ROLE f _ e (by decide) h
theorem on_standbySynced : d.standbySynced.on MIR_STATUS.SYNCED = true := by
  unfold Dev.standbySynced
  generalize ({ d with mir := { d.mir with resync := none, sweepFrom := none, bulkLeft := 0 } } : Dev) = e
  rw [fbSettle_keep (fun e => e.on MIR_STATUS.SYNCED) (fun _ _ => rfl) false, on_showRole _ _ (by decide), Dev.on, Dev.get_post, ← Dev.on,
    on_set_other MIR_STATUS.SWEEP MIR_STATUS.SYNCED _ _ (by decide) (by decide)]
  exact on_set_flag MIR_STATUS.SYNCED true _ (by decide) rfl
theorem confirmed_provedPermit : d.provedPermit.mir.confirmed = putKey 16 (nsOf d.now) d.mir.confirmed := by
  unfold Dev.provedPermit
  split <;> rfl
theorem clearPairFault_clears : d.clearPairFault.on MIR_STATUS.PAIR_FAULT = false ∧ d.clearPairFault.hasCond condPAIR_FAULT = false := by
  refine ⟨?_, hasCond_cond _ _ _ (by decide)⟩
  rw [Dev.clearPairFault, Dev.on, get_cond_other _ _ _ _ (by decide) (by decide)]
  exact on_set_flag MIR_STATUS.PAIR_FAULT false _ (by decide) rfl

end
end Sys2Proof.Machine

open Sys2Proof Sys2Proof.Machine

/-- Settles O29: each clause is the equation of its frame in that case (R285, R297, R301, R303, R306, R308 to R310). That control frames carry a failed path
and the clearing of PAIR_FAULT is the model's choice (log 40), as is the structured content of reports, summaries and control frames (log 38). -/
theorem holderTakesTheStandbysFrames : Obligations.HolderTakesTheStandbysFrames := by
  refine ⟨fun s l hdr n crcs h d1 b hr hb => ⟨fun hi => next_of_dev (g := fun _ => d1) (summaryFrame_ignored hr hb crcs hi),
      fun hp hc hg => ⟨_, rfl, sums_summaryFrame hr hb crcs hp hc hg⟩⟩,
    fun s l hdr pr h d1 d2 hr hp h2 => ⟨next_of_dev (g := fun _ => d2) (reportFrame_proves hr _ none hp h2),
      fun g k => next_of_dev (g := fun _ => _) (reportFrame_proves hr _ (some (g, k)) hp h2)⟩,
    fun s l hdr pr no h d1 hr hp => next_of_dev (g := fun _ => d1) (reportFrame_ignored hr _ no hp), fun s l hdr h d1 hr => ?_⟩
  have control : ∀ (c : MirControl) (e : Dev), d1.takeControl c = e → exec (.controlFrame l hdr true c) s = .next (s.onDev (fun _ => e)) :=
    fun c e he => next_of_dev (g := fun _ => e) ((controlFrame_read hr c).trans he)
  refine ⟨fun g k x => control _ _ rfl, fun i good hi => control _ _ ?hasIncident, fun good hi => control _ _ ?noIncident,
    fun full bulk => ⟨fun hp => control _ _ (if_pos hp), fun hp hm => control _ _ ((if_neg (by simp [hp])).trans (if_pos hm)),
      fun hp hm => control _ _ ((if_neg (by simp [hp])).trans (if_neg hm))⟩,
    fun c => ⟨fun hp => control _ _ (if_pos hp), fun hp => control _ _ (if_neg (by simp [hp]))⟩,
    fun hp => ⟨_, control _ d1.standbySynced (if_neg (by simp [hp])), on_standbySynced d1, congrArg Mir.resync (mir_standbySynced d1),
      congrArg Mir.bulkLeft (mir_standbySynced d1)⟩,
    fun hp => control _ _ (if_pos (by simp [hp])),
    fun p => ⟨fun hp h16 => control _ _ ((takeControl_proved d1 p h16).trans (if_pos hp)), fun hp => control _ _ (if_pos hp),
      fun hp => ⟨control _ _ ((takeControl_proved d1 p (by omega)).trans (if_neg (by omega))), control _ _ (if_neg (by omega))⟩⟩,
    ⟨_, control (.proved 16) d1.provedPermit rfl, confirmed_provedPermit d1, _, control _ d1.clearPairFault rfl, clearPairFault_clears d1⟩⟩
  case hasIncident => simp only [Dev.takeControl, hi]
  case noIncident => simp only [Dev.takeControl, hi]
end

section
/-! PROOFS. The mirror's lanes and HELLO frames, the pair opcodes and MIR_APPLY (R288, R291, R293, R309, R311, R313), and O31. -/
namespace Sys2Proof.Machine

/-! ## What a loss of the permit leaves of the partner's record (R45, R291, R293) -/

namespace SchedBlind
variable {β : Type} {g : Dev → β} (h : SchedBlind g) (he : ∀ (o : Output) (d : Dev), g (Dev.emit o d) = g d)
include h he

theorem saveCore (c : Nat) (d : Dev) : g (Dev.saveCore c d) = g d := by
  unfold Dev.saveCore
  split
  · rfl
  · exact (h.pushTask _ _).trans ((he _ _).trans (h.sch _ d))
theorem runCores (m : Nat) (d : Dev) : g (Dev.runCores m d) = g d := by
  unfold Dev.runCores
  dsimp only
  rw [h.showSched, h.set, forN_keep g _ (fun c e => when_keep g _ _ (h.saveCore he c) e)]

end SchedBlind

/-- The partner's last HELLO, both lanes and line time. -/
def Dev.helloPart (d : Dev) : Option (List Byte) × MirLane × MirLane × LTime := (d.mir.peer, d.mir.lane0, d.mir.lane1, d.now)

theorem blind_helloPart : Blind Dev.helloPart := ⟨fun _ _ _ => rfl, fun _ _ => rfl⟩
theorem schedBlind_helloPart : SchedBlind Dev.helloPart := ⟨blind_helloPart, fun _ _ => rfl, fun _ _ => rfl⟩
theorem linkBlind_helloPart : LinkBlind Dev.helloPart := ⟨blind_helloPart, fun _ _ => rfl, fun _ _ => rfl⟩
theorem helloPart_of_rest {d e : Dev} (h : restOf d = restOf e) : d.helloPart = e.helloPart :=
  congrArg (fun r : Dev.Rest => (r.mir.peer, r.mir.lane0, r.mir.lane1, r.ltm.now)) h
theorem helloPart_completeOpt (ref : Option PktRef) (st : Nat) (t : LTime) (res : List Byte) (d : Dev) : (d.completeOpt ref st t res).helloPart = d.helloPart := by
  cases ref with
  | none => rfl
  | some r => exact helloPart_of_rest (rest_complete _ _ _ _ _)

section
variable (d : Dev)

theorem helloPart_closeScopes : d.closeScopes.helloPart = d.helloPart := by
  unfold Dev.closeScopes
  split
  · rfl
  · exact (blind_helloPart.post _ _ _ _).trans ((blind_helloPart.wr _ _ _).trans (blind_helloPart.set _ _ _))
theorem helloPart_endIdent (r : Nat) (vs : List Nat) : (d.endIdent r vs).helloPart = d.helloPart := by
  unfold Dev.endIdent
  split
  · rfl
  · dsimp only
    simp only [blind_helloPart.post, blind_helloPart.wr, blind_helloPart.set]
    rfl
theorem helloPart_fbShadow : d.fbShadow.helloPart = d.helloPart := by
  refine forN_keep Dev.helloPart _ (fun n e => ?_) 4 d
  unfold Dev.showFb
  dsimp only
  split <;> simp only [blind_helloPart.wr, blind_helloPart.wr64, blind_helloPart.set] <;> rfl
omit d in
theorem when_off {b : Bool} (h : b = false) (f : Dev → Dev) (e : Dev) : e.when b f = e := by rw [h, Dev.when_false]
/-- From Run to Shadow or Ready only the scopes, an identification and the local feedback are touched. -/
theorem helloPart_modeHooks (new : Nat) (hn : new = 8 ∨ new = 6) : (Dev.modeHooks 7 new d).helloPart = d.helloPart := by
  unfold Dev.modeHooks
  extract_lets syncd d1 d2 d3 d4 d5 d6 d7 d8 d9 d10
  have h1 : d1 = d := when_off (by rcases hn with rfl | rfl <;> rfl) _ _
  have h2 : d2.helloPart = d1.helloPart := when_keep Dev.helloPart _ _ helloPart_closeScopes d1
  have h3 : d3 = d2 := when_off (by rcases hn with rfl | rfl <;> rfl) _ _
  have h4 : d4 = d3 := when_off (by rcases hn with rfl | rfl <;> rfl) _ _
  have h5 : d5 = d4 := when_off (by rcases hn with rfl | rfl <;> rfl) _ _
  have h6 : d6 = d5 := when_off (by rcases hn with rfl | rfl <;> rfl) _ _
  have h7 : d7.helloPart = d6.helloPart := when_keep Dev.helloPart _ _ (fun e => helloPart_endIdent e 1 []) d6
  have h8 : d8 = d7 := when_off (by rcases hn with rfl | rfl <;> rfl) _ _
  have h9 : d9.helloPart = d8.helloPart := when_keep Dev.helloPart _ _ (fun e => blind_helloPart.set _ _ e) d8
  have h10 : d10.helloPart = d9.helloPart := by
    have settles : (new == 3 || new == 4) = false := by rcases hn with rfl | rfl <;> rfl
    unfold d10
    rw [settles, Dev.when_false]
    exact when_keep Dev.helloPart _ _ helloPart_fbShadow d9
  refine (congrArg Dev.helloPart (when_off (by rcases hn with rfl | rfl <;> rfl) _ _)).trans ?_
  rw [h10, h9, h8, h7, h6, h5, h4, h3, h2, h1]
theorem helloPart_enterMode (new cause detail : Nat) (bound : Option Nat) (more : Bool) (hk : (Dev.modeHooks d.mode new d).helloPart = d.helloPart) :
    (d.enterMode new cause detail bound more).helloPart = d.helloPart := by
  have served : ∀ (b : Bool) (e : Dev),
      (Dev.when b (fun e => Dev.set SYS_MODE.TRANSITION 0 { e with sys := { e.sys with request := none } }) e).helloPart = e.helloPart :=
    fun b e => by
      refine when_keep Dev.helloPart b _ (fun e => ?_) e
      exact blind_helloPart.set _ _ _
  unfold Dev.enterMode
  dsimp only
  rw [when_keep Dev.helloPart _ _ (blind_helloPart.post _ _ _), served, linkBlind_helloPart.bringUpAll,
    schedBlind_helloPart.runCores linkBlind_helloPart.emit]
  unfold Dev.runPlls
  dsimp only
  rw [blind_helloPart.set, blind_helloPart.set, blind_helloPart.count32, blind_helloPart.wr64, blind_helloPart.set, blind_helloPart.set,
    blind_helloPart.set, blind_helloPart.set]
  exact hk
theorem helloPart_showRole : d.showRole.helloPart = d.helloPart := blind_helloPart.set _ _ d
theorem helloPart_mirControl (c : MirControl) : (d.mirControl c).helloPart = d.helloPart := by
  unfold Dev.mirControl Dev.mirOut
  split <;> rfl
theorem helloPart_enterShadow : d.enterShadow.helloPart = d.helloPart := by
  unfold Dev.enterShadow Dev.askResync Dev.wantResync
  dsimp only
  rw [helloPart_mirControl, helloPart_showRole, blind_helloPart.set, blind_helloPart.set, blind_helloPart.set]
  rfl
theorem helloPart_dropPermit (e n : Nat) : (d.dropPermit e n).helloPart = d.helloPart := by
  unfold Dev.dropPermit
  dsimp only
  rw [helloPart_showRole, blind_helloPart.post, blind_helloPart.set, blind_helloPart.set, blind_helloPart.set, blind_helloPart.wr, blind_helloPart.set,
    helloPart_completeOpt]
  rfl
theorem helloPart_losePermit (e n : Nat) (twin : Bool) : (d.losePermit e n twin).helloPart = d.helloPart := by
  unfold Dev.losePermit
  dsimp only
  refine Eq.trans ?_ (helloPart_dropPermit d e n)
  generalize d.dropPermit e n = k
  split
  case isTrue => rfl
  case isFalse hm =>
    have run : k.mode = 7 := Classical.not_not.mp hm
    split
    · refine (helloPart_enterShadow _).trans ?_
      split
      · exact helloPart_enterMode k _ _ _ _ _ (run ▸ helloPart_modeHooks k 8 (.inl rfl))
      · exact helloPart_enterMode k _ _ _ _ _ (run ▸ helloPart_modeHooks k 8 (.inl rfl))
    · have off : k.disableAll.mode = 7 := run
      exact (helloPart_showRole _).trans (helloPart_enterMode k.disableAll _ _ _ _ _ (off ▸ helloPart_modeHooks _ 6 (.inr rfl)))
theorem helloPart_seeEpoch (e n : Nat) (head : Bool) : (d.seeEpoch e n head).helloPart = d.helloPart := by
  unfold Dev.seeEpoch
  dsimp only
  split
  · split
    · exact helloPart_losePermit _ _ _ _
    · rfl
  · split
    · exact blind_helloPart.set _ _ _
    · rfl
theorem helloPart_showAbsent : d.showAbsent.helloPart = d.helloPart := blind_helloPart.cond _ _ d
theorem helloPart_checkPartner : d.checkPartner.helloPart = d.helloPart := by
  unfold Dev.checkPartner
  split
  · rfl
  · dsimp only
    rw [helloPart_showAbsent, when_keep Dev.helloPart _ _ (blind_helloPart.post _ _ _), when_keep Dev.helloPart _ _ (blind_helloPart.post _ _ _),
      blind_helloPart.set, blind_helloPart.set]
    rfl

end

/-! ## HELLO frames (R291, R293) -/

section
variable (l : Nat) (b : List Byte) (d : Dev)

/-- One delay exchange of a lane with the partner's HELLO. -/
def Dev.exchanged (pay : List Byte) (d : Dev) : Dev :=
  let x := { d.lane l with echo := some (fieldAt pay 32 10, d.now) }
  if fieldAt pay 42 10 = 0 || 64 ≤ x.exchanges then d.setLane l x
  else
    let sum := x.sum + ((d.now : Int) - (fieldAt pay 42 10 : Int) - (fieldAt pay 52 6 : Int))
    (d.setLane l { x with exchanges := x.exchanges + 1, sum := sum }).when (x.exchanges + 1 == 64)
      (Dev.wr MIR_DELAY ((clampInt 0 (2 ^ 32 - 1) (roundHalfAway sum 128)).toNat))
/-- The partner's record is taken from a HELLO, with the epoch that it shows. -/
def Dev.heard (d : Dev) : Dev :=
  ({ d with mir := { d.mir with peer := some ((b.drop 16).take 64), quiet := false } } : Dev).seeEpoch
    (max (parseMirHdr b).epoch (fieldAt ((b.drop 16).take 64) 24 4)) ({ d with mir := { d.mir with peer := some ((b.drop 16).take 64), quiet := false } } : Dev).partnerAddr false

theorem mir_setLane (x : MirLane) : (d.setLane l x).mir.peer = d.mir.peer := by
  unfold Dev.setLane
  split <;> rfl
theorem lane_setLane (x : MirLane) : (d.setLane l x).lane l = x := by
  unfold Dev.setLane Dev.lane
  by_cases h : l = 0
  · simp only [h, if_true]
  · simp only [h, if_false]
theorem exchanged_shows (pay : List Byte) : (d.exchanged l pay).mir.peer = d.mir.peer ∧ ((d.exchanged l pay).lane l).echo = some (fieldAt pay 32 10, d.now) := by
  unfold Dev.exchanged
  dsimp only
  split
  · exact ⟨mir_setLane l d _, congrArg MirLane.echo (lane_setLane l d _)⟩
  · constructor
    · refine (when_keep (fun e => e.mir.peer) _ _ ?_ _).trans (mir_setLane l d _)
      exact fun _ => rfl
    · refine (when_keep (fun e => (e.lane l).echo) _ _ ?_ _).trans (congrArg MirLane.echo (lane_setLane l d _))
      exact fun _ => rfl

theorem helloFrame_away (h : d.mode < 4 ∨ d.laneUp l = false) : d.helloFrame l b = d := if_pos (by rcases h with h | h <;> simp [h])

variable (hm : 4 ≤ d.mode) (hl : d.laneUp l = true)
include hm hl

theorem helloFrame_checks : d.helloFrame l b =
    if !(parseMirHdr b).ok || !(b.length == 84 && (parseMirHdr b).len == 64 && crc32 ((b.drop 16).take 64) == fieldAt b 80 4) then d.mirCrc l
    else if (parseMirHdr b).typ ≠ 1 then d else ((d.heard b).exchanged l ((b.drop 16).take 64)).checkPartner := by
  refine (if_neg (by simp [hl, hm])).trans ?_
  split
  · rfl
  split
  · rfl
  · unfold Dev.exchanged
    exact (apply_ite Dev.checkPartner _ _ _).symm

end

theorem helloPart_lane {d e : Dev} (h : d.helloPart = e.helloPart) (l : Nat) : d.lane l = e.lane l := by
  obtain ⟨_, h⟩ := Prod.mk.inj h
  obtain ⟨h0, h⟩ := Prod.mk.inj h
  obtain ⟨h1, _⟩ := Prod.mk.inj h
  unfold Dev.lane
  rw [h0, h1]
/-- The time that a partner sent stands at byte 48 of its frame. -/
theorem fieldAt_sent (b : List Byte) : fieldAt ((b.drop 16).take 64) 32 10 = fieldAt b 48 10 := by
  unfold fieldAt
  rw [List.drop_take, List.take_take, List.drop_drop]
  rfl
theorem hello_kept (l : Nat) (b : List Byte) (d t : Dev) (ht : t = ((d.heard b).exchanged l ((b.drop 16).take 64)).checkPartner) :
    t.mir.peer = some ((b.drop 16).take 64) ∧ (t.lane l).echo = some (fieldAt b 48 10, d.now) := by
  have heard : (d.heard b).helloPart = (some ((b.drop 16).take 64), d.mir.lane0, d.mir.lane1, d.now) := helloPart_seeEpoch _ _ _ _
  have checked : t.helloPart = ((d.heard b).exchanged l ((b.drop 16).take 64)).helloPart := ht ▸ helloPart_checkPartner _
  obtain ⟨peer, echo⟩ := exchanged_shows l (d.heard b) ((b.drop 16).take 64)
  constructor
  · exact (congrArg Prod.fst checked).trans (peer.trans (congrArg Prod.fst heard))
  · rw [helloPart_lane checked l, echo, fieldAt_sent]
    exact congrArg (fun x => some (fieldAt b 48 10, x.2.2.2)) heard

/-! ## Lane lock and silence (R291) -/

section
variable (d : Dev)

theorem laneLock_fixed (l : Nat) (v : Bool) (h : d.mode < 4 ∨ d.laneUp l = v) : d.laneLock l v = d := if_pos (by rcases h with h | h <;> simp [h])
theorem quiet_setLane (l : Nat) (x : MirLane) : (d.setLane l x).mir.quiet = d.mir.quiet := by
  unfold Dev.setLane
  split <;> rfl
/-- The lane's lock shows in LANES, and its exchanges start over. -/
def Dev.laneShown (l : Nat) (v : Bool) : Dev := (d.set MIR_STATUS.LANES (withBits (d.get MIR_STATUS.LANES) l l (flag v))).setLane l MirLane.reset
theorem laneUp_laneShown (l : Fin 2) (v : Bool) : (d.laneShown l.val v).laneUp l.val = v := by
  have own : (d.laneShown l.val v).get MIR_STATUS.LANES = withBits (d.get MIR_STATUS.LANES) l.val l.val (flag v) % 2 ^ 2 :=
    Dev.get_set_same MIR_STATUS.LANES _ d (by decide)
  have two : d.get MIR_STATUS.LANES < 2 ^ 2 := bitsOf_lt _ 1 0
  have low : withBits (d.get MIR_STATUS.LANES) l.val l.val (flag v) < 2 ^ 2 := withBits_lt _ _ _ _ 2 two l.isLt
  rw [Dev.laneUp, own, Nat.mod_eq_of_lt low, ← Nat.mod_eq_of_lt (low.trans (by decide : 2 ^ 2 < 2 ^ 32)), bitAt_withBits_own _ _ _ (by omega)]
  cases v <;> rfl
theorem laneLock_shows (l : Nat) (v : Bool) (hm : 4 ≤ d.mode) (h : d.laneUp l ≠ v) {d2 : Dev}
    (h2 : d2 = { d.laneShown l v with mir := { (d.laneShown l v).mir with quiet := d.mir.quiet && !v } }) :
    d.laneLock l v = if d2.get MIR_STATUS.LANES = 0 then d2.mirrorDown.showAbsent else d2.showAbsent := by
  have quiet : (d.laneShown l v).mir.quiet = d.mir.quiet := quiet_setLane _ l MirLane.reset
  rw [← quiet] at h2
  subst h2
  exact if_neg (by simp [hm, h])
theorem get_showAbsent (f : Fld) (h1 : f.a ≠ SYS_COND) (h2 : f.a ≠ SYS_COND_STICKY) : d.showAbsent.get f = d.get f := get_cond_other _ _ _ _ h1 h2
theorem on_mirrorDown (h : d.mir.up = true) : d.mirrorDown.on MIR_STATUS.COMPATIBLE = false := by
  have gone : ∀ (b : Bool) (e : Dev), (e.when b (fun d => Dev.set MIR_STATUS.SYNCED 0 { d with mir := { d.mir with resync := none, sweepFrom := none, bulkLeft := 0 } })).on
      MIR_STATUS.COMPATIBLE = e.on MIR_STATUS.COMPATIBLE := by
    intro b e
    refine when_keep (fun e => e.on MIR_STATUS.COMPATIBLE) b _ (fun e => ?_) e
    exact on_set_other MIR_STATUS.SYNCED MIR_STATUS.COMPATIBLE _ _ (by decide) (by decide)
  unfold Dev.mirrorDown
  rw [if_neg (by simp [h])]
  dsimp only
  rw [on_showRole _ _ (by decide), Dev.on, get_showAbsent _ _ (by decide) (by decide), ← Dev.on]
  refine (when_keep (fun e => e.on MIR_STATUS.COMPATIBLE) _ (Dev.post 0x01C0 0x01C2 []) (fun _ => rfl) _).trans ((gone _ _).trans ?_)
  exact on_set_flag MIR_STATUS.COMPATIBLE false _ (by decide) rfl
theorem up_mirrorDown (h : d.mir.up = true) : d.mirrorDown.mir.up = false := by
  have blind : Blind (fun e : Dev => e.mir.up) := ⟨fun _ _ _ => rfl, fun _ _ => rfl⟩
  unfold Dev.mirrorDown
  rw [if_neg (by simp [h])]
  dsimp only
  refine (blind.set _ _ _).trans ((blind.cond _ _ _).trans ((when_keep (fun e : Dev => e.mir.up) _ _ (blind.post _ _ _) _).trans ?_))
  refine when_keep (fun e : Dev => e.mir.up) _ _ (fun e => ?_) _
  exact blind.set _ _ _
theorem mirrorSilence_away (h : d.mode < 4) : d.mirrorSilence = d := if_pos h
theorem mirrorSilence_down (hm : 4 ≤ d.mode) (h : d.mir.up = true) :
    d.mirrorSilence.mir.up = false ∧ d.mirrorSilence.on MIR_STATUS.COMPATIBLE = false := by
  have blind : Blind (fun e : Dev => e.mir.up) := ⟨fun _ _ _ => rfl, fun _ _ => rfl⟩
  rw [show d.mirrorSilence = _ from if_neg (Nat.not_lt.mpr hm)]
  refine ⟨(blind.cond _ _ _).trans (up_mirrorDown _ h), ?_⟩
  rw [Dev.on, get_showAbsent _ _ (by decide) (by decide), ← Dev.on]
  exact on_mirrorDown _ h

/-! ## HELLO frames to send (R291, R293) -/

theorem sendHello_away (l : Nat) (h : d.mode < 4 ∨ d.laneUp l = false) : d.sendHello l = d := by
  unfold Dev.sendHello
  split
  · rfl
  · rename_i hm
    exact if_neg (by simp [h.resolve_left hm])
theorem sendHello_sends (l : Nat) (hm : 4 ≤ d.mode) (hl : d.laneUp l = true) : d.sendHello l =
    d.emit (.mirror l (d.mirHdr 1 0 (d.helloBytes l).length 0 ++ d.helloBytes l ++ leBytes 4 (crc32 (d.helloBytes l)))) :=
  (if_neg (Nat.not_lt.mpr hm)).trans (if_pos hl)

end

/-! ## The pair opcodes (R309, R311, R313) -/

section
variable (p : Packet) (ref : PktRef) (d : Dev)

/-- The fields of the answer stand behind each other. -/
theorem statusBytes (a b c e f g h i : Nat) {res : List Byte} (hr : res = leBytes 1 a ++ leBytes 1 b ++ leBytes 1 c ++ leBytes 1 e ++ leBytes 4 f ++ leBytes 3 g ++
    leBytes 1 h ++ leBytes 4 i) : res.length = 16 ∧ res.take 1 = leBytes 1 a ∧ (res.drop 4).take 4 = leBytes 4 f := by
  subst hr
  refine ⟨by simp, ?_, ?_⟩
  · simp only [List.append_assoc]
    exact List.take_left' (leBytes_length 1 a)
  · have head : (leBytes 1 a ++ leBytes 1 b ++ leBytes 1 c ++ leBytes 1 e).length = 4 := by simp
    have split : leBytes 1 a ++ leBytes 1 b ++ leBytes 1 c ++ leBytes 1 e ++ leBytes 4 f ++ leBytes 3 g ++ leBytes 1 h ++ leBytes 4 i =
        (leBytes 1 a ++ leBytes 1 b ++ leBytes 1 c ++ leBytes 1 e) ++ (leBytes 4 f ++ (leBytes 3 g ++ leBytes 1 h ++ leBytes 4 i)) := by
      simp only [List.append_assoc]
    rw [split, List.drop_left' head, List.take_left' (leBytes_length 4 f)]
theorem pairStatus_answers : ∃ res, opPairStatus.run p ref d = (.done stOK res, d.draw.2) ∧ res.length = 16 ∧ res.take 1 = leBytes 1 (d.get MIR_STATUS.ROLE) ∧
    (res.drop 4).take 4 = leBytes 4 (d.rd MIR_EPOCH) := ⟨_, rfl, statusBytes _ _ _ _ _ _ _ _ rfl⟩

theorem swapDrill_badReturn (hb : bitAt (par p 22 1) 0 = true) (hn : par p 24 4 < 64 ∨ 1000000000 < par p 24 4) :
    opSwapDrill.run p ref d = (.bad stBAD_PARAMETER, d) := if_pos (by simpa [hb] using hn)
theorem swapDrill_checks (h : bitAt (par p 22 1) 0 = false ∨ (64 ≤ par p 24 4 ∧ par p 24 4 ≤ 1000000000)) : opSwapDrill.run p ref d =
    if d.passBusy then (.bad stBUSY, d) else d.logPacket 0x01 68 (.permit 0 (if bitAt (par p 22 1) 0 then par p 24 4 else 0)) ref :=
  if_neg (by
    rcases h with h | ⟨hlo, hhi⟩
    · simp [h]
    · simp [Nat.not_lt.mpr hlo, Nat.not_lt.mpr hhi])

/-! ## MIR_APPLY (R288, R343) -/

/-- The rule that MIR_CTRL breaks, or none. -/
def Dev.mirCtrlFails (d : Dev) :=
  (d.pairRules (d.get MIR_CTRL.LEASE) (d.cyc.active.toList ++ d.cyc.pending.toList)).orElse (fun _ => d.safetyFailWith [] (d.get MIR_CTRL.LEASE))
theorem mirApply_waits (h : d.on MIR_APPLY.APPLY = true) : d.mirApply = d := if_pos h
theorem mirApply_captures (h : d.on MIR_APPLY.APPLY = false) (hr : d.mirCtrlFails = none) :
    d.mirApply = ((d.set MIR_APPLY.REFUSED 0).set MIR_APPLY.APPLY 1).holdCommit 0x01C0 (d.capture [MIR_CTRL]) none := by
  refine (if_neg (by simp [h])).trans ?_
  change (match d.mirCtrlFails with | some _ => _ | none => _) = _
  rw [hr]
theorem mirApply_refuses (h : d.on MIR_APPLY.APPLY = false) (hr : d.mirCtrlFails ≠ none) : d.mirApply = d.set MIR_APPLY.REFUSED 1 := by
  obtain ⟨k, hk⟩ := Option.ne_none_iff_exists'.mp hr
  refine (if_neg (by simp [h])).trans ?_
  change (match d.mirCtrlFails with | some _ => _ | none => _) = _
  rw [hk]

end
end Sys2Proof.Machine

open Sys2Proof Sys2Proof.Machine

/-- Settles O31: each clause is the equation of its command in that case (R288, R291, R293, R309, R311, R313); the record that a good HELLO leaves is read back
through the loss of the permit that its epoch may bring. -/
theorem mirrorLinkAndPairPackets : Obligations.MirrorLinkAndPairPackets := by
  refine ⟨fun s l v hm h => ⟨_, rfl, laneUp_laneShown _ l v, _, rfl, next_of_dev (g := fun _ => _) (laneLock_shows _ _ _ hm h rfl)⟩,
    fun s l v h => next_of_fixed (laneLock_fixed _ _ _ h),
    fun s l b h => ⟨next_of_fixed (mirrorSilence_away _ h), next_of_fixed (sendHello_away _ _ (.inl h)), next_of_fixed (helloFrame_away _ _ _ (.inl h))⟩,
    fun s l b h => ⟨next_of_fixed (sendHello_away _ _ (.inr h)), next_of_fixed (helloFrame_away _ _ _ (.inr h))⟩,
    fun s hm h => ⟨_, rfl, mirrorSilence_down _ hm h⟩, fun s l hm hl => next_of_dev (sendHello_sends _ _ hm hl),
    fun s l b hm hl => ⟨fun h => next_of_dev (g := Dev.mirCrc l.val) ?badHello, fun hok hlen hpay hcrc => ?goodHello⟩,
    fun s p p' d' r => ?status, fun s p p' d' r h => ⟨fun hb => r.next (congrArg _ ((swapDrill_checks _ _ _ h).trans (if_neg (by simp [hb])))),
      fun hb => r.next (congrArg _ ((swapDrill_checks _ _ _ h).trans (if_pos hb)))⟩,
    fun s p p' d' r hb hn => r.next (congrArg _ (swapDrill_badReturn _ _ _ hb hn)),
    fun s p p' d' r => ⟨fun hb => r.next (congrArg _ (if_neg (by simp [hb]))), fun hb => r.next (congrArg _ (if_pos hb))⟩,
    ?resync, fun s h => next_of_fixed (mirApply_waits _ h),
    fun s h => ⟨fun hr => next_of_dev (mirApply_captures _ h hr), fun hr => next_of_dev (mirApply_refuses _ h hr)⟩⟩
  case badHello =>
    refine (helloFrame_checks _ _ _ hm hl).trans (if_pos ?_)
    rcases h with h | h | h | h <;> simp [h]
  case goodHello =>
    have checked := (helloFrame_checks _ b _ hm hl).trans (if_neg (by simp [hok, hlen, hpay, hcrc]))
    exact ⟨fun ht => exists_next (f := Dev.helloFrame l.val b) _ (checked.trans (if_neg (by simp [ht]))) (fun t he => hello_kept l.val b s.dev t.dev he),
      fun ht => next_of_fixed (checked.trans (if_pos ht))⟩
  case status =>
    obtain ⟨res, run, shape⟩ := pairStatus_answers p' (refOf p s.dev) d'
    exact ⟨res, r.next (congrArg _ run), shape⟩
  case resync =>
    rintro s p p' d' d1 f d2 r rfl rfl rfl
    exact r.next rfl
end

section
/-! PROOFS. What the work of the record store leaves of a drive's state and of the drives missing (R356, R361 to R369, R382), and O42. -/
namespace Sys2Proof.Machine

/-- A register that is no drive's status word. -/
def besideDrives (a : Nat) : Prop := a % 64 ≠ 0 ∨ a < 0x100100 ∨ 0x100200 ≤ a

/-- `g` reads no register but the drives' status words, and of the store only which drives are missing. -/
structure StoreBlind {β : Type} (g : Dev → β) : Prop where
  wr : ∀ a v d, besideDrives a → g (Dev.wr a v d) = g d
  hif : ∀ (x : Hif) (d : Dev), g { d with hif := x } = g d
  emit : ∀ o d, g (Dev.emit o d) = g d
  draw : ∀ d : Dev, g d.draw.2 = g d
  acq : ∀ (x : Acq) (d : Dev), g { d with acq := x } = g d
  trc : ∀ (x : Trc) (d : Dev), g { d with trc := x } = g d
  ledger : ∀ (x : Ledger) (d : Dev), g { d with ledger := x } = g d
  sto : ∀ (x : Sto) (d : Dev), x.missing = d.sto.missing → g { d with sto := x } = g d

namespace StoreBlind
variable {β : Type} {g : Dev → β} (h : StoreBlind g)
include h

theorem set (f : Fld) (v : Nat) (d : Dev) (ha : besideDrives f.a) : g (Dev.set f v d) = g d := h.wr _ _ _ ha
theorem count (f : Fld) (n : Nat) (d : Dev) (ha : besideDrives f.a) : g (Dev.count f n d) = g d := h.wr _ _ _ ha
theorem count32 (a n : Nat) (d : Dev) (ha : besideDrives a) : g (Dev.count32 a n d) = g d := h.wr _ _ _ ha
theorem wr64 (a v : Nat) (d : Dev) (h1 : besideDrives a) (h2 : besideDrives (a + 4)) : g (Dev.wr64 a v d) = g d := (h.wr _ _ _ h2).trans (h.wr _ _ _ h1)
theorem post (x y : Nat) (bs : List Byte) (d : Dev) : g (Dev.post x y bs d) = g d := h.hif _ d
theorem cond (b : Nat) (v : Bool) (d : Dev) : g (Dev.cond b v d) = g d := by
  have flags : besideDrives SYS_COND := .inr (.inl (by decide))
  have sticky : besideDrives SYS_COND_STICKY := .inr (.inl (by decide))
  unfold Dev.cond
  split
  · rfl
  · extract_lets d1 d2
    have raised : g d2 = g d := by
      unfold d2
      split
      · exact (h.wr _ _ _ sticky).trans (h.wr _ _ _ flags)
      · exact h.wr _ _ _ flags
    split
    · exact (h.post _ _ _ _).trans raised
    · exact raised

/-! ### Completions (R392 to R396) -/

theorem fireVector (v : Nat) (d : Dev) (hv : v < 64) : g (Dev.fireVector v d) = g d := by
  have pending : besideDrives (HIF_MSIX_PBA (v / 32)) := by unfold besideDrives HIF_MSIX_PBA; omega
  unfold Dev.fireVector
  dsimp only
  split
  · exact (h.wr _ _ _ pending).trans (h.hif _ d)
  · exact (h.emit _ _).trans (h.hif _ d)
theorem signalN (v k : Nat) (d : Dev) (hv : v < 64) : g (Dev.signalN v k d) = g d := by
  unfold Dev.signalN
  dsimp only
  split
  · exact h.fireVector v d hv
  · exact h.hif _ d
theorem writeReply (r : KeptReply) (d : Dev) : g (Dev.writeReply r d) = g d := by
  have tail : besideDrives (HIF_CQ_TAIL r.cq) := by unfold besideDrives HIF_CQ_TAIL; omega
  have owed : besideDrives (HIF_CQ_OWED r.cq) := by unfold besideDrives HIF_CQ_OWED; omega
  unfold Dev.writeReply
  extract_lets size at_ phase d1 d2 wrap d3
  exact (h.signalN _ _ _ (Dev.get_lt _ (HIF_CQ_CFG.VECTOR r.cq))).trans ((h.wr _ _ _ owed).trans ((h.wr _ _ _ tail).trans
    ((h.wr _ _ _ tail).trans ((h.hif _ d1).trans (h.emit _ d)))))
theorem pumpCq (c : Nat) (d : Dev) : g (Dev.pumpCq c d) = g d := by
  refine foldl_keep g _ (fun e r => ?_) _ d
  dsimp only
  split
  · exact (h.writeReply r _).trans (h.hif _ e)
  · rfl
theorem complete (ref : PktRef) (st : Nat) (t : LTime) (res : List Byte) (d : Dev) : g (Dev.complete ref st t res d) = g d := by
  have owed : ∀ c, besideDrives (HIF_CQ_OWED c) := by intro c; unfold besideDrives HIF_CQ_OWED; omega
  unfold Dev.complete
  split
  · rfl
  · extract_lets hif d1 job cq d2
    have reserved : g d2 = g d := by
      unfold d2
      split
      · exact (h.wr _ _ _ (owed _)).trans (h.hif _ d)
      · exact h.hif _ d
    have numbered : g (if ref.sq < 64 then (ref.sq, d2) else d2.draw).2 = g d2 := by
      split
      · rfl
      · exact h.draw d2
    split
    next sq e he =>
      rw [he] at numbered
      exact (h.pumpCq _ _).trans ((h.hif _ e).trans (numbered.trans reserved))
theorem completeOpt (ref : Option PktRef) (st : Nat) (t : LTime) (res : List Byte) (d : Dev) : g (Dev.completeOpt ref st t res d) = g d := by
  cases ref with
  | none => rfl
  | some r => exact h.complete _ _ _ _ _
theorem answer (ref : PktRef) (r : Reply × Dev) : g (Dev.answer ref r) = g r.2 := by
  obtain ⟨reply, d⟩ := r
  cases reply with
  | done st res => exact h.complete _ _ _ _ _
  | doneAt st t res => exact h.complete _ _ _ _ _
  | later => rfl

/-! ### The ledger, captures and traces (R217, R257, R260, R373 to R377) -/

theorem showLedger (d : Dev) : g d.showLedger = g d := by
  have fill : besideDrives LDG_FILL := by unfold besideDrives LDG_FILL; omega
  unfold Dev.showLedger
  exact (h.wr64 _ _ _ (by unfold besideDrives LDG_ENTRY_LO; omega) (by unfold besideDrives LDG_ENTRY_LO; omega)).trans ((h.set _ _ _ fill).trans (h.set _ _ _ fill))
theorem transact (items : List (Nat × List Byte)) (d : Dev) : g (Dev.transact items d) = g d := by
  have status : besideDrives LDG_STATUS := by unfold besideDrives LDG_STATUS; omega
  have filled : ∀ e : Dev, g e.checkFill = g e := by
    intro e
    unfold Dev.checkFill
    dsimp only
    split
    · rfl
    split
    · exact (h.post _ _ _ _).trans ((h.set _ _ _ status).trans ((h.set _ _ _ status).trans (h.ledger _ e)))
    · exact (h.set _ _ _ status).trans (h.ledger _ e)
  unfold Dev.transact
  split
  · rfl
  · exact (filled _).trans ((h.showLedger _).trans (h.ledger _ d))
theorem setCapState (u st : Nat) (d : Dev) : g (Dev.setCapState u st d) = g d := by
  have state : besideDrives (ACQ_U_STATE u) := by unfold besideDrives ACQ_U_STATE; omega
  have all : besideDrives ACQ_STATUS := by unfold besideDrives ACQ_STATUS; omega
  exact (h.set _ _ _ all).trans ((h.set _ _ _ all).trans (h.set _ _ _ state))
theorem capAdvance (u : Nat) (d : Dev) : g (Dev.capAdvance u d) = g d := by
  unfold Dev.capAdvance
  extract_lets c d1
  have pre : g d1 = g d := by
    unfold d1
    split
    · exact h.setCapState _ _ _
    · rfl
  split
  · split
    · exact (h.setCapState _ _ _).trans ((h.acq _ _).trans pre)
    · exact pre
  · exact pre
theorem recordCopied (u : Nat) (d : Dev) : g (Dev.recordCopied u d) = g d := by
  have left : besideDrives (ACQ_U_REPEAT u) := by unfold besideDrives ACQ_U_REPEAT; omega
  have last : besideDrives (ACQ_U_DEAD_LAST u) := by unfold besideDrives ACQ_U_DEAD_LAST; omega
  have most : besideDrives (ACQ_U_DEAD_MAX u) := by unfold besideDrives ACQ_U_DEAD_MAX; omega
  have armed : besideDrives (ACQ_U_ARM_ID u) := by unfold besideDrives ACQ_U_ARM_ID; omega
  unfold Dev.recordCopied
  extract_lets c
  split
  · rfl
  · extract_lets d1 n again d2 dead d3 d4 d5
    have h1 : g d1 = g d := h.acq _ d
    have h2 : g d2 = g d := (when_keep g _ _ (fun e => h.set _ _ e left) d1).trans h1
    have h3 : g d3 = g d := (h.wr _ _ _ most).trans ((h.wr _ _ _ last).trans h2)
    have h4 : g d4 = g d := by
      unfold d4
      split
      · exact h3
      · exact (h.set _ _ _ left).trans ((h.wr _ _ _ armed).trans h3)
    split
    · exact h1
    split
    · exact (h.capAdvance _ _).trans ((h.setCapState _ _ _).trans ((h.acq _ d4).trans h4))
    · exact (h.setCapState _ _ _).trans h2
theorem endTrace (u cause : Nat) (d : Dev) : g (Dev.endTrace u cause d) = g d := by
  have status : besideDrives (TRC_USTATUS u) := by unfold besideDrives TRC_USTATUS; omega
  unfold Dev.endTrace
  extract_lets st t d1 d2 trc d3 sto
  have h3 : g d3 = g d := (h.trc _ d2).trans ((h.post _ _ _ _).trans ((h.set _ _ _ status).trans (h.set _ _ _ status)))
  split
  · rfl
  split
  · exact (h.sto _ d3 (by rfl)).trans h3
  · exact h3

/-! ### The store's own work (R360 to R369) -/

theorem setDrive (i : Nat) (x : Drive) (d : Dev) : g (Dev.setDrive i x d) = g d := h.sto _ d (by rfl)
theorem pushOp (i : Nat) (op : NvOp) (d : Dev) : g (Dev.pushOp i op d) = g d := h.setDrive _ _ d
theorem putDrive (i op off : Nat) (data : List Byte) (d : Dev) : g (Dev.putDrive i op off data d) = g d := (h.emit _ _).trans (h.pushOp _ _ d)
theorem showStore (d : Dev) : g d.showStore = g d := by
  have status : besideDrives STO_STATUS := by unfold besideDrives STO_STATUS; omega
  have free : ∀ i, besideDrives (STO_D_FREE i) := by intro i; unfold besideDrives STO_D_FREE; omega
  have sum : besideDrives STO_FREE := by unfold besideDrives STO_FREE; omega
  have held : besideDrives STO_HELD := by unfold besideDrives STO_HELD; omega
  unfold Dev.showStore
  dsimp only
  rw [h.cond, h.wr64 _ _ _ (by unfold besideDrives STO_NEWEST_LO; omega) (by unfold besideDrives STO_NEWEST_LO; omega),
    h.wr64 _ _ _ (by unfold besideDrives STO_OLDEST_LO; omega) (by unfold besideDrives STO_OLDEST_LO; omega), h.wr _ _ _ held, h.wr _ _ _ sum,
    forN_keep g _ (fun i e => h.wr _ _ e (free i)), h.set _ _ _ status, h.set _ _ _ status]
theorem clearFull (d : Dev) : g d.clearFull = g d := (h.showStore _).trans (h.set _ _ d (by unfold besideDrives STO_STATUS.FULL STO_STATUS; dsimp only; omega))
theorem loseRecord (kind source st : Nat) (buffered : Bool) (d : Dev) : g (Dev.loseRecord kind source st buffered d) = g d := by
  have lost : besideDrives STO_LOST_CNT := by unfold besideDrives STO_LOST_CNT; omega
  have records : besideDrives ACQ_LOST_RECORDS := by unfold besideDrives ACQ_LOST_RECORDS; omega
  have pool : besideDrives ACQ_POOL := by unfold besideDrives ACQ_POOL; omega
  have counted : g (d.count32 STO_LOST_CNT 1) = g d := h.count32 _ _ _ lost
  unfold Dev.loseRecord
  dsimp only
  split
  · split
    · exact (h.recordCopied _ _).trans ((h.set _ _ _ pool).trans ((h.post _ _ _ _).trans ((h.count32 _ _ _ records).trans counted)))
    · exact (h.post _ _ _ _).trans ((h.count32 _ _ _ records).trans counted)
  · exact (h.endTrace _ _ _).trans counted
theorem flushAnswered (i : Nat) (d : Dev) : g (Dev.flushAnswered i d) = g d := by
  unfold Dev.flushAnswered
  split
  · exact h.sto _ d (by rfl)
  · rfl
theorem endRead (ref : PktRef) (num : Option Nat) (r : Reply × Dev) : g (Dev.endRead ref num r) = g r.2 := by
  unfold Dev.endRead
  cases num with
  | none => exact h.answer _ _
  | some n => exact (h.answer _ _).trans (h.sto _ _ (by rfl))
theorem abandon (op : NvOp) (d : Dev) : g (Dev.abandon op d) = g d := by
  unfold Dev.abandon
  split
  · exact h.endRead _ _ _
  · exact h.endRead _ _ _
  · exact h.complete _ _ _ _ _
  · exact h.complete _ _ _ _ _
  · exact (h.completeOpt _ _ _ _ _).trans (h.transact _ _)
  · rfl
theorem loseDrive (i : Nat) (d : Dev) : g (Dev.loseDrive i d) = g d := by
  unfold Dev.loseDrive
  dsimp only
  rw [h.flushAnswered, forEach_keep g _ h.abandon, forEach_keep g _ (fun r e => h.loseRecord _ _ _ _ e), forEach_keep g _ (fun r e => h.loseRecord _ _ _ _ e)]
  exact (h.sto _ _ (by rfl)).trans (h.setDrive _ _ d)
theorem startFlush (refs : List PktRef) (d : Dev) : g (Dev.startFlush refs d) = g d := by
  unfold Dev.startFlush
  dsimp only
  refine (h.set _ _ _ (by unfold besideDrives STO_STATUS.FLUSHING STO_STATUS; dsimp only; omega)).trans
    ((forEach_keep g _ (fun i e => ?_) _ _).trans (h.sto _ d (by rfl)))
  exact (h.emit _ _).trans (h.pushOp _ _ e)
theorem storeGo (d : Dev) : g d.storeGo = g d := by
  unfold Dev.storeGo
  split
  · rfl
  split
  · exact (h.startFlush _ _).trans (h.sto _ d (by rfl))
  split
  · split
    · rfl
    · exact h.startFlush _ d
  · rfl
theorem flushDone (f : Flush) (d : Dev) : g (Dev.flushDone f d) = g d := by
  have records : ∀ u, besideDrives (ACQ_U_RECORDS u) := by intro u; unfold besideDrives ACQ_U_RECORDS; omega
  unfold Dev.flushDone
  extract_lets done d1 sto1 d2 ds sto d3 d4 d5
  have h1 : g d1 = g d := by
    refine forEach_keep g _ (fun r e => forEach_keep g _ (fun a e => ?_) _ e) _ d
    extract_lets x e1
    split
    · exact h.setDrive _ _ e
    · exact (h.putDrive _ _ _ _ _).trans (h.setDrive _ _ e)
  have h2 : g d2 = g d1 := by
    unfold d2
    split
    · exact h.sto _ d1 (by rfl)
    · rfl
  have h3 : g d3 = g d2 := h.sto _ d2 (by rfl)
  have h4 : g d4 = g d3 := (h.set _ _ _ (by unfold besideDrives STO_STATUS.FLUSHING STO_STATUS; dsimp only; omega)).trans (h.transact _ _)
  have h5 : g d5 = g d4 := by
    refine forEach_keep g _ (fun r e => ?_) _ d4
    dsimp only
    have held : ∀ items, g (e.when r.held (Dev.transact items)) = g e := fun items => when_keep g _ _ (h.transact items) e
    split
    · exact (h.post _ _ _ _).trans ((h.count32 _ _ _ (records _)).trans (held _))
    · exact held _
  rw [h.showStore, forEach_keep g _ (fun r e => h.complete _ _ _ _ e), h5, h4, h3, h2, h1]
theorem mountDone (j : MountJob) (d : Dev) : g (Dev.mountDone j d) = g d := by
  unfold Dev.mountDone
  extract_lets kept broken d1 sto1 d2 top sto2 d3 d4 d5
  have h1 : g d1 = g d := by
    clear_value broken
    unfold d1
    split
    · exact (h.post _ _ _ _).trans (h.set _ _ _ (by unfold besideDrives STO_STATUS.CHAIN_BREAK STO_STATUS; dsimp only; omega))
    · rfl
  have h2 : g d2 = g d1 := by
    unfold d2
    split
    · exact h.sto _ d1 (by rfl)
    · rfl
  have h3 : g d3 = g d2 := h.sto _ d2 (by rfl)
  rw [h.completeOpt, h.post, h.clearFull, h3, h2, h1]
theorem mountSettled (i : Nat) (d : Dev) : g (Dev.mountSettled i d) = g d := by
  unfold Dev.mountSettled
  split
  · dsimp only
    split
    · exact (h.mountDone _ _).trans (h.sto _ d (by rfl))
    · exact (h.showStore _).trans (h.sto _ d (by rfl))
  · exact h.showStore d

end StoreBlind

/-! ## Links (R356, R382) -/

/-- A drive's state, and the drives that are missing. -/
def Dev.linkPart (i : Nat) (d : Dev) : Nat × List Nat := (d.dState i, d.sto.missing)

theorem storeBlind_linkPart {i : Nat} (hi : i < 4) : StoreBlind (Dev.linkPart i) where
  wr a v d ha := by
    have other : STO_D_STATUS i ≠ a := by unfold besideDrives at ha; unfold STO_D_STATUS; omega
    exact congrArg (fun v => (bitsOf v 2 0, d.sto.missing)) (Dev.rd_wr_other _ _ _ _ other)
  hif _ _ := rfl
  emit _ _ := rfl
  draw _ := rfl
  acq _ _ := rfl
  trc _ _ := rfl
  ledger _ _ := rfl
  sto _ d h := congrArg (fun m => (d.dState i, m)) h

section
variable {i : Nat} (hi : i < 4) (d : Dev)

theorem dState_set_other (j v : Nat) (h : j ≠ i) : (d.set (STO_D_STATUS.STATE j) v).dState i = d.dState i := by
  refine Dev.get_set_other _ _ _ _ (show 2 < 32 by decide) (.inl ?_)
  simp only [STO_D_STATUS.STATE, STO_D_STATUS]
  omega
theorem dState_set_same (v : Nat) (h : v < 8) : (d.set (STO_D_STATUS.STATE i) v).dState i = v :=
  (Dev.get_set_same _ _ _ (show 2 < 32 by decide)).trans (Nat.mod_eq_of_lt h)
include hi
/-- A drive that is not mounted is not unmounted either. -/
theorem linkPart_unmountStep (h : d.dState i ≠ 3) : d.unmountStep.linkPart i = d.linkPart i := by
  have blind := storeBlind_linkPart hi
  have released : ∀ (m : List Nat) (e : Dev), e.dState i ≠ 3 →
      (e.forEach m (fun i e => e.when (e.dState i == 3) (Dev.set (STO_D_STATUS.STATE i) 7))).linkPart i = e.linkPart i := by
    intro m
    induction m with
    | nil => exact fun _ _ => rfl
    | cons j m ih =>
      intro e he
      have one : (e.when (e.dState j == 3) (Dev.set (STO_D_STATUS.STATE j) 7)).linkPart i = e.linkPart i := by
        cases hj : e.dState j == 3 with
        | false => rfl
        | true =>
          have other : j ≠ i := fun hji => he (hji ▸ eq_of_beq hj)
          exact congrArg (·, e.sto.missing) (dState_set_other e j 7 other)
      exact (ih _ (fun h3 => he ((congrArg Prod.fst one).symm.trans h3))).trans one
  unfold Dev.unmountStep
  split
  · split
    · rfl
    · exact (blind.complete _ _ _ _ _).trans ((blind.showStore _).trans ((released _ _ (by exact h)).trans (blind.sto _ d (by rfl))))
  · rfl
theorem linkPart_storeSettle (h : d.dState i ≠ 3) : d.storeSettle.linkPart i = d.linkPart i := by
  have blind := storeBlind_linkPart hi
  have flushed : (match d.sto.flush with
      | some f => if f.waiting.isEmpty then d.flushDone f else d
      | none => d).linkPart i = d.linkPart i := by
    split
    · split
      · exact blind.flushDone _ d
      · rfl
    · rfl
  exact (blind.storeGo _).trans ((linkPart_unmountStep hi _ (fun h3 => h ((congrArg Prod.fst flushed).symm.trans h3))).trans flushed)

end

section
variable (i : Nat) (d : Dev) (sp w : Nat)

theorem rootPortLink_fixed_up (h : d.dState i ≠ 0 ∨ bitAt (d.get CLK_NVM_REFCLK.EN) i = false) : d.rootPortLink i true sp w = d :=
  (if_pos rfl).trans (if_pos (by rcases h with h | h <;> simp [h]))
theorem rootPortLink_fixed_down (h : d.dState i = 0) : d.rootPortLink i false sp w = d := (if_neg Bool.false_ne_true).trans (if_pos h)

/-- A drive is missing, or no longer. -/
def Dev.setMissing (l : List Nat) (d : Dev) : Dev := { d with sto := { d.sto with missing := l } }
/-- What a drive's link shows. -/
def Dev.showLink (st sp w : Nat) (d : Dev) : Dev := ((d.set (STO_D_STATUS.STATE i) st).set (STO_D_LINK.SPEED i) sp).set (STO_D_LINK.WIDTH i) w
theorem sto_showLink (st : Nat) : (d.showLink i st sp w).sto = d.sto := by
  unfold Dev.showLink
  rw [Dev.set_sto, Dev.set_sto, Dev.set_sto]
theorem dState_showLink (hi : i < 4) (st : Nat) (hs : st < 8) : (d.showLink i st sp w).dState i = st := by
  have link : ∀ (f : Fld) (v : Nat) (e : Dev), f.a = STO_D_LINK i → (e.set f v).dState i = e.dState i := fun f v e hf =>
    congrArg Prod.fst ((storeBlind_linkPart hi).set f v e (by unfold besideDrives; rw [hf]; unfold STO_D_LINK; omega))
  exact (link _ _ _ rfl).trans ((link _ _ _ rfl).trans (dState_set_same d st hs))
theorem sto_showStore : d.showStore.sto = d.sto := by
  have blind : Blind Dev.sto := ⟨fun _ _ _ => rfl, fun _ _ => rfl⟩
  unfold Dev.showStore
  dsimp only
  rw [blind.cond, blind.wr64, blind.wr64, blind.wr, blind.wr, forN_keep Dev.sto _ (fun i e => blind.wr _ _ e), blind.set, blind.set]
theorem drive_congr {d e : Dev} (h : d.sto.drives = e.sto.drives) (i : Nat) : d.drive i = e.drive i :=
  congrArg (fun m => smGet (fun _ => Drive.reset) m i) h
theorem drive_setMissing (l : List Nat) : (d.setMissing l).drive i = d.drive i := rfl
theorem dState_setMissing (l : List Nat) : (d.setMissing l).dState i = d.dState i := rfl
theorem drive_nvme (j q op off : Nat) (data : List Byte) : (d.nvme j q op off data).drive i = d.drive i := rfl
theorem ops_pushOp (op : NvOp) : ((d.pushOp i op).drive i).ops = (d.drive i).ops ++ [op] := congrArg Drive.ops (smGet_smSet_same _ _ _ _)

/-- The link of an absent drive has trained. -/
def Dev.linkTrained : Dev :=
  ((((d.showLink i 1 sp w).setMissing ((d.showLink i 1 sp w).sto.missing.erase i)).pushOp i .enable).nvme i 0 0x101 0 []).showStore
theorem rootPortLink_trained (h : d.dState i = 0) (hc : bitAt (d.get CLK_NVM_REFCLK.EN) i = true) : d.rootPortLink i true sp w = d.linkTrained i sp w :=
  (if_pos rfl).trans (if_neg (by simp [h, hc]))
theorem ops_linkTrained : ((d.linkTrained i sp w).drive i).ops = (d.drive i).ops ++ [.enable] := by
  unfold Dev.linkTrained
  have shown : ((d.showLink i 1 sp w).setMissing ((d.showLink i 1 sp w).sto.missing.erase i)).drive i = d.drive i :=
    (drive_setMissing i _ _).trans (drive_congr (congrArg Sto.drives (sto_showLink i d sp w 1)) i)
  rw [drive_congr (congrArg Sto.drives (sto_showStore _)) i, drive_nvme, ops_pushOp, shown]
theorem dState_linkTrained (hi : i < 4) : (d.linkTrained i sp w).dState i = 1 := by
  have blind := storeBlind_linkPart hi
  refine (congrArg Prod.fst ((blind.showStore _).trans ((blind.emit _ _).trans (blind.pushOp _ _ _)))).trans ?_
  exact (dState_setMissing i _ _).trans (dState_showLink i d sp w hi 1 (by decide))

/-- The link of a present drive is lost. -/
def Dev.linkGone : Dev :=
  (((((d.showLink i 0 0 0).loseDrive i).setMissing (((d.showLink i 0 0 0).loseDrive i).sto.missing.erase i ++ [i])).setDrive i Drive.reset).mountSettled
    i).storeSettle.showStore
theorem rootPortLink_lost (h : d.dState i ≠ 0) : d.rootPortLink i false sp w = d.linkGone i := (if_neg Bool.false_ne_true).trans (if_neg h)
theorem linkPart_linkGone (hi : i < 4) : (d.linkGone i).dState i = 0 ∧ (d.linkGone i).sto.missing.contains i = true := by
  have blind := storeBlind_linkPart hi
  have absent : ((d.showLink i 0 0 0).loseDrive i).dState i = 0 :=
    (congrArg Prod.fst (blind.loseDrive i _)).trans (dState_showLink i d 0 0 hi 0 (by decide))
  unfold Dev.linkGone
  generalize (d.showLink i 0 0 0).loseDrive i = e at absent ⊢
  have settled : (((e.setMissing (e.sto.missing.erase i ++ [i])).setDrive i Drive.reset).mountSettled i).linkPart i = (0, e.sto.missing.erase i ++ [i]) :=
    (blind.mountSettled _ _).trans ((blind.setDrive _ _ _).trans (congrArg (·, e.sto.missing.erase i ++ [i]) absent))
  generalize ((e.setMissing (e.sto.missing.erase i ++ [i])).setDrive i Drive.reset).mountSettled i = k at settled ⊢
  have down : k.dState i ≠ 3 := by rw [show k.dState i = 0 from congrArg Prod.fst settled]; decide
  have gone := (blind.showStore _).trans ((linkPart_storeSettle hi k down).trans settled)
  refine ⟨congrArg Prod.fst gone, (congrArg (List.contains · i) (congrArg Prod.snd gone)).trans ?_⟩
  simp

end

/-! ## Commands and timeouts (R356, R364) -/

section
variable (i n o : Nat) (b x : List Byte) (re : Bool) (d : Dev)

theorem nvmeComplete_none (k st : Nat) (h : (d.drive i).ops[k]? = none) : d.nvmeComplete i k st x = d := by simp only [Dev.nvmeComplete, h]
theorem nvmeComplete_some (k st : Nat) (op : NvOp) (h : (d.drive i).ops[k]? = some op) : d.nvmeComplete i k st x =
    ((d.setDrive i { d.drive i with ops := (d.drive i).ops.eraseIdx k }).opDone i op st x).storeSettle := by simp only [Dev.nvmeComplete, h]

theorem opDone_writeOk (hn : n ≠ 0) : d.opDone i (.write n o b re) 0 x = d.partWritten n := if_neg hn
theorem opDone_writeFails (st : Nat) (h : st ≠ 0) : d.opDone i (.write n o b re) st x = d.writeFailed i n o b re st := if_neg (by simp [h])

variable {d} {r : Rec} (hr : d.sto.writing.find? (fun y => y.num == n) = some r)
include hr

theorem written_more (hl : 1 < r.left) : (d.partWritten n).sto.written = d.sto.written := by
  simp only [Dev.partWritten, hr, if_pos hl]
theorem written_last (hl : r.left ≤ 1) : (d.partWritten n).sto.written = d.sto.written ++ [{ r with left := 0 }] := by
  have put : ∀ (us : List Nat) (e : Dev), (e.forEach us (fun a d => d.putDrive r.drive 1 (indexAt a) (indexBytes ((d.drive r.drive).au a)))).sto.written =
      e.sto.written := by
    intro us e
    refine forEach_keep (fun e => e.sto.written) _ (fun a e => ?_) us e
    rfl
  simp only [Dev.partWritten, hr, if_neg (Nat.not_lt.mpr hl)]
  rw [when_keep (fun e : Dev => e.sto.written) _ Dev.freeBuffer (fun _ => rfl)]
  split
  · rfl
  · exact put _ _

end

section
variable (i : Nat) (d : Dev)

/-- Whether a mount waits for a drive that does not answer at all. -/
def Dev.trains : Bool := decide (d.dState i ≤ 1) && (d.drive i).ops.isEmpty && (match d.sto.job with | some j => j.waiting.contains i | none => false)
/-- Whether the drive's last timeout is not yet 10 s ago. -/
def Dev.timedOut : Bool := match (d.drive i).timeout with | some t => decide (d.now ≤ t + ns 10000000000) | none => false
theorem dState_count32_timeout (hi : i < 4) : (d.count32 (STO_D_TIMEOUT i) 1).dState i = d.dState i :=
  congrArg Prod.fst ((storeBlind_linkPart hi).count32 _ _ d (by unfold besideDrives STO_D_TIMEOUT; omega))
theorem nvmeTimeout_idle (ho : (d.drive i).ops = []) (ht : d.trains i = false) : d.nvmeTimeout i = d := by
  have idle : ((d.drive i).ops.isEmpty && !d.trains i) = true := by simp [ho, ht]
  exact if_pos idle

variable (hi : i < 4) (h : (d.drive i).ops ≠ [] ∨ d.trains i = true)
include hi h

theorem nvmeTimeout_acts : d.nvmeTimeout i =
    if d.dState i ≤ 2 || d.timedOut i then (d.count32 (STO_D_TIMEOUT i) 1).failDrive i 0xFFFF
    else (((d.count32 (STO_D_TIMEOUT i) 1).setDrive i { d.drive i with timeout := some d.now }).nvme i 0 0x100 0 []).forEach (d.drive i).ops
        (fun o d => match o with | .write _ op b _ => d.emit (.nvme i 1 op b) | _ => d) := by
  have waits : ¬((d.drive i).ops.isEmpty && !d.trains i) = true := by
    rcases h with h | h <;> simp [h]
  rw [← dState_count32_timeout i d hi]
  exact if_neg waits

end

/-! ## The flush timer (R364) -/

section
variable (d : Dev)

theorem flushTimer_idle (h : d.sto.flush ≠ none ∨ d.sto.writing ++ d.sto.written = [] ∨ d.drivesIn 3 = []) : d.flushTimer = d := by
  refine if_pos ?_
  rcases h with h | h | h
  · simp [Option.isSome_iff_ne_none.mpr h]
  · rw [h]
    simp
  · simp [h]
theorem flushTimer_starts (h : d.sto.flush = none) (hr : d.sto.writing ++ d.sto.written ≠ []) (hd : d.drivesIn 3 ≠ []) : d.flushTimer = d.startFlush [] :=
  if_neg (by simp only [h, Option.isSome_none, Bool.false_or, Bool.or_eq_true, List.isEmpty_iff]; tauto)
theorem sto_startFlush {β : Type} (g : Sto → β) (hg : ∀ (m : SMap Drive) (x : Sto), g { x with drives := m } = g x) (refs : List PktRef) :
    g (d.startFlush refs).sto = g { d.sto with flush := some ⟨refs, d.sto.written.map (·.num), d.drivesIn 3⟩ } := by
  unfold Dev.startFlush
  dsimp only
  rw [Dev.set_sto]
  refine forEach_keep (fun e : Dev => g e.sto) _ (fun i e => ?_) _ _
  exact hg _ _
theorem flush_startFlush (refs : List PktRef) : (d.startFlush refs).sto.flush = some ⟨refs, d.sto.written.map (·.num), d.drivesIn 3⟩ :=
  sto_startFlush d Sto.flush (fun _ _ => rfl) refs
theorem flushNext_startFlush (refs : List PktRef) : (d.startFlush refs).sto.flushNext = d.sto.flushNext := sto_startFlush d Sto.flushNext (fun _ _ => rfl) refs
theorem flushing_startFlush (refs : List PktRef) : (d.startFlush refs).on STO_STATUS.FLUSHING = true :=
  on_set_flag STO_STATUS.FLUSHING true _ (by decide) rfl

/-! ## A finished compaction (R376, R379) -/

theorem ledgerCompacted_none (h : d.ledger.compacting = none) : d.ledgerCompacted = d := by simp only [Dev.ledgerCompacted, h]

/-- The snapshot that a compaction writes into the other area. -/
def Dev.compactedArea : LedgerArea :=
  { gen := d.ledger.area.gen + 1, created := d.now
    firstSeq := (((keptEntries d.ledger.area.journal).head?).map (·.seq)).getD d.ledger.nextSeq
    snapshot := ((keptEntries d.ledger.area.journal).map (fun e => entryLen e.body)).sum
    committed := true, retired := false, journal := keptEntries d.ledger.area.journal }
/-- The ledger after a compaction. -/
def Dev.compactedLedger : Ledger :=
  ({ d.ledger.setArea { d.ledger.area with retired := true } with
    active := 1 - (d.ledger.setArea { d.ledger.area with retired := true }).active, compacting := none } : Ledger).setArea d.compactedArea

theorem ledger_showLedger (e : Dev) : e.showLedger.ledger = e.ledger := by
  unfold Dev.showLedger
  dsimp only
  rw [Dev.wr64_ledger, Dev.set_ledger, Dev.set_ledger]
theorem ledgerCompacted_shows {b : Nat} (h : d.ledger.compacting = some b) :
    d.ledgerCompacted.ledger = d.compactedLedger ∧ d.ledgerCompacted.on LDG_STATUS.COMPACTING = false := by
  have blind : Blind Dev.ledger := ⟨fun _ _ _ => rfl, fun _ _ => rfl⟩
  have shown : ∀ (v : Nat) (e : Dev), ((e.wr64 LDG_GEN_LO v).showLedger).rd LDG_STATUS = e.rd LDG_STATUS := by
    intro v e
    unfold Dev.showLedger Dev.wr64
    dsimp only
    rw [Dev.rd_wr_other _ _ _ _ (by decide), Dev.rd_wr_other _ _ _ _ (by decide), Dev.rd_set_other _ _ _ _ (by decide), Dev.rd_set_other _ _ _ _ (by decide),
      Dev.rd_wr_other _ _ _ _ (by decide), Dev.rd_wr_other _ _ _ _ (by decide)]
  simp only [Dev.ledgerCompacted, h]
  constructor
  · rw [blind.post, ledger_showLedger, blind.wr64, blind.cond, blind.set, blind.set, blind.set, blind.set, blind.set]
    rfl
  · rw [Dev.on, Dev.get_post, get_of_rd LDG_STATUS.COMPACTING (shown _ _), get_cond_other _ _ _ _ (by decide) (by decide), ← Dev.on,
      on_set_other LDG_STATUS.CONFLICT LDG_STATUS.COMPACTING _ _ (by decide) (by decide)]
    exact on_set_flag LDG_STATUS.COMPACTING false _ (by decide) rfl
/-- The other area stands, with the kept entries under the next generation, and the old one is retired. -/
theorem compactedLedger_areas : d.compactedLedger.compacting = none ∧ d.compactedLedger.active = 1 - d.ledger.active ∧
    d.compactedLedger.area = d.compactedArea ∧ (if d.ledger.active = 0 then d.compactedLedger.areaA else d.compactedLedger.areaB).retired = true := by
  unfold Dev.compactedLedger Ledger.setArea Ledger.area
  generalize d.compactedArea = fresh
  rcases Nat.eq_zero_or_pos d.ledger.active with h0 | hp
  · simp [h0]
  · have other : 1 - d.ledger.active = 0 := by omega
    simp [Nat.ne_of_gt hp, other]

end
end Sys2Proof.Machine

open Sys2Proof Sys2Proof.Machine

/-- Settles O42: each clause is the equation of its command in that case (R356, R361, R364, R367, R376, R377, R379, R382); a lost link's drive stays absent and
missing through the losses, the flush and the mount that the loss may end. That a lost link makes the drive missing and that a timeout resets the drive's
controller by the output 0x100 are the model's choices (log 62, 61). -/
theorem storeDrivesAndFlushesGoOn : Obligations.StoreDrivesAndFlushesGoOn := by
  refine ⟨fun s i sp w => ⟨fun h => next_of_fixed (rootPortLink_fixed_up _ _ _ _ h), fun h hc => ?trained, fun h => next_of_fixed (rootPortLink_fixed_down _ _ _ _ h),
      fun h => ?lost⟩,
    fun s i k st x h => next_of_fixed (nvmeComplete_none _ _ _ _ _ h), fun s i k st x op h => next_of_dev (nvmeComplete_some _ _ _ _ _ op h),
    fun i n o b x re r d hr hn => ⟨fun hl => ?part, fun hl => ?last⟩,
    fun i n o st b x d h => ⟨opDone_writeFails _ _ _ _ _ _ _ _ h, opDone_writeFails _ _ _ _ _ _ _ _ h⟩, ?timeout,
    fun s => ⟨fun h => next_of_fixed (flushTimer_idle _ h), fun h hr hd => ?flush⟩, fun s h => next_of_fixed (ledgerCompacted_none _ h), fun s b h => ?compacted⟩
  case trained =>
    exact exists_next (f := Dev.rootPortLink i.val true sp w) _ (rootPortLink_trained _ _ _ _ h hc) (fun t ht =>
      ht ▸ ⟨ops_linkTrained _ _ _ _, dState_linkTrained _ _ _ _ i.isLt⟩)
  case lost =>
    exact exists_next (f := Dev.rootPortLink i.val false sp w) _ (rootPortLink_lost _ _ _ _ h) (fun t ht => ht ▸ linkPart_linkGone _ _ i.isLt)
  case part => rw [opDone_writeOk _ _ _ _ _ _ _ hn, written_more _ hr hl]
  case last => rw [opDone_writeOk _ _ _ _ _ _ _ hn, written_last _ hr hl]
  case timeout =>
    rintro s i trains again rfl rfl
    refine ⟨fun ho ht => next_of_fixed (nvmeTimeout_idle _ _ ho ht),
      fun hw h => next_of_dev ((nvmeTimeout_acts _ _ i.isLt hw).trans (if_pos ?_)),
      fun ho hs ha => next_of_dev ((nvmeTimeout_acts _ _ i.isLt (.inl ho)).trans (if_neg ?_))⟩
    · have due : s.dev.dState i.val ≤ 2 ∨ s.dev.timedOut i.val = true := h
      simpa using due
    · have late : s.dev.timedOut i.val = false := ha
      simp only [late, Bool.or_false, decide_eq_true_eq]
      omega
  case flush =>
    exact exists_next (f := Dev.flushTimer) _ (flushTimer_starts _ h hr hd) (fun t ht => ht ▸ ⟨flush_startFlush _ _, flushing_startFlush _ _⟩)
  case compacted =>
    obtain ⟨ledger, shown⟩ := ledgerCompacted_shows s.dev h
    obtain ⟨ended, active, area, retired⟩ := compactedLedger_areas s.dev
    rw [← ledger] at ended active area retired
    exact ⟨_, rfl, ended, active, congrArg LedgerArea.journal area, congrArg LedgerArea.gen area, congrArg LedgerArea.retired area, retired, shown⟩
end

section
/-! PROOFS. The store's opcodes and the ledger's: MOUNT_STORE, READ_RECORD, LIST_RECORDS, DELETE_RECORDS, FLUSH_STORE, COMPACT_LEDGER and READ_LEDGER (R364 to R381),
and O43. -/
namespace Sys2Proof.Machine

section
variable (p : Packet) (ref : PktRef) (d : Dev)

/-! ## MOUNT_STORE (R369, R370) -/

/-- The drives that MOUNT_STORE names. -/
def mountMask (p : Packet) : List Nat := (List.range 4).filter (bitAt (par p 23 1))
/-- Whether packets wait for a flush. -/
def Dev.flushAsked (d : Dev) : Bool := !d.sto.flushNext.isEmpty || (match d.sto.flush with | some f => !f.refs.isEmpty | none => false)
/-- Whether drives of a mask have records or commands under way. -/
def Dev.drivesWork (mask : List Nat) (d : Dev) : Bool :=
  (d.sto.writing ++ d.sto.written).any (fun r => mask.contains r.drive) || mask.any (fun i => !(d.drive i).ops.isEmpty)

theorem mountStore_bad (h : 2 < par p 22 1 ∨ 16 ≤ par p 23 1) : opMountStore.run p ref d = (.bad stBAD_PARAMETER, d) := if_pos (by simpa using h)

section
variable (ho : par p 22 1 ≤ 2) (hm : par p 23 1 < 16)
include ho hm

theorem mountStore_busy (h : d.sto.job ≠ none ∨ d.sto.unmounting ≠ none) : opMountStore.run p ref d = (.bad stBUSY, d) :=
  (if_neg (by simp; omega)).trans (if_pos (by simpa [Option.isSome_iff_ne_none] using h))

variable (hj : d.sto.job = none) (hu : d.sto.unmounting = none)
include hj hu

theorem mountStore_free : opMountStore.run p ref d =
    if par p 22 1 = 1 then
      if d.flushAsked then (.bad stBUSY, d)
      else (.later, ({ d with sto := { d.sto with unmounting := some (mountMask p, ref) } } : Dev).startUnmount)
    else if par p 22 1 = 2 && d.drivesWork (mountMask p) then (.bad stBUSY, d)
    else (.later, (d.when (par p 22 1 == 2) Dev.formatStore).startMount (par p 22 1) (mountMask p) (some ref)) :=
  (if_neg (by simp; omega)).trans (if_neg (by simp [hj, hu]))

end

/-! ## READ_RECORD (R370) -/

theorem readRecord_badFlags (h : 8 ≤ par p 50 1) : opReadRecord.run p ref d = (.bad stBAD_PARAMETER, d) := if_pos h
theorem readRecord_unit (h : par p 50 1 < 8) (hb : bitAt (par p 50 1) 2 = true) : opReadRecord.run p ref d =
    if 4 ≤ par p 22 1 || d.dState (par p 22 1) ≠ 3 || (d.drive (par p 22 1)).n ≤ par p 24 4 then (.bad stBAD_PARAMETER, d)
    else (.later, (d.pushOp (par p 22 1) (.readAu (par p 24 4) p ref)).nvme (par p 22 1) 1 2 (auAt (par p 24 4)) (leBytes 8 0x200000)) :=
  (if_neg (Nat.not_le.mpr h)).trans (if_pos hb)
theorem readRecord_whole (h : par p 50 1 < 4) : opReadRecord.run p ref d =
    match (if d.ha 7 then none else d.driveOf (par p 22 8)) with
    | none => (.bad stBAD_PARAMETER, d)
    | some i =>
      if d.sto.writing.any (fun r => r.num == par p 22 8) then (.bad stBAD_PARAMETER, d) else
        (.later, (({ d with sto := { d.sto with pinned := d.sto.pinned ++ [par p 22 8] } } : Dev).pushOp i (.readRecord (par p 22 8) p ref)).forEach
          ((d.drive i).unitsOf (par p 22 8)) (fun a => Dev.nvme i 1 2 (auAt a) (leBytes 8 0x200000))) := by
  have whole : ¬ bitAt (par p 50 1) 2 = true := by
    have low : par p 50 1 / 2 ^ 2 = 0 := Nat.div_eq_of_lt h
    rw [bitAt, low]
    decide
  exact (if_neg (by omega)).trans (if_neg whole)
theorem readRecord_unknown (h : par p 50 1 < 4) (hn : d.ha 7 = true ∨ d.driveOf (par p 22 8) = none ∨ d.sto.writing.any (fun r => r.num == par p 22 8) = true) :
    opReadRecord.run p ref d = (.bad stBAD_PARAMETER, d) := by
  rw [readRecord_whole p ref d h]
  split
  · rfl
  next i hi =>
    refine if_pos ?_
    rcases hn with hn | hn | hn
    · simp [hn] at hi
    · simp [hn] at hi
    · exact hn
theorem readRecord_pins (h : par p 50 1 < 4) {i : Nat} (ha : d.ha 7 = false) (hi : d.driveOf (par p 22 8) = some i)
    (hw : d.sto.writing.any (fun r => r.num == par p 22 8) = false) : opReadRecord.run p ref d =
      (.later, (({ d with sto := { d.sto with pinned := d.sto.pinned ++ [par p 22 8] } } : Dev).pushOp i (.readRecord (par p 22 8) p ref)).forEach
        ((d.drive i).unitsOf (par p 22 8)) (fun a => Dev.nvme i 1 2 (auAt a) (leBytes 8 0x200000))) := by
  rw [readRecord_whole p ref d h, ha, if_neg Bool.false_ne_true, hi]
  exact if_neg (by simp [hw])

/-! ## LIST_RECORDS (R370, R371) -/

theorem listRecords_bad (h : 2 < par p 40 1) : opListRecords.run p ref d = (.bad stBAD_PARAMETER, d) := if_pos h
theorem listRecords_units (h : par p 40 1 ≤ 2) (ha : d.ha 7 = true) : opListRecords.run p ref d =
    (.later, d.listAuStep p ref [] (((d.drivesIn 3).flatMap (fun i => (List.range (min (d.drive i).dws (d.drive i).n)).map (fun k =>
      (i, (d.rd (STO_D_WPTR i) + (d.drive i).n - 1 - k) % max 1 (d.drive i).n)))).take (par p 30 2))) :=
  (if_neg (Nat.not_lt.mpr h)).trans (if_pos ha)
theorem listRecords_headers (h : par p 40 1 ≤ 2) (ha : d.ha 7 = false) : opListRecords.run p ref d =
    (.later, Dev.listStep p ref [] (((d.recordsWith (fun e => decide (par p 22 8 ≤ e.num) && (par p 40 1 == 0 || e.kind == par p 40 1))).filter
      (fun n => !d.sto.writing.any (fun r => r.num == n))).take (par p 30 2)) d) :=
  (if_neg (Nat.not_lt.mpr h)).trans (if_neg (by simp [ha]))
/-- No record of the range: the empty list goes to the host with the next number to be given. -/
theorem listRecords_empty {bs : List Byte} (hk : par p 40 1 = 0) (ha : d.ha 7 = false) (he : d.recordsWith (fun e => decide (par p 22 8 ≤ e.num)) = [])
    (hh : p.host = some bs) : opListRecords.run p ref d =
      (.later, (d.emit (.hostWrite (par p 32 8) (d.outBytes p []))).complete ref stOK d.now (leBytes 2 0 ++ leBytes 8 d.sto.next)) := by
  have none : d.recordsWith (fun e => decide (par p 22 8 ≤ e.num) && (par p 40 1 == 0 || e.kind == par p 40 1)) = [] := by
    simpa [hk] using he
  rw [listRecords_headers p ref d (by omega) ha, none]
  simp only [List.filter_nil, List.take_nil, Dev.listStep, List.isEmpty_nil, if_true, none]
  rw [hostWrite_ok p _ _ _ _ _ hh]
  rfl

/-! ## DELETE_RECORDS and FLUSH_STORE (R364, R368, R370) -/

/-- The records of a range that may be deleted. -/
def Dev.deletable (p : Packet) (d : Dev) : List Nat := if d.ha 7 then [] else d.recordsWith (fun e => decide (par p 22 8 ≤ e.num) &&
  decide (e.num ≤ par p 30 8) && (e.state == 2 || (bitAt (par p 38 1) 0 && e.state == 3)))
theorem deleteRecords_pinned (h : d.sto.pinned.any (fun n => par p 22 8 ≤ n && n ≤ par p 30 8) = true) : opDeleteRecords.run p ref d = (.bad stBUSY, d) := if_pos h
theorem deleteRecords_unpinned (h : d.sto.pinned.any (fun n => par p 22 8 ≤ n && n ≤ par p 30 8) = false) : opDeleteRecords.run p ref d =
    if (d.deletable p).isEmpty then (.done stOK (leBytes 4 0), d) else (.later, d.deleteRecords (d.deletable p) (some ref)) := if_neg (by simp [h])

/-- The packet waits for the next flush. -/
def Dev.awaitFlush : Dev := { d with sto := { d.sto with flushNext := d.sto.flushNext ++ [ref] } }
theorem flushStore_unmounting (h : d.sto.unmounting ≠ none) : opFlushStore.run p ref d = (.bad stBUSY, d) := if_pos (Option.isSome_iff_ne_none.mpr h)
theorem flushStore_checks (h : d.sto.unmounting = none) : opFlushStore.run p ref d =
    if (d.drivesIn 3).isEmpty then (.done stOK (leBytes 8 d.sto.headNum), d) else (.later, (d.awaitFlush ref).storeGo) := if_neg (by simp [h])
theorem storeGo_flushing (h : d.sto.flush ≠ none) : d.storeGo = d := if_pos (Option.isSome_iff_ne_none.mpr h)
theorem storeGo_awaitFlush (h : d.sto.flush = none) : (d.awaitFlush ref).storeGo =
    ({ d.awaitFlush ref with sto := { (d.awaitFlush ref).sto with flushNext := [] } } : Dev).startFlush (d.sto.flushNext ++ [ref]) :=
  (if_neg (by simp [Dev.awaitFlush, h])).trans (if_pos (by simp [Dev.awaitFlush]))

/-! ## COMPACT_LEDGER (R377, R379, R381) -/

theorem compactLedger_bad (h : 2 < par p 22 1) : opCompactLedger.run p ref d = (.bad stBAD_PARAMETER, d) := if_pos h
theorem compactLedger_busy (h : par p 22 1 ≤ 2) (hc : d.ledger.compacting ≠ none) : opCompactLedger.run p ref d = (.bad stBUSY, d) :=
  (if_neg (Nat.not_lt.mpr h)).trans (if_pos (Option.isSome_iff_ne_none.mpr hc))
theorem compactLedger_wrongMode (h : par p 22 1 ≤ 2) (hc : d.ledger.compacting = none) (hm : d.on LDG_STATUS.CONFLICT = true ↔ par p 22 1 = 0) :
    opCompactLedger.run p ref d = (.bad stWRONG_MODE, d) :=
  (if_neg (Nat.not_lt.mpr h)).trans ((if_neg (by simp [hc])).trans (if_pos (propext hm)))

theorem compactLedger_starts (hz : par p 22 1 = 0) (hc : d.ledger.compacting = none) (hm : d.on LDG_STATUS.CONFLICT = false) : opCompactLedger.run p ref d =
    (.done stACCEPTED [], ({ d with ledger := { d.ledger with compacting := some (d.get LDG_FILL.PERCENT) } } : Dev).set LDG_STATUS.COMPACTING 1) := by
  have conflict : ¬((d.on LDG_STATUS.CONFLICT = true) = (par p 22 1 = 0)) := by simp [hm, hz]
  refine (if_neg (by omega)).trans ((if_neg (by simp [hc])).trans ((if_neg conflict).trans ?_))
  simp only [hz, if_true]
theorem compactLedger_chooses (h1 : 1 ≤ par p 22 1) (h2 : par p 22 1 ≤ 2) (hc : d.ledger.compacting = none) (hm : d.on LDG_STATUS.CONFLICT = true) {l : Ledger}
    (hl : l = { d.ledger with active := par p 22 1 - 1 }) : opCompactLedger.run p ref d =
    (.done stACCEPTED [], ({ d with ledger := { l with compacting := some (d.get LDG_FILL.PERCENT)
                                                       nextSeq := max l.nextSeq ((l.area.journal.map (fun e => e.seq)).max?.getD 0 + 1) } } : Dev).set
      LDG_STATUS.COMPACTING 1) := by
  have chosen : ¬ par p 22 1 = 0 := by omega
  have conflict : ¬((d.on LDG_STATUS.CONFLICT = true) = (par p 22 1 = 0)) := by simp [hm, chosen]
  subst hl
  refine (if_neg (by omega)).trans ((if_neg (by simp [hc])).trans ((if_neg conflict).trans ?_))
  simp only [chosen, if_false]

/-! ## READ_LEDGER (R381) -/

/-- The area that READ_LEDGER names. -/
def Dev.ledgerArea (d : Dev) : LedgerArea := if par p 31 1 = 0 then d.ledger.area else if par p 31 1 = 1 then d.ledger.areaA else d.ledger.areaB
/-- Whether the packet's session may read the settings. -/
def Dev.readsClear (d : Dev) : Bool := hasFlag p 1 && (d.sec.sessions.any (fun x => x.sid == p.session.toNat && bitAt x.granted 4))
/-- The entries that READ_LEDGER returns, and the number of the first that it has no room for. -/
def Dev.ledgerRead (d : Dev) : List Byte × Option Nat :=
  fillEntries (d.readsClear p) (par p 40 4) ((d.ledgerArea p).journal.filter (fun e => decide (par p 22 8 ≤ e.seq) && (par p 30 1 == 0 || e.typ == par p 30 1)))
theorem readLedger_bad (h : 2 < par p 31 1) : opReadLedger.run p ref d = (.bad stBAD_PARAMETER, d) := if_pos h
theorem readLedger_writes (h : par p 31 1 ≤ 2) : opReadLedger.run p ref d = d.hostWrite p (par p 32 8) (d.ledgerRead p).1
    (.done stOK (leBytes 4 (outLen p (d.ledgerRead p).1.length) ++ leBytes 8 ((d.ledgerRead p).2.getD d.ledger.nextSeq))) := if_neg (Nat.not_lt.mpr h)

end
end Sys2Proof.Machine

open Sys2Proof Sys2Proof.Machine

/-- Settles O43: each clause is an equation of its opcode's meaning on an accepted packet (R364, R366, R368 to R371, R373, R377, R379, R381). That operation 0 of
COMPACT_LEDGER is WRONG_MODE during a conflict and that a record still being written is unknown to READ_RECORD are the model's choices (log 68, 67). -/
theorem storePacketsTakeEffect : Obligations.StorePacketsTakeEffect := by
  refine ⟨?mount, ?unit, ?record, ?list, fun s p p' d' bs r hk ha he hh => r.next (congrArg _ (listRecords_empty _ _ _ hk ha he hh)), ?delete,
    fun s p p' d' r => ⟨fun h => r.next (congrArg _ (flushStore_unmounting _ _ _ h)), fun h he => ?flushed, fun h he hf => ?waits, fun h he hf => ?starts⟩,
    ?compact, ?ledger⟩
  case mount =>
    rintro s p p' d' op mask r rfl rfl
    refine ⟨fun h => r.next (congrArg _ (mountStore_bad _ _ _ h)), fun ho hm h => r.next (congrArg _ (mountStore_busy _ _ _ ho hm h)),
      fun ho hm hj hu => r.next ?_, fun asked ho hm hj hu ha => ?_, fun works ho hm hj hu hw => ?_⟩
    · rw [mountStore_free _ _ _ (by omega) hm hj hu, ho]
      rfl
    · have free := mountStore_free p' (refOf p s.dev) d' (by omega) hm hj hu
      rw [if_pos ho] at free
      have asks : d'.flushAsked = asked := ha.symm
      exact ⟨fun h => r.next (congrArg _ (free.trans (if_pos (asks.trans h)))),
        fun h => r.next (congrArg _ (free.trans (if_neg (by rw [asks, h]; exact Bool.false_ne_true))))⟩
    · have free := mountStore_free p' (refOf p s.dev) d' (by omega) hm hj hu
      rw [if_neg (by omega), ho] at free
      have busy : d'.drivesWork (mountMask p') = works := hw.symm
      rw [busy] at free
      exact ⟨fun h => r.next (congrArg _ (free.trans (if_pos (by simp [h])))), fun h => r.next (congrArg _ (free.trans (if_neg (by simp [h]))))⟩
  case unit =>
    rintro s p p' d' fl i au r rfl rfl rfl
    exact ⟨fun h => r.next (congrArg _ (readRecord_badFlags _ _ _ h)),
      fun h hb hi => r.next (congrArg _ ((readRecord_unit _ _ _ h hb).trans (if_pos (by simpa [or_assoc] using hi)))),
      fun h hb hi hs hu => r.next (congrArg _ ((readRecord_unit _ _ _ h hb).trans (if_neg (by simp [hs]; omega))))⟩
  case record =>
    rintro s p p' d' n r rfl h
    exact ⟨fun hn => r.next (congrArg _ (readRecord_unknown _ _ _ h hn)), fun i ha hi hw => r.next (congrArg _ (readRecord_pins _ _ _ h ha hi hw))⟩
  case list =>
    rintro s p p' d' kind r rfl
    refine ⟨fun h => r.next (congrArg _ (listRecords_bad _ _ _ h)), ?_, ?_⟩
    · rintro aus h ha rfl
      exact r.next (congrArg _ (listRecords_units _ _ _ h ha))
    · rintro ns h ha rfl
      exact r.next (congrArg _ (listRecords_headers _ _ _ h ha))
  case delete =>
    rintro s p p' d' ns r rfl
    exact ⟨fun h => r.next (congrArg _ (deleteRecords_pinned _ _ _ h)), fun h =>
      ⟨fun he => r.next (congrArg _ ((deleteRecords_unpinned _ _ _ h).trans (if_pos (List.isEmpty_iff.mpr he)))),
        fun he => r.next (congrArg _ ((deleteRecords_unpinned _ _ _ h).trans (if_neg (fun h0 => he (List.isEmpty_iff.mp h0)))))⟩⟩
  case flushed => exact r.next (congrArg _ ((flushStore_checks _ _ _ h).trans (if_pos (List.isEmpty_iff.mpr he))))
  case waits =>
    have queued := (flushStore_checks p' (refOf p s.dev) d' h).trans (if_neg (fun h0 => he (List.isEmpty_iff.mp h0)))
    exact r.next ((congrArg _ queued).trans (storeGo_flushing (d'.awaitFlush (refOf p s.dev)) hf))
  case starts =>
    have queued := (flushStore_checks p' (refOf p s.dev) d' h).trans (if_neg (fun h0 => he (List.isEmpty_iff.mp h0)))
    exact ⟨_, r.next ((congrArg _ queued).trans (storeGo_awaitFlush (refOf p s.dev) d' hf)), flush_startFlush _ _, flushNext_startFlush _ _⟩
  case compact =>
    rintro s p p' d' op r rfl
    exact ⟨fun h => r.next (congrArg _ (compactLedger_bad _ _ _ h)), fun h hc => r.next (congrArg _ (compactLedger_busy _ _ _ h hc)),
      fun h hc hm => r.next (congrArg _ (compactLedger_wrongMode _ _ _ h hc hm)),
      fun hz hc hm => ⟨_, rfl, r.next (congrArg _ (compactLedger_starts _ _ _ hz hc hm))⟩,
      fun l h1 h2 hc hm hl => ⟨_, rfl, r.next (congrArg _ (compactLedger_chooses _ _ _ h1 h2 hc hm hl))⟩⟩
  case ledger =>
    rintro s p p' d' area r rfl
    refine ⟨fun h => r.next (congrArg _ (readLedger_bad _ _ _ h)), fun h hh => ⟨_, rfl, r.next (congrArg _ ((readLedger_writes _ _ _ h).trans
      (hostWrite_error _ _ _ _ _ hh)))⟩, ?_⟩
    rintro bs a es clear x h hh rfl rfl rfl rfl
    exact r.next (congrArg _ ((readLedger_writes _ _ _ h).trans (hostWrite_ok _ _ _ _ _ _ hh)))
end

section
/-! PROOFS. A reply to a job whose completion ring is none of the part's, written at a Lockout cause (R50, R332, R394), and the refutation of O44. -/
namespace Sys2Proof.Machine

/-- A completion ring beyond the 64 that the part has: its tail lies on the seal's reading, its set-up on the vote counters. -/
def strayRing : Nat := 0x57B8
theorem strayRing_words : HIF_CQ_TAIL strayRing = SAF_SEAL ∧ HIF_CQ_CFG strayRing = SAF_VOTE_CNT := by decide
/-- Lockout with a set of code 1 in force, a ledger in conflict, one dissent counted, and a mode change logged for the job of task 0, whose replies go to the
stray ring. -/
def strayReply : State := State.reset.onDev (fun d =>
  Dev.set SYS_MODE.MODE 9 <| Dev.set LDG_STATUS.CONFLICT 1 <| Dev.wr SAF_VOTE_CNT 1
    { d with
      sch := { d.sch with tasks := [(0, { Task.reset with cq := strayRing })] }
      saf := { d.saf with active := some [0, 0, 1, 0] }
      cyc := { d.cyc with log := [⟨0x01, 68, .mode 6, some { sq := 64, tag := 0, epoch := 0, late := false }⟩] } })
/-- Two readings of 0 do not match: the cause ends the logged change, whose reply moves the stray ring's tail, and with it the reading, to 1. -/
theorem strayReply_reading : (strayReply.dev.sealRead 0 0).get SAF_SEAL.READING = 1 := by decide +kernel

end Sys2Proof.Machine

open Sys2Proof Sys2Proof.Machine

/-- Refutes O44: the states are not limited to completion rings below 64. Where task 0's job replies to ring 0x57B8, whose tail has the address of
SAF_SEAL, the cause of a mismatched seal (R332) ends the mode change logged for that job with SAFETY_LOCKED; the tail after the reply (R394) then stands in
SAF_SEAL.READING instead of the code that was read. -/
theorem not_safetyCyclesInputsAndOutputs : ¬ Obligations.SafetyCyclesInputsAndOutputs := by
  intro h
  obtain ⟨-, -, -, -, -, -, -, -, -, -, -, seals⟩ := h
  obtain ⟨-, -, -, mismatch, -⟩ := seals strayReply 0 0
  obtain ⟨t, ht, -, reading⟩ := mismatch [0, 0, 1, 0] (by decide +kernel) (by decide +kernel) (by decide +kernel) (by decide +kernel)
  cases ht
  exact absurd (strayReply_reading.symm.trans reading) (by decide)

end

section
/-! PROOFS. Safety connections, latches and deliberate resets (R334 to R349), the safety opcodes (R352), and O45. -/
namespace Sys2Proof.Machine

/-! ## A ledger transaction writes no register below the ledger's window (R374, R377) -/

section
variable {a : Nat}

theorem rd_showLedger (h : a < LDG_STATUS) (d : Dev) : d.showLedger.rd a = d.rd a := by
  have below : a < 0x110000 := h
  unfold Dev.showLedger
  rw [Dev.wr64, Dev.rd_wr_other _ _ _ _ (by unfold LDG_ENTRY_LO; omega), Dev.rd_wr_other _ _ _ _ (by unfold LDG_ENTRY_LO; omega),
    Dev.rd_set_other _ _ _ _ (by show a ≠ 0x110004; omega), Dev.rd_set_other _ _ _ _ (by show a ≠ 0x110004; omega)]
theorem rd_checkFill (h : a < LDG_STATUS) (d : Dev) : d.checkFill.rd a = d.rd a := by
  have away : a ≠ LDG_STATUS := Nat.ne_of_lt h
  unfold Dev.checkFill
  dsimp only
  split
  · rfl
  · split
    · rw [Dev.rd_post, Dev.rd_set_other _ _ _ _ away, Dev.rd_set_other _ _ _ _ away]
      rfl
    · exact Dev.rd_set_other _ _ _ _ away
theorem rd_transact (h : a < LDG_STATUS) (items : List (Nat × List Byte)) (d : Dev) : (Dev.transact items d).rd a = d.rd a := by
  unfold Dev.transact
  split
  · rfl
  · dsimp only
    rw [rd_checkFill h, rd_showLedger h]
    rfl
theorem rd_safPost (h : a < LDG_STATUS) (code : Nat) (x : List Byte) (d : Dev) : (Dev.safPost code x d).rd a = d.rd a := by
  rw [Dev.safPost, Dev.rd_post, rd_transact h]
/-- The safety view lies below the connections' registers. -/
theorem rd_showSafety (h : SAF_CONN_W0 0 ≤ a) (d : Dev) : d.showSafety.rd a = d.rd a := by
  have above : 0xc1000 ≤ a := h
  have status : a ≠ SAF_STATUS := by unfold SAF_STATUS; omega
  have conns : a ≠ SAF_CONN := by unfold SAF_CONN; omega
  have param : a ≠ SAF_PARAM := by unfold SAF_PARAM; omega
  unfold Dev.showSafety
  extract_lets code shown d1 d2 d3 d4 d5 d6 us
  have h1 : d1.rd a = d.rd a := by
    rw [Dev.rd_set_other _ _ _ _ status, Dev.rd_set_other _ _ _ _ status, Dev.rd_set_other _ _ _ _ status]
  have h2 : d2.rd a = d1.rd a := by
    rw [Dev.rd_set_other _ _ _ _ status, Dev.rd_set_other _ _ _ _ status, Dev.rd_set_other _ _ _ _ status]
  have h3 : d3.rd a = d2.rd a := by rw [Dev.rd_set_other _ _ _ _ status, Dev.rd_set_other _ _ _ _ status]
  have h4 : d4.rd a = d3.rd a := by
    rw [Dev.rd_set_other _ _ _ _ param, Dev.rd_set_other _ _ _ _ param, Dev.rd_set_other _ _ _ _ (by show a ≠ 0xc000c; omega)]
  have h5 : d5.rd a = d4.rd a := Dev.rd_wr_other _ _ _ _ (by unfold SAF_INPUTS; omega)
  have h6 : d6.rd a = d5.rd a := Dev.rd_set_other _ _ _ _ (by show a ≠ 0xc0018; omega)
  rw [Dev.rd_set_other _ _ _ _ conns, Dev.rd_set_other _ _ _ _ conns, h6, h5, h4, h3, h2, h1]
end

/-! ## What safety events and changes of a connection leave of the safety state (R340, R354) -/

theorem ledgerBlind_now : LedgerBlind Dev.now := ⟨⟨fun _ _ _ => rfl, fun _ _ => rfl⟩, fun _ _ => rfl⟩
@[simp] theorem saf_safPost (code : Nat) (x : List Byte) (d : Dev) : (Dev.safPost code x d).saf = d.saf := saf_of_bootPart (bootPart_safPost _ _ _)
@[simp] theorem saf_showSafety (d : Dev) : d.showSafety.saf = d.saf := saf_of_bootPart (bootPart_showSafety d)
@[simp] theorem saf_demand (kind what : Nat) (d : Dev) : (Dev.demand kind what d).saf = { d.saf with lastDemand := d.now } := saf_safPost _ _ _

/-- What a change of a connection's state keeps: what its ledger entry and its state register do not hold. -/
theorem connTo_keep {β : Type} (g : Dev → β) (c st : Nat) (hs : ∀ d : Dev, g (d.set (SAF_CONN_W0.STATE c) st) = g d)
    (hp : ∀ code x d, g (Dev.safPost code x d) = g d) (d : Dev) : g (Dev.connTo c st d) = g d := by
  unfold Dev.connTo
  split
  · rfl
  · exact (hp _ _ _).trans (hs d)
@[simp] theorem saf_connTo (c st : Nat) (d : Dev) : (Dev.connTo c st d).saf = d.saf := connTo_keep Dev.saf c st (Dev.set_saf _ _) saf_safPost d
@[simp] theorem now_connTo (c st : Nat) (d : Dev) : (Dev.connTo c st d).now = d.now :=
  connTo_keep Dev.now c st (ledgerBlind_now.set _ _) ledgerBlind_now.safPost d

theorem connState_of_rd (c : Nat) {d e : Dev} (h : d.rd (SAF_CONN_W0 c) = e.rd (SAF_CONN_W0 c)) : d.connState c = e.connState c := get_of_rd _ h
theorem connState_safPost (c : Nat) (hc : c < 1088) (code : Nat) (x : List Byte) (d : Dev) : (Dev.safPost code x d).connState c = d.connState c :=
  connState_of_rd c (rd_safPost (by unfold SAF_CONN_W0 LDG_STATUS; omega) _ _ _)
theorem connState_showSafety (c : Nat) (d : Dev) : d.showSafety.connState c = d.connState c :=
  connState_of_rd c (rd_showSafety (by unfold SAF_CONN_W0; omega) d)
theorem connState_connTo (c st : Nat) (hc : c < 1088) (hs : st < 8) (d : Dev) : (Dev.connTo c st d).connState c = st := by
  unfold Dev.connTo
  split
  · assumption
  · rw [connState_safPost c hc]
    exact (Dev.get_set_same _ _ _ (by show 2 < 32; decide)).trans (Nat.mod_eq_of_lt hs)

theorem conn_of_saf (c : Nat) {d e : Dev} (h : d.saf = e.saf) : d.conn c = e.conn c := congrArg (fun x : Saf => smGet (fun _ => SafConn.reset) x.conns c) h
@[simp] theorem conn_setConn (c : Nat) (x : SafConn) (d : Dev) : (d.setConn c x).conn c = x := smGet_smSet_same _ _ _ _
theorem conn_demand (c kind what : Nat) (d : Dev) : (Dev.demand kind what d).conn c = d.conn c := by
  unfold Dev.conn
  rw [saf_demand]

/-! ## Faults, lapses and latches (R334, R338, R341) -/

/-- A connection that faults. -/
def Dev.faultConn (c : Nat) (d : Dev) : Dev := d.setConn c { d.conn c with fault := true, fed := false, crcAt := [] }
theorem connFault_of_sound (c : Nat) (d : Dev) (h : d.connState c ≠ 3) : d.connFault c = ((d.faultConn c).connTo c 3).demand 1 c := if_neg h
theorem conn_connFault (c : Nat) (d : Dev) (h : d.connState c ≠ 3) : (d.connFault c).conn c = { d.conn c with fault := true, fed := false, crcAt := [] } := by
  rw [connFault_of_sound c d h, conn_demand, conn_of_saf c (saf_connTo c 3 (d.faultConn c)), Dev.faultConn, conn_setConn]
theorem lastDemand_connFault (c : Nat) (d : Dev) (h : d.connState c ≠ 3) : (d.connFault c).saf.lastDemand = d.now := by
  rw [connFault_of_sound c d h, saf_demand, now_connTo]
  rfl
theorem connState_connFault (c : Nat) (hc : c < 1088) (d : Dev) (h : d.connState c ≠ 3) : (d.connFault c).connState c = 3 := by
  rw [connFault_of_sound c d h]
  exact (connState_safPost c hc _ _ _).trans (connState_connTo c 3 hc (by decide) (d.faultConn c))

theorem watchdogLapse_closed (c : Nat) (d : Dev) (h : d.usedConns.contains c = false ∨ d.connState c ≠ 2) : d.watchdogLapse c = d :=
  if_neg (fun open_ => by
    obtain ⟨hu, hs⟩ := Bool.and_eq_true_iff.mp open_
    rcases h with h | h
    · exact Bool.false_ne_true (h.symm.trans hu)
    · exact h (of_decide_eq_true hs))
theorem watchdogLapse_open (c : Nat) (d : Dev) (hu : d.usedConns.contains c = true) (h : d.connState c = 2) :
    d.watchdogLapse c = (d.connFault c).showSafety := if_pos (by rw [hu, h]; rfl)

/-- Whether function `b` of a connection's node is requested and not confirmed. -/
def Dev.unconfirmed (c b : Nat) (d : Dev) : Bool :=
  d.usedConns.contains c && fieldAt (connEntry d.safSet c) 4 1 == 1 && decide (2 ≤ d.connState c) && bitAt (d.requested c) b &&
    !bitAt (fieldAt (d.conn c).rx 0 1) b
theorem confirmTimeout_eq (c b : Nat) (d : Dev) : d.confirmTimeout c b = if d.unconfirmed c b then (d.latchRun c 3).showSafety else d := rfl
theorem latch_latchRun (c kind : Nat) (d : Dev) : ((d.latchRun c kind).conn c).latch = true := by
  unfold Dev.latchRun
  split
  · assumption
  · rw [conn_demand, conn_setConn]

theorem when_on {b : Bool} (h : b = true) (f : Dev → Dev) (e : Dev) : e.when b f = f e := by rw [h, Dev.when_true]

/-! ## Received PDUs (R337, R338, R342) -/

theorem forwardPdu_stays (c : Nat) (bs : List Byte) (d : Dev)
    (h : connCount d.safSet ≤ c ∨ fieldAt (connEntry d.safSet c) 4 1 ≠ 2 ∨ bs.length ≠ 48) : d.forwardPdu c bs = d := if_pos (by simpa [or_assoc] using h)
/-- A PDU from the connection's controller end, which its seed tells (R337, log 70), goes on by trunk 1. -/
theorem forwardPdu_goesOn (c : Nat) (bs : List Byte) (d : Dev) (hc : c < connCount d.safSet) (hk : fieldAt (connEntry d.safSet c) 4 1 = 2)
    (hl : bs.length = 48) (hf : crc32cFrom (fieldAt (connEntry d.safSet c) 0 4) (bs.take 44) = fieldAt bs 44 4) :
    d.forwardPdu c bs = d.setPort 9 { d.port 9 with forward := putKey c bs (d.port 9).forward } :=
  (if_neg (by simp [hk, hl, hc])).trans (if_pos (beq_iff_eq.mpr hf))

theorem pduReceived_unused (c : Nat) (bs : List Byte) (d : Dev) (h : d.usedConns.contains c = false) : d.pduReceived c bs = d.forwardPdu c bs :=
  if_pos (by rw [h]; rfl)

section
variable (c : Nat) (bs : List Byte) (d : Dev)

/-- A PDU of another length or CRC is counted, with its instant among those of the last second. -/
def Dev.pduDropped (recent : List LTime) : Dev := (d.count (SAF_CONN_W1.CRC_ERR c) 1).setConn c { d.conn c with crcAt := recent }
/-- The instants of the second that ends now at which a connection's PDUs failed. -/
def Dev.crcRecent : List LTime := ((d.conn c).crcAt.filter (fun t => decide (d.now < t + ns 1000000000))) ++ [d.now]
/-- The data of a PDU. -/
def pduPayload (bs : List Byte) : List Byte := (bs.drop 8).take (min 32 (fieldAt bs 6 1))
/-- How many numbers a PDU is ahead of the last one taken. -/
def Dev.pduAhead : Nat := (fieldAt bs 2 2 + 65536 - d.get (SAF_CONN_W0.SEQ_RX c)) % 65536

variable (hu : d.usedConns.contains c = true)
include hu

theorem pduReceived_damaged (h : bs.length ≠ 48 ∨ crc32cFrom (d.pduSeed c false) (bs.take 44) ≠ fieldAt bs 44 4) : d.pduReceived c bs =
    ((d.pduDropped c (d.crcRecent c)).when (decide (10 < (d.crcRecent c).length) && d.connState c != 0) (Dev.connFault c)).showSafety :=
  (if_neg (by rw [hu]; exact Bool.false_ne_true)).trans (if_pos (by simpa using h))

variable (hl : bs.length = 48) (hf : crc32cFrom (d.pduSeed c false) (bs.take 44) = fieldAt bs 44 4)
include hl hf

theorem pduReceived_data (hk : fieldAt bs 0 1 = 1) : d.pduReceived c bs = (if d.connState c = 2 || d.connState c = 3 then
    (if d.pduAhead c bs = 0 then d else if d.pduAhead c bs ≤ 16 then
      (d.set (SAF_CONN_W0.SEQ_RX c) (fieldAt bs 2 2)).pduData c (fieldAt bs 1 1) (pduPayload bs) else d.connFault c) else d).showSafety := by
  refine (if_neg (by rw [hu]; exact Bool.false_ne_true)).trans ((if_neg (by simp [hl, hf])).trans ?_)
  simp only [hk]
  rfl
theorem pduReceived_close (hk : fieldAt bs 0 1 = 4) : d.pduReceived c bs =
    (if d.connState c = 0 then d else (d.set (SAF_CONN_W0.RUN c) 0).connTo c 0).showSafety := by
  refine (if_neg (by rw [hu]; exact Bool.false_ne_true)).trans ((if_neg (by simp [hl, hf])).trans ?_)
  simp only [hk]
end

/-! ## Deliberate resets (R45, R349) -/

/-- What the exit from Lockout rests on: mode, seal reading, the exit already due, causes and set in force. -/
def Dev.exitGround (d : Dev) : Nat × Nat × Bool × List Nat × Option (List Byte) :=
  (d.rd SYS_MODE, d.rd SAF_SEAL, d.saf.exitDue, d.saf.causes, d.saf.active)
theorem exitGround_safPost (code : Nat) (x : List Byte) (d : Dev) : (Dev.safPost code x d).exitGround = d.exitGround := by
  unfold Dev.exitGround
  rw [rd_safPost (by decide), rd_safPost (by decide), saf_safPost]
theorem exitGround_set (f : Fld) (v : Nat) (d : Dev) (hm : SYS_MODE ≠ f.a) (hs : SAF_SEAL ≠ f.a) : (d.set f v).exitGround = d.exitGround := by
  unfold Dev.exitGround
  rw [Dev.rd_set_other _ _ _ _ hm, Dev.rd_set_other _ _ _ _ hs, Dev.set_saf]
theorem exitGround_safUpdate (x : Saf) (d : Dev) (hd : x.exitDue = d.saf.exitDue) (hc : x.causes = d.saf.causes) (ha : x.active = d.saf.active) :
    ({ d with saf := x } : Dev).exitGround = d.exitGround := by
  show (d.rd SYS_MODE, d.rd SAF_SEAL, x.exitDue, x.causes, x.active) = _
  rw [hd, hc, ha]
  rfl
theorem exitGround_connTo (c st : Nat) (d : Dev) : (Dev.connTo c st d).exitGround = d.exitGround := by
  have mode : SYS_MODE ≠ SAF_CONN_W0 c := by unfold SYS_MODE SAF_CONN_W0; omega
  have reading : SAF_SEAL ≠ SAF_CONN_W0 c := by unfold SAF_SEAL SAF_CONN_W0; omega
  exact connTo_keep Dev.exitGround c st (fun e => exitGround_set _ _ e mode reading) exitGround_safPost d
theorem exitGround_releaseLatches (d : Dev) : d.releaseLatches.exitGround = d.exitGround := by
  have inputs : ∀ e : Dev, (e.forN 8 (fun n d =>
      let x := d.sin n
      let okc := d.contactOk n
      if !d.sinOn n then d
      else if x.faulted then (if x.bothOpen && okc.1 && okc.2 then d.setSin n { x with faulted := false, bothOpen := false, waiting := false } else d)
      else if okc.1 && okc.2 then d.setSin n { x with waiting := false } else d)).exitGround = e.exitGround := by
    intro e
    refine forN_keep Dev.exitGround _ (fun n e => ?_) 8 e
    dsimp only
    split_ifs <;> rfl
  unfold Dev.releaseLatches
  extract_lets d1 d2
  have conns : d2.exitGround = d1.exitGround := by
    refine forEach_keep Dev.exitGround _ (fun c e => ?_) _ d1
    extract_lets x x' e1
    split
    · exact when_keep Dev.exitGround _ _ (exitGround_connTo c 2) _
    · rfl
  exact conns.trans (inputs d)

/-- Whether a deliberate reset makes the exit from Lockout due. -/
def Dev.exitFree (d : Dev) : Bool := d.mode == 9 && d.saf.causes.isEmpty && d.saf.active.isSome && d.get SAF_SEAL.READING == fieldAt d.safSet 2 2
theorem exitFree_of_ground {d e : Dev} (h : d.exitGround = e.exitGround) : d.exitFree = e.exitFree := by
  obtain ⟨hm, hs, -, hc, ha⟩ : d.rd SYS_MODE = e.rd SYS_MODE ∧ d.rd SAF_SEAL = e.rd SAF_SEAL ∧ d.saf.exitDue = e.saf.exitDue ∧
    d.saf.causes = e.saf.causes ∧ d.saf.active = e.saf.active := by simpa [Dev.exitGround] using h
  unfold Dev.exitFree Dev.safSet
  rw [mode_of_rd _ _ hm, get_of_rd SAF_SEAL.READING hs, hc, ha]
/-- The latches are released and the reset is logged. -/
def Dev.resetLogged (kind conn : Nat) (d : Dev) : Dev := d.releaseLatches.safPost 0x0C04 (leBytes 1 kind ++ leBytes 2 conn)
theorem deliberateReset_eq (kind conn : Nat) (d : Dev) : d.deliberateReset kind conn =
    ({ d.resetLogged kind conn with saf := { (d.resetLogged kind conn).saf with
        exitDue := (d.resetLogged kind conn).saf.exitDue || (d.resetLogged kind conn).exitFree } } : Dev).showSafety := by
  have due : ∀ e : Dev, (decide (e.mode = 9) && e.saf.causes.isEmpty &&
      (e.saf.active.isSome && decide (e.get SAF_SEAL.READING = fieldAt e.safSet 2 2))) = e.exitFree := by
    intro e
    rw [Dev.exitFree, ← Bool.and_assoc]
    rfl
  rw [← due]
  rfl
theorem hostDemand_resetLogged (kind conn : Nat) (d : Dev) : (d.resetLogged kind conn).saf.hostDemand = 0 := by
  rw [Dev.resetLogged, saf_safPost]
  unfold Dev.releaseLatches
  dsimp only
theorem exitGround_resetLogged (kind conn : Nat) (d : Dev) : (d.resetLogged kind conn).exitGround = d.exitGround :=
  (exitGround_safPost _ _ _).trans (exitGround_releaseLatches d)
theorem exitDue_of_ground {d e : Dev} (h : d.exitGround = e.exitGround) : d.saf.exitDue = e.saf.exitDue := congrArg (fun x => x.2.2.1) h
theorem mode_of_ground {d e : Dev} (h : d.exitGround = e.exitGround) : d.mode = e.mode := mode_of_rd _ _ (congrArg (fun x => x.1) h)
theorem hostDemand_deliberateReset (kind conn : Nat) (d : Dev) : (d.deliberateReset kind conn).saf.hostDemand = 0 := by
  rw [deliberateReset_eq, saf_showSafety]
  exact hostDemand_resetLogged kind conn d
theorem mode_safUpdate (x : Saf) (d : Dev) : ({ d with saf := x } : Dev).mode = d.mode := rfl
theorem mode_deliberateReset (kind conn : Nat) (d : Dev) : (d.deliberateReset kind conn).mode = d.mode := by
  rw [deliberateReset_eq, mode_of_rd _ _ (mode_showSafety _), mode_safUpdate, mode_of_ground (exitGround_resetLogged kind conn d)]
theorem exitDue_deliberateReset (kind conn : Nat) (d : Dev) : (d.deliberateReset kind conn).saf.exitDue = (d.saf.exitDue || d.exitFree) := by
  have ground := exitGround_resetLogged kind conn d
  rw [deliberateReset_eq, saf_showSafety, ← exitFree_of_ground ground, ← exitDue_of_ground ground]

/-! ## SACK (R347, R349) -/

section
variable (low : LTime) (d : Dev)

/-- A low period of the right length that began after the last demand. -/
def Dev.timelyRelease : Bool := (decide (ns 500000000 ≤ d.now - low) && decide (d.now - low ≤ ns 5000000000)) && (decide (d.saf.lastDemand < low) || d.saf.lastDemand == 0)
/-- A deliberate reset by the ACK of the acknowledge master. -/
def Dev.acknowledges (c : Nat) : Bool := d.usedConns.contains c && bitAt (fieldAt (connEntry d.safSet c) 5 1) 1 && decide (d.connState c = 2) &&
  (decide (ns 500000000 ≤ d.now - low) && decide (d.now - low ≤ ns 5000000000)) && (decide (d.saf.lastDemand < low) || d.saf.lastDemand == 0)
/-- Whether the stuck condition of SACK has been over for a second when the low period begins. -/
def Dev.stuckPast : Bool := match d.saf.stuckEnd with | some t => decide (t + ns 1000000000 ≤ low) | none => false
/-- SACK high, and its stuck condition over. -/
def Dev.sackFree : Dev := ({ d.set SAF_STATUS.SACK_LOW 0 with saf := { d.saf with stuckEnd := none } } : Dev).set SAF_STATUS.SACK_STUCK 0

theorem sackRelease_early (conn : Option Nat) (h : d.mode < 2) : d.sackRelease conn low = d := if_pos h
theorem sackRelease_conn (c : Nat) (h : 2 ≤ d.mode) : d.sackRelease (some c) low = if d.acknowledges low c then d.deliberateReset 1 c else d :=
  if_neg (Nat.not_lt.mpr h)
theorem exitGround_sackFree : d.sackFree.exitGround = d.exitGround :=
  (exitGround_set _ _ _ (by decide) (by decide)).trans ((exitGround_safUpdate _ (d.set SAF_STATUS.SACK_LOW 0) (by rw [Dev.set_saf]) (by rw [Dev.set_saf])
    (by rw [Dev.set_saf])).trans (exitGround_set SAF_STATUS.SACK_LOW 0 d (by decide) (by decide)))
theorem sackRelease_pin (h : 2 ≤ d.mode) : d.sackRelease none low =
    if d.on SAF_STATUS.SACK_STUCK && !d.stuckPast low then { d.set SAF_STATUS.SACK_LOW 0 with saf := { d.saf with stuckEnd := some d.now } }
    else if d.timelyRelease low then d.sackFree.deliberateReset 0 0 else d.sackFree := by
  have stuck : (d.set SAF_STATUS.SACK_LOW 0).on SAF_STATUS.SACK_STUCK = d.on SAF_STATUS.SACK_STUCK := on_set_other _ _ _ _ (by decide) (by decide)
  have now : (d.set SAF_STATUS.SACK_LOW 0).now = d.now := ledgerBlind_now.set _ _ _
  have saf : (d.set SAF_STATUS.SACK_LOW 0).saf = d.saf := Dev.set_saf _ _ _
  refine (if_neg (Nat.not_lt.mpr h)).trans ?_
  unfold Dev.sackFree Dev.timelyRelease Dev.stuckPast
  revert stuck now saf
  generalize d.set SAF_STATUS.SACK_LOW 0 = e
  intro stuck now saf
  rw [← stuck, ← now, ← saf] <;> rfl
theorem sackStuck_fixed (h : d.mode < 2 ∨ d.on SAF_STATUS.SACK_STUCK = true) : d.sackStuck = d := if_pos (by simpa using h)
theorem sackStuck_begins (hm : 2 ≤ d.mode) (h : d.on SAF_STATUS.SACK_STUCK = false) : d.sackStuck =
    (((({ d with saf := { d.saf with stuckEnd := none } } : Dev).set SAF_STATUS.SACK_STUCK 1).set SAF_STATUS.SACK_LOW 1).safPost 0x0C0A []) :=
  if_neg (by simp [h]; omega)
end

/-! ## The safety opcodes (R352) -/

section
variable (p : Packet) (ref : PktRef) (d : Dev)

/-- What LOAD_SAFETY_PARAMETERS does with the set that it read. -/
def Dev.loadSet (b : List Byte) (d : Dev) : Reply × Dev :=
  if !setOk b then (.bad stBAD_PARAMETER, d)
  else match safetyFail b (d.lget MIR_CTRL.LEASE) d.safetyGens with
    | some r => (.done stCONSISTENCY (ruleResult r.1 r.2), d)
    | none => (.done stOK (leBytes 2 (fieldAt b 2 2)), ({ d with saf := { d.saf with pending := some b } } : Dev).showSafety)
theorem loadSafety_long (h : 65536 < par p 30 4) : opLoadSafety.run p ref d = (.bad stBAD_LENGTH, d) := if_pos h
theorem loadSafety_reads (h : par p 30 4 ≤ 65536) : opLoadSafety.run p ref d = d.hostRead p (par p 30 4) Dev.loadSet := if_neg (Nat.not_lt.mpr h)
theorem loadSet_malformed (b : List Byte) (h : setOk b = false) : d.loadSet b = (.bad stBAD_PARAMETER, d) := if_pos (by rw [h]; rfl)
theorem loadSet_checked (b : List Byte) (h : setOk b = true) : d.loadSet b = match safetyFail b (d.lget MIR_CTRL.LEASE) d.safetyGens with
    | some r => (.done stCONSISTENCY (ruleResult r.1 r.2), d)
    | none => (.done stOK (leBytes 2 (fieldAt b 2 2)), ({ d with saf := { d.saf with pending := some b } } : Dev).showSafety) :=
  if_neg (by rw [h]; exact Bool.false_ne_true)
theorem loadSet_inconsistent (b : List Byte) (r : Nat × Nat) (h : setOk b = true) (hr : safetyFail b (d.lget MIR_CTRL.LEASE) d.safetyGens = some r) :
    d.loadSet b = (.done stCONSISTENCY (ruleResult r.1 r.2), d) := by rw [loadSet_checked d b h, hr]
theorem loadSet_pending (b : List Byte) (h : setOk b = true) (hr : safetyFail b (d.lget MIR_CTRL.LEASE) d.safetyGens = none) :
    d.loadSet b = (.done stOK (leBytes 2 (fieldAt b 2 2)), ({ d with saf := { d.saf with pending := some b } } : Dev).showSafety) := by
  rw [loadSet_checked d b h, hr]

theorem safeStop_bad (h1 : par p 22 1 ≠ 1) (h2 : par p 22 1 ≠ 2) : opSafeStop.run p ref d = (.bad stBAD_PARAMETER, d) := if_pos (by simp [h1, h2])
theorem safeStop_taken (h : par p 22 1 = 1 ∨ par p 22 1 = 2) : opSafeStop.run p ref d = (.done stOK [],
    (({ d with saf := { d.saf with hostDemand := if d.saf.hostDemand = 1 then 1 else par p 22 1 } } : Dev).demand 2 0).showSafety) :=
  if_neg (by rcases h with h | h <;> simp [h])

/-- A connection that is opened again. -/
def Dev.reopened (c : Nat) : Dev := (((d.setConn c
  { d.conn c with opened := true, restart := !bitAt (fieldAt (connEntry d.safSet c) 5 1) 0, confirmed := 0 }).set (SAF_CONN_W0.RUN c) 0).connTo c 1).showSafety
theorem openConn_unused (h : d.usedConns.contains (par p 22 2) = false) : opOpenConn.run p ref d = (.bad stBAD_PARAMETER, d) := if_pos (by rw [h]; rfl)
theorem openConn_used (h : d.usedConns.contains (par p 22 2) = true) : opOpenConn.run p ref d = (.done stACCEPTED [], d.reopened (par p 22 2)) :=
  if_neg (by rw [h]; exact Bool.false_ne_true)

/-- The entries of the safety log from a number on, of the 4,096 that it keeps. -/
def Dev.safetyLogFrom (n : Nat) : List LedgerEntry :=
  let all := d.ledger.area.journal.filter (fun e => e.typ == 6)
  (all.drop (all.length - 4096)).filter (fun e => decide (n ≤ e.seq))
theorem readSafetyLog_bad (h : par p 26 2 = 0 ∨ 1024 < par p 26 2) : opReadSafetyLog.run p ref d = (.bad stBAD_PARAMETER, d) := if_pos (by simpa using h)
theorem readSafetyLog_writes (h0 : 0 < par p 26 2) (h : par p 26 2 ≤ 1024) : opReadSafetyLog.run p ref d =
    d.hostWrite p (par p 28 8) (((d.safetyLogFrom (par p 22 4)).take (par p 26 2)).flatMap (fun e => padTo 32 e.body))
      (.done stOK (leBytes 2 ((d.safetyLogFrom (par p 22 4)).take (par p 26 2)).length ++
        leBytes 4 ((((d.safetyLogFrom (par p 22 4))[par p 26 2]?).map (·.seq)).getD d.ledger.nextSeq))) :=
  if_neg (by simp; omega)
end

end Sys2Proof.Machine

open Sys2Proof Sys2Proof.Machine

/-- Settles O45: each clause is an equation of its row's meaning; what a lapse, an unconfirmed function and a deliberate reset leave comes from what a ledger
transaction and the safety view keep (R334, R337 to R349, R352). That a forwarded PDU whose seed is the connection's goes on by trunk 1 is the model's choice
(log 70). -/
theorem safetyConnectionsAndResets : Obligations.SafetyConnectionsAndResets := by
  refine ⟨?forward, ?damaged, ?sound, ?lapse, ?confirm, ?ack, fun s at_ h => next_of_fixed (sackRelease_early _ _ none h), ?release,
    fun s => ⟨fun h => next_of_fixed (sackStuck_fixed _ h), fun hm h => next_of_dev (sackStuck_begins _ hm h)⟩, ?load, ?status, ?stop, ?opens, ?log⟩
  case forward =>
    exact fun s c bs hu => ⟨fun h => next_of_fixed ((pduReceived_unused _ _ _ hu).trans (forwardPdu_stays _ _ _ h)),
      fun hc hk hl hf => next_of_dev ((pduReceived_unused _ _ _ hu).trans (forwardPdu_goesOn _ _ _ hc hk hl hf))⟩
  case damaged =>
    rintro s c bs recent d1 hu hb hr rfl
    replace hr : s.dev.crcRecent c.val = recent := hr.symm
    have taken := pduReceived_damaged c.val bs s.dev hu hb
    rw [hr] at taken
    refine ⟨fun h => next_of_dev (taken.trans (congrArg Dev.showSafety (when_off ?_ _ _))),
      fun h hs => next_of_dev (taken.trans (congrArg Dev.showSafety (when_on ?_ _ _)))⟩
    · rcases h with h | h
      · rw [decide_eq_false (Nat.not_lt.mpr h), Bool.false_and]
      · rw [h, Bool.and_comm]
        rfl
    · rw [decide_eq_true h, Bool.true_and, bne_iff_ne]
      exact hs
  case sound =>
    intro s c bs ahead hu hl hf ha
    replace ha : s.dev.pduAhead c.val bs = ahead := ha.symm
    have used : ∀ {d : Dev}, (d.connState c.val = 2 ∨ d.connState c.val = 3) → (d.connState c.val = 2 || d.connState c.val = 3) = true := by
      intro d h
      simpa using h
    have data := pduReceived_data c.val bs s.dev hu hl hf
    have close := pduReceived_close c.val bs s.dev hu hl hf
    refine ⟨fun hk hs h => next_of_dev ?_, fun hk hs h => next_of_dev ?_, fun hk hs h1 h2 => next_of_dev ?_, fun hk hs => next_of_dev ?_, fun hk hs => next_of_dev ?_⟩
    · rw [data hk, if_pos (used hs), ha, if_pos h]
    · rw [data hk, if_pos (used hs), ha, if_neg (by omega), if_neg (Nat.not_le.mpr h)]
    · rw [data hk, if_pos (used hs), ha, if_neg (by omega), if_pos h2]
      rfl
    · rw [data hk, if_neg (by simp; omega)]
    · rw [close hk, if_neg hs]
  case lapse =>
    refine fun s c => ⟨fun h => next_of_fixed (watchdogLapse_closed _ _ h), fun hu h => exists_next _ (watchdogLapse_open _ _ hu h) fun t ht => ?_⟩
    have sound : s.dev.connState c.val ≠ 3 := by omega
    have faulted := conn_connFault c.val s.dev sound
    rw [ht, conn_of_saf c.val (saf_showSafety _), connState_showSafety, saf_showSafety, faulted]
    exact ⟨rfl, rfl, connState_connFault c.val c.isLt _ sound, lastDemand_connFault c.val _ sound⟩
  case confirm =>
    rintro s c b open_ rfl
    refine ⟨fun h => next_of_fixed ((confirmTimeout_eq _ _ _).trans (if_neg (fun hh => Bool.false_ne_true (h.symm.trans hh)))),
      fun h => exists_next _ ((confirmTimeout_eq _ _ _).trans (if_pos h)) fun t ht => ?_⟩
    rw [ht, conn_of_saf c.val (saf_showSafety _)]
    exact latch_latchRun c.val 3 s.dev
  case ack =>
    rintro s c at_ acks rfl
    refine ⟨fun h => ?_, fun h => ?_⟩
    · by_cases hm : s.dev.mode < 2
      · exact next_of_fixed (sackRelease_early _ _ _ hm)
      · have idle : s.dev.acknowledges at_.toNat c.val = false := by
          rw [decide_eq_true (Nat.not_lt.mp hm), Bool.true_and] at h
          rw [Dev.acknowledges, ← h]
          simp only [Bool.and_assoc]
        exact next_of_fixed ((sackRelease_conn _ _ _ (Nat.not_lt.mp hm)).trans (if_neg (by rw [idle]; exact Bool.false_ne_true)))
    · have synced : 2 ≤ s.dev.mode := by
        simp only [Bool.and_eq_true, decide_eq_true_eq] at h
        exact h.1.1.1.1.1.1
      have acks : s.dev.acknowledges at_.toNat c.val = true := by
        rw [decide_eq_true synced, Bool.true_and] at h
        rw [Dev.acknowledges, ← h]
        simp only [Bool.and_assoc]
      exact next_of_dev ((sackRelease_conn _ _ _ synced).trans (if_pos acks))
  case release =>
    rintro s at_ past acks d1 hm rfl rfl rfl
    have released := sackRelease_pin at_.toNat s.dev hm
    have calm : ∀ {b : Bool}, s.dev.on SAF_STATUS.SACK_STUCK = false ∨ b = true → (s.dev.on SAF_STATUS.SACK_STUCK && !b) = false := by
      intro b h
      rcases h with h | h <;> simp [h]
    have reset : s.dev.on SAF_STATUS.SACK_STUCK = false ∨ s.dev.stuckPast at_.toNat = true → s.dev.timelyRelease at_.toNat = true →
        s.dev.sackRelease none at_.toNat = s.dev.sackFree.deliberateReset 0 0 :=
      fun h ha => released.trans ((if_neg (by rw [calm h]; exact Bool.false_ne_true)).trans (if_pos ha))
    refine ⟨fun hs hp => next_of_dev (released.trans (if_pos ?_)), fun h ha => next_of_dev (released.trans ((if_neg ?_).trans (if_neg ?_))),
      fun h ha => next_of_dev (reset h ha), fun h ha => exists_next _ (reset h ha) fun t ht => ?_⟩
    · have past : s.dev.stuckPast at_.toNat = false := hp
      rw [hs, past]
      rfl
    · have free := calm h
      exact fun hh => Bool.false_ne_true (free.symm.trans hh)
    · have late : s.dev.timelyRelease at_.toNat = false := ha
      rw [late]
      exact Bool.false_ne_true
    · have ground := exitGround_sackFree s.dev
      rw [ht, hostDemand_deliberateReset, mode_deliberateReset, exitDue_deliberateReset, mode_of_ground ground, exitDue_of_ground ground, exitFree_of_ground ground]
      exact ⟨rfl, rfl, rfl⟩
  case load =>
    intro s p p' d' r
    refine ⟨fun h => r.next (congrArg _ (loadSafety_long _ _ _ h)),
      fun h hh => ⟨_, rfl, r.next (congrArg _ ((loadSafety_reads _ _ _ h).trans (hostRead_error _ _ _ _ hh)))⟩, ?_⟩
    rintro bs b h hh rfl
    have read := (loadSafety_reads p' (refOf p s.dev) d' h).trans (hostRead_ok _ _ _ _ _ hh)
    exact ⟨fun hb => r.next (congrArg _ (read.trans (loadSet_malformed _ _ hb))),
      fun e hb he => r.next (congrArg _ (read.trans (loadSet_inconsistent _ _ e hb he))),
      fun hb he => ⟨_, rfl, r.next (congrArg _ (read.trans (loadSet_pending _ _ hb he)))⟩⟩
  case status =>
    rintro s p p' d' mask r rfl
    exact r.next rfl
  case stop =>
    rintro s p p' d' f r rfl
    exact ⟨fun h1 h2 => r.next (congrArg _ (safeStop_bad _ _ _ h1 h2)), fun h => ⟨_, rfl, r.next (congrArg _ (safeStop_taken _ _ _ h))⟩⟩
  case opens =>
    intro s p p' d' r
    refine ⟨fun h => r.next (congrArg _ (openConn_unused _ _ _ h)), ?_⟩
    rintro d1 h rfl
    exact r.next (congrArg _ (openConn_used _ _ _ h))
  case log =>
    rintro s p p' d' k r rfl
    refine ⟨fun h => r.next (congrArg _ (readSafetyLog_bad _ _ _ h)), ?_⟩
    rintro bs all es h0 h hh rfl he
    have entries : d'.safetyLogFrom (par p' 22 4) = es := he.symm
    rw [← entries]
    exact r.next (congrArg _ ((readSafetyLog_writes _ _ _ h0 h).trans (hostWrite_ok _ _ _ _ _ _ hh)))
end

section
/-! PROOFS. CAN transmit buffers: requests, cancels, transmit-at times and the ends of attempts (R475 to R477, R479), and O51. -/
namespace Sys2Proof.Machine

/-! ## Masks -/

theorem forN_congr {f g : Nat → Dev → Dev} (n : Nat) (d : Dev) (h : ∀ k < n, ∀ e, f k e = g k e) : Dev.forN n f d = Dev.forN n g d := by
  induction n with
  | zero => rfl
  | succ n ih =>
    unfold Dev.forN at ih ⊢
    rw [List.range_succ, List.foldl_append, List.foldl_append, ih (fun k hk => h k (Nat.lt_succ_of_lt hk))]
    exact h n (Nat.lt_succ_self n) _
/-- A mask of one bit acts once. -/
theorem forN_oneBit (f : Nat → Dev → Dev) (b : Nat) (hb : b < 32) (d : Dev) : (Dev.forN 32 (fun k e => if bitAt (2 ^ b) k then f k e else e) d) = f b d := by
  rw [forN_single _ 32 b d hb (fun k e hk => if_neg (by rw [bitAt_two_pow_other hk]; exact Bool.false_ne_true))]
  exact if_pos (bitAt_two_pow_self b)
theorem toNat_oneBit (b : Fin 32) : (BitVec.ofNat 32 (2 ^ b.val)).toNat = 2 ^ b.val := by
  rw [BitVec.toNat_ofNat]
  exact Nat.mod_eq_of_lt (Nat.pow_lt_pow_right (by decide) b.isLt)

/-! ## Requests and their times (R476) -/

section
variable (n b at_ tol : Nat) (ref : Option PktRef) (d : Dev)

theorem canRequest_atOnce (h : at_ = 0) : d.canRequest n b at_ tol ref = d.pendBuffer n ⟨b, some d.now, 0, false, 0, false, ref⟩ := by
  subst h
  rfl
theorem canRequest_timed (h : at_ ≠ 0) : d.canRequest n b at_ tol ref =
    match lateness (d.now + ns 1000) at_ tol 0xFFFFFFFF with
    | 0 => d.pendBuffer n ⟨b, none, at_, false, 0, false, ref⟩
    | 1 => d.pendBuffer n ⟨b, some d.now, at_, true, 0, false, ref⟩
    | _ => d.endBuffer n ⟨b, none, at_, false, 0, false, ref⟩ 2 0 stMISSED := by
  have timed : d.canLateness at_ tol = lateness (d.now + ns 1000) at_ tol 0xFFFFFFFF := if_neg h
  unfold Dev.canRequest
  rw [timed, if_neg h] <;> rfl
theorem canRequest_waits (h : at_ ≠ 0) (he : d.now + ns 1000 ≤ at_) :
    d.canRequest n b at_ tol ref = d.pendBuffer n ⟨b, none, at_, false, 0, false, ref⟩ := by
  rw [canRequest_timed n b at_ tol ref d h, lateness_early _ _ he] <;> rfl
theorem canRequest_late (h : at_ ≠ 0) (he : at_ < d.now + ns 1000) (hb : tol < 2 ^ 32) (ht : 0xFFFFFFFE ≤ tol ∨ d.now + ns 1000 - at_ ≤ ns tol) :
    d.canRequest n b at_ tol ref = d.pendBuffer n ⟨b, some d.now, at_, true, 0, false, ref⟩ := by
  have late : lateness (d.now + ns 1000) at_ tol 0xFFFFFFFF = 1 := by
    rw [lateness_behind _ _ he]
    by_cases hn : tol = 0xFFFFFFFE
    · rw [if_pos hn, if_pos (.inl rfl)]
    · rw [if_neg hn, if_pos (ht.imp_left (by omega))]
  rw [canRequest_timed n b at_ tol ref d h, late] <;> rfl
theorem canRequest_missed (h : at_ ≠ 0) (he : at_ < d.now + ns 1000) (hb : tol < 0xFFFFFFFE) (ht : ns tol < d.now + ns 1000 - at_) :
    d.canRequest n b at_ tol ref = d.endBuffer n ⟨b, none, at_, false, 0, false, ref⟩ 2 0 stMISSED := by
  have missed : lateness (d.now + ns 1000) at_ tol 0xFFFFFFFF = 2 := by
    rw [lateness_behind _ _ he, if_neg (Nat.ne_of_lt hb), if_neg (not_or.mpr ⟨by omega, Nat.not_le.mpr ht⟩)]
  rw [canRequest_timed n b at_ tol ref d h, missed] <;> rfl
end

/-- The host asks for buffer `b`. -/
def Dev.askBuffer (n b : Nat) (d : Dev) : Dev :=
  if 5 ≤ b && b < d.txCount n && (d.canPending n b).isNone then
    d.canRequest n b (d.canField n (d.txOff n b + 4) 10) (d.canField n (d.txOff n b + 16) 4) none
  else d
/-- The host cancels buffer `b`. -/
def Dev.cancelBuffer (n b : Nat) (onBus : Option Nat) (d : Dev) : Dev :=
  match d.canPending n b with
  | some p => if onBus = some b && p.since.isSome && d.canSends n then
        (d.pendBuffer n { p with cancelled := true }).wr (CAN_TX_CANCEL n) (withBits (d.rd (CAN_TX_CANCEL n)) b b 1)
      else d.endBuffer n p 4 0 stBUSY
  | none => d

section
variable (n b mask : Nat) (onBus : Option Nat) (d : Dev)

theorem canTxRequest_each : d.canTxRequest n mask = d.forN 32 (fun b d => if bitAt mask b then d.askBuffer n b else d) :=
  forN_congr 32 d (fun k _ e => by
    cases bitAt mask k with
    | false => simp only [Bool.false_and, Bool.false_eq_true, if_false]
    | true => simp only [Bool.true_and, if_true, Dev.askBuffer])
theorem canTxCancel_each : d.canTxCancel n mask onBus = d.forN 32 (fun b d => if bitAt mask b then d.cancelBuffer n b onBus else d) := by
  refine forN_congr 32 d (fun k _ e => ?_)
  unfold Dev.cancelBuffer
  cases e.canPending n k with
  | none => exact (ite_self e).symm
  | some p =>
    cases bitAt mask k with
    | false => simp only [Bool.not_false, Bool.false_eq_true, if_false, if_true]
    | true => simp only [Bool.not_true, Bool.false_eq_true, if_false, if_true]
variable (hb : b < 32)
include hb
theorem canTxRequest_one : d.canTxRequest n (2 ^ b) = d.askBuffer n b := (canTxRequest_each n _ d).trans (forN_oneBit _ b hb d)
theorem canTxCancel_one : d.canTxCancel n (2 ^ b) onBus = d.cancelBuffer n b onBus := (canTxCancel_each n _ onBus d).trans (forN_oneBit _ b hb d)
end

/-- A request is accepted for a buffer of the pool that is not pending. -/
theorem askBuffer_refused (n b : Nat) (d : Dev) (h : b < 5 ∨ d.txCount n ≤ b ∨ d.canPending n b ≠ none) : d.askBuffer n b = d := by
  refine if_neg (fun asked => ?_)
  simp only [Bool.and_eq_true, decide_eq_true_eq, Option.isNone_iff_eq_none] at asked
  obtain ⟨⟨h5, hc⟩, hp⟩ := asked
  rcases h with h | h | h
  · omega
  · omega
  · exact h hp
theorem askBuffer_accepted (n b : Nat) (d : Dev) (h5 : 5 ≤ b) (hc : b < d.txCount n) (hp : d.canPending n b = none) :
    d.askBuffer n b = d.canRequest n b (d.canField n (d.txOff n b + 4) 10) (d.canField n (d.txOff n b + 16) 4) none :=
  if_pos (by simp only [h5, hc, hp, Option.isNone_none, decide_true, Bool.and_self])
theorem cancelBuffer_idle (n b : Nat) (onBus : Option Nat) (d : Dev) (h : d.canPending n b = none) : d.cancelBuffer n b onBus = d := by
  unfold Dev.cancelBuffer
  rw [h]
theorem cancelBuffer_pending (n b : Nat) (onBus : Option Nat) (d : Dev) {p : CanPend} (h : d.canPending n b = some p) : d.cancelBuffer n b onBus =
    if onBus = some b && p.since.isSome && d.canSends n then
      (d.pendBuffer n { p with cancelled := true }).wr (CAN_TX_CANCEL n) (withBits (d.rd (CAN_TX_CANCEL n)) b b 1)
    else d.endBuffer n p 4 0 stBUSY := by
  unfold Dev.cancelBuffer
  rw [h]
theorem canField_lt (n o k : Nat) (d : Dev) : d.canField n o k < 2 ^ (8 * k) := by
  have short := leNat_lt (d.canBytes n o k)
  rwa [Dev.canBytes, List.length_map, List.length_range] at short

/-! ## The end of an attempt (R463, R477, R479) -/

section
variable (n b out sof : Nat) (delay : Option Nat) (d : Dev)

/-- An attempt of `b` is none that ends: the channel does not send, or another buffer won. -/
def Dev.noAttempt : Prop := (d.get (CAN_STATUS.STATE n) ≠ 2 ∧ d.get (CAN_STATUS.STATE n) ≠ 3) ∨ (d.canCh n).listen = true ∨ bitAt (d.lrd (CAN_CTRL n)) 0 = true ∨
  d.get (CAN_STATUS.ERR_STATE n) = 2 ∨ d.canWinner n sof ≠ some b
theorem canTxDone_noAttempt (h : d.noAttempt n b sof) : d.canTxDone n b out sof delay = d :=
  if_pos (by simpa only [Dev.noAttempt, Bool.or_eq_true, Bool.and_eq_true, decide_eq_true_eq, or_assoc] using h)

/-- The transmitter delay that was measured. -/
def Dev.delayShown : Dev := match delay with
  | some m => if bitAt (d.lrd (CAN_CTRL n)) 7 && bitAt (d.canField n (d.txOff n b + 14) 1) 4 && decide (bitsOf (d.lrd (CAN_DELAY_COMP n)) 15 8 ≤ m) then
      d.set (CAN_DELAY_COMP.MEASURED n) m else d
  | none => d
/-- The frame that a buffer holds was sent; `p` is its pending entry with this attempt, `id` and `dlc` are those of the buffer. -/
def Dev.frameSent (p : CanPend) (id dlc o : Nat) : Dev :=
  let data := d.canBytes n (o + 24) (frameLen id dlc)
  let d := d.when (d.canLoop n != 4) (Dev.emit (.can n id data))
  let d := d.endBuffer n p (if p.late then 3 else 0) sof (if p.late then stLATE else stOK)
  let d := d.when ((d.canCh n).tec != 0) (fun d => d.canCounters n ((d.canCh n).tec - 1) (d.canRec n))
  d.when (d.canLoop n != 0) (Dev.canStore n id dlc sof data)
/-- The attempt failed; `once` for a one-shot frame. -/
def Dev.attemptFailed (p : CanPend) (once : Bool) : Dev :=
  if p.cancelled then d.endBuffer n p 4 sof stBUSY
  else if once then d.endBuffer n p 1 sof (if out = 1 then stBUSY else stMEDIA_ERROR)
  else d.pendBuffer n p

theorem canField_of_can {d e : Dev} (h : d.can = e.can) (o k : Nat) : d.canField n o k = e.canField n o k := by
  have channel : d.canCh n = e.canCh n := congrArg (fun c => smGet (fun _ => CanCh.reset) c n) h
  unfold Dev.canField Dev.canBytes
  rw [channel]
theorem canField_delayShown (o k : Nat) : (d.delayShown n b delay).canField n o k = d.canField n o k := by
  refine canField_of_can n ?_ o k
  unfold Dev.delayShown
  cases delay with
  | none => rfl
  | some m =>
    dsimp only
    split
    · exact Dev.set_can _ _ _
    · rfl
theorem when_bne (x y : Nat) (f : Dev → Dev) (e : Dev) : e.when (x != y) f = if x = y then e else f e := by
  by_cases h : x = y
  · rw [if_pos h, when_off (bne_eq_false_iff_eq.mpr h)]
  · rw [if_neg h, when_on (bne_iff_ne.mpr h)]
theorem attemptFailed_once {p : CanPend} {once : Bool} (hc : p.cancelled = false) (ho : once = true) :
    d.attemptFailed n out sof p once = d.endBuffer n p 1 sof (if out = 1 then stBUSY else stMEDIA_ERROR) :=
  (if_neg (by rw [hc]; exact Bool.false_ne_true)).trans (if_pos ho)
theorem attemptFailed_pending {p : CanPend} {once : Bool} (hc : p.cancelled = false) (ho : once = false) :
    d.attemptFailed n out sof p once = d.pendBuffer n p :=
  (if_neg (by rw [hc]; exact Bool.false_ne_true)).trans (if_neg (by rw [ho]; exact Bool.false_ne_true))

theorem canTxDone_ends {p : CanPend} (h : ¬ d.noAttempt n b sof) (hp : d.canPending n b = some p) : d.canTxDone n b out sof delay =
    (if out = 0 then (d.delayShown n b delay).frameSent n sof { p with attempts := p.attempts + 1 } (d.canField n (d.txOff n b) 4 % 2 ^ 31)
        (d.canField n (d.txOff n b + 14) 1) (d.txOff n b)
      else (d.delayShown n b delay).attemptFailed n out sof { p with attempts := p.attempts + 1 }
        (bitAt (d.lrd (CAN_CTRL n)) 6 || bitAt ((d.delayShown n b delay).canField n (d.txOff n b + 15) 1) 1)).canFrameEnd n := by
  refine (if_neg (fun stays => h ?_)).trans ?_
  · simpa only [Dev.noAttempt, Bool.or_eq_true, Bool.and_eq_true, decide_eq_true_eq, or_assoc] using stays
  · rw [hp] <;> rfl
end

end Sys2Proof.Machine

open Sys2Proof Sys2Proof.Machine

/-- Settles O51: a mask acts bit by bit, one bit is one request or cancel, and each clause is an equation of what that buffer or the end of its attempt does
(R463, R466, R475 to R477, R479, R483). -/
theorem canTransmitBuffersContendAndEnd : Obligations.CanTransmitBuffersContendAndEnd := by
  refine ⟨?request, fun s n m onBus => ⟨?mask, ?cancelMask⟩, ?cancel, ?time, ?none, ?attempt⟩
  case request =>
    intro s n b at_ tol hat htol
    have asked : exec (.canTxRequest n (BitVec.ofNat 32 (2 ^ b.val))) s = .next (s.onDev (Dev.askBuffer n.val b.val)) :=
      next_of_dev (by rw [toNat_oneBit, canTxRequest_one n.val b.val s.dev b.isLt])
    rw [asked]
    have accepted : 5 ≤ b.val → b.val < s.dev.txCount n.val → s.dev.canPending n.val b.val = none →
        s.dev.askBuffer n.val b.val = s.dev.canRequest n.val b.val at_ tol none := by
      intro h5 hc hp
      rw [hat, htol]
      exact askBuffer_accepted _ _ _ h5 hc hp
    have word : tol < 2 ^ 32 := by
      rw [htol]
      exact canField_lt _ _ 4 _
    exact ⟨fun h => next_of_fixed (askBuffer_refused _ _ _ h),
      fun h5 hc hp h => next_of_dev ((accepted h5 hc hp).trans (canRequest_atOnce _ _ _ _ _ _ h)),
      fun h5 hc hp h he => next_of_dev ((accepted h5 hc hp).trans (canRequest_waits _ _ _ _ _ _ h he)),
      fun h5 hc hp h he ht => next_of_dev ((accepted h5 hc hp).trans (canRequest_late _ _ _ _ _ _ h he word ht)),
      fun h5 hc hp h he hb ht => next_of_dev ((accepted h5 hc hp).trans (canRequest_missed _ _ _ _ _ _ h he hb ht))⟩
  case mask => exact next_of_dev ((canTxRequest_each _ _ _).trans (forN_congr 32 _ (fun k hk e => by rw [canTxRequest_one n.val k e hk])))
  case cancelMask => exact next_of_dev ((canTxCancel_each _ _ _ _).trans (forN_congr 32 _ (fun k hk e => by rw [canTxCancel_one n.val k _ e hk])))
  case cancel =>
    intro s n b onBus
    have asked : exec (.canTxCancel n (BitVec.ofNat 32 (2 ^ b.val)) onBus) s = .next (s.onDev (Dev.cancelBuffer n.val b.val (onBus.map (·.val)))) :=
      next_of_dev (by rw [toNat_oneBit, canTxCancel_one n.val b.val _ s.dev b.isLt])
    have named : onBus.map (·.val) = some b.val ↔ onBus = some b := by
      cases onBus with
      | none => simp
      | some k => simp [Fin.ext_iff]
    rw [asked]
    refine ⟨fun h => next_of_fixed (cancelBuffer_idle _ _ _ _ h), fun p hp h => ?_, fun p hp hb hs hc => ?_⟩
    · refine next_of_dev ((cancelBuffer_pending _ _ _ _ hp).trans (if_neg (fun marks => ?_)))
      simp only [Bool.and_eq_true, decide_eq_true_eq, named] at marks
      obtain ⟨⟨hb, hs⟩, hc⟩ := marks
      rcases h with h | h | h
      · exact h hb
      · rw [h] at hs
        exact Bool.false_ne_true hs
      · exact Bool.false_ne_true (h.symm.trans hc)
    · refine next_of_dev ((cancelBuffer_pending _ _ _ _ hp).trans (if_pos ?_))
      simp only [Bool.and_eq_true, decide_eq_true_eq, named]
      exact ⟨⟨hb, Option.isSome_iff_ne_none.mpr hs⟩, hc⟩
  case time =>
    intro s n b
    refine ⟨fun h => next_of_fixed ?_, fun p hp => ⟨fun h => next_of_fixed ?_, fun h => next_of_dev ?_⟩⟩
    · unfold Dev.canTransmitAt
      rw [h]
    · unfold Dev.canTransmitAt
      rw [hp]
      exact if_pos (Option.isSome_iff_ne_none.mpr h)
    · unfold Dev.canTransmitAt
      rw [hp]
      exact if_neg (by rw [h]; exact Bool.false_ne_true)
  case none => exact fun s n b o sof dl h => next_of_fixed (canTxDone_noAttempt _ _ _ _ _ _ h)
  case attempt =>
    intro s n b sof dl p id dlc oneShot d1 hs hl hc he hw hp hid hdlc hone hd
    have sends : ¬ s.dev.noAttempt n.val b.val sof.toNat := by
      rintro (h | h | h | h | h)
      · exact hs.elim h.1 h.2
      · exact Bool.false_ne_true (hl.symm.trans h)
      · exact Bool.false_ne_true (hc.symm.trans h)
      · exact he h
      · exact h hw
    have shown : s.dev.delayShown n.val b.val (dl.map (·.toNat)) = d1 := by
      rw [hd, hdlc]
      cases dl <;> rfl
    have bytes : ∀ o k, d1.canField n.val o k = s.dev.canField n.val o k := by
      intro o k
      rw [← shown, canField_delayShown]
    have done := fun out => canTxDone_ends n.val b.val out sof.toNat (dl.map (·.toNat)) s.dev sends hp
    simp only [shown, bytes, ← hid, ← hdlc, ← hone] at done
    have failed : ∀ out : Fin 3, out ≠ 0 → ∀ e, d1.attemptFailed n.val out.val sof.toNat { p with attempts := p.attempts + 1 } oneShot = e →
        exec (.canTxComplete n b out sof dl) s = .next (s.onDev (fun _ => e.canFrameEnd n.val)) := by
      intro out ho e he
      have ends : out.val ≠ 0 := fun h => ho (Fin.ext h)
      exact next_of_dev ((done out.val).trans (congrArg (Dev.canFrameEnd n.val) ((if_neg ends).trans he)))
    refine ⟨fun h => ⟨failed 1 (by decide) _ (if_pos h), failed 2 (by decide) _ (if_pos h)⟩,
      fun h ho => ⟨failed 1 (by decide) _ (attemptFailed_once _ _ _ _ h ho), failed 2 (by decide) _ (attemptFailed_once _ _ _ _ h ho)⟩,
      fun h ho => ⟨failed 1 (by decide) _ (attemptFailed_pending _ _ _ _ h ho), failed 2 (by decide) _ (attemptFailed_pending _ _ _ _ h ho)⟩, ?_⟩
    intro data d2 d3 d4 hdata h2 h3 h4
    refine next_of_dev ((done 0).trans (congrArg (Dev.canFrameEnd n.val) ((if_pos rfl).trans ?_)))
    unfold Dev.frameSent
    simp only [when_bne]
    rw [← hdata, ← h2, ← h3, ← h4]

end

section
/-! PROOFS. CAN channels are set up, take filters, detect their rate and send (R464, R468, R475, R476, R480 to R482), and O50. -/
namespace Sys2Proof.Machine

theorem sync_of_rd {d e : Dev} (h : d.rd SYS_MODE = e.rd SYS_MODE) : d.sync = e.sync := by
  unfold Dev.sync
  rw [mode_of_rd d e h]
theorem forEach_keep_mem {α β : Type} (g : Dev → β) (f : α → Dev → Dev) (xs : List α) (h : ∀ x ∈ xs, ∀ d, g (f x d) = g d) (d : Dev) :
    g (Dev.forEach xs f d) = g d := by
  induction xs generalizing d with
  | nil => rfl
  | cons x xs ih => exact (ih (fun y hy => h y (List.mem_cons_of_mem x hy)) (f x d)).trans (h x List.mem_cons_self d)

/-! ## The checks of a commit (R464) -/

section
variable (n : Nat) (w : Nat → Nat) (d : Dev)
theorem canCheck_barred (h : d.canBars n w = true) : d.canCheck n w = (stBUSY, []) := if_pos h
theorem canCheck_rules (h : d.canBars n w = false) : d.canCheck n w = match d.canFail n w with
    | some r => (stCONSISTENCY, ruleResult r (0x0D00 + n))
    | none => (0, []) := if_neg (by rw [h]; exact Bool.false_ne_true)
theorem canCheck_fails (h : d.canBars n w = false) {r : Nat} (hr : d.canFail n w = some r) : d.canCheck n w = (stCONSISTENCY, ruleResult r (0x0D00 + n)) := by
  rw [canCheck_rules n w d h, hr]
theorem canCheck_passes (h : d.canBars n w = false) (hr : d.canFail n w = none) : d.canCheck n w = (0, []) := by
  rw [canCheck_rules n w d h, hr]
variable (ws : List (Nat × Word)) (ref : Option PktRef)
theorem canTake_atOnce (h : d.sync = false) : d.canTake n ws ref = d.canCommit n ws ref := if_neg (by rw [h]; exact Bool.false_ne_true)
theorem canTake_held (h : d.sync = true) : d.canTake n ws ref = d.holdCommit (0x0D00 + n) ws ref := if_pos h
end

/-! ## The window of a candidate rate (R480) -/

section
variable (n : Nat) (a : Autobaud) (d : Dev)
theorem autobaudNext_none (h : (d.canCh n).auto = none) : d.autobaudNext n = d := by
  unfold Dev.autobaudNext
  rw [h]
theorem autobaudNext_some (h : (d.canCh n).auto = some a) : d.autobaudNext n =
    if a.idx + 1 < a.cands.length then d.setCan n { d.canCh n with auto := some { a with idx := a.idx + 1, good := 0, verified := false } }
    else d.autobaudDone n none := by
  unfold Dev.autobaudNext
  rw [h]
theorem autobaudDone_none (h : (d.canCh n).auto = some a) : d.autobaudDone n none =
    ((((d.setCan n { d.canCh n with auto := none }).set (CAN_STATUS.STATE n) 0).set (CAN_AUTOBAUD.RESULT n) 0xFF).set (CAN_AUTOBAUD.DATA_VERIFIED n) 0).post
      (0x0D00 + n) 0x0D06 (leBytes 1 0xFF ++ leBytes 1 0) := by
  unfold Dev.autobaudDone
  rw [h] <;> rfl
theorem now_autobaudDone : (d.autobaudDone n none).now = d.now := by
  cases h : (d.canCh n).auto with
  | none =>
    unfold Dev.autobaudDone
    rw [h]
  | some a =>
    rw [autobaudDone_none n a d h, ledgerBlind_now.post, ledgerBlind_now.set, ledgerBlind_now.set, ledgerBlind_now.set]
    rfl
end

/-! ## CONFIG_CAN (R464, R481, R482) -/

section
variable (n : Nat) (ref : PktRef) (d : Dev)

theorem canStop_stopped (h : d.get (CAN_STATUS.STATE n) = 0) : d.canStop n ref = d.complete ref stOK d.now [] := by
  unfold Dev.canStop
  rw [h] <;> rfl
theorem canStop_detecting (h : d.get (CAN_STATUS.STATE n) = 1) :
    d.canStop n ref = (d.autobaudDone n none).complete ref stOK (d.autobaudDone n none).now [] := by
  rw [now_autobaudDone]
  unfold Dev.canStop
  rw [h] <;> rfl
theorem canStop_stopping (h : d.get (CAN_STATUS.STATE n) = 3) : d.canStop n ref = d.complete ref stBUSY d.now [] := by
  unfold Dev.canStop
  rw [h] <;> rfl
theorem decide_ne_eq_bne (x y : Nat) : decide (x ≠ y) = (x != y) := by
  by_cases h : x = y
  · simp [h]
  · simp [h]
/-- The stop is asked for by the packet `ref`. -/
def Dev.stopAsked : Dev := d.setCan n { d.canCh n with stopRef := some ref }
theorem canStop_running (h : d.get (CAN_STATUS.STATE n) = 2) : d.canStop n ref =
    if (d.stopAsked n ref).canSends n && (d.stopAsked n ref).get (CAN_STATUS.ERR_STATE n) != 2 && ((d.stopAsked n ref).canWinner n (d.stopAsked n ref).now).isSome then
      (d.stopAsked n ref).set (CAN_STATUS.STATE n) 3 else (d.stopAsked n ref).canStopped n := by
  rw [← decide_ne_eq_bne]
  unfold Dev.canStop
  rw [h] <;> rfl
end

section
variable (p : Packet) (ref : PktRef) (d : Dev)

/-- The words of a CONFIG_CAN, written. -/
def Dev.canWords : Dev := d.forEach [(CAN_CTRL (par p 22 1), par p 24 4 % 2 ^ 11), (CAN_ARB_TIMING (par p 22 1), par p 28 4 % 2 ^ 31),
  (CAN_DATA_TIMING (par p 22 1), par p 32 4 % 2 ^ 21), (CAN_DELAY_COMP (par p 22 1), withBits (d.rd (CAN_DELAY_COMP (par p 22 1))) 15 0 (par p 36 4))]
  (fun x d => d.wr x.1 x.2)
theorem mode_canWords : (d.canWords p).rd SYS_MODE = d.rd SYS_MODE := by
  refine forEach_keep_mem (fun d => d.rd SYS_MODE) _ _ (fun x hx e => mode_wr_far _ _ _ ?_) d
  simp only [List.mem_cons, List.not_mem_nil, or_false] at hx
  rcases hx with rfl | rfl | rfl | rfl <;> simp only [CAN_CTRL, CAN_ARB_TIMING, CAN_DATA_TIMING, CAN_DELAY_COMP] <;> omega
/-- The channel starts by operation `op` once its commit is live. -/
def Dev.startAsked (n op : Nat) (d : Dev) : Dev := d.setCan n { d.canCh n with op := some op }
theorem configCan_bad (h : 1 < par p 22 1 ∨ 5 < par p 23 1) : opConfigCan.run p ref d = (.bad stBAD_PARAMETER, d) := if_pos (by simpa using h)
section
variable (hn : par p 22 1 ≤ 1)
include hn
theorem configCan_wrongMode (h4 : 4 ≤ par p 23 1) (h5 : par p 23 1 ≤ 5) (hm : d.mode ≠ 11) : opConfigCan.run p ref d = (.bad stWRONG_MODE, d) :=
  (if_neg (by simp; omega)).trans (if_pos (by simp [h4, hm]))
theorem configCan_stops (h : par p 23 1 = 0) : opConfigCan.run p ref d = (.later, d.canStop (par p 22 1) ref) :=
  (if_neg (by simp; omega)).trans ((if_neg (by simp [h])).trans (if_pos h))
theorem configCan_recovers (h : par p 23 1 = 3) : opConfigCan.run p ref d = (.done stOK [],
    d.when (d.get (CAN_STATUS.ERR_STATE (par p 22 1)) == 2) (Dev.set (CAN_STATUS.RECOVERING (par p 22 1)) 1)) :=
  (if_neg (by simp; omega)).trans ((if_neg (by simp [h])).trans ((if_neg (by omega)).trans (if_pos h)))
variable (hop : par p 23 1 = 1 ∨ par p 23 1 = 2 ∨ (4 ≤ par p 23 1 ∧ par p 23 1 ≤ 5 ∧ d.mode = 11))
include hop
theorem configCan_starts : opConfigCan.run p ref d =
    if d.commitWaits (0x0D00 + par p 22 1) || d.get (CAN_STATUS.STATE (par p 22 1)) = 1 || d.get (CAN_STATUS.STATE (par p 22 1)) = 3 then (.bad stBUSY, d)
    else match d.canCheck (par p 22 1) (d.capWord ((d.canWords p).capture (canRegs (par p 22 1)))) with
      | (0, _) => (.later, ((d.canWords p).startAsked (par p 22 1) (par p 23 1)).canTake (par p 22 1) ((d.canWords p).capture (canRegs (par p 22 1))) (some ref))
      | (st, res) => (.done st res, d) := by
  have mode : ¬ (decide (4 ≤ par p 23 1) && decide (d.mode ≠ 11)) = true := by
    simp only [Bool.and_eq_true, decide_eq_true_eq]
    omega
  refine (if_neg (by simp; omega)).trans ((if_neg mode).trans ((if_neg (by omega)).trans ((if_neg (by omega)).trans ?_)))
  rfl
end


/-! ## LOAD_FILTERS (R464, R468, R482) -/

section
variable (n l k : Nat) (d : Dev)

/-- How many entries list `l` of a channel takes. -/
def Dev.filterCap : Nat := match l with
  | 0 => d.lget (CAN_RAM_RULES.COUNT n)
  | 1 => d.lget (CAN_RAM_MBX.COUNT n)
  | _ => 8
theorem filterCap_eq : d.filterCap n l = if l = 0 then d.lget (CAN_RAM_RULES.COUNT n) else if l = 1 then d.lget (CAN_RAM_MBX.COUNT n) else 8 := by
  unfold Dev.filterCap
  split
  · rfl
  · rfl
  · next h0 h1 => rw [if_neg h0, if_neg h1]
/-- The words that the bytes of a list of `k` entries stand for. -/
def Dev.filterWords (bs : List Byte) : List (Nat × Word) := match l with
  | 0 => (List.range (3 * k)).map (fun i => (CAN_CTRL n + 0x4000 + d.lget (CAN_RAM_RULES.START n) + 4 * i, BitVec.ofNat 32 (fieldAt bs (4 * i) 4)))
  | 1 => (List.range k).map (fun i => (CAN_CTRL n + 0x4000 + d.mbxOff n i, BitVec.ofNat 32 (fieldAt bs (4 * i) 4)))
  | _ => (List.range k).map (fun i => (CAN_LAWMAP n i, BitVec.ofNat 32 (fieldAt bs (4 * i) 4) &&& 0x7FF7F))
theorem filterWords_eq (bs : List Byte) : d.filterWords n l k bs =
    if l = 0 then (List.range (3 * k)).map (fun i => (CAN_CTRL n + 0x4000 + d.lget (CAN_RAM_RULES.START n) + 4 * i, BitVec.ofNat 32 (fieldAt bs (4 * i) 4)))
    else if l = 1 then (List.range k).map (fun i => (CAN_CTRL n + 0x4000 + d.mbxOff n i, BitVec.ofNat 32 (fieldAt bs (4 * i) 4)))
    else (List.range k).map (fun i => (CAN_LAWMAP n i, BitVec.ofNat 32 (fieldAt bs (4 * i) 4) &&& 0x7FF7F)) := by
  unfold Dev.filterWords
  split
  · rfl
  · rfl
  · next h0 h1 => rw [if_neg h0, if_neg h1]
/-- The words of a list, written to the message RAM or the shadow. -/
def Dev.filtersWritten (ws : List (Nat × Word)) : Dev := d.forEach ws (fun x d =>
  if CAN_CTRL n + 0x4000 ≤ x.1 then d.canPut n (x.1 - (CAN_CTRL n + 0x4000)) (leBytes 4 x.2.toNat) else d.wr x.1 x.2.toNat)
theorem mode_filtersWritten (bs : List Byte) : (d.filtersWritten n (d.filterWords n l k bs)).rd SYS_MODE = d.rd SYS_MODE := by
  refine forEach_keep_mem (fun d => d.rd SYS_MODE) _ _ (fun x hx e => ?_) d
  have far : 4 < x.1 := by
    rw [filterWords_eq] at hx
    split_ifs at hx
    all_goals
      obtain ⟨i, -, rfl⟩ := List.mem_map.mp hx
      simp only [CAN_CTRL, CAN_LAWMAP]
      omega
  split
  · rfl
  · exact mode_wr_far _ _ _ far
/-- What LOAD_FILTERS does with the bytes that it read. -/
def Dev.filtersRead (ref : PktRef) (bs : List Byte) (d : Dev) : Reply × Dev :=
  match (d.filtersWritten n (d.filterWords n l k bs)).canFail n ((d.filtersWritten n (d.filterWords n l k bs)).capWord (d.filterWords n l k bs)) with
  | some r => (.done stCONSISTENCY (ruleResult r (0x0D00 + n)), d)
  | none => (.later, (if l = 2 then d.filtersWritten n (d.filterWords n l k bs) else d).canTake n (d.filterWords n l k bs) (some ref))
section
variable (ref : PktRef) (bs : List Byte) {ws : List (Nat × Word)} {e : Dev} (hw : d.filterWords n l k bs = ws) (he : d.filtersWritten n ws = e)
include hw he
theorem filtersRead_fails {r : Nat} (hf : e.canFail n (e.capWord ws) = some r) : d.filtersRead n l k ref bs = (.done stCONSISTENCY (ruleResult r (0x0D00 + n)), d) := by
  unfold Dev.filtersRead
  rw [hw, he, hf]
theorem filtersRead_passes (hf : e.canFail n (e.capWord ws) = none) :
    d.filtersRead n l k ref bs = (.later, (if l = 2 then e else d).canTake n ws (some ref)) := by
  unfold Dev.filtersRead
  rw [hw, he, hf]
end
end

theorem loadFilters_bad (h : 1 < par p 22 1 ∨ 2 < par p 23 1) : opLoadFilters.run p ref d = (.bad stBAD_PARAMETER, d) := if_pos (by simpa using h)
section
variable (hn : par p 22 1 ≤ 1) (hl : par p 23 1 ≤ 2)
include hn hl
theorem loadFilters_checks : opLoadFilters.run p ref d =
    if d.filterCap (par p 22 1) (par p 23 1) < par p 32 2 then (.bad stBAD_LENGTH, d)
    else if d.commitWaits (0x0D00 + par p 22 1) then (.bad stBUSY, d)
    else d.hostRead p ((if par p 23 1 = 0 then 12 else 4) * par p 32 2) (Dev.filtersRead (par p 22 1) (par p 23 1) (par p 32 2) ref) :=
  if_neg (by simp; omega)
end

/-! ## START_AUTOBAUD (R480) -/

theorem startAutobaud_bad (h : 1 < par p 22 1 ∨ par p 23 1 = 0 ∨ 8 < par p 23 1 ∨ par p 24 2 < 10 ∨ 5000 < par p 24 2) :
    opStartAutobaud.run p ref d = (.bad stBAD_PARAMETER, d) := if_pos (by simpa [or_assoc] using h)
/-- The candidates of a START_AUTOBAUD, the first in its window. -/
def windowsAsked : Autobaud :=
  ⟨(List.range (par p 23 1)).map (fun i => (ext p (8 * i) 4, ext p (8 * i + 4) 4)), par p 24 2, 0, 0, false, bitAt (par p 26 1) 0⟩
/-- Detection starts with the packet's candidates. -/
def Dev.detects : Dev := (d.setCan (par p 22 1) { d.canCh (par p 22 1) with auto := some (windowsAsked p) }).set
  (CAN_STATUS.STATE (par p 22 1)) 1
theorem startAutobaud_checked (hn : par p 22 1 ≤ 1) (h0 : 0 < par p 23 1) (h8 : par p 23 1 ≤ 8) (hw : 10 ≤ par p 24 2) (hv : par p 24 2 ≤ 5000) :
    opStartAutobaud.run p ref d = if d.get (CAN_STATUS.STATE (par p 22 1)) ≠ 0 then (.bad stWRONG_MODE, d) else (.done stACCEPTED [], d.detects p) :=
  if_neg (by simp; omega)

/-! ## CAN_SEND (R475 to R477, R482) -/

/-- Identifier word of a CAN_SEND. -/
def sendWord : Nat := par p 24 4 + 2 ^ 29 * flag (bitAt (par p 23 1) 0) + 2 ^ 30 * flag (bitAt (par p 23 1) 3)
/-- DLC byte of a CAN_SEND. -/
def sendDlc : Nat := par p 28 1 + 16 * flag (bitAt (par p 23 1) 1) + 32 * flag (bitAt (par p 23 1) 2)
/-- A field of a CAN_SEND is out of its range, or the channel does not take such frames. -/
def Dev.sendBad : Bool := decide (1 < par p 22 1) || decide (64 ≤ par p 23 1) || decide (15 < par p 28 1) ||
  decide ((if bitAt (par p 23 1) 0 then 2 ^ 29 else 2 ^ 11) ≤ par p 24 4) || (bitAt (par p 23 1) 3 && bitAt (par p 23 1) 1) ||
  (bitAt (par p 23 1) 2 && !bitAt (par p 23 1) 1) || (bitAt (par p 23 1) 1 && !bitAt (d.lrd (CAN_CTRL (par p 22 1))) 3) ||
  (bitAt (par p 23 1) 2 && !bitAt (d.lrd (CAN_CTRL (par p 22 1))) 4)
/-- The first free buffer of the pool. -/
def Dev.poolFree (n : Nat) : Option Nat := (List.range (d.txCount n)).find? (fun b => decide (5 ≤ b) && (d.canPending n b).isNone)
/-- Buffer `b` holds the frame of a CAN_SEND. -/
def Dev.sendFilled (b : Nat) : Dev := d.fillBuffer (par p 22 1) b (sendWord p) (sendDlc p) (flag (bitAt (par p 23 1) 5) + 2 * flag (bitAt (par p 23 1) 4)) p.tag.toNat
  (par p 30 10) p.tol.toNat (extBytes p 0 (frameLen (sendWord p) (sendDlc p)))
theorem canSend_bad (h : d.sendBad p = true) : opCanSend.run p ref d = (.bad stBAD_PARAMETER, d) := if_pos h
section
variable (h : d.sendBad p = false)
include h
theorem canSend_badLength (hl : p.len.toNat ≠ (frameLen (sendWord p) (sendDlc p) + 15) / 16) : opCanSend.run p ref d = (.bad stBAD_LENGTH, d) :=
  (if_neg (fun bad => Bool.false_ne_true (h.symm.trans bad))).trans (if_pos hl)
variable (hl : p.len.toNat = (frameLen (sendWord p) (sendDlc p) + 15) / 16)
include hl
theorem canSend_fits : opCanSend.run p ref d = match d.poolFree (par p 22 1) with
    | none => (.bad stNO_RESOURCE, d)
    | some b => (.later, (d.sendFilled p b).canRequest (par p 22 1) b (par p 30 10) p.tol.toNat (some ref)) :=
  (if_neg (fun bad => Bool.false_ne_true (h.symm.trans bad))).trans (if_neg (fun other => other hl))
theorem canSend_full (hb : d.poolFree (par p 22 1) = none) : opCanSend.run p ref d = (.bad stNO_RESOURCE, d) := by
  rw [canSend_fits p ref d h hl, hb]
theorem canSend_takes {b : Nat} (hb : d.poolFree (par p 22 1) = some b) : opCanSend.run p ref d =
    (.later, (d.sendFilled p b).canRequest (par p 22 1) b (par p 30 10) p.tol.toNat (some ref)) := by
  rw [canSend_fits p ref d h hl, hb]
end

/-! ## GET_CAN_STATUS (R482) and CAN_APPLY (R464) -/

theorem canStatus_bad (h : 1 < par p 22 1) : opCanStatus.run p ref d = (.bad stBAD_PARAMETER, d) := if_pos h
theorem canStatus_answers (h : par p 22 1 ≤ 1) : opCanStatus.run p ref d = (.done stOK (leBytes 4 (d.rd (CAN_STATUS (par p 22 1))) ++
    leBytes 1 (d.get (CAN_ECR.TEC (par p 22 1))) ++ leBytes 1 (d.get (CAN_ECR.REC (par p 22 1))) ++ leBytes 1 (d.get (CAN_RX_STATUS.FILL (par p 22 1) 0)) ++
    leBytes 1 (d.get (CAN_RX_STATUS.FILL (par p 22 1) 1)) ++ leBytes 4 (d.rd (CAN_TX_PENDING (par p 22 1))) ++ leBytes 4 (d.rd (CAN_ERR_CNT (par p 22 1)))), d) :=
  if_neg (Nat.not_lt.mpr h)

section
variable (n : Nat)
/-- APPLY is shown and REFUSED cleared. -/
def Dev.applyShown : Dev := (d.set (CAN_APPLY.REFUSED n) 0).set (CAN_APPLY.APPLY n) 1
theorem canApply_waiting (h : d.on (CAN_APPLY.APPLY n) = true ∨ d.commitWaits (0x0D00 + n) = true) : d.canApply n = d := if_pos (by simpa using h)
theorem canApply_checks (ha : d.on (CAN_APPLY.APPLY n) = false) (hc : d.commitWaits (0x0D00 + n) = false) : d.canApply n =
    if (d.canCheck n (d.capWord (d.capture (canRegs n)))).1 ≠ 0 then d.set (CAN_APPLY.REFUSED n) 1
    else (d.applyShown n).canTake n (d.capture (canRegs n)) none := if_neg (by simp [ha, hc])
end
end

end Sys2Proof.Machine

open Sys2Proof Sys2Proof.Machine

/-- Settles O50: each clause is an equation of its opcode's or row's meaning; the words of a commit leave the mode, and with it whether the commit is held
(R464, R468, R475, R476, R480 to R482). -/
theorem canChannelsAreSetUpAndSend : Obligations.CanChannelsAreSetUpAndSend := by
  refine ⟨?config, ?filters, ?detect, ?window, ?send, ?status, ?apply⟩
  case config =>
    rintro s p p' d' n op r rfl rfl
    refine ⟨fun h => r.next (congrArg _ (configCan_bad _ _ _ h)), fun hn h4 h5 hm => r.next (congrArg _ (configCan_wrongMode _ _ _ hn h4 h5 hm)),
      fun hn ho h => r.next ((congrArg _ (configCan_stops _ _ _ hn ho)).trans (canStop_stopped _ _ _ h)), ?_,
      fun hn ho h => r.next ((congrArg _ (configCan_stops _ _ _ hn ho)).trans (canStop_stopping _ _ _ h)), ?_, ?_, fun hn ho h => r.next (congrArg _
        ((configCan_starts _ _ _ hn ho).trans (if_pos (by simpa [or_assoc] using h)))), ?_⟩
    · rintro d1 hn ho h rfl
      exact r.next ((congrArg _ (configCan_stops _ _ _ hn ho)).trans (canStop_detecting _ _ _ h))
    · rintro d1 hn ho h rfl
      exact r.next ((congrArg _ (configCan_stops _ _ _ hn ho)).trans (canStop_running _ _ _ h))
    · intro d1 hn ho h1
      refine (r.next (congrArg _ (configCan_recovers _ _ _ hn ho))).trans ?_
      rw [h1, Dev.when]
      simp only [beq_iff_eq]
      rfl
    · intro e ws hn ho hc h1 h3 he hw
      have written : d'.canWords p' = e := he.symm
      have starts := (configCan_starts p' (refOf p s.dev) d' hn ho).trans (if_neg (by simp [hc, h1, h3]))
      rw [written, ← hw] at starts
      have mode : (e.startAsked (par p' 22 1) (par p' 23 1)).sync = d'.sync := by
        rw [← written]
        exact sync_of_rd (mode_canWords p' d')
      have checked : ∀ {st : Nat} {res : List Byte}, d'.canCheck (par p' 22 1) (d'.capWord ws) = (st + 1, res) →
          opConfigCan.run p' (refOf p s.dev) d' = (.done (st + 1) res, d') := by
        intro st res hc
        rw [starts, hc] <;> rfl
      have passes : d'.canBars (par p' 22 1) (d'.capWord ws) = false → d'.canFail (par p' 22 1) (d'.capWord ws) = none →
          opConfigCan.run p' (refOf p s.dev) d' = (.later, (e.startAsked (par p' 22 1) (par p' 23 1)).canTake (par p' 22 1) ws (some (refOf p s.dev))) := by
        intro hb hf
        rw [starts, canCheck_passes _ _ _ hb hf] <;> rfl
      exact ⟨fun hb => r.next (congrArg _ (checked (canCheck_barred _ _ _ hb))), fun f hb hf => r.next (congrArg _ (checked (canCheck_fails _ _ _ hb hf))),
        fun hb hf hy => r.next ((congrArg _ (passes hb hf)).trans (canTake_atOnce _ _ _ _ (mode.trans hy))),
        fun hb hf hy => r.next ((congrArg _ (passes hb hf)).trans (canTake_held _ _ _ _ (mode.trans hy)))⟩
  case filters =>
    rintro s p p' d' n l k cap size r rfl rfl rfl hcap hsize
    have isCap : d'.filterCap (par p' 22 1) (par p' 23 1) = cap := (filterCap_eq _ _ _).trans hcap.symm
    have reads : par p' 22 1 ≤ 1 → par p' 23 1 ≤ 2 → par p' 32 2 ≤ cap → d'.commitWaits (0x0D00 + par p' 22 1) = false → opLoadFilters.run p' (refOf p s.dev) d' =
        d'.hostRead p' (size * par p' 32 2) (Dev.filtersRead (par p' 22 1) (par p' 23 1) (par p' 32 2) (refOf p s.dev)) := by
      intro hn hl hk hc
      rw [loadFilters_checks _ _ _ hn hl, isCap, ← hsize, if_neg (Nat.not_lt.mpr hk), if_neg (by rw [hc]; exact Bool.false_ne_true)]
    refine ⟨fun h => r.next (congrArg _ (loadFilters_bad _ _ _ h)), fun hn hl hk => r.next ?long, fun hn hl hk hc => r.next ?busy, ?error, ?read⟩
    case long => rw [loadFilters_checks _ _ _ hn hl, isCap, if_pos hk, answer_bad]
    case busy => rw [loadFilters_checks _ _ _ hn hl, isCap, if_neg (Nat.not_lt.mpr hk), if_pos hc, answer_bad]
    case error =>
      rintro d1 hn hl hk hc hh rfl
      exact r.next (congrArg _ ((reads hn hl hk hc).trans (hostRead_error _ _ _ _ hh)))
    case read =>
      intro bs ws e hn hl hk hc hh hw he
      have words : d'.filterWords (par p' 22 1) (par p' 23 1) (par p' 32 2) (padTo (size * par p' 32 2) bs) = ws := (filterWords_eq _ _ _ _ _).trans hw.symm
      have written : d'.filtersWritten (par p' 22 1) ws = e := he.symm
      have taken := (reads hn hl hk hc).trans (hostRead_ok _ _ _ _ _ hh)
      have mode : (if par p' 23 1 = 2 then e else d').sync = d'.sync := by
        split
        · rw [← written, ← words]
          exact sync_of_rd (mode_filtersWritten _ _ _ _ _)
        · rfl
      exact ⟨fun f hf => r.next (congrArg _ (taken.trans (filtersRead_fails _ _ _ _ _ _ words written hf))),
        fun hf hy => r.next ((congrArg _ (taken.trans (filtersRead_passes _ _ _ _ _ _ words written hf))).trans (canTake_atOnce _ _ _ _ (mode.trans hy))),
        fun hf hy => r.next ((congrArg _ (taken.trans (filtersRead_passes _ _ _ _ _ _ words written hf))).trans (canTake_held _ _ _ _ (mode.trans hy)))⟩
  case detect =>
    rintro s p p' d' n k w r rfl rfl rfl
    refine ⟨fun h => r.next (congrArg _ (startAutobaud_bad _ _ _ h)),
      fun hn h0 h8 hw hv h => r.next (congrArg _ ((startAutobaud_checked _ _ _ hn h0 h8 hw hv).trans (if_pos h))), ?_⟩
    rintro d1 hn h0 h8 hw hv h rfl
    exact r.next (congrArg _ ((startAutobaud_checked _ _ _ hn h0 h8 hw hv).trans (if_neg (fun other => other h))))
  case window =>
    exact fun s n => ⟨fun h => next_of_fixed (autobaudNext_none _ _ h), fun a h hm => next_of_dev ((autobaudNext_some _ _ _ h).trans (if_pos hm)),
      fun a h hl => next_of_dev ((autobaudNext_some _ _ _ h).trans ((if_neg (Nat.not_lt.mpr hl)).trans (autobaudDone_none _ _ _ h)))⟩
  case send =>
    rintro s p p' d' n f dlc id word db len bad r rfl rfl rfl rfl hword hdb hlen hbad
    have isWord : sendWord p' = word := hword.symm
    have isDlc : sendDlc p' = db := hdb.symm
    have isBad : d'.sendBad p' = bad := hbad.symm
    have isLen : frameLen (sendWord p') (sendDlc p') = len := by rw [isWord, isDlc, hlen]
    refine ⟨fun h => r.next (congrArg _ (canSend_bad _ _ _ (isBad.trans h))),
      fun h hl => r.next (congrArg _ (canSend_badLength _ _ _ (isBad.trans h) (by rwa [isLen]))),
      fun h hl hb => r.next (congrArg _ (canSend_full _ _ _ (isBad.trans h) (by rwa [isLen]) hb)), ?_⟩
    rintro b e at_ tol h hl hb rfl rfl he
    have filled : d'.sendFilled p' b = e := by rw [he, Dev.sendFilled, isLen, isWord, isDlc]
    have takes := canSend_takes p' (refOf p s.dev) d' (isBad.trans h) (by rwa [isLen]) hb
    rw [filled] at takes
    exact ⟨fun h0 => r.next ((congrArg _ takes).trans (canRequest_atOnce _ _ _ _ _ _ h0)),
      fun h0 hw => r.next ((congrArg _ takes).trans (canRequest_waits _ _ _ _ _ _ h0 hw)),
      fun h0 hl ht => r.next ((congrArg _ takes).trans (canRequest_late _ _ _ _ _ _ h0 hl p'.tol.isLt ht)),
      fun h0 hl hb ht => r.next ((congrArg _ takes).trans (canRequest_missed _ _ _ _ _ _ h0 hl hb ht))⟩
  case status =>
    rintro s p p' d' n r rfl
    exact ⟨fun h => r.next (congrArg _ (canStatus_bad _ _ _ h)), fun h => r.next (congrArg _ (canStatus_answers _ _ _ h))⟩
  case apply =>
    refine fun s n => ⟨fun h => next_of_fixed (canApply_waiting _ _ h), fun ws ha hc hw => ?_⟩
    have checks := canApply_checks s.dev n.val ha hc
    rw [← hw] at checks
    have mode : (s.dev.applyShown n.val).sync = s.dev.sync := by
      have far : 4 < CAN_APPLY n.val := by
        unfold CAN_APPLY
        omega
      exact sync_of_rd ((mode_set_far _ _ _ far).trans (mode_set_far _ _ _ far))
    have passes : s.dev.canBars n.val (s.dev.capWord ws) = false → s.dev.canFail n.val (s.dev.capWord ws) = none →
        s.dev.canApply n.val = (s.dev.applyShown n.val).canTake n.val ws none := by
      intro hb hf
      rw [checks, canCheck_passes _ _ _ hb hf]
      exact if_neg (fun h => h rfl)
    refine ⟨fun h => next_of_dev (checks.trans (if_pos ?_)), fun hb hf hy => next_of_dev ((passes hb hf).trans (canTake_atOnce _ _ _ _ (mode.trans hy))),
      fun hb hf hy => next_of_dev ((passes hb hf).trans (canTake_held _ _ _ _ (mode.trans hy)))⟩
    cases hb : s.dev.canBars n.val (s.dev.capWord ws) with
    | true =>
      rw [canCheck_barred _ _ _ hb]
      decide
    | false =>
      cases hf : s.dev.canFail n.val (s.dev.capWord ws) with
      | none => exact (h.elim (fun h => Bool.false_ne_true (hb.symm.trans h)) (fun h => h hf)).elim
      | some f =>
        rw [canCheck_fails _ _ _ hb hf]
        exact Nat.succ_ne_zero _
end

section
/-! PROOFS. What the end of CAN buffers and a completion leave of a channel's error counts (R394, R466, R479, R481). -/
namespace Sys2Proof.Machine

/-- Registers apart from the error counters of channel `n`. -/
def besideCounts (n a : Nat) : Prop := a ≠ CAN_ECR n ∧ a ≠ CAN_ERR_CNT n

/-- `g` reads of the registers only the error counters of channel `n`, and of the channels only its transmit error count. -/
structure CountBlind (n : Nat) {β : Type} (g : Dev → β) : Prop where
  wr : ∀ a v d, besideCounts n a → g (Dev.wr a v d) = g d
  hif : ∀ (x : Hif) (d : Dev), g { d with hif := x } = g d
  emit : ∀ o d, g (Dev.emit o d) = g d
  draw : ∀ d : Dev, g d.draw.2 = g d
  setCan : ∀ (c : CanCh) (d : Dev), c.tec = (d.canCh n).tec → g (d.setCan n c) = g d

theorem canCh_of_can (n : Nat) {d e : Dev} (h : d.can = e.can) : d.canCh n = e.canCh n := congrArg (fun c => smGet (fun _ => CanCh.reset) c n) h

namespace CountBlind
variable {n : Nat} {β : Type} {g : Dev → β} (h : CountBlind n g)
include h

theorem set (f : Fld) (v : Nat) (d : Dev) (ha : besideCounts n f.a) : g (Dev.set f v d) = g d := h.wr _ _ _ ha
theorem post (x y : Nat) (bs : List Byte) (d : Dev) : g (Dev.post x y bs d) = g d := h.hif _ d

/-! ### Completions (R392 to R396) -/

theorem fireVector (v : Nat) (d : Dev) (hv : v < 64) : g (Dev.fireVector v d) = g d := by
  have pending : besideCounts n (HIF_MSIX_PBA (v / 32)) := by
    unfold besideCounts HIF_MSIX_PBA CAN_ECR CAN_ERR_CNT
    omega
  unfold Dev.fireVector
  dsimp only
  split
  · exact (h.wr _ _ _ pending).trans (h.hif _ d)
  · exact (h.emit _ _).trans (h.hif _ d)
theorem writeReply (r : KeptReply) (d : Dev) : g (Dev.writeReply r d) = g d := by
  have tail : besideCounts n (HIF_CQ_TAIL r.cq) := by
    unfold besideCounts HIF_CQ_TAIL CAN_ECR CAN_ERR_CNT
    omega
  have owed : besideCounts n (HIF_CQ_OWED r.cq) := by
    unfold besideCounts HIF_CQ_OWED CAN_ECR CAN_ERR_CNT
    omega
  have signalled : ∀ (v k : Nat) (e : Dev), v < 64 → g (Dev.signalN v k e) = g e := by
    intro v k e hv
    unfold Dev.signalN
    dsimp only
    split
    · exact h.fireVector v e hv
    · exact h.hif _ e
  unfold Dev.writeReply
  extract_lets size at_ phase d1 d2 wrap d3
  exact (signalled _ _ _ (Dev.get_lt _ (HIF_CQ_CFG.VECTOR r.cq))).trans ((h.wr _ _ _ owed).trans ((h.wr _ _ _ tail).trans
    ((h.wr _ _ _ tail).trans ((h.hif _ d1).trans (h.emit _ d)))))
theorem completeOpt (ref : Option PktRef) (st : Nat) (t : LTime) (res : List Byte) (d : Dev) : g (Dev.completeOpt ref st t res d) = g d := by
  have owed : ∀ c, besideCounts n (HIF_CQ_OWED c) := by
    intro c
    unfold besideCounts HIF_CQ_OWED CAN_ECR CAN_ERR_CNT
    omega
  have pumped : ∀ (c : Nat) (e : Dev), g (Dev.pumpCq c e) = g e := by
    refine fun c e => foldl_keep g _ (fun e r => ?_) _ e
    dsimp only
    split
    · exact (h.writeReply r _).trans (h.hif _ e)
    · rfl
  cases ref with
  | none => rfl
  | some r =>
    show g (Dev.complete r st t res d) = g d
    unfold Dev.complete
    split
    · rfl
    · extract_lets hif d1 job cq d2
      have reserved : g d2 = g d := by
        unfold d2
        split
        · exact (h.wr _ _ _ (owed _)).trans (h.hif _ d)
        · exact h.hif _ d
      have numbered : g (if r.sq < 64 then (r.sq, d2) else d2.draw).2 = g d2 := by
        split
        · rfl
        · exact h.draw d2
      split
      next sq e he =>
        rw [he] at numbered
        exact (pumped _ _).trans ((h.hif _ e).trans (numbered.trans reserved))

/-! ### Buffers that end (R466, R477, R481) -/

theorem txEvent (entry : List Byte) (d : Dev) : g (Dev.txEvent n entry d) = g d := by
  have status : besideCounts n (CAN_TXE_STATUS n) := by
    unfold besideCounts CAN_TXE_STATUS CAN_ECR CAN_ERR_CNT
    omega
  have lost : besideCounts n (CAN_TXE_OVF_CNT n) := by
    unfold besideCounts CAN_TXE_OVF_CNT CAN_ECR CAN_ERR_CNT
    omega
  unfold Dev.txEvent
  dsimp only
  split
  · have kept : ((d.set (CAN_TXE_STATUS.OVERFLOW n) 1).count32 (CAN_TXE_OVF_CNT n) 1).canCh n = d.canCh n :=
      canCh_of_can n ((Dev.count32_can _ _ _).trans (Dev.set_can _ _ _))
    refine (h.setCan _ _ ?_).trans ((h.wr _ _ _ lost).trans (h.set (CAN_TXE_STATUS.OVERFLOW n) 1 d status))
    rw [kept]
  · exact (h.wr _ _ _ status).trans ((h.wr _ _ _ status).trans (h.setCan _ d rfl))
theorem unpend (b : Nat) (d : Dev) : g (Dev.unpend n b d) = g d := by
  have pending : besideCounts n (CAN_TX_PENDING n) := by
    unfold besideCounts CAN_TX_PENDING CAN_ECR CAN_ERR_CNT
    omega
  have requested : besideCounts n (CAN_TX_REQ n) := by
    unfold besideCounts CAN_TX_REQ CAN_ECR CAN_ERR_CNT
    omega
  have cancelled : besideCounts n (CAN_TX_CANCEL n) := by
    unfold besideCounts CAN_TX_CANCEL CAN_ECR CAN_ERR_CNT
    omega
  exact (h.wr _ _ _ requested).trans ((h.wr _ _ _ pending).trans ((h.wr _ _ _ cancelled).trans (h.setCan _ d rfl)))
theorem endBuffer (p : CanPend) (status : Nat) (sof : LTime) (st : Nat) (d : Dev) : g (Dev.endBuffer n p status sof st d) = g d := by
  have sent : besideCounts n (CAN_TX_SENT n) := by
    unfold besideCounts CAN_TX_SENT CAN_ECR CAN_ERR_CNT
    omega
  unfold Dev.endBuffer
  extract_lets o d1 d2 d3 d4
  have logged : g d2 = g d1 := when_keep g _ _ (fun e => h.txEvent _ e) d1
  have shown : g d3 = g d2 := when_keep g _ _ (fun e => h.wr _ _ e sent) d2
  have told : g d4 = g d3 := when_keep g _ _ (fun e => h.post _ _ _ e) d3
  exact (h.completeOpt _ _ _ _ d4).trans (told.trans (shown.trans (logged.trans (h.unpend _ d))))
theorem canStopped (d : Dev) : g (Dev.canStopped n d) = g d := by
  have state : besideCounts n (CAN_STATUS n) := by
    unfold besideCounts CAN_STATUS CAN_ECR CAN_ERR_CNT
    omega
  unfold Dev.canStopped
  extract_lets ps ref d1 src d2
  have ended : g d1 = g d := by
    refine forEach_keep g _ (fun p e => ?_) _ d
    exact h.endBuffer p _ _ _ e
  have stopped : g d2 = g d1 := (h.wr _ _ _ state).trans (h.setCan _ d1 rfl)
  exact (h.completeOpt _ _ _ _ _).trans ((h.emit _ d2).trans (stopped.trans ended))
theorem canFrameEnd (d : Dev) : g (Dev.canFrameEnd n d) = g d := by
  unfold Dev.canFrameEnd
  split
  · exact h.canStopped d
  · rfl

end CountBlind

theorem canCh_setCan (n : Nat) (c : CanCh) (d : Dev) : (d.setCan n c).canCh n = c := smGet_smSet_same _ _ _ _
theorem countBlind_tec (n : Nat) : CountBlind n (fun d => (d.canCh n).tec) where
  wr := fun _ _ _ _ => rfl
  hif := fun _ _ => rfl
  emit := fun _ _ => rfl
  draw := fun _ => rfl
  setCan := fun c d h => by rw [canCh_setCan, h]
theorem countBlind_ecr (n : Nat) : CountBlind n (fun d => d.rd (CAN_ECR n)) where
  wr := fun _ _ _ h => Dev.rd_wr_other _ _ _ _ h.1.symm
  hif := fun _ _ => rfl
  emit := fun _ _ => rfl
  draw := fun _ => rfl
  setCan := fun _ _ _ => rfl
theorem countBlind_errors (n : Nat) : CountBlind n (fun d => d.rd (CAN_ERR_CNT n)) where
  wr := fun _ _ _ h => Dev.rd_wr_other _ _ _ _ h.2.symm
  hif := fun _ _ => rfl
  emit := fun _ _ => rfl
  draw := fun _ => rfl
  setCan := fun _ _ _ => rfl

/-! ## The error counters (R479) -/

section
variable (n tec rec : Nat) (d : Dev)

/-- Both counts, in the channel and its register. -/
def Dev.countsSet : Dev :=
  (((d.setCan n { d.canCh n with tec := tec }).set (CAN_ECR.TEC n) (min 255 tec)).set (CAN_ECR.REC n) (min 127 rec)).set (CAN_ECR.RP n) (flag (decide (127 < rec)))
/-- The error state that follows from the counts. -/
def errStateFor (st0 : Nat) : Nat := if st0 = 2 || 255 < tec then 2 else if 127 < tec || 127 < rec then 1 else 0
/-- The counts with the warning and the error state that follow from them. -/
def Dev.countsShown : Dev :=
  let data := leBytes 1 (min 255 tec) ++ leBytes 1 (min 127 rec)
  let e := (d.countsSet n tec rec).set (CAN_STATUS.WARNING n) (flag (decide (96 ≤ tec) || decide (96 ≤ rec)))
  let e := e.when (((d.canCh n).tec < 96 && 96 ≤ tec) || (d.canRec n < 96 && 96 ≤ rec)) (Dev.post (0x0D00 + n) 0x0D01 data)
  let st := errStateFor tec rec (d.get (CAN_STATUS.ERR_STATE n))
  (e.set (CAN_STATUS.ERR_STATE n) st).when (st == 1 && d.get (CAN_STATUS.ERR_STATE n) == 0) (Dev.post (0x0D00 + n) 0x0D02 data)
/-- The channel enters bus-off: one-shot frames end. -/
def Dev.enterBusOff : Dev :=
  let oneShot := fun (p : CanPend) => bitAt (d.lrd (CAN_CTRL n)) 6 || bitAt (d.canField n (d.txOff n p.buf + 15) 1) 1
  let ps := (d.canCh n).pend.filter oneShot
  let d := d.forEach ps (fun p d => d.endBuffer n p 1 0 stMEDIA_ERROR)
  let d := d.when (bitAt (d.lrd (CAN_CTRL n)) 5) (Dev.set (CAN_STATUS.RECOVERING n) 1)
  d.post (0x0D00 + n) 0x0D03 (leBytes 2 (d.canCh n).pend.length)
theorem canCounters_eq : d.canCounters n tec rec =
    if errStateFor tec rec (d.get (CAN_STATUS.ERR_STATE n)) = 2 && d.get (CAN_STATUS.ERR_STATE n) ≠ 2 then (d.countsShown n tec rec).enterBusOff n
    else d.countsShown n tec rec := rfl

variable {n} {β : Type} {g : Dev → β} (h : CountBlind n g)
include h
theorem CountBlind.countsShown : g (d.countsShown n tec rec) = g (d.countsSet n tec rec) := by
  have state : besideCounts n (CAN_STATUS n) := by
    unfold besideCounts CAN_STATUS CAN_ECR CAN_ERR_CNT
    omega
  unfold Dev.countsShown
  extract_lets data e1 e2 st
  have told : g e2 = g e1 := when_keep g _ _ (fun e => h.post _ _ _ e) e1
  exact (when_keep g _ _ (fun e => h.post _ _ _ e) _).trans ((h.wr _ _ _ state).trans (told.trans (h.wr _ _ _ state)))
theorem CountBlind.canCounters : g (d.canCounters n tec rec) = g (d.countsSet n tec rec) := by
  have state : besideCounts n (CAN_STATUS n) := by
    unfold besideCounts CAN_STATUS CAN_ECR CAN_ERR_CNT
    omega
  have off : ∀ e : Dev, g (e.enterBusOff n) = g e := by
    intro e
    unfold Dev.enterBusOff
    extract_lets oneShot ps e1 e2
    have ended : g e1 = g e := by
      refine forEach_keep g _ (fun p e => ?_) _ e
      exact h.endBuffer p _ _ _ e
    exact (h.post _ _ _ e2).trans ((when_keep g _ _ (fun e => h.wr _ _ e state) e1).trans ended)
  rw [canCounters_eq]
  split
  · exact (off _).trans (h.countsShown tec rec d)
  · exact h.countsShown tec rec d
end

section
variable (n tec rec : Nat) (d : Dev)

theorem tec_countsSet : ((d.countsSet n tec rec).canCh n).tec = tec := by
  have channels : (d.countsSet n tec rec).can = (d.setCan n { d.canCh n with tec := tec }).can :=
    (Dev.set_can _ _ _).trans ((Dev.set_can _ _ _).trans (Dev.set_can _ _ _))
  rw [canCh_of_can n channels, canCh_setCan]
theorem errors_countsSet : (d.countsSet n tec rec).rd (CAN_ERR_CNT n) = d.rd (CAN_ERR_CNT n) := by
  have apart : CAN_ERR_CNT n ≠ CAN_ECR n := by
    unfold CAN_ERR_CNT CAN_ECR
    omega
  exact (Dev.rd_set_other _ _ _ _ apart).trans ((Dev.rd_set_other _ _ _ _ apart).trans (Dev.rd_set_other _ _ _ _ apart))
theorem canRec_countsSet : (d.countsSet n tec rec).canRec n = min 128 rec := by
  have passive : (d.countsSet n tec rec).on (CAN_ECR.RP n) = decide (127 < rec) := on_set_flag _ _ _ (by show 15 < 32; decide) rfl
  have count : (d.countsSet n tec rec).get (CAN_ECR.REC n) = min 127 rec := by
    refine (Dev.get_set_other _ _ _ _ (by show 15 < 32; decide) (.inr (.inl (by show 14 < 15; decide)))).trans ?_
    refine (Dev.get_set_same _ _ _ (by show 14 < 32; decide)).trans (Nat.mod_eq_of_lt ?_)
    show min 127 rec < 128
    omega
  unfold Dev.canRec
  rw [passive, count]
  by_cases hr : 127 < rec
  · rw [if_pos (decide_eq_true hr)]
    omega
  · rw [if_neg (by simpa using hr)]
    omega
theorem canRec_of_rd {d e : Dev} (h : d.rd (CAN_ECR n) = e.rd (CAN_ECR n)) : d.canRec n = e.canRec n := by
  unfold Dev.canRec Dev.on
  rw [get_of_rd (CAN_ECR.RP n) h, get_of_rd (CAN_ECR.REC n) h]
end

/-! ## Errors (R479, R480) -/

section
variable (n kind : Nat) (dat tx big ex : Bool) (d : Dev)

/-- An error counted, its kind shown. -/
def Dev.errorCounted : Dev := (d.count32 (CAN_ERR_CNT n) 1).set (if dat then CAN_STATUS.DATA_ERROR n else CAN_STATUS.LAST_ERROR n) kind
/-- Whether ISO 11898-1 leaves a transmitter's error uncounted. -/
def Dev.errorFree : Bool := ex && (kind == 1 || (kind == 3 && d.get (CAN_STATUS.ERR_STATE n) == 1))
/-- The error counters after an error of a running channel. -/
def Dev.errorWeighed : Dev :=
  if tx then (if d.errorFree n kind ex then d else d.canCounters n ((d.canCh n).tec + 8) (d.canRec n))
  else d.canCounters n (d.canCh n).tec (min 128 (d.canRec n + if big then 8 else 1))
theorem canError_fixed (h : d.get (CAN_STATUS.STATE n) = 0 ∨ kind = 0 ∨ d.get (CAN_STATUS.ERR_STATE n) = 2) : d.canError n kind dat tx big ex = d := by
  refine if_pos ?_
  simp only [Bool.or_eq_true, decide_eq_true_eq]
  rcases h with h | h | h <;> simp only [h, true_or, or_true]
section
variable (hk : kind ≠ 0) (h6 : kind ≤ 6) (he : d.get (CAN_STATUS.ERR_STATE n) ≠ 2)
include hk h6 he
theorem canError_detecting (h : d.get (CAN_STATUS.STATE n) = 1) : d.canError n kind dat tx big ex =
    if kind = 3 then d.errorCounted n kind dat else (d.errorCounted n kind dat).autobaudNext n := by
  refine (if_neg ?_).trans (if_pos h)
  simp only [Bool.or_eq_true, decide_eq_true_eq]
  omega
theorem canError_running (h : 2 ≤ d.get (CAN_STATUS.STATE n)) : d.canError n kind dat tx big ex =
    ((d.errorCounted n kind dat).errorWeighed n kind tx big ex).when
      (((d.errorCounted n kind dat).errorWeighed n kind tx big ex).get (CAN_STATUS.ERR_STATE n) == 2) (Dev.canFrameEnd n) := by
  refine (if_neg ?_).trans (if_neg (by omega))
  simp only [Bool.or_eq_true, decide_eq_true_eq]
  omega
end

theorem errState_errorCounted : (d.errorCounted n kind dat).get (CAN_STATUS.ERR_STATE n) = d.get (CAN_STATUS.ERR_STATE n) := by
  have counted : (d.count32 (CAN_ERR_CNT n) 1).get (CAN_STATUS.ERR_STATE n) = d.get (CAN_STATUS.ERR_STATE n) :=
    get_of_rd (CAN_STATUS.ERR_STATE n) (Dev.rd_wr_other _ _ _ _ (by show CAN_STATUS n ≠ CAN_ERR_CNT n; unfold CAN_STATUS CAN_ERR_CNT; omega))
  rw [← counted]
  unfold Dev.errorCounted
  cases dat with
  | true => exact Dev.get_set_other _ _ _ _ (by show 11 < 32; decide) (.inr (.inl (by show 3 < 9; decide)))
  | false => exact Dev.get_set_other _ _ _ _ (by show 8 < 32; decide) (.inr (.inl (by show 3 < 6; decide)))
theorem rd_errorCounted {a : Nat} (h : a ≠ CAN_STATUS n) : (d.errorCounted n kind dat).rd a = (d.count32 (CAN_ERR_CNT n) 1).rd a := by
  unfold Dev.errorCounted
  cases dat with
  | true => exact Dev.rd_set_other _ _ _ _ h
  | false => exact Dev.rd_set_other _ _ _ _ h
theorem errors_errorCounted : (d.errorCounted n kind dat).rd (CAN_ERR_CNT n) = satAdd 32 (d.rd (CAN_ERR_CNT n)) 1 := by
  rw [rd_errorCounted n kind dat d (by unfold CAN_STATUS CAN_ERR_CNT; omega), Dev.count32, Dev.rd_wr_same]
  exact Nat.mod_eq_of_lt (by unfold satAdd; omega)
theorem canRec_errorCounted : (d.errorCounted n kind dat).canRec n = d.canRec n := by
  refine canRec_of_rd n ((rd_errorCounted n kind dat d (by unfold CAN_STATUS CAN_ECR; omega)).trans (Dev.rd_wr_other _ _ _ _ ?_))
  unfold CAN_ECR CAN_ERR_CNT
  omega
theorem tec_errorCounted : ((d.errorCounted n kind dat).canCh n).tec = (d.canCh n).tec := by
  have channels : (d.errorCounted n kind dat).can = d.can := (Dev.set_can _ _ _).trans (Dev.count32_can _ _ _)
  rw [canCh_of_can n channels]

/-- What an error of a running channel leaves of anything that only its counts bear on. -/
theorem CountBlind.canError {n : Nat} {β : Type} {g : Dev → β} (h : CountBlind n g) (hk : kind ≠ 0) (h6 : kind ≤ 6)
    (he : d.get (CAN_STATUS.ERR_STATE n) ≠ 2) (hs : 2 ≤ d.get (CAN_STATUS.STATE n)) :
    g (d.canError n kind dat tx big ex) = g ((d.errorCounted n kind dat).errorWeighed n kind tx big ex) := by
  rw [canError_running n kind dat tx big ex d hk h6 he hs]
  exact when_keep g _ _ h.canFrameEnd _
theorem errorWeighed_free (htx : tx = true) (hf : d.errorFree n kind ex = true) : d.errorWeighed n kind tx big ex = d := (if_pos htx).trans (if_pos hf)
theorem errorWeighed_transmitter (htx : tx = true) (hf : d.errorFree n kind ex = false) :
    d.errorWeighed n kind tx big ex = d.canCounters n ((d.canCh n).tec + 8) (d.canRec n) :=
  (if_pos htx).trans (if_neg (by rw [hf]; exact Bool.false_ne_true))
theorem errorWeighed_receiver (htx : tx = false) :
    d.errorWeighed n kind tx big ex = d.canCounters n (d.canCh n).tec (min 128 (d.canRec n + if big then 8 else 1)) :=
  if_neg (by rw [htx]; exact Bool.false_ne_true)
end

/-! ## Recovery from bus-off (R479) -/

section
variable (n : Nat) (d : Dev)

theorem busRecovered_fixed (h : d.get (CAN_STATUS.ERR_STATE n) ≠ 2 ∨ d.on (CAN_STATUS.RECOVERING n) = false) : d.busRecovered n = d :=
  if_pos (by simpa using h)
/-- The channel leaves bus-off. -/
def Dev.leavesBusOff : Dev := (d.set (CAN_STATUS.ERR_STATE n) 0).set (CAN_STATUS.RECOVERING n) 0
theorem errState_leavesBusOff : (d.leavesBusOff n).get (CAN_STATUS.ERR_STATE n) = 0 :=
  (Dev.get_set_other _ _ _ _ (by show 5 < 32; decide) (.inr (.inl (by show 3 < 5; decide)))).trans
    (Dev.get_set_same (CAN_STATUS.ERR_STATE n) 0 d (by show 3 < 32; decide))
theorem recovering_leavesBusOff : (d.leavesBusOff n).on (CAN_STATUS.RECOVERING n) = false :=
  on_set_flag (CAN_STATUS.RECOVERING n) false _ (by show 5 < 32; decide) rfl
theorem canCounters_cleared (h : d.get (CAN_STATUS.ERR_STATE n) = 0) : d.canCounters n 0 0 = d.countsShown n 0 0 := by
  rw [canCounters_eq, h]
  exact if_neg (by decide)
theorem busRecovered_leaves (he : d.get (CAN_STATUS.ERR_STATE n) = 2) (h : d.on (CAN_STATUS.RECOVERING n) = true) : d.busRecovered n =
    ((d.leavesBusOff n).countsShown n 0 0).post (0x0D00 + n) 0x0D04 [] := by
  rw [← canCounters_cleared n _ (errState_leavesBusOff n d)]
  exact if_neg (by rw [he, h]; decide)
end

section
variable (n tec rec : Nat) (d : Dev)

theorem get_whenPost (f : Fld) (b : Bool) (src code : Nat) (bs : List Byte) (e : Dev) : (e.when b (Dev.post src code bs)).get f = e.get f :=
  when_keep (fun d => d.get f) b (Dev.post src code bs) (fun _ => rfl) e
theorem errState_countsShown : (d.countsShown n tec rec).get (CAN_STATUS.ERR_STATE n) = errStateFor tec rec (d.get (CAN_STATUS.ERR_STATE n)) := by
  have small : errStateFor tec rec (d.get (CAN_STATUS.ERR_STATE n)) < 2 ^ (3 + 1 - 2) := by
    unfold errStateFor
    split_ifs <;> decide
  unfold Dev.countsShown
  extract_lets data e1 e2 st
  rw [get_whenPost]
  exact (Dev.get_set_same _ _ _ (by show 3 < 32; decide)).trans (Nat.mod_eq_of_lt small)
theorem recovering_countsShown : (d.countsShown n tec rec).on (CAN_STATUS.RECOVERING n) = d.on (CAN_STATUS.RECOVERING n) := by
  have apart : CAN_STATUS n ≠ CAN_ECR n := by
    unfold CAN_STATUS CAN_ECR
    omega
  have counts : (d.countsSet n tec rec).get (CAN_STATUS.RECOVERING n) = d.get (CAN_STATUS.RECOVERING n) :=
    (Dev.get_set_other _ _ _ _ (by show 15 < 32; decide) (.inl apart)).trans ((Dev.get_set_other _ _ _ _ (by show 14 < 32; decide) (.inl apart)).trans
      (Dev.get_set_other _ _ _ _ (by show 7 < 32; decide) (.inl apart)))
  unfold Dev.countsShown
  extract_lets data e1 e2 st
  have warned : e1.get (CAN_STATUS.RECOVERING n) = d.get (CAN_STATUS.RECOVERING n) :=
    (Dev.get_set_other _ _ _ _ (by show 4 < 32; decide) (.inr (.inr (by show 4 < 5; decide)))).trans counts
  have told : e2.get (CAN_STATUS.RECOVERING n) = e1.get (CAN_STATUS.RECOVERING n) := get_whenPost _ _ _ _ _ e1
  rw [Dev.on, get_whenPost, Dev.get_set_other _ _ _ _ (by show 3 < 32; decide) (.inr (.inr (by show 3 < 5; decide))), told, warned, Dev.on]
end

end Sys2Proof.Machine
end

section
/-! PROOFS. CAN channels receive, acknowledge, lock mailboxes and send heartbeats (R462, R466 to R474, R478), and O52. -/
namespace Sys2Proof.Machine

/-! ## Received frames (R462, R480) -/

section
variable (n id dlc sof : Nat) (x : List Byte) (ack exc : Bool) (d : Dev)

theorem canReceive_silent (h : d.get (CAN_STATUS.STATE n) = 0 ∨ d.get (CAN_STATUS.ERR_STATE n) = 2 ∨ d.canLoop n = 4) : d.canReceive n id dlc sof x ack exc = d :=
  if_pos (by simpa [or_assoc] using h)
section
variable (hs : d.get (CAN_STATUS.STATE n) ≠ 0) (he : d.get (CAN_STATUS.ERR_STATE n) ≠ 2) (hl : d.canLoop n ≠ 4)
include hs he hl
theorem canReceive_exception : d.canReceive n id dlc sof x ack true =
    ((d.set (CAN_STATUS.PROTOCOL_EXC n) 1).post (0x0D00 + n) 0x0D09 []).canFrameEnd n := (if_neg (by simp [hs, he, hl])).trans (if_pos rfl)
theorem canReceive_whole : d.canReceive n id dlc sof x ack false = if d.get (CAN_STATUS.STATE n) = 1 then
      match (d.canCh n).auto with
      | some a => if !ack then d else if a.good + 1 = 2 then
            (d.setCan n { d.canCh n with auto := some { a with good := a.good + 1, verified := a.verified || bitAt dlc 5 } }).autobaudDone n (some a.idx)
          else d.setCan n { d.canCh n with auto := some { a with good := a.good + 1, verified := a.verified || bitAt dlc 5 } }
      | none => d
    else ((d.canGoodRx n).canStore n id dlc sof (padTo (frameLen id dlc) x)).canFrameEnd n :=
  (if_neg (by simp [hs, he, hl])).trans (if_neg Bool.false_ne_true)
end

/-! ## Filtering and storing (R469 to R473) -/

/-- PDUs go to their connections. -/
def Dev.pdusHanded (data : List Byte) : Dev := if bitAt id 30 then d else
  d.forEach (d.usedConns.filter (fun c => fieldAt (connEntry d.safSet c) 4 1 == 3 && fieldAt (connEntry d.safSet c) 11 1 == n &&
    fieldAt (connEntry d.safSet c) 12 4 % 2 ^ 30 == id % 2 ^ 30)) (fun c d => d.pduReceived c data)
/-- The first mailbox that fits an identifier. -/
def Dev.mailboxFor : Option Nat := (List.range (d.lget (CAN_RAM_MBX.COUNT n))).find? (fun m =>
  bitAt (d.canField n (d.mbxOff n m) 4) 31 && d.canField n (d.mbxOff n m) 4 % 2 ^ 30 == id % 2 ^ 30)
/-- The bytes of a rule. -/
def Dev.ruleBytes (i : Nat) : List Byte := d.canBytes n (d.lget (CAN_RAM_RULES.START n) + 12 * i) 12
/-- The first rule that matches an identifier. -/
def Dev.ruleFor : Option Nat := (List.range (d.lget (CAN_RAM_RULES.COUNT n))).find? (fun i => canMatches id (d.ruleBytes n i))
/-- A frame in mailbox mode. -/
def Dev.storedInMailbox (data : List Byte) : Dev := match d.mailboxFor n id with
  | some m => d.mbxStore n m (canElement id dlc m sof data)
  | none => d.count32 (CAN_MBX_NOMATCH_CNT n) 1
/-- A frame that the rules decide; without a match NONMATCH does. -/
def Dev.storedByRules (ctrl : Nat) (data : List Byte) : Dev := match d.ruleFor n id with
  | some i => d.canByRule n i (fieldAt (d.ruleBytes n i) 8 1 % 8) (bitAt (fieldAt (d.ruleBytes n i) 8 1) 3) id dlc sof data
  | none => match bitsOf ctrl 9 8 with
    | 0 => d.rxPush n 0 (canElement id dlc 0xFF sof data)
    | 1 => d.rxPush n 1 (canElement id dlc 0xFF sof data)
    | _ => d
theorem canStore_eq (data : List Byte) : d.canStore n id dlc sof data =
    if bitAt (d.lrd (CAN_CTRL n)) 2 then
      if bitAt (d.lrd (CAN_CTRL n)) 10 && bitAt id 30 then d.pdusHanded n id data else (d.pdusHanded n id data).storedInMailbox n id dlc sof data
    else if (d.pdusHanded n id data).ha 3 then (d.pdusHanded n id data).rxPush n 0 (canElement id dlc 0xFE sof data)
    else if bitAt (d.lrd (CAN_CTRL n)) 10 && bitAt id 30 then d.pdusHanded n id data
    else (d.pdusHanded n id data).storedByRules n id dlc sof (d.lrd (CAN_CTRL n)) data := rfl
theorem storedInMailbox_fits (data : List Byte) {m : Nat} (h : d.mailboxFor n id = some m) :
    d.storedInMailbox n id dlc sof data = d.mbxStore n m (canElement id dlc m sof data) := by
  unfold Dev.storedInMailbox
  rw [h]
theorem storedInMailbox_none (data : List Byte) (h : d.mailboxFor n id = none) :
    d.storedInMailbox n id dlc sof data = d.count32 (CAN_MBX_NOMATCH_CNT n) 1 := by
  unfold Dev.storedInMailbox
  rw [h]
theorem storedByRules_nonmatch (ctrl : Nat) (data : List Byte) (h : d.ruleFor n id = none) : d.storedByRules n id dlc sof ctrl data =
    if bitsOf ctrl 9 8 = 0 then d.rxPush n 0 (canElement id dlc 0xFF sof data)
    else if bitsOf ctrl 9 8 = 1 then d.rxPush n 1 (canElement id dlc 0xFF sof data) else d := by
  unfold Dev.storedByRules
  rw [h]
  dsimp only
  split
  · next h0 => rw [if_pos h0]
  · next h1 => rw [if_neg (by omega), if_pos h1]
  · next h0 h1 => rw [if_neg h0, if_neg h1]
theorem storedByRules_match (ctrl : Nat) (data : List Byte) {i : Nat} (h : d.ruleFor n id = some i) : d.storedByRules n id dlc sof ctrl data =
    d.canByRule n i (fieldAt (d.ruleBytes n i) 8 1 % 8) (bitAt (fieldAt (d.ruleBytes n i) 8 1) 3) id dlc sof data := by
  unfold Dev.storedByRules
  rw [h]
/-- A rule that matches has one of the destinations 0 to 4. -/
theorem dest_of_ruleFor {i : Nat} (h : d.ruleFor n id = some i) : fieldAt (d.ruleBytes n i) 8 1 % 8 ≤ 4 := by
  have fits := List.find?_some h
  unfold canMatches at fits
  simp only [Bool.and_eq_true, decide_eq_true_eq] at fits
  obtain ⟨⟨-, hd⟩, -⟩ := fits
  exact hd
theorem rd_setCan (n : Nat) (c : CanCh) (d : Dev) (a : Nat) : (d.setCan n c).rd a = d.rd a := rfl
theorem rd_rxPush (k a : Nat) (elem : List Byte) (ha : a < CAN_CTRL 0) : (d.rxPush n k elem).rd a = d.rd a := by
  have below : a < 0xd0000 := ha
  have status : a ≠ CAN_RX_STATUS n k := by
    unfold CAN_RX_STATUS
    omega
  have lost : a ≠ CAN_RX_OVF_CNT n k := by
    unfold CAN_RX_OVF_CNT
    omega
  unfold Dev.rxPush
  extract_lets r size fill c m put
  split
  · exact (rd_setCan _ _ _ _).trans ((Dev.rd_wr_other _ _ _ _ lost).trans (Dev.rd_wr_other _ _ _ _ status))
  · exact (Dev.rd_wr_other _ _ _ _ status).trans ((Dev.rd_wr_other _ _ _ _ status).trans (rd_setCan _ _ d _))
/-- Where a rule of destination `dest` puts a frame. -/
def Dev.pushedByRule (i dest : Nat) (data : List Byte) : Dev := if dest = 2 then d else d.rxPush n (dest % 3 % 2) (canElement id dlc i sof data)
theorem pushedByRule_fifo (i dest : Nat) (data : List Byte) (h : dest ≤ 4) : d.pushedByRule n id dlc sof i dest data =
    if dest = 2 then d else d.rxPush n (if dest = 1 ∨ dest = 4 then 1 else 0) (canElement id dlc i sof data) := by
  have fifo : dest ≠ 2 → dest % 3 % 2 = if dest = 1 ∨ dest = 4 then 1 else 0 := by
    intro h2
    split <;> omega
  unfold Dev.pushedByRule
  split
  · rfl
  · next h2 => rw [fifo h2]
/-- A frame that is no law sample and does not wake the part goes to its FIFO alone. -/
theorem canByRule_plain (i dest : Nat) (wake : Bool) (data : List Byte) (hd : dest ≤ 4)
    (hs : dest < 3 ∨ data.length < 12 ∨ d.permit = false ∨ d.sync = false) (hw : wake = false ∨ dest = 2) :
    d.canByRule n i dest wake id dlc sof data = d.pushedByRule n id dlc sof i dest data := by
  have asleep : (wake && dest != 2) = false := by
    rcases hw with h | h <;> simp [h]
  have mode : (d.pushedByRule n id dlc sof i dest data).rd SYS_MODE = d.rd SYS_MODE := by
    unfold Dev.pushedByRule
    split
    · rfl
    · exact rd_rxPush n d _ _ _ (by decide)
  have sync := sync_of_rd mode
  have permit : (d.pushedByRule n id dlc sof i dest data).permit = d.permit := by
    unfold Dev.permit Dev.on
    rw [get_of_rd SYS_MODE.PERMIT mode]
  refine (congrArg (fun e : Dev => if (dest = 3 || dest = 4) && 12 ≤ data.length && e.permit && e.sync then _ else e) (when_off asleep _ _)).trans (if_neg ?_)
  show ¬ ((decide (dest = 3) || decide (dest = 4)) && decide (12 ≤ data.length) && (d.pushedByRule n id dlc sof i dest data).permit &&
    (d.pushedByRule n id dlc sof i dest data).sync) = true
  rw [sync, permit]
  simp only [Bool.and_eq_true, Bool.or_eq_true, decide_eq_true_eq]
  rintro ⟨⟨⟨h3, h12⟩, hp⟩, hy⟩
  rcases hs with h | h | h | h
  · omega
  · omega
  · exact Bool.false_ne_true (h.symm.trans hp)
  · exact Bool.false_ne_true (h.symm.trans hy)
end

/-! ## Heartbeats (R478) and acknowledged indices (R467) -/

section
variable (n : Nat) (d : Dev)

/-- The heartbeat counter rises. -/
def Dev.beatCounted : Dev := d.setCan n { d.canCh n with beat := ((d.canCh n).beat + 1) % 65536 }
theorem canHeartbeat_off (h : d.mode < 4 ∨ bitAt (d.lrd (CAN_HB_ID n)) 31 = false) : d.canHeartbeat n = d := if_pos (by simpa using h)
section
variable (hm : 4 ≤ d.mode) (he : bitAt (d.lrd (CAN_HB_ID n)) 31 = true)
include hm he
theorem canHeartbeat_silent (h : (d.beatCounted n).get (CAN_STATUS.STATE n) ≠ 2 ∨ (d.beatCounted n).txCount n ≤ 4) : d.canHeartbeat n = d.beatCounted n := by
  have quiet : (decide ((d.beatCounted n).get (CAN_STATUS.STATE n) ≠ 2) || decide ((d.beatCounted n).txCount n ≤ 4)) = true := by simpa using h
  exact (if_neg (by simp [he]; omega)).trans (if_pos quiet)
theorem canHeartbeat_sends (hs : (d.beatCounted n).get (CAN_STATUS.STATE n) = 2) (hc : 4 < (d.beatCounted n).txCount n) : d.canHeartbeat n =
    ((d.beatCounted n).fillBuffer n 4 (d.lrd (CAN_HB_ID n) % 2 ^ 30) (4 + 16 * flag (bitAt (d.lrd (CAN_HB_ID n)) 30)) 0 0 0 0
      (leBytes 1 (d.beatCounted n).mode ++ leBytes 1 (flag (d.beatCounted n).permit + 2 * flag ((d.beatCounted n).mode == 9)) ++
        leBytes 2 (((d.canCh n).beat + 1) % 65536))).pendBuffer n
      ⟨4, (match (d.beatCounted n).canPending n 4 with | some q => q.since | none => some (d.beatCounted n).now), 0, false, 0, false, none⟩ := by
  have sends : ¬ (decide ((d.beatCounted n).get (CAN_STATUS.STATE n) ≠ 2) || decide ((d.beatCounted n).txCount n ≤ 4)) = true := by
    simp only [Bool.or_eq_true, decide_eq_true_eq]
    omega
  exact (if_neg (by simp [he]; omega)).trans (if_neg sends)
end

theorem ackFifo_none {size fill get idx : Nat} (h : size ≤ idx ∨ fill < (idx + size - get) % size + 1) : ackFifo size fill get idx = none := by
  unfold ackFifo
  split
  · rfl
  · next hi => exact if_neg (by omega)
theorem ackFifo_some {size fill get idx : Nat} (h : idx < size) (hf : (idx + size - get) % size + 1 ≤ fill) :
    ackFifo size fill get idx = some ((idx + 1) % size, fill - ((idx + size - get) % size + 1)) :=
  (if_neg (Nat.not_le.mpr h)).trans (if_pos hf)

section
variable {size fill get : Nat} (idx : Nat)
theorem canRxAck_none (k : Nat) (hs : bitsOf (d.lrd (if k = 0 then CAN_RAM_RX0 n else CAN_RAM_RX1 n)) 23 16 = size)
    (hf : d.get (CAN_RX_STATUS.FILL n k) = fill) (hg : d.get (CAN_RX_STATUS.GET n k) = get)
    (h : size ≤ idx ∨ fill < (idx + size - get) % size + 1) : d.canRxAck n k idx = d := by
  unfold Dev.canRxAck
  rw [hs, hf, hg, ackFifo_none h]
theorem canRxAck_some (k : Nat) (hs : bitsOf (d.lrd (if k = 0 then CAN_RAM_RX0 n else CAN_RAM_RX1 n)) 23 16 = size)
    (hf : d.get (CAN_RX_STATUS.FILL n k) = fill) (hg : d.get (CAN_RX_STATUS.GET n k) = get)
    (hi : idx < size) (hk : (idx + size - get) % size + 1 ≤ fill) : d.canRxAck n k idx =
    (d.set (CAN_RX_STATUS.GET n k) ((idx + 1) % size)).set (CAN_RX_STATUS.FILL n k) (fill - ((idx + size - get) % size + 1)) := by
  unfold Dev.canRxAck
  rw [hs, hf, hg, ackFifo_some hi hk]
variable (hs : d.lget (CAN_RAM_TXE.COUNT n) = size) (hf : d.get (CAN_TXE_STATUS.FILL n) = fill) (hg : d.get (CAN_TXE_STATUS.GET n) = get)
include hs hf hg
theorem canTxeAck_none (h : size ≤ idx ∨ fill < (idx + size - get) % size + 1) : d.canTxeAck n idx = d := by
  unfold Dev.canTxeAck
  rw [hs, hf, hg, ackFifo_none h]
theorem canTxeAck_some (hi : idx < size) (hk : (idx + size - get) % size + 1 ≤ fill) : d.canTxeAck n idx =
    (d.set (CAN_TXE_STATUS.GET n) ((idx + 1) % size)).set (CAN_TXE_STATUS.FILL n) (fill - ((idx + size - get) % size + 1)) := by
  unfold Dev.canTxeAck
  rw [hs, hf, hg, ackFifo_some hi hk]
end

/-! ## The message RAM (R465) -/

variable (m : SMap Byte) (bs : List Byte) (o : Nat)

theorem ramPut_apart (a : Nat) (h : ∀ j < bs.length, (o + j) % 16384 ≠ a) : smGet (fun _ => (0 : Byte)) (ramPut bs o m) a = smGet (fun _ => (0 : Byte)) m a := by
  induction bs generalizing o m with
  | nil => rfl
  | cons b bs ih =>
    have first : o % 16384 ≠ a := h 0 (Nat.succ_pos _)
    rw [ramPut, ih _ _ (fun j hj => ?_), smGet_smSet_other _ _ _ _ _ first.symm]
    rw [Nat.add_assoc, Nat.add_comm 1 j]
    exact h (j + 1) (Nat.succ_lt_succ hj)
theorem ramPut_own (hb : bs.length ≤ 16384) (i : Nat) (hi : i < bs.length) :
    smGet (fun _ => (0 : Byte)) (ramPut bs o m) ((o + i) % 16384) = bs[i] := by
  induction bs generalizing o m i with
  | nil => exact absurd hi (Nat.not_lt_zero i)
  | cons b bs ih =>
    have short : bs.length < 16384 := hb
    cases i with
    | zero =>
      rw [ramPut, ramPut_apart _ _ _ _ (fun j hj => by omega), Nat.add_zero, smGet_smSet_same]
      rfl
    | succ i =>
      have next : o + (i + 1) = o + 1 + i := by omega
      rw [ramPut, next, ih _ _ (Nat.le_of_lt short) i (Nat.lt_of_succ_lt_succ hi)]
      rfl
theorem ram_canPut : ((d.canPut n o bs).canCh n).ram = ramPut bs o (d.canCh n).ram := by rw [Dev.canPut, canCh_setCan]
/-- Bytes written are the bytes read. -/
theorem canBytes_canPut (hb : bs.length ≤ 16384) : (d.canPut n o bs).canBytes n o bs.length = bs := by
  refine List.ext_getElem (by simp [Dev.canBytes]) (fun i h1 h2 => ?_)
  simp only [Dev.canBytes, List.getElem_map, List.getElem_range, ram_canPut]
  exact ramPut_own _ _ _ hb i h2
theorem canField_canPut (v : Nat) : (d.canPut n o (leBytes 4 v)).canField n o 4 = v % 2 ^ 32 := by
  have stored := canBytes_canPut n d (leBytes 4 v) o (by simp)
  rw [leBytes_length] at stored
  rw [Dev.canField, stored, leNat_leBytes]

end

/-! ## Mailboxes and their lock (R473, R474) -/

section
variable (n m : Nat) (clear : Bool) (d : Dev)

theorem mbxOff_of_live {d e : Dev} (h : d.live = e.live) : d.mbxOff n m = e.mbxOff n m := by
  unfold Dev.mbxOff Dev.lget Dev.lrd Dev.liveWord
  rw [h]
/-- The status of a mailbox. -/
def Dev.mbxStatus : Nat := d.canField n (d.mbxOff n m + 4) 4
theorem mbxStatus_lt : d.mbxStatus n m < 2 ^ 32 := canField_lt n _ 4 d

/-- A mailbox whose lock is released and whose held frame is taken away. -/
def Dev.mbxFreed : Dev :=
  let e := (d.canPut n (d.mbxOff n m + 4) (leBytes 4 (withBits (if clear then withBits (d.mbxStatus n m) 1 0 0 else d.mbxStatus n m) 2 2 0))).set
    (CAN_MBX_LOCK.LOCKED n) 0
  e.setCan n { e.canCh n with held := none }
theorem mbxRelease_free (h : d.mbxLocked n = none) : d.mbxRelease n clear = d := by
  unfold Dev.mbxRelease
  rw [h]
theorem mbxRelease_locked (h : d.mbxLocked n = some m) : d.mbxRelease n clear = match (d.canCh n).held with
    | some e => (d.mbxFreed n m clear).mbxWrite n m e
    | none => d.mbxFreed n m clear := by
  have held : (((d.canPut n (d.mbxOff n m + 4) (leBytes 4 (withBits (if clear then withBits (d.mbxStatus n m) 1 0 0 else d.mbxStatus n m) 2 2 0))).set
      (CAN_MBX_LOCK.LOCKED n) 0).canCh n).held = (d.canCh n).held := by
    rw [canCh_of_can n (Dev.set_can _ _ _), Dev.canPut, canCh_setCan]
  unfold Dev.mbxRelease
  rw [h]
  dsimp only
  unfold Dev.mbxStatus at held
  rw [held]
  rfl
theorem mbxRelease_noFrame (h : d.mbxLocked n = some m) (hh : (d.canCh n).held = none) : d.mbxRelease n clear = d.mbxFreed n m clear := by
  rw [mbxRelease_locked n m clear d h, hh]
theorem mbxRelease_frame (h : d.mbxLocked n = some m) {e : List Byte} (hh : (d.canCh n).held = some e) :
    d.mbxRelease n clear = (d.mbxFreed n m clear).mbxWrite n m e := by
  rw [mbxRelease_locked n m clear d h, hh]

theorem out_mbxFreed : (d.mbxFreed n m clear).out = d.out := Dev.set_out (CAN_MBX_LOCK.LOCKED n) 0 _
theorem live_mbxFreed : (d.mbxFreed n m clear).live = d.live := Dev.set_live (CAN_MBX_LOCK.LOCKED n) 0 _
theorem held_mbxFreed : ((d.mbxFreed n m clear).canCh n).held = none := by
  unfold Dev.mbxFreed
  rw [canCh_setCan]
theorem locked_mbxFreed : (d.mbxFreed n m clear).mbxLocked n = none := by
  have open_ : (d.mbxFreed n m clear).on (CAN_MBX_LOCK.LOCKED n) = false := on_set_flag (CAN_MBX_LOCK.LOCKED n) false _ (by show 6 < 32; decide) rfl
  unfold Dev.mbxLocked
  rw [open_]
  rfl
theorem ram_mbxFreed : ((d.mbxFreed n m clear).canCh n).ram =
    ((d.canPut n (d.mbxOff n m + 4) (leBytes 4 (withBits (if clear then withBits (d.mbxStatus n m) 1 0 0 else d.mbxStatus n m) 2 2 0))).canCh n).ram := by
  unfold Dev.mbxFreed
  rw [canCh_setCan, canCh_of_can n (Dev.set_can _ _ _)]
theorem canField_of_ram {d e : Dev} (h : (d.canCh n).ram = (e.canCh n).ram) (o k : Nat) : d.canField n o k = e.canField n o k := by
  unfold Dev.canField Dev.canBytes
  rw [h]
theorem status_mbxFreed : (d.mbxFreed n m true).mbxStatus n m = withBits (withBits (d.mbxStatus n m) 1 0 0) 2 2 0 := by
  have word : withBits (withBits (d.mbxStatus n m) 1 0 0) 2 2 0 < 2 ^ 32 :=
    withBits_lt _ _ _ _ _ (withBits_lt _ _ _ _ _ (mbxStatus_lt n m d) (by decide)) (by decide)
  conv_lhs => unfold Dev.mbxStatus
  rw [mbxOff_of_live n m (live_mbxFreed n m true d), canField_of_ram n (ram_mbxFreed n m true d), canField_canPut, Nat.mod_eq_of_lt (by simpa using word)]
  simp

/-- A frame is written to a mailbox's element. -/
def Dev.mbxFilled (elem : List Byte) : Dev := (d.canPut n (d.mbxOff n m + 16) elem).canPut n (d.mbxOff n m + 4)
  (leBytes 4 (withBits (d.mbxStatus n m) 1 0 (1 + 2 * flag (bitAt (d.mbxStatus n m) 0 || bitAt (d.mbxStatus n m) 1))))
theorem mbxWrite_eq (elem : List Byte) : d.mbxWrite n m elem = (d.mbxFilled n m elem).when (bitAt (d.mbxStatus n m) 0)
    (fun d => (d.count32 (CAN_MBX_LOST_CNT n) 1).post (0x0D00 + n) 0x0D07 (leBytes 1 m)) := rfl
theorem mbxWrite_keep {β : Type} (g : Dev → β) (hl : ∀ v e, g (Dev.wr (CAN_MBX_LOST_CNT n) v e) = g e)
    (hp : ∀ x y bs e, g (Dev.post x y bs e) = g e) (elem : List Byte) : g (d.mbxWrite n m elem) = g (d.mbxFilled n m elem) := by
  rw [mbxWrite_eq]
  exact when_keep g _ _ (fun e => (hp _ _ _ _).trans (hl _ e)) _
theorem out_mbxWrite (elem : List Byte) : (d.mbxWrite n m elem).out = d.out := mbxWrite_keep n m d Dev.out (fun _ _ => rfl) (fun _ _ _ _ => rfl) elem
theorem can_mbxWrite (elem : List Byte) : (d.mbxWrite n m elem).can = (d.mbxFilled n m elem).can :=
  mbxWrite_keep n m d Dev.can (fun _ _ => rfl) (fun _ _ _ _ => rfl) elem
theorem live_mbxWrite (elem : List Byte) : (d.mbxWrite n m elem).live = d.live := mbxWrite_keep n m d Dev.live (fun _ _ => rfl) (fun _ _ _ _ => rfl) elem
theorem locked_mbxWrite (elem : List Byte) : (d.mbxWrite n m elem).mbxLocked n = d.mbxLocked n := by
  have apart : CAN_MBX_LOCK n ≠ CAN_MBX_LOST_CNT n := by
    unfold CAN_MBX_LOCK CAN_MBX_LOST_CNT
    omega
  have lock : (d.mbxWrite n m elem).rd (CAN_MBX_LOCK n) = d.rd (CAN_MBX_LOCK n) :=
    mbxWrite_keep n m d (fun d => d.rd (CAN_MBX_LOCK n)) (fun _ _ => Dev.rd_wr_other _ _ _ _ apart) (fun _ _ _ _ => rfl) elem
  unfold Dev.mbxLocked Dev.on
  rw [get_of_rd (CAN_MBX_LOCK.LOCKED n) lock, get_of_rd (CAN_MBX_LOCK.MAILBOX n) lock]
theorem held_mbxWrite (elem : List Byte) : ((d.mbxWrite n m elem).canCh n).held = (d.canCh n).held := by
  rw [canCh_of_can n (can_mbxWrite n m d elem), Dev.mbxFilled, Dev.canPut, canCh_setCan, Dev.canPut, canCh_setCan]
/-- A frame written to a mailbox is new there. -/
theorem new_mbxWrite (elem : List Byte) : bitAt ((d.mbxWrite n m elem).mbxStatus n m) 0 = true := by
  have word : ∀ x, withBits (d.mbxStatus n m) 1 0 x < 2 ^ 32 := fun x => withBits_lt _ _ _ _ _ (mbxStatus_lt n m d) (by decide)
  have low : ∀ (w : Nat) (b : Bool), bitAt (withBits w 1 0 (1 + 2 * flag b)) 0 = true := by
    intro w b
    have two := bitsOf_withBits w 1 0 (1 + 2 * flag b)
    cases b <;> (simp [bitsOf, flag, bitAt] at two ⊢; omega)
  unfold Dev.mbxStatus
  rw [mbxOff_of_live n m (live_mbxWrite n m d elem), canField_of_can n (can_mbxWrite n m d elem)]
  rw [Dev.mbxFilled, canField_canPut, Nat.mod_eq_of_lt (word _)]
  exact low _ _

theorem out_mbxRelease : (d.mbxRelease n clear).out = d.out := by
  cases h : d.mbxLocked n with
  | none => rw [mbxRelease_free n clear d h]
  | some k =>
    cases hh : (d.canCh n).held with
    | none => rw [mbxRelease_noFrame n k clear d h hh, out_mbxFreed]
    | some e => rw [mbxRelease_frame n k clear d h hh, out_mbxWrite, out_mbxFreed]

/-- Another mailbox's lock is released before this one is taken. -/
def Dev.mbxReady : Dev := if d.mbxLocked n = some m then d else d.mbxRelease n false
theorem out_mbxReady : (d.mbxReady n m).out = d.out := by
  unfold Dev.mbxReady
  split
  · rfl
  · exact out_mbxRelease n false d
/-- The mailbox is locked, its status shows it. -/
def Dev.mbxTaken : Dev := ((d.canPut n (d.mbxOff n m + 4) (leBytes 4 (withBits (d.mbxStatus n m) 2 2 1))).set (CAN_MBX_LOCK.MAILBOX n) m).set
  (CAN_MBX_LOCK.LOCKED n) 1
theorem locked_mbxTaken (hm : m < 64) : (d.mbxTaken n m).mbxLocked n = some m := by
  have locked : (d.mbxTaken n m).on (CAN_MBX_LOCK.LOCKED n) = true := on_set_flag (CAN_MBX_LOCK.LOCKED n) true _ (by show 6 < 32; decide) rfl
  have named : (d.mbxTaken n m).get (CAN_MBX_LOCK.MAILBOX n) = m :=
    (Dev.get_set_other _ _ _ _ (by show 6 < 32; decide) (.inr (.inl (by show 5 < 6; decide)))).trans
      ((Dev.get_set_same _ _ _ (by show 5 < 32; decide)).trans (Nat.mod_eq_of_lt hm))
  unfold Dev.mbxLocked
  rw [locked, named]
  rfl
theorem locked_emit (x : Output) : (d.emit x).mbxLocked n = d.mbxLocked n := rfl
theorem out_emit (x : Output) : (d.emit x).out = d.out ++ [x] := rfl
theorem out_mbxTaken : (d.mbxTaken n m).out = d.out := (Dev.set_out _ _ _).trans (Dev.set_out _ _ _)

section
variable (h : bitAt (d.lrd (CAN_CTRL n)) 2 = false ∨ d.lget (CAN_RAM_MBX.COUNT n) ≤ m)
include h
theorem mbxStatusRead_fixed : d.mbxStatusRead n m = d := if_pos (by simpa using h)
theorem mbxReleaseRead_fixed : d.mbxReleaseRead n m = d := if_pos (by simpa using h)
end
section
variable (hm : bitAt (d.lrd (CAN_CTRL n)) 2 = true) (hc : m < d.lget (CAN_RAM_MBX.COUNT n))
include hm hc
theorem mbxStatusRead_takes : d.mbxStatusRead n m = ((d.mbxReady n m).mbxTaken n m).emit
    (.busData (CAN_CTRL n + 0x4000 + (d.mbxReady n m).mbxOff n m + 4) (withBits ((d.mbxReady n m).mbxStatus n m) 2 2 1)) := if_neg (by simp [hm]; omega)
/-- The last word of the mailbox's element is read. -/
def Dev.mbxRead : Dev := d.emit (.busData (CAN_CTRL n + 0x4000 + (d.mbxOff n m + 0x5C)) (d.canField n (d.mbxOff n m + 0x5C) 4))
theorem mbxReleaseRead_reads : d.mbxReleaseRead n m = if d.mbxLocked n = some m then (d.mbxRead n m).mbxRelease n true else d.mbxRead n m :=
  if_neg (by simp [hm]; omega)
end
theorem lockTimeout_free (h : d.mbxLocked n = none) : d.lockTimeout n = d := by
  unfold Dev.lockTimeout
  rw [h]
theorem lockTimeout_locked (h : d.mbxLocked n = some m) : d.lockTimeout n =
    ((d.mbxRelease n false).count (CAN_MBX_LOCK.TIMEOUTS n) 1).post (0x0D00 + n) 0x0D0A (leBytes 1 m) := by
  unfold Dev.lockTimeout
  rw [h]
end

end Sys2Proof.Machine

open Sys2Proof Sys2Proof.Machine

/-- Settles O52: each clause is an equation of its row's meaning; the counts after an error or a recovery, and a mailbox after its release, come from what
the rest of the row keeps (R462, R466 to R474, R478 to R480). That the receive error count is held at most 128 is the model's choice (log 75). -/
theorem canChannelsReceiveAndCount : Obligations.CanChannelsReceiveAndCount := by
  refine ⟨fun s n id dlc sof x ack exc h => next_of_fixed (canReceive_silent _ _ _ _ _ _ _ _ h),
    fun s n id dlc sof x ack hs he hl => next_of_dev (canReceive_exception _ _ _ _ _ _ _ hs he hl), ?detect, ?receive, ?error, ?recover, ?beat, ?rxAck, ?txeAck,
    fun s n m h => ⟨next_of_fixed (mbxStatusRead_fixed _ _ _ h), next_of_fixed (mbxReleaseRead_fixed _ _ _ h)⟩, ?mailbox,
    fun s n => ⟨fun h => next_of_fixed (lockTimeout_free _ _ h), fun k h => next_of_dev (lockTimeout_locked _ _ _ h)⟩⟩
  case detect =>
    intro s n id dlc sof x ack hs he hl
    have whole := (canReceive_whole n.val id.toNat dlc.toNat sof.toNat x ack s.dev (by omega) he hl).trans (if_pos hs)
    refine ⟨fun h => next_of_fixed (whole.trans ?_), fun a d1 ha hk h1 => next_of_dev (whole.trans ?_)⟩
    · cases ha : (s.dev.canCh n.val).auto with
      | none => rfl
      | some a =>
        have unacked : ack = false := h.elim (fun h => h) (fun h => by rw [ha] at h; cases h)
        exact if_pos (by rw [unacked]; rfl)
    · rw [ha, h1, hk]
      have second : (a.good + 1 = 2) = (a.good = 1) := propext (by omega)
      simp only [second, Bool.not_true, Bool.false_eq_true, if_false]
  case receive =>
    rintro s n id dlc sof x ack data ctrl d0 d1 elem rule hit mbx hs he hl hdata h0 hctrl h1 rfl rfl hhit hmbx
    have handed : d0.pdusHanded n.val id.toNat data = d1 := h1.symm
    have whole : s.dev.canReceive n.val id.toNat dlc.toNat sof.toNat x ack false = (d0.canStore n.val id.toNat dlc.toNat sof.toNat data).canFrameEnd n.val := by
      rw [h0, hdata]
      exact (canReceive_whole _ _ _ _ _ _ _ (by omega) he hl).trans (if_neg (by omega))
    have store := canStore_eq n.val id.toNat dlc.toNat sof.toNat d0 data
    rw [handed, ← hctrl] at store
    have stored : ∀ e, d0.canStore n.val id.toNat dlc.toNat sof.toNat data = e →
        exec (.canFrameReceived n id dlc sof x ack false) s = .next (s.onDev (fun _ => e.canFrameEnd n.val)) :=
      fun e h => next_of_dev (whole.trans (congrArg (Dev.canFrameEnd n.val) h))
    have remote : bitAt ctrl 10 = true → bitAt id.toNat 30 = true → (bitAt ctrl 10 && bitAt id.toNat 30) = true := by
      intro ha hb
      rw [ha, hb]
      rfl
    have kept : bitAt ctrl 10 = false ∨ bitAt id.toNat 30 = false → ¬ (bitAt ctrl 10 && bitAt id.toNat 30) = true := by
      intro h
      rcases h with h | h <;> simp [h]
    have off : ∀ {b : Bool}, b = false → ¬ b = true := by
      intro b h hb
      exact Bool.false_ne_true (h.symm.trans hb)
    have mailbox : d1.mailboxFor n.val id.toNat = mbx := hmbx.symm
    have decides : d1.ruleFor n.val id.toNat = hit := hhit.symm
    refine ⟨fun hc ha hb => stored _ (store.trans ((if_pos hc).trans (if_pos (remote ha hb)))),
      fun hc hr hm => stored _ (store.trans ((if_pos hc).trans ((if_neg (kept hr)).trans (storedInMailbox_none _ _ _ _ _ _ (mailbox.trans hm))))),
      fun m hc hr hm => stored _ (store.trans ((if_pos hc).trans ((if_neg (kept hr)).trans (storedInMailbox_fits _ _ _ _ _ _ (mailbox.trans hm))))),
      fun hc hh => stored _ (store.trans ((if_neg (off hc)).trans (if_pos hh))),
      fun hc hh ha hb => stored _ (store.trans ((if_neg (off hc)).trans ((if_neg (off hh)).trans (if_pos (remote ha hb))))),
      fun hc hh hr hn => stored _ (store.trans ((if_neg (off hc)).trans ((if_neg (off hh)).trans ((if_neg (kept hr)).trans
        (storedByRules_nonmatch _ _ _ _ _ _ _ (decides.trans hn)))))), ?plain,
      fun i hc hh hr hi => stored _ (store.trans ((if_neg (off hc)).trans ((if_neg (off hh)).trans ((if_neg (kept hr)).trans
        (storedByRules_match _ _ _ _ _ _ _ (decides.trans hi))))))⟩
    case plain =>
      intro i d2 dest hc hh hr hi hdest h2 hp hw
      have small : dest ≤ 4 := hdest ▸ dest_of_ruleFor n.val id.toNat d1 (decides.trans hi)
      have pushed := (canByRule_plain n.val id.toNat dlc.toNat sof.toNat d1 i dest _ data small hp hw).trans (pushedByRule_fifo _ _ _ _ _ _ _ _ small)
      rw [hdest] at pushed
      rw [h2, hdest]
      exact stored _ (store.trans ((if_neg (off hc)).trans ((if_neg (off hh)).trans ((if_neg (kept hr)).trans
        ((storedByRules_match _ _ _ _ _ _ _ (decides.trans hi)).trans pushed)))))
  case error =>
    intro s n k dat tx big ex d1 hd
    have counted : s.dev.errorCounted n.val k.val dat = d1 := hd.symm
    have kind : k ≠ 0 → k.val ≠ 0 := fun hk h => hk (Fin.ext h)
    have six : k.val ≤ 6 := by omega
    have one : k.val = 1 ↔ k = 1 := ⟨fun h => Fin.ext h, fun h => h ▸ rfl⟩
    have three : k.val = 3 ↔ k = 3 := ⟨fun h => Fin.ext h, fun h => h ▸ rfl⟩
    have state : d1.get (CAN_STATUS.ERR_STATE n.val) = s.dev.get (CAN_STATUS.ERR_STATE n.val) := by rw [← counted, errState_errorCounted]
    have errors : d1.rd (CAN_ERR_CNT n.val) = satAdd 32 (s.dev.rd (CAN_ERR_CNT n.val)) 1 := by rw [← counted, errors_errorCounted]
    refine ⟨fun h => next_of_fixed (canError_fixed _ _ _ _ _ _ _ (h.imp_right (Or.imp_left (congrArg Fin.val)))), fun hk he hs => next_of_dev ?detecting,
      fun hk he hs htx hex hf => next_of_dev ?free, fun hk he hs htx hf => exists_next _ rfl (fun t ht => ?transmitter),
      fun hk he hs htx => exists_next _ rfl (fun t ht => ?receiver)⟩
    case detecting =>
      rw [← counted]
      refine (canError_detecting _ _ _ _ _ _ _ (kind hk) six he hs).trans ?_
      by_cases h3 : k = 3
      · rw [if_pos h3, if_pos (three.mpr h3)]
      · rw [if_neg h3, if_neg (fun h => h3 (three.mp h))]
    case free =>
      have free : d1.errorFree n.val k.val ex = true := by
        unfold Dev.errorFree
        rw [hex, state]
        rcases hf with rfl | ⟨rfl, h1⟩
        · rfl
        · rw [h1]
          rfl
      refine (canError_running _ _ _ _ _ _ _ (kind hk) six he hs).trans ?_
      rw [counted, errorWeighed_free _ _ _ _ _ _ htx free, state]
      exact when_off (beq_eq_false_iff_ne.mpr he) _ _
    case transmitter =>
      have weighs : d1.errorFree n.val k.val ex = false := by
        unfold Dev.errorFree
        rw [state]
        rcases hf with rfl | ⟨h1, h3⟩
        · rfl
        · have other : (k.val == 1) = false := beq_eq_false_iff_ne.mpr (fun h => h1 (one.mp h))
          have counts : (k.val == 3 && s.dev.get (CAN_STATUS.ERR_STATE n.val) == 1) = false := by
            rw [Bool.and_eq_false_iff, beq_eq_false_iff_ne, beq_eq_false_iff_ne]
            exact h3.imp_left (fun h hv => h (three.mp hv))
          rw [other, counts]
          exact Bool.and_false ex
      have after := errorWeighed_transmitter n.val k.val tx big ex d1 htx weighs
      have tec := (countBlind_tec n.val).canError k.val dat tx big ex s.dev (kind hk) six he hs
      have count := (countBlind_errors n.val).canError k.val dat tx big ex s.dev (kind hk) six he hs
      rw [counted, after] at tec count
      rw [ht]
      refine ⟨(tec.trans (((countBlind_tec n.val).canCounters _ _ d1).trans (tec_countsSet _ _ _ d1))).trans ?_,
        (count.trans (((countBlind_errors n.val).canCounters _ _ d1).trans (errors_countsSet _ _ _ d1))).trans errors⟩
      rw [← counted, tec_errorCounted]
    case receiver =>
      have after := errorWeighed_receiver n.val k.val tx big ex d1 htx
      have ecr := (countBlind_ecr n.val).canError k.val dat tx big ex s.dev (kind hk) six he hs
      have count := (countBlind_errors n.val).canError k.val dat tx big ex s.dev (kind hk) six he hs
      rw [counted, after] at ecr count
      rw [ht]
      refine ⟨(canRec_of_rd n.val (ecr.trans ((countBlind_ecr n.val).canCounters _ _ d1))).trans ((canRec_countsSet _ _ _ d1).trans ?_),
        (count.trans (((countBlind_errors n.val).canCounters _ _ d1).trans (errors_countsSet _ _ _ d1))).trans errors⟩
      rw [← counted, canRec_errorCounted]
      omega
  case recover =>
    refine fun s n => ⟨fun h => next_of_fixed (busRecovered_fixed _ _ h), fun he h => exists_next _ (busRecovered_leaves _ _ he h) (fun t ht => ?_)⟩
    rw [ht]
    refine ⟨(errState_countsShown n.val 0 0 _).trans ?_, (recovering_countsShown n.val 0 0 _).trans (recovering_leavesBusOff n.val s.dev),
      ((countBlind_tec n.val).countsShown 0 0 _).trans (tec_countsSet n.val 0 0 _),
      (canRec_of_rd n.val ((countBlind_ecr n.val).countsShown 0 0 _)).trans (canRec_countsSet n.val 0 0 _)⟩
    rw [errState_leavesBusOff]
    rfl
  case beat =>
    rintro s n w k d1 rfl rfl rfl
    exact ⟨fun h => next_of_fixed (canHeartbeat_off _ _ h), fun hm he h => next_of_dev (canHeartbeat_silent _ _ hm he h),
      fun hm he hs hc => next_of_dev (canHeartbeat_sends _ _ hm he hs hc)⟩
  case rxAck =>
    intro s n k i size f g hsize hf hg
    have sizes : bitsOf (s.dev.lrd (if k.val = 0 then CAN_RAM_RX0 n.val else CAN_RAM_RX1 n.val)) 23 16 = size := by
      rw [hsize]
      have zero : k.val = 0 ↔ k = 0 := ⟨fun h => Fin.ext h, fun h => h ▸ rfl⟩
      by_cases hk : k = 0
      · rw [if_pos hk, if_pos (zero.mpr hk)]
      · rw [if_neg hk, if_neg (fun h => hk (zero.mp h))]
    exact ⟨fun h => next_of_fixed (canRxAck_none _ _ _ _ sizes hf.symm hg.symm h), fun hi hk => next_of_dev (canRxAck_some _ _ _ _ sizes hf.symm hg.symm hi hk)⟩
  case txeAck =>
    exact fun s n i size f g hsize hf hg => ⟨fun h => next_of_fixed (canTxeAck_none _ _ _ hsize.symm hf.symm hg.symm h),
      fun hi hk => next_of_dev (canTxeAck_some _ _ _ hsize.symm hf.symm hg.symm hi hk)⟩
  case mailbox =>
    intro s n m d0 st o hm hc hd hst ho
    have ready : s.dev.mbxReady n.val m.val = d0 := hd.symm
    have takes := mbxStatusRead_takes n.val m.val s.dev hm hc
    rw [ready] at takes
    have reads := mbxReleaseRead_reads n.val m.val s.dev hm hc
    refine ⟨exists_next _ takes (fun t ht => ?_), fun h => next_of_dev ((reads.trans (if_neg h)).trans ?_), fun h hh => ?_, fun e h hh => ?_⟩
    · rw [ht]
      rw [locked_emit, out_emit, out_mbxTaken, hst]
      refine ⟨locked_mbxTaken n.val m.val d0 m.isLt, ?_⟩
      rw [← ready, out_mbxReady, Dev.mbxStatus]
    · rw [ho, Dev.mbxRead]
    · have freed : s.dev.mbxReleaseRead n.val m.val = (s.dev.mbxRead n.val m.val).mbxFreed n.val m.val true :=
        (reads.trans (if_pos h)).trans (mbxRelease_noFrame n.val m.val true (s.dev.mbxRead n.val m.val) h hh)
      refine exists_next _ freed (fun t ht => ?_)
      rw [ht]
      refine ⟨locked_mbxFreed n.val m.val true _, ?_, ?_⟩
      · rw [out_mbxFreed, Dev.mbxRead, out_emit, ho]
      · have status := status_mbxFreed n.val m.val (s.dev.mbxRead n.val m.val)
        unfold Dev.mbxStatus at status
        rw [mbxOff_of_live n.val m.val (live_mbxFreed n.val m.val true (s.dev.mbxRead n.val m.val))] at status
        exact status
    · have written : s.dev.mbxReleaseRead n.val m.val = ((s.dev.mbxRead n.val m.val).mbxFreed n.val m.val true).mbxWrite n.val m.val e :=
        (reads.trans (if_pos h)).trans (mbxRelease_frame n.val m.val true (s.dev.mbxRead n.val m.val) h hh)
      refine exists_next _ written (fun t ht => ?_)
      have new := new_mbxWrite n.val m.val ((s.dev.mbxRead n.val m.val).mbxFreed n.val m.val true) e
      unfold Dev.mbxStatus at new
      rw [mbxOff_of_live n.val m.val ((live_mbxWrite n.val m.val _ e).trans (live_mbxFreed n.val m.val true (s.dev.mbxRead n.val m.val)))] at new
      rw [ht]
      exact ⟨(locked_mbxWrite n.val m.val _ e).trans (locked_mbxFreed n.val m.val true _), (held_mbxWrite n.val m.val _ e).trans (held_mbxFreed n.val m.val true _), new⟩
end
